-- ==== Sys2Proof/Word.lean ====
section
/-!
DEFINITION. Word.lean: the word types of the registers and their plainest arithmetic.
-/
namespace Sys2Proof

/-- A BAR0 register, R7: 32 bits. -/
abbrev Word := BitVec 32

/-- A byte of a descriptor, a record or a memory. -/
abbrev Byte := BitVec 8

end Sys2Proof
end

