-- ==== Sys2Proof/Machine/Tab.lean ====
section
/-!
DEFINITION. Machine/Tab.lean: sparse tables, and sorting by insertion.
A table is a list of (index, value) pairs. An index that is not listed holds the table's default value at that index.
Canonical form: the indexes rise strictly and no listed value equals the default, so that equal tables are equal lists.
-/
namespace Sys2Proof.Machine

/-- A sparse table. Its default is an argument of every operation. -/
abbrev Tab (α : Type) := List (Nat × α)

namespace Tab
variable {α : Type}

/-- The value at index `i`. -/
def get (d : Nat → α) : Tab α → Nat → α
  | [], i => d i
  | (k, v) :: t, i => if k = i then v else get d t i

/-- The table without index `i`. -/
def erase : Tab α → Nat → Tab α
  | [], _ => []
  | (k, v) :: t, i => if k = i then erase t i else (k, v) :: erase t i

/-- Put a pair before the first larger index. -/
def insert : Tab α → Nat → α → Tab α
  | [], i, v => [(i, v)]
  | (k, w) :: t, i, v => if i < k then (i, v) :: (k, w) :: t else (k, w) :: insert t i v

/-- Write index `i`. Writing the default value removes the entry. -/
def set [DecidableEq α] (d : Nat → α) (t : Tab α) (i : Nat) (v : α) : Tab α :=
  if v = d i then erase t i else insert (erase t i) i v

/-- Change the value at index `i`. -/
def upd [DecidableEq α] (d : Nat → α) (t : Tab α) (i : Nat) (f : α → α) : Tab α :=
  set d t i (f (get d t i))

/-- Every listed index is above `b`, and the list rises strictly. -/
def sortedAbove : Nat → Tab α → Bool
  | _, [] => true
  | b, (k, _) :: t => decide (b ≤ k) && sortedAbove (k + 1) t

/-- No listed value is the default. -/
def noDefault [DecidableEq α] (d : Nat → α) (t : Tab α) : Bool :=
  t.all fun p => decide (p.2 ≠ d p.1)

/-- The canonical form. -/
def wf [DecidableEq α] (d : Nat → α) (t : Tab α) : Bool :=
  sortedAbove 0 t && noDefault d t

end Tab
/-! ## Sorting -/

/-- Put `x` before the first element that it may precede. -/
def insertBy {α : Type} (le : α → α → Bool) (x : α) : List α → List α
  | [] => [x]
  | y :: t => if le x y then x :: y :: t else y :: insertBy le x t

/-- A list in order; equals keep theirs. -/
def sortBy {α : Type} (le : α → α → Bool) (l : List α) : List α := l.foldr (insertBy le) []

end Sys2Proof.Machine
end

