-- ==== Sys2Proof/Machine/StateIng.lean ====
section
/-!
DEFINITION. Machine/StateIng.lean: the ingest part of the state.
Sources, their input rings, receive and send flows, IGMP memberships ("Ingest and frame synchronisation").
A picture is plain data that says where its samples come from; the samples received are values of Config (log 3).
-/
namespace Sys2Proof.Machine

/-- The states of a source, R82. -/
inductive SrcState where
  | idle | search | locked | lost | quadMember | unsupported | tooLarge | noSpace
  deriving DecidableEq, Repr

/-- What SRC.FMT shows: the accepted format. -/
structure Fmt where
  mode : Nat
  sampling : Nat
  colorimetry : Nat
  transfer : Nat
  range : Nat
  rate : Nat
  interface : Nat
  pidPresent : Bool
  pidMismatch : Bool
  deriving DecidableEq, Repr

def Fmt.none : Fmt :=
  { mode := 0, sampling := 0, colorimetry := 0, transfer := 0, range := 0, rate := 0, interface := 0,
    pidPresent := false, pidMismatch := false }

/-- The accepted format of R564: mode, sampling, colorimetry, transfer, range and interface. -/
def Fmt.same (a b : Fmt) : Bool :=
  decide (a.mode = b.mode ∧ a.sampling = b.sampling ∧ a.colorimetry = b.colorimetry ∧ a.transfer = b.transfer ∧
    a.range = b.range ∧ a.interface = b.interface)

/-- Mode of a colour stage, R195. -/
inductive StageMode where
  | auto | loaded | bypass
  deriving DecidableEq, Repr

/-- A colour unit (input or output). Tables are bytes as loaded; none while not loaded. -/
structure ColUnit where
  /-- ring space, or working space; none: the default of R196 -/
  space : Option (Nat × Nat)
  /-- output space, output units only -/
  outSpace : Option (Nat × Nat)
  outRange : Nat
  pre : StageMode
  matrix : StageMode
  post : StageMode
  lut3d : Bool
  persist3d : Bool
  preTab : Option (List Byte)
  matTab : Option (List Byte)
  postTab : Option (List Byte)
  lutTab : Option (List Byte)
  /-- tables with a faulty entry, until they are loaded again (R516) -/
  faulty : List Nat
  loads : Nat
  deriving DecidableEq, Repr

def ColUnit.reset : ColUnit :=
  { space := none, outSpace := none, outRange := 0, pre := .auto, matrix := .auto, post := .auto, lut3d := false,
    persist3d := false, preTab := none, matTab := none, postTab := none, lutTab := none, faulty := [], loads := 0 }

/-- One ancillary packet kept with a frame (R87, R89). -/
structure Anc where
  did : Nat
  sdid : Nat
  line : Nat
  /-- which packet of its frame it is, in the order of the stream -/
  num : Nat
  /-- its user data words -/
  words : List (BitVec 10)
  /-- bytes it takes in the metadata area -/
  size : Nat
  deriving DecidableEq, Repr

/-- Where samples come from: frame `id` as source `src` received it in a format, through an input unit; or picture number `n` of
those that heads have shown (R17, R20). -/
inductive Base where
  | ring (src id : Nat) (fmt : Fmt) (unit : ColUnit)
  | shot (n : Nat)
  deriving DecidableEq, Repr

/-- A picture: a frame whole (0), or its first or second field (R220). -/
structure PicRef where
  base : Base
  field : Nat
  deriving DecidableEq, Repr

/-- How the missing lines of an interlaced picture come about (R226): not at all; motion-adaptively; each field spatially; woven
where the two fields agree and spatially elsewhere. -/
inductive Deint where
  | whole | adaptive | spatial | weave
  deriving DecidableEq, Repr

/-- The samples of a frame: of one picture, copied bit by bit, or as the motion store keeps it (R217); of two, mixed linearly
with (64 − phase) / 64 of the first; displaced along motion vectors (R221). -/
inductive Content where
  | one (p : PicRef) (d : Deint)
  | kept (p : PicRef) (d : Deint)
  | mix (a b : PicRef) (d : Deint) (phase : Nat)
  | motion (a b : PicRef) (d : Deint) (phase : Nat)
  deriving DecidableEq, Repr

/-- The samples of the picture as the frame carries them: a published frame. -/
structure Frame where
  /-- number of the frame within its source, counted from 1 -/
  id : Nat
  /-- mode code, of a converted frame that of its input; its own scan may be another (R216, R243) -/
  mode : Nat
  il : Bool
  sampling : Nat
  /-- the colour space the input unit left it in -/
  colorimetry : Nat
  transfer : Nat
  arrSec : Nat
  arrNs : Nat
  /-- converter time of publication, for the hold time (R103) -/
  pubCt : Nat
  /-- published under PUBLISH with packets missing -/
  patched : Bool
  /-- the RTP timestamp, IP only -/
  rtpTs : Nat
  /-- its ST 12-2 time code, as a count of frames since midnight -/
  atc : Option Nat
  anc : List Anc
  /-- reference time in PHC ns (R318) -/
  ref : Int
  /-- ST 352 bytes 1 to 4 -/
  pid : Option (BitVec 32)
  /-- the RTP timestamp of the second field, where it has one of its own -/
  rtpTs2 : Option Nat
  content : Content
  /-- the samples of the second field, where it has been built on its own (R221) -/
  content2 : Option Content
  deriving DecidableEq, Repr

/-- A reader that pins a slot (R99). -/
inductive Pin where
  | layer (h k : Nat)
  | conv (m : Nat)
  deriving DecidableEq, Repr

/-- One slot of an input ring. -/
structure Slot where
  frame : Option Frame
  /-- the published frame has been taken by a reader -/
  taken : Bool
  writing : Bool
  pins : List Pin
  deriving DecidableEq, Repr

def Slot.empty : Slot := { frame := none, taken := false, writing := false, pins := [] }

/-- An input ring (R97). -/
structure Ring where
  /-- number of the ring, counted over the whole machine -/
  id : Nat
  /-- the mode it is sized for -/
  mode : Nat
  /-- size in bytes -/
  bytes : Nat
  slots : List Slot
  /-- fetch tokens charged for its ingest writes (R26) -/
  tokens : Nat
  deriving DecidableEq, Repr

/-- A ring whose source no longer writes it, waiting to be freed (R93, R98). -/
structure OldRing where
  src : Nat
  ring : Ring
  /-- the ring of a deleted flow also waits for instars that name the source -/
  byFlow : Bool
  deriving DecidableEq, Repr

/-- What an ST 352 packet says, decoded (ST 352 itself lies outside the spec). -/
structure Pid352 where
  word : BitVec 32
  /-- mode code of the raster and rate it names -/
  mode : Nat
  sampling : Nat
  colorimetry : Nat
  transfer : Nat
  range : Nat
  /-- link number 1 to 4, 0 for none -/
  link : Nat
  /-- it declares 2-sample interleave -/
  interleave : Bool
  /-- it declares a progressive picture on a segmented transport -/
  psf : Bool
  /-- it declares one stream of a 3G level B dual-stream -/
  dualStream : Bool
  deriving DecidableEq, Repr

/-- What the receiver measures of one SDI frame from its TRS words (R84), with the ST 352 packet it carries. -/
structure SdiTiming where
  /-- mode code of the raster and rate, 0 when they match no row of R247 -/
  mode : Nat
  totalLines : Nat
  /-- as FMT.interface, from the structure of the data stream; 7 for an assembled quad group -/
  interface : Nat
  /-- lane rate, coded as rate_lock -/
  rate : Nat
  pid : Option Pid352
  deriving DecidableEq, Repr

/-- The end of a received SDI frame. -/
structure SdiEnd where
  timing : SdiTiming
  /-- active lines not received whole -/
  missing : Nat
  crcLines : Nat
  /-- greatest skew between the links of a quad group, in microseconds -/
  skewUs : Nat
  anc : List Anc
  atc : Option Nat
  deriving DecidableEq, Repr

/-- The two moments of SDI_FRAME: the first active line, and the end of the last one. -/
inductive SdiPart where
  | start
  | finish (e : SdiEnd)
  deriving DecidableEq, Repr

/-- A received ST 2110-20 packet (R92, R94). -/
structure IpPacket where
  /-- 0 N0, 1 N1 -/
  port : Nat
  sub : Nat
  dst : BitVec 32
  src : BitVec 32
  udp : Nat
  vid : Nat
  tagged : Bool
  pt : Nat
  /-- RTP timestamp -/
  ts : Nat
  /-- it belongs to the second field of an interlaced frame -/
  second : Bool
  /-- packets of this flow found lost on the leg just before it, from the RTP sequence numbers -/
  lost : Nat
  /-- line of the woven frame, from 0, pixel offset and pixels carried -/
  line : Nat
  off : Nat
  npix : Nat
  marker : Bool
  deriving DecidableEq, Repr

/-- A measurement of one SDI frame: the format it gives and the quad link it declares. -/
structure SdiMeas where
  fmt : Fmt
  /-- link number declared for a quad link, 0 for none -/
  link : Nat
  deriving DecidableEq, Repr

/-- A frame an IP source assembles (R94); the fields of an interlaced frame may have timestamps of their own (R97, R268). -/
structure InProg where
  num : Nat
  /-- RTP timestamps of the frame or its first field, and of its second field, once known -/
  ts1 : Option Nat
  ts2 : Option Nat
  /-- converter time of its first packet -/
  since : Nat
  /-- later frames of the flow whose first packet has arrived -/
  newer : Nat
  /-- slot it is written to; none while the frame is blocked -/
  slot : Option Nat
  /-- the input unit as it is when the frame begins (R202) -/
  unit : ColUnit
  /-- (line, offset, pixels) of the packets written -/
  got : List (Nat × Nat × Nat)
  /-- converter time at which the merge window closes it -/
  closeAt : Option Nat
  deriving DecidableEq, Repr

/-- A source S0 to S255. -/
structure Source where
  state : SrcState
  fmt : Fmt
  remembered : Option Fmt
  /-- the first of the two frames of R84 -/
  cand : Option SdiMeas
  pid : BitVec 32
  owner : Nat
  holdMs : Nat
  fallback : Nat
  slate : BitVec 32
  ringFixed : Bool
  ringMax : Nat
  quad : Nat
  damagePub : Bool
  rateLock : Nat
  defSampling : Nat
  defColorimetry : Nat
  defTransfer : Nat
  defRange : Nat
  pidOverride : Bool
  ring : Option Ring
  nextId : Nat
  arrSec : Nat
  arrNs : Nat
  /-- intervals between the last 16 publications in ns, newest first -/
  periods : List Nat
  /-- converter time of the last publication or, before one, of entering LOCKED -/
  lastPub : Nat
  /-- converter time of the last publication since the format was accepted -/
  pubAt : Option Nat
  /-- SDI: slot of the frame in progress; some none while it is blocked -/
  sdiProg : Option (Option Nat)
  /-- SDI: converter time of that frame's first active line -/
  sdiSince : Nat
  /-- IP: frames in progress, oldest first -/
  ipProg : List InProg
  /-- IP: the last four frames that closed, newest first, and the number of the next frame -/
  ipClosed : List InProg
  ipNum : Nat
  /-- IP: ancillary packets whose frame has not closed, with their RTP timestamps -/
  ancWait : List (Nat × Anc)
  legA : Bool
  legB : Bool
  /-- converter time of the last packet on each leg -/
  lastA : Nat
  lastB : Nat
  /-- the leg has been found leg-lost -/
  lostA : Bool
  lostB : Bool
  skewUs : Int
  /-- converter time of the last skew above merge_ms -/
  skewOver : Option Nat
  /-- the last markers: RTP timestamp, leg B, converter time -/
  marks : List (Nat × Bool × Nat)
  /-- index in the rate search and converter time of the dwell's start (R83) -/
  search : Option (Nat × Nat)
  /-- lane as part of a quad group: last measurement -/
  lane : Option SdiMeas
  assembled : Bool
  /-- formats accepted since power-on -/
  locks : Nat
  deriving DecidableEq, Repr

def Source.reset : Source :=
  { state := .idle, fmt := Fmt.none, remembered := none, cand := none, pid := 0, owner := 0, holdMs := 2000,
    fallback := 0, slate := 0, ringFixed := false, ringMax := 0, quad := 0, damagePub := false, rateLock := 0,
    defSampling := 0, defColorimetry := 0, defTransfer := 0, defRange := 0, pidOverride := false, ring := none,
    nextId := 1, arrSec := 0, arrNs := 0, periods := [], lastPub := 0, pubAt := none, sdiProg := none, sdiSince := 0,
    ipProg := [], ipClosed := [], ipNum := 0, ancWait := [], legA := false, legB := false, lastA := 0, lastB := 0, lostA := false,
    lostB := false, skewUs := 0,
    skewOver := none, marks := [], search := none, lane := none, assembled := false, locks := 0 }

/-- One leg of a flow (R89, R265). -/
structure Leg where
  group : BitVec 32
  src : BitVec 32
  udp : Nat
  vid : Nat
  tagged : Bool
  /-- 0 N0, 1 N1 -/
  port : Nat
  sub : Nat
  deriving DecidableEq, Repr

/-- A flow added by OP_FLOW_ADD: kinds 1 to 4 receive, kinds 5 to 8 send. -/
structure Flow where
  handle : BitVec 32
  kind : Nat
  owner : Nat
  target : Nat
  a : Leg
  b : Option Leg
  pt : Nat
  mergeMs : Nat
  damage : Bool
  /-- p0 to p6 of the body -/
  p0 : Nat
  p1 : Nat
  p2 : Nat
  p3 : Nat
  p4 : Nat
  p5 : Nat
  p6 : Nat
  ssrc : BitVec 32
  ttl : Nat
  dscp : Nat
  /-- bytes of the descriptor, for the saved configuration -/
  body : List Byte
  /-- audio: first matrix channel -/
  base : Nat
  /-- sequence number of the next RTP packet sent -/
  rtpSeq : Nat
  /-- packets sent -/
  pkts : Nat
  /-- RTP timestamp of the last packet -/
  rtpTs : Nat
  deriving DecidableEq, Repr

/-- A network that IGMP runs on: port, subport and VLAN (R91). -/
structure IgmpNet where
  port : Nat
  sub : Nat
  tagged : Bool
  vid : Nat
  deriving DecidableEq, Repr

/-- An IGMP message that the module sends: the filter of a group, INCLUDE or EXCLUDE with its sources, as version 3 reports
it; versions 1 and 2 say only that the group is joined, or left. -/
structure IgmpReport where
  net : IgmpNet
  /-- IPv4 sender, the subport's address (R381) -/
  sender : BitVec 32
  version : Nat
  group : BitVec 32
  exclude : Bool
  srcs : List (BitVec 32)
  deriving DecidableEq, Repr

/-- A querier of an older version is present until a converter time. -/
structure IgmpOlder where
  net : IgmpNet
  version : Nat
  until_ : Nat
  deriving DecidableEq, Repr

/-- The ingest blocks. -/
structure Ing where
  srcs : Tab Source
  old : List OldRing
  nextRing : Nat
  flows : List Flow
  nextHandle : Nat
  /-- state-change reports that wait for their second copy, with its converter time -/
  repeats : List (Nat × IgmpReport)
  older : List IgmpOlder
  /-- IGMP messages sent so far, and those of the last command that sent some, in order -/
  igmpSent : Nat
  igmpLast : List IgmpReport
  deriving DecidableEq, Repr

def Ing.reset : Ing :=
  { srcs := [], old := [], nextRing := 1, flows := [], nextHandle := 0, repeats := [], older := [],
    igmpSent := 0, igmpLast := [] }

end Sys2Proof.Machine
end

