-- ==== Sys2Proof/Machine/StateAud.lean ====
section
/-!
DEFINITION. Machine/StateAud.lean: the audio matrix ("Audio matrix").
Sample positions are held as a count that never jumps; `off` maps it to the positions of R317.
-/
namespace Sys2Proof.Machine

/-- What an output reads: an input with its delay, gain, mute and polarity, or a crossfade of two such readings that
starts at a position and runs for a number of samples (R331). -/
inductive Voice where
  | silence
  | tap (input delay : Nat) (gain : Int) (mute invert : Bool)
  | cross (a b : Voice) (start len : Nat)
  deriving DecidableEq, Repr

/-- Class of a clock group (R325). -/
inductive AudClass where
  | none | sync | async
  deriving DecidableEq, Repr

/-- Channel status of a pair that leaves (R322): generated, or passed from an input pair. -/
inductive ChStatus where
  | generated (nonAudio : Bool)
  | passed (block : List Byte)
  deriving DecidableEq, Repr

/-- A matrix input (R319, R326). -/
structure AudIn where
  /-- delivered samples of the last 16,384 positions, newest first -/
  hist : List (Nat × BitVec 24)
  /-- samples received and not yet delivered -/
  pend : List (BitVec 24)
  /-- holds an SRC channel -/
  src : Bool
  stalled : Bool
  /-- count at which the last sample was received -/
  lastIn : Nat
  /-- count of the last ST 337 preamble or non-audio status, 0 for none -/
  burstAt : Nat
  /-- a burst goes on at the newest sample -/
  inBurst : Bool
  /-- AES3 channel status kept with the pair -/
  status : List Byte
  deriving DecidableEq, Repr

def AudIn.reset : AudIn :=
  { hist := [], pend := [], src := false, stalled := false, lastIn := 0, burstAt := 0, inBurst := false, status := [] }

/-- A clock group: SDI source 0 to 127, or 128 + receive flow. -/
structure AudGrp where
  cls : AudClass
  /-- first input and channels -/
  base : Nat
  count : Nat
  /-- embedded groups present -/
  groups : Nat
  /-- embedded groups that declare another rate -/
  badRate : Nat
  /-- rate offset in 0.25 ppm -/
  ppm : Int
  /-- SDI SYNC: count at which the next sample is placed -/
  next : Option Nat
  /-- sliding maximum over one second of the time from reference to delivery: (count, samples) -/
  lat : List (Nat × Nat)
  /-- RTP timestamps of the last packets received -/
  seen : List Nat
  deriving DecidableEq, Repr

def AudGrp.reset (g : Nat) : AudGrp :=
  { cls := .none, base := if g < 128 then 16 * g else 0, count := if g < 128 then 16 else 0, groups := 0, badRate := 0, ppm := 0,
    next := none, lat := [], seen := [] }

/-- What a switch does to its outputs. -/
inductive AudAct where
  | route (input : Option Nat) (delay : Option Nat)
  | follow (comp dest layer : Nat)
  /-- the switch of a following output at the flip of a take -/
  | take (input : Option Nat)
  | set
  | unroute
  deriving DecidableEq, Repr

/-- When it does so (R330). -/
inductive AudWhen where
  | pos (count : Nat)
  | ptp (sec ns : Nat)
  | commit (ring : Nat) (seq : BitVec 32)
  deriving DecidableEq, Repr

/-- A route command that waits for its switch position. -/
structure AudSwitch where
  /-- it belongs to a descriptor, which completes at the switch position -/
  desc : Bool
  ring : Nat
  stamp : Nat
  owner : Nat
  first : Nat
  count : Nat
  act : AudAct
  gain : Int
  mute : Bool
  invert : Bool
  ramp : Nat
  due : AudWhen
  deriving DecidableEq, Repr

/-- A matrix output. -/
structure AudOut where
  owner : Nat
  /-- a route has been set; its current input, none for silence -/
  routed : Bool
  input : Option Nat
  /-- destination and layer followed -/
  follow : Option (Nat × Nat)
  comp : Nat
  gain : Int
  mute : Bool
  invert : Bool
  ramp : Nat
  delay : Nat
  /-- video delay V as last measured, in ns -/
  video : Option Int
  /-- V − A in µs at the last measurement -/
  lipsync : Int
  clamped : Bool
  /-- followed source, and its count of locks or of mode changes, at the last flip -/
  mark : Nat × Nat
  /-- a non-PCM input is split: the output is muted (R338) -/
  split : Bool
  voice : Voice
  /-- a non-PCM switch that waits: new voice and count at which it waits no longer -/
  wait : Option (Voice × Nat)
  /-- the last 48 samples that left, newest first -/
  recent : List (BitVec 24)
  deriving DecidableEq, Repr

def AudOut.reset : AudOut :=
  { owner := 0, routed := false, input := none, follow := none, comp := 0, gain := 0, mute := false, invert := false, ramp := 0,
    delay := 0, video := none, lipsync := 0, clamped := false, mark := (0, 0), split := false, voice := .silence, wait := none, recent := [] }

/-- What the embedder of an SDI destination sends (R321, R322). -/
structure Emb where
  /-- frame count of the frame it fills, and the samples of each channel in it -/
  frame : Nat
  count : Nat
  /-- sample instants that wait for the next frame -/
  late : Nat
  /-- the newest sample of each of 16 channels, none in a group that is not embedded -/
  samples : List (Option (BitVec 24))
  /-- the control packets mark the groups synchronous -/
  sync : Bool
  /-- channel status of the 8 pairs -/
  status : List ChStatus
  deriving DecidableEq, Repr

def Emb.reset : Emb := { frame := 0, count := 0, late := 0, samples := [], sync := false, status := [] }

/-- The audio matrix. -/
structure Aud where
  /-- samples since power-on -/
  n : Nat
  /-- position = n + off -/
  off : Int
  ins : Tab AudIn
  grps : Tab AudGrp
  outs : Tab AudOut
  switches : List AudSwitch
  /-- companions set for IP and re-entry sources: first input and count -/
  comps : Tab (Option (Nat × Nat))
  /-- receive flows and send flows with a run of the matrix: (flow, base, count) -/
  rxRuns : List (Nat × Nat × Nat)
  txRuns : List (Nat × Nat × Nat)
  /-- last packet sent by a send flow: samples per channel, and status per pair -/
  sent : Tab (List (List Int) × List ChStatus)
  /-- the embedders of fed SDI destinations -/
  embs : Tab Emb
  deriving DecidableEq, Repr

def Aud.reset : Aud :=
  { n := 0, off := 0, ins := [], grps := [], outs := [], switches := [], comps := [], rxRuns := [], txRuns := [], sent := [], embs := [] }

/-- ST 299-1 audio of one sample instant of an SDI source. -/
structure SdiAudio where
  src : Nat
  /-- groups present, groups that declare another rate than 48 kHz, a group marked asynchronous -/
  groups : Nat
  badRate : Nat
  asyncMark : Bool
  /-- position of the samples' reference time -/
  refPos : Nat
  /-- (channel 0 to 15, sample) -/
  samples : List (Nat × BitVec 24)
  /-- pairs 0 to 7 where an ST 337 preamble is found, and pairs inside a burst -/
  bursts : List Nat
  inBurst : List Nat
  /-- channel status of pairs -/
  status : List (Nat × List Byte)
  deriving DecidableEq, Repr

/-- A received ST 2110-30 or ST 2110-31 packet. -/
structure AudioPacket where
  hdr : IpPacket
  /-- samples of the positions in order, each a list of channels -/
  samples : List (List (BitVec 24))
  /-- pairs where an ST 337 preamble is found or whose channel status has the non-audio bit; pairs inside a burst -/
  bursts : List Nat
  inBurst : List Nat
  status : List (Nat × List Byte)
  deriving DecidableEq, Repr

end Sys2Proof.Machine
end

