-- ==== Sys2Proof/Config.lean ====
section
/-!
DEFINITION. Config.lean: what an implementation fixes and the values that the spec leaves open.
Every constant here is opaque: no proof can see a value of it, so a theorem that mentions one holds for every value.
Each has an entry in the assumption log.
-/
namespace Sys2Proof.Config

/-! ## Identity, fuses and flash (R536, R540): loaded before the link comes up, never changed by a command -/

/-- byte `i`, 4 to 15, of the module identity: manufacture and serial number, R540 -/
opaque identityByte : Nat → Byte
/-- GLB.REV, R539 -/
opaque revision : BitVec 24
/-- the screening-lot fuse -/
opaque screened : Bool
/-- byte `i` of the module identity: part number 0x2560, variant (A1 is exactly the screened module: R1, R559), 0 (R540) -/
def identity : Nat → Byte
  | 0 => 0x60
  | 1 => 0x25
  | 2 => if screened then 1 else 0
  | 3 => 0
  | i => identityByte i
/-- identity data present and its check passed -/
opaque identityOk : Bool
/-- a Getrum certificate is present in the identity data -/
opaque certPresent : Bool
/-- the Getrum certificate, byte `i` -/
opaque certificate : Nat → Byte
/-- length of the Getrum certificate -/
opaque certificateLen : Nat
/-- the certificate verifies, R429 -/
opaque certificateOk : Bool
/-- the field-lock fuse as manufactured -/
opaque fieldLocked : Bool
/-- MAC address of subport `q`, R394 -/
opaque mac : Nat → BitVec 48
/-- port latencies of R350 as PHC.PORT[q].LAT shows them: subport, port mode, RS-FEC in 25G mode -/
opaque portLat : Nat → Nat → Bool → BitVec 32

/-! ## Values that the spec does not state -/

/-- the `k`-th candidate for a flow handle, R90 -/
opaque flowHandle : Nat → BitVec 32
/-- a value of width 64 that the spec leaves undefined, by ordinal of its use -/
opaque free64 : Nat → BitVec 64
/-- a byte that the spec leaves undefined, by ordinal of its use -/
opaque freeByte : Nat → Byte
/-- packets that carry one frame of a video receive flow: mode, sampling, packing (R113) -/
opaque flowPackets : Nat → Nat → Nat → Nat

/-- linear gain with 20 fractional bits of a gain in 0.01 dB other than 0 dB and off, R331 -/
opaque audioGain : Int → Nat

/-- HBM byte offset at which a surface's storage begins: handle; R164, R286 -/
opaque surfBase : Nat → Nat

/-- an HBM byte that nothing in the model has written, as the module reads it: address; R160, R161 -/
opaque hbmOpen : Nat → Byte

/-- the LINEAR11 word of a PMBus reading (R553): 0 voltage in 10 mV, 1 power in 0.1 W, 2 temperature in 0.125 °C two's
complement of 11 bits; and the value -/
opaque linear11 : Nat → Nat → BitVec 16

/-- depth, less one, and identifier of a dual-clock queue: row of R518, instance, number (R32, R33) -/
opaque queueDepth : Nat → Nat → Nat → Nat
opaque queueIdent : Nat → Nat → Nat → BitVec 16

/-! ## Samples: what is received, and the arithmetic whose details the spec leaves open (logs 3, 99 to 108)

A picture or a row of samples is given to these as a function, so that each is fixed by the samples it works on. -/

/-- a code as received: source, frame, component (Y' or R', Cb or G', Cr or B'), pixel or chroma sample, line -/
opaque received : Nat → Nat → Nat → Nat → Nat → Nat
/-- a 4:4:4 frame was received as Y'CbCr: source, frame; a destination sends 4:4:4 as Y'CbCr -/
opaque ycc444In : Nat → Nat → Bool
opaque ycc444Out : Nat → Bool
/-- the component that is sent at each place of a 4:4:4 pixel -/
opaque order444 : Nat → Nat
/-- mode code: the top line of an interlaced picture belongs to its first field -/
opaque topFirst : Nat → Bool
/-- up-sampled chroma: a row of chroma codes, pixel; R96 -/
opaque upChroma : (Nat → Nat) → Nat → Nat
/-- a quotient that is not whole is rounded up: numerator, denominator; and one that lies midway, where the spec says nearest -/
opaque roundUp : Int → Nat → Bool
opaque tieUp : Nat → Nat → Bool
/-- AUTO stages of a colour unit: its two spaces; the code, or component and three values; R195 -/
opaque autoPre : Nat × Nat → Nat × Nat → Nat → Nat
opaque autoMatrix : Nat × Nat → Nat × Nat → Nat → Nat → Nat → Nat → Nat
opaque autoPost : Nat × Nat → Nat × Nat → Nat → Nat
/-- the code of a value above 4,095 that BYPASS hands on -/
opaque bypassHigh : Nat → Nat
/-- what a LUT with a faulty entry gives: table, component, input; R516 -/
opaque faultyLut : Nat → Nat → Nat → Nat
/-- a space adapter: (colorimetry, transfer) pairs and the 36-bit input, R197 -/
opaque adapt : Nat × Nat → Nat × Nat → BitVec 36 → BitVec 36
/-- coefficients of set 0: taps, input and output rows or pixels, phase, tap; R188 -/
opaque set0 : Nat → Nat → Nat → Nat → Nat → Int
/-- the result of a filter whose sum is no whole code -/
opaque filtered : Int → Int
/-- what a tap outside the crop takes: the row or column, its length, the place -/
opaque edgeTap : (Nat → Int) → Nat → Int → Int
/-- position, in 64ths of a row, by which the rows of a field of an interlaced head lie off: field row parity -/
opaque fieldShift : Nat → Int
/-- a sample that no rule places: x, y, component -/
opaque stray : Nat → Nat → Nat → Nat
/-- what the motion store keeps of a row at 4:2:2 10-bit; R217 -/
opaque motionStore : (Nat → BitVec 36) → Nat → BitVec 36
/-- missing lines of a picture: of one field, spatially; motion-adaptively, the picture's number; whether two fields agree
there; R226 -/
opaque spatial : (Nat → Nat → BitVec 36) → Nat → Nat → BitVec 36
opaque adaptive : (Nat → Nat → BitVec 36) → Nat → Nat → Nat → BitVec 36
opaque fieldsAgree : (Nat → Nat → BitVec 36) → Nat → Nat → Bool
/-- two pictures displaced along motion vectors by their shares of a phase and mixed; R221 -/
opaque motion : (Nat → Nat → BitVec 36) → (Nat → Nat → BitVec 36) → Nat → Nat → Nat → BitVec 36
/-- a slate whose size is not that of its layer's destination: its pixels, component, x, y -/
opaque slateFit : (Nat → Nat → Nat → Nat) → Nat → Nat → Nat → Nat
/-- 14-bit code of 1.0 of a full-range output -/
opaque fullPeak : Nat
/-- the 15-tap half-band chroma filter: numerators at offsets 0, −1, 1, −3, 3, −5, 5, −7, 7, none beyond the line, and their
denominator; R204 -/
opaque halfBand : List (Option Int) → Nat → Nat
/-- lowest and highest legal code: range, depth, component; R205 -/
opaque legal : Nat → Nat → Nat → Nat × Nat

/-- which frames of a 5-frame sequence carry fewer audio samples, R321 -/
opaque embedShort : Nat

/-! ## Standard algorithms (R421, R448): byte `i` of their output -/

opaque sha384 : List Byte → Nat → Byte
opaque hmacSha384 : List Byte → List Byte → Nat → Byte
/-- HKDF-SHA-384: input key, salt, info -/
opaque hkdf : List Byte → List Byte → List Byte → Nat → Byte
/-- ECDSA P-384 with deterministic nonces: private scalar, digest -/
opaque ecdsaSign : List Byte → List Byte → Nat → Byte
/-- public key, digest, signature -/
opaque ecdsaVerify : List Byte → List Byte → List Byte → Bool
/-- public key of a private scalar -/
opaque publicKey : List Byte → Nat → Byte
/-- a public key lies on the curve -/
opaque onCurve : List Byte → Bool
/-- AES-256-GCM, ciphertext then tag: key, nonce, plaintext -/
opaque gcmSeal : List Byte → List Byte → List Byte → Nat → Byte
/-- the tag of ciphertext and tag is right: key, nonce, ciphertext and tag -/
opaque gcmAuth : List Byte → List Byte → List Byte → Bool
/-- the plaintext -/
opaque gcmOpen : List Byte → List Byte → List Byte → Nat → Byte
/-- the true random generator: byte `i` drawn since manufacture -/
opaque random : Nat → Byte
/-- the root secret of manufacture, R419 -/
opaque rootSecret : Nat → Byte
/-- the 64-byte slot record of KEY_INFO, whose layout the spec does not state (R427): its content and the byte -/
opaque slotRecord : List Nat → Nat → Byte
/-- bytes of a system page, whose layout the spec does not state (R448): page, record sequence, byte -/
opaque systemPage : Nat → Nat → Nat → Byte

/-! ## Firmware slots as shipped (R485, R492): slot 0 A, 1 B -/

opaque imageValid : Nat → Bool
opaque imageVersion : Nat → BitVec 32
opaque imageSecver : Nat → BitVec 8
opaque imageSeq : Nat → BitVec 16

end Sys2Proof.Config
end

