-- ==== Sys2Proof/Machine/StateMg.lean ====
section
/-!
DEFINITION. Machine/StateMg.lean: management pairs, firmware slots, the moult, the expert window and the fuse ("Management
fabric and firmware").
-/
namespace Sys2Proof.Machine

/-- PAIR.STAT.state. -/
inductive PairState where
  | off | boot | serving | standby | resetting | loading
  deriving DecidableEq, Repr

/-- A management pair. -/
structure Pair where
  state : PairState
  remap : Bool
  slot : Nat
  version : BitVec 32
  /-- converter time at which it was reset -/
  since : Nat
  /-- the moult logic passes the staged slot to the boot ROM for the next boot (R486) -/
  staged : Bool
  deriving DecidableEq, Repr

def Pair.reset : Pair := { state := .boot, remap := false, slot := 0, version := 0, since := 0, staged := false }

/-- A firmware slot of the flash (R485). -/
structure Slot48 where
  valid : Bool
  version : BitVec 32
  secver : BitVec 8
  seq : BitVec 16
  deriving DecidableEq, Repr

/-- MOULT_STAT.state. -/
inductive MoultState where
  | idle | staging | loading | ready | quiescing | probation | committing | rejected
  deriving DecidableEq, Repr

/-- The moult (R487 to R490). -/
structure Moult where
  state : MoultState
  reason : Nat
  target : Nat
  kib : Nat
  /-- converter time at which QUIESCING or PROBATION began -/
  since : Nat
  /-- a ROLLBACK waits for its quiet point -/
  rolling : Bool
  /-- a pair that still has to reload before the moult ends, and the reason it then shows -/
  reload : Option (Nat × Nat)
  deriving DecidableEq, Repr

def Moult.reset : Moult := { state := .idle, reason := 0, target := 0, kib := 0, since := 0, rolling := false, reload := none }

/-- Management. -/
structure Mg where
  a : Pair
  b : Pair
  /-- 0 pair A, 1 pair B -/
  serving : Nat
  noFw : Bool
  slotA : Slot48
  slotB : Slot48
  moult : Moult
  /-- field-lock fuse blown -/
  locked : Bool
  /-- converter time of the arming -/
  armed : Option Nat
  /-- a run of unmapped window accesses goes on -/
  winRun : Bool
  deriving DecidableEq, Repr

/-- A slot as shipped. -/
def Slot48.shipped (i : Nat) : Slot48 :=
  { valid := Config.imageValid i, version := Config.imageVersion i, secver := Config.imageSecver i, seq := Config.imageSeq i }

/-- Both pairs boot; pair A serves (R474). -/
def Mg.reset : Mg :=
  { a := Pair.reset, b := Pair.reset, serving := 0, noFw := false, slotA := Slot48.shipped 0, slotB := Slot48.shipped 1,
    moult := Moult.reset, locked := Config.fieldLocked, armed := none, winRun := false }

def Mg.pair (m : Mg) (p : Nat) : Pair := if p = 0 then m.a else m.b

/-- Firmware operations may start: a pair serves and no moult quiesces (R69, R488). -/
def Mg.up (m : Mg) : Bool := decide ((m.pair m.serving).state = .serving) && decide (m.moult.state ≠ .quiescing) && !m.moult.rolling

/-- What the verification of a staged image finds: its DMA and its program succeeded, its length fits, its signature is
right; its header's version and security version. -/
structure StagedImage where
  dmaOk : Bool
  flashOk : Bool
  lengthOk : Bool
  sigOk : Bool
  version : BitVec 32
  secver : BitVec 8
  deriving DecidableEq, Repr

end Sys2Proof.Machine
end

