-- ==== Sys2Proof/Machine/Crypto.lean ====
section
/-!
DEFINITION. Machine/Crypto.lean: the cocoon's algorithms as functions on bytes (R420, R421).
The algorithms themselves are standards that the spec names and does not define: they are constants of Config.
-/
namespace Sys2Proof.Machine

/-- `n` bytes of a function. -/
def take (n : Nat) (f : Nat → Byte) : List Byte := (List.range n).map f

/-- The 16-byte module identity, R540. -/
def moduleId : List Byte := take 16 Config.identity

def sha384 (m : List Byte) : List Byte := take 48 (Config.sha384 m)
def hmac384 (k m : List Byte) : List Byte := take 48 (Config.hmacSha384 k m)
def ecdsaSign (priv digest : List Byte) : List Byte := take 96 (Config.ecdsaSign priv digest)
def publicKey (priv : List Byte) : List Byte := take 96 (Config.publicKey priv)
def gcmSeal (k nonce m : List Byte) : List Byte := take (m.length + 16) (Config.gcmSeal k nonce m)
def gcmOpen (k nonce c : List Byte) : List Byte := take (c.length - 16) (Config.gcmOpen k nonce c)

/-- HKDF-SHA-384 with the module identity as salt (R420). -/
def derive (root info : List Byte) (n : Nat) : List Byte := take n (Config.hkdf root moduleId info)

/-- An ASCII label. -/
def label (s : String) : List Byte := s.toList.map fun c => BitVec.ofNat 8 c.toNat

/-- A big-endian number and its bytes. -/
def beNat (l : List Byte) : Nat := l.foldl (fun a b => 256 * a + b.toNat) 0
def beBytes (n v : Nat) : List Byte := (List.range n).map fun i => BitVec.ofNat 8 (v / 256 ^ (n - 1 - i))

/-- The group order of P-384. -/
def p384Order : Nat :=
  0xffffffffffffffffffffffffffffffffffffffffffffffffc7634d81f4372ddf581a0db248b0a77aecec196accc52973

/-- 48 bytes reduced to a scalar (R420). -/
def scalar (l : List Byte) : List Byte := beBytes 48 (beNat l % (p384Order - 1) + 1)

/-- The identity key and the initial seal key that a root secret gives (R420, R422). -/
def identityScalar (root : List Byte) : List Byte := scalar (derive root (label "IZM2560 identity") 48)
def sealScalar (root : List Byte) : List Byte := scalar (derive root (label "IZM2560 seal 1") 48)

end Sys2Proof.Machine
end

