-- ==== Sys2Proof/Machine/StateCoc.lean ====
section
/-!
DEFINITION. Machine/StateCoc.lean: the cocoon: root secret, key slots, challenges, operations in progress, tamper sensing
("Cocoon key store and breach").
-/
namespace Sys2Proof.Machine

/-- A key slot in use (R422, R423). -/
structure Key where
  /-- 1 AES-256, 2 HMAC, 3 ECDSA private, 4 ECDSA public -/
  type : Nat
  /-- as the OP_KEY field use -/
  use : Nat
  owner : Nat
  /-- 1 generated, 2 derived, 3 imported -/
  origin : Nat
  ephemeral : Bool
  counted : Bool
  limit : Nat
  /-- counted persistent: its wear counter, and that counter's value at creation -/
  counter : Nat
  base : Nat
  /-- counted ephemeral: uses so far -/
  used : Nat
  /-- the key itself, empty for a public key -/
  secret : List Byte
  /-- public key, types 3 and 4 -/
  pub : List Byte
  expired : Bool
  deriving DecidableEq, Repr

/-- A challenge of R432. -/
structure Challenge where
  ring : Nat
  owner : Nat
  bytes : List Byte
  /-- converter time at which it was issued -/
  since : Nat
  deriving DecidableEq, Repr

/-- Where a cocoon operation stands (R425, R428, R291). -/
inductive KeyPhase where
  /-- the count of a counted persistent key is programmed -/
  | counting
  /-- the cocoon computes -/
  | running
  /-- a dike update: its wear counter is programmed -/
  | dikeCount
  /-- the NV record that it needs is programmed -/
  | writing
  deriving DecidableEq, Repr

/-- An operation of the cocoon that has started and not ended: OP_KEY and OP_DIKE_UPDATE. -/
structure KeyOp where
  ring : Nat
  stamp : Nat
  seq : BitVec 32
  opcode : Nat
  owner : Nat
  priv : Bool
  desc : List Byte
  /-- input as the DMA read it, none where the read failed -/
  input : Option (List Byte)
  phase : KeyPhase
  /-- a key that waits to be stored -/
  key : Option Key
  /-- a dike update: its copy in the dike store, and the digest of the copy; a response: the digest to be signed -/
  store : Option (BitVec 32)
  digest : List Byte
  /-- a dike update: fetch tokens granted for its commit -/
  grant : Nat
  deriving DecidableEq, Repr

/-- The cocoon. -/
structure Coc where
  /-- the root secret, none while the module is keyless (R419) -/
  root : Option (List Byte)
  /-- the root secret is the one of manufacture: the certificate matches the identity (R429, R441) -/
  original : Bool
  slots : Tab (Option Key)
  admin : Option (List Byte)
  challenges : List Challenge
  /-- consecutive failed responses, and the converter time of the eighth (R434) -/
  fails : Nat
  lockedAt : Option Nat
  ops : List KeyOp
  /-- values taken from the true random generator -/
  drawn : Nat
  transport : Bool
  breaches : Nat
  /-- a breach record not yet acknowledged; TAMPER_OUT_N is low -/
  pending : Bool
  tamperOut : Bool
  /-- sensors that report a fault, as last sensed -/
  live : Nat
  /-- a breach that is still to be reported by EV_BREACH_REPORT -/
  report : Bool
  /-- always-on count at converter time 0 -/
  aonBase : Nat
  /-- PHC second of the last mapping -/
  mapSec : Option Nat
  /-- converter time of the last coin-cell measurement -/
  battAt : Option Nat
  deriving DecidableEq, Repr

/-- The two keys that the module makes for itself (R422): slot 0 identity, slot 1 initial seal key (use SEAL). -/
def ownKey (use : Nat) (priv : List Byte) : Key :=
  { type := 3, use := use, owner := 0, origin := 2, ephemeral := false, counted := false, limit := 0, counter := 0, base := 0,
    used := 0, secret := priv, pub := publicKey priv, expired := false }

/-- Slots 0 and 1 as a root secret gives them. -/
def ownSlots (root : List Byte) : Tab (Option Key) :=
  [(0, some (ownKey 0 (identityScalar root))), (1, some (ownKey 0x40 (sealScalar root)))]

/-- The cocoon after the first power-on: the root secret of manufacture, every sensor armed (R419, R436). -/
def Coc.reset : Coc :=
  let root := take 32 Config.rootSecret
  { root := some root, original := true, slots := ownSlots root, admin := none, challenges := [], fails := 0, lockedAt := none,
    ops := [], drawn := 0, transport := false, breaches := 0, pending := false, tamperOut := false, live := 0, report := false,
    aonBase := 0, mapSec := none, battAt := none }

end Sys2Proof.Machine
end

