-- ==== Sys2Proof/Machine/StatePsn.lean ====
section
/-!
DEFINITION. Machine/StatePsn.lean: dike bindings, pin sense, the as-run chains, seals and the as-run log ("Dike layer,
eyespots and Dolcia seals").
-/
namespace Sys2Proof.Machine

/-- The last dike content accepted for a head, as the NV system pages hold it (R290). -/
structure DikeContent where
  digest : List Byte
  dstX : Int
  dstY : Int
  alpha : Nat
  opq : Bool
  premult : Bool
  deriving DecidableEq, Repr

/-- A head's dike. -/
structure Dike where
  /-- the owner key slot, none while the head is unbound -/
  slot : Option Nat
  /-- the wear counter tied to the owner's key -/
  counter : Nat
  owner : Nat
  content : Option DikeContent
  /-- digests of accepted updates whose flip has not come: stamp of the commit, digest -/
  coming : List (Nat × List Byte)
  /-- digest of the content on air -/
  shown : Option (List Byte)
  /-- frozen by a breach (R307) -/
  frozen : Bool
  deriving DecidableEq, Repr

def Dike.reset : Dike := { slot := none, counter := 0, owner := 0, content := none, coming := [], shown := none, frozen := false }

/-- A judgement that has not ended (R297). -/
structure Judge where
  head : Nat
  frame : Nat
  /-- a layer was cut off or a tile row showed background (R524) -/
  cut : Bool
  /-- the period is excluded (R524) -/
  excl : Bool
  /-- eyespots enabled, one bit each, and their reference hashes, 16 bytes each (R296) -/
  spots : Nat
  refs : List Byte
  /-- the dike was shown -/
  dike : Bool
  /-- an uncorrectable word of the pin sense SRAM: it ends mismatched (R516) -/
  spoiled : Bool
  deriving DecidableEq, Repr

/-- Pin sense of a destination. -/
structure PsnDest where
  judging : List Judge
  /-- eyespots mismatched in the last judgement -/
  spots : Nat
  /-- line error in the last judgement -/
  crc : Bool
  /-- a run of mismatched frames goes on -/
  run : Bool
  deriving DecidableEq, Repr

def PsnDest.reset : PsnDest := { judging := [], spots := 0, crc := false, run := false }

/-- An as-run record that waits for judgements (R300). -/
structure Rec where
  frame : Nat
  flags : Nat
  instar : BitVec 32
  flipNs : Nat
  flipSec : Nat
  spots : Nat
  sources : List Nat
  classes : List Nat
  /-- first 16 bytes of the dike's digest -/
  dike : List Byte
  hashes : List Byte
  primary : Option Nat
  fed : Nat
  mismatched : Nat
  /-- destinations whose judgement has not ended -/
  waiting : List Nat
  deriving DecidableEq, Repr

/-- The as-run chain and the seals of a head (R301, R302). -/
structure Chain where
  recs : List Rec
  chain : List Byte
  /-- records appended since the previous seal -/
  since : Nat
  /-- index of the next seal -/
  index : Nat
  /-- seals since the chain head was last written to the system pages (R304, R451) -/
  unsaved : Nat
  /-- converter time of the start or of the last signing -/
  lastAt : Nat
  /-- converter time at which a seal fell due -/
  due : Option Nat
  /-- the latest seal, 224 bytes -/
  latest : Option (List Byte)
  /-- OP_SEAL_REQ NOW descriptors that wait: (ring, stamp) -/
  nows : List (Nat × Nat)
  /-- the chain was resumed: flag of the next record, and of the next seal -/
  resumed : Bool
  sealResumed : Bool
  /-- frame count of the last record, and of the last one sealed -/
  lastFrame : Nat
  sealedFrame : Nat
  deriving DecidableEq, Repr

def Chain.reset : Chain :=
  { recs := [], chain := List.replicate 48 0, since := 0, index := 0, unsaved := 0, lastAt := 0, due := none, latest := none, nows := [],
    resumed := false, sealResumed := false, lastFrame := 0, sealedFrame := 0 }

/-- The seal that the cocoon signs. -/
structure Signing where
  head : Nat
  body : List Byte
  index : Nat
  frame : Nat
  nows : List (Nat × Nat)
  deriving DecidableEq, Repr

/-- The as-run log (R303). -/
structure Log where
  isOpen : Bool
  owner : Nat
  addr : BitVec 64
  ringLog2 : Nat
  vector : Nat
  tail : BitVec 32
  seq : BitVec 64
  /-- entries lost since the last one written -/
  lost : Nat
  deriving DecidableEq, Repr

def Log.reset : Log :=
  { isOpen := false, owner := 0, addr := 0, ringLog2 := 20, vector := 0, tail := 0, seq := 0, lost := 0 }

/-- Dikes, pin sense and seals. -/
structure Psn where
  dikes : Tab Dike
  /-- wear counter 48 to 63 and the SHA-384 of the key it is tied to (R284) -/
  ties : List (Nat × List Byte)
  dests : Tab PsnDest
  chains : Tab Chain
  /-- heads whose seal is due, in the order in which they fell due -/
  queue : List Nat
  signing : Option Signing
  log : Log
  /-- seals stopped by a breach -/
  stopped : Bool
  deriving DecidableEq, Repr

def Psn.reset : Psn :=
  { dikes := [], ties := [], dests := [], chains := [], queue := [], signing := none, log := Log.reset, stopped := false }

end Sys2Proof.Machine
end

