-- ==== Sys2Proof/Machine/StateSys.lean ====
section
/-!
DEFINITION. Machine/StateSys.lean: leave, supply and temperature ("Leave, power and thermal").
-/
namespace Sys2Proof.Machine

/-- The leave arbiter, the shed ladder and the supply monitor. -/
structure Lv where
  powFree : Nat
  fetFree : Nat
  powWith : Nat
  fetWith : Nat
  /-- power tokens held without a leave request (R407) -/
  fixed : Nat
  /-- the limits set over PMBus (R406, R554) -/
  pmPow : Option Nat
  pmFet : Option Nat
  /-- the latched bits of the PMBus STATUS_WORD (R553); ALERT_N is low while any bit of the word is set -/
  stInput : Bool
  stTemp : Bool
  stCml : Bool
  stOther : Bool
  /-- an audit has failed: every later request is refused (R408) -/
  auditBad : Bool
  /-- level that the junction temperature requires, 0 to 3 -/
  thermal : Nat
  /-- converter time since which the reading has been below the level's clear value -/
  thermSince : Option Nat
  /-- shed by the supply (33 V to 36 V) -/
  supply : Bool
  supplySince : Option Nat
  /-- shed by measured input power -/
  power : Bool
  powerSince : Option Nat
  /-- converter time since which the input power has been above the limit -/
  overSince : Option Nat
  /-- 0 normal, 1 low band, 2 high band -/
  band : Nat
  tripped : Bool
  /-- the trip fell while the cold plate was above 65 °C or the input was outside 36 V to 75 V (R524) -/
  tripExcl : Bool
  /-- bit i: HBM stack i above 95 °C -/
  hbmHot : BitVec 4
  /-- the level last reported by EV_SHED -/
  level : Nat
  /-- a power fail holds the module in reset (R410) -/
  powerFail : Bool
  /-- converter time since which the input has been above 36 V -/
  goodSince : Option Nat
  deriving DecidableEq, Repr

/-- After power-on: the precharge of 4,120 power tokens taken, nothing withheld (R399). -/
def Lv.reset : Lv :=
  { powFree := 4280, fetFree := 2000, powWith := 0, fetWith := 0, fixed := 4120, pmPow := none, pmFet := none,
    stInput := false, stTemp := false, stCml := false, stOther := false,
    auditBad := false, thermal := 0, thermSince := none, supply := false, supplySince := none, power := false,
    powerSince := none, overSince := none, band := 0, tripped := false, tripExcl := false, hbmHot := 0, level := 0, powerFail := false,
    goodSince := none }

/-- The power states (R501 to R503); the state itself is GLB.PWR_STAT.state. -/
structure Pwr where
  /-- STANDBY is entered, held or left, not QUIET -/
  standby : Bool
  /-- converter time of the write of target that a wake answers -/
  wakeFrom : Nat
  /-- requests that wait: a wake while entry to STANDBY runs; a warm reset asked for in STANDBY, with its cause (R506) -/
  wakeWaits : Bool
  warmWaits : Option Nat
  deriving DecidableEq, Repr

def Pwr.reset : Pwr := { standby := false, wakeFrom := 0, wakeWaits := false, warmWaits := none }

/-- What the always-on domain finds at a power-on. -/
structure OffTime where
  /-- always-on counts since the input was lost -/
  counts : Nat
  /-- a breach that fell while the module was off: its sensors, and its always-on count -/
  breach : Option (BitVec 6 × BitVec 48)
  /-- supply and coin cell were lost together -/
  bbLost : Bool
  deriving DecidableEq, Repr

/-! ## Errors in memory and credit audits (R515 to R518) -/

/-- The queue of a credit mismatch, by the classes of R518. -/
inductive QueueClass where
  /-- lane to ingest of a source -/
  | ingest (n : Fin 256)
  /-- compose to scan-out or scan-out to serialiser of a head -/
  | head (h : Fin 256)
  /-- converter slice or group -/
  | converter (m : Fin 128)
  /-- an audio clock group -/
  | audioGroup (g : Fin 1152)
  /-- the route of a matrix output -/
  | audioRoute (o : Fin 8192)
  | host
  /-- a management pair -/
  | pair (p : Fin 2)
  /-- HBM controller, shared fabric -/
  | fabric
  deriving DecidableEq, Repr

/-- What an uncorrectable SRAM word held (R516). -/
inductive SramUse where
  /-- pixels -/
  | pixels
  /-- metadata of the frame that a source has in progress -/
  | frameMeta (n : Fin 256)
  /-- a colour table (0 pre-LUT, 2 post-LUT, 3 3D LUT) of an input unit or of an output unit -/
  | colour (out : Bool) (u : Fin 256) (table : Fin 4)
  | work
  /-- the newest sample that an input has delivered -/
  | audio (i : Fin 8192)
  /-- pin sense of a destination -/
  | pinSense (d : Fin 256)
  | push
  /-- staging, ledger counters, leave pools, NV page table; `both`: the second copy fails too -/
  | staging (both : Bool)
  /-- control state of a head -/
  | headControl (h : Fin 256) (both : Bool)
  deriving DecidableEq, Repr

/-- An SRAM word that a scrub finds: corrected, or uncorrectable; the instance and the word address that the event names. -/
structure SramErr where
  use : SramUse
  corrected : Bool
  inst : BitVec 16
  word : BitVec 32
  deriving DecidableEq, Repr

/-- An HBM granule that a scrub finds: its owner and index as EV_HBM_CE names them (R529), and its address. -/
structure HbmErr where
  owner : Fin 7
  index : BitVec 16
  addr : BitVec 36
  corrected : Bool
  deriving DecidableEq, Repr

/-- Which dual-clock queue: its class, and which of the queues of that class and instance (for a head, 0 compose to scan-out,
1 scan-out to serialiser). -/
structure QueueId where
  cls : QueueClass
  n : Fin 16
  deriving DecidableEq, Repr

/-- A credit-controlled dual-clock queue (R32). Of the queue's depth the producer holds what is not `spent`; the rest are the
entries and the credits on their way back, unless a fault has upset the counts. -/
structure Dcq where
  spent : Nat
  entries : Nat
  back : Nat
  /-- a producer on a streaming path has found no credit since the last check (R34) -/
  short : Bool
  deriving DecidableEq, Repr

/-- An empty queue: the producer holds every credit. -/
def Dcq.reset : Dcq := { spent := 0, entries := 0, back := 0, short := false }

/-- A fault in a queue: credits of the producer lost, and entries that the consumer no longer takes. -/
structure QueueFault where
  queue : QueueId
  lost : Nat
  stuck : Nat
  deriving DecidableEq, Repr

/-- Converter time at which the last pass of each scrubber ended (R515), and the dual-clock queues that are not empty with
every credit at the producer (R32). -/
structure Scrub where
  hbmAt : Nat
  sramAt : Nat
  queues : List (QueueId × Dcq)
  deriving DecidableEq, Repr

def Scrub.reset : Scrub := { hbmAt := 0, sramAt := 0, queues := [] }

end Sys2Proof.Machine
end

