-- ==== Sys2Proof/Machine/StateVid.lean ====
section
/-!
DEFINITION. Machine/StateVid.lean: the video part of the state.
Heads with their shadow and applied configurations, queued commits, transitions and composed pictures; salvos; surfaces;
scalers; colour units; rate converters; destinations; push channels.
A picture is plain data: what each layer showed, and where its samples come from; Machine/Pixels.lean gives the samples.
-/
namespace Sys2Proof.Machine

/-- Width, height and whether interlaced. -/
structure Raster where
  w : Nat
  h : Nat
  il : Bool
  deriving DecidableEq, Repr

/-- One layer of a configuration (R155), with the scaler settings it was validated with (R186). -/
structure LayerCfg where
  enable : Bool
  opq : Bool
  allowDegrade : Bool
  premult : Bool
  holdOff : Bool
  rearm : Bool
  /-- 0 NONE, 1 SOURCE, 2 SURFACE, 3 RAW, 4 COLOUR -/
  kind : Nat
  /-- 0 BLACK, 1 TRANSPARENT, 2 HOLD, 3 SLATE, 0xFF the source's own -/
  fallback : Nat
  holdMs : Nat
  src : BitVec 64
  cropX : Nat
  cropY : Nat
  cropW : Nat
  cropH : Nat
  dstX : Int
  dstY : Int
  dstW : Nat
  dstH : Nat
  alpha : Nat
  scaler : Nat
  slate : BitVec 32
  rawPitch : Nat
  rawFormat : Nat
  /-- at validation its fallback, its own or its source's, is TRANSPARENT (R167) -/
  clear : Bool
  tapsH : Nat
  tapsV : Nat
  setH : Nat
  setV : Nat
  gang : Bool
  /-- the vertical axis is degraded from validation on (R191) -/
  degV : Bool
  degH : Bool
  deriving DecidableEq, Repr

def LayerCfg.reset : LayerCfg :=
  { enable := false, opq := false, allowDegrade := false, premult := false, holdOff := false, rearm := false,
    kind := 0, fallback := 0xFF, holdMs := 0, src := 0, cropX := 0, cropY := 0, cropW := 0, cropH := 0,
    dstX := 0, dstY := 0, dstW := 0, dstH := 0, alpha := 4096, scaler := 0xFFFF, slate := 0, rawPitch := 0,
    rawFormat := 0, clear := false, tapsH := 0, tapsV := 0, setH := 0, setV := 0, gang := false, degV := false, degH := false }

/-- A head configuration: the shadow, a snapshot in a commit, or what is applied. -/
structure HeadCfg where
  mode : Nat
  polder : Nat
  /-- W in sixteenths -/
  window : Nat
  count : Nat
  /-- bit d: destination d is fed -/
  dests : BitVec 256
  background : BitVec 36
  dike : Bool
  layers : List LayerCfg
  deriving DecidableEq, Repr

def HeadCfg.reset : HeadCfg :=
  { mode := 0, polder := 0, window := 14, count := 2, dests := 0, background := 0, dike := false,
    layers := List.replicate 8 LayerCfg.reset }

/-- Where a commit is to land (R130). -/
inductive Target where
  | asap
  | frame (f : Nat)
  | ptp (sec ns : Nat)
  | instar (v : BitVec 32)
  deriving DecidableEq, Repr

/-- What queued it. -/
inductive CommitKind where
  | commit | take | stop | dike | dikeUnbind
  /-- the module restores the head (R504): no ring, `dest` is the head, `clone` marks a partial restoration -/
  | restore
  deriving DecidableEq, Repr

/-- The transition a take runs (R118). -/
inductive TransKind where
  | cut | mix | fade
  deriving DecidableEq, Repr

/-- A commit that has been validated and is neither applied nor refused (R135). -/
structure Commit where
  ring : Nat
  stamp : Nat
  seq : BitVec 32
  opcode : Nat
  owner : Nat
  kind : CommitKind
  cfg : HeadCfg
  target : Target
  /-- the instar that it is to become (R130, R142) -/
  guard : Option (BitVec 32)
  /-- frame count of its own landing flip, while known -/
  land : Option Nat
  late : Bool
  /-- the sluice of its landing flip had closed: EV_SLUICE_MISS follows when it is applied (R131, R147) -/
  missed : Bool
  /-- sluices at which it was held (R134) -/
  held : Nat
  wasHeld : Bool
  degraded : Bool
  trans : TransKind
  dur : Nat
  audioFollow : Bool
  /-- tokens granted for it, returned when it is cancelled -/
  fetch : Nat
  power : Nat
  /-- scalers (first index) and converter slices that a take claimed for it -/
  newScaler : Option Nat
  newConv : Option Nat
  /-- armed in this salvo: (identifier, LOCKSTEP) -/
  salvo : Option (Nat × Bool)
  /-- surface references it holds -/
  refs : List (BitVec 32)
  /-- its sluice has closed (R139) -/
  locked : Bool
  /-- fetch tokens the head needs while its transition runs -/
  peak : Nat
  /-- the head that a take with split copies (R120) -/
  split : Option Nat
  /-- it brings its destination to the head: a take on a new head, or of kind CLONE -/
  moves : Bool
  /-- fetch tokens granted with it for heads that it leaves without an SDI destination (R26) -/
  lends : List (Nat × Nat)
  /-- frames of its own head by which a LOCKSTEP salvo moves it on (R143) -/
  delay : Nat
  /-- a take's destination and whether it is of kind CLONE, for audio that follows -/
  dest : Nat
  clone : Bool
  /-- the old picture of a take with split, copied from the shared head at its sluice (R120) -/
  old : Option LayerCfg
  deriving DecidableEq, Repr

/-- A transition that runs on layers 0 and 1 of a module-managed head. -/
structure Transition where
  kind : TransKind
  dur : Nat
  /-- frames of it composed so far -/
  j : Nat
  /-- the old picture's layer -/
  old : LayerCfg
  oldRefs : List (BitVec 32)
  /-- fetch tokens of layer 1, returned after the last frame -/
  fetch : Nat
  deriving DecidableEq, Repr

/-- The states of a surface, R159. -/
inductive SurfState where
  | empty | uploading | ready | failed | freeing
  deriving DecidableEq, Repr

/-- An upload in progress. -/
structure Upload where
  ring : Nat
  stamp : Nat
  fetch : Nat
  power : Nat
  /-- the region -/
  x : Nat
  y : Nat
  w : Nat
  h : Nat
  deriving DecidableEq, Repr

/-- A surface. -/
structure Surf where
  handle : BitVec 32
  owner : Nat
  format : Nat
  width : Nat
  height : Nat
  pitch : Nat
  units : Nat
  colorimetry : Nat
  transfer : Nat
  range : Nat
  fill : BitVec 32
  filled : Bool
  state : SurfState
  refs : Nat
  upload : Option Upload
  /-- the OP_SURF_FREE that waits -/
  free : Option (Nat × Nat)
  deriving DecidableEq, Repr

/-- What a layer shows in one composed frame. -/
inductive Shown where
  | nothing
  /-- a frame of a source S0 to S383 -/
  | frame (src : Nat) (f : Frame)
  | black
  | transparent
  | slate (h : BitVec 32)
  | surface (h : BitVec 32)
  | raw (off : Nat)
  | colour (c : BitVec 36)
  /-- the picture that head `h` showed as frame `f`, of a mode: number `shot` of those that heads have shown -/
  | reentry (h f mode shot : Nat)
  deriving DecidableEq, Repr

/-- The class of R178. -/
inductive LayerClass where
  | off | new | rep | fallback | cutOff | still
  deriving DecidableEq, Repr

/-- A layer in a composed frame. -/
structure LayerPic where
  shown : Shown
  /-- the source that the layer names; 0xFFFE for a still, 0xFFFF for a layer that is off (R300) -/
  src : Nat
  cls : LayerClass
  /-- global alpha applied, in 4,096ths -/
  alpha : Nat
  /-- fade towards black applied, in 4,096ths of the picture kept -/
  keep : Nat
  /-- first tile row without the layer (R174) -/
  cutRow : Option Nat
  /-- axes shown by nearest sample (R192, R193) -/
  degV : Bool
  degH : Bool
  /-- the layer as it was composed, and the loaded coefficients that its scaler used; none: set 0 (R188) -/
  cfg : LayerCfg
  coefH : Option (List Byte)
  coefV : Option (List Byte)
  /-- source frames skipped since this layer's previous take -/
  skipped : Nat
  atc : Option Nat
  anc : List Anc
  /-- converter time of the shown frame's publication -/
  pub : Nat
  /-- reference time of the frame shown, in PHC ns -/
  ref : Option Int
  deriving DecidableEq, Repr

def LayerPic.off : LayerPic :=
  { shown := .nothing, src := 0xFFFF, cls := .off, alpha := 0, keep := 4096, cutRow := none, degV := false,
    degH := false, cfg := LayerCfg.reset, coefH := none, coefV := none, skipped := 0,
    atc := none, anc := [], pub := 0, ref := none }

/-- A layer shows its picture by nearest sample on an axis. -/
def LayerPic.degraded (p : LayerPic) : Bool := p.degV || p.degH

/-- A composed frame: what its layers showed, and all that its samples depend on. -/
structure Picture where
  frame : Nat
  layers : List LayerPic
  background : BitVec 36
  /-- first tile row shown as background and how many -/
  bgRow : Option (Nat × Nat)
  instar : BitVec 32
  /-- the configuration composed, and whether a transition ran on it -/
  cfg : HeadCfg
  mixing : Bool
  /-- the head's working space (R196) -/
  space : Nat × Nat
  /-- HBM and the surfaces in it, as they stood -/
  hbm : Tab (Option Byte)
  surfs : List Surf
  deriving DecidableEq, Repr

def Picture.blank : Picture :=
  { frame := 0, layers := [], background := 0, bgRow := Option.none, instar := 0, cfg := HeadCfg.reset, mixing := false, space := (0, 0),
    hbm := [], surfs := [] }

/-- Run-time state of a layer. -/
structure LayerRun where
  heldOff : Bool
  underruns : Nat
  /-- source and frame shown last -/
  last : Option (Nat × Nat)
  /-- that frame -/
  lastShown : Shown
  lastAnc : List Anc
  /-- converter time of that frame's publication -/
  lastPub : Nat
  lastRef : Int
  /-- the source that the layer named last, and whether its fallback event has been raised -/
  src : Option Nat
  fell : Bool
  cls : LayerClass
  deriving DecidableEq, Repr

def LayerRun.reset : LayerRun :=
  { heldOff := false, underruns := 0, last := none, lastShown := .nothing, lastAnc := [], lastPub := 0, lastRef := 0, src := none,
    fell := false, cls := .off }

/-- HEAD.STAT.run. -/
inductive RunState where
  | stopped | line | frame | recovering
  deriving DecidableEq, Repr

/-- Who manages a head (R79). -/
inductive Managed where
  | free | module | software
  deriving DecidableEq, Repr

/-- A head. -/
structure Head where
  owner : Nat
  managed : Managed
  run : RunState
  abandoned : Bool
  /-- stopped by a request to leave RUN: it starts again at the wake (R502, R503) -/
  resume : Bool
  shadow : HeadCfg
  applied : HeadCfg
  instar : BitVec 32
  queue : List Commit
  fetchGrant : Nat
  powerGrant : Nat
  /-- surface references of the applied instar -/
  refs : List (BitVec 32)
  trans : Option Transition
  layers : List LayerRun
  /-- scaler and converter that the module claimed for the applied take -/
  modScaler : Option Nat
  modConv : Option Nat
  /-- count of the raster period that runs now -/
  period : Nat
  /-- the next frame whose sluice is open -/
  nextOpen : Nat
  /-- predicted PHC times (seconds, ns) of the flips of the last two sluices, newest first -/
  predFlip : Option (Nat × Nat)
  predPrev : Option (Nat × Nat)
  /-- frame count and reason at which it enters LINE mode: 0 start, 1 recovery, 2 force_line -/
  lineAt : Option (Nat × Nat)
  /-- the next flip is a hand-over flip -/
  handover : Bool
  /-- the last hand-over frame, which has no sluice (R255) -/
  handAt : Option Nat
  /-- the last flip was a hand-over flip: the next one is the first composed in FRAME mode -/
  firstFrame : Bool
  flipDone : Bool
  sluiceDone : Bool
  deadlineDone : Bool
  composing : Option Picture
  front : Option Picture
  /-- the number of that picture among those shown -/
  shot : Nat
  flipSec : Nat
  flipNs : Nat
  /-- converter time of the last flip -/
  flipAt : Nat
  fcount : Nat
  /-- the mode and polder that a stopped head last ran -/
  lastMode : Nat
  lastPolder : Nat
  /-- converter times of containment resets in the window (R520) -/
  contained : List Nat
  /-- raster periods, the running one first, that a head reset has hurt (R519, R524) -/
  hurt : Nat
  /-- a CLONE take has taken its last destination: it is released at its next flip with no commit queued (R123) -/
  leaving : Bool
  deriving DecidableEq, Repr

def Head.reset : Head :=
  { owner := 0, managed := .free, run := .stopped, abandoned := false, resume := false, shadow := HeadCfg.reset,
    applied := HeadCfg.reset, instar := 0, queue := [], fetchGrant := 0, powerGrant := 0, refs := [], trans := none,
    layers := List.replicate 8 LayerRun.reset, modScaler := none, modConv := none, period := 0, nextOpen := 0,
    predFlip := none, predPrev := none, lineAt := none, handover := false, handAt := none, firstFrame := false, flipDone := false,
    sluiceDone := false, deadlineDone := false, composing := none, front := none, shot := 0, flipSec := 0, flipNs := 0, flipAt := 0,
    fcount := 0, lastMode := 0, lastPolder := 0, contained := [], hurt := 0, leaving := false }

/-- A staged salvo member (R140). -/
structure Member140 where
  ring : Nat
  stamp : Nat
  seq : BitVec 32
  owner : Nat
  salvo : Nat
  /-- the ring was privileged when it started -/
  priv : Bool
  desc : List Byte
  /-- converter time of the first member's start -/
  since : Nat
  deriving DecidableEq, Repr

/-- An armed salvo. -/
structure Armed where
  owner : Nat
  salvo : Nat
  lockstep : Bool
  /-- LOCKSTEP: every member was ready at the salvo sluice -/
  go : Bool
  deriving DecidableEq, Repr

/-- Heads and salvos. -/
structure Hds where
  heads : Tab Head
  staged : List Member140
  armed : List Armed
  /-- the pictures that heads have shown, in order: re-entry reads them (R20); no bound, a record of the model's own (log 3) -/
  shots : List Picture
  deriving DecidableEq, Repr

def Hds.reset : Hds := { heads := [], staged := [], armed := [], shots := [] }

/-- Surfaces. -/
structure Srf where
  list : List Surf
  /-- generation last issued at each index -/
  gens : Tab Nat
  deriving DecidableEq, Repr

def Srf.reset : Srf := { list := [], gens := [] }

/-- SCL.CTL.state. -/
inductive SclState where
  | free | single | gangLead | gangMember
  deriving DecidableEq, Repr

/-- A loaded coefficient set (R188): its taps on each axis, whether it persists, and its coefficients as loaded. Taps 0 mark a
set that holds a copy of set 0 (R203). -/
structure ScSet where
  tapsH : Nat
  tapsV : Nat
  persist : Bool
  coef : List Byte
  deriving DecidableEq, Repr

/-- A scaler. -/
structure Scaler where
  state : SclState
  owner : Nat
  /-- claimed by a take for its head -/
  byTake : Bool
  tapsH : Nat
  tapsV : Nat
  setH : Nat
  setV : Nat
  power : Nat
  /-- sets 1 to 3 -/
  set1 : Option ScSet
  set2 : Option ScSet
  set3 : Option ScSet
  /-- axes that it degrades in the frame composed last, and ⌈tv × a / b⌉ of the last frame taken (R193, R209) -/
  degV : Bool
  degH : Bool
  need : Nat
  deriving DecidableEq, Repr

def Scaler.reset : Scaler :=
  { state := .free, owner := 0, byTake := false, tapsH := 4, tapsV := 4, setH := 0, setV := 0, power := 0,
    set1 := none, set2 := none, set3 := none, degV := false, degH := false, need := 0 }

/-- Dither of a destination, R205. -/
structure Dith where
  mode : Nat
  seed : BitVec 32
  deriving DecidableEq, Repr

def Dith.reset (d : Nat) : Dith := { mode := 1, seed := BitVec.ofNat 32 (d + 1) }

/-- A colour load that is staged and waits for its boundary (R202). -/
structure ColLoad where
  ring : Nat
  stamp : Nat
  /-- 0 INPUT, 1 OUTPUT, 2 SCALER, 3 DITHER -/
  kind : Nat
  index : Nat
  unit : ColUnit
  dith : Dith
  setNo : Nat
  setVal : ScSet
  deriving DecidableEq, Repr

/-- Scalers and colour. -/
structure Scc where
  scalers : Tab Scaler
  ins : Tab ColUnit
  outs : Tab ColUnit
  diths : Tab Dith
  loads : List ColLoad
  deriving DecidableEq, Repr

def Scc.reset : Scc := { scalers := [], ins := [], outs := [], diths := [], loads := [] }

/-- CNV.CTL.state. -/
inductive CnvState where
  | free | single | groupLead | groupMember
  deriving DecidableEq, Repr

/-- A picture that a conversion holds in its motion store: a frame, or one field of it. -/
structure ConvPic where
  frame : Frame
  /-- 0 the frame, 1 its first field, 2 its second field -/
  field : Nat
  /-- picture time in converter time (R220) -/
  time : Int
  /-- number of the picture in its input -/
  num : Nat
  /-- number of the run of repeats it belongs to: in cadence lock, of the film frame -/
  run : Nat
  deriving DecidableEq, Repr

/-- A frame that is built and waits for its p_j. -/
structure ConvBuild where
  frame : Frame
  /-- 1 copy, 2 linear mix, 3 motion compensation -/
  kind : Nat
  /-- what STAT.built shows: 1 REPEAT, 2 BLEND, 3 MOTION -/
  mode : Nat
  fellBack : Bool
  shed : Bool
  phase : Nat
  /-- the pictures that it shows, as ranges of their numbers, and its temporal position -/
  nums : List (Nat × Nat)
  tau : Int
  deriving DecidableEq, Repr

/-- A change of mode that waits for the next build start after its validation (R232). -/
structure ConvPend where
  mode : Nat
  cadence : Nat
  confMin : Nat
  power : Nat
  fetch : Nat
  /-- converter time of the validation -/
  at_ : Nat
  deriving DecidableEq, Repr

/-- A rate converter slice or group. -/
structure Conv where
  state : CnvState
  owner : Nat
  byTake : Bool
  input : Nat
  polder : Nat
  mode : Nat
  scan : Nat
  cadence : Nat
  confMin : Nat
  /-- the mode given at the claim, which fixes the delay of its audio (R316) -/
  audMode : Nat
  /-- the input's nominal mode at the claim, from which its tokens come (R235) -/
  claimMode : Nat
  /-- mode changes in effect since the claim -/
  modes : Nat
  power : Nat
  fetch : Nat
  pend : Option ConvPend
  /-- raster period for which the last build start ran -/
  builtFor : Option Nat
  /-- frames of the input below this id are not taken (R230) -/
  minId : Nat
  /-- the motion store, or the frame that REPEAT copied last: newest first (R236) -/
  hist : List ConvPic
  /-- run and time of the last 16 pictures, newest first -/
  times : List (Nat × Int)
  build : Option ConvBuild
  /-- reason for withholding the next frame: 0 input not LOCKED, 1 pictures not held -/
  why : Nat
  /-- the 2 output slots' frames, newest first -/
  out : List Frame
  srcState : SrcState
  /-- a frame has been published since the claim -/
  published : Bool
  nextId : Nat
  arrSec : Nat
  arrNs : Nat
  periods : List Nat
  lastPub : Nat
  built : Nat
  shed : Bool
  withholding : Bool
  /-- cadence: 0 none, 1 3:2, 2 2:2; length of the run that goes on and of the one before; pictures in a row that match
  each pattern; number of the run -/
  lock : Nat
  runLen : Nat
  lastRun : Nat
  match32 : Nat
  match22 : Nat
  run : Nat
  confidence : Nat
  phase : Nat
  /-- confident frames since the last fallback -/
  confRun : Nat
  /-- the input's mode and format as last seen -/
  inMode : Nat
  inFmt : Fmt
  /-- 0 no format fault, 1 raster does not fit, 2 rate refused -/
  fmtBad : Nat
  /-- temporal position last published, and whether frames before it are withheld (R232) -/
  lastTau : Int
  behind : Bool
  /-- number of the newest picture that a published frame shows, or the one before the first picture taken (R239) -/
  usedTo : Option Nat
  deriving DecidableEq, Repr

def Conv.reset : Conv :=
  { state := .free, owner := 0, byTake := false, input := 0, polder := 0, mode := 0, scan := 0, cadence := 0, confMin := 0,
    audMode := 0, claimMode := 0, modes := 0, power := 0, fetch := 0, pend := none, builtFor := none, minId := 0, hist := [],
    times := [], build := none, why := 0, out := [], srcState := .idle, published := false, nextId := 1, arrSec := 0, arrNs := 0,
    periods := [], lastPub := 0, built := 0, shed := false, withholding := false, lock := 0, runLen := 0, lastRun := 0,
    match32 := 0, match22 := 0, run := 0, confidence := 0, phase := 0, confRun := 0, inMode := 0, inFmt := Fmt.none, fmtBad := 0,
    lastTau := 0, behind := false, usedTo := none }

/-- A destination D0 to D255. -/
structure Dest where
  head : Option Nat
  /-- member of a running quad-link destination -/
  quadMember : Bool
  interface : Nat
  /-- sampling and depth as TX_MAP or the flow gave them when it was first fed (R259): 0 4:2:2 at 10 bits, 1 and 2 4:4:4 at 10
  and 12 bits -/
  sampling : Nat
  lastMode : Nat
  lastPolder : Nat
  everFed : Bool
  /-- the ATC it carries, frames since midnight -/
  atc : Option Nat
  /-- ATC taken from a source frame (FOLLOW) -/
  atcTaken : Bool
  owner : Nat
  /-- in service since its first fed flip (R524) -/
  inService : Bool
  /-- off air through an abandonment, a trip or a containment warm reset (R524) -/
  offAir : Bool
  /-- IP: video packets of the current frame that have not left -/
  pktsLeft : Nat
  /-- IP: sequence number of the next RTP packet -/
  rtpSeq : Nat
  /-- the running raster period has shown a frame whose judgement counts it (R524) -/
  judged : Bool
  /-- ancillary packets passed with the frame shown (R263) -/
  anc : List Anc
  deriving DecidableEq, Repr

def Dest.reset : Dest :=
  { head := none, quadMember := false, interface := 0, sampling := 0, lastMode := 0, lastPolder := 0,
    everFed := false, atc := none, atcTaken := false, owner := 0, inService := false, offAir := false,
    pktsLeft := 0, rtpSeq := 0, judged := false, anc := [] }

/-- A push in progress. -/
structure PushRun where
  frame : Nat
  refresh : Bool
  tiles : Nat
  deriving DecidableEq, Repr

/-- A push channel's settings (R272). -/
structure PushCfg where
  persist : Bool
  head : Nat
  dec : Nat
  format : Nat
  interval : Nat
  x : Nat
  y : Nat
  w : Nat
  h : Nat
  addr : BitVec 64
  ringLog2 : Nat
  vector : Nat
  refresh : Nat
  deriving DecidableEq, Repr

def PushCfg.reset : PushCfg :=
  { persist := false, head := 0, dec := 1, format := 4, interval := 0, x := 0, y := 0, w := 0, h := 0, addr := 0,
    ringLog2 := 0, vector := 0, refresh := 0 }

/-- A push channel. -/
structure Push where
  enabled : Bool
  cfg : PushCfg
  owner : Nat
  fetch : Nat
  power : Nat
  headIdx : BitVec 32
  tail : BitVec 32
  /-- hash last sent, per tile -/
  hashes : Tab (Option (BitVec 64))
  run : Option PushRun
  /-- settings of the push in progress -/
  runCfg : PushCfg
  /-- the next push sends every tile -/
  full : Bool
  pushed : Nat
  noSpaceRun : Bool
  shed : Bool
  noFrame : Bool
  deriving DecidableEq, Repr

def Push.reset : Push :=
  { enabled := false, cfg := PushCfg.reset, owner := 0, fetch := 0, power := 0, headIdx := 0, tail := 0, hashes := [],
    run := none, runCfg := PushCfg.reset, full := false, pushed := 0, noSpaceRun := false, shed := false,
    noFrame := false }

/-- Converters, destinations, push channels. -/
structure Out where
  convs : Tab Conv
  dests : Tab Dest
  pushes : Tab Push
  deriving DecidableEq, Repr

def Out.reset : Out := { convs := [], dests := [], pushes := [] }

/-- What the flip sees: tile rows still unwritten (first row, how many), packets that did not fit per destination, the memory
errors that reads in use met since the last flip (R28, R30), and whether each picture that the frame gives a conversion repeats
its predecessor, within the converters' threshold (R227). -/
structure FlipSeen where
  bg : Option (Nat × Nat)
  ancDrop : List (Nat × Nat)
  ecc : List HbmErr
  sram : List SramErr
  repeats : List Bool
  deriving DecidableEq, Repr

/-- What a converter measures, against thresholds of the module that the spec does not give: for each new picture in order,
whether it repeats its predecessor (R227); for the frame to build, one value per field of an interlaced output, the blocks
whose match error is small (R224). -/
structure BuildSight where
  repeats : List Bool
  matched : List Nat
  deriving DecidableEq, Repr

end Sys2Proof.Machine
end

