-- ==== Sys2Proof/Machine/StateNv.lean ====
section
/-!
DEFINITION. Machine/StateNv.lean: the non-volatile store: flash records, the mirror, wear counters, the queue of system
pages, the hold-up store, and the restoration that reads the pages back ("Non-volatile store", "Resets, start-up and power
states").
The layout inside a system page belongs to the module's firmware (R448): such a page holds its content as data here, and
its bytes are free values (log 24).
-/
namespace Sys2Proof.Machine

/-- The restore set of a head: its configuration, its instar, and the conversions that its layers name (R136, R242). -/
structure HeadSave where
  owner : Nat
  managed : Managed
  instar : BitVec 32
  cfg : HeadCfg
  convs : List (Nat × Conv)
  deriving DecidableEq, Repr

/-- The restore set of a source and of the flows kept with it (R112). -/
structure SrcSave where
  cfg : Source
  flows : List Flow
  deriving DecidableEq, Repr

/-- A chain head as R304 keeps it. -/
structure ChainSave where
  chain : List Byte
  index : Nat
  frame : Nat
  deriving DecidableEq, Repr

/-- What 256 bytes of a page hold. -/
inductive NvData where
  | blank
  | bytes (l : List Byte)
  | head (x : Option HeadSave)
  | srcs (l : List (Nat × SrcSave)) (rws : List (Nat × BitVec 32)) (auto gated : Bool)
  | audio (outs : List (Nat × AudOut)) (comps : List (Nat × Option (Nat × Nat)))
  | chains (l : List (Nat × ChainSave))
  | dikes (l : List (Nat × Dike))
  | keys (l : List (Nat × Key))
  | admin (l : List Byte)
  | ties (l : List (Nat × List Byte))
  deriving DecidableEq, Repr

/-- A page of the mirror. -/
structure NvPage where
  data : NvData
  /-- record sequence of its newest record, 0 for none -/
  seq : Nat
  deriving DecidableEq, Repr

def NvPage.reset : NvPage := { data := .blank, seq := 0 }

/-- The commit word of a record (R452 to R454). -/
inductive Commit5A where
  | erased | committed | voided
  deriving DecidableEq, Repr

/-- A record in flash. -/
structure NvRec where
  page : Nat
  seq : Nat
  data : NvData
  commit : Commit5A
  deriving DecidableEq, Repr

/-- A sector of the record region. -/
structure NvSector where
  /-- sector sequence, 0 while it is erased -/
  seq : Nat
  recs : List NvRec
  erases : Nat
  retired : Bool
  deriving DecidableEq, Repr

def NvSector.reset : NvSector := { seq := 0, recs := [], erases := 0, retired := false }

/-- A wear counter (R458, R459). -/
structure NvCtr where
  /-- sector of the pair that holds its ring, 0 or 1 -/
  cur : Nat
  epoch : Nat
  base : Nat
  /-- cells that are not erased, and those of them that read 0xA55A -/
  used : Nat
  good : Nat
  otherErased : Bool
  erases0 : Nat
  erases1 : Nat
  /-- retired sectors of its pair -/
  retired : Nat
  deriving DecidableEq, Repr

def NvCtr.reset : NvCtr :=
  { cur := 0, epoch := 0, base := 0, used := 0, good := 0, otherErased := true, erases0 := 0, erases1 := 0, retired := 0 }

/-- Who waits for a program. -/
inductive NvWho where
  /-- a descriptor: ring, stamp -/
  | desc (ring stamp : Nat)
  /-- a cocoon operation: ring, stamp -/
  | op (ring stamp : Nat)
  /-- the queue of paced pages: the page -/
  | paced (page : Nat)
  /-- GLB.RESTORE: new auto_restore and gated -/
  | restore (auto gated : Bool)
  /-- the module itself, at once -/
  | module
  deriving DecidableEq, Repr

/-- A program that the flash still has to do, in order. -/
inductive NvJob where
  | page (page : Nat) (data : NvData) (who : NvWho)
  | cell (counter : Nat) (tries : Nat) (who : NvWho)
  deriving DecidableEq, Repr

/-- A sector erase: of the record region, or of the sector of a counter that does not hold its ring. -/
inductive NvErase where
  | record (sector : Nat)
  | counter (c : Nat)
  deriving DecidableEq, Repr

/-- NV.STAT.state, but for FULL, which follows from the space (R465). -/
inductive NvPhase where
  | recall | ready | fault
  deriving DecidableEq, Repr

/-- How the recall scan or a scrub reads one record: sector, slot, 0 clean, 1 corrected, 2 its code fails; the data where the
code gives other data than were programmed. -/
structure NvReading where
  sector : Nat
  slot : Nat
  qual : Nat
  data : Option (List Byte)
  deriving DecidableEq, Repr

/-- What the recall scan finds in the flash beyond what was programmed (R456, R462). -/
structure NvFound where
  /-- sectors whose header fails its check or that are partly erased -/
  bad : List Nat
  recs : List NvReading
  /-- counters whose last program was cut off: 0 not counted, 1 a ring opening whose first cell is half-programmed, 2 counted -/
  cells : List (Nat × Nat)
  deriving DecidableEq, Repr

/-- The store. -/
structure Nv where
  phase : NvPhase
  /-- the recall scan has read the flash; twin pairs resolved -/
  scanned : Option Nat
  pages : Tab NvPage
  sectors : Tab NvSector
  /-- the record sector that is open -/
  openAt : Option Nat
  lastSector : Nat
  seq : Nat
  ctrs : Tab NvCtr
  jobs : List NvJob
  /-- erases that are due, the first one in progress when `erasing` -/
  erases : List NvErase
  erasing : Bool
  /-- counters whose cell program was cut off: what became of it is found at recall (R462) -/
  torn : List Nat
  /-- losing twins that are still to be voided: sector, slot (R456, R457) -/
  voids : List (Nat × Nat)
  /-- system pages that wait for their paced record (R451) -/
  queue : List Nat
  lastPaced : Option Nat
  lastScrub : Nat
  /-- energy of the hold-up store in mJ -/
  energy : Nat
  flushing : Bool
  /-- GLB.RESTORE as the system pages hold it -/
  auto : Bool
  gated : Bool
  deriving DecidableEq, Repr

/-- The store as shipped: nothing written (log 25); the recall scan of the power-on reset runs. -/
def Nv.reset : Nv :=
  { phase := .recall, scanned := none, pages := [], sectors := [], openAt := none, lastSector := 0, seq := 0, ctrs := [],
    jobs := [], erases := [], erasing := false, torn := [], voids := [], queue := [], lastPaced := none, lastScrub := 0, energy := 0,
    flushing := false, auto := false, gated := false }

/-- GLB.RESTORE_STAT.state. -/
inductive RestPhase where
  | idle | waitRecall | waitGo | running | done
  deriving DecidableEq, Repr

/-- A restoration (R504, R505). -/
structure Rest where
  phase : RestPhase
  /-- sources, flows, claims and audio have been restored: heads are tried -/
  begun : Bool
  /-- converter time at which heads were first tried -/
  since : Nat
  /-- heads whose polder is not ready yet -/
  waiting : List Nat
  /-- heads whose restoring commit has not landed yet -/
  landing : List Nat
  restored : Nat
  partly : Nat
  failed : Nat
  deriving DecidableEq, Repr

/-- After power-on: the recall scan has to say whether anything is restored. -/
def Rest.reset : Rest :=
  { phase := .waitRecall, begun := false, since := 0, waiting := [], landing := [], restored := 0, partly := 0, failed := 0 }

end Sys2Proof.Machine
end

