-- ==== Sys2Proof/Syntax.lean ====
section
/-!
DEFINITION. Syntax.lean: the commands of the block, one constructor per row of spec/opcode_table.json, in the table's order.
An operand is what the command brings from outside: an instance number, a value written, what a measurement found, what
host memory held. A command on a descriptor names its ring; the descriptor itself is in the ring's prefetch queue.
-/
namespace Sys2Proof

/-- A command. -/
inductive Instr where
  /-- DOORBELL (R49): A write to HIF.SQ_DB[n] is accepted or rejected by owner tag and ring state, and an accepted write moves the ring's tail. -/
  | doorbell (n : Fin 64) (v : BitVec 32)
  /-- SQ_ENABLE (R42): Setting HIF.SQ_CTL[n].enable checks the configuration and either opens the ring at head and tail 0 or leaves it disabled with reason BAD_CFG. -/
  | sqEnable (n : Fin 64) (v : BitVec 32)
  /-- SQ_DISABLE (R68): Writing enable as 0 runs the ring reset and then sets the submission ring DISABLED while keeping HIF.SQ_SEQ_NEXT[n]. -/
  | sqDisable (n : Fin 64)
  /-- SQ_RESET (R67): Writing reset sets the ring RESETTING, lets started descriptors end, flushes the rest with CS_FLUSHED and returns the ring to RUNNING. -/
  | sqReset (n : Fin 64)
  /-- SQ_RESUME (R66): Writing resume to a HALTED ring sets it RUNNING and fetches again from the slot of HIF.SQ_SEQ_NEXT[n]. -/
  | sqResume (n : Fin 64)
  /-- RING_RESET_END (R67): Once every started descriptor has ended and every flushed record is posted, the ring sets head to tail, advances the sequence number and returns to RUNNING, or becomes DISABLED after a disable. -/
  | ringResetEnd (n : Fin 64)
  /-- CQ_ENABLE (R58): Setting HIF.CQ_CTL[n].enable opens the completion ring at index 0 with phase 1, or leaves it disabled when size_log2 is out of range. -/
  | cqEnable (c : Fin 64) (v : BitVec 32)
  /-- CQ_ERR_CLEAR (R60): Clearing HIF.CQ_CTL[n].err lets the module post its held completions again, starting at CQ_TAIL. -/
  | cqErrClear (c : Fin 64)
  /-- CQ_HEAD_WRITE (R59): A write to HIF.CQ_HEAD[n] frees completion slots, so that held completions may be posted and waiting submission rings may start descriptors. -/
  | cqHeadWrite (c : Fin 64) (v : BitVec 32)
  /-- DESCRIPTOR_FETCH (R51): The module fetches descriptors that an accepted doorbell covers, at most 16 beyond the first descriptor not yet started. -/
  | descriptorFetch (n : Fin 64) (data : Option (List Byte))
  /-- MALFORMED_DESCRIPTOR (R64): A started malformed descriptor halts the ring, discards the prefetched descriptors and completes with CS_MALFORMED carrying the expected sequence number. -/
  | malformedDescriptor (n : Fin 64)
  /-- COMPLETION_POST (R59): A completion record that has waited for ring order and a free slot is written, with its phase bit, into the completion ring. -/
  | completionPost (n : Fin 64) (ok : Bool)
  /-- CQ_MOD_TIMER_EXPIRY (R72): When CQ_MOD.time_us has passed since the first unsignalled completion, the completion ring raises its MSI-X vector. -/
  | cqModTimerExpiry (c : Fin 64)
  /-- FLR (R70): An FLR, hot reset, link-down, PERST_N or D3hot to D0 transition disables every ring and event ring and resets MSI-X and the event masks, while video carries on. -/
  | flr (burst : Bool)
  /-- OP_NOP (R55): OP_NOP does nothing and completes with CS_OK, returning bytes 8 to 15 of its body. -/
  | opNop (n : Fin 64)
  /-- OP_FENCE (R56): OP_FENCE completes with the PHC time once every condition selected in its scope has been met. -/
  | opFence (n : Fin 64)
  /-- OP_TAKE (R120): OP_TAKE resolves a head, polder, scaler, converter and leave for a destination and queues the resulting commit for its landing flip. -/
  | opTake (n : Fin 64)
  /-- OP_COMMIT (R129): OP_COMMIT snapshots the head's shadow configuration, validates it as a whole and queues it for its target, or stages it as a salvo member. -/
  | opCommit (n : Fin 64)
  /-- OP_SALVO_ARM (R141): OP_SALVO_ARM validates every staged member, grants all their leave as one request and arms the salvo, or cancels every member. -/
  | opSalvoArm (n : Fin 64)
  /-- SALVO_CANCEL (R139): OP_SALVO_CANCEL of kind 0 withdraws the unlocked members of a salvo, which complete with CS_CANCELLED and return their leave. -/
  | salvoCancel (n : Fin 64)
  /-- COMMIT_CANCEL (R139): OP_SALVO_CANCEL of kind 1 withdraws a single queued commit that is not yet locked. -/
  | commitCancel (n : Fin 64)
  /-- SALVO_ARM_TIMEOUT (R140): A staged member whose salvo is not armed within 10 s of the first member's start completes with CS_CANCELLED. -/
  | salvoArmTimeout (owner salvo : BitVec 16)
  /-- OP_HEAD_SET (R154): OP_HEAD_SET writes the selected fields into the head's shadow configuration and claims a free head. -/
  | opHeadSet (n : Fin 64)
  /-- OP_LAYER_SET (R156): OP_LAYER_SET replaces the whole shadow entry of one layer. -/
  | opLayerSet (n : Fin 64)
  /-- OP_HEAD_STOP (R157): OP_HEAD_STOP queues behind the head's pending commits and stops the head at the next open flip. -/
  | opHeadStop (n : Fin 64)
  /-- OP_SURF_ALLOC (R160): OP_SURF_ALLOC allocates a surface from the pool, optionally filled, and returns its handle. -/
  | opSurfAlloc (n : Fin 64)
  /-- OP_SURF_UPLOAD (R161): OP_SURF_UPLOAD asks for leave and starts a DMA of a region into a surface, which becomes UPLOADING. -/
  | opSurfUpload (n : Fin 64)
  /-- SURF_UPLOAD_END (R161): When the upload's last byte is in HBM, or its reads in flight return after a host read failure, the tokens return and the surface becomes READY or FAILED. -/
  | surfUploadEnd (h : BitVec 32) (rows : List (List Byte))
  /-- OP_SURF_FREE (R163): OP_SURF_FREE makes a surface FREEING and returns its capacity at once or defers until the last reference is dropped. -/
  | opSurfFree (n : Fin 64)
  /-- OP_SRC_SET (R109): OP_SRC_SET changes the selected source settings: hold, fallback, ring, quad, defaults, ST 352 override, damage policy and rate lock. -/
  | opSrcSet (n : Fin 64)
  /-- OP_FLOW_ADD (R90): OP_FLOW_ADD checks and adds a receive or send flow, allocating its ring or matrix channels and sending its joins. -/
  | opFlowAdd (n : Fin 64)
  /-- OP_FLOW_DEL (R93): OP_FLOW_DEL deletes a flow, sends its leave reports and puts its source to IDLE. -/
  | opFlowDel (n : Fin 64)
  /-- SOURCE_RING_FREE (R93): A deleted or replaced source ring is freed, with its fetch tokens, once no reader pins a slot and no unretired instar references it. -/
  | sourceRingFree (n : Fin 256)
  /-- OP_LEDGER_READ (R107): OP_LEDGER_READ samples all counters of one ledger in one cycle and writes them to a host buffer. -/
  | opLedgerRead (n : Fin 64) (ok : Bool)
  /-- SCALER_CLAIM (R186): The CLAIM action asks for leave and claims a scaler or ganged pair with its taps and sets. -/
  | scalerClaim (n : Fin 64)
  /-- SCALER_RELEASE (R186): The RELEASE action frees a scaler or pair and returns its tokens. -/
  | scalerRelease (n : Fin 64)
  /-- SCALER_CONFIGURE (R186): The CONFIGURE action writes taps and sets into the scaler's shadow for later commits. -/
  | scalerConfigure (n : Fin 64)
  /-- OP_COLOUR_LOAD (R199): OP_COLOUR_LOAD stages tables, spaces, modes, a scaler set or dither settings and completes when they take effect at their boundary. -/
  | opColourLoad (n : Fin 64) (data : Option (List Byte))
  /-- CONV_CLAIM (R234): The CLAIM action asks for leave, reserves the converter store and starts a conversion on a slice or UHD group. -/
  | convClaim (n : Fin 64)
  /-- CONV_RELEASE (R234): The RELEASE action stops a conversion at once and returns all its tokens. -/
  | convRelease (n : Fin 64)
  /-- CONV_MODE (R232): The MODE action changes the conversion's mode, cadence and confidence threshold from the next build start. -/
  | convMode (n : Fin 64)
  /-- AUDIO_ROUTE (R329): The ROUTE action sets a breakaway or following route, which switches at its switch position. -/
  | audioRoute (n : Fin 64)
  /-- AUDIO_SET (R329): The SET action changes gain, mute, polarity and ramp of a route while keeping its input. -/
  | audioSet (n : Fin 64)
  /-- AUDIO_UNROUTE (R329): The UNROUTE action gives silence on the outputs and clears their owner tag. -/
  | audioUnroute (n : Fin 64)
  /-- AUDIO_COMPANION (R329): The COMPANION action replaces the companion of an IP or re-entry source at once. -/
  | audioCompanion (n : Fin 64)
  /-- OP_LEAVE_REQ (R404): OP_LEAVE_REQ adds tokens to a head's grant, or checks the request without granting under dry_run. -/
  | opLeaveReq (n : Fin 64)
  /-- OP_LEAVE_RET (R404): OP_LEAVE_RET returns tokens from a head's grant. -/
  | opLeaveRet (n : Fin 64)
  /-- OP_NV_READ (R466): OP_NV_READ copies bytes of a page from the mirror to a host buffer. -/
  | opNvRead (n : Fin 64) (ok : Bool)
  /-- OP_NV_WRITE (R467): OP_NV_WRITE merges data into a page and appends a record, completing when the record is acknowledged. -/
  | opNvWrite (n : Fin 64) (data : Option (List Byte))
  /-- NV_COUNT_READ (R468): The READ action of OP_NV_COUNT returns a wear counter's value. -/
  | nvCountRead (n : Fin 64)
  /-- NV_COUNT_INCREMENT (R468): The INCREMENT action programs one cell of a wear counter and completes when it is acknowledged. -/
  | nvCountIncrement (n : Fin 64)
  /-- KEY_GENERATE (R427): The GENERATE subcode creates a key in a slot from the cocoon's generator. -/
  | keyGenerate (n : Fin 64)
  /-- KEY_IMPORT (R427): The IMPORT subcode imports a public key into a slot after checking that it lies on the curve. -/
  | keyImport (n : Fin 64) (data : Option (List Byte))
  /-- KEY_DERIVE (R427): The DERIVE subcode derives a key into a slot from a source slot and a label. -/
  | keyDerive (n : Fin 64) (data : Option (List Byte))
  /-- KEY_DELETE (R427): The DELETE subcode frees a key slot, with release ending a dike owner's counter tie. -/
  | keyDelete (n : Fin 64)
  /-- KEY_LIMIT (R427): The LIMIT subcode lowers a counted key's use limit. -/
  | keyLimit (n : Fin 64)
  /-- KEY_INFO (R427): The INFO subcode writes a slot record, public key and for slot 0 the Getrum certificate. -/
  | keyInfo (n : Fin 64) (ok : Bool)
  /-- KEY_SIGN (R427): The SIGN subcode signs a digest with a private key. -/
  | keySign (n : Fin 64) (data : Option (List Byte))
  /-- KEY_VERIFY (R427): The VERIFY subcode checks a signature against a key. -/
  | keyVerify (n : Fin 64) (data : Option (List Byte))
  /-- KEY_MAC (R427): The MAC subcode computes an HMAC-SHA-384 tag over data. -/
  | keyMac (n : Fin 64) (data : Option (List Byte))
  /-- KEY_ENCRYPT (R427): The ENCRYPT subcode encrypts data with AES-256-GCM. -/
  | keyEncrypt (n : Fin 64) (data : Option (List Byte))
  /-- KEY_DECRYPT (R427): The DECRYPT subcode decrypts and authenticates data with AES-256-GCM. -/
  | keyDecrypt (n : Fin 64) (data : Option (List Byte))
  /-- KEY_HASH (R427): The HASH subcode computes SHA-384 over data. -/
  | keyHash (n : Fin 64) (data : Option (List Byte))
  /-- KEY_ATTEST (R430): The ATTEST subcode signs a statement about a slot with the identity key. -/
  | keyAttest (n : Fin 64) (data : Option (List Byte))
  /-- KEY_CHALLENGE (R432): The CHALLENGE subcode returns and records 48 random bytes for the ring. -/
  | keyChallenge (n : Fin 64) (ok : Bool)
  /-- KEY_RESPOND (R432): The RESPOND subcode verifies an admin signature over the challenge and makes the ring privileged. -/
  | keyRespond (n : Fin 64) (data : Option (List Byte))
  /-- CHALLENGE_EXPIRY (R432): A challenge not answered within 10 s expires. -/
  | challengeExpiry (n : Fin 64)
  /-- UNLOCK_LOCKOUT_EXPIRY (R434): The 60 s refusal of CHALLENGE after 8 consecutive failed responses ends. -/
  | unlockLockoutExpiry
  /-- KEY_ADMIN_SET (R431): The ADMIN_SET subcode sets or replaces the admin public key. -/
  | keyAdminSet (n : Fin 64) (data : Option (List Byte))
  /-- KEY_RECOMMISSION (R441): The RECOMMISSION subcode generates a new root secret and new identity and seal keys on a keyless module. -/
  | keyRecommission (n : Fin 64)
  /-- DIKE_BIND (R284): The BIND action binds a head's dike to an owner key slot and ties the key to a wear counter. -/
  | dikeBind (n : Fin 64)
  /-- DIKE_CONTENT (R291): The CONTENT action copies, verifies and counts a signed dike update and queues it as a commit. -/
  | dikeContent (n : Fin 64) (sig : Option (List Byte)) (ok : Bool) (ecc : List Machine.HbmErr)
  /-- DIKE_UNBIND (R292): The UNBIND action disables the dike and releases the binding at its flip. -/
  | dikeUnbind (n : Fin 64) (sig : Option (List Byte))
  /-- DIKE_REAPPLY (R290): The REAPPLY action restores the last accepted dike content by digest without a new signature. -/
  | dikeReapply (n : Fin 64) (ok : Bool) (ecc : List Machine.HbmErr)
  /-- PUSH_SET (R273): The SET action enables or changes a push channel and asks for or returns the difference in tokens. -/
  | pushSet (n : Fin 64)
  /-- PUSH_DISABLE (R273): The DISABLE action stops a push channel at once and returns its tokens. -/
  | pushDisable (n : Fin 64)
  /-- PUSH_REFRESH (R273): The REFRESH action makes the next push send every tile. -/
  | pushRefresh (n : Fin 64)
  /-- SEAL_LOG_SET (R305): The LOG_SET action opens the as-run log ring in host memory. -/
  | sealLogSet (n : Fin 64)
  /-- SEAL_LOG_OFF (R305): The LOG_OFF action closes the as-run log. -/
  | sealLogOff (n : Fin 64)
  /-- SEAL_READ (R305): The READ action writes the latest seal of a head to a host buffer. -/
  | sealRead (n : Fin 64) (ok : Bool)
  /-- SEAL_NOW (R305): The NOW action makes the head's next record trigger a seal. -/
  | sealNow (n : Fin 64)
  /-- RASTER_PERIOD_START (R250): At p_j the polder's raster period begins, its frame count rises by one and its heads and destinations start line 1. -/
  | rasterPeriodStart (p : Fin 32)
  /-- SLUICE_CLOSE (R124): At line S the sluice for the next frame closes, commits lock and the head's layers take their source frames and start composing. -/
  | sluiceClose (h : Fin 256)
  /-- COMPOSE_DEADLINE (R174): At 8 lines before the flip, every layer whose fetch has not finished is dropped from the remaining tile rows. -/
  | composeDeadline (h : Fin 256) (late : List (Fin 8 × Nat))
  /-- FLIP (R124): At line F the head's buffers swap, queued commits land and the frame ledger classifies every layer. -/
  | flip (h : Fin 256) (seen : Machine.FlipSeen)
  /-- PUSH_READ_END (R275): A push's read of the front buffer ends and its changed tiles and FRAME_END are written. -/
  | pushReadEnd (c : Fin 8) (tiles : List (BitVec 64 × List Byte)) (ok : Bool)
  /-- PUSH_HEAD_WRITE (R276): A write to PUSH[c].HEAD returns space in the push ring. -/
  | pushHeadWrite (c : Fin 8) (v : BitVec 32)
  /-- PIN_SENSE_JUDGEMENT (R297): The judgement of a destination's frame ends matched or mismatched. -/
  | pinSenseJudgement (d : Fin 256) (spots : BitVec 4) (lines : Nat) (hashes : List Byte)
  /-- SEAL_DUE (R302): A head's seal falls due interval_ms after its previous seal was signed. -/
  | sealDue (h : Fin 256)
  /-- SEAL_SIGNED (R302): The cocoon finishes signing a Dolcia seal, which raises EV_SEAL and goes to the log. -/
  | sealSigned
  /-- LOG_HEAD_WRITE (R303): A write to PSN.LOG_HEAD returns log space, after which a GAP entry reports lost entries. -/
  | logHeadWrite (v : BitVec 32)
  /-- SCAN_FORCE_LINE (R254): A write to HEAD[n].SCAN_CTL.force_line keeps the head in LINE mode or releases it. -/
  | scanForceLine (h : Fin 256) (on : Bool)
  /-- HEAD_RST_GO (R497): A write of go to GLB.HEAD_RST resets the named head, which recovers through LINE mode. -/
  | headRstGo (h : Fin 256)
  /-- CONTAINMENT_HEAD_RESET (R519): A scan watchdog, credit audit or control-state fault on a head triggers a head reset with EV_HEAD_FAULT. -/
  | containmentHeadReset (h : Fin 256) (cause : Fin 3)
  /-- CREDIT_AUDIT (R33): Every 1,024 cycles each dual-clock queue's credit sum is checked and a mismatch is contained by queue class. -/
  | creditAudit (faults : List Machine.QueueFault)
  /-- SIGNAL_DETECT (R83): A lane detecting a signal starts the rate search at the first rate. -/
  | signalDetect (n : Fin 144)
  /-- RATE_DWELL_EXPIRY (R83): After 2 ms on a rate without lock the receiver moves to the next rate of the search. -/
  | rateDwellExpiry (n : Fin 128)
  /-- CDR_LOCK (R83): The lane's CDR locks and the source leaves IDLE for SEARCH. -/
  | cdrLock (n : Fin 128)
  /-- CDR_LOSS (R82): The lane's CDR loses lock and the source goes to IDLE or LOST. -/
  | cdrLoss (n : Fin 128)
  /-- SDI_FRAME (R84): A received SDI frame is measured, written and, once whole, published or counted as damaged. -/
  | sdiFrame (n : Fin 128) (p : Machine.SdiPart)
  /-- TRS_LOSS (R102): No valid TRS for 16 consecutive line periods takes a LOCKED SDI source to LOST. -/
  | trsLoss (n : Fin 128)
  /-- PUBLISH_TIMEOUT (R102): No frame published for 3 frame periods takes a LOCKED source to LOST. -/
  | publishTimeout (n : Fin 256)
  /-- IP_VIDEO_PACKET (R94): A received ST 2110-20 packet is matched to a leg and written to its place in the frame, possibly closing it. -/
  | ipVideoPacket (p : Machine.IpPacket)
  /-- MERGE_WINDOW_EXPIRY (R94): merge_ms after the first leg's marker a seamless frame closes complete or damaged. -/
  | mergeWindowExpiry (n : Fin 256)
  /-- IP_FLOW_TIMEOUT (R102): No packet on any leg for 2 frame periods takes a LOCKED IP source to LOST. -/
  | ipFlowTimeout (n : Fin 256)
  /-- LEG_LOST (R95): A leg that delivers no packet for 100 ms is leg-lost and raises EV_SRC_LEG_LOST. -/
  | legLost (n : Fin 256) (legB : Bool)
  /-- IGMP_QUERY (R91): A received IGMP query is answered for the joined groups. -/
  | igmpQuery (port : Fin 2) (sub : Fin 8) (tagged : Bool) (vid : BitVec 12) (version : Fin 4) (group : BitVec 32) (srcs : List (BitVec 32))
  /-- IGMP_REPORT_REPEAT (R91): 1 s after a state-change report the module sends it a second time. -/
  | igmpReportRepeat
  /-- BUILD_START (R219): At p_j a conversion publishes frame j or withholds it, and starts building the next frame. -/
  | buildStart (m : Fin 128) (sight : Machine.BuildSight)
  /-- AUDIO_SAMPLE_POSITION (R317): The timeline advances one 48 kHz position and every output reads its input at its delay, applying switches and ramps. -/
  | audioSamplePosition (arr : List Machine.SdiAudio)
  /-- AUDIO_PACKET (R323): A received ST 2110-30 or -31 packet delivers its samples at their RTP positions. -/
  | audioPacket (p : Machine.AudioPacket)
  /-- AUDIO_SEND_PACKET (R324): A send flow packet leaves carrying the samples of N positions. -/
  | audioSendPacket (k : Fin 1024)
  /-- CLASS_MEASUREMENT (R325): A clock group's rate measured over 4 s under AUTO sets its class SYNC or ASYNC. -/
  | classMeasurement (g : Fin 1152) (ppm : Int) (steady : Bool)
  /-- IP_SEND_PACKET (R268): A paced ST 2110-20 packet of a send flow leaves at its scheduled time. -/
  | ipSendPacket (k : Fin 128)
  /-- PHC_INCR_WRITE (R347): A write to PHC.INCR_FRAC applies the new increment at the next tick, clamped to ±500 ppm. -/
  | phcIncrWrite (frac : BitVec 32)
  /-- PHC_STEP_GO (R348): A write of go to PHC.STEP_CTL steps the PHC, at once or at the next PPS edge, or refuses an out-of-range amount. -/
  | phcStepGo (mode atPps : Bool)
  /-- PHC_NOW_READ (R346): A read of PHC.NOW_NS latches the fraction and seconds of the same tick. -/
  | phcNowRead (who : Fin 3)
  /-- PHC_HOLDOVER_TIMEOUT (R349): No increment write for timeout_ms puts the PHC into holdover. -/
  | phcHoldoverTimeout
  /-- PPS_EDGE (R352): An active PPS edge captures the PHC and may apply an aligned or waiting step. -/
  | ppsEdge
  /-- PPS_LOST (R352): No PPS edge for 1.5 s raises EV_PPS_LOST. -/
  | ppsLost
  /-- REF_ALIGNMENT_POINT (R354): An analog reference frame's alignment point is timestamped and its format judged. -/
  | refAlignmentPoint (r : Fin 2) (mode : BitVec 8) (tri : Bool) (ppm : BitVec 16)
  /-- REF_SYNC_ABSENT (R354): Sync absent for 10 line periods sets the reference ABSENT and raises EV_REF_LOST. -/
  | refSyncAbsent (r : Fin 2)
  /-- SYNTH_CONFIG_WRITE (R356): An accepted write of FNUM, FDEN, source or enable starts a new acquisition of the synthesiser. -/
  | synthConfigWrite (n : Fin 32) (reg : Fin 3) (v : BitVec 32)
  /-- SYNTH_LOCK (R357): A synthesiser locks and aligns every output in use to its target. -/
  | synthLock (n : Fin 32) (clk10 : Bool)
  /-- SYNTH_ALIGNMENT_POINT (R360): At each alignment point the lead output's phase error is measured and a slew or relock begins. -/
  | synthAlignmentPoint (n : Fin 32)
  /-- SLEW_STEP (R360): A slewing synthesiser moves its frequency by one change of at most 10 ppm after 1 ms. -/
  | slewStep (n : Fin 32)
  /-- RELOCK (R361): The synthesiser reacquires its source frequency and removes the phase error at the next raster period start. -/
  | relock (n : Fin 32)
  /-- SOURCE_SWITCH (R362): A synthesiser whose source is lost switches hitlessly to its fallback or enters holdover. -/
  | sourceSwitch (n : Fin 32) (clk10 : Bool)
  /-- SYNTH_REVERT (R362): A revertive synthesiser returns to its primary source once it has been present for 10 s. -/
  | synthRevert (n : Fin 32) (clk10 : Bool)
  /-- POLDER_CTL_WRITE (R364): A write to POLDER[p].CTL is applied or ignored with wr_ignored set. -/
  | polderCtlWrite (p : Fin 32) (v : BitVec 32)
  /-- HQ_RX_FRAME (R383): A received frame of a host class is written with its timestamp into the receive ring or discarded. -/
  | hqRxFrame (p : Fin 2) (q : Fin 8) (tci : Option (BitVec 16)) (stepped : Bool) (f : List Byte)
  /-- HQ_TX_DB (R384): A write to NET.HQ.TX_DB queues transmit entries for sending. -/
  | hqTxDb (v : BitVec 16)
  /-- HQ_TX_DONE (R385): A host frame leaves in a media gap, its entry is written back and TX_HEAD advances. -/
  | hqTxDone (entry : Option (List Byte)) (dmaOk stepped : Bool)
  /-- LANE_GRP_ENABLE (R373): Setting a lane group's enable asks for leave and powers the group, or is refused. -/
  | laneGrpEnable (g : Fin 8)
  /-- LANE_GRP_DISABLE (R373): Clearing a lane group's enable powers its lanes down, or is ignored while a lane is in use. -/
  | laneGrpDisable (g : Fin 8)
  /-- PORT_ENABLE (R373): Setting a port's enable asks for leave and powers the port. -/
  | portEnable (p : Fin 2)
  /-- PORT_DISABLE (R379): Clearing a port's enable powers it down, or is ignored while a flow names it. -/
  | portDisable (p : Fin 2)
  /-- POWER_DOWN_END (R373): Power-down of a group or port ends and its tokens return to free. -/
  | powerDownEnd (i : Fin 10)
  /-- PORT_LINK_CHANGE (R378): A subport's link goes up or down and raises EV_PORT_LINK. -/
  | portLinkChange (p : Fin 2) (q : Fin 8) (up : Bool)
  /-- FEC_REPORT (R397): Once per second with uncorrectable codewords EV_PORT_FEC is raised. -/
  | fecReport (p : Fin 2) (corrected uncorrected : Nat)
  /-- LOOP_SELECT (R376): A write to LANE[n].LOOP sets the lane's loop within 50 µs. -/
  | loopSelect (n : Fin 144) (mode : BitVec 2)
  /-- PRBS_GENERATOR_SELECT (R377): A write of the gen field selects the lane's pattern generator. -/
  | prbsGeneratorSelect (n : Fin 144) (gen : BitVec 4)
  /-- PRBS_CHECKER_SELECT (R377): A write of the chk field selects the checker and clears its counters. -/
  | prbsCheckerSelect (n : Fin 144) (chk : BitVec 4)
  /-- PRBS_INJECT (R377): A write of inject adds one bit error to the generated stream. -/
  | prbsInject (n : Fin 144)
  /-- LEAVE_CFG_WRITE (R406): A write to LEAVE.CFG sets a new limit, and the withheld holder moves towards its target. -/
  | leaveCfgWrite (v : BitVec 32)
  /-- LEAVE_AUDIT (R408): Every microsecond the arbiter checks its invariants and on a mismatch refuses further requests. -/
  | leaveAudit (powUpset fetUpset : Bool)
  /-- SUPPLY_MEASUREMENT (R409): Every 100 µs input voltage and power are measured and supply sheds entered or cleared. -/
  | supplyMeasurement (mv10 : BitVec 16) (p : BitVec 13)
  /-- POWER_FAIL (R410): The input falling below 33 V for 200 µs or below 20 V stops every output, finishes the NV operation and holds the module in reset. -/
  | powerFail
  /-- POWER_FAIL_RECOVERY (R410): The input above 36 V for 100 ms after a power fail starts the module as from power-on reset. -/
  | powerFailRecovery
  /-- THERMAL_SAMPLE (R412): Every 1 ms the highest junction reading sets or clears the thermal shed level. -/
  | thermalSample (tj : List (BitVec 11)) (tcp : BitVec 11)
  /-- THERMAL_TRIP (R413): The analog comparator at 115 °C powers the video dies down and takes outputs off air. -/
  | thermalTrip (sensor : Fin 24) (temp : BitVec 11)
  /-- TRIP_RECOVER (R413): A write of LEAVE.SHED.recover requests the warm reset after a trip. -/
  | tripRecover
  /-- BREACH (R437): A tamper sensor trips and the cocoon zeroes the root secret and keys and latches the breach record. -/
  | breach (cause : BitVec 6)
  /-- BREACH_ACK (R437): A write of COC.CTL.ack releases TAMPER_OUT_N when no sensor reports a fault. -/
  | breachAck (live : BitVec 6)
  /-- AON_MAPPING (R442): Once per second at a whole PHC second the cocoon records the always-on count and PHC seconds. -/
  | aonMapping
  /-- BATT_MEASURE (R444): The coin-cell voltage is measured at power-on and hourly, raising EV_BATT_LOW below 2.6 V. -/
  | battMeasure (mv : BitVec 12) (present : Bool)
  /-- RECALL_SCAN (R456): After reset the NV store reads every sector, resolves twins and counters and loads the mirror. -/
  | recallScan (f : Machine.NvFound)
  /-- RECALL_DONE (R456): The recall scan ends with state READY and EV_NV_RECALL_DONE. -/
  | recallDone (ms : Nat)
  /-- NV_RECORD_ACK (R453): A record's commit word verifies and the page write is acknowledged, or fails with CS_NV_FAIL. -/
  | nvRecordAck (ok : Bool)
  /-- NV_CELL_ACK (R460): A counter cell verifies and the increment is acknowledged, or the next cell is tried. -/
  | nvCellAck (ok : Bool)
  /-- NV_ERASE_DONE (R455): A sector erase completes, or fails and retires the sector. -/
  | nvEraseDone (ok : Bool)
  /-- PACED_WRITE (R451): At most every 2 s the module appends the next queued system page. -/
  | pacedWrite
  /-- NV_COMPACTION (R455): With fewer than 4 erased sectors the module copies the live records of the oldest sector and erases it. -/
  | nvCompaction
  /-- NV_SCRUB (R454): Every scrub_h hours the module scrubs the records and rewrites corrected ones. -/
  | nvScrub (found : List (Nat × Nat × Nat)) (base : Nat)
  /-- HOLDUP_READY (R463): The hold-up store reaches 1.0 J and waiting programs and erases may start. -/
  | holdupReady (mj : Fin 4096)
  /-- FLASH_TIMEOUT (R464): A flash that does not report completion in time is reset and the operation counts as failed. -/
  | flashTimeout (answers : Bool)
  /-- MGMT_WATCHDOG (R475): A pair that fails to service its watchdog for 250 ms receives a management watchdog reset. -/
  | mgmtWatchdog (p : Fin 2) (burst : Bool)
  /-- LOCKSTEP_MISMATCH (R475): The lockstep checker finds a mismatch and resets the pair. -/
  | lockstepMismatch (p : Fin 2) (burst : Bool)
  /-- PAIR_BOOT (R486): A pair boots from the boot ROM, verifying and running the slot with the higher commit sequence. -/
  | pairBoot (p : Fin 2) (badA badB : Bool)
  /-- MOULT_STAGE (R487): The STAGE command DMAs, programs and verifies a new image in the other slot. -/
  | moultStage
  /-- MOULT_STAGE_DONE (R487): Staging ends with the image verified and the standby pair loading it, or REJECTED. -/
  | moultStageDone (x : Machine.StagedImage)
  /-- MOULT_GO (R488): The GO command quiesces the serving pair towards the quiet point. -/
  | moultGo
  /-- QUIET_POINT (R488): At the quiet point the pairs swap roles and probation begins. -/
  | quietPoint
  /-- QUIET_TIMEOUT (R488): No quiet point within 100 ms rejects the moult with reason QUIET. -/
  | quietTimeout
  /-- MOULT_COMMIT (R489): The COMMIT command writes the new slot's commit record and ends probation. -/
  | moultCommit
  /-- MOULT_ROLLBACK (R489): The ROLLBACK command returns service to the old pair and image. -/
  | moultRollback
  /-- PROBATION_EXPIRY (R489): The end of the probation time commits the new image. -/
  | probationExpiry
  /-- WINDOW_WRITE (R484): A BAR0 write through the expert window sets a block register without validation, or is discarded. -/
  | windowWrite (addr v : BitVec 32)
  /-- FUSE_ARM (R491): Writing 0xB10C to MGMT.LOCK.arm arms the field-lock fuse. -/
  | fuseArm
  /-- FUSE_BLOW (R491): Writing blow within 1 ms of arming blows the field-lock fuse. -/
  | fuseBlow
  /-- WARM_RESET (R498): A warm reset writes the NV queue, stops heads, resets the data path and host interface and reboots the pairs. -/
  | warmReset
  /-- MOD_RST_N (R496): MOD_RST_N low for 10 µs resets everything except the battery-backed domain and the NV store. -/
  | modRstN
  /-- POWER_ON_RESET (R496): First power-on resets the module and starts the PHC, arbiter precharge and recall scan. -/
  | powerOnReset (f : Machine.OffTime)
  /-- PWR_TARGET_RUN (R503): A request for RUN wakes the module and returns stopped heads through LINE mode. -/
  | pwrTargetRun
  /-- PWR_TARGET_QUIET (R502): A request for QUIET stops every head at its next flip, or is refused. -/
  | pwrTargetQuiet
  /-- PWR_TARGET_STANDBY (R502): A request for STANDBY writes the NV queue and power-gates the video dies and pairs, or is refused. -/
  | pwrTargetStandby
  /-- STANDBY_ENTRY_DONE (R501): Entry to STANDBY completes once the NV queue is written. -/
  | standbyEntryDone
  /-- WAKE_DONE (R503): Wake from QUIET or STANDBY completes and PWR_STAT reads RUN. -/
  | wakeDone
  /-- RESTORE_CONFIG_WRITE (R504): A write of auto_restore or gated is written at once to the NV system pages. -/
  | restoreConfigWrite (auto gated : Bool)
  /-- RESTORE_GO (R504): A write of go releases a gated restoration. -/
  | restoreGo
  /-- RESTORATION (R504): After reset and recall the module restores RWS fields, flows, claims, heads, routes and dikes in order. -/
  | restoration
  /-- RESTORE_POLDER_TIMEOUT (R504): A head whose polder is not ready within 5 s counts as failed. -/
  | restorePolderTimeout
  /-- EVENT_OCCURRENCE (R511): A block raises an event that is suppressed, overflowed or staged for delivery. -/
  | eventOccurrence (src : Fin 320) (code : BitVec 16) (d : List Byte)
  /-- EVENT_RECORD_WRITE (R511): A staged occurrence is written as a record into its event ring. -/
  | eventRecordWrite (k : Fin 4) (ok : Bool)
  /-- EVENT_RING_ENABLE (R73): Setting EVT.ER_CTL[k].enable opens an event ring at index 0 with phase 1. -/
  | eventRingEnable (k : Fin 4) (v : BitVec 32)
  /-- EVENT_RING_TIMER (R513): ER_MOD.time_us after the first unsignalled record the event ring raises its vector. -/
  | eventRingTimer (k : Fin 4)
  /-- SW_RAISE (R514): A write to EVT.SW_RAISE raises EV_SOFTWARE on source 312 + index. -/
  | swRaise (v : BitVec 32)
  /-- PATROL_SCRUB (R515): Every hbm_h hours the patrol scrub reads and corrects all of HBM. -/
  | patrolScrub (found : List Machine.HbmErr)
  /-- SRAM_SCRUB (R515): Every sram_s seconds every SRAM word is read and corrected. -/
  | sramScrub (found : List Machine.SramErr)
  /-- BAR2_ACCESS (R538): A BAR2 access reaches HBM through the window, merging partial granules. -/
  | bar2Access (off : BitVec 32) (acc : Nat ⊕ List Byte) (ecc : List Machine.HbmErr)
  /-- UNMAPPED_ACCESS (R532): An access to an unmapped BAR0 address returns 0 or is discarded and counted. -/
  | unmappedAccess (addr : BitVec 32) (write : Bool)
  /-- BAD_SIZE_ACCESS (R533): A BAR0 access that is not an aligned 32-bit access returns 0 or is discarded and counted. -/
  | badSizeAccess (addr : BitVec 32) (write : Bool)
  /-- REGISTER_WRITE (R9): A write to a register that has no row of its own sets, clears or triggers its fields by their access codes. -/
  | registerWrite (addr v : BitVec 32)
  /-- CLEAR_FAULTS (R553): The PMBus CLEAR_FAULTS command clears latched status bits whose cause has ended. -/
  | clearFaults
  /-- STATUS_WORD (R553): The PMBus STATUS_WORD command returns the status bits. -/
  | statusWord
  /-- READ_VIN (R553): The PMBus READ_VIN command returns the input voltage. -/
  | readVin
  /-- READ_IIN (R553): The PMBus READ_IIN command returns the input current. -/
  | readIin
  /-- READ_TEMPERATURE_1 (R553): The PMBus READ_TEMPERATURE_1 command returns the cold-plate temperature. -/
  | readTemperature1
  /-- READ_TEMPERATURE_2 (R553): The PMBus READ_TEMPERATURE_2 command returns the highest junction temperature. -/
  | readTemperature2
  /-- READ_PIN (R553): The PMBus READ_PIN command returns the input power. -/
  | readPin
  /-- MFR_ID (R553): The PMBus MFR_ID command returns the manufacturer name. -/
  | mfrId
  /-- MFR_MODEL (R553): The PMBus MFR_MODEL command returns the ordering code. -/
  | mfrModel
  /-- MFR_SERIAL (R553): The PMBus MFR_SERIAL command returns the serial number as 25 digits. -/
  | mfrSerial
  /-- MFR_POWER_LIMIT (R554): The PMBus MFR_POWER_LIMIT command reads or sets the frame's power limit. -/
  | mfrPowerLimit (w : Option (BitVec 16))
  /-- MFR_FETCH_LIMIT (R554): The PMBus MFR_FETCH_LIMIT command reads or sets the frame's fetch limit. -/
  | mfrFetchLimit (w : Option (BitVec 16))
  /-- MFR_STATE (R553): The PMBus MFR_STATE command requests a power state or reads the current one. -/
  | mfrState (w : Option (BitVec 8))
  /-- PMBUS_UNSUPPORTED (R553): An unsupported PMBus command or out-of-range value is NACKed and sets CML. -/
  | pmbusUnsupported (code : BitVec 8) (write : Bool)
  /-- REGISTER_READ (R9): A BAR0 read of a register returns its value and, for RC fields and latching low words, clears the field or latches the high word. -/
  | registerRead (who : Fin 3) (addr : BitVec 32)
  /-- D3HOT_ENTRY (R388): The function enters D3hot, performs no DMA and sends no MSI-X messages, and ring operations wait as for a full completion ring. -/
  | d3hotEntry
  /-- PCIE_AER_ERROR (R397): A correctable, non-fatal or fatal error on the host link is recorded under AER and raises EV_PCIE_AER on event source 275. -/
  | pcieAerError (severity : Fin 3) (status : BitVec 32)
  /-- LANE_SIGNAL_LOST (R397): A lane stops detecting a signal, clears LANE.STAT.signal, stops its rate search and raises EV_LANE_SIGNAL with byte 22 set to 0. -/
  | laneSignalLost (n : Fin 144)
  /-- PRBS_CHECKER_LOCK (R377): A pattern checker locks after 64 consecutive error-free words, starts counting and raises EV_LANE_PRBS as locked. -/
  | prbsCheckerLock (n : Fin 144)
  /-- PRBS_CHECKER_LOSS (R377): A locked pattern checker reports loss of lock after 64 consecutive errored words and raises EV_LANE_PRBS as lost. -/
  | prbsCheckerLoss (n : Fin 144) (compared errors : Nat)
  /-- ANCILLARY_PACKET (R89): A received ST 2110-40 packet of a kind 4 flow is matched to its leg and attached to the frame of its video source. -/
  | ancillaryPacket (p : Machine.IpPacket) (a : Machine.Anc)
  /-- UNMATCHED_FRAME (R381): A received frame that matches no receive leg and no host class is discarded and counted in NET.SUB[q].RX_DROP. -/
  | unmatchedFrame (p : Fin 2) (q : Fin 8) (tci : Option (BitVec 16)) (f : List Byte)
  /-- KEY_OPERATION_END (R439): A cocoon operation that took time, such as a signature, verification, MAC or cipher over a large buffer, finishes and writes its output and completion. -/
  | keyOperationEnd (n : Fin 64) (ok : Bool)
  /-- J4_DISCONNECT (R480): Disconnecting J4 resets the DBG master, whose port converter drains any burst in progress and counts it in FAB_STAT.drained. -/
  | j4Disconnect (burst : Bool)
  deriving DecidableEq, Repr

end Sys2Proof
end

