-- ==== Sys2Proof/Decode.lean ====
section
/-!
DEFINITION. Decode.lean: spec/opcode_table.json gives no bits to any row of this block. Its commands are not words: a
descriptor is data in a ring, and its decoding is Machine/Operands.lean's.
-/
namespace Sys2Proof

/-- The command that a word of the table spells: none, for no row has bits. -/
def decodeTableWord (_nbits _w : Nat) : Option Instr := none

end Sys2Proof
end

