-- ==== Sys2Proof/Machine/Operands.lean ====
section
/-!
DEFINITION. Machine/Operands.lean: the operand forms: bit fields, byte order, the fields of a descriptor, and
which descriptors are well formed (R12, R13, R15, R46, R54).
-/
namespace Sys2Proof.Machine

/-! ## Bits and bytes -/

/-- Bits [hi:lo] of a number. -/
def bits (v hi lo : Nat) : Nat := v / 2 ^ lo % 2 ^ (hi + 1 - lo)

/-- A number with bits [hi:lo] replaced. -/
def putBits (v hi lo x : Nat) : Nat := v - bits v hi lo * 2 ^ lo + x % 2 ^ (hi + 1 - lo) * 2 ^ lo

/-- `n` bytes of a number, little-endian (R12). -/
def leBytes : Nat → Nat → List Byte
  | 0, _ => []
  | n + 1, v => BitVec.ofNat 8 v :: leBytes n (v / 256)

/-- A little-endian number. -/
def leNat : List Byte → Nat
  | [] => 0
  | b :: t => b.toNat + 256 * leNat t

/-- Byte `i` of a descriptor, 0 beyond its end. -/
def u8 (d : List Byte) (i : Nat) : Nat := (d.getD i 0).toNat
def u16 (d : List Byte) (i : Nat) : Nat := u8 d i + 256 * u8 d (i + 1)
def u32 (d : List Byte) (i : Nat) : Nat := u16 d i + 65536 * u16 d (i + 2)
def u64 (d : List Byte) (i : Nat) : Nat := u32 d i + 4294967296 * u32 d (i + 4)

/-- Bit `k` of byte `i`. -/
def ubit (d : List Byte) (i k : Nat) : Bool := decide (bits (u8 d i) k k = 1)

/-- A 16-bit two's complement field. -/
def s16 (d : List Byte) (i : Nat) : Int :=
  if u16 d i < 32768 then (u16 d i : Int) else (u16 d i : Int) - 65536

/-- `n` bytes from offset `i`, padded with 0. -/
def bytesAt (d : List Byte) (i n : Nat) : List Byte := (List.range n).map fun k => d.getD (i + k) 0

/-- Host data of a DMA read, cut or padded to the length the descriptor names. -/
def dmaFit (d : List Byte) (n : Nat) : List Byte := bytesAt d 0 n

/-- Two signed halves of a two's complement word of `w` bits. -/
def toTwos (w : Nat) (v : Int) : Nat := (v % (2 ^ w : Int)).toNat

/-- 1 for true. -/
def b2n (b : Bool) : Nat := if b then 1 else 0

/-! ## Opcodes -/

/-- The opcode list of R15. -/
def isOpcode (opc : Nat) : Bool :=
  [0x01, 0x02, 0x03, 0x10, 0x11, 0x12, 0x13, 0x20, 0x21, 0x22, 0x30, 0x31, 0x32, 0x40, 0x41, 0x48, 0x50, 0x60, 0x61,
   0x70, 0x71, 0x72, 0x80, 0x81, 0x90, 0xA0, 0xA1, 0xF0, 0xF1].contains opc

/-- The opcodes a TAKE-class ring accepts (R46). -/
def takeAccepts (opc : Nat) : Bool :=
  [0x01, 0x02, 0x03, 0x10, 0x11, 0x12, 0x13, 0x40, 0x41, 0x50, 0x60, 0x61, 0xF0, 0xF1].contains opc

/-! ## Malformed descriptors (R13, R54) -/

/-- Every byte from `lo` to `hi` is 0. -/
def zeros (d : List Byte) (lo hi : Nat) : Bool := (List.range (hi + 1 - lo)).all fun i => u8 d (lo + i) == 0

/-- The masked bits of byte `i` are 0. -/
def zbits (d : List Byte) (i hi lo : Nat) : Bool := bits (u8 d i) hi lo == 0

/-- The reserved bytes and bits of a descriptor's body are 0, by opcode. Byte 11 of OP_NV_READ is read as OP_NV_WRITE's: bit 0 is a
flag, which R469 refuses, and bits 7 to 1 are reserved (DESIGN CHOICE, log 77). -/
def reservedOk (d : List Byte) : Bool :=
  match u8 d 0 with
  | 0x01 => zbits d 17 7 3 && zeros d 36 63
  | 0x02 => zeros d 14 15 && zeros d 28 63
  | 0x03 => zeros d 16 63
  | 0x10 => zbits d 10 7 6 && zeros d 11 11 && zbits d 52 7 4 && zeros d 53 55 && zeros d 57 63
  | 0x11 => zbits d 11 7 6 && zeros d 53 63 &&
      (match u8 d 12 with
       | 0 => zeros d 16 23
       | 1 => zeros d 18 23
       | 2 => zeros d 20 23
       | 3 => zbits d 20 7 4 && zeros d 21 23
       | 4 => zbits d 20 7 4 && zeros d 21 23
       | _ => true)
  | 0x12 => zeros d 11 11 && zeros d 14 15 && zeros d 28 63
  | 0x13 => zeros d 10 63
  | 0x20 => zbits d 9 7 1 && zeros d 13 15 && zeros d 28 63
  | 0x21 => zeros d 13 15 && zeros d 36 63
  | 0x22 => zeros d 12 63
  | 0x30 => zeros d 11 11 && zeros d 15 15 && zeros d 30 63
  | 0x31 =>
      let common := zbits d 9 7 2 && zbits d 23 6 4 && zbits d 24 7 4 && zbits d 25 7 4 && zbits d 37 6 4
      common && (match u8 d 8 with
       | 1 => zeros d 47 63
       | 2 => zeros d 43 63
       | 3 => zeros d 43 63
       | 4 => zeros d 41 63
       | 5 => zeros d 49 51 && zeros d 56 63
       | 6 => zeros d 49 51 && zeros d 56 63
       | 7 => zeros d 49 51 && zeros d 56 63
       | 8 => zeros d 49 51 && zeros d 56 63
       | _ => zeros d 49 51 && zeros d 56 63)
  | 0x32 => zeros d 12 63
  | 0x40 => zbits d 9 7 2 && zeros d 16 63
  | 0x41 => zbits d 9 7 2 && zbits d 17 7 2 && zeros d 19 63
  | 0x48 => zbits d 9 7 1 && zbits d 13 7 7 && zeros d 34 35 && zeros d 40 63
  | 0x50 => zbits d 9 7 3 && zeros d 36 63
  | 0x60 => zbits d 10 7 1 && zeros d 11 11 && zeros d 16 63
  | 0x61 => zbits d 10 7 1 && zeros d 11 11 && zeros d 16 63
  | 0x70 => zbits d 11 7 1 && zeros d 14 15 && zeros d 24 63
  | 0x71 => zbits d 11 7 1 && zeros d 14 15 && zeros d 28 63
  | 0x72 => zeros d 10 63
  | 0x80 => zbits d 13 7 3 && zeros d 14 15 && zeros d 36 39 && zeros d 48 63
  | 0x81 => zbits d 9 7 2 && zeros d 48 63
  | 0x90 => zbits d 12 7 1 && zeros d 36 63
  | 0xA0 => zeros d 9 9 && zeros d 12 15 && zeros d 28 63
  | 0xA1 => zeros d 13 15 && zeros d 28 63
  | 0xF0 => zeros d 16 63
  | 0xF1 => zbits d 8 7 4 && zeros d 9 63
  | _ => true

/-- A descriptor is well formed for a ring that expects `seq` (R54). -/
def wellFormedDesc (d : List Byte) (seq : BitVec 32) : Bool :=
  isOpcode (u8 d 0) && zbits d 1 7 2 && u8 d 2 == 1 && u8 d 3 == 0 && u32 d 4 == seq.toNat && reservedOk d

end Sys2Proof.Machine
end

