-- ==== Sys2Proof/Machine/RegMap.lean ====
section
/-!
DEFINITION. Machine/RegMap.lean: the register map of BAR0.
One row per register of the spec's register tables (R531 for the arrays, and the address rule of each chapter): its
first address, its arrays (how many, how far apart) and its fields with access code (R9) and value after power-on.
A field whose reset is `view` is a window on state that another structure of `State` holds; every other field lives in
the register file `State.regs`. Each register also has a function from its instance numbers to its address.
-/
namespace Sys2Proof.Machine

/-- The access codes of R9. -/
inductive Acc where
  | rw | ro | w1c | rc | wo | rws
  deriving DecidableEq, Repr

/-- Where a field's value after power-on comes from. -/
inductive Rst where
  /-- a number of the table -/
  | val (n : Nat)
  /-- the instance number plus 1 (SYn.SEED) -/
  | idx1
  /-- the default event ring of the source, R510 -/
  | evtRing
  /-- the default urgency of the source, R510 -/
  | evtUrgent
  /-- the field shows state that is held elsewhere -/
  | view
  deriving DecidableEq, Repr

/-- A field of a register: bits [hi:lo], its access code, its reset, and whether an FLR returns it to its reset. -/
structure Fld where
  hi : Nat
  lo : Nat
  acc : Acc
  rst : Rst
  flr : Bool := false
  deriving DecidableEq, Repr

/-- A register or array of registers: instance (i, j) lies at `base + i * s1 + j * s2`. -/
structure RegRow where
  name : String
  base : Nat
  n1 : Nat
  s1 : Nat
  n2 : Nat
  s2 : Nat
  fields : List Fld
  deriving DecidableEq, Repr

namespace Adr

/-- GLB.ID -/
def glbId : Nat := 0x0
/-- GLB.REV -/
def glbRev : Nat := 0x4
/-- GLB.UID -/
def glbUid (i : Nat) : Nat := 0x10 + i * 0x4
/-- GLB.FUSE -/
def glbFuse : Nat := 0x20
/-- GLB.SCRATCH -/
def glbScratch : Nat := 0x24
/-- GLB.ACC_ERR -/
def glbAccErr : Nat := 0x28
/-- GLB.ACC_ADDR -/
def glbAccAddr : Nat := 0x2c
/-- GLB.PWR_CTL -/
def pwrCtl : Nat := 0x100
/-- GLB.PWR_STAT -/
def pwrStat : Nat := 0x104
/-- GLB.RST_CTL -/
def rstCtl : Nat := 0x108
/-- GLB.RST_CAUSE -/
def rstCause : Nat := 0x10c
/-- GLB.HEAD_RST -/
def headRst : Nat := 0x110
/-- GLB.RESTORE -/
def restore : Nat := 0x114
/-- GLB.RESTORE_STAT -/
def restoreStat : Nat := 0x118
/-- HIF.CAPS -/
def hifCaps : Nat := 0x10000
/-- HIF.BAR2_WIN -/
def bar2Win : Nat := 0x10010
/-- HIF.SQ_BASE_LO -/
def sqBaseLo (i : Nat) : Nat := 0x11000 + i * 0x100
/-- HIF.SQ_BASE_HI -/
def sqBaseHi (i : Nat) : Nat := 0x11004 + i * 0x100
/-- HIF.SQ_CTL -/
def sqCtl (i : Nat) : Nat := 0x11008 + i * 0x100
/-- HIF.SQ_DB -/
def sqDb (i : Nat) : Nat := 0x1100c + i * 0x100
/-- HIF.SQ_HEAD -/
def sqHead (i : Nat) : Nat := 0x11010 + i * 0x100
/-- HIF.SQ_STAT -/
def sqStat (i : Nat) : Nat := 0x11014 + i * 0x100
/-- HIF.SQ_SEQ_NEXT -/
def sqSeqNext (i : Nat) : Nat := 0x11018 + i * 0x100
/-- HIF.SQ_SEQ_POSTED -/
def sqSeqPosted (i : Nat) : Nat := 0x1101c + i * 0x100
/-- HIF.CQ_BASE_LO -/
def cqBaseLo (i : Nat) : Nat := 0x11020 + i * 0x100
/-- HIF.CQ_BASE_HI -/
def cqBaseHi (i : Nat) : Nat := 0x11024 + i * 0x100
/-- HIF.CQ_CTL -/
def cqCtl (i : Nat) : Nat := 0x11028 + i * 0x100
/-- HIF.CQ_HEAD -/
def cqHead (i : Nat) : Nat := 0x1102c + i * 0x100
/-- HIF.CQ_TAIL -/
def cqTail (i : Nat) : Nat := 0x11030 + i * 0x100
/-- HIF.CQ_MOD -/
def cqMod (i : Nat) : Nat := 0x11034 + i * 0x100
/-- HIF.DB_REJECT -/
def dbReject (i : Nat) : Nat := 0x11038 + i * 0x100
/-- HIF.MSIX_TABLE -/
def msixTable (i : Nat) : Nat := 0x18000 + i * 0x4
/-- HIF.MSIX_PBA -/
def msixPba (i : Nat) : Nat := 0x19000 + i * 0x4
/-- EVT.ER_BASE_LO -/
def erBaseLo (i : Nat) : Nat := 0x20000 + i * 0x20
/-- EVT.ER_BASE_HI -/
def erBaseHi (i : Nat) : Nat := 0x20004 + i * 0x20
/-- EVT.ER_CTL -/
def erCtl (i : Nat) : Nat := 0x20008 + i * 0x20
/-- EVT.ER_HEAD -/
def erHead (i : Nat) : Nat := 0x2000c + i * 0x20
/-- EVT.ER_TAIL -/
def erTail (i : Nat) : Nat := 0x20010 + i * 0x20
/-- EVT.ER_MOD -/
def erMod (i : Nat) : Nat := 0x20014 + i * 0x20
/-- EVT.SW_RAISE -/
def swRaise : Nat := 0x20100
/-- EVT.SRC -/
def evtSrc (i : Nat) : Nat := 0x21000 + i * 0x4
/-- EVT.HBM_ECC -/
def hbmEcc : Nat := 0x22000
/-- EVT.HBM_UE_LO -/
def hbmUeLo : Nat := 0x22004
/-- EVT.HBM_UE_HI -/
def hbmUeHi : Nat := 0x22008
/-- EVT.SRAM_ECC -/
def sramEcc : Nat := 0x2200c
/-- EVT.SCRUB -/
def scrub : Nat := 0x22010
/-- EVT.AUDIT -/
def audit : Nat := 0x22014
/-- EVT.CONTAIN -/
def contain : Nat := 0x22018
/-- LEAVE.CFG -/
def lvCfg : Nat := 0x40000
/-- LEAVE.PWR -/
def lvPwr : Nat := 0x40004
/-- LEAVE.FET -/
def lvFet : Nat := 0x40008
/-- LEAVE.HOLD -/
def lvHold : Nat := 0x4000c
/-- LEAVE.SHED -/
def lvShed : Nat := 0x40010
/-- LEAVE.PIN -/
def lvPin : Nat := 0x40014
/-- LEAVE.VIN -/
def lvVin : Nat := 0x40018
/-- LEAVE.TJ_MAX -/
def lvTjMax : Nat := 0x4001c
/-- LEAVE.TCP -/
def lvTcp : Nat := 0x40020
/-- LEAVE.LAST -/
def lvLast : Nat := 0x40024
/-- LEAVE.CAUSE -/
def lvCause : Nat := 0x40028
/-- LEAVE.MASK -/
def lvMask : Nat := 0x4002c
/-- LEAVE.TJ -/
def lvTj (i : Nat) : Nat := 0x40100 + i * 0x4
/-- PHC.NOW_FRAC -/
def nowFrac : Nat := 0x80000
/-- PHC.NOW_NS -/
def nowNs : Nat := 0x80004
/-- PHC.NOW_SEC_LO -/
def nowSecLo : Nat := 0x80008
/-- PHC.NOW_SEC_HI -/
def nowSecHi : Nat := 0x8000c
/-- PHC.INCR_NS -/
def incrNs : Nat := 0x80010
/-- PHC.INCR_FRAC -/
def incrFrac : Nat := 0x80014
/-- PHC.STEP_NS -/
def stepNs : Nat := 0x80018
/-- PHC.STEP_SEC_LO -/
def stepSecLo : Nat := 0x8001c
/-- PHC.STEP_SEC_HI -/
def stepSecHi : Nat := 0x80020
/-- PHC.STEP_CTL -/
def stepCtl : Nat := 0x80024
/-- PHC.UTC -/
def utc : Nat := 0x80028
/-- PHC.PPS_CTL -/
def ppsCtl : Nat := 0x8002c
/-- PHC.PPS_NS -/
def ppsNs : Nat := 0x80030
/-- PHC.PPS_SEC_LO -/
def ppsSecLo : Nat := 0x80034
/-- PHC.PPS_SEC_HI -/
def ppsSecHi : Nat := 0x80038
/-- PHC.HOLD -/
def phcHold : Nat := 0x8003c
/-- PHC.STAT -/
def phcStat : Nat := 0x80040
/-- PHC.CAUSE -/
def phcCause : Nat := 0x80044
/-- PHC.MASK -/
def phcMask : Nat := 0x80048
/-- PHC.PORT.LAT -/
def phcLat (i : Nat) : Nat := 0x80100 + i * 0x10
/-- PHC.PORT.ASYM -/
def phcAsym (i : Nat) : Nat := 0x80104 + i * 0x10
/-- REF.CTL -/
def refCtl (i : Nat) : Nat := 0x81000 + i * 0x20
/-- REF.STAT -/
def refStat (i : Nat) : Nat := 0x81004 + i * 0x20
/-- REF.EDGE_NS -/
def refEdgeNs (i : Nat) : Nat := 0x81008 + i * 0x20
/-- REF.EDGE_SEC_LO -/
def refEdgeSecLo (i : Nat) : Nat := 0x8100c + i * 0x20
/-- REF.CAUSE -/
def refCause (i : Nat) : Nat := 0x81010 + i * 0x20
/-- REF.MASK -/
def refMask (i : Nat) : Nat := 0x81014 + i * 0x20
/-- SY.CTL -/
def syCtl (i : Nat) : Nat := 0x82000 + i * 0x80
/-- SY.FNUM -/
def syFnum (i : Nat) : Nat := 0x82004 + i * 0x80
/-- SY.FDEN -/
def syFden (i : Nat) : Nat := 0x82008 + i * 0x80
/-- SY.STAT -/
def syStat (i : Nat) : Nat := 0x8200c + i * 0x80
/-- SY.PHASE -/
def syPhase (i : Nat) : Nat := 0x82010 + i * 0x80
/-- SY.SEED -/
def sySeed (i : Nat) : Nat := 0x82014 + i * 0x80
/-- SY.CAUSE -/
def syCause (i : Nat) : Nat := 0x82018 + i * 0x80
/-- SY.MASK -/
def syMask (i : Nat) : Nat := 0x8201c + i * 0x80
/-- SY.OUT.CTL -/
def syOutCtl (i j : Nat) : Nat := 0x82040 + i * 0x80 + j * 0x10
/-- SY.OUT.DELAY -/
def syOutDelay (i j : Nat) : Nat := 0x82044 + i * 0x80 + j * 0x10
/-- POLDER.CTL -/
def polderCtl (i : Nat) : Nat := 0x84000 + i * 0x10
/-- POLDER.STAT -/
def polderStat (i : Nat) : Nat := 0x84004 + i * 0x10
/-- LANE.CTL -/
def laneCtl (i : Nat) : Nat := 0x100000 + i * 0x800
/-- LANE.STAT -/
def laneStat (i : Nat) : Nat := 0x100004 + i * 0x800
/-- LANE.RXEQ -/
def laneRxeq (i : Nat) : Nat := 0x100008 + i * 0x800
/-- LANE.TXEQ -/
def laneTxeq (i : Nat) : Nat := 0x10000c + i * 0x800
/-- LANE.LOOP -/
def laneLoop (i : Nat) : Nat := 0x100010 + i * 0x800
/-- LANE.PRBS -/
def lanePrbs (i : Nat) : Nat := 0x100014 + i * 0x800
/-- LANE.PRBS_BITS_LO -/
def prbsBitsLo (i : Nat) : Nat := 0x100018 + i * 0x800
/-- LANE.PRBS_BITS_HI -/
def prbsBitsHi (i : Nat) : Nat := 0x10001c + i * 0x800
/-- LANE.PRBS_ERR_LO -/
def prbsErrLo (i : Nat) : Nat := 0x100020 + i * 0x800
/-- LANE.PRBS_ERR_HI -/
def prbsErrHi (i : Nat) : Nat := 0x100024 + i * 0x800
/-- LANE.EYE -/
def laneEye (i : Nat) : Nat := 0x100028 + i * 0x800
/-- LANE.CAUSE -/
def laneCause (i : Nat) : Nat := 0x10002c + i * 0x800
/-- LANE.MASK -/
def laneMask (i : Nat) : Nat := 0x100030 + i * 0x800
/-- LANE.TX_MAP -/
def txMap (i : Nat) : Nat := 0x100600 + i * 0x800
/-- LANE.TX_TC -/
def txTc (i : Nat) : Nat := 0x100604 + i * 0x800
/-- LANE.TX_STAT -/
def txStat (i : Nat) : Nat := 0x100608 + i * 0x800
/-- LANE.TX_ERR -/
def txErr (i : Nat) : Nat := 0x10060c + i * 0x800
/-- LANE_GRP.CTL -/
def grpCtl (i : Nat) : Nat := 0x148000 + i * 0x20
/-- LANE_GRP.STAT -/
def grpStat (i : Nat) : Nat := 0x148004 + i * 0x20
/-- NET.PORT.CTL -/
def portCtl (i : Nat) : Nat := 0x180000 + i * 0x400
/-- NET.PORT.STAT -/
def portStat (i : Nat) : Nat := 0x180004 + i * 0x400
/-- NET.PORT.FEC_CORR -/
def fecCorr (i : Nat) : Nat := 0x180008 + i * 0x400
/-- NET.PORT.FEC_UNCORR -/
def fecUncorr (i : Nat) : Nat := 0x18000c + i * 0x400
/-- NET.PORT.CAUSE -/
def portCause (i : Nat) : Nat := 0x180010 + i * 0x400
/-- NET.PORT.MASK -/
def portMask (i : Nat) : Nat := 0x180014 + i * 0x400
/-- NET.SUB.IP -/
def subIp (i : Nat) : Nat := 0x181000 + i * 0x100
/-- NET.SUB.PREFIX -/
def subPrefix (i : Nat) : Nat := 0x181004 + i * 0x100
/-- NET.SUB.MAC_LO -/
def subMacLo (i : Nat) : Nat := 0x181008 + i * 0x100
/-- NET.SUB.MAC_HI -/
def subMacHi (i : Nat) : Nat := 0x18100c + i * 0x100
/-- NET.SUB.NH_MAC_LO -/
def subNhMacLo (i : Nat) : Nat := 0x181010 + i * 0x100
/-- NET.SUB.NH_MAC_HI -/
def subNhMacHi (i : Nat) : Nat := 0x181014 + i * 0x100
/-- NET.SUB.VLAN -/
def subVlan (i : Nat) : Nat := 0x181018 + i * 0x100
/-- NET.SUB.RX_DROP -/
def subRxDrop (i : Nat) : Nat := 0x18101c + i * 0x100
/-- NET.HQ.RX_BASE_LO -/
def hqRxBaseLo : Nat := 0x188000
/-- NET.HQ.RX_BASE_HI -/
def hqRxBaseHi : Nat := 0x188004
/-- NET.HQ.RX_CTL -/
def hqRxCtl : Nat := 0x188008
/-- NET.HQ.RX_HEAD -/
def hqRxHead : Nat := 0x18800c
/-- NET.HQ.RX_TAIL -/
def hqRxTail : Nat := 0x188010
/-- NET.HQ.TX_BASE_LO -/
def hqTxBaseLo : Nat := 0x188014
/-- NET.HQ.TX_BASE_HI -/
def hqTxBaseHi : Nat := 0x188018
/-- NET.HQ.TX_CTL -/
def hqTxCtl : Nat := 0x18801c
/-- NET.HQ.TX_DB -/
def hqTxDb : Nat := 0x188020
/-- NET.HQ.TX_HEAD -/
def hqTxHead : Nat := 0x188024
/-- NET.HQ.DROP -/
def hqDrop : Nat := 0x188028
/-- NET.HQ.CAUSE -/
def hqCause : Nat := 0x18802c
/-- NET.HQ.MASK -/
def hqMask : Nat := 0x188030
/-- NET.HQ.FILT -/
def hqFilt (i : Nat) : Nat := 0x188040 + i * 0x4
/-- NET.TXF.MAP -/
def txfMap (i : Nat) : Nat := 0x190000 + i * 0x40
/-- NET.TXF.TC -/
def txfTc (i : Nat) : Nat := 0x190004 + i * 0x40
/-- NET.TXF.STAT -/
def txfStat (i : Nat) : Nat := 0x190008 + i * 0x40
/-- NET.TXF.PKTS -/
def txfPkts (i : Nat) : Nat := 0x19000c + i * 0x40
/-- NET.TXF.RTP_TS -/
def txfRtpTs (i : Nat) : Nat := 0x190010 + i * 0x40
/-- NET.TXF.ERR -/
def txfErr (i : Nat) : Nat := 0x190014 + i * 0x40
/-- SRC.STAT -/
def srcStat (i : Nat) : Nat := 0x200000 + i * 0x400
/-- SRC.FMT -/
def srcFmt (i : Nat) : Nat := 0x200004 + i * 0x400
/-- SRC.PID -/
def srcPid (i : Nat) : Nat := 0x200008 + i * 0x400
/-- SRC.CFG0 -/
def srcCfg0 (i : Nat) : Nat := 0x20000c + i * 0x400
/-- SRC.CFG1 -/
def srcCfg1 (i : Nat) : Nat := 0x200010 + i * 0x400
/-- SRC.SLATE -/
def srcSlate (i : Nat) : Nat := 0x200014 + i * 0x400
/-- SRC.RING -/
def srcRing (i : Nat) : Nat := 0x200018 + i * 0x400
/-- SRC.ARR_NS -/
def srcArrNs (i : Nat) : Nat := 0x20001c + i * 0x400
/-- SRC.ARR_SEC_LO -/
def srcArrSecLo (i : Nat) : Nat := 0x200020 + i * 0x400
/-- SRC.ARR_SEC_HI -/
def srcArrSecHi (i : Nat) : Nat := 0x200024 + i * 0x400
/-- SRC.PERIOD -/
def srcPeriod (i : Nat) : Nat := 0x200028 + i * 0x400
/-- SRC.ERR -/
def srcErr (i : Nat) : Nat := 0x20002c + i * 0x400
/-- SRC.LEG -/
def srcLeg (i : Nat) : Nat := 0x200030 + i * 0x400
/-- SRC.SKEW -/
def srcSkew (i : Nat) : Nat := 0x200034 + i * 0x400
/-- SRC.CAUSE -/
def srcCause (i : Nat) : Nat := 0x200040 + i * 0x400
/-- SRC.MASK -/
def srcMask (i : Nat) : Nat := 0x200044 + i * 0x400
/-- SRC.ERR, LEG, SKEW of S256 to S639 -/
def srcZeroA (i j : Nat) : Nat := 0x24002c + i * 0x400 + j * 0x4
/-- SRC.CAUSE, MASK of S256 to S639 -/
def srcZeroB (i j : Nat) : Nat := 0x240040 + i * 0x400 + j * 0x4
/-- SRC.LEDGER -/
def srcLedger (i j : Nat) : Nat := 0x200100 + i * 0x400 + j * 0x4
/-- HEAD.CFG -/
def hdCfg (i : Nat) : Nat := 0x400000 + i * 0x1000
/-- HEAD.STAT -/
def hdStat (i : Nat) : Nat := 0x400004 + i * 0x1000
/-- HEAD.BG_LO -/
def hdBgLo (i : Nat) : Nat := 0x400008 + i * 0x1000
/-- HEAD.BG_HI -/
def hdBgHi (i : Nat) : Nat := 0x40000c + i * 0x1000
/-- HEAD.LOAD -/
def hdLoad (i : Nat) : Nat := 0x400010 + i * 0x1000
/-- HEAD.FETCH -/
def hdFetch (i : Nat) : Nat := 0x400014 + i * 0x1000
/-- HEAD.DEST -/
def hdDest (i j : Nat) : Nat := 0x400018 + i * 0x1000 + j * 0x4
/-- HEAD.CAUSE -/
def hdCause (i : Nat) : Nat := 0x400038 + i * 0x1000
/-- HEAD.MASK -/
def hdMask (i : Nat) : Nat := 0x40003c + i * 0x1000
/-- HEAD.SLUICE -/
def hdSluice (i : Nat) : Nat := 0x400040 + i * 0x1000
/-- HEAD.INSTAR -/
def hdInstar (i : Nat) : Nat := 0x400044 + i * 0x1000
/-- HEAD.CMT_STAT -/
def cmtStat (i : Nat) : Nat := 0x400048 + i * 0x1000
/-- HEAD.CMT_CNT -/
def cmtCnt (i : Nat) : Nat := 0x40004c + i * 0x1000
/-- HEAD.CMT_SEQ -/
def cmtSeq (i : Nat) : Nat := 0x400050 + i * 0x1000
/-- HEAD.CMT_SRC -/
def cmtSrc (i : Nat) : Nat := 0x400054 + i * 0x1000
/-- HEAD.CMT_MASK -/
def cmtMask (i : Nat) : Nat := 0x400058 + i * 0x1000
/-- HEAD.SCAN -/
def scan (i : Nat) : Nat := 0x400060 + i * 0x1000
/-- HEAD.SCAN_CTL -/
def scanCtl (i : Nat) : Nat := 0x400064 + i * 0x1000
/-- HEAD.FLIP_NS -/
def flipNs (i : Nat) : Nat := 0x400068 + i * 0x1000
/-- HEAD.FLIP_SEC_LO -/
def flipSecLo (i : Nat) : Nat := 0x40006c + i * 0x1000
/-- HEAD.FLIP_SEC_HI -/
def flipSecHi (i : Nat) : Nat := 0x400070 + i * 0x1000
/-- HEAD.FCOUNT_LO -/
def fcountLo (i : Nat) : Nat := 0x400074 + i * 0x1000
/-- HEAD.FCOUNT_HI -/
def fcountHi (i : Nat) : Nat := 0x400078 + i * 0x1000
/-- HEAD.SUM -/
def hdSum (i : Nat) : Nat := 0x400080 + i * 0x1000
/-- HEAD.FAULT -/
def hdFault (i : Nat) : Nat := 0x400084 + i * 0x1000
/-- HEAD.LCTL -/
def lctl (i j : Nat) : Nat := 0x400100 + i * 0x1000 + j * 0x40
/-- HEAD.LSRC_LO -/
def lsrcLo (i j : Nat) : Nat := 0x400104 + i * 0x1000 + j * 0x40
/-- HEAD.LSRC_HI -/
def lsrcHi (i j : Nat) : Nat := 0x400108 + i * 0x1000 + j * 0x40
/-- HEAD.LCROP_XY -/
def lcropXy (i j : Nat) : Nat := 0x40010c + i * 0x1000 + j * 0x40
/-- HEAD.LCROP_WH -/
def lcropWh (i j : Nat) : Nat := 0x400110 + i * 0x1000 + j * 0x40
/-- HEAD.LDST_XY -/
def ldstXy (i j : Nat) : Nat := 0x400114 + i * 0x1000 + j * 0x40
/-- HEAD.LDST_WH -/
def ldstWh (i j : Nat) : Nat := 0x400118 + i * 0x1000 + j * 0x40
/-- HEAD.LALPHA -/
def lalpha (i j : Nat) : Nat := 0x40011c + i * 0x1000 + j * 0x40
/-- HEAD.LRAW -/
def lraw (i j : Nat) : Nat := 0x400120 + i * 0x1000 + j * 0x40
/-- HEAD.LSTAT -/
def lstat (i j : Nat) : Nat := 0x400124 + i * 0x1000 + j * 0x40
/-- HEAD.LCULL -/
def lcull (i j : Nat) : Nat := 0x400128 + i * 0x1000 + j * 0x40
/-- HEAD.LEDGER -/
def hdLedger (i j : Nat) : Nat := 0x400400 + i * 0x1000 + j * 0x4
/-- SCL.CTL -/
def sclCtl (i : Nat) : Nat := 0x500000 + i * 0x100
/-- SCL.USE -/
def sclUse (i : Nat) : Nat := 0x500004 + i * 0x100
/-- SCL.LB -/
def sclLb (i : Nat) : Nat := 0x500008 + i * 0x100
/-- SCL.SETS -/
def sclSets (i : Nat) : Nat := 0x50000c + i * 0x100
/-- SCL.CAUSE -/
def sclCause (i : Nat) : Nat := 0x500010 + i * 0x100
/-- SCL.MASK -/
def sclMask (i : Nat) : Nat := 0x500014 + i * 0x100
/-- CNV.CTL -/
def cnvCtl (i : Nat) : Nat := 0x540000 + i * 0x100
/-- CNV.STAT -/
def cnvStat (i : Nat) : Nat := 0x540004 + i * 0x100
/-- CNV.TOK -/
def cnvTok (i : Nat) : Nat := 0x540008 + i * 0x100
/-- CNV.DELAY -/
def cnvDelay (i : Nat) : Nat := 0x54000c + i * 0x100
/-- CNV.CAUSE -/
def cnvCause (i : Nat) : Nat := 0x540010 + i * 0x100
/-- CNV.MASK -/
def cnvMask (i : Nat) : Nat := 0x540014 + i * 0x100
/-- CNV.OWN -/
def cnvOwn (i : Nat) : Nat := 0x540018 + i * 0x100
/-- COL.HOUSE -/
def colHouse : Nat := 0x580000
/-- COL.IN.CFG -/
def colInCfg (i : Nat) : Nat := 0x581000 + i * 0x10
/-- COL.IN.STAT -/
def colInStat (i : Nat) : Nat := 0x581004 + i * 0x10
/-- COL.OUT.CFG -/
def colOutCfg (i : Nat) : Nat := 0x591000 + i * 0x10
/-- COL.OUT.STAT -/
def colOutStat (i : Nat) : Nat := 0x591004 + i * 0x10
/-- COL.DITH.CTL -/
def dithCtl (i : Nat) : Nat := 0x5a0000 + i * 0x10
/-- COL.DITH.SEED -/
def dithSeed (i : Nat) : Nat := 0x5a0004 + i * 0x10
/-- AUD.CLK -/
def audClk : Nat := 0x600000
/-- AUD.SRC -/
def audSrc : Nat := 0x600004
/-- AUD.RCAUSE -/
def audRcause : Nat := 0x600010
/-- AUD.RMASK -/
def audRmask : Nat := 0x600014
/-- AUD.GRP.CTL -/
def agCtl (i : Nat) : Nat := 0x601000 + i * 0x20
/-- AUD.GRP.STAT -/
def agStat (i : Nat) : Nat := 0x601004 + i * 0x20
/-- AUD.GRP.BASE -/
def agBase (i : Nat) : Nat := 0x601008 + i * 0x20
/-- AUD.GRP.CAUSE -/
def agCause (i : Nat) : Nat := 0x60100c + i * 0x20
/-- AUD.GRP.MASK -/
def agMask (i : Nat) : Nat := 0x601010 + i * 0x20
/-- AUD.TXF.BASE -/
def atBase (i : Nat) : Nat := 0x60a000 + i * 0x4
/-- AUD.EMB.CTL -/
def embCtl (i : Nat) : Nat := 0x60b000 + i * 0x4
/-- AUD.OUT.CTL -/
def aoCtl (i : Nat) : Nat := 0x610000 + i * 0x10
/-- AUD.OUT.GAIN -/
def aoGain (i : Nat) : Nat := 0x610004 + i * 0x10
/-- AUD.OUT.DELAY -/
def aoDelay (i : Nat) : Nat := 0x610008 + i * 0x10
/-- AUD.OUT.STAT -/
def aoStat (i : Nat) : Nat := 0x61000c + i * 0x10
/-- PSN.DST.STAT -/
def psnStat (i : Nat) : Nat := 0x700000 + i * 0x40
/-- PSN.DST.CRC_ERR -/
def psnCrcErr (i : Nat) : Nat := 0x700004 + i * 0x40
/-- PSN.DST.MISMATCH -/
def psnMismatch (i : Nat) : Nat := 0x700008 + i * 0x40
/-- PSN.HS.ES_XY -/
def esXy (i j : Nat) : Nat := 0x710000 + i * 0x40 + j * 0x8
/-- PSN.HS.ES_WH -/
def esWh (i j : Nat) : Nat := 0x710004 + i * 0x40 + j * 0x8
/-- PSN.HS.DIKE -/
def hsDike (i : Nat) : Nat := 0x710020 + i * 0x40
/-- PSN.HS.DIKE_CNT -/
def hsDikeCnt (i : Nat) : Nat := 0x710024 + i * 0x40
/-- PSN.HS.CAUSE -/
def hsCause (i : Nat) : Nat := 0x710028 + i * 0x40
/-- PSN.HS.MASK -/
def hsMask (i : Nat) : Nat := 0x71002c + i * 0x40
/-- PSN.SEAL_CTL -/
def sealCtl : Nat := 0x760000
/-- PSN.SEAL_STAT -/
def sealStat : Nat := 0x760004
/-- PSN.LOG_HEAD -/
def logHead : Nat := 0x760008
/-- PSN.LOG_TAIL -/
def logTail : Nat := 0x76000c
/-- PUSH.CTL -/
def puCtl (i : Nat) : Nat := 0x770000 + i * 0x40
/-- PUSH.AREA_XY -/
def puXy (i : Nat) : Nat := 0x770004 + i * 0x40
/-- PUSH.AREA_WH -/
def puWh (i : Nat) : Nat := 0x770008 + i * 0x40
/-- PUSH.RING_LO -/
def puRingLo (i : Nat) : Nat := 0x77000c + i * 0x40
/-- PUSH.RING_HI -/
def puRingHi (i : Nat) : Nat := 0x770010 + i * 0x40
/-- PUSH.HEAD -/
def puHead (i : Nat) : Nat := 0x770014 + i * 0x40
/-- PUSH.TAIL -/
def puTail (i : Nat) : Nat := 0x770018 + i * 0x40
/-- PUSH.STAT -/
def puStat (i : Nat) : Nat := 0x77001c + i * 0x40
/-- PUSH.CAUSE -/
def puCause (i : Nat) : Nat := 0x770020 + i * 0x40
/-- PUSH.MASK -/
def puMask (i : Nat) : Nat := 0x770024 + i * 0x40
/-- PUSH.REFRESH -/
def puRefresh (i : Nat) : Nat := 0x770028 + i * 0x40
/-- NV.STAT -/
def nvStat : Nat := 0x780000
/-- NV.HOLDUP -/
def nvHoldup : Nat := 0x780004
/-- NV.SPACE -/
def nvSpace : Nat := 0x780008
/-- NV.WEAR -/
def nvWear : Nat := 0x78000c
/-- NV.SCRUB -/
def nvScrub : Nat := 0x780010
/-- NV.SEQ -/
def nvSeq : Nat := 0x780014
/-- NV.CFG -/
def nvCfg : Nat := 0x780018
/-- NV.CAUSE -/
def nvCause : Nat := 0x78001c
/-- NV.MASK -/
def nvMask : Nat := 0x780020
/-- NV.CNT_LO -/
def nvCntLo (i : Nat) : Nat := 0x780100 + i * 0x8
/-- NV.CNT_HI -/
def nvCntHi (i : Nat) : Nat := 0x780104 + i * 0x8
/-- NV.EPOCH -/
def nvEpoch (i : Nat) : Nat := 0x780300 + i * 0x4
/-- COC.STAT -/
def cocStat : Nat := 0x7c0000
/-- COC.CTL -/
def cocCtl : Nat := 0x7c0004
/-- COC.BR_CAUSE -/
def brCause : Nat := 0x7c0008
/-- COC.BR_AON_LO -/
def brAonLo : Nat := 0x7c000c
/-- COC.BR_AON_HI -/
def brAonHi : Nat := 0x7c0010
/-- COC.MAP_AON_LO -/
def mapAonLo : Nat := 0x7c0014
/-- COC.MAP_AON_HI -/
def mapAonHi : Nat := 0x7c0018
/-- COC.MAP_SEC_LO -/
def mapSecLo : Nat := 0x7c001c
/-- COC.MAP_SEC_HI -/
def mapSecHi : Nat := 0x7c0020
/-- COC.BATT -/
def batt : Nat := 0x7c0024
/-- COC.CAUSE -/
def cocCause : Nat := 0x7c0028
/-- COC.MASK -/
def cocMask : Nat := 0x7c002c
/-- COC.SLOT -/
def cocSlot (i : Nat) : Nat := 0x7c0100 + i * 0x4
/-- MGMT.STAT -/
def mgStat : Nat := 0x7e0000
/-- MGMT.PAIR.STAT -/
def pairStat (i : Nat) : Nat := 0x7e0010 + i * 0x10
/-- MGMT.PAIR.FW -/
def pairFw (i : Nat) : Nat := 0x7e0014 + i * 0x10
/-- MGMT.PAIR.RESETS -/
def pairResets (i : Nat) : Nat := 0x7e0018 + i * 0x10
/-- MGMT.MOULT_CTL -/
def moultCtl : Nat := 0x7e0040
/-- MGMT.MOULT_STAT -/
def moultStat : Nat := 0x7e0044
/-- MGMT.MOULT_ADDR_LO -/
def moultAddrLo : Nat := 0x7e0048
/-- MGMT.MOULT_ADDR_HI -/
def moultAddrHi : Nat := 0x7e004c
/-- MGMT.MOULT_LEN -/
def moultLen : Nat := 0x7e0050
/-- MGMT.SLOT.VER -/
def slotVer (i : Nat) : Nat := 0x7e0060 + i * 0x8
/-- MGMT.SLOT.SEQ -/
def slotSeq (i : Nat) : Nat := 0x7e0064 + i * 0x8
/-- MGMT.WIN_CTL -/
def winCtl : Nat := 0x7e0080
/-- MGMT.WIN_STAT -/
def winStat : Nat := 0x7e0084
/-- MGMT.FAB_STAT -/
def fabStat : Nat := 0x7e0090
/-- MGMT.LOCK -/
def mgLock : Nat := 0x7e00a0
/-- MGMT.CAUSE -/
def mgCause : Nat := 0x7e00b0
/-- MGMT.MASK -/
def mgMask : Nat := 0x7e00b4

end Adr

/-- The rows of block group GLB. -/
def rowsGLB : List RegRow := [
  ⟨"GLB.ID", 0x0, 1, 0x4, 1, 0x4,
    [⟨15, 0, .ro, .val 0x2560, false⟩, ⟨23, 16, .ro, .view, false⟩, ⟨31, 24, .ro, .val 1, false⟩]⟩,
  ⟨"GLB.REV", 0x4, 1, 0x4, 1, 0x4,
    [⟨7, 0, .ro, .view, false⟩, ⟨15, 8, .ro, .view, false⟩, ⟨23, 16, .ro, .view, false⟩]⟩,
  ⟨"GLB.UID", 0x10, 4, 0x4, 1, 0x4,
    [⟨31, 0, .ro, .view, false⟩]⟩,
  ⟨"GLB.FUSE", 0x20, 1, 0x4, 1, 0x4,
    [⟨0, 0, .ro, .view, false⟩, ⟨1, 1, .ro, .view, false⟩, ⟨2, 2, .ro, .view, false⟩, ⟨3, 3, .ro, .view, false⟩]⟩,
  ⟨"GLB.SCRATCH", 0x24, 1, 0x4, 1, 0x4,
    [⟨31, 0, .rw, .val 0, false⟩]⟩,
  ⟨"GLB.ACC_ERR", 0x28, 1, 0x4, 1, 0x4,
    [⟨15, 0, .rc, .val 0, true⟩, ⟨31, 16, .rc, .val 0, true⟩]⟩,
  ⟨"GLB.ACC_ADDR", 0x2C, 1, 0x4, 1, 0x4,
    [⟨25, 0, .ro, .val 0, true⟩, ⟨31, 31, .ro, .val 0, true⟩]⟩,
  ⟨"GLB.PWR_CTL", 0x100, 1, 0x4, 1, 0x4,
    [⟨1, 0, .rw, .val 0, false⟩]⟩,
  ⟨"GLB.PWR_STAT", 0x104, 1, 0x4, 1, 0x4,
    [⟨2, 0, .ro, .val 0, false⟩, ⟨7, 4, .ro, .val 0, false⟩, ⟨31, 16, .ro, .val 0, false⟩]⟩,
  ⟨"GLB.RST_CTL", 0x108, 1, 0x4, 1, 0x4,
    [⟨15, 0, .wo, .val 0, false⟩, ⟨16, 16, .wo, .val 0, false⟩]⟩,
  ⟨"GLB.RST_CAUSE", 0x10C, 1, 0x4, 1, 0x4,
    [⟨3, 0, .ro, .val 0, false⟩, ⟨31, 16, .ro, .val 0, false⟩]⟩,
  ⟨"GLB.HEAD_RST", 0x110, 1, 0x4, 1, 0x4,
    [⟨7, 0, .rw, .val 0, false⟩, ⟨8, 8, .wo, .val 0, false⟩]⟩,
  ⟨"GLB.RESTORE", 0x114, 1, 0x4, 1, 0x4,
    [⟨0, 0, .rw, .view, false⟩, ⟨1, 1, .rw, .view, false⟩, ⟨2, 2, .wo, .val 0, false⟩]⟩,
  ⟨"GLB.RESTORE_STAT", 0x118, 1, 0x4, 1, 0x4,
    [⟨2, 0, .ro, .view, false⟩, ⟨11, 3, .ro, .view, false⟩, ⟨20, 12, .ro, .view, false⟩, ⟨29, 21, .ro, .view, false⟩]⟩]

/-- The rows of block group HIF. -/
def rowsHIF : List RegRow := [
  ⟨"HIF.CAPS", 0x10000, 1, 0x4, 1, 0x4,
    [⟨7, 0, .ro, .val 0x40, false⟩, ⟨15, 8, .ro, .val 0x40, false⟩, ⟨23, 16, .ro, .val 0x40, false⟩, ⟨31, 24, .ro, .val 1, false⟩]⟩,
  ⟨"HIF.BAR2_WIN", 0x10010, 1, 0x4, 1, 0x4,
    [⟨7, 0, .rw, .val 0, true⟩]⟩,
  ⟨"HIF.SQ_BASE_LO", 0x11000, 64, 0x100, 1, 0x4,
    [⟨31, 4, .rw, .view, false⟩]⟩,
  ⟨"HIF.SQ_BASE_HI", 0x11004, 64, 0x100, 1, 0x4,
    [⟨31, 0, .rw, .view, false⟩]⟩,
  ⟨"HIF.SQ_CTL", 0x11008, 64, 0x100, 1, 0x4,
    [⟨0, 0, .rw, .view, false⟩, ⟨1, 1, .wo, .val 0, false⟩, ⟨2, 2, .wo, .val 0, false⟩, ⟨3, 3, .rw, .view, false⟩, ⟨7, 4, .rw, .view, false⟩, ⟨13, 8, .rw, .view, false⟩, ⟨14, 14, .ro, .view, false⟩, ⟨31, 16, .rw, .view, false⟩]⟩,
  ⟨"HIF.SQ_DB", 0x1100C, 64, 0x100, 1, 0x4,
    [⟨15, 0, .wo, .val 0, false⟩, ⟨31, 16, .wo, .val 0, false⟩]⟩,
  ⟨"HIF.SQ_HEAD", 0x11010, 64, 0x100, 1, 0x4,
    [⟨15, 0, .ro, .view, false⟩]⟩,
  ⟨"HIF.SQ_STAT", 0x11014, 64, 0x100, 1, 0x4,
    [⟨1, 0, .ro, .view, false⟩, ⟨7, 4, .ro, .view, false⟩, ⟨31, 16, .ro, .view, false⟩]⟩,
  ⟨"HIF.SQ_SEQ_NEXT", 0x11018, 64, 0x100, 1, 0x4,
    [⟨31, 0, .rw, .view, false⟩]⟩,
  ⟨"HIF.SQ_SEQ_POSTED", 0x1101C, 64, 0x100, 1, 0x4,
    [⟨31, 0, .ro, .view, false⟩]⟩,
  ⟨"HIF.CQ_BASE_LO", 0x11020, 64, 0x100, 1, 0x4,
    [⟨31, 4, .rw, .view, false⟩]⟩,
  ⟨"HIF.CQ_BASE_HI", 0x11024, 64, 0x100, 1, 0x4,
    [⟨31, 0, .rw, .view, false⟩]⟩,
  ⟨"HIF.CQ_CTL", 0x11028, 64, 0x100, 1, 0x4,
    [⟨0, 0, .rw, .view, false⟩, ⟨7, 4, .rw, .view, false⟩, ⟨13, 8, .rw, .view, false⟩, ⟨15, 15, .w1c, .view, false⟩]⟩,
  ⟨"HIF.CQ_HEAD", 0x1102C, 64, 0x100, 1, 0x4,
    [⟨15, 0, .rw, .view, false⟩]⟩,
  ⟨"HIF.CQ_TAIL", 0x11030, 64, 0x100, 1, 0x4,
    [⟨15, 0, .ro, .view, false⟩]⟩,
  ⟨"HIF.CQ_MOD", 0x11034, 64, 0x100, 1, 0x4,
    [⟨7, 0, .rw, .view, false⟩, ⟨17, 8, .rw, .view, false⟩]⟩,
  ⟨"HIF.DB_REJECT", 0x11038, 64, 0x100, 1, 0x4,
    [⟨31, 0, .rc, .view, false⟩]⟩,
  ⟨"HIF.MSIX_TABLE", 0x18000, 256, 0x4, 1, 0x4,
    [⟨31, 0, .rw, .view, false⟩]⟩,
  ⟨"HIF.MSIX_PBA", 0x19000, 2, 0x4, 1, 0x4,
    [⟨31, 0, .ro, .view, false⟩]⟩]

/-- The rows of block group EVT. -/
def rowsEVT : List RegRow := [
  ⟨"EVT.ER_BASE_LO", 0x20000, 4, 0x20, 1, 0x4,
    [⟨31, 5, .rw, .view, false⟩]⟩,
  ⟨"EVT.ER_BASE_HI", 0x20004, 4, 0x20, 1, 0x4,
    [⟨31, 0, .rw, .view, false⟩]⟩,
  ⟨"EVT.ER_CTL", 0x20008, 4, 0x20, 1, 0x4,
    [⟨0, 0, .rw, .view, false⟩, ⟨7, 4, .rw, .view, false⟩, ⟨13, 8, .rw, .view, false⟩]⟩,
  ⟨"EVT.ER_HEAD", 0x2000C, 4, 0x20, 1, 0x4,
    [⟨15, 0, .rw, .view, false⟩]⟩,
  ⟨"EVT.ER_TAIL", 0x20010, 4, 0x20, 1, 0x4,
    [⟨15, 0, .ro, .view, false⟩]⟩,
  ⟨"EVT.ER_MOD", 0x20014, 4, 0x20, 1, 0x4,
    [⟨7, 0, .rw, .val 1, true⟩, ⟨17, 8, .rw, .val 0, true⟩]⟩,
  ⟨"EVT.SW_RAISE", 0x20100, 1, 0x4, 1, 0x4,
    [⟨2, 0, .wo, .val 0, false⟩, ⟨31, 16, .wo, .val 0, false⟩]⟩,
  ⟨"EVT.SRC", 0x21000, 320, 0x4, 1, 0x4,
    [⟨1, 0, .rw, .evtRing, true⟩, ⟨2, 2, .rw, .val 1, true⟩, ⟨3, 3, .rw, .evtUrgent, true⟩, ⟨31, 16, .ro, .view, false⟩]⟩,
  ⟨"EVT.HBM_ECC", 0x22000, 1, 0x4, 1, 0x4,
    [⟨15, 0, .rc, .val 0, false⟩, ⟨31, 16, .rc, .val 0, false⟩]⟩,
  ⟨"EVT.HBM_UE_LO", 0x22004, 1, 0x4, 1, 0x4,
    [⟨31, 0, .ro, .val 0, false⟩]⟩,
  ⟨"EVT.HBM_UE_HI", 0x22008, 1, 0x4, 1, 0x4,
    [⟨3, 0, .ro, .val 0, false⟩]⟩,
  ⟨"EVT.SRAM_ECC", 0x2200C, 1, 0x4, 1, 0x4,
    [⟨15, 0, .rc, .val 0, false⟩, ⟨31, 16, .rc, .val 0, false⟩]⟩,
  ⟨"EVT.SCRUB", 0x22010, 1, 0x4, 1, 0x4,
    [⟨4, 0, .rws, .val 8, false⟩, ⟨13, 8, .rws, .val 2, false⟩]⟩,
  ⟨"EVT.AUDIT", 0x22014, 1, 0x4, 1, 0x4,
    [⟨15, 0, .rc, .val 0, false⟩, ⟨31, 16, .ro, .val 0, false⟩]⟩,
  ⟨"EVT.CONTAIN", 0x22018, 1, 0x4, 1, 0x4,
    [⟨3, 0, .rws, .val 3, false⟩, ⟨15, 8, .rws, .val 0xA, false⟩]⟩]

/-- The rows of block group LEAVE. -/
def rowsLEAVE : List RegRow := [
  ⟨"LEAVE.CFG", 0x40000, 1, 0x4, 1, 0x4,
    [⟨13, 0, .rws, .val 0x20D0, false⟩, ⟨26, 16, .rws, .val 0x7D0, false⟩]⟩,
  ⟨"LEAVE.PWR", 0x40004, 1, 0x4, 1, 0x4,
    [⟨13, 0, .ro, .view, false⟩, ⟨29, 16, .ro, .view, false⟩]⟩,
  ⟨"LEAVE.FET", 0x40008, 1, 0x4, 1, 0x4,
    [⟨11, 0, .ro, .view, false⟩, ⟨27, 16, .ro, .view, false⟩]⟩,
  ⟨"LEAVE.HOLD", 0x4000C, 1, 0x4, 1, 0x4,
    [⟨13, 0, .ro, .view, false⟩, ⟨27, 16, .ro, .view, false⟩]⟩,
  ⟨"LEAVE.SHED", 0x40010, 1, 0x4, 1, 0x4,
    [⟨2, 0, .ro, .view, false⟩, ⟨7, 3, .ro, .view, false⟩, ⟨9, 8, .rw, .val 0, false⟩, ⟨10, 10, .rws, .val 1, false⟩, ⟨11, 11, .wo, .val 0, false⟩, ⟨31, 16, .rws, .val 0, false⟩]⟩,
  ⟨"LEAVE.PIN", 0x40014, 1, 0x4, 1, 0x4,
    [⟨12, 0, .ro, .val 0, false⟩]⟩,
  ⟨"LEAVE.VIN", 0x40018, 1, 0x4, 1, 0x4,
    [⟨15, 0, .ro, .val 0, false⟩]⟩,
  ⟨"LEAVE.TJ_MAX", 0x4001C, 1, 0x4, 1, 0x4,
    [⟨10, 0, .ro, .val 0, false⟩, ⟨20, 16, .ro, .val 0, false⟩]⟩,
  ⟨"LEAVE.TCP", 0x40020, 1, 0x4, 1, 0x4,
    [⟨10, 0, .ro, .val 0, false⟩]⟩,
  ⟨"LEAVE.LAST", 0x40024, 1, 0x4, 1, 0x4,
    [⟨1, 0, .ro, .val 0, false⟩, ⟨2, 2, .ro, .val 0, false⟩, ⟨31, 16, .ro, .val 0, false⟩]⟩,
  ⟨"LEAVE.CAUSE", 0x40028, 1, 0x4, 1, 0x4,
    [⟨5, 0, .w1c, .val 0, false⟩]⟩,
  ⟨"LEAVE.MASK", 0x4002C, 1, 0x4, 1, 0x4,
    [⟨5, 0, .rw, .val 0x3F, true⟩]⟩,
  ⟨"LEAVE.TJ", 0x40100, 24, 0x4, 1, 0x4,
    [⟨10, 0, .ro, .val 0, false⟩]⟩]

/-- The rows of block group TIME. -/
def rowsTIME : List RegRow := [
  ⟨"PHC.NOW_FRAC", 0x80000, 1, 0x4, 1, 0x4,
    [⟨31, 0, .ro, .view, false⟩]⟩,
  ⟨"PHC.NOW_NS", 0x80004, 1, 0x4, 1, 0x4,
    [⟨31, 0, .ro, .view, false⟩]⟩,
  ⟨"PHC.NOW_SEC_LO", 0x80008, 1, 0x4, 1, 0x4,
    [⟨31, 0, .ro, .view, false⟩]⟩,
  ⟨"PHC.NOW_SEC_HI", 0x8000C, 1, 0x4, 1, 0x4,
    [⟨15, 0, .ro, .view, false⟩]⟩,
  ⟨"PHC.INCR_NS", 0x80010, 1, 0x4, 1, 0x4,
    [⟨3, 0, .rw, .val 2, false⟩]⟩,
  ⟨"PHC.INCR_FRAC", 0x80014, 1, 0x4, 1, 0x4,
    [⟨31, 0, .rw, .val 0, false⟩]⟩,
  ⟨"PHC.STEP_NS", 0x80018, 1, 0x4, 1, 0x4,
    [⟨31, 0, .rw, .val 0, false⟩]⟩,
  ⟨"PHC.STEP_SEC_LO", 0x8001C, 1, 0x4, 1, 0x4,
    [⟨31, 0, .rw, .val 0, false⟩]⟩,
  ⟨"PHC.STEP_SEC_HI", 0x80020, 1, 0x4, 1, 0x4,
    [⟨15, 0, .rw, .val 0, false⟩]⟩,
  ⟨"PHC.STEP_CTL", 0x80024, 1, 0x4, 1, 0x4,
    [⟨0, 0, .rw, .val 0, false⟩, ⟨1, 1, .wo, .val 0, false⟩, ⟨2, 2, .rw, .val 0, false⟩]⟩,
  ⟨"PHC.UTC", 0x80028, 1, 0x4, 1, 0x4,
    [⟨15, 0, .rws, .val 0, false⟩, ⟨16, 16, .rws, .val 0, false⟩, ⟨17, 17, .rws, .val 0, false⟩, ⟨18, 18, .rws, .val 0, false⟩]⟩,
  ⟨"PHC.PPS_CTL", 0x8002C, 1, 0x4, 1, 0x4,
    [⟨1, 0, .rws, .val 0, false⟩, ⟨2, 2, .rws, .val 0, false⟩, ⟨3, 3, .rws, .val 0, false⟩, ⟨31, 8, .rws, .val 0, false⟩]⟩,
  ⟨"PHC.PPS_NS", 0x80030, 1, 0x4, 1, 0x4,
    [⟨31, 0, .ro, .val 0, false⟩]⟩,
  ⟨"PHC.PPS_SEC_LO", 0x80034, 1, 0x4, 1, 0x4,
    [⟨31, 0, .ro, .val 0, false⟩]⟩,
  ⟨"PHC.PPS_SEC_HI", 0x80038, 1, 0x4, 1, 0x4,
    [⟨15, 0, .ro, .val 0, false⟩]⟩,
  ⟨"PHC.HOLD", 0x8003C, 1, 0x4, 1, 0x4,
    [⟨15, 0, .rws, .val 0x7D0, false⟩]⟩,
  ⟨"PHC.STAT", 0x80040, 1, 0x4, 1, 0x4,
    [⟨0, 0, .ro, .val 1, false⟩, ⟨1, 1, .ro, .val 0, false⟩, ⟨2, 2, .ro, .val 0, false⟩, ⟨3, 3, .w1c, .val 0, false⟩, ⟨4, 4, .w1c, .val 0, false⟩, ⟨31, 16, .ro, .val 0, false⟩]⟩,
  ⟨"PHC.CAUSE", 0x80044, 1, 0x4, 1, 0x4,
    [⟨4, 0, .w1c, .val 0, false⟩]⟩,
  ⟨"PHC.MASK", 0x80048, 1, 0x4, 1, 0x4,
    [⟨4, 0, .rw, .val 0x1D, true⟩]⟩,
  ⟨"PHC.PORT.LAT", 0x80100, 16, 0x10, 1, 0x4,
    [⟨15, 0, .ro, .val 0, false⟩, ⟨31, 16, .ro, .val 0, false⟩]⟩,
  ⟨"PHC.PORT.ASYM", 0x80104, 16, 0x10, 1, 0x4,
    [⟨31, 0, .rws, .val 0, false⟩]⟩,
  ⟨"REF.CTL", 0x81000, 2, 0x20, 1, 0x4,
    [⟨0, 0, .rws, .val 1, false⟩, ⟨1, 1, .rws, .val 1, false⟩, ⟨3, 2, .rws, .val 0, false⟩]⟩,
  ⟨"REF.STAT", 0x81004, 2, 0x20, 1, 0x4,
    [⟨1, 0, .ro, .val 0, false⟩, ⟨2, 2, .ro, .val 0, false⟩, ⟨15, 8, .ro, .val 0, false⟩, ⟨31, 16, .ro, .val 0, false⟩]⟩,
  ⟨"REF.EDGE_NS", 0x81008, 2, 0x20, 1, 0x4,
    [⟨31, 0, .ro, .val 0, false⟩]⟩,
  ⟨"REF.EDGE_SEC_LO", 0x8100C, 2, 0x20, 1, 0x4,
    [⟨31, 0, .ro, .val 0, false⟩]⟩,
  ⟨"REF.CAUSE", 0x81010, 2, 0x20, 1, 0x4,
    [⟨2, 0, .w1c, .val 0, false⟩]⟩,
  ⟨"REF.MASK", 0x81014, 2, 0x20, 1, 0x4,
    [⟨2, 0, .rw, .val 7, true⟩]⟩,
  ⟨"SY.CTL", 0x82000, 32, 0x80, 1, 0x4,
    [⟨0, 0, .rws, .val 0, false⟩, ⟨3, 1, .rws, .val 0, false⟩, ⟨6, 4, .rws, .val 7, false⟩, ⟨7, 7, .rws, .val 0, false⟩, ⟨15, 8, .rws, .val 0xA, false⟩, ⟨31, 16, .rws, .val 0x3E8, false⟩]⟩,
  ⟨"SY.FNUM", 0x82004, 32, 0x80, 1, 0x4,
    [⟨31, 0, .rws, .val 0, false⟩]⟩,
  ⟨"SY.FDEN", 0x82008, 32, 0x80, 1, 0x4,
    [⟨15, 0, .rws, .val 1, false⟩]⟩,
  ⟨"SY.STAT", 0x8200C, 32, 0x80, 1, 0x4,
    [⟨1, 0, .ro, .view, false⟩, ⟨2, 2, .ro, .view, false⟩, ⟨3, 3, .ro, .view, false⟩, ⟨6, 4, .ro, .view, false⟩, ⟨31, 16, .ro, .view, false⟩]⟩,
  ⟨"SY.PHASE", 0x82010, 32, 0x80, 1, 0x4,
    [⟨31, 0, .ro, .view, false⟩]⟩,
  ⟨"SY.SEED", 0x82014, 32, 0x80, 1, 0x4,
    [⟨31, 0, .rws, .idx1, false⟩]⟩,
  ⟨"SY.CAUSE", 0x82018, 32, 0x80, 1, 0x4,
    [⟨4, 0, .w1c, .val 0, false⟩]⟩,
  ⟨"SY.MASK", 0x8201C, 32, 0x80, 1, 0x4,
    [⟨4, 0, .rw, .val 0x1F, true⟩]⟩,
  ⟨"SY.OUT.CTL", 0x82040, 32, 0x80, 4, 0x10,
    [⟨7, 0, .rws, .val 0x10, false⟩, ⟨8, 8, .rws, .val 0, false⟩]⟩,
  ⟨"SY.OUT.DELAY", 0x82044, 32, 0x80, 4, 0x10,
    [⟨23, 0, .rws, .val 0, false⟩, ⟨29, 24, .rws, .val 0, false⟩]⟩,
  ⟨"POLDER.CTL", 0x84000, 32, 0x10, 1, 0x4,
    [⟨6, 0, .rws, .val 0, false⟩, ⟨10, 8, .rws, .val 0, false⟩, ⟨16, 16, .rws, .val 0, false⟩]⟩,
  ⟨"POLDER.STAT", 0x84004, 32, 0x10, 1, 0x4,
    [⟨0, 0, .ro, .view, false⟩, ⟨1, 1, .ro, .view, false⟩, ⟨2, 2, .w1c, .val 0, false⟩, ⟨24, 16, .ro, .view, false⟩]⟩]

/-- The rows of block group LANE. -/
def rowsLANE : List RegRow := [
  ⟨"LANE.CTL", 0x100000, 144, 0x800, 1, 0x4,
    [⟨0, 0, .rws, .val 1, false⟩, ⟨1, 1, .rws, .val 1, false⟩, ⟨3, 2, .rws, .val 1, false⟩, ⟨4, 4, .rws, .val 0, false⟩, ⟨5, 5, .rws, .val 0, false⟩, ⟨7, 6, .rws, .val 0, false⟩]⟩,
  ⟨"LANE.STAT", 0x100004, 144, 0x800, 1, 0x4,
    [⟨0, 0, .ro, .val 0, false⟩, ⟨1, 1, .ro, .val 0, false⟩, ⟨2, 2, .ro, .val 0, false⟩, ⟨6, 3, .ro, .val 0, false⟩]⟩,
  ⟨"LANE.RXEQ", 0x100008, 144, 0x800, 1, 0x4,
    [⟨5, 0, .rws, .val 0, false⟩, ⟨13, 8, .rws, .val 0, false⟩, ⟨21, 16, .rws, .val 0, false⟩]⟩,
  ⟨"LANE.TXEQ", 0x10000C, 144, 0x800, 1, 0x4,
    [⟨5, 0, .rws, .val 0, false⟩, ⟨13, 8, .rws, .val 0, false⟩, ⟨21, 16, .rws, .val 0, false⟩]⟩,
  ⟨"LANE.LOOP", 0x100010, 144, 0x800, 1, 0x4,
    [⟨1, 0, .rw, .val 0, false⟩]⟩,
  ⟨"LANE.PRBS", 0x100014, 144, 0x800, 1, 0x4,
    [⟨3, 0, .rw, .val 0, false⟩, ⟨7, 4, .rw, .val 0, false⟩, ⟨8, 8, .ro, .val 0, false⟩, ⟨9, 9, .wo, .val 0, false⟩]⟩,
  ⟨"LANE.PRBS_BITS_LO", 0x100018, 144, 0x800, 1, 0x4,
    [⟨31, 0, .ro, .val 0, false⟩]⟩,
  ⟨"LANE.PRBS_BITS_HI", 0x10001C, 144, 0x800, 1, 0x4,
    [⟨31, 0, .ro, .val 0, false⟩]⟩,
  ⟨"LANE.PRBS_ERR_LO", 0x100020, 144, 0x800, 1, 0x4,
    [⟨31, 0, .ro, .val 0, false⟩]⟩,
  ⟨"LANE.PRBS_ERR_HI", 0x100024, 144, 0x800, 1, 0x4,
    [⟨31, 0, .ro, .val 0, false⟩]⟩,
  ⟨"LANE.EYE", 0x100028, 144, 0x800, 1, 0x4,
    [⟨7, 0, .ro, .val 0, false⟩, ⟨15, 8, .ro, .val 0, false⟩]⟩,
  ⟨"LANE.CAUSE", 0x10002C, 144, 0x800, 1, 0x4,
    [⟨1, 0, .w1c, .val 0, false⟩]⟩,
  ⟨"LANE.MASK", 0x100030, 144, 0x800, 1, 0x4,
    [⟨1, 0, .rw, .val 3, true⟩]⟩,
  ⟨"LANE_GRP.CTL", 0x148000, 8, 0x20, 1, 0x4,
    [⟨0, 0, .rws, .view, false⟩]⟩,
  ⟨"LANE_GRP.STAT", 0x148004, 8, 0x20, 1, 0x4,
    [⟨0, 0, .ro, .view, false⟩, ⟨1, 1, .w1c, .val 0, false⟩, ⟨2, 2, .w1c, .val 0, false⟩, ⟨15, 8, .ro, .view, false⟩]⟩,
  ⟨"NET.PORT.CTL", 0x180000, 2, 0x400, 1, 0x4,
    [⟨0, 0, .rws, .view, false⟩, ⟨2, 1, .rws, .val 0, false⟩, ⟨3, 3, .rws, .val 1, false⟩]⟩,
  ⟨"NET.PORT.STAT", 0x180004, 2, 0x400, 1, 0x4,
    [⟨7, 0, .ro, .view, false⟩, ⟨8, 8, .ro, .view, false⟩, ⟨9, 9, .w1c, .val 0, false⟩, ⟨10, 10, .w1c, .val 0, false⟩, ⟨23, 16, .ro, .view, false⟩]⟩,
  ⟨"NET.PORT.FEC_CORR", 0x180008, 2, 0x400, 1, 0x4,
    [⟨31, 0, .rc, .val 0, false⟩]⟩,
  ⟨"NET.PORT.FEC_UNCORR", 0x18000C, 2, 0x400, 1, 0x4,
    [⟨31, 0, .rc, .val 0, false⟩]⟩,
  ⟨"NET.PORT.CAUSE", 0x180010, 2, 0x400, 1, 0x4,
    [⟨1, 0, .w1c, .val 0, false⟩]⟩,
  ⟨"NET.PORT.MASK", 0x180014, 2, 0x400, 1, 0x4,
    [⟨1, 0, .rw, .val 3, true⟩]⟩,
  ⟨"NET.SUB.IP", 0x181000, 16, 0x100, 1, 0x4,
    [⟨31, 0, .rws, .val 0, false⟩]⟩,
  ⟨"NET.SUB.PREFIX", 0x181004, 16, 0x100, 1, 0x4,
    [⟨5, 0, .rws, .val 0x18, false⟩]⟩,
  ⟨"NET.SUB.MAC_LO", 0x181008, 16, 0x100, 1, 0x4,
    [⟨31, 0, .ro, .view, false⟩]⟩,
  ⟨"NET.SUB.MAC_HI", 0x18100C, 16, 0x100, 1, 0x4,
    [⟨15, 0, .ro, .view, false⟩]⟩,
  ⟨"NET.SUB.NH_MAC_LO", 0x181010, 16, 0x100, 1, 0x4,
    [⟨31, 0, .rws, .val 0, false⟩]⟩,
  ⟨"NET.SUB.NH_MAC_HI", 0x181014, 16, 0x100, 1, 0x4,
    [⟨15, 0, .rws, .val 0, false⟩]⟩,
  ⟨"NET.SUB.VLAN", 0x181018, 16, 0x100, 1, 0x4,
    [⟨14, 12, .rws, .val 5, false⟩]⟩,
  ⟨"NET.SUB.RX_DROP", 0x18101C, 16, 0x100, 1, 0x4,
    [⟨31, 0, .rc, .val 0, false⟩]⟩]

/-- The rows of block group SCAN. -/
def rowsSCAN : List RegRow := [
  ⟨"LANE.TX_MAP", 0x100600, 128, 0x800, 1, 0x4,
    [⟨3, 0, .rws, .val 0, false⟩, ⟨5, 4, .rws, .val 0, false⟩, ⟨6, 6, .rws, .val 0, false⟩, ⟨7, 7, .rws, .val 0, false⟩, ⟨10, 8, .rws, .val 0, false⟩, ⟨11, 11, .rws, .val 1, false⟩, ⟨13, 12, .rws, .val 0, false⟩, ⟨14, 14, .rws, .val 1, false⟩]⟩,
  ⟨"LANE.TX_TC", 0x100604, 128, 0x800, 1, 0x4,
    [⟨16, 0, .rws, .val 0, false⟩]⟩,
  ⟨"LANE.TX_STAT", 0x100608, 128, 0x800, 1, 0x4,
    [⟨1, 0, .ro, .view, false⟩, ⟨3, 2, .ro, .view, false⟩, ⟨7, 4, .ro, .view, false⟩, ⟨15, 8, .ro, .view, false⟩, ⟨23, 16, .ro, .view, false⟩]⟩,
  ⟨"LANE.TX_ERR", 0x10060C, 128, 0x800, 1, 0x4,
    [⟨15, 0, .rc, .val 0, false⟩]⟩,
  ⟨"NET.TXF.MAP", 0x190000, 128, 0x40, 1, 0x4,
    [⟨7, 7, .rws, .val 0, false⟩, ⟨10, 8, .rws, .val 0, false⟩, ⟨11, 11, .rws, .val 1, false⟩, ⟨13, 12, .rws, .val 0, false⟩, ⟨14, 14, .rws, .val 1, false⟩]⟩,
  ⟨"NET.TXF.TC", 0x190004, 128, 0x40, 1, 0x4,
    [⟨16, 0, .rws, .val 0, false⟩]⟩,
  ⟨"NET.TXF.STAT", 0x190008, 128, 0x40, 1, 0x4,
    [⟨1, 0, .ro, .view, false⟩, ⟨3, 2, .ro, .view, false⟩, ⟨4, 4, .ro, .view, false⟩, ⟨5, 5, .ro, .view, false⟩, ⟨15, 8, .ro, .view, false⟩, ⟨23, 16, .ro, .view, false⟩]⟩,
  ⟨"NET.TXF.PKTS", 0x19000C, 128, 0x40, 1, 0x4,
    [⟨31, 0, .ro, .view, false⟩]⟩,
  ⟨"NET.TXF.RTP_TS", 0x190010, 128, 0x40, 1, 0x4,
    [⟨31, 0, .ro, .view, false⟩]⟩,
  ⟨"NET.TXF.ERR", 0x190014, 128, 0x40, 1, 0x4,
    [⟨15, 0, .rc, .val 0, false⟩]⟩,
  ⟨"HEAD.SCAN", 0x400060, 256, 0x1000, 1, 0x4,
    [⟨11, 0, .ro, .view, false⟩, ⟨12, 12, .ro, .view, false⟩, ⟨13, 13, .ro, .view, false⟩]⟩,
  ⟨"HEAD.SCAN_CTL", 0x400064, 256, 0x1000, 1, 0x4,
    [⟨0, 0, .rw, .val 0, false⟩, ⟨2, 1, .rw, .val 3, true⟩]⟩,
  ⟨"HEAD.FLIP_NS", 0x400068, 256, 0x1000, 1, 0x4,
    [⟨31, 0, .ro, .view, false⟩]⟩,
  ⟨"HEAD.FLIP_SEC_LO", 0x40006C, 256, 0x1000, 1, 0x4,
    [⟨31, 0, .ro, .view, false⟩]⟩,
  ⟨"HEAD.FLIP_SEC_HI", 0x400070, 256, 0x1000, 1, 0x4,
    [⟨15, 0, .ro, .view, false⟩]⟩,
  ⟨"HEAD.FCOUNT_LO", 0x400074, 256, 0x1000, 1, 0x4,
    [⟨31, 0, .ro, .view, false⟩]⟩,
  ⟨"HEAD.FCOUNT_HI", 0x400078, 256, 0x1000, 1, 0x4,
    [⟨31, 0, .ro, .view, false⟩]⟩]

/-- The rows of block group HQ. -/
def rowsHQ : List RegRow := [
  ⟨"NET.HQ.RX_BASE_LO", 0x188000, 1, 0x4, 1, 0x4,
    [⟨31, 4, .rw, .view, false⟩]⟩,
  ⟨"NET.HQ.RX_BASE_HI", 0x188004, 1, 0x4, 1, 0x4,
    [⟨31, 0, .rw, .view, false⟩]⟩,
  ⟨"NET.HQ.RX_CTL", 0x188008, 1, 0x4, 1, 0x4,
    [⟨0, 0, .rw, .view, false⟩, ⟨7, 4, .rw, .view, false⟩, ⟨13, 8, .rw, .view, false⟩]⟩,
  ⟨"NET.HQ.RX_HEAD", 0x18800C, 1, 0x4, 1, 0x4,
    [⟨15, 0, .rw, .view, false⟩]⟩,
  ⟨"NET.HQ.RX_TAIL", 0x188010, 1, 0x4, 1, 0x4,
    [⟨15, 0, .ro, .view, false⟩]⟩,
  ⟨"NET.HQ.TX_BASE_LO", 0x188014, 1, 0x4, 1, 0x4,
    [⟨31, 4, .rw, .view, false⟩]⟩,
  ⟨"NET.HQ.TX_BASE_HI", 0x188018, 1, 0x4, 1, 0x4,
    [⟨31, 0, .rw, .view, false⟩]⟩,
  ⟨"NET.HQ.TX_CTL", 0x18801C, 1, 0x4, 1, 0x4,
    [⟨0, 0, .rw, .view, false⟩, ⟨7, 4, .rw, .view, false⟩, ⟨13, 8, .rw, .view, false⟩]⟩,
  ⟨"NET.HQ.TX_DB", 0x188020, 1, 0x4, 1, 0x4,
    [⟨15, 0, .wo, .val 0, false⟩]⟩,
  ⟨"NET.HQ.TX_HEAD", 0x188024, 1, 0x4, 1, 0x4,
    [⟨15, 0, .ro, .view, false⟩]⟩,
  ⟨"NET.HQ.DROP", 0x188028, 1, 0x4, 1, 0x4,
    [⟨31, 0, .rc, .val 0, true⟩]⟩,
  ⟨"NET.HQ.CAUSE", 0x18802C, 1, 0x4, 1, 0x4,
    [⟨0, 0, .w1c, .val 0, true⟩]⟩,
  ⟨"NET.HQ.MASK", 0x188030, 1, 0x4, 1, 0x4,
    [⟨0, 0, .rw, .val 1, true⟩]⟩,
  ⟨"NET.HQ.FILT", 0x188040, 8, 0x4, 1, 0x4,
    [⟨15, 0, .rw, .val 0, true⟩, ⟨16, 16, .rw, .val 0, true⟩]⟩]

/-- The rows of block group SRC. -/
def rowsSRC : List RegRow := [
  ⟨"SRC.STAT", 0x200000, 640, 0x400, 1, 0x4,
    [⟨3, 0, .ro, .view, false⟩, ⟨7, 4, .ro, .view, false⟩, ⟨8, 8, .ro, .view, false⟩, ⟨9, 9, .ro, .view, false⟩]⟩,
  ⟨"SRC.FMT", 0x200004, 640, 0x400, 1, 0x4,
    [⟨7, 0, .ro, .view, false⟩, ⟨9, 8, .ro, .view, false⟩, ⟨11, 10, .ro, .view, false⟩, ⟨13, 12, .ro, .view, false⟩, ⟨14, 14, .ro, .view, false⟩, ⟨19, 16, .ro, .view, false⟩, ⟨23, 20, .ro, .view, false⟩, ⟨24, 24, .ro, .view, false⟩, ⟨25, 25, .ro, .view, false⟩]⟩,
  ⟨"SRC.PID", 0x200008, 640, 0x400, 1, 0x4,
    [⟨31, 0, .ro, .view, false⟩]⟩,
  ⟨"SRC.CFG0", 0x20000C, 640, 0x400, 1, 0x4,
    [⟨15, 0, .ro, .view, false⟩, ⟨17, 16, .ro, .view, false⟩, ⟨18, 18, .ro, .view, false⟩, ⟨19, 19, .ro, .view, false⟩, ⟨21, 20, .ro, .view, false⟩, ⟨25, 22, .ro, .view, false⟩]⟩,
  ⟨"SRC.CFG1", 0x200010, 640, 0x400, 1, 0x4,
    [⟨7, 0, .ro, .view, false⟩, ⟨9, 8, .ro, .view, false⟩, ⟨11, 10, .ro, .view, false⟩, ⟨13, 12, .ro, .view, false⟩, ⟨14, 14, .ro, .view, false⟩, ⟨15, 15, .ro, .view, false⟩]⟩,
  ⟨"SRC.SLATE", 0x200014, 640, 0x400, 1, 0x4,
    [⟨31, 0, .ro, .view, false⟩]⟩,
  ⟨"SRC.RING", 0x200018, 640, 0x400, 1, 0x4,
    [⟨23, 0, .ro, .view, false⟩, ⟨25, 24, .ro, .view, false⟩, ⟨28, 26, .ro, .view, false⟩, ⟨30, 29, .ro, .view, false⟩]⟩,
  ⟨"SRC.ARR_NS", 0x20001C, 640, 0x400, 1, 0x4,
    [⟨31, 0, .ro, .view, false⟩]⟩,
  ⟨"SRC.ARR_SEC_LO", 0x200020, 640, 0x400, 1, 0x4,
    [⟨31, 0, .ro, .view, false⟩]⟩,
  ⟨"SRC.ARR_SEC_HI", 0x200024, 640, 0x400, 1, 0x4,
    [⟨15, 0, .ro, .view, false⟩]⟩,
  ⟨"SRC.PERIOD", 0x200028, 640, 0x400, 1, 0x4,
    [⟨31, 0, .ro, .view, false⟩]⟩,
  ⟨"SRC.ERR", 0x20002C, 256, 0x400, 1, 0x4,
    [⟨15, 0, .rc, .val 0, false⟩, ⟨31, 16, .rc, .val 0, false⟩]⟩,
  ⟨"SRC.LEG", 0x200030, 256, 0x400, 1, 0x4,
    [⟨15, 0, .rc, .val 0, false⟩, ⟨31, 16, .rc, .val 0, false⟩]⟩,
  ⟨"SRC.SKEW", 0x200034, 256, 0x400, 1, 0x4,
    [⟨20, 0, .ro, .view, false⟩]⟩,
  ⟨"SRC.CAUSE", 0x200040, 256, 0x400, 1, 0x4,
    [⟨10, 0, .w1c, .val 0, false⟩]⟩,
  ⟨"SRC.MASK", 0x200044, 256, 0x400, 1, 0x4,
    [⟨10, 0, .rw, .val 0x7FF, true⟩]⟩,
  ⟨"SRC.ERR, LEG, SKEW of S256 to S639", 0x24002C, 384, 0x400, 3, 0x4,
    []⟩,
  ⟨"SRC.CAUSE, MASK of S256 to S639", 0x240040, 384, 0x400, 2, 0x4,
    []⟩,
  ⟨"SRC.LEDGER", 0x200100, 640, 0x400, 16, 0x4,
    [⟨31, 0, .ro, .view, false⟩]⟩]

/-- The rows of block group HEAD. -/
def rowsHEAD : List RegRow := [
  ⟨"HEAD.CFG", 0x400000, 256, 0x1000, 1, 0x4,
    [⟨7, 0, .ro, .view, false⟩, ⟨12, 8, .ro, .view, false⟩, ⟨19, 16, .ro, .view, false⟩, ⟨20, 20, .ro, .view, false⟩, ⟨21, 21, .ro, .view, false⟩]⟩,
  ⟨"HEAD.STAT", 0x400004, 256, 0x1000, 1, 0x4,
    [⟨1, 0, .ro, .view, false⟩, ⟨15, 8, .ro, .view, false⟩, ⟨23, 16, .ro, .view, false⟩]⟩,
  ⟨"HEAD.BG_LO", 0x400008, 256, 0x1000, 1, 0x4,
    [⟨31, 0, .ro, .view, false⟩]⟩,
  ⟨"HEAD.BG_HI", 0x40000C, 256, 0x1000, 1, 0x4,
    [⟨3, 0, .ro, .view, false⟩]⟩,
  ⟨"HEAD.LOAD", 0x400010, 256, 0x1000, 1, 0x4,
    [⟨12, 0, .ro, .view, false⟩, ⟨28, 16, .ro, .view, false⟩]⟩,
  ⟨"HEAD.FETCH", 0x400014, 256, 0x1000, 1, 0x4,
    [⟨11, 0, .ro, .view, false⟩, ⟨27, 16, .ro, .view, false⟩]⟩,
  ⟨"HEAD.DEST", 0x400018, 256, 0x1000, 8, 0x4,
    [⟨31, 0, .ro, .view, false⟩]⟩,
  ⟨"HEAD.CAUSE", 0x400038, 256, 0x1000, 1, 0x4,
    [⟨3, 0, .w1c, .val 0, false⟩]⟩,
  ⟨"HEAD.MASK", 0x40003C, 256, 0x1000, 1, 0x4,
    [⟨3, 0, .rw, .val 0xF, true⟩]⟩,
  ⟨"HEAD.SLUICE", 0x400040, 256, 0x1000, 1, 0x4,
    [⟨3, 0, .ro, .view, false⟩, ⟨15, 4, .ro, .view, false⟩, ⟨27, 16, .ro, .view, false⟩]⟩,
  ⟨"HEAD.INSTAR", 0x400044, 256, 0x1000, 1, 0x4,
    [⟨31, 0, .ro, .view, false⟩]⟩,
  ⟨"HEAD.CMT_STAT", 0x400048, 256, 0x1000, 1, 0x4,
    [⟨4, 0, .ro, .view, false⟩, ⟨5, 5, .ro, .view, false⟩, ⟨8, 8, .w1c, .val 0, false⟩, ⟨9, 9, .w1c, .val 0, false⟩, ⟨10, 10, .w1c, .val 0, false⟩]⟩,
  ⟨"HEAD.CMT_CNT", 0x40004C, 256, 0x1000, 1, 0x4,
    [⟨15, 0, .rc, .val 0, false⟩, ⟨31, 16, .rc, .val 0, false⟩]⟩,
  ⟨"HEAD.CMT_SEQ", 0x400050, 256, 0x1000, 1, 0x4,
    [⟨31, 0, .ro, .val 0, false⟩]⟩,
  ⟨"HEAD.CMT_SRC", 0x400054, 256, 0x1000, 1, 0x4,
    [⟨5, 0, .ro, .val 0, false⟩, ⟨31, 16, .ro, .val 0, false⟩]⟩,
  ⟨"HEAD.CMT_MASK", 0x400058, 256, 0x1000, 1, 0x4,
    [⟨2, 0, .rw, .val 7, true⟩]⟩,
  ⟨"HEAD.SUM", 0x400080, 256, 0x1000, 1, 0x4,
    [⟨0, 0, .ro, .view, false⟩, ⟨1, 1, .ro, .view, false⟩, ⟨2, 2, .ro, .view, false⟩, ⟨3, 3, .ro, .view, false⟩]⟩,
  ⟨"HEAD.FAULT", 0x400084, 256, 0x1000, 1, 0x4,
    [⟨2, 0, .w1c, .val 0, true⟩, ⟨3, 3, .ro, .view, false⟩, ⟨15, 8, .ro, .view, false⟩, ⟨31, 16, .rc, .val 0, false⟩]⟩,
  ⟨"HEAD.LCTL", 0x400100, 256, 0x1000, 8, 0x40,
    [⟨0, 0, .ro, .view, false⟩, ⟨1, 1, .ro, .view, false⟩, ⟨2, 2, .ro, .view, false⟩, ⟨3, 3, .ro, .view, false⟩, ⟨4, 4, .ro, .view, false⟩, ⟨7, 5, .ro, .view, false⟩, ⟨10, 8, .ro, .view, false⟩, ⟨31, 16, .ro, .view, false⟩]⟩,
  ⟨"HEAD.LSRC_LO", 0x400104, 256, 0x1000, 8, 0x40,
    [⟨31, 0, .ro, .view, false⟩]⟩,
  ⟨"HEAD.LSRC_HI", 0x400108, 256, 0x1000, 8, 0x40,
    [⟨31, 0, .ro, .view, false⟩]⟩,
  ⟨"HEAD.LCROP_XY", 0x40010C, 256, 0x1000, 8, 0x40,
    [⟨15, 0, .ro, .view, false⟩, ⟨31, 16, .ro, .view, false⟩]⟩,
  ⟨"HEAD.LCROP_WH", 0x400110, 256, 0x1000, 8, 0x40,
    [⟨15, 0, .ro, .view, false⟩, ⟨31, 16, .ro, .view, false⟩]⟩,
  ⟨"HEAD.LDST_XY", 0x400114, 256, 0x1000, 8, 0x40,
    [⟨15, 0, .ro, .view, false⟩, ⟨31, 16, .ro, .view, false⟩]⟩,
  ⟨"HEAD.LDST_WH", 0x400118, 256, 0x1000, 8, 0x40,
    [⟨15, 0, .ro, .view, false⟩, ⟨31, 16, .ro, .view, false⟩]⟩,
  ⟨"HEAD.LALPHA", 0x40011C, 256, 0x1000, 8, 0x40,
    [⟨12, 0, .ro, .view, false⟩, ⟨31, 16, .ro, .view, false⟩]⟩,
  ⟨"HEAD.LRAW", 0x400120, 256, 0x1000, 8, 0x40,
    [⟨7, 0, .ro, .view, false⟩, ⟨31, 8, .ro, .view, false⟩]⟩,
  ⟨"HEAD.LSTAT", 0x400124, 256, 0x1000, 8, 0x40,
    [⟨2, 0, .ro, .view, false⟩, ⟨9, 8, .ro, .view, false⟩]⟩,
  ⟨"HEAD.LCULL", 0x400128, 256, 0x1000, 8, 0x40,
    [⟨15, 0, .ro, .view, false⟩, ⟨27, 16, .ro, .view, false⟩]⟩,
  ⟨"HEAD.LEDGER", 0x400400, 256, 0x1000, 144, 0x4,
    [⟨31, 0, .ro, .view, false⟩]⟩]

/-- The rows of block group SCL. -/
def rowsSCL : List RegRow := [
  ⟨"SCL.CTL", 0x500000, 128, 0x100, 1, 0x4,
    [⟨1, 0, .ro, .view, false⟩, ⟨2, 2, .ro, .view, false⟩, ⟨11, 8, .ro, .view, false⟩, ⟨15, 12, .ro, .view, false⟩, ⟨17, 16, .ro, .view, false⟩, ⟨19, 18, .ro, .view, false⟩]⟩,
  ⟨"SCL.USE", 0x500004, 128, 0x100, 1, 0x4,
    [⟨15, 0, .ro, .view, false⟩, ⟨23, 16, .ro, .view, false⟩, ⟨26, 24, .ro, .view, false⟩, ⟨27, 27, .ro, .view, false⟩]⟩,
  ⟨"SCL.LB", 0x500008, 128, 0x100, 1, 0x4,
    [⟨7, 0, .ro, .view, false⟩, ⟨15, 8, .ro, .view, false⟩, ⟨28, 16, .ro, .view, false⟩]⟩,
  ⟨"SCL.SETS", 0x50000C, 128, 0x100, 1, 0x4,
    [⟨3, 1, .ro, .view, false⟩, ⟨7, 5, .ro, .view, false⟩, ⟨11, 8, .ro, .view, false⟩]⟩,
  ⟨"SCL.CAUSE", 0x500010, 128, 0x100, 1, 0x4,
    [⟨1, 0, .w1c, .val 0, false⟩]⟩,
  ⟨"SCL.MASK", 0x500014, 128, 0x100, 1, 0x4,
    [⟨1, 0, .rw, .val 3, true⟩]⟩]

/-- The rows of block group CNV. -/
def rowsCNV : List RegRow := [
  ⟨"CNV.CTL", 0x540000, 128, 0x100, 1, 0x4,
    [⟨1, 0, .ro, .view, false⟩, ⟨3, 2, .ro, .view, false⟩, ⟨4, 4, .ro, .view, false⟩, ⟨9, 5, .ro, .view, false⟩, ⟨11, 10, .ro, .view, false⟩, ⟨25, 16, .ro, .view, false⟩]⟩,
  ⟨"CNV.STAT", 0x540004, 128, 0x100, 1, 0x4,
    [⟨1, 0, .ro, .view, false⟩, ⟨2, 2, .ro, .view, false⟩, ⟨3, 3, .ro, .view, false⟩, ⟨5, 4, .ro, .view, false⟩, ⟨15, 8, .ro, .view, false⟩, ⟨22, 16, .ro, .view, false⟩]⟩,
  ⟨"CNV.TOK", 0x540008, 128, 0x100, 1, 0x4,
    [⟨7, 0, .ro, .view, false⟩, ⟨15, 8, .ro, .view, false⟩]⟩,
  ⟨"CNV.DELAY", 0x54000C, 128, 0x100, 1, 0x4,
    [⟨23, 0, .ro, .view, false⟩, ⟨31, 24, .ro, .view, false⟩]⟩,
  ⟨"CNV.CAUSE", 0x540010, 128, 0x100, 1, 0x4,
    [⟨5, 0, .w1c, .val 0, false⟩]⟩,
  ⟨"CNV.MASK", 0x540014, 128, 0x100, 1, 0x4,
    [⟨5, 0, .rw, .val 0x3F, true⟩]⟩,
  ⟨"CNV.OWN", 0x540018, 128, 0x100, 1, 0x4,
    [⟨15, 0, .ro, .view, false⟩]⟩]

/-- The rows of block group COL. -/
def rowsCOL : List RegRow := [
  ⟨"COL.HOUSE", 0x580000, 1, 0x4, 1, 0x4,
    [⟨1, 0, .rws, .val 0, false⟩, ⟨3, 2, .rws, .val 0, false⟩]⟩,
  ⟨"COL.IN.CFG", 0x581000, 256, 0x10, 1, 0x4,
    [⟨1, 0, .ro, .view, false⟩, ⟨3, 2, .ro, .view, false⟩, ⟨5, 4, .ro, .view, false⟩, ⟨7, 6, .ro, .view, false⟩, ⟨9, 8, .ro, .view, false⟩, ⟨11, 10, .ro, .view, false⟩, ⟨13, 12, .ro, .view, false⟩, ⟨14, 14, .ro, .view, false⟩, ⟨15, 15, .ro, .view, false⟩, ⟨16, 16, .ro, .view, false⟩]⟩,
  ⟨"COL.IN.STAT", 0x581004, 256, 0x10, 1, 0x4,
    [⟨31, 0, .ro, .view, false⟩]⟩,
  ⟨"COL.OUT.CFG", 0x591000, 256, 0x10, 1, 0x4,
    [⟨1, 0, .ro, .view, false⟩, ⟨3, 2, .ro, .view, false⟩, ⟨5, 4, .ro, .view, false⟩, ⟨7, 6, .ro, .view, false⟩, ⟨9, 8, .ro, .view, false⟩, ⟨11, 10, .ro, .view, false⟩, ⟨13, 12, .ro, .view, false⟩, ⟨14, 14, .ro, .view, false⟩, ⟨15, 15, .ro, .view, false⟩, ⟨16, 16, .ro, .view, false⟩]⟩,
  ⟨"COL.OUT.STAT", 0x591004, 256, 0x10, 1, 0x4,
    [⟨31, 0, .ro, .view, false⟩]⟩,
  ⟨"COL.DITH.CTL", 0x5A0000, 256, 0x10, 1, 0x4,
    [⟨1, 0, .ro, .view, false⟩, ⟨2, 2, .ro, .view, false⟩]⟩,
  ⟨"COL.DITH.SEED", 0x5A0004, 256, 0x10, 1, 0x4,
    [⟨31, 0, .ro, .view, false⟩]⟩]

/-- The rows of block group AUD. -/
def rowsAUD : List RegRow := [
  ⟨"AUD.CLK", 0x600000, 1, 0x4, 1, 0x4,
    [⟨6, 0, .rws, .val 0, false⟩, ⟨7, 7, .rws, .val 0, false⟩]⟩,
  ⟨"AUD.SRC", 0x600004, 1, 0x4, 1, 0x4,
    [⟨10, 0, .ro, .view, false⟩, ⟨28, 16, .ro, .view, false⟩]⟩,
  ⟨"AUD.RCAUSE", 0x600010, 1, 0x4, 1, 0x4,
    [⟨1, 0, .w1c, .val 0, false⟩]⟩,
  ⟨"AUD.RMASK", 0x600014, 1, 0x4, 1, 0x4,
    [⟨1, 0, .rw, .val 3, true⟩]⟩,
  ⟨"AUD.GRP.CTL", 0x601000, 1152, 0x20, 1, 0x4,
    [⟨1, 0, .rws, .val 0, false⟩]⟩,
  ⟨"AUD.GRP.STAT", 0x601004, 1152, 0x20, 1, 0x4,
    [⟨1, 0, .ro, .view, false⟩, ⟨5, 2, .ro, .view, false⟩, ⟨10, 6, .ro, .view, false⟩, ⟨31, 16, .ro, .view, false⟩]⟩,
  ⟨"AUD.GRP.BASE", 0x601008, 1152, 0x20, 1, 0x4,
    [⟨12, 0, .ro, .view, false⟩, ⟨20, 16, .ro, .view, false⟩]⟩,
  ⟨"AUD.GRP.CAUSE", 0x60100C, 1152, 0x20, 1, 0x4,
    [⟨3, 0, .w1c, .val 0, false⟩]⟩,
  ⟨"AUD.GRP.MASK", 0x601010, 1152, 0x20, 1, 0x4,
    [⟨3, 0, .rw, .val 0xF, true⟩]⟩,
  ⟨"AUD.TXF.BASE", 0x60A000, 1024, 0x4, 1, 0x4,
    [⟨12, 0, .ro, .view, false⟩, ⟨20, 16, .ro, .view, false⟩]⟩,
  ⟨"AUD.EMB.CTL", 0x60B000, 128, 0x4, 1, 0x4,
    [⟨3, 0, .rws, .val 0xF, false⟩, ⟨4, 4, .rws, .val 1, false⟩]⟩,
  ⟨"AUD.OUT.CTL", 0x610000, 8192, 0x10, 1, 0x4,
    [⟨12, 0, .ro, .view, false⟩, ⟨13, 13, .ro, .view, false⟩, ⟨14, 14, .ro, .view, false⟩, ⟨15, 15, .ro, .view, false⟩, ⟨16, 16, .ro, .view, false⟩, ⟨17, 17, .ro, .view, false⟩, ⟨25, 18, .ro, .view, false⟩, ⟨28, 26, .ro, .view, false⟩]⟩,
  ⟨"AUD.OUT.GAIN", 0x610004, 8192, 0x10, 1, 0x4,
    [⟨15, 0, .ro, .view, false⟩, ⟨21, 16, .ro, .view, false⟩, ⟨25, 22, .ro, .view, false⟩]⟩,
  ⟨"AUD.OUT.DELAY", 0x610008, 8192, 0x10, 1, 0x4,
    [⟨13, 0, .ro, .view, false⟩, ⟨31, 16, .ro, .view, false⟩]⟩,
  ⟨"AUD.OUT.STAT", 0x61000C, 8192, 0x10, 1, 0x4,
    [⟨15, 0, .ro, .view, false⟩, ⟨16, 16, .ro, .view, false⟩, ⟨17, 17, .ro, .view, false⟩]⟩]

/-- The rows of block group PSN. -/
def rowsPSN : List RegRow := [
  ⟨"PSN.DST.STAT", 0x700000, 256, 0x40, 1, 0x4,
    [⟨1, 0, .ro, .view, false⟩, ⟨5, 2, .ro, .view, false⟩, ⟨6, 6, .ro, .view, false⟩]⟩,
  ⟨"PSN.DST.CRC_ERR", 0x700004, 256, 0x40, 1, 0x4,
    [⟨31, 0, .rc, .val 0, false⟩]⟩,
  ⟨"PSN.DST.MISMATCH", 0x700008, 256, 0x40, 1, 0x4,
    [⟨31, 0, .rc, .val 0, false⟩]⟩,
  ⟨"PSN.HS.ES_XY", 0x710000, 256, 0x40, 4, 0x8,
    [⟨12, 0, .rws, .val 0, false⟩, ⟨28, 16, .rws, .val 0, false⟩]⟩,
  ⟨"PSN.HS.ES_WH", 0x710004, 256, 0x40, 4, 0x8,
    [⟨12, 0, .rws, .val 0, false⟩, ⟨28, 16, .rws, .val 0, false⟩, ⟨31, 31, .rws, .val 0, false⟩]⟩,
  ⟨"PSN.HS.DIKE", 0x710020, 256, 0x40, 1, 0x4,
    [⟨0, 0, .ro, .view, false⟩, ⟨1, 1, .ro, .view, false⟩, ⟨2, 2, .ro, .view, false⟩, ⟨15, 8, .ro, .view, false⟩, ⟨21, 16, .ro, .view, false⟩]⟩,
  ⟨"PSN.HS.DIKE_CNT", 0x710024, 256, 0x40, 1, 0x4,
    [⟨31, 0, .ro, .view, false⟩]⟩,
  ⟨"PSN.HS.CAUSE", 0x710028, 256, 0x40, 1, 0x4,
    [⟨3, 0, .w1c, .val 0, false⟩]⟩,
  ⟨"PSN.HS.MASK", 0x71002C, 256, 0x40, 1, 0x4,
    [⟨3, 0, .rw, .val 0xF, true⟩]⟩,
  ⟨"PSN.SEAL_CTL", 0x760000, 1, 0x4, 1, 0x4,
    [⟨15, 0, .rws, .val 0x3E8, false⟩, ⟨23, 16, .rws, .val 1, false⟩, ⟨31, 24, .rws, .val 0xA, false⟩]⟩,
  ⟨"PSN.SEAL_STAT", 0x760004, 1, 0x4, 1, 0x4,
    [⟨0, 0, .ro, .view, false⟩, ⟨1, 1, .ro, .view, false⟩, ⟨2, 2, .ro, .view, false⟩, ⟨3, 3, .ro, .view, false⟩]⟩,
  ⟨"PSN.LOG_HEAD", 0x760008, 1, 0x4, 1, 0x4,
    [⟨31, 0, .rw, .view, false⟩]⟩,
  ⟨"PSN.LOG_TAIL", 0x76000C, 1, 0x4, 1, 0x4,
    [⟨31, 0, .ro, .view, false⟩]⟩]

/-- The rows of block group PUSH. -/
def rowsPUSH : List RegRow := [
  ⟨"PUSH.CTL", 0x770000, 8, 0x40, 1, 0x4,
    [⟨0, 0, .ro, .view, false⟩, ⟨1, 1, .ro, .view, false⟩, ⟨3, 2, .ro, .view, false⟩, ⟨4, 4, .ro, .view, false⟩, ⟨12, 5, .ro, .view, false⟩, ⟨20, 13, .ro, .view, false⟩, ⟨25, 21, .ro, .view, false⟩, ⟨31, 26, .ro, .view, false⟩]⟩,
  ⟨"PUSH.AREA_XY", 0x770004, 8, 0x40, 1, 0x4,
    [⟨15, 0, .ro, .view, false⟩, ⟨31, 16, .ro, .view, false⟩]⟩,
  ⟨"PUSH.AREA_WH", 0x770008, 8, 0x40, 1, 0x4,
    [⟨15, 0, .ro, .view, false⟩, ⟨31, 16, .ro, .view, false⟩]⟩,
  ⟨"PUSH.RING_LO", 0x77000C, 8, 0x40, 1, 0x4,
    [⟨31, 12, .ro, .view, false⟩]⟩,
  ⟨"PUSH.RING_HI", 0x770010, 8, 0x40, 1, 0x4,
    [⟨31, 0, .ro, .view, false⟩]⟩,
  ⟨"PUSH.HEAD", 0x770014, 8, 0x40, 1, 0x4,
    [⟨31, 0, .rw, .view, false⟩]⟩,
  ⟨"PUSH.TAIL", 0x770018, 8, 0x40, 1, 0x4,
    [⟨31, 0, .ro, .view, false⟩]⟩,
  ⟨"PUSH.STAT", 0x77001C, 8, 0x40, 1, 0x4,
    [⟨1, 0, .ro, .view, false⟩, ⟨3, 2, .ro, .view, false⟩, ⟨6, 4, .ro, .view, false⟩, ⟨31, 16, .ro, .view, false⟩]⟩,
  ⟨"PUSH.CAUSE", 0x770020, 8, 0x40, 1, 0x4,
    [⟨2, 0, .w1c, .val 0, false⟩]⟩,
  ⟨"PUSH.MASK", 0x770024, 8, 0x40, 1, 0x4,
    [⟨2, 0, .rw, .val 7, true⟩]⟩,
  ⟨"PUSH.REFRESH", 0x770028, 8, 0x40, 1, 0x4,
    [⟨15, 0, .ro, .view, false⟩]⟩]

/-- The rows of block group NV. -/
def rowsNV : List RegRow := [
  ⟨"NV.STAT", 0x780000, 1, 0x4, 1, 0x4,
    [⟨1, 0, .ro, .view, false⟩, ⟨2, 2, .ro, .view, false⟩, ⟨3, 3, .ro, .view, false⟩, ⟨4, 4, .ro, .view, false⟩, ⟨25, 16, .ro, .view, false⟩]⟩,
  ⟨"NV.HOLDUP", 0x780004, 1, 0x4, 1, 0x4,
    [⟨11, 0, .ro, .view, false⟩]⟩,
  ⟨"NV.SPACE", 0x780008, 1, 0x4, 1, 0x4,
    [⟨10, 0, .ro, .view, false⟩, ⟨23, 16, .ro, .view, false⟩, ⟨31, 24, .ro, .view, false⟩]⟩,
  ⟨"NV.WEAR", 0x78000C, 1, 0x4, 1, 0x4,
    [⟨15, 0, .ro, .view, false⟩, ⟨31, 16, .ro, .view, false⟩]⟩,
  ⟨"NV.SCRUB", 0x780010, 1, 0x4, 1, 0x4,
    [⟨15, 0, .rc, .val 0, false⟩, ⟨31, 16, .rc, .val 0, false⟩]⟩,
  ⟨"NV.SEQ", 0x780014, 1, 0x4, 1, 0x4,
    [⟨31, 0, .ro, .view, false⟩]⟩,
  ⟨"NV.CFG", 0x780018, 1, 0x4, 1, 0x4,
    [⟨7, 0, .rws, .val 0x18, false⟩]⟩,
  ⟨"NV.CAUSE", 0x78001C, 1, 0x4, 1, 0x4,
    [⟨5, 0, .w1c, .val 0, false⟩]⟩,
  ⟨"NV.MASK", 0x780020, 1, 0x4, 1, 0x4,
    [⟨5, 0, .rw, .val 0x3F, true⟩]⟩,
  ⟨"NV.CNT_LO", 0x780100, 64, 0x8, 1, 0x4,
    [⟨31, 0, .ro, .view, false⟩]⟩,
  ⟨"NV.CNT_HI", 0x780104, 64, 0x8, 1, 0x4,
    [⟨31, 0, .ro, .view, false⟩]⟩,
  ⟨"NV.EPOCH", 0x780300, 64, 0x4, 1, 0x4,
    [⟨31, 0, .ro, .view, false⟩]⟩]

/-- The rows of block group COC. -/
def rowsCOC : List RegRow := [
  ⟨"COC.STAT", 0x7C0000, 1, 0x4, 1, 0x4,
    [⟨0, 0, .ro, .view, false⟩, ⟨1, 1, .ro, .view, false⟩, ⟨2, 2, .ro, .view, false⟩, ⟨3, 3, .ro, .view, false⟩, ⟨4, 4, .ro, .view, false⟩, ⟨15, 8, .ro, .view, false⟩, ⟨31, 16, .ro, .view, false⟩]⟩,
  ⟨"COC.CTL", 0x7C0004, 1, 0x4, 1, 0x4,
    [⟨0, 0, .wo, .val 0, false⟩]⟩,
  ⟨"COC.BR_CAUSE", 0x7C0008, 1, 0x4, 1, 0x4,
    [⟨7, 0, .ro, .val 0, false⟩, ⟨21, 16, .ro, .view, false⟩]⟩,
  ⟨"COC.BR_AON_LO", 0x7C000C, 1, 0x4, 1, 0x4,
    [⟨31, 0, .ro, .val 0, false⟩]⟩,
  ⟨"COC.BR_AON_HI", 0x7C0010, 1, 0x4, 1, 0x4,
    [⟨15, 0, .ro, .val 0, false⟩]⟩,
  ⟨"COC.MAP_AON_LO", 0x7C0014, 1, 0x4, 1, 0x4,
    [⟨31, 0, .ro, .val 0, false⟩]⟩,
  ⟨"COC.MAP_AON_HI", 0x7C0018, 1, 0x4, 1, 0x4,
    [⟨15, 0, .ro, .val 0, false⟩]⟩,
  ⟨"COC.MAP_SEC_LO", 0x7C001C, 1, 0x4, 1, 0x4,
    [⟨31, 0, .ro, .val 0, false⟩]⟩,
  ⟨"COC.MAP_SEC_HI", 0x7C0020, 1, 0x4, 1, 0x4,
    [⟨15, 0, .ro, .val 0, false⟩]⟩,
  ⟨"COC.BATT", 0x7C0024, 1, 0x4, 1, 0x4,
    [⟨11, 0, .ro, .val 0, false⟩, ⟨12, 12, .ro, .val 0, false⟩, ⟨13, 13, .ro, .val 0, false⟩]⟩,
  ⟨"COC.CAUSE", 0x7C0028, 1, 0x4, 1, 0x4,
    [⟨2, 0, .w1c, .val 0, false⟩]⟩,
  ⟨"COC.MASK", 0x7C002C, 1, 0x4, 1, 0x4,
    [⟨2, 0, .rw, .val 7, true⟩]⟩,
  ⟨"COC.SLOT", 0x7C0100, 64, 0x4, 1, 0x4,
    [⟨3, 0, .ro, .view, false⟩, ⟨11, 4, .ro, .view, false⟩, ⟨12, 12, .ro, .view, false⟩, ⟨13, 13, .ro, .view, false⟩, ⟨14, 14, .ro, .view, false⟩, ⟨15, 15, .ro, .view, false⟩, ⟨31, 16, .ro, .view, false⟩]⟩]

/-- The rows of block group MGMT. -/
def rowsMGMT : List RegRow := [
  ⟨"MGMT.STAT", 0x7E0000, 1, 0x4, 1, 0x4,
    [⟨0, 0, .ro, .view, false⟩, ⟨1, 1, .ro, .view, false⟩, ⟨2, 2, .ro, .view, false⟩]⟩,
  ⟨"MGMT.PAIR.STAT", 0x7E0010, 2, 0x10, 1, 0x4,
    [⟨2, 0, .ro, .view, false⟩, ⟨3, 3, .ro, .view, false⟩, ⟨4, 4, .ro, .view, false⟩]⟩,
  ⟨"MGMT.PAIR.FW", 0x7E0014, 2, 0x10, 1, 0x4,
    [⟨31, 0, .ro, .view, false⟩]⟩,
  ⟨"MGMT.PAIR.RESETS", 0x7E0018, 2, 0x10, 1, 0x4,
    [⟨15, 0, .ro, .val 0, false⟩, ⟨31, 16, .ro, .val 0, false⟩]⟩,
  ⟨"MGMT.MOULT_CTL", 0x7E0040, 1, 0x4, 1, 0x4,
    [⟨2, 0, .wo, .val 0, false⟩, ⟨15, 8, .rws, .val 0x3C, false⟩]⟩,
  ⟨"MGMT.MOULT_STAT", 0x7E0044, 1, 0x4, 1, 0x4,
    [⟨2, 0, .ro, .view, false⟩, ⟨7, 4, .ro, .view, false⟩, ⟨8, 8, .ro, .view, false⟩, ⟨31, 16, .ro, .view, false⟩]⟩,
  ⟨"MGMT.MOULT_ADDR_LO", 0x7E0048, 1, 0x4, 1, 0x4,
    [⟨31, 12, .rw, .val 0, false⟩]⟩,
  ⟨"MGMT.MOULT_ADDR_HI", 0x7E004C, 1, 0x4, 1, 0x4,
    [⟨31, 0, .rw, .val 0, false⟩]⟩,
  ⟨"MGMT.MOULT_LEN", 0x7E0050, 1, 0x4, 1, 0x4,
    [⟨21, 0, .rw, .val 0, false⟩]⟩,
  ⟨"MGMT.SLOT.VER", 0x7E0060, 2, 0x8, 1, 0x4,
    [⟨31, 0, .ro, .view, false⟩]⟩,
  ⟨"MGMT.SLOT.SEQ", 0x7E0064, 2, 0x8, 1, 0x4,
    [⟨15, 0, .ro, .view, false⟩, ⟨23, 16, .ro, .view, false⟩, ⟨24, 24, .ro, .view, false⟩]⟩,
  ⟨"MGMT.WIN_CTL", 0x7E0080, 1, 0x4, 1, 0x4,
    [⟨0, 0, .rw, .val 0, true⟩]⟩,
  ⟨"MGMT.WIN_STAT", 0x7E0084, 1, 0x4, 1, 0x4,
    [⟨15, 0, .rc, .val 0, false⟩, ⟨31, 16, .rc, .val 0, false⟩]⟩,
  ⟨"MGMT.FAB_STAT", 0x7E0090, 1, 0x4, 1, 0x4,
    [⟨15, 0, .rc, .val 0, false⟩, ⟨31, 16, .rc, .val 0, false⟩]⟩,
  ⟨"MGMT.LOCK", 0x7E00A0, 1, 0x4, 1, 0x4,
    [⟨15, 0, .wo, .val 0, false⟩, ⟨16, 16, .wo, .val 0, false⟩, ⟨17, 17, .ro, .view, false⟩]⟩,
  ⟨"MGMT.CAUSE", 0x7E00B0, 1, 0x4, 1, 0x4,
    [⟨4, 0, .w1c, .val 0, false⟩]⟩,
  ⟨"MGMT.MASK", 0x7E00B4, 1, 0x4, 1, 0x4,
    [⟨4, 0, .rw, .val 0x1F, true⟩]⟩]

/-- Every register of BAR0. -/
def regRows : List RegRow :=
  rowsGLB ++ rowsHIF ++ rowsEVT ++ rowsLEAVE ++ rowsTIME ++ rowsLANE ++ rowsSCAN ++ rowsHQ ++ rowsSRC ++ rowsHEAD ++ rowsSCL ++ rowsCNV ++ rowsCOL ++ rowsAUD ++ rowsPSN ++ rowsPUSH ++ rowsNV ++ rowsCOC ++ rowsMGMT

/-- The instance numbers of the row that address `a` falls on, if it does. -/
def RegRow.index (r : RegRow) (a : Nat) : Option (Nat × Nat) :=
  if a < r.base then none else
    let d := a - r.base
    let i := if r.n1 = 1 then 0 else d / r.s1
    let d' := d - i * r.s1
    if i < r.n1 ∧ d' % r.s2 = 0 ∧ d' / r.s2 < r.n2 then some (i, d' / r.s2) else none

/-- The register at an address of BAR0, with its instance numbers; none where the address is unmapped (R530, R532). -/
def findReg (a : Nat) : Option (RegRow × Nat × Nat) :=
  regRows.findSome? fun r => (r.index a).map fun ij => (r, ij.1, ij.2)

/-- The event ring that R510 gives a source after power-on. -/
def evtRingDefault (s : Nat) : Nat :=
  if s < 256 then 0
  else if s < 275 then 1
  else if s = 275 then 2
  else if s < 279 then 1
  else if s < 287 then 2
  else if s < 308 then 1
  else if s = 308 then 3
  else if s < 312 then 2
  else 3

/-- The urgency that R510 gives a source after power-on. -/
def evtUrgentDefault (s : Nat) : Nat :=
  if s = 275 ∨ s = 279 ∨ s = 280 ∨ s = 281 ∨ s = 283 ∨ s = 286 ∨ s = 311 then 1 else 0

/-- The value of a field after power-on, shifted to its place. A view contributes nothing. -/
def Fld.powerOn (f : Fld) (i : Nat) : Nat :=
  (match f.rst with
   | .val n => n
   | .idx1 => i + 1
   | .evtRing => evtRingDefault i
   | .evtUrgent => evtUrgentDefault i
   | .view => 0) * 2 ^ f.lo

/-- The value that the register file holds at an address after power-on. -/
def powerOn (a : Nat) : Word :=
  match findReg a with
  | some (r, i, _) => BitVec.ofNat 32 ((r.fields.map fun f => f.powerOn i).foldl (· + ·) 0)
  | none => 0

end Sys2Proof.Machine
end

