-- ==== Sys2Proof/Machine/StateHif.lean ====
section
/-!
DEFINITION. Machine/StateHif.lean: the host interface's part of the state.
Submission rings, completion rings, event rings, MSI-X, staged event records and the host memory bytes that the module
has written ("Rings, doorbells and completions", "Events, faults and availability").
-/
namespace Sys2Proof.Machine

/-- SQ_STAT.state. -/
inductive SqState where
  | disabled | running | halted | resetting
  deriving DecidableEq, Repr

/-- SQ_STAT.reason. -/
inductive SqReason where
  | none | malformed | fetchErr | dbOverrun | badCfg | cqErr
  deriving DecidableEq, Repr

/-- A descriptor that has started, or that a ring reset flushed, and whose completion is not yet posted (R62, R67). -/
structure Started where
  /-- place in the order in which descriptors started on all rings -/
  stamp : Nat
  seq : BitVec 32
  opcode : Nat
  irq : Bool
  /-- the ring halted at this descriptor -/
  halted : Bool
  /-- flushed by a ring reset, never started -/
  flushed : Bool
  /-- ended as R562 defines it -/
  ended : Bool
  /-- the completion's status and result once it is ready to be posted -/
  ready : Option (Nat × BitVec 64)
  deriving DecidableEq, Repr

/-- A descriptor that has started, as its meaning sees it: its ring's tag, privilege and class at the start. -/
structure Job where
  ring : Nat
  stamp : Nat
  seq : BitVec 32
  opcode : Nat
  owner : Nat
  priv : Bool
  take : Bool
  d : List Byte
  deriving DecidableEq, Repr

/-- One submission ring. -/
structure Sq where
  base : BitVec 64
  /-- the enable bit of SQ_CTL: 0 while a close runs (R68) -/
  enable : Bool
  take : Bool
  sizeLog2 : Nat
  cq : Nat
  priv : Bool
  owner : Nat
  state : SqState
  reason : SqReason
  /-- index of the oldest descriptor whose completion is not posted -/
  head : BitVec 16
  tail : BitVec 16
  seqNext : BitVec 32
  seqPosted : BitVec 32
  /-- descriptors fetched and not started, oldest first, 64 bytes each -/
  prefetch : List (List Byte)
  /-- the fetch of the slot after the last prefetched one failed -/
  fetchFailed : Bool
  started : List Started
  /-- started descriptors that wait for the serving pair, oldest first (R69) -/
  parked : List Job
  /-- the sequence number after the last flushed record, while RESETTING -/
  flushSeq : BitVec 32
  /-- the reset under way ends DISABLED (R68) -/
  closing : Bool
  /-- a resume written while the completion ring's err was set (R66) -/
  resumeWaits : Bool
  dbReject : BitVec 32
  deriving DecidableEq, Repr

/-- A submission ring after power-on. -/
def Sq.reset : Sq :=
  { base := 0, enable := false, take := false, sizeLog2 := 0, cq := 0, priv := false, owner := 0,
    state := .disabled, reason := .none, head := 0, tail := 0, seqNext := 0, seqPosted := 0xFFFFFFFF,
    prefetch := [], fetchFailed := false, started := [], parked := [], flushSeq := 0, closing := false, resumeWaits := false,
    dbReject := 0 }

/-- One completion ring. -/
structure Cq where
  base : BitVec 64
  enable : Bool
  sizeLog2 : Nat
  vector : Nat
  err : Bool
  head : BitVec 16
  tail : BitVec 16
  modCount : Nat
  modTime : Nat
  /-- completions posted since the last interrupt -/
  unsig : Nat
  /-- converter time of the first completion not signalled -/
  firstUnsig : Nat
  deriving DecidableEq, Repr

def Cq.reset : Cq :=
  { base := 0, enable := false, sizeLog2 := 0, vector := 0, err := false, head := 0, tail := 0,
    modCount := 1, modTime := 0, unsig := 0, firstUnsig := 0 }

/-- One event ring. Its moderation is the register EVT.ER_MOD. -/
structure Er where
  base : BitVec 64
  enable : Bool
  sizeLog2 : Nat
  vector : Nat
  head : BitVec 16
  tail : BitVec 16
  unsig : Nat
  firstUnsig : Nat
  deriving DecidableEq, Repr

def Er.reset : Er :=
  { base := 0, enable := false, sizeLog2 := 0, vector := 0, head := 0, tail := 0, unsig := 0, firstUnsig := 0 }

/-- An occurrence staged for its event ring (R511). -/
structure EvRec where
  source : Nat
  code : Nat
  ns : Nat
  sec : Nat
  /-- the occurrence's number within its source, counted from 1 -/
  occ : Nat
  /-- bytes 20 to 31 of the record -/
  detail : List Byte
  deriving DecidableEq, Repr

/-- The event ledger of a source (R512) and what the gap flag needs. -/
structure EvSrc where
  occurred : Nat
  delivered : Nat
  overflowed : Nat
  suppressed : Nat
  /-- numbers of the overflowed occurrences that no gap flag has shown yet -/
  ovf : List Nat
  deriving DecidableEq, Repr

def EvSrc.reset : EvSrc :=
  { occurred := 0, delivered := 0, overflowed := 0, suppressed := 0, ovf := [] }

/-- An OP_FENCE that waits for its conditions (R56). -/
structure FenceWait where
  ring : Nat
  stamp : Nat
  scopeRing : Bool
  scopeOwner : Bool
  scopeApplied : Bool
  owner : Nat
  /-- for the rings that scope [2] covers: the sequence number after the last descriptor fetched before the fence -/
  bounds : List (Nat × BitVec 32)
  deriving DecidableEq, Repr

/-- The host interface. -/
structure Hif where
  sqs : Tab Sq
  cqs : Tab Cq
  ers : Tab Er
  /-- the next descriptor start gets this stamp -/
  stamp : Nat
  /-- ring served last, TAKE class (R45) -/
  rrTake : Nat
  /-- ring served last, BULK class -/
  rrBulk : Nat
  fences : List FenceWait
  /-- the 256 words of the MSI-X table -/
  msix : Tab (BitVec 32)
  /-- vectors whose pending bit is set, ascending -/
  pba : List Nat
  /-- MSI-X messages sent, per vector -/
  msgs : Tab Nat
  /-- staged occurrences, oldest first, per event ring -/
  staged : Tab (List EvRec)
  evSrcs : Tab EvSrc
  /-- bytes the module has written to host memory, by address -/
  hostMem : Tab (Option Byte)
  /-- the PCIe function is in D3hot (R388) -/
  d3hot : Bool
  deriving DecidableEq, Repr

/-- Word `i` of the MSI-X table after reset: vector control has its mask bit set (PCIe Base 5.0, PRESUMED, log 20). -/
def msixDefault (i : Nat) : BitVec 32 := if i % 4 = 3 then 1 else 0

def Hif.reset : Hif :=
  { sqs := [], cqs := [], ers := [], stamp := 0, rrTake := 63, rrBulk := 63, fences := [], msix := [], pba := [],
    msgs := [], staged := [], evSrcs := [], hostMem := [], d3hot := false }

end Sys2Proof.Machine
end

