-- ==== Sys2Proof/Machine/StateNet.lean ====
section
/-!
DEFINITION. Machine/StateNet.lean: lane groups, network ports and the host packet queue ("Lanes, ports and host link").
Lane settings, PRBS counters and FEC counters are registers of the register file.
-/
namespace Sys2Proof.Machine

/-- A lane group or a port (R372, R373). -/
structure PowerUnit where
  /-- CTL.enable -/
  enable : Bool
  /-- STAT.enabled -/
  enabled : Bool
  tokens : Nat
  /-- held without a leave request (R407) -/
  fixed : Bool
  /-- a power-down runs -/
  down : Bool
  /-- port: bit s set while subport s is up -/
  link : BitVec 8
  deriving DecidableEq, Repr

/-- Units 0 to 7 are lane groups, on after power-on; 8 and 9 are N0 and N1, off. -/
def PowerUnit.reset (i : Nat) : PowerUnit :=
  { enable := decide (i < 8), enabled := decide (i < 8), tokens := if i < 7 then 72 else if i = 7 then 8 else 0,
    fixed := decide (i < 8), down := false, link := 0 }

/-- The host packet queue (R382 to R385, R395). -/
structure Hq where
  rxBase : BitVec 64
  rxEnable : Bool
  rxSize : Nat
  rxVector : Nat
  rxHead : BitVec 16
  rxTail : BitVec 16
  txBase : BitVec 64
  txEnable : Bool
  txSize : Nat
  txVector : Nat
  txTail : BitVec 16
  txHead : BitVec 16
  /-- frames discarded in the run of discards that goes on, for EV_HQ_DROP -/
  dropRun : Nat
  deriving DecidableEq, Repr

def Hq.reset : Hq :=
  { rxBase := 0, rxEnable := false, rxSize := 0, rxVector := 0, rxHead := 0, rxTail := 0, txBase := 0,
    txEnable := false, txSize := 0, txVector := 0, txTail := 0, txHead := 0, dropRun := 0 }

/-- Lanes and ports. -/
structure Net where
  units : Tab PowerUnit
  hq : Hq
  deriving DecidableEq, Repr

def Net.reset : Net := { units := [], hq := Hq.reset }

end Sys2Proof.Machine
end

