-- ==== Sys2Proof/Machine/StateTim.lean ====
section
/-!
DEFINITION. Machine/StateTim.lean: converter time, the PHC, PPS, references, synthesisers and polders ("Time, references and
synthesisers").
-/
namespace Sys2Proof.Machine

/-- A polder (R250, R364). -/
structure Polder where
  ready : Bool
  /-- a raster period has started since it became ready -/
  running : Bool
  /-- count of the raster period that runs -/
  count : Nat
  /-- converter time of the start of line 1 of that period -/
  lastStart : Nat
  /-- a relock lengthens or shortens the running period (R361, R524) -/
  bent : Bool
  /-- length in ticks of the last raster period that no relock bent, 0 before one has ended -/
  lastTicks : Nat
  deriving DecidableEq, Repr

def Polder.reset : Polder := { ready := false, running := false, count := 0, lastStart := 0, bent := false, lastTicks := 0 }

/-- An analog reference input, beside its registers (R354). -/
structure RefIn where
  /-- mode of the first of two frames that are to agree -/
  cand : Option Nat
  /-- converter time since which it has been LOCKED -/
  present : Option Nat
  /-- converter time of the latest alignment point -/
  edgeAt : Nat
  deriving DecidableEq, Repr

def RefIn.reset : RefIn := { cand := none, present := none, edgeAt := 0 }

/-- SY.STAT.state. -/
inductive SynState where
  | off | acquiring | locked | holdover
  deriving DecidableEq, Repr

/-- A synthesiser (R356 to R363). -/
structure Syn where
  state : SynState
  /-- the source in use -/
  active : Nat
  slewing : Bool
  /-- frequency offset of a slew and where it goes, in ppm -/
  ppm : Int
  goal : Int
  /-- converter time of the last change of that offset -/
  stepAt : Nat
  /-- converter time of the last change of the source's frequency (R359) -/
  changeAt : Option Nat
  /-- a relock runs; its cause: 0 phase, 1 frequency, 2 source returned -/
  relock : Option Nat
  /-- phase of the lead output against the target as last measured, in ns -/
  phase : Int
  /-- target offset that a hitless switch found, in ns; `capture`: the next alignment point finds it (R362) -/
  offset : Int
  capture : Bool
  /-- the primary source has just returned -/
  returned : Bool
  relocks : Nat
  /-- the seed in use since the last lock (R363) -/
  seed : BitVec 32
  deriving DecidableEq, Repr

def Syn.reset : Syn :=
  { state := .off, active := 0, slewing := false, ppm := 0, goal := 0, stepAt := 0, changeAt := none, relock := none, phase := 0,
    offset := 0, capture := false, returned := false, relocks := 0, seed := 0 }

/-- A step that waits for a PPS edge, R348. -/
structure PhcStep where
  /-- mode SET, else ADD -/
  set : Bool
  /-- the STEP registers as they were when go was written -/
  ns : BitVec 32
  sec : BitVec 48
  deriving DecidableEq, Repr

/-- Time. -/
structure Tim where
  /-- converter time: 500 MHz ticks since power-on -/
  ct : Nat
  /-- PHC time in units of 2^-32 ns -/
  phc : Nat
  /-- the increment in force, in the same units -/
  incr : Nat
  /-- converter time of the last increment write -/
  incrAt : Nat
  stepWait : Option PhcStep
  /-- converter time of the last PPS edge -/
  ppsAt : Option Nat
  refs : Tab RefIn
  syns : Tab Syn
  polders : Tab Polder
  deriving DecidableEq, Repr

def Tim.reset : Tim :=
  { ct := 0, phc := 0, incr := 8589934592, incrAt := 0, stepWait := none, ppsAt := none, refs := [], syns := [], polders := [] }

end Sys2Proof.Machine
end

