-- ==== Sys2Proof/Machine/State.lean ====
section
/-!
DEFINITION. Machine/State.lean: the state of the module as plain data, its reset, and how a step can stop.
-/
namespace Sys2Proof.Machine

/-- A value latched by a read, R8 and R535: requester (0 host link, 1 pair A, 2 pair B), address, value. -/
structure Latch where
  who : Nat
  addr : Nat
  value : BitVec 32
  deriving DecidableEq, Repr

/-- The answer of a read: nothing yet, a BAR0 value, bytes (BAR2, PMBus block), or a PMBus NACK. -/
inductive Reply where
  | none | word (v : BitVec 32) | bytes (l : List Byte) | nack
  deriving DecidableEq, Repr

/-- The key of counter `c` of ledger `kind`, index `i` (R107). -/
def ledKey (kind i c : Nat) : Nat := kind + 16 * (c + 1024 * i)

/-- The whole machine. -/
structure State where
  /-- the commands that wait, first in first out -/
  pending : List Instr
  /-- the register file: BAR0 registers that no other structure holds, keyed by address -/
  regs : Tab (BitVec 32)
  latches : List Latch
  /-- ledger counters, keyed by kind, index and counter number (R36, R37) -/
  ledger : Tab Nat
  hif : Hif
  ing : Ing
  hds : Hds
  srf : Srf
  scc : Scc
  out : Out
  lv : Lv
  tim : Tim
  net : Net
  psn : Psn
  aud : Aud
  mg : Mg
  coc : Coc
  nv : Nv
  rest : Rest
  pwr : Pwr
  scrub : Scrub
  /-- HBM bytes written through BAR2 or by an upload: none for a byte that neither has written -/
  hbm : Tab (Option Byte)
  /-- what the last read answered, over PCIe or PMBus: the model's own field (log 26) -/
  reply : Reply
  /-- how many free values have been used: the model's own field (log 2) -/
  free : Nat
  deriving DecidableEq, Repr

/-- The machine right after power-on reset, every register at its value after power-on. The arbiter has taken its
precharge of 4,120 power tokens, which the leave ledger counts as granted (R399, R407). -/
def State.reset : State :=
  { pending := [], regs := [], latches := [], ledger := [(ledKey 9 0 5, 4120)], hif := Hif.reset, ing := Ing.reset, hds := Hds.reset,
    srf := Srf.reset, scc := Scc.reset, out := Out.reset, lv := Lv.reset, tim := Tim.reset, net := Net.reset, psn := Psn.reset, aud := Aud.reset, mg := Mg.reset,
    coc := Coc.reset, nv := Nv.reset, rest := Rest.reset, pwr := Pwr.reset, scrub := Scrub.reset, hbm := [], reply := .none, free := 0 }

/-- Why the machine stops with a fault. -/
inductive Fault where
  /-- An access at a BAR0 offset outside the 64 MiB that R530 gives BAR0. Raised by UNMAPPED_ACCESS, BAD_SIZE_ACCESS,
  REGISTER_READ, REGISTER_WRITE and WINDOW_WRITE. Safe: the spec says that no such address exists. -/
  | outsideBar0
  /-- An access at a BAR2 offset outside its 256 MiB. Raised by BAR2_ACCESS. Safe: no such address exists. -/
  | outsideBar2
  deriving DecidableEq, Repr

/-- Why the machine refuses a command. -/
inductive Refusal where
  /-- The command has no meaning in this model. Raised by the dispatch alone. Safe. -/
  | notModelled (mnemonic : String)
  deriving DecidableEq, Repr

/-- The three outcomes of a command. -/
abbrev Out3 := Host.Outcome State Fault Refusal

end Sys2Proof.Machine
end

