-- ==== Sys2Proof/Machine/Store.lean ====
section
/-!
DEFINITION. Machine/Store.lean: the named accesses to the state: its parts, the register file and its fields, ledgers, free values, time,
rings.
-/
namespace Sys2Proof.Machine

/-! ## The parts of the state -/

def State.updHif (s : State) (f : Hif → Hif) : State := { s with hif := f s.hif }
def State.updIng (s : State) (f : Ing → Ing) : State := { s with ing := f s.ing }
def State.updHds (s : State) (f : Hds → Hds) : State := { s with hds := f s.hds }
def State.updSrf (s : State) (f : Srf → Srf) : State := { s with srf := f s.srf }
def State.updScc (s : State) (f : Scc → Scc) : State := { s with scc := f s.scc }
def State.updOut (s : State) (f : Out → Out) : State := { s with out := f s.out }
def State.updLv (s : State) (f : Lv → Lv) : State := { s with lv := f s.lv }
def State.updTim (s : State) (f : Tim → Tim) : State := { s with tim := f s.tim }
def State.updNet (s : State) (f : Net → Net) : State := { s with net := f s.net }
def State.updPsn (s : State) (f : Psn → Psn) : State := { s with psn := f s.psn }
def State.updAud (s : State) (f : Aud → Aud) : State := { s with aud := f s.aud }
def State.updCoc (s : State) (f : Coc → Coc) : State := { s with coc := f s.coc }
def State.updNv (s : State) (f : Nv → Nv) : State := { s with nv := f s.nv }
def State.updRest (s : State) (f : Rest → Rest) : State := { s with rest := f s.rest }
def State.updPwr (s : State) (f : Pwr → Pwr) : State := { s with pwr := f s.pwr }
def State.updMg (s : State) (f : Mg → Mg) : State := { s with mg := f s.mg }

/-! ## The register file -/

/-- Read the register file. -/
def State.rd (s : State) (a : Nat) : Nat := (Tab.get powerOn s.regs a).toNat

/-- Write the register file. -/
def State.wr (s : State) (a v : Nat) : State := { s with regs := Tab.set powerOn s.regs a (BitVec.ofNat 32 v) }

/-- A field of the register file. -/
def State.fget (s : State) (a hi lo : Nat) : Nat := bits (s.rd a) hi lo

/-- Set a field of the register file. -/
def State.fset (s : State) (a hi lo x : Nat) : State := s.wr a (putBits (s.rd a) hi lo x)

/-- A one-bit field. -/
def State.flag (s : State) (a k : Nat) : Bool := decide (s.fget a k k = 1)

/-- Add to a saturating counter field. -/
def State.count (s : State) (a hi lo n : Nat) : State :=
  s.fset a hi lo (min (s.fget a hi lo + n) (2 ^ (hi + 1 - lo) - 1))

/-- Set one bit. -/
def State.setBit (s : State) (a k : Nat) : State := s.fset a k k 1

/-! ## Ledgers (R36 to R38) -/

/-- A ledger counter. -/
def State.led (s : State) (kind i c : Nat) : Nat := Tab.get (fun _ => 0) s.ledger (ledKey kind i c)

/-- Add to a ledger counter. -/
def State.ledAdd (s : State) (kind i c n : Nat) : State :=
  { s with ledger := Tab.set (fun _ => 0) s.ledger (ledKey kind i c) (s.led kind i c + n) }

/-- Set a ledger counter that shows a current value. -/
def State.ledSet (s : State) (kind i c n : Nat) : State :=
  { s with ledger := Tab.set (fun _ => 0) s.ledger (ledKey kind i c) n }

/-! ## Free values (log 2) -/

/-- The next free value of 64 bits, and the state that has used it. -/
def State.fresh (s : State) : BitVec 64 × State := (Config.free64 s.free, { s with free := s.free + 1 })

/-! ## Time -/

/-- Converter time in ticks of 2 ns. -/
def State.now (s : State) : Nat := s.tim.ct

/-- PHC seconds, nanoseconds and fraction. -/
def phcUnit : Nat := 4294967296 * 1000000000
def State.phcSec (s : State) : Nat := s.tim.phc / phcUnit % 281474976710656
def State.phcNs (s : State) : Nat := s.tim.phc % phcUnit / 4294967296
def State.phcFrac (s : State) : Nat := s.tim.phc % 4294967296

/-- The PHC time as a completion result: nanoseconds in bytes 0 to 3, low seconds in bytes 4 to 7. -/
def State.phcResult (s : State) : BitVec 64 :=
  BitVec.ofNat 64 (s.phcNs + 4294967296 * (s.phcSec % 4294967296))

/-- Ticks of converter time in a number of microseconds and of milliseconds. -/
def usTicks (n : Nat) : Nat := n * 500
def msTicks (n : Nat) : Nat := n * 500000

/-! ## Host interface structures -/

def State.sq (s : State) (n : Nat) : Sq := Tab.get (fun _ => Sq.reset) s.hif.sqs n
def State.setSq (s : State) (n : Nat) (v : Sq) : State :=
  s.updHif fun h => { h with sqs := (Tab.set (fun _ => Sq.reset) h.sqs n v) }
def State.cq (s : State) (n : Nat) : Cq := Tab.get (fun _ => Cq.reset) s.hif.cqs n
def State.setCq (s : State) (n : Nat) (v : Cq) : State :=
  s.updHif fun h => { h with cqs := (Tab.set (fun _ => Cq.reset) h.cqs n v) }
def State.er (s : State) (n : Nat) : Er := Tab.get (fun _ => Er.reset) s.hif.ers n
def State.setEr (s : State) (n : Nat) (v : Er) : State :=
  s.updHif fun h => { h with ers := (Tab.set (fun _ => Er.reset) h.ers n v) }
def State.evSrc (s : State) (n : Nat) : EvSrc := Tab.get (fun _ => EvSrc.reset) s.hif.evSrcs n
def State.setEvSrc (s : State) (n : Nat) (v : EvSrc) : State :=
  s.updHif fun h => { h with evSrcs := (Tab.set (fun _ => EvSrc.reset) h.evSrcs n v) }
def State.stagedOf (s : State) (k : Nat) : List EvRec := Tab.get (fun _ => []) s.hif.staged k
def State.setStaged (s : State) (k : Nat) (v : List EvRec) : State :=
  s.updHif fun h => { h with staged := (Tab.set (fun _ => []) h.staged k v) }

/-- Bytes that the module writes to host memory. -/
def State.hostWrite (s : State) (addr : Nat) (bs : List Byte) : State :=
  s.updHif fun h =>
    { h with hostMem := (bs.zipIdx.foldl (fun m p => Tab.set (fun _ => none) m (addr + p.2) (some p.1)) h.hostMem) }

/-! ## Dual-clock queues (R32 to R34, R518) -/

/-- The row of R518 and the instance of a queue class, as EV_CREDIT_AUDIT carries them. -/
def QueueClass.row : QueueClass → Nat × Nat
  | .ingest n => (0, n.val)
  | .head h => (1, h.val)
  | .converter m => (2, m.val)
  | .audioGroup g => (3, g.val)
  | .audioRoute o => (3, o.val)
  | .host => (4, 0)
  | .pair p => (5, p.val)
  | .fabric => (6, 0)

/-- The depth of a queue. -/
def QueueId.depth (q : QueueId) : Nat := Config.queueDepth q.cls.row.1 q.cls.row.2 q.n.val + 1

/-- The credits that the producer of a queue of this depth holds. -/
def Dcq.credits (q : Dcq) (depth : Nat) : Nat := depth - q.spent

/-- Credits held, entries and credits on their way back make up the depth (R33). -/
def Dcq.sumOk (q : Dcq) (depth : Nat) : Bool := decide (q.credits depth + q.entries + q.back = depth)

/-- The producer writes an entry and spends a credit, while it holds one. -/
def Dcq.put (q : Dcq) (depth : Nat) : Option Dcq :=
  if q.credits depth = 0 then none else some { q with spent := q.spent + 1, entries := q.entries + 1 }

/-- The consumer takes an entry and sends its credit back; the credit comes back to the producer. -/
def Dcq.take (q : Dcq) : Dcq := if q.entries = 0 then q else { q with entries := q.entries - 1, back := q.back + 1 }
def Dcq.give (q : Dcq) : Dcq := if q.back = 0 then q else { q with back := q.back - 1, spent := q.spent - 1 }

def State.queue (s : State) (q : QueueId) : Dcq :=
  match s.scrub.queues.find? fun e => decide (e.1 = q) with
  | some e => e.2
  | none => Dcq.reset

/-- A queue that is empty with all its credits at the producer is not listed. -/
def State.setQueue (s : State) (q : QueueId) (v : Dcq) : State :=
  let l := s.scrub.queues.filter fun e => !decide (e.1 = q)
  { s with scrub := { s.scrub with queues := if v = Dcq.reset then l else l ++ [(q, v)] } }

/-- One unit of a stream crosses a queue within a command: an entry is written, taken, and its credit returned. A producer on
a streaming path that holds no credit marks the fault that the next check reports (R34; log 78). -/
def State.cross (s : State) (q : QueueId) : State :=
  match (s.queue q).put q.depth with
  | some v => s.setQueue q v.take.give
  | none => s.setQueue q { s.queue q with short := true }

/-- Index modulo 2^16. -/
def idx16 (n : Nat) : BitVec 16 := BitVec.ofNat 16 n

end Sys2Proof.Machine
end

