-- ==== Sys2Proof/Machine/Flags.lean ====
section
/-!
DEFINITION. Machine/Flags.lean: what a cause does: interrupts and pending bits (R72), cause and mask bits, events and
their overflow (R74, R75, R510 to R513), the queue of system pages (R451).
-/
namespace Sys2Proof.Machine

/-! ## Interrupts (R72) -/

/-- MSI-X table word. -/
def State.msixWord (s : State) (i : Nat) : Nat := (Tab.get msixDefault s.hif.msix i).toNat

/-- Send the message of a vector: its data word goes to its address. -/
def State.msixSend (s : State) (v : Nat) : State :=
  let s := s.updHif fun h => { h with msgs := (Tab.upd (fun _ => 0) h.msgs v (· + 1)) }
  s.hostWrite (s.msixWord (4 * v) + 4294967296 * s.msixWord (4 * v + 1)) (leBytes 4 (s.msixWord (4 * v + 2)))

/-- Raise a vector: a masked vector, or any vector in D3hot, sets its pending bit instead (R72, R388). -/
def State.interrupt (s : State) (v : Nat) : State :=
  if s.hif.d3hot || decide (bits (s.msixWord (4 * v + 3)) 0 0 = 1) then
    if s.hif.pba.contains v then s
    else s.updHif fun h => { h with pba := (h.pba.filter (· < v) ++ v :: h.pba.filter (v < ·)) }
  else s.msixSend v

/-! ## Events (R74, R75, R510 to R513) -/

/-- Detail bytes 20 to 31 of a record, from (offset, size, value) entries. -/
def detail (l : List (Nat × Nat × Nat)) : List Byte :=
  (List.range 12).map fun i =>
    match l.find? fun e => e.1 ≤ 20 + i && 20 + i < e.1 + e.2.1 with
    | some e => BitVec.ofNat 8 (e.2.2 / 256 ^ (20 + i - e.1))
    | none => 0

/-- Count an occurrence as overflowed. -/
def EvSrc.overflow (e : EvSrc) (occ : Nat) : EvSrc :=
  { e with overflowed := e.overflowed + 1, ovf := e.ovf ++ [occ] }

/-- An occurrence of a source: suppressed, overflowed or staged (R511). `d` is its detail, 12 bytes. -/
def State.occurBytes (s : State) (src code : Nat) (d : List Byte) : State :=
  let e := s.evSrc src
  let occ := e.occurred + 1
  let e := { e with occurred := occ }
  let a := Adr.evtSrc src
  let k := s.fget a 1 0
  if s.flag a 2 = false then s.setEvSrc src { e with suppressed := e.suppressed + 1 }
  else
    let r := s.er k
    let full := decide ((r.tail - r.head).toNat ≥ 2 ^ r.sizeLog2)
    if r.enable = false || full || decide (64 ≤ (s.stagedOf k).length) then s.setEvSrc src (e.overflow occ)
    else
      let record : EvRec := { source := src, code := code, ns := s.phcNs, sec := s.phcSec, occ := occ, detail := d }
      (s.setEvSrc src e).setStaged k (s.stagedOf k ++ [record])

/-- An occurrence with its detail given by fields. -/
def State.occur (s : State) (src code : Nat) (d : List (Nat × Nat × Nat)) : State :=
  s.occurBytes src code (detail d)

/-- A block's cause bit and its event: the bit sets; the event is an occurrence only while its mask bit is 1 (R511). -/
def State.raise (s : State) (cause mask bit src code : Nat) (d : List (Nat × Nat × Nat)) : State :=
  let s := s.setBit cause bit
  if s.flag mask bit then s.occur src code d else s

/-! ## The queue of system pages (R451) -/

/-- The content of a system page has changed: it joins the queue, or keeps its place there. -/
def State.nvTouch (s : State) (page : Nat) : State :=
  if s.nv.queue.contains page then s else s.updNv fun v => { v with queue := v.queue ++ [page] }

/-- The registers whose RWS fields belong to the restore set (R504): PHC, references, synthesisers, polders, lanes, ports,
subports, destinations, eyespots, seals, COL.HOUSE and LEAVE.CFG. -/
def rwsKept (a : Nat) : Bool :=
  a == 0x40000 || decide (0x80000 ≤ a ∧ a < 0x200000) || a == 0x580000 || decide (0x710000 ≤ a ∧ a < 0x760004)

/-- An RWS field of a register has been written: its system page changes if the register belongs to the restore set. -/
def State.rwsTouch (s : State) (a : Nat) : State := if rwsKept a then s.nvTouch 512 else s

end Sys2Proof.Machine
end

