-- ==== Sys2Proof/Machine/Modes.lean ====
section
/-!
DEFINITION. Machine/Modes.lean: the output modes of R16, R125, R126 and R247, and the arithmetic of rasters and rates.
-/
namespace Sys2Proof.Machine

/-- One row of R247. -/
structure Mode where
  code : Nat
  lines : Nat
  /-- active lines of a frame -/
  activeLines : Nat
  /-- first active line, and the first of field 2 (0 when progressive) -/
  first : Nat
  first2 : Nat
  width : Nat
  samples : Nat
  flip : Nat
  /-- second-field switching line, 0 when progressive -/
  flip2 : Nat
  /-- frame rate num / den in Hz -/
  num : Nat
  den : Nat
  deriving DecidableEq, Repr

/-- The rows of R247. -/
def modeRows : List Mode :=
  [⟨0x01, 525, 486, 21, 283, 720, 858, 10, 273, 30000, 1001⟩,
   ⟨0x02, 625, 576, 23, 336, 720, 864, 6, 319, 25, 1⟩,
   ⟨0x10, 750, 720, 26, 0, 1280, 1980, 7, 0, 50, 1⟩,
   ⟨0x11, 750, 720, 26, 0, 1280, 1650, 7, 0, 60000, 1001⟩,
   ⟨0x12, 750, 720, 26, 0, 1280, 1650, 7, 0, 60, 1⟩,
   ⟨0x20, 1125, 1080, 21, 584, 1920, 2640, 7, 569, 25, 1⟩,
   ⟨0x21, 1125, 1080, 21, 584, 1920, 2200, 7, 569, 30000, 1001⟩,
   ⟨0x22, 1125, 1080, 21, 584, 1920, 2200, 7, 569, 30, 1⟩] ++
  [⟨0x30, 1125, 1080, 42, 0, 1920, 2750, 7, 0, 24000, 1001⟩,
   ⟨0x31, 1125, 1080, 42, 0, 1920, 2750, 7, 0, 24, 1⟩,
   ⟨0x32, 1125, 1080, 42, 0, 1920, 2640, 7, 0, 25, 1⟩,
   ⟨0x33, 1125, 1080, 42, 0, 1920, 2200, 7, 0, 30000, 1001⟩,
   ⟨0x34, 1125, 1080, 42, 0, 1920, 2200, 7, 0, 30, 1⟩,
   ⟨0x35, 1125, 1080, 42, 0, 1920, 2640, 7, 0, 50, 1⟩,
   ⟨0x36, 1125, 1080, 42, 0, 1920, 2200, 7, 0, 60000, 1001⟩,
   ⟨0x37, 1125, 1080, 42, 0, 1920, 2200, 7, 0, 60, 1⟩] ++
  [⟨0x40, 2250, 2160, 83, 0, 3840, 5500, 14, 0, 24000, 1001⟩,
   ⟨0x41, 2250, 2160, 83, 0, 3840, 5500, 14, 0, 24, 1⟩,
   ⟨0x42, 2250, 2160, 83, 0, 3840, 5280, 14, 0, 25, 1⟩,
   ⟨0x43, 2250, 2160, 83, 0, 3840, 4400, 14, 0, 30000, 1001⟩,
   ⟨0x44, 2250, 2160, 83, 0, 3840, 4400, 14, 0, 30, 1⟩,
   ⟨0x45, 2250, 2160, 83, 0, 3840, 5280, 14, 0, 50, 1⟩,
   ⟨0x46, 2250, 2160, 83, 0, 3840, 4400, 14, 0, 60000, 1001⟩,
   ⟨0x47, 2250, 2160, 83, 0, 3840, 4400, 14, 0, 60, 1⟩]

/-- The row of a mode code; none for 0x00 and for every code out of range (R16). -/
def modeOf (code : Nat) : Option Mode := modeRows.find? fun m => m.code == code

def isMode (code : Nat) : Bool := (modeOf code).isSome

/-- Active pixels of a mode, 0 where there is none. -/
def modePx (code : Nat) : Nat := match modeOf code with | some m => m.width * m.activeLines | none => 0

def modeW (code : Nat) : Nat := match modeOf code with | some m => m.width | none => 0

def modeH (code : Nat) : Nat := match modeOf code with | some m => m.activeLines | none => 0

/-- Frame rate as a fraction; 0 / 1 where there is no mode. -/
def modeRate (code : Nat) : Nat × Nat := match modeOf code with | some m => (m.num, m.den) | none => (0, 1)

def modeInterlaced (code : Nat) : Bool := match modeOf code with | some m => decide (m.flip2 ≠ 0) | none => false

/-- Two rates are equal. -/
def sameRate (a b : Nat × Nat) : Bool := decide (a.1 * b.2 = b.1 * a.2)

/-- ⌈n / d⌉. -/
def ceilDiv (n d : Nat) : Nat := if d = 0 then 0 else (n + d - 1) / d

/-- The sluice line of R124: S = F + ⌊L × (16 − w) / 16⌋ for a window of w sixteenths. -/
def sluiceLine (code w : Nat) : Nat :=
  match modeOf code with
  | some m => m.flip + m.lines * (16 - w) / 16
  | none => 0

/-- Frame period in converter-time ticks of 2 ns, rounded down; 0 where there is no mode. -/
def periodTicks (rate : Nat × Nat) : Nat := if rate.1 = 0 then 0 else 500000000 * rate.2 / rate.1

/-- Frame period in ns, rounded down. -/
def periodNs (rate : Nat × Nat) : Nat := if rate.1 = 0 then 0 else 1000000000 * rate.2 / rate.1

/-- `n` line times of a mode in ns, rounded down. -/
def linesNs (code n : Nat) : Nat :=
  match modeOf code with
  | some m => 1000000000 * m.den * n / (m.num * m.lines)
  | none => 0

/-- `n` line times of a mode in converter-time ticks. -/
def linesTicks (code n : Nat) : Nat :=
  match modeOf code with
  | some m => 500000000 * m.den * n / (m.num * m.lines)
  | none => 0

/-- Bytes of a ring of 3 slots at 4.5 bytes per pixel (R97). -/
def ringBytes (code : Nat) : Nat := 3 * (modePx code * 9 / 2)

/-- Fetch tokens ⌈k/2 × px × f / 10^9⌉ of R26: k is twice the bytes per pixel. -/
def streamTokens (k2 code : Nat) : Nat :=
  let r := modeRate code
  ceilDiv (k2 * modePx code * r.1) (2 * r.2 * 1000000000)

/-- 2160p modes. -/
def isUhd (code : Nat) : Bool := decide (0x40 ≤ code ∧ code ≤ 0x47)

/-- 1080p50, 59.94, 60. -/
def is1080pHigh (code : Nat) : Bool := decide (0x35 ≤ code ∧ code ≤ 0x37)

/-- 2160p50, 59.94, 60. -/
def isUhdHigh (code : Nat) : Bool := decide (0x45 ≤ code ∧ code ≤ 0x47)

/-- The SDI interfaces that can carry a mode at a sampling, in AUTO's order (R248): 1 SD, 2 HD, 3 3G-A, 4 3G-B
dual-link, 5 6G, 6 12G, 7 quad. Sampling 0 is 4:2:2 10-bit. -/
def sdiInterfaces (code sampling : Nat) : List Nat :=
  if !isMode code then []
  else if code < 0x10 then (if sampling = 0 then [1] else [])
  else if decide (0x20 ≤ code ∧ code ≤ 0x22) then (if sampling = 0 then [2] else [])
  else if decide (code < 0x20) || decide (0x30 ≤ code ∧ code ≤ 0x34) then (if sampling = 0 then [2, 3] else [3])
  else if is1080pHigh code then (if sampling = 0 then [3, 4] else [])
  else if isUhdHigh code then (if sampling = 0 then [6, 7] else [])
  else (if sampling = 0 then [5, 6] else [6])

/-- The formats that SDI sources receive (R85): may this mode arrive on this interface at this sampling? -/
def sdiReceives (code iface sampling : Nat) : Bool :=
  if !isMode code then false
  else if code < 0x10 then iface == 1 && sampling == 0
  else if decide (0x20 ≤ code ∧ code ≤ 0x22) then iface == 2 && sampling == 0
  else if decide (code < 0x20) || decide (0x30 ≤ code ∧ code ≤ 0x34) then (iface == 2 && sampling == 0) || (iface == 3)
  else if is1080pHigh code then (iface == 3 || iface == 4) && sampling == 0
  else if isUhdHigh code then (iface == 6 || iface == 7) && sampling == 0
  else (iface == 5 && sampling == 0) || iface == 6

end Sys2Proof.Machine
end

