-- ==== Sys2Proof/Machine/Ops.lean ====
section
/-!
DEFINITION. Machine/Ops.lean: the shared operations on descriptors: halting a ring, which descriptor may start, the start and
the completion of a descriptor, fences.
-/
namespace Sys2Proof.Machine

/-! ## Submission rings: halting -/

def SqState.code : SqState → Nat
  | .disabled => 0 | .running => 1 | .halted => 2 | .resetting => 3

def SqReason.code : SqReason → Nat
  | .none => 0 | .malformed => 1 | .fetchErr => 2 | .dbOverrun => 3 | .badCfg => 4 | .cqErr => 5

/-- EV_RING_HALT (R529). -/
def State.ringHaltEvent (s : State) (n : Nat) (r : SqReason) (seq : BitVec 32) : State :=
  s.occur 286 0x1300 [(20, 1, n), (21, 1, r.code), (24, 4, seq.toNat)]

/-- Halt a ring: prefetched descriptors are discarded (R51). -/
def State.halt (s : State) (n : Nat) (r : SqReason) (seq : BitVec 32) : State :=
  (s.setSq n { s.sq n with state := .halted, reason := r, prefetch := [], fetchFailed := false }).ringHaltEvent n r seq

/-- The rings. -/
def rings : List Nat := List.range 64

/-- A ring whose tag counts for ownership: open, or closing but not yet DISABLED (R77). -/
def Sq.open? (q : Sq) : Bool := decide (q.state ≠ .disabled)

/-- A tag whose last ring is disabled: its resources are orphaned (R77). -/
def State.orphaned (s : State) (tag : Nat) : Bool :=
  !(rings.any fun n => (s.sq n).open? && decide ((s.sq n).owner = tag))

/-! ## Descriptors: who may start (R45, R59, R562) -/

/-- The management firmware serves (R69, R481). -/
def State.fwUp (s : State) : Bool := s.mg.up

/-- The opcodes that need it: NV, KEY, DIKE_UPDATE, COLOUR_LOAD, SEAL_REQ (R69). -/
def needsFw (opc : Nat) : Bool := [0x48, 0x70, 0x71, 0x72, 0x80, 0x81, 0xA1].contains opc

/-- Free slots of a completion ring for new starts (R59). -/
def State.cqRoom (s : State) (c : Nat) : Bool :=
  let q := s.cq c
  q.enable && !q.err && decide ((q.tail - q.head).toNat < 2 ^ q.sizeLog2)

/-- Descriptors started and not completed (SQ_STAT.in_flight). -/
def Sq.inFlight (q : Sq) : Nat := (q.started.filter fun e => !e.flushed).length

/-- May the first prefetched descriptor of a ring start? -/
def State.startable (s : State) (n : Nat) : Bool :=
  let q := s.sq n
  match q.prefetch with
  | [] => false
  | d :: _ =>
    decide (q.state = .running) && !s.hif.d3hot && s.cqRoom q.cq && decide (q.inFlight < 256) &&
    (!ubit d 1 1 || q.started.all fun e => e.ended)

/-- The first startable ring of a class after the one served last (R45). -/
def State.pick (s : State) (take : Bool) : Option Nat :=
  let last := if take then s.hif.rrTake else s.hif.rrBulk
  ((List.range 64).map fun i => (last + 1 + i) % 64).find? fun n => decide ((s.sq n).take = take) && s.startable n

/-- The ring that the descriptor engine serves next. -/
def State.nextRing (s : State) : Option Nat :=
  match s.pick true with
  | some n => some n
  | none => s.pick false

/-! ## Starting and completing -/

/-- Start the first prefetched descriptor of a ring. -/
def State.start (s : State) (n : Nat) (halted : Bool) : Option (Job × State) :=
  let q := s.sq n
  match q.prefetch with
  | [] => none
  | d :: rest =>
    let e : Started := { stamp := s.hif.stamp, seq := q.seqNext, opcode := u8 d 0, irq := ubit d 1 0, halted := halted,
                         flushed := false, ended := false, ready := none }
    let q' := { q with prefetch := rest, started := q.started ++ [e], seqNext := q.seqNext + 1 }
    let s' := s.updHif fun h =>
      { h with stamp := h.stamp + 1,
               rrTake := (if q.take then n else h.rrTake),
               rrBulk := (if q.take then h.rrBulk else n) }
    let s' := s'.setSq n q'
    let s' := if rest.isEmpty && q.fetchFailed && !halted then s'.halt n .fetchErr q'.seqNext else s'
    some ({ ring := n, stamp := e.stamp, seq := e.seq, opcode := e.opcode, owner := q.owner, priv := q.priv,
            take := q.take, d := d }, s')

/-- Change the started entry of a descriptor. -/
def State.mapStarted (s : State) (ring stamp : Nat) (f : Started → Started) : State :=
  let q := s.sq ring
  s.setSq ring { q with started := q.started.map fun e => if e.stamp = stamp ∧ e.flushed = false then f e else e }

/-- `a` comes before `b` in a ring's numbering. -/
def seqBefore (a b : BitVec 32) : Bool := decide (0 < (b - a).toNat ∧ (b - a).toNat ≤ 2147483648)

/-- The opcodes whose effect scope [2] of OP_FENCE waits for (R56). -/
def isCommitOp (opc : Nat) : Bool := [0x01, 0x12, 0x81].contains opc

/-- All heads that have an entry. -/
def State.headList (s : State) : List Head := s.hds.heads.map (·.2)

/-- Does this fence cover the ring? -/
def FenceWait.covers (f : FenceWait) (s : State) (r : Nat) : Bool :=
  if f.scopeOwner then decide ((s.sq r).owner = f.owner) || (f.scopeRing && r == f.ring) else r == f.ring

/-- A commit, take, member or dike change of the ring was fetched before the fence. -/
def FenceWait.before (f : FenceWait) (r : Nat) (seq : BitVec 32) : Bool :=
  f.bounds.any fun b => b.1 == r && seqBefore seq b.2

/-- The fence's conditions hold (R56, R562). -/
def State.fenceMet (s : State) (f : FenceWait) : Bool :=
  let ended := fun r => (s.sq r).started.all fun e => e.ended || e.flushed || decide (f.stamp ≤ e.stamp)
  (!f.scopeRing || ended f.ring) &&
  (!f.scopeOwner || rings.all fun r => !decide ((s.sq r).owner = f.owner) || ended r) &&
  (!f.scopeApplied ||
    (s.headList.all fun h => h.queue.all fun c => !(f.covers s c.ring && f.before c.ring c.seq) || c.kind == .stop) &&
    (s.hds.staged.all fun m => !(f.covers s m.ring && f.before m.ring m.seq)) &&
    (s.coc.ops.all fun o => !(o.opcode == 0x81 && f.covers s o.ring && f.before o.ring o.seq)) &&
    (rings.all fun r => (s.sq r).parked.all fun j => !(j.opcode == 0x81 && f.covers s r && f.before r j.seq)) &&
    (rings.all fun r => !f.covers s r || ((s.sq r).prefetch.all fun d =>
      !(isCommitOp (u8 d 0) && f.before r (BitVec.ofNat 32 (u32 d 4))))))

/-- Complete every fence whose conditions hold, in start order. -/
def State.settle (s : State) : State :=
  s.hif.fences.foldl (fun s f =>
    if s.fenceMet f then
      let s := s.mapStarted f.ring f.stamp fun e => { e with ended := true, ready := some (0, s.phcResult) }
      s.updHif fun h => { h with fences := (h.fences.filter fun g => g.stamp ≠ f.stamp) }
    else s) s

/-- A descriptor ends without its completion being ready (R562). -/
def State.endAt (s : State) (ring stamp : Nat) : State :=
  (s.mapStarted ring stamp fun e => { e with ended := true }).settle
def State.endOp (s : State) (j : Job) : State := s.endAt j.ring j.stamp

/-- A descriptor's completion becomes ready; the result is 0 outside the success class (R57). -/
def State.completeAt (s : State) (ring stamp status : Nat) (result : BitVec 64) : State :=
  (s.mapStarted ring stamp fun e =>
    { e with ended := true, ready := some (status, if status < 0x100 then result else 0) }).settle

def State.complete (s : State) (j : Job) (status : Nat) (result : BitVec 64) : State :=
  s.completeAt j.ring j.stamp status result

/-- Completion status codes (R61). -/
def csOk : Nat := 0x0000
def csLate : Nat := 0x0001
def csHeld : Nat := 0x0002
def csDegraded : Nat := 0x0003
def csBadParam : Nat := 0x0100
def csNotFound : Nat := 0x0101
def csNotOwner : Nat := 0x0102
def csPriv : Nat := 0x0103
def csClass : Nat := 0x0104
def csState : Nat := 0x0105
def csNoResource : Nat := 0x0106
def csNoSpace : Nat := 0x0107
def csNoLeave : Nat := 0x0108
def csBudget : Nat := 0x0109
def csLbShort : Nat := 0x010A
def csNotReady : Nat := 0x010B
def csAuth : Nat := 0x010C
def csKeyLimit : Nat := 0x010D
def csRecall : Nat := 0x010E
def csHoldup : Nat := 0x010F
def csCancelled : Nat := 0x0110
def csBreach : Nat := 0x0200
def csDmaErr : Nat := 0x0201
def csNvFail : Nat := 0x0202
def csFlushed : Nat := 0x0300
def csMalformed : Nat := 0x0400

/-- The power state refuses an opcode (R503): entering and leaving QUIET count as QUIET (log 29). -/
def State.pwrRefuses (s : State) (opc : Nat) : Bool :=
  let st := s.fget Adr.pwrStat 2 0
  decide (2 ≤ st ∧ st ≤ 5) &&
  (if s.pwr.standby then !([0xF0, 0xF1].contains opc) else [0x01, 0x02, 0x12, 0x13, 0x81].contains opc)

/-- The oldest descriptor of a ring that waits for the serving pair, when the pair may take it and the command names it (R69). -/
def State.parkedNext (s : State) (ring opc : Nat) (sel : List Byte → Bool) : Option Job :=
  match (s.sq ring).parked with
  | [] => none
  | j :: _ => if needsFw opc && s.fwUp && j.opcode == opc && sel j.d then some j else none

/-- A started descriptor waits for the serving pair; one that has waited goes on. -/
def State.park (s : State) (j : Job) : State := s.setSq j.ring { s.sq j.ring with parked := (s.sq j.ring).parked ++ [j] }
def State.unpark (s : State) (ring : Nat) : State := s.setSq ring { s.sq ring with parked := (s.sq ring).parked.drop 1 }

/-- Run a descriptor command: it has an effect when the ring is the one that the engine serves next and its first
prefetched descriptor is well formed and is the one the command names; a TAKE-class ring refuses the opcodes that
R46 does not list. Without a serving pair a descriptor that needs firmware starts and waits, and those behind it start;
the next command of its kind on the ring goes on with it (R69; log 74). -/
def State.runOp (s : State) (ring opc : Nat) (sel : List Byte → Bool) (body : Job → State → State) : State :=
  match s.parkedNext ring opc sel with
  | some j => body j (s.unpark ring)
  | none =>
    if s.nextRing = some ring then
      match (s.sq ring).prefetch with
      | [] => s
      | d :: _ =>
        if wellFormedDesc d (s.sq ring).seqNext && u8 d 0 == opc && sel d then
          match s.start ring false with
          | some (j, s') =>
            if j.take && !takeAccepts opc then s'.complete j csClass 0
            else if s'.pwrRefuses opc then s'.complete j csState 0
            else if needsFw opc && (!s'.fwUp || !(s'.sq ring).parked.isEmpty) then s'.park j
            else body j s'
          | none => s
        else s
    else s

/-- May a ring act on a resource that carries the tag `owner`, 0 for none (R76 to R78)? -/
def Job.mayUse (j : Job) (owner : Nat) : Bool := owner == 0 || owner == j.owner || j.priv

/-- The tag of what the module owns, which no ring can have (R42, R286). -/
def moduleTag : Nat := 0xFFFF

/-- The refusal for a resource of another tag: CS_PRIV where it is orphaned, else CS_NOT_OWNER (R76, R78; log 5). -/
def State.ownerCode (s : State) (owner : Nat) : Nat :=
  if owner ≠ 0 ∧ owner ≠ moduleTag ∧ s.orphaned owner then csPriv else csNotOwner

/-- The first failing check of a list. -/
def firstFail : List (Bool × Nat) → Option Nat
  | [] => none
  | (bad, code) :: t => if bad then some code else firstFail t

end Sys2Proof.Machine
end

