-- ==== Sys2Proof/Machine/Rings.lean ====
section
/-!
DEFINITION. Machine/Rings.lean: doorbells, submission and completion rings, OP_NOP and OP_FENCE ("Rings, doorbells and
completions", R39 to R80).
-/
namespace Sys2Proof.Machine

/-! ## Doorbells (R49, R50) -/

/-- A write to HIF.SQ_DB. -/
def State.writeDoorbell (s : State) (n v : Nat) : State :=
  let q := s.sq n
  if v / 65536 ≠ q.owner then s.setSq n { q with dbReject := BitVec.ofNat 32 (min (q.dbReject.toNat + 1) 4294967295) }
  else if q.state = .disabled ∨ (q.state = .resetting ∧ q.closing = true) then s
  else
    let t := idx16 v
    if (t - q.head).toNat > 2 ^ q.sizeLog2 then
      if q.state = .resetting then s.ringHaltEvent n .dbOverrun q.seqNext
      else s.halt n .dbOverrun q.seqNext
    else s.setSq n { q with tail := t }

/-- DOORBELL. -/
def execDoorbell (n : Fin 64) (v : BitVec 32) (s : State) : Out3 := .next (s.writeDoorbell n v.toNat)

/-! ## Opening, closing, resetting and resuming a submission ring (R42, R66 to R68) -/

/-- The configuration fields of a write to SQ_CTL. -/
def Sq.config (q : Sq) (v : Nat) : Sq :=
  { q with take := decide (bits v 3 3 = 1), sizeLog2 := bits v 7 4, cq := bits v 13 8, owner := bits v 31 16 }

/-- The checks of R42 on an enable. -/
def Sq.configOk (q : Sq) : Bool :=
  decide (4 ≤ q.sizeLog2 ∧ q.sizeLog2 ≤ 12 ∧ q.owner ≠ 0 ∧ q.owner ≠ 0xFFFF ∧ bits q.base.toNat 5 4 = 0)

/-- An enable of a DISABLED ring: it opens at head and tail 0, or stays disabled with reason BAD_CFG (R41, R42). -/
def Sq.openRing (q : Sq) : Sq :=
  if q.configOk then
    { q with enable := true, state := .running, head := 0, tail := 0, prefetch := [], fetchFailed := false, started := [],
             resumeWaits := false, closing := false }
  else { q with reason := .badCfg }

/-- The records of a flush: one for each index from the first descriptor not started to the tail, numbered from `seq` (R67). -/
def Sq.flushed (q : Sq) (seq : BitVec 32) (count : Nat) : List Started :=
  (List.range count).map fun i =>
    { stamp := 0, seq := seq + BitVec.ofNat 32 i, opcode := u8 (q.prefetch.getD i []) 0, irq := false,
      halted := false, flushed := true, ended := true, ready := some (csFlushed, 0) }

/-- The first index that has not started. -/
def Sq.firstNotStarted (q : Sq) : BitVec 16 := q.head + idx16 q.started.length

/-- Begin the reset of R67; with `closing` it ends DISABLED (R68). -/
def Sq.beginReset (q : Sq) (closing : Bool) : Sq :=
  let count := (q.tail - q.firstNotStarted).toNat
  { q with state := .resetting, closing := closing, enable := !closing,
           started := q.started ++ q.flushed q.seqNext count, flushSeq := q.seqNext + BitVec.ofNat 32 count,
           prefetch := [], fetchFailed := false, resumeWaits := false }

/-- enable 0 written while a reset runs: descriptors accepted since it began are flushed too, and it ends DISABLED (R68). -/
def Sq.closeReset (q : Sq) : Sq :=
  let count := (q.tail - q.firstNotStarted).toNat
  { q with closing := true, enable := false, started := q.started ++ q.flushed q.flushSeq count,
           flushSeq := q.flushSeq + BitVec.ofNat 32 count }

/-- A resume of a HALTED ring; after CQ_ERR it waits until err is clear (R66). -/
def State.resumeSq (s : State) (n : Nat) : State :=
  let q := s.sq n
  if q.state = .halted then
    if q.reason = .cqErr ∧ (s.cq q.cq).err = true then s.setSq n { q with resumeWaits := true }
    else s.setSq n { q with state := .running, resumeWaits := false }
  else s

/-- A write to HIF.SQ_CTL. A write of reset to a ring that is RESETTING or DISABLED changes nothing (DESIGN CHOICE, log 75). -/
def State.writeSqCtl (s : State) (n v : Nat) : State :=
  let q := s.sq n
  if q.state = .resetting ∧ q.closing = true then s
  else if q.state = .disabled then
    let q := q.config v
    s.setSq n (if bits v 0 0 = 1 then q.openRing else q)
  else if bits v 0 0 = 0 then
    if q.state = .resetting then s.setSq n q.closeReset
    else s.setSq n (q.beginReset true)
  else if bits v 1 1 = 1 ∧ q.state ≠ .resetting then s.setSq n (q.beginReset false)
  else if bits v 2 2 = 1 then s.resumeSq n
  else s

/-- SQ_CTL as it reads. -/
def Sq.ctlWord (q : Sq) : Nat :=
  b2n q.enable + 8 * b2n q.take + 16 * q.sizeLog2 + 256 * q.cq + 16384 * b2n q.priv + 65536 * q.owner

/-- SQ_ENABLE: the write sets enable; its reset and resume bits are 0. -/
def execSqEnable (n : Fin 64) (v : BitVec 32) (s : State) : Out3 :=
  .next (s.writeSqCtl n (putBits v.toNat 2 0 1))

/-- SQ_DISABLE. -/
def execSqDisable (n : Fin 64) (s : State) : Out3 :=
  .next (s.writeSqCtl n (putBits (s.sq n).ctlWord 2 0 0))

/-- SQ_RESET. -/
def execSqReset (n : Fin 64) (s : State) : Out3 :=
  .next (s.writeSqCtl n (putBits (s.sq n).ctlWord 2 0 3))

/-- SQ_RESUME. -/
def execSqResume (n : Fin 64) (s : State) : Out3 :=
  .next (s.writeSqCtl n (putBits (s.sq n).ctlWord 2 0 5))

/-- The end of a ring reset (R67 step 3, R68): nothing waits to be posted any more. -/
def Sq.endReset (q : Sq) : Sq :=
  { q with seqNext := q.flushSeq, priv := false, reason := .none,
           state := (if q.closing then .disabled else .running), closing := false }

/-- RING_RESET_END. -/
def execRingResetEnd (n : Fin 64) (s : State) : Out3 :=
  let q := s.sq n
  .next (if q.state = .resetting ∧ q.started = [] then s.setSq n q.endReset else s)

/-! ## Completion rings (R42, R58 to R60) -/

/-- Resumes that waited for a completion ring's err (R66). -/
def State.releaseResumes (s : State) (c : Nat) : State :=
  rings.foldl (fun s n =>
    let q := s.sq n
    if q.resumeWaits && q.cq == c && decide (q.state = .halted) then
      s.setSq n { q with state := .running, resumeWaits := false }
    else s) s

/-- A write to HIF.CQ_CTL. -/
def State.writeCqCtl (s : State) (c v : Nat) : State :=
  let q := s.cq c
  let size := if q.enable then q.sizeLog2 else bits v 7 4
  let on := decide (bits v 0 0 = 1) && (q.enable || decide (4 ≤ size ∧ size ≤ 12))
  let fresh := on && !q.enable
  let clear := decide (bits v 15 15 = 1)
  let q' := { q with enable := on, sizeLog2 := size, vector := bits v 13 8, err := q.err && !clear,
                     head := (if fresh then 0 else q.head), tail := (if fresh then 0 else q.tail),
                     unsig := (if fresh then 0 else q.unsig) }
  let s := s.setCq c q'
  if clear then s.releaseResumes c else s

/-- CQ_CTL as it reads, err left out. -/
def Cq.ctlWord (q : Cq) : Nat := b2n q.enable + 16 * q.sizeLog2 + 256 * q.vector

/-- CQ_ENABLE. -/
def execCqEnable (c : Fin 64) (v : BitVec 32) (s : State) : Out3 :=
  .next (s.writeCqCtl c (putBits (putBits v.toNat 15 15 0) 0 0 1))

/-- CQ_ERR_CLEAR: a 1 is written to err, the other fields as they read. -/
def execCqErrClear (c : Fin 64) (s : State) : Out3 :=
  .next (s.writeCqCtl c (putBits (s.cq c).ctlWord 15 15 1))

/-- CQ_HEAD_WRITE. -/
def execCqHeadWrite (c : Fin 64) (v : BitVec 32) (s : State) : Out3 :=
  .next (s.setCq c { s.cq c with head := idx16 v.toNat })

/-! ## Fetching descriptors (R51, R65) -/

/-- May the module fetch one more descriptor of the ring? -/
def State.mayFetch (s : State) (n : Nat) : Bool :=
  let q := s.sq n
  decide (q.state = .running) && !s.hif.d3hot && !q.fetchFailed && decide (q.prefetch.length < 17) &&
  decide (q.prefetch.length < (q.tail - q.firstNotStarted).toNat)

/-- DESCRIPTOR_FETCH: `data` is what the host memory holds at the slot, none when the read fails on PCIe. -/
def execDescriptorFetch (n : Fin 64) (data : Option (List Byte)) (s : State) : Out3 :=
  let q := s.sq n
  .next (
    if s.mayFetch n then
      match data with
      | some d => s.setSq n { q with prefetch := q.prefetch ++ [dmaFit d 64] }
      | none =>
        if q.prefetch = [] then s.halt n .fetchErr q.seqNext
        else s.setSq n { q with fetchFailed := true }
    else s)

/-- MALFORMED_DESCRIPTOR: the malformed descriptor counts as started, and the ring halts at it (R64). -/
def execMalformedDescriptor (n : Fin 64) (s : State) : Out3 :=
  .next (
    match (s.sq n).prefetch with
    | [] => s
    | d :: _ =>
      if s.nextRing = some n.val && !wellFormedDesc d (s.sq n).seqNext then
        match s.start n true with
        | some (j, s') => (s'.complete j csMalformed 0).halt n .malformed j.seq
        | none => s
      else s)

/-! ## Posting completions (R57 to R60, R62, R72) -/

/-- The phase bit of a ring's next record: 1 on the first pass, inverted on each later one (R58). -/
def phaseBit (tail : BitVec 16) (sizeLog2 : Nat) : Nat := (tail.toNat / 2 ^ sizeLog2 + 1) % 2

/-- The 16 bytes of a completion record (R57). -/
def completionRecord (ring : Nat) (e : Started) (status : Nat) (result : BitVec 64) (phase : Nat) : List Byte :=
  leBytes 4 e.seq.toNat ++ leBytes 2 status ++ leBytes 1 e.opcode ++
  leBytes 1 (phase + 2 * b2n e.halted + 4 * ring) ++ leBytes 8 result.toNat

/-- Count a posted completion towards the interrupt of its ring (R72). -/
def State.signalCq (s : State) (c : Nat) (now_ : Bool) : State :=
  let q := s.cq c
  let unsig := q.unsig + 1
  if now_ || decide (max q.modCount 1 ≤ unsig) then (s.setCq c { q with unsig := 0 }).interrupt q.vector
  else s.setCq c { q with unsig := unsig, firstUnsig := (if q.unsig = 0 then s.now else q.firstUnsig) }

/-- A completion write that failed: err sets, and every submission ring that posts there halts (R60). A ring that resets keeps
RESETTING and shows the reason, which the end of its reset clears (DESIGN CHOICE, log 76). -/
def State.cqFail (s : State) (c : Nat) : State :=
  rings.foldl (fun s n =>
    let q := s.sq n
    if q.cq == c && decide (q.state = .running ∨ q.state = .halted) then s.halt n .cqErr q.seqNext
    else if q.cq == c && decide (q.state = .resetting) then (s.setSq n { q with reason := .cqErr }).ringHaltEvent n .cqErr q.seqNext
    else s)
    (s.setCq c { s.cq c with err := true })

/-- COMPLETION_POST: the ring's oldest completion, when it is ready and the completion ring has a slot. `ok` is whether
the write succeeds on PCIe. -/
def execCompletionPost (n : Fin 64) (ok : Bool) (s : State) : Out3 :=
  let q := s.sq n
  let c := s.cq q.cq
  .next (
    match q.started with
    | [] => s
    | e :: rest =>
      match e.ready with
      | none => s
      | some (status, result) =>
        if s.cqRoom q.cq && !s.hif.d3hot then
          if ok then
            let s := s.hostWrite (c.base.toNat + 16 * (c.tail.toNat % 2 ^ c.sizeLog2))
              (completionRecord n e status result (phaseBit c.tail c.sizeLog2))
            let s := s.setSq n { q with started := rest, head := q.head + 1, seqPosted := e.seq }
            let s := s.setCq q.cq { c with tail := c.tail + 1 }
            s.signalCq q.cq (e.irq || e.halted)
          else s.cqFail q.cq
        else s)

/-- CQ_MOD_TIMER_EXPIRY. -/
def execCqModTimerExpiry (c : Fin 64) (s : State) : Out3 :=
  let q := s.cq c
  .next (
    if q.modTime ≠ 0 ∧ q.unsig ≠ 0 ∧ q.firstUnsig + usTicks q.modTime ≤ s.now then
      (s.setCq c { q with unsig := 0 }).interrupt q.vector
    else s)

/-! ## OP_NOP and OP_FENCE (R55, R56) -/

/-- OP_NOP. -/
def execOpNop (n : Fin 64) (s : State) : Out3 :=
  .next (s.runOp n 0xF0 (fun _ => true) fun j s => s.complete j csOk (BitVec.ofNat 64 (u64 j.d 8)))

/-- What a fence with this descriptor waits for. The descriptors fetched before it are, on its own ring, those ahead of
it, and on another ring those started or prefetched (R56). -/
def State.fenceOf (s : State) (j : Job) : FenceWait :=
  { ring := j.ring, stamp := j.stamp, owner := j.owner,
    scopeRing := ubit j.d 8 0, scopeOwner := ubit j.d 8 1, scopeApplied := ubit j.d 8 2,
    bounds := (rings.map fun r =>
      (r, if r = j.ring then j.seq
          else (s.sq r).seqNext + BitVec.ofNat 32 (s.sq r).prefetch.length)) }

/-- OP_FENCE. Scope [3] holds at once: every BAR0 write received before has taken effect in this model (log 6). -/
def execOpFence (n : Fin 64) (s : State) : Out3 :=
  .next (s.runOp n 0xF1 (fun _ => true) fun j s =>
    (s.updHif fun h => { h with fences := h.fences ++ [s.fenceOf j] }).settle)

end Sys2Proof.Machine
end

