-- ==== Sys2Proof/Machine/Events.lean ====
section
/-!
DEFINITION. Machine/Events.lean: event rings, event records and software events (R73 to R75, R511 to R514).
-/
namespace Sys2Proof.Machine

/-- EVENT_OCCURRENCE: a block raises an event from outside this model's own rules. -/
def execEventOccurrence (src : Fin 320) (code : BitVec 16) (d : List Byte) (s : State) : Out3 :=
  .next (s.occurBytes src code.toNat (dmaFit d 12))

/-- The 32 bytes of an event record (R74). -/
def EvRec.bytes (r : EvRec) (phase : Nat) (gap : Bool) : List Byte :=
  leBytes 2 r.source ++ leBytes 2 r.code ++ leBytes 4 r.ns ++ leBytes 6 r.sec ++ leBytes 2 r.occ ++
  leBytes 1 (phase + 2 * b2n gap) ++ leBytes 3 0 ++ dmaFit r.detail 12

/-- Occurrences of the source before this record went to its overflow counter since its last record. -/
def EvSrc.gap (e : EvSrc) (occ : Nat) : Bool := e.ovf.any fun o => decide (o < occ)

/-- Count a record as delivered. -/
def EvSrc.deliver (e : EvSrc) (occ : Nat) : EvSrc :=
  { e with delivered := e.delivered + 1, ovf := e.ovf.filter fun o => decide (occ ≤ o) }

/-- Count a record towards the interrupt of its event ring (R513). -/
def State.signalEr (s : State) (k : Nat) (urgent : Bool) : State :=
  let r := s.er k
  let unsig := r.unsig + 1
  if urgent || decide (max (s.fget (Adr.erMod k) 7 0) 1 ≤ unsig) then
    (s.setEr k { r with unsig := 0 }).interrupt r.vector
  else s.setEr k { r with unsig := unsig, firstUnsig := (if r.unsig = 0 then s.now else r.firstUnsig) }

/-- EVENT_RECORD_WRITE: the oldest staged occurrence of an event ring. A disabled or full ring, and a write that fails
on PCIe, count it as overflowed; the failed write also clears the ring's enable (R511). -/
def execEventRecordWrite (k : Fin 4) (ok : Bool) (s : State) : Out3 :=
  .next (
    if s.hif.d3hot then s else
    match s.stagedOf k with
    | [] => s
    | r :: rest =>
      let e := s.evSrc r.source
      let s := s.setStaged k rest
      let q := s.er k
      if q.enable = false ∨ (q.tail - q.head).toNat ≥ 2 ^ q.sizeLog2 then s.setEvSrc r.source (e.overflow r.occ)
      else if ok then
        let s := s.hostWrite (q.base.toNat + 32 * (q.tail.toNat % 2 ^ q.sizeLog2))
          (r.bytes (phaseBit q.tail q.sizeLog2) (e.gap r.occ))
        let s := s.setEvSrc r.source (e.deliver r.occ)
        let s := s.setEr k { q with tail := q.tail + 1 }
        s.signalEr k (s.flag (Adr.evtSrc r.source) 3)
      else (s.setEvSrc r.source (e.overflow r.occ)).setEr k { q with enable := false })

/-- A write to EVT.ER_CTL (R42, R73). -/
def State.writeErCtl (s : State) (k v : Nat) : State :=
  let q := s.er k
  let size := if q.enable then q.sizeLog2 else bits v 7 4
  let on := decide (bits v 0 0 = 1) && (q.enable || decide (4 ≤ size ∧ size ≤ 14))
  let fresh := on && !q.enable
  s.setEr k { q with enable := on, sizeLog2 := size, vector := bits v 13 8, head := (if fresh then 0 else q.head),
                     tail := (if fresh then 0 else q.tail), unsig := (if fresh then 0 else q.unsig) }

/-- EVENT_RING_ENABLE. -/
def execEventRingEnable (k : Fin 4) (v : BitVec 32) (s : State) : Out3 :=
  .next (s.writeErCtl k (putBits v.toNat 0 0 1))

/-- EVENT_RING_TIMER. -/
def execEventRingTimer (k : Fin 4) (s : State) : Out3 :=
  let r := s.er k
  let t := s.fget (Adr.erMod k) 17 8
  .next (
    if t ≠ 0 ∧ r.unsig ≠ 0 ∧ r.firstUnsig + usTicks t ≤ s.now then
      (s.setEr k { r with unsig := 0 }).interrupt r.vector
    else s)

/-- A write to EVT.SW_RAISE (R514). -/
def State.swRaise (s : State) (v : Nat) : State := s.occur (312 + bits v 2 0) 0x1500 [(24, 4, bits v 31 16)]

/-- SW_RAISE. -/
def execSwRaise (v : BitVec 32) (s : State) : Out3 := .next (s.swRaise v.toNat)

/-! ## Power states (R501, R508) -/

/-- GLB.PWR_STAT.state changes: EV_STATE. -/
def State.powerTo (s : State) (st : Nat) : State :=
  let old := s.fget Adr.pwrStat 2 0
  if old = st then s else (s.fset Adr.pwrStat 2 0 st).occur 284 0x1110 [(22, 1, old), (23, 1, st)]

/-- Entry to QUIET completes once every head has stopped. -/
def State.quietCheck (s : State) : State :=
  if s.fget Adr.pwrStat 2 0 = 4 ∧ s.pwr.standby = false ∧ (s.headList.all fun h => decide (h.run = .stopped)) = true then s.powerTo 2 else s

end Sys2Proof.Machine
end

