-- ==== Sys2Proof/Machine/Leave.lean ====
section
/-!
DEFINITION. Machine/Leave.lean: the leave arbiter, the shed ladder, supply and temperature ("Leave, power and thermal",
R398 to R418).
-/
namespace Sys2Proof.Machine

/-! ## Pools, limits and sheds -/

def powPool : Nat := 8400
def fetPool : Nat := 2000

/-- The limit of each pool: the lower of LEAVE.CFG and the frame's limit (R406). -/
def State.powLimit (s : State) : Nat := min (s.fget Adr.lvCfg 13 0) (s.lv.pmPow.getD powPool)
def State.fetLimit (s : State) : Nat := min (s.fget Adr.lvCfg 26 16) (s.lv.pmFet.getD fetPool)

/-- What the withheld holder aims at (R406). -/
def State.powTarget (s : State) : Nat := powPool - s.powLimit
def State.fetTarget (s : State) : Nat := fetPool - s.fetLimit

/-- The shed level that all causes together require (R412, R522). -/
def State.shedLevel (s : State) : Nat :=
  if s.lv.tripped then 4
  else max (max s.lv.thermal (if s.lv.supply || s.lv.power then 2 else 0))
    (max (s.fget Adr.lvShed 9 8) (if s.lv.auditBad then 1 else 0))

/-- SHED.causes. -/
def State.shedCauses (s : State) : Nat :=
  b2n (decide (s.lv.thermal ≠ 0) || s.lv.tripped) + 2 * b2n s.lv.supply + 4 * b2n s.lv.power +
  8 * b2n (decide (s.fget Adr.lvShed 9 8 ≠ 0)) + 16 * b2n s.lv.auditBad

/-- An event of this chapter: every record carries the shed level in byte 20 (R417). -/
def State.lvRaise (s : State) (bit src code : Nat) (d : List (Nat × Nat × Nat)) : State :=
  s.raise Adr.lvCause Adr.lvMask bit src code ((20, 1, s.shedLevel) :: d)

/-- After a change of any cause: each level change raises EV_SHED (R412). -/
def State.shedUpdate (s : State) : State :=
  let s := if s.lv.thermal ≠ 0 ∨ s.lv.tripped = true then s.updLv fun v => { v with stTemp := true } else s
  let l := s.shedLevel
  if l = s.lv.level then s
  else (s.updLv fun v => { v with level := l }).lvRaise 2 279 0x0E02 [(22, 1, l), (23, 1, s.shedCauses)]

/-- EV_LEAVE_LIMIT (R406). -/
def State.limitEvent (s : State) : State :=
  s.lvRaise 1 279 0x0E01 [(24, 2, s.lv.powWith), (26, 2, s.lv.fetWith)]

/-- Let the withheld holders move towards their targets: they take free tokens, or return their excess (R406). -/
def State.fillWithheld (s : State) : State :=
  let tp := min (s.powTarget - s.lv.powWith) s.lv.powFree
  let rp := s.lv.powWith - s.powTarget
  let tf := min (s.fetTarget - s.lv.fetWith) s.lv.fetFree
  let rf := s.lv.fetWith - s.fetTarget
  let s' := s.updLv fun v =>
    { v with powFree := v.powFree - tp + rp, powWith := v.powWith + tp - rp,
             fetFree := v.fetFree - tf + rf, fetWith := v.fetWith + tf - rf }
  let s' := (((s'.ledAdd 9 0 5 tp).ledAdd 9 0 6 rp).ledAdd 9 1 5 tf).ledAdd 9 1 6 rf
  if (tp + rp ≠ 0 ∧ s'.lv.powWith = s'.powTarget) ∨ (tf + rf ≠ 0 ∧ s'.lv.fetWith = s'.fetTarget) then s'.limitEvent
  else s'

/-! ## Requests and returns (R402, R403) -/

/-- Would a request be granted? -/
def State.leaveFits (s : State) (p f : Nat) : Bool :=
  (p == 0 && f == 0) ||
  (decide (p ≤ s.lv.powFree ∧ f ≤ s.lv.fetFree) && decide (s.shedLevel = 0) && !s.lv.auditBad)

/-- Take tokens from free. -/
def State.leaveTake (s : State) (p f : Nat) : State :=
  ((s.updLv fun v => { v with powFree := v.powFree - p, fetFree := v.fetFree - f }).ledAdd 9 0 5 p).ledAdd 9 1 5 f

/-- Record a refusal: LEAVE.LAST and the refused counters of the pools asked (R402, R407). -/
def State.leaveRefuse (s : State) (owner p f : Nat) : State :=
  let last := b2n (decide (s.lv.powFree < p)) + 2 * b2n (decide (s.lv.fetFree < f)) +
    4 * b2n (decide (s.shedLevel ≠ 0)) + 65536 * owner
  let s := s.wr Adr.lvLast last
  let s := if p ≠ 0 then s.ledAdd 9 0 7 1 else s
  if f ≠ 0 then s.ledAdd 9 1 7 1 else s

/-- Ask for leave: all of the amount or none of it. `owner` is 0 for the module's own requests. -/
def State.leaveAsk (s : State) (owner p f : Nat) : Bool × State :=
  if s.leaveFits p f then (true, s.leaveTake p f) else (false, s.leaveRefuse owner p f)

/-- Return tokens; below its target the withheld holder takes them (R403, R406). -/
def State.leaveRet (s : State) (p f : Nat) : State :=
  let s := ((s.updLv fun v => { v with powFree := v.powFree + p, fetFree := v.fetFree + f }).ledAdd 9 0 6 p).ledAdd 9 1 6 f
  if s.lv.powWith < s.powTarget ∨ s.lv.fetWith < s.fetTarget then s.fillWithheld else s

/-! ## LEAVE.CFG and LEAVE.SHED -/

/-- A write to LEAVE.CFG: a limit out of range leaves its field unchanged (R416). -/
def State.writeLeaveCfg (s : State) (v : Nat) : State :=
  let p := bits v 13 0
  let f := bits v 26 16
  let s := if 4120 ≤ p ∧ p ≤ 8400 then (s.fset Adr.lvCfg 13 0 p).nvTouch 512 else s
  let s := if f ≤ 2000 then (s.fset Adr.lvCfg 26 16 f).nvTouch 512 else s
  s.fillWithheld

/-- LEAVE_CFG_WRITE. -/
def execLeaveCfgWrite (v : BitVec 32) (s : State) : Out3 := .next (s.writeLeaveCfg v.toNat)

/-- Granted and free of a pool make up the pool: granted is grants less returns (R407). -/
def State.powSumOk (s : State) : Bool := decide (s.lv.powFree + s.led 9 0 5 = powPool + s.led 9 0 6)
def State.fetSumOk (s : State) : Bool := decide (s.lv.fetFree + s.led 9 1 5 = fetPool + s.led 9 1 6)

/-- LEAVE_AUDIT: the arbiter's check of both pools: granted and free against the pool, and against the sum over all holders; the
operands say whether a fault of the hardware has upset a pool's counts (R408). -/
def execLeaveAudit (powUpset fetUpset : Bool) (s : State) : Out3 :=
  let powBad := powUpset || !s.powSumOk
  let fetBad := fetUpset || !s.fetSumOk
  .next (
    if powBad || fetBad then
      let s := s.updLv fun v => { v with auditBad := true }
      let s := if powBad then s.lvRaise 0 279 0x0E00 [(22, 1, 0)] else s
      let s := if fetBad then s.lvRaise 0 279 0x0E00 [(22, 1, 1)] else s
      s.shedUpdate
    else s)

/-! ## Supply (R409, R410) -/

/-- Has a condition lasted since the given time for `ms` milliseconds? -/
def State.lasted (s : State) (t : Option Nat) (ms : Nat) : Bool :=
  match t with
  | some t => decide (t + msTicks ms ≤ s.now)
  | none => false

/-- The supply band of a voltage in 10 mV, left with a hysteresis of 0.5 V (R409). -/
def supplyBand (old mv10 : Nat) : Nat :=
  if mv10 < 3600 then 1
  else if old = 1 ∧ mv10 < 3650 then 1
  else if 7500 < mv10 then 2
  else if old = 2 ∧ 7450 < mv10 then 2
  else 0

/-- The SUPPLY shed: set in the low band, cleared after 1 s outside it. -/
def State.supplyShed (s : State) : State :=
  if s.lv.band = 1 then s.updLv fun v => { v with supply := true, supplySince := none }
  else if s.lv.supply then
    match s.lv.supplySince with
    | none => s.updLv fun v => { v with supplySince := some s.now }
    | some _ =>
      if s.lasted s.lv.supplySince 1000 then s.updLv fun v => { v with supply := false, supplySince := none } else s
  else s

/-- The POWER shed: 100 ms above the power limit sets it, 1 s below 95 % of the limit clears it. Power in 0.1 W; a token
is 50 mW, so the limit in 0.1 W is half the tokens. -/
def State.powerShed (s : State) (p : Nat) : State :=
  let above := decide (s.powLimit < 2 * p)
  let below := decide (200 * p < 95 * s.powLimit)
  let s := s.updLv fun v =>
    { v with overSince := (if above then (match v.overSince with | none => some s.now | some t => some t) else none),
             powerSince := (if v.power && below then (match v.powerSince with | none => some s.now | some t => some t)
                            else none) }
  if s.lv.power then
    if s.lasted s.lv.powerSince 1000 then s.updLv fun v => { v with power := false, powerSince := none } else s
  else if s.lasted s.lv.overSince 100 then
    (s.updLv fun v => { v with power := true }).lvRaise 5 281 0x0E21 [(24, 2, p)]
  else s

/-- SUPPLY_MEASUREMENT: voltage in 10 mV, input power in 0.1 W. -/
def execSupplyMeasurement (mv10 : BitVec 16) (p : BitVec 13) (s : State) : Out3 :=
  let v := mv10.toNat
  let s := (s.fset Adr.lvVin 15 0 v).fset Adr.lvPin 12 0 p.toNat
  let band := supplyBand s.lv.band v
  let changed := decide (band ≠ s.lv.band)
  let s := s.updLv fun l =>
    { l with band := band, stInput := (l.stInput || decide (band ≠ 0)),
             goodSince := (if 3600 < v then (match l.goodSince with | none => some s.now | some t => some t) else none) }
  let s := if changed then s.lvRaise 4 281 0x0E20 [(22, 1, band), (24, 2, v)] else s
  .next ((s.supplyShed).powerShed p.toNat).shedUpdate

/-! ## Temperature (R411, R412) -/

/-- A reading of 11 bits in 0.125 °C, two's complement. -/
def tempOf (x : Nat) : Int := if x < 1024 then (x : Int) else (x : Int) - 2048

/-- The thermal level that a reading enters, in 0.125 °C. -/
def enterLevel (t : Int) : Nat := if 880 ≤ t then 3 else if 840 ≤ t then 2 else if 800 ≤ t then 1 else 0

/-- A level clears when the reading has stayed strictly below this value for 1 s (R412). -/
def clearBelow (level : Nat) : Int := if level = 3 then 840 else if level = 2 then 800 else 760

/-- The highest of TJ[0] to TJ[19] and its index. -/
def hottest (tj : List Nat) : Int × Nat :=
  ((tj.take 20).zipIdx).foldl (fun m p => if m.1 < tempOf p.1 then (tempOf p.1, p.2) else m) (tempOf (tj.getD 0 0), 0)

/-- Raise or clear the thermal level for a highest reading. -/
def State.thermalLevel (s : State) (t : Int) : State :=
  let l := s.lv.thermal
  let e := enterLevel t
  if l < e then s.updLv fun v => { v with thermal := e, thermSince := none }
  else if l = 0 then s
  else if t < clearBelow l then
    match s.lv.thermSince with
    | none => s.updLv fun v => { v with thermSince := some s.now }
    | some _ =>
      if s.lasted s.lv.thermSince 1000 then
        s.updLv fun v => { v with thermal := max (l - 1) e, thermSince := (if t < clearBelow (l - 1) then v.thermSince else none) }
      else s
  else s.updLv fun v => { v with thermSince := none }

/-- HBM stacks above 95 °C (R411). -/
def State.hbmHeat (s : State) (tj : List Nat) : State :=
  (List.range 4).foldl (fun s i =>
    let hot := decide (760 < tempOf (tj.getD (20 + i) 0))
    let was := decide (bits s.lv.hbmHot.toNat i i = 1)
    if hot = was then s
    else (s.updLv fun v => { v with hbmHot := BitVec.ofNat 4 (putBits v.hbmHot.toNat i i (b2n hot)) }).lvRaise 3 280 0x0E11
      [(22, 1, i), (23, 1, b2n hot)]) s

/-- THERMAL_SAMPLE's effect on the ladder: 24 junction readings and the cold plate, 11 bits each. -/
def State.thermalSample (s : State) (tj : List (BitVec 11)) (tcp : BitVec 11) : State :=
  let r := (List.range 24).map fun i => (tj.getD i 0).toNat
  let s := (r.zipIdx).foldl (fun s p => s.fset (Adr.lvTj p.2) 10 0 p.1) s
  let h := hottest r
  let s := ((s.fset Adr.lvTjMax 10 0 (toTwos 11 h.1)).fset Adr.lvTjMax 20 16 h.2).fset Adr.lvTcp 10 0 tcp.toNat
  ((s.thermalLevel h.1).hbmHeat r).shedUpdate

end Sys2Proof.Machine
end

