-- ==== Sys2Proof/Machine/Ingest.lean ====
section
/-!
DEFINITION. Machine/Ingest.lean: sources, input rings, SDI and IP receive ("Ingest and frame synchronisation", R81 to
R108, R564).
-/
namespace Sys2Proof.Machine

/-! ## Sources and their registers -/

def State.src (s : State) (n : Nat) : Source := Tab.get (fun _ => Source.reset) s.ing.srcs n
def State.setSrc (s : State) (n : Nat) (v : Source) : State :=
  s.updIng fun g => { g with srcs := (Tab.set (fun _ => Source.reset) g.srcs n v) }
def State.updSrc (s : State) (n : Nat) (f : Source → Source) : State := s.setSrc n (f (s.src n))

/-- A cause bit of a source and its event (R113). -/
def State.srcRaise (s : State) (n bit code : Nat) (d : List (Nat × Nat × Nat)) : State :=
  s.raise (Adr.srcCause n) (Adr.srcMask n) bit (256 + n / 32) code ((20, 2, n) :: d)

/-- A counter of the source ledger (R105). -/
def State.srcCount (s : State) (n c k : Nat) : State := s.ledAdd 1 n c k

/-- EV_SRC_DAMAGED with what is missing, and the counter of frames damaged. -/
def State.srcDamaged (s : State) (n missing : Nat) : State :=
  (s.srcCount n 3 1).srcRaise n 7 0x0107 [(24, 4, missing)]

/-! ## HBM capacity (R24, R97), in 4 KiB units -/

/-- Units of a ring for a mode. -/
def ringUnits (code : Nat) : Nat := ceilDiv (ringBytes code) 4096

/-- The pool that rings and surfaces share: 64 GiB less the head buffers, the converter stores and the audio history (R24,
R319; log 7). -/
def hbmPool : Nat := (68719476736 - 512 * 37324800 - 5000000000 - 536870912) / 4096

/-- Units of the persisted copies of coefficient sets and 3D LUTs, which the pool gives (R203). -/
def State.persisted (s : State) : Nat :=
  let p := fun (c : Option ScSet) => match c with | some c => b2n c.persist | none => 0
  (s.scc.scalers.map fun e => p e.2.set1 + p e.2.set2 + p e.2.set3).sum +
  ((s.scc.ins ++ s.scc.outs).map fun e => if e.2.persist3d then 8 else 0).sum

/-- Units in use. -/
def State.hbmUsed (s : State) : Nat :=
  ((s.ing.srcs.map fun p => match p.2.ring with | some r => ceilDiv r.bytes 4096 | none => 0).sum) +
  ((s.ing.old.map fun o => ceilDiv o.ring.bytes 4096).sum) +
  ((s.srf.list.map fun f => f.units).sum) + s.persisted

def State.hbmFree (s : State) : Nat := hbmPool - s.hbmUsed

/-! ## Input rings (R97 to R100) -/

/-- The id of a slot's frame, 0 for an empty slot. -/
def Slot.id (x : Slot) : Nat := match x.frame with | some f => f.id | none => 0

/-- The slot with the newest complete frame. -/
def Ring.newest (r : Ring) : Option Nat :=
  (r.slots.zipIdx.foldl (fun m p => if m.1 < p.1.id then (p.1.id, some p.2) else m) (0, none)).2

/-- The slot the writer may take: not pinned, not in progress, with the oldest frame (R99). -/
def Ring.victim (r : Ring) : Option Nat :=
  ((r.slots.zipIdx.filter fun p => p.1.pins.isEmpty && !p.1.writing).foldl
    (fun (m : Option (Nat × Nat)) p =>
      match m with
      | some (i, _) => if p.1.id < i then some (p.1.id, p.2) else m
      | none => some (p.1.id, p.2)) none).map (·.2)

def Ring.slot (r : Ring) (k : Nat) : Slot := r.slots.getD k Slot.empty
def Ring.updSlot (r : Ring) (k : Nat) (f : Slot → Slot) : Ring := { r with slots := r.slots.modify k f }

/-- Published frames of a ring that no reader has taken. -/
def Ring.untaken (r : Ring) : Nat := (r.slots.filter fun x => x.frame.isSome && !x.taken).length

/-- Mask of pinned slots. -/
def Ring.pinned (r : Ring) : Nat :=
  ((List.range 3).map fun k => if (r.slot k).pins.isEmpty then 0 else 2 ^ k).sum

/-- A new ring. -/
def State.newRing (s : State) (mode tokens : Nat) : Ring × State :=
  (Ring.mk s.ing.nextRing mode (ringBytes mode) (List.replicate 3 Slot.empty) tokens,
   s.updIng fun g => { g with nextRing := g.nextRing + 1 })

/-- Frames of the old rings of a source leave them: no reader can take them any more (R105, R108). -/
def State.supersedeOld (s : State) (n : Nat) : State :=
  let k := ((s.ing.old.filter fun o => o.src == n).map fun o => o.ring.untaken).sum
  (s.updIng fun g =>
    { g with old := (g.old.map fun o =>
        if o.src = n then
          { o with ring := { o.ring with slots := o.ring.slots.map fun x => { x with taken := true } } }
        else o) }).srcCount n 2 k

/-- Give a source a new ring; the one it had waits to be freed. -/
def State.replaceRing (s : State) (n mode tokens : Nat) : State :=
  let (r, s) := s.newRing mode tokens
  let s := match (s.src n).ring with
    | some o => s.updIng fun g => { g with old := g.old ++ [OldRing.mk n o false] }
    | none => s
  (s.updSrc n fun x => { x with ring := some r }).supersedeOld n

/-- The ring that readers of a source use: its own, or the newest one that a deleted flow left (R93). -/
def State.readRing (s : State) (n : Nat) : Option Ring :=
  match (s.src n).ring with
  | some r => some r
  | none => ((s.ing.old.filter fun o => o.src == n).getLast?).map (·.ring)

/-- Change the ring with an id wherever it is. -/
def State.updRing (s : State) (n id : Nat) (f : Ring → Ring) : State :=
  match (s.src n).ring with
  | some r =>
    if r.id = id then s.updSrc n fun x => { x with ring := some (f r) }
    else s.updIng fun g => { g with old := (g.old.map fun o => if o.ring.id = id then { o with ring := f o.ring } else o) }
  | none => s.updIng fun g => { g with old := (g.old.map fun o => if o.ring.id = id then { o with ring := f o.ring } else o) }

/-- The newest complete frame of a source, with its ring and slot. -/
def State.newestFrame (s : State) (n : Nat) : Option (Ring × Nat × Frame) :=
  match s.readRing n with
  | none => none
  | some r =>
    match r.newest with
    | none => none
    | some k => (r.slot k).frame.map fun f => (r, k, f)

/-- A reader takes a frame and pins its slot; the first reader counts it as used (R99, R100, R105). -/
def State.takeFrame (s : State) (n : Nat) (r : Ring) (k : Nat) (p : Pin) : State :=
  let first := !(r.slot k).taken
  let s := s.updRing n r.id fun r => r.updSlot k fun x => { x with taken := true, pins := x.pins ++ [p] }
  if first then s.srcCount n 1 1 else s

/-- A reader releases its pins. -/
def Ring.unpin (r : Ring) (p : Pin) : Ring :=
  { r with slots := r.slots.map fun x => { x with pins := x.pins.filter fun q => q ≠ p } }

def State.unpin (s : State) (p : Pin) : State :=
  s.updIng fun g =>
    { g with srcs := (g.srcs.map fun e => (e.1, { e.2 with ring := e.2.ring.map fun r => r.unpin p })),
             old := (g.old.map fun o => { o with ring := o.ring.unpin p }) }

/-- The writer takes a slot for a new frame, or finds none: then the frame is blocked (R99). -/
def State.beginWrite (s : State) (n : Nat) : Option Nat × State :=
  match (s.src n).ring with
  | none => (none, s)
  | some r =>
    match r.victim with
    | some k =>
      let old := r.slot k
      let s := s.updSrc n fun x =>
        { x with ring := some (r.updSlot k fun y => { y with frame := none, taken := false, writing := true }) }
      (some k, if old.frame.isSome && !old.taken then s.srcCount n 2 1 else s)
    | none => (none, (s.srcCount n 4 1).srcRaise n 6 0x0106 [(22, 1, r.pinned)])

/-- The frame in progress in a slot is abandoned. -/
def State.dropWrite (s : State) (n : Nat) (slot : Option Nat) : State :=
  match slot, (s.src n).ring with
  | some k, some r => s.updSrc n fun x => { x with ring := some (r.updSlot k fun y => { y with writing := false }) }
  | _, _ => s

/-! ## Publishing (R101, R564) -/

/-- EV_SRC_PID_MISMATCH. -/
def State.pidEvent (s : State) (n : Nat) : State := s.srcRaise n 3 0x0103 [(24, 4, (s.src n).pid.toNat)]

/-- The accepted format: the events of R564, and that of an ST 352 that contradicts the timing (R84). -/
def State.acceptFmt (s : State) (n : Nat) (f : Fmt) : State :=
  let x := s.src n
  let old := x.remembered
  let s := s.setSrc n { x with state := .locked, fmt := f, remembered := some f, lastPub := s.now, pubAt := none, periods := [],
                               cand := none, locks := x.locks + 1 }
  let s := match old with
    | some o => if o.same f then s else (s.srcCount n 7 1).srcRaise n 2 0x0102 [(22, 1, o.mode), (23, 1, f.mode)]
    | none => s
  let s := s.srcRaise n 0 0x0100 [(22, 1, f.mode), (23, 1, f.interface)]
  if f.pidMismatch then s.pidEvent n else s

/-- The mean frame period in ns (R101). -/
def Source.period (x : Source) : Nat := if x.periods = [] then 0 else x.periods.sum / x.periods.length

/-- Publish a frame from a slot. -/
def State.publish (s : State) (n k : Nat) (f : Frame) : State :=
  s.updSrc n fun x =>
    { x with ring := x.ring.map fun r => r.updSlot k fun y => { y with frame := some f, writing := false, taken := false },
             arrSec := f.arrSec, arrNs := f.arrNs, nextId := x.nextId + 1,
             periods := (match x.pubAt with | some t => ((2 * (s.now - t)) :: x.periods).take 16 | none => []),
             lastPub := s.now, pubAt := some s.now }

/-- The last active line of a mode (R247). -/
def lastLine (code : Nat) : Nat :=
  match modeOf code with
  | some m => if m.first2 = 0 then m.first + m.activeLines - 1 else m.first2 + m.activeLines / 2 - 1
  | none => 0

/-- Reference time of a frame that completes now, in PHC ns: the start of line 1 of an SDI frame, the RTP timestamp of an
IP one (R318). -/
def State.frameRef (s : State) (n ts : Nat) : Int :=
  let t : Int := ((s.tim.phc / 4294967296 : Nat) : Int)
  let x := s.src n
  if x.fmt.interface = 8 then
    let media := s.tim.phc * 90000 / phcUnit
    t - ((((media : Int) - ts) % 4294967296) * 1000000000) / 90000
  else t - linesNs x.fmt.mode (lastLine x.fmt.mode)

/-- An input colour unit and its change. -/
def State.colIn (s : State) (n : Nat) : ColUnit := Tab.get (fun _ => ColUnit.reset) s.scc.ins n
def State.setColIn (s : State) (n : Nat) (v : ColUnit) : State :=
  s.updScc fun c => { c with ins := (Tab.set (fun _ => ColUnit.reset) c.ins n v) }

/-- An output unit and its change. -/
def State.colOut (s : State) (h : Nat) : ColUnit := Tab.get (fun _ => ColUnit.reset) s.scc.outs h
def State.setColOut (s : State) (h : Nat) (v : ColUnit) : State :=
  s.updScc fun c => { c with outs := (Tab.set (fun _ => ColUnit.reset) c.outs h v) }

/-- The house space, and the working space of a head (R196). -/
def State.house (s : State) : Nat × Nat := (s.fget Adr.colHouse 1 0, s.fget Adr.colHouse 3 2)
def State.workSpace (s : State) (h : Nat) : Nat × Nat := (s.colOut h).space.getD s.house

/-- A staged load takes effect and its descriptor completes (R202). -/
def State.loadDone (s : State) (l : ColLoad) : State :=
  (s.updScc fun c => { c with loads := c.loads.filter fun m => m.stamp ≠ l.stamp }).completeAt l.ring l.stamp csOk 0

/-- A frame of source `n` begins: staged loads of its input unit take effect (R202, R207). -/
def State.colourBegin (s : State) (n : Nat) : State :=
  (s.scc.loads.filter fun l => l.kind == 0 && l.index == n).foldl (fun s l =>
    (s.setColIn n { l.unit with loads := ((s.colIn n).loads + 1) % 4294967296 }).loadDone l) s

/-- The ring space that an input unit gives a source of a format (R196). -/
def ColUnit.ringSpace (u : ColUnit) (f : Fmt) : Nat × Nat := u.space.getD (f.colorimetry, f.transfer)

/-- A frame of a source's accepted format, complete now, with the input unit it passed. -/
def State.frameNow (s : State) (n : Nat) (u : ColUnit) (patched : Bool) (ts : Nat) (anc : List Anc) (atc : Option Nat) : Frame :=
  let x := s.src n
  { id := x.nextId, mode := x.fmt.mode, il := modeInterlaced x.fmt.mode, sampling := x.fmt.sampling, colorimetry := (u.ringSpace x.fmt).1,
    transfer := (u.ringSpace x.fmt).2, arrSec := s.phcSec, arrNs := s.phcNs, pubCt := s.now, patched := patched, rtpTs := ts,
    atc := atc, anc := anc, ref := s.frameRef n ts, pid := (if x.fmt.pidPresent then some x.pid else none), rtpTs2 := none,
    content := .one ⟨.ring n x.nextId x.fmt u, 0⟩ .whole, content2 := none }

/-! ## Loss (R102) -/

/-- What is kept of a frame that has closed: which packets it held no longer matters. -/
def InProg.closed (f : InProg) : InProg := { f with got := [] }

/-- Frames in progress are abandoned: each counts as damaged (R105). `missing` says what each lacks. -/
def State.abandon (s : State) (n : Nat) (missing : List (Nat × Nat × Nat) → Nat) : State :=
  let x := s.src n
  let s := match x.sdiProg with
    | some (some k) => ((s.dropWrite n (some k)).updSrc n fun y => { y with sdiProg := none }).srcDamaged n (missing [])
    | some none => s.updSrc n fun y => { y with sdiProg := none }
    | none => s
  let s := x.ipProg.foldl (fun s f =>
    match f.slot with
    | some k => (s.dropWrite n (some k)).srcDamaged n (missing f.got)
    | none => s) s
  s.updSrc n fun y => { y with ipProg := [], ipClosed := ((y.ipProg.map InProg.closed).reverse ++ y.ipClosed).take 4 }

/-- Packets of a flow's frame that are missing (R113). -/
def Fmt.packetsMissing (f : Fmt) (packing : Nat) (got : List (Nat × Nat × Nat)) : Nat :=
  Config.flowPackets f.mode f.sampling packing - got.length

/-- The video receive flow of a source. -/
def State.videoFlow (s : State) (n : Nat) : Option Flow := s.ing.flows.find? fun f => f.kind == 1 && f.target == n

/-- Active lines of a mode received whole after `t` ticks from the start of the first one. -/
def linesWhole (code t : Nat) : Nat :=
  match modeOf code with
  | some m =>
    let k := t * m.num * m.lines / (500000000 * m.den)
    if m.first2 = 0 then min m.activeLines k
    else min (m.activeLines / 2) k + min (m.activeLines / 2) (m.first + k - m.first2)
  | none => 0

/-- The mode of the SDI frame in progress: the accepted one, or that of the first of the two frames of R84. -/
def Source.writes (x : Source) : Nat :=
  if x.state = .locked then x.fmt.mode else match x.cand with | some m => m.fmt.mode | none => x.fmt.mode

/-- What a frame of the source lacks: active lines for SDI, of those that the line time has let pass; packets for IP (R113). -/
def State.lacking (s : State) (n : Nat) (got : List (Nat × Nat × Nat)) : Nat :=
  match s.videoFlow n with
  | some f => Fmt.packetsMissing { Fmt.none with mode := f.p0, sampling := f.p1 } f.p6 got
  | none => modeH (s.src n).writes - linesWhole (s.src n).writes (s.now - (s.src n).sdiSince)

/-- A LOCKED source goes to LOST. -/
def State.srcLose (s : State) (n : Nat) : State :=
  if (s.src n).state = .locked then
    ((s.abandon n (s.lacking n)).updSrc n fun x => { x with state := .lost, cand := none }).srcRaise n 1 0x0101 []
  else s

/-- A source returns to SEARCH: what it was writing is damaged (R108). -/
def State.srcSearch (s : State) (n : Nat) : State :=
  (s.abandon n (s.lacking n)).updSrc n fun x => { x with state := .search, cand := none }

/-! ## Lanes: signal, rate search, CDR (R82, R83, R397) -/

def State.unit (s : State) (i : Nat) : PowerUnit := Tab.get PowerUnit.reset s.net.units i
def State.setUnit (s : State) (i : Nat) (v : PowerUnit) : State :=
  s.updNet fun x => { x with units := (Tab.set PowerUnit.reset x.units i v) }

/-- A subport's link is up: packets arrive on it. -/
def State.linkUp (s : State) (p q : Nat) : Bool := decide (bits (s.unit (8 + p)).link.toNat q q = 1)

/-- The unit that powers a lane: its group, or the port of a network lane (R371, R372). -/
def laneUnit (n : Nat) : Nat := if n < 128 then n / 18 else if n < 136 then 8 else 9

/-- The lane's receiver is on. -/
def State.rxOn (s : State) (n : Nat) : Bool := (s.unit (laneUnit n)).enabled && s.flag (Adr.laneCtl n) 0

/-- EV_LANE_SIGNAL. -/
def State.laneSignal (s : State) (n present : Nat) : State :=
  s.raise (Adr.laneCause n) (Adr.laneMask n) 0 (264 + n / 18) 0x0D00 [(20, 2, n), (22, 1, present)]

/-- The rates of the search in order, coded as rate_lock (R83). -/
def searchRates : List Nat := [8, 9, 6, 7, 4, 5, 2, 3, 1]

/-- The rate that a receiver tries at step `i` of its search. -/
def Source.tryRate (x : Source) (i : Nat) : Nat := if x.rateLock = 0 then searchRates.getD (i % 9) 1 else x.rateLock

/-- SIGNAL_DETECT. -/
def execSignalDetect (n : Fin 144) (s : State) : Out3 :=
  .next (
    if s.rxOn n && !s.flag (Adr.laneStat n) 0 then
      let s := (s.setBit (Adr.laneStat n) 0).laneSignal n 1
      if n.val < 128 then s.updSrc n fun x => { x with search := some (0, s.now) } else s
    else s)

/-- RATE_DWELL_EXPIRY: after 2 ms without lock the next rate is tried, the first one after the last. -/
def execRateDwellExpiry (n : Fin 128) (s : State) : Out3 :=
  .next (
    match (s.src n).search with
    | some (i, t) =>
      if t + msTicks 2 ≤ s.now then s.updSrc n fun x => { x with search := some ((i + 1) % 9, s.now) } else s
    | none => s)

/-- CDR_LOCK: the CDR locks on the rate that the receiver tries, within 1 ms of the start of the dwell. -/
def execCdrLock (n : Fin 128) (s : State) : Out3 :=
  .next (
    match (s.src n).search with
    | some (i, t) =>
      if s.now ≤ t + msTicks 2 then
        let x := s.src n
        let s := ((s.setBit (Adr.laneStat n) 1).setBit (Adr.laneStat n) 2).fset (Adr.laneStat n) 6 3 (x.tryRate i)
        s.setSrc n { x with search := none, state := (if x.state = .idle then .search else x.state) }
      else s
    | none => s)

/-- The source of a quad group. -/
def quadHead (n : Nat) : Nat := n / 4 * 4

/-- The members of an assembled group become separate sources again, and its source goes to LOST (R86). -/
def State.quadBreak (s : State) (q : Nat) : State :=
  let s := if (s.src q).state = .locked then s.srcLose q else if (s.src q).state = .lost then s else s.srcSearch q
  let s := (s.updSrc q fun x => { x with assembled := false, lane := none })
  [1, 2, 3].foldl (fun s i =>
    s.updSrc (q + i) fun x =>
      { x with lane := none, cand := none, state := (if s.flag (Adr.laneStat (q + i)) 1 then .search else .idle) }) s

/-- The lane's CDR is no longer locked: the effect on its source (R82, R86). A LOST source stays LOST, also where OP_SRC_SET has
made the receiver leave the rate (log 80). -/
def State.cdrLost (s : State) (n : Nat) : State :=
  let s := ((s.fset (Adr.laneStat n) 1 1 0).fset (Adr.laneStat n) 2 2 0).fset (Adr.laneStat n) 6 3 0
  if (s.src (quadHead n)).assembled then
    let s := s.quadBreak (quadHead n)
    if n = quadHead n then (if (s.src n).state = .search then s.updSrc n fun x => { x with state := .idle } else s) else s
  else
    let x := s.src n
    let s := match x.state with
      | .locked => s.srcLose n
      | .lost => s
      | _ => (s.abandon n (s.lacking n)).updSrc n fun x => { x with state := .idle, cand := none }
    s.updSrc n fun x => { x with lane := none }

/-- CDR_LOSS: the receiver looks for the rate again while the signal is there. -/
def execCdrLoss (n : Fin 128) (s : State) : Out3 :=
  .next (
    if s.flag (Adr.laneStat n) 1 then
      let s := s.cdrLost n
      if s.flag (Adr.laneStat n) 0 then s.updSrc n fun x => { x with search := some (0, s.now) } else s
    else s)

/-- LANE_SIGNAL_LOST. -/
def execLaneSignalLost (n : Fin 144) (s : State) : Out3 :=
  .next (
    if s.flag (Adr.laneStat n) 0 then
      let s := (s.fset (Adr.laneStat n) 0 0 0).laneSignal n 0
      if n.val < 128 then s.updSrc n fun x => { x with search := none } else s
    else s)

/-! ## SDI frames (R84 to R88) -/

/-- The format that the timing and ST 352 give together (R84). -/
def Source.combine (x : Source) (t : SdiTiming) : Fmt :=
  match t.pid with
  | some p =>
    let own := !x.pidOverride
    { mode := t.mode, sampling := (if own then p.sampling else x.defSampling),
      colorimetry := (if own then p.colorimetry else x.defColorimetry),
      transfer := (if own then p.transfer else x.defTransfer), range := (if own then p.range else x.defRange),
      rate := t.rate, interface := t.interface, pidPresent := true,
      pidMismatch := decide (p.mode ≠ t.mode) && !(p.interleave && decide (t.interface = 3)) }
  | none =>
    { mode := t.mode, sampling := x.defSampling, colorimetry := x.defColorimetry, transfer := x.defTransfer,
      range := x.defRange, rate := t.rate, interface := t.interface, pidPresent := false, pidMismatch := false }

/-- The receive format table has the format (R85). -/
def Fmt.received (f : Fmt) : Bool := sdiReceives f.mode f.interface f.sampling

/-- The mapping is one that the module receives: no segmented frame, no 3G level B dual-stream, no square division (R85; log 85). -/
def SdiTiming.mapped (t : SdiTiming) : Bool :=
  match t.pid with
  | some p => !p.psf && !(p.dualStream && decide (t.interface = 4)) && !(decide (t.interface = 3 ∧ p.link ≠ 0) && !p.interleave)
  | none => true

/-- Does a lane carry a link of a quad group (R86)? -/
def Source.quadLane (x : Source) (t : SdiTiming) : Option SdiMeas :=
  match t.pid with
  | some p =>
    if t.interface = 3 && p.interleave && decide (1 ≤ p.link ∧ p.link ≤ 4) then
      some { fmt := x.combine t, link := p.link }
    else none
  | none => none

/-- The four lanes of a group are locked and carry one identical format with link numbers 1 to 4 (R86). -/
def State.quadReady (s : State) (q : Nat) : Bool :=
  decide ((s.src q).quad ≠ 2) && ([0, 1, 2, 3].all fun i => s.flag (Adr.laneStat (q + i)) 1) &&
  match (s.src q).lane, (s.src (q + 1)).lane, (s.src (q + 2)).lane, (s.src (q + 3)).lane with
  | some a, some b, some c, some d =>
    a.fmt.same b.fmt && a.fmt.same c.fmt && a.fmt.same d.fmt &&
    [1, 2, 3, 4].all fun l => [a.link, b.link, c.link, d.link].contains l
  | _, _, _, _ => false

/-- The group assembles. -/
def State.quadAssemble (s : State) (q : Nat) : State :=
  let s := (s.srcSearch q).updSrc q fun x => { x with assembled := true }
  [1, 2, 3].foldl (fun s i => (s.srcSearch (q + i)).updSrc (q + i) fun x => { x with state := .quadMember }) s

/-- The lane's data reach ingest: CDR locked, no PRBS checker (R377). -/
def State.ingests (s : State) (n : Nat) : Bool :=
  !s.lv.tripped && s.flag (Adr.laneStat n) 1 && decide (s.fget (Adr.lanePrbs n) 7 4 = 0 ∨ s.fget (Adr.lanePrbs n) 7 4 = 8)

/-- Size the ring for a format: an existing ring that is large enough stays, a larger format needs a new one (R98).
Answers true when the ring is there. -/
def State.sizeRing (s : State) (n mode : Nat) : Bool × State :=
  let x := s.src n
  match x.ring with
  | some r =>
    if ringBytes mode ≤ r.bytes then (true, s)
    else if ringUnits mode ≤ s.hbmFree then (true, s.replaceRing n mode 0)
    else (false, s)
  | none => if ringUnits mode ≤ s.hbmFree then (true, s.replaceRing n mode 0) else (false, s)

/-- The second frame of R84 begins, or a frame of a LOCKED source: it arrives and is written or blocked. -/
def State.sdiArrive (s : State) (n : Nat) : State :=
  let s := s.srcCount n 0 1
  let (k, s) := s.beginWrite n
  s.updSrc n fun x => { x with sdiProg := some k, sdiSince := s.now }

/-- The format is larger than the fixed ring (R98). -/
def State.tooLarge (s : State) (n : Nat) (mode : Nat) : State :=
  (s.updSrc n fun x => { x with state := .tooLarge, cand := none }).srcRaise n 4 0x0104 [(22, 1, mode)]

def Source.ringShort (x : Source) (mode : Nat) : Bool := x.ringFixed && decide (ringBytes x.ringMax < ringBytes mode)

/-- A source in SEARCH with a measured format begins the second frame. -/
def State.sdiSecond (s : State) (n : Nat) (m : SdiMeas) : State :=
  if (s.src n).ringShort m.fmt.mode then s.tooLarge n m.fmt.mode
  else
    let (ok, s) := s.sizeRing n m.fmt.mode
    if ok then s.sdiArrive n
    else (s.updSrc n fun x => { x with state := .noSpace }).srcRaise n 5 0x0105 [(24, 4, ringUnits m.fmt.mode)]

/-- The first active line of a frame. -/
def State.sdiStart (s : State) (n : Nat) : State :=
  let x := s.src n
  match x.state with
  | .locked => if x.sdiProg = none then s.sdiArrive n else s
  | .search =>
    match x.cand with
    | some m => if x.sdiProg = none then s.sdiSecond n m else s
    | none => s
  | .lost => s.updSrc n fun x => { x with state := .search, cand := none }
  | .noSpace =>
    match x.cand with
    | some m =>
      if x.ringShort m.fmt.mode then s.tooLarge n m.fmt.mode
      else
        let (ok, s) := s.sizeRing n m.fmt.mode
        if ok then (s.acceptFmt n m.fmt).sdiArrive n else s
    | none => s
  | _ => s

/-- What every whole or damaged frame tells, whatever the state: CRC lines, ancillary data, ST 352 (R87, R88). -/
def State.sdiCounts (s : State) (n : Nat) (e : SdiEnd) : State :=
  let s := s.count (Adr.srcErr n) 15 0 e.crcLines
  match e.timing.pid with
  | some p => s.updSrc n fun x => { x with pid := p.word }
  | none => s

/-- The ancillary packets that fit the 16 KiB of metadata, and how many do not (R87). -/
def keepAnc (l : List Anc) : List Anc × Nat :=
  let r := l.foldl (fun (m : Nat × List Anc × Nat) a =>
    if m.1 + a.size ≤ 16384 then (m.1 + a.size, m.2.1 ++ [a], m.2.2) else (m.1, m.2.1, m.2.2 + 1)) (0, [], 0)
  (r.2.1, r.2.2)

/-- Publish the SDI frame in progress. -/
def State.sdiPublish (s : State) (n k : Nat) (e : SdiEnd) : State :=
  let a := keepAnc e.anc
  let s := s.count (Adr.srcErr n) 31 16 a.2
  s.publish n k (s.frameNow n (s.colIn n) false 0 a.1 e.atc)

/-- The ST 352 flags of FMT follow each frame; a new mismatch raises its event (R84). -/
def State.sdiFlags (s : State) (n : Nat) (f : Fmt) : State :=
  let was := (s.src n).fmt.pidMismatch
  let s := s.updSrc n fun x => { x with fmt := { x.fmt with pidPresent := f.pidPresent, pidMismatch := f.pidMismatch } }
  if f.pidMismatch && !was then s.pidEvent n else s

/-- The first of two frames: it is measured only. Byte 22 of EV_SRC_UNSUPPORTED holds the low 8 bits of the total lines ÷ 4 (log 84). -/
def State.sdiMeasure (s : State) (n : Nat) (e : SdiEnd) (m : SdiMeas) : State :=
  if e.missing ≠ 0 then s.updSrc n fun x => { x with cand := none }
  else if m.fmt.received && e.timing.mapped then s.updSrc n fun x => { x with state := .search, cand := some m }
  else
    let was := (s.src n).state
    let s := s.updSrc n fun x => { x with state := .unsupported, cand := none }
    if was = .unsupported then s
    else s.srcRaise n 10 0x010A [(22, 1, e.timing.totalLines / 4), (23, 1, e.timing.interface)]

/-- The end of a frame in SEARCH, LOCKED, UNSUPPORTED or TOO_LARGE. -/
def State.sdiFinish (s : State) (n : Nat) (e : SdiEnd) : State :=
  let x := s.src n
  let m : SdiMeas := { fmt := x.combine e.timing, link := 0 }
  let done := fun (s : State) => s.updSrc n fun y => { y with sdiProg := none }
  match x.state with
  | .search =>
    if x.quad = 1 ∧ x.assembled = false then s
    else
      match x.sdiProg, x.cand with
      | none, _ => s.sdiMeasure n e m
      | some slot, some c =>
        if e.missing = 0 ∧ c.fmt.same m.fmt = true ∧ e.timing.mapped = true then
          let s := done (s.acceptFmt n m.fmt)
          match slot with
          | some k => s.sdiPublish n k e
          | none => s
        else
          let s := match slot with
            | some k => (s.dropWrite n (some k)).srcDamaged n e.missing
            | none => s
          (done s).sdiMeasure n e m
      | some slot, none => (done (s.dropWrite n slot)).sdiMeasure n e m
  | .locked =>
    match x.sdiProg with
    | none => s
    | some slot =>
      let same := x.fmt.same m.fmt && e.timing.mapped
      if e.missing = 0 ∧ same = true then
        let s := (done s).sdiFlags n m.fmt
        match slot with
        | some k => s.sdiPublish n k e
        | none => s
      else
        let s := match slot with
          | some k => (s.dropWrite n (some k)).srcDamaged n e.missing
          | none => s
        let s := done s
        if same then s else s.updSrc n fun y => { y with state := .search, cand := none }
  | .unsupported => s.sdiMeasure n e m
  | .tooLarge =>
    if x.ringShort m.fmt.mode && m.fmt.received && e.timing.mapped then s
    else s.sdiMeasure n e m
  | _ => s

/-- SDI_FRAME on a lane. On a member of an assembled group it only checks the group's conditions; on the group's
first lane it stands for the group's frame. -/
def execSdiFrame (n : Fin 128) (p : SdiPart) (s : State) : Out3 :=
  let q := quadHead n
  .next (
    if s.ingests n then
      let s := s.cross ⟨.ingest (n.castLE (by decide)), 0⟩
      match p with
      | .start => if (s.src q).assembled && decide (n.val ≠ q) then s else (s.colourBegin n).sdiStart n
      | .finish e =>
        let s := s.sdiCounts n e
        if (s.src q).assembled then
          if n.val = q then
            if e.timing.interface ≠ 7 ∨ 200 < e.skewUs then s.quadBreak q else s.sdiFinish q e
          else
            let m := (s.src n).quadLane e.timing
            let s := s.updSrc n fun x => { x with lane := m }
            if s.quadReady q then s else s.quadBreak q
        else
          let m := (s.src n).quadLane e.timing
          let s := s.updSrc n fun x => { x with lane := m }
          if s.quadReady q && decide (e.skewUs ≤ 200) then s.quadAssemble q else s.sdiFinish n e
    else s)

/-- TRS_LOSS: no valid TRS for 16 line periods. A LOCKED source is lost; a frame that a source in SEARCH writes is damaged (R88). -/
def execTrsLoss (n : Fin 128) (s : State) : Out3 :=
  .next (
    if (s.src (quadHead n)).assembled then s.quadBreak (quadHead n)
    else
      let s := match (s.src n).state with
        | .locked => s.srcLose n
        | .search => s.srcSearch n
        | _ => s
      s.updSrc n fun x => { x with lane := none })

/-- PUBLISH_TIMEOUT: no frame published for 3 frame periods of the accepted format. -/
def execPublishTimeout (n : Fin 256) (s : State) : Out3 :=
  let x := s.src n
  .next (if x.lastPub + 3 * periodTicks (modeRate x.fmt.mode) ≤ s.now then s.srcLose n else s)

/-! ## IP video (R92, R94, R95) -/

/-- Does a leg accept the packet (R92)? A frame with VID 0 matches an untagged leg (R381). -/
def Leg.accepts (l : Leg) (pt : Nat) (p : IpPacket) : Bool :=
  l.port == p.port && l.sub == p.sub && l.group == p.dst && l.udp == p.udp &&
  (if l.tagged then p.tagged && l.vid == p.vid else !p.tagged || p.vid == 0) &&
  (pt == 0xFF || pt == p.pt) && (l.src == 0 || l.src == p.src)

/-- The format of a video flow. -/
def Flow.fmt (f : Flow) : Fmt :=
  { mode := f.p0, sampling := f.p1, colorimetry := f.p2, transfer := f.p3, range := f.p4, rate := 0, interface := 8,
    pidPresent := false, pidMismatch := false }

/-- The packet lies in the flow's raster. -/
def Flow.inRaster (f : Flow) (p : IpPacket) : Bool :=
  decide (p.line < modeH f.p0 ∧ p.npix ≠ 0 ∧ p.off + p.npix ≤ modeW f.p0)

/-- Pixels written. -/
def InProg.pixels (f : InProg) : Nat := (f.got.map fun g => g.2.2).sum

/-- Part of the packet's place is written already: a later copy. -/
def InProg.covers (f : InProg) (p : IpPacket) : Bool :=
  f.got.any fun g => g.1 == p.line && decide (g.2.1 < p.off + p.npix ∧ p.off < g.2.1 + g.2.2)

/-- An RTP timestamp lies after another one. -/
def tsAfter (a b : Nat) : Bool := decide (0 < (a + 4294967296 - b) % 4294967296 ∧ (a + 4294967296 - b) % 4294967296 < 2147483648)

/-- The timestamp by which a frame is ordered. -/
def InProg.key (f : InProg) : Nat := match f.ts1 with | some t => t | none => f.ts2.getD 0

/-- One field's timestamp `u` lies within a frame period at or after the other's `t`. -/
def tsWithin (t u per : Nat) : Bool := decide ((u + 4294967296 - t) % 4294967296 < per)

/-- A packet belongs to the frame: its field's timestamp, or one within a frame period of the other field's (log 86). -/
def InProg.isOf (f : InProg) (mode ts : Nat) (second : Bool) : Bool :=
  let per := ceilDiv (90000 * (modeRate mode).2) (modeRate mode).1
  if modeInterlaced mode && second then
    match f.ts2, f.ts1 with
    | some u, _ => u == ts
    | none, some t => tsWithin t ts per
    | none, none => false
  else
    match f.ts1, f.ts2 with
    | some t, _ => t == ts
    | none, some u => tsWithin ts u per
    | none, none => false

/-- The frame with its field's timestamp noted. -/
def InProg.note (f : InProg) (mode ts : Nat) (second : Bool) : InProg :=
  if modeInterlaced mode && second then { f with ts2 := some ts } else { f with ts1 := some ts }

/-- The ancillary packets that belong to a frame. -/
def InProg.ancs (f : InProg) (wait : List (Nat × Anc)) : List (Nat × Anc) :=
  wait.filter fun a => f.ts1 == some a.1 || f.ts2 == some a.1

/-- Close the frame in progress with a number (R94). -/
def State.closeFrame (s : State) (n : Nat) (fl : Flow) (num : Nat) : State :=
  match (s.src n).ipProg.find? fun f => f.num == num with
  | none => s
  | some f =>
    let anc := (f.ancs (s.src n).ancWait).map (·.2)
    let s := s.updSrc n fun x =>
      { x with ipProg := x.ipProg.filter fun g => g.num ≠ num, ipClosed := ({ f with got := [] } :: x.ipClosed).take 4,
               ancWait := x.ancWait.filter fun a => tsAfter a.1 f.key && !(f.ts2 == some a.1) }
    let frame := fun (s : State) (patched : Bool) => { s.frameNow n f.unit patched f.key anc none with rtpTs2 := f.ts2 }
    match f.slot with
    | none => s
    | some k =>
      if f.pixels = modePx fl.p0 then
        let s := if (s.src n).state = .locked then s else s.acceptFmt n fl.fmt
        s.publish n k (frame s false)
      else
        let missing := Fmt.packetsMissing fl.fmt fl.p6 f.got
        if (s.src n).damagePub && decide ((s.src n).state = .locked) then
          let s := s.publish n k (frame s true)
          (s.srcCount n 6 1).srcRaise n 7 0x0107 [(24, 4, missing)]
        else (s.dropWrite n (some k)).srcDamaged n missing

/-- A plain flow's frame closes once a later frame has begun; a seamless one's once two have (R94). -/
def Flow.overtaken (fl : Flow) (f : InProg) : Bool := decide ((if fl.b.isNone then 1 else 2) ≤ f.newer)

/-- Close the frames in progress that later frames have overtaken, oldest first. -/
def State.closeOvertaken (s : State) (n : Nat) (fl : Flow) : State :=
  ((s.src n).ipProg.filter fl.overtaken).foldl (fun s f => s.closeFrame n fl f.num) s

/-- The merge window of a seamless frame begins, at the first leg's marker or the first packet of the next frame. -/
def InProg.opened (f : InProg) (fl : Flow) (now : Nat) : InProg :=
  if fl.b.isNone then f
  else { f with closeAt := (match f.closeAt with | none => some (now + msTicks fl.mergeMs) | some t => some t) }

/-- The first packet of a new frame: earlier frames close or get their merge window, and the frame arrives; frames after it may
have begun before it. -/
def State.ipNewFrame (s : State) (n : Nat) (fl : Flow) (ts : Nat) (second : Bool) : State :=
  let later := ((s.src n).ipProg ++ (s.src n).ipClosed).filter fun f => tsAfter f.key ts
  let s := s.updSrc n fun x =>
    { x with ipProg := x.ipProg.map fun f => if tsAfter ts f.key then { f with newer := f.newer + 1 }.opened fl s.now else f }
  let s := s.closeOvertaken n fl
  let s := (s.colourBegin n).srcCount n 0 1
  let (k, s) := s.beginWrite n
  s.updSrc n fun x =>
    let f : InProg := { num := x.ipNum, ts1 := none, ts2 := none, since := s.now, newer := later.length, slot := k,
                        unit := s.colIn n, got := [], closeAt := none }
    let f := (f.note fl.p0 ts second)
    { x with ipNum := x.ipNum + 1, ipProg := x.ipProg ++ [if later.isEmpty then f else f.opened fl s.now] }

/-- Write a packet into its frame; the last missing one closes it. -/
def State.ipWrite (s : State) (n : Nat) (fl : Flow) (p : IpPacket) : State :=
  match (s.src n).ipProg.find? fun f => f.isOf fl.p0 p.ts p.second with
  | none => s
  | some f =>
    let s := s.updSrc n fun x => { x with ipProg := x.ipProg.map fun g => if g.num = f.num then g.note fl.p0 p.ts p.second else g }
    if f.covers p then s
    else
      let s := s.updSrc n fun x =>
        { x with ipProg := x.ipProg.map fun g =>
            if g.num = f.num then { g with got := g.got ++ [(p.line, p.off, p.npix)] } else g }
      if f.pixels + p.npix = modePx fl.p0 then s.closeFrame n fl f.num else s

/-- The skew of two markers of one frame, leg B less leg A (R95). -/
def State.ipSkew (s : State) (n : Nat) (fl : Flow) (legB : Bool) (t : Nat) : State :=
  let d : Int := if legB then ((s.now : Int) - t) / 500 else ((t : Int) - s.now) / 500
  let s := s.updSrc n fun x => { x with skewUs := d }
  if d.natAbs ≤ 1000 * fl.mergeMs then s
  else
    let due := match (s.src n).skewOver with | none => true | some t => decide (t + msTicks 1000 ≤ s.now)
    let s := s.updSrc n fun x => { x with skewOver := some s.now }
    if due then s.srcRaise n 9 0x0109 [(24, 4, toTwos 32 d)] else s

/-- The marker of a frame, or of its second field, on one leg: it closes a plain flow's frame and opens the merge window of a
seamless one (R94). Every marker of a seamless flow is measured against the other leg's (R95); the last 1.1 s are kept. -/
def State.ipMarker (s : State) (n : Nat) (fl : Flow) (legB : Bool) (p : IpPacket) : State :=
  let last := p.second || !modeInterlaced fl.p0
  let hit := fun (f : InProg) => last && f.isOf fl.p0 p.ts p.second
  if fl.b.isNone then
    match (s.src n).ipProg.find? hit with
    | some f => s.closeFrame n fl f.num
    | none => s
  else
    let s := s.updSrc n fun x => { x with ipProg := x.ipProg.map fun f => if hit f then f.opened fl s.now else f }
    let other := (s.src n).marks.find? fun m => m.1 == p.ts && m.2.1 == !legB
    let s := s.updSrc n fun x =>
      { x with marks := (p.ts, legB, s.now) :: x.marks.filter fun m => decide (s.now < m.2.2 + msTicks 1100) }
    match other with
    | none => s
    | some (_, _, t) => s.ipSkew n fl legB t

/-- The packet's frame is in progress, has closed, or lies before every frame that is remembered. -/
def Source.ipKnown (x : Source) (mode ts : Nat) (second : Bool) : Bool :=
  ((x.ipProg ++ x.ipClosed).any fun f => f.isOf mode ts second) ||
  (decide (x.ipClosed.length = 4) && x.ipClosed.all fun f => tsAfter f.key ts)

/-- A packet that a leg of a flow has accepted. One outside the flow's raster has no effect. -/
def State.ipAccept (s : State) (fl : Flow) (legB : Bool) (p : IpPacket) : State :=
  let n := fl.target
  if fl.inRaster p then
    let s := s.cross ⟨.ingest (Fin.ofNat 256 n), 0⟩
    let s := s.updSrc n fun x =>
      if legB then { x with legB := true, lastB := s.now, lostB := false } else { x with legA := true, lastA := s.now, lostA := false }
    let s := if legB then s.count (Adr.srcLeg n) 31 16 p.lost else s.count (Adr.srcLeg n) 15 0 p.lost
    let s := if (s.src n).ipKnown fl.p0 p.ts p.second then s else s.ipNewFrame n fl p.ts p.second
    let s := (s.ipWrite n fl p).closeOvertaken n fl
    if p.marker then s.ipMarker n fl legB p else s
  else s

/-- IP_VIDEO_PACKET: every video flow with a leg that accepts the packet gets it; leg A before leg B. -/
def execIpVideoPacket (p : IpPacket) (s : State) : Out3 :=
  .next ((s.ing.flows.filter fun f => f.kind == 1 && s.linkUp p.port p.sub && !s.lv.tripped).foldl (fun s f =>
    let s := if f.a.accepts f.pt p then s.ipAccept f false p else s
    match f.b with
    | some l => if l.accepts f.pt p then s.ipAccept f true p else s
    | none => s) s)

/-- MERGE_WINDOW_EXPIRY. -/
def execMergeWindowExpiry (n : Fin 256) (s : State) : Out3 :=
  .next (
    match s.videoFlow n with
    | some fl =>
      ((s.src n).ipProg.filter fun f => match f.closeAt with | some t => decide (t ≤ s.now) | none => false).foldl
        (fun s f => s.closeFrame n fl f.num) s
    | none => s)

/-- IP_FLOW_TIMEOUT: no packet on any leg for 2 frame periods. -/
def execIpFlowTimeout (n : Fin 256) (s : State) : Out3 :=
  let x := s.src n
  .next (
    match s.videoFlow n with
    | some fl => if max x.lastA x.lastB + 2 * periodTicks (modeRate fl.p0) ≤ s.now then s.srcLose n else s
    | none => s)

/-- LEG_LOST: no packet on a leg of the flow for 100 ms, once until it delivers again (R95). -/
def execLegLost (n : Fin 256) (legB : Bool) (s : State) : Out3 :=
  let x := s.src n
  .next (
    match s.videoFlow n with
    | none => s
    | some fl =>
      if legB then
        if fl.b.isSome && !x.lostB && decide (x.lastB + msTicks 100 ≤ s.now) then
          (s.setSrc n { x with legB := false, lostB := true }).srcRaise n 8 0x0108 [(22, 1, 1)]
        else s
      else if !x.lostA && decide (x.lastA + msTicks 100 ≤ s.now) then
        (s.setSrc n { x with legA := false, lostA := true }).srcRaise n 8 0x0108 [(22, 1, 0)]
      else s)

/-- Bytes that ancillary packets take. -/
def ancSize (l : List Anc) : Nat := (l.map (·.size)).sum

/-- The slot with the published frame that an RTP timestamp names. -/
def Ring.slotOf (r : Ring) (ts : Nat) : Option (Nat × Frame) :=
  (r.slots.zipIdx.filterMap fun p => p.1.frame.map fun f => (p.2, f)).find? fun e => e.2.rtpTs == ts || e.2.rtpTs2 == some ts

/-- An ancillary packet joins its frame: a published one, or one that has not closed; a copy from the other leg is discarded, and
what exceeds 16 KiB is counted (R87, R89). -/
def State.ancJoin (s : State) (n ts : Nat) (a : Anc) : State :=
  match (s.src n).ring with
  | none => s
  | some r =>
    match r.slotOf ts with
    | some (k, f) =>
      if f.anc.contains a then s
      else if ancSize f.anc + a.size ≤ 16384 then
        s.updRing n r.id fun r => r.updSlot k fun x => { x with frame := x.frame.map fun g => { g with anc := g.anc ++ [a] } }
      else s.count (Adr.srcErr n) 31 16 1
    | none =>
      let w := (s.src n).ancWait
      if w.contains (ts, a) then s
      else if ancSize ((w.filter fun e => e.1 == ts).map (·.2)) + a.size ≤ 16384 then s.updSrc n fun x => { x with ancWait := x.ancWait ++ [(ts, a)] }
      else s.count (Adr.srcErr n) 31 16 1

/-- ANCILLARY_PACKET: a packet of a kind 4 flow joins the frame of its video source with its RTP timestamp. -/
def execAncillaryPacket (p : IpPacket) (a : Anc) (s : State) : Out3 :=
  .next ((s.ing.flows.filter fun f => f.kind == 4 && s.linkUp p.port p.sub && !s.lv.tripped).foldl (fun s f =>
    if f.a.accepts f.pt p || (match f.b with | some l => l.accepts f.pt p | none => false) then s.ancJoin f.target p.ts a else s) s)

/-! ## Freeing rings (R93, R98) -/

/-- A layer names the source. -/
def LayerCfg.names (l : LayerCfg) (n : Nat) : Bool := l.enable && l.kind == 1 && decide (l.src.toNat = n)

/-- A configuration names the source. -/
def HeadCfg.names (c : HeadCfg) (n : Nat) : Bool := c.layers.any fun l => l.names n

/-- An instar that has not retired, or a queued commit, names the source (R93). -/
def State.instarNames (s : State) (n : Nat) : Bool :=
  s.headList.any fun h =>
    (decide (h.run ≠ .stopped) && h.applied.names n) ||
    (h.queue.any fun c => c.cfg.names n) ||
    (match h.trans with | some t => t.old.names n | none => false)

/-- SOURCE_RING_FREE: rings of the source that wait and that nothing holds any more. -/
def execSourceRingFree (n : Fin 256) (s : State) : Out3 :=
  let gone := s.ing.old.filter fun o =>
    o.src == n.val && decide (o.ring.pinned = 0) && !(o.byFlow && s.instarNames n)
  .next (gone.foldl (fun s o =>
    let s := s.srcCount n 2 o.ring.untaken
    let s := s.updIng fun g => { g with old := (g.old.filter fun p => p.ring.id ≠ o.ring.id) }
    s.leaveRet 0 o.ring.tokens) s)

end Sys2Proof.Machine
end

