-- ==== Sys2Proof/Machine/Surfaces.lean ====
section
/-!
DEFINITION. Machine/Surfaces.lean: surfaces, their uploads and their references (R158 to R166).
-/
namespace Sys2Proof.Machine

/-! ## Formats (R158) -/

/-- Twice the bytes per pixel of a surface format; 0 for a code that is no format. -/
def fmtBytes2 (f : Nat) : Nat :=
  if f = 1 ∨ f = 2 ∨ f = 3 then 4 else if f = 4 then 6 else if f = 5 ∨ f = 6 then 8
  else if f = 0x10 then 9 else if f = 0x11 then 12 else 0

def isFmt (f : Nat) : Bool := decide (fmtBytes2 f ≠ 0)

/-- VID36 and VID48A hold the internal format and need an even width. -/
def isVid (f : Nat) : Bool := f == 0x10 || f == 0x11

/-- Formats that carry alpha: their pixels take 48 bits in a line buffer (R189). -/
def fmtAlpha (f : Nat) : Bool := [2, 3, 5, 6, 0x11].contains f

/-- Bytes of a row of `w` pixels. -/
def rowBytes (f w : Nat) : Nat := ceilDiv (fmtBytes2 f * w) 2

/-! ## The list of surfaces -/

def State.surf (s : State) (h : BitVec 32) : Option Surf := s.srf.list.find? fun f => f.handle == h

def State.updSurf (s : State) (h : BitVec 32) (f : Surf → Surf) : State :=
  s.updSrf fun x => { x with list := (x.list.map fun y => if y.handle = h then f y else y) }

/-- A surface that a new commit or upload may name: it exists and is not FREEING. -/
def State.surfOk (s : State) (h : BitVec 32) : Bool :=
  match s.surf h with
  | some f => decide (f.state ≠ .freeing)
  | none => false

def State.surfReady (s : State) (h : BitVec 32) : Bool :=
  match s.surf h with
  | some f => decide (f.state = .ready)
  | none => false

/-- The owner tag of a surface, 0 where there is none. -/
def State.surfOwner (s : State) (h : BitVec 32) : Nat := match s.surf h with | some f => f.owner | none => 0

/-- A freed surface's capacity returns to the pool, and its OP_SURF_FREE completes (R163). -/
def State.surfGone (s : State) (h : BitVec 32) : State :=
  match s.surf h with
  | some f =>
    let s := (s.updSrf fun x => { x with list := (x.list.filter fun y => y.handle ≠ h) }).ledAdd 3 0 1 1
    match f.free with
    | some (r, st) => s.completeAt r st csOk 0
    | none => s
  | none => s

/-- A FREEING surface without references and without an upload goes; so does a copy in the dike store (R292). -/
def State.surfSettle (s : State) (h : BitVec 32) : State :=
  match s.surf h with
  | some f => if (f.state = .freeing ∨ f.owner = moduleTag) ∧ f.refs = 0 ∧ f.upload = none then s.surfGone h else s
  | none => s

/-- Take a reference to each handle of a list (R162). -/
def State.takeRefs (s : State) (l : List (BitVec 32)) : State :=
  l.foldl (fun s h => (s.updSurf h fun f => { f with refs := f.refs + 1 }).ledAdd 3 0 4 1) s

/-- Drop a reference to each handle of a list. -/
def State.dropRefs (s : State) (l : List (BitVec 32)) : State :=
  l.foldl (fun s h => ((s.updSurf h fun f => { f with refs := f.refs - 1 }).ledAdd 3 0 5 1).surfSettle h) s

/-! ## OP_SURF_ALLOC (R160) -/

/-- The row pitch asked for, or the smallest one. -/
def allocPitch (d : List Byte) : Nat :=
  if u32 d 20 = 0 then 64 * ceilDiv (rowBytes (u8 d 8) (u16 d 16)) 64 else u32 d 20

/-- Its fields are out of range. -/
def allocBad (d : List Byte) : Bool :=
  let f := u8 d 8
  let w := u16 d 16
  let h := u16 d 18
  let p := allocPitch d
  !isFmt f || !decide (1 ≤ w ∧ w ≤ 8192) || !decide (1 ≤ h ∧ h ≤ 8192) || (isVid f && decide (w % 2 = 1)) ||
  decide (p % 64 ≠ 0) || decide (p < rowBytes f w) ||
  (if isVid f then decide (u8 d 10 ≠ 0 ∨ u8 d 11 ≠ 0 ∨ u8 d 12 ≠ 0)
   else decide (1 < u8 d 10 ∨ 2 < u8 d 11 ∨ 1 < u8 d 12)) ||
  decide (268435456 < p * h)

/-- The lowest-numbered free pool index. -/
def State.surfIndex (s : State) : Nat :=
  ((List.range 16384).find? fun i => s.srf.list.all fun f => decide (f.handle.toNat % 65536 ≠ i)).getD 0

/-- The generation after the last one issued at an index: from 65,535 on to 1, never 0. -/
def nextGen (g : Nat) : Nat := if g < 65535 then g + 1 else 1

/-! ## The bytes of a surface -/

/-- The HBM address of a surface's first byte. -/
def Surf.base (f : Surf) : Nat := Config.surfBase f.handle.toNat

/-- An HBM address lies in a surface. -/
def Surf.holds (f : Surf) (x : Nat) : Bool := decide (f.base ≤ x ∧ x < f.base + f.units * 4096)

/-- The surfaces that hold dike content: the module owns them (R286). -/
def State.dikeStores (s : State) : List Surf := s.srf.list.filter fun f => f.owner == moduleTag

/-- The pixel, as a little-endian number, that the ARGB8888 value `v` fills a surface with: a narrower component takes the top
bits of its byte (log 79); VID formats take black, alpha 0. -/
def fillPixel (format v : Nat) : Nat :=
  let b := bits v 7 0
  let g := bits v 15 8
  let r := bits v 23 16
  let a := bits v 31 24
  match format with
  | 1 => b / 8 + 32 * (g / 4) + 2048 * (r / 8)
  | 2 => b / 8 + 32 * (g / 8) + 1024 * (r / 8) + 32768 * (a / 128)
  | 3 => b / 16 + 16 * (g / 16) + 256 * (r / 16) + 4096 * (a / 16)
  | 4 => v % 16777216
  | 5 => v
  | 6 => v
  | _ => 0

/-- The byte at an offset of a filled surface, none between its rows (R160). -/
def Surf.fillByte (f : Surf) (off : Nat) : Option Byte :=
  let o := off % f.pitch
  if f.filled && decide (off / f.pitch < f.height ∧ o < rowBytes f.format f.width) then
    some (if isVid f.format then 0
      else let k := fmtBytes2 f.format / 2
        BitVec.ofNat 8 (fillPixel f.format f.fill.toNat / 256 ^ (o % k)))
  else none

/-- What is known of a byte of memory: what was written there last, or the fill of the surface that holds it. -/
def knownByte (hbm : Tab (Option Byte)) (surfs : List Surf) (x : Nat) : Option Byte :=
  match Tab.get (fun _ => none) hbm x with
  | some b => some b
  | none => match surfs.find? fun f => f.holds x with
    | some f => f.fillByte (x - f.base)
    | none => none

/-- What the model knows of an HBM byte. -/
def State.hbmKnown (s : State) (x : Nat) : Option Byte := knownByte s.hbm s.srf.list x

/-- An HBM byte as the module reads it. -/
def State.hbmByte (s : State) (x : Nat) : Byte := (s.hbmKnown x).getD (Config.hbmOpen x)

/-- `n` bytes of HBM, and the number that they hold, little-endian. -/
def State.hbmBytes (s : State) (x n : Nat) : List Byte := (List.range n).map fun i => s.hbmByte (x + i)
def State.hbmWord (s : State) (x n : Nat) : Nat := leNat (s.hbmBytes x n)

/-- Write bytes from an HBM address on. -/
def State.hbmPut (s : State) (x : Nat) (bs : List Byte) : State :=
  { s with hbm := bs.zipIdx.foldl (fun m p => Tab.set (fun _ => none) m (x + p.2) (some p.1)) s.hbm }

/-- The storage from `b` to `e` holds nothing that the model knows from a write. -/
def State.hbmClear (s : State) (b e : Nat) : State := { s with hbm := s.hbm.filter fun c => !decide (b ≤ c.1 ∧ c.1 < e) }

/-- One granule that the patrol scrub or a read in use corrects or finds uncorrectable (R28); it is left as it is in the latter case. -/
def State.hbmFound (s : State) (e : HbmErr) : State :=
  let det := [(20, 1, e.owner.val), (22, 2, e.index.toNat), (24, 8, e.addr.toNat)]
  if e.corrected then (s.count Adr.hbmEcc 15 0 1).occur 309 0x1400 det
  else
    let s := (s.count Adr.hbmEcc 31 16 1).wr Adr.hbmUeLo (e.addr.toNat % 4294967296)
    (s.fset Adr.hbmUeHi 3 0 (e.addr.toNat / 4294967296)).occur 309 0x1401 det

/-- Errors that reads in use have met: HBM granules are delivered as read or corrected in flight (R28). -/
def State.granulesMet (s : State) (ecc : List HbmErr) : State := ecc.foldl (fun s e => s.hbmFound e) s

/-- Copy what is known of `n` bytes. -/
def State.hbmCopy (s : State) (src dst n : Nat) : State :=
  let cells := s.hbm.filter fun c => decide (src ≤ c.1 ∧ c.1 < src + n)
  let s := s.hbmClear dst (dst + n)
  { s with hbm := cells.foldl (fun m c => Tab.set (fun _ => none) m (dst + (c.1 - src)) c.2) s.hbm }

/-- The address of a pixel's row bytes. -/
def Surf.addr (f : Surf) (x y : Nat) : Nat := f.base + y * f.pitch + rowBytes f.format x

/-- The bytes of a surface's pixel rows, without the padding between them (R288). -/
def State.surfRows (s : State) (f : Surf) : List Byte :=
  (List.range f.height).flatMap fun y => s.hbmBytes (f.addr 0 y) (rowBytes f.format f.width)

/-- Allocate a surface for a descriptor that has passed its checks. -/
def State.surfAlloc (s : State) (owner : Nat) (d : List Byte) : BitVec 32 × State :=
  let i := s.surfIndex
  let g := nextGen (Tab.get (fun _ => 0) s.srf.gens i)
  let h := BitVec.ofNat 32 (i + 65536 * g)
  let p := allocPitch d
  let filled := ubit d 9 0
  let f : Surf := { handle := h, owner := owner, format := u8 d 8, width := u16 d 16, height := u16 d 18, pitch := p,
                    units := ceilDiv (p * u16 d 18) 4096, colorimetry := u8 d 10, transfer := u8 d 11, range := u8 d 12,
                    fill := BitVec.ofNat 32 (if isVid (u8 d 8) then 0 else u32 d 24), filled := filled,
                    state := (if filled then .ready else .empty), refs := 0, upload := none, free := none }
  (h, (((if filled then s.hbmClear f.base (f.base + f.units * 4096) else s).updSrf fun x =>
    { x with list := x.list ++ [f], gens := (Tab.set (fun _ => 0) x.gens i g) })).ledAdd 3 0 0 1)

/-- OP_SURF_ALLOC. -/
def execOpSurfAlloc (n : Fin 64) (s : State) : Out3 :=
  .next (s.runOp n 0x20 (fun _ => true) fun j s =>
    let units := ceilDiv (allocPitch j.d * u16 j.d 18) 4096
    match firstFail [(allocBad j.d, csBadParam), (decide (16384 ≤ s.srf.list.length), csNoResource),
                     (decide (s.hbmFree < units), csNoSpace)] with
    | some c => s.complete j c 0
    | none =>
      let (h, s) := s.surfAlloc j.owner j.d
      s.complete j csOk (BitVec.ofNat 64 (h.toNat + 4294967296 * units)))

/-! ## OP_SURF_UPLOAD (R161) -/

/-- The region lies outside the surface, breaks the even columns of a VID format, or is wider than a host row. -/
def Surf.regionBad (f : Surf) (d : List Byte) : Bool :=
  decide (f.width < u16 d 28 + u16 d 32 ∨ f.height < u16 d 30 + u16 d 34) ||
  (isVid f.format && decide (u16 d 28 % 2 = 1 ∨ u16 d 32 % 2 = 1)) ||
  decide (u32 d 24 < rowBytes f.format (u16 d 32))

/-- OP_SURF_UPLOAD. -/
def execOpSurfUpload (n : Fin 64) (s : State) : Out3 :=
  .next (s.runOp n 0x21 (fun _ => true) fun j s =>
    let h := BitVec.ofNat 32 (u32 j.d 8)
    let rate := u8 j.d 12
    if u16 j.d 32 = 0 ∨ u16 j.d 34 = 0 ∨ rate = 0 ∨ 24 < rate then s.complete j csBadParam 0
    else
      match s.surf h with
      | none => s.complete j csNotFound 0
      | some f =>
        match firstFail [(decide (f.state = .freeing), csNotFound), (!j.mayUse f.owner, s.ownerCode f.owner),
                         (f.regionBad j.d, csBadParam),
                         (decide (f.refs ≠ 0 ∨ f.state = .uploading), csState)] with
        | some c => s.complete j c 0
        | none =>
          let (ok, s) := s.leaveAsk j.owner 2 rate
          if ok then s.updSurf h fun f => { f with
            state := .uploading, owner := j.owner,
            upload := some ⟨j.ring, j.stamp, rate, 2, u16 j.d 28, u16 j.d 30, u16 j.d 32, u16 j.d 34⟩ }
          else s.complete j csNoLeave 0)

/-- The rows of the region that an upload has brought into HBM: the rest of the region is undefined (R161). -/
def State.uploadRows (s : State) (f : Surf) (u : Upload) (rows : List (List Byte)) : State :=
  let n := rowBytes f.format u.w
  let s := (List.range u.h).foldl (fun s i => s.hbmClear (f.addr u.x (u.y + i)) (f.addr u.x (u.y + i) + n)) s
  (rows.take u.h).zipIdx.foldl (fun s p => s.hbmPut (f.addr u.x (u.y + p.2)) (p.1.take n)) s

/-- Every byte of the region has come. -/
def Upload.whole (u : Upload) (format : Nat) (rows : List (List Byte)) : Bool :=
  decide (u.h ≤ rows.length) && (rows.take u.h).all fun r => decide (rowBytes format u.w ≤ r.length)

/-- SURF_UPLOAD_END: the last byte is in HBM, or the reads in flight after a failed one have returned; `rows` are the bytes that
the host gave for the rows of the region, cut short where a read failed. -/
def execSurfUploadEnd (h : BitVec 32) (rows : List (List Byte)) (s : State) : Out3 :=
  .next (
    match s.surf h with
    | none => s
    | some f =>
      match f.upload with
      | none => s
      | some u =>
        let ok := u.whole f.format rows
        let s := (s.uploadRows f u rows).updSurf h fun f =>
          { f with upload := none,
                   state := (if f.state = .freeing then .freeing else if ok then .ready else .failed) }
        let s := (s.leaveRet u.power u.fetch).completeAt u.ring u.stamp (if ok then csOk else csDmaErr) 0
        s.surfSettle h)

/-! ## OP_SURF_FREE (R163) -/

/-- OP_SURF_FREE. -/
def execOpSurfFree (n : Fin 64) (s : State) : Out3 :=
  .next (s.runOp n 0x22 (fun _ => true) fun j s =>
    let h := BitVec.ofNat 32 (u32 j.d 8)
    match s.surf h with
    | none => s.complete j csNotFound 0
    | some f =>
      if f.state = .freeing then s.complete j csNotFound 0
      else if !j.mayUse f.owner then s.complete j (s.ownerCode f.owner) 0
      else ((s.updSurf h fun f => { f with state := .freeing, owner := j.owner, free := some (j.ring, j.stamp) }).endOp j).surfSettle h)

end Sys2Proof.Machine
end

