-- ==== Sys2Proof/Machine/Scalers.lean ====
section
/-!
DEFINITION. Machine/Scalers.lean: the scaler pool, the fit of the line buffer and degradation (R185 to R194, R205).
-/
namespace Sys2Proof.Machine

def State.scl (s : State) (n : Nat) : Scaler := Tab.get (fun _ => Scaler.reset) s.scc.scalers n
def State.setScl (s : State) (n : Nat) (v : Scaler) : State :=
  s.updScc fun c => { c with scalers := (Tab.set (fun _ => Scaler.reset) c.scalers n v) }

/-! ## Claims (R185 to R187) -/

/-- A loaded set of a scaler, R188. Taps 0 mark a set that holds a copy of set 0, which serves every tap count (R203). -/
def Scaler.set (x : Scaler) (i : Nat) : Option ScSet :=
  if i = 1 then x.set1 else if i = 2 then x.set2 else if i = 3 then x.set3
  else some { tapsH := 0, tapsV := 0, persist := false, coef := [] }

/-- A set serves a tap count on the horizontal (`v` false) or vertical axis. -/
def Scaler.setServes (x : Scaler) (i taps : Nat) (v : Bool) : Bool :=
  match x.set i with
  | some c => (if v then c.tapsV else c.tapsH) == 0 || (if v then c.tapsV else c.tapsH) == taps
  | none => false

/-- Taps and sets of a CLAIM or CONFIGURE are in range. -/
def sclFieldsOk (d : List Byte) : Bool :=
  [2, 4, 6, 8].contains (u8 d 12) && [2, 4, 6, 8].contains (u8 d 13) && decide (u8 d 14 ≤ 3 ∧ u8 d 15 ≤ 3)

/-- The loaded sets that the fields name serve the taps given. -/
def Scaler.setsOk (x : Scaler) (d : List Byte) : Bool :=
  x.setServes (u8 d 14) (u8 d 12) false && x.setServes (u8 d 15) (u8 d 13) true

/-- A scaler, or a pair by its even index, is free. -/
def State.sclFree (s : State) (n : Nat) (gang : Bool) : Bool :=
  decide ((s.scl n).state = .free) && (!gang || decide ((s.scl (n + 1)).state = .free))

/-- The lowest free scaler or pair. -/
def State.lowestScl (s : State) (gang : Bool) : Option Nat :=
  (List.range 128).find? fun n => (!gang || n % 2 == 0) && s.sclFree n gang

/-- Claim a scaler or pair; its tokens are granted. -/
def State.claimScl (s : State) (n : Nat) (gang : Bool) (owner : Nat) (byTake : Bool) (th tv sh sv : Nat) : State :=
  let f := fun (x : Scaler) (st : SclState) (p : Nat) =>
    { x with state := st, owner := owner, byTake := byTake, tapsH := th, tapsV := tv, setH := sh, setV := sv, power := p }
  if gang then
    (s.setScl n (f (s.scl n) .gangLead 8)).setScl (n + 1) (f (s.scl (n + 1)) .gangMember 0)
  else s.setScl n (f (s.scl n) .single 4)

/-- Free a scaler or pair; answers the tokens it held. -/
def State.freeScl (s : State) (n : Nat) : Nat × State :=
  let x := s.scl n
  let clear := fun (y : Scaler) => { y with state := .free, owner := 0, byTake := false, power := 0 }
  let s := s.setScl n (clear x)
  let s := if x.state = .gangLead then s.setScl (n + 1) (clear (s.scl (n + 1))) else s
  (x.power, s.leaveRet x.power 0)

/-- An enabled layer of a configuration names the scaler. -/
def HeadCfg.usesScl (c : HeadCfg) (n : Nat) : Bool :=
  (c.layers.take c.count).any fun l => l.enable && l.kind != 0 && l.scaler == n

/-- An enabled layer of an applied or queued commit names the scaler. -/
def State.sclNamed (s : State) (n : Nat) : Bool :=
  s.headList.any fun h =>
    (decide (h.run ≠ .stopped) && h.applied.usesScl n) || (h.queue.any fun c => c.cfg.usesScl n) ||
    (match h.trans with | some t => t.old.scaler == n && t.old.enable | none => false)

/-- The result of OP_SCALER_CLAIM: the scaler and the tokens. -/
def sclResult (n tokens : Nat) : BitVec 64 := BitVec.ofNat 64 (n + 65536 * tokens)

/-- SCALER_CLAIM, action 0; an action out of range is refused here. -/
def execScalerClaim (n : Fin 64) (s : State) : Out3 :=
  .next (s.runOp n 0x40 (fun d => u8 d 8 ≠ 1 && u8 d 8 ≠ 2) fun j s =>
    let gang := ubit j.d 9 0
    let any := ubit j.d 9 1
    let k := u16 j.d 10
    let bad := u8 j.d 8 ≠ 0 || !sclFieldsOk j.d || (!any && (decide (128 ≤ k) || (gang && k % 2 == 1)))
    let pick := if any then s.lowestScl gang else if s.sclFree k gang then some k else none
    if bad then s.complete j csBadParam 0
    else if !any && !(s.scl k).setsOk j.d then s.complete j csBadParam 0
    else
      match pick with
      | none => s.complete j csNoResource 0
      | some k =>
        if !(s.scl k).setsOk j.d then s.complete j csBadParam 0
        else
          let p := if gang then 8 else 4
          let (ok, s) := s.leaveAsk j.owner p 0
          if ok then
            (s.claimScl k gang j.owner false (u8 j.d 12) (u8 j.d 13) (u8 j.d 14) (u8 j.d 15)).complete j csOk (sclResult k p)
          else s.complete j csNoLeave 0)

/-- SCALER_RELEASE. -/
def execScalerRelease (n : Fin 64) (s : State) : Out3 :=
  .next (s.runOp n 0x40 (fun d => u8 d 8 == 1) fun j s =>
    let k := u16 j.d 10
    let x := s.scl k
    match firstFail [(decide (128 ≤ k) || !zeros j.d 9 9 || !zeros j.d 12 15 || decide (x.state = .gangMember), csBadParam),
                     (decide (x.state = .free), csNotFound), (!j.mayUse x.owner, s.ownerCode x.owner),
                     (s.sclNamed k, csState)] with
    | some c => s.complete j c 0
    | none =>
      let (p, s) := s.freeScl k
      s.complete j csOk (sclResult k p))

/-- SCALER_CONFIGURE. -/
def execScalerConfigure (n : Fin 64) (s : State) : Out3 :=
  .next (s.runOp n 0x40 (fun d => u8 d 8 == 2) fun j s =>
    let k := u16 j.d 10
    let x := s.scl k
    match firstFail [(decide (128 ≤ k) || !zeros j.d 9 9 || !sclFieldsOk j.d || !x.setsOk j.d ||
                        decide (x.state = .gangMember), csBadParam),
                     (decide (x.state = .free), csNotFound), (!j.mayUse x.owner, s.ownerCode x.owner)] with
    | some c => s.complete j c 0
    | none =>
      let f := fun (y : Scaler) =>
        { y with owner := j.owner, tapsH := u8 j.d 12, tapsV := u8 j.d 13, setH := u8 j.d 14, setV := u8 j.d 15 }
      let s := s.setScl k (f x)
      let s := if x.state = .gangLead then s.setScl (k + 1) (f (s.scl (k + 1))) else s
      s.complete j csOk (sclResult k x.power))

/-! ## The line buffer (R189, R190) -/

/-- Lines that the buffer holds at a stored width. -/
def lineCapacity (w : Nat) (alpha gang : Bool) : Nat :=
  (if w ≤ 2048 then (if alpha then 24 else 32) else if w ≤ 3072 then 16 else if alpha then 12 else 16) *
  (if gang then 2 else 1)

/-- Input rows a and output rows b of R190. -/
def rowsAB (srcInterlaced headInterlaced : Bool) (cropH dstH : Nat) : Nat × Nat :=
  (if srcInterlaced then cropH / 2 else cropH, if headInterlaced then dstH / 2 else dstH)

/-- Part of a length-`n` destination span from `x` that lies on [0, w). -/
def onRaster (x : Int) (n w : Nat) : Nat :=
  (min (x + n) (w : Int) - max x 0).toNat

/-- Stored width (R189): each width counts only the part that maps onto the raster. -/
def storedWidth (cropW dstW : Nat) (dstX : Int) (rasterW : Nat) : Nat :=
  let v := onRaster dstX dstW rasterW
  min (ceilDiv (cropW * v) dstW) v

/-- The vertical fit of R190. -/
def fitsV (tv a c b : Nat) : Bool := decide (tv * a ≤ c * b)
/-- The horizontal fit of R190. -/
def fitsH (cropW dstW : Nat) : Bool := decide (cropW ≤ 16 * dstW)

/-- The input row or pixel that a degraded axis takes for output `y` (R192, R193). -/
def nearest (y a b : Nat) : Nat := (2 * y + 1) * a / (2 * b)

/-- How many of the `b` outputs of a degraded axis take an input below `v`. -/
def takenBelow (a b v : Nat) : Nat := min b (ceilDiv (2 * b * v - a) (2 * a))

/-! ## Dither (R205) -/

/-- The dithered code of a 14-bit value with an offset; codes are clamped to [lo, hi]. -/
def dither (v : Nat) (n : Int) (shift lo hi : Nat) : Nat :=
  (max (lo : Int) (min (hi : Int) (((v : Int) * 256 + (128 + n) * 2 ^ shift) / 2 ^ (shift + 8)))).toNat

/-- One step of the NOISE generator. -/
def noiseStep (x : BitVec 32) : BitVec 32 :=
  let x := x ^^^ (x <<< 13)
  let x := x ^^^ (x >>> 17)
  x ^^^ (x <<< 5)

/-- Its start for a destination's seed and a frame count. -/
def noiseStart (seed : BitVec 32) (count : Nat) : BitVec 32 :=
  let x := seed ^^^ BitVec.ofNat 32 (count * 2654435769)
  if x = 0 then 1 else x

/-- The offset that a generator state gives. -/
def noiseOffset (x : BitVec 32) : Int := ((x.toNat % 256 : Nat) : Int) + ((x.toNat / 256 % 256 : Nat) : Int) - 255

/-- The 4 × 4 Bayer thresholds, row by row. -/
def bayer : List Nat := [0, 8, 2, 10, 12, 4, 14, 6, 3, 11, 1, 9, 15, 7, 13, 5]

/-- The offset of ORDERED dither at a pixel and line. -/
def orderedOffset (seed x y : Nat) : Int :=
  let t := bayer.getD ((y + seed / 4 % 4) % 4 * 4 + (x + seed % 4) % 4) 0
  (2 * (t : Int) - 15) * 16

end Sys2Proof.Machine
end

