-- ==== Sys2Proof/Machine/Converters.lean ====
section
/-!
DEFINITION. Machine/Converters.lean: rate converters ("Rate converters", R212 to R246).
-/
namespace Sys2Proof.Machine

/-! ## Polders (R364) -/

def State.polder (s : State) (p : Nat) : Polder := Tab.get (fun _ => Polder.reset) s.tim.polders p
def State.setPolder (s : State) (p : Nat) (v : Polder) : State :=
  s.updTim fun t => { t with polders := (Tab.set (fun _ => Polder.reset) t.polders p v) }

/-- The frame rates that POLDER.CTL.rate codes. -/
def polderRates : List (Nat × Nat) :=
  [(24000, 1001), (24, 1), (25, 1), (30000, 1001), (30, 1), (50, 1), (60000, 1001), (60, 1)]

def State.polderRate (s : State) (p : Nat) : Nat × Nat := polderRates.getD (s.fget (Adr.polderCtl p) 10 8) (24, 1)
def State.polderReady (s : State) (p : Nat) : Bool := (s.polder p).ready

/-! ## Slices -/

def State.cnv (s : State) (m : Nat) : Conv := Tab.get (fun _ => Conv.reset) s.out.convs m
def State.setCnv (s : State) (m : Nat) (v : Conv) : State :=
  s.updOut fun o => { o with convs := (Tab.set (fun _ => Conv.reset) o.convs m v) }
def State.updCnv (s : State) (m : Nat) (f : Conv → Conv) : State := s.setCnv m (f (s.cnv m))

def State.head (s : State) (h : Nat) : Head := Tab.get (fun _ => Head.reset) s.hds.heads h
def State.setHead (s : State) (h : Nat) (v : Head) : State :=
  s.updHds fun x => { x with heads := (Tab.set (fun _ => Head.reset) x.heads h v) }
def State.updHead (s : State) (h : Nat) (f : Head → Head) : State := s.setHead h (f (s.head h))

/-- A cause bit of a slice and its event (R245). -/
def State.cnvRaise (s : State) (m bit code : Nat) (d : List (Nat × Nat × Nat)) : State :=
  s.raise (Adr.cnvCause m) (Adr.cnvMask m) bit (288 + m / 16) code ([(20, 2, m), (22, 2, (s.cnv m).input)] ++ d)

/-- A counter of the converter ledger (R239). -/
def State.cnvCount (s : State) (m c k : Nat) : State := s.ledAdd 4 m c k

/-- The mode code of an input: its accepted format, or the mode of a re-entered head (R214). -/
def State.inputMode (s : State) (n : Nat) : Nat :=
  if n < 256 then (s.src n).fmt.mode else (s.head (n - 384)).applied.mode

/-- The mode that checks use: that of the input's format or, while it has none, its flow's or a FIXED ring's (R237). -/
def State.inputNominal (s : State) (n : Nat) : Nat :=
  if n < 256 then
    if (s.src n).fmt.mode ≠ 0 then (s.src n).fmt.mode
    else match s.videoFlow n with
      | some f => f.p0
      | none => if (s.src n).ringFixed then (s.src n).ringMax else 0
  else (s.head (n - 384)).applied.mode

/-- Is the input LOCKED: a source in that state, or a head in FRAME mode? -/
def State.inputLocked (s : State) (n : Nat) : Bool :=
  if n < 256 then decide ((s.src n).state = .locked) else decide ((s.head (n - 384)).run = .frame)

/-- BLEND and MOTION accept an input rate of at most 1.26 times the polder's (R223). -/
def ratePairOk (inp out : Nat × Nat) : Bool := decide (100 * inp.1 * out.2 ≤ 126 * out.1 * inp.2)

/-- Tokens of a conversion (R235): (power, fetch). -/
def convTokens (mode inMode : Nat) (uhd : Bool) (out : Nat × Nat) : Nat × Nat :=
  let px := modePx inMode
  let f := modeRate inMode
  let k := if uhd then 4 else 1
  -- demand in units of half a byte over the common denominator of both rates
  let demand := fun (a b : Nat) => ceilDiv ((a * f.1 * out.2 + b * out.1 * f.2) * px) (2 * f.2 * out.2 * 1000000000)
  if mode = 1 then (4 * k, demand 0 18)
  else if mode = 2 then (8 * k, demand 14 19)
  else if mode = 3 then (10 * k, demand 15 19)
  else (0, 0)

/-- D of R221 in ticks. -/
def convDelay (mode inMode : Nat) (out : Nat × Nat) : Nat :=
  periodTicks out + (if mode = 1 then 0 else 2 * periodTicks (modeRate inMode))

/-- An interlaced output is permitted for this input raster and polder rate (R216). -/
def scanOk (inMode : Nat) (out : Nat × Nat) : Bool :=
  decide (modeH inMode = 1080 ∨ modeW inMode = 720) &&
  (sameRate out (25, 1) || sameRate out (30000, 1001) || sameRate out (30, 1))

/-- D of a conversion in ticks, for the mode in force or the one given at the claim; while the input has had no format, the mode
that checks use stands for it. -/
def State.cnvD (s : State) (m mode : Nat) : Nat :=
  let c := s.cnv m
  convDelay mode (if c.inMode = 0 then s.inputNominal c.input else c.inMode) (s.polderRate c.polder)

/-- What an audio route delays for a conversion, in samples of 48 kHz: D for the mode given at the claim (R316). -/
def State.cnvAudDelay (s : State) (m : Nat) : Nat := (s.cnvD m (s.cnv m).audMode * 48000 + 250000000) / 500000000

/-! ## Frames of re-entered heads (R20, R214) -/

/-- The followed layer of a head (R333): the layer of the newest take's source, or the one named. -/
def Head.followed (x : Head) (layer : Nat) : Nat :=
  if x.managed = .software then layer
  else match x.trans with | some t => if t.kind = .cut then 0 else 1 | none => 0

/-- Reference time of the frame shown on the followed layer. -/
def Head.followRef (x : Head) (layer : Nat) : Int :=
  match x.front with | some p => (p.layers.getD (x.followed layer) LayerPic.off).ref.getD 0 | none => 0

/-- The front picture of a head as its readers see it, in the internal format and in the head's working space (R184, R197). Its
reference is that of the followed layer: layer 0 of a software-managed head (log 94). -/
def State.headFrame (s : State) (h : Nat) : Frame :=
  let x := s.head h
  let sp := match x.front with | some p => p.space | none => s.workSpace h
  { id := x.fcount, mode := x.applied.mode, il := modeInterlaced x.applied.mode, sampling := 2, colorimetry := sp.1, transfer := sp.2,
    arrSec := x.flipSec, arrNs := x.flipNs, pubCt := x.flipAt, patched := false, rtpTs := 0, atc := none, anc := [],
    ref := x.followRef 0, pid := none, rtpTs2 := none, content := .one ⟨.shot x.shot, 0⟩ .whole, content2 := none }

/-! ## Pictures and cadence (R220, R227) -/

/-- A picture enters the cadence detector. -/
def Conv.cadenceIn (c : Conv) (rep : Bool) : Conv :=
  if rep then
    let l := c.runLen + 1
    let ok32 := decide (l ≤ 3 ∧ (c.lastRun ≠ 3 ∨ l ≤ 2))
    let ok22 := decide (l ≤ 2)
    { c with runLen := l, match32 := (if ok32 then c.match32 + 1 else 0), match22 := (if ok22 then c.match22 + 1 else 0) }
  else
    let l := c.runLen
    let ok32 := decide ((l = 2 ∨ l = 3) ∧ (c.lastRun = 0 ∨ l + c.lastRun = 5))
    let ok22 := decide (l = 2)
    { c with runLen := 1, lastRun := l, run := c.run + 1, match32 := (if ok32 then c.match32 + 1 else 0),
             match22 := (if ok22 then c.match22 + 1 else 0) }

/-- Is 3:2 detected on this input (59.94 and 60 Hz pictures), and 2:2 (interlaced inputs)? -/
def detects32 (inMode : Nat) : Bool :=
  let r := modeRate inMode
  if modeInterlaced inMode then sameRate r (30000, 1001) || sameRate r (30, 1)
  else sameRate r (60000, 1001) || sameRate r (60, 1)
def detects22 (inMode : Nat) : Bool := modeInterlaced inMode

/-- The lock that the detector is in after a picture. -/
def Conv.newLock (c : Conv) : Nat :=
  if c.lock = 1 then (if c.match32 = 0 then 0 else 1)
  else if c.lock = 2 then (if c.match22 = 0 then 0 else 2)
  else if c.cadence % 2 = 1 ∧ detects32 c.inMode = true ∧ 10 ≤ c.match32 then 1
  else if 2 ≤ c.cadence ∧ detects22 c.inMode = true ∧ 8 ≤ c.match22 then 2
  else 0

/-- The detector starts again; the loss of a lock raises its event. -/
def State.cnvUnlock (s : State) (m : Nat) : State :=
  let c := s.cnv m
  let s := s.setCnv m { c with lock := 0, runLen := 0, lastRun := 0, match32 := 0, match22 := 0 }
  if c.lock = 0 then s else s.cnvRaise m 4 0x0704 [(24, 1, 0)]

/-- The base of the samples of a frame. -/
def Frame.base (f : Frame) : Base :=
  match f.content with
  | .one p _ => p.base
  | .kept p _ => p.base
  | .mix p _ _ _ => p.base
  | .motion p _ _ _ => p.base

/-- The numbers, in its input, of the pictures of a frame: two of an interlaced one. -/
def Frame.nums (f : Frame) : Nat × Nat := if f.il then (2 * f.id, 2 * f.id + 1) else (f.id, f.id)

/-- What the motion store holds: 3 frames' worth of pictures, and in cadence lock 3 film frames (R236). -/
def Conv.kept (c : Conv) (l : List ConvPic) : List ConvPic :=
  if c.lock = 0 then l.take (if l.any fun p => p.field ≠ 0 then 6 else 3)
  else
    let runs := ((l.map (·.run)).dedup).take 3
    l.filter fun p => runs.contains p.run

/-- One picture enters the motion store. Only MOTION detects cadence. -/
def State.cnvPicture (s : State) (m : Nat) (f : Frame) (field : Nat) (time : Int) (rep : Bool) : State :=
  let c := s.cnv m
  let d := if c.mode = 3 then c.cadenceIn rep else { c with run := c.run + 1 }
  let lock := if c.mode = 3 then d.newLock else 0
  let num := if field = 2 then f.nums.2 else f.nums.1
  let d := { d with lock := lock, times := ((d.run, time) :: d.times).take 16, usedTo := some (d.usedTo.getD (num - 1)) }
  let s := s.setCnv m { d with hist := d.kept ({ frame := f, field := field, time := time, num := num, run := d.run } :: d.hist) }
  if lock = c.lock then s else s.cnvRaise m 4 0x0704 [(24, 1, lock)]

/-- The conversion copies whole frames: in REPEAT, or for a rate that its mode refuses (R231). -/
def Conv.copies (c : Conv) : Bool := decide (c.mode = 1) || decide (c.fmtBad = 2)

/-- A frame of the input, complete at `time`: one picture, or two fields half a frame period apart (R220); a conversion that
copies keeps it whole. -/
def State.cnvTake (s : State) (m : Nat) (f : Frame) (time : Int) (reps : List Bool) : State :=
  let c := s.cnv m
  if c.copies then
    s.setCnv m { c with hist := [{ frame := f, field := 0, time := time, num := f.nums.2, run := 0 }],
                        usedTo := some (c.usedTo.getD (f.nums.1 - 1)) }
  else if f.il then
    (s.cnvPicture m f 1 (time - periodTicks (modeRate f.mode) / 2) (reps.getD 0 false)).cnvPicture m f 2 time (reps.getD 1 false)
  else s.cnvPicture m f 0 time (reps.getD 0 false)

/-- The pictures held leave the store; those that no published frame has shown count as skipped (R239). -/
def State.cnvDrop (s : State) (m : Nat) : State :=
  let c := s.cnv m
  let lost := match c.hist, c.usedTo with | p :: _, some u => p.num - u | _, _ => 0
  ((s.cnvCount m 7 lost).updCnv m fun c => { c with hist := [], times := [], usedTo := none }).cnvUnlock m

/-! ## Claims (R233 to R237) -/

/-- The slices of a claim. -/
def cnvMembers (m : Nat) (uhd : Bool) : List Nat := if uhd then [m, m + 1, m + 2, m + 3] else [m]

def State.cnvFree (s : State) (m : Nat) (uhd : Bool) : Bool :=
  (cnvMembers m uhd).all fun i => decide ((s.cnv i).state = .free)

def State.lowestCnv (s : State) (uhd : Bool) : Option Nat :=
  (List.range 128).find? fun m => (!uhd || m % 4 == 0) && s.cnvFree m uhd

/-- Start a conversion whose tokens are granted. -/
def State.claimCnv (s : State) (m : Nat) (uhd : Bool) (owner : Nat) (byTake : Bool)
    (input polder mode scan cadence confMin power fetch : Nat) : State :=
  let newest := match s.newestFrame input with | some (_, _, f) => f.id | none => 0
  let c : Conv :=
    { Conv.reset with
      state := (if uhd then .groupLead else .single), owner := owner, byTake := byTake, input := input,
      polder := polder, mode := mode, scan := scan, cadence := cadence,
      confMin := (if mode = 3 ∧ confMin = 0 then 96 else confMin), power := power, fetch := fetch,
      audMode := mode, claimMode := s.inputNominal input,
      builtFor := (if (s.polder polder).running then some (s.polder polder).count else none),
      minId := (if input < 256 then newest else 0), srcState := .search, inMode := s.inputMode input,
      inFmt := (if input < 256 then (s.src input).fmt else { Fmt.none with mode := s.inputMode input }), nextId := (s.cnv m).nextId }
  let s := s.setCnv m c
  -- the front picture of a re-entered head is complete at the claim (R230)
  let s := if 384 ≤ input ∧ s.inputLocked input = true then s.cnvTake m (s.headFrame (input - 384)) (s.head (input - 384)).flipAt [] else s
  if uhd then
    [1, 2, 3].foldl (fun s i => s.updCnv (m + i) fun _ => { Conv.reset with state := .groupMember, srcState := .quadMember }) s
  else s

/-- Stop a conversion: its tokens return and its source goes to IDLE (R234). -/
def State.releaseCnv (s : State) (m : Nat) : State :=
  let c := s.cnv m
  let p := match c.pend with | some q => (q.power, q.fetch) | none => (c.power, c.fetch)
  let uhd := decide (c.state = .groupLead)
  let s := (cnvMembers m uhd).foldl (fun s i => s.updCnv i fun x => { Conv.reset with nextId := x.nextId }) s
  (s.unpin (.conv m)).leaveRet (max p.1 c.power) (max p.2 c.fetch)

/-- A layer names a converted source. -/
def State.cnvNamed (s : State) (m : Nat) : Bool := s.instarNames (256 + m)

/-- The result of OP_CONV_CLAIM. -/
def cnvResult (m power fetch : Nat) : BitVec 64 :=
  BitVec.ofNat 64 (m + 65536 * (256 + m) + 4294967296 * power + 281474976710656 * fetch)

/-- Source owner tag: an ingest source's own, or a head's for re-entry. -/
def State.sourceOwner (s : State) (n : Nat) : Nat :=
  if n < 256 then (s.src n).owner else if n < 384 then (s.cnv (n - 256)).owner else (s.head (n - 384)).owner

/-- The field checks of R237 for CLAIM. -/
def State.cnvClaimBad (s : State) (d : List Byte) : Bool :=
  let uhd := ubit d 9 0
  let any := ubit d 9 1
  let m := u16 d 10
  let input := u16 d 12
  let out := s.polderRate (u8 d 14)
  let im := s.inputNominal input
  u8 d 8 ≠ 0 || !decide (1 ≤ u8 d 15 ∧ u8 d 15 ≤ 3) || decide (31 < u8 d 14) || decide (1 < u8 d 16) ||
  (!any && (decide (127 < m) || (uhd && m % 4 != 0))) ||
  !(decide (input < 256) || decide (384 ≤ input ∧ input ≤ 639)) ||
  (isUhd im && !uhd) || (decide (u8 d 16 = 1 ∧ im ≠ 0) && !scanOk im out) ||
  (u8 d 16 == 1 && !(sameRate out (25, 1) || sameRate out (30000, 1001) || sameRate out (30, 1))) ||
  (decide (u8 d 15 ≠ 1 ∧ im ≠ 0) && !ratePairOk (modeRate im) out) ||
  decide (u8 d 15 ≠ 3 ∧ (u8 d 17 ≠ 0 ∨ u8 d 18 ≠ 0))

/-- CONV_CLAIM, action 0; an action out of range is refused here. -/
def execConvClaim (n : Fin 64) (s : State) : Out3 :=
  .next (s.runOp n 0x41 (fun d => u8 d 8 ≠ 1 && u8 d 8 ≠ 2) fun j s =>
    let uhd := ubit j.d 9 0
    let input := u16 j.d 12
    let pol := u8 j.d 14
    let pick := if ubit j.d 9 1 then s.lowestCnv uhd else if s.cnvFree (u16 j.d 10) uhd then some (u16 j.d 10) else none
    match firstFail [(s.cnvClaimBad j.d, csBadParam),
        (!s.polderReady pol || (decide (384 ≤ input) && decide ((s.head (input - 384)).run = .stopped)), csState),
        (pick.isNone, csNoResource), (!j.mayUse (s.sourceOwner input), s.ownerCode (s.sourceOwner input))] with
    | some c => s.complete j c 0
    | none =>
      let m := pick.getD 0
      let t := convTokens (u8 j.d 15) (s.inputNominal input) uhd (s.polderRate pol)
      let (ok, s) := s.leaveAsk j.owner t.1 t.2
      if ok then
        (s.claimCnv m uhd j.owner false input pol (u8 j.d 15) (u8 j.d 16) (u8 j.d 17) (u8 j.d 18) t.1 t.2).complete j csOk
          (cnvResult m t.1 t.2)
      else s.complete j csNoLeave 0)

/-- The checks that RELEASE and MODE share. -/
def State.cnvCheck (s : State) (j : Job) (bad : Bool) : Option Nat :=
  let m := u16 j.d 10
  let c := s.cnv m
  firstFail [(bad || decide (127 < m), csBadParam),
    (decide (c.state = .free ∨ c.state = .groupMember), csNotFound), (!j.mayUse c.owner, s.ownerCode c.owner)]

/-- Flags of RELEASE and MODE out of range: any, which only CLAIM uses, or a group that does not begin at a multiple of 4. -/
def flagsUnused (d : List Byte) : Bool := ubit d 9 1 || (ubit d 9 0 && u16 d 10 % 4 != 0)

/-- CONV_RELEASE. -/
def execConvRelease (n : Fin 64) (s : State) : Out3 :=
  .next (s.runOp n 0x41 (fun d => u8 d 8 == 1) fun j s =>
    let m := u16 j.d 10
    match s.cnvCheck j (flagsUnused j.d || !zeros j.d 12 18) with
    | some c => s.complete j c 0
    | none => if s.cnvNamed m then s.complete j csState 0 else (s.releaseCnv m).complete j csOk (cnvResult m 0 0))

/-- CONV_MODE: more tokens are asked for at once; fewer return at the next build start (R232, R234). -/
def execConvMode (n : Fin 64) (s : State) : Out3 :=
  .next (s.runOp n 0x41 (fun d => u8 d 8 == 2) fun j s =>
    let m := u16 j.d 10
    let c := s.cnv m
    let mode := u8 j.d 15
    let im := s.inputNominal c.input
    let bad := flagsUnused j.d || !zeros j.d 12 14 || u8 j.d 16 != 0 || !decide (1 ≤ mode ∧ mode ≤ 3) ||
      decide (mode ≠ 3 ∧ (u8 j.d 17 ≠ 0 ∨ u8 j.d 18 ≠ 0)) ||
      (decide (mode ≠ 1 ∧ im ≠ 0) && !ratePairOk (modeRate im) (s.polderRate c.polder))
    match s.cnvCheck j bad with
    | some e => s.complete j e 0
    | none =>
      let held := match c.pend with | some q => (max q.power c.power, max q.fetch c.fetch) | none => (c.power, c.fetch)
      let t := convTokens mode c.claimMode (decide (c.state = .groupLead)) (s.polderRate c.polder)
      let (ok, s) := s.leaveAsk j.owner (t.1 - held.1) (t.2 - held.2)
      if ok then
        let top := (max held.1 t.1, max held.2 t.2)
        (s.updCnv m fun c =>
          { c with owner := j.owner, power := top.1, fetch := top.2,
                   pend := some { mode := mode, cadence := u8 j.d 17, confMin := u8 j.d 18, power := t.1, fetch := t.2, at_ := s.now } }).complete
          j csOk (cnvResult m top.1 top.2)
      else s.complete j csNoLeave 0)

/-! ## Building a frame (R221 to R229) -/

/-- A picture that frames are built from: a picture held, or in cadence lock a film frame; its time, and the numbers of the
pictures that it stands for. -/
structure Film where
  time : Int
  lo : Nat
  hi : Nat
  pic : ConvPic
  deriving DecidableEq, Repr

/-- The pictures that frames are built from, oldest first. A film frame's time is the mean of its pictures' times; that of the
newest one, while pictures of it are still to come, follows from the pattern (R227). -/
def Conv.pictures (c : Conv) : List Film :=
  let h := c.hist.reverse
  if c.lock = 0 then h.map fun p => ⟨p.time, p.num, p.num, p⟩
  else
    let step : Int := periodTicks (modeRate c.inMode) / (if modeInterlaced c.inMode then 2 else 1)
    ((h.map (·.run)).dedup).filterMap fun r =>
      let ts := (c.times.filter fun e => e.1 == r).map (·.2)
      let len := if c.lock = 2 then 2 else 5 - c.lastRun
      let time : Int := if r = c.run ∧ ts.length < len then ts.getLastD 0 + step * ((len : Int) - 1) / 2 else ts.sum / (ts.length : Int)
      match h.filter fun p => p.run == r with
      | [] => none
      | p :: ps => some ⟨time, p.num, (ps.getLastD p).num, ps.getLastD p⟩

/-- Pictures i and i + 1 around a temporal position (R221). -/
def bracket : List Film → Int → Option (Film × Option Film)
  | [], _ => none
  | [a], tau => if a.time ≤ tau then some (a, none) else none
  | a :: b :: t, tau => if a.time ≤ tau ∧ tau < b.time then some (a, some b) else bracket (b :: t) tau

/-- The phase: 64 × (τ − t_i) / (t_{i+1} − t_i), halves rounded up. -/
def phaseOf (tau a b : Int) : Nat := ((128 * (tau - a) + (b - a)) / (2 * (b - a))).toNat

/-- A field or frame built. -/
structure Built where
  kind : Nat
  mode : Nat
  fell : Bool
  shed : Bool
  phase : Nat
  nums : List (Nat × Nat)
  /-- the frame whose metadata it carries (R218) -/
  info : Frame
  content : Content
  deriving DecidableEq, Repr

/-- A picture as its samples' source. -/
def ConvPic.ref (p : ConvPic) : PicRef := ⟨p.frame.base, p.field⟩

/-- A field or frame of BLEND or MOTION at a temporal position, `conf` being its confidence (R221, R224 to R226, R229). A copy of
one picture is built by the mode that the shed or the confidence leaves, too. -/
def Conv.buildAt (c : Conv) (tau : Int) (conf : Nat) : Option Built :=
  let shed := decide (c.mode = 3) && c.shed
  let how := fun (linear : Bool) (p : ConvPic) => if p.field = 0 then Deint.whole else if linear then Deint.spatial else Deint.adaptive
  match bracket c.pictures tau with
  | none => none
  | some (a, none) =>
    let linear := shed || decide (c.mode = 2)
    some { kind := 1, mode := (if linear then 2 else 3), fell := false, shed := shed, phase := 0, nums := [(a.lo, a.hi)],
           info := a.pic.frame, content := .kept a.pic.ref (how linear a.pic) }
  | some (a, some b) =>
    let fell := decide (c.mode = 3) && !c.shed && decide (conf < c.confMin)
    let linear := decide (c.mode = 2) || shed || fell
    let phi := phaseOf tau a.time b.time
    let d := how linear a.pic
    let base : Built := { kind := 1, mode := (if linear then 2 else 3), fell := fell, shed := shed, phase := phi,
                          nums := [(a.lo, a.hi)], info := b.pic.frame, content := .kept a.pic.ref d }
    some (if phi = 0 then base
      else if 64 ≤ phi then { base with phase := 64, nums := [(b.lo, b.hi)], content := .kept b.pic.ref d }
      else if linear then { base with kind := 2, nums := [(a.lo, a.hi), (b.lo, b.hi)], content := .mix a.pic.ref b.pic.ref d phi }
      else { base with kind := 3, nums := [(a.lo, a.hi), (b.lo, b.hi)], content := .motion a.pic.ref b.pic.ref d phi })

/-- A copy of the newest frame (R221, R226). -/
def Conv.copyAt (c : Conv) : Option Built :=
  match c.hist with
  | [] => none
  | p :: _ =>
    some { kind := 1, mode := 1, fell := false, shed := false, phase := 0, nums := [p.frame.nums], info := p.frame,
           content := .one ⟨p.frame.base, 0⟩ (if p.frame.il && c.scan == 0 then .weave else .whole) }

/-- The confidence that `k` matched blocks of 16 × 16 pixels give (R224). -/
def confidenceOf (inMode k : Nat) : Nat :=
  let n := ceilDiv (modeW inMode) 16 * ceilDiv (modeH inMode) 16
  if n = 0 then 0 else 255 * min k n / n

/-! ## The build start (R219 to R232) -/

/-- A ring frame is of the input's present format. -/
def State.sameFormat (s : State) (input : Nat) (f : Frame) : Bool :=
  match f.base with
  | .ring _ _ fm _ => fm.same (s.src input).fmt
  | .shot _ => true

/-- Frames of the input's ring that the group may take, complete at the build start `pj` and in the input's format, oldest first. -/
def State.cnvNew (s : State) (c : Conv) (pj : Nat) : List (Ring × Nat × Frame) :=
  match s.readRing c.input with
  | none => []
  | some r =>
    let l := (r.slots.zipIdx.filterMap fun p => p.1.frame.map fun f => (r, p.2, f)).filter fun x =>
      decide (c.minId ≤ x.2.2.id ∧ x.2.2.pubCt ≤ pj) && s.sameFormat c.input x.2.2
    sortBy (fun a b => a.2.2.id ≤ b.2.2.id) l

/-- Take the new frames: into the motion store all of them, for REPEAT the newest, which stays pinned until the next build
start. The first reader's take counts as used (R99, R214). -/
def State.cnvTakeAll (s : State) (m pj : Nat) (reps : List Bool) : State :=
  let c := s.cnv m
  let s := s.unpin (.conv m)
  if c.input < 256 ∧ s.inputLocked c.input = true ∧ c.fmtBad ≠ 1 then
    let new := s.cnvNew c pj
    if c.copies then
      match new.getLast? with
      | some (r, k, f) => ((s.takeFrame c.input r k (.conv m)).cnvTake m f f.pubCt []).updCnv m fun c => { c with minId := f.id }
      | none => s
    else
      (new.zipIdx.foldl (fun (s : State) p =>
        let f := p.1.2.2
        let s := (s.takeFrame c.input p.1.1 p.1.2.1 (.conv m)).unpin (.conv m)
        (s.cnvTake m f f.pubCt (reps.drop ((if f.il then 2 else 1) * p.2))).updCnv m fun c => { c with minId := f.id + 1 }) s)
  else s

/-- Pictures skipped on the way to those that a frame shows, and the newest picture shown (R239). -/
def skipTo (used : Option Nat) (nums : List (Nat × Nat)) : Nat × Option Nat :=
  nums.foldl (fun a r =>
    match a.2 with
    | some u => (a.1 + (r.1 - u - 1), some (max u r.2))
    | none => (a.1, some r.2)) (0, used)

/-- Publish the frame built, or withhold it (R219, R228). -/
def State.cnvPublish (s : State) (m : Nat) : State :=
  let c := s.cnv m
  let s := (s.cross ⟨.converter (Fin.ofNat 128 m), 0⟩).cnvCount m 0 1
  match c.build with
  | none =>
    let s := s.cnvCount m 4 1
    let s := s.updCnv m fun c =>
      { c with built := 0, withholding := true, srcState := (if c.srcState = .locked then .lost else c.srcState) }
    if c.srcState = .locked then s.cnvRaise m 1 0x0701 [(24, 1, c.why)] else s
  | some b =>
    let s := s.cnvCount m (if b.kind = 1 then 3 else if b.kind = 2 then 2 else 1) 1
    let s := if b.fellBack then s.cnvCount m 5 1 else s
    let s := if b.shed then s.cnvCount m 6 1 else s
    let sk := skipTo c.usedTo b.nums
    let s := s.cnvCount m 7 sk.1
    let arr : Int := ((b.frame.arrSec * 1000000000 + b.frame.arrNs : Nat) : Int)
    let tauNs : Int := ((s.tim.phc / 4294967296 : Nat) : Int) - 2 * ((s.now : Int) - b.tau)
    let f := { b.frame with id := c.nextId, arrSec := s.phcSec, arrNs := s.phcNs, pubCt := s.now, patched := false,
                            ref := tauNs - (arr - b.frame.ref) }
    let s := s.updCnv m fun c =>
      { c with built := b.mode, withholding := false, srcState := .locked, published := true, nextId := c.nextId + 1, phase := b.phase,
               out := (f :: c.out).take 2, arrSec := f.arrSec, arrNs := f.arrNs,
               periods := (if c.srcState = .locked then ((2 * (s.now - c.lastPub)) :: c.periods).take 16 else []),
               lastPub := s.now, lastTau := b.tau, usedTo := sk.2 }
    if c.srcState = .locked then s
    else s.cnvRaise m 0 0x0700 [(24, 4, (s.cnvD m c.mode + 250) / 500)]

/-- A change of the input's format: the conversion starts again from the first frame of the new one, or withholds, or copies
(R231). -/
def State.cnvFormat (s : State) (m : Nat) : State :=
  let c := s.cnv m
  let im := s.inputMode c.input
  let fm := if c.input < 256 then (s.src c.input).fmt else { Fmt.none with mode := im }
  let bad := if isUhd im ∧ c.state ≠ .groupLead then 1
    else if c.mode ≠ 1 ∧ ratePairOk (modeRate im) (s.polderRate c.polder) = false then 2 else 0
  let changed := decide (im ≠ c.inMode) || !fm.same c.inFmt
  if im = 0 ∨ (changed = false ∧ bad = c.fmtBad) then s
  else
    let s := (if changed then s.cnvDrop m else s).updCnv m fun x => { x with inMode := im, inFmt := fm, fmtBad := bad }
    if bad ≠ 0 ∧ (im ≠ c.inMode ∨ bad ≠ c.fmtBad) then s.cnvRaise m 5 0x0705 [(24, 1, c.inMode), (25, 1, im), (26, 1, bad - 1)] else s

/-- A pending MODE that was validated before the build start `pj` takes effect, and the tokens it no longer needs return (R232,
R234, R241). -/
def State.cnvMode (s : State) (m pj : Nat) : State :=
  let c := s.cnv m
  match c.pend with
  | none => s
  | some q =>
    if pj ≤ q.at_ then s
    else
      let crosses := decide (c.mode = 1) != decide (q.mode = 1)
      let keeps := decide (q.mode = 3) && (c.lock == 0 || (c.lock == 1 && q.cadence % 2 == 1) || (c.lock == 2 && decide (2 ≤ q.cadence)))
      let s := if keeps then s else s.cnvUnlock m
      let s := s.updCnv m fun c =>
        { c with mode := q.mode, cadence := q.cadence, confMin := (if q.mode = 3 ∧ q.confMin = 0 then 96 else q.confMin),
                 power := q.power, fetch := q.fetch, pend := none, modes := c.modes + 1, behind := decide (c.mode = 1 ∧ q.mode ≠ 1),
                 hist := (if crosses then [] else c.hist), times := (if crosses then [] else c.times) }
      s.leaveRet (c.power - q.power) (c.fetch - q.fetch)

/-- The shed of R225 begins or ends for this conversion. -/
def State.cnvShed (s : State) (m : Nat) : State :=
  let c := s.cnv m
  let on := decide (2 ≤ s.shedLevel)
  if c.shed = on then s
  else
    let s := s.updCnv m fun c => { c with shed := on }
    if c.mode = 3 then s.cnvRaise m 3 0x0703 [(24, 1, b2n on)] else s

/-- Build the frame that p_{j+1} publishes. -/
def State.cnvBuild (s : State) (m : Nat) (pj : Nat) (matched : List Nat) : State :=
  let c := s.cnv m
  let out := s.polderRate c.polder
  let withhold := fun (s : State) (why : Nat) => s.updCnv m fun c => { c with build := none, why := why }
  if !s.inputLocked c.input then
    -- after a loss the conversion starts from the frames that come then (R230)
    let newest := match s.newestFrame c.input with | some (_, _, f) => f.id + 1 | none => c.minId
    (withhold (s.cnvDrop m) 0).updCnv m fun c => { c with minId := (if c.input < 256 then max c.minId newest else c.minId) }
  else if c.fmtBad = 1 then withhold s 1
  else
    let tau : Int := (pj : Int) + periodTicks out - convDelay c.mode c.inMode out
    let conf := fun (i : Nat) => confidenceOf c.inMode (matched.getD i 0)
    let two := decide (c.scan = 1) && !c.copies
    let b1 := if c.copies then c.copyAt else c.buildAt (if two then tau - periodTicks out / 2 else tau) (conf 0)
    let b2 := if two then c.buildAt tau (conf 1) else b1
    match b1, b2 with
    | some a, some b =>
      if c.behind ∧ c.copies = false ∧ tau ≤ c.lastTau then withhold s 1
      else
        let fell := a.fell || b.fell
        let kind := max a.kind b.kind
        let cf := if two then min (conf 0) (conf 1) else conf 0
        let f := { b.info with mode := c.inMode, il := decide (c.scan = 1), sampling := (if c.copies then b.info.sampling else 0),
                               content := a.content, content2 := (if two then some b.content else none) }
        let at_ : Int := match c.hist with | p :: _ => p.time | [] => tau
        let bd : ConvBuild :=
          { frame := f, kind := kind, mode := b.mode, fellBack := fell, shed := a.shed || b.shed, phase := b.phase,
            nums := (if two then a.nums ++ b.nums else a.nums), tau := (if c.copies then at_ else tau) }
        let s := if fell ∧ 50 ≤ c.confRun then s.cnvRaise m 2 0x0702 [(24, 1, cf)] else s
        s.updCnv m fun c =>
          { c with build := some bd, behind := c.behind && c.copies, confidence := (if c.mode = 3 ∧ c.copies = false then cf else c.confidence),
                   confRun := (if fell then 0 else if kind = 3 then c.confRun + 1 else c.confRun) }
    | _, _ => withhold s 1

/-- BUILD_START of a conversion at the start p_j of its polder's raster period: publish or withhold frame j, then build
the next one. It happens once per raster period. -/
def execBuildStart (m : Fin 128) (sight : BuildSight) (s : State) : Out3 :=
  let c := s.cnv m
  let p := s.polder c.polder
  .next (
    if (c.state = .single ∨ c.state = .groupLead) ∧ p.running = true ∧ c.builtFor ≠ some p.count then
      let s := s.updCnv m fun c => { c with builtFor := some p.count }
      let s := s.cnvPublish m
      let s := ((s.cnvMode m p.lastStart).cnvShed m).cnvFormat m
      let s := s.cnvTakeAll m p.lastStart sight.repeats
      s.cnvBuild m p.lastStart sight.matched
    else s)

/-- A flip of a re-entered head gives its conversions a picture, whose time is the flip (R214). -/
def State.cnvFeed (s : State) (h : Nat) (reps : List Bool) : State :=
  let f := s.headFrame h
  (s.out.convs.map (·.1)).foldl (fun s m =>
    let c := s.cnv m
    if (c.state = .single ∨ c.state = .groupLead) ∧ c.input = 384 + h then s.cnvTake m f s.now reps else s) s

end Sys2Proof.Machine
end

