-- ==== Sys2Proof/Machine/Layout.lean ====
section
/-!
DEFINITION. Machine/Layout.lean: the geometry of layers: nominal rasters, the occlusion cull, footprints, compose load
and fetch demand (R152, R563, R167 to R172).
-/
namespace Sys2Proof.Machine

/-! ## Rectangles: half-open, in pixels or tiles -/

structure Rect where
  x0 : Nat
  x1 : Nat
  y0 : Nat
  y1 : Nat
  deriving DecidableEq, Repr

def Rect.empty (r : Rect) : Bool := decide (r.x1 ≤ r.x0 ∨ r.y1 ≤ r.y0)

/-- Merge intervals sorted by their start into the interval (a, b) that comes first. -/
def mergeInto (a b : Nat) : List (Nat × Nat) → List (Nat × Nat)
  | [] => [(a, b)]
  | (c, d) :: t => if c ≤ b then mergeInto a (max b d) t else (a, b) :: mergeInto c d t

/-- Merge intervals sorted by their start. -/
def mergeIntervals : List (Nat × Nat) → List (Nat × Nat)
  | [] => []
  | (a, b) :: t => mergeInto a b t

/-- The x intervals that rectangles cover on row `y`, merged. -/
def coverRow (l : List Rect) (y : Nat) : List (Nat × Nat) :=
  mergeIntervals (sortBy (fun a b => a.1 ≤ b.1) ((l.filter fun r => !r.empty && decide (r.y0 ≤ y ∧ y < r.y1)).map fun r => (r.x0, r.x1)))

/-- The bands of rows between the horizontal edges of rectangles, within [lo, hi). -/
def bands (l : List Rect) (lo hi : Nat) : List (Nat × Nat) :=
  let ys := sortBy (· ≤ ·) ((lo :: hi :: (l.map (·.y0)) ++ (l.map (·.y1))).filter fun y => decide (lo ≤ y ∧ y ≤ hi)).dedup
  ys.zip (ys.drop 1)

/-- Total of a weight over the union of rectangles: `wx` and `wy` give the weight of an interval. -/
def unionWeight (l : List Rect) (wx wy : Nat → Nat → Nat) : Nat :=
  let hi := (l.map (·.y1)).foldl max 0
  ((bands l 0 hi).map fun b => wy b.1 b.2 * ((coverRow l b.1).map fun i => wx i.1 i.2).sum).sum

/-- The gaps that intervals leave in [a, b). -/
def gaps (a b : Nat) : List (Nat × Nat) → List (Nat × Nat)
  | [] => if a < b then [(a, b)] else []
  | (c, d) :: t => (if a < min c b then [(a, min c b)] else []) ++ gaps (max a d) b t

/-- What is left of a rectangle after a union of others is taken away, as rectangles. -/
def minusRects (r : Rect) (l : List Rect) : List Rect :=
  if r.empty then []
  else (bands l r.y0 r.y1).flatMap fun b =>
    (gaps r.x0 r.x1 (coverRow l b.1)).map fun i => { x0 := i.1, x1 := i.2, y0 := b.1, y1 := b.2 }

def Rect.area (r : Rect) : Nat := (r.x1 - r.x0) * (r.y1 - r.y0)

/-! ## What a layer shows: its raster (R152, R563) -/

def rasterOf (code : Nat) : Option Raster :=
  if isMode code then some ⟨modeW code, modeH code, modeInterlaced code⟩ else none

/-- The nominal raster of a source S0 to S255 (R563, 1 to 3). -/
def State.nominalIn (s : State) (n : Nat) : Option Raster :=
  let x := s.src n
  if x.fmt.mode ≠ 0 then rasterOf x.fmt.mode
  else match s.videoFlow n with
    | some f => rasterOf f.p0
    | none => if x.ringFixed then rasterOf x.ringMax else none

/-- The mode of a head, or of its shadow while it is stopped (R563, 5). -/
def State.headMode (s : State) (h : Nat) : Nat :=
  let x := s.head h
  if x.run = .stopped then x.shadow.mode else x.applied.mode

/-- The nominal raster of any source. -/
def State.nominal (s : State) (n : Nat) : Option Raster :=
  if n < 256 then s.nominalIn n
  else if n < 384 then
    let c := s.cnv (n - 256)
    let r := if c.state = .free ∨ c.state = .groupMember then none
      else if c.input < 256 then s.nominalIn c.input else rasterOf (s.headMode (c.input - 384))
    r.map fun x => { x with il := decide (c.scan = 1) }
  else rasterOf (s.headMode (n - 384))

/-- The raster that a layer's content has at validation; a layer whose content has none takes its destination size. -/
def State.layerRaster (s : State) (l : LayerCfg) : Raster :=
  if l.kind = 1 then (s.nominal (l.src.toNat % 65536)).getD ⟨l.dstW, l.dstH, false⟩
  else if l.kind = 2 then
    match s.surf (BitVec.ofNat 32 l.src.toNat) with
    | some f => ⟨f.width, f.height, false⟩
    | none => ⟨0, 0, false⟩
  else ⟨l.cropW, l.cropH, false⟩

/-- The crop of a layer on a content raster: x, y, width, height. -/
def LayerCfg.crop (l : LayerCfg) (r : Raster) : Nat × Nat × Nat × Nat :=
  if l.kind = 3 then (l.cropX, l.cropY, l.cropW, l.cropH)
  else if l.cropW = 0 ∨ l.cropH = 0 then (0, 0, r.w, r.h)
  else (l.cropX, l.cropY, l.cropW, l.cropH)

/-- A layer of kind SOURCE, SURFACE or RAW whose crop size differs from its destination size. -/
def LayerCfg.scaled (l : LayerCfg) (r : Raster) : Bool :=
  let c := l.crop r
  decide (l.kind = 1 ∨ l.kind = 2 ∨ l.kind = 3) && decide (c.2.2.1 ≠ l.dstW ∨ c.2.2.2 ≠ l.dstH)

/-- Twice the bytes per pixel that a layer's fetch counts (R172). -/
def State.layerBytes2 (s : State) (l : LayerCfg) : Nat :=
  if l.kind = 1 then 9
  else if l.kind = 2 then
    match s.surf (BitVec.ofNat 32 l.src.toNat) with
    | some f => fmtBytes2 f.format
    | none => 0
  else if l.kind = 3 then fmtBytes2 l.rawFormat
  else 0

/-- The layer's format carries alpha (R189). -/
def State.layerAlpha (s : State) (l : LayerCfg) : Bool :=
  if l.kind = 2 then
    match s.surf (BitVec.ofNat 32 l.src.toNat) with
    | some f => fmtAlpha f.format
    | none => false
  else if l.kind = 3 then fmtAlpha l.rawFormat
  else false

/-! ## The occlusion cull (R167, R168) -/

/-- The part of a layer's destination on the raster. -/
def LayerCfg.onRaster (l : LayerCfg) (w h : Nat) : Rect :=
  { x0 := (max l.dstX 0).toNat, x1 := (min (l.dstX + l.dstW) w).toNat,
    y0 := (max l.dstY 0).toNat, y1 := (min (l.dstY + l.dstH) h).toNat }

/-- The layer is enabled, below the count, and shows something. -/
def HeadCfg.live (c : HeadCfg) (k : Nat) : Bool :=
  let l := c.layers.getD k LayerCfg.reset
  decide (k < c.count) && l.enable && decide (l.kind ≠ 0)

def HeadCfg.layer (c : HeadCfg) (k : Nat) : LayerCfg := c.layers.getD k LayerCfg.reset

/-- The fallback of a source's own: a conversion has that of its input, a re-entry source shows BLACK (R103, R177, R228). -/
def State.ownFallback (s : State) (n : Nat) : Nat :=
  let m := if 256 ≤ n ∧ n < 384 then (s.cnv (n - 256)).input else n
  if m < 256 then (s.src m).fallback else 0

/-- Layers with what validation fixes of their fallback: whether it is TRANSPARENT, the layer's own or its source's (R167). -/
def State.fixFallbacks (s : State) (c : HeadCfg) : HeadCfg :=
  { c with layers := c.layers.map fun l =>
      { l with clear := l.fallback == 1 || (l.fallback == 0xFF && l.kind == 1 && s.ownFallback (l.src.toNat % 65536) == 1) } }

/-- A layer occludes (R167); `trans`: a transition runs on layer 1. -/
def HeadCfg.occludes (c : HeadCfg) (trans : Bool) (k : Nat) : Bool :=
  let l := c.layer k
  c.live k && l.alpha == 4096 && l.opq && !l.clear && !(trans && k == 1)

/-- The tiles wholly inside a rectangle on the raster, as a rectangle of tiles 64 × 16. -/
def tilesInside (r : Rect) (w h : Nat) : Rect :=
  { x0 := ceilDiv r.x0 64, x1 := if r.x1 = w then ceilDiv w 64 else r.x1 / 64,
    y0 := ceilDiv r.y0 16, y1 := if r.y1 = h then ceilDiv h 16 else r.y1 / 16 }

/-- The tiles that a rectangle touches. -/
def tilesTouched (r : Rect) : Rect :=
  if r.empty then ⟨0, 0, 0, 0⟩ else { x0 := r.x0 / 64, x1 := ceilDiv r.x1 64, y0 := r.y0 / 16, y1 := ceilDiv r.y1 16 }

/-- The tiles culled from layer `k`, as rectangles of tiles. -/
def HeadCfg.culled (c : HeadCfg) (trans : Bool) (k : Nat) : List Rect :=
  let w := modeW c.mode
  let h := modeH c.mode
  ((List.range 8).filter fun i => decide (k < i) && c.occludes trans i).map fun i =>
    tilesInside ((c.layer i).onRaster w h) w h

/-- Culled tiles of a layer: those that its destination touches (HEAD.LCULL). -/
def HeadCfg.cullCount (c : HeadCfg) (trans : Bool) (k : Nat) : Nat :=
  let t := tilesTouched ((c.layer k).onRaster (modeW c.mode) (modeH c.mode))
  let l := (c.culled trans k).map fun r =>
    { x0 := max r.x0 t.x0, x1 := min r.x1 t.x1, y0 := max r.y0 t.y0, y1 := min r.y1 t.y1 : Rect }
  if c.live k then unionWeight l (fun a b => b - a) (fun a b => b - a) else 0

/-- Rectangles of a layer's destination on the raster and outside culled tiles. -/
def HeadCfg.composed (c : HeadCfg) (trans : Bool) (k : Nat) : List Rect :=
  let r := (c.layer k).onRaster (modeW c.mode) (modeH c.mode)
  minusRects r ((c.culled trans k).map fun t => { x0 := 64 * t.x0, x1 := 64 * t.x1, y0 := 16 * t.y0, y1 := 16 * t.y1 })

/-- Pixels composed of a layer. -/
def HeadCfg.composedPx (c : HeadCfg) (trans : Bool) (k : Nat) : Nat :=
  if c.live k then ((c.composed trans k).map Rect.area).sum else 0

/-! ## Compose load (R171) -/

/-- Pixels of one frame over all layers. -/
def HeadCfg.loadPx (c : HeadCfg) (trans : Bool) : Nat := ((List.range 8).map (c.composedPx trans)).sum

/-- The compose load exceeds 4,800 Mpix/s. -/
def HeadCfg.overBudget (c : HeadCfg) (trans : Bool) : Bool :=
  let r := modeRate c.mode
  decide (4800000000 * r.2 * c.window < c.loadPx trans * r.1 * 16)

/-- HEAD.LOAD.load: Mpix/s, rounded up. -/
def HeadCfg.loadMpix (c : HeadCfg) (trans : Bool) : Nat :=
  let r := modeRate c.mode
  ceilDiv (c.loadPx trans * r.1 * 16) (r.2 * c.window * 1000000)

/-! ## Fetch demand (R169, R172) -/

/-- The crop interval that a span of output maps onto, widened by a guard and clipped: for an unscaled axis the span
itself. `o` is the output span from the destination's edge, `n` the destination size, `m` the crop size. -/
def mapSpan (scaled : Bool) (lo hi n m guard : Nat) : Nat × Nat :=
  if scaled then (lo * m / n - guard, min m (ceilDiv (hi * m) n + guard)) else (lo, min m hi)

/-- Footprints of the composed rectangles of a layer, in crop pixels. -/
def LayerCfg.footprints (l : LayerCfg) (r : Raster) (parts : List Rect) : List Rect :=
  let c := l.crop r
  let sc := l.scaled r
  parts.map fun p =>
    let a := mapSpan sc ((p.x0 : Int) - l.dstX).toNat ((p.x1 : Int) - l.dstX).toNat l.dstW c.2.2.1 (ceilDiv l.tapsH 2)
    let b := mapSpan sc ((p.y0 : Int) - l.dstY).toNat ((p.y1 : Int) - l.dstY).toNat l.dstH c.2.2.2 (ceilDiv l.tapsV 2)
    { x0 := a.1, x1 := a.2, y0 := b.1, y1 := b.2 }

/-- The weight of an interval of an axis: its length, or on a degraded axis the inputs that are taken in it, of which
`below n` lie below `n` (R192). -/
def axisWeight (deg : Bool) (below : Nat → Nat) (lo hi : Nat) : Nat := if deg then below hi - below lo else hi - lo

/-- Frame lines of a crop below line `n` that a vertically degraded layer takes: from both fields for an interlaced head, from
the newest field alone for a progressive one (R190, R192). -/
def rowsBelow (il headIl : Bool) (cropH dstH n : Nat) : Nat :=
  let ab := rowsAB il headIl cropH dstH
  if il && headIl then takenBelow ab.1 ab.2 ((n + 1) / 2) + takenBelow ab.1 ab.2 (n / 2)
  else if il then takenBelow ab.1 ab.2 (n / 2)
  else takenBelow ab.1 ab.2 n

/-- Pixels fetched for a layer. -/
def HeadCfg.fetchPx (c : HeadCfg) (trans : Bool) (k : Nat) (r : Raster) : Nat :=
  let l := c.layer k
  let cr := l.crop r
  unionWeight (l.footprints r (c.composed trans k)) (axisWeight l.degH (takenBelow cr.2.2.1 l.dstW))
    (axisWeight l.degV (rowsBelow r.il (modeInterlaced c.mode) cr.2.2.2 l.dstH))

/-- Fetch tokens of a layer. -/
def State.layerTokens (s : State) (c : HeadCfg) (trans : Bool) (k : Nat) : Nat :=
  let l := c.layer k
  let rt := modeRate c.mode
  if c.live k && decide (l.kind ≠ 4) then
    ceilDiv (c.fetchPx trans k (s.layerRaster l) * s.layerBytes2 l * rt.1) (2 * rt.2 * 1000000000)
  else 0

/-- The configuration feeds an SDI destination. -/
def HeadCfg.feedsSdi (c : HeadCfg) : Bool := decide (c.dests.toNat % 2 ^ 128 ≠ 0)

/-- Fetch tokens that a head pays while it feeds no SDI destination (R26). -/
def HeadCfg.noSdiCost (c : HeadCfg) : Nat := if c.feedsSdi then 0 else streamTokens 18 c.mode

/-- Fetch tokens that a head's configuration needs (R26, R172). -/
def State.fetchNeed (s : State) (c : HeadCfg) (trans : Bool) : Nat :=
  ((List.range 8).map (s.layerTokens c trans)).sum + c.noSdiCost

end Sys2Proof.Machine
end

