-- ==== Sys2Proof/Machine/HeadCheck.lean ====
section
/-!
DEFINITION. Machine/HeadCheck.lean: landing flips and the checks of a commit (R130 to R132, R154, R173, R254, R259).
-/
namespace Sys2Proof.Machine

def State.dike (s : State) (h : Nat) : Dike := Tab.get (fun _ => Dike.reset) s.psn.dikes h
def State.setDike (s : State) (h : Nat) (v : Dike) : State :=
  s.updPsn fun p => { p with dikes := (Tab.set (fun _ => Dike.reset) p.dikes h v) }

/-! ## What a head will show next -/

/-- The configuration after the last queued commit. -/
def Head.last (h : Head) : HeadCfg := match h.queue.getLast? with | some c => c.cfg | none => h.applied

/-- A stop is queued. -/
def Head.stopping (h : Head) : Bool := h.queue.any fun c => c.kind == .stop

/-- The head runs, or a commit that starts it is queued. -/
def Head.active (h : Head) : Bool := decide (h.run ≠ .stopped) || !h.queue.isEmpty

/-- The heads that have an entry, with their numbers. -/
def State.heads (s : State) : List (Nat × Head) := s.hds.heads

def destBit (d : Nat) : BitVec 256 := BitVec.ofNat 256 (2 ^ d)
def HeadCfg.feeds (c : HeadCfg) (d : Nat) : Bool := c.dests.getLsbD d

/-- A FRAME or PTP target. -/
def Commit.timed (c : Commit) : Bool := match c.target with | .frame _ => true | .ptp _ _ => true | _ => false

/-- A queued commit brings destination `d` to its head: a take on a new head or of kind CLONE, or a commit that names it. A
take that brings none leaves the destinations of its head as they are (R116, R120). -/
def Commit.brings (c : Commit) (d : Nat) : Bool :=
  if c.kind = .take then c.moves && c.dest == d
  else decide (c.kind = .commit ∨ c.kind = .restore) && c.cfg.feeds d

/-- Queued commits with their heads. -/
def State.queued (s : State) : List (Nat × Commit) := s.heads.flatMap fun e => e.2.queue.map fun c => (e.1, c)

/-- The head that feeds a destination or will: that of the newest queued commit that brings it, else the head that feeds it
now. -/
def State.feeder (s : State) (d : Nat) : Option Nat :=
  let newest := (s.queued.filter fun p => p.2.brings d).foldl (fun (m : Option (Nat × Nat)) p =>
    match m with
    | some (t, _) => if t < p.2.stamp then some (p.2.stamp, p.1) else m
    | none => some (p.2.stamp, p.1)) none
  match newest with
  | some (_, h) => some h
  | none => (s.heads.find? fun e => decide (e.2.run ≠ .stopped) && e.2.applied.feeds d).map (·.1)

/-- What a head will show last, with the destinations that no queued commit of another head takes from it. -/
def State.lastOf (s : State) (h : Nat) : HeadCfg :=
  let c := (s.head h).last
  let keeps := (List.range 256).filter fun d => c.feeds d && (s.feeder d == some h || (s.feeder d).isNone)
  { c with dests := keeps.foldl (fun b d => b ||| destBit d) 0 }

/-- The destinations that a configuration feeds. -/
def HeadCfg.destList (c : HeadCfg) : List Nat := (List.range 256).filter fun d => c.feeds d

/-! ## PHC times as one number of ns -/

def State.phcTotalNs (s : State) : Nat := s.tim.phc / 4294967296
def totalNs (sec ns : Nat) : Nat := sec * 1000000000 + ns

/-! ## The next open sluice (R124, R254) -/

/-- The first raster period of a polder that begins at least 2 line times from now. -/
def State.nextPeriod (s : State) (p mode : Nat) : Nat :=
  let q := s.polder p
  let t := periodTicks (s.polderRate p)
  if q.running then
    if s.now + linesTicks mode 2 ≤ q.lastStart + t then q.count + 1 else q.count + 2
  else s.phcTotalNs * (s.polderRate p).1 / (1000000000 * (s.polderRate p).2) + 1

/-- The first frame whose sluice is open. -/
def State.nextOpenOf (s : State) (x : Head) (mode polder : Nat) : Nat :=
  if x.run = .stopped then
    let e := s.nextPeriod polder mode
    match x.lineAt with
    | some (f, _) => if e ≤ f then f else max (f + 2) e
    | none => e
  else x.nextOpen

/-- PHC time in ns of the flip of frame `f` of a polder's heads, at the nominal frame period. -/
def State.startFlipNs (s : State) (p mode f : Nat) : Nat :=
  let q := s.polder p
  let wait := if q.running then (q.lastStart + periodTicks (s.polderRate p)) - s.now else 0
  let base := if q.running then q.count + 1 else s.nextPeriod p mode
  let flip := match modeOf mode with | some m => m.flip - 1 | none => 0
  s.phcTotalNs + 2 * wait + linesNs mode flip + (f - base) * periodNs (s.polderRate p)

/-- Sluices of frames from `f` on that have closed, the hand-over frame left out. -/
def closedFrom (f nextOpen : Nat) (hand : Option Nat) : Nat :=
  let n := nextOpen - f
  match hand with
  | some g => if f ≤ g ∧ g < nextOpen then n - 1 else n
  | none => n

/-- The landing of a target on head `x`: none where it lies in the past or more than 3,600 s ahead (CS_BAD_PARAM); else the
landing frame where it is known, and whether the commit is late. That of a PTP target is not known before a sluice finds it
(R138). -/
def State.landing (s : State) (x : Head) (mode polder : Nat) (t : Target) : Option (Option Nat × Bool) :=
  let e := s.nextOpenOf x mode polder
  let rate := s.polderRate polder
  match t with
  | .asap => some (some e, false)
  | .instar _ => some (some e, false)
  | .frame f =>
    if s.phcTotalNs + 3600000000000 < s.startFlipNs polder mode f then none
    else
      let g := if x.handAt = some f then f + 1 else f
      if e ≤ g then some (some g, decide (g ≠ f))
      else if closedFrom g e x.handAt = 1 then some (some e, true)
      else none
  | .ptp sec ns =>
    let t := totalNs sec ns
    if s.phcTotalNs + 3600000000000 < t then none
    else if x.run = .stopped then
      let flip := s.startFlipNs polder mode e
      let per := periodNs rate
      if t + 2 * per ≤ flip then none
      else if t + per ≤ flip then some (some e, true)
      else some (none, false)
    else
      let before := fun (o : Option (Nat × Nat)) => match o with | some (a, b) => decide (t ≤ totalNs a b) | none => false
      if before x.predPrev then none
      else if before x.predFlip then some (some e, true)
      else some (none, false)

/-! ## Destinations (R154, R248, R259, R260, R266) -/

def State.dest (s : State) (d : Nat) : Dest := Tab.get (fun _ => Dest.reset) s.out.dests d
def State.setDest (s : State) (d : Nat) (v : Dest) : State :=
  s.updOut fun o => { o with dests := (Tab.set (fun _ => Dest.reset) o.dests d v) }
def State.updDest (s : State) (d : Nat) (f : Dest → Dest) : State := s.setDest d (f (s.dest d))

/-- The send flow of an IP destination. -/
def State.sendFlow (s : State) (d : Nat) : Option Flow := s.ing.flows.find? fun f => f.kind == 5 && f.target == d

/-- Interface of TX_MAP that a lane runs for a mode, 0 when it cannot: QUAD on a lane that is not L4k acts as AUTO. -/
def State.txInterface (s : State) (d mode : Nat) : Nat :=
  let i := s.fget (Adr.txMap d) 3 0
  let smp := s.fget (Adr.txMap d) 5 4
  let l := sdiInterfaces mode smp
  let i := if i = 7 ∧ d % 4 ≠ 0 then 0 else i
  if i = 0 then l.headD 0 else if l.contains i then i else 0

/-- A quad-link member. -/
def State.isQuadMember (s : State) (d : Nat) : Bool :=
  decide (d < 128 ∧ d % 4 ≠ 0) && (s.dest d).quadMember

/-- A destination that a configuration starts feeding cannot be fed by it. -/
def State.destStateBad (s : State) (h : Nat) (c : HeadCfg) (d : Nat) : Bool :=
  let x := s.dest d
  let movesFrom := match x.head with | some g => decide (g ≠ h) && decide ((s.head g).applied.mode ≠ c.mode) | none => false
  if x.head = some h then false
  else if d < 128 then
    let i := s.txInterface d c.mode
    movesFrom || i == 0 || s.isQuadMember d ||
    (i == 7 && [1, 2, 3].any fun k => (s.dest (d + k)).head.isSome || c.feeds (d + k))
  else movesFrom || (match s.sendFlow d with | some f => f.p0 != c.mode | none => false)

/-- The owner tag of a destination: of the head that feeds it, else of its send flow; 0 for none. -/
def State.destOwner (s : State) (d : Nat) : Nat :=
  match s.feeder d with
  | some h => (s.head h).owner
  | none => match s.sendFlow d with | some f => f.owner | none => 0

/-! ## The snapshot (R156, R186) -/

/-- A layer with the taps and sets of its scaler. -/
def State.withTaps (s : State) (l : LayerCfg) : LayerCfg :=
  if l.scaler < 128 then
    let x := s.scl l.scaler
    { l with tapsH := x.tapsH, tapsV := x.tapsV, setH := x.setH, setV := x.setV, gang := decide (x.state = .gangLead) }
  else l

/-- The shadow as a commit takes it: layer 7 of an enabled dike keeps the content that the head has (R150). -/
def State.snapshot (s : State) (h : Nat) : HeadCfg :=
  let x := s.head h
  let c := { x.shadow with layers := x.shadow.layers.map s.withTaps }
  if c.dike then
    let keep := if x.last.dike then x.last.layer 7 else LayerCfg.reset
    { c with layers := c.layers.set 7 keep }
  else c

/-! ## The checks of R173 -/

def HeadCfg.liveLayers (c : HeadCfg) : List LayerCfg := ((List.range 8).filter c.live).map c.layer

/-- Offsets of a RAW layer's region: first byte and end. -/
def LayerCfg.rawSpan (l : LayerCfg) : Nat × Nat :=
  (l.src.toNat % 2 ^ 36, l.src.toNat % 2 ^ 36 + (l.cropY + l.cropH) * l.rawPitch)

/-- RAW rules of R164 and R286. -/
def State.rawBad (s : State) (l : LayerCfg) : Bool :=
  let r := l.rawSpan
  decide (l.cropW = 0 ∨ l.cropH = 0) || (isVid l.rawFormat && decide (l.cropX % 2 = 1 ∨ l.cropW % 2 = 1)) ||
  decide (r.1 % 64 ≠ 0) || decide (68719476736 < r.2) || decide (l.rawPitch < rowBytes l.rawFormat l.cropW) ||
  decide (l.rawPitch < rowBytes l.rawFormat (l.cropX + l.cropW)) ||
  s.dikeStores.any fun f =>
    decide (r.1 < f.base + f.units * 4096 ∧ f.base < r.2)

/-- Order 1. -/
def State.order1 (s : State) (c : HeadCfg) : Bool :=
  (c.dike && decide (c.count < 8)) ||
  ((List.range 8).any fun k => decide (c.count ≤ k) && (c.layer k).enable) ||
  c.liveLayers.any fun l =>
    (l.kind == 2 && (match s.surf (BitVec.ofNat 32 l.src.toNat) with
      | some f => decide (l.cropW ≠ 0 ∧ l.cropH ≠ 0 ∧ (f.width < l.cropX + l.cropW ∨ f.height < l.cropY + l.cropH))
      | none => false)) ||
    (l.kind == 3 && s.rawBad l) ||
    (l.scaled (s.layerRaster l) && l.scaler == 0xFFFF) ||
    (decide (l.scaler < 128) && decide ((s.scl l.scaler).state = .gangMember))

/-- Handles that a configuration's live layers name: surfaces and slates. -/
def HeadCfg.handles (c : HeadCfg) : List (BitVec 32) :=
  c.liveLayers.flatMap fun l =>
    (if l.kind = 2 then [BitVec.ofNat 32 l.src.toNat] else []) ++ (if l.fallback = 3 ∧ l.slate ≠ 0 then [l.slate] else [])

/-- Handles outside the dike layer. -/
def HeadCfg.ownHandles (c : HeadCfg) : List (BitVec 32) :=
  (if c.dike then { c with layers := c.layers.set 7 LayerCfg.reset } else c).handles

/-- Order 2. -/
def State.order2 (s : State) (c : HeadCfg) : Bool :=
  (c.ownHandles.any fun h => !s.surfOk h) ||
  c.liveLayers.any fun l => decide (l.scaler < 128) && decide ((s.scl l.scaler).state = .free)

/-- Order 3: the first owner tag that the ring may not use. -/
def State.order3 (s : State) (may : Nat → Bool) (h : Nat) (c : HeadCfg) : Option Nat :=
  let tags := (c.ownHandles.map s.surfOwner) ++
    (c.liveLayers.flatMap fun l => (if l.scaler < 128 then [(s.scl l.scaler).owner] else []) ++
      (if l.kind = 1 ∧ l.src.toNat % 65536 < 384 then [s.sourceOwner (l.src.toNat % 65536)] else [])) ++
    ((c.destList.filter fun d => decide ((s.dest d).head ≠ some h)).map s.destOwner)
  tags.find? fun t => !may t

/-- A scaler that another layer of an applied or queued commit uses, or that the configuration names twice. -/
def State.scalerClash (s : State) (h : Nat) (c : HeadCfg) : Bool :=
  (List.range 8).any fun k =>
    let n := (c.layer k).scaler
    c.live k && decide (n < 128) &&
    (((List.range 8).any fun i => decide (i ≠ k) && c.live i && (c.layer i).scaler == n) ||
     s.heads.any fun e =>
       (((if e.2.run = .stopped then [] else [e.2.applied]) ++ (e.2.queue.map (·.cfg))).any fun a =>
         (List.range 8).any fun i => !(e.1 == h && i == k) && a.live i && (a.layer i).scaler == n))

/-- A source that the head's polder rules out: re-entry of a head in another polder, a converted source of another one. -/
def State.polderClash (s : State) (polder : Nat) (l : LayerCfg) : Bool :=
  let n := l.src.toNat % 65536
  l.kind == 1 &&
  (if 384 ≤ n then decide ((s.head (n - 384)).run ≠ .stopped) && decide ((s.head (n - 384)).applied.polder ≠ polder)
   else if 256 ≤ n then
     decide ((s.cnv (n - 256)).state ≠ .free) && decide ((s.cnv (n - 256)).polder ≠ polder)
   else false)

/-- What an enabled dike forbids (R293). -/
def State.dikeForbids (s : State) (priv : Bool) (h : Nat) (c : HeadCfg) : Bool :=
  let a := s.lastOf h
  (a.dike && (!c.dike || decide (c.count < a.count) || (!priv && decide (a.dests &&& ~~~c.dests ≠ 0)))) ||
  (!priv && c.destList.any fun d =>
    match (s.dest d).head with
    | some g => decide (g ≠ h) && (s.head g).applied.dike
    | none => false)

/-- Order 4. -/
def State.order4 (s : State) (priv : Bool) (h : Nat) (c : HeadCfg) : Bool :=
  let x := s.head h
  (if x.active then decide (x.last.mode ≠ c.mode ∨ x.last.polder ≠ c.polder)
   else !isMode c.mode || !s.polderReady c.polder || !sameRate (modeRate c.mode) (s.polderRate c.polder)) ||
  (c.destList.any fun d => s.destStateBad h c d) || s.scalerClash h c ||
  (c.liveLayers.any fun l => s.polderClash c.polder l) ||
  (c.dike && !x.last.dike && decide ((s.dike h).slot = none)) || s.dikeForbids priv h c

/-- The axes of a scaled layer that do not fit its line buffer: (vertical, horizontal). -/
def State.lbShort (s : State) (c : HeadCfg) (l : LayerCfg) (r : Raster) : Bool × Bool :=
  let cr := l.crop r
  if l.scaled r && decide (l.scaler < 128) then
    let ab := rowsAB r.il (modeInterlaced c.mode) cr.2.2.2 l.dstH
    let cap := lineCapacity (storedWidth cr.2.2.1 l.dstW l.dstX (modeW c.mode)) (s.layerAlpha l) l.gang
    (!(fitsV l.tapsV ab.1 cap ab.2), !(fitsH cr.2.2.1 l.dstW))
  else (false, false)

/-- Order 5: the configuration with degraded axes marked (R191), or none where a layer that may not degrade is short. -/
def State.order5 (s : State) (c : HeadCfg) : Option HeadCfg :=
  let lb := fun k => s.lbShort c (c.layer k) (s.layerRaster (c.layer k))
  if (List.range 8).any fun k => c.live k && !(c.layer k).allowDegrade && ((lb k).1 || (lb k).2) then none
  else some { c with layers := ((List.range 8).map fun k =>
    if c.live k then { c.layer k with degV := (lb k).1, degH := (lb k).2 } else { c.layer k with degV := false, degH := false }) }

def HeadCfg.degraded (c : HeadCfg) : Bool := c.liveLayers.any fun l => l.degV || l.degH

/-- Orders 1 to 6 of R173 for a configuration: a refusal code, or the configuration as it will be applied. -/
def State.checkCfg (s : State) (may : Nat → Bool) (priv : Bool) (h : Nat) (c : HeadCfg) : Nat ⊕ HeadCfg :=
  let c := s.fixFallbacks c
  if s.order1 c then .inl csBadParam
  else if s.order2 c then .inl csNotFound
  else
    match s.order3 may h c with
    | some t => .inl (s.ownerCode t)
    | none =>
      if s.order4 priv h c then .inl csState
      else
        match s.order5 c with
        | none => .inl csLbShort
        | some c => if c.overBudget false then .inl csBudget else .inr c

end Sys2Proof.Machine
end

