-- ==== Sys2Proof/Machine/Heads.lean ====
section
/-!
DEFINITION. Machine/Heads.lean: takes, commits, salvos, head and layer set-up, head stop, leave of a head ("Takes, salvos
and the sluice", "Layers and composition", R404, R405).
-/
namespace Sys2Proof.Machine

/-! ## Commit flags and their events (R145, R147) -/

/-- A flag of CMT_STAT with its event. -/
def State.cmtFlag (s : State) (h bit mask code ring : Nat) (seq : BitVec 32) (last : Nat) : State :=
  let s := s.setBit (Adr.cmtStat h) bit
  if s.flag (Adr.cmtMask h) mask then s.occur h code [(20, 2, h), (22, 1, ring), (24, 4, seq.toNat), (28, 4, last)] else s

/-- A commit is late: its flag and its counter move when its sluice is known to have closed, its event follows at the flip
that applies it (R131, R147; log 88). -/
def State.sluiceMiss (s : State) (h : Nat) : State := (s.count (Adr.cmtCnt h) 15 0 1).setBit (Adr.cmtStat h) 8

/-- EV_SLUICE_MISS, with the frame count at which the late commit was applied (R147). -/
def State.missEvent (s : State) (h : Nat) (c : Commit) (frame : Nat) : State :=
  if c.missed && s.flag (Adr.cmtMask h) 0 then s.occur h 0x0220 [(20, 2, h), (22, 1, c.ring), (24, 4, c.seq.toNat), (28, 4, frame)]
  else s

/-! ## Queueing -/

/-- The part of a commit that its descriptor gives. -/
def Job.commit (j : Job) (kind : CommitKind) (cfg : HeadCfg) (target : Target) (land : Option Nat) (late : Bool) : Commit :=
  { ring := j.ring, stamp := j.stamp, seq := j.seq, opcode := j.opcode, owner := j.owner, kind := kind, cfg := cfg,
    target := target, guard := (match target with | .instar v => some v | _ => none), land := land, late := late, missed := late,
    held := 0, wasHeld := false, degraded := false, trans := .cut, dur := 1,
    audioFollow := false, fetch := 0, power := 0, newScaler := none, newConv := none, salvo := none, refs := cfg.handles,
    locked := false, peak := 0, split := none, moves := false, lends := [], delay := 0, dest := 0,
    clone := false, old := none }

/-- The raster period from which a stopped head with commits queued tries to start: the landing frame of the first one, or,
for a PTP target, the first open frame, since each sluice looks for its landing flip (R138, R254). -/
def State.startAt (s : State) (x : Head) : Option (Nat × Nat) :=
  (x.queue.head?).map fun c => (max (c.land.getD 0) (s.nextPeriod c.cfg.polder c.cfg.mode), 0)

/-- Queue a validated commit: it takes its references, a late one sets its flag, and the first one on a stopped head fixes
the raster period at which the head starts (R254). -/
def State.enqueue (s : State) (h : Nat) (c : Commit) : State :=
  let s := s.takeRefs c.refs
  let x := s.head h
  let y := { x with queue := x.queue ++ [c] }
  let s := s.setHead h
    { y with lineAt := (if x.run = .stopped ∧ x.lineAt = none ∧ c.kind ≠ .stop then s.startAt y else x.lineAt) }
  if c.late then s.sluiceMiss h else s

/-- The salvos that still have a member queued. -/
def State.salvoLives (s : State) (a : Armed) : Bool :=
  s.headList.any fun h => h.queue.any fun c => c.owner == a.owner && c.salvo == some (a.salvo, a.lockstep)

/-- An audio route at a commit: it switches at the position of the flip that applies the commit, and is cancelled with a
commit that is not applied (R330). Its descriptor ends there, its switch position being fixed (R562). -/
def State.routesOf (s : State) (c : Commit) (applied : Bool) : State :=
  let mine := fun (w : AudSwitch) => decide (w.due = .commit c.ring c.seq)
  let gone := s.aud.switches.filter mine
  if applied then
    let s := s.updAud fun a =>
      { a with switches := a.switches.map fun w => if mine w then { w with due := .pos (a.n + 1) } else w }
    gone.foldl (fun s w => s.endAt w.ring w.stamp) s
  else
    let s := s.updAud fun a => { a with switches := a.switches.filter fun w => !mine w }
    gone.foldl (fun s w => s.completeAt w.ring w.stamp csCancelled 0) s

/-- EV_RESTORE_DONE follows the last head of a restoration (R505). -/
def State.restEnd (s : State) : State :=
  let r := s.rest
  if r.phase = .running ∧ r.begun = true ∧ r.waiting = [] ∧ r.landing = [] then
    (s.updRest fun r => { r with phase := .done }).occur 284 0x1111 [(24, 2, r.restored), (26, 2, r.partly), (28, 2, r.failed)]
  else s

/-- A restored head's outcome: 0 restored, 1 partial, 2 failed with the code that refused it (R505, R508). -/
def State.restOutcome (s : State) (h outcome code : Nat) : State :=
  let s := s.updRest fun r =>
    { r with waiting := r.waiting.filter (· ≠ h), landing := r.landing.filter (· ≠ h),
             restored := r.restored + b2n (outcome == 0), partly := r.partly + b2n (outcome == 1), failed := r.failed + b2n (outcome == 2) }
  (s.occur h 0x0242 [(20, 2, h), (22, 1, outcome), (24, 4, (s.head h).instar.toNat), (28, 2, code)]).restEnd

/-- A commit completes and leaves its salvo (R140). -/
def State.commitDone (s : State) (c : Commit) (status : Nat) (result : BitVec 64) : State :=
  if c.kind = .restore then
    (if status < 0x100 then s.restOutcome c.dest (b2n c.clone) 0 else s.restOutcome c.dest 2 status)
  else
  let s := (s.completeAt c.ring c.stamp status result).routesOf c (decide (status < 0x100))
  s.updHds fun d => { d with armed := (d.armed.filter fun a => s.salvoLives a) }

/-! ## Leave of a head -/

/-- Fetch tokens that the head holds, those of queued takes among them. -/
def Head.committed (x : Head) : Nat := x.fetchGrant + (x.queue.map (·.fetch)).sum

/-- What a transition frame composes: the old picture on layer 0, the new source on layer 1 (R118). -/
def HeadCfg.mixed (c : HeadCfg) (old : LayerCfg) : HeadCfg :=
  { c with layers := ((c.layers.set 0 old).set 1 (c.layer 0)) }

/-- Fetch tokens that what is applied needs. -/
def State.needNow (s : State) (x : Head) : Nat :=
  if x.run = .stopped then 0
  else
    match x.trans with
    | some t => max (s.fetchNeed (x.applied.mixed t.old) true) (s.fetchNeed x.applied false)
    | none => s.fetchNeed x.applied false

/-- The most that a module-managed head needs for what is applied and queued. -/
def State.needMost (s : State) (x : Head) : Nat := (x.queue.map (·.peak)).foldl max (s.needNow x)

/-- Return what a module-managed head holds beyond its need (R120). -/
def State.trimGrant (s : State) (h : Nat) : State :=
  let x := s.head h
  if x.managed = .module then
    let r := min x.fetchGrant (x.committed - s.needMost x)
    (s.setHead h { x with fetchGrant := x.fetchGrant - r }).leaveRet 0 r
  else s

/-- A head becomes free: its grants return; what a take claimed for it is released (R157). -/
def State.freeHead (s : State) (h : Nat) : State :=
  let x := s.head h
  let s := match x.modScaler with | some n => (s.freeScl n).2 | none => s
  let s := match x.modConv with | some m => s.releaseCnv m | none => s
  let s := s.setHead h
    { x with owner := 0, managed := .free, shadow := HeadCfg.reset, fetchGrant := 0, powerGrant := 0, trans := none,
             modScaler := none, modConv := none, lineAt := none, leaving := false }
  s.leaveRet x.powerGrant x.fetchGrant

/-- Fetch tokens of a list of heads. -/
def lendSum (l : List (Nat × Nat)) : Nat := (l.map (·.2)).sum

/-- A stopped head that has lost a commit: free when nothing is queued, else it starts with what is left (R139). -/
def State.startLess (s : State) (h : Nat) : State :=
  let x := s.head h
  if x.run = .stopped ∧ x.queue = [] then
    if x.managed = .module then s.freeHead h else s.setHead h { x with lineAt := none }
  else if x.run = .stopped ∧ x.resume = false ∧ x.lineAt.isSome = true then s.setHead h { x with lineAt := s.startAt x }
  else s

/-- Take a commit out of the queue: its leave and claims return, its references drop (R139, R173). -/
def State.dropCommit (s : State) (h : Nat) (c : Commit) : State :=
  let s := s.updHead h fun x =>
    { x with queue := (x.queue.filter fun d => d.stamp ≠ c.stamp), fetchGrant := x.fetchGrant + c.fetch }
  let s := match c.newScaler with | some n => (s.freeScl n).2 | none => s
  let s := match c.newConv with | some m => s.releaseCnv m | none => s
  (((s.dropRefs c.refs).leaveRet 0 (lendSum c.lends)).trimGrant h).startLess h

/-! ## Heads under software (R79, R154) -/

/-- A descriptor of the expert path takes a head over; a module-managed head's shadow becomes what it last got. The module
runs no transition on it from then on (R149; log 89). -/
def State.claimHead (s : State) (h owner : Nat) : State :=
  let last := s.lastOf h
  s.updHead h fun x =>
    { x with owner := owner, managed := .software, shadow := (if x.managed = .module then last else x.shadow), trans := none,
             leaving := false }

/-- The heads that a commit of head `h`, which feeds `ds`, leaves without an SDI destination, with the fetch tokens that each
then pays (R26, R115). One that a CLONE take leaves without any destination is to be released and pays nothing (R123). -/
def State.stripped (s : State) (h : Nat) (ds : BitVec 256) (clone : Bool) : List (Nat × Nat) :=
  s.heads.filterMap fun e =>
    let c := s.lastOf e.1
    let r := { c with dests := c.dests &&& ~~~ds }
    if e.1 ≠ h ∧ e.2.active = true ∧ c.feedsSdi = true ∧ r.feedsSdi = false ∧
        ¬(clone = true ∧ e.2.managed = .module ∧ r.dests = 0) then some (e.1, r.noSdiCost) else none

/-- A software-managed head among them that does not hold what it then needs. -/
def State.strippedShort (s : State) (l : List (Nat × Nat)) : Bool :=
  l.any fun e => decide ((s.head e.1).managed = .software) && decide ((s.head e.1).fetchGrant < s.fetchNeed (s.lastOf e.1) false + e.2)

/-- Those that the module asks for: the heads that it manages. -/
def State.lent (s : State) (l : List (Nat × Nat)) : List (Nat × Nat) := l.filter fun e => decide ((s.head e.1).managed = .module)

/-- Commits that count against the 16 of R135: a stop is none. -/
def Head.commits (x : Head) : Nat := (x.queue.filter fun c => c.kind != .stop).length

/-- OP_HEAD_SET's fields out of range. -/
def headSetBad (d : List Byte) : Bool :=
  let m := fun k => decide (bits (u16 d 10) k k = 1)
  decide (255 < u16 d 8) || (m 0 && (!isMode (u8 d 12) || decide (31 < u8 d 13))) ||
  (m 1 && !decide (8 ≤ u8 d 14 ∧ u8 d 14 ≤ 15)) || (m 2 && !decide (2 ≤ u8 d 15 ∧ u8 d 15 ≤ 8)) ||
  (m 5 && decide (1 < u8 d 56))

/-- The selected fields written into a shadow. -/
def HeadCfg.headSet (c : HeadCfg) (d : List Byte) : HeadCfg :=
  let m := fun k => decide (bits (u16 d 10) k k = 1)
  { c with mode := (if m 0 then u8 d 12 else c.mode), polder := (if m 0 then u8 d 13 else c.polder),
           window := (if m 1 then u8 d 14 else c.window), count := (if m 2 then u8 d 15 else c.count),
           dests := (if m 3 then BitVec.ofNat 256 (leNat (bytesAt d 16 32)) else c.dests),
           background := (if m 4 then BitVec.ofNat 36 (u64 d 48) else c.background),
           dike := (if m 5 then decide (u8 d 56 = 1) else c.dike) }

/-- OP_HEAD_SET. -/
def execOpHeadSet (n : Fin 64) (s : State) : Out3 :=
  .next (s.runOp n 0x10 (fun _ => true) fun j s =>
    let h := u16 j.d 8
    match firstFail [(headSetBad j.d, csBadParam), (!j.mayUse (s.head h).owner, s.ownerCode (s.head h).owner)] with
    | some c => s.complete j c 0
    | none =>
      ((s.claimHead h j.owner).updHead h fun x => { x with shadow := x.shadow.headSet j.d }).complete j csOk 0)

/-- OP_LAYER_SET's fields out of range (R156). -/
def layerSetBad (d : List Byte) : Bool :=
  let k := u8 d 12
  let f := u8 d 13
  decide (255 < u16 d 8) || decide (7 < u8 d 10) || decide (4 < k) || !(decide (f ≤ 3) || f == 0xFF) ||
  !(u16 d 14 == 0 || decide (20 ≤ u16 d 14 ∧ u16 d 14 ≤ 60000)) || (k == 1 && decide (639 < u16 d 16)) ||
  decide (8192 < u16 d 28 ∨ 8192 < u16 d 30) ||
  !decide (-8192 ≤ s16 d 32 ∧ s16 d 32 ≤ 8191 ∧ -8192 ≤ s16 d 34 ∧ s16 d 34 ≤ 8191) ||
  !decide (1 ≤ u16 d 36 ∧ u16 d 36 ≤ 8192 ∧ 1 ≤ u16 d 38 ∧ u16 d 38 ≤ 8192) || decide (4096 < u16 d 40) ||
  !(decide (u16 d 42 ≤ 127) || u16 d 42 == 0xFFFF) || (decide (f = 3) != decide (u32 d 44 ≠ 0)) ||
  (if k = 3 then decide (u32 d 48 % 64 ≠ 0) || !isFmt (u8 d 52) else decide (u32 d 48 ≠ 0 ∨ u8 d 52 ≠ 0))

/-- The layer entry that OP_LAYER_SET writes. -/
def layerOf (d : List Byte) : LayerCfg :=
  { LayerCfg.reset with
    enable := ubit d 11 0, opq := ubit d 11 1, allowDegrade := ubit d 11 2, premult := ubit d 11 3, holdOff := ubit d 11 4,
    rearm := ubit d 11 5, kind := u8 d 12, fallback := u8 d 13, holdMs := u16 d 14, src := BitVec.ofNat 64 (u64 d 16),
    cropX := u16 d 24, cropY := u16 d 26, cropW := u16 d 28, cropH := u16 d 30, dstX := s16 d 32, dstY := s16 d 34,
    dstW := u16 d 36, dstH := u16 d 38, alpha := u16 d 40, scaler := u16 d 42, slate := BitVec.ofNat 32 (u32 d 44),
    rawPitch := u32 d 48, rawFormat := u8 d 52 }

/-- OP_LAYER_SET. -/
def execOpLayerSet (n : Fin 64) (s : State) : Out3 :=
  .next (s.runOp n 0x11 (fun _ => true) fun j s =>
    let h := u16 j.d 8
    let x := s.head h
    let t := s.claimHead h j.owner
    match firstFail [(layerSetBad j.d, csBadParam), (!j.mayUse x.owner, s.ownerCode x.owner),
                     ((t.head h).shadow.dike && u8 j.d 10 == 7, csState)] with
    | some c => s.complete j c 0
    | none =>
      (t.updHead h fun x =>
        { x with shadow := { x.shadow with layers := x.shadow.layers.set (u8 j.d 10) (layerOf j.d) } }).complete j csOk 0)

/-! ## Targets (R117, R129, R130) -/

/-- The target of a take, commit or arm; none where its fields are out of range. -/
def targetOf (kind target ns : Nat) : Option Target :=
  if kind = 0 then (if target = 0 ∧ ns = 0 then some .asap else none)
  else if kind = 1 then (if ns = 0 then some (.frame target) else none)
  else if kind = 2 then
    (if target < 281474976710656 ∧ ns < 1000000000 then some (.ptp target ns) else none)
  else if kind = 3 then (if target < 4294967296 ∧ ns = 0 then some (.instar (BitVec.ofNat 32 target)) else none)
  else none

/-- Is a salvo armed under an owner tag? -/
def State.salvoArmed (s : State) (owner salvo : Nat) : Bool := s.hds.armed.any fun a => a.owner == owner && a.salvo == salvo

/-! ## OP_COMMIT (R129, R173) -/

/-- A refused take or commit: its code, and the leave that the module asked for. -/
structure TakeNo where
  code : Nat
  power : Nat
  fetch : Nat
  deriving DecidableEq, Repr

/-- Validate and queue a commit of a head's shadow. -/
def State.submitCommit (s : State) (j : Job) (h : Nat) (t : Target) (guard : Option (BitVec 32)) (salvo : Option (Nat × Bool)) :
    TakeNo ⊕ State :=
  let x := s.head h
  let s' := s.claimHead h j.owner
  let c := s'.snapshot h
  match s'.landing x (if x.active then x.last.mode else c.mode) (if x.active then x.last.polder else c.polder) t with
  | none => .inl ⟨csBadParam, 0, 0⟩
  | some (land, late) =>
    if !j.mayUse x.owner then .inl ⟨s.ownerCode x.owner, 0, 0⟩
    else if 16 ≤ x.commits then .inl ⟨csNoResource, 0, 0⟩
    else
      match s'.checkCfg j.mayUse j.priv h c with
      | .inl code => .inl ⟨code, 0, 0⟩
      | .inr c =>
        let bare := s.stripped h c.dests false
        let lends := s.lent bare
        if x.stopping then .inl ⟨csState, 0, 0⟩
        else if x.fetchGrant < s.fetchNeed c false ∨ (x.run = .stopped ∧ x.powerGrant < 6) ∨ s.strippedShort bare = true then
          .inl ⟨csNoLeave, 0, 0⟩
        else if s.leaveFits 0 (lendSum lends) = false then .inl ⟨csNoLeave, 0, lendSum lends⟩
        else
          let k := j.commit .commit c t land late
          let k := { k with degraded := c.degraded, salvo := salvo, peak := s.fetchNeed c false, lends := lends,
                            guard := (match guard with | some v => some v | none => k.guard) }
          .inr ((s'.leaveTake 0 (lendSum lends)).enqueue h k)

/-! ## OP_TAKE (R117 to R123) -/

/-- Fields of OP_TAKE out of range. -/
def takeBad (d : List Byte) : Bool :=
  let src := u16 d 10
  decide (255 < u16 d 8) || decide (1 < u8 d 12) || decide (2 < u8 d 13) || decide (3 < u8 d 16) || decide (4 < u8 d 22) ||
  decide (1 < u8 d 23) ||
  (if u8 d 12 = 1 then decide (255 < src) || decide (u8 d 13 ≠ 0) || src == u16 d 8 else decide (639 < src) && src != 0xFFFF) ||
  !decide (1 ≤ u16 d 14 ∧ u16 d 14 ≤ 1000) || (u8 d 13 == 0 && u16 d 14 != 1) || (u8 d 20 != 0 && !isMode (u8 d 20)) ||
  (decide (31 < u8 d 21) && u8 d 21 != 0xFF) || (targetOf (u8 d 16) (u64 d 24) (u32 d 32)).isNone

/-- What a take resolves to (R120). -/
structure TakePlan where
  head : Nat
  /-- a new head -/
  fresh : Bool
  cfg : HeadCfg
  trans : TransKind
  dur : Nat
  /-- scaler (ganged) and slice (group, mode, scan) to claim -/
  scaler : Option (Nat × Bool)
  conv : Option (Nat × Bool × Nat × Nat)
  split : Option Nat
  moves : Bool
  lends : List (Nat × Nat)
  /-- leave of the head: power, fetch; of everything; peak of the head -/
  power : Nat
  fetch : Nat
  allPower : Nat
  allFetch : Nat
  peak : Nat
  /-- the transition or the converter was reduced (R121), or an axis degraded -/
  degraded : Bool
  deriving DecidableEq, Repr

def refuse (code : Nat) : TakeNo ⊕ TakePlan := .inl ⟨code, 0, 0⟩

/-- The lowest-numbered free head. -/
def State.freeHeadNo (s : State) : Option Nat :=
  (List.range 256).find? fun h => decide ((s.head h).managed = .free ∧ (s.head h).run = .stopped) && (s.head h).queue.isEmpty

/-- The lowest-numbered polder that is ready and runs a mode's frame rate. -/
def State.polderFor (s : State) (mode : Nat) : Option Nat :=
  (List.range 32).find? fun p => s.polderReady p && sameRate (s.polderRate p) (modeRate mode)

/-- The layer that a take builds for a source, before its scaler: BLACK, FILL or NATIVE. -/
def takeLayer (src : Nat) (r : Option Raster) (w h fit : Nat) (degrade : Bool) : LayerCfg :=
  let full : LayerCfg := { LayerCfg.reset with enable := true, dstW := w, dstH := h, allowDegrade := degrade }
  if src = 0xFFFF then { full with kind := 4 }
  else
    let full := { full with kind := 1, src := BitVec.ofNat 64 src }
    match fit, r with
    | 1, some r =>
      if r.w = w ∧ r.h = h then full
      else
        let cw := min r.w w
        let ch := min r.h h
        { full with cropX := (r.w - cw) / 2, cropY := (r.h - ch) / 2, cropW := cw, cropH := ch,
                    dstX := (((w - cw) / 2 : Nat) : Int), dstY := (((h - ch) / 2 : Nat) : Int), dstW := cw, dstH := ch }
    | _, _ => full

/-- Does the layer fit with a scaler of 4 taps, single or ganged? (vertical short, horizontal short) -/
def State.takeShort (s : State) (c : HeadCfg) (l : LayerCfg) (r : Raster) (gang : Bool) : Bool × Bool :=
  s.lbShort c { l with scaler := 0, tapsH := 4, tapsV := 4, gang := gang } r

/-- The converter mode of a take (R122, R238): none where it uses no converter; inl where it is refused. -/
def State.takeConv (s : State) (req src polder : Nat) : Nat ⊕ Option Nat :=
  let im := s.inputNominal src
  let ok := ratePairOk (modeRate im) (s.polderRate polder)
  if req = 0 ∨ src = 0xFFFF then .inr none
  else if req = 4 then
    if (256 ≤ src ∧ src < 384) ∨ im = 0 ∨ sameRate (modeRate im) (s.polderRate polder) = true then .inr none
    else .inr (some (if ok then 3 else 1))
  else if 256 ≤ src ∧ src < 384 then .inl csBadParam
  else if req ≠ 1 ∧ im ≠ 0 ∧ ok = false then .inl csBadParam
  else .inr (some req)

/-- Where a take goes: the head that feeds its destination or will, and the mode and the polder, as far as they are known. -/
structure TakeSite where
  old : Option Nat
  mode : Nat
  polder : Option Nat
  deriving DecidableEq, Repr

/-- Where a ROUTE take goes (R120, 1 and 3). -/
def State.takeSite (s : State) (d : List Byte) : TakeSite :=
  match s.feeder (u16 d 8) with
  | some g => ⟨some g, (s.head g).last.mode, some (s.head g).last.polder⟩
  | none =>
    let mode := u8 d 20
    let pol := u8 d 21
    ⟨none, mode, if pol = 0xFF then s.polderFor mode
      else if s.polderReady pol && sameRate (s.polderRate pol) (modeRate mode) then some pol else none⟩

/-- The CS_STATE checks of a site: a software-managed head, another mode or polder than the running one, no mode or no polder
for a destination not yet fed (R122). -/
def State.siteBad (s : State) (d : List Byte) (t : TakeSite) : Bool :=
  match t.old with
  | some g =>
    let x := s.head g
    decide (x.managed = .software) || (u8 d 20 != 0 && u8 d 20 != t.mode) || (u8 d 21 != 0xFF && some (u8 d 21) != t.polder) || x.stopping
  | none => u8 d 20 == 0 || t.polder.isNone

/-- Resolve a ROUTE take with a given transition and converter request: the checks of R122 in their order. -/
def State.planRoute (s : State) (j : Job) (trans : TransKind) (dur req : Nat) : TakeNo ⊕ TakePlan :=
  let d := j.d
  let dest := u16 d 8
  let src := u16 d 10
  let degrade := ubit d 17 0
  let site := s.takeSite d
  let pol := site.polder.getD 0
  let old := site.old.map s.lastOf
  -- the head: that of dest, a new one for a split of a clone or for a destination not yet fed
  let split := match old with | some c => if ubit d 17 2 && decide (c.dests ≠ destBit dest) then site.old else none | none => none
  let fresh := site.old.isNone || split.isSome
  let head := if fresh then s.freeHeadNo else site.old
  let base := match old with
    | some c => if split.isSome then { c with dests := destBit dest } else c
    | none => { HeadCfg.reset with mode := site.mode, polder := pol, dests := destBit dest }
  let x := match head with | some h => s.head h | none => Head.reset
  let h := head.getD 256
  match s.takeConv req src pol with
  | .inl c => refuse c
  | .inr conv =>
    let owner := if src = 0xFFFF then 0 else s.sourceOwner src
    let raster := if src = 0xFFFF then none else s.nominal src
    let uhd := isUhd (s.inputNominal src)
    let scan := if modeInterlaced base.mode && scanOk (s.inputNominal src) (s.polderRate base.polder) then 1 else 0
    let slice := match conv with | some _ => s.lowestCnv uhd | none => none
    let shown := match slice with | some m => 256 + m | none => src
    let l := takeLayer shown raster (modeW base.mode) (modeH base.mode) (u8 d 23) degrade
    let r := raster.getD ⟨l.dstW, l.dstH, false⟩
    let needs := l.kind == 1 && u8 d 23 == 0 && decide (r.w ≠ modeW base.mode ∨ r.h ≠ modeH base.mode)
    let one := s.takeShort base l r false
    let gang := needs && (one.1 || one.2)
    let two := if gang then s.takeShort base l r true else (false, false)
    let pick := if needs then s.lowestScl gang else none
    let l := if needs then { l with scaler := pick.getD 0xFFFF, tapsH := 4, tapsV := 4, gang := gang, degV := two.1, degH := two.2 } else l
    let cfg := s.fixFallbacks { base with layers := ((base.layers.set 0 l).set 1 LayerCfg.reset) }
    let bad4 := s.siteBad d site || (l.kind == 1 && conv.isNone && s.polderClash base.polder l) ||
      (fresh && s.destStateBad h cfg dest) || s.dikeForbids j.priv h cfg || (base.dike && split.isNone && !cfg.dike)
    let cut := decide (trans = .cut) || decide (dur = 1)
    let mixed := cfg.mixed (base.layer 0)
    let peak := if cut then s.fetchNeed cfg false else max (s.fetchNeed mixed true) (s.fetchNeed cfg false)
    let lends := s.lent (s.stripped h cfg.dests false)
    let fetch := if fresh then peak else peak - x.committed
    let power := if fresh then 6 else 0
    let ct := match conv with | some m => convTokens m (s.inputNominal src) uhd (s.polderRate base.polder) | none => (0, 0)
    let allP := power + (if needs then (if gang then 8 else 4) else 0) + ct.1
    let allF := fetch + ct.2 + lendSum lends
    match firstFail [(bad4, csState), (!j.mayUse (s.destOwner dest), s.ownerCode (s.destOwner dest)),
        (!j.mayUse owner, s.ownerCode owner), (head.isNone, csNoResource), (!fresh && decide (16 ≤ x.commits), csNoResource),
        (needs && pick.isNone, csNoResource), (conv.isSome && slice.isNone, csNoResource),
        ((two.1 || two.2) && !degrade, csLbShort),
        (cfg.overBudget false || (!cut && mixed.overBudget true), csBudget)] with
    | some c => refuse c
    | none =>
      if s.leaveFits allP allF then
        .inr { head := h, fresh := fresh, cfg := cfg, trans := (if cut then .cut else trans), dur := dur,
               scaler := pick.map fun n => (n, gang), conv := slice.map fun m => (m, uhd, conv.getD 1, scan),
               split := split, moves := fresh, lends := lends, power := power, fetch := fetch, allPower := allP, allFetch := allF,
               peak := peak, degraded := two.1 || two.2 }
      else .inl ⟨csNoLeave, allP, allF⟩

/-- Resolve a CLONE take (R122, R123). -/
def State.planClone (s : State) (j : Job) : TakeNo ⊕ TakePlan :=
  let dest := u16 j.d 8
  let mode := u8 j.d 20
  let old := s.feeder dest
  match s.feeder (u16 j.d 10) with
  | none => refuse csState
  | some h =>
    let x := s.head h
    let last := s.lastOf h
    let cfg := { last with dests := (last.dests ||| destBit dest) }
    let oldBad := match old with
      | some g => decide ((s.head g).managed = .software) || decide ((s.head g).last.mode ≠ last.mode)
      | none => mode == 0
    let need := s.fetchNeed cfg false
    let lends := s.lent (s.stripped h cfg.dests true)
    let fetch := if x.managed = .module then need - x.committed else 0
    match firstFail [(oldBad || (mode != 0 && mode != last.mode) || x.stopping || s.destStateBad h cfg dest ||
          s.dikeForbids j.priv h cfg, csState),
        (!j.mayUse (s.destOwner dest), s.ownerCode (s.destOwner dest)), (!j.mayUse x.owner, s.ownerCode x.owner),
        (decide (16 ≤ x.commits), csNoResource)] with
    | some c => refuse c
    | none =>
      if s.leaveFits 0 (fetch + lendSum lends) then
        .inr { head := h, fresh := false, cfg := cfg, trans := .cut, dur := 1, scaler := none, conv := none, split := none,
               moves := true, lends := lends, power := 0, fetch := fetch, allPower := 0, allFetch := fetch + lendSum lends, peak := need,
               degraded := false }
      else .inl ⟨csNoLeave, 0, fetch + lendSum lends⟩

def transOf (k : Nat) : TransKind := if k = 1 then .mix else if k = 2 then .fade else .cut

/-- The take, reduced under allow_degrade where its full form is refused for leave, resources or budget (R121). -/
def State.planTake (s : State) (j : Job) : TakeNo ⊕ TakePlan :=
  if u8 j.d 12 = 1 then s.planClone j
  else
    let req := u8 j.d 22
    match s.planRoute j (transOf (u8 j.d 13)) (u16 j.d 14) req with
    | .inr p => .inr p
    | .inl e =>
      if ubit j.d 17 0 && (e.code == csNoLeave || e.code == csNoResource || e.code == csBudget) then
        match s.planRoute j .cut 1 req with
        | .inr p => .inr { p with degraded := true }
        | .inl _ =>
          if req = 0 then .inl e
          else
            match s.planRoute j .cut 1 0 with
            | .inr p => .inr { p with degraded := true }
            | .inl _ => .inl e
      else .inl e

/-- The target of a take lies outside the limits of R132, as far as its head is known. -/
def State.takeTargetBad (s : State) (d : List Byte) (t : Target) : Bool :=
  let site := if u8 d 12 = 1 then
      match s.feeder (u16 d 10) with
      | some h => TakeSite.mk (some h) (s.head h).last.mode (some (s.head h).last.polder)
      | none => ⟨none, 0, none⟩
    else s.takeSite d
  match site.polder with
  | some p => (s.landing (match site.old with | some g => if ubit d 17 2 && u8 d 12 == 0 then Head.reset else s.head g | none => Head.reset)
      site.mode p t).isNone
  | none => match t with | .ptp sec ns => decide (s.phcTotalNs + 3600000000000 < totalNs sec ns) | _ => false

/-- Validate and queue a take. -/
def State.submitTake (s : State) (j : Job) (t : Target) (guard : Option (BitVec 32)) (salvo : Option (Nat × Bool)) : TakeNo ⊕ State :=
  if s.takeTargetBad j.d t then .inl ⟨csBadParam, 0, 0⟩
  else
  match s.planTake j with
  | .inl e => .inl e
  | .inr p =>
    match s.landing (s.head p.head) p.cfg.mode p.cfg.polder t with
    | none => .inl ⟨csBadParam, 0, 0⟩
    | some (land, late) =>
      let s := s.leaveTake p.allPower p.allFetch
      let s := match p.scaler with | some (n, g) => s.claimScl n g j.owner true 4 4 0 0 | none => s
      let s := match p.conv with
        | some (m, uhd, mode, scan) =>
          let ct := convTokens mode (s.inputNominal (u16 j.d 10)) uhd (s.polderRate p.cfg.polder)
          s.claimCnv m uhd j.owner true (u16 j.d 10) p.cfg.polder mode scan 0 0 ct.1 ct.2
        | none => s
      let s := s.updHead p.head fun x =>
        { x with owner := j.owner, managed := (if p.fresh then .module else x.managed), powerGrant := x.powerGrant + p.power }
      let c := j.commit .take p.cfg t land late
      let c := { c with
                 trans := p.trans, dur := p.dur, audioFollow := ubit j.d 17 1, degraded := p.degraded, fetch := p.fetch,
                 newScaler := p.scaler.map (·.1), newConv := p.conv.map (·.1), salvo := salvo, peak := p.peak,
                 split := p.split, moves := p.moves, lends := p.lends, dest := u16 j.d 8, clone := decide (u8 j.d 12 = 1),
                 guard := (match guard with | some v => some v | none => c.guard) }
      .inr (s.enqueue p.head c)

/-- A refused take's leave request shows in LEAVE.LAST as the module's own. -/
def State.noteRefusal (s : State) (e : TakeNo) : State := if e.code = csNoLeave then s.leaveRefuse 0 e.power e.fetch else s

/-! ## Staging (R140) -/

/-- The staged members of a salvo, in start order. -/
def State.membersOf (s : State) (owner salvo : Nat) : List Member140 :=
  s.hds.staged.filter fun m => m.owner == owner && m.salvo == salvo

/-- Salvos staged or armed, as (owner, identifier). -/
def State.salvos (s : State) : List (Nat × Nat) :=
  ((s.hds.staged.map fun m => (m.owner, m.salvo)) ++ (s.hds.armed.map fun a => (a.owner, a.salvo))).dedup

/-- Stage a member: no leave, no resources. A 65th salvo or a 257th member finds no room. -/
def State.stage (s : State) (j : Job) (salvo : Nat) : State :=
  let ms := s.membersOf j.owner salvo
  if s.salvoArmed j.owner salvo then s.complete j csState 0
  else if 256 ≤ ms.length ∨ (ms = [] ∧ 64 ≤ s.salvos.length) then s.complete j csNoResource 0
  else
    let since := match ms with | m :: _ => m.since | [] => s.now
    let m : Member140 := { ring := j.ring, stamp := j.stamp, seq := j.seq, owner := j.owner, salvo := salvo, priv := j.priv,
                           desc := j.d, since := since }
    (s.updHds fun d => { d with staged := d.staged ++ [m] }).endOp j

/-- OP_COMMIT. -/
def execOpCommit (n : Fin 64) (s : State) : Out3 :=
  .next (s.runOp n 0x12 (fun _ => true) fun j s =>
    match targetOf (u8 j.d 10) (u64 j.d 16) (u32 j.d 24) with
    | none => s.complete j csBadParam 0
    | some t =>
      if 255 < u16 j.d 8 then s.complete j csBadParam 0
      else if u16 j.d 12 ≠ 0 then s.stage j (u16 j.d 12)
      else
        match s.submitCommit j (u16 j.d 8) t none none with
        | .inl e => (s.noteRefusal e).complete j e.code 0
        | .inr s => s.endOp j)

/-- OP_TAKE. -/
def execOpTake (n : Fin 64) (s : State) : Out3 :=
  .next (s.runOp n 0x01 (fun _ => true) fun j s =>
    if takeBad j.d then s.complete j csBadParam 0
    else if u16 j.d 18 ≠ 0 then s.stage j (u16 j.d 18)
    else
      match s.submitTake j ((targetOf (u8 j.d 16) (u64 j.d 24) (u32 j.d 32)).getD .asap) none none with
      | .inl e => (s.noteRefusal e).complete j e.code 0
      | .inr s => s.endOp j)

/-! ## OP_SALVO_ARM (R141 to R143) -/

/-- A staged member as the job that its descriptor started. -/
def Member140.job (m : Member140) : Job :=
  { ring := m.ring, stamp := m.stamp, seq := m.seq, opcode := u8 m.desc 0, owner := m.owner, priv := m.priv, take := false,
    d := m.desc }

def Member140.isTake (m : Member140) : Bool := u8 m.desc 0 == 0x01

/-- The member's own target kind. -/
def Member140.kind (m : Member140) : Nat := if m.isTake then u8 m.desc 16 else u8 m.desc 10

/-- The guard of an INSTAR member; its landing flip comes from the arm, as for every member (R130, R142). -/
def Member140.guard (m : Member140) : Option (BitVec 32) :=
  if m.kind = 3 then some (BitVec.ofNat 32 (if m.isTake then u64 m.desc 24 else u64 m.desc 16)) else none

/-- Validate one member on a trial state. -/
def State.armOne (s : State) (m : Member140) (salvo : Nat × Bool) (t : Target) : TakeNo ⊕ State :=
  if m.isTake then s.submitTake m.job t m.guard (some salvo) else s.submitCommit m.job (u16 m.desc 8) t m.guard (some salvo)

/-- The head that a member names: its own, that of the destination of a take, that which a CLONE take joins; none for a take
on a new head. -/
def State.memberHead (s : State) (m : Member140) : Option Nat :=
  if !m.isTake then some (u16 m.desc 8)
  else if u8 m.desc 12 = 1 then s.feeder (u16 m.desc 10)
  else if ubit m.desc 17 2 then none
  else s.feeder (u16 m.desc 8)

/-- Two members name one head, or the same destination that no head feeds (R141). -/
def State.sameHead (s : State) (ms : List Member140) : Bool :=
  let hs := ms.filterMap s.memberHead
  let ds := (ms.filter fun m => m.isTake && u8 m.desc 12 == 0 && (s.feeder (u16 m.desc 8)).isNone).map fun m => u16 m.desc 8
  decide (hs.dedup.length ≠ hs.length) || decide (ds.dedup.length ≠ ds.length)

/-- Validate every member in start order: the trial state and each member's refusal. -/
def State.armAll (s : State) (ms : List Member140) (salvo : Nat × Bool) (t : Target) : State × List (Member140 × Option TakeNo) :=
  ms.foldl (fun a m =>
    match a.1.armOne m salvo t with
    | .inl e => (a.1, a.2 ++ [(m, some e)])
    | .inr s => (s, a.2 ++ [(m, none)])) (s, [])

/-- The heads that a salvo's commits sit on. -/
def State.salvoHeads (s : State) (owner : Nat) (salvo : Nat × Bool) : List Nat :=
  (s.heads.filter fun e => e.2.queue.any fun c => c.owner == owner && c.salvo == some salvo).map (·.1)

/-- The landing frame of a queued commit as the PHC and the nominal frame period now give it. -/
def State.landGuess (s : State) (x : Head) (c : Commit) : Nat :=
  let mode := if x.run = .stopped then x.last.mode else x.applied.mode
  let polder := if x.run = .stopped then x.last.polder else x.applied.polder
  let e := s.nextOpenOf x mode polder
  let per := periodNs (s.polderRate polder)
  c.delay + (match c.land, c.target with
    | some g, _ => g
    | none, .ptp sec ns => if per = 0 then e else e + ceilDiv (totalNs sec ns - s.startFlipNs polder mode e) per
    | none, _ => e)

/-- A member's head holds a commit started earlier that lands later: every commit that was queued before the arm started
earlier than the member (R140, R141). -/
def State.lockstepBlocked (s : State) (owner : Nat) (salvo : Nat × Bool) : Bool :=
  s.headList.any fun h =>
    match h.queue.find? fun c => c.owner == owner && c.salvo == some salvo with
    | none => false
    | some m => (h.queue.takeWhile fun c => c.stamp != m.stamp).any fun c => decide (s.landGuess h m < s.landGuess h c)

/-- LOCKSTEP with a late member: every other member moves on by one frame, and all are late (R143). -/
def State.lockstepLate (s : State) (owner : Nat) (salvo : Nat × Bool) : State :=
  let mine := fun (c : Commit) => c.owner == owner && c.salvo == some salvo
  if s.headList.any fun h => h.queue.any fun c => mine c && c.late then
    (s.salvoHeads owner salvo).foldl (fun s h =>
      s.updHead h fun x =>
        { x with queue := (x.queue.map fun c => if mine c ∧ c.late = false then { c with late := true, delay := 1 } else c) }) s
  else s

/-- Every staged member of a salvo completes: its own code where it failed, else CS_CANCELLED. -/
def State.dissolve (s : State) (rs : List (Member140 × Option TakeNo)) : State :=
  let s := s.updHds fun d => { d with staged := (d.staged.filter fun m => !(rs.any fun r => r.1.stamp == m.stamp)) }
  rs.foldl (fun s r => s.completeAt r.1.ring r.1.stamp (match r.2 with | some e => e.code | none => csCancelled) 0) s

/-- Two members name one head: two commits of one head, or two takes that resolve to one. -/
def State.twoOnOne (s : State) (owner : Nat) (salvo : Nat × Bool) : Bool :=
  s.headList.any fun h => decide (2 ≤ (h.queue.filter fun c => c.owner == owner && c.salvo == some salvo).length)

/-- OP_SALVO_ARM. -/
def execOpSalvoArm (n : Fin 64) (s : State) : Out3 :=
  .next (s.runOp n 0x02 (fun _ => true) fun j s =>
    let id := u16 j.d 8
    let lock := decide (u8 j.d 10 = 1)
    let ms := s.membersOf j.owner id
    let t := targetOf (u8 j.d 11) (u64 j.d 16) (u32 j.d 24)
    let all := ms.map fun m => (m, (none : Option TakeNo))
    if s.salvoArmed j.owner id then s.complete j csState 0
    else if ms = [] then s.complete j (if id = 0 ∨ 1 < u8 j.d 10 then csBadParam else csNotFound) 0
    else if 1 < u8 j.d 10 ∨ u8 j.d 11 = 1 ∨ u8 j.d 11 = 3 ∨ t = none ∨ ms.length ≠ u16 j.d 12 ∨
        (ms.any fun m => m.kind == 1 || m.kind == 2) = true ∨ s.sameHead ms = true then
      (s.dissolve all).complete j csBadParam 0
    else
      let r := s.armAll ms (id, lock) (t.getD .asap)
      match r.2.find? fun p => p.2.isSome with
      | some (_, e) =>
        let e := e.getD ⟨csState, 0, 0⟩
        ((s.noteRefusal e).dissolve r.2).complete j e.code 0
      | none =>
        if r.1.twoOnOne j.owner (id, lock) then (s.dissolve all).complete j csBadParam 0
        else if lock && r.1.lockstepBlocked j.owner (id, lock) then (s.dissolve all).complete j csState 0
        else
          let s := r.1.updHds fun d =>
            { d with staged := (d.staged.filter fun m => !(m.owner == j.owner && m.salvo == id)),
                     armed := d.armed ++ [⟨j.owner, id, lock, false⟩] }
          let s := if lock then s.lockstepLate j.owner (id, lock) else s
          s.complete j csOk 0)

/-- SALVO_ARM_TIMEOUT: 10 s after the first member's start. -/
def execSalvoArmTimeout (owner salvo : BitVec 16) (s : State) : Out3 :=
  let ms := s.membersOf owner.toNat salvo.toNat
  .next (
    match ms with
    | m :: _ => if m.since + msTicks 10000 ≤ s.now then s.dissolve (ms.map fun m => (m, none)) else s
    | [] => s)

/-! ## OP_SALVO_CANCEL (R139) -/

/-- Withdraw a queued commit. -/
def State.withdraw (s : State) (h : Nat) (c : Commit) : State := (s.dropCommit h c).commitDone c csCancelled 0

/-- SALVO_CANCEL, kind 0; a kind out of range is refused here. -/
def execSalvoCancel (n : Fin 64) (s : State) : Out3 :=
  .next (s.runOp n 0x03 (fun d => u8 d 8 ≠ 1) fun j s =>
    let id := u16 j.d 10
    if u8 j.d 8 ≠ 0 ∨ id = 0 then s.complete j csBadParam 0
    else
      let mine := fun (o : Nat) => o == j.owner || j.priv
      let st := s.hds.staged.filter fun m => m.salvo == id
      let qs := s.queued.filter fun p => match p.2.salvo with | some (k, _) => k == id | none => false
      let stM := st.filter fun m => mine m.owner
      let qsM := qs.filter fun p => mine p.2.owner
      if stM = [] ∧ qsM = [] then
        s.complete j (match st.map (·.owner) ++ qs.map (·.2.owner) with | [] => csNotFound | o :: _ => s.ownerCode o) 0
      else if qsM.any fun p => (match p.2.salvo with | some (_, l) => l | none => false) &&
          (p.2.locked || s.hds.armed.any fun a => a.owner == p.2.owner && a.salvo == id && a.go) then
        s.complete j csState 0
      else
        let free := qsM.filter fun p => !p.2.locked
        let s := s.dissolve (stM.map fun m => (m, none))
        let s := free.foldl (fun s p => s.withdraw p.1 p.2) s
        s.complete j csOk (BitVec.ofNat 64 (stM.length + free.length + 65536 * (qsM.length - free.length))))

/-- COMMIT_CANCEL, kind 1. -/
def execCommitCancel (n : Fin 64) (s : State) : Out3 :=
  .next (s.runOp n 0x03 (fun d => u8 d 8 == 1) fun j s =>
    let hit := s.queued.find? fun p => p.2.ring == u8 j.d 9 && decide (p.2.seq.toNat = u32 j.d 12) && p.2.kind != .stop
    if 63 < u8 j.d 9 then s.complete j csBadParam 0
    else
      match hit with
      | none => s.complete j csNotFound 0
      | some (h, c) =>
        if !j.mayUse c.owner then s.complete j (s.ownerCode c.owner) 0
        else if c.locked then s.complete j csState 0
        else (s.withdraw h c).complete j csOk 1)

/-! ## OP_HEAD_STOP (R157) -/

/-- OP_HEAD_STOP. A head that is claimed and does not run becomes free at once; one that is stopping already takes no second stop
(log 87). -/
def execOpHeadStop (n : Fin 64) (s : State) : Out3 :=
  .next (s.runOp n 0x13 (fun _ => true) fun j s =>
    let h := u16 j.d 8
    let x := s.head h
    match firstFail [(decide (255 < h), csBadParam), (decide (x.managed = .free), csNotFound),
                     (!j.mayUse x.owner, s.ownerCode x.owner), (x.stopping || (x.last.dike && (!j.priv || (s.dike h).frozen)), csState)] with
    | some c => s.complete j c 0
    | none =>
      if x.run = .stopped ∧ x.queue = [] then (s.freeHead h).complete j csOk (BitVec.ofNat 64 x.instar.toNat)
      else (s.enqueue h { j.commit .stop HeadCfg.reset .asap none false with peak := s.needMost x }).endOp j)

/-! ## OP_LEAVE_REQ and OP_LEAVE_RET (R404, R405) -/

/-- The result: the head's grants and the free tokens. -/
def leaveResult (hp hf fp ff : Nat) : BitVec 64 := BitVec.ofNat 64 (hp + 65536 * hf + 4294967296 * fp + 281474976710656 * ff)

/-- Fields of either opcode out of range. -/
def leaveBad (d : List Byte) : Bool := decide (255 < u16 d 8 ∨ 8400 < u16 d 12 ∨ 2000 < u16 d 14)

/-- OP_LEAVE_REQ. -/
def execOpLeaveReq (n : Fin 64) (s : State) : Out3 :=
  .next (s.runOp n 0x60 (fun _ => true) fun j s =>
    let h := u16 j.d 8
    let p := u16 j.d 12
    let f := u16 j.d 14
    let dry := ubit j.d 10 0
    let x := s.head h
    match firstFail [(leaveBad j.d, csBadParam), (!j.mayUse x.owner, s.ownerCode x.owner),
                     (decide (x.managed = .module), csState)] with
    | some c => s.complete j c 0
    | none =>
      if dry then
        if s.leaveFits p f then
          s.complete j csOk (leaveResult (x.powerGrant + p) (x.fetchGrant + f) (s.lv.powFree - p) (s.lv.fetFree - f))
        else s.complete j csNoLeave 0
      else
        let (ok, s) := s.leaveAsk j.owner p f
        if ok then
          let s := (s.claimHead h j.owner).updHead h fun x =>
            { x with powerGrant := x.powerGrant + p, fetchGrant := x.fetchGrant + f }
          s.complete j csOk (leaveResult (x.powerGrant + p) (x.fetchGrant + f) s.lv.powFree s.lv.fetFree)
        else s.complete j csNoLeave 0)

/-- OP_LEAVE_RET. -/
def execOpLeaveRet (n : Fin 64) (s : State) : Out3 :=
  .next (s.runOp n 0x61 (fun _ => true) fun j s =>
    let h := u16 j.d 8
    let p := u16 j.d 12
    let f := u16 j.d 14
    let x := s.head h
    let short := decide (x.fetchGrant < f + s.needMost x) || (x.active && decide (x.powerGrant < p + 6)) ||
      decide (x.powerGrant < p ∨ x.fetchGrant < f)
    match firstFail [(leaveBad j.d || ubit j.d 10 0, csBadParam), (decide (x.managed = .free), csNotFound),
                     (!j.mayUse x.owner, s.ownerCode x.owner), (decide (x.managed = .module) || short, csState)] with
    | some c => s.complete j c 0
    | none =>
      let s := (s.setHead h { x with powerGrant := x.powerGrant - p, fetchGrant := x.fetchGrant - f, owner := j.owner }).leaveRet p f
      s.complete j csOk (leaveResult (x.powerGrant - p) (x.fetchGrant - f) s.lv.powFree s.lv.fetFree))

end Sys2Proof.Machine
end

