-- ==== Sys2Proof/Machine/Dests.lean ====
section
/-!
DEFINITION. Machine/Dests.lean: what a destination carries: feeding, squelch, ATC, passed packets, and the classes of its
raster periods ("Scan-out, destinations and push channels", R524).
-/
namespace Sys2Proof.Machine

/-! ## Pin sense structures -/

def State.psnDest (s : State) (d : Nat) : PsnDest := Tab.get (fun _ => PsnDest.reset) s.psn.dests d
def State.setPsnDest (s : State) (d : Nat) (v : PsnDest) : State :=
  s.updPsn fun p => { p with dests := (Tab.set (fun _ => PsnDest.reset) p.dests d v) }
def State.chain (s : State) (h : Nat) : Chain := Tab.get (fun _ => Chain.reset) s.psn.chains h
def State.setChain (s : State) (h : Nat) (v : Chain) : State :=
  s.updPsn fun p => { p with chains := (Tab.set (fun _ => Chain.reset) p.chains h v) }
def State.updChain (s : State) (h : Nat) (f : Chain → Chain) : State := s.setChain h (f (s.chain h))

/-! ## Destination settings -/

/-- TX_MAP of an SDI destination, MAP of an IP one. -/
def destMap (d : Nat) : Nat := if d < 128 then Adr.txMap d else Adr.txfMap (d - 128)
def destTc (d : Nat) : Nat := if d < 128 then Adr.txTc d else Adr.txfTc (d - 128)
def destErr (d : Nat) : Nat := if d < 128 then Adr.txErr d else Adr.txfErr (d - 128)

/-- The lane of an SDI destination is in a loop or pattern mode (R376, R377). -/
def State.laneTest (s : State) (d : Nat) : Bool :=
  decide (d < 128) && (decide (s.fget (Adr.laneLoop d) 1 0 ≠ 0) || decide (s.fget (Adr.lanePrbs d) 3 0 ≠ 0) ||
    decide (s.fget (Adr.lanePrbs d) 7 4 ≠ 0))

/-- The heads whose frames a destination shows: none, or the head that feeds it while it runs. -/
def State.feeds (s : State) (h d : Nat) : Bool := decide ((s.dest d).head = some h)

/-- The destinations that a head feeds now. -/
def State.fedBy (s : State) (h : Nat) : List Nat := (s.out.dests.filter fun e => decide (e.2.head = some h)).map (·.1)

/-! ## Feeding and squelching (R154, R257 to R260, R524) -/

/-- Mark or unmark the other members of a quad-link group. -/
def State.quadMembers (s : State) (d : Nat) (on : Bool) : State :=
  [1, 2, 3].foldl (fun s i => s.updDest (d + i) fun x => { x with quadMember := on }) s

/-- A destination that a configuration starts to feed, or goes on feeding. -/
def State.feedDest (s : State) (h d : Nat) : State :=
  let x := s.dest d
  let c := (s.head h).applied
  let serving := decide (d < 128) || (s.sendFlow d).isSome
  if x.head = some h then s.setDest d { x with inService := x.inService || serving, offAir := false }
  else
    let s := match x.head with
      | some g => s.updHead g fun y => { y with applied := { y.applied with dests := (y.applied.dests &&& ~~~destBit d) } }
      | none => s
    let i := if x.head.isSome then x.interface else if d < 128 then s.txInterface d c.mode else 0
    let smp := if x.head.isSome then x.sampling
      else if d < 128 then s.fget (Adr.txMap d) 5 4
      else match s.sendFlow d with | some f => f.p1 | none => 0
    let s := s.setDest d
      { x with head := some h, interface := i, sampling := smp, lastMode := c.mode, lastPolder := c.polder, everFed := true,
               owner := (s.head h).owner, inService := (x.inService || serving), offAir := false,
               atcTaken := (x.atcTaken && x.head.isSome) }
    if d < 128 && i == 7 then s.quadMembers d true else s

/-- A destination that no head feeds any more: `service` ends its service, `off` counts it as off air (R524). -/
def State.squelch (s : State) (d : Nat) (service off : Bool) : State :=
  let x := s.dest d
  let s := s.setDest d
    { x with head := none, inService := (x.inService && !service), offAir := (x.offAir || off), atcTaken := false, anc := [] }
  if d < 128 && x.interface == 7 then s.quadMembers d false else s

/-- The destinations of a head after a commit: those that it drops are squelched, those that it names are fed. -/
def State.feedAll (s : State) (h : Nat) : State :=
  let c := (s.head h).applied
  let s := (s.fedBy h).foldl (fun s d => if c.feeds d then s else s.squelch d true false) s
  c.destList.foldl (fun s d => s.feedDest h d) s

/-! ## Stopping -/

/-- The pins of a head's layers are released. -/
def State.unpinHead (s : State) (h : Nat) : State := (List.range 8).foldl (fun s k => s.unpin (.layer h k)) s

/-- The picture side of a stop: nothing composes, nothing is shown. -/
def Head.halted (x : Head) : Head :=
  { x with run := .stopped, composing := none, trans := none, handover := false, handAt := none, firstFrame := false,
           flipDone := false, sluiceDone := false, deadlineDone := false, predFlip := none, predPrev := none, lineAt := none,
           layers := x.layers.map fun r => { r with underruns := 0, src := none, fell := false },
           lastMode := x.applied.mode, lastPolder := x.applied.polder }

/-- A stop that frees the head (OP_HEAD_STOP, the end of a CLONE take's old head): R157. -/
def State.stopHead (s : State) (h : Nat) : State :=
  let x := s.head h
  let s := (s.unpinHead h).setHead h { x.halted with applied := HeadCfg.reset, refs := [], abandoned := false, resume := false }
  let s := (s.fedBy h).foldl (fun s d => s.squelch d true false) s
  let s := if (s.dike h).shown.isSome then s.setDike h { s.dike h with shown := none } else s
  (s.dropRefs x.refs).freeHead h

/-! ## ATC (R262) -/

/-- Frames of a time-code day at a rate. -/
def atcDay (rate : Nat × Nat) (drop : Bool) : Nat :=
  if drop && rate.2 == 1001 then (if rate.1 = 30000 then 2589408 else if rate.1 = 60000 then 5178816 else 86400 * ceilDiv rate.1 rate.2)
  else 86400 * ceilDiv rate.1 rate.2

/-- The UTC offset of PHC.UTC, in seconds. -/
def State.utcOffset (s : State) : Int :=
  let v := s.fget Adr.utc 15 0
  if v < 32768 then (v : Int) else (v : Int) - 65536

/-- ATC from the time of day of a flip, as a count of frames since midnight. -/
def State.atcPtp (s : State) (d : Nat) (rate : Nat × Nat) (drop : Bool) : Nat :=
  let sec := (((s.phcSec : Int) - s.utcOffset + s.fget (destTc d) 16 0) % 86400).toNat
  if drop && rate.2 == 1001 && (rate.1 == 30000 || rate.1 == 60000) then
    (sec * 1000000000 + s.phcNs) * rate.1 / (rate.2 * 1000000000) % atcDay rate drop
  else sec * ceilDiv rate.1 rate.2 + s.phcNs * ceilDiv rate.1 rate.2 / 1000000000

/-- The destination's ATC at a flip of its head: `took` is the ATC of a new frame on anc_layer whose source runs at the
head's rate. -/
def State.atcFlip (s : State) (d : Nat) (rate : Nat × Nat) (took : Option Nat) : State :=
  let mode := s.fget (destMap d) 13 12
  let drop := s.flag (destMap d) 14
  let x := s.dest d
  let ptp := s.atcPtp d rate drop
  if mode = 0 then
    match took, x.atcTaken, x.atc with
    | some a, _, _ => s.setDest d { x with atc := some a, atcTaken := true }
    | none, true, some a => s.setDest d { x with atc := some ((a + 1) % atcDay rate drop) }
    | none, _, _ => s.setDest d { x with atc := some ptp }
  else if mode = 1 then s.setDest d { x with atc := some ptp, atcTaken := false }
  else s.setDest d { x with atc := none, atcTaken := false }

/-! ## Passed packets (R261, R263) -/

/-- Packets that are never passed: ST 352, ST 299-1 audio and control, ST 12-2 ATC (their DIDs: PRESUMED, log 21). -/
def Anc.never (a : Anc) : Bool :=
  (a.did == 0x41 && a.sdid == 0x01) || (a.did == 0x60 && a.sdid == 0x60) || decide (0xE0 ≤ a.did ∧ a.did ≤ 0xE7) ||
  decide (0xA0 ≤ a.did ∧ a.did ≤ 0xA7)

/-- The packets that a destination inserts for a layer's picture. -/
def State.ancFlip (s : State) (d : Nat) (p : Picture) (drops : Nat) : State :=
  let m := destMap d
  let l := p.layers.getD (s.fget m 10 8) LayerPic.off
  let pass := s.flag m 11 && (decide (l.cls = .new) || (decide (l.cls = .rep) && !s.flag m 7))
  let s := s.updDest d fun x => { x with anc := (if pass then l.anc.filter fun a => !a.never else []) }
  s.count (destErr d) 15 0 drops

/-! ## Classes of raster periods (R524, R525) -/

/-- The module is in QUIET or STANDBY, enters or leaves them, or a warm reset or a restoration runs. -/
def State.exclState (s : State) : Bool :=
  let st := s.fget Adr.pwrStat 2 0
  decide (2 ≤ st ∧ st ≤ 5) || decide ((st = 6 ∨ s.rest.phase = .running) ∧ s.fget Adr.rstCause 3 0 = 3)

/-- The period of a destination is excluded. -/
def State.periodExcl (s : State) (d polder : Nat) : Bool :=
  s.exclState || s.laneTest d || (s.polder polder).bent || (s.lv.tripped && s.lv.tripExcl)

/-- Count a period: 0 good, 1 mismatch, 2 recovery, 3 cut-off, 4 off air; excluded comes before all. -/
def State.countPeriod (s : State) (d : Nat) (excl : Bool) (cause : Nat) : State :=
  let s := s.ledAdd 11 d 0 1
  if excl then s.ledAdd 11 d 3 1
  else if cause = 0 then s.ledAdd 11 d 1 1
  else (s.ledAdd 11 d 2 1).ledAdd 11 d (3 + cause) 1

/-- The polder whose periods a destination counts. -/
def State.destPolder (s : State) (d : Nat) : Nat :=
  match (s.dest d).head with
  | some h => (s.head h).applied.polder
  | none => (s.dest d).lastPolder

/-- A raster period of polder `p` ends: each destination in service that has no judgement for it counts it now. -/
def State.endPeriods (s : State) (p : Nat) : State :=
  (s.out.dests.map (·.1)).foldl (fun s d =>
    let x := s.dest d
    if x.inService && s.destPolder d == p then
      if x.judged then s.setDest d { x with judged := false }
      else
        let hurt := match x.head with | some h => decide ((s.head h).hurt ≠ 0) | none => false
        s.countPeriod d (s.periodExcl d p) (if hurt then 2 else if x.offAir then 4 else 0)
    else s) s

/-! ## What the next flip will show -/

/-- A locked commit applied to a head: its configuration and its transition; none where its guard fails (R118, R119,
R130). A take keeps the destinations that the head has then, and adds the one that it brings (R116, R120). -/
def Head.applyOne (x : Head) (c : Commit) : Option Head :=
  let guardOk := match c.guard with | some v => x.instar + 1 == v | none => true
  if guardOk then
    let t : Option Transition :=
      if c.kind = .take ∧ c.trans ≠ .cut ∧ x.managed ≠ .software then
        some { kind := c.trans, dur := c.dur, j := 1, old := c.old.getD (x.applied.layer 0), oldRefs := [], fetch := 0 }
      else if c.kind = .take ∨ x.managed = .software then none else x.trans
    let dests := if c.kind = .commit ∨ c.kind = .restore then c.cfg.dests
      else if c.moves then x.applied.dests ||| destBit c.dest else x.applied.dests
    some { x with applied := { c.cfg with dests := dests }, instar := x.instar + 1, trans := t }
  else none

/-- A transition moves on by one frame; after its last one it ends (R118). -/
def Head.stepTrans (x : Head) : Head :=
  match x.trans with
  | some t => if t.j < t.dur then { x with trans := some { t with j := t.j + 1 } } else { x with trans := none }
  | none => x

/-- The head after the flip for which its commits are locked: only what the picture depends on. -/
def Head.planned (x : Head) : Head :=
  (x.queue.filter fun c => c.locked && c.kind != .stop).foldl (fun y c => (y.applyOne c).getD y) x.stepTrans

end Sys2Proof.Machine
end

