-- ==== Sys2Proof/Machine/Colour.lean ====
section
/-!
DEFINITION. Machine/Colour.lean: loads of colour units, coefficient sets and dither (R195 to R203, R207).
The arithmetic of the tables on pixels is in Machine/Pixels.lean.
-/
namespace Sys2Proof.Machine

def State.dith (s : State) (d : Nat) : Dith := Tab.get Dith.reset s.scc.diths d
def State.setDith (s : State) (d : Nat) (v : Dith) : State :=
  s.updScc fun c => { c with diths := (Tab.set Dith.reset c.diths d v) }

/-- A coefficient set put into a scaler. -/
def Scaler.putSet (x : Scaler) (i : Nat) (v : ScSet) : Scaler :=
  if i = 1 then { x with set1 := some v } else if i = 2 then { x with set2 := some v } else { x with set3 := some v }

/-- A staged load takes effect. -/
def State.loadApply (s : State) (l : ColLoad) : State :=
  let s :=
    match l.kind with
    | 1 => s.setColOut l.index { l.unit with loads := ((s.colOut l.index).loads + 1) % 4294967296 }
    | 2 => s.setScl l.index ((s.scl l.index).putSet l.setNo l.setVal)
    | _ => s.setDith l.index l.dith
  s.loadDone l

/-- A picture that is composed now, or the applied configuration of a running head, uses the scaler. -/
def State.sclComposed (s : State) (n : Nat) : Bool :=
  s.headList.any fun h =>
    decide (h.run ≠ .stopped) && (h.applied.usesScl n ||
      (match h.trans with | some t => t.old.scaler == n && t.old.enable | none => false))

/-- Nothing on air would show the load change: a set that no layer uses, dither of an unfed destination (R202). -/
def State.loadFree (s : State) (l : ColLoad) : Bool :=
  (l.kind == 2 && !s.sclComposed l.index) || (l.kind == 3 && (s.dest l.index).head.isNone)

/-- Loads that wait for nothing take effect. -/
def State.colourIdle (s : State) : State :=
  (s.scc.loads.filter fun l => s.loadFree l).foldl (fun s l => s.loadApply l) s

/-- A compose start of a head: sets of the scalers that its layers use (R202). -/
def State.colourCompose (s : State) (h : Nat) : State :=
  let c := (s.head h).planned
  (s.scc.loads.filter fun l => l.kind == 2 && (c.applied.usesScl l.index ||
    (match c.trans with | some t => t.old.scaler == l.index && t.old.enable | none => false))).foldl (fun s l => s.loadApply l) s

/-- A flip of a head: its output unit and the dither of the destinations that it feeds (R202, R207). -/
def State.colourFlip (s : State) (h : Nat) : State :=
  ((s.scc.loads.filter fun l => (l.kind == 1 && l.index == h) || (l.kind == 3 && decide ((s.dest l.index).head = some h))).foldl
    (fun s l => s.loadApply l) s).colourIdle

/-! ## OP_COLOUR_LOAD (R199 to R201) -/

/-- Bytes of the tables selected, in the order of R200, with the offset of each. -/
def colLens (d : List Byte) : List Nat :=
  if u8 d 8 = 2 then [2048]
  else if u8 d 8 < 2 then
    [3136 * b2n (ubit d 12 1), 64 * b2n (ubit d 12 2), 3136 * b2n (ubit d 12 3), 29504 * b2n (ubit d 12 4)]
  else []

/-- The bytes of table `i` (0 pre-LUT, 1 matrix, 2 post-LUT, 3 3D LUT) without their padding. -/
def colTab (d buf : List Byte) (i : Nat) : List Byte :=
  bytesAt buf ((colLens d).take i).sum (if i = 1 then 48 else if i = 3 then 29478 else 3078)

/-- A matrix obeys R198: each coefficient repeats its sign in bits [31:20], each offset lies in its range. -/
def matrixOk (m : List Byte) : Bool :=
  (List.range 12).all fun i =>
    let v := u32 m (4 * i)
    if i % 4 = 3 then decide (v ≤ 65535 ∨ 4294967296 - 65536 ≤ v) else decide (v < 524288 ∨ 4294967296 - 524288 ≤ v)

/-- Every phase of one axis obeys R198: the first `t` coefficients sum to 4,096, the others are 0. -/
def phasesOk (b : List Byte) (off t : Nat) : Bool :=
  (List.range 64).all fun p =>
    let c := fun i => s16 b (off + 16 * p + 2 * i)
    decide (((List.range t).map c).sum = 4096) && (List.range 8).all fun i => decide (i < t) || decide (c i = 0)

/-- The unit as the load leaves it. -/
def ColUnit.load (u : ColUnit) (d buf : List Byte) : ColUnit :=
  let mode := fun (m : Nat) => if m = 1 then StageMode.loaded else if m = 2 then StageMode.bypass else StageMode.auto
  let u := if ubit d 12 0 then
      (if u8 d 8 = 1 then { u with space := some (u8 d 28, u8 d 29), outSpace := some (u8 d 30, u8 d 31), outRange := u8 d 32 }
       else { u with space := some (u8 d 28, u8 d 29) })
    else u
  let u := if ubit d 12 1 then { u with preTab := some (colTab d buf 0) } else u
  let u := if ubit d 12 2 then { u with matTab := some (colTab d buf 1) } else u
  let u := if ubit d 12 3 then { u with postTab := some (colTab d buf 2) } else u
  let u := if ubit d 12 4 then { u with lutTab := some (colTab d buf 3), persist3d := ubit d 9 0 } else u
  let u := { u with faulty := u.faulty.filter fun t => !ubit d 12 (t + 1) }
  if ubit d 12 5 then
    { u with pre := mode (bits (u8 d 13) 1 0), matrix := mode (bits (u8 d 13) 3 2), post := mode (bits (u8 d 13) 5 4),
             lut3d := ubit d 13 6 }
  else u

/-- A stage is LOADED without its table. -/
def ColUnit.lacks (u : ColUnit) : Bool :=
  (decide (u.pre = .loaded) && u.preTab.isNone) || (decide (u.matrix = .loaded) && u.matTab.isNone) ||
  (decide (u.post = .loaded) && u.postTab.isNone) || (u.lut3d && u.lutTab.isNone)

/-- The unit that a load starts from: the last one staged, or the one in effect. -/
def State.colBase (s : State) (kind index : Nat) : ColUnit :=
  match (s.scc.loads.filter fun l => l.kind == kind && l.index == index).getLast? with
  | some l => l.unit
  | none => if kind = 0 then s.colIn index else s.colOut index

/-- A field out of range, or a field that the kind does not use and is not 0 (R199). -/
def colourBad (d : List Byte) : Bool :=
  let space := decide (u8 d 28 ≤ 1 ∧ u8 d 29 ≤ 2)
  let modes := decide (bits (u8 d 13) 1 0 ≤ 2 ∧ bits (u8 d 13) 3 2 ≤ 2 ∧ bits (u8 d 13) 5 4 ≤ 2)
  let tables := (colLens d).sum
  decide (u64 d 16 % 64 ≠ 0) || (tables == 0 && decide (u64 d 16 ≠ 0)) || decide (u32 d 24 < tables) ||
  match u8 d 8 with
  | 0 => decide (255 < u16 d 10 ∨ 63 < u8 d 12) || !modes || !space || !zeros d 14 15 || !zeros d 30 33 || !zeros d 36 39
  | 1 => decide (255 < u16 d 10 ∨ 63 < u8 d 12) || !modes || !space || !decide (u8 d 30 ≤ 1 ∧ u8 d 31 ≤ 2 ∧ u8 d 32 ≤ 1) ||
      !zeros d 14 15 || !zeros d 33 33 || !zeros d 36 39
  | 2 => decide (127 < u16 d 10) || !decide (1 ≤ u8 d 12 ∧ u8 d 12 ≤ 3) || !([2, 4, 6, 8].contains (u8 d 14)) ||
      !([2, 4, 6, 8].contains (u8 d 15)) || !zeros d 13 13 || !zeros d 28 33 || !zeros d 36 39
  | 3 => decide (255 < u16 d 10) || !zeros d 9 9 || !zeros d 12 15 || !zeros d 24 32 || decide (2 < u8 d 33) || u32 d 36 == 0
  | _ => true

/-- What the tables themselves break. -/
def colourDataBad (d buf : List Byte) : Bool :=
  if u8 d 8 = 2 then !(phasesOk buf 0 (u8 d 14) && phasesOk buf 1024 (u8 d 15))
  else decide (u8 d 8 < 2) && ubit d 12 2 && !matrixOk (colTab d buf 1)

/-- The owner tag of what a load changes, 0 for none. -/
def State.colourOwner (s : State) (d : List Byte) : Nat :=
  match u8 d 8 with
  | 0 => (s.src (u16 d 10)).owner
  | 1 => (s.head (u16 d 10)).owner
  | 2 => (s.scl (u16 d 10)).owner
  | _ => s.destOwner (u16 d 10)

/-- A privileged ring that acts on another owner's resource gives it its own tag (R77). -/
def State.colourTag (s : State) (j : Job) : State :=
  if s.colourOwner j.d == 0 then s
  else match u8 j.d 8 with
    | 0 => s.updSrc (u16 j.d 10) fun x => { x with owner := j.owner }
    | 1 => s.updHead (u16 j.d 10) fun x => { x with owner := j.owner }
    | 2 => s.setScl (u16 j.d 10) { s.scl (u16 j.d 10) with owner := j.owner }
    | _ => match s.feeder (u16 j.d 10) with
      | some h => s.updHead h fun x => { x with owner := j.owner }
      | none => s

/-- OP_COLOUR_LOAD. `data` is the host buffer as the DMA read it, none where the read failed. -/
def execOpColourLoad (n : Fin 64) (data : Option (List Byte)) (s : State) : Out3 :=
  .next (s.runOp n 0x48 (fun _ => true) fun j s =>
    let k := u8 j.d 8
    let i := u16 j.d 10
    let buf := dmaFit (data.getD []) (colLens j.d).sum
    let u := (s.colBase k i).load j.d buf
    let readOk := data.isSome || (colLens j.d).sum == 0
    match firstFail [(colourBad j.d || (decide (k < 2) && u.lacks) || (readOk && colourDataBad j.d buf), csBadParam),
                     (!j.mayUse (s.colourOwner j.d), s.ownerCode (s.colourOwner j.d)), (!readOk, csDmaErr)] with
    | some c => s.complete j c 0
    | none =>
      let l : ColLoad :=
        { ring := j.ring, stamp := j.stamp, kind := k, index := i, unit := u,
          dith := { mode := u8 j.d 33, seed := BitVec.ofNat 32 (u32 j.d 36) }, setNo := u8 j.d 12,
          setVal := { tapsH := u8 j.d 14, tapsV := u8 j.d 15, persist := ubit j.d 9 0, coef := (if k = 2 then buf else []) } }
      ((s.colourTag j).updScc fun c => { c with loads := c.loads ++ [l] }).colourIdle)

end Sys2Proof.Machine
end

