-- ==== Sys2Proof/Machine/Pixels.lean ====
section
/-!
DEFINITION. Machine/Pixels.lean: the samples of composed frames and of destinations (R17, R19, R96, R151, R158, R164, R168, R170,
R184, R188 to R193, R195 to R198, R204 to R206, R216, R217, R221, R226, R296).
They are functions of what State holds: pictures, tables, coefficients, memory. Codes that an input received, and arithmetic that
the spec leaves open, are values of Config (logs 3, 99 to 108).
-/
namespace Sys2Proof.Machine

/-! ## Pixels -/

/-- A pixel: R'G'B' codes of the internal format, 12 bits each (R184), and alpha in 4,096ths. -/
structure Px where
  r : Nat
  g : Nat
  b : Nat
  a : Nat
  deriving DecidableEq, Repr

def Px.black : Px := ⟨0, 0, 0, 4096⟩

/-- A pixel of the internal format: R in [35:24], G in [23:12], B in [11:0]. -/
def Px.ofCode (c : BitVec 36) : Px := ⟨bits c.toNat 35 24, bits c.toNat 23 12, bits c.toNat 11 0, 4096⟩
def Px.code (p : Px) : BitVec 36 := BitVec.ofNat 36 (16777216 * p.r + 4096 * p.g + p.b)

/-- A component: 0 R, 1 G, 2 B, 3 alpha. -/
def Px.get (p : Px) (c : Nat) : Nat := if c = 0 then p.r else if c = 1 then p.g else if c = 2 then p.b else p.a

/-- The same function on R, G and B. -/
def Px.map (f : Nat → Nat → Nat) (p : Px) : Px := { p with r := f 0 p.r, g := f 1 p.g, b := f 2 p.b }

def Px.of (f : Nat → Nat) : Px := ⟨f 0, f 1, f 2, f 3⟩

/-- Functions on R'G'B' as functions on pixels. -/
def Px.code2 (f : Nat → Nat → Px) (x y : Nat) : BitVec 36 := (f x y).code

/-- The nearest whole number to n / d; what lies midway goes either way (log 99). -/
def nearestDiv (n d : Nat) : Nat :=
  let r := 2 * (n % d)
  n / d + (if r < d then 0 else if d < r then 1 else b2n (Config.tieUp n d))

/-- n / d to a whole number above or below (log 99). -/
def eitherDiv (n : Int) (d : Nat) : Int := n / d + (if n % d = 0 then 0 else if Config.roundUp n d then 1 else 0)

def clip (lo hi : Nat) (v : Int) : Nat := (max (lo : Int) (min (hi : Int) v)).toNat

/-! ## Range and Y'CbCr (R195, R204; BT.709 and BT.2020, log 100) -/

/-- K_R, K_G and K_B in ten-thousandths: colorimetry 0 BT.709, 1 BT.2020. -/
def lumaOf (colorimetry : Nat) : Nat × Nat × Nat := if colorimetry = 0 then (2126, 7152, 722) else (2627, 6780, 593)

/-- A code of `n` bits as a fraction of 1.0: luma and R'G'B', or chroma; range 0 narrow, 1 full. -/
def expand (range n v : Nat) : Int × Nat :=
  if range = 0 then ((v : Int) - 16 * 2 ^ (n - 8), 219 * 2 ^ (n - 8)) else (v, 2 ^ n - 1)
def expandC (range n v : Nat) : Int × Nat :=
  if range = 0 then ((v : Int) - 128 * 2 ^ (n - 8), 224 * 2 ^ (n - 8)) else ((v : Int) - 2 ^ (n - 1), 2 ^ n - 1)

/-- A fraction as a 12-bit code. -/
def code12 (n : Int) (d : Nat) : Nat := clip 0 4095 (eitherDiv (4095 * n) d)

/-- Y'CbCr of `n` bits to R'G'B'. -/
def decodeYcc (colorimetry range n y cb cr : Nat) : Px :=
  let k := lumaOf colorimetry
  let ly := expand range n y
  let lb := expandC range n cb
  let lr := expandC range n cr
  { r := code12 (ly.1 * (lr.2 * 10000) + 2 * (10000 - k.1 : Nat) * lr.1 * ly.2) (ly.2 * lr.2 * 10000)
    g := code12 (ly.1 * (lr.2 * 10000 * k.2.1) -
           (2 * k.1 * (10000 - k.1) * lr.1 + 2 * k.2.2 * (10000 - k.2.2) * lb.1) * ly.2) (ly.2 * lr.2 * 10000 * k.2.1)
    b := code12 (ly.1 * (lb.2 * 10000) + 2 * (10000 - k.2.2 : Nat) * lb.1 * ly.2) (ly.2 * lb.2 * 10000)
    a := 4096 }

/-- R'G'B' of `n` bits to the internal format. -/
def expandPx (range n : Nat) (p : Px) : Px := p.map fun _ v => code12 (expand range n v).1 (expand range n v).2

/-! ## Colour units (R195, R196, R198) -/

/-- Linear interpolation between two entries. -/
def between (lo hi f span : Nat) : Nat := (eitherDiv (lo * (span - f) + hi * f : Nat) span).toNat

/-- Entry `j` of component `c` of a 3 × 1D LUT of 513 entries. -/
def lutEntry (t : List Byte) (c j : Nat) : Nat := u16 t (2 * (513 * c + j))

/-- Pre-LUT: entry j lies at code 8j, entry 512 at 4,095. -/
def preLut (t : List Byte) (c v : Nat) : Nat :=
  let j := min (v / 8) 511
  between (lutEntry t c j) (lutEntry t c (j + 1)) (v - 8 * j) (if j = 511 then 7 else 8)

/-- A 32-bit two's complement number. -/
def s32 (d : List Byte) (i : Nat) : Int := if u32 d i < 2147483648 then u32 d i else (u32 d i : Int) - 4294967296

/-- The matrix: row `i` of three values, with 16 fractional bits, and its offset. -/
def matrixRow (t : List Byte) (i : Nat) (x : Px) : Nat :=
  clip 0 65535 (eitherDiv (s32 t (16 * i) * x.r + s32 t (16 * i + 4) * x.g + s32 t (16 * i + 8) * x.b + s32 t (16 * i + 12) * 65536) 65536)

/-- Post-LUT: entry 32a + b lies at 2^a (1 + b/32), entry 512 at 65,536; inputs below 1 take entry 0. -/
def postLut (t : List Byte) (c v : Nat) : Nat :=
  if v = 0 then lutEntry t c 0 % 4096
  else
    let a := Nat.log2 v
    let j := 32 * a + (v - 2 ^ a) * 32 / 2 ^ a
    between (lutEntry t c j % 4096) (lutEntry t c (j + 1) % 4096) ((v - 2 ^ a) * 32 % 2 ^ a) (2 ^ a)

/-- Node and place of a code on an axis of the 3D LUT, the place in 65,280ths of the way to the next node. -/
def lutAxis (v : Nat) : Nat × Nat := (min (v / 256) 15, if v < 3840 then (v % 256) * 255 else (v - 3840) * 256)

/-- Node (r, g, b) of the 3D LUT. -/
def lutNode (t : List Byte) (c : Nat) (n : Nat × Nat × Nat) : Nat := u16 t (6 * (289 * n.1 + 17 * n.2.1 + n.2.2) + 2 * c) % 4096

/-- One node on along an axis. -/
def nodeStep (n : Nat × Nat × Nat) (axis : Nat) : Nat × Nat × Nat :=
  if axis = 0 then (n.1 + 1, n.2.1, n.2.2) else if axis = 1 then (n.1, n.2.1 + 1, n.2.2) else (n.1, n.2.1, n.2.2 + 1)

/-- 3D LUT: tetrahedral interpolation, along the axes in the order of their places, the farthest first. -/
def lut3 (t : List Byte) (p : Px) : Px :=
  let ax := [(lutAxis p.r, 0), (lutAxis p.g, 1), (lutAxis p.b, 2)]
  let order := sortBy (fun a b => b.1.2 ≤ a.1.2) ax
  let n0 := ((lutAxis p.r).1, (lutAxis p.g).1, (lutAxis p.b).1)
  let f := order.map (·.1.2)
  let nodes := (order.map (·.2)).foldl (fun (l : List (Nat × Nat × Nat)) a => l ++ [nodeStep (l.getLastD n0) a]) [n0]
  let weights := [65280 - f.getD 0 0, f.getD 0 0 - f.getD 1 0, f.getD 1 0 - f.getD 2 0, f.getD 2 0]
  p.map fun c _ =>
    (eitherDiv (((nodes.zip weights).map fun e => lutNode t c e.1 * e.2).sum : Nat) 65280).toNat

/-- A unit whose two spaces are equal and whose stages are all AUTO or BYPASS passes every code unchanged (R196). -/
def ColUnit.exact (u : ColUnit) (src out : Nat × Nat) : Bool :=
  src == out && u.pre != .loaded && u.matrix != .loaded && u.post != .loaded && !u.lut3d

/-- What a LUT gives; a table with a faulty entry is used as read (R516). -/
def ColUnit.lookup (u : ColUnit) (table c v good top : Nat) : Nat :=
  if u.faulty.contains table then min top (Config.faultyLut table c v) else good

/-- The stages of a colour unit between two spaces (R195). -/
def ColUnit.run (u : ColUnit) (src out : Nat × Nat) (p : Px) : Px :=
  if u.exact src out then p
  else
    let x := p.map fun c v => match u.pre with
      | .auto => Config.autoPre src out v
      | .loaded => u.lookup 0 c v (preLut (u.preTab.getD []) c v) 65535
      | .bypass => v
    let y := x.map fun c v => match u.matrix with
      | .auto => min 65535 (Config.autoMatrix src out c x.r x.g x.b)
      | .loaded => matrixRow (u.matTab.getD []) c x
      | .bypass => v
    let z := y.map fun c v => match u.post with
      | .auto => Config.autoPost src out v % 4096
      | .loaded => u.lookup 2 c v (postLut (u.postTab.getD []) c v) 4095
      | .bypass => if v < 4096 then v else Config.bypassHigh v % 4096
    if u.lut3d then let w := lut3 (u.lutTab.getD []) z; w.map fun c v => u.lookup 3 c (z.get c) v 4095 else z

/-- A layer's space adapter (R197). -/
def adaptPx (src work : Nat × Nat) (p : Px) : Px :=
  if src = work then p else { Px.ofCode (Config.adapt src work p.code) with a := p.a }

/-! ## Input (R84, R96) -/

/-- Bits of a component: sampling 0 4:2:2 10-bit, 1 and 2 4:4:4 at 10 and 12 bits. -/
def depthOf (sampling : Nat) : Nat := if sampling = 2 then 12 else 10

/-- A pixel of a received frame as its input unit wrote it to the ring. -/
def ringPx (src id : Nat) (fmt : Fmt) (u : ColUnit) (x y : Nat) : Px :=
  let n := depthOf fmt.sampling
  let code := fun c i => Config.received src id c i y % 2 ^ n
  let p :=
    if fmt.sampling = 0 then
      decodeYcc fmt.colorimetry fmt.range n (code 0 x) (Config.upChroma (code 1) x % 2 ^ n) (Config.upChroma (code 2) x % 2 ^ n)
    else if Config.ycc444In src id then decodeYcc fmt.colorimetry fmt.range n (code 0 x) (code 1 x) (code 2 x)
    else expandPx fmt.range n ⟨code 0 x, code 1 x, code 2 x, 4096⟩
  u.run (fmt.colorimetry, fmt.transfer) (u.ringSpace fmt) p

/-! ## Pictures as functions -/

/-- What a layer shows, before its crop: its pixels in the head's working space. -/
structure Image where
  w : Nat
  h : Nat
  il : Bool
  /-- parity of the rows of the second field -/
  second : Nat
  premult : Bool
  px : Nat → Nat → Px

/-- Parity of the rows of the second field of a mode. -/
def secondParity (mode : Nat) : Nat := if Config.topFirst mode then 1 else 0

/-- A pixel that no rule places. -/
def strayPx (x y : Nat) : Px := Px.of fun c => Config.stray x y c % 4096

/-- A picture as the motion store keeps it (R217). -/
def storedPx (px : Nat → Nat → Px) (x y : Nat) : Px := Px.ofCode (Config.motionStore (fun i => (px i y).code) x)

/-- The rows of one field of a picture. -/
def fieldRows (px : Nat → Nat → Px) (parity : Nat) (x j : Nat) : BitVec 36 := (px x (2 * j + parity)).code

/-- A whole picture out of a frame or one field of it (R226). -/
def deintPx (px : Nat → Nat → Px) (d : Deint) (field second num : Nat) (x y : Nat) : Px :=
  let own := if field = 1 then 1 - second else second
  match d with
  | .whole => px x y
  | .spatial => if y % 2 = own then px x y else Px.ofCode (Config.spatial (fieldRows px own) x y)
  | .adaptive => if y % 2 = own then px x y else Px.ofCode (Config.adaptive (fieldRows px own) num x y)
  | .weave =>
    if y % 2 = 1 - second ∨ Config.fieldsAgree (Px.code2 px) x y = true then px x y
    else Px.ofCode (Config.spatial (fieldRows px (1 - second)) x y)

/-- The samples of a base: of a ring frame, or of a picture that a head has shown. -/
def Base.px (shot : Nat → Nat → Nat → Px) : Base → Nat → Nat → Px
  | .ring src id fmt u => ringPx src id fmt u
  | .shot n => shot n

def Base.num : Base → Nat
  | .ring src id _ _ => 1024 * id + src
  | .shot n => 1024 * n + 1023

/-- A picture of the motion store, deinterlaced. -/
def PicRef.kept (shot : Nat → Nat → Nat → Px) (second : Nat) (d : Deint) (p : PicRef) (x y : Nat) : Px :=
  deintPx (storedPx (p.base.px shot)) d p.field second p.base.num x y

/-- The samples of a content (R221). -/
def Content.px (shot : Nat → Nat → Nat → Px) (second : Nat) (c : Content) (x y : Nat) : Px :=
  match c with
  | .one p d => deintPx (p.base.px shot) d p.field second p.base.num x y
  | .kept p d => p.kept shot second d x y
  | .mix p q d phase =>
    Px.of fun i => (eitherDiv ((64 - phase) * (p.kept shot second d x y).get i + phase * (q.kept shot second d x y).get i : Nat) 64).toNat
  | .motion p q d phase =>
    Px.ofCode (Config.motion (Px.code2 (p.kept shot second d)) (Px.code2 (q.kept shot second d)) phase x y)

/-- A pixel of a frame; of an interlaced frame built field by field, from the field that holds its row. -/
def Frame.px (shot : Nat → Nat → Nat → Px) (f : Frame) (x y : Nat) : Px :=
  let s := secondParity f.mode
  let c := if f.il && y % 2 == s then f.content2.getD f.content else f.content
  c.px shot s x y

/-! ## Surfaces and memory (R158, R164) -/

/-- Bits widened to 12 by replication. -/
def widen (b v : Nat) : Nat :=
  let k := ceilDiv 12 b
  v * ((2 ^ (b * k) - 1) / (2 ^ b - 1)) / 2 ^ (b * k - 12)

/-- Alpha of `b` bits in 4,096ths (R151). -/
def alphaOf (b v : Nat) : Nat := (eitherDiv (4096 * v : Nat) (2 ^ b - 1)).toNat

/-- A pixel of a format out of its bits. -/
def formatPx (f v : Nat) : Px :=
  match f with
  | 1 => ⟨widen 5 (bits v 15 11), widen 6 (bits v 10 5), widen 5 (bits v 4 0), 4096⟩
  | 2 => ⟨widen 5 (bits v 14 10), widen 5 (bits v 9 5), widen 5 (bits v 4 0), alphaOf 1 (bits v 15 15)⟩
  | 3 => ⟨widen 4 (bits v 11 8), widen 4 (bits v 7 4), widen 4 (bits v 3 0), alphaOf 4 (bits v 15 12)⟩
  | 4 => ⟨widen 8 (bits v 23 16), widen 8 (bits v 15 8), widen 8 (bits v 7 0), 4096⟩
  | 5 => ⟨widen 8 (bits v 23 16), widen 8 (bits v 15 8), widen 8 (bits v 7 0), alphaOf 8 (bits v 31 24)⟩
  | 6 => ⟨widen 8 (bits v 23 16), widen 8 (bits v 15 8), widen 8 (bits v 7 0), alphaOf 8 (bits v 31 24)⟩
  | 0x11 => ⟨bits v 35 24, bits v 23 12, bits v 11 0, alphaOf 12 (bits v 47 36)⟩
  | _ => ⟨bits v 35 24, bits v 23 12, bits v 11 0, 4096⟩

/-- Pixel `x` of a row of memory that begins at address `row`. -/
def memPx (mem : Nat → Byte) (f row x : Nat) : Px :=
  let at_ := 4 * fmtBytes2 f * x
  let n := 4 * fmtBytes2 f
  let v := leNat ((List.range (n / 8 + 1)).map fun i => mem (row + at_ / 8 + i))
  formatPx f (v / 2 ^ (at_ % 8) % 2 ^ n)

/-- Memory as it stood when a picture was composed. -/
def Picture.mem (p : Picture) (x : Nat) : Byte := (knownByte p.hbm p.surfs x).getD (Config.hbmOpen x)

/-- A surface's pixel in a working space: graphics expanded to full range and adapted, VID as it is (R197). -/
def Picture.surfPx (p : Picture) (f : Surf) (x y : Nat) : Px :=
  let q := memPx p.mem f.format (f.base + y * f.pitch) x
  if isVid f.format then q
  else adaptPx (f.colorimetry, f.transfer) p.space (if f.range = 0 then { expandPx 0 12 q with a := q.a } else q)

/-! ## Scaling (R188 to R193) -/

/-- A coefficient: phase `p`, tap `i` of `t`; of set 0, which follows the ratio a : b. -/
def tapOf (coef : Option (List Byte)) (t a b p i : Nat) : Int :=
  match coef with
  | some l => s16 l (16 * p + 2 * i)
  | none => Config.set0 t a b p i

/-- Output `o` of an axis that maps `a` inputs onto `b` outputs: t taps at the phase of its position (log 101). -/
def filterAxis (coef : Option (List Byte)) (t a b : Nat) (shift : Int) (row : Nat → Int) (o : Nat) : Int :=
  let pos := eitherDiv (32 * (((2 * o + 1) * a : Nat) - (b : Int))) b + shift
  let first := pos / 64 + 1 - (t / 2 : Nat)
  let sum := ((List.range t).map fun (i : Nat) =>
    let j := first + (i : Int)
    tapOf coef t a b (pos % 64).toNat i * (if 0 ≤ j ∧ j < (a : Int) then row j.toNat else Config.edgeTap row a j)).sum
  if sum % 4096 = 0 then sum / 4096 else Config.filtered sum

/-- Where output line `y` of the destination takes its rows from: inputs a, outputs b, the output row, the input row of each
place, and whether the head is interlaced (R190). -/
structure RowMap where
  a : Nat
  b : Nat
  o : Nat
  row : Nat → Nat
  shift : Int

def rowMap (l : LayerCfg) (im : Image) (headIl : Bool) (cropY cropH ly : Nat) : RowMap :=
  let q := ((l.dstY + ly) % 2).toNat
  let ab := rowsAB im.il headIl cropH l.dstH
  { a := ab.1, b := ab.2, o := (if headIl then ly / 2 else ly)
    row := fun j => if im.il then 2 * j + ((if headIl then q else im.second) + cropY) % 2 else j
    shift := if headIl then Config.fieldShift q else 0 }

/-- Component `c` of a layer at a pixel of its destination. A scaler filters horizontally first where it scales down, after
the vertical filter where it does not (R189); a degraded axis takes the nearest sample (R192). -/
def LayerPic.scaled (p : LayerPic) (im : Image) (headIl : Bool) (lx ly c : Nat) : Nat :=
  let l := p.cfg
  let cr := l.crop ⟨im.w, im.h, im.il⟩
  let plane := fun (i j : Nat) => (((im.px (cr.1 + i) (cr.2.1 + j)).get c : Nat) : Int)
  let m := rowMap l im headIl cr.2.1 cr.2.2.2 ly
  let named := decide (l.scaler < 128)
  let hor := fun (row : Nat → Int) =>
    if p.degH then row (nearest lx cr.2.2.1 l.dstW)
    else if named then filterAxis p.coefH l.tapsH cr.2.2.1 l.dstW 0 row lx else row lx
  let ver := fun (col : Nat → Int) =>
    if p.degV then col (m.row (nearest m.o m.a m.b))
    else if named then filterAxis p.coefV l.tapsV m.a m.b m.shift (fun j => col (m.row j)) m.o else col ly
  let v := if l.dstW < cr.2.2.1 then ver fun j => hor fun i => plane i j else hor fun i => ver fun j => plane i j
  clip 0 (if c = 3 then 4096 else 4095) v

/-! ## Composition (R151, R168, R170, R174) -/

/-- A shown content as an image; none where the layer has none of its own. -/
def Picture.image (p : Picture) (shots : List Picture) (shot : Nat → Nat → Nat → Px) (l : LayerPic) : Option Image :=
  match l.shown with
  | .frame _ f =>
    some { w := modeW f.mode, h := modeH f.mode, il := f.il, second := secondParity f.mode, premult := l.cfg.premult,
           px := fun x y => adaptPx (f.colorimetry, f.transfer) p.space (f.px shot x y) }
  | .reentry _ _ m n =>
    some { w := modeW m, h := modeH m, il := modeInterlaced m, second := secondParity m, premult := l.cfg.premult,
           px := fun x y => adaptPx ((shots.getD n Picture.blank).space) p.space (shot n x y) }
  | .surface h => (p.surfs.find? fun f => f.handle == h).map fun f =>
      { w := f.width, h := f.height, il := false, second := 0, premult := l.cfg.premult || f.format == 6, px := p.surfPx f }
  | .raw off =>
    some { w := l.cfg.cropX + l.cfg.cropW, h := l.cfg.cropY + l.cfg.cropH, il := false, second := 0,
           premult := l.cfg.premult || l.cfg.rawFormat == 6,
           px := fun x y => memPx p.mem l.cfg.rawFormat (off + y * l.cfg.rawPitch) x }
  | _ => none

/-- A slate fills the destination: pixel by pixel where it has its size (log 102). -/
def Picture.slatePx (p : Picture) (h : BitVec 32) (l : LayerCfg) (lx ly : Nat) : Px × Bool :=
  match p.surfs.find? fun f => f.handle == h with
  | some f =>
    (if f.width = l.dstW ∧ f.height = l.dstH then p.surfPx f lx ly
     else Px.of fun c => Config.slateFit (fun c x y => (p.surfPx f x y).get c) c lx ly % 4096, f.format == 6)
  | none => (strayPx lx ly, false)

/-- What a layer gives at an output pixel, and whether it is premultiplied; none outside its destination, in a tile row from
which it was cut off, or where it shows nothing. -/
def Picture.layerPx (p : Picture) (shots : List Picture) (shot : Nat → Nat → Nat → Px) (l : LayerPic) (x y : Nat) : Option (Px × Bool) :=
  let c := l.cfg
  let lx := (x : Int) - c.dstX
  let ly := (y : Int) - c.dstY
  let cut := match l.cutRow with | some r => decide (r ≤ y / 16) | none => false
  if cut || !decide (0 ≤ lx ∧ lx < c.dstW ∧ 0 ≤ ly ∧ ly < c.dstH) then none
  else
    match l.shown with
    | .nothing => none
    | .transparent => none
    | .black => some (Px.black, c.premult)
    | .colour v => some (Px.ofCode v, c.premult)
    | .slate h => let q := p.slatePx h c lx.toNat ly.toNat; some (q.1, c.premult || q.2)
    | _ => match p.image shots shot l with
      | some im => some (Px.of fun k => l.scaled im (modeInterlaced p.cfg.mode) lx.toNat ly.toNat k, im.premult)
      | none => some (strayPx lx.toNat ly.toNat, c.premult)

/-- The blend of R151 on one component: global alpha g, pixel alpha p, both in 4,096ths. -/
def blend (g p : Nat) (premult : Bool) (c b : Nat) : Nat :=
  min 4095 (nearestDiv ((if premult then 4096 * g * c else g * p * c) + (16777216 - g * p) * b) 16777216)

/-- A layer over what lies below: faded towards black first, where a FADE does so (R118). -/
def LayerPic.over (l : LayerPic) (q : Px) (premult : Bool) (below : Px) : Px :=
  let a := if l.cfg.opq && l.alpha == 4096 then 4096 else q.a
  below.map fun c b => blend l.alpha a premult (eitherDiv (q.get c * l.keep : Nat) 4096).toNat b

/-- Tile (x / 64, y / 16) of layer `k` is culled for the whole frame (R168, R170). -/
def Picture.culled (p : Picture) (k x y : Nat) : Bool :=
  (p.cfg.culled p.mixing k).any fun r => decide (r.x0 ≤ x / 64 ∧ x / 64 < r.x1 ∧ r.y0 ≤ y / 16 ∧ y / 16 < r.y1)

/-- A composed pixel: the background, and each layer over those below. -/
def Picture.composedPx (p : Picture) (shots : List Picture) (shot : Nat → Nat → Nat → Px) (x y : Nat) : Px :=
  let bg := Px.ofCode p.background
  let unwritten := match p.bgRow with | some (r, n) => decide (r ≤ y / 16 ∧ y / 16 < r + n) | none => false
  if unwritten then bg
  else p.layers.zipIdx.foldl (fun below e =>
    if p.culled e.2 x y then below
    else match p.layerPx shots shot e.1 x y with
      | some q => e.1.over q.1 q.2 below
      | none => below) bg

/-- A pixel of number `n` of the pictures shown; `fuel` bounds the hops of re-entry, each of which names an earlier picture. -/
def shotPx (shots : List Picture) : Nat → Nat → Nat → Nat → Px
  | 0, _, x, y => strayPx x y
  | fuel + 1, n, x, y => (shots.getD n Picture.blank).composedPx shots (shotPx shots fuel) x y

/-- A pixel of a composed frame, in the head's working space. -/
def State.framePx (s : State) (p : Picture) (x y : Nat) : Px := p.composedPx s.hds.shots (shotPx s.hds.shots s.hds.shots.length) x y

/-! ## The output unit, encode and dither (R195, R204 to R206) -/

/-- The output spaces of a head: from its working space to its output space (R196). -/
def State.outSpaceOf (s : State) (h : Nat) : Nat × Nat := (s.colOut h).outSpace.getD s.house

/-- A pixel after the head's output colour unit. -/
def State.unitPx (s : State) (h : Nat) (p : Picture) (x y : Nat) : Px :=
  (s.colOut h).run p.space (s.outSpaceOf h) (s.framePx p x y)

/-- A code of 14 bits: peak and zero of luma, and of chroma. -/
def code14 (range : Nat) (n : Int) (d : Nat) : Nat :=
  clip 0 16383 (if range = 0 then 1024 + eitherDiv (14016 * n) d else eitherDiv (Config.fullPeak * n) d)
def chroma14 (range : Nat) (n : Int) (d : Nat) : Nat :=
  clip 0 16383 (8192 + (if range = 0 then eitherDiv (14336 * n) d else eitherDiv (Config.fullPeak * n) d))

/-- Luma of a pixel over 40,950,000. -/
def lumaNum (colorimetry : Nat) (p : Px) : Nat :=
  let k := lumaOf colorimetry
  k.1 * p.r + k.2.1 * p.g + k.2.2 * p.b

/-- A colour difference of a pixel, Cb (1) or Cr (2), as a fraction. -/
def chromaNum (colorimetry c : Nat) (p : Px) : Int × Nat :=
  let k := lumaOf colorimetry
  if c = 1 then ((10000 * p.b : Nat) - (lumaNum colorimetry p : Int), 8190 * (10000 - k.2.2))
  else ((10000 * p.r : Nat) - (lumaNum colorimetry p : Int), 8190 * (10000 - k.1))

/-- Samples of a pixel that a destination sends: two for 4:2:2, three for 4:4:4. -/
def samplesPerPixel (sampling : Nat) : Nat := if sampling = 0 then 2 else 3

/-- The component that sample `i` of a pixel carries: Y' or R' 0, Cb or G' 1, Cr or B' 2. -/
def componentOf (sampling x i : Nat) : Nat :=
  if sampling = 0 then (if i = 1 then 0 else if x % 2 = 0 then 1 else 2) else Config.order444 i % 3

/-- The 14-bit value of a component: `px` are the pixels of its line, `w` of them. Chroma of 4:2:2 goes through the half-band filter
and lies at even pixels. -/
def encode (colorimetry range sampling : Nat) (ycc : Bool) (w : Nat) (px : Nat → Px) (x c : Nat) : Nat :=
  if sampling = 0 ∧ c ≠ 0 then
    let e := x - x % 2
    let num := fun (o : Int) =>
      let i := (e : Int) + o
      if 0 ≤ i ∧ i < (w : Int) then some (chromaNum colorimetry c (px i.toNat)).1 else none
    Config.halfBand ([0, -1, 1, -3, 3, -5, 5, -7, 7].map num) (chromaNum colorimetry c (px e)).2 % 16384
  else if sampling = 0 ∨ ycc = true then
    if c = 0 then code14 range (lumaNum colorimetry (px x)) 40950000
    else chroma14 range (chromaNum colorimetry c (px x)).1 (chromaNum colorimetry c (px x)).2
  else code14 range ((px x).get c) 4095

/-- Place of a frame line in the order of scan-out: an interlaced raster sends its first field first. -/
def scanRow (mode y : Nat) : Nat :=
  if modeInterlaced mode then (if y % 2 = secondParity mode then modeH mode / 2 + y / 2 else y / 2) else y

/-- The offset that a destination's dither adds to sample number `k`, at pixel x of frame line y (R205). -/
def Dith.offset (t : Dith) (count k x y : Nat) : Int :=
  if t.mode = 0 then 0
  else if t.mode = 1 then noiseOffset (noiseStep^[k + 1] (noiseStart t.seed count))
  else orderedOffset t.seed.toNat x y

/-- Sample `i` of pixel (x, y) of a frame as destination `d` of head `h` sends it. -/
def State.sample (s : State) (h d : Nat) (p : Picture) (x y i : Nat) : Nat :=
  let sp := (s.dest d).sampling
  let mode := p.cfg.mode
  let c := componentOf sp x i
  let range := (s.colOut h).outRange
  let v := encode (s.outSpaceOf h).1 range sp (Config.ycc444Out d) (modeW mode) (fun x => s.unitPx h p x y) x c
  let k := (scanRow mode y * modeW mode + x) * samplesPerPixel sp + i
  let l := Config.legal range (depthOf sp) c
  dither v ((s.dith d).offset p.frame k x y) (14 - depthOf sp) l.1 l.2

/-! ## Eyespots (R295, R296) -/

/-- The rectangle of eyespot `k`: x, y, w, h. Eyespot 0 is the dike's while the dike has content. -/
def State.spotRect (s : State) (h k : Nat) (dike : Bool) : Rect :=
  let c := (s.head h).applied
  if k = 0 ∧ dike = true then (c.layer 7).onRaster (modeW c.mode) (modeH c.mode)
  else
    let x := s.fget (Adr.esXy h k) 12 0
    let y := s.fget (Adr.esXy h k) 28 16
    { x0 := x, x1 := min (x + s.fget (Adr.esWh h k) 12 0) (modeW c.mode), y0 := y,
      y1 := min (y + s.fget (Adr.esWh h k) 28 16) (modeH c.mode) }

/-- The samples of a rectangle, line by line, each a 16-bit little-endian word. -/
def State.spotBytes (s : State) (h d : Nat) (p : Picture) (r : Rect) : List Byte :=
  (List.range (r.y1 - r.y0)).flatMap fun j => (List.range (r.x1 - r.x0)).flatMap fun i =>
    (List.range (samplesPerPixel (s.dest d).sampling)).flatMap fun k => leBytes 2 (s.sample h d p (r.x0 + i) (r.y0 + j) k)

/-- The reference hashes of the four eyespots on a destination, 0 for one that is not enabled. -/
def State.refHashes (s : State) (h d : Nat) (p : Picture) (spots : Nat) (dike : Bool) : List Byte :=
  (List.range 4).flatMap fun k =>
    if bits spots k k = 1 then bytesAt (sha384 (s.spotBytes h d p (s.spotRect h k dike))) 0 16 else List.replicate 16 0

end Sys2Proof.Machine
end

