-- ==== Sys2Proof/Machine/Scan.lean ====
section
/-!
DEFINITION. Machine/Scan.lean: the sluice and the composition of a frame (R124, R131, R134, R135, R138, R143, R174 to
R177, R193, R253).
-/
namespace Sys2Proof.Machine

/-- j / n in 4,096ths, rounded to nearest. -/
def ratio4096 (j n : Nat) : Nat := if n = 0 then 4096 else (2 * 4096 * j + n) / (2 * n)

/-- The layers of a frame with the global alpha and the share of the picture kept from black (R118). -/
def Head.frameLayers (x : Head) : List (LayerCfg × Nat × Nat) :=
  let base := (List.range 8).map fun k => (x.applied.layer k, (x.applied.layer k).alpha, 4096)
  match x.trans with
  | none => base
  | some t =>
    let new := x.applied.layer 0
    let off : LayerCfg := LayerCfg.reset
    match t.kind with
    | .cut => base
    | .mix => (base.set 0 (t.old, t.old.alpha, 4096)).set 1 (new, ratio4096 (t.j * new.alpha) (t.dur * 4096), 4096)
    | .fade =>
      let m := (t.dur + 1) / 2
      if t.j ≤ m then (base.set 0 (t.old, t.old.alpha, 4096 - ratio4096 t.j m)).set 1 (off, 0, 4096)
      else (base.set 0 (off, 0, 4096)).set 1 (new, new.alpha, ratio4096 (t.j - m) (t.dur - m))

/-! ## Composing (R174 to R178) -/

/-- An event of a layer (R183). -/
def State.layerRaise (s : State) (h k bit code : Nat) (d : List (Nat × Nat × Nat)) : State :=
  s.raise (Adr.hdCause h) (Adr.hdMask h) bit h code ([(20, 2, h), (22, 1, k)] ++ d)

/-- Hold time in ms, fallback, slate and frame rate of a source as its readers see it (R103, R228). -/
def State.holdOf (s : State) (n : Nat) : Nat × Nat × BitVec 32 × (Nat × Nat) :=
  let m := if 256 ≤ n ∧ n < 384 then (s.cnv (n - 256)).input else n
  let rate := if 256 ≤ n ∧ n < 384 then s.polderRate (s.cnv (n - 256)).polder else modeRate (s.src m).fmt.mode
  if m < 256 then ((s.src m).holdMs, s.ownFallback n, (s.src m).slate, rate) else (2000, s.ownFallback n, 0, rate)

/-- The hold time is over: the layer's own time and fallback replace the source's when they are not 0 and 0xFF. -/
def State.holdOver (s : State) (l : LayerCfg) (n pub : Nat) : Bool :=
  let h := s.holdOf n
  let ms := if l.holdMs ≠ 0 then l.holdMs else h.1
  decide (pub + max (msTicks ms) (2 * periodTicks h.2.2.2) < s.now)

/-- The fallback of a layer. -/
def State.fallbackOf (s : State) (l : LayerCfg) (n : Nat) : Nat × BitVec 32 :=
  if l.fallback ≠ 0xFF then (l.fallback, l.slate) else ((s.holdOf n).2.1, (s.holdOf n).2.2.1)

/-- A frame that a source offers its readers. -/
structure Offer where
  id : Nat
  shown : Shown
  /-- the frame rate of the source -/
  rate : Nat × Nat
  atc : Option Nat
  anc : List Anc
  pub : Nat
  ref : Int
  deriving DecidableEq, Repr

/-- A frame of source `n` as an offer. -/
def Frame.offer (f : Frame) (n : Nat) (rate : Nat × Nat) : Offer :=
  { id := f.id, shown := .frame n f, rate := rate, atc := f.atc, anc := f.anc, pub := f.pubCt, ref := f.ref }

/-- The newest frame that a source offers a layer of a head in polder `p`. Re-entry shows the front picture of a head in FRAME
mode in the same polder, with the reference of its followed layer: layer 0 of a software-managed head (R177, R333; log 94). -/
def State.offer (s : State) (n p : Nat) : Option Offer :=
  if n < 256 then
    match s.newestFrame n with
    | some (_, _, f) => some (f.offer n (modeRate f.mode))
    | none => none
  else if n < 384 then
    match (s.cnv (n - 256)).out with
    | f :: _ => some (f.offer n (s.polderRate (s.cnv (n - 256)).polder))
    | [] => none
  else
    let g := s.head (n - 384)
    if g.run = .frame ∧ g.applied.polder = p then
      some { id := g.fcount, shown := .reentry (n - 384) g.fcount g.applied.mode g.shot, rate := modeRate g.applied.mode, atc := none,
             anc := [], pub := s.now, ref := g.followRef 0 }
    else none

/-- A reader takes the frame: it pins the slot, and the first reader counts it as used. -/
def State.takeSource (s : State) (n h k : Nat) : State :=
  if n < 256 then
    match s.newestFrame n with
    | some (r, i, _) => s.takeFrame n r i (.layer h k)
    | none => s
  else s

/-- The picture of a layer that shows its fallback, `last` being the last good frame of its source (R103, R177). -/
def fallbackPic (base : LayerPic) (l : LayerCfg) (f : Nat × BitVec 32) (last : Option Shown) (run : LayerRun) : LayerPic :=
  let base := { base with cls := .fallback, pub := run.lastPub }
  match f.1 with
  | 1 => { base with shown := .transparent }
  | 2 => match last with
    | some x => { base with shown := x, cls := .rep, anc := run.lastAnc }
    | none => { base with shown := .black }
  | 3 => { base with shown := .slate (if l.fallback = 3 then l.slate else f.2) }
  | _ => { base with shown := .black }

/-- EV_LAYER_FALLBACK, once. -/
def State.fallbackEvent (s : State) (h k n : Nat) (f : Nat × BitVec 32) (run : LayerRun) : State :=
  if run.fell then s else s.layerRaise h k 2 0x0202 [(23, 1, f.1), (24, 2, n)]

/-- A source layer at its compose start; `base` is its picture but for what it shows. -/
def State.composeSource (s : State) (h k : Nat) (polder : Nat) (l : LayerCfg) (base : LayerPic) (run : LayerRun) :
    LayerPic × LayerRun × State :=
  let n := l.src.toNat % 65536
  let run := if run.src = some n then run else { run with src := some n, fell := false }
  let fb := s.fallbackOf l n
  let mine := match run.last with | some (m, i) => if m = n then some i else none | none => none
  let again := { base with shown := run.lastShown, cls := .rep, anc := run.lastAnc, pub := run.lastPub, ref := some run.lastRef }
  match s.offer n polder with
  | some o =>
    if mine ≠ some o.id then
      let skipped := match mine with | some i => o.id - i - 1 | none => 0
      let atc := if sameRate o.rate (s.polderRate polder) then o.atc else none
      ({ base with shown := o.shown, cls := .new, skipped := skipped, atc := atc, anc := o.anc, pub := o.pub, ref := some o.ref },
       { run with fell := false }, s.takeSource n h k)
    else if n < 384 ∧ s.holdOver l n run.lastPub then
      (fallbackPic base l fb (some run.lastShown) run, { run with fell := true }, (s.fallbackEvent h k n fb run).takeSource n h k)
    else (again, { run with fell := false }, s.takeSource n h k)
  | none =>
    -- a source whose ring has gone repeats while its hold time runs; re-entry without a frame shows BLACK or TRANSPARENT
    if n < 384 ∧ mine.isSome = true ∧ s.holdOver l n run.lastPub = false then (again, { run with fell := false }, s)
    else
      let fb := if 384 ≤ n ∧ fb.1 ≠ 1 then (0, 0) else fb
      (fallbackPic base l fb (mine.map fun _ => run.lastShown) run, { run with fell := true }, s.fallbackEvent h k n fb run)

/-- The raster of what a layer shows, none where it has no raster of its own. -/
def Shown.raster (x : Shown) : Option Raster :=
  match x with
  | .frame _ f => (rasterOf f.mode).map fun r => { r with il := f.il }
  | .reentry _ _ m _ => rasterOf m
  | _ => none

/-- The fit of a layer against the raster of the frame it shows (R193): degraded axes. A layer that does not follow its source
keeps what its validation found. -/
def State.runtimeFit (s : State) (c : HeadCfg) (l : LayerCfg) (r : Raster) : Bool × Bool :=
  if l.cropW = 0 ∨ l.cropH = 0 then
    if l.scaler < 128 then s.lbShort c l r
    else (decide (r.h ≠ l.dstH), decide (r.w ≠ l.dstW))
  else (l.degV, l.degH)

/-- The events of a scaler that begins or ends to degrade (R193, R211). -/
def State.scaleEvent (s : State) (h k : Nat) (l : LayerCfg) (deg : Bool × Bool) (frame : Nat) (on : Bool) : State :=
  let n := l.scaler
  s.raise (Adr.sclCause n) (Adr.sclMask n) (if on then 0 else 1) (296 + n / 16) (if on then 0x0600 else 0x0601)
    [(20, 2, n), (22, 2, h), (24, 1, k), (25, 1, b2n deg.1 + 2 * b2n deg.2), (26, 2, l.src.toNat % 65536), (28, 4, frame)]

/-- The coefficients of a scaler's set on an axis, none for set 0 (R188, R203). -/
def Scaler.coefs (x : Scaler) (i : Nat) (v : Bool) : Option (List Byte) :=
  match x.set i with
  | some c => if (if v then c.tapsV else c.tapsH) = 0 then none else some (bytesAt c.coef (if v then 1024 else 0) 1024)
  | none => none

/-- A frame taken through a scaler: its degraded axes and its need of lines (R193, R209); the event where the layer follows
its source and the fit has changed. A configuration that is new starts from what its validation found, whose event comes
at its flip (R211). -/
def State.scalerFrame (s : State) (h k : Nat) (c : HeadCfg) (fresh : Bool) (l : LayerCfg) (taken : Option (Raster × (Bool × Bool))) : State :=
  if l.scaler < 128 then
    let x := s.scl l.scaler
    let was := if fresh then (l.degV, l.degH) else (x.degV, x.degH)
    match taken with
    | some (r, deg) =>
      let ab := rowsAB r.il (modeInterlaced c.mode) (l.crop r).2.2.2 l.dstH
      let s := s.setScl l.scaler { x with degV := deg.1, degH := deg.2, need := ceilDiv (l.tapsV * ab.1) ab.2 }
      let now := deg.1 || deg.2
      if (l.cropW = 0 ∨ l.cropH = 0) ∧ (was.1 || was.2) ≠ now then s.scaleEvent h k l deg (s.head h).fcount now else s
    | none => s.setScl l.scaler { x with degV := was.1, degH := was.2 }
  else s

/-- One layer of the frame that a head composes; `fresh`: the configuration has not been shown yet. -/
def State.composeLayer (s : State) (h k : Nat) (c : HeadCfg) (fresh : Bool) (e : LayerCfg × Nat × Nat) : LayerPic × State :=
  let x := s.head h
  let l := e.1
  let run := x.layers.getD k LayerRun.reset
  let live := decide (k < c.count) && l.enable && decide (l.kind ≠ 0) && !run.heldOff
  let sc := s.scl l.scaler
  let used := decide (l.scaler < 128)
  let base : LayerPic :=
    { LayerPic.off with alpha := e.2.1, keep := e.2.2, cfg := l, coefH := (if used then sc.coefs l.setH false else none),
                        coefV := (if used then sc.coefs l.setV true else none) }
  if !live then
    (LayerPic.off, s.updHead h fun x =>
      { x with layers := x.layers.set k { run with src := none, fell := false, underruns := (if run.heldOff then run.underruns else 0) } })
  else if l.kind = 1 then
    let n := l.src.toNat % 65536
    let r := s.composeSource h k c.polder l base run
    let taken := r.1.shown.raster.map fun ras => (ras, r.2.2.runtimeFit c l ras)
    let deg := match taken with | some (_, d) => d | none => (false, false)
    ({ r.1 with degV := deg.1, degH := deg.2, src := n },
     (r.2.2.updHead h fun x => { x with layers := x.layers.set k r.2.1 }).scalerFrame h k c fresh l taken)
  else
    let shown := if l.kind = 2 then Shown.surface (BitVec.ofNat 32 l.src.toNat)
      else if l.kind = 3 then Shown.raw (l.src.toNat % 2 ^ 36) else Shown.colour (BitVec.ofNat 36 l.src.toNat)
    ({ base with shown := shown, src := 0xFFFE, cls := .still, degV := l.degV, degH := l.degH },
     (s.updHead h fun x => { x with layers := x.layers.set k { run with src := none, fell := false } }).scalerFrame h k c fresh l
       (some (s.layerRaster l, (l.degV, l.degH))))

/-- Layers whose three underruns in a row hold them off from this compose start (R175). -/
def State.holdOffs (s : State) (h : Nat) (c : HeadCfg) : State :=
  let x := s.head h
  (List.range 8).foldl (fun s k =>
    let r := (s.head h).layers.getD k LayerRun.reset
    if (c.layer k).holdOff && decide (3 ≤ r.underruns) && !r.heldOff then
      (s.updHead h fun x => { x with layers := x.layers.set k { r with heldOff := true } }).layerRaise h k 1 0x0201
        [(28, 4, x.fcount)]
    else s) s

/-- Compose the frame of a head. -/
def State.compose (s : State) (h frame : Nat) : State :=
  let s := (s.unpinHead h).colourCompose h
  let p := (s.head h).planned
  let fresh := decide (p.instar ≠ (s.head h).instar)
  let s := s.holdOffs h p.applied
  let r := (p.frameLayers.zipIdx).foldl (fun (a : List LayerPic × State) e =>
    let q := a.2.composeLayer h e.2 p.applied fresh e.1
    (a.1 ++ [q.1], q.2)) (([] : List LayerPic), s)
  r.2.updHead h fun x =>
    { x with composing := some { frame := frame, layers := r.1, background := p.applied.background, bgRow := none, instar := p.instar,
                                 cfg := p.applied, mixing := p.trans.isSome, space := r.2.workSpace h, hbm := r.2.hbm,
                                 surfs := r.2.srf.list },
             deadlineDone := false }

/-! ## Judging commits at a sluice -/

/-- The first surface of a list that is not READY. -/
def State.firstUnready (s : State) (l : List (BitVec 32)) : Option (BitVec 32) := l.find? fun h => !s.surfReady h

/-- A commit is held at a sluice (R134). -/
def State.holdCommit (s : State) (h : Nat) (c : Commit) (handle : BitVec 32) : State :=
  let s := s.updHead h fun x =>
    { x with queue := (x.queue.map fun d => if d.stamp = c.stamp then { d with held := d.held + 1, wasHeld := true } else d) }
  if c.wasHeld then s.setBit (Adr.cmtStat h) 9
  else (s.count (Adr.cmtCnt h) 31 16 1).cmtFlag h 9 1 0x0221 c.ring c.seq handle.toNat

/-- A held commit is refused at its ninth sluice (R134). -/
def State.notReady (s : State) (h : Nat) (c : Commit) (handle : BitVec 32) : State :=
  ((s.cmtFlag h 10 2 0x0222 c.ring c.seq handle.toNat).dropCommit h c).commitDone c csNotReady 0

/-- The members of a salvo with their heads. -/
def State.salvoMembers (s : State) (owner : Nat) (salvo : Nat × Bool) : List (Nat × Commit) :=
  s.queued.filter fun p => p.2.owner == owner && p.2.salvo == some salvo

/-- A LOCKSTEP salvo at its salvo sluice: true when its member may lock (R143). -/
def State.lockstepSluice (s : State) (c : Commit) : Bool × State :=
  match c.salvo with
  | some (id, true) =>
    let go := s.hds.armed.any fun a => a.owner == c.owner && a.salvo == id && a.go
    if go then (true, s)
    else
      let ms := s.salvoMembers c.owner (id, true)
      match ms.findSome? fun m => (s.firstUnready m.2.refs) with
      | none =>
        (true, s.updHds fun d =>
          { d with armed := (d.armed.map fun a => if a.owner = c.owner ∧ a.salvo = id then { a with go := true } else a) })
      | some _ =>
        if 8 ≤ c.held then
          (false, ms.foldl (fun s m =>
            match s.firstUnready m.2.refs with
            | some f => s.notReady m.1 m.2 f
            | none => (s.dropCommit m.1 m.2).commitDone m.2 csNotReady 0) s)
        else
          (false, ms.foldl (fun s m =>
            let t := s.updHead m.1 fun x =>
              { x with queue := (x.queue.map fun d =>
                  if d.stamp = m.2.stamp then { d with delay := d.delay + 1, held := d.held + 1, wasHeld := true } else d) }
            match s.firstUnready m.2.refs with
            | some f =>
              if m.2.wasHeld then t.setBit (Adr.cmtStat m.1) 9
              else (t.count (Adr.cmtCnt m.1) 31 16 1).cmtFlag m.1 9 1 0x0221 m.2.ring m.2.seq f.toNat
            | none => t) s)
  | _ => (true, s)

/-- The frame at which a commit lands, seen from the sluice of frame `f`: its own landing flip, moved on by its salvo's holds;
none for a PTP target whose landing flip no sluice has found yet. -/
def Commit.landAt (c : Commit) (f : Nat) : Option Nat :=
  match c.land, c.target with
  | some g, _ => some (g + c.delay)
  | none, .ptp _ _ => none
  | none, _ => some (f + c.delay)

/-- The sluice of frame `f`, whose flip is predicted at `pred` (total ns), finds the landing flip of a PTP target that is due
(R138), whatever it waits behind (R135). -/
def Commit.findLand (c : Commit) (f pred : Nat) : Commit :=
  match c.land, c.target with
  | none, .ptp sec ns => if totalNs sec ns ≤ pred then { c with land := some f } else c
  | _, _ => c

/-- The first commit of the queue that is not locked, at the sluice of frame `f`. True when it locks and the next one is
judged too. -/
def State.judgeCommit (s : State) (h f : Nat) (c : Commit) : Bool × State :=
  let x := s.head h
  match c.landAt f with
  | none => (false, s)
  | some g =>
    let keep := fun (s : State) => s.updHead h fun x =>
      { x with queue := (x.queue.map fun (d : Commit) => if d.stamp = c.stamp then { d with land := some (g - d.delay) } else d) }
    -- a take that claims a converter waits for the converted source's first frame (R238)
    let convWaits : Bool := match c.newConv with | some m => !(s.cnv m).published | none => false
    if f < g then (false, keep s)
    else if convWaits then (false, keep s)
    else if c.kind == .stop && (x.queue.any fun d => d.locked) then (false, s)
    else
      -- a FRAME or PTP commit whose own landing flip has passed is late; a hold of its own does not make it late
      let late := c.timed && decide (g < f) && !c.wasHeld && !c.late
      let s := if late then
          (s.updHead h fun x =>
            { x with queue := (x.queue.map fun d => if d.stamp = c.stamp then { d with late := true, missed := true } else d) }).sluiceMiss h
        else s
      let r := s.lockstepSluice c
      if r.1 = false then r
      else
        let s := r.2
        match s.firstUnready c.refs with
        | some bad =>
          if 8 ≤ c.held then (true, s.notReady h c bad) else (false, s.holdCommit h c bad)
        | none =>
          let cfg := match c.split with
            | some g =>
              let base := (s.head g).planned.applied
              { base with dests := c.cfg.dests, layers := ((base.layers.set 0 (c.cfg.layer 0)).set 1 LayerCfg.reset) }
            | none => c.cfg
          let old := match c.split with | some g => some ((s.head g).planned.applied.layer 0) | none => none
          (c.kind != .stop, s.updHead h fun x =>
            { x with queue := (x.queue.map fun d =>
                if d.stamp = c.stamp then { d with locked := true, land := some f, cfg := cfg, old := old } else d) })

/-- Judge the commits that are queued, in order, until one waits. -/
def State.judgeQueue (h f : Nat) : Nat → State → State
  | 0, s => s
  | fuel + 1, s =>
    match (s.head h).queue.find? fun c => !c.locked with
    | none => s
    | some c =>
      let r := s.judgeCommit h f c
      if r.1 then State.judgeQueue h f fuel r.2 else r.2

/-- `lines` line times in ns by the measured line time of a polder, or the nominal one before a period has been measured
(R138; log 92). -/
def State.measuredNs (s : State) (polder mode lines : Nat) : Nat :=
  match modeOf mode, (s.polder polder).lastTicks with
  | some _, 0 => linesNs mode lines
  | some m, t => 2 * t * lines / m.lines
  | none, _ => 0

/-- The sluice of frame `f` closes; `lines` from here to the flip. -/
def State.closeSluice (s : State) (h f lines : Nat) : State :=
  let x := s.head h
  let stopped := decide (x.run = .stopped) && !x.resume
  let mode := if stopped then x.last.mode else x.applied.mode
  let pred := s.phcTotalNs + s.measuredNs (if stopped then x.last.polder else x.applied.polder) mode lines
  let s := s.setHead h { x with predPrev := x.predFlip, predFlip := some (pred / 1000000000, pred % 1000000000),
                                queue := x.queue.map fun c => c.findLand f pred }
  s.judgeQueue h f 17

/-- SLUICE_CLOSE: line S of the running raster period of a head in FRAME mode, or of its hand-over period. -/
def execSluiceClose (h : Fin 256) (s : State) : Out3 :=
  let x := s.head h
  let p := s.polder x.applied.polder
  let waits := match x.composing with | some c => decide (c.frame ≤ x.period) | none => false
  .next (
    if x.run = .frame ∧ x.sluiceDone = false ∧ waits = false ∧ p.running = true ∧ p.count = x.period then
      let f := x.period + 1
      let m := x.applied.mode
      let flip := match modeOf m with | some r => r.flip | none => 0
      let lines := (match modeOf m with | some r => r.lines | none => 0) + flip - sluiceLine m x.applied.window
      let s := s.updHead h fun x => { x with sluiceDone := true, nextOpen := f + 1 }
      (s.closeSluice h f lines).compose h f
    else s)

/-- COMPOSE_DEADLINE: the layers that are late, each with the first tile row composed without it (R174). In LINE mode
the rows have their own deadlines, which may fall after the flip: the class that the flip counted then changes (log 22). -/
def execComposeDeadline (h : Fin 256) (late : List (Fin 8 × Nat)) (s : State) : Out3 :=
  let x := s.head h
  let after := decide (x.run = .line) && x.composing.isNone
  let pic := match x.composing with | some p => some p | none => if after then x.front else none
  .next (
    match pic with
    | none => s
    | some p =>
      if x.deadlineDone then s
      else
        let isLate := fun k => late.find? fun e => e.1.val = k
        let ls := p.layers.zipIdx.map fun e =>
          match isLate e.2 with
          | some (_, row) => if e.1.cls = .off then e.1 else { e.1 with cls := .cutOff, cutRow := some row }
          | none => e.1
        let runs := x.layers.zipIdx.map fun e =>
          let l := p.layers.getD e.2 LayerPic.off
          if l.cls = .off then e.1
          else if (isLate e.2).isSome then { e.1 with underruns := min 3 (e.1.underruns + 1) } else { e.1 with underruns := 0 }
        let p' := { p with layers := ls }
        let s := (s.unpinHead h).updHead h fun y =>
          { y with composing := (if after then none else some p'), front := (if after then some p' else y.front),
                   layers := runs, deadlineDone := true }
        (List.range 8).foldl (fun s k =>
          let l := p.layers.getD k LayerPic.off
          match isLate k with
          | some (_, row) =>
            if l.cls = .off then s
            else
              let s := if after then
                  let old := 8 * (k + 1) + (match l.cls with | .new => 0 | .rep => 1 | .fallback => 2 | .cutOff => 3 | .still => 4 | .off => 5)
                  (s.ledSet 2 h old (s.led 2 h old - 1)).ledAdd 2 h (8 * (k + 1) + 3) 1
                else s
              s.layerRaise h k 0 0x0200 [(24, 2, 16 * row), (28, 4, p.frame)]
          | none => s) s)

end Sys2Proof.Machine
end

