-- ==== Sys2Proof/Machine/Push.lean ====
section
/-!
DEFINITION. Machine/Push.lean: push channels (R272 to R278).
-/
namespace Sys2Proof.Machine

def State.push (s : State) (c : Nat) : Push := Tab.get (fun _ => Push.reset) s.out.pushes c
def State.setPush (s : State) (c : Nat) (v : Push) : State :=
  s.updOut fun o => { o with pushes := (Tab.set (fun _ => Push.reset) o.pushes c v) }
def State.updPush (s : State) (c : Nat) (f : Push → Push) : State := s.setPush c (f (s.push c))

/-! ## Sizes (R272, R275, R276) -/

/-- Pushed width and height. -/
def PushCfg.size (g : PushCfg) : Nat × Nat := (g.w / max 1 g.dec, g.h / max 1 g.dec)

/-- Columns and rows of tiles of 64 × 16. -/
def PushCfg.grid (g : PushCfg) : Nat × Nat := (ceilDiv g.size.1 64, ceilDiv g.size.2 16)

/-- Width and height of tile `i`, counted in rows from the top left. -/
def PushCfg.tile (g : PushCfg) (i : Nat) : Nat × Nat :=
  (min 64 (g.size.1 - 64 * (i % max 1 g.grid.1)), min 16 (g.size.2 - 16 * (i / max 1 g.grid.1)))

def PushCfg.tiles (g : PushCfg) : Nat := g.grid.1 * g.grid.2

/-- Bytes of a row of a tile: RGB888 or VID36. -/
def PushCfg.rowLen (g : PushCfg) (w : Nat) : Nat := if g.format = 4 then 3 * w else ceilDiv (9 * w) 2

/-- Length of the TILE record of a tile of `w` × `h`. -/
def PushCfg.recLen (g : PushCfg) (w h : Nat) : Nat := 64 * ceilDiv (32 + h * g.rowLen w) 64

/-- Worst-case bytes of a push, and of one tile record. -/
def PushCfg.worst (g : PushCfg) : Nat :=
  let fw := g.size.1 / 64
  let fh := g.size.2 / 16
  let pw := g.size.1 % 64
  let ph := g.size.2 % 16
  fw * fh * g.recLen 64 16 + (if pw = 0 then 0 else fh * g.recLen pw 16) + (if ph = 0 then 0 else fw * g.recLen 64 ph) +
    (if pw = 0 ∨ ph = 0 then 0 else g.recLen pw ph) + 128

def PushCfg.oneTile (g : PushCfg) : Nat := g.recLen (min 64 g.size.1) (min 16 g.size.2)

/-- Frame rate of the head, of its last mode, or 60 Hz. -/
def State.pushRate (s : State) (h : Nat) : Nat × Nat :=
  let x := s.head h
  let m := if x.run = .stopped then x.lastMode else x.applied.mode
  if isMode m then modeRate m else (60, 1)

/-- Fetch tokens of a channel (R273). -/
def State.pushFetch (s : State) (g : PushCfg) : Nat :=
  let r := s.pushRate g.head
  ceilDiv (g.w * g.h * 9 * r.1) (2 * r.2 * max 1 g.interval * 1000000000)

/-! ## Records and events -/

/-- An event of a push channel (R283). -/
def State.pushRaise (s : State) (c bit code extra frame : Nat) : State :=
  s.raise (Adr.puCause c) (Adr.puMask c) bit 287 code [(20, 1, c), (21, 1, extra), (22, 2, (s.push c).cfg.head), (24, 8, frame)]

def State.pushCount (s : State) (c k n : Nat) : State := s.ledAdd 5 c k n

/-- The 32-byte header of a record. -/
def pushHeader (type c len frame a b cc : Nat) : List Byte :=
  [BitVec.ofNat 8 type, BitVec.ofNat 8 c, 0, 0] ++ leBytes 4 len ++ leBytes 8 frame ++ leBytes 4 a ++ leBytes 4 b ++ leBytes 8 cc

/-- Write a record into the ring; a PAD record fills the end of the ring when it does not fit there. -/
def State.pushWrite (s : State) (c : Nat) (bs : List Byte) (frame : Nat) : State :=
  let p := s.push c
  let size := 2 ^ p.runCfg.ringLog2
  let off := p.tail.toNat % size
  let pad := if size - off < bs.length then size - off else 0
  let base := p.runCfg.addr.toNat
  let s := if pad = 0 then s else s.hostWrite (base + off) (pushHeader 5 c pad frame 0 0 0)
  let s := s.hostWrite (base + (if pad = 0 then off else 0)) bs
  (s.setPush c { p with tail := p.tail + BitVec.ofNat 32 (pad + bs.length) }).pushCount c 7 (pad + bs.length)

/-- A push ends with FRAME_ABORT: 0 flip passed, 1 DMA error, 2 head reset, 3 disabled. -/
def State.pushAbort (s : State) (c reason : Nat) : State :=
  match (s.push c).run with
  | none => s
  | some r =>
    let s := s.pushWrite c (pushHeader 4 c 64 r.frame r.tiles reason 0 ++ List.replicate 32 0) r.frame
    let s := (s.updPush c fun p => { p with run := none }).pushCount c 3 1
    (s.pushRaise c 1 0x0901 reason r.frame).interrupt (s.push c).runCfg.vector

/-- Every push that reads a head aborts. -/
def State.pushAbortHead (s : State) (h reason : Nat) : State :=
  (List.range 8).foldl (fun s c => if (s.push c).runCfg.head = h then s.pushAbort c reason else s) s

/-! ## Sample points (R275, R277, R278) -/

/-- The shed of push channels begins or ends. -/
def State.pushShed (s : State) (c frame : Nat) : State :=
  let now := decide (3 ≤ s.shedLevel)
  if (s.push c).shed = now then s
  else (s.updPush c fun p => { p with shed := now }).pushRaise c 2 0x0902 (b2n now) frame

/-- A sample point of a channel at raster period `j`: `shown` when the head has a frame in FRAME mode. -/
def State.pushSample (s : State) (c j : Nat) (shown : Bool) : State :=
  let s := (s.pushShed c j).pushCount c 0 1
  let p := s.push c
  if p.shed then s.pushCount c 4 1
  else if !shown then (s.updPush c fun p => { p with noFrame := true }).pushCount c 5 1
  else
    let g := p.cfg
    let free := 2 ^ g.ringLog2 - (p.tail - p.headIdx).toNat
    if free < g.worst + g.oneTile then
      let s := (s.updPush c fun p => { p with noFrame := false, noSpaceRun := true }).pushCount c 2 1
      if p.noSpaceRun then s.setBit (Adr.puCause c) 0 else s.pushRaise c 0 0x0900 0 j
    else
      let x := s.head g.head
      let due := p.full || (decide (g.refresh ≠ 0) && decide (g.refresh ≤ p.pushed))
      let s := s.setPush c { p with noFrame := false, noSpaceRun := false, runCfg := g, full := false,
                                    run := some { frame := j, refresh := due, tiles := 0 } }
      s.pushWrite c (pushHeader 1 c 64 j x.flipNs (x.flipSec % 4294967296) x.instar.toNat ++ List.replicate 32 0) j

/-- The channels that watch a head sample its raster period `j`. -/
def State.pushPeriod (s : State) (h j : Nat) (shown : Bool) : State :=
  (List.range 8).foldl (fun s c =>
    let p := s.push c
    if p.enabled && p.cfg.head == h && j % max 1 p.cfg.interval == 0 then s.pushSample c j shown else s) s

/-- PUSH_READ_END: the read of the front buffer has ended. `tiles` gives each tile's hash and formatted data in order from
the top left; `ok` says whether the DMA writes succeed. -/
def execPushReadEnd (c : Fin 8) (tiles : List (BitVec 64 × List Byte)) (ok : Bool) (s : State) : Out3 :=
  let p := s.push c
  .next (
    match p.run with
    | none => s
    | some r =>
      if !ok then s.pushAbort c 1
      else
        let g := p.runCfg
        let ts := (List.range g.tiles).map fun i => (i, tiles.getD i (0, []))
        let send := ts.filter fun t => r.refresh || decide (Tab.get (fun _ => none) p.hashes t.1 ≠ some t.2.1)
        let s := send.foldl (fun s t =>
          let wh := g.tile t.1
          let len := g.recLen wh.1 wh.2
          let a := t.1 % max 1 g.grid.1 + 65536 * (t.1 / max 1 g.grid.1)
          let hd := pushHeader 2 c len r.frame a (wh.1 + 65536 * wh.2) t.2.1.toNat
          let s := s.pushWrite c (hd ++ dmaFit t.2.2 (len - 32)) r.frame
          s.updPush c fun p => { p with hashes := (Tab.set (fun _ => none) p.hashes t.1 (some t.2.1)) }) s
        let s := s.pushWrite c (pushHeader 3 c 64 r.frame send.length g.tiles 0 ++ List.replicate 32 0) r.frame
        let s := s.updPush c fun p => { p with run := none, pushed := (if r.refresh then 1 else p.pushed + 1) }
        ((s.pushCount c 1 1).pushCount c 6 send.length).interrupt g.vector)

/-- PUSH_HEAD_WRITE. -/
def execPushHeadWrite (c : Fin 8) (v : BitVec 32) (s : State) : Out3 := .next (s.updPush c fun p => { p with headIdx := v })

/-! ## OP_PUSH_SET (R272 to R274) -/

/-- The settings that a SET gives. -/
def pushCfgOf (d : List Byte) : PushCfg :=
  { persist := ubit d 12 0, head := u16 d 10, dec := u8 d 13, format := u8 d 14, interval := u8 d 15, x := u16 d 16, y := u16 d 18,
    w := u16 d 20, h := u16 d 22, addr := BitVec.ofNat 64 (u64 d 24), ringLog2 := u8 d 32, vector := u8 d 33, refresh := u16 d 34 }

/-- A field of SET out of range. -/
def State.pushSetBad (s : State) (d : List Byte) : Bool :=
  let g := pushCfgOf d
  let x := s.head g.head
  let m := if x.run = .stopped then x.lastMode else x.applied.mode
  decide (7 < u8 d 8) || decide (255 < g.head) || !([1, 2, 4, 8].contains g.dec) || !(g.format == 4 || g.format == 0x10) ||
  g.interval == 0 || decide (g.x % g.dec ≠ 0 ∨ g.y % g.dec ≠ 0 ∨ g.h % g.dec ≠ 0) ||
  decide (g.w % (if g.format = 0x10 then 2 * g.dec else g.dec) ≠ 0) || g.w == 0 || g.h == 0 ||
  (isMode m && decide (modeW m < g.x + g.w ∨ modeH m < g.y + g.h)) ||
  decide (g.addr.toNat % 4096 ≠ 0) || !decide (16 ≤ g.ringLog2 ∧ g.ringLog2 ≤ 28) || decide (63 < g.vector) ||
  decide (2 ^ g.ringLog2 < g.worst + g.oneTile)

/-- PUSH_SET, action 0; an action out of range is refused here. -/
def execPushSet (n : Fin 64) (s : State) : Out3 :=
  .next (s.runOp n 0x90 (fun d => u8 d 9 ≠ 1 && u8 d 9 ≠ 2) fun j s =>
    let c := u8 j.d 8
    let p := s.push c
    match firstFail [(u8 j.d 9 != 0 || s.pushSetBad j.d, csBadParam), (p.enabled && !j.mayUse p.owner, s.ownerCode p.owner)] with
    | some e => s.complete j e 0
    | none =>
      let g := pushCfgOf j.d
      let fetch := s.pushFetch g
      let (ok, s) := s.leaveAsk j.owner (6 - p.power) (fetch - p.fetch)
      if !ok then s.complete j csNoLeave 0
      else
        let s := s.leaveRet 0 (p.fetch - fetch)
        let p := s.push c
        let q := if p.enabled then { p with cfg := g, owner := j.owner, fetch := fetch, power := 6, full := true }
          else { Push.reset with enabled := true, cfg := g, runCfg := g, owner := j.owner, fetch := fetch, power := 6, full := true }
        (s.setPush c q).complete j csOk (BitVec.ofNat 64 (fetch + 65536 * 6)))

/-- A channel stops: its tokens return. -/
def State.pushOff (s : State) (c : Nat) : State :=
  let p := s.push c
  (s.setPush c Push.reset).leaveRet p.power p.fetch

/-- The checks of DISABLE and REFRESH. -/
def State.pushCheck (s : State) (j : Job) : Option Nat :=
  let p := s.push (u8 j.d 8)
  firstFail [(decide (7 < u8 j.d 8) || !zeros j.d 10 35, csBadParam), (!p.enabled, csNotFound),
             (!j.mayUse p.owner, s.ownerCode p.owner)]

/-- PUSH_DISABLE. -/
def execPushDisable (n : Fin 64) (s : State) : Out3 :=
  .next (s.runOp n 0x90 (fun d => u8 d 9 == 1) fun j s =>
    match s.pushCheck j with
    | some e => s.complete j e 0
    | none => ((s.pushAbort (u8 j.d 8) 3).pushOff (u8 j.d 8)).complete j csOk 0)

/-- PUSH_REFRESH. -/
def execPushRefresh (n : Fin 64) (s : State) : Out3 :=
  .next (s.runOp n 0x90 (fun d => u8 d 9 == 2) fun j s =>
    match s.pushCheck j with
    | some e => s.complete j e 0
    | none => (s.updPush (u8 j.d 8) fun p => { p with full := true, owner := j.owner }).complete j csOk 0)

end Sys2Proof.Machine
end

