-- ==== Sys2Proof/Machine/Flip.lean ====
section
/-!
DEFINITION. Machine/Flip.lean: raster periods, LINE mode and what a flip does to its head and destinations (R118, R123,
R136, R137, R144, R178, R250 to R258, R497, R519, R520).
-/
namespace Sys2Proof.Machine

/-! ## LINE mode (R253, R254) -/

/-- SCAN_CTL.force_line. -/
def State.forceLine (s : State) (h : Nat) : Bool := s.flag (Adr.scanCtl h) 0

/-- Flip line of a mode less one: lines from the start of line 1 to the flip. -/
def flipLine (mode : Nat) : Nat := match modeOf mode with | some m => m.flip | none => 0

/-- EV_HEAD_LINE (R283). -/
def State.lineEvent (s : State) (h reason frame : Nat) : State :=
  if s.flag (Adr.scanCtl h) 1 then s.occur h 0x0240 [(20, 2, h), (22, 1, reason), (28, 4, frame)] else s

/-- The LINE-mode sluice at the start of raster period `j`, and the composition of its frame. -/
def State.lineFrame (s : State) (h j : Nat) : State :=
  let force := s.forceLine h
  let s := s.compose h j
  s.updHead h fun x =>
    { x with run := .line, lineAt := none, period := j, flipDone := false, sluiceDone := true, handover := false,
             nextOpen := (if force then j + 1 else j + 2), handAt := (if force then none else some (j + 1)) }

/-- A head enters LINE mode at the start of raster period `j`; a stopped one needs a commit that locks, or its return to
RUN. -/
def State.enterLine (s : State) (h j reason : Nat) : State :=
  let x := s.head h
  let stopped := decide (x.run = .stopped)
  let s := s.closeSluice h j (flipLine (if stopped then x.last.mode else x.applied.mode) - 1)
  let y := s.head h
  let locked := y.queue.filter fun c => c.locked && c.kind != .stop
  if stopped && !x.resume && locked.isEmpty then
    s.setHead h { y with lineAt := (if y.queue.isEmpty then none else some (j + 1, reason)), period := j }
  else
    let p := y.planned
    let s := if stopped then
        (s.setHead h { y with applied := { y.applied with mode := p.applied.mode, polder := p.applied.polder },
                              resume := false, abandoned := false }).updChain h fun c => { c with lastAt := s.now }
      else s
    (s.lineFrame h j).lineEvent h reason j

/-- Raster period `j` begins for a head of the polder. -/
def State.headPeriod (s : State) (h j : Nat) : State :=
  let s := s.updHead h fun x =>
    if x.run = .stopped then { x with hurt := x.hurt - 1 }
    else { x with hurt := x.hurt - 1, period := j, flipDone := false, sluiceDone := false }
  let x := s.head h
  match x.lineAt with
  | some (f, r) =>
    if f ≤ j then s.enterLine h j r
    else if x.run = .line ∧ x.handover = false ∧ s.forceLine h = false then
      s.setHead h { x with handover := true, nextOpen := max x.nextOpen (j + 1), handAt := some j }
    else s
  | none =>
    if x.run = .line then
      if s.forceLine h then
        let s := s.closeSluice h j (flipLine x.applied.mode - 1)
        s.lineFrame h j
      else s.setHead h { x with handover := true, nextOpen := max x.nextOpen (j + 1), handAt := some j }
    else s

/-- The polder of a head, or the one it will start in. -/
def Head.polder (x : Head) : Nat := if x.run = .stopped ∧ x.resume = false then x.last.polder else x.applied.polder

/-- Judgements of the frame of a period that a relock bent are excluded (R524). -/
def State.exclBent (s : State) (p : Nat) : State :=
  let q := s.polder p
  if q.bent then
    (s.psn.dests.map (·.1)).foldl (fun s d =>
      if s.destPolder d = p then
        let x := s.psnDest d
        s.setPsnDest d { x with judging := x.judging.map fun g => if g.frame = q.count then { g with excl := true } else g }
      else s) s
  else s

/-- RASTER_PERIOD_START: the polder's count rises by one; its first value is ⌊t / T⌋ (R250). -/
def execRasterPeriodStart (p : Fin 32) (s : State) : Out3 :=
  let q := s.polder p
  let r := s.polderRate p
  .next (
    if q.ready then
      let s := if q.running then (s.exclBent p).endPeriods p else s
      let j := if q.running then q.count + 1 else s.tim.phc * r.1 / (phcUnit * r.2)
      let s := s.setPolder p { q with running := true, count := j, lastStart := s.now, bent := false,
                                      lastTicks := (if q.running && !q.bent then s.now - q.lastStart else q.lastTicks) }
      let hs := if s.lv.tripped then [] else (s.heads.filter fun e => decide (e.2.run ≠ .stopped ∨ e.2.lineAt.isSome = true) && decide (e.2.polder = p.val)).map (·.1)
      let s := hs.foldl (fun s h => s.headPeriod h j) s
      -- a sample point of a head that has no flip in this period
      let quiet := s.heads.filter fun e => decide (e.2.run = .stopped ∧ e.2.lastMode ≠ 0 ∧ e.2.lastPolder = p.val) ||
        decide (e.2.run = .recovering ∧ e.2.applied.polder = p.val)
      (quiet.foldl (fun s e => s.pushPeriod e.1 j false) s).quietCheck
    else s)

/-- A write of SCAN_CTL.force_line (R254, R279). -/
def State.writeForceLine (s : State) (h : Nat) (on : Bool) : State :=
  let was := s.forceLine h
  let s := s.fset (Adr.scanCtl h) 0 0 (b2n on)
  let x := s.head h
  if on && !was && (decide (x.run = .frame) || x.handover) && x.lineAt.isNone then
    s.setHead h { x with lineAt := some (s.nextPeriod x.applied.polder x.applied.mode, 2) }
  else if !on && (match x.lineAt with | some (_, 2) => true | _ => false) then s.setHead h { x with lineAt := none }
  else s

/-- SCAN_FORCE_LINE. -/
def execScanForceLine (h : Fin 256) (on : Bool) (s : State) : Out3 := .next (s.writeForceLine h on)

/-! ## Head resets (R256, R497, R519, R520) -/

/-- The judgement of the frame that a head reset ends is dropped: the frame is unchecked (R298). -/
def State.uncheckFrame (s : State) (h frame : Nat) : State :=
  (s.fedBy h).foldl (fun s d =>
    let x := s.psnDest d
    let mine := x.judging.filter fun g => g.head == h && g.frame == frame
    if mine.isEmpty then s
    else
      let s := s.setPsnDest d { x with judging := x.judging.filter fun g => !(g.head == h && g.frame == frame) }
      let s := s.updChain h fun c =>
        { c with recs := c.recs.map fun r => if r.frame = frame then { r with waiting := r.waiting.filter fun e => e ≠ d } else r }
      (s.ledAdd 6 h 3 mine.length).updDest d fun y => { y with judged := false }) s

/-- A head reset: the frame in progress ends, and the head comes back through LINE mode. A transition of a take stays in
its configuration (R497). -/
def State.headReset (s : State) (h : Nat) : State :=
  let x := s.head h
  if x.run = .stopped then s
  else
    let e := s.nextPeriod x.applied.polder x.applied.mode
    let s := (s.unpinHead h).pushAbortHead h 2
    let s := if x.flipDone then s.uncheckFrame h x.fcount else s
    -- FRAME and PTP commits whose landing flip passes during the recovery
    let passed := fun (c : Commit) => match c.land, c.target with
      | some f, _ => decide (f + c.delay < e)
      | none, .ptp sec ns => decide (totalNs sec ns ≤ s.startFlipNs x.applied.polder x.applied.mode (e - 1))
      | none, _ => false
    let missed := fun (c : Commit) => passed c && c.timed && !c.late && !c.wasHeld && c.kind != .stop
    let s := (x.queue.filter missed).foldl (fun s _ => s.sluiceMiss h) s
    s.updHead h fun x =>
      { x with run := .recovering, composing := none, handover := false, handAt := none, firstFrame := false,
               lineAt := some (e, 1), hurt := e - (s.polder x.applied.polder).count, nextOpen := max x.nextOpen e,
               queue := x.queue.map fun c => { c with locked := false, late := (c.late || missed c), missed := (c.missed || missed c) } }

/-- HEAD_RST_GO. -/
def execHeadRstGo (h : Fin 256) (s : State) : Out3 := .next ((s.fset Adr.headRst 7 0 h.val).headReset h)

/-- Containment resets of a head within the window (R520). -/
def State.recentResets (s : State) (h : Nat) : List Nat :=
  (s.head h).contained.filter fun t => decide (s.now ≤ t + msTicks (1000 * s.fget Adr.contain 15 8))

/-- A head is abandoned: it stops at once, its commits complete with CS_STATE. -/
def State.abandonHead (s : State) (h : Nat) : State :=
  let s := (s.head h).queue.foldl (fun s c => (s.dropCommit h c).commitDone c csState 0) s
  let s := (s.unpinHead h).pushAbortHead h 2
  let s := (s.fedBy h).foldl (fun s d => s.squelch d false true) s
  s.updHead h fun x => { x.halted with abandoned := true }

/-- A containment head reset for a cause of FAULT: 0 audit, 1 scan watchdog, 2 control state. -/
def State.containHead (s : State) (h cause : Nat) : State :=
  if (s.head h).run = .stopped then s
  else
    let recent := s.now :: s.recentResets h
    let s := (s.setBit (Adr.hdFault h) cause).count (Adr.hdFault h) 31 16 1
    let s := s.updHead h fun x => { x with contained := recent }
    let past := decide (s.fget Adr.contain 3 0 < recent.length)
    let s := s.occur h 0x0280 [(20, 2, h), (22, 1, cause), (23, 1, b2n past), (28, 4, (s.head h).fcount)]
    if past then s.abandonHead h else s.headReset h

/-- CONTAINMENT_HEAD_RESET. -/
def execContainmentHeadReset (h : Fin 256) (cause : Fin 3) (s : State) : Out3 := .next (s.containHead h cause)

/-! ## Applying commits at a flip -/

/-- Layers with rearm are no longer held off, and their count of underruns starts again (R175). -/
def Head.rearmed (x : Head) (c : HeadCfg) : List LayerRun :=
  x.layers.zipIdx.map fun e =>
    if (c.layer e.2).rearm then { e.1 with heldOff := false, underruns := 0 } else e.1

/-- Status of an applied commit (R61). -/
def Commit.status (c : Commit) : Nat := if c.wasHeld then csHeld else if c.late then csLate else if c.degraded then csDegraded else csOk

/-- The scaler and the converter that a take replaces are released (R120). -/
def State.releaseOld (s : State) (h : Nat) (c : Commit) : State :=
  let x := s.head h
  let s := match x.modScaler with
    | some n =>
      if c.cfg.layers.any fun l => l.enable && l.scaler == n then s
      else ((s.freeScl n).2).updHead h fun y => { y with modScaler := none }
    | none => s
  let s := match x.modConv with
    | some m =>
      if c.cfg.names (256 + m) then s else (s.releaseCnv m).updHead h fun y => { y with modConv := none }
    | none => s
  s.updHead h fun y =>
    { y with modScaler := (match c.newScaler with | some n => some n | none => y.modScaler),
             modConv := (match c.newConv with | some m => some m | none => y.modConv) }

/-- EV_SCALE_DEGRADED for the layers degraded at validation (R211). -/
def State.degradeEvents (s : State) (h frame : Nat) (c : Commit) : State :=
  if c.degraded then
    (List.range 8).foldl (fun s k =>
      let l := c.cfg.layer k
      if c.cfg.live k && (l.degV || l.degH) && decide (l.scaler < 128) then s.scaleEvent h k l (l.degV, l.degH) frame true else s) s
  else s

/-- The heads that a commit leaves without an SDI destination get the tokens granted for them; one that needs them no longer
returns them (R26). -/
def State.lend (s : State) (c : Commit) : State :=
  c.lends.foldl (fun s e =>
    let y := s.head e.1
    if y.managed = .module ∧ y.active = true then
      s.setHead e.1 { y with fetchGrant := y.fetchGrant + e.2,
                             queue := y.queue.map fun d => if d.stamp < c.stamp then { d with peak := d.peak + e.2 } else d }
    else s.leaveRet 0 e.2) s

/-- The head that a CLONE take has left without a destination is to be released (R123); `before` says which head fed it. -/
def State.leaveHead (s : State) (h : Nat) (before : Option Nat) : State :=
  match before with
  | some g =>
    if g ≠ h ∧ (s.head g).managed = .module ∧ s.fedBy g = [] then
      if (s.head g).queue.isEmpty then s.stopHead g else s.updHead g fun y => { y with leaving := true }
    else s
  | none => s

/-- Apply one locked commit. True when it was applied, false when its guard failed. -/
def State.applyCommit (s : State) (h frame : Nat) (c : Commit) : Bool × State :=
  let x := s.head h
  match x.applyOne c with
  | none => (false, (s.dropCommit h c).commitDone c csState 0)
  | some y =>
    let old := x.refs
    let s := s.setHead h
      { y with queue := x.queue.filter fun d => d.stamp ≠ c.stamp, fetchGrant := x.fetchGrant + c.fetch, refs := c.refs,
               layers := x.rearmed c.cfg }
    let s := ((if c.kind = .take then s.releaseOld h c else s).dropRefs old).lend c
    let s := (s.wr (Adr.cmtSeq h) c.seq.toNat).wr (Adr.cmtSrc h) (c.ring % 64 + 65536 * c.owner)
    let s := s.degradeEvents h frame c
    let s := match c.kind with
      | .dike =>
        let k := s.dike h
        s.setDike h { k with shown := (match k.coming.find? fun (e : Nat × List Byte) => e.1 == c.stamp with | some e => some e.2 | none => k.shown),
                             coming := k.coming.filter fun (e : Nat × List Byte) => e.1 ≠ c.stamp }
      | .dikeUnbind => s.setDike h { Dike.reset with frozen := (s.dike h).frozen }
      | .take =>
        match c.split with
        | some g => if c.cfg.dike then s.setDike h { s.dike g with coming := [] } else s
        | none => s
      | _ => s
    let s := s.commitDone c c.status (BitVec.ofNat 64 (y.instar.toNat + 4294967296 * h + 281474976710656 * (frame % 65536)))
    (true, s.missEvent h c frame)

/-- Apply the locked commits in order; those that were applied come back. -/
def State.applyAll (s : State) (h frame : Nat) : List Commit × State :=
  ((s.head h).queue.filter fun c => c.locked && c.kind != .stop).foldl (fun a c =>
    let r := a.2.applyCommit h frame c
    (if r.1 then a.1 ++ [c] else a.1, r.2)) ([], s)

/-! ## The frame ledger and the flip's records -/

def LayerClass.code : LayerClass → Nat
  | .off => 0 | .new => 1 | .rep => 2 | .fallback => 3 | .cutOff => 4 | .still => 5

/-- The place of a class in the head ledger (R179). -/
def LayerClass.counter : LayerClass → Nat
  | .new => 0 | .rep => 1 | .fallback => 2 | .cutOff => 3 | .still => 4 | .off => 5

/-- A video layer. -/
def LayerPic.video (p : LayerPic) : Bool := decide (p.src < 640)

/-- The picture of a hand-over frame: video layers count a repeat (R255). -/
def Picture.again (p : Picture) (frame : Nat) : Picture :=
  { p with frame := frame, layers := p.layers.map fun l => if l.video then { l with cls := .rep, skipped := 0 } else { l with skipped := 0 } }

/-- Count a picture in the head ledger. -/
def State.countFlip (s : State) (h : Nat) (p : Picture) : State :=
  let s := s.ledAdd 2 h 0 1
  let s := if p.bgRow.isSome then s.ledAdd 2 h 1 1 else s
  p.layers.zipIdx.foldl (fun s e =>
    let b := 8 * (e.2 + 1)
    let s := (s.ledAdd 2 h (b + e.1.cls.counter) 1).ledAdd 2 h (b + 6) e.1.skipped
    if e.1.degraded then s.ledAdd 2 h (b + 7) 1 else s) s

/-- What a layer remembers after a flip. -/
def LayerRun.shown (r : LayerRun) (p : LayerPic) : LayerRun :=
  let r := { r with cls := p.cls }
  match p.shown with
  | .frame n f =>
    if p.cls = .new ∨ p.cls = .cutOff then
      { r with last := some (n, f.id), lastShown := p.shown, lastAnc := p.anc, lastPub := p.pub, lastRef := p.ref.getD 0 }
    else r
  | .reentry g i _ _ =>
    { r with last := some (384 + g, i), lastShown := p.shown, lastAnc := [], lastPub := p.pub, lastRef := p.ref.getD 0 }
  | _ => r

/-- Eyespots of a head that are enabled; eyespot 0 is the dike's while the dike has content (R295). -/
def State.spotsOn (s : State) (h : Nat) (dikeShown : Bool) : Nat :=
  ((List.range 4).map fun k => if s.flag (Adr.esWh h k) 31 || (k == 0 && dikeShown) then 2 ^ k else 0).sum

/-- RTP timestamp of a PHC time on the 90 kHz media clock. -/
def State.rtpNow (s : State) : Nat := s.tim.phc * 90000 / phcUnit % 4294967296

/-- Video packets of a frame (R267): groups of the sampling, 1,200 bytes a packet. -/
def framePackets (mode sampling : Nat) : Nat :=
  let g := if sampling = 1 then (15, 4) else if sampling = 2 then (9, 2) else (5, 2)
  modeH mode * ceilDiv (modeW mode * g.1 / g.2) 1200

/-- One destination at the flip of its head: ATC, packets, IP sends, and its judgement (R262, R263, R268, R299). -/
def State.destFlip (s : State) (h d : Nat) (p : Picture) (drops : Nat) (dikeShown : Bool) : Bool × State :=
  let c := (s.head h).applied
  let l := p.layers.getD (s.fget (destMap d) 10 8) LayerPic.off
  let s := s.atcFlip d (modeRate c.mode) (if l.cls = .new then l.atc else none)
  let s := s.ancFlip d p drops
  let flow := if d < 128 then none else s.sendFlow d
  let s := match flow with
    | some f =>
      (s.updDest d fun x => { x with pktsLeft := framePackets c.mode f.p1 }).wr (Adr.txfRtpTs (d - 128)) s.rtpNow
    | none => s
  let s := s.ledAdd 6 h 0 1
  let unchecked := s.laneTest d || (decide (128 ≤ d) && flow.isNone)
  if unchecked then (false, s.ledAdd 6 h 3 1)
  else
    let cut := p.bgRow.isSome || p.layers.any fun l => l.cls == .cutOff
    let g : Judge := { head := h, frame := p.frame, cut := cut, excl := s.periodExcl d c.polder, spots := s.spotsOn h dikeShown,
                       refs := s.refHashes h d p (s.spotsOn h dikeShown) dikeShown, dike := dikeShown, spoiled := false }
    let x := s.psnDest d
    (true, (s.setPsnDest d { x with judging := x.judging ++ [g] }).updDest d fun y => { y with judged := y.inService })

/-- The shown picture crosses to scan-out and to the serialisers (R34); loads that wait for the flip take effect; ledger,
registers, destinations and the as-run record follow. -/
def State.showFrame (s : State) (h : Nat) (p : Picture) (line : Bool) (drops : List (Nat × Nat)) : State :=
  let s := (s.cross ⟨.head (Fin.ofNat 256 h), 0⟩).cross ⟨.head (Fin.ofNat 256 h), 1⟩
  let s := s.colourFlip h
  let s := s.countFlip h p
  let s := match p.bgRow with
    | some (r, n) => s.layerRaise h 0xFF 3 0x0203 [(24, 2, 16 * r), (26, 2, n)]
    | none => s
  let s := (s.updHds fun d => { d with shots := d.shots ++ [p] }).updHead h fun x =>
    { x with front := some p, shot := s.hds.shots.length, composing := none, flipDone := true, fcount := p.frame, flipSec := s.phcSec, flipNs := s.phcNs, flipAt := s.now,
             layers := x.layers.zipIdx.map fun e => e.1.shown (p.layers.getD e.2 LayerPic.off) }
  let x := s.head h
  let dk := s.dike h
  let dikeShown := x.applied.dike && dk.shown.isSome
  let ds := s.fedBy h
  let r := ds.foldl (fun (a : List Nat × State) d =>
    let q := a.2.destFlip h d p ((drops.find? fun e => e.1 == d).elim 0 (·.2)) dikeShown
    (if q.1 then a.1 ++ [d] else a.1, q.2)) ([], s)
  let rc : Rec :=
    { frame := p.frame, flags := 2 * b2n line + 4 * b2n dk.frozen, instar := x.instar, flipNs := s.phcNs, flipSec := s.phcSec,
      spots := s.spotsOn h dikeShown, sources := p.layers.map (·.src), classes := p.layers.map (·.cls.code),
      dike := (if dikeShown then bytesAt (dk.shown.getD []) 0 16 else List.replicate 16 0), hashes := List.replicate 64 0,
      primary := ds.head?, fed := ds.length, mismatched := 0, waiting := r.1 }
  r.2.updChain h fun c => { c with recs := c.recs ++ [rc] }

/-- The stop that is locked for this flip (R157). -/
def Head.lockedStop (x : Head) : Option Commit := x.queue.find? fun c => c.kind == .stop && c.locked

/-- A flip is due in the running raster period. -/
def State.flipDue (s : State) (h : Nat) : Bool :=
  let x := s.head h
  let p := s.polder x.applied.polder
  let mine := match x.composing with | some c => decide (c.frame = x.period) | none => false
  p.running && decide (p.count = x.period) && !x.flipDone &&
  ((decide (x.run = .frame) && mine) || (decide (x.run = .line) && (x.handover || mine)))

/-- A head that stops at its flip because the module leaves RUN: it keeps its configuration and instar (R502). -/
def State.quietStop (s : State) (h : Nat) : State :=
  let s := (s.fedBy h).foldl (fun s d => s.squelch d false false) (s.unpinHead h)
  s.updHead h fun x => { x.halted with resume := true }

/-- The flip of a head: the commits that it applied, and the state. -/
def State.flipHead (s : State) (h : Nat) (seen : FlipSeen) : List Commit × State :=
  let x := s.head h
  if s.fget Adr.pwrStat 2 0 = 4 then ([], s.quietStop h)
  else
    match x.lockedStop with
    | some c =>
      let s := s.updHead h fun y => { y with queue := y.queue.filter fun d => d.stamp ≠ c.stamp }
      ([], (s.stopHead h).commitDone c csOk (BitVec.ofNat 64 x.instar.toNat))
    | none =>
      if x.leaving && x.queue.isEmpty && (s.fedBy h).isEmpty then ([], s.stopHead h)
      else if x.handover then
        let p := (x.front.getD Picture.blank).again x.period
        let s := s.setHead h { x.stepTrans with run := .frame, handover := false, handAt := none, firstFrame := true }
        let s := (s.trimGrant h).showFrame h { p with bgRow := seen.bg } true seen.ancDrop
        ([], s.cnvFeed h seen.repeats)
      else
        match x.composing with
        | none => ([], s)
        | some p =>
          let first := x.firstFrame && decide (x.run = .frame)
          let s := s.setHead h { x.stepTrans with firstFrame := (if x.run = .frame then false else x.firstFrame) }
          let r := s.applyAll h p.frame
          let olds := (r.1.filter fun c => c.clone && c.kind == .take).map fun c => (r.2.dest c.dest).head
          let s := olds.foldl (fun s g => s.leaveHead h g) (r.2.feedAll h)
          let s := (s.trimGrant h).showFrame h { p with bgRow := seen.bg } (decide (x.run = .line)) seen.ancDrop
          let s := if first && s.flag (Adr.scanCtl h) 2 then s.occur h 0x0241 [(20, 2, h), (28, 4, p.frame)] else s
          (r.1, if x.run = .frame then s.cnvFeed h seen.repeats else s)

end Sys2Proof.Machine
end

