-- ==== Sys2Proof/Machine/Audio.lean ====
section
/-!
DEFINITION. Machine/Audio.lean: the audio matrix (R313 to R343).
-/
namespace Sys2Proof.Machine

/-! ## The parts -/

def State.audIn (s : State) (i : Nat) : AudIn := Tab.get (fun _ => AudIn.reset) s.aud.ins i
def State.setAudIn (s : State) (i : Nat) (v : AudIn) : State :=
  s.updAud fun a => { a with ins := (Tab.set (fun _ => AudIn.reset) a.ins i v) }
def State.updAudIn (s : State) (i : Nat) (f : AudIn → AudIn) : State := s.setAudIn i (f (s.audIn i))
def State.audGrp (s : State) (g : Nat) : AudGrp := Tab.get AudGrp.reset s.aud.grps g
def State.setAudGrp (s : State) (g : Nat) (v : AudGrp) : State :=
  s.updAud fun a => { a with grps := (Tab.set AudGrp.reset a.grps g v) }
def State.updAudGrp (s : State) (g : Nat) (f : AudGrp → AudGrp) : State := s.setAudGrp g (f (s.audGrp g))
def State.audOut (s : State) (o : Nat) : AudOut := Tab.get (fun _ => AudOut.reset) s.aud.outs o
def State.setAudOut (s : State) (o : Nat) (v : AudOut) : State :=
  s.updAud fun a => { a with outs := (Tab.set (fun _ => AudOut.reset) a.outs o v) }
def State.updAudOut (s : State) (o : Nat) (f : AudOut → AudOut) : State := s.setAudOut o (f (s.audOut o))

/-- Position t of R317. -/
def State.audPos (s : State) : Nat := ((s.aud.n : Int) + s.aud.off).toNat

/-- An event of a clock group (R343). -/
def State.grpRaise (s : State) (g bit code : Nat) (d : List (Nat × Nat × Nat)) : State :=
  s.raise (Adr.agCause g) (Adr.agMask g) bit (if g < 128 then 304 else 305) code ((20, 2, g) :: d)

/-- An event of a route. -/
def State.routeRaise (s : State) (o bit code : Nat) (d : List (Nat × Nat × Nat)) : State :=
  s.raise Adr.audRcause Adr.audRmask bit 306 code ((20, 2, o) :: d)

def State.inCount (s : State) (i c n : Nat) : State := s.ledAdd 7 i c n
def State.outCount (s : State) (o c n : Nat) : State := s.ledAdd 8 o c n

/-! ## Inputs, groups, companions (R313 to R316) -/

/-- The clock group of an input that is no converter's: an SDI source, or 128 + a receive flow. -/
def State.groupOf (s : State) (i : Nat) : Option Nat :=
  if i < 2048 then some (i / 16)
  else if i < 4096 then none
  else (s.aud.rxRuns.find? fun r => decide (r.2.1 ≤ i ∧ i < r.2.1 + r.2.2)).map fun r => 128 + r.1

/-- A claimed conversion that delivers audio. -/
def State.cnvLive (s : State) (m : Nat) : Bool := decide ((s.cnv m).state = .single ∨ (s.cnv m).state = .groupLead)

/-- The companion of a source: its inputs. The first argument bounds the nesting of conversions. -/
def State.companion (s : State) : Nat → Nat → List Nat
  | 0, _ => []
  | fuel + 1, n =>
    if n < 128 then (List.range 16).map fun c => 16 * n + c
    else if 256 ≤ n ∧ n < 384 then
      if s.cnvLive (n - 256) then
        (List.range (min 16 (State.companion s fuel (s.cnv (n - 256)).input).length)).map fun c => 2048 + 16 * (n - 256) + c
      else []
    else
      match Tab.get (fun _ => none) s.aud.comps n with
      | some (first, k) => (List.range k).map fun c => first + c
      | none => []

/-- An input read through its conversions: the input that delivers and how many positions earlier. -/
def State.resolve (s : State) : Nat → Nat → Nat → Option (Nat × Nat)
  | 0, _, _ => none
  | fuel + 1, i, back =>
    if 2048 ≤ i ∧ i < 4096 then
      let m := (i - 2048) / 16
      if s.cnvLive m then
        match (s.companion 4 (s.cnv m).input)[i % 16]? with
        | some k => State.resolve s fuel k (back + s.cnvAudDelay m)
        | none => none
      else none
    else some (i, back)

/-- The sample that an input delivered at count `k`, if it did. -/
def State.sampleAt (s : State) (i k : Nat) : Option (BitVec 24) :=
  match s.resolve 4 i 0 with
  | some (b, back) => if back ≤ k then ((s.audIn b).hist.find? fun e => e.1 == k - back).map (·.2) else none
  | none => none

/-- The input carries non-PCM data (R337). -/
def State.nonPcm (s : State) (i : Nat) : Bool :=
  match s.resolve 4 i 0 with
  | some (b, _) => decide ((s.audIn b).burstAt ≠ 0 ∧ s.aud.n ≤ (s.audIn b).burstAt + 4096)
  | none => false

def State.inBurst (s : State) (i : Nat) : Bool :=
  match s.resolve 4 i 0 with
  | some (b, _) => (s.audIn b).inBurst
  | none => false

/-- The largest time from reference to delivery that the input showed in the last second, in samples. -/
def State.latency (s : State) (i : Nat) : Nat :=
  match s.resolve 4 i 0 with
  | some (b, back) =>
    match s.groupOf b with
    | some g => back + ((((s.audGrp g).lat.filter fun e => decide (s.aud.n ≤ e.1 + 48000)).map (·.2)).foldl max 0)
    | none => back
  | none => 0

/-! ## Receiving and delivering (R319, R320, R323, R325 to R327) -/

/-- Put a sample into the history at count `k`. -/
def State.deliver (s : State) (i k : Nat) (v : BitVec 24) : State :=
  (s.updAudIn i fun x => { x with hist := ((k, v) :: x.hist).filter fun e => decide (s.aud.n < e.1 + 16384) }).inCount i 3 1

/-- Note the time from reference to delivery of a group. -/
def State.noteLatency (s : State) (g d : Nat) : State :=
  s.updAudGrp g fun x =>
    { x with lat := (s.aud.n, d) :: (x.lat.dropWhile fun e => decide (e.2 ≤ d)).filter fun e => decide (s.aud.n ≤ e.1 + 48000) }

/-- A received sample whose place is count `k`: a SYNC group delivers it there; an ASYNC group hands it to its SRC. -/
def State.receive (s : State) (g i : Nat) (k : Int) (v : BitVec 24) : State :=
  let s := (s.inCount i 0 1).updAudIn i fun x => { x with lastIn := s.aud.n }
  let x := s.audIn i
  if (s.audGrp g).cls = .async then
    if x.src then s.setAudIn i { x with pend := x.pend ++ [v] } else s.inCount i 4 1
  else if k < 0 ∨ k + 16384 ≤ s.aud.n ∨ (x.hist.any fun e => decide ((e.1 : Int) = k)) = true then s.inCount i 4 1
  else s.deliver i k.toNat v

/-- Class code of GRP.STAT: a group with a stalled input shows STALLED. -/
def AudClass.code : AudClass → Nat
  | .none => 0 | .sync => 1 | .async => 2

/-- Inputs of a group. -/
def AudGrp.inputs (x : AudGrp) : List Nat := (List.range x.count).map fun c => x.base + c

/-- Inputs that some output routes, through conversions. -/
def State.routedInputs (s : State) : List Nat :=
  sortBy (· ≤ ·) (s.aud.outs.filterMap fun e =>
    match e.2.input with
    | some i => if e.2.routed then (s.resolve 4 i 0).map (·.1) else none
    | none => none).dedup

/-- SRC channels in use. -/
def State.srcUsed (s : State) : Nat := (s.aud.ins.filter fun e => e.2.src).length

/-- Give SRC channels to the routed inputs of ASYNC groups, lowest input first, and take back those not needed (R326). -/
def State.srcAssign (s : State) : State :=
  let asy := fun i => match s.groupOf i with | some g => decide ((s.audGrp g).cls = .async) | none => false
  let need := s.routedInputs.filter asy
  let s := (s.aud.ins.filter fun e => (e.2.src || e.2.stalled) && !need.contains e.1).foldl (fun s e =>
    (s.inCount e.1 4 e.2.pend.length).setAudIn e.1 { e.2 with src := false, stalled := false, pend := [] }) s
  need.foldl (fun s i =>
    let x := s.audIn i
    if x.src then s
    else if s.srcUsed < 1024 then s.setAudIn i { x with src := true, stalled := false }
    else if x.stalled then s
    else
      let s := s.setAudIn i { x with stalled := true }
      match s.groupOf i with
      | some g =>
        let k := ((s.audGrp g).inputs.filter fun j => (s.audIn j).stalled).length
        (s.grpRaise g 1 0x0B01 [(22, 1, k)]).occur 307 0x0B20 [(24, 2, need.length)]
      | none => s) s

/-- A group takes a class. To SYNC, what the SRCs hold is delivered at the next positions. -/
def State.setClass (s : State) (g : Nat) (c : AudClass) : State :=
  let x := s.audGrp g
  if x.cls = c then s
  else
    let s := if c = .sync then
        x.inputs.foldl (fun s i =>
          let p := (s.audIn i).pend
          let s := s.updAudIn i fun y => { y with pend := [], src := false, stalled := false }
          p.zipIdx.foldl (fun s e => s.deliver i (s.aud.n + 1 + e.2) e.1) s) s
      else s
    let s := (s.updAudGrp g fun y => { y with cls := c, next := none }).grpRaise g 0 0x0B00 [(22, 1, c.code)]
    s.srcAssign

/-- The class that class_mode gives a group: fixed, or what AUTO has found. -/
def State.classFor (s : State) (g : Nat) (auto : AudClass) : AudClass :=
  let m := s.fget (Adr.agCtl g) 1 0
  if m = 1 then .sync else if m = 2 then .async else auto

/-- Mark the pairs of a group that carry ST 337 bursts, and keep their channel status. -/
def State.noteBursts (s : State) (base : Nat) (bursts inBurst : List Nat) (status : List (Nat × List Byte)) (count : Nat) : State :=
  (List.range count).foldl (fun s c =>
    s.updAudIn (base + c) fun x =>
      { x with burstAt := (if bursts.contains (c / 2) then s.aud.n else x.burstAt), inBurst := inBurst.contains (c / 2),
               status := (match status.find? fun e => e.1 == c / 2 with | some e => e.2 | none => x.status) }) s

/-- The audio of one sample instant of an SDI source arrives. -/
def State.sdiAudio (s : State) (a : SdiAudio) : State :=
  if 128 ≤ a.src ∨ (s.src a.src).state = .quadMember then s
  else
    let g := a.src
    let x := s.audGrp g
    let fresh := (List.range 4).filter fun k => bits a.badRate k k = 1 ∧ bits x.badRate k k = 0
    let s := s.setAudGrp g { x with groups := a.groups % 16, badRate := a.badRate % 16 }
    let s := fresh.foldl (fun s k => s.grpRaise g 2 0x0B02 [(22, 1, k + 1)]) s
    let auto := if a.asyncMark then .async else if x.cls = .none then .sync else x.cls
    let s := s.setClass g (s.classFor g auto)
    let ref : Int := (a.refPos : Int) - s.aud.off
    let next : Int := match (s.audGrp g).next with | some k => (k : Int) | none => ref
    let restart := decide (s.fget (Adr.agCtl g) 1 0 = 1) && decide (24 < (next - ref).natAbs)
    let s := if restart then
        ((List.range 16).foldl (fun s c => s.inCount (16 * g + c) 6 1) s).grpRaise g 3 0x0B03 [(24, 4, 0)]
      else s
    let place := if restart then ref else next
    let s := s.noteBursts (16 * g) a.bursts a.inBurst a.status 16
    let ok := a.samples.filter fun e => decide (e.1 < 16) && decide (bits a.groups (e.1 / 4) (e.1 / 4) = 1) &&
      decide (bits a.badRate (e.1 / 4) (e.1 / 4) = 0)
    let s := ok.foldl (fun s e => s.receive g (16 * g + e.1) place e.2) s
    let s := s.updAudGrp g fun y => { y with next := some (place + 1).toNat }
    if ok.isEmpty then s else s.noteLatency g ((s.aud.n : Int) - place).toNat

/-- One position of a sample-rate converter: one sample out. It consumes one sample, two when it holds more than 4, none
when it holds none and the stream goes on; inside a burst only one (log 23). -/
def State.srcStep (s : State) (i : Nat) : State :=
  let x := s.audIn i
  let burst := s.nonPcm i && x.inBurst
  let x' := if decide (4 < x.pend.length) && !burst then { x with pend := x.pend.drop 1 } else x
  let s := (s.setAudIn i x').inCount i 2 (x.pend.length - x'.pend.length)
  match x'.pend with
  | v :: rest =>
    let s := s.updAudIn i fun y => { y with pend := rest }
    if s.nonPcm i then s.deliver i s.aud.n v
    else
      let (f, s) := s.fresh
      s.deliver i s.aud.n (f.setWidth 24)
  | [] =>
    if s.aud.n ≤ x.lastIn + 48 ∧ burst = false then
      let s := s.inCount i 1 1
      if s.nonPcm i then s.deliver i s.aud.n 0
      else
        let (f, s) := s.fresh
        s.deliver i s.aud.n (f.setWidth 24)
    else s

/-! ## Voices (R331) -/

/-- Gain with 20 fractional bits. -/
def gainLin (g : Int) : Nat := if g = -32768 then 0 else if g = 0 then 1048576 else Config.audioGain g

/-- The value of a voice at count `k`: numerator in 2^-20, denominator, and whether a delivered sample is in it. -/
def State.voiceAt (s : State) (k : Nat) : Voice → Int × Nat × Bool
  | .silence => (0, 1, false)
  | .tap i d g mute inv =>
    match (if d ≤ k then s.sampleAt i (k - d) else none) with
    | none => (0, 1, false)
    | some v =>
      let lin : Int := if mute then 0 else if s.nonPcm i then 1048576 else ((gainLin g : Nat) : Int)
      let x := v.toInt * lin
      (if inv && !s.nonPcm i then -x else x, 1, true)
  | .cross a b start len =>
    let x := State.voiceAt s k a
    let y := State.voiceAt s k b
    if k < start then x
    else if start + len ≤ k then y
    else
      let j : Int := ((k - start : Nat) : Int)
      ((len - j) * x.1 * y.2.1 + j * y.1 * x.2.1, len * x.2.1 * y.2.1, x.2.2 || y.2.2)

/-- Rounded to nearest, halves up, and saturated to 24 bits. -/
def round24 (num : Int) (den : Nat) : BitVec 24 :=
  let r := (2 * num + den * 1048576) / (2 * (den * 1048576))
  BitVec.ofInt 24 (max (-8388608) (min 8388607 r))

/-- A voice without the fades that have ended. -/
def Voice.prune (k : Nat) : Voice → Voice
  | .cross a b start len => if start + len ≤ k then Voice.prune k b else .cross (Voice.prune k a) (Voice.prune k b) start len
  | v => v

/-- Start a change to a new voice at count `k` with a ramp of `r` samples. -/
def Voice.fade (old new : Voice) (k r : Nat) : Voice := if r = 0 then new else .cross (old.prune k) new k r

/-! ## Switching (R329 to R338) -/

def AudOut.tap (x : AudOut) : Voice :=
  match x.input with
  | some i => .tap i x.delay x.gain x.mute x.invert
  | none => .silence

/-- The new voice takes over: at once, or, with non-PCM data, in the first gap of the old stream (R338). -/
def State.switchVoice (s : State) (o : Nat) (old : Option Nat) (v : Voice) (r : Nat) : State :=
  let x := s.audOut o
  let oldNp := match old with | some i => s.nonPcm i | none => false
  let newNp := match x.input with | some i => s.nonPcm i | none => false
  if !(oldNp || newNp) then s.setAudOut o { x with voice := x.voice.fade v s.aud.n r, wait := none }
  else
    match old with
    | some i =>
      if oldNp && s.inBurst i then (s.setAudOut o { x with wait := some (v, s.aud.n + 4096) }).outCount o 4 1
      else s.setAudOut o { x with voice := v, wait := none }
    | none => s.setAudOut o { x with voice := v, wait := none }

/-- The delay of a following output: V as last measured, or AUTO, raised to the availability and limited (R334, R336). -/
def State.followDelay (s : State) (x : AudOut) (i : Nat) : Nat × Bool :=
  let avail := s.latency i
  match x.video with
  | some v =>
    let want := (v * 48000 + 500000000) / 1000000000
    (min 15360 (max want.toNat avail), decide (want < avail ∨ 15360 < want))
  | none => (min 15360 (avail + 48), false)

/-- The source shown on the followed layer of the head that feeds a destination. -/
def State.followedSource (s : State) (dest layer : Nat) : Option Nat :=
  match (s.dest dest).head with
  | some h =>
    match (s.head h).front with
    | some p =>
      let n := (p.layers.getD ((s.head h).followed layer) LayerPic.off).src
      if n < 640 then some n else none
    | none => none
  | none => none

/-- The companion channel of a source, none for silence. -/
def State.compInput (s : State) (src : Option Nat) (c : Nat) : Option Nat :=
  match src with
  | some n => (s.companion 4 n)[c]?
  | none => none

/-- Apply a switch to one output; `k` is its place in the run. -/
def State.switchOne (s : State) (w : AudSwitch) (k : Nat) : State :=
  let o := w.first + k
  let x := s.audOut o
  let s := s.outCount o 3 1
  match w.act with
  | .route i d =>
    let inp := i.map (· + k)
    let a := match d, inp with
      | some a, _ => a
      | none, some j => min 15360 (s.latency j + 48)
      | none, none => 0
    let y := { x with owner := w.owner, routed := inp.isSome, input := inp, follow := none, gain := w.gain, mute := w.mute,
                      invert := w.invert, ramp := w.ramp, delay := a, clamped := false }
    (s.setAudOut o y).switchVoice o x.input y.tap (48 * w.ramp)
  | .follow c d l =>
    let inp := s.compInput (s.followedSource d l) (c + k)
    let a := match inp with | some j => s.followDelay x j | none => (0, false)
    let y := { x with owner := w.owner, routed := inp.isSome, input := inp, follow := some (d, l), comp := c + k, gain := w.gain,
                      mute := w.mute, invert := w.invert, ramp := w.ramp, delay := a.1, clamped := a.2 }
    (s.setAudOut o y).switchVoice o x.input y.tap (48 * w.ramp)
  | .take i =>
    let a := match i with | some j => s.followDelay x j | none => (0, false)
    let y := { x with routed := i.isSome, input := i, delay := a.1, clamped := a.2 }
    (s.setAudOut o y).switchVoice o x.input y.tap (48 * x.ramp)
  | .set =>
    let y := { x with owner := (if x.owner = 0 then 0 else w.owner), gain := w.gain, mute := w.mute, invert := w.invert, ramp := w.ramp }
    let r := 48 * w.ramp
    let v := if x.invert = w.invert then y.voice.fade y.tap s.aud.n r
      else if r = 0 then y.tap
      else .cross (.cross (x.voice.prune s.aud.n) .silence s.aud.n (r / 2)) y.tap (s.aud.n + r / 2) (r - r / 2)
    s.setAudOut o { y with voice := v }
  | .unroute =>
    let y := { AudOut.reset with recent := x.recent, voice := x.voice }
    (s.setAudOut o y).switchVoice o x.input .silence (48 * w.ramp)

/-- A switch position has come. -/
def State.runSwitch (s : State) (w : AudSwitch) : State :=
  let s := (List.range w.count).foldl (fun s k => (s.switchOne w k).nvTouch (576 + (w.first + k) / 43)) s
  let s := s.updAud fun a => { a with switches := a.switches.filter fun v => v ≠ w }
  if w.desc then s.completeAt w.ring w.stamp csOk (BitVec.ofNat 64 (w.count + 4294967296 * (s.audPos % 4294967296))) else s

/-- A switch is due at the current position. -/
def State.switchDue (s : State) (w : AudSwitch) : Bool :=
  match w.due with
  | .pos k => decide (k ≤ s.aud.n)
  | .ptp a b => decide (totalNs a b ≤ s.phcTotalNs)
  | .commit _ _ => false

/-! ## The timeline (R317) -/

/-- Outputs that are active: of fed SDI destinations, and of send flows while the module is in RUN (R339). -/
def State.activeOuts (s : State) : List Nat :=
  let run := decide (s.fget Adr.pwrStat 2 0 = 1)
  ((s.out.dests.filter fun e => decide (e.1 < 128) && e.2.head.isSome && !e.2.quadMember).flatMap fun e =>
    (List.range 16).map fun c => 16 * e.1 + c) ++
  (if run then s.aud.txRuns.flatMap fun r => (List.range r.2.2).map fun c => r.2.1 + c else [])

/-- The output pair takes the input pair whole, in order, with one mode and one delay (R338). -/
def State.wholePair (s : State) (o i : Nat) : Bool :=
  let x := s.audOut o
  let p := if o % 2 = 0 then o + 1 else o - 1
  let y := s.audOut p
  let base := match s.groupOf i with | some g => (s.audGrp g).base | none => 0
  let even := decide ((i - base) % 2 = 0)
  (even == decide (o % 2 = 0)) && decide (y.input = some (if even then i + 1 else i - 1)) &&
  decide (x.follow.isSome = y.follow.isSome) && decide (x.delay = y.delay)

/-- One output at the current position. -/
def State.outStep (s : State) (o : Nat) : State :=
  let x := s.audOut o
  -- a switch that waits for a gap of the old stream
  let x := match x.wait with
    | some (v, k) =>
      let inBurst := match x.voice with | .tap i .. => s.inBurst i | _ => false
      if inBurst = false ∨ k ≤ s.aud.n then { x with voice := v, wait := none } else x
    | none => x
  let np := match x.input with | some i => s.nonPcm i | none => false
  let split := np && !(match x.input with | some i => s.wholePair o i | none => true)
  let r := s.voiceAt s.aud.n x.voice
  let v : BitVec 24 := if split then 0 else round24 r.1 r.2.1
  let s := s.setAudOut o { x with voice := x.voice.prune s.aud.n, split := split, recent := (v :: x.recent).take 48 }
  let s := if split && !x.split then s.routeRaise o 1 0x0B11 [(24, 2, x.input.getD 0)] else s
  ((s.outCount o 0 1).outCount o (if r.2.2 then 1 else 2) 1)

/-- Converted inputs hand over the samples of their companions (R316). -/
def State.cnvAudio (s : State) : State :=
  (s.out.convs.map (·.1)).foldl (fun s m =>
    if s.cnvLive m then
      (s.companion 4 (256 + m)).foldl (fun s i =>
        if (s.sampleAt i s.aud.n).isSome then (s.inCount i 0 1).inCount i 3 1 else s) s
    else s) s

/-- Channel status of output pair `j` (R322): passed when the pair takes an input pair whole, else generated. -/
def State.pairStatus (s : State) (o : Nat) (pass : Bool) : ChStatus :=
  let x := s.audOut o
  let np := match x.input with | some i => s.nonPcm i | none => false
  match x.input with
  | some i =>
    match s.resolve 4 i 0 with
    | some (b, _) => if pass && s.wholePair o i && !(s.audIn b).status.isEmpty then .passed (s.audIn b).status else .generated np
    | none => .generated np
  | none => .generated np

/-! ## Embedders (R321) -/

/-- The first frame of a 5-frame sequence that carries the smaller number of samples, and how far on the second one lies
(log 109). -/
def embedShort : Nat × Nat := (Config.embedShort % 5, 1 + Config.embedShort / 5 % 4)

/-- Samples of a channel that a frame of a rate carries: at 59.94 Hz 800 or 801, 4,004 in 5 frames; at 29.97 Hz 1,601 or 1,602,
8,008 in 5 frames. Sequences start at frame counts divisible by 5. -/
def embedCount (rate : Nat × Nat) (frame : Nat) : Nat :=
  let j := frame % 5
  if sameRate rate (60000, 1001) then (if j = embedShort.1 then 800 else 801)
  else if sameRate rate (30000, 1001) then (if j = embedShort.1 ∨ j = (embedShort.1 + embedShort.2) % 5 then 1601 else 1602)
  else 48000 * rate.2 / rate.1

/-- A synthesiser output takes its timing from the PHC. -/
def State.fromPhc (s : State) (o : Nat) : Bool :=
  let x : Syn := Tab.get (fun _ => Syn.reset) s.tim.syns (o / 4)
  decide (x.state = .locked) && x.active == 1

/-- The audio timeline takes its timing from the PHC (R317). -/
def State.timelinePhc (s : State) : Bool := !s.flag Adr.audClk 7 || s.fromPhc (s.fget Adr.audClk 6 0)

/-- One sample instant of an SDI destination: its outputs' samples go into the frame that runs while it takes more, or wait for
the next one. -/
def State.embed (s : State) (d : Nat) : State :=
  let p := s.destPolder d
  let full := embedCount (s.polderRate p)
  let e := Tab.get (fun _ => Emb.reset) s.aud.embs d
  let j := (s.polder p).count
  let e := if e.frame = j then e else { e with frame := j, count := min e.late (full j), late := e.late - full j }
  let on := fun (c : Nat) => s.flag (Adr.embCtl d) (c / 4)
  let e := if e.count < full j then { e with count := e.count + 1 } else { e with late := e.late + 1 }
  let e := { e with
    samples := (List.range 16).map fun c => if on c then (s.audOut (16 * d + c)).recent.head? else none
    sync := s.fromPhc (s.fget (Adr.polderCtl p) 6 0) && s.timelinePhc
    status := (List.range 8).map fun k => s.pairStatus (16 * d + 2 * k) (s.flag (Adr.embCtl d) 4) }
  s.updAud fun a => { a with embs := Tab.set (fun _ => Emb.reset) a.embs d e }

/-- The SDI destinations that embed audio. -/
def State.embedding (s : State) : List Nat :=
  (s.out.dests.filter fun e => decide (e.1 < 128) && e.2.head.isSome && !e.2.quadMember).map (·.1)

/-- AUDIO_SAMPLE_POSITION: the count advances by one; `arr` is the SDI audio that has arrived since the position before. -/
def execAudioSamplePosition (arr : List SdiAudio) (s : State) : Out3 :=
  .next (
    if s.fget Adr.pwrStat 2 0 = 3 then s
    else
      let n := s.aud.n + 1
      let want : Int := ((s.tim.phc * 48000 / phcUnit : Nat) : Int)
      let off := if s.flag Adr.audClk 7 = false ∧ 1 < (want - (n + s.aud.off)).natAbs then want - n else s.aud.off
      let s := s.updAud fun a => { a with n := n, off := off }
      let s := arr.foldl (fun s a => s.sdiAudio a) s
      let s := (s.aud.ins.filter fun e => e.2.src).foldl (fun s e => s.srcStep e.1) s
      let s := s.cnvAudio
      let due := s.aud.switches.filter s.switchDue
      let s := due.foldl (fun s w => s.runSwitch w) s
      let s := if due.isEmpty then s else s.srcAssign
      let s := s.activeOuts.foldl (fun s o => s.outStep o) s
      s.embedding.foldl (fun s d => s.embed d)
        (s.updAud fun a => { a with embs := a.embs.filter fun e => s.embedding.contains e.1 }))

/-! ## IP audio (R323, R324) -/

/-- The 64-bit position nearest to now with the low 32 bits of an RTP timestamp, as a count. -/
def State.rtpCount (s : State) (ts : Nat) : Int :=
  let t : Int := (s.aud.n : Int) + s.aud.off
  let d := ((ts : Int) - t) % 4294967296
  (s.aud.n : Int) + (if d < 2147483648 then d else d - 4294967296)

/-- A packet of a receive flow. -/
def State.audioFlow (s : State) (f : Flow) (p : AudioPacket) : State :=
  match s.aud.rxRuns.find? fun r => r.1 == f.target with
  | none => s
  | some (_, base, count) =>
    let g := 128 + f.target
    let x := s.audGrp g
    if x.seen.contains p.hdr.ts then s
    else
      let s := s.setAudGrp g { x with seen := (p.hdr.ts :: x.seen).take 64 }
      let s := s.setClass g (s.classFor g (if x.cls = .none then .sync else x.cls))
      let s := s.noteBursts base p.bursts p.inBurst p.status count
      let k := s.rtpCount p.hdr.ts
      let s := p.samples.zipIdx.foldl (fun s e =>
        ((e.1.take count).zipIdx).foldl (fun s c => s.receive g (base + c.2) (k + e.2) c.1) s) s
      s.noteLatency g ((s.aud.n : Int) - k).toNat

/-- AUDIO_PACKET. -/
def execAudioPacket (p : AudioPacket) (s : State) : Out3 :=
  .next ((s.ing.flows.filter fun f => (f.kind == 2 || f.kind == 3) && s.linkUp p.hdr.port p.hdr.sub &&
      (f.a.accepts f.pt p.hdr || (match f.b with | some l => l.accepts f.pt p.hdr | none => false))).foldl
    (fun s f => s.audioFlow f p) s)

/-- L16: rounded to nearest from 24 bits, halves up, saturated. -/
def toL16 (v : BitVec 24) : Int := min 32767 ((v.toInt + 128) / 256)

/-- AUDIO_SEND_PACKET: send flow `k` sends the samples of its last N positions; N is 48 or 6. -/
def execAudioSendPacket (k : Fin 1024) (s : State) : Out3 :=
  .next (
    match s.ing.flows.find? fun f => (f.kind == 6 || f.kind == 7) && f.target == k.val, s.aud.txRuns.find? fun r => r.1 == k.val with
    | some f, some (_, base, count) =>
      let n := if f.p2 = 1 then 6 else 48
      let t := s.audPos + 1 - n
      if s.aud.n < n ∨ (f.pkts ≠ 0 ∧ t < f.rtpTs + n) ∨ s.fget Adr.pwrStat 2 0 ≠ 1 then s
      else
        let conv := fun (v : BitVec 24) => if f.kind = 6 ∧ f.p1 = 0 then toL16 v else v.toInt
        let body := (List.range count).map fun c => (((s.audOut (base + c)).recent.take n).reverse).map conv
        let st := if f.kind = 7 then (List.range (count / 2)).map fun j => s.pairStatus (base + 2 * j) true else []
        let s := s.updAud fun a => { a with sent := (Tab.set (fun _ => ([], [])) a.sent k (body, st)) }
        s.updIng fun g => { g with flows := g.flows.map fun x =>
          if x.handle = f.handle then { x with pkts := x.pkts + 1, rtpSeq := (x.rtpSeq + 1) % 65536, rtpTs := t } else x }
    | _, _ => s)

/-- CLASS_MEASUREMENT: the rate over 4 s in 0.25 ppm; `steady`: RTP positions stay within 24 samples (R325). -/
def execClassMeasurement (g : Fin 1152) (ppm : Int) (steady : Bool) (s : State) : Out3 :=
  .next (
    if (s.audGrp g).cls = .none then s
    else
      let s := s.updAudGrp g fun x => { x with ppm := ppm }
      s.setClass g (s.classFor g (if ppm.natAbs ≤ 4 ∧ (g.val < 128 ∨ steady = true) then .sync else .async)))

/-! ## Flips (R333 to R336) -/

/-- Outputs that follow a destination. -/
def State.following (s : State) (d : Nat) : List Nat :=
  (s.aud.outs.filter fun e => match e.2.follow with | some (x, _) => x == d | none => false).map (·.1)

/-- Measure V of one output at a flip, and note whether its source has changed since the last one. -/
def State.measure (s : State) (h o : Nat) : Bool × State :=
  let x := s.audOut o
  let layer := match x.follow with | some (_, l) => l | none => 0
  match (s.head h).front with
  | none => (false, s)
  | some p =>
    let l := p.layers.getD ((s.head h).followed layer) LayerPic.off
    let mark := (l.src, if l.src < 256 then (s.src l.src).locks else if l.src < 384 then (s.cnv (l.src - 256)).modes else 0)
    match (if l.cls = .new ∨ l.cls = .rep then l.ref else none) with
    | some r =>
      let v : Int := (s.phcTotalNs : Int) - r
      let us := v / 1000 - (x.delay : Int) * 1000 / 48
      (decide (x.mark.1 = mark.1 ∧ x.mark.2 ≠ mark.2), s.setAudOut o { x with video := some v, lipsync := us, mark := mark })
    | none => (false, s.setAudOut o { x with mark := mark })

/-- Re-time an output when |V − A| exceeds 1 ms (R335), and report what remains (R336). -/
def State.retime (s : State) (o : Nat) : State :=
  let x := s.audOut o
  match x.input, x.video with
  | some i, some v =>
    if x.lipsync.natAbs ≤ 1000 then s
    else
      let a := s.followDelay x i
      let us := v / 1000 - (a.1 : Int) * 1000 / 48
      let y := { x with delay := a.1, clamped := a.2, lipsync := us }
      let s := if a.1 = x.delay then s.setAudOut o y
        else (s.setAudOut o { y with voice := x.voice.fade y.tap (s.aud.n + 1) (48 * max 5 x.ramp) }).outCount o 3 1
      if a.2 || decide (1000 < us.natAbs) then s.routeRaise o 0 0x0B10 [(22, 1, b2n a.2), (24, 4, toTwos 32 us)] else s
  | _, _ => s

/-- The audio side of a flip of head `h` that applied the given commits. -/
def State.audioFlip (s : State) (h : Nat) (applied : List Commit) : State :=
  let outs := (s.fedBy h).flatMap s.following
  let r := outs.foldl (fun (a : List Nat × State) o =>
    let m := a.2.measure h o
    (if m.1 then a.1 ++ [o] else a.1, m.2)) ([], s)
  let takes := applied.filter fun c => c.kind == .take && c.audioFollow
  let switched := takes.flatMap fun c => r.2.following c.dest
  let s := takes.foldl (fun s c =>
    (s.following c.dest).foldl (fun s o =>
      let x := s.audOut o
      let l := c.cfg.layer 0
      let src := if c.clone then s.followedSource c.dest (match x.follow with | some (_, l) => l | none => 0)
        else if l.kind = 1 then some (l.src.toNat % 65536) else none
      let w : AudSwitch := { desc := false, ring := 0, stamp := 0, owner := x.owner, first := o, count := 1,
                             act := .take (s.compInput src x.comp), gain := x.gain, mute := x.mute, invert := x.invert, ramp := x.ramp,
                             due := .pos (s.aud.n + 1) }
      s.updAud fun a => { a with switches := a.switches ++ [w] }) s) r.2
  let again := (if applied.isEmpty then r.1 else outs).filter fun o => !switched.contains o
  again.foldl (fun s o => s.retime o) s

/-! ## OP_AUDIO_ROUTE (R328 to R332) -/

def routeGain (d : List Byte) : Int := s16 d 16

/-- The gain lies outside its range. -/
def gainBad (g : Int) : Bool := !(g == -32768 || decide (-8000 ≤ g ∧ g ≤ 1200))

/-- When a route command switches; none where its target is out of range. -/
def State.routeWhen (s : State) (d : List Byte) : Option AudWhen :=
  let t := u64 d 24
  let ns := u32 d 32
  match u8 d 21 with
  | 0 => if t = 0 ∧ ns = 0 then some (.pos (s.aud.n + 48)) else none
  | 2 => if t < 281474976710656 ∧ ns < 1000000000 then some (.ptp t ns) else none
  | 4 => if t < 2 ^ 38 ∧ ns = 0 then some (.commit (t / 4294967296) (BitVec.ofNat 32 t)) else none
  | _ => none

/-- Fields out of range. -/
def State.routeBad (s : State) (d : List Byte) : Bool :=
  let act := u8 d 8
  let fol := ubit d 9 0
  let n := u8 d 10
  let o := u16 d 12
  let i := u16 d 14
  let common := decide (n = 0 ∨ 16 < n) || decide (40 < u8 d 11) || (s.routeWhen d).isNone
  let noGain := gainBad (routeGain d)
  let run := decide (8191 < o + n - 1)
  let inRun := i != 0xFFFF && decide (8191 < i + n - 1)
  match act with
  | 0 =>
    if fol then common || noGain || run || decide (15 < i ∨ 16 < i + n) || decide (255 < u16 d 18) || decide (7 < u8 d 20) || u16 d 22 != 0
    else common || noGain || run || inRun || decide (u16 d 18 ≠ 0 ∨ u8 d 20 ≠ 0) || (decide (15360 < u16 d 22) && u16 d 22 != 0xFFFF)
  | 1 => common || noGain || run || fol || decide (u16 d 18 ≠ 0 ∨ u8 d 20 ≠ 0 ∨ u16 d 22 ≠ 0)
  | 2 => common || run || fol || decide (u16 d 18 ≠ 0 ∨ u8 d 20 ≠ 0 ∨ u16 d 22 ≠ 0)
  | 3 => decide (n = 0 ∨ 16 < n) || inRun || !(decide (128 ≤ o ∧ o ≤ 255) || decide (384 ≤ o ∧ o ≤ 639)) ||
      decide (u16 d 18 ≠ 0 ∨ u8 d 20 ≠ 0 ∨ u16 d 22 ≠ 0)
  | _ => true

/-- Checks that the routing actions share. -/
def State.routeCheck (s : State) (j : Job) : Option Nat :=
  let d := j.d
  let fol := u8 d 8 == 0 && ubit d 9 0
  let outs := (List.range (u8 d 10)).map fun k => u16 d 12 + k
  let noCommit := match s.routeWhen d with
    | some (.commit r q) => !(s.queued.any fun p => p.2.ring == r && p.2.seq == q)
    | _ => false
  let software := match (s.dest (u16 d 18)).head with | some h => decide ((s.head h).managed = .software) | none => false
  let layerBad := fol && u8 d 20 != 0 && !software
  let away := outs.any fun o => decide (2048 ≤ o) && !(s.aud.txRuns.any fun r => decide (r.2.1 ≤ o ∧ o < r.2.1 + r.2.2))
  let owners := (outs.map fun o => (s.audOut o).owner) ++ (if fol then [s.destOwner (u16 d 18)] else [])
  let bad := owners.find? fun t => !j.mayUse t
  let newIns := if u8 d 8 = 0 ∧ fol = false ∧ u16 d 14 ≠ 0xFFFF then (List.range (u8 d 10)).map fun k => u16 d 14 + k else []
  let want := (newIns.filterMap fun i => (s.resolve 4 i 0).map (·.1)).filter fun i =>
    (match s.groupOf i with | some g => decide ((s.audGrp g).cls = .async) | none => false) && !(s.audIn i).src
  firstFail [(s.routeBad d || layerBad, csBadParam), (noCommit, csNotFound),
    (away || (fol && (s.dest (u16 d 18)).head.isNone), csState), (bad.isSome, s.ownerCode (bad.getD 0)),
    (decide (1024 < s.srcUsed + want.dedup.length), csNoResource)]

/-- Queue a switch of a descriptor, which ends once its switch position is fixed: at once, or with the commit it follows (R562). -/
def State.queueSwitch (s : State) (j : Job) (act : AudAct) : State :=
  let d := j.d
  let w : AudSwitch :=
    { desc := true, ring := j.ring, stamp := j.stamp, owner := j.owner, first := u16 d 12, count := u8 d 10, act := act,
      gain := routeGain d, mute := ubit d 9 1, invert := ubit d 9 2, ramp := u8 d 11, due := (s.routeWhen d).getD (.pos s.aud.n) }
  let s := s.updAud fun a => { a with switches := a.switches ++ [w] }
  match w.due with
  | .commit _ _ => s
  | _ => s.endOp j

/-- AUDIO_ROUTE, action 0; an action out of range is refused here. -/
def execAudioRoute (n : Fin 64) (s : State) : Out3 :=
  .next (s.runOp n 0x50 (fun d => u8 d 8 = 0 || decide (3 < u8 d 8)) fun j s =>
    match s.routeCheck j with
    | some e => s.complete j e 0
    | none =>
      let i := u16 j.d 14
      if ubit j.d 9 0 then s.queueSwitch j (.follow i (u16 j.d 18) (u8 j.d 20))
      else s.queueSwitch j (.route (if i = 0xFFFF then none else some i) (if u16 j.d 22 = 0xFFFF then none else some (u16 j.d 22))))

/-- AUDIO_SET. -/
def execAudioSet (n : Fin 64) (s : State) : Out3 :=
  .next (s.runOp n 0x50 (fun d => u8 d 8 == 1) fun j s =>
    match s.routeCheck j with
    | some e => s.complete j e 0
    | none => s.queueSwitch j .set)

/-- AUDIO_UNROUTE. -/
def execAudioUnroute (n : Fin 64) (s : State) : Out3 :=
  .next (s.runOp n 0x50 (fun d => u8 d 8 == 2) fun j s =>
    match s.routeCheck j with
    | some e => s.complete j e 0
    | none => s.queueSwitch j .unroute)

/-- AUDIO_COMPANION: at once (R329). -/
def execAudioCompanion (n : Fin 64) (s : State) : Out3 :=
  .next (s.runOp n 0x50 (fun d => u8 d 8 == 3) fun j s =>
    let o := u16 j.d 12
    let owner := s.sourceOwner o
    match firstFail [(s.routeBad j.d, csBadParam), (!j.mayUse owner, s.ownerCode owner)] with
    | some e => s.complete j e 0
    | none =>
      let v := if u16 j.d 14 = 0xFFFF then none else some (u16 j.d 14, u8 j.d 10)
      ((s.updAud fun a => { a with comps := (Tab.set (fun _ => none) a.comps o v) }).nvTouch 767).complete j csOk 0)

end Sys2Proof.Machine
end

