-- ==== Sys2Proof/Machine/Nv.lean ====
section
/-!
DEFINITION. Machine/Nv.lean: the non-volatile store: pages, records, recall, wear counters, erases and the NV descriptors
(R447 to R473). What a finished program does for whoever waited for it stands in NvEnd.lean.
-/
namespace Sys2Proof.Machine

/-! ## Pages and the mirror (R448 to R450) -/

def State.nvPage (s : State) (p : Nat) : NvPage := Tab.get (fun _ => NvPage.reset) s.nv.pages p
def State.setNvPage (s : State) (p : Nat) (v : NvPage) : State :=
  s.updNv fun n => { n with pages := Tab.set (fun _ => NvPage.reset) n.pages p v }

/-- Byte `i` of a page (R449; log 24). -/
def NvPage.byte (x : NvPage) (page i : Nat) : Byte :=
  match x.data with
  | .blank => 0xFF
  | .bytes l => l.getD i 0xFF
  | _ => Config.systemPage page x.seq i

/-- 256 bytes as page data: all 0xFF clears the page (R449). -/
def NvData.ofBytes (l : List Byte) : NvData := if l.all fun b => b == 0xFF then .blank else .bytes l

/-- The record sequence that a read shows: 0 for a page that reads as never written (R449, R466). -/
def NvPage.shownSeq (x : NvPage) : Nat := if x.data = .blank then 0 else x.seq

/-- Pages in use. -/
def State.nvLive (s : State) : Nat := (s.nv.pages.filter fun e => decide (e.2.data ≠ .blank)).length

/-! ## Sectors (R452, R455, R465) -/

def State.nvSector (s : State) (k : Nat) : NvSector := Tab.get (fun _ => NvSector.reset) s.nv.sectors k
def State.setNvSector (s : State) (k : Nat) (v : NvSector) : State :=
  s.updNv fun n => { n with sectors := Tab.set (fun _ => NvSector.reset) n.sectors k v }

/-- Record sectors that are not retired. -/
def State.nvGood (s : State) : Nat := 128 - (s.nv.sectors.filter fun e => e.2.retired).length

/-- Erased record sectors. -/
def State.nvErased (s : State) : Nat := 128 - (s.nv.sectors.filter fun e => e.2.retired || e.2.seq != 0).length

/-- A first write to a page is admitted (R465). -/
def State.nvAdmits (s : State) : Bool := decide (s.nvLive + 1 ≤ 12 * (s.nvGood - 4))

/-- The hold-up store allows a program or an erase (R463). -/
def State.holdupOk (s : State) : Bool := decide (1000 ≤ s.nv.energy)

/-- NV.STAT.state. -/
def State.nvState (s : State) : Nat :=
  match s.nv.phase with
  | .recall => 0
  | .fault => 3
  | .ready => if s.nvAdmits then 1 else 2

/-- An event of the store (R473). -/
def State.nvRaise (s : State) (bit code : Nat) (d : List (Nat × Nat × Nat)) : State :=
  s.raise Adr.nvCause Adr.nvMask bit 282 code d

/-- EV_NV_FAIL: 0 program, 1 erase, 2 not answering. -/
def State.nvFail (s : State) (kind item off : Nat) : State := s.nvRaise 1 0x1001 [(20, 1, kind), (22, 2, item), (24, 4, off)]

/-- Flash offset of a record slot, and of cell `k` of a counter's ring in sector `b` of its pair. -/
def recOffset (sector slot : Nat) : Nat := 0x600000 + 4096 * sector + 64 + 288 * slot
def cellOffset (c b k : Nat) : Nat := 0x680000 + 4096 * c + 2048 * b + 2 * (16 + k)

/-- The slot that the next record takes: the open sector's next one, or the first of the lowest erased sector. -/
def State.nvNextSlot (s : State) : Option (Nat × Nat) :=
  let fresh := ((List.range 128).find? fun k => (s.nvSector k).seq == 0 && !(s.nvSector k).retired).map fun k => (k, 0)
  match s.nv.openAt with
  | some k => if (s.nvSector k).recs.length < 12 then some (k, (s.nvSector k).recs.length) else fresh
  | none => fresh

/-- Program a record into the next slot (R452, R453). -/
def State.nvAppend (s : State) (r : NvRec) : State :=
  match s.nvNextSlot with
  | none => s
  | some (k, i) =>
    let x := s.nvSector k
    if i = 0 ∧ x.seq = 0 then
      (s.setNvSector k { x with seq := s.nv.lastSector + 1, recs := [r] }).updNv fun n =>
        { n with openAt := some k, lastSector := n.lastSector + 1 }
    else s.setNvSector k { x with recs := x.recs ++ [r] }

/-- The record of a page that is in force. -/
def State.nvInForce (s : State) (r : NvRec) : Bool := decide (r.commit = .committed) && r.seq == (s.nvPage r.page).seq

/-! ## Erases (R455, R463, R464) -/

/-- Void a record. -/
def State.nvVoid (s : State) (k i : Nat) : State :=
  let x := s.nvSector k
  s.setNvSector k { x with recs := x.recs.modify i fun r => { r with commit := .voided } }

/-- Operations that wait for the energy start once it is there: voids are done, the first erase due begins. -/
def State.nvKick (s : State) : State :=
  if s.nv.phase = .ready ∧ s.holdupOk = true then
    let s := s.nv.voids.foldl (fun s v => s.nvVoid v.1 v.2) s
    s.updNv fun n => { n with voids := [], erasing := !n.erases.isEmpty }
  else s

/-- An erase becomes due. -/
def State.nvErase (s : State) (e : NvErase) : State :=
  if s.nv.erases.contains e then s else (s.updNv fun n => { n with erases := n.erases ++ [e] }).nvKick

/-! ## Wear counters (R458 to R462) -/

def State.ctr (s : State) (c : Nat) : NvCtr := Tab.get (fun _ => NvCtr.reset) s.nv.ctrs c
def State.setCtr (s : State) (c : Nat) (v : NvCtr) : State :=
  s.updNv fun n => { n with ctrs := Tab.set (fun _ => NvCtr.reset) n.ctrs c v }

def NvCtr.value (x : NvCtr) : Nat := x.base + x.good

/-- A counter's value. -/
def State.ctrValue (s : State) (c : Nat) : Nat := (s.ctr c).value

/-- No erased cell is left: the increment opens a new ring. -/
def NvCtr.full (x : NvCtr) : Bool := decide (1008 ≤ x.used)

/-- A ring opening that has verified, with `good` first cells counted. -/
def NvCtr.opened (x : NvCtr) (good : Nat) : NvCtr :=
  { x with cur := 1 - x.cur, epoch := x.epoch + 1, base := x.value, used := 1, good := good, otherErased := false }

/-- Highest erase counts of the two regions. -/
def State.recWear (s : State) : Nat := (s.nv.sectors.map (·.2.erases)).foldl max 0
def State.ctrWear (s : State) : Nat := (s.nv.ctrs.map fun e => max e.2.erases0 e.2.erases1).foldl max 0

/-- Retired sectors of both regions. -/
def State.nvRetired (s : State) : Nat := (s.nv.sectors.filter fun e => e.2.retired).length + (s.nv.ctrs.map (·.2.retired)).sum

/-- NV_ERASE_DONE: the erase in progress ends; one that fails retires its sector. -/
def State.eraseEnd (s : State) (ok : Bool) (kind : Nat) : State :=
  match s.nv.erases, s.nv.erasing with
  | e :: rest, true =>
    let s := s.updNv fun n => { n with erases := rest, erasing := false }
    let wear := fun (s : State) (region n : Nat) => if n = 800000 then s.nvRaise 3 0x1003 [(20, 1, region), (24, 4, n)] else s
    let s := match e with
      | .record k =>
        let x := s.nvSector k
        if ok then wear (s.setNvSector k { x with seq := 0, recs := [], erases := x.erases + 1 }) 0 (x.erases + 1)
        else (s.setNvSector k { x with recs := [], retired := true }).nvFail kind k (0x600000 + 4096 * k)
      | .counter c =>
        let x := s.ctr c
        let b := 1 - x.cur
        if ok then
          let n := (if b = 0 then x.erases0 else x.erases1) + 1
          wear (s.setCtr c { x with otherErased := true, erases0 := (if b = 0 then n else x.erases0), erases1 := (if b = 0 then x.erases1 else n) }) 1 n
        else (s.setCtr c { x with retired := x.retired + 1 }).nvFail kind c (cellOffset c b 0 - 32)
    s.nvKick
  | _, _ => s

def execNvEraseDone (ok : Bool) (s : State) : Out3 := .next (s.eraseEnd ok 1)

/-! ## Compaction and scrub (R454, R455) -/

/-- The sector with the lowest sector sequence that is neither open nor due for erase. -/
def State.nvOldest (s : State) : Option Nat :=
  (s.nv.sectors.foldl (fun (m : Option (Nat × Nat)) e =>
    if e.2.seq = 0 ∨ e.2.retired = true ∨ s.nv.openAt = some e.1 ∨ s.nv.erases.contains (.record e.1) = true then m
    else match m with
      | some (_, q) => if e.2.seq < q then some (e.1, e.2.seq) else m
      | none => some (e.1, e.2.seq)) none).map (·.1)

/-- NV_COMPACTION: the records in force are copied with their sequence to the append point; then the sector is erased. -/
def execNvCompaction (s : State) : Out3 :=
  .next (
    if s.nv.phase = .ready ∧ s.holdupOk = true ∧ s.nvErased < 4 then
      match s.nvOldest with
      | some k => (((s.nvSector k).recs.filter fun r => s.nvInForce r).foldl (fun s r => s.nvAppend r) s).nvErase (.record k)
      | none => s
    else s)

/-- NV_SCRUB: `found` gives the records that read with corrected granules (how many, in qual) or whose code fails (255).
`base` counts corrected granules of counter base records. -/
def execNvScrub (found : List (Nat × Nat × Nat)) (base : Nat) (s : State) : Out3 :=
  .next (
    if s.nv.phase = .ready ∧ s.holdupOk = true ∧ s.nv.lastScrub + msTicks 3600000 * s.fget Adr.nvCfg 7 0 ≤ s.now then
      let s := s.count Adr.nvScrub 15 0 base
      let r := found.foldl (fun (a : Nat × State) f =>
        let s := a.2
        match (s.nvSector f.1).recs[f.2.1]? with
        | some r =>
          if s.nvInForce r ∧ f.2.2 ≠ 0 then
            let s := if f.2.2 < 255 then s.count Adr.nvScrub 15 0 f.2.2 else s
            let s := (s.nvAppend { r with data := (s.nvPage r.page).data }).nvVoid f.1 f.2.1
            let s := if f.2.2 = 255 then s.nvRaise 4 0x1004 [(20, 2, r.page), (24, 4, (s.nvPage r.page).seq)] else s
            (a.1 + 1, s.count Adr.nvScrub 31 16 1)
          else a
        | none => a) (0, s)
      let s := r.2.updNv fun n => { n with lastScrub := r.2.now }
      if r.1 = 0 then s else s.nvRaise 2 0x1002 [(24, 4, r.1)]
    else s)

/-! ## Recall (R456, R457, R462) -/

/-- A record as the recall scan reads it. -/
structure RecallRec where
  sector : Nat
  slot : Nat
  page : Nat
  seq : Nat
  data : NvData
  qual : Nat
  /-- physical append order -/
  order : Nat

/-- The committed records of the sectors that hold live records. -/
def State.recallRecs (s : State) (f : NvFound) : List RecallRec :=
  (s.nv.sectors.filter fun e => e.2.seq ≠ 0 ∧ e.2.retired = false ∧ f.bad.contains e.1 = false).flatMap fun e =>
    (e.2.recs.zipIdx.filter fun r => decide (r.1.commit = .committed)).map fun r =>
      let g := f.recs.find? fun g => g.sector == e.1 && g.slot == r.2
      { sector := e.1, slot := r.2, page := r.1.page, seq := r.1.seq,
        data := (match g with | some ⟨_, _, _, some l⟩ => NvData.ofBytes l | _ => r.1.data),
        qual := (match g with | some g => g.qual | none => 0), order := 16 * e.2.seq + r.2 }

/-- Two copies of one sequence: the copy kept, the one that loses, and whether EV_NV_TWIN is raised (R457). -/
def twin (a b : RecallRec) : RecallRec × RecallRec × Bool :=
  let late := if a.order < b.order then (b, a) else (a, b)
  if 2 ≤ a.qual then (b, a, false)
  else if 2 ≤ b.qual then (a, b, false)
  else if a.data = b.data then (late.1, late.2, false)
  else if a.qual = 0 ∧ b.qual ≠ 0 then (a, b, false)
  else if b.qual = 0 ∧ a.qual ≠ 0 then (b, a, false)
  else (late.1, late.2, true)

/-- What the scan has gathered: per page the copy kept and whether a newer record was lost; twin pairs, losing copies. -/
structure Gather where
  keep : List (Nat × RecallRec)
  lost : List Nat
  twins : Nat
  lose : List RecallRec
  raised : List RecallRec

/-- The largest sequence among records. -/
def topSeq (l : List RecallRec) : Nat := (l.map (·.seq)).foldl max 0

/-- Resolve one page: at most as many rounds as it has records. -/
def resolvePage (g : Gather) (page : Nat) : Nat → List RecallRec → Gather
  | 0, _ => g
  | n + 1, l =>
    let q := topSeq l
    match l.filter fun r => r.seq == q with
    | [] => g
    | a :: rest =>
      let m := rest.foldl (fun (m : RecallRec × Gather) b =>
        let t := twin m.1 b
        (t.1, { m.2 with twins := m.2.twins + 1, lose := t.2.1 :: m.2.lose, raised := (if t.2.2 then m.2.raised ++ [t.1] else m.2.raised) })) (a, g)
      if m.1.qual < 2 then { m.2 with keep := m.2.keep ++ [(page, m.1)] }
      else resolvePage { m.2 with lost := m.2.lost ++ [page] } page n (l.filter fun r => r.seq != q)

/-- RECALL_SCAN: the flash is read, twins and counters resolve, the mirror loads. -/
def execRecallScan (f : NvFound) (s : State) : Out3 :=
  .next (
    if s.nv.phase = .recall ∧ s.nv.scanned = none then
      let rs := s.recallRecs f
      let g := (List.range 1024).foldl (fun g p =>
        let l := rs.filter fun r => r.page == p
        if l.isEmpty then g else resolvePage g p l.length l) ⟨[], [], 0, [], []⟩
      let s := g.keep.foldl (fun s e => s.setNvPage e.1 { data := e.2.data, seq := e.2.seq }) s
      let s := s.updNv fun n =>
        { n with scanned := some g.twins, seq := max n.seq (topSeq rs), voids := g.lose.map fun r => (r.sector, r.slot),
                 openAt := n.openAt.filter fun k => !f.bad.contains k }
      let s := g.raised.foldl (fun s r => s.nvRaise 0 0x1000 [(20, 2, r.page), (24, 4, r.seq)]) s
      let s := g.lost.eraseDups.foldl (fun s p => s.nvRaise 4 0x1004 [(20, 2, p), (24, 4, (s.nvPage p).seq)]) s
      let s := s.nv.torn.foldl (fun s c =>
        let x := s.ctr c
        let k := (f.cells.find? fun e => e.1 == c).elim 0 (·.2)
        let y := if x.full then
            (if k = 0 then { x with otherErased := false } else if k = 1 then x.opened 0 else x.opened 1)
          else { x with used := x.used + 1, good := x.good + (if 2 ≤ k then 1 else 0) }
        s.setCtr c y) s
      let s := f.bad.foldl (fun s k => s.nvErase (.record k)) s
      let s := (s.nv.ctrs.filter fun e => !e.2.otherErased && e.2.retired == 0).foldl (fun s e => s.nvErase (.counter e.1)) s
      s.updNv fun n => { n with torn := [] }
    else s)

/-! ## Starting programs -/

/-- A program joins the flash's work; in FAULT none starts (R464). -/
def State.nvQueue (s : State) (j : NvJob) : State :=
  if s.nv.phase = .fault then s else s.updNv fun n => { n with jobs := n.jobs ++ [j] }

/-- The last write to a page that has not been acknowledged. -/
def State.nvPending (s : State) (p : Nat) : Option NvData :=
  (s.nv.jobs.filterMap fun j => match j with | .page q d _ => if q = p then some d else none | _ => none).getLast?

/-- A page's bytes with every write started so far. -/
def State.nvBytes (s : State) (p : Nat) : List Byte :=
  let x := match s.nvPending p with | some d => { s.nvPage p with data := d } | none => s.nvPage p
  (List.range 256).map fun i => x.byte p i

/-- Merge data into a page from offset `o`, wrapping inside it (R450). -/
def nvMerge (page data : List Byte) (o : Nat) : List Byte :=
  data.zipIdx.foldl (fun l e => l.set ((o + e.2) % 256) e.1) page

/-- A write of a page that has never been written may be refused for space (R465). -/
def State.nvNoSpace (s : State) (p : Nat) : Bool :=
  decide ((s.nvPage p).data = .blank) && (s.nvPending p).isNone && !s.nvAdmits

/-- What the program in progress ends with: who waited, whether it is acknowledged, and its value. -/
abbrev NvResult := NvWho × Bool × Nat

/-- The first page program ends; `kind` is the failure's code in EV_NV_FAIL (R453, R464). -/
def State.nvPageEnd (s : State) (ok : Bool) (kind : Nat) : Option NvResult × State :=
  match s.nv.jobs with
  | .page p d who :: rest =>
    if s.holdupOk then
      let s := s.updNv fun n => { n with jobs := rest }
      match s.nvNextSlot with
      | none => (some (who, false, 0), s.nvFail kind p 0)
      | some (k, i) =>
        if ok then
          let q := s.nv.seq + 1
          let s := (s.nvAppend { page := p, seq := q, data := d, commit := .committed }).updNv fun n => { n with seq := q }
          (some (who, true, q), (s.setNvPage p { data := d, seq := q }).nvKick)
        else
          let s := s.nvAppend { page := p, seq := s.nv.seq, data := d, commit := .erased }
          (some (who, false, 0), s.nvFail kind p (recOffset k i))
    else (none, s)
  | _ => (none, s)

/-- The first cell program ends (R460, R461): a failed cell is spent, and the next one is tried, three in all. -/
def State.nvCellEnd (s : State) (ok : Bool) (kind : Nat) : Option NvResult × State :=
  match s.nv.jobs with
  | .cell c tries who :: rest =>
    let x := s.ctr c
    if s.holdupOk && !(x.full && !x.otherErased) then
      if ok then
        let y := if x.full then x.opened 1 else { x with used := x.used + 1, good := x.good + 1 }
        let s := (s.setCtr c y).updNv fun n => { n with jobs := rest }
        (some (who, true, y.value), if x.full then s.nvErase (.counter c) else s)
      else
        let s := if x.full then (s.setCtr c { x with otherErased := false }).nvErase (.counter c)
          else s.setCtr c { x with used := x.used + 1 }
        let s := s.nvFail kind c (cellOffset c (if x.full then 1 - x.cur else x.cur) (if x.full then 0 else x.used))
        if tries + 1 < 3 then (none, s.updNv fun n => { n with jobs := .cell c (tries + 1) who :: rest })
        else (some (who, false, 0), s.updNv fun n => { n with jobs := rest })
    else (none, s)
  | _ => (none, s)

/-! ## Descriptors (R466 to R469) -/

/-- A page, offset and length out of range. -/
def nvRangeBad (d : List Byte) : Bool := decide (1023 < u16 d 8 ∨ u16 d 12 = 0 ∨ 256 < u16 d 12)

/-- OP_NV_READ. `ok` says whether the write of the host buffer succeeds. -/
def execOpNvRead (n : Fin 64) (ok : Bool) (s : State) : Out3 :=
  .next (s.runOp n 0x70 (fun _ => true) fun j s =>
    let p := u16 j.d 8
    let len := u16 j.d 12
    match firstFail [(nvRangeBad j.d || ubit j.d 11 0, csBadParam), (decide (s.nv.phase = .recall), csRecall), (!ok, csDmaErr)] with
    | some c => s.complete j c 0
    | none =>
      let x := s.nvPage p
      let bs := (List.range len).map fun i => x.byte p ((u8 j.d 10 + i) % 256)
      (s.hostWrite (u64 j.d 16) bs).complete j csOk (BitVec.ofNat 64 (x.shownSeq % 4294967296 + 4294967296 * len)))

/-- OP_NV_WRITE. `data` is the host buffer as the DMA read it, none where the read failed. -/
def execOpNvWrite (n : Fin 64) (data : Option (List Byte)) (s : State) : Out3 :=
  .next (s.runOp n 0x71 (fun _ => true) fun j s =>
    let p := u16 j.d 8
    let differs := ubit j.d 11 0 && ((s.nvPending p).isSome || decide ((s.nvPage p).shownSeq ≠ u32 j.d 24))
    match firstFail [(nvRangeBad j.d, csBadParam), (decide (256 ≤ p) && !j.priv, csPriv),
                     (decide (896 ≤ p) || differs || decide (s.nv.phase = .fault), csState),
                     (decide (s.nv.phase = .recall), csRecall), (data.isNone, csDmaErr), (s.nvNoSpace p, csNoSpace),
                     (!s.holdupOk, csHoldup)] with
    | some c => s.complete j c 0
    | none =>
      let l := nvMerge (s.nvBytes p) (dmaFit (data.getD []) (u16 j.d 12)) (u8 j.d 10)
      s.nvQueue (.page p (NvData.ofBytes l) (.desc j.ring j.stamp)))

/-- The checks that both actions of OP_NV_COUNT share. -/
def State.countCheck (s : State) (j : Job) (incr : Bool) : Option Nat :=
  let c := u8 j.d 8
  firstFail [(decide (63 < c ∨ 1 < u8 j.d 9), csBadParam), (decide (32 ≤ c) && !j.priv, csPriv),
             (incr && decide (s.nv.phase = .fault), csState), (decide (s.nv.phase = .recall), csRecall),
             (incr && !s.holdupOk, csHoldup)]

/-- NV_COUNT_READ, action 0; an action out of range is refused here. -/
def execNvCountRead (n : Fin 64) (s : State) : Out3 :=
  .next (s.runOp n 0x72 (fun d => u8 d 9 ≠ 1) fun j s =>
    match s.countCheck j false with
    | some c => s.complete j c 0
    | none => s.complete j csOk (BitVec.ofNat 64 (s.ctrValue (u8 j.d 8))))

/-- NV_COUNT_INCREMENT: it completes when its cell is acknowledged. -/
def execNvCountIncrement (n : Fin 64) (s : State) : Out3 :=
  .next (s.runOp n 0x72 (fun d => u8 d 9 == 1) fun j s =>
    match s.countCheck j true with
    | some c => s.complete j c 0
    | none => s.nvQueue (.cell (u8 j.d 8) 0 (.desc j.ring j.stamp)))

end Sys2Proof.Machine
end

