-- ==== Sys2Proof/Machine/Cocoon.lean ====
section
/-!
DEFINITION. Machine/Cocoon.lean: key slots and OP_KEY, attestation, privileged rings (R419 to R434).
An operation that takes time starts here and ends at KEY_OPERATION_END (NvEnd.lean).
-/
namespace Sys2Proof.Machine

def State.key (s : State) (n : Nat) : Option Key := Tab.get (fun _ => none) s.coc.slots n
def State.setKey (s : State) (n : Nat) (k : Option Key) : State :=
  s.updCoc fun c => { c with slots := Tab.set (fun _ => none) c.slots n k }

/-- Keyless: without its root, or with an identity that fails its check (R419, R540). -/
def State.keyless (s : State) : Bool := s.coc.root.isNone || !Config.identityOk

/-- An event of the cocoon (R445). -/
def State.cocRaise (s : State) (bit code : Nat) (d : List (Nat × Nat × Nat)) : State :=
  s.raise Adr.cocCause Adr.cocMask bit 283 code d

/-- The always-on count (R442). -/
def State.aon (s : State) : Nat := (s.coc.aonBase + s.now * 32768 / 500000000) % 281474976710656

/-- Bytes from the true random generator. -/
def State.draw (s : State) (n : Nat) : List Byte × State :=
  ((List.range n).map fun i => Config.random (s.coc.drawn + i), s.updCoc fun c => { c with drawn := c.drawn + n })

/-! ## Counted keys (R425) -/

/-- Increments of a counter that wait for their acknowledgement. -/
def State.cellsWaiting (s : State) (c : Nat) : Nat :=
  (s.nv.jobs.filter fun j => match j with | .cell k _ _ => k == c | _ => false).length

/-- Uses so far. -/
def State.keyUses (s : State) (k : Key) : Nat :=
  if !k.counted then 0 else if k.ephemeral then k.used else s.ctrValue k.counter - k.base

/-- The count has reached the limit, uses that are being counted included. -/
def State.keySpent (s : State) (k : Key) : Bool :=
  k.counted && decide (k.limit ≤ s.keyUses k + if k.ephemeral then 0 else s.cellsWaiting k.counter)

/-- The lowest wear counter of 32 to 47 that no key holds or is about to hold. -/
def State.freeKeyCounter (s : State) : Option Nat :=
  let held := fun (k : Key) (c : Nat) => k.counted && !k.ephemeral && k.counter == c
  (List.range 16).findSome? fun i =>
    let c := 32 + i
    if (s.coc.slots.any fun e => match e.2 with | some k => held k c | none => false) ||
       (s.coc.ops.any fun o => match o.key with | some k => held k c | none => false) then none else some c

/-! ## The fields of OP_KEY (R426 to R428) -/

def kSub (d : List Byte) : Nat := u8 d 8
def kSlot (d : List Byte) : Nat := u8 d 9
def kUse (d : List Byte) : Nat := u8 d 12

/-- A subcode that creates a key. -/
def kCreates (d : List Byte) : Bool := kSub d == 1 || kSub d == 2 || kSub d == 3

/-- The uses that a type may carry (R422). -/
def usesOf (type : Nat) : Nat := if type = 1 then 0x18 else if type = 2 then 0x24 else if type = 3 then 0x43 else 0x82

/-- Some bit of `m` is set in `v`. -/
def anyBit (v m : Nat) : Bool := (List.range 8).any fun i => bits v i i == 1 && bits m i i == 1

/-- Input bytes that a subcode needs: least and most. -/
def kIn (d : List Byte) : Nat × Nat :=
  match kSub d with
  | 0x02 => (96, 4294967295)
  | 0x03 => (1, 64)
  | 0x11 => (48, 4294967295)
  | 0x12 => (144, 4294967295)
  | 0x13 => (0, 16777216)
  | 0x14 => (12, 16777228)
  | 0x15 => (28, 16777244)
  | 0x16 => (0, 16777216)
  | 0x17 => (32, 4294967295)
  | 0x19 => (96, 4294967295)
  | 0x20 => (96, 4294967295)
  | _ => (0, 0)

/-- Input bytes that are read. -/
def kInLen (d : List Byte) : Nat :=
  match kSub d with
  | 0x02 => 96 | 0x11 => 48 | 0x12 => 144 | 0x17 => 32 | 0x19 => 96 | 0x20 => 96
  | _ => u32 d 20

/-- Output bytes of a subcode but INFO; 0 for none. -/
def kOut (d : List Byte) : Nat :=
  match kSub d with
  | 0x01 => if u8 d 11 = 3 then 96 else 0
  | 0x11 => 96
  | 0x13 => 48
  | 0x14 => u32 d 20 + 4
  | 0x15 => u32 d 20 - 28
  | 0x16 => 48
  | 0x17 => 288
  | 0x18 => 48
  | 0x21 => 96
  | _ => 0

/-- The output buffer is used, be it for no byte. -/
def kHasOut (d : List Byte) : Bool := kOut d != 0 || kSub d == 0x10 || kSub d == 0x15

/-- The input buffer is used. -/
def kHasIn (d : List Byte) : Bool := (kIn d).2 != 0

/-- Bytes that INFO writes: the slot record, the public key of an ECDSA key, for slot 0 the certificate (R427, R429). -/
def State.infoBytes (s : State) (n : Nat) (k : Key) : List Byte :=
  let own := s.coc.original && Config.certPresent
  let cert := if n = 0 ∧ own = true then take (min 1024 Config.certificateLen) Config.certificate else []
  take 64 (Config.slotRecord [n, k.type, k.use, k.owner, k.origin, b2n k.ephemeral, b2n k.counted, b2n k.expired, k.limit, s.keyUses k, cert.length])
    ++ k.pub ++ cert

/-- Order 1: a field out of range, or one that the subcode does not use and is not 0. -/
def State.keyFieldsBad (s : State) (d : List Byte) : Bool :=
  let sub := kSub d
  let hasSlot := !([0x16, 0x18, 0x19, 0x20, 0x21].contains sub)
  let known := [0x01, 0x02, 0x03, 0x04, 0x05, 0x10, 0x11, 0x12, 0x13, 0x14, 0x15, 0x16, 0x17, 0x18, 0x19, 0x20, 0x21].contains sub
  let type := u8 d 11
  let counted := ubit d 13 1
  let create := kCreates d
  let rng := kIn d
  let key := s.key (kSlot d)
  let infoLen := match key with | some k => (s.infoBytes (kSlot d) k).length | none => 0
  !known || decide (63 < kSlot d) || (!hasSlot && kSlot d != 0) || decide (63 < u8 d 10) || (sub != 3 && u8 d 10 != 0) ||
  (if create then
     (if sub = 2 then type != 4 else !([1, 2, 3].contains type)) || anyBit (kUse d) (255 - usesOf type) ||
     (bits (kUse d) 0 0 == 1 && bits (kUse d) 6 6 == 1) || (counted && anyBit (kUse d) 0xC0) ||
     (counted && u32 d 16 == 0) || (!counted && u32 d 16 != 0)
   else type != 0 || kUse d != 0 || ubit d 13 0 || counted || (sub != 5 && u32 d 16 != 0) || (sub == 5 && u32 d 16 == 0)) ||
  (ubit d 13 2 && (sub != 4 || (match key with | some k => bits k.use 7 7 == 0 | none => false))) ||
  (if kHasIn d then decide (u32 d 20 < rng.1 ∨ rng.2 < u32 d 20) else u32 d 20 != 0 || u64 d 24 != 0) ||
  (if kHasOut d then decide (u32 d 32 < max (kOut d) (if sub = 0x10 then infoLen else 0)) else u32 d 32 != 0 || u64 d 40 != 0) ||
  (sub == 5 && match key with | some k => !k.counted || decide (k.limit < u32 d 16) | none => false)

/-- Order 2. -/
def State.keyPrivBad (s : State) (j : Job) : Bool :=
  ([1, 2, 3, 4, 5, 0x21].contains (kSub j.d) || (kSub j.d == 0x20 && s.coc.admin.isSome)) && !j.priv

/-- The slots that must hold a key, with whether their owner matters (orders 3 and 4). -/
def kNeeds (d : List Byte) : List (Nat × Bool) :=
  match kSub d with
  | 0x03 => [(u8 d 10, true)]
  | 0x04 | 0x05 | 0x11 | 0x12 | 0x13 | 0x14 | 0x15 => [(kSlot d, true)]
  | 0x10 | 0x17 => [(kSlot d, false)]
  | _ => []

/-- A key slot is in use, or an operation is about to fill it. -/
def State.slotTaken (s : State) (n : Nat) : Bool :=
  (s.key n).isSome || s.coc.ops.any fun o => o.opcode == 0x80 && kCreates o.desc && kSlot o.desc == n

/-- A head's dike is bound to the slot. -/
def State.slotBound (s : State) (n : Nat) : Bool := s.psn.dikes.any fun e => decide (e.2.slot = some n)

/-- Order 5. -/
def State.keyStateBad (s : State) (d : List Byte) : Bool :=
  let sub := kSub d
  (s.keyless && [0x01, 0x03, 0x04, 0x05, 0x11, 0x13, 0x14, 0x15, 0x17].contains sub) ||
  (kCreates d && (decide (kSlot d < 2) || s.slotTaken (kSlot d))) ||
  ((sub == 4 || sub == 5) && decide (kSlot d < 2)) || (sub == 4 && s.slotBound (kSlot d)) ||
  (sub == 0x21 && (!s.keyless || s.coc.live != 0)) || (sub == 0x18 && s.coc.lockedAt.isSome)

/-- The slot whose use counts, and the bit of that use (order 6). -/
def kUsed (d : List Byte) : Option (Nat × Nat) :=
  match kSub d with
  | 0x03 => some (u8 d 10, 5)
  | 0x11 => some (kSlot d, 0)
  | 0x12 => some (kSlot d, 1)
  | 0x13 => some (kSlot d, 2)
  | 0x14 => some (kSlot d, 3)
  | 0x15 => some (kSlot d, 4)
  | _ => none

/-- The key that an operation uses. -/
def State.usedKey (s : State) (d : List Byte) : Option Key :=
  match kUsed d with
  | some (n, _) => s.key n
  | none => none

/-- The operation needs the NV store (order 8). -/
def State.keyNeedsNv (s : State) (d : List Byte) : Bool :=
  (kCreates d && !ubit d 13 0) ||
  ((kSub d == 4 || kSub d == 5) && match s.key (kSlot d) with | some k => !k.ephemeral | none => false) || kSub d == 0x20 ||
  (match s.usedKey d with | some k => k.counted && !k.ephemeral | none => false)

/-- The checks of R428 up to order 8. -/
def State.keyCheck (s : State) (j : Job) : Option Nat :=
  let d := j.d
  let missing := (kNeeds d).any fun e => (s.key e.1).isNone
  let foreign := (kNeeds d).filterMap fun e =>
    match s.key e.1 with | some k => if e.2 && k.owner != j.owner && !j.priv then some k.owner else none | none => none
  let lacks := match kUsed d, s.usedKey d with
    | some (_, b), some k => bits k.use b b == 0 || k.expired || s.keySpent k
    | _, _ => false
  let needsNv := s.keyNeedsNv d
  firstFail [(s.keyFieldsBad d, csBadParam), (s.keyPrivBad j, csPriv), (missing, csNotFound), (!foreign.isEmpty, s.ownerCode (foreign.headD 0)),
             (s.keyStateBad d, csState), (lacks, csKeyLimit),
             (kCreates d && ubit d 13 1 && !ubit d 13 0 && s.freeKeyCounter.isNone, csNoResource),
             (needsNv && decide (s.nv.phase = .recall), csRecall), (needsNv && !s.holdupOk, csHoldup),
             (needsNv && decide (s.nv.phase = .fault), csNvFail)]

/-! ## Starting an operation -/

/-- The attributes of the key that a descriptor creates. -/
def State.newKey (s : State) (j : Job) : Key :=
  let d := j.d
  let c := s.freeKeyCounter.getD 0
  let kept := ubit d 13 1 && !ubit d 13 0
  { type := u8 d 11, use := kUse d, owner := j.owner, origin := (if kSub d = 1 then 1 else if kSub d = 3 then 2 else 3),
    ephemeral := ubit d 13 0, counted := ubit d 13 1, limit := u32 d 16, counter := (if kept then c else 0),
    base := (if kept then s.ctrValue c else 0), used := 0, secret := [], pub := [], expired := false }

/-- The operation of a descriptor. -/
def Job.keyOp (j : Job) (input : Option (List Byte)) (phase : KeyPhase) (key : Option Key) (digest : List Byte) : KeyOp :=
  { ring := j.ring, stamp := j.stamp, seq := j.seq, opcode := j.opcode, owner := j.owner, priv := j.priv, desc := j.d,
    input := input, phase := phase, key := key, store := none, digest := digest, grant := 0 }

def State.addOp (s : State) (o : KeyOp) : State := s.updCoc fun c => { c with ops := c.ops ++ [o] }
def State.dropOp (s : State) (o : KeyOp) : State :=
  s.updCoc fun c => { c with ops := c.ops.filter fun p => !(p.ring == o.ring && p.stamp == o.stamp) }
def State.opPhase (s : State) (o : KeyOp) (p : KeyPhase) : State :=
  s.updCoc fun c => { c with ops := c.ops.map fun q => if q.ring = o.ring ∧ q.stamp = o.stamp then { q with phase := p } else q }
def State.findOp (s : State) (ring stamp : Nat) : Option KeyOp := s.coc.ops.find? fun o => o.ring == ring && o.stamp == stamp

/-- An operation ends with a completion. -/
def State.opDone (s : State) (o : KeyOp) (status : Nat) (result : BitVec 64) : State :=
  (s.dropOp o).completeAt o.ring o.stamp status result

/-- The host input of an operation: nothing to read is read without fail. -/
def keyInput (d : List Byte) (data : Option (List Byte)) : Option (List Byte) :=
  if kInLen d = 0 ∨ kHasIn d = false then some [] else data.map fun l => dmaFit l (kInLen d)

/-- Start an operation that has passed its checks: the use of a counted key counts first (R425). -/
def State.keyBegin (s : State) (j : Job) (data : Option (List Byte)) (key : Option Key) (digest : List Byte) : State :=
  let input := keyInput j.d data
  match kUsed j.d, s.usedKey j.d with
  | some (n, _), some k =>
    if k.counted && !k.ephemeral then
      (s.addOp (j.keyOp input .counting key digest)).nvQueue (.cell k.counter 0 (.op j.ring j.stamp))
    else
      let s := if k.counted then s.setKey n (some { k with used := k.used + 1 }) else s
      if input.isNone then s.complete j csDmaErr 0 else s.addOp (j.keyOp input .running key digest)
  | _, _ => if input.isNone then s.complete j csDmaErr 0 else s.addOp (j.keyOp input .running key digest)

/-- A subcode's descriptor: checks, then the start. -/
def State.keyRun (s : State) (n sub : Nat) (data : Option (List Byte)) : State :=
  s.runOp n 0x80 (fun d => kSub d == sub) fun j s =>
    match s.keyCheck j with
    | some c => s.complete j c 0
    | none => s.keyBegin j data (if kCreates j.d then some (s.newKey j) else none) []

/-! ## Storing a key (R424) -/

/-- The page of wrapped slots of a slot, with what is pending on it, after slot `n` becomes `k`. -/
def State.keyPage (s : State) (n : Nat) (k : Option Key) : NvData :=
  let lo := n / 2 * 2
  let now := match s.nvPending (896 + n / 2) with
    | some (.keys l) => l
    | some _ => []
    | none => [lo, lo + 1].filterMap fun i =>
        match s.key i with | some k => if 2 ≤ i ∧ k.ephemeral = false then some (i, k) else none | none => none
  let rest := now.filter fun e => e.1 ≠ n
  let l := match k with | some k => rest ++ [(n, k)] | none => rest
  if l.isEmpty then .blank else .keys l

/-- A slot changes: at once for an ephemeral key, after its NV record for a persistent one. `res` is the result. -/
def State.keyStore (s : State) (o : KeyOp) (k : Option Key) (lasting : Bool) (res : BitVec 64) : State :=
  let n := kSlot o.desc
  if lasting then
    (s.updCoc fun c => { c with ops := c.ops.map fun q => if q.ring = o.ring ∧ q.stamp = o.stamp then { q with phase := .writing, key := k } else q }).nvQueue
      (.page (896 + n / 2) (s.keyPage n k) (.op o.ring o.stamp))
  else (s.setKey n k).opDone o csOk res

/-! ## The end of an operation -/

/-- Write an operation's output; a failed write ends it with CS_DMA_ERR. -/
def State.keyOutput (s : State) (o : KeyOp) (ok : Bool) (out : List Byte) (res : BitVec 64) : State :=
  if ok then (s.hostWrite (u64 o.desc 40) out).opDone o csOk res else s.opDone o csDmaErr 0

/-- The statement of R430. -/
def State.statement (s : State) (n : Nat) (k : Key) (nonce : List Byte) : List Byte :=
  let flags := 2 * b2n k.ephemeral + 4 * b2n k.counted + 8 * b2n k.expired
  leBytes 4 0x54415A49 ++ [1, BitVec.ofNat 8 n, BitVec.ofNat 8 k.type, BitVec.ofNat 8 k.use, BitVec.ofNat 8 k.origin, BitVec.ofNat 8 flags] ++
  leBytes 2 k.owner ++ leBytes 4 k.limit ++ moduleId ++ bytesAt nonce 0 32 ++ bytesAt k.pub 0 96 ++
  leBytes 4 (s.keyUses k) ++ leBytes 4 s.coc.breaches ++ List.replicate 24 0

/-- The message that an admin signs to unlock a ring (R432). -/
def unlockMessage (ring owner : Nat) (challenge : List Byte) : List Byte :=
  leBytes 4 0x4C555A49 ++ [BitVec.ofNat 8 ring, 0, 0, 0] ++ leBytes 2 owner ++ List.replicate 6 0 ++ moduleId ++
  bytesAt challenge 0 48 ++ List.replicate 16 0

/-- The outcome of a response (R432, R434). -/
def State.unlock (s : State) (o : KeyOp) (good : Bool) : State :=
  if good then
    let q := s.sq o.ring
    let s := if q.owner = o.owner ∧ q.state ≠ .disabled then s.setSq o.ring { q with priv := true } else s
    (s.updCoc fun c => { c with fails := 0, lockedAt := none }).opDone o csOk 0
  else
    let s := s.updCoc fun c => { c with fails := c.fails + 1, lockedAt := if 8 ≤ c.fails + 1 then some s.now else c.lockedAt }
    (s.cocRaise 2 0x0F03 [(20, 1, o.ring), (22, 2, o.owner)]).opDone o csAuth 0

/-- An OP_KEY operation finishes; `ok` says whether its output writes succeed. -/
def State.keyFinish (s : State) (o : KeyOp) (ok : Bool) : State :=
  let d := o.desc
  let inp := o.input.getD []
  let slotRes : BitVec 64 := BitVec.ofNat 64 (kSlot d)
  let used := (s.usedKey d)
  let secret := match used with | some k => k.secret | none => []
  let pub := match used with | some k => k.pub | none => []
  match kSub d, o.key with
  | 0x01, some k =>
    let r := s.draw (if k.type = 1 then 32 else 48)
    let sec := if k.type = 3 then scalar r.1 else r.1
    let k := { k with secret := sec, pub := (if k.type = 3 then publicKey sec else []) }
    if k.type = 3 && !ok then r.2.opDone o csDmaErr 0
    else
      let s := if k.type = 3 then r.2.hostWrite (u64 d 40) k.pub else r.2
      s.keyStore o (some k) (!k.ephemeral) slotRes
  | 0x02, some k =>
    if Config.onCurve inp then s.keyStore o (some { k with pub := inp }) (!k.ephemeral) slotRes else s.opDone o csBadParam 0
  | 0x03, some k =>
    let raw := derive secret (label "IZM2560 user" ++ inp) (if k.type = 1 then 32 else 48)
    let sec := if k.type = 3 then scalar raw else raw
    s.keyStore o (some { k with secret := sec, pub := (if k.type = 3 then publicKey sec else []) }) (!k.ephemeral) slotRes
  | 0x11, _ => s.keyOutput o ok (ecdsaSign secret inp) 0
  | 0x12, _ => s.opDone o (if Config.ecdsaVerify pub (bytesAt inp 0 48) (bytesAt inp 48 96) then csOk else csAuth) 0
  | 0x13, _ => s.keyOutput o ok (hmac384 secret inp) 0
  | 0x14, _ => s.keyOutput o ok (gcmSeal secret (inp.take 12) (inp.drop 12)) 0
  | 0x15, _ =>
    if Config.gcmAuth secret (inp.take 12) (inp.drop 12) then s.keyOutput o ok (gcmOpen secret (inp.take 12) (inp.drop 12)) 0
    else s.opDone o csAuth 0
  | 0x16, _ => s.keyOutput o ok (sha384 inp) 0
  | 0x17, _ =>
    match s.key (kSlot d), s.key 0 with
    | some k, some own =>
      let m := s.statement (kSlot d) k inp
      s.keyOutput o ok (m ++ ecdsaSign own.secret (sha384 m)) 0
    | _, _ => s.opDone o csNotFound 0
  | 0x19, _ =>
    s.unlock o (match s.coc.admin with | some a => !o.digest.isEmpty && Config.ecdsaVerify a o.digest inp | none => false)
  | 0x20, _ => (s.opPhase o .writing).nvQueue (.page 928 (.admin inp) (.op o.ring o.stamp))
  | 0x21, _ =>
    if !ok then s.opDone o csDmaErr 0
    else
      let r := s.draw 32
      let own := ownSlots r.1
      let s := r.2.updCoc fun c => { c with root := some r.1, original := false }
      let s := own.foldl (fun s e => s.setKey e.1 e.2) s
      let s := s.updPsn fun p => { p with stopped := false }
      (s.hostWrite (u64 d 40) (match s.key 0 with | some k => k.pub | none => [])).opDone o csOk 0
  | _, _ => s.opDone o csBadParam 0

/-- The count of a counted key is acknowledged or has failed (R425). -/
def State.keyCounted (s : State) (o : KeyOp) (ok : Bool) : State :=
  if !ok then s.opDone o csNvFail 0
  else if o.input.isNone then s.opDone o csDmaErr 0
  else s.opPhase o .running

/-- The NV record of an operation is acknowledged or has failed. -/
def State.keyStored (s : State) (o : KeyOp) (ok : Bool) : State :=
  if !ok then s.opDone o csNvFail 0
  else
    let n := kSlot o.desc
    match kSub o.desc with
    | 0x20 => (s.updCoc fun c => { c with admin := some (o.input.getD []) }).opDone o csOk 0
    | 0x04 => (s.setKey n none).opDone o csOk 0
    | 0x05 => (s.setKey n o.key).opDone o csOk (BitVec.ofNat 64 (match o.key with | some k => s.keyUses k | none => 0))
    | _ => (s.setKey n o.key).opDone o csOk (BitVec.ofNat 64 n)

/-! ## The subcodes (R427) -/

/-- KEY_GENERATE; a subcode out of range is refused here. -/
def execKeyGenerate (n : Fin 64) (s : State) : Out3 :=
  .next (s.runOp n 0x80 (fun d => !([0x02, 0x03, 0x04, 0x05, 0x10, 0x11, 0x12, 0x13, 0x14, 0x15, 0x16, 0x17, 0x18, 0x19, 0x20, 0x21].contains (kSub d)))
    fun j s =>
      match s.keyCheck j with
      | some c => s.complete j c 0
      | none => s.keyBegin j none (some (s.newKey j)) [])

def execKeyImport (n : Fin 64) (data : Option (List Byte)) (s : State) : Out3 := .next (s.keyRun n 0x02 data)
def execKeyDerive (n : Fin 64) (data : Option (List Byte)) (s : State) : Out3 := .next (s.keyRun n 0x03 data)

/-- KEY_DELETE: with release, the tie of an owner's counter ends (R284). -/
def execKeyDelete (n : Fin 64) (s : State) : Out3 :=
  .next (s.runOp n 0x80 (fun d => kSub d == 0x04) fun j s =>
    match s.keyCheck j with
    | some c => s.complete j c 0
    | none =>
      let k := kSlot j.d
      match s.key k with
      | none => s.complete j csNotFound 0
      | some key =>
        let h := sha384 key.pub
        let s := if ubit j.d 13 2 then
            (let t := s.psn.ties.filter fun e => e.2 ≠ h
             (s.updPsn fun p => { p with ties := t }).nvQueue (.page 929 (if t.isEmpty then .blank else .ties t) .module))
          else s
        if key.ephemeral then (s.setKey k none).complete j csOk 0
        else (s.addOp (j.keyOp (some []) .writing none [])).nvQueue (.page (896 + k / 2) (s.keyPage k none) (.op j.ring j.stamp)))

/-- KEY_LIMIT. -/
def execKeyLimit (n : Fin 64) (s : State) : Out3 :=
  .next (s.runOp n 0x80 (fun d => kSub d == 0x05) fun j s =>
    match s.keyCheck j with
    | some c => s.complete j c 0
    | none =>
      let k := kSlot j.d
      match s.key k with
      | none => s.complete j csNotFound 0
      | some key =>
        let key := { key with limit := u32 j.d 16 }
        if key.ephemeral then (s.setKey k (some key)).complete j csOk (BitVec.ofNat 64 (s.keyUses key))
        else (s.addOp (j.keyOp (some []) .writing (some key) [])).nvQueue (.page (896 + k / 2) (s.keyPage k (some key)) (.op j.ring j.stamp)))

/-- KEY_INFO. -/
def execKeyInfo (n : Fin 64) (ok : Bool) (s : State) : Out3 :=
  .next (s.runOp n 0x80 (fun d => kSub d == 0x10) fun j s =>
    match s.keyCheck j with
    | some c => s.complete j c 0
    | none =>
      match s.key (kSlot j.d) with
      | none => s.complete j csNotFound 0
      | some k =>
        let out := s.infoBytes (kSlot j.d) k
        if ok then (s.hostWrite (u64 j.d 40) out).complete j csOk (BitVec.ofNat 64 out.length) else s.complete j csDmaErr 0)

def execKeySign (n : Fin 64) (data : Option (List Byte)) (s : State) : Out3 := .next (s.keyRun n 0x11 data)
def execKeyVerify (n : Fin 64) (data : Option (List Byte)) (s : State) : Out3 := .next (s.keyRun n 0x12 data)
def execKeyMac (n : Fin 64) (data : Option (List Byte)) (s : State) : Out3 := .next (s.keyRun n 0x13 data)
def execKeyEncrypt (n : Fin 64) (data : Option (List Byte)) (s : State) : Out3 := .next (s.keyRun n 0x14 data)
def execKeyDecrypt (n : Fin 64) (data : Option (List Byte)) (s : State) : Out3 := .next (s.keyRun n 0x15 data)
def execKeyHash (n : Fin 64) (data : Option (List Byte)) (s : State) : Out3 := .next (s.keyRun n 0x16 data)
def execKeyAttest (n : Fin 64) (data : Option (List Byte)) (s : State) : Out3 := .next (s.keyRun n 0x17 data)

/-- KEY_CHALLENGE (R432). -/
def execKeyChallenge (n : Fin 64) (ok : Bool) (s : State) : Out3 :=
  .next (s.runOp n 0x80 (fun d => kSub d == 0x18) fun j s =>
    match s.keyCheck j with
    | some c => s.complete j c 0
    | none =>
      if !ok then s.complete j csDmaErr 0
      else
        let r := s.draw 48
        let c : Challenge := { ring := j.ring, owner := j.owner, bytes := r.1, since := s.now }
        let s := r.2.updCoc fun x => { x with challenges := (x.challenges.filter fun e => e.ring ≠ j.ring) ++ [c] }
        (s.hostWrite (u64 j.d 40) r.1).complete j csOk 0)

/-- KEY_RESPOND: the challenge is consumed; the signature is verified at KEY_OPERATION_END (R432). -/
def execKeyRespond (n : Fin 64) (data : Option (List Byte)) (s : State) : Out3 :=
  .next (s.runOp n 0x80 (fun d => kSub d == 0x19) fun j s =>
    match s.keyCheck j with
    | some c => s.complete j c 0
    | none =>
      let digest := match s.coc.challenges.find? fun e => e.ring == j.ring with
        | some c => if c.owner = j.owner ∧ s.now < c.since + msTicks 10000 then sha384 (unlockMessage j.ring j.owner c.bytes) else []
        | none => []
      let s := s.updCoc fun c => { c with challenges := c.challenges.filter fun e => e.ring ≠ j.ring }
      s.keyBegin j data none digest)

/-- CHALLENGE_EXPIRY: 10 s have passed. -/
def execChallengeExpiry (n : Fin 64) (s : State) : Out3 :=
  .next (s.updCoc fun c =>
    { c with challenges := c.challenges.filter fun e => !(e.ring == n.val && decide (e.since + msTicks 10000 ≤ s.now)) })

/-- UNLOCK_LOCKOUT_EXPIRY: 60 s have passed. -/
def execUnlockLockoutExpiry (s : State) : Out3 :=
  .next (match s.coc.lockedAt with
    | some t => if t + msTicks 60000 ≤ s.now then s.updCoc fun c => { c with lockedAt := none } else s
    | none => s)

/-- KEY_ADMIN_SET (R431): it completes once page 928 is written. -/
def execKeyAdminSet (n : Fin 64) (data : Option (List Byte)) (s : State) : Out3 := .next (s.keyRun n 0x20 data)

/-- KEY_RECOMMISSION (R441). -/
def execKeyRecommission (n : Fin 64) (s : State) : Out3 := .next (s.keyRun n 0x21 none)

end Sys2Proof.Machine
end

