-- ==== Sys2Proof/Machine/Seals.lean ====
section
/-!
DEFINITION. Machine/Seals.lean: pin sense, as-run records, Dolcia seals and the as-run log (R294 to R306).
-/
namespace Sys2Proof.Machine

/-! ## The as-run log (R303) -/

/-- An entry: header, payload, padding to `len` bytes (log 27 for what the spec leaves open). -/
def logEntry (type h len : Nat) (seq : BitVec 64) (payload : List Byte) : List Byte :=
  bytesAt ([BitVec.ofNat 8 type, 0] ++ leBytes 2 h ++ leBytes 4 len ++ leBytes 8 seq.toNat ++ payload) 0 len

/-- Free bytes of the log ring. -/
def State.logFree (s : State) : Nat := 2 ^ s.psn.log.ringLog2 - (s.psn.log.tail - BitVec.ofNat 32 (s.rd Adr.logHead)).toNat

/-- Bytes to the end of the ring that an entry of `len` bytes needs filled first. -/
def Log.pad (g : Log) (len : Nat) : Nat :=
  let size := 2 ^ g.ringLog2
  let off := g.tail.toNat % size
  if size - off < len then size - off else 0

/-- Put an entry that fits. -/
def State.logPut (s : State) (type h len : Nat) (payload : List Byte) : State :=
  let g := s.psn.log
  let pad := g.pad len
  let size := 2 ^ g.ringLog2
  let s := if pad = 0 then s else
    (s.hostWrite (g.addr.toNat + g.tail.toNat % size) (logEntry 3 0 16 g.seq [])).updPsn fun p =>
      { p with log := { g with tail := g.tail + BitVec.ofNat 32 pad, seq := g.seq + 1 } }
  let g := s.psn.log
  (s.hostWrite (g.addr.toNat + g.tail.toNat % size) (logEntry type h len g.seq payload)).updPsn fun p =>
    { p with log := { g with tail := g.tail + BitVec.ofNat 32 len, seq := g.seq + 1 } }

/-- An entry goes to an open log; one that does not fit is lost, as are those after it until a GAP is written. -/
def State.logWrite (s : State) (type h len : Nat) (payload : List Byte) (frame index : Nat) : State :=
  let g := s.psn.log
  if !g.isOpen then s
  else if g.lost ≠ 0 ∨ s.logFree < g.pad len + len then
    let s := s.updPsn fun p => { p with log := { g with lost := g.lost + 1 } }
    if g.lost = 0 then s.occur 308 0x0A02 [(20, 2, h), (24, 4, index), (28, 4, frame)] else s
  else
    let s := s.logPut type h len payload
    if type = 2 then s.interrupt g.vector else s

/-- LOG_HEAD_WRITE: space returns, and a GAP entry reports what was lost. -/
def State.writeLogHead (s : State) (v : Nat) : State :=
  let s := s.wr Adr.logHead v
  let g := s.psn.log
  if g.isOpen && g.lost != 0 && decide (g.pad 64 + 64 ≤ s.logFree) then
    (s.logPut 4 0 64 (leBytes 8 g.lost)).updPsn fun p => { p with log := { p.log with lost := 0 } }
  else s

def execLogHeadWrite (v : BitVec 32) (s : State) : Out3 := .next (s.writeLogHead v.toNat)

/-! ## Seals (R302) -/

/-- The seal key, while it can sign. -/
def State.sealKey (s : State) : Option Key :=
  match s.key (s.fget Adr.sealCtl 23 16) with
  | some k => if k.type = 3 ∧ bits k.use 6 6 = 1 ∧ k.expired = false ∧ s.keyless = false then some k else none
  | none => none

/-- Seals can be signed now. -/
def State.sealing (s : State) : Bool := s.sealKey.isSome && !s.psn.stopped

/-- The seal interval in ticks. -/
def State.sealInterval (s : State) : Nat := msTicks (s.fget Adr.sealCtl 15 0)

/-- The 128-byte seal body. -/
def State.sealBody (s : State) (h : Nat) (c : Chain) : List Byte :=
  [1, BitVec.ofNat 8 (b2n c.sealResumed)] ++ leBytes 2 h ++ leBytes 4 c.since ++ leBytes 8 c.lastFrame ++ leBytes 8 c.index ++
  leBytes 4 s.phcNs ++ leBytes 6 s.phcSec ++ [0, 0] ++ moduleId ++ bytesAt c.chain 0 48 ++ List.replicate 28 0

/-- The first head whose seal is due and that runs. -/
def State.sealFirst (s : State) : Option Nat := s.psn.queue.find? fun h => decide ((s.head h).run ≠ .stopped)

/-- A record of head `h` has been appended: its seal starts when it is first in the queue and the signer is free. -/
def State.sealTrigger (s : State) (h : Nat) : State :=
  if s.psn.signing.isNone && s.fwUp && s.sealing && decide (s.sealFirst = some h) then
    let c := s.chain h
    let g : Signing := { head := h, body := s.sealBody h c, index := c.index, frame := c.lastFrame, nows := c.nows }
    let s := s.setChain h
      { c with since := 0, index := c.index + 1, due := none, nows := [], sealResumed := false, lastAt := s.now }
    s.updPsn fun p => { p with queue := p.queue.filter fun x => x ≠ h, signing := some g }
  else s

/-- A seal of head `h` falls due. -/
def State.sealDue (s : State) (h : Nat) : State :=
  let s := s.updChain h fun c => { c with due := (match c.due with | some t => some t | none => some s.now) }
  if s.psn.queue.contains h then s else s.updPsn fun p => { p with queue := p.queue ++ [h] }

/-- SEAL_DUE: interval_ms has passed since the start of the head or the signing of its previous seal. -/
def execSealDue (h : Fin 256) (s : State) : Out3 :=
  .next (
    if decide ((s.head h).run ≠ .stopped) && s.sealing && decide ((s.chain h).lastAt + s.sealInterval ≤ s.now) then s.sealDue h
    else s)

/-- SEAL_SIGNED: the cocoon has signed. -/
def execSealSigned (s : State) : Out3 :=
  .next (
    match s.psn.signing, s.sealKey with
    | some g, some k =>
      let whole := g.body ++ ecdsaSign k.secret (sha384 g.body)
      let s := s.updPsn fun p => { p with signing := none }
      let s := s.updChain g.head fun c => { c with latest := some whole, unsaved := c.unsaved + 1, sealedFrame := g.frame }
      let s := s.occur 308 0x0A00 [(20, 2, g.head), (24, 4, g.index), (28, 4, g.frame)]
      let s := s.logWrite 2 g.head 256 whole g.frame g.index
      let s := g.nows.foldl (fun s n => s.completeAt n.1 n.2 csOk (BitVec.ofNat 64 (g.index % 4294967296))) s
      if 60 * s.fget Adr.sealCtl 31 24 ≤ (s.chain g.head).unsaved then s.nvTouch (768 + g.head / 4) else s
    | _, _ => s)

/-- A head stops: its seal is due no more, and a NOW that waits for its next record is refused (log 28). -/
def State.sealHeadStop (s : State) (h : Nat) : State :=
  if (s.head h).run = .stopped then
    let c := s.chain h
    let s := if c.nows.isEmpty && c.due.isNone then s else s.setChain h { c with due := none, nows := [] }
    let s := if s.psn.queue.contains h then s.updPsn fun p => { p with queue := p.queue.filter fun x => x ≠ h } else s
    c.nows.foldl (fun s n => s.completeAt n.1 n.2 csState 0) s
  else s

/-! ## As-run records (R300, R301) -/

/-- The 144 bytes of a record. -/
def Rec.bytes (r : Rec) (h flags : Nat) : List Byte :=
  [1, BitVec.ofNat 8 flags] ++ leBytes 2 h ++ leBytes 4 r.instar.toNat ++ leBytes 8 r.frame ++ leBytes 4 r.flipNs ++ leBytes 6 r.flipSec ++
  [BitVec.ofNat 8 r.spots, 0] ++ ((List.range 8).flatMap fun k => leBytes 2 (r.sources.getD k 0xFFFF)) ++
  leBytes 3 ((List.range 8).map fun k => r.classes.getD k 0 * 8 ^ k).sum ++ [0] ++ bytesAt r.dike 0 16 ++ bytesAt r.hashes 0 64 ++
  leBytes 2 (r.primary.getD 0xFFFF) ++ leBytes 2 r.fed ++ leBytes 2 r.mismatched ++ List.replicate 10 0

/-- Append one record to the chain of its head. -/
def State.appendRec (s : State) (h : Nat) (r : Rec) : State :=
  let c := s.chain h
  let flags := b2n (!s.sealing) + r.flags + 8 * b2n (r.mismatched != 0) + 16 * b2n c.resumed
  let bs := r.bytes h flags
  let s := s.setChain h
    { c with chain := sha384 (bytesAt c.chain 0 48 ++ bs), since := c.since + 1, lastFrame := r.frame, resumed := false }
  (s.logWrite 1 h 192 bs r.frame c.index).sealTrigger h

/-- Append every record whose judgements have all ended, in frame order. `n` bounds the rounds. -/
def State.appendReady (s : State) (h : Nat) : Nat → State
  | 0 => s
  | n + 1 =>
    match (s.chain h).recs with
    | r :: rest =>
      if r.waiting.isEmpty then ((s.updChain h fun c => { c with recs := rest }).appendRec h r).appendReady h n else s
    | [] => s

/-- Append what is ready on a head. -/
def State.appendAll (s : State) (h : Nat) : State := s.appendReady h (s.chain h).recs.length

/-! ## Pin sense (R294 to R299) -/

/-- Judgements of a destination that can no longer be made: their frames are unchecked (R298). -/
def State.uncheckDest (s : State) (d : Nat) : State :=
  let x := s.psnDest d
  let s := x.judging.foldl (fun s g =>
    let s := s.updChain g.head fun c =>
      { c with recs := c.recs.map fun r => if r.frame = g.frame then { r with waiting := r.waiting.filter fun e => e ≠ d } else r }
    s.ledAdd 6 g.head 3 1) s
  let s := if x.judging.isEmpty then s else (s.setPsnDest d { x with judging := [] }).updDest d fun y => { y with judged := false }
  (x.judging.map (·.head)).eraseDups.foldl (fun s h => s.appendAll h) s

/-- The eyespots of a judgement that do not match: those enabled whose samples the pins did not carry as they were sent, where
the hash that pin sense computes differs from the reference hash (R296, R297). -/
def Judge.bad (g : Judge) (spots : Nat) (hashes : List Byte) : Nat :=
  ((List.range 4).map fun k =>
    if bits g.spots k k = 1 ∧ bits spots k k = 1 ∧ bytesAt hashes (16 * k) 16 ≠ bytesAt g.refs (16 * k) 16 then 2 ^ k else 0).sum

/-- PIN_SENSE_JUDGEMENT: the oldest judgement of a destination ends. `spots` are the eyespots whose samples the pins did not
carry as they were sent, `hashes` what pin sense computes there, 16 bytes for each of eyespots 0 to 3; elsewhere the pin hash is
the reference hash. `lines` are the lines with errors. -/
def execPinSenseJudgement (d : Fin 256) (spots : BitVec 4) (lines : Nat) (hashes : List Byte) (s : State) : Out3 :=
  let x := s.psnDest d
  .next (
    match x.judging with
    | [] => s
    | g :: rest =>
      if s.laneTest d then s.uncheckDest d
      else
        let pin := (List.range 4).flatMap fun k =>
          if bits g.spots k k = 1 then bytesAt (if bits spots.toNat k k = 1 then hashes else g.refs) (16 * k) 16 else List.replicate 16 0
        let bad := g.bad spots.toNat hashes
        let mism := bad != 0 || lines != 0 || g.spoiled
        let s := s.setPsnDest d { judging := rest, spots := bad, crc := lines != 0, run := mism }
        let s := (s.ledAdd 6 g.head (if mism then 2 else 1) 1).ledAdd 6 g.head 5 lines
        let s := if g.dike && bits bad 0 0 == 1 then s.ledAdd 6 g.head 6 1 else s
        let s := s.count (Adr.psnCrcErr d) 31 0 lines
        let s := if mism then s.count (Adr.psnMismatch d) 31 0 1 else s
        let det := [(20, 2, g.head), (22, 2, d.val), (24, 1, bad), (28, 4, g.frame)]
        let first := mism && !x.run
        let s := if first && bad != 0 then s.raise (Adr.hsCause g.head) (Adr.hsMask g.head) 0 g.head 0x0260 det else s
        let s := if first && lines != 0 then s.raise (Adr.hsCause g.head) (Adr.hsMask g.head) 1 g.head 0x0261 det else s
        let s := if (s.dest d).inService then s.countPeriod d g.excl (if mism then 1 else if g.cut then 3 else 0) else s
        let s := s.updChain g.head fun c =>
          { c with recs := c.recs.map fun r =>
              if r.frame = g.frame then
                { r with waiting := r.waiting.filter fun e => e ≠ d.val, mismatched := r.mismatched + b2n mism,
                         hashes := (if r.primary = some d.val then pin else r.hashes) }
              else r }
        s.appendAll g.head)

/-! ## OP_SEAL_REQ (R305) -/

/-- SEAL_LOG_SET, action 0; an action out of range is refused here. -/
def execSealLogSet (n : Fin 64) (s : State) : Out3 :=
  .next (s.runOp n 0xA1 (fun d => u8 d 8 ≠ 1 && u8 d 8 ≠ 2 && u8 d 8 ≠ 3) fun j s =>
    let d := j.d
    let bad := u8 d 8 ≠ 0 || !decide (20 ≤ u8 d 9 ∧ u8 d 9 ≤ 30) || decide (63 < u8 d 12) || decide (u64 d 16 % 4096 ≠ 0)
    match firstFail [(bad, csBadParam), (s.psn.log.isOpen && s.psn.log.owner != j.owner, csNotOwner)] with
    | some c => s.complete j c 0
    | none =>
      let s := s.updPsn fun p =>
        { p with log := { Log.reset with isOpen := true, owner := j.owner, addr := BitVec.ofNat 64 (u64 d 16), ringLog2 := u8 d 9,
                                         vector := u8 d 12 } }
      (s.wr Adr.logHead 0).complete j csOk 0)

/-- SEAL_LOG_OFF. -/
def execSealLogOff (n : Fin 64) (s : State) : Out3 :=
  .next (s.runOp n 0xA1 (fun d => u8 d 8 == 1) fun j s =>
    if s.psn.log.isOpen && s.psn.log.owner != j.owner then s.complete j csNotOwner 0
    else (s.updPsn fun p => { p with log := { p.log with isOpen := false, lost := 0 } }).complete j csOk 0)

/-- SEAL_READ. -/
def execSealRead (n : Fin 64) (ok : Bool) (s : State) : Out3 :=
  .next (s.runOp n 0xA1 (fun d => u8 d 8 == 2) fun j s =>
    let l := (s.chain (u16 j.d 10)).latest
    match firstFail [(decide (255 < u16 j.d 10 ∨ u32 j.d 24 < 224), csBadParam), (l.isNone, csNotFound), (!ok, csDmaErr)] with
    | some c => s.complete j c 0
    | none => (s.hostWrite (u64 j.d 16) (bytesAt (l.getD []) 0 224)).complete j csOk 0)

/-- SEAL_NOW: a seal at the head's next record. -/
def execSealNow (n : Fin 64) (s : State) : Out3 :=
  .next (s.runOp n 0xA1 (fun d => u8 d 8 == 3) fun j s =>
    let h := u16 j.d 10
    match firstFail [(decide (255 < h), csBadParam), (!s.sealing || decide ((s.head h).run = .stopped), csState)] with
    | some c => s.complete j c 0
    | none => (s.updChain h fun c => { c with nows := c.nows ++ [(j.ring, j.stamp)] }).sealDue h)

end Sys2Proof.Machine
end

