-- ==== Sys2Proof/Machine/Dike.lean ====
section
/-!
DEFINITION. Machine/Dike.lean: dike bindings and updates (R284 to R293, R307).
An update is copied and hashed when it starts; its signature is verified at KEY_OPERATION_END (steps 6 to 8), its counter
and its NV page follow (step 9), and then its commit is queued.
-/
namespace Sys2Proof.Machine

def dAction (d : List Byte) : Nat := u8 d 8
def dHead (d : List Byte) : Nat := u16 d 10
def dSurf (d : List Byte) : BitVec 32 := BitVec.ofNat 32 (u32 d 16)

/-- The formats that a dike may have (R287). -/
def dikeFormat (f : Nat) : Bool := [0x02, 0x03, 0x05, 0x06, 0x11].contains f

/-- Placement of an update: left, top, alpha, opaque, premultiplied. REAPPLY takes that of the last accepted content. -/
def State.dikePlace (s : State) (d : List Byte) : DikeContent :=
  if dAction d = 3 then
    (s.dike (dHead d)).content.getD { digest := [], dstX := 0, dstY := 0, alpha := 0, opq := false, premult := false }
  else { digest := [], dstX := s16 d 20, dstY := s16 d 22, alpha := u16 d 14, opq := ubit d 9 0, premult := ubit d 9 1 }

/-- The rectangle of a surface at its placement lies inside the head's raster. -/
def State.dikeInside (s : State) (d : List Byte) (f : Surf) : Bool :=
  let p := s.dikePlace d
  let m := (s.head (dHead d)).last.mode
  decide (0 ≤ p.dstX ∧ 0 ≤ p.dstY ∧ p.dstX + f.width ≤ modeW m ∧ p.dstY + f.height ≤ modeH m)

/-- Step 1 of R291: a field out of range. -/
def State.dikeBad (s : State) (j : Job) : Bool :=
  let d := j.d
  let a := dAction d
  decide (3 < a) || decide (255 < dHead d) || (if a = 0 then decide (63 < u8 d 12) else u8 d 12 != 0) ||
  (a != 0 && !([0, 2].contains (u8 d 13))) || (a != 0 && u8 d 13 == 2 && (targetOf 2 (u64 d 32 % 281474976710656) (u32 d 28)).isNone) ||
  (a == 1 && decide (4096 < u16 d 14)) || ((a == 1 || a == 2) && !j.priv && u64 d 40 == 0) ||
  ((a == 1 || a == 3) && match s.surf (dSurf d) with | some f => !dikeFormat f.format || !s.dikeInside d f | none => false)

/-- Where an update lands. -/
def dikeTarget (d : List Byte) : Target :=
  if u8 d 13 = 2 then .ptp (u64 d 32 % 281474976710656) (u32 d 28) else .asap

/-- SHA-384 of the public key in a slot. -/
def State.ownerHash (s : State) (slot : Nat) : List Byte := match s.key slot with | some k => sha384 k.pub | none => []

/-- The counter tied to a key, or the lowest untied one (R284). -/
def State.tieFor (s : State) (hash : List Byte) : Option Nat :=
  match s.psn.ties.find? fun e => e.2 == hash with
  | some e => some e.1
  | none => ((List.range 16).map (48 + ·)).find? fun c => s.psn.ties.all fun e => e.1 != c

/-- The key in a slot is a dike owner's. -/
def State.isOwnerKey (s : State) (slot : Nat) : Bool :=
  match s.key slot with | some k => bits k.use 7 7 == 1 | none => false

/-- The page of bindings and digests of four heads (R448) after the dike of head `h` becomes `k`. -/
def State.dikePage (s : State) (h : Nat) (k : Dike) : NvData :=
  let lo := h / 4 * 4
  let keep := fun (x : Dike) => { x with shown := none, coming := [], frozen := false }
  let now := match s.nvPending (832 + h / 4) with
    | some (.dikes l) => l
    | some _ => []
    | none => ((List.range 4).map fun i => (lo + i, keep (s.dike (lo + i)))).filter fun e => e.2 ≠ Dike.reset
  let l := (now.filter fun e => e.1 ≠ h) ++ (if keep k = Dike.reset then [] else [(h, keep k)])
  if l.isEmpty then .blank else .dikes l

/-- The checks of steps 2 to 4 for CONTENT, UNBIND and REAPPLY. -/
def State.dikeCheck (s : State) (j : Job) : Option Nat :=
  let d := j.d
  let h := dHead d
  let x := s.head h
  let a := dAction d
  let k := s.dike h
  let noSurf := a != 2 && (s.surf (dSurf d)).isNone
  let owner := s.surfOwner (dSurf d)
  firstFail [(s.dikeBad j, csBadParam), (noSurf, csNotFound), (a != 2 && !j.mayUse owner, s.ownerCode owner),
             (k.slot.isNone || k.frozen || (a != 2 && !x.applied.dike) || (a != 2 && !s.surfReady (dSurf d)) || s.keyless, csState)]

/-! ## BIND (R284) -/

/-- DIKE_BIND, action 0; an action out of range is refused here. The binding is in force once its page is written. -/
def execDikeBind (n : Fin 64) (s : State) : Out3 :=
  .next (s.runOp n 0x81 (fun d => u8 d 8 ≠ 1 && u8 d 8 ≠ 2 && u8 d 8 ≠ 3) fun j s =>
    let h := dHead j.d
    let slot := u8 j.d 12
    let hash := s.ownerHash slot
    match firstFail [(s.dikeBad j, csBadParam), (!s.isOwnerKey slot, csNotFound), (!j.priv, csPriv),
                     ((s.dike h).slot.isSome || s.keyless, csState), ((s.tieFor hash).isNone, csNoResource),
                     (decide (s.nv.phase = .recall), csRecall), (!s.holdupOk, csHoldup), (decide (s.nv.phase = .fault), csNvFail)] with
    | some c => s.complete j c 0
    | none =>
      let c := (s.tieFor hash).getD 48
      let s := if s.psn.ties.any fun e => e.2 == hash then s
        else
          let t := s.psn.ties ++ [(c, hash)]
          (s.updPsn fun p => { p with ties := t }).nvQueue (.page 929 (.ties t) .module)
      let k := { s.dike h with slot := some slot, counter := c, owner := j.owner }
      (s.addOp (j.keyOp (some []) .writing none [])).nvQueue (.page (832 + h / 4) (s.dikePage h k) (.op j.ring j.stamp)))

/-! ## Starting an update: steps 1 to 5 -/

/-- The copy in the dike store, which the module owns and the operation holds a reference to (R286). -/
def State.dikeCopy (s : State) (f : Surf) : BitVec 32 × State :=
  let i := s.surfIndex
  let g := nextGen (Tab.get (fun _ => 0) s.srf.gens i)
  let h := BitVec.ofNat 32 (i + 65536 * g)
  let c : Surf := { f with handle := h, owner := moduleTag, refs := 0, upload := none, free := none }
  (h, (((s.hbmCopy f.base c.base (f.units * 4096)).updSrf fun x =>
    { x with list := x.list ++ [c], gens := Tab.set (fun _ => 0) x.gens i g }).ledAdd 3 0 0 1).takeRefs [h])

/-- The copy is no longer held by its operation. -/
def State.dikeDrop (s : State) (h : BitVec 32) : State :=
  s.dropRefs [h]

/-- CONTENT and REAPPLY: copy, and hash the copy's pixel rows. `ok` says whether the copy succeeds, `sig` is the signature as the
DMA read it, `ecc` are the errors of the granules that the copy reads (R28). -/
def State.dikeStart (s : State) (j : Job) (sig : Option (List Byte)) (ok : Bool) (ecc : List HbmErr) : State :=
  match s.dikeCheck j, s.surf (dSurf j.d) with
  | some c, _ => s.complete j c 0
  | none, none => s.complete j csNotFound 0
  | none, some f =>
    if s.hbmFree < f.units ∨ 16384 ≤ s.srf.list.length then s.complete j csNoSpace 0
    else if !ok || (dAction j.d == 1 && sig.isNone) then (s.granulesMet ecc).complete j csDmaErr 0
    else
      let r := s.dikeCopy f
      (r.2.granulesMet ecc).addOp { j.keyOp (some (dmaFit (sig.getD []) 96)) .running none (sha384 (s.surfRows f)) with store := some r.1 }

/-- DIKE_CONTENT. -/
def execDikeContent (n : Fin 64) (sig : Option (List Byte)) (ok : Bool) (ecc : List HbmErr) (s : State) : Out3 :=
  .next (s.runOp n 0x81 (fun d => u8 d 8 == 1) fun j s => s.dikeStart j sig ok ecc)

/-- DIKE_REAPPLY. -/
def execDikeReapply (n : Fin 64) (ok : Bool) (ecc : List HbmErr) (s : State) : Out3 :=
  .next (s.runOp n 0x81 (fun d => u8 d 8 == 3) fun j s => s.dikeStart j (some []) ok ecc)

/-- DIKE_UNBIND: a privileged ring need give no signature. -/
def execDikeUnbind (n : Fin 64) (sig : Option (List Byte)) (s : State) : Out3 :=
  .next (s.runOp n 0x81 (fun d => u8 d 8 == 2) fun j s =>
    match firstFail [((s.dikeCheck j).isSome, (s.dikeCheck j).getD 0), (u64 j.d 40 != 0 && sig.isNone, csDmaErr)] with
    | some c => s.complete j c 0
    | none => s.addOp (j.keyOp (some (if u64 j.d 40 = 0 then [] else dmaFit (sig.getD []) 96)) .running none []))

/-! ## Steps 6 to 8 -/

/-- The signed message (R288) for a module identity. -/
def dikeMessage (d : List Byte) (f : Option Surf) (digest ident : List Byte) : List Byte :=
  let c := dAction d == 1
  let z := fun (v : Nat) => if c then v else 0
  leBytes 4 0x4B445A49 ++ [1, BitVec.ofNat 8 (dAction d), BitVec.ofNat 8 (u8 d 9),
    BitVec.ofNat 8 (z (match f with | some f => f.format | none => 0))] ++ leBytes 2 (dHead d) ++
  leBytes 2 (z (match f with | some f => f.width | none => 0)) ++ leBytes 2 (z (match f with | some f => f.height | none => 0)) ++
  leBytes 2 (z (u16 d 20)) ++ leBytes 2 (z (u16 d 22)) ++ leBytes 2 (z (u16 d 14)) ++ leBytes 4 (u32 d 24) ++ bytesAt ident 0 16 ++
  (if c then bytesAt digest 0 48 else List.replicate 48 0) ++ List.replicate 8 0

/-- The signature and counter, or REAPPLY's digest, are right (step 6). -/
def State.dikeAuth (s : State) (o : KeyOp) : Bool :=
  let d := o.desc
  let k := s.dike (dHead d)
  if dAction d = 3 then match k.content with | some c => c.digest == o.digest | none => false
  else
    let pub := match k.slot with | some n => (match s.key n with | some x => x.pub | none => []) | none => []
    let f := match o.store with | some h => s.surf h | none => none
    let sig := o.input.getD []
    let okFor := fun id => Config.ecdsaVerify pub (sha384 (dikeMessage d f o.digest id)) sig
    let unsigned := dAction d == 2 && o.priv && sig.isEmpty
    (unsigned || okFor moduleId || okFor (List.replicate 16 0)) &&
    decide (u32 d 24 = s.ctrValue k.counter + s.cellsWaiting k.counter + 1)

/-- The job of an operation, for the commit that it queues. -/
def KeyOp.job (o : KeyOp) : Job :=
  { ring := o.ring, stamp := o.stamp, seq := o.seq, opcode := o.opcode, owner := o.owner, priv := o.priv, take := false, d := o.desc }

/-- The configuration with the new dike. -/
def State.dikeCfg (s : State) (o : KeyOp) : HeadCfg :=
  let c := (s.head (dHead o.desc)).last
  match o.store.bind fun h => s.surf h with
  | some f =>
    let p := s.dikePlace o.desc
    let l : LayerCfg := { LayerCfg.reset with
      enable := true, opq := p.opq, premult := p.premult, kind := 2, src := BitVec.ofNat 64 f.handle.toNat, cropW := f.width, cropH := f.height,
      dstX := p.dstX, dstY := p.dstY, dstW := f.width, dstH := f.height, alpha := p.alpha }
    { c with dike := true, layers := c.layers.set 7 l }
  | none => { c with dike := false, layers := c.layers.set 7 LayerCfg.reset }

/-- An update ends without its commit: the copy is released. -/
def State.dikeFail (s : State) (o : KeyOp) (code : Nat) : State :=
  let s := match o.store with | some h => s.dikeDrop h | none => s
  s.opDone o code 0

/-- Fetch tokens that the new dike lacks; a module-managed head may ask for them (step 7). -/
def State.dikeShort (s : State) (h : Nat) (c : HeadCfg) : Nat := s.fetchNeed c false - (s.head h).committed

/-- The commit of an update, which never waits for a surface. -/
def State.dikeEnqueue (s : State) (o : KeyOp) (fetch : Nat) : State :=
  let h := dHead o.desc
  let x := s.head h
  let c := s.dikeCfg o
  let r := (s.landing x x.last.mode x.last.polder (dikeTarget o.desc)).getD (none, false)
  let kind := if dAction o.desc = 2 then CommitKind.dikeUnbind else .dike
  let k := { o.job.commit kind c (dikeTarget o.desc) r.1 r.2 with fetch := fetch, peak := s.fetchNeed c false }
  let s := ((s.dropOp o).enqueue h k).endOp o.job
  match o.store with | some f => s.dikeDrop f | none => s

/-- The binding with an update's content accepted. -/
def State.dikeAccepted (s : State) (o : KeyOp) : Dike :=
  let h := dHead o.desc
  let k := s.dike h
  if dAction o.desc = 2 then { Dike.reset with frozen := k.frozen, shown := k.shown, coming := k.coming }
  else { k with content := some { s.dikePlace o.desc with digest := o.digest } }

/-- KEY_OPERATION_END of an update: steps 6 to 8, then the counter is programmed; REAPPLY changes no counter. -/
def State.dikeFinish (s : State) (o : KeyOp) : State :=
  let h := dHead o.desc
  let x := s.head h
  let c := s.dikeCfg o
  let short := s.dikeShort h c
  let lands := (s.landing x x.last.mode x.last.polder (dikeTarget o.desc)).isSome
  match firstFail [(!s.dikeAuth o, csAuth), (x.stopping || (dAction o.desc != 2 && !x.applied.dike) || (s.dike h).frozen, csState),
                   (!lands, csBadParam), (decide (16 ≤ x.commits), csNoResource),
                   (c.overBudget false, csBudget), (decide (short ≠ 0 ∧ x.managed ≠ .module), csNoLeave),
                   (decide (s.nv.phase = .recall), csRecall), (!s.holdupOk, csHoldup), (decide (s.nv.phase = .fault), csNvFail)] with
  | some e => s.dikeFail o e
  | none =>
    if dAction o.desc = 3 then
      let (ok, s) := if short = 0 then (true, s) else s.leaveAsk o.owner 0 short
      if ok then
        let k := s.dike h
        ((s.setDike h { k with coming := k.coming ++ [(o.stamp, o.digest)] }).dikeEnqueue o short)
      else s.dikeFail o csNoLeave
    else
      let (ok, s) := if short = 0 then (true, s) else s.leaveAsk o.owner 0 short
      if ok then
        (s.updCoc fun c => { c with ops := c.ops.map fun q =>
          if q.ring = o.ring ∧ q.stamp = o.stamp then { q with phase := .dikeCount, grant := short } else q }).nvQueue (.cell (s.dike h).counter 0 (.op o.ring o.stamp))
      else s.dikeFail o csNoLeave

/-! ## Step 9 -/

/-- The counter is acknowledged, or has failed: then the page of bindings and digests follows. -/
def State.dikeCounted (s : State) (o : KeyOp) (ok : Bool) : State :=
  if !ok then (s.leaveRet 0 o.grant).dikeFail o csNvFail
  else
    let h := dHead o.desc
    (s.opPhase o .writing).nvQueue (.page (832 + h / 4) (s.dikePage h (s.dikeAccepted o)) (.op o.ring o.stamp))

/-- The page is written: a binding comes into force, an update queues its commit; or the write has failed. -/
def State.dikeStored (s : State) (o : KeyOp) (ok : Bool) : State :=
  let h := dHead o.desc
  if dAction o.desc = 0 then
    if ok then
      let slot := u8 o.desc 12
      let c := (s.tieFor (s.ownerHash slot)).getD 48
      (s.setDike h { s.dike h with slot := some slot, counter := c, owner := o.owner }).opDone o csOk 0
    else s.opDone o csNvFail 0
  else if !ok then (s.leaveRet 0 o.grant).dikeFail o csNvFail
  else
    let k := s.dikeAccepted o
    let s := if dAction o.desc = 2 then s else s.setDike h { k with coming := k.coming ++ [(o.stamp, o.digest)] }
    s.dikeEnqueue o o.grant

end Sys2Proof.Machine
end

