-- ==== Sys2Proof/Machine/FlipExec.lean ====
section
/-!
DEFINITION. Machine/FlipExec.lean: the flip of a head as a whole, and the packets of IP destinations (R124, R268).
-/
namespace Sys2Proof.Machine

/-- FLIP's effect: pushes that still read the front buffer abort, the buffers swap and commits land, loads and sample points follow,
audio that follows the head switches, and records that no judgement holds back are appended. -/
def State.flip (s : State) (h : Nat) (seen : FlipSeen) : State :=
  if s.flipDue h then
    let x := s.head h
    let r := (s.pushAbortHead h 0).flipHead h seen
    let s := r.2.colourFlip h
    let s := s.pushPeriod h x.period (decide ((s.head h).run = .frame))
    let s := if (s.head h).run = .stopped then s.colourIdle else s.audioFlip h r.1
    let s := ((s.appendAll h).sealHeadStop h).quietCheck
    if r.1.isEmpty && decide ((s.head h).run ≠ .stopped) then s else s.nvTouch (256 + h)
  else s

/-- IP_SEND_PACKET: the next paced packet of destination 128 + k leaves on each leg of its flow. After OP_FLOW_DEL the packets
of the frame in progress still leave (R269). -/
def execIpSendPacket (k : Fin 128) (s : State) : Out3 :=
  let d := 128 + k.val
  let x := s.dest d
  .next (
    if x.head.isSome && x.pktsLeft != 0 then
      let s := s.setDest d { x with pktsLeft := x.pktsLeft - 1, rtpSeq := (x.rtpSeq + 1) % 65536 }
      let s := s.wr (Adr.txfPkts k) ((s.rd (Adr.txfPkts k) + 1) % 4294967296)
      s.updIng fun g => { g with flows := g.flows.map fun e =>
        if e.kind = 5 ∧ e.target = d then { e with pkts := e.pkts + 1, rtpSeq := (e.rtpSeq + 1) % 65536, rtpTs := s.rd (Adr.txfRtpTs k) } else e }
    else s)

end Sys2Proof.Machine
end

