-- ==== Sys2Proof/Machine/NvEnd.lean ====
section
/-!
DEFINITION. Machine/NvEnd.lean: what the system pages hold, their paced writes, the end of a program and of a cocoon
operation, and the end of the recall scan (R448, R451, R453, R456, R460, R463, R464).
-/
namespace Sys2Proof.Machine

/-! ## The content of the system pages (R448; log 24) -/

/-- The settings of a source that its restore set keeps. -/
def Source.settings (x : Source) : Source :=
  { Source.reset with
    owner := x.owner, holdMs := x.holdMs, fallback := x.fallback, slate := x.slate, ringFixed := x.ringFixed, ringMax := x.ringMax,
    quad := x.quad, damagePub := x.damagePub, rateLock := x.rateLock, defSampling := x.defSampling, defColorimetry := x.defColorimetry,
    defTransfer := x.defTransfer, defRange := x.defRange, pidOverride := x.pidOverride }

/-- The claim of a conversion. -/
def Conv.claim (x : Conv) : Conv :=
  { Conv.reset with
    state := x.state, owner := x.owner, byTake := x.byTake, input := x.input, polder := x.polder, mode := x.mode, scan := x.scan,
    cadence := x.cadence, confMin := x.confMin, audMode := x.audMode }

/-- The settings of an audio output. -/
def AudOut.settings (x : AudOut) : AudOut :=
  { AudOut.reset with
    owner := x.owner, routed := x.routed, input := x.input, follow := x.follow, comp := x.comp, gain := x.gain, mute := x.mute,
    invert := x.invert, ramp := x.ramp, delay := x.delay }

/-- Slices that the layers of a configuration name. -/
def HeadCfg.slices (c : HeadCfg) : List Nat :=
  (List.range 128).filter fun m => c.names (256 + m)

/-- The restore set of a head: none while the head is not routed. -/
def State.headSave (s : State) (h : Nat) : Option HeadSave :=
  let x := s.head h
  if x.managed ≠ .free ∧ (x.run ≠ .stopped ∨ x.resume = true ∨ x.abandoned = true) then
    some { owner := x.owner, managed := x.managed, instar := x.instar, cfg := x.applied,
           convs := x.applied.slices.map fun m => (m, (s.cnv m).claim) }
  else none

/-- The RWS fields kept with the restore set (R504): every register of them that has one and differs from its power-on value. The
enable of lane group or port i stands at 2^32 + i. -/
def State.rwsSave (s : State) : List (Nat × BitVec 32) :=
  ((List.range 10).filterMap fun i =>
    if (s.unit i).enable = decide (i < 8) then none else some (4294967296 + i, BitVec.ofNat 32 (b2n (s.unit i).enable))) ++
  s.regs.filterMap fun e =>
    match findReg e.1 with
    | some r =>
      let v := (r.1.fields.filter fun f => f.acc == .rws).foldl (fun (v : Nat) f => v + bits e.2.toNat f.hi f.lo * 2 ^ f.lo) 0
      if rwsKept e.1 && r.1.fields.any fun f => f.acc == .rws then some (e.1, BitVec.ofNat 32 v) else none
    | none => none

/-- What a system page holds now. -/
def State.sysData (s : State) (p : Nat) : NvData :=
  if p < 512 then match s.headSave (p - 256) with | some x => .head (some x) | none => .blank
  else if p < 576 then
    let one := fun n =>
      let x := (s.src n).settings
      let fl := s.ing.flows.filter fun f => f.target % 256 == n
      if x = Source.reset ∧ fl = [] then none else some (n, SrcSave.mk x fl)
    let l := (List.range 4).filterMap fun i => one (4 * (p - 512) + i)
    let rws := if p = 512 then s.rwsSave else []
    let auto := p = 512 && s.nv.auto
    let gated := p = 512 && s.nv.gated
    if l.isEmpty && rws.isEmpty && !auto && !gated then .blank else .srcs l rws auto gated
  else if p < 768 then
    let outs := (s.aud.outs.filter fun e => e.1 / 43 = p - 576 ∧ e.2.settings ≠ AudOut.reset).map fun e => (e.1, e.2.settings)
    let comps := if p = 767 then s.aud.comps else []
    if outs.isEmpty && comps.isEmpty then .blank else .audio outs comps
  else if p < 832 then
    let lo := 4 * (p - 768)
    let l := (List.range 4).filterMap fun i =>
      let c := s.chain (lo + i)
      if c.chain = Chain.reset.chain ∧ c.index = 0 then none else some (lo + i, ChainSave.mk c.chain c.index c.lastFrame)
    if l.isEmpty then .blank else .chains l
  else .blank

/-- The chain heads of a page have been written: their persist counts start again (R451). -/
def State.chainsSaved (s : State) (p : Nat) : State :=
  if 768 ≤ p ∧ p < 832 then
    (List.range 4).foldl (fun s i =>
      let h := 4 * (p - 768) + i
      if (s.chain h).unsaved = 0 then s else s.updChain h fun c => { c with unsaved := 0 }) s
  else s

/-- The page of the queue that is served next: chain heads first (R451). -/
def State.nextPaced (s : State) : Option Nat :=
  match s.nv.queue.find? fun p => decide (768 ≤ p ∧ p < 832) with
  | some p => some p
  | none => s.nv.queue.head?

/-- PACED_WRITE: at most every 2 s, without pacing while the queue is written for STANDBY. -/
def execPacedWrite (s : State) : Out3 :=
  .next (
    let due := s.nv.flushing || (match s.nv.lastPaced with | some t => decide (t + msTicks 2000 ≤ s.now) | none => true)
    let waits := s.nv.jobs.any fun j => match j with | .page _ _ (.paced _) => true | _ => false
    if s.nv.phase = .ready ∧ s.holdupOk = true ∧ due = true ∧ waits = false then
      match s.nextPaced with
      | some p =>
        let s := s.updNv fun n => { n with queue := n.queue.filter fun q => q ≠ p, lastPaced := some s.now }
        (s.chainsSaved p).nvQueue (.page p (s.sysData p) (.paced p))
      | none => s
    else s)

/-- The whole queue is written without pacing (R451, R498). -/
def State.nvFlush (s : State) : State :=
  if s.nv.phase = .ready ∧ s.holdupOk = true then
    let s := s.nv.queue.foldl (fun s p =>
      let d := s.sysData p
      let q := s.nv.seq + 1
      let s := (s.nvAppend { page := p, seq := q, data := d, commit := .committed }).updNv fun n => { n with seq := q }
      (s.setNvPage p { data := d, seq := q }).chainsSaved p) s
    (s.updNv fun n => { n with queue := [] }).nvKick
  else s

/-! ## The end of a program -/

/-- Whoever waited for a program goes on. -/
def State.nvResult (s : State) (r : Option NvResult) : State :=
  match r with
  | none => s
  | some (.desc ring stamp, ok, v) => s.completeAt ring stamp (if ok then csOk else csNvFail) (BitVec.ofNat 64 v)
  | some (.op ring stamp, ok, _) =>
    match s.findOp ring stamp with
    | none => s
    | some o =>
      if o.opcode = 0x81 then
        match o.phase with
        | .dikeCount => s.dikeCounted o ok
        | .writing => s.dikeStored o ok
        | _ => s
      else
        match o.phase with
        | .counting => s.keyCounted o ok
        | .writing => s.keyStored o ok
        | _ => s
  | some (.paced p, ok, _) => if ok then s else s.nvTouch p
  | some (.restore a g, ok, _) => if ok then s.updNv fun n => { n with auto := a, gated := g } else s
  | some (.module, _, _) => s

/-- NV_RECORD_ACK: the record in progress is verified, or fails. -/
def execNvRecordAck (ok : Bool) (s : State) : Out3 :=
  .next (let r := s.nvPageEnd ok 0; r.2.nvResult r.1)

/-- NV_CELL_ACK: the cell in progress is verified, or fails. -/
def execNvCellAck (ok : Bool) (s : State) : Out3 :=
  .next (let r := s.nvCellEnd ok 0; r.2.nvResult r.1)

/-- The store enters FAULT: every program that waits fails (R464). -/
def State.nvDead (s : State) : State :=
  let jobs := s.nv.jobs
  let s := s.updNv fun n => { n with phase := .fault, jobs := [], erasing := false }
  jobs.foldl (fun s j => s.nvResult (some (match j with | .page _ _ w => (w, false, 0) | .cell _ _ w => (w, false, 0)))) s

/-- FLASH_TIMEOUT: the operation in progress has not reported completion; `answers` says whether the flash answers after
its reset. -/
def execFlashTimeout (answers : Bool) (s : State) : Out3 :=
  .next (
    match s.nv.jobs with
    | .page _ _ _ :: _ =>
      let r := s.nvPageEnd false 2
      let s := r.2.nvResult r.1
      if answers then s else s.nvDead
    | .cell _ _ _ :: _ =>
      let r := s.nvCellEnd false 2
      let s := r.2.nvResult r.1
      if answers then s else s.nvDead
    | [] =>
      if s.nv.erasing then
        let s := s.eraseEnd false 2
        if answers then s else s.nvDead
      else s)

/-- HOLDUP_READY: the store holds at least 1.0 J; `mj` is its energy. -/
def execHoldupReady (mj : Fin 4096) (s : State) : Out3 :=
  .next (if 1000 ≤ mj.val then (s.updNv fun n => { n with energy := mj.val }).nvKick else s)

/-! ## The end of the recall scan -/

/-- Clear the pages that a breach erases (R307, R440). -/
def State.eraseSecrets (s : State) : State :=
  ((List.range 160).map (768 + ·)).foldl (fun s p =>
    if (s.nvPage p).data = .blank ∧ (s.nvPending p).isNone = true then s else s.nvQueue (.page p .blank .module)) s

/-- The chain heads that the pages hold: heads resume from them (R301, R304). -/
def State.loadChains (s : State) : State :=
  (s.nv.pages.filter fun e => decide (768 ≤ e.1 ∧ e.1 < 832)).foldl (fun s e =>
    match e.2.data with
    | .chains l => l.foldl (fun s c =>
        s.setChain c.1 { Chain.reset with chain := c.2.chain, index := c.2.index, lastFrame := c.2.frame, resumed := true, sealResumed := true }) s
    | _ => s) s

/-- After a breach every chain that the pages hold starts from zero, resumed (R307). -/
def State.freshChains (s : State) : State :=
  (s.nv.pages.filter fun e => decide (768 ≤ e.1 ∧ e.1 < 832)).foldl (fun s e =>
    match e.2.data with
    | .chains l => l.foldl (fun s c => s.setChain c.1 { Chain.reset with resumed := true, sealResumed := true }) s
    | _ => s) s

/-- The bindings that the pages hold. -/
def State.loadDikes (s : State) : State :=
  (s.nv.pages.filter fun e => decide (832 ≤ e.1 ∧ e.1 < 896)).foldl (fun s e =>
    match e.2.data with
    | .dikes l => l.foldl (fun s k => s.setDike k.1 k.2) s
    | _ => s) s

/-- The key slots, the admin key and the counter ties that the pages hold (R424, R431, R284). -/
def State.loadKeys (s : State) : State :=
  let s := if s.keyless then s else
    (s.nv.pages.filter fun e => decide (896 ≤ e.1 ∧ e.1 < 928)).foldl (fun s e =>
      match e.2.data with
      | .keys l => l.foldl (fun s k => s.setKey k.1 (some k.2)) s
      | _ => s) s
  let s := match (s.nvPage 928).data with | .admin l => s.updCoc fun c => { c with admin := some l } | _ => s
  match (s.nvPage 929).data with | .ties l => s.updPsn fun p => { p with ties := l } | _ => s

/-- RECALL_DONE: the scan ends; what the module keeps in the system pages is loaded. `ms` is the scan's duration. -/
def execRecallDone (ms : Nat) (s : State) : Out3 :=
  .next (
    match s.nv.phase, s.nv.scanned with
    | .recall, some twins =>
      let s := s.updNv fun n => { n with phase := .ready, scanned := none, lastScrub := s.now }
      let s := match (s.nvPage 512).data with
        | .srcs _ _ a g => s.updNv fun n => { n with auto := a, gated := g }
        | _ => s
      let s := s.loadKeys
      let s := if s.rest.phase = .waitRecall ∧ s.nv.auto = false then s.updRest fun r => { r with phase := .idle } else s
      let s := if s.keyless then s.freshChains.eraseSecrets else s.loadDikes.loadChains
      (s.nvKick).nvRaise 5 0x1005 [(24, 2, ms), (26, 2, twins)]
    | _, _ => s)

/-! ## KEY_OPERATION_END -/

/-- KEY_OPERATION_END: the oldest operation of a ring that the cocoon computes ends, while a pair serves. `ok` says whether
its output writes succeed. -/
def execKeyOperationEnd (n : Fin 64) (ok : Bool) (s : State) : Out3 :=
  .next (
    if (s.mg.pair s.mg.serving).state = .serving then
      match s.coc.ops.find? fun o => o.ring == n.val && decide (o.phase = .running) with
      | some o => if o.opcode = 0x81 then s.dikeFinish o else s.keyFinish o ok
      | none => s
    else s)

end Sys2Proof.Machine
end

