-- ==== Sys2Proof/Machine/Flows.lean ====
section
/-!
DEFINITION. Machine/Flows.lean: OP_FLOW_ADD, OP_FLOW_DEL, OP_SRC_SET, OP_LEDGER_READ and IGMP ("Ingest and frame
synchronisation", R81 to R93, R104 to R110; R265, R266, R314, R323, R324, R380).
-/
namespace Sys2Proof.Machine

/-! ## The subports (R378, R380) -/

/-- Subports of a port in its breakout mode. -/
def State.subports (s : State) (p : Nat) : Nat := 2 ^ s.fget (Adr.portCtl p) 2 1

/-- Line rate of a subport in bits per second. -/
def State.lineRate (s : State) (p : Nat) : Nat :=
  match s.fget (Adr.portCtl p) 2 1 with
  | 0 => 400000000000
  | 1 => 200000000000
  | 2 => 100000000000
  | _ => 25000000000

/-- Bytes of one active line (R267). -/
def lineBytes (mode sampling : Nat) : Nat :=
  let g := if sampling = 1 then (15, 4) else if sampling = 2 then (9, 2) else (5, 2)
  modeW mode * g.1 / g.2

/-- The wire rate of R266 in units of 1/1,001 bit per second. -/
def wireRate (mode sampling : Nat) : Nat :=
  let b := lineBytes mode sampling
  let r := modeRate mode
  8 * r.1 * (1001 / r.2) * modeH mode * (b + 90 * ceilDiv b 1200)

/-- Bytes of one audio sample in a packet. -/
def audioBytes (kind p1 : Nat) : Nat := if kind = 3 ∨ kind = 7 then 4 else if p1 = 0 then 2 else 3

/-- What a flow counts on a subport (R380), in units of 1/1,001 bit per second. -/
def flowRate (kind p0 p1 p2 : Nat) : Nat :=
  if kind = 1 ∨ kind = 5 then wireRate p0 p1
  else if kind = 4 ∨ kind = 8 then 2000000 * 1001
  else
    let n := if p2 = 0 then 48 else 6
    (48000 / n) * (p0 * n * audioBytes kind p1 + 90) * 8 * 1001

def Flow.legs (f : Flow) : List Leg := f.a :: f.b.toList

/-- A send kind. -/
def isSend (kind : Nat) : Bool := decide (5 ≤ kind)

/-- The load of a subport in one direction. -/
def State.subLoad (s : State) (p q : Nat) (send : Bool) : Nat :=
  (s.ing.flows.map fun f =>
    if isSend f.kind = send then
      ((f.legs.filter fun l => l.port == p && l.sub == q).map fun _ => flowRate f.kind f.p0 f.p1 f.p2).sum
    else 0).sum

/-! ## IGMP (R91) -/

def Leg.net (l : Leg) : IgmpNet := { port := l.port, sub := l.sub, tagged := l.tagged, vid := if l.tagged then l.vid else 0 }

/-- The receive legs of the flows. -/
def recvLegs (fl : List Flow) : List Leg := (fl.filter fun f => !isSend f.kind).flatMap Flow.legs

/-- The membership that a list of flows needs: none, or the filter (EXCLUDE, sources) of the group. -/
def membership (fl : List Flow) (n : IgmpNet) (g : BitVec 32) : Option (Bool × List (BitVec 32)) :=
  match ((recvLegs fl).filter fun l => decide (l.net = n) && l.group == g).map (·.src) with
  | [] => none
  | l => if l.contains 0 then some (true, []) else some (false, l.dedup)

/-- The groups of a list of flows, with their networks. -/
def groupsOf (fl : List Flow) : List (IgmpNet × BitVec 32) := ((recvLegs fl).map fun l => (l.net, l.group)).dedup

/-- The version that the module uses on a network: that of the oldest querier still present. -/
def State.igmpVersion (s : State) (n : IgmpNet) : Nat :=
  (s.ing.older.filter fun o => decide (o.net = n ∧ s.now < o.until_)).foldl (fun v o => min v o.version) 3

/-- Subport number q of a port's subport (R350). -/
def subNo (p q : Nat) : Nat := 8 * p + q

/-- Send IGMP messages. -/
def State.igmpSend (s : State) (l : List IgmpReport) : State :=
  if l.isEmpty then s else s.updIng fun g => { g with igmpSent := g.igmpSent + l.length, igmpLast := l }

/-- A report of a filter; none means that the group is left. -/
def State.report (s : State) (n : IgmpNet) (g : BitVec 32) (f : Option (Bool × List (BitVec 32))) : IgmpReport :=
  { net := n, sender := BitVec.ofNat 32 (s.rd (Adr.subIp (subNo n.port n.sub))), version := s.igmpVersion n, group := g,
    exclude := (match f with | some (e, _) => e | none => false),
    srcs := (match f with | some (_, l) => l | none => []) }

/-- State-change reports: sent now and once more 1 s later. Version 1 does not report that a group is left. -/
def State.igmpChange (s : State) (l : List IgmpReport) : State :=
  let l := l.filter fun r => !(r.version == 1 && !r.exclude && r.srcs.isEmpty)
  (s.igmpSend l).updIng fun g => { g with repeats := g.repeats ++ l.map fun r => (s.now + msTicks 1000, r) }

/-- The flows change: every group whose filter changes is reported. -/
def State.setFlows (s : State) (fl : List Flow) : State :=
  let old := s.ing.flows
  let ch := (groupsOf (old ++ fl)).filter fun k => decide (membership old k.1 k.2 ≠ membership fl k.1 k.2)
  let s := s.updIng fun g => { g with flows := fl }
  s.igmpChange (ch.map fun k => s.report k.1 k.2 (membership fl k.1 k.2))

/-- IGMP_QUERY: a query on a subport and VLAN: general (group 0), for a group, or for a group and sources. An older version
is remembered for 260 s, the time of RFC 3376's older-version rules (log 32). A query for a group and sources is answered with
the group's whole filter (log 81). -/
def execIgmpQuery (port : Fin 2) (sub : Fin 8) (tagged : Bool) (vid : BitVec 12) (version : Fin 4) (group : BitVec 32)
    (srcs : List (BitVec 32)) (s : State) : Out3 :=
  let n : IgmpNet := { port := port, sub := sub, tagged := tagged, vid := if tagged then vid.toNat else 0 }
  let s := if version.val = 1 ∨ version.val = 2 then
      s.updIng fun g => { g with older := (g.older.filter fun o => !decide (o.net = n ∧ o.version = version.val)) ++
        [IgmpOlder.mk n version.val (s.now + msTicks 260000)] }
    else s
  let hit := (groupsOf s.ing.flows).filter fun k =>
    decide (k.1 = n) && (group == 0 || k.2 == group) &&
    (srcs.isEmpty || (match membership s.ing.flows k.1 k.2 with
      | some (true, _) => true
      | some (false, l) => l.any fun a => srcs.contains a
      | none => false))
  .next (s.igmpSend (hit.map fun k => s.report k.1 k.2 (membership s.ing.flows k.1 k.2)))

/-- IGMP_REPORT_REPEAT: the second copies that are due. -/
def execIgmpReportRepeat (s : State) : Out3 :=
  let due := s.ing.repeats.filter fun r => decide (r.1 ≤ s.now)
  .next ((s.igmpSend (due.map (·.2))).updIng fun g => { g with repeats := g.repeats.filter fun r => !decide (r.1 ≤ s.now) })

/-! ## OP_FLOW_ADD (R89, R90, R265, R266, R314, R323, R324) -/

/-- A leg of the body. -/
def legA (d : List Byte) : Leg :=
  { group := BitVec.ofNat 32 (u32 d 12), src := BitVec.ofNat 32 (u32 d 16), udp := u16 d 20, vid := u16 d 22 % 4096,
    tagged := decide (32768 ≤ u16 d 22), port := u8 d 24 / 8 % 2, sub := u8 d 24 % 8 }

def legB (d : List Byte) : Leg :=
  { group := BitVec.ofNat 32 (u32 d 28), src := BitVec.ofNat 32 (u32 d 32), udp := u16 d 26, vid := u16 d 36 % 4096,
    tagged := decide (32768 ≤ u16 d 36), port := u8 d 25 / 8 % 2, sub := u8 d 25 % 8 }

def isMulticast (a : Nat) : Bool := decide (0xE0000100 ≤ a ∧ a ≤ 0xEFFFFFFF)
def isUnicast (a : Nat) : Bool := decide (1 ≤ a / 16777216 ∧ a / 16777216 ≤ 223 ∧ a / 16777216 ≠ 127)

/-- The legs that the descriptor uses. -/
def flowLegs (d : List Byte) : List Leg := if ubit d 9 0 then [legA d, legB d] else [legA d]

/-- The first check of R90, with those of R266, R323 and R324: fields out of range. -/
def flowFieldsBad (d : List Byte) : Bool :=
  let kind := u8 d 8
  let t := u16 d 10
  let seam := ubit d 9 0
  let pt := u8 d 38
  let p := fun i => u8 d (40 + i)
  let video := decide (p 0 = 0 ∨ isMode (p 0) = false ∨ 2 < p 1)
  let audio := decide (p 0 < 1 ∨ 16 < p 0 ∨ 1 < p 2 ∨ (p 2 = 1 ∧ 8 < p 0)) ||
    (if kind = 3 ∨ kind = 7 then decide (p 0 % 2 = 1 ∨ p 1 ≠ 0) else decide (1 < p 1))
  let recv := decide ((pt < 96 ∨ 127 < pt) ∧ pt ≠ 0xFF) ||
    (if seam then decide (u8 d 39 < 1 ∨ 20 < u8 d 39) else decide (u8 d 39 ≠ 0))
  let send := ubit d 9 1 || decide (pt < 96 ∨ 127 < pt ∨ u8 d 39 ≠ 0 ∨ 63 < u8 d 47 ∨ u8 d 48 = 0) ||
    (flowLegs d).any fun l => l.src != 0
  match kind with
  | 1 => decide (t < 128 ∨ 255 < t) || video || recv || decide (1 < p 2 ∨ 2 < p 3 ∨ 1 < p 4 ∨ 1 < p 5 ∨ 1 < p 6)
  | 2 => decide (1023 < t) || audio || recv
  | 3 => decide (1023 < t) || audio || recv
  | 4 => decide (t < 128 ∨ 255 < t) || recv
  | 5 => decide (t < 128 ∨ 255 < t) || video || send || decide (p 2 ≠ 0 ∨ p 3 ≠ 0 ∨ p 4 ≠ 0 ∨ p 5 ≠ 0 ∨ p 6 ≠ 0)
  | 6 => decide (1023 < t) || audio || send || decide (p 3 ≠ 0 ∨ p 4 ≠ 0 ∨ p 5 ≠ 0 ∨ p 6 ≠ 0)
  | 7 => decide (1023 < t) || audio || send || decide (p 3 ≠ 0 ∨ p 4 ≠ 0 ∨ p 5 ≠ 0 ∨ p 6 ≠ 0)
  | 8 => decide (t < 128 ∨ 255 < t) || send || decide (p 0 ≠ 0 ∨ p 2 ≠ 0 ∨ p 3 ≠ 0 ∨ p 4 ≠ 0 ∨ p 5 ≠ 0 ∨ p 6 ≠ 0)
  | _ => true

/-- The addresses of a leg. -/
def legBad (kind : Nat) (l : Leg) : Bool :=
  if isSend kind then !(isMulticast l.group.toNat || isUnicast l.group.toNat)
  else !isMulticast l.group.toNat || (l.src != 0 && !isUnicast l.src.toNat)

/-- The target has a flow already, or a kind 4 names a source without a video flow. -/
def State.flowTaken (s : State) (kind t : Nat) : Bool :=
  let has := fun (l : List Nat) => s.ing.flows.any fun f => l.contains f.kind && f.target == t
  match kind with
  | 2 => has [2, 3]
  | 3 => has [2, 3]
  | 4 => !has [1] || has [4]
  | 6 => has [6, 7]
  | 7 => has [6, 7]
  | k => has [k]

/-- The owner tag of a flow's target. -/
def State.targetOwner (s : State) (kind t : Nat) : Nat :=
  if kind = 1 ∨ kind = 4 then (s.src t).owner else if kind = 5 ∨ kind = 8 then s.destOwner t else 0

/-- The lowest-numbered free run of `n` channels in [lo, hi). -/
def freeRun (runs : List (Nat × Nat × Nat)) (lo hi n : Nat) : Option Nat :=
  (sortBy (· ≤ ·) (lo :: runs.map fun r => r.2.1 + r.2.2)).find? fun b =>
    decide (lo ≤ b ∧ b + n ≤ hi) && runs.all fun r => decide (b + n ≤ r.2.1 ∨ r.2.1 + r.2.2 ≤ b)

/-- The run that an audio flow would get; some 0 for the other kinds. -/
def State.flowRun (s : State) (kind n : Nat) : Option Nat :=
  if kind = 2 ∨ kind = 3 then freeRun s.aud.rxRuns 4096 8192 n
  else if kind = 6 ∨ kind = 7 then freeRun s.aud.txRuns 2048 8192 n
  else some 0

/-- A handle that no flow has: the candidate, or the next free value after it. -/
def State.newHandle (s : State) : BitVec 32 :=
  let c := Config.flowHandle s.ing.nextHandle
  ((List.range (s.ing.flows.length + 1)).map fun i => c + BitVec.ofNat 32 i).find? (fun h => s.ing.flows.all fun f => f.handle != h)
    |>.getD c

/-- The checks of R90 up to the capacity of the pool, in order. -/
def State.flowCheck (s : State) (j : Job) : Option Nat :=
  let d := j.d
  let kind := u8 d 8
  let t := u16 d 10
  let legs := flowLegs d
  let owner := s.targetOwner kind t
  let rate := flowRate kind (u8 d 40) (u8 d 41) (u8 d 42)
  firstFail
    [(flowFieldsBad d, csBadParam),
     ((ubit d 9 0 && (legA d).port == (legB d).port) || legs.any (legBad kind), csBadParam),
     (legs.any fun l => decide (s.subports l.port ≤ l.sub) || !(s.unit (8 + l.port)).enable, csState),
     (s.flowTaken kind t, csNoResource),
     (!j.mayUse owner, s.ownerCode owner),
     (legs.any fun l => decide (1001 * s.lineRate l.port < s.subLoad l.port l.sub (isSend kind) + rate), csNoResource),
     (kind == 1 && decide (s.hbmFree < ringUnits (u8 d 40)), csNoSpace)]

/-- The flow of a descriptor. -/
def flowOf (d : List Byte) (handle : BitVec 32) (owner base seq : Nat) : Flow :=
  { handle := handle, kind := u8 d 8, owner := owner, target := u16 d 10, a := legA d,
    b := (if ubit d 9 0 then some (legB d) else none), pt := u8 d 38, mergeMs := u8 d 39, damage := ubit d 9 1, p0 := u8 d 40,
    p1 := u8 d 41, p2 := u8 d 42, p3 := u8 d 43, p4 := u8 d 44, p5 := u8 d 45, p6 := u8 d 46, ssrc := BitVec.ofNat 32 (u32 d 52),
    ttl := u8 d 48, dscp := u8 d 47, body := d, base := base, rtpSeq := seq, pkts := 0, rtpTs := 0 }

/-- The target takes a new flow: a source gets its ring and waits for a frame; an audio flow gets its run. -/
def State.placeFlow (s : State) (f : Flow) (tokens : Nat) : State :=
  if f.kind = 1 then
    (s.replaceRing f.target f.p0 tokens).updSrc f.target fun x =>
      { x with state := .search, fmt := Fmt.none, damagePub := f.damage, ipProg := [], ipClosed := [], ancWait := [],
               legA := false, legB := false, lastA := s.now, lastB := s.now, lostA := false, lostB := false, skewUs := 0,
               skewOver := none, marks := [] }
  else if f.kind = 2 ∨ f.kind = 3 then
    (s.updAud fun a => { a with rxRuns := a.rxRuns ++ [(f.target, f.base, f.p0)] }).setAudGrp (128 + f.target)
      { AudGrp.reset (128 + f.target) with base := f.base, count := f.p0 }
  else if f.kind = 6 ∨ f.kind = 7 then
    s.updAud fun a => { a with txRuns := a.txRuns ++ [(f.target, f.base, f.p0)] }
  else if f.kind = 5 then s.updDest f.target fun x => { x with rtpSeq := f.rtpSeq }
  else s

/-- A target with another owner's tag takes the tag of the privileged ring that has operated on it (R77). -/
def State.retagTarget (s : State) (kind t owner : Nat) : State :=
  let was := s.targetOwner kind t
  if was = 0 ∨ was = owner then s
  else if kind = 1 ∨ kind = 4 then s.updSrc t fun x => { x with owner := owner }
  else
    match s.feeder t with
    | some h => s.updHead h fun x => { x with owner := owner }
    | none => s.setFlows (s.ing.flows.map fun f => if f.kind = 5 ∧ f.target = t then { f with owner := owner } else f)

/-- Add a flow that has passed its checks. The first RTP sequence number of a send flow is a free value (log 2). -/
def State.addFlow (s : State) (d : List Byte) (owner base tokens : Nat) : BitVec 32 × State :=
  let h := s.newHandle
  let (v, s) := if isSend (u8 d 8) then s.fresh else (0, s)
  let f := flowOf d h owner base (v.toNat % 65536)
  let s := ((s.placeFlow f tokens).setFlows (s.ing.flows ++ [f])).retagTarget f.kind f.target owner
  (h, (s.updIng fun g => { g with nextHandle := g.nextHandle + 1 }).nvTouch (512 + f.target % 256 / 4))

/-- OP_FLOW_ADD. -/
def execOpFlowAdd (n : Fin 64) (s : State) : Out3 :=
  .next (s.runOp n 0x31 (fun _ => true) fun j s =>
    match s.flowCheck j with
    | some c => s.complete j c 0
    | none =>
      let kind := u8 j.d 8
      let tok := if kind = 1 then streamTokens 9 (u8 j.d 40) else 0
      let (ok, s) := s.leaveAsk j.owner 0 tok
      if !ok then s.complete j csNoLeave 0
      else
        match s.flowRun kind (u8 j.d 40) with
        | none => s.complete j csNoResource 0
        | some base =>
          let (h, s) := s.addFlow j.d j.owner base tok
          let units := if kind = 1 then ringUnits (u8 j.d 40) else 0
          s.complete j csOk (BitVec.ofNat 64 (h.toNat + 4294967296 * units)))

/-! ## OP_FLOW_DEL (R93, R269, R314, R524) -/

/-- A video receive flow leaves its source. -/
def State.unflowSource (s : State) (n : Nat) : State :=
  let s := s.abandon n (s.lacking n)
  let s := match (s.src n).ring with
    | some r => s.updIng fun g => { g with old := g.old ++ [OldRing.mk n r true] }
    | none => s
  s.updSrc n fun x =>
    { x with state := .idle, fmt := Fmt.none, remembered := none, ring := none, ipClosed := [], ancWait := [], legA := false,
             legB := false, marks := [], skewOver := none }

/-- An audio receive flow frees its run: its inputs lose their history, what their SRCs hold is abandoned. -/
def State.unflowRx (s : State) (t : Nat) : State :=
  match s.aud.rxRuns.find? fun r => r.1 == t with
  | none => s
  | some (_, base, count) =>
    let s := (List.range count).foldl (fun s c =>
      (s.inCount (base + c) 4 (s.audIn (base + c)).pend.length).setAudIn (base + c) AudIn.reset) s
    let s := (s.setAudGrp (128 + t) (AudGrp.reset (128 + t))).updAud fun a => { a with rxRuns := a.rxRuns.filter fun r => r.1 ≠ t }
    s.srcAssign

/-- An audio send flow frees its run: the routes to its outputs are removed. -/
def State.unflowTx (s : State) (t : Nat) : State :=
  match s.aud.txRuns.find? fun r => r.1 == t with
  | none => s
  | some (_, base, count) =>
    let s := (List.range count).foldl (fun s c => (s.setAudOut (base + c) AudOut.reset).nvTouch (576 + (base + c) / 43)) s
    (s.updAud fun a =>
      { a with txRuns := (a.txRuns.filter fun r => r.1 ≠ t), sent := Tab.set (fun _ => ([], [])) a.sent t ([], []) }).srcAssign

/-- Delete a flow. A kind 4 flow that belongs to a deleted video flow's source stays (log 82). -/
def State.delFlow (s : State) (f : Flow) : State :=
  let s := match f.kind with
    | 1 => s.unflowSource f.target
    | 2 => s.unflowRx f.target
    | 3 => s.unflowRx f.target
    | 5 => (s.uncheckDest f.target).updDest f.target fun x => { x with inService := false }
    | 6 => s.unflowTx f.target
    | 7 => s.unflowTx f.target
    | _ => s
  (s.setFlows (s.ing.flows.filter fun g => g.handle ≠ f.handle)).nvTouch (512 + f.target % 256 / 4)

/-- OP_FLOW_DEL. -/
def execOpFlowDel (n : Fin 64) (s : State) : Out3 :=
  .next (s.runOp n 0x32 (fun _ => true) fun j s =>
    match s.ing.flows.find? fun f => f.handle.toNat == u32 j.d 8 with
    | none => s.complete j csNotFound 0
    | some f => if j.mayUse f.owner then (s.delFlow f).complete j csOk 0 else s.complete j (s.ownerCode f.owner) 0)

/-! ## OP_SRC_SET (R83, R98, R104, R109, R110) -/

/-- The fields that the mask selects are out of range. -/
def srcSetBad (d : List Byte) : Bool :=
  let n := u16 d 8
  let m := fun k => ubit d 10 k
  decide (255 < n) ||
  (decide (128 ≤ n) && (m 2 || m 3 || m 4 || m 5 || m 7)) ||
  (m 3 && decide (n % 4 ≠ 0)) ||
  (m 0 && decide (u16 d 12 < 20 ∨ 60000 < u16 d 12)) ||
  (m 1 && decide (3 < u8 d 14 ∨ (u32 d 16 ≠ 0 ∧ u8 d 14 ≠ 3) ∨ (u32 d 16 = 0 ∧ u8 d 14 = 3))) ||
  (m 2 && (decide (1 < u8 d 20 ∨ (u8 d 20 = 0 ∧ u8 d 21 ≠ 0)) || (u8 d 20 == 1 && !isMode (u8 d 21)))) ||
  (m 3 && decide (2 < u8 d 22)) ||
  (m 4 && decide (2 < u8 d 25 ∨ 1 < u8 d 26 ∨ 2 < u8 d 27 ∨ 1 < u8 d 28)) ||
  (m 5 && decide (1 < u8 d 29)) ||
  (m 6 && decide (1 < u8 d 23)) ||
  (m 7 && decide (9 < u8 d 24))

/-- Units that a FIXED ring would take from the pool: none when the source's ring has that size. -/
def State.fixedNeed (s : State) (n mode : Nat) : Nat :=
  match (s.src n).ring with
  | some r => if r.bytes = ringBytes mode then 0 else ringUnits mode
  | none => ringUnits mode

/-- A named surface exists and is not FREEING. -/
def State.surfNamed (s : State) (h : BitVec 32) : Bool :=
  match s.surf h with
  | some f => decide (f.state ≠ .freeing)
  | none => false

/-- The checks of R110. -/
def State.srcSetCheck (s : State) (j : Job) : Option Nat :=
  let d := j.d
  let n := u16 d 8
  let slate := BitVec.ofNat 32 (u32 d 16)
  let named := ubit d 10 1 && u8 d 14 == 3
  let owners := [(s.src n).owner] ++ (if named then [s.surfOwner slate] else []) ++
    (if ubit d 10 3 && u8 d 22 == 1 then [1, 2, 3].map fun i => (s.src (n + i)).owner else [])
  let bad := owners.find? fun o => !j.mayUse o
  firstFail
    [(srcSetBad d, csBadParam),
     (named && !s.surfNamed slate, csNotFound),
     (bad.isSome, s.ownerCode (bad.getD 0)),
     (ubit d 10 2 && u8 d 20 == 1 && decide (s.hbmFree < s.fixedNeed n (u8 d 21)), csNoSpace)]

/-- The ring of a source becomes FIXED for a mode, or AUTO. A frame in progress goes on in the new ring (R108). -/
def State.setRing (s : State) (n : Nat) (fixed : Bool) (mode : Nat) : State :=
  let s := s.updSrc n fun x => { x with ringFixed := fixed, ringMax := if fixed then mode else 0 }
  if fixed && s.fixedNeed n mode != 0 then
    let k : Option Nat := match (s.src n).sdiProg with | some (some k) => some k | _ => none
    let s := (s.dropWrite n k).replaceRing n mode 0
    let s := match k with
      | some k => s.updSrc n fun x => { x with ring := x.ring.map fun r => r.updSlot k fun y => { y with writing := true } }
      | none => s
    let s : State := s
    let f := (s.src n).writes
    if ringBytes mode < ringBytes f ∧ ((s.src n).state = .locked ∨ ((s.src n).state = .search ∧ (s.src n).sdiProg.isSome = true)) then
      (s.abandon n (s.lacking n)).tooLarge n f
    else s
  else s

/-- A new quad setting (R86): ON holds the source in SEARCH until the group assembles. -/
def State.setQuad (s : State) (n q : Nat) : State :=
  let s := s.updSrc n fun x => { x with quad := q }
  let x := s.src n
  if q = 2 ∧ x.assembled = true then s.quadBreak n
  else if q = 1 ∧ x.assembled = false ∧ x.state ≠ .idle ∧ x.state ≠ .lost then s.srcSearch n
  else s

/-- A new rate_lock (R83). -/
def State.setRateLock (s : State) (n r : Nat) : State :=
  let s := s.updSrc n fun x => { x with rateLock := r }
  let stat := Adr.laneStat n
  if s.flag stat 1 then
    if r = 0 ∨ s.fget stat 6 3 = r then s
    else
      let s := s.cdrLost n
      if s.flag stat 0 then s.updSrc n fun x => { x with search := some (0, s.now) } else s
  else if s.flag stat 0 then s.updSrc n fun x => { x with search := some (0, s.now) }
  else s

/-- Change the fallback and slate; a slate counts as a reference (R104). -/
def State.setFallback (s : State) (n fb : Nat) (slate : BitVec 32) : State :=
  let old := (s.src n).slate
  let s := s.updSrc n fun x => { x with fallback := fb, slate := slate }
  let s := if slate = 0 then s else s.takeRefs [slate]
  if old = 0 then s else s.dropRefs [old]

/-- Apply the selected fields. -/
def State.srcSet (s : State) (d : List Byte) : State :=
  let n := u16 d 8
  let m := fun k => ubit d 10 k
  let s := if m 0 then s.updSrc n fun x => { x with holdMs := u16 d 12 } else s
  let s := if m 1 then s.setFallback n (u8 d 14) (BitVec.ofNat 32 (u32 d 16)) else s
  let s := if m 2 then s.setRing n (u8 d 20 == 1) (u8 d 21) else s
  let s := if m 3 then s.setQuad n (u8 d 22) else s
  let s := if m 4 then s.updSrc n fun x =>
      { x with defSampling := u8 d 25, defColorimetry := u8 d 26, defTransfer := u8 d 27, defRange := u8 d 28 } else s
  let s := if m 5 then s.updSrc n fun x => { x with pidOverride := u8 d 29 == 1 } else s
  let s := if m 6 then s.updSrc n fun x => { x with damagePub := u8 d 23 == 1 } else s
  if m 7 then s.setRateLock n (u8 d 24) else s

/-- OP_SRC_SET. -/
def execOpSrcSet (n : Fin 64) (s : State) : Out3 :=
  .next (s.runOp n 0x30 (fun _ => true) fun j s =>
    match s.srcSetCheck j with
    | some c => s.complete j c 0
    | none =>
      let k := u16 j.d 8
      let s := ((s.updSrc k fun x => { x with owner := j.owner }).srcSet j.d).nvTouch (512 + k / 4)
      let units := match (s.src k).ring with | some r => ceilDiv r.bytes 4096 | none => 0
      s.complete j csOk (BitVec.ofNat 64 units))

/-! ## OP_LEDGER_READ (R105 to R107 and the ledgers of the other chapters) -/

/-- Frames of a source in progress, plus those published and not yet taken (R105). -/
def State.srcPending (s : State) (n : Nat) : Nat :=
  let x := s.src n
  (match x.sdiProg with | some (some _) => 1 | _ => 0) + (x.ipProg.filter fun f => f.slot.isSome).length +
  (match x.ring with | some r => r.untaken | none => 0) +
  ((s.ing.old.filter fun o => o.src == n).map fun o => o.ring.untaken).sum

/-- Judgements of a head that have not ended (R299). -/
def State.judgePending (s : State) (h : Nat) : Nat :=
  (s.psn.dests.map fun e => (e.2.judging.filter fun g => g.head == h).length).sum

/-- The counters of a ledger, in the order of its table. -/
def State.ledgerOf (s : State) (kind i : Nat) : List Nat :=
  let c := fun k => s.led kind i k
  match kind with
  | 1 => [c 0, c 1, c 2, c 3, c 4, s.srcPending i, c 6, c 7]
  | 2 => [c 0, c 1, 0, 0, 0, 0, 0, 0] ++ (List.range 64).map fun k => c (8 + k)
  | 3 => [c 0, c 1, s.srf.list.length, (s.srf.list.filter fun f => decide (f.state = .freeing)).length, c 4, c 5,
          (s.srf.list.map (·.refs)).sum, (s.srf.list.map (·.units)).sum]
  | 4 => if (s.cnv i).state = .groupMember then List.replicate 8 0 else (List.range 8).map c
  | 5 => (List.range 8).map c
  | 6 => [c 0, c 1, c 2, c 3, s.judgePending i, c 5, c 6, 0]
  | 7 => [c 0, c 1, c 2, c 3, c 4, (s.audIn i).pend.length, c 6, 0]
  | 8 => [c 0, c 1, c 2, c 3, c 4, 0, 0, 0]
  | 9 =>
    if i = 0 then [powPool, powPool - s.lv.powFree, s.lv.powFree, s.lv.fixed, s.lv.powWith, c 5, c 6, c 7]
    else [fetPool, fetPool - s.lv.fetFree, s.lv.fetFree, 0, s.lv.fetWith, c 5, c 6, c 7]
  | 0x0A =>
    let e := s.evSrc i
    let p := ([0, 1, 2, 3].map fun k => ((s.stagedOf k).filter fun r => r.source == i).length).sum
    [e.occurred, e.delivered, e.overflowed, e.suppressed, p, 0, 0, 0]
  | 0x0B => (List.range 8).map c
  | _ => []

/-- The number of indexes of a ledger kind, 0 where there is no such kind. -/
def ledgerCount (kind : Nat) : Nat :=
  match kind with
  | 1 => 256 | 2 => 256 | 3 => 1 | 4 => 128 | 5 => 8 | 6 => 256 | 7 => 8192 | 8 => 8192 | 9 => 2 | 0x0A => 320 | 0x0B => 256
  | _ => 0

/-- OP_LEDGER_READ; `ok`: the host buffer was written. -/
def execOpLedgerRead (n : Fin 64) (ok : Bool) (s : State) : Out3 :=
  .next (s.runOp n 0xA0 (fun _ => true) fun j s =>
    let kind := u8 j.d 8
    let i := u16 j.d 10
    let need := if kind = 2 then 576 else 64
    if decide (ledgerCount kind ≤ i ∨ u64 j.d 16 % 64 ≠ 0 ∨ u32 j.d 24 < need) then s.complete j csBadParam 0
    else if ok then
      (s.hostWrite (u64 j.d 16) ((s.ledgerOf kind i).flatMap (leBytes 8))).complete j csOk s.phcResult
    else s.complete j csDmaErr 0)

end Sys2Proof.Machine
end

