-- ==== Sys2Proof/Machine/Lanes.lean ====
section
/-!
DEFINITION. Machine/Lanes.lean: lane groups, ports, loops and pattern tests, the host packet queue and the host link ("Media
lanes, network ports and host link", R371 to R397).
-/
namespace Sys2Proof.Machine

/-! ## What an SDI transmitter sends (R257, R264) -/

/-- TX_STAT.state: 0 OFF, 1 BLACK, 2 FED, 3 QUAD_MEMBER. In QUIET and STANDBY, and after a trip, every SDI destination sends
OFF (R257, R413). -/
def State.txState (s : State) (d : Nat) : Nat :=
  let x := s.dest d
  let st := s.fget Adr.pwrStat 2 0
  if decide (2 ≤ st ∧ st ≤ 5) || s.lv.tripped then 0
  else if x.head.isSome then 2
  else if x.quadMember then 3
  else if x.everFed && s.flag (Adr.txMap d) 6 then 1
  else 0

/-! ## Lane groups and ports (R372, R373, R378, R379) -/

/-- Power tokens of lane group 0 to 7, or of port 8 or 9. -/
def unitTokens (i : Nat) : Nat := if i = 7 then 8 else 72

/-- STAT of a lane group or a port. -/
def unitStat (i : Nat) : Nat := if i < 8 then Adr.grpStat i else Adr.portStat (i - 8)

/-- The bits no_leave and wr_ignored of that register. -/
def noLeaveBit (i : Nat) : Nat := if i < 8 then 1 else 9
def wrIgnoredBit (i : Nat) : Nat := if i < 8 then 2 else 10

/-- The subports of a port know their latencies for the mode that the port runs (R350). -/
def State.portLatencies (s : State) (p : Nat) : State :=
  (List.range 8).foldl (fun s q =>
    s.wr (Adr.phcLat (subNo p q))
      (if q < s.subports p then (Config.portLat (subNo p q) (s.fget (Adr.portCtl p) 2 1) (s.flag (Adr.portCtl p) 3)).toNat else 0)) s

/-- Set an enable: the module asks for the unit's tokens; refused, only no_leave is set (R373). -/
def State.unitOn (s : State) (i : Nat) : State :=
  let u := s.unit i
  if u.enable then s
  else
    let r := s.leaveAsk 0 (unitTokens i) 0
    if r.1 then
      let s := (r.2.setUnit i { u with enable := true, enabled := true, tokens := u.tokens + unitTokens i }).nvTouch 512
      if i < 8 then s else s.portLatencies (i - 8)
    else r.2.setBit (unitStat i) (noLeaveBit i)

/-- The video lanes of a group. -/
def groupLanes (g : Nat) : List Nat := ((List.range 18).map fun k => 18 * g + k).filter (· < 128)

/-- A lane feeds a destination or publishes a LOCKED source. -/
def State.laneUsed (s : State) (n : Nat) : Bool :=
  (s.dest n).head.isSome || (s.dest n).quadMember || decide ((s.src n).state = .locked) ||
  (decide ((s.src n).state = .quadMember) && decide ((s.src (quadHead n)).state = .locked))

/-- A unit is in use: its enable cannot be cleared. -/
def State.unitUsed (s : State) (i : Nat) : Bool :=
  if i < 8 then (groupLanes i).any s.laneUsed
  else s.ing.flows.any fun f => f.legs.any fun l => l.port == i - 8

/-- Clear an enable. -/
def State.unitOff (s : State) (i : Nat) : State :=
  let u := s.unit i
  if u.enable = false then s
  else if s.unitUsed i then s.setBit (unitStat i) (wrIgnoredBit i)
  else (s.setUnit i { u with enable := false, down := true }).nvTouch 512

/-- LANE_GRP_ENABLE. -/
def execLaneGrpEnable (g : Fin 8) (s : State) : Out3 := .next (s.unitOn g)

/-- LANE_GRP_DISABLE. -/
def execLaneGrpDisable (g : Fin 8) (s : State) : Out3 := .next (s.unitOff g)

/-- PORT_ENABLE. -/
def execPortEnable (p : Fin 2) (s : State) : Out3 := .next (s.unitOn (8 + p))

/-- PORT_DISABLE. -/
def execPortDisable (p : Fin 2) (s : State) : Out3 := .next (s.unitOff (8 + p))

/-! ## Links (R376, R378, R379) -/

/-- The first lane of a subport, and how many it uses. -/
def State.subLanes (s : State) (p q : Nat) : List Nat :=
  let k := 8 / s.subports p
  (List.range k).map fun i => 128 + 8 * p + q * k + i

/-- A subport's link bit changes: its lanes, EV_PORT_LINK. -/
def State.setLink (s : State) (p q : Nat) (up : Bool) : State :=
  let u := s.unit (8 + p)
  let s := s.setUnit (8 + p) { u with link := if up then u.link ||| BitVec.ofNat 8 (2 ^ q) else u.link &&& ~~~BitVec.ofNat 8 (2 ^ q) }
  let rate := if s.fget (Adr.portCtl p) 2 1 = 3 then 11 else 10
  let s := (s.subLanes p q).foldl (fun s n =>
    let a := Adr.laneStat n
    if up then ((s.setBit a 1).setBit a 2).fset a 6 3 rate else s.fset a 6 1 0) s
  s.raise (Adr.portCause p) (Adr.portMask p) 0 (272 + p) 0x0D10 [(21, 1, q), (22, 1, b2n up)]

/-- PORT_LINK_CHANGE: a subport's PCS locks or loses lock. When a link comes up the IGMP reports are sent again. -/
def execPortLinkChange (p : Fin 2) (q : Fin 8) (up : Bool) (s : State) : Out3 :=
  .next (
    if s.linkUp p q = up then s
    else if up then
      if (s.unit (8 + p)).enable && decide (q.val < s.subports p) && (s.subLanes p q).all fun n => s.fget (Adr.laneLoop n) 1 0 == 0 && s.flag (Adr.laneCtl n) 0 then
        let s := s.setLink p q true
        let l := (groupsOf s.ing.flows).filter fun k => decide (k.1.port = p.val ∧ k.1.sub = q.val)
        s.igmpChange (l.map fun k => s.report k.1 k.2 (membership s.ing.flows k.1 k.2))
      else s
    else s.setLink p q false)

/-- Every link of a port goes down. -/
def State.portDown (s : State) (p : Nat) : State :=
  (List.range 8).foldl (fun s q => if s.linkUp p q then s.setLink p q false else s) s

/-- The receiver of a video lane has no power any more. -/
def State.laneDark (s : State) (n : Nat) : State :=
  let s := if s.flag (Adr.laneStat n) 1 then s.cdrLost n else s
  let s := if s.flag (Adr.laneStat n) 0 then (s.fset (Adr.laneStat n) 0 0 0).laneSignal n 0 else s
  s.updSrc n fun x => { x with search := none }

/-- POWER_DOWN_END: the tokens of the unit return and STAT.enabled falls. When enable was set again meanwhile, only the
tokens of the earlier period return (log 33). -/
def execPowerDownEnd (i : Fin 10) (s : State) : Out3 :=
  let u := s.unit i
  .next (
    if u.down then
      let t := unitTokens i
      let s := s.setUnit i { u with down := false, enabled := u.enable, tokens := u.tokens - t, fixed := false }
      let s := if u.fixed then s.updLv fun v => { v with fixed := v.fixed - t } else s
      let s := s.leaveRet t 0
      if u.enable then s
      else if i.val < 8 then (groupLanes i).foldl (fun s n => s.laneDark n) s
      else s.portDown (i - 8)
    else s)

/-- FEC_REPORT: codewords that the FEC of a port has corrected and not corrected in the last second. -/
def execFecReport (p : Fin 2) (corrected uncorrected : Nat) (s : State) : Out3 :=
  let s := s.count (Adr.fecCorr p) 31 0 corrected
  .next (
    if uncorrected = 0 then s
    else (s.count (Adr.fecUncorr p) 31 0 uncorrected).raise (Adr.portCause p) (Adr.portMask p) 1 (272 + p) 0x0D11 [(24, 4, uncorrected)])

/-! ## Loops and patterns (R376, R377) -/

/-- Every subport that uses a network lane goes down. -/
def State.laneLinksDown (s : State) (n : Nat) : State :=
  let p := (n - 128) / 8
  (List.range 8).foldl (fun s q => if s.linkUp p q && (s.subLanes p q).contains n then s.setLink p q false else s) s

/-- LANE.LOOP: on a network lane a loop takes every subport that uses the lane down. -/
def State.setLoop (s : State) (n mode : Nat) : State :=
  let s := s.fset (Adr.laneLoop n) 1 0 mode
  if n < 128 ∨ mode = 0 then s else s.laneLinksDown n

/-- LOOP_SELECT. -/
def execLoopSelect (n : Fin 144) (mode : BitVec 2) (s : State) : Out3 := .next (s.setLoop n mode.toNat)

/-- PRBS.gen: CHECKFIELD is ignored while the destination sends OFF. -/
def State.setGen (s : State) (n g : Nat) : State :=
  if g = 8 ∧ (128 ≤ n ∨ s.txState n = 0) then s else s.fset (Adr.lanePrbs n) 3 0 g

/-- PRBS_GENERATOR_SELECT. -/
def execPrbsGeneratorSelect (n : Fin 144) (gen : BitVec 4) (s : State) : Out3 := .next (s.setGen n gen.toNat)

/-- PRBS.chk: the write clears both counters, and the checker looks for lock. -/
def State.setChk (s : State) (n c : Nat) : State :=
  ((((s.fset (Adr.lanePrbs n) 8 4 c).wr (Adr.prbsBitsLo n) 0).wr (Adr.prbsBitsHi n) 0).wr (Adr.prbsErrLo n) 0).wr (Adr.prbsErrHi n) 0

/-- PRBS_CHECKER_SELECT. -/
def execPrbsCheckerSelect (n : Fin 144) (chk : BitVec 4) (s : State) : Out3 := .next (s.setChk n chk.toNat)

/-- Add to a 64-bit counter in two registers. -/
def State.add64 (s : State) (lo hi k : Nat) : State :=
  let v := s.rd lo + 4294967296 * s.rd hi + k
  (s.wr lo (v % 4294967296)).wr hi (v / 4294967296)

/-- The checker of a lane receives the generator's pattern: a near-end loop (R376, R390). -/
def State.selfTest (s : State) (n : Nat) : Bool :=
  (s.fget (Adr.laneLoop n) 1 0 == 1 || s.fget (Adr.laneLoop n) 1 0 == 2) && s.fget (Adr.lanePrbs n) 3 0 != 0 &&
  s.fget (Adr.lanePrbs n) 3 0 == s.fget (Adr.lanePrbs n) 7 4

/-- PRBS_INJECT: one bit error in the generated stream; a locked checker that the stream loops back to counts it. -/
def State.inject (s : State) (n : Nat) : State :=
  if s.selfTest n && s.flag (Adr.lanePrbs n) 8 then s.add64 (Adr.prbsErrLo n) (Adr.prbsErrHi n) 1 else s

def execPrbsInject (n : Fin 144) (s : State) : Out3 := .next (s.inject n)

/-- PRBS_CHECKER_LOCK. -/
def execPrbsCheckerLock (n : Fin 144) (s : State) : Out3 :=
  .next (
    if s.fget (Adr.lanePrbs n) 7 4 ≠ 0 ∧ s.flag (Adr.lanePrbs n) 8 = false then
      (s.setBit (Adr.lanePrbs n) 8).raise (Adr.laneCause n) (Adr.laneMask n) 1 (264 + n / 18) 0x0D01
        [(20, 2, n), (22, 1, 1), (24, 4, s.rd (Adr.prbsErrLo n))]
    else s)

/-- PRBS_CHECKER_LOSS, with the bits (words for CHECKFIELD) compared and in error since the lock. -/
def execPrbsCheckerLoss (n : Fin 144) (compared errors : Nat) (s : State) : Out3 :=
  .next (
    if s.flag (Adr.lanePrbs n) 8 then
      let s := (s.add64 (Adr.prbsBitsLo n) (Adr.prbsBitsHi n) compared).add64 (Adr.prbsErrLo n) (Adr.prbsErrHi n) errors
      (s.fset (Adr.lanePrbs n) 8 8 0).raise (Adr.laneCause n) (Adr.laneMask n) 1 (264 + n / 18) 0x0D01
        [(20, 2, n), (24, 4, s.rd (Adr.prbsErrLo n))]
    else s)

/-! ## Frames for the host (R381 to R383) -/

/-- Big-endian numbers of a frame. -/
def be16 (f : List Byte) (i : Nat) : Nat := 256 * u8 f i + u8 f (i + 1)
def be32 (f : List Byte) (i : Nat) : Nat := 65536 * be16 f i + be16 f (i + 2)

def etherType (f : List Byte) : Nat := be16 f 12
def isIpv4 (f : List Byte) : Bool := etherType f == 0x0800
/-- Offset of the transport header. -/
def ipPayload (f : List Byte) : Nat := 14 + 4 * (u8 f 14 % 16)
def isUdp (f : List Byte) : Bool := isIpv4 f && u8 f 23 == 17
def udpDst (f : List Byte) : Nat := be16 f (ipPayload f + 2)

/-- A receive leg of some flow takes the frame (R92). -/
def State.legTakes (s : State) (p q : Nat) (tci : Option Nat) (f : List Byte) : Bool :=
  isUdp f && s.ing.flows.any fun g => !isSend g.kind && g.legs.any fun l =>
    l.accepts g.pt
      { port := p, sub := q, dst := BitVec.ofNat 32 (be32 f 30), src := BitVec.ofNat 32 (be32 f 26), udp := udpDst f,
        vid := (tci.getD 0) % 4096, tagged := tci.isSome, pt := u8 f (ipPayload f + 9) % 128, ts := 0, lost := 0, line := 0,
        off := 0, npix := 0, marker := false, second := false }

/-- The host class of a frame (R382). -/
def State.hostClass (s : State) (p q : Nat) (tci : Option Nat) (f : List Byte) : Option Nat :=
  let ip := s.rd (Adr.subIp (subNo p q))
  let dst := be32 f 30
  let mine := isIpv4 f && dst == ip
  let joined := (groupsOf s.ing.flows).any fun k => decide (k.1.port = p ∧ k.1.sub = q ∧ k.2.toNat = dst)
  if etherType f = 0x88F7 ∨ (isUdp f = true ∧ (udpDst f = 319 ∨ udpDst f = 320)) then some 0
  else if etherType f = 0x0806 then some 1
  else if isIpv4 f && u8 f 23 == 1 && (mine || joined) then some 2
  else if isUdp f && mine && (List.range 8).any (fun i => s.flag (Adr.hqFilt i) 16 && s.fget (Adr.hqFilt i) 15 0 == udpDst f) then some 3
  else if mine && !s.legTakes p q tci f then some 4
  else none

/-- Units of the PHC, 2^-32 ns, in 1/16 ns. -/
def sixteenth : Int := 268435456

/-- A timestamp of R351: corrected by `lat` and `asym` in 1/16 ns. -/
def State.stamp (s : State) (q : Nat) (egress stepped : Bool) : List Byte :=
  let lat := s.rd (Adr.phcLat q)
  let asym := (BitVec.ofNat 32 (s.rd (Adr.phcAsym q))).toInt
  let corr : Int := if egress then (bits lat 31 16 : Int) - asym else -(bits lat 15 0 : Int) - asym
  let t := (((s.tim.phc : Int) + corr * sixteenth) % ((281474976710656 * phcUnit : Nat) : Int)).toNat
  let t := t / 268435456 * 268435456
  leBytes 4 (t % 4294967296) ++ leBytes 4 (t % phcUnit / 4294967296) ++ leBytes 6 (t / phcUnit) ++
  [BitVec.ofNat 8 q, BitVec.ofNat 8 (1 + 2 * b2n egress + 4 * b2n stepped)]

/-- Phase bit of a ring of 2^k slots at a producer index (R58). -/
def hqPhase (tail k : Nat) : Nat := (tail / 2 ^ k + 1) % 2

/-- A frame is discarded for want of a slot: counted, and part of a run (R383). -/
def State.hqDiscard (s : State) : State :=
  ((s.count Adr.hqDrop 31 0 1).setBit Adr.hqCause 0).updNet fun x => { x with hq := { x.hq with dropRun := x.hq.dropRun + 1 } }

/-- A run of discards ends: its event tells how long it was. -/
def State.hqRunEnd (s : State) : State :=
  if s.net.hq.dropRun = 0 then s
  else
    let k := s.net.hq.dropRun
    let s := s.updNet fun x => { x with hq := { x.hq with dropRun := 0 } }
    if s.flag Adr.hqMask 0 then s.occur 274 0x0D20 [(24, 4, k)] else s

/-- Write a slot of the receive ring. -/
def State.hqStore (s : State) (q cls : Nat) (tci : Option Nat) (stepped : Bool) (f : List Byte) : State :=
  let h := s.net.hq
  let t := h.rxTail.toNat
  let stamped := decide (etherType f = 0x88F7) || (isUdp f && udpDst f == 319)
  let hdr := leBytes 2 f.length ++ [BitVec.ofNat 8 q, BitVec.ofNat 8 (hqPhase t h.rxSize + 2 * b2n tci.isSome + 16 * cls)] ++
    leBytes 2 (tci.getD 0) ++ List.replicate 10 0 ++ (if stamped then s.stamp q false stepped else List.replicate 16 0)
  let s := s.hqRunEnd
  let s := s.hostWrite (h.rxBase.toNat + t % 2 ^ h.rxSize * 2048) (hdr ++ f)
  let s := s.updNet fun x => { x with hq := { x.hq with rxTail := x.hq.rxTail + 1 } }
  s.interrupt h.rxVector

/-- The receive ring has a free slot. A closed ring has none, and in D3hot nothing is written (R388). -/
def State.hqRoom (s : State) : Bool :=
  let h := s.net.hq
  h.rxEnable && decide ((h.rxTail - h.rxHead).toNat < 2 ^ h.rxSize) && !s.hif.d3hot

/-- HQ_RX_FRAME: a frame, without FCS and with its VLAN tag removed, arrives on subport `q` of port `p`. `stepped`: a PHC
step fell between its raw timestamp and the correction. -/
def execHqRxFrame (p : Fin 2) (q : Fin 8) (tci : Option (BitVec 16)) (stepped : Bool) (f : List Byte) (s : State) : Out3 :=
  let t := tci.map (·.toNat)
  .next (
    match s.hostClass p q t f with
    | none => s
    | some c =>
      if 2016 < f.length then s.count Adr.hqDrop 31 0 1
      else if s.hqRoom then s.hqStore (subNo p q) c t stepped f
      else s.hqDiscard)

/-- UNMATCHED_FRAME: a frame that no leg and no host class takes. -/
def execUnmatchedFrame (p : Fin 2) (q : Fin 8) (tci : Option (BitVec 16)) (f : List Byte) (s : State) : Out3 :=
  let t := tci.map (·.toNat)
  .next (if (s.hostClass p q t f).isNone && !s.legTakes p q t f then s.count (Adr.subRxDrop (subNo p q)) 31 0 1 else s)

/-! ## Frames from the host (R384, R385) -/

/-- A new transmit tail. -/
def State.hqDoorbell (s : State) (v : Nat) : State :=
  if s.net.hq.txEnable then s.updNet fun x => { x with hq := { x.hq with txTail := BitVec.ofNat 16 v } } else s

/-- HQ_TX_DB. -/
def execHqTxDb (v : BitVec 16) (s : State) : Out3 := .next (s.hqDoorbell v.toNat)

/-- HQ_TX_DONE: the next entry has left or is discarded. `entry`: its 64 bytes as read, none when that read failed; `dmaOk`:
its frame was read; `stepped` as for a received frame. -/
def execHqTxDone (entry : Option (List Byte)) (dmaOk stepped : Bool) (s : State) : Out3 :=
  let h := s.net.hq
  .next (
    if h.txEnable && h.txHead != h.txTail && !s.hif.d3hot then
      let e := entry.getD []
      let q := u8 e 10
      let p := q / 8
      let err := entry.isNone || !dmaOk || decide (u16 e 8 < 60 ∨ 1518 < u16 e 8 ∨ 15 < q) || decide (s.subports p ≤ q % 8) ||
        !s.linkUp p (q % 8)
      let ts := ubit e 11 0
      let back := [BitVec.ofNat 8 (b2n ts + 2 + 4 * b2n err)] ++ List.replicate 4 0 ++
        (if ts && !err then s.stamp q true stepped else List.replicate 16 0)
      let s := s.hostWrite (h.txBase.toNat + h.txHead.toNat % 2 ^ h.txSize * 64 + 11) back
      let s := s.updNet fun x => { x with hq := { x.hq with txHead := x.hq.txHead + 1 } }
      s.interrupt h.txVector
    else s)

/-! ## The host link (R388, R397) -/

/-- D3HOT_ENTRY. -/
def execD3hotEntry (s : State) : Out3 := .next (s.updHif fun h => { h with d3hot := true })

/-- PCIE_AER_ERROR: 0 correctable, 1 non-fatal, 2 fatal, with the AER status bits. -/
def execPcieAerError (severity : Fin 3) (status : BitVec 32) (s : State) : Out3 :=
  .next (s.occur 275 0x0D30 [(22, 1, severity), (24, 4, status.toNat)])

end Sys2Proof.Machine
end

