-- ==== Sys2Proof/Machine/Time.lean ====
section
/-!
DEFINITION. Machine/Time.lean: the PHC, its steps, PPS and the analog references (R345 to R355, R365, R369).
-/
namespace Sys2Proof.Machine

/-! ## The time base -/

/-- One tick of the 500 MHz clock (R345). -/
def State.tick (s : State) : State :=
  s.updTim fun t => { t with ct := t.ct + 1, phc := (t.phc + t.incr) % (281474976710656 * phcUnit) }

/-- A cause of the PHC and its event. -/
def State.phcRaise (s : State) (bit code : Nat) (d : List (Nat × Nat × Nat)) : State :=
  s.raise Adr.phcCause Adr.phcMask bit 276 code d

/-! ## Synthesisers, as far as the PHC reaches them -/

def State.syn (s : State) (n : Nat) : Syn := Tab.get (fun _ => Syn.reset) s.tim.syns n
def State.setSyn (s : State) (n : Nat) (v : Syn) : State :=
  s.updTim fun t => { t with syns := (Tab.set (fun _ => Syn.reset) t.syns n v) }
def State.updSyn (s : State) (n : Nat) (f : Syn → Syn) : State := s.setSyn n (f (s.syn n))

/-- A cause of a synthesiser and its event. -/
def State.synRaise (s : State) (n bit code : Nat) (d : List (Nat × Nat × Nat)) : State :=
  s.raise (Adr.syCause n) (Adr.syMask n) bit 278 code ((20, 1, n) :: d)

/-- A slew ends without having removed its error, or with it. -/
def State.slewEnd (s : State) (n : Nat) : State :=
  if (s.syn n).slewing then
    (s.updSyn n fun x => { x with slewing := false, ppm := 0, goal := 0 }).synRaise n 4 0x0C24 [(24, 4, toTwos 32 (s.syn n).phase)]
  else s

/-- A relock begins (R361). -/
def State.relockBegin (s : State) (n cause : Nat) : State :=
  (s.slewEnd n).updSyn n fun x => { x with relock := some cause, returned := false }

/-- The source of a synthesiser changes its frequency from `old` to `new`: more than 10 ppm, or less than 1 ms after the
change before it, makes it relock (R359). -/
def State.synFollow (s : State) (n old new : Nat) : State :=
  let x := s.syn n
  if x.state = .locked ∧ x.active = 1 ∧ old ≠ new then
    let big := decide (old < 100000 * (max old new - min old new))
    let soon := match x.changeAt with | some t => decide (s.now < t + msTicks 1) | none => false
    let s := s.updSyn n fun y => { y with changeAt := some s.now }
    if big || soon then s.relockBegin n 1 else s
  else s

/-! ## The increment (R347, R349) -/

/-- The limits of 500 ppm about 2.0 ns. -/
def incrMin : Nat := 8585639625
def incrMax : Nat := 8594229559

/-- The PHC enters or leaves holdover. -/
def State.phcHoldover (s : State) (on : Bool) : State :=
  (s.fset Adr.phcStat 0 0 (b2n on)).phcRaise 3 0x0C03 [(20, 1, b2n on)]

/-- A write to INCR_FRAC applies both parts. In STANDBY the PHC stays in holdover (R349). -/
def State.incrWrite (s : State) (frac : Nat) : State :=
  let s := s.wr Adr.incrFrac frac
  let ask := s.fget Adr.incrNs 3 0 * 4294967296 + frac
  let new := max incrMin (min incrMax ask)
  let old := s.tim.incr
  let s := s.updTim fun t => { t with incr := new, incrAt := t.ct }
  let s := if new = ask then s else (s.setBit Adr.phcStat 3).phcRaise 4 0x0C04 [(24, 4, frac)]
  let s := if s.flag Adr.phcStat 0 && s.fget Adr.pwrStat 2 0 != 3 then s.phcHoldover false else s
  (List.range 32).foldl (fun s n => s.synFollow n old new) s

/-- PHC_INCR_WRITE. -/
def execPhcIncrWrite (frac : BitVec 32) (s : State) : Out3 := .next (s.incrWrite frac.toNat)

/-- PHC_HOLDOVER_TIMEOUT. -/
def execPhcHoldoverTimeout (s : State) : Out3 :=
  .next (
    if s.flag Adr.phcStat 0 = false ∧ s.tim.incrAt + msTicks (s.fget Adr.phcHold 15 0) ≤ s.now then s.phcHoldover true else s)

/-! ## Steps (R348, R365) -/

/-- The PHC takes a new time: EV_PHC_STEP with the amount applied, and the count of steps. -/
def State.phcJump (s : State) (new kind : Nat) : State :=
  let amount := ((new : Int) - s.tim.phc) / 4294967296
  let s := s.updTim fun t => { t with phc := new }
  let s := s.fset Adr.phcStat 31 16 (s.fget Adr.phcStat 31 16 + 1)
  s.phcRaise 0 0x0C00 [(20, 1, kind), (24, 8, toTwos 64 amount)]

/-- The amount lies in the range of its mode. -/
def PhcStep.ok (p : PhcStep) : Bool :=
  if p.set then decide (p.ns.toNat ≤ 999999999) else decide (-999999999 ≤ p.ns.toInt ∧ p.ns.toInt ≤ 999999999)

/-- The step applies: SET loads the value and clears the fraction, ADD keeps the fraction. -/
def State.phcApply (s : State) (p : PhcStep) : State :=
  if p.set then s.phcJump (p.sec.toNat * phcUnit + p.ns.toNat * 4294967296) 1
  else
    let a : Int := p.sec.toInt * 1000000000 + p.ns.toInt
    s.phcJump (((s.tim.phc : Int) + a * 4294967296) % ((281474976710656 * phcUnit : Nat) : Int)).toNat 0

/-- A write of STEP_CTL with go: at once, or at the next PPS edge. -/
def State.stepGo (s : State) : State :=
  if s.flag Adr.phcStat 1 then s
  else
    let p : PhcStep := { set := s.flag Adr.stepCtl 0, ns := BitVec.ofNat 32 (s.rd Adr.stepNs),
                         sec := BitVec.ofNat 48 (s.rd Adr.stepSecLo + 4294967296 * s.fget Adr.stepSecHi 15 0) }
    if p.ok = false then s.setBit Adr.phcStat 4
    else if s.flag Adr.stepCtl 2 then (s.updTim fun t => { t with stepWait := some p }).setBit Adr.phcStat 1
    else s.phcApply p

/-- PHC_STEP_GO: STEP_CTL is written with these values of mode and at_pps, and go. -/
def execPhcStepGo (mode atPps : Bool) (s : State) : Out3 :=
  .next (((s.fset Adr.stepCtl 0 0 (b2n mode)).fset Adr.stepCtl 2 2 (b2n atPps)).stepGo)

/-! ## Latches of reads (R8, R346, R535) -/

/-- A requester latches a value for an address. -/
def State.latch (s : State) (who addr v : Nat) : State :=
  { s with latches := (s.latches.filter fun l => !(l.who == who && l.addr == addr)) ++ [⟨who, addr, BitVec.ofNat 32 v⟩] }

/-- The latched value of a requester, used up by the read. -/
def State.unlatch (s : State) (who addr : Nat) : Option (BitVec 32) × State :=
  match s.latches.find? fun l => l.who == who && l.addr == addr with
  | some l => (some l.value, { s with latches := s.latches.filter fun l => !(l.who == who && l.addr == addr) })
  | none => (none, s)

/-- A read of NOW_NS. -/
def State.readNow (s : State) (who : Nat) : State :=
  let s := ((s.latch who Adr.nowFrac s.phcFrac).latch who Adr.nowSecLo (s.phcSec % 4294967296)).latch who Adr.nowSecHi (s.phcSec / 4294967296)
  { s with reply := .word (BitVec.ofNat 32 s.phcNs) }

/-- PHC_NOW_READ by the host link (0), pair A (1) or pair B (2). -/
def execPhcNowRead (who : Fin 3) (s : State) : Out3 := .next (s.readNow who)

/-! ## PPS (R352, R365) -/

/-- The capture of an edge, corrected for delay_ns. -/
def State.ppsCapture (s : State) : Nat :=
  (((s.tim.phc : Int) - (s.fget Adr.ppsCtl 31 8 : Int) * 4294967296) % ((281474976710656 * phcUnit : Nat) : Int)).toNat

/-- Latch the capture and raise EV_PPS when it is asked for. -/
def State.ppsLatch (s : State) (c : Nat) : State :=
  let s := ((s.wr Adr.ppsNs (c % phcUnit / 4294967296)).wr Adr.ppsSecLo (c / phcUnit % 4294967296)).wr Adr.ppsSecHi (c / phcUnit / 4294967296)
  if s.flag Adr.ppsCtl 3 then s.phcRaise 1 0x0C01 [(24, 4, c % phcUnit / 4294967296), (28, 4, c / phcUnit)] else s

/-- PPS_EDGE: an edge less than 0.5 s after the last one is ignored. A waiting step applies first; the capture shows the PHC
after it. ALIGN sets the PHC to the whole second nearest to the capture, unless a waiting step has just applied (log 35). -/
def execPpsEdge (s : State) : Out3 :=
  .next (
    let early := match s.tim.ppsAt with | some t => decide (s.now < t + msTicks 500) | none => false
    if early then s
    else
      let s := (s.updTim fun t => { t with ppsAt := some t.ct }).setBit Adr.phcStat 2
      let wait := s.tim.stepWait
      let s := match wait with
        | some p => ((s.updTim fun t => { t with stepWait := none }).fset Adr.phcStat 1 1 0).phcApply p
        | none => s
      let mode := s.fget Adr.ppsCtl 1 0
      if mode = 1 ∨ mode = 2 then
        let c := s.ppsCapture
        let s := s.ppsLatch c
        if mode = 2 then
          let s := (s.fset Adr.ppsCtl 1 0 1).nvTouch 512
          if wait.isSome then s else s.phcJump ((c + phcUnit / 2) / phcUnit % 281474976710656 * phcUnit) 2
        else s
      else s)

/-- PPS_LOST: no edge for 1.5 s. -/
def execPpsLost (s : State) : Out3 :=
  .next (
    let due := match s.tim.ppsAt with | some t => decide (t + msTicks 1500 ≤ s.now) | none => false
    if due && s.flag Adr.phcStat 2 then (s.fset Adr.phcStat 2 2 0).phcRaise 2 0x0C02 [] else s)

/-! ## Analog references (R354) -/

def State.refIn (s : State) (r : Nat) : RefIn := Tab.get (fun _ => RefIn.reset) s.tim.refs r
def State.setRefIn (s : State) (r : Nat) (v : RefIn) : State :=
  s.updTim fun t => { t with refs := (Tab.set (fun _ => RefIn.reset) t.refs r v) }

/-- A cause of a reference and its event. -/
def State.refRaise (s : State) (r bit code : Nat) (d : List (Nat × Nat × Nat)) : State :=
  s.raise (Adr.refCause r) (Adr.refMask r) bit 277 code ((20, 1, r) :: d)

/-- An input accepts a format: bi-level 525i59.94 and 625i50, tri-level 720p, 1080i and 1080p; within 50 ppm. -/
def refAccepts (expect mode : Nat) (tri : Bool) (ppm : Int) : Bool :=
  decide (-200 ≤ ppm ∧ ppm ≤ 200) && isMode mode &&
  (if tri then decide (0x10 ≤ mode ∧ mode ≤ 0x37 ∧ expect ≠ 1) else decide (mode ≤ 2 ∧ expect ≠ 2))

/-- STAT.state, mode, tri and ppm of a reference. -/
def State.refShow (s : State) (r st mode : Nat) (tri : Bool) (ppm : Int) : State :=
  s.wr (Adr.refStat r) (st + 4 * b2n tri + 256 * mode + 65536 * toTwos 16 ppm)

/-- REF_ALIGNMENT_POINT: the frame's format as measured (0: none that the module knows), its sync and its frequency in
0.25 ppm. Two consecutive frames that agree are accepted; a changed format returns the input to SEARCH. -/
def execRefAlignmentPoint (r : Fin 2) (mode : BitVec 8) (tri : Bool) (ppm : BitVec 16) (s : State) : Out3 :=
  .next (
    if s.flag (Adr.refCtl r) 0 then
      let m := mode.toNat
      let s := (s.wr (Adr.refEdgeNs r) s.phcNs).wr (Adr.refEdgeSecLo r) (s.phcSec % 4294967296)
      let x := { s.refIn r with edgeAt := s.now }
      let st := s.fget (Adr.refStat r) 1 0
      let old := s.fget (Adr.refStat r) 15 8
      let ok := refAccepts (s.fget (Adr.refCtl r) 3 2) m tri ppm.toInt
      if st = 2 then
        if m = old ∧ ok = true then (s.setRefIn r x).refShow r 2 m tri ppm.toInt
        else
          ((s.setRefIn r { x with cand := (if ok then some m else none), present := none }).refShow r 1 0 tri ppm.toInt).refRaise r 2 0x0C12
            [(22, 1, old), (23, 1, m)]
      else if ok then
        if x.cand = some m then
          ((s.setRefIn r { x with cand := none, present := some s.now }).refShow r 2 m tri ppm.toInt).refRaise r 0 0x0C10 [(22, 1, m)]
        else (s.setRefIn r { x with cand := some m }).refShow r 1 0 tri ppm.toInt
      else (s.setRefIn r { x with cand := none }).refShow r 3 0 tri ppm.toInt
    else s)

/-- No sync on a reference any more: EV_REF_LOST. -/
def State.refAbsent (s : State) (r : Nat) : State :=
  if s.fget (Adr.refStat r) 1 0 = 0 then s
  else ((s.setRefIn r { s.refIn r with cand := none, present := none }).wr (Adr.refStat r) 0).refRaise r 1 0x0C11 []

/-- REF_SYNC_ABSENT. -/
def execRefSyncAbsent (r : Fin 2) (s : State) : Out3 := .next (s.refAbsent r)

end Sys2Proof.Machine
end

