-- ==== Sys2Proof/Machine/Synth.lean ====
section
/-!
DEFINITION. Machine/Synth.lean: synthesisers and polders (R356 to R366).
-/
namespace Sys2Proof.Machine

/-! ## What uses a synthesiser output -/

/-- Output 4n + m is enabled. -/
def State.outOn (s : State) (o : Nat) : Bool := s.flag (Adr.syOutCtl (o / 4) (o % 4)) 8

/-- A polder is enabled and names the output. -/
def State.polderOn (s : State) (p : Nat) : Bool := s.flag (Adr.polderCtl p) 16
def State.polderOut (s : State) (p : Nat) : Nat := s.fget (Adr.polderCtl p) 6 0

/-- The enabled polders on an output. -/
def State.poldersOf (s : State) (o : Nat) : List Nat := (List.range 32).filter fun p => s.polderOn p && s.polderOut p == o

/-- The audio timeline runs on the output (R317). -/
def State.audioOn (s : State) (o : Nat) : Bool := s.flag Adr.audClk 7 && s.fget Adr.audClk 6 0 == o

/-- The alignment rate 1/P of an output in use, as a fraction in Hz (R357). -/
def State.alignRate (s : State) (o : Nat) : Option (Nat × Nat) :=
  match s.poldersOf o with
  | p :: _ => some (s.polderRate p)
  | [] => if s.audioOn o then some (48000, 1) else none

/-- The lead output of synthesiser n: the lowest-numbered enabled output in use. -/
def State.lead (s : State) (n : Nat) : Option Nat :=
  ([0, 1, 2, 3].map fun m => 4 * n + m).find? fun o => s.outOn o && (s.alignRate o).isSome

/-! ## Sources and configurations (R356, R358) -/

/-- Both rates are whole or both carry the factor 1/1.001, and the least common multiple of the periods is at most 200 ms. -/
def ratesMeet (a b : Nat × Nat) : Bool :=
  decide (a.2 = b.2) && decide (5 * a.2 ≤ Nat.gcd a.1 b.1)

/-- The rate of an analog reference, none while it is not LOCKED. -/
def State.refRate (s : State) (r : Nat) : Option (Nat × Nat) :=
  if s.fget (Adr.refStat r) 1 0 = 2 then some (modeRate (s.fget (Adr.refStat r) 15 8)) else none

/-- A LOCKED reference that R358 refuses for a polder of the synthesiser. -/
def State.refRefused (s : State) (n r : Nat) : Bool :=
  match s.refRate r with
  | some a => (List.range 32).any fun p => s.polderOn p && s.polderOut p / 4 == n && !ratesMeet a (s.polderRate p)
  | none => false

/-- A source can steer the synthesiser now. `clk10`: CLK10M_IN is accepted. -/
def State.sourceUsable (s : State) (n src : Nat) (clk10 : Bool) : Bool :=
  match src with
  | 0 => true
  | 1 => true
  | 2 => (s.refRate 0).isSome && !s.refRefused n 0
  | 3 => (s.refRate 1).isSome && !s.refRefused n 1
  | 4 => clk10
  | _ => false

def State.synSource (s : State) (n : Nat) : Nat := s.fget (Adr.syCtl n) 3 1
def State.synEnabled (s : State) (n : Nat) : Bool := s.flag (Adr.syCtl n) 0
def State.fnum (s : State) (n : Nat) : Nat := s.rd (Adr.syFnum n)
def State.fden (s : State) (n : Nat) : Nat := s.fget (Adr.syFden n) 15 0
def State.outDiv (s : State) (o : Nat) : Nat := s.fget (Adr.syOutCtl (o / 4) (o % 4)) 7 0

/-- An enabled output breaks its range, or its cycles per alignment period are not a whole number. -/
def State.outBad (s : State) (o : Nat) : Bool :=
  s.outOn o &&
  (s.outDiv o == 0 ||
   (match s.alignRate o with
    | some r => decide (1000000 * s.fnum (o / 4) * r.2 % (s.fden (o / 4) * s.outDiv o * r.1) ≠ 0)
    | none => false))

/-- The configuration of an enabled synthesiser that keeps it unlocked: STAT.bad_cfg (R356, R358). -/
def State.synBad (s : State) (n : Nat) : Bool :=
  s.synEnabled n &&
  (decide (4 < s.synSource n) ||
   decide (s.fden n = 0 ∨ s.fnum n < 2300 * s.fden n ∨ 2500 * s.fden n < s.fnum n) ||
   ([0, 1, 2, 3].any fun m => s.outBad (4 * n + m)) ||
   (s.synSource n == 2 && s.refRefused n 0) || (s.synSource n == 3 && s.refRefused n 1))

/-- A polder's output runs at 148.5 MHz for whole rates, at 148.5/1.001 MHz for the others. -/
def State.polderFreqOk (s : State) (p : Nat) : Bool :=
  let o := s.polderOut p
  decide (2 * s.fnum (o / 4) * (s.polderRate p).2 = 297 * s.fden (o / 4) * s.outDiv o * (if (s.polderRate p).2 = 1 then 1 else 1000))

/-! ## Readiness (R250, R364) -/

/-- The polder is ready. -/
def State.polderMeets (s : State) (p : Nat) : Bool :=
  let n := s.polderOut p / 4
  s.polderOn p && s.outOn (s.polderOut p) && decide ((s.syn n).state = .locked ∨ (s.syn n).state = .holdover) && !s.synBad n &&
  s.polderFreqOk p

/-- Each polder becomes ready, with its count to start again, or not ready. -/
def State.polderRefresh (s : State) : State :=
  (List.range 32).foldl (fun s p =>
    if s.polderMeets p = (s.polder p).ready then s
    else s.setPolder p { Polder.reset with ready := s.polderMeets p }) s

/-- Each enabled synthesiser whose configuration has become bad unlocks; an enabled one that is OFF acquires; a disabled one
stops. -/
def State.synRefresh (s : State) : State :=
  let s := (List.range 32).foldl (fun s n =>
    let x := s.syn n
    if s.synEnabled n = false then (if x.state = .off then s else s.setSyn n { Syn.reset with relocks := x.relocks })
    else if x.state = .off then s.setSyn n { Syn.reset with relocks := x.relocks, state := .acquiring, active := s.synSource n }
    else if s.synBad n ∧ x.state = .locked then
      (s.setSyn n { Syn.reset with relocks := x.relocks, state := .acquiring, active := s.synSource n }).synRaise n 1 0x0C21 [(22, 1, 0)]
    else s) s
  s.polderRefresh

/-! ## Busy polders and ignored writes (R364) -/

/-- A polder is busy. -/
def State.polderBusy (s : State) (p : Nat) : Bool :=
  s.heads.any (fun e => decide (e.2.run ≠ .stopped ∧ e.2.applied.polder = p)) ||
  s.out.convs.any (fun e => decide (e.2.state ≠ .free ∧ e.2.polder = p)) ||
  s.out.pushes.any (fun e => e.2.enabled && decide ((s.head e.2.cfg.head).lastMode ≠ 0 ∧ (s.head e.2.cfg.head).polder = p)) ||
  (s.polderOn p && s.audioOn (s.polderOut p))

/-- The busy polders on outputs of synthesiser n. -/
def State.busyOn (s : State) (n : Nat) : List Nat :=
  (List.range 32).filter fun p => s.polderOn p && s.polderOut p / 4 == n && s.polderBusy p

/-- A write was ignored for these polders. -/
def State.polderIgnored (s : State) (l : List Nat) : State := l.foldl (fun s p => s.setBit (Adr.polderStat p) 2) s

/-- A new acquisition of synthesiser n after an accepted write. -/
def State.acquire (s : State) (n : Nat) : State :=
  let x := s.syn n
  let was := x.state
  let s := if s.synEnabled n then
      s.setSyn n { Syn.reset with relocks := x.relocks, state := .acquiring, active := s.synSource n }
    else s.setSyn n { Syn.reset with relocks := x.relocks }
  let s := if s.synBad n ∧ was ≠ .off then s.synRaise n 1 0x0C21 [(22, 1, 0)] else s
  s.polderRefresh

/-- A write to FNUM or FDEN. -/
def State.synFreqWrite (s : State) (n a v : Nat) : State :=
  if s.rd a = v then s
  else
    match s.busyOn n with
    | [] => ((s.wr a v).nvTouch 512).acquire n
    | l => s.polderIgnored l

/-- A write to SY.CTL: source and enable are held while a polder is busy; the other fields are always accepted. -/
def State.synCtlWrite (s : State) (n v : Nat) : State :=
  let a := Adr.syCtl n
  let old := s.rd a
  if bits v 3 0 = bits old 3 0 then (s.wr a v).nvTouch 512
  else
    match s.busyOn n with
    | [] => ((s.wr a v).nvTouch 512).acquire n
    | l => ((s.wr a (v / 16 * 16 + bits old 3 0)).nvTouch 512).polderIgnored l

/-- A write to OUT.CTL of output o. -/
def State.outCtlWrite (s : State) (o v : Nat) : State :=
  let a := Adr.syOutCtl (o / 4) (o % 4)
  if s.rd a = v % 512 then s
  else
    match (s.poldersOf o).filter s.polderBusy with
    | [] => ((s.wr a (v % 512)).nvTouch 512).synRefresh
    | l => s.polderIgnored l

/-- SYNTH_CONFIG_WRITE: a write of CTL (0), FNUM (1) or FDEN (2). -/
def execSynthConfigWrite (n : Fin 32) (reg : Fin 3) (v : BitVec 32) (s : State) : Out3 :=
  .next (
    match reg.val with
    | 0 => s.synCtlWrite n v.toNat
    | 1 => s.synFreqWrite n (Adr.syFnum n) v.toNat
    | _ => s.synFreqWrite n (Adr.syFden n) (v.toNat % 65536))

/-- A write to POLDER[p].CTL. -/
def State.polderWrite (s : State) (p v : Nat) : State :=
  let a := Adr.polderCtl p
  let v := bits v 6 0 + 256 * bits v 10 8 + 65536 * bits v 16 16
  let taken := decide (bits v 16 16 = 1) && (List.range 32).any fun q => q != p && s.polderOn q && s.polderOut q == bits v 6 0
  if s.rd a = v then s
  else if s.polderBusy p || taken then s.setBit (Adr.polderStat p) 2
  else
    let s := ((s.wr a v).nvTouch 512).setPolder p Polder.reset
    s.synRefresh

/-- POLDER_CTL_WRITE. -/
def execPolderCtlWrite (p : Fin 32) (v : BitVec 32) (s : State) : Out3 := .next (s.polderWrite p v.toNat)

/-! ## Lock (R356, R357, R363) -/

/-- SYNTH_LOCK: every output in use is aligned to its target. -/
def execSynthLock (n : Fin 32) (clk10 : Bool) (s : State) : Out3 :=
  let x := s.syn n
  .next (
    if x.state = .acquiring ∧ s.synBad n = false ∧ s.sourceUsable n x.active clk10 = true then
      let seed := s.rd (Adr.sySeed n)
      (s.setSyn n { Syn.reset with relocks := x.relocks, state := .locked, active := x.active,
                                   seed := BitVec.ofNat 32 (if seed = 0 then 1 else seed) }).polderRefresh
    else s)

/-! ## Phase (R357, R360, R361) -/

/-- The delay of an output in units of 2^-32 ns. -/
def State.outDelay (s : State) (o : Nat) : Nat :=
  let a := Adr.syOutDelay (o / 4) (o % 4)
  (s.fget a 23 0 * s.outDiv o * 64 + s.fget a 29 24) * s.fden (o / 4) * phcUnit / (64 * 1000000 * max 1 (s.fnum (o / 4)))

/-- The time `t` lies this far before its nearest target k / rate + `d`, as a value in (-P/2, P/2], in ns; all in units of
2^-32 ns. -/
def ahead (t d : Int) (rate : Nat × Nat) : Int :=
  let p : Int := (rate.2 * phcUnit : Nat)
  let r := ((t - d) * rate.1) % p
  (if 2 * r < p then -r else p - r) / (rate.1 * 4294967296)

/-- The phase of the lead output at an alignment point, ahead of its target: none when the source gives no target. -/
def State.measurePhase (s : State) (n : Nat) : Option Int :=
  match s.lead n with
  | none => none
  | some o =>
    match s.alignRate o with
    | none => none
    | some r =>
      let d : Int := s.outDelay o
      match (s.syn n).active with
      | 1 => some (ahead s.tim.phc d r)
      | 2 => some (ahead (((s.now - (s.refIn 0).edgeAt) * 8589934592 : Nat) : Int) d r)
      | 3 => some (ahead (((s.now - (s.refIn 1).edgeAt) * 8589934592 : Nat) : Int) d r)
      | _ => none

/-- Move an offset towards a goal by at most 10 ppm. -/
def slewTo (x goal : Int) : Int := if x < goal then min goal (x + 10) else max goal (x - 10)

/-- One change of a slew's offset; back at 0 the slew ends. -/
def State.slewMove (s : State) (n : Nat) : State :=
  let x := s.syn n
  let p := slewTo x.ppm x.goal
  let s := s.setSyn n { x with ppm := p, stepAt := s.now }
  if p = 0 ∧ x.goal = 0 then s.slewEnd n else s

/-- SYNTH_ALIGNMENT_POINT. -/
def execSynthAlignmentPoint (n : Fin 32) (s : State) : Out3 :=
  let x := s.syn n
  .next (
    if x.state ≠ .locked ∨ x.relock.isSome = true then s
    else
      match s.measurePhase n with
      | none => s
      | some m =>
        if x.capture then s.setSyn n { x with capture := false, offset := m, phase := 0 }
        else
          let e := m - x.offset
          let s := s.setSyn n { x with phase := e }
          if e.natAbs < 2 then
            let s := s.updSyn n fun y => { y with returned := false, goal := 0 }
            if x.slewing && decide (x.stepAt + msTicks 1 ≤ s.now) then s.slewMove n else s
          else if e.natAbs ≤ 1000 * s.fget (Adr.syCtl n) 31 16 then
            let rate : Int := s.fget (Adr.syCtl n) 15 8
            let goal := if 0 < e then -rate else rate
            if x.slewing then s.updSyn n fun y => { y with goal := goal }
            else
              ((s.updSyn n fun y => { y with slewing := true, goal := goal }).slewMove n).synRaise n 4 0x0C24
                [(22, 1, 1), (24, 4, toTwos 32 e)]
          else s.relockBegin n (if x.returned then 2 else 0))

/-- SLEW_STEP. -/
def execSlewStep (n : Fin 32) (s : State) : Out3 :=
  let x := s.syn n
  .next (if x.slewing && decide (x.ppm ≠ x.goal) && decide (x.stepAt + msTicks 1 ≤ s.now) then s.slewMove n else s)

/-- RELOCK: the source's frequency is reacquired, and the phase error leaves in one move at the start of the next raster
period of each polder: the periods that run are bent. -/
def execRelock (n : Fin 32) (s : State) : Out3 :=
  let x := s.syn n
  .next (
    match x.relock with
    | none => s
    | some c =>
      let moved := match s.measurePhase n with | some m => if c = 1 then m - x.offset else x.phase | none => 0
      let s := s.setSyn n { x with relock := none, phase := 0, relocks := (x.relocks + 1) % 65536 }
      let s := (List.range 32).foldl (fun s p =>
        if (s.polder p).ready && s.polderOut p / 4 == n.val && moved != 0 then s.setPolder p { s.polder p with bent := true } else s) s
      s.synRaise n 0 0x0C20 [(22, 1, c), (24, 4, toTwos 32 moved)])

/-! ## Sources that go and come (R362) -/

/-- SOURCE_SWITCH: the active source is lost. -/
def execSourceSwitch (n : Fin 32) (clk10 : Bool) (s : State) : Out3 :=
  let x := s.syn n
  .next (
    if x.state ≠ .locked ∨ s.sourceUsable n x.active clk10 = true then s
    else
      let f := s.fget (Adr.syCtl n) 6 4
      let s := s.slewEnd n
      let x := { s.syn n with relock := none, returned := false }
      if s.sourceUsable n f clk10 then
        (s.setSyn n { x with active := f, capture := true, phase := 0 }).synRaise n 3 0x0C23 [(22, 1, f)]
      else (s.setSyn n { x with state := .holdover }).synRaise n 2 0x0C22 [(22, 1, 1)])

/-- The primary source has been present for 10 s. `clk10`: CLK10M_IN has been accepted for that long. -/
def State.presentLong (s : State) (n src : Nat) (clk10 : Bool) : Bool :=
  s.sourceUsable n src clk10 &&
  (match src with
   | 2 => s.lasted (s.refIn 0).present 10000
   | 3 => s.lasted (s.refIn 1).present 10000
   | _ => true)

/-- SYNTH_REVERT. -/
def execSynthRevert (n : Fin 32) (clk10 : Bool) (s : State) : Out3 :=
  let x := s.syn n
  let src := s.synSource n
  .next (
    if s.flag (Adr.syCtl n) 7 && s.presentLong n src clk10 && !s.synBad n &&
       (decide (x.state = .holdover) || (decide (x.state = .locked) && x.active != src)) then
      let s := s.slewEnd n
      let held := decide (x.state = .holdover)
      let s := s.updSyn n fun y => { y with state := .locked, active := src, capture := false, offset := 0, returned := true, relock := none }
      let s := if held then s.synRaise n 2 0x0C22 [] else s
      if x.active = src then s else s.synRaise n 3 0x0C23 [(22, 1, src)]
    else s)

end Sys2Proof.Machine
end

