-- ==== Sys2Proof/Machine/Mgmt.lean ====
section
/-!
DEFINITION. Machine/Mgmt.lean: the management pairs, their resets and boots, the moult, the field-lock fuse and the debug
connector ("Management fabric and firmware", R474 to R494).
-/
namespace Sys2Proof.Machine

/-- A cause of the management fabric and its event. -/
def State.mgRaise (s : State) (bit code : Nat) (d : List (Nat × Nat × Nat)) : State :=
  s.raise Adr.mgCause Adr.mgMask bit 284 code d

def Mg.setPair (m : Mg) (p : Nat) (v : Pair) : Mg := if p = 0 then { m with a := v } else { m with b := v }
def Mg.slotOf (m : Mg) (i : Nat) : Slot48 := if i = 0 then m.slotA else m.slotB
def Mg.setSlot (m : Mg) (i : Nat) (v : Slot48) : Mg := if i = 0 then { m with slotA := v } else { m with slotB := v }
def State.pair (s : State) (p : Nat) : Pair := s.mg.pair p
def State.setPair (s : State) (p : Nat) (v : Pair) : State := s.updMg fun m => m.setPair p v
def State.updMoult (s : State) (f : Moult → Moult) : State := s.updMg fun m => { m with moult := f m.moult }

def MoultState.code : MoultState → Nat
  | .idle => 0 | .staging => 1 | .loading => 2 | .ready => 3 | .quiescing => 4 | .probation => 5 | .committing => 6 | .rejected => 7

def PairState.code : PairState → Nat
  | .off => 0 | .boot => 1 | .serving => 2 | .standby => 3 | .resetting => 4 | .loading => 5

/-! ## Power states seen from here -/

/-- A breach that fell while the module did not run is reported (R439). -/
def State.reportBreach (s : State) : State :=
  if s.coc.report then
    (s.updCoc fun c => { c with report := false }).cocRaise 0 0x0F01
      [(20, 2, s.fget Adr.brCause 7 0), (24, 4, s.rd Adr.brAonLo), (28, 2, s.fget Adr.brAonHi 15 0)]
  else s

/-- GLB.PWR_STAT.state changes; a start-up that ends in RUN reports a breach, and a power fail (R410). -/
def State.setPower (s : State) (st : Nat) : State :=
  let old := s.fget Adr.pwrStat 2 0
  let s := s.powerTo st
  if old = st ∨ st ≠ 1 then s
  else
    let s := s.reportBreach
    if old = 0 ∧ s.fget Adr.rstCause 3 0 = 1 then s.lvRaise 4 281 0x0E20 [(22, 1, 3), (24, 2, s.fget Adr.lvVin 15 0)] else s

/-! ## The moult's states -/

/-- The moult takes a state and a reason: EV_MOULT, with the version of the image in its target slot (R494). -/
def State.moultTo (s : State) (st : MoultState) (reason : Nat) : State :=
  let s := s.updMoult fun m => { m with state := st, reason := reason, since := s.now }
  s.occur 285 0x1200 [(22, 1, st.code), (23, 1, reason), (24, 4, (s.mg.slotOf s.mg.moult.target).version.toNat)]

/-! ## Pair resets (R475, R480, R489, R490) -/

/-- A port converter drains a burst that its master's reset has cut (R480). -/
def State.drain (s : State) (burst : Bool) : State := if burst then s.count Adr.fabStat 31 16 1 else s

/-- A pair is reset: cause bit 0 watchdog, 1 lockstep; it boots again from the boot ROM. -/
def State.pairReset (s : State) (p bit : Nat) (st : PairState) (staged : Bool) : State :=
  let s := s.count (Adr.pairResets p) (16 * bit + 15) (16 * bit) 1
  let s := s.setPair p { Pair.reset with state := st, slot := (s.pair p).slot, since := s.now, staged := staged }
  s.mgRaise bit (0x1100 + bit) [(20, 1, p)]

/-- The standby pair takes over (R475). -/
def State.takeOver (s : State) (p : Nat) : State :=
  let s := s.updMg fun m => { m.setPair p { m.pair p with state := .serving } with serving := p }
  s.mgRaise 2 0x1102 [(20, 1, p)]

/-- The standby pair, or 0 for pair A when B serves. -/
def Mg.other (m : Mg) : Nat := 1 - m.serving

/-- What a reset of pair `p` makes of the moult and of the service. -/
def State.afterReset (s : State) (p : Nat) (before : Mg) : State :=
  let st := before.moult.state
  let o := 1 - p
  if p = before.serving then
    if st = .probation ∧ (before.pair o).state = .standby then
      (s.takeOver o).updMoult fun m => { m with reload := some (p, 8), rolling := false }
    else if (before.pair o).state = .standby ∧ (before.pair o).slot = (before.pair p).slot ∧
        (before.pair o).version = (before.pair p).version then s.takeOver o
    else s
  else if st = .loading ∨ st = .ready ∨ st = .quiescing then s.moultTo .rejected 7
  else s

/-- A management watchdog reset of a pair that has power. -/
def State.resetPair (s : State) (p bit : Nat) (burst : Bool) : State :=
  if (s.pair p).state = .off then s else ((s.pairReset p bit .boot false).drain burst).afterReset p s.mg

/-- MGMT_WATCHDOG: the pair's firmware has not serviced its watchdog for 250 ms; `burst`: in the middle of a burst. -/
def execMgmtWatchdog (p : Fin 2) (burst : Bool) (s : State) : Out3 := .next (s.resetPair p 0 burst)

/-- LOCKSTEP_MISMATCH. -/
def execLockstepMismatch (p : Fin 2) (burst : Bool) (s : State) : Out3 := .next (s.resetPair p 1 burst)

/-! ## Boot (R486) -/

/-- The slot that the boot ROM tries first: the higher commit sequence. -/
def Mg.first (m : Mg) : Nat := if m.slotA.seq.toNat < m.slotB.seq.toNat then 1 else 0

/-- The slot that a boot by commit sequence ends in; `bad` marks slots that fail verification now. -/
def Mg.bootSlot (m : Mg) (bad : Nat → Bool) : Option Nat :=
  [m.first, 1 - m.first].find? fun i => (m.slotOf i).valid && !bad i

/-- The pair runs the image of a slot. -/
def State.pairRuns (s : State) (p slot : Nat) : State :=
  let served := s.mg.noFw
  let serve := decide (p = s.mg.serving) || served
  let s := s.updMg fun m =>
    { m.setPair p { Pair.reset with state := (if serve then .serving else .standby), remap := true, slot := slot,
                                    version := (m.slotOf slot).version } with
      noFw := false, serving := (if serve then p else m.serving) }
  let st := s.fget Adr.pwrStat 2 0
  if serve && (st == 0 || st == 6) then s.setPower 1 else s

/-- A boot by the commit sequence. -/
def State.bootBySeq (s : State) (p : Nat) (bad : Nat → Bool) : State :=
  match s.mg.bootSlot bad with
  | some i => s.pairRuns p i
  | none => s.updMg fun m => { m.setPair p { m.pair p with state := .boot, staged := false } with noFw := true }

/-- PAIR_BOOT: the boot ROM of a pair verifies and runs a slot; `badA` and `badB`: that slot fails verification. A pair that a
moult has reset boots the staged slot whatever its commit record. With no firmware at all, the staged image serves at once
(log 36). -/
def execPairBoot (p : Fin 2) (badA badB : Bool) (s : State) : Out3 :=
  let bad := fun i => if i = 0 then badA else badB
  let x := s.pair p
  .next (
    if x.state ≠ .boot ∧ x.state ≠ .loading ∧ x.state ≠ .resetting then s
    else if x.staged then
      let t := s.mg.moult.target
      if (s.mg.slotOf t).valid && !bad t then
        let dead := s.mg.noFw
        let s := s.pairRuns p t
        if dead then s.moultTo .probation 0 else s.moultTo .ready 0
      else (s.moultTo .rejected 7).bootBySeq p bad
    else
      let s := s.bootBySeq p bad
      match s.mg.moult.reload with
      | some (q, reason) =>
        if q = p.val ∧ s.mg.noFw = false then
          (s.updMoult fun m => { m with reload := none, rolling := false }).moultTo .idle reason
        else s
      | none => s)

/-! ## Moult commands (R487 to R489) -/

/-- Both pairs run. -/
def Mg.bothRun (m : Mg) : Bool :=
  decide ((m.pair m.serving).state = .serving ∧ (m.pair m.other).state = .standby)

/-- STAGE: the slot that is not booted is erased. With no firmware, the slot of the lower commit sequence (log 36). -/
def State.moultStage (s : State) : State :=
  let m := s.mg.moult
  if (m.state = .idle ∨ m.state = .rejected) ∧ (s.mg.bothRun = true ∨ s.mg.noFw = true) then
    let t := if s.mg.noFw then 1 - s.mg.first else 1 - (s.pair s.mg.serving).slot
    let s := s.updMg fun m => m.setSlot t { valid := false, version := 0, secver := 0, seq := 0 }
    (s.updMoult fun m => { m with target := t, kib := 0, reload := none, rolling := false }).moultTo .staging 0
  else if m.state = .idle ∨ m.state = .rejected then s.moultTo .rejected 9
  else s.updMoult fun m => { m with reason := 9 }

/-- MOULT_STAGE. -/
def execMoultStage (s : State) : Out3 := .next s.moultStage

/-- MOULT_STAGE_DONE. -/
def execMoultStageDone (x : StagedImage) (s : State) : Out3 :=
  let m := s.mg.moult
  let len := s.fget Adr.moultLen 21 0
  let runs := if s.mg.noFw then 0 else (s.mg.slotOf (s.pair s.mg.serving).slot).secver.toNat
  .next (
    if m.state ≠ .staging ∨ s.holdupOk = false then s
    else
      match firstFail [(!x.dmaOk, 4), (!x.flashOk, 5), (!x.lengthOk || decide (3141632 < len), 3), (!x.sigOk, 1),
                       (decide (x.secver.toNat < runs), 2)] with
      | some r => (s.updMoult fun m => { m with kib := (if r = 4 ∨ r = 5 then m.kib else ceilDiv len 1024) }).moultTo .rejected r
      | none =>
        let s := s.updMg fun m => m.setSlot m.moult.target { valid := true, version := x.version, secver := x.secver, seq := 0 }
        let s := (s.updMoult fun m => { m with kib := ceilDiv len 1024 }).moultTo .loading 0
        s.pairReset s.mg.other 0 .loading true)

/-- GO, in READY or after a moult that found no quiet point. -/
def State.moultGo (s : State) : State :=
  let m := s.mg.moult
  if m.state = .ready ∨ (m.state = .rejected ∧ m.reason = 6) then s.moultTo .quiescing 0 else s

/-- MOULT_GO. -/
def execMoultGo (s : State) : Out3 := .next s.moultGo

/-- No NV program or erase, key operation, seal signature or dike verification is in progress. -/
def State.quiet (s : State) : Bool :=
  s.nv.jobs.isEmpty && !s.nv.erasing && s.coc.ops.isEmpty && s.psn.signing.isNone

/-- The pairs swap roles. -/
def State.swapPairs (s : State) : State :=
  s.updMg fun m =>
    let o := m.other
    let v := m.serving
    { (m.setPair v { m.pair v with state := .standby }).setPair o { (m.setPair v { m.pair v with state := .standby }).pair o with state := .serving }
      with serving := o }

/-- QUIET_POINT: probation begins; or a ROLLBACK has waited for it: the new pair reloads from the old slot. -/
def execQuietPoint (s : State) : Out3 :=
  let m := s.mg.moult
  .next (
    if s.quiet = false then s
    else if m.state = .quiescing then (s.swapPairs).moultTo .probation 0
    else if m.state = .probation ∧ m.rolling = true then
      let new := s.mg.serving
      let s := s.swapPairs.updMoult fun m => { m with rolling := false, reload := some (new, 8) }
      s.pairReset new 0 .boot false
    else s)

/-- QUIET_TIMEOUT: no quiet point within 100 ms of GO. -/
def execQuietTimeout (s : State) : Out3 :=
  let m := s.mg.moult
  .next (if m.state = .quiescing ∧ m.since + msTicks 100 ≤ s.now then s.moultTo .rejected 6 else s)

/-- The new image is committed: its slot gets the next commit sequence, and the old pair reloads from it. -/
def State.moultCommit (s : State) : State :=
  let m := s.mg.moult
  if m.state = .probation ∧ m.rolling = false ∧ m.reload = none then
    let q := max s.mg.slotA.seq.toNat s.mg.slotB.seq.toNat + 1
    let s := s.updMg fun g => g.setSlot g.moult.target { g.slotOf g.moult.target with seq := BitVec.ofNat 16 q }
    let old := s.mg.other
    let s := (s.updMoult fun m => { m with reload := some (old, 0) }).moultTo .committing 0
    s.pairReset old 0 .boot false
  else s

/-- MOULT_COMMIT. -/
def execMoultCommit (s : State) : Out3 := .next s.moultCommit

/-- ROLLBACK: the old pair takes over at the next quiet point. -/
def State.moultRollback (s : State) : State :=
  let m := s.mg.moult
  if m.state = .probation ∧ m.reload = none then s.updMoult fun m => { m with rolling := true } else s

/-- MOULT_ROLLBACK. -/
def execMoultRollback (s : State) : Out3 := .next s.moultRollback

/-- PROBATION_EXPIRY. -/
def execProbationExpiry (s : State) : Out3 :=
  .next (if s.mg.moult.since + msTicks 1000 * s.fget Adr.moultCtl 15 8 ≤ s.now then s.moultCommit else s)

/-! ## Fuse and debug connector (R480, R491) -/

/-- FUSE_ARM. -/
def State.fuseArm (s : State) : State := s.updMg fun m => { m with armed := some s.now }

def execFuseArm (s : State) : Out3 := .next s.fuseArm

/-- A write of blow: it needs an arming within 1 ms and an input of at least 36 V. -/
def State.fuseBlow (s : State) : State :=
  let ok := match s.mg.armed with | some t => decide (s.now ≤ t + msTicks 1) | none => false
  if ok && decide (3600 ≤ s.fget Adr.lvVin 15 0) then s.updMg fun m => { m with locked := true, armed := none }
  else s.updMg fun m => { m with armed := none }

/-- FUSE_BLOW. -/
def execFuseBlow (s : State) : Out3 := .next s.fuseBlow

/-- J4_DISCONNECT; `burst`: the DBG master is in the middle of a burst. A blown fuse has removed DBG already (R491). -/
def execJ4Disconnect (burst : Bool) (s : State) : Out3 := .next (if s.mg.locked then s else s.drain burst)

end Sys2Proof.Machine
end

