-- ==== Sys2Proof/Machine/Breach.lean ====
section
/-!
DEFINITION. Machine/Breach.lean: tamper sensing, breaches, the mapping of the always-on count and the coin cell ("Cocoon key
store and breach", R435 to R445; R307).
-/
namespace Sys2Proof.Machine

/-! ## What a breach does to the cocoon's work (R439, R307) -/

/-- Every operation of the cocoon is aborted. -/
def State.abortOps (s : State) : State :=
  s.coc.ops.foldl (fun s o =>
    let s := if o.opcode = 0x81 then s.leaveRet 0 o.grant else s
    s.dikeFail o csBreach) s

/-- The dikes on air, or about to be, freeze; every binding and digest goes. -/
def State.freezeDikes (s : State) : State :=
  (List.range 256).foldl (fun s h =>
    let k := s.dike h
    let on := (s.head h).applied.dike || !k.coming.isEmpty
    s.setDike h { Dike.reset with frozen := on, shown := k.shown, coming := k.coming }) s

/-- Seals stop: EV_SEAL_STOPPED for each running head, with the frame count of the last record sealed; a signature under way is
abandoned, and every NOW that waits is refused. -/
def State.stopSeals (s : State) : State :=
  let was := s.sealing
  let nows := match s.psn.signing with | some g => g.nows | none => []
  let s := s.updPsn fun p => { p with signing := none, queue := [], stopped := true }
  let s := (List.range 256).foldl (fun (s : State) h =>
    let c := s.chain h
    let s := if c.due.isNone && c.nows.isEmpty then s else s.setChain h { c with due := none, nows := [] }
    let s : State := c.nows.foldl (fun (s : State) n => s.completeAt n.1 n.2 csBreach 0) s
    if was && decide ((s.head h).run ≠ .stopped) then s.occur 308 0x0A01 [(20, 2, h), (24, 4, c.index), (28, 4, c.sealedFrame)]
    else s) s
  nows.foldl (fun s n => s.completeAt n.1 n.2 csBreach 0) s

/-- Every ring loses privilege (R78). -/
def State.dropPriv (s : State) : State :=
  rings.foldl (fun s n => if (s.sq n).priv then s.setSq n { s.sq n with priv := false } else s) s

/-- The breach record, and TAMPER_OUT_N low. -/
def State.latchBreach (s : State) (cause aon : Nat) : State :=
  let s := ((s.fset Adr.brCause 7 0 cause).wr Adr.brAonLo (aon % 4294967296)).wr Adr.brAonHi (aon / 4294967296 % 65536)
  (s.updCoc fun c => { c with breaches := min (c.breaches + 1) 65535, pending := true, tamperOut := true }).updLv fun v =>
    { v with stOther := true }

/-- The secrets are gone: no root, no unwrapped key. -/
def Coc.zeroed (c : Coc) : Coc := { c with root := none, original := false, slots := [] }

/-- A breach with its cause bits (R437). It is reported at once in RUN, else at the wake or the start-up. -/
def State.breach (s : State) (cause : Nat) : State :=
  let s := (s.updCoc Coc.zeroed).latchBreach cause s.aon
  let s := ((s.abortOps.stopSeals).dropPriv).freezeDikes
  let s := if s.nv.phase = .ready then s.eraseSecrets else s
  let s := s.updCoc fun c => { c with report := true }
  if s.fget Adr.pwrStat 2 0 = 1 then
    (s.updCoc fun c => { c with report := false }).cocRaise 0 0x0F00 [(20, 2, cause), 
      (24, 4, s.rd Adr.brAonLo), (28, 2, s.fget Adr.brAonHi 15 0)]
  else s

/-- The sensors that are armed (R435, R436). -/
def State.armed (s : State) (cause : BitVec 6) : BitVec 6 := if s.coc.transport then cause &&& 0x13 else cause

/-- BREACH: sensors trip, one bit each as R435 numbers them. -/
def execBreach (cause : BitVec 6) (s : State) : Out3 :=
  let c := s.armed cause
  .next (
    if c = 0 then s
    else (s.updCoc fun x => { x with live := (BitVec.ofNat 6 x.live ||| c).toNat }).breach c.toNat)

/-- A write of COC.CTL.ack. -/
def State.breachAck (s : State) : State :=
  if s.coc.live = 0 then s.updCoc fun c => { c with pending := false, tamperOut := false } else s

/-- BREACH_ACK: `live` are the sensors that report a fault now. -/
def execBreachAck (live : BitVec 6) (s : State) : Out3 :=
  .next (s.updCoc fun c => { c with live := live.toNat }).breachAck

/-- AON_MAPPING: at a whole PHC second, in RUN. -/
def execAonMapping (s : State) : Out3 :=
  .next (
    if s.fget Adr.pwrStat 2 0 = 1 ∧ s.coc.mapSec ≠ some s.phcSec then
      let s := (s.wr Adr.mapAonLo (s.aon % 4294967296)).wr Adr.mapAonHi (s.aon / 4294967296)
      let s := (s.wr Adr.mapSecLo (s.phcSec % 4294967296)).wr Adr.mapSecHi (s.phcSec / 4294967296)
      s.updCoc fun c => { c with mapSec := some s.phcSec }
    else s)

/-- The coin cell is measured: at power-on, and hourly. -/
def State.batt (s : State) (mv : Nat) (present : Bool) : State :=
  let low := decide (mv < 2600)
  let s := (s.wr Adr.batt (mv + 4096 * b2n low + 8192 * b2n present)).updCoc fun c => { c with battAt := some s.now }
  if low then s.cocRaise 1 0x0F02 [(24, 2, mv)] else s

/-- BATT_MEASURE. -/
def execBattMeasure (mv : BitVec 12) (present : Bool) (s : State) : Out3 :=
  .next (
    match s.coc.battAt with
    | some t => if t + msTicks 3600000 ≤ s.now then s.batt mv.toNat present else s
    | none => s.batt mv.toNat present)

end Sys2Proof.Machine
end

