-- ==== Sys2Proof/Machine/Resets.lean ====
section
/-!
DEFINITION. Machine/Resets.lean: the resets and what survives each of them ("Resets, start-up and power states", R496 to
R500; R70, R112, R309, R391, R415, R443, R471).
-/
namespace Sys2Proof.Machine

/-! ## The register file -/

/-- A register's value when the fields that `keep` names are kept and the others return to their values after power-on. -/
def regAfter (keep : Nat → Fld → Bool) (a v : Nat) : Nat :=
  match findReg a with
  | some (r, i, _) => (r.fields.map fun f => if keep a f then bits v f.hi f.lo * 2 ^ f.lo else f.powerOn i).foldl (· + ·) 0
  | none => 0

/-- Every register after a reset. -/
def State.resetRegs (s : State) (keep : Nat → Fld → Bool) : State :=
  { s with regs := s.regs.foldl (fun t e => Tab.set powerOn t e.1 (BitVec.ofNat 32 (regAfter keep e.1 e.2.toNat))) s.regs }

/-- Registers outside the reach of a warm reset: the chapter of time, the links that STAT of a lane shows, the NV registers,
the breach record and the coin cell, the measurements of supply and temperature, and the power state itself. -/
def warmKeeps (a : Nat) : Bool :=
  decide (0x80000 ≤ a ∧ a < 0x85000) || decide (0x780000 ≤ a ∧ a < 0x790000) || decide (0x7C0008 ≤ a ∧ a ≤ 0x7C0024) ||
  decide (0x40014 ≤ a ∧ a ≤ 0x40020) || decide (0x40100 ≤ a ∧ a < 0x40160) || decide (0x100 ≤ a ∧ a ≤ 0x10C) ||
  (match findReg a with | some (r, _, _) => r.base == Adr.laneStat 0 | none => false)

/-- What a register keeps through an FLR, and through a warm reset (R9, R70, R366, R499). -/
def keepFlr (_ : Nat) (f : Fld) : Bool := !f.flr
def keepWarm (a : Nat) (f : Fld) : Bool := !f.flr && (f.acc == .rws || warmKeeps a)

/-- What MOD_RST_N and power-on reset keep: the fields that the battery-backed domain holds (R444). -/
def keepHeld (a : Nat) (_ : Fld) : Bool := decide (0x7C0008 ≤ a ∧ a ≤ 0x7C0020)

/-! ## The host interface (R44, R70, R71, R388) -/

/-- A submission ring after an FLR keeps its two sequence numbers; started descriptors that wait for firmware go on. -/
def Sq.flr (q : Sq) : Sq := { Sq.reset with seqNext := q.seqNext, seqPosted := q.seqPosted, parked := q.parked }

/-- The host interface after an FLR. Started operations go on, and their completions go nowhere. -/
def Hif.flr (h : Hif) : Hif :=
  { Hif.reset with
    sqs := h.sqs.foldl (fun t e => Tab.upd (fun _ => Sq.reset) t e.1 Sq.flr) h.sqs, stamp := h.stamp, rrTake := h.rrTake,
    rrBulk := h.rrBulk, msgs := h.msgs, staged := h.staged, evSrcs := h.evSrcs, hostMem := h.hostMem }

/-- The host packet queue returns to its values after power-on (R391). -/
def State.hqReset (s : State) : State := s.updNet fun n => { n with hq := Hq.reset }

/-- An FLR. -/
def State.flr (s : State) : State := ((s.updHif Hif.flr).hqReset).resetRegs keepFlr

/-- FLR: also hot reset, link-down, PERST_N, D3hot to D0. `burst`: master WIN is in the middle of a burst (R480). -/
def execFlr (burst : Bool) (s : State) : Out3 := .next (s.flr.drain burst)

/-! ## Warm reset: the video data path (R112, R166, R208, R242, R278, R280, R341) -/

/-- A frame that a source had in progress counts as damaged, each published frame not yet taken as superseded (R112). -/
def State.warmSource (s : State) (n : Nat) : State :=
  let x := s.src n
  let prog := (match x.sdiProg with | some (some _) => 1 | _ => 0) + (x.ipProg.filter fun f => f.slot.isSome).length
  let s := (s.srcCount n 3 prog).srcCount n 2 (s.srcPending n - prog)
  let fresh : Source := { Source.reset with nextId := x.nextId }
  let fresh := if n < 128 ∧ s.flag (Adr.laneStat n) 1 = true then { fresh with state := .search }
    else if n < 128 ∧ s.flag (Adr.laneStat n) 0 = true then { fresh with search := some (0, s.now) } else fresh
  s.setSrc n fresh

/-- Samples that wait in front of a sample-rate converter are abandoned. -/
def State.warmAudio (s : State) : State :=
  let s := s.aud.ins.foldl (fun s e => if e.2.pend.isEmpty then s else s.inCount e.1 4 e.2.pend.length) s
  s.updAud fun a => { Aud.reset with n := a.n, off := a.off }

/-- A destination after a warm reset: it sends its idle signal; its service goes on (R280, R524). -/
def Dest.warm (x : Dest) (off : Bool) : Dest :=
  { Dest.reset with lastMode := x.lastMode, lastPolder := x.lastPolder, everFed := x.everFed, inService := x.inService,
                    offAir := (x.offAir || off) }

/-- Heads, destinations, push channels. `off`: the periods that follow count as off air. -/
def State.warmHeads (s : State) (off : Bool) : State :=
  let s := (List.range 8).foldl (fun s c => s.pushAbort c 2) s
  let s := (s.psn.dests.map (·.1)).foldl (fun s d => s.uncheckDest d) s
  let s := s.updHds fun _ => Hds.reset
  s.updOut fun o =>
    { convs := [], pushes := [], dests := o.dests.foldl (fun t e => Tab.set (fun _ => Dest.reset) t e.1 (e.2.warm off)) [] }

/-- Surfaces: every reference is dropped and every surface freed; the generations stay (R158, R166). -/
def State.warmSurfaces (s : State) : State :=
  let l := s.srf.list
  ((s.ledAdd 3 0 5 (l.map (·.refs)).sum).ledAdd 3 0 1 l.length).updSrf fun f => { f with list := [] }

/-- The whole video data path. Its flows go with it; the IGMP messages that leave the groups are sent. -/
def State.warmVideo (s : State) (off : Bool) : State :=
  let s := ((s.ing.srcs.map (·.1)) ++ (s.ing.old.map (·.src))).eraseDups.foldl (fun s n => s.warmSource n) s
  let s := (s.setFlows []).updIng fun g => { g with old := [], flows := [] }
  let s := ((s.warmHeads off).warmSurfaces).warmAudio
  let s := s.updScc fun _ => Scc.reset
  -- the chains and the dikes come back from their pages
  let s := s.updPsn fun p => { Psn.reset with ties := p.ties, stopped := p.stopped }
  if s.keyless then s.freshChains else s.loadDikes.loadChains

/-! ## Leave (R391, R399, R415) -/

/-- The tokens of the fixed consumers and the conversion loss (R400). -/
def fixedTokens : Nat := 3608

/-- Every token granted returns; the precharge and the units whose enable is 1 are taken again; the withheld holders fill. -/
def State.leaveAgain (s : State) : State :=
  let s := (s.ledSet 9 0 6 (s.led 9 0 5)).ledSet 9 1 6 (s.led 9 1 5)
  let on := (List.range 10).filter fun i => (s.unit i).enable
  let pre := fixedTokens + (on.map unitTokens).sum
  let s := (List.range 10).foldl (fun s i =>
    let u := s.unit i
    s.setUnit i { u with enabled := u.enable, tokens := (if u.enable then unitTokens i else 0), fixed := u.enable, down := false }) s
  let s := s.updLv fun v =>
    { v with powFree := powPool - pre, fetFree := fetPool, powWith := 0, fetWith := 0, fixed := pre, auditBad := false, tripped := false,
             tripExcl := false }
  ((s.ledAdd 9 0 5 pre).fillWithheld).shedUpdate

/-! ## Cocoon and management (R424, R443, R490, R498) -/

/-- Ephemeral keys expire, and operations on them, and dike updates, are abandoned without a completion. -/
def State.warmCocoon (s : State) : State :=
  let dead := fun (o : KeyOp) => o.opcode == 0x81 || (match o.key with | some k => k.ephemeral | none => false) ||
    (match s.usedKey o.desc with | some k => k.ephemeral | none => false)
  s.updCoc fun c =>
    { c with ops := c.ops.filter fun o => !dead o,
             slots := c.slots.foldl (fun t e =>
               Tab.set (fun _ => none) t e.1 (e.2.map fun k => if k.ephemeral then { k with expired := true, secret := [] } else k)) [] }

/-- Both pairs boot; a moult in STAGING is rejected with reason STATE, any other one ends. -/
def State.warmMgmt (s : State) : State :=
  let st := s.mg.moult.state
  let s := s.updMg fun m =>
    { m with a := { Pair.reset with slot := m.a.slot, since := s.now }, b := { Pair.reset with slot := m.b.slot, since := s.now },
             serving := 0, noFw := false, armed := none, winRun := false,
             moult := (if st = .staging then { Moult.reset with state := .rejected, reason := 9, target := m.moult.target } else Moult.reset) }
  if st = .staging then s.occur 285 0x1200 [(22, 1, 7), (23, 1, 9), (24, 4, 0)] else s

/-! ## The warm reset -/

/-- Restoration after a warm reset: no recall, and the RWS fields are in place (R504). -/
def State.restAgain (s : State) : State :=
  s.updRest fun _ => { Rest.reset with phase := if s.nv.auto = false then .idle else if s.nv.gated then .waitGo else .running }

/-- A warm reset with its cause as RST_CAUSE.last shows it: 3 by software, 4 after a trip, 5 by fault containment. The queue
of system pages is written first; after a trip while the hold-up store allows it (R498). -/
def State.warmReset (s : State) (cause : Nat) : State :=
  let s := ((s.fset Adr.rstCause 3 0 cause).count Adr.rstCause 31 16 1).setPower 6
  let s := s.nvFlush
  let s := s.warmVideo (cause ≠ 3)
  let s := s.leaveAgain
  let s := ((s.updHif fun h => { h.flr with sqs := [] }).hqReset)
  let s := (s.warmCocoon).warmMgmt
  let s := s.resetRegs keepWarm
  let s := (s.fset Adr.pwrCtl 1 0 0).updPwr fun _ => Pwr.reset
  s.restAgain

/-! ## A wake (R501 to R503) -/

/-- A wake begins: in STANDBY the pairs boot, the synthesisers start, and what was not kept shows its default (R203, R500). -/
def State.wakeBegin (s : State) : State :=
  let s := ((s.setPower 5).fset Adr.pwrCtl 1 0 0).updPwr fun p => { p with wakeFrom := s.now, wakeWaits := false }
  if s.pwr.standby then
    let s := s.updMg fun m =>
      { m with a := { Pair.reset with slot := m.a.slot, since := s.now }, b := { Pair.reset with slot := m.b.slot, since := s.now }, serving := 0 }
    let lose := fun (x : Option ScSet) => match x with | some y => if y.persist then x else some { y with tapsH := 0, tapsV := 0, coef := [] } | none => none
    let unload := fun (x : ColUnit) => if x.persist3d then x else { x with lut3d := false, lutTab := none }
    let s := s.updScc fun c =>
      { c with scalers := c.scalers.foldl (fun t e => Tab.set (fun _ => Scaler.reset) t e.1
                 { e.2 with set1 := lose e.2.set1, set2 := lose e.2.set2, set3 := lose e.2.set3 }) [],
               ins := c.ins.foldl (fun t e => Tab.set (fun _ => ColUnit.reset) t e.1 (unload e.2)) [],
               outs := c.outs.foldl (fun t e => Tab.set (fun _ => ColUnit.reset) t e.1 (unload e.2)) [] }
    let s := s.synRefresh
    s.igmpChange ((groupsOf s.ing.flows).map fun k => s.report k.1 k.2 (membership s.ing.flows k.1 k.2))
  else s

/-- A warm reset is asked for: in STANDBY the wake runs first (R506). -/
def State.askWarm (s : State) (cause : Nat) : State :=
  if s.pwr.standby then
    let s := s.updPwr fun p => { p with warmWaits := some cause }
    if s.fget Adr.pwrStat 2 0 = 3 then s.wakeBegin
    else if s.fget Adr.pwrStat 2 0 = 4 then s.updPwr fun p => { p with wakeWaits := true } else s
  else s.warmReset cause

/-- WARM_RESET: a write of GLB.RST_CTL with the key and warm set. -/
def execWarmReset (s : State) : Out3 := .next (s.askWarm 3)

/-! ## MOD_RST_N, power-on reset, power fail (R410, R456, R462, R496, R499) -/

/-- The flash after power or reset is lost: the program in progress does not count; a cell that was being programmed is found
at recall. The system pages come back from the records. -/
def Nv.cut (n : Nv) (energy : Nat) : Nv :=
  { Nv.reset with
    sectors := n.sectors, openAt := n.openAt, lastSector := n.lastSector, ctrs := n.ctrs, erases := n.erases, voids := n.voids,
    torn := (match n.jobs with | .cell c _ _ :: _ => if n.torn.contains c then n.torn else n.torn ++ [c] | _ => n.torn),
    energy := energy }

/-- The record slot of a page program in progress is spent without a commit word (R462). -/
def State.nvSpoil (s : State) : State :=
  match s.nv.jobs with
  | .page p d _ :: _ => if s.nv.phase = .ready ∧ s.holdupOk = true then s.nvAppend { page := p, seq := s.nv.seq, data := d, commit := .erased } else s
  | _ => s

/-- An erase in progress is cut off: its sector holds nothing, and is erased again after the recall. -/
def State.eraseCut (s : State) : State :=
  match s.nv.erases, s.nv.erasing with
  | .record k :: _, true => s.setNvSector k { s.nvSector k with recs := [] }
  | _, _ => s

/-- The cocoon after a power-on: what the battery-backed domain holds stays; ephemeral slots are free, and persistent ones
come back with the recall. `gone` is how long the converter time now ending has run on the always-on count. -/
def Coc.restart (c : Coc) (aon : Nat) : Coc :=
  { c with slots := (match c.root with | some r => ownSlots r | none => []), admin := none, challenges := [], fails := 0, lockedAt := none,
           ops := [], transport := false, aonBase := aon, mapSec := none, battAt := none }

/-- The whole module after MOD_RST_N or power-on reset: everything but the battery-backed domain and the NV store returns. -/
def State.hardReset (s : State) (cause energy aon : Nat) : State :=
  let s := (s.nvSpoil).eraseCut
  let held := s.resetRegs keepHeld
  let t : State :=
    { State.reset with
      pending := s.pending, regs := held.regs, hif := { Hif.reset with msgs := s.hif.msgs, hostMem := s.hif.hostMem, stamp := s.hif.stamp },
      coc := s.coc.restart aon, nv := s.nv.cut energy, free := s.free,
      mg := { Mg.reset with slotA := s.mg.slotA, slotB := s.mg.slotB, locked := s.mg.locked } }
  t.fset Adr.rstCause 3 0 cause

/-- MOD_RST_N low for 10 µs. It does not end a power fail's hold. -/
def execModRstN (s : State) : Out3 := .next (if s.lv.powerFail then s else s.hardReset 2 s.nv.energy s.aon)

/-- A breach found at power-on: its record, and the module is keyless (R438, R439). -/
def State.foundBreach (s : State) (cause aon : Nat) : State :=
  ((s.updCoc fun c => { c.zeroed with report := true }).latchBreach cause aon)

/-- The battery-backed domain after a power-on. -/
def State.afterOff (s : State) (f : OffTime) : State :=
  if f.bbLost then
    let s := s.updCoc fun c => { c with breaches := 0, aonBase := 0 }
    let s := [Adr.mapAonLo, Adr.mapAonHi, Adr.mapSecLo, Adr.mapSecHi].foldl (fun s a => s.wr a 0) s
    s.foundBreach 0x40 0
  else
    match f.breach with
    | some (c, t) => if s.armed c = 0 then s else s.foundBreach ((s.armed c).toNat + 0x80) t.toNat
    | none => s

/-- POWER_ON_RESET: power comes back after OFF. The breach is judged before the transport state ends (R436). -/
def execPowerOnReset (f : OffTime) (s : State) : Out3 :=
  let aon := (s.aon + f.counts) % 281474976710656
  let b := (s.updCoc fun c => { c with aonBase := aon }).afterOff f
  .next (b.hardReset 0 0 (if f.bbLost then 0 else aon))

/-- A power fail: the erase in progress completes from the hold-up store, nothing else is started, and the module holds itself
in reset with both pairs off. -/
def State.powerFails (s : State) : State :=
  let s := if s.nv.erasing then s.eraseEnd true 1 else s
  let s := s.updNv fun n => { n with erasing := false }
  let t := s.hardReset 1 0 s.aon
  let t := t.updLv fun v => { v with powerFail := true }
  (t.updNv fun n => { n with phase := .fault }).updMg fun m =>
    { m with a := { m.a with state := .off }, b := { m.b with state := .off } }

/-- POWER_FAIL: the input falls below 33 V for 200 µs, or below 20 V. -/
def execPowerFail (s : State) : Out3 := .next (if s.lv.powerFail then s else s.powerFails)

/-- POWER_FAIL_RECOVERY: the input has been above 36 V for 100 ms; the module starts as from power-on reset. -/
def execPowerFailRecovery (s : State) : Out3 :=
  .next (
    if s.lv.powerFail && s.lasted s.lv.goodSince 100 then
      (s.hardReset 1 0 s.aon).updLv fun v => { v with stInput := true }
    else s)

end Sys2Proof.Machine
end

