-- ==== Sys2Proof/Machine/PowerStates.lean ====
section
/-!
DEFINITION. Machine/PowerStates.lean: the trip, the power states and the restoration of the last routes (R411 to R413, R501 to
R508).
-/
namespace Sys2Proof.Machine

/-! ## The trip (R412, R413) -/

/-- Every sensor of TJ[0] to TJ[19] reads below 95 °C. -/
def State.cooled (s : State) : Bool := (List.range 20).all fun i => decide (tempOf (s.fget (Adr.lvTj i) 10 0) < 760)

/-- The module is in STANDBY, enters it or leaves it: the video dies have no power, or will lose it. -/
def State.diesOff (s : State) : Bool := s.pwr.standby && decide (s.fget Adr.pwrStat 2 0 = 3 ∨ s.fget Adr.pwrStat 2 0 = 5)

/-- A head goes off air with the video dies; its configuration stays for the restore set. -/
def State.tripHead (s : State) (h : Nat) : State :=
  if (s.head h).run = .stopped then s
  else
    let s := (s.unpinHead h).pushAbortHead h 2
    let s := (s.fedBy h).foldl (fun s d => s.squelch d false true) s
    s.updHead h fun x => { x.halted with resume := true }

/-- The conditions that exclude the periods after a trip (R524). -/
def State.tripOutside (s : State) : Bool :=
  decide (520 < tempOf (s.fget Adr.lvTcp 10 0)) || decide (s.fget Adr.lvVin 15 0 < 3600 ∨ 7500 < s.fget Adr.lvVin 15 0)

/-- THERMAL_TRIP: the comparator of a sensor trips at its temperature. In STANDBY the trip is only counted (R506). -/
def execThermalTrip (sensor : Fin 24) (temp : BitVec 11) (s : State) : Out3 :=
  .next (
    let s := s.count Adr.lvShed 31 16 1
    if s.diesOff then s
    else
      let s := s.updLv fun v => { v with tripped := true, tripExcl := s.tripOutside }
      let s := s.heads.foldl (fun s e => s.tripHead e.1) s
      let s := s.lvRaise 3 280 0x0E10 [(22, 1, sensor), (24, 2, temp.toNat)]
      s.shedUpdate)

/-- THERMAL_SAMPLE: the 24 junction readings and the cold plate. A trip whose sensors have cooled recovers by itself while
auto_recover is 1. -/
def execThermalSample (tj : List (BitVec 11)) (tcp : BitVec 11) (s : State) : Out3 :=
  .next (
    let s := s.thermalSample tj tcp
    if s.lv.tripped && s.cooled && s.flag Adr.lvShed 10 then s.askWarm 4 else s)

/-- A write of LEAVE.SHED.recover: the warm reset after a trip. -/
def State.tripRecover (s : State) : State := if s.lv.tripped && s.cooled then s.askWarm 4 else s

/-- TRIP_RECOVER. -/
def execTripRecover (s : State) : Out3 := .next s.tripRecover

/-! ## Power states (R501 to R503) -/

/-- Why a request to leave RUN is refused: 1 commits or salvos, 2 moult, 3 trip, 4 restoration; 0 for none. -/
def State.leaveRunBad (s : State) : Nat :=
  let st := s.mg.moult.state
  if (s.headList.any fun h => !h.queue.isEmpty) || !s.hds.armed.isEmpty then 1
  else if !(decide (st = .idle) || decide (st = .rejected) || decide (st = .probation)) then 2
  else if s.shedLevel = 4 then 3
  else if s.rest.phase = .running then 4
  else 0

/-- Entry to STANDBY: the queue of system pages is written without pacing, and every chain head with it (R304, R451). -/
def State.standbyFlush (s : State) : State :=
  let s := (s.psn.chains.map fun e => 768 + e.1 / 4).eraseDups.foldl (fun s p => s.nvTouch p) s
  s.updNv fun n => { n with flushing := true }

/-- A request for a state: 0 RUN, 1 QUIET, 2 STANDBY. A refused one changes nothing but the reason. -/
def State.pwrTarget (s : State) (t : Nat) : State :=
  let st := s.fget Adr.pwrStat 2 0
  if t = 0 then
    if st = 2 ∨ st = 3 then s.wakeBegin
    else if st = 4 then (s.updPwr fun p => { p with wakeWaits := true }).fset Adr.pwrCtl 1 0 0
    else s
  else if t = 1 then
    if st = 1 then
      match s.leaveRunBad with
      | 0 => ((s.fset Adr.pwrCtl 1 0 1).powerTo 4).quietCheck
      | r => s.fset Adr.pwrStat 7 4 r
    else s
  else if t = 2 then
    if st = 1 ∨ st = 2 then
      match (if st = 1 then s.leaveRunBad else if s.leaveRunBad = 2 then 2 else 0) with
      | 0 =>
        let s := if s.mg.moult.state = .probation then s.moultCommit else s
        ((s.fset Adr.pwrCtl 1 0 2).updPwr fun p => { p with standby := true }).standbyFlush.powerTo 4
      | r => s.fset Adr.pwrStat 7 4 r
    else s
  else s

/-- PWR_TARGET_RUN. -/
def execPwrTargetRun (s : State) : Out3 := .next (s.pwrTarget 0)

/-- PWR_TARGET_QUIET. -/
def execPwrTargetQuiet (s : State) : Out3 := .next (s.pwrTarget 1)

/-- PWR_TARGET_STANDBY. -/
def execPwrTargetStandby (s : State) : Out3 := .next (s.pwrTarget 2)

/-- A conversion starts again from the newest frame of its input (R230). -/
def State.convRestart (s : State) (m : Nat) : State :=
  let x := s.cnv m
  if x.state = .single ∨ x.state = .groupLead then
    let newest := match s.newestFrame x.input with | some (_, _, f) => f.id | none => 0
    ((s.unpin (.conv m)).cnvDrop m).updCnv m fun c =>
      { c with build := none, minId := (if c.input < 256 then newest else 0), lastTau := 0, behind := false }
  else s

/-- Conversions stop with their claims kept; at the wake each starts again (R242). -/
def State.pauseConvs (s : State) : State := s.out.convs.foldl (fun s e => s.convRestart e.1) s

/-- What STANDBY turns off (R278, R391, R502): lanes, links, synthesisers, pairs; the PHC goes to holdover. -/
def State.standbyOff (s : State) : State :=
  let s := (List.range 8).foldl (fun s c => if (s.push c).enabled && !(s.push c).cfg.persist then (s.pushAbort c 3).pushOff c else s) s
  let s := s.pauseConvs
  let s := (List.range 128).foldl (fun s n => s.laneDark n) s
  let s := (s.portDown 0).portDown 1
  let s := (List.range 32).foldl (fun s n =>
    let x := s.syn n
    if x.state = .off then s else s.setSyn n { Syn.reset with relocks := x.relocks }) s
  let s := s.polderRefresh
  let s := if s.flag Adr.phcStat 0 then s else s.phcHoldover true
  s.updMg fun m => { m with a := { m.a with state := .off }, b := { m.b with state := .off } }

/-- STANDBY_ENTRY_DONE: every head has stopped and the queue is written; a wake that waits starts (R506). -/
def execStandbyEntryDone (s : State) : Out3 :=
  .next (
    if s.fget Adr.pwrStat 2 0 = 4 ∧ s.pwr.standby = true ∧ (s.headList.all fun h => decide (h.run = .stopped)) = true ∧
        s.nv.queue = [] ∧ s.nv.jobs = [] ∧ s.mg.moult.reload = none then
      let s := (s.updNv fun n => { n with flushing := false }).standbyOff
      let s := s.powerTo 3
      if s.pwr.wakeWaits || s.pwr.warmWaits.isSome then s.wakeBegin else s
    else s)

/-- A stopped head comes back through LINE mode; after STANDBY it waits for its polder (R254, R503). -/
def State.resumeHeads (s : State) : State :=
  s.heads.foldl (fun s e =>
    if e.2.run = .stopped ∧ e.2.resume = true then
      s.updHead e.1 fun x =>
        { x with lineAt := some (if s.polderReady x.applied.polder then s.nextPeriod x.applied.polder x.applied.mode else 0, 0) }
    else s) s

/-- WAKE_DONE: the module is in RUN again; from STANDBY once a pair serves. A warm reset that waits runs now (R506). -/
def execWakeDone (s : State) : Out3 :=
  .next (
    if s.fget Adr.pwrStat 2 0 = 5 ∧ (s.pwr.standby = false ∨ (s.pair s.mg.serving).state = .serving) then
      let warm := s.pwr.warmWaits
      let s := s.fset Adr.pwrStat 31 16 (min ((s.now - s.pwr.wakeFrom) / 500000) 65535)
      let s := s.updPwr fun p => { p with standby := false, warmWaits := none }
      let s := (s.setPower 1).resumeHeads
      match warm with
      | some c => s.warmReset c
      | none => s
    else s)

/-! ## Restoration (R504, R505) -/

/-- GLB.RESTORE's two fields are written to the system pages at once; the register shows them when the record is in. -/
def State.writeRestore (s : State) (auto gated : Bool) : State :=
  let d := match s.sysData 512 with
    | .srcs l r _ _ => NvData.srcs l r auto gated
    | _ => if auto || gated then .srcs [] [] auto gated else .blank
  s.nvQueue (.page 512 d (.restore auto gated))

/-- RESTORE_CONFIG_WRITE. -/
def execRestoreConfigWrite (auto gated : Bool) (s : State) : Out3 := .next (s.writeRestore auto gated)

/-- A write of GLB.RESTORE.go; it is ignored with gated clear (R506). -/
def State.restoreGo (s : State) : State :=
  if s.rest.phase = .waitGo ∧ s.nv.gated = true then s.updRest fun r => { r with phase := .running } else s

/-- RESTORE_GO. -/
def execRestoreGo (s : State) : Out3 := .next s.restoreGo

/-- A saved register: its RWS fields take the saved values. Key 2^32 + i is the enable of lane group or port i. -/
def State.restoreReg (s : State) (a v : Nat) : State :=
  if 4294967296 ≤ a then
    let i := a - 4294967296
    if v = 1 then s.unitOn i else s.unitOff i
  else
    match findReg a with
    | some (r, _, _) => (r.fields.filter fun f => f.acc == .rws).foldl (fun s f => s.fset a f.hi f.lo (bits v f.hi f.lo)) s
    | none => s

/-- Step 2: the RWS fields, and what follows from them. -/
def State.restoreRws (s : State) : State :=
  match (s.nvPage 512).data with
  | .srcs _ l _ _ => ((l.foldl (fun s e => s.restoreReg e.1 e.2.toNat) s).synRefresh).fillWithheld
  | _ => s

/-- The saved sources, with the flows kept with them. -/
def State.savedSources (s : State) : List (Nat × SrcSave) :=
  (s.nv.pages.filter fun e => decide (512 ≤ e.1 ∧ e.1 < 576)).flatMap fun e => match e.2.data with | .srcs l _ _ _ => l | _ => []

/-- A saved flow; a video flow whose fetch tokens are refused, or whose ring finds no room, is not restored (R112). -/
def State.restoreFlow (s : State) (f : Flow) : State :=
  let tok := if f.kind = 1 then streamTokens 9 f.p0 else 0
  if f.kind = 1 ∧ s.hbmFree < ringUnits f.p0 then s
  else
    let (ok, s) := s.leaveAsk 0 0 tok
    if ok then (s.placeFlow { f with pkts := 0 } tok).setFlows (s.ing.flows ++ [{ f with pkts := 0 }]) else s

/-- A source's saved settings. A slate is a surface, and none is left (R166). A FIXED ring that the pool cannot hold is left out: the
ring is AUTO (log 83). -/
def State.restoreSource (s : State) (n : Nat) (x : Source) : State :=
  let s := s.updSrc n fun y =>
    { y with owner := x.owner, holdMs := x.holdMs, fallback := (if x.fallback = 3 then 0 else x.fallback), quad := x.quad,
             damagePub := x.damagePub, rateLock := x.rateLock, defSampling := x.defSampling, defColorimetry := x.defColorimetry,
             defTransfer := x.defTransfer, defRange := x.defRange, pidOverride := x.pidOverride }
  if x.ringFixed ∧ ringUnits x.ringMax ≤ s.hbmFree then s.setRing n true x.ringMax else s

/-- Step 4: sources and receive flows, then send flows. -/
def State.restoreFlows (s : State) : State :=
  let l := s.savedSources
  let fl := l.flatMap fun e => e.2.flows
  let s := l.foldl (fun s e => s.restoreSource e.1 e.2.cfg) s
  let s := (fl.filter fun f => !isSend f.kind).foldl (fun s f => s.restoreFlow f) s
  let s := (fl.filter fun f => isSend f.kind).foldl (fun s f => s.restoreFlow f) s
  s.updIng fun g => { g with nextHandle := g.nextHandle + fl.length }

/-- The saved heads, in head order. -/
def State.savedHeads (s : State) : List (Nat × HeadSave) :=
  (s.nv.pages.filter fun e => decide (256 ≤ e.1 ∧ e.1 < 512)).filterMap fun e =>
    match e.2.data with | .head (some x) => some (e.1 - 256, x) | _ => none

/-- A layer that uses a scaler of its own. -/
def LayerCfg.usesScaler (l : LayerCfg) : Bool := l.enable && decide (l.kind ≠ 0 ∧ l.scaler < 128)

/-- Step 5 for one head: the scalers and the slices that its layers name (R208, R242). -/
def State.restoreClaims (s : State) (x : HeadSave) : State :=
  let byTake := decide (x.managed = .module)
  let s := (x.cfg.layers.filter LayerCfg.usesScaler).foldl (fun s l =>
    if s.sclFree l.scaler l.gang then
      let (ok, s) := s.leaveAsk 0 (if l.gang then 8 else 4) 0
      if ok then s.claimScl l.scaler l.gang x.owner byTake l.tapsH l.tapsV 0 0 else s
    else s) s
  x.convs.foldl (fun s e =>
    let c := e.2
    let uhd := decide (c.state = .groupLead)
    if (c.state = .single ∨ uhd = true) ∧ s.cnvFree e.1 uhd = true then
      let t := convTokens c.mode (s.inputNominal c.input) uhd (s.polderRate c.polder)
      let (ok, s) := s.leaveAsk 0 t.1 t.2
      if ok then s.claimCnv e.1 uhd c.owner c.byTake c.input c.polder c.mode c.scan c.cadence c.confMin t.1 t.2 else s
    else s) s

/-- A layer of a restored head: disabled where its surface, scaler or conversion cannot be had. -/
def State.restoreLayer (s : State) (x : HeadSave) (l : LayerCfg) : LayerCfg :=
  let n := l.src.toNat
  let surf := l.enable && (l.kind == 2 || l.fallback == 3)
  let scaler := l.usesScaler && !(decide ((s.scl l.scaler).state = (if l.gang then .gangLead else .single)) && (s.scl l.scaler).owner == x.owner)
  let conv := l.enable && l.kind == 1 && decide (256 ≤ n ∧ n < 384) && !s.cnvLive (n - 256)
  if surf || scaler || conv then { l with enable := false } else { l with setH := 0, setV := 0 }

/-- The configuration of a restored head, whether a layer was lost, and whether a dike that was enabled stays so, empty. -/
def State.restoreCfg (s : State) (h : Nat) (x : HeadSave) : HeadCfg × Bool :=
  let keep := x.cfg.dike && (s.dike h).slot.isSome && !s.keyless
  let base := if x.cfg.dike then x.cfg.layers.set 7 LayerCfg.reset else x.cfg.layers
  let l := base.map (s.restoreLayer x)
  ({ x.cfg with dike := keep, layers := l }, decide (l.map (·.enable) ≠ base.map (·.enable)))

/-- The event that a head with an enabled dike raises: empty, or disabled because nothing verifies it (R307, R309). -/
def State.restoreDikeEvent (s : State) (h : Nat) (x : HeadSave) (c : HeadCfg) : State :=
  if !x.cfg.dike then s
  else if c.dike then s.raise (Adr.hsCause h) (Adr.hsMask h) 3 h 0x0263 [(20, 2, h)]
  else s.raise (Adr.hsCause h) (Adr.hsMask h) 2 h 0x0262 [(20, 2, h)]

/-- A restored head fails: it stays stopped; what was claimed for a module-managed head is released. -/
def State.restoreFail (s : State) (h : Nat) (x : HeadSave) (code : Nat) : State :=
  let s := s.setHead h { Head.reset with instar := x.instar }
  let s := if x.managed = .module then
      let s := (x.cfg.layers.filter LayerCfg.usesScaler).foldl (fun s l => if (s.scl l.scaler).byTake ∧ s.sclNamed l.scaler = false then (s.freeScl l.scaler).2 else s) s
      x.convs.foldl (fun s e => if (s.cnv e.1).byTake ∧ s.cnvNamed e.1 = false then s.releaseCnv e.1 else s) s
    else s
  s.restOutcome h 2 code

/-- Step 6 for one head: an ASAP commit, validated and granted its leave as one request (R505). -/
def State.restoreHead (s : State) (h : Nat) (x : HeadSave) : State :=
  let r := s.restoreCfg h x
  let s := s.restoreDikeEvent h x r.1
  let managed := if x.managed = .free then .software else x.managed
  let claimed := fun (o : Option Nat) => if x.managed = .module then o else none
  let s := s.setHead h
    { Head.reset with owner := x.owner, managed := managed, instar := x.instar, shadow := r.1,
                      modScaler := claimed ((r.1.layers.find? LayerCfg.usesScaler).map (·.scaler)), modConv := claimed (r.1.slices.head?) }
  match s.checkCfg (fun _ => true) true h r.1 with
  | .inl code => s.restoreFail h x code
  | .inr c =>
    let need := s.fetchNeed c false
    let (ok, s) := s.leaveAsk x.owner 6 need
    if !ok then s.restoreFail h x csNoLeave
    else
      match s.landing (s.head h) c.mode c.polder .asap with
      | none => (s.leaveRet 6 need).restoreFail h x csState
      | some (land, _) =>
        let j : Job := { ring := 64, stamp := s.hif.stamp, seq := 0, opcode := 0, owner := x.owner, priv := true, take := false, d := [] }
        let s := s.updHif fun f => { f with stamp := f.stamp + 1 }
        let s := s.updHead h fun y => { y with fetchGrant := need, powerGrant := 6 }
        let s := s.enqueue h { j.commit .restore c .asap land false with peak := need, dest := h, clone := r.2 }
        s.updRest fun q => { q with waiting := q.waiting.filter (· ≠ h), landing := q.landing ++ [h] }

/-- Step 7: audio routes, bindings and companions (R341). -/
def State.restoreAudio (s : State) : State :=
  let s := (s.nv.pages.filter fun e => decide (576 ≤ e.1 ∧ e.1 < 768)).foldl (fun s e =>
    match e.2.data with
    | .audio outs comps =>
      let s := outs.foldl (fun s o => s.setAudOut o.1 { o.2 with voice := o.2.tap }) s
      if comps.isEmpty then s else s.updAud fun a => { a with comps := comps }
    | _ => s) s
  s.srcAssign

/-- Steps 4, 5 and 7, and the heads that wait to be tried. -/
def State.restoreBegin (s : State) : State :=
  let hs := s.savedHeads
  let s := s.restoreFlows
  let s := hs.foldl (fun s e => s.restoreClaims e.2) s
  let s := s.restoreAudio
  s.updRest fun r => { r with begun := true, since := s.now, waiting := hs.map (·.1), landing := [] }

/-- Every waiting head whose polder is ready, in head order. -/
def State.restoreTry (s : State) : State :=
  let hs := s.savedHeads
  (s.rest.waiting.foldl (fun s h =>
    match hs.find? fun e => e.1 == h with
    | some e => if s.polderReady e.2.cfg.polder then s.restoreHead h e.2 else s
    | none => s.restOutcome h 2 csState) s).restEnd

/-- RESTORATION: the module goes on with the restoration, once a pair serves and the recall is done. -/
def execRestoration (s : State) : Out3 :=
  .next (
    if s.fwUp = false ∨ s.nv.phase = .recall then s
    else
      let s := if s.rest.phase = .waitRecall then
          (if s.nv.auto then s.restoreRws.updRest fun r => { r with phase := if s.nv.gated then .waitGo else .running }
           else s.updRest fun r => { r with phase := .idle })
        else s
      if s.rest.phase = .running then (if s.rest.begun then s else s.restoreBegin).restoreTry else s)

/-- RESTORE_POLDER_TIMEOUT: heads whose polder is not ready within 5 s count as failed. -/
def execRestorePolderTimeout (s : State) : Out3 :=
  .next (
    if s.rest.phase = .running ∧ s.rest.begun = true ∧ s.rest.since + msTicks 5000 ≤ s.now then
      let hs := s.savedHeads
      s.rest.waiting.foldl (fun s h =>
        match hs.find? fun e => e.1 == h with
        | some e => s.restoreFail h e.2 csState
        | none => s.restOutcome h 2 csState) s
    else s)

end Sys2Proof.Machine
end

