-- ==== Sys2Proof/Machine/Faults.lean ====
section
/-!
DEFINITION. Machine/Faults.lean: memory scrubs and credit audits, and how what they find is contained (R515 to R522).
-/
namespace Sys2Proof.Machine

/-! ## Credit audits (R33, R34, R518) -/

/-- The slice that leads the group of slice `m`. -/
def State.convLead (s : State) (m : Nat) : Nat :=
  if (s.cnv m).state = .groupMember then m / 4 * 4 else m

/-- The samples that an input holds before delivery are abandoned (R339). -/
def State.inputFlush (s : State) (i : Nat) : State :=
  let x := s.audIn i
  ((s.inCount i 4 x.pend.length).inCount i 6 1).setAudIn i { x with pend := [] }

/-- A clock group restarts: its stream is placed again from the next reference (R325, R518). -/
def State.groupRestart (s : State) (g : Nat) : State :=
  ((s.audGrp g).inputs.foldl (fun s i => s.inputFlush i) s).updAudGrp g fun x => { x with next := none }

/-- What the module does about a mismatch. -/
def State.auditAct (s : State) : QueueClass → State
  | .ingest n => if (s.src n).state = .idle then s.abandon n (s.lacking n) else s.srcSearch n
  | .head h => s.containHead h 0
  | .converter m => s.convRestart (s.convLead m)
  | .audioGroup g => s.groupRestart g
  | .audioRoute o => match (s.audOut o).input with
    | some i => s.inputFlush i
    | none => s
  | .host => s.flr
  | .pair p => s.resetPair p 0 false
  | .fabric => s

/-- One mismatch: counted, contained, reported. -/
def State.auditMismatch (s : State) (q : QueueClass) (ident : BitVec 16) : State :=
  let s := (s.count Adr.audit 15 0 1).fset Adr.audit 31 16 ident.toNat
  (s.auditAct q).occur 311 0x1420 [(20, 1, q.row.1), (22, 2, q.row.2), (24, 2, ident.toNat)]

/-- The identifier of a queue that the audit names. -/
def QueueId.ident (q : QueueId) : BitVec 16 := Config.queueIdent q.cls.row.1 q.cls.row.2 q.n.val

/-- What a fault does to a queue's counts: the producer loses credits, and entries stay that the consumer does not take. -/
def State.queueUpset (s : State) (f : QueueFault) : State :=
  s.setQueue f.queue
    { s.queue f.queue with spent := (s.queue f.queue).spent + f.lost + f.stuck, entries := (s.queue f.queue).entries + f.stuck }

/-- The queues that a check finds in mismatch: the sum of R33 does not hold, or a streaming producer lacked credit (R34). -/
def State.mismatched (s : State) : List QueueId :=
  (s.scrub.queues.filter fun e => !e.2.sumOk e.1.depth || e.2.short).map (·.1)

/-- The queues are flushed and their credits restored to the depth (R518). -/
def State.queueFlush (s : State) (bad : List QueueId) : State := bad.foldl (fun s q => s.setQueue q Dcq.reset) s

/-- CREDIT_AUDIT: the sum of every dual-clock queue is checked; `faults` are what the hardware has done to queues since the last
check. Each mismatch is contained, the queue flushed and reported; one warm reset covers all of one check (R526). -/
def execCreditAudit (faults : List QueueFault) (s : State) : Out3 :=
  let s := faults.foldl (fun s f => s.queueUpset f) s
  let bad := s.mismatched
  let s := bad.foldl (fun s q => s.auditMismatch q.cls q.ident) (s.queueFlush bad)
  .next (if (bad.any fun q => decide (q.cls = .fabric)) then s.askWarm 5 else s)

/-! ## Scrubs (R515 to R517) -/

/-- PATROL_SCRUB: one pass over HBM, due hbm_h hours after the last one. -/
def execPatrolScrub (found : List HbmErr) (s : State) : Out3 :=
  .next (
    if s.scrub.hbmAt + msTicks (3600000 * s.fget Adr.scrub 4 0) ≤ s.now then
      let s := found.foldl (fun s e => s.hbmFound e) s
      { s with scrub := { s.scrub with hbmAt := s.now } }
    else s)

/-- The row of R516, from 0. The control state of a head is held twice, as the last row's uses are. -/
def SramUse.row : SramUse → Nat
  | .pixels => 0
  | .frameMeta _ => 0
  | .colour _ _ _ => 1
  | .work => 2
  | .audio _ => 3
  | .pinSense _ => 4
  | .push => 4
  | .staging _ => 5
  | .headControl _ _ => 5

/-- A colour unit whose table holds a faulty entry. A 3D LUT loaded with persist comes back from its copy in HBM. -/
def ColUnit.hurt (u : ColUnit) (t : Nat) : ColUnit :=
  if (t = 3 ∧ u.persist3d = true) ∨ u.faulty.contains t = true then u else { u with faulty := u.faulty ++ [t] }

/-- The oldest judgement of a destination ends mismatched. -/
def State.judgeBad (s : State) (d : Nat) : State :=
  match (s.psnDest d).judging with
  | [] => s
  | g :: rest => s.setPsnDest d { s.psnDest d with judging := { g with spoiled := true } :: rest }

/-- How an uncorrectable word is contained (R516, R519). -/
def State.sramContain (s : State) : SramUse → State
  | .pixels => s
  | .frameMeta n => s.abandon n (s.lacking n)
  | .colour false u t => s.setColIn u ((s.colIn u).hurt t)
  | .colour true u t => s.setColOut u ((s.colOut u).hurt t)
  | .work => s.resetPair s.mg.serving 0 false
  | .audio i => match (s.audIn i).hist with
    | (k, _) :: t => s.setAudIn i { s.audIn i with hist := (k, 0) :: t }
    | [] => s
  | .pinSense d => s.judgeBad d
  | .push => s
  | .staging both => if both then s.askWarm 5 else s
  | .headControl h both => if both then s.containHead h 2 else s

/-- One SRAM word that the scrub corrects or finds uncorrectable. -/
def State.sramFound (s : State) (e : SramErr) : State :=
  let det := [(20, 1, e.use.row), (22, 2, e.inst.toNat), (24, 4, e.word.toNat)]
  if e.corrected then (s.count Adr.sramEcc 15 0 1).occur 310 0x1410 det
  else ((s.count Adr.sramEcc 31 16 1).occur 310 0x1411 det).sramContain e.use

/-- Errors that reads in use have met: granules (R28) and SRAM words, corrected or contained (R30, R517). -/
def State.errorsMet (s : State) (ecc : List HbmErr) (sram : List SramErr) : State :=
  sram.foldl (fun s e => s.sramFound e) (s.granulesMet ecc)

/-- FLIP, with the memory errors that the reads of the frame met: layer fetches and scan-out since the last flip. -/
def execFlip (h : Fin 256) (seen : FlipSeen) (s : State) : Out3 :=
  .next (if s.flipDue h then (s.flip h seen).errorsMet seen.ecc seen.sram else s)

/-- SRAM_SCRUB: one pass over the SRAM, due sram_s seconds after the last one. -/
def execSramScrub (found : List SramErr) (s : State) : Out3 :=
  .next (
    if s.scrub.sramAt + msTicks (1000 * s.fget Adr.scrub 13 8) ≤ s.now then
      let s := found.foldl (fun s e => s.sramFound e) s
      { s with scrub := { s.scrub with sramAt := s.now } }
    else s)

end Sys2Proof.Machine
end

