-- ==== Sys2Proof/Machine/Views.lean ====
section
/-!
DEFINITION. Machine/Views.lean: what the fields of BAR0 show whose state is held elsewhere than in the register file.
One function per block of the register map: `b` is the base of the register's row in `regRows`, `i` and `j` its instance
numbers; the answer holds every view field of the register at its place, and 0 elsewhere.
-/
namespace Sys2Proof.Machine

/-- A value at the place of bits [hi:lo]. -/
def fld (hi lo v : Nat) : Nat := v % 2 ^ (hi + 1 - lo) * 2 ^ lo

/-- A flag at bit `k`. -/
def bitAt (k : Nat) (x : Bool) : Nat := b2n x * 2 ^ k

/-- Word `k` of 64-bit counters, low word first. -/
def ledWord (l : List Nat) (k : Nat) : Nat := l.getD (k / 2) 0 / 4294967296 ^ (k % 2) % 4294967296

/-- Low and high word of a 64-bit value. -/
def lo32 (v : Nat) : Nat := v % 4294967296
def hi32 (v : Nat) : Nat := v / 4294967296 % 4294967296

/-! ## GLB (R507, R539) -/

/-- GLB.RESTORE_STAT.state. WAIT_RECALL shows only under auto_restore. -/
def Rest.shows (r : Rest) (auto : Bool) : Nat :=
  match r.phase with
  | .idle => 0
  | .waitRecall => b2n auto
  | .waitGo => 2
  | .running => 3
  | .done => 4

def State.viewGlb (s : State) (b i : Nat) : Nat :=
  if b = Adr.glbId then fld 23 16 (Config.identity 2).toNat
  else if b = Adr.glbRev then Config.revision.toNat
  else if b = Adr.glbUid 0 then leNat ((List.range 4).map fun k => Config.identity (4 * i + k))
  else if b = Adr.glbFuse then
    bitAt 0 s.mg.locked + bitAt 1 Config.screened + bitAt 2 Config.identityOk + bitAt 3 Config.certPresent
  else if b = Adr.restore then bitAt 0 s.nv.auto + bitAt 1 s.nv.gated
  else if b = Adr.restoreStat then
    s.rest.shows s.nv.auto + fld 11 3 s.rest.restored + fld 20 12 s.rest.partly + fld 29 21 s.rest.failed
  else 0

/-! ## HIF and EVT (R43, R73, R528) -/

def State.viewSq (s : State) (b n : Nat) : Nat :=
  let q := s.sq n
  if b = Adr.sqBaseLo 0 then lo32 q.base.toNat
  else if b = Adr.sqBaseHi 0 then hi32 q.base.toNat
  else if b = Adr.sqCtl 0 then q.ctlWord
  else if b = Adr.sqHead 0 then q.head.toNat
  else if b = Adr.sqStat 0 then q.state.code + 16 * q.reason.code + 65536 * q.inFlight
  else if b = Adr.sqSeqNext 0 then q.seqNext.toNat
  else if b = Adr.sqSeqPosted 0 then q.seqPosted.toNat
  else if b = Adr.dbReject 0 then q.dbReject.toNat
  else 0

def State.viewCq (s : State) (b n : Nat) : Nat :=
  let q := s.cq n
  if b = Adr.cqBaseLo 0 then lo32 q.base.toNat
  else if b = Adr.cqBaseHi 0 then hi32 q.base.toNat
  else if b = Adr.cqCtl 0 then q.ctlWord + bitAt 15 q.err
  else if b = Adr.cqHead 0 then q.head.toNat
  else if b = Adr.cqTail 0 then q.tail.toNat
  else if b = Adr.cqMod 0 then q.modCount + 256 * q.modTime
  else 0

def State.viewHif (s : State) (b i : Nat) : Nat :=
  if b = Adr.msixTable 0 then s.msixWord i
  else if b = Adr.msixPba 0 then ((s.hif.pba.filter fun v => v / 32 == i).map fun v => 2 ^ (v % 32)).sum
  else s.viewSq b i + s.viewCq b i

def State.viewEvt (s : State) (b i : Nat) : Nat :=
  let q := s.er i
  if b = Adr.erBaseLo 0 then lo32 q.base.toNat
  else if b = Adr.erBaseHi 0 then hi32 q.base.toNat
  else if b = Adr.erCtl 0 then b2n q.enable + 16 * q.sizeLog2 + 256 * q.vector
  else if b = Adr.erHead 0 then q.head.toNat
  else if b = Adr.erTail 0 then q.tail.toNat
  else if b = Adr.evtSrc 0 then fld 31 16 (s.evSrc i).occurred
  else 0

/-! ## LEAVE (R416) -/

def State.viewLeave (s : State) (b : Nat) : Nat :=
  if b = Adr.lvPwr then fld 13 0 (powPool - s.lv.powFree) + fld 29 16 s.lv.powFree
  else if b = Adr.lvFet then fld 11 0 (fetPool - s.lv.fetFree) + fld 27 16 s.lv.fetFree
  else if b = Adr.lvHold then fld 13 0 s.lv.powWith + fld 27 16 s.lv.fetWith
  else if b = Adr.lvShed then fld 2 0 s.shedLevel + fld 7 3 s.shedCauses
  else 0

/-! ## PHC, SYn, POLDER (R367, R368) -/

def SynState.code : SynState → Nat
  | .off => 0 | .acquiring => 1 | .locked => 2 | .holdover => 3

/-- Heads that run on a polder. -/
def State.headsOn (s : State) (p : Nat) : Nat :=
  (s.headList.filter fun h => decide (h.run ≠ .stopped) && h.applied.polder == p).length

def State.viewTime (s : State) (b i : Nat) : Nat :=
  if b = Adr.nowFrac then s.phcFrac
  else if b = Adr.nowNs then s.phcNs
  else if b = Adr.nowSecLo then lo32 s.phcSec
  else if b = Adr.nowSecHi then fld 15 0 (s.phcSec / 4294967296)
  else if b = Adr.syStat 0 then
    let x := s.syn i
    x.state.code + bitAt 2 x.slewing + bitAt 3 (s.synEnabled i && s.synBad i) + fld 6 4 x.active + fld 31 16 x.relocks
  else if b = Adr.syPhase 0 then toTwos 32 (s.syn i).phase
  else if b = Adr.polderStat 0 then
    bitAt 0 (s.polderReady i) + bitAt 1 (s.polderBusy i) + fld 24 16 (s.headsOn i)
  else 0

/-! ## Lanes, ports, the host packet queue (R264, R270, R393 to R395) -/

/-- TXF.STAT.state: 0 NO_FLOW, 1 SQUELCHED, 2 FED. -/
def State.txfState (s : State) (k : Nat) : Nat :=
  if (s.sendFlow (128 + k)).isNone then 0 else if (s.dest (128 + k)).head.isSome && s.txState (128 + k) == 2 then 2 else 1

def State.viewLane (s : State) (b i : Nat) : Nat :=
  if b = Adr.txStat 0 then
    let x := s.dest i
    let st := s.txState i
    st + fld 3 2 x.sampling + fld 7 4 x.interface + (if st = 0 then 0 else fld 15 8 x.lastMode) + fld 23 16 (x.head.getD 0)
  else if b = Adr.grpCtl 0 then b2n (s.unit i).enable
  else if b = Adr.grpStat 0 then b2n (s.unit i).enabled + fld 15 8 (s.unit i).tokens
  else if b = Adr.portCtl 0 then b2n (s.unit (8 + i)).enable
  else if b = Adr.portStat 0 then
    (s.unit (8 + i)).link.toNat + bitAt 8 (s.unit (8 + i)).enabled + fld 23 16 (s.unit (8 + i)).tokens
  else if b = Adr.subMacLo 0 then (if Config.identityOk then lo32 (Config.mac i).toNat else 0)
  else if b = Adr.subMacHi 0 then (if Config.identityOk then (Config.mac i).toNat / 4294967296 else 0)
  else 0

def State.viewHq (s : State) (b : Nat) : Nat :=
  let q := s.net.hq
  if b = Adr.hqRxBaseLo then lo32 q.rxBase.toNat
  else if b = Adr.hqRxBaseHi then hi32 q.rxBase.toNat
  else if b = Adr.hqRxCtl then b2n q.rxEnable + 16 * q.rxSize + 256 * q.rxVector
  else if b = Adr.hqRxHead then q.rxHead.toNat
  else if b = Adr.hqRxTail then q.rxTail.toNat
  else if b = Adr.hqTxBaseLo then lo32 q.txBase.toNat
  else if b = Adr.hqTxBaseHi then hi32 q.txBase.toNat
  else if b = Adr.hqTxCtl then b2n q.txEnable + 16 * q.txSize + 256 * q.txVector
  else if b = Adr.hqTxHead then q.txHead.toNat
  else 0

def State.viewTxf (s : State) (b k : Nat) : Nat :=
  match s.sendFlow (128 + k) with
  | none => 0
  | some f =>
    if b = Adr.txfStat 0 then
      s.txfState k + fld 3 2 f.p1 + bitAt 4 f.b.isSome + bitAt 5 (s.ing.flows.any fun g => g.kind == 8 && g.target == f.target) +
      fld 15 8 f.p0 + fld 23 16 ((s.dest (128 + k)).head.getD 0)
    else if b = Adr.txfPkts 0 then lo32 f.pkts
    else if b = Adr.txfRtpTs 0 then lo32 f.rtpTs
    else 0

/-! ## SRC (R111, R243) -/

def SrcState.code : SrcState → Nat
  | .idle => 0 | .search => 1 | .locked => 2 | .lost => 3 | .quadMember => 4 | .unsupported => 5 | .tooLarge => 6 | .noSpace => 7

/-- Bit i: link i + 1 of the quad group is locked, on whatever lane it comes. -/
def State.linksOf (s : State) (n : Nat) : Nat :=
  if n % 4 ≠ 0 ∨ 128 ≤ n then 0
  else ((List.range 4).map fun i =>
    bitAt i ((List.range 4).any fun k => match (s.src (n + k)).lane with | some m => m.link == i + 1 | none => false)).sum

/-- RING: size in 4 KiB units, slot of the newest frame, pinned slots, frames in progress. -/
def ringWord (r : Option Ring) (prog : Nat) : Nat :=
  match r with
  | some r => fld 23 0 (ceilDiv r.bytes 4096) + fld 25 24 (r.newest.getD 0) + fld 28 26 r.pinned + fld 30 29 prog
  | none => 0

def State.viewSrcIn (s : State) (b n j : Nat) : Nat :=
  let x := s.src n
  let f := x.fmt
  if b = Adr.srcStat 0 then x.state.code + fld 7 4 (s.linksOf n) + bitAt 8 x.legA + bitAt 9 x.legB
  else if b = Adr.srcFmt 0 then
    fld 7 0 f.mode + fld 9 8 f.sampling + fld 11 10 f.colorimetry + fld 13 12 f.transfer + fld 14 14 f.range + fld 19 16 f.rate +
    fld 23 20 f.interface + bitAt 24 f.pidPresent + bitAt 25 f.pidMismatch
  else if b = Adr.srcPid 0 then x.pid.toNat
  else if b = Adr.srcCfg0 0 then
    fld 15 0 x.holdMs + fld 17 16 x.fallback + bitAt 18 x.ringFixed + bitAt 19 x.damagePub + fld 21 20 x.quad + fld 25 22 x.rateLock
  else if b = Adr.srcCfg1 0 then
    fld 7 0 x.ringMax + fld 9 8 x.defSampling + fld 11 10 x.defColorimetry + fld 13 12 x.defTransfer + fld 14 14 x.defRange +
    bitAt 15 x.pidOverride
  else if b = Adr.srcSlate 0 then x.slate.toNat
  else if b = Adr.srcRing 0 then
    ringWord x.ring ((match x.sdiProg with | some (some _) => 1 | _ => 0) + (x.ipProg.filter fun f => f.slot.isSome).length)
  else if b = Adr.srcArrNs 0 then x.arrNs
  else if b = Adr.srcArrSecLo 0 then lo32 x.arrSec
  else if b = Adr.srcArrSecHi 0 then fld 15 0 (x.arrSec / 4294967296)
  else if b = Adr.srcPeriod 0 then x.period
  else if b = Adr.srcSkew 0 then toTwos 21 x.skewUs
  else if b = Adr.srcLedger 0 0 then ledWord (s.ledgerOf 1 n) j
  else 0

/-- A layer that is being composed reads this frame of a converted source (R99). -/
def State.convPinned (s : State) (m id : Nat) : Bool :=
  s.headList.any fun h => !h.deadlineDone && (match h.composing with
    | some p => p.layers.any fun l => (match l.shown with | .frame n f => n == 256 + m && f.id == id | _ => false)
    | none => false)

/-- RING of a converted source: the 2 slots of R236; frame number k stands in slot k mod 2. -/
def State.convRing (s : State) (m : Nat) : Nat :=
  let c := s.cnv m
  fld 23 0 (ceilDiv (if c.state = .groupLead then 74649600 else 18662400) 4096) +
  fld 25 24 (match c.out with | f :: _ => f.id % 2 | [] => 0) +
  ((c.out.filter fun f => s.convPinned m f.id).map fun f => 2 ^ (26 + f.id % 2)).sum + bitAt 29 c.build.isSome

/-- The space and the hold time that a converted source shows: those of its input, through conversions of re-entries. -/
def State.viewSrcConv (s : State) (b m j : Nat) : Nat :=
  let c := s.cnv m
  let x := s.src c.input
  let live := decide (c.state = .single ∨ c.state = .groupLead)
  if b = Adr.srcStat 0 then c.srcState.code
  else if b = Adr.srcLedger 0 0 then ledWord (s.ledgerOf 4 m) j
  else if !live then 0
  else if b = Adr.srcFmt 0 then
    -- a re-entry input is in the internal format: 4:4:4 at 12 bits, full range, in the head's working space (R184, R197)
    let sp := if c.input < 256 then (s.colIn c.input).ringSpace x.fmt else s.workSpace (c.input - 384)
    fld 7 0 (s.inputMode c.input) + (if c.mode = 1 then fld 9 8 (if c.input < 256 then x.fmt.sampling else 2) else 0) + fld 11 10 sp.1 +
    fld 13 12 sp.2 + (if c.input < 256 then fld 14 14 x.fmt.range else bitAt 14 true)
  else if b = Adr.srcCfg0 0 then (if c.input < 256 then fld 15 0 x.holdMs + fld 17 16 x.fallback else 0)
  else if b = Adr.srcRing 0 then
    s.convRing m
  else if b = Adr.srcArrNs 0 then c.arrNs
  else if b = Adr.srcArrSecLo 0 then lo32 c.arrSec
  else if b = Adr.srcArrSecHi 0 then fld 15 0 (c.arrSec / 4294967296)
  else if b = Adr.srcPeriod 0 then (if c.periods = [] then 0 else c.periods.sum / c.periods.length)
  else 0

/-- A re-entry source has no register of its own: it reads 0 (log 40). -/
def State.viewSrc (s : State) (b n j : Nat) : Nat :=
  if n < 256 then s.viewSrcIn b n j else if n < 384 then s.viewSrcConv b (n - 256) j else 0

end Sys2Proof.Machine
end

