-- ==== Sys2Proof/Machine/Views2.lean ====
section
/-!
DEFINITION. Machine/Views2.lean: the other views of BAR0: heads, scalers, converters, colour, audio, pin sense, push channels,
the non-volatile store, the cocoon, management; and the view of any register.
-/
namespace Sys2Proof.Machine

/-! ## HEAD (R145, R181, R281, R523) -/

def RunState.code : RunState → Nat
  | .stopped => 0 | .line => 1 | .frame => 2 | .recovering => 3

/-- What the registers of a head mirror: the applied configuration, with the old picture in place while a transition runs. -/
def Head.mirror (x : Head) : HeadCfg :=
  match x.trans with
  | some t => x.applied.mixed t.old
  | none => x.applied

/-- Bit k for each layer with a property. -/
def layerBits (l : List LayerRun) (p : LayerRun → Bool) : Nat := ((l.take 8).zipIdx.map fun e => bitAt e.2 (p e.1)).sum

/-- The raster line that a running head scans out (R247). -/
def State.scanLine (s : State) (h : Nat) : Nat :=
  let x := s.head h
  match modeOf x.applied.mode with
  | some m =>
    let q := s.polder x.applied.polder
    if x.run = .stopped then 0
    else min m.lines ((s.now - q.lastStart) * m.lines / max 1 (periodTicks (s.polderRate x.applied.polder)) + 1)
  | none => 0

/-- The second field begins at its switching line. -/
def State.inField2 (s : State) (h : Nat) : Bool :=
  match modeOf (s.head h).applied.mode with
  | some m => decide (m.flip2 ≠ 0 ∧ m.flip2 ≤ s.scanLine h)
  | none => false

def State.viewHead1 (s : State) (b h i : Nat) : Nat :=
  let x := s.head h
  let c := x.mirror
  if b = Adr.hdCfg 0 then
    (if x.run = .stopped then 0 else c.mode) + fld 12 8 c.polder + fld 19 16 c.count + bitAt 20 c.dike +
    bitAt 21 (decide (x.managed = .software))
  else if b = Adr.hdStat 0 then
    x.run.code + fld 15 8 (layerBits x.layers (·.heldOff)) + fld 23 16 (layerBits x.layers fun l => decide (l.cls = .cutOff))
  else if b = Adr.hdBgLo 0 then lo32 c.background.toNat
  else if b = Adr.hdBgHi 0 then fld 3 0 (c.background.toNat / 4294967296)
  else if b = Adr.hdLoad 0 then (if x.run = .stopped then 0 else fld 12 0 (c.loadMpix x.trans.isSome)) + fld 28 16 4800
  else if b = Adr.hdFetch 0 then fld 11 0 (s.needNow x) + fld 27 16 x.fetchGrant
  else if b = Adr.hdDest 0 0 then ((List.range 32).map fun k => bitAt k (s.feeds h (32 * i + k))).sum
  else if b = Adr.hdSluice 0 then
    fld 3 0 c.window + (if x.run = .stopped then 0 else
      fld 15 4 (if x.run = .frame then sluiceLine c.mode c.window else 1) +
      fld 27 16 (match modeOf c.mode with | some m => m.flip | none => 0))
  else if b = Adr.hdInstar 0 then x.instar.toNat
  else if b = Adr.cmtStat 0 then fld 4 0 x.commits + bitAt 5 (x.queue.any fun c => c.locked && c.kind != .stop)
  else if b = Adr.hdLedger 0 0 then ledWord (s.ledgerOf 2 h) i
  else 0

def State.viewHead2 (s : State) (b h : Nat) : Nat :=
  let x := s.head h
  if b = Adr.scan 0 then fld 11 0 (s.scanLine h) + bitAt 12 (s.inField2 h) + bitAt 13 x.handover
  else if b = Adr.flipNs 0 then x.flipNs
  else if b = Adr.flipSecLo 0 then lo32 x.flipSec
  else if b = Adr.flipSecHi 0 then fld 15 0 (x.flipSec / 4294967296)
  else if b = Adr.fcountLo 0 then lo32 x.fcount
  else if b = Adr.fcountHi 0 then hi32 x.fcount
  else if b = Adr.hdSum 0 then
    bitAt 0 (s.rd (Adr.hdCause h) != 0) + bitAt 1 (s.fget (Adr.cmtStat h) 10 8 != 0) + bitAt 2 (s.rd (Adr.hsCause h) != 0) +
    bitAt 3 (s.fget (Adr.hdFault h) 2 0 != 0)
  else if b = Adr.hdFault 0 then bitAt 3 x.abandoned + fld 15 8 (s.recentResets h).length
  else 0

def State.viewLayer (s : State) (b h k : Nat) : Nat :=
  let x := s.head h
  let c := x.mirror
  let l := c.layer k
  let r := x.layers.getD k LayerRun.reset
  if b = Adr.lctl 0 0 then
    bitAt 0 l.enable + bitAt 1 l.opq + bitAt 2 l.premult + bitAt 3 l.holdOff + bitAt 4 l.allowDegrade + fld 7 5 l.kind +
    fld 10 8 (if l.fallback = 0xFF then 7 else l.fallback) + fld 31 16 l.holdMs
  else if b = Adr.lsrcLo 0 0 then lo32 l.src.toNat
  else if b = Adr.lsrcHi 0 0 then hi32 l.src.toNat
  else if b = Adr.lcropXy 0 0 then fld 15 0 l.cropX + fld 31 16 l.cropY
  else if b = Adr.lcropWh 0 0 then fld 15 0 l.cropW + fld 31 16 l.cropH
  else if b = Adr.ldstXy 0 0 then toTwos 16 l.dstX + 65536 * toTwos 16 l.dstY
  else if b = Adr.ldstWh 0 0 then fld 15 0 l.dstW + fld 31 16 l.dstH
  else if b = Adr.lalpha 0 0 then fld 12 0 l.alpha + fld 31 16 l.scaler
  else if b = Adr.lraw 0 0 then fld 7 0 l.rawFormat + fld 31 8 (l.rawPitch / 64)
  else if b = Adr.lstat 0 0 then fld 2 0 r.cls.code + fld 9 8 r.underruns
  else if b = Adr.lcull 0 0 then
    (if x.run = .stopped then 0
     else fld 15 0 (c.cullCount x.trans.isSome k) + fld 27 16 (s.layerTokens c x.trans.isSome k))
  else 0

/-! ## SCL, CNV, COL (R209, R210, R244) -/

def SclState.code : SclState → Nat
  | .free => 0 | .single => 1 | .gangLead => 2 | .gangMember => 3

/-- The applied layer that names a scaler: head, layer. The member of a pair serves the layer of its lead. -/
def State.sclUser (s : State) (n : Nat) : Option (Nat × Nat) :=
  let k := if (s.scl n).state = .gangMember then n - 1 else n
  s.hds.heads.findSome? fun e =>
    if e.2.run = .stopped then none
    else ((List.range 8).find? fun i => e.2.mirror.live i && (e.2.mirror.layer i).scaler == k).map fun i => (e.1, i)

/-- The scaler of a pair that has its state. -/
def State.sclLead (s : State) (n : Nat) : Scaler := if (s.scl n).state = .gangMember then s.scl (n - 1) else s.scl n

/-- The applied layer of a scaler degrades an axis (R191, R193). -/
def State.sclDegraded (s : State) (n : Nat) : Bool :=
  (s.sclUser n).isSome && ((s.sclLead n).degV || (s.sclLead n).degH)

/-- LB: capacity, need and stored width for the applied layer. -/
def State.sclBuffer (s : State) (n : Nat) : Nat :=
  match s.sclUser n with
  | some (h, k) =>
    let c := (s.head h).mirror
    let l := c.layer k
    let r := s.layerRaster l
    let cr := l.crop r
    let w := storedWidth cr.2.2.1 l.dstW l.dstX (modeW c.mode)
    fld 7 0 (lineCapacity w (s.layerAlpha l) l.gang) + fld 15 8 (s.sclLead n).need + fld 28 16 w
  | none => 0

def setLoaded (x : Option ScSet) : Bool := match x with | some y => decide (y.tapsH ≠ 0) | none => false
def setKept (x : Option ScSet) : Bool := match x with | some y => y.persist | none => false

def State.viewScl (s : State) (b n : Nat) : Nat :=
  let x := s.scl n
  if b = Adr.sclCtl 0 then
    x.state.code + bitAt 2 (s.sclDegraded n) + fld 11 8 x.tapsH + fld 15 12 x.tapsV + fld 17 16 x.setH + fld 19 18 x.setV
  else if b = Adr.sclUse 0 then
    fld 15 0 x.owner + (match s.sclUser n with | some (h, k) => fld 23 16 h + fld 26 24 k + bitAt 27 true | none => 0)
  else if b = Adr.sclLb 0 then s.sclBuffer n
  else if b = Adr.sclSets 0 then
    bitAt 1 (setLoaded x.set1) + bitAt 2 (setLoaded x.set2) + bitAt 3 (setLoaded x.set3) +
    bitAt 5 (setKept x.set1) + bitAt 6 (setKept x.set2) + bitAt 7 (setKept x.set3) +
    (match x.set1 with | some y => fld 11 10 (y.tapsH / 2 - 1) + fld 9 8 (y.tapsV / 2 - 1) | none => 0)
  else 0

def CnvState.code : CnvState → Nat
  | .free => 0 | .single => 1 | .groupLead => 2 | .groupMember => 3

def State.viewCnv (s : State) (b m : Nat) : Nat :=
  let x := s.cnv m
  let live := decide (x.state = .single ∨ x.state = .groupLead)
  if b = Adr.cnvCtl 0 then
    x.state.code + (if live then fld 3 2 x.mode + fld 4 4 x.scan + fld 9 5 x.polder + fld 11 10 x.cadence + fld 25 16 x.input else 0)
  else if !live then 0
  else if b = Adr.cnvStat 0 then
    fld 1 0 x.built + bitAt 2 (decide (2 ≤ s.shedLevel)) + bitAt 3 x.withholding + fld 5 4 x.lock + fld 15 8 x.confidence + fld 22 16 x.phase
  else if b = Adr.cnvTok 0 then fld 7 0 x.power + fld 15 8 x.fetch
  else if b = Adr.cnvDelay 0 then fld 23 0 ((s.cnvD m x.mode + 250) / 500) + fld 31 24 x.confMin
  else if b = Adr.cnvOwn 0 then fld 15 0 x.owner
  else 0

def StageMode.code : StageMode → Nat
  | .auto => 0 | .loaded => 1 | .bypass => 2

def colWord (u : ColUnit) (a b : Nat × Nat) (range : Nat) : Nat :=
  fld 1 0 a.1 + fld 3 2 a.2 + fld 5 4 b.1 + fld 7 6 b.2 + fld 9 8 u.pre.code + fld 11 10 u.matrix.code + fld 13 12 u.post.code +
  bitAt 14 u.lut3d + bitAt 15 u.persist3d + fld 16 16 range

/-- A destination sends 12 bits: what it was fed with, or, while no head feeds it, what it would be (R259). -/
def State.deep (s : State) (d : Nat) : Bool :=
  if (s.dest d).head.isSome then (s.dest d).sampling == 2
  else if d < 128 then s.fget (Adr.txMap d) 5 4 == 2 else match s.sendFlow d with | some f => f.p1 == 2 | none => false

def State.viewCol (s : State) (b i : Nat) : Nat :=
  if b = Adr.colInCfg 0 then
    let f := (s.src i).fmt
    colWord (s.colIn i) ((s.colIn i).ringSpace f) (f.colorimetry, f.transfer) f.range
  else if b = Adr.colInStat 0 then lo32 (s.colIn i).loads
  else if b = Adr.colOutCfg 0 then
    let u := s.colOut i
    colWord u (u.space.getD s.house) (u.outSpace.getD s.house) u.outRange
  else if b = Adr.colOutStat 0 then lo32 (s.colOut i).loads
  else if b = Adr.dithCtl 0 then fld 1 0 (s.dith i).mode + bitAt 2 (s.deep i)
  else if b = Adr.dithSeed 0 then (s.dith i).seed.toNat
  else 0

/-! ## AUD (R342) -/

def State.viewAud (s : State) (b i : Nat) : Nat :=
  if b = Adr.audSrc then fld 10 0 (1024 - s.srcUsed) + fld 28 16 (s.aud.ins.filter fun e => e.2.stalled).length
  else if b = Adr.agStat 0 then
    let g := s.audGrp i
    (if g.inputs.any fun k => (s.audIn k).stalled then 3 else g.cls.code) + fld 5 2 g.groups +
    fld 10 6 (g.inputs.filter fun k => (s.audIn k).src).length + fld 31 16 (toTwos 16 g.ppm)
  else if b = Adr.agBase 0 then fld 12 0 (s.audGrp i).base + fld 20 16 (s.audGrp i).count
  else if b = Adr.atBase 0 then
    match s.aud.txRuns.find? fun r => r.1 == i with
    | some (_, k, n) => fld 12 0 k + fld 20 16 n
    | none => 0
  else 0

def State.viewAudOut (s : State) (b o : Nat) : Nat :=
  let x := s.audOut o
  if b = Adr.aoCtl 0 then
    fld 12 0 (x.input.getD 0) + bitAt 13 x.input.isSome + bitAt 14 x.follow.isSome + bitAt 15 x.mute + bitAt 16 x.invert +
    bitAt 17 (match x.input with | some i => s.nonPcm i | none => false) +
    (match x.follow with | some (d, l) => fld 25 18 d + fld 28 26 l | none => 0)
  else if b = Adr.aoGain 0 then toTwos 16 x.gain + fld 21 16 x.ramp + fld 25 22 x.comp
  else if b = Adr.aoDelay 0 then fld 13 0 x.delay + 65536 * toTwos 16 x.lipsync
  else if b = Adr.aoStat 0 then fld 15 0 x.owner + bitAt 16 x.wait.isSome + bitAt 17 x.clamped
  else 0

/-! ## PSN, PUSH (R282, R310) -/

/-- PSN.DST.STAT.state: 0 not fed, 1 checking, 2 unchecked (R298). -/
def State.psnState (s : State) (d : Nat) : Nat :=
  if (s.dest d).head.isNone then 0
  else if s.laneTest d || (decide (128 ≤ d) && (s.sendFlow d).isNone) then 2 else 1

/-- A seal has waited longer than the interval to be signed. -/
def State.sealLags (s : State) : Bool :=
  s.psn.chains.any fun e => match e.2.due with | some t => decide (t + s.sealInterval < s.now) | none => false

def State.viewPsn (s : State) (b i : Nat) : Nat :=
  let k := s.dike i
  if b = Adr.psnStat 0 then s.psnState i + fld 5 2 (s.psnDest i).spots + bitAt 6 (s.psnDest i).crc
  else if b = Adr.hsDike 0 then
    (match k.slot with
     | some n => bitAt 0 true + fld 15 8 n + fld 21 16 k.counter
     | none => 0) + bitAt 1 k.shown.isSome + bitAt 2 k.frozen
  else if b = Adr.hsDikeCnt 0 then (match k.slot with | some _ => lo32 (s.ctrValue k.counter) | none => 0)
  else if b = Adr.sealStat then
    bitAt 0 s.sealKey.isNone + bitAt 1 s.psn.stopped + bitAt 2 s.psn.log.isOpen + bitAt 3 s.sealLags
  else if b = Adr.logTail then s.psn.log.tail.toNat
  else 0

def State.viewPush (s : State) (b c : Nat) : Nat :=
  let p := s.push c
  let g := p.cfg
  if b = Adr.puCtl 0 then
    bitAt 0 p.enabled + bitAt 1 g.persist + fld 3 2 (Nat.log2 g.dec) + bitAt 4 (g.format != 4) + fld 12 5 g.interval +
    fld 20 13 g.head + fld 25 21 g.ringLog2 + fld 31 26 g.vector
  else if b = Adr.puXy 0 then fld 15 0 g.x + fld 31 16 g.y
  else if b = Adr.puWh 0 then fld 15 0 g.w + fld 31 16 g.h
  else if b = Adr.puRingLo 0 then lo32 g.addr.toNat
  else if b = Adr.puRingHi 0 then hi32 g.addr.toNat
  else if b = Adr.puHead 0 then p.headIdx.toNat
  else if b = Adr.puTail 0 then p.tail.toNat
  else if b = Adr.puStat 0 then
    (if p.enabled = false then 0 else if p.shed then 2 else if p.noFrame then 3 else 1) + fld 3 2 p.fetch + fld 6 4 p.power +
    fld 31 16 p.owner
  else if b = Adr.puRefresh 0 then fld 15 0 g.refresh
  else 0

/-! ## NV, COC, MGMT (R444, R472, R493) -/

def State.viewNv (s : State) (b i : Nat) : Nat :=
  if b = Adr.nvStat then
    s.nvState + bitAt 2 s.holdupOk + bitAt 3 (s.nv.erasing || !s.nv.jobs.isEmpty) + bitAt 4 s.nv.flushing + fld 25 16 s.nv.queue.length
  else if b = Adr.nvHoldup then fld 11 0 s.nv.energy
  else if b = Adr.nvSpace then fld 10 0 s.nvLive + fld 23 16 s.nvErased + fld 31 24 s.nvRetired
  else if b = Adr.nvWear then fld 15 0 (s.recWear / 1000) + fld 31 16 (s.ctrWear / 1000)
  else if b = Adr.nvSeq then lo32 s.nv.seq
  else if b = Adr.nvCntLo 0 then lo32 (s.ctrValue i)
  else if b = Adr.nvCntHi 0 then hi32 (s.ctrValue i)
  else if b = Adr.nvEpoch 0 then lo32 (s.ctr i).epoch
  else 0

/-- The identity matches the Getrum certificate (R429). -/
def State.certified (s : State) : Bool := s.coc.root.isSome && s.coc.original && Config.certPresent && Config.certificateOk

def State.viewCoc (s : State) (b i : Nat) : Nat :=
  if b = Adr.cocStat then
    bitAt 0 s.keyless + bitAt 1 s.certified + bitAt 2 s.coc.transport + bitAt 3 s.coc.admin.isSome + bitAt 4 s.coc.pending +
    fld 15 8 (s.coc.slots.filter fun e => e.2.isSome).length + fld 31 16 s.coc.breaches
  else if b = Adr.brCause then fld 21 16 s.coc.live
  else if b = Adr.cocSlot 0 then
    match s.key i with
    | some k =>
      fld 3 0 k.type + fld 11 4 k.use + bitAt 12 k.ephemeral + bitAt 13 k.counted + bitAt 14 k.expired +
      bitAt 15 (decide (k.origin = 1 ∨ k.origin = 2)) + fld 31 16 k.owner
    | none => 0
  else 0

def State.viewMgmt (s : State) (b i : Nat) : Nat :=
  let p := s.pair i
  let m := s.mg.moult
  if b = Adr.mgStat then fld 0 0 s.mg.serving + bitAt 1 s.mg.noFw + bitAt 2 s.mg.locked
  else if b = Adr.pairStat 0 then p.state.code + bitAt 3 p.remap + fld 4 4 p.slot
  else if b = Adr.pairFw 0 then p.version.toNat
  else if b = Adr.moultStat then m.state.code + fld 7 4 m.reason + fld 8 8 m.target + fld 31 16 m.kib
  else if b = Adr.slotVer 0 then (s.mg.slotOf i).version.toNat
  else if b = Adr.slotSeq 0 then
    (s.mg.slotOf i).seq.toNat + fld 23 16 (s.mg.slotOf i).secver.toNat + bitAt 24 (s.mg.slotOf i).valid
  else if b = Adr.mgLock then bitAt 17 s.mg.locked
  else 0

/-! ## Any register -/

/-- What the view fields of a register show. -/
def State.view (s : State) (b i j : Nat) : Nat :=
  if b < 0x10000 then s.viewGlb b i
  else if b < 0x20000 then s.viewHif b i
  else if b < 0x40000 then s.viewEvt b i
  else if b < 0x80000 then s.viewLeave b
  else if b < 0x100000 then s.viewTime b i
  else if b < 0x188000 then s.viewLane b i
  else if b < 0x190000 then s.viewHq b
  else if b < 0x200000 then s.viewTxf b i
  else if b < 0x400000 then s.viewSrc b i j
  else if b < 0x400060 then s.viewHead1 b i j
  else if b < 0x400100 then s.viewHead2 b i
  else if b < 0x400400 then s.viewLayer b i j
  else if b < 0x500000 then s.viewHead1 b i j
  else if b < 0x540000 then s.viewScl b i
  else if b < 0x580000 then s.viewCnv b i
  else if b < 0x600000 then s.viewCol b i
  else if b < 0x610000 then s.viewAud b i
  else if b < 0x700000 then s.viewAudOut b i
  else if b < 0x770000 then s.viewPsn b i
  else if b < 0x780000 then s.viewPush b i
  else if b < 0x7C0000 then s.viewNv b i
  else if b < 0x7E0000 then s.viewCoc b i
  else s.viewMgmt b i

/-- A register of a UHD group's second slice, which has nothing nonzero but CTL.state (R244). -/
def State.groupMember (s : State) (b i : Nat) : Bool := decide (0x540000 ≤ b) && decide (b < 0x580000) && decide ((s.cnv i).state = .groupMember)

/-- What a register reads: the register file and the views (R9); write-only bits read 0. -/
def State.regValue (s : State) (a b i j : Nat) : Nat :=
  if s.groupMember b i then s.view b i j % 4294967296 else (s.rd a ||| s.view b i j) % 4294967296

end Sys2Proof.Machine
end

