-- ==== Sys2Proof/Machine/RegRead.lean ====
section
/-!
DEFINITION. Machine/RegRead.lean: BAR0 reads, and accesses that reach no register (R7 to R9, R530 to R537, R483).
-/
namespace Sys2Proof.Machine

/-! ## What an address reaches -/

/-- BAR0 and BAR2 in bytes (R530, R538). -/
def bar0Size : Nat := 0x4000000
def bar2Size : Nat := 0x10000000

/-- An access lies in the expert window (R483). -/
def inWindow (a : Nat) : Bool := decide (0x1000000 ≤ a)

/-- The BAR0 address of the register that an access reaches. The window presents the blocks SRC to AUD at 0x0200_0000 above
their own addresses; elsewhere in the window nothing lies. -/
def regAddr (a : Nat) : Option Nat :=
  if inWindow a then (if 0x2200000 ≤ a ∧ a < 0x2700000 then some (a - 0x2000000) else none) else some a

/-- A block whose registers STANDBY darkens: SRC, HEAD, SCL, CNV, COL, AUD, PSN and PUSH (R537). -/
def State.dark (s : State) (a : Nat) : Bool := s.pwr.standby && decide (0x200000 ≤ a ∧ a < 0x780000)

/-- The register that an access reaches: its address, row and instance numbers; none where the access is unmapped. -/
def State.reach (s : State) (a : Nat) : Option (Nat × RegRow × Nat × Nat) :=
  match regAddr a with
  | some b => if s.dark b then none else (findReg b).map fun r => (b, r)
  | none => none

/-! ## Accesses outside the rules (R532, R533) -/

/-- An unmapped window access: counted, and EV_WIN_UNMAPPED once per run of them (R483, R494). -/
def State.winUnmapped (s : State) (a : Nat) : State :=
  let s := s.count Adr.winStat 15 0 1
  if s.mg.winRun then s
  else (s.updMg fun m => { m with winRun := true }).mgRaise 4 0x1104 [(24, 4, a)]

/-- An unmapped access: counted with its offset; in the window in MGMT.WIN_STAT. -/
def State.unmapped (s : State) (a : Nat) : State :=
  if inWindow a then s.winUnmapped a else (s.count Adr.glbAccErr 15 0 1).wr Adr.glbAccAddr a

/-- An access that is not an aligned 32-bit access: counted with its offset. -/
def State.badSize (s : State) (a : Nat) : State := (s.count Adr.glbAccErr 31 16 1).wr Adr.glbAccAddr (bits a 25 0)

/-- A read answers a word. -/
def State.answer (s : State) (v : Nat) : State := { s with reply := .word (BitVec.ofNat 32 v) }

/-- UNMAPPED_ACCESS: a read (`write` false) returns 0, a write is discarded. -/
def execUnmappedAccess (addr : BitVec 32) (write : Bool) (s : State) : Out3 :=
  let a := addr.toNat
  if bar0Size ≤ a then .fault .outsideBar0
  else
    .next (
      if a % 4 = 0 ∧ (s.reach a).isNone = true then
        let s := s.unmapped a
        if write then s else s.answer 0
      else s)

/-- BAD_SIZE_ACCESS: too few byte enables, or not aligned; no side effect but the count. -/
def execBadSizeAccess (addr : BitVec 32) (write : Bool) (s : State) : Out3 :=
  let a := addr.toNat
  if bar0Size ≤ a then .fault .outsideBar0
  else .next (let s := s.badSize a; if write then s else s.answer 0)

/-! ## Latches (R8, R346, R352, R354, R392) -/

/-- The low words of quantities of two registers. -/
def pairBases : List Nat :=
  [Adr.sqBaseLo 0, Adr.cqBaseLo 0, Adr.erBaseLo 0, Adr.hbmUeLo, Adr.stepSecLo, Adr.nowSecLo, Adr.ppsSecLo, Adr.subMacLo 0,
   Adr.subNhMacLo 0, Adr.hqRxBaseLo, Adr.hqTxBaseLo, Adr.srcArrSecLo 0, Adr.hdBgLo 0, Adr.flipSecLo 0, Adr.fcountLo 0,
   Adr.lsrcLo 0 0, Adr.puRingLo 0, Adr.nvCntLo 0, Adr.brAonLo, Adr.mapAonLo, Adr.mapSecLo, Adr.moultAddrLo, Adr.refEdgeNs 0,
   Adr.prbsErrLo 0]

/-- How many of the registers that follow a read latches: the high word of a pair or of a ledger counter, or the rest of
its group. -/
def latchSpan (b j : Nat) : Nat :=
  if b = Adr.ppsNs ∨ b = Adr.srcArrNs 0 then 2
  else if b = Adr.flipNs 0 then 4
  else if b = Adr.prbsBitsLo 0 then 3
  else if b = Adr.srcLedger 0 0 ∨ b = Adr.hdLedger 0 0 then (if j % 2 = 0 then 1 else 0)
  else if pairBases.contains b then 1
  else 0

/-- The value of the register at an address. -/
def State.valueAt (s : State) (a : Nat) : Nat :=
  match findReg a with
  | some (r, i, j) => s.regValue a r.base i j
  | none => 0

/-- A requester latches the `n` registers after `a`. -/
def State.latchNext (s : State) (who a n : Nat) : State :=
  (List.range n).foldl (fun t k => t.latch who (a + 4 + 4 * k) (s.valueAt (a + 4 + 4 * k))) s

/-! ## Reads -/

/-- The RC fields of a register clear after they have been read. -/
def State.clearRc (s : State) (r : RegRow) (a i : Nat) : State :=
  let s := r.fields.foldl (fun s f => if f.acc = .rc then s.fset a f.hi f.lo 0 else s) s
  if r.base = Adr.dbReject 0 then s.setSq i { s.sq i with dbReject := 0 } else s

/-- LANE.RXEQ shows what the receiver has adapted and LANE.EYE what it measures: free values, while it has adapted or holds
what it adapted last, and while its CDR is locked (R375). -/
def State.measured (s : State) (b i : Nat) : Bool :=
  (b == Adr.laneRxeq 0 && (s.fget (Adr.laneCtl i) 7 6 == 1 || (s.fget (Adr.laneCtl i) 7 6 != 2 && s.flag (Adr.laneStat i) 2))) ||
  (b == Adr.laneEye 0 && s.flag (Adr.laneStat i) 1)

/-- The free value that such a register shows. -/
def State.readMeasured (s : State) (b : Nat) : State :=
  let f := s.fresh
  let v := f.1.toNat
  f.2.answer (if b = Adr.laneEye 0 then bits v 15 0 else bits v 5 0 + fld 13 8 v + fld 21 16 v)

/-- A read of a register by a requester. -/
def State.readReg (s : State) (who a : Nat) (r : RegRow) (i j : Nat) : State :=
  if r.base = Adr.nowNs then s.readNow who
  else if s.measured r.base i then s.readMeasured r.base
  else
    match s.unlatch who a with
    | (some v, t) => t.answer v.toNat
    | (none, _) => ((s.latchNext who a (latchSpan r.base j)).clearRc r a i).answer (s.regValue a r.base i j)

/-- A run of unmapped window accesses ends at a window access that reaches a register. -/
def State.winEnd (s : State) (a : Nat) : State :=
  if inWindow a && s.mg.winRun then s.updMg fun m => { m with winRun := false } else s

/-- A 32-bit read of BAR0. -/
def State.bar0Read (s : State) (who a : Nat) : State :=
  if a % 4 ≠ 0 then (s.badSize a).answer 0
  else
    match s.reach a with
    | none => (s.unmapped a).answer 0
    | some (b, r, i, j) => (s.winEnd a).readReg who b r i j

/-- REGISTER_READ by the host link (0), pair A (1) or pair B (2). -/
def execRegisterRead (who : Fin 3) (addr : BitVec 32) (s : State) : Out3 :=
  if bar0Size ≤ addr.toNat then .fault .outsideBar0 else .next (s.bar0Read who addr.toNat)

end Sys2Proof.Machine
end

