-- ==== Sys2Proof/Machine/RegWrite.lean ====
section
/-!
DEFINITION. Machine/RegWrite.lean: BAR0 writes (R9, R10, R42, R534 to R537), block by block.
A write acts on each field by its access code. A field that another structure of the state holds, and a field whose write
does more than set it, follows the rule of its own chapter.
-/
namespace Sys2Proof.Machine

/-- A field of the register file by its access code: RW and RWS set, a 1 clears a W1C bit, the others ignore the write. -/
def State.writeField (s : State) (a v : Nat) (f : Fld) : State :=
  let x := bits v f.hi f.lo
  match f.rst, f.acc with
  | .view, _ => s
  | _, .rw => s.fset a f.hi f.lo x
  | _, .rws => s.fset a f.hi f.lo x
  | _, .w1c => s.fset a f.hi f.lo (s.fget a f.hi f.lo - (s.fget a f.hi f.lo &&& x))
  | _, _ => s

/-- The fields of a register that the register file holds. Bits outside them are ignored (R10). -/
def State.writeFields (s : State) (r : RegRow) (a v : Nat) : State :=
  let t := r.fields.foldl (fun t f => t.writeField a v f) s
  if t.rd a = s.rd a then t else if r.fields.any fun f => f.acc == .rws then t.rwsTouch a else t

/-- Low and high word of a 64-bit number replaced. -/
def putLo (x : BitVec 64) (v : Nat) : BitVec 64 := BitVec.ofNat 64 (hi32 x.toNat * 4294967296 + v % 4294967296)
def putHi (x : BitVec 64) (v : Nat) : BitVec 64 := BitVec.ofNat 64 (v % 4294967296 * 4294967296 + lo32 x.toNat)

/-- An address without its bits below bit `k`. -/
def alignTo (k v : Nat) : Nat := v / 2 ^ k * 2 ^ k

/-! ## GLB (R498, R501, R504, R507) -/

/-- A write to GLB.RESTORE. -/
def State.writeRestoreReg (s : State) (v : Nat) : State :=
  let auto := decide (bits v 0 0 = 1)
  let gated := decide (bits v 1 1 = 1)
  let s := if auto = s.nv.auto ∧ gated = s.nv.gated then s else s.writeRestore auto gated
  if bits v 2 2 = 1 then s.restoreGo else s

def State.writeGlb (s : State) (r : RegRow) (a v : Nat) : State :=
  if r.base = Adr.pwrCtl then s.pwrTarget (bits v 1 0)
  else if r.base = Adr.rstCtl then (if bits v 15 0 = 0xA5C3 ∧ bits v 16 16 = 1 then s.askWarm 3 else s)
  else if r.base = Adr.headRst then
    let s := s.fset Adr.headRst 7 0 (bits v 7 0)
    if bits v 8 8 = 1 then s.headReset (bits v 7 0) else s
  else if r.base = Adr.restore then s.writeRestoreReg v
  else s.writeFields r a v

/-! ## HIF (R42, R43, R58, R72) -/

/-- A write to a base register of a submission ring: ignored while its enable is 1 or it is not DISABLED (R42). -/
def State.writeSqBase (s : State) (n : Nat) (base : BitVec 64) : State :=
  let q := s.sq n
  if q.enable = false ∧ q.state = .disabled then s.setSq n { q with base := base } else s

def State.writeCqBase (s : State) (c : Nat) (base : BitVec 64) : State :=
  if (s.cq c).enable then s else s.setCq c { s.cq c with base := base }

/-- A word of the MSI-X table. The address is doubleword aligned; vector control has the mask bit alone; a pending vector
that is unmasked sends its message (PCIe Base 5.0, PRESUMED, log 20). -/
def State.writeMsix (s : State) (i v : Nat) : State :=
  let w := if i % 4 = 0 then alignTo 2 v else if i % 4 = 3 then v % 2 else v
  let s := s.updHif fun h => { h with msix := Tab.set msixDefault h.msix i (BitVec.ofNat 32 w) }
  let k := i / 4
  if i % 4 = 3 ∧ w = 0 ∧ s.hif.pba.contains k = true ∧ s.hif.d3hot = false then
    (s.updHif fun h => { h with pba := h.pba.filter fun p => p ≠ k }).msixSend k
  else s

def State.writeHif (s : State) (r : RegRow) (a n v : Nat) : State :=
  if r.base = Adr.sqBaseLo 0 then s.writeSqBase n (putLo (s.sq n).base (alignTo 4 v))
  else if r.base = Adr.sqBaseHi 0 then s.writeSqBase n (putHi (s.sq n).base v)
  else if r.base = Adr.sqCtl 0 then s.writeSqCtl n v
  else if r.base = Adr.sqDb 0 then s.writeDoorbell n v
  else if r.base = Adr.sqSeqNext 0 then
    (if (s.sq n).state = .disabled then s.setSq n { s.sq n with seqNext := BitVec.ofNat 32 v } else s)
  else if r.base = Adr.cqBaseLo 0 then s.writeCqBase n (putLo (s.cq n).base (alignTo 4 v))
  else if r.base = Adr.cqBaseHi 0 then s.writeCqBase n (putHi (s.cq n).base v)
  else if r.base = Adr.cqCtl 0 then s.writeCqCtl n v
  else if r.base = Adr.cqHead 0 then s.setCq n { s.cq n with head := idx16 v }
  else if r.base = Adr.cqMod 0 then s.setCq n { s.cq n with modCount := bits v 7 0, modTime := bits v 17 8 }
  else if r.base = Adr.msixTable 0 then s.writeMsix n v
  else s.writeFields r a v

/-! ## EVT (R73, R514) -/

def State.writeErBase (s : State) (k : Nat) (base : BitVec 64) : State :=
  if (s.er k).enable then s else s.setEr k { s.er k with base := base }

def State.writeEvt (s : State) (r : RegRow) (a k v : Nat) : State :=
  if r.base = Adr.erBaseLo 0 then s.writeErBase k (putLo (s.er k).base (alignTo 5 v))
  else if r.base = Adr.erBaseHi 0 then s.writeErBase k (putHi (s.er k).base v)
  else if r.base = Adr.erCtl 0 then s.writeErCtl k v
  else if r.base = Adr.erHead 0 then s.setEr k { s.er k with head := idx16 v }
  else if r.base = Adr.swRaise then s.swRaise v
  else s.writeFields r a v

/-! ## LEAVE (R412, R413, R416) -/

def State.writeLeave (s : State) (r : RegRow) (a v : Nat) : State :=
  if r.base = Adr.lvCfg then s.writeLeaveCfg v
  else if r.base = Adr.lvShed then
    let s := (s.writeFields r a v).shedUpdate
    if bits v 11 11 = 1 then s.tripRecover else s
  else s.writeFields r a v

/-! ## PHC, REF, SY, POLDER (R347, R348, R354, R363, R364) -/

def State.writeTime (s : State) (r : RegRow) (a i j v : Nat) : State :=
  if r.base = Adr.incrFrac then s.incrWrite v
  else if r.base = Adr.stepCtl then
    let s := s.writeFields r a v
    if bits v 1 1 = 1 then s.stepGo else s
  else if r.base = Adr.refCtl 0 then
    let s := s.writeFields r a v
    if bits v 0 0 = 0 then s.refAbsent i else s
  else if r.base = Adr.syCtl 0 then s.synCtlWrite i v
  else if r.base = Adr.syFnum 0 then s.synFreqWrite i a v
  else if r.base = Adr.syFden 0 then s.synFreqWrite i a (bits v 15 0)
  else if r.base = Adr.syOutCtl 0 0 then s.outCtlWrite (4 * i + j) v
  else if r.base = Adr.polderCtl 0 then s.polderWrite i v
  else s.writeFields r a v

/-! ## LANE, LANE_GRP, NET.PORT, NET.SUB (R373 to R379) -/

/-- LANE.CTL: a receiver that is turned off receives nothing. -/
def State.writeLaneCtl (s : State) (r : RegRow) (a n v : Nat) : State :=
  let was := s.flag a 0
  let s := s.writeFields r a v
  if was && decide (bits v 0 0 = 0) then (if n < 128 then s.laneDark n else s.laneLinksDown n) else s

/-- LANE.PRBS. A write whose purpose is an injection leaves a checker that it does not change alone. -/
def State.writePrbs (s : State) (n v : Nat) : State :=
  let s := s.setGen n (bits v 3 0)
  let inj := decide (bits v 9 9 = 1)
  let s := if inj && decide (bits v 7 4 = s.fget (Adr.lanePrbs n) 7 4) then s else s.setChk n (bits v 7 4)
  if inj then s.inject n else s

/-- LANE_GRP.CTL. -/
def State.writeGroup (s : State) (g v : Nat) : State := if bits v 0 0 = 1 then s.unitOn g else s.unitOff g

/-- NET.PORT.CTL: while enable is 1, a write to mode and fec25 is ignored (R379). -/
def State.writePort (s : State) (r : RegRow) (a p v : Nat) : State :=
  let s :=
    if (s.unit (8 + p)).enable then
      (if bits v 3 1 = s.fget a 3 1 then s else s.setBit (Adr.portStat p) 10)
    else s.writeFields r a v
  if bits v 0 0 = 1 then s.unitOn (8 + p) else s.unitOff (8 + p)

def State.writeLane (s : State) (r : RegRow) (a i v : Nat) : State :=
  if r.base = Adr.laneCtl 0 then s.writeLaneCtl r a i v
  else if r.base = Adr.laneLoop 0 then s.setLoop i (bits v 1 0)
  else if r.base = Adr.lanePrbs 0 then s.writePrbs i v
  else if r.base = Adr.grpCtl 0 then s.writeGroup i v
  else if r.base = Adr.portCtl 0 then s.writePort r a i v
  else s.writeFields r a v

/-! ## NET.HQ (R42, R382, R395) -/

def State.updHq (s : State) (f : Hq → Hq) : State := s.updNet fun x => { x with hq := f x.hq }

/-- An enable of a host packet queue ring takes effect with a size of 4 to 12 and a base aligned to 4 KiB. -/
def hqOpens (was : Bool) (base : BitVec 64) (size v : Nat) : Bool :=
  decide (bits v 0 0 = 1) && (was || decide (4 ≤ size ∧ size ≤ 12 ∧ bits base.toNat 11 4 = 0))

def Hq.writeRx (h : Hq) (v : Nat) : Hq :=
  let size := if h.rxEnable then h.rxSize else bits v 7 4
  let on := hqOpens h.rxEnable h.rxBase size v
  let fresh := on && !h.rxEnable
  { h with rxEnable := on, rxSize := size, rxVector := bits v 13 8, rxHead := (if fresh then 0 else h.rxHead),
           rxTail := (if fresh then 0 else h.rxTail) }

def Hq.writeTx (h : Hq) (v : Nat) : Hq :=
  let size := if h.txEnable then h.txSize else bits v 7 4
  let on := hqOpens h.txEnable h.txBase size v
  let fresh := on && !h.txEnable
  { h with txEnable := on, txSize := size, txVector := bits v 13 8, txHead := (if fresh then 0 else h.txHead),
           txTail := (if fresh then 0 else h.txTail) }

def Hq.setRxBase (h : Hq) (b : BitVec 64) : Hq := if h.rxEnable then h else { h with rxBase := b }
def Hq.setTxBase (h : Hq) (b : BitVec 64) : Hq := if h.txEnable then h else { h with txBase := b }

def State.writeHq (s : State) (r : RegRow) (a v : Nat) : State :=
  if r.base = Adr.hqRxBaseLo then s.updHq fun h => h.setRxBase (putLo h.rxBase (alignTo 4 v))
  else if r.base = Adr.hqRxBaseHi then s.updHq fun h => h.setRxBase (putHi h.rxBase v)
  else if r.base = Adr.hqRxCtl then s.updHq fun h => h.writeRx v
  else if r.base = Adr.hqRxHead then s.updHq fun h => { h with rxHead := idx16 v }
  else if r.base = Adr.hqTxBaseLo then s.updHq fun h => h.setTxBase (putLo h.txBase (alignTo 4 v))
  else if r.base = Adr.hqTxBaseHi then s.updHq fun h => h.setTxBase (putHi h.txBase v)
  else if r.base = Adr.hqTxCtl then s.updHq fun h => h.writeTx v
  else if r.base = Adr.hqTxDb then s.hqDoorbell (bits v 15 0)
  else s.writeFields r a v

/-! ## HEAD, AUD, PSN, PUSH (R254, R295, R303, R317, R325) -/

/-- HEAD.SCAN_CTL. -/
def State.writeScanCtl (s : State) (r : RegRow) (a h v : Nat) : State :=
  let force := s.fget a 0 0
  (s.writeFields r a (putBits v 0 0 force)).writeForceLine h (decide (bits v 0 0 = 1))

/-- AUD.GRP.CTL: a fixed class holds from the write on, where the group has audio; AUTO goes on from the class it finds. -/
def State.writeClass (s : State) (r : RegRow) (a g v : Nat) : State :=
  let s := s.writeFields r a v
  if (s.audGrp g).cls = .none then s
  else if bits v 1 0 = 1 then s.setClass g .sync
  else if bits v 1 0 = 2 then s.setClass g .async
  else s

/-- An eyespot: number 0 belongs to the dike while that shows content (R295). -/
def State.writeSpot (s : State) (r : RegRow) (a h k v : Nat) : State :=
  if k = 0 ∧ (s.dike h).shown.isSome = true then s else s.writeFields r a v

def State.writeMedia (s : State) (r : RegRow) (a i j v : Nat) : State :=
  if r.base = Adr.scanCtl 0 then s.writeScanCtl r a i v
  else if r.base = Adr.audClk then (s.writeFields r a v).synRefresh
  else if r.base = Adr.agCtl 0 then s.writeClass r a i v
  else if r.base = Adr.esXy 0 0 ∨ r.base = Adr.esWh 0 0 then s.writeSpot r a i j v
  else if r.base = Adr.logHead then s.writeLogHead v
  else if r.base = Adr.puHead 0 then s.updPush i fun p => { p with headIdx := BitVec.ofNat 32 v }
  else s.writeFields r a v

/-! ## NV, COC, MGMT (R437, R487 to R492) -/

/-- MGMT.MOULT_CTL: the probation time, then the command. -/
def State.writeMoult (s : State) (r : RegRow) (a v : Nat) : State :=
  let s := s.writeFields r a v
  match bits v 2 0 with
  | 1 => s.moultStage
  | 2 => s.moultGo
  | 3 => s.moultCommit
  | 4 => s.moultRollback
  | _ => s

/-- MGMT.LOCK: arm with its key, or blow. -/
def State.writeLock (s : State) (v : Nat) : State :=
  if bits v 15 0 = 0xB10C then s.fuseArm
  else if bits v 16 16 = 1 then s.fuseBlow
  else s

def State.writeMgmt (s : State) (r : RegRow) (a v : Nat) : State :=
  if r.base = Adr.cocCtl then (if bits v 0 0 = 1 then s.breachAck else s)
  else if r.base = Adr.moultCtl then s.writeMoult r a v
  else if r.base = Adr.mgLock then s.writeLock v
  else s.writeFields r a v

/-! ## Any register -/

/-- A write to the register at address `a`, instance (i, j) of its row. -/
def State.writeReg (s : State) (a : Nat) (r : RegRow) (i j v : Nat) : State :=
  if r.base < 0x10000 then s.writeGlb r a v
  else if r.base < 0x20000 then s.writeHif r a i v
  else if r.base < 0x40000 then s.writeEvt r a i v
  else if r.base < 0x80000 then s.writeLeave r a v
  else if r.base < 0x100000 then s.writeTime r a i j v
  else if r.base < 0x188000 then s.writeLane r a i v
  else if r.base < 0x190000 then s.writeHq r a v
  else if r.base < 0x780000 then s.writeMedia r a i j v
  else s.writeMgmt r a v

end Sys2Proof.Machine
end

