-- ==== Sys2Proof/Machine/Window.lean ====
section
/-!
DEFINITION. Machine/Window.lean: the expert window's writes (R483, R484), BAR0 writes and BAR2 accesses (R9, R286, R534 to
R538).
-/
namespace Sys2Proof.Machine

/-! ## What a window write sets (R484) -/

/-- A two's complement field of 16 bits. -/
def signed16 (v : Nat) : Int := (BitVec.ofNat 16 v).toInt

/-- SRC: the settings of OP_SRC_SET. -/
def State.winSrc (s : State) (b n v : Nat) : State :=
  let t :=
    if b = Adr.srcCfg0 0 then
      s.updSrc n fun x =>
        { x with holdMs := bits v 15 0, fallback := bits v 17 16, ringFixed := decide (bits v 18 18 = 1),
                 damagePub := decide (bits v 19 19 = 1), quad := bits v 21 20, rateLock := bits v 25 22 }
    else if b = Adr.srcCfg1 0 then
      s.updSrc n fun x =>
        { x with ringMax := bits v 7 0, defSampling := bits v 9 8, defColorimetry := bits v 11 10, defTransfer := bits v 13 12,
                 defRange := bits v 14 14, pidOverride := decide (bits v 15 15 = 1) }
    else s.updSrc n fun x => { x with slate := BitVec.ofNat 32 v }
  t.nvTouch (512 + n / 4)

/-- HEAD, settings of the whole head. -/
def HeadCfg.winSet (c : HeadCfg) (b v : Nat) : HeadCfg :=
  if b = Adr.hdCfg 0 then
    { c with mode := bits v 7 0, polder := bits v 12 8, count := bits v 19 16, dike := decide (bits v 20 20 = 1) }
  else if b = Adr.hdBgLo 0 then
    { c with background := BitVec.ofNat 36 (c.background.toNat / 4294967296 * 4294967296 + v % 4294967296) }
  else if b = Adr.hdBgHi 0 then
    { c with background := BitVec.ofNat 36 (bits v 3 0 * 4294967296 + lo32 c.background.toNat) }
  else { c with window := bits v 3 0 }

/-- A layer's settings. A scaler is named with the taps and sets that it has. -/
def State.winLayer (s : State) (l : LayerCfg) (b v : Nat) : LayerCfg :=
  if b = Adr.lctl 0 0 then
    { l with enable := decide (bits v 0 0 = 1), opq := decide (bits v 1 1 = 1), premult := decide (bits v 2 2 = 1),
             holdOff := decide (bits v 3 3 = 1), allowDegrade := decide (bits v 4 4 = 1), kind := bits v 7 5,
             fallback := (if bits v 10 8 = 7 then 0xFF else bits v 10 8), holdMs := bits v 31 16 }
  else if b = Adr.lsrcLo 0 0 then { l with src := putLo l.src v }
  else if b = Adr.lsrcHi 0 0 then { l with src := putHi l.src v }
  else if b = Adr.lcropXy 0 0 then { l with cropX := bits v 15 0, cropY := bits v 31 16 }
  else if b = Adr.lcropWh 0 0 then { l with cropW := bits v 15 0, cropH := bits v 31 16 }
  else if b = Adr.ldstXy 0 0 then { l with dstX := signed16 (bits v 15 0), dstY := signed16 (bits v 31 16) }
  else if b = Adr.ldstWh 0 0 then { l with dstW := bits v 15 0, dstH := bits v 31 16 }
  else if b = Adr.lalpha 0 0 then
    let n := bits v 31 16
    let x := s.scl n
    if n = l.scaler then { l with alpha := bits v 12 0 }
    else
      { l with alpha := bits v 12 0, scaler := n, tapsH := x.tapsH, tapsV := x.tapsV, setH := x.setH, setV := x.setV,
               gang := decide (x.state = .gangLead) }
  else { l with rawFormat := bits v 7 0, rawPitch := bits v 31 8 * 64 }

/-- A layer of a head is set where its register shows it: while a transition runs, the old picture stands on layer 0 and the
new one on layer 1. -/
def Head.winLayer (x : Head) (k : Nat) (f : LayerCfg → LayerCfg) : Head :=
  let put := fun (i : Nat) => { x with applied := { x.applied with layers := x.applied.layers.set i (f (x.applied.layer i)) } }
  match x.trans, k with
  | some t, 0 => { x with trans := some { t with old := f t.old } }
  | some _, 1 => put 0
  | _, _ => put k

def headWide : List Nat := [Adr.hdCfg 0, Adr.hdBgLo 0, Adr.hdBgHi 0, Adr.hdSluice 0]

def layerWide : List Nat :=
  [Adr.lctl 0 0, Adr.lsrcLo 0 0, Adr.lsrcHi 0 0, Adr.lcropXy 0 0, Adr.lcropWh 0 0, Adr.ldstXy 0 0, Adr.ldstWh 0 0, Adr.lalpha 0 0,
   Adr.lraw 0 0]

/-- HEAD. The settings of layer 7 belong to an enabled dike. -/
def State.winHead (s : State) (b h k v : Nat) : State :=
  let t :=
    if headWide.contains b then s.updHead h fun x => { x with applied := x.applied.winSet b v }
    else if k = 7 ∧ (s.head h).applied.dike = true then s
    else s.updHead h fun x => x.winLayer k fun l => s.winLayer l b v
  t.nvTouch (256 + h)

/-- SCL.CTL: taps and sets of the scaler, and of the applied layers that it scales. -/
def State.winScl (s : State) (n v : Nat) : State :=
  let x := { s.scl n with tapsH := bits v 11 8, tapsV := bits v 15 12, setH := bits v 17 16, setV := bits v 19 18 }
  let f := fun (l : LayerCfg) =>
    if l.scaler = n then { l with tapsH := x.tapsH, tapsV := x.tapsV, setH := x.setH, setV := x.setV } else l
  s.hds.heads.foldl (fun s e => s.updHead e.1 fun y => { y with applied := { y.applied with layers := y.applied.layers.map f } })
    (s.setScl n x)

/-- CNV: the settings of a claimed conversion. -/
def State.winCnv (s : State) (b m v : Nat) : State :=
  let x := s.cnv m
  if x.state = .single ∨ x.state = .groupLead then
    if b = Adr.cnvCtl 0 then
      s.setCnv m { x with mode := bits v 3 2, scan := bits v 4 4, polder := bits v 9 5, cadence := bits v 11 10, input := bits v 25 16 }
    else s.setCnv m { x with confMin := bits v 31 24 }
  else s

/-- Mode of a colour stage from its code. -/
def stageOf (v : Nat) : StageMode := if v = 1 then .loaded else if v = 2 then .bypass else .auto

/-- A colour unit. The source space and range of an input unit are status. -/
def ColUnit.winSet (u : ColUnit) (out : Bool) (v : Nat) : ColUnit :=
  { u with space := some (bits v 1 0, bits v 3 2), outSpace := (if out then some (bits v 5 4, bits v 7 6) else u.outSpace),
           pre := stageOf (bits v 9 8), matrix := stageOf (bits v 11 10), post := stageOf (bits v 13 12),
           lut3d := decide (bits v 14 14 = 1), persist3d := decide (bits v 15 15 = 1),
           outRange := (if out then bits v 16 16 else u.outRange) }

def State.winCol (s : State) (b i v : Nat) : State :=
  if b = Adr.colInCfg 0 then s.setColIn i ((s.colIn i).winSet false v)
  else if b = Adr.colOutCfg 0 then s.setColOut i ((s.colOut i).winSet true v)
  else if b = Adr.dithCtl 0 then s.setDith i { s.dith i with mode := bits v 1 0 }
  else s.setDith i { s.dith i with seed := BitVec.ofNat 32 v }

/-- AUD: an output's route, gain and delay, from the next sample position on; a flow's place in the matrix. -/
def State.winAud (s : State) (b i v : Nat) : State :=
  if b = Adr.agBase 0 then s.updAudGrp i fun g => { g with base := bits v 12 0, count := bits v 20 16 }
  else if b = Adr.atBase 0 then
    s.updAud fun a => { a with txRuns := a.txRuns.map fun r => if r.1 = i then (i, bits v 12 0, bits v 20 16) else r }
  else
    let x := s.audOut i
    let y :=
      if b = Adr.aoCtl 0 then
        { x with input := (if bits v 13 13 = 1 then some (bits v 12 0) else none), routed := decide (bits v 13 13 = 1),
                 follow := (if bits v 14 14 = 1 then some (bits v 25 18, bits v 28 26) else none),
                 mute := decide (bits v 15 15 = 1), invert := decide (bits v 16 16 = 1) }
      else if b = Adr.aoGain 0 then { x with gain := signed16 (bits v 15 0), ramp := bits v 21 16, comp := bits v 25 22 }
      else { x with delay := bits v 13 0 }
    (s.setAudOut i { y with voice := y.tap, wait := none }).nvTouch (576 + i / 43)

/-- The registers whose mirrors the window sets, by block. Every other field that is not RW, W1C or WO is status. -/
def winMirrors : List Nat :=
  [Adr.srcCfg0 0, Adr.srcCfg1 0, Adr.srcSlate 0, Adr.sclCtl 0, Adr.cnvCtl 0, Adr.cnvDelay 0, Adr.colInCfg 0, Adr.colOutCfg 0,
   Adr.dithCtl 0, Adr.dithSeed 0, Adr.agBase 0, Adr.atBase 0, Adr.aoCtl 0, Adr.aoGain 0, Adr.aoDelay 0] ++ headWide ++ layerWide

/-- The mirror of a register is set. -/
def State.winMirror (s : State) (b i j v : Nat) : State :=
  if b < 0x400000 then s.winSrc b i v
  else if b < 0x500000 then s.winHead b i j v
  else if b < 0x540000 then s.winScl i v
  else if b < 0x580000 then s.winCnv b i v
  else if b < 0x600000 then s.winCol b i v
  else s.winAud b i v

/-- HEAD.CMT_STAT and its neighbours: the window discards writes to the CMT registers. -/
def isCmt (b : Nat) : Bool := [Adr.cmtStat 0, Adr.cmtCnt 0, Adr.cmtSeq 0, Adr.cmtSrc 0, Adr.cmtMask 0].contains b

/-- A write through the window: refused while WIN_CTL.enable is 0. -/
def State.windowWrite (s : State) (a v : Nat) : State :=
  match s.reach a with
  | none => s.winUnmapped a
  | some (b, r, i, j) =>
    let s := s.winEnd a
    if s.flag Adr.winCtl 0 = false then s.count Adr.winStat 31 16 1
    else if isCmt r.base then s
    else if winMirrors.contains r.base then s.winMirror r.base i j v
    else s.writeReg b r i j v

/-! ## BAR0 writes -/

/-- While PWR_STAT reads WARM_RESET, BAR0 takes writes of GLB.PWR_CTL and GLB.RST_CTL alone (R537). -/
def State.writesOff (s : State) (a : Nat) : Bool := decide (s.fget Adr.pwrStat 2 0 = 6) && a != Adr.pwrCtl && a != Adr.rstCtl

/-- A 32-bit write of BAR0. -/
def State.bar0Write (s : State) (a v : Nat) : State :=
  if a % 4 ≠ 0 then s.badSize a
  else if s.writesOff a then s
  else if inWindow a then s.windowWrite a v
  else
    match s.reach a with
    | none => s.unmapped a
    | some (b, r, i, j) => s.writeReg b r i j v

/-- REGISTER_WRITE. -/
def execRegisterWrite (addr v : BitVec 32) (s : State) : Out3 :=
  if bar0Size ≤ addr.toNat then .fault .outsideBar0 else .next (s.bar0Write addr.toNat v.toNat)

/-- WINDOW_WRITE: an aligned 32-bit write in the expert window. -/
def execWindowWrite (addr v : BitVec 32) (s : State) : Out3 :=
  let a := addr.toNat
  if bar0Size ≤ a then .fault .outsideBar0
  else .next (if a % 4 = 0 ∧ inWindow a = true ∧ s.writesOff a = false then s.windowWrite a v.toNat else s)

/-! ## BAR2 (R286, R538) -/

/-- The dike store, which BAR2 cannot reach. -/
def State.inDikeStore (s : State) (x : Nat) : Bool :=
  s.dikeStores.any fun f => f.holds x

/-- A byte of HBM as BAR2 reads it: what BAR2, an upload or a fill wrote last, 0 in the dike store; any other byte is a free
value, since where the module keeps its frames and what else it writes there the spec does not say (log 2). -/
def State.hbmRead (s : State) (x : Nat) : Byte × State :=
  if s.inDikeStore x then (0, s)
  else match s.hbmKnown x with
    | some b => (b, s)
    | none => (Config.freeByte s.free, { s with free := s.free + 1 })

/-- `n` bytes from an HBM address. -/
def State.hbmReads (s : State) (x : Nat) : Nat → List Byte × State
  | 0 => ([], s)
  | n + 1 =>
    let r := s.hbmRead x
    let t := r.2.hbmReads (x + 1) n
    (r.1 :: t.1, t.2)

/-- One byte written. -/
def State.hbmWrite (s : State) (x : Nat) (b : Byte) : State :=
  if s.inDikeStore x then s else { s with hbm := Tab.set (fun _ => none) s.hbm x (some b) }

def State.hbmWrites (s : State) (x : Nat) : List Byte → State
  | [] => s
  | b :: t => (s.hbmWrite x b).hbmWrites (x + 1) t

/-- An access while HBM refreshes itself, in STANDBY: counted as unmapped. -/
def State.bar2Dark (s : State) : State := (s.count Adr.glbAccErr 15 0 1).wr Adr.glbAccAddr 2147483648

/-- The HBM byte of a BAR2 offset. -/
def State.bar2Addr (s : State) (x : Nat) : Nat := s.fget Adr.bar2Win 7 0 * bar2Size + x

/-- BAR2_ACCESS at an offset: a read of so many bytes, or a write of the bytes that it carries. `ecc` are the errors of the granules
that it reads or merges, which are delivered as read or corrected (R28). -/
def execBar2Access (off : BitVec 32) (acc : Nat ⊕ List Byte) (ecc : List HbmErr) (s : State) : Out3 :=
  let x := off.toNat
  let n := match acc with | .inl n => n | .inr l => l.length
  if bar2Size < x + n then .fault .outsideBar2
  else
    .next (
      if s.fget Adr.pwrStat 2 0 = 3 then
        match acc with
        | .inr _ => s.bar2Dark
        | .inl n => { s.bar2Dark with reply := .bytes (List.replicate n 0) }
      else
        match acc with
        | .inr l => (s.hbmWrites (s.bar2Addr x) l).granulesMet ecc
        | .inl n =>
          let r := s.hbmReads (s.bar2Addr x) n
          { r.2.granulesMet ecc with reply := .bytes r.1 })

end Sys2Proof.Machine
end

