-- ==== Sys2Proof/Machine/Pmbus.lean ====
section
/-!
DEFINITION. Machine/Pmbus.lean: the PMBus commands of the frame's board controller (R553, R554).
A read answers bytes, low byte first; a command that is refused is NACKed and sets CML.
-/
namespace Sys2Proof.Machine

def State.answerBytes (s : State) (l : List Byte) : State := { s with reply := .bytes l }
def State.answerWord (s : State) (w : Nat) : State := s.answerBytes (leBytes 2 w)
/-- A write that the module accepts. -/
def State.ack (s : State) : State := { s with reply := .none }
/-- A communication fault: NACK, and CML in STATUS_WORD. -/
def State.nack (s : State) : State := { s.updLv fun v => { v with stCml := true } with reply := .nack }

/-! ## Status -/

/-- The causes that hold now. -/
def State.inputCause (s : State) : Bool := decide (s.lv.band ≠ 0)
def State.tempCause (s : State) : Bool := decide (s.lv.thermal ≠ 0) || s.lv.tripped

/-- STATUS_WORD: INPUT, OTHER, TEMPERATURE and CML, latched or in force, at their places of PMBus 1.3 (PRESUMED, log 41). -/
def State.statusWord (s : State) : Nat :=
  bitAt 13 (s.lv.stInput || s.inputCause) + bitAt 9 (s.lv.stOther || s.coc.pending) + bitAt 2 (s.lv.stTemp || s.tempCause) +
  bitAt 1 s.lv.stCml

/-- ALERT_N is asserted (R554). -/
def State.alert (s : State) : Bool := decide (s.statusWord ≠ 0)

/-- CLEAR_FAULTS. -/
def execClearFaults (s : State) : Out3 :=
  .next (s.updLv fun v =>
    { v with stInput := s.inputCause, stTemp := s.tempCause, stCml := false, stOther := s.coc.pending }).ack

/-- STATUS_WORD. -/
def execStatusWord (s : State) : Out3 := .next (s.answerWord s.statusWord)

/-! ## Readings -/

/-- READ_VIN: LEAVE.VIN. -/
def execReadVin (s : State) : Out3 := .next (s.answerWord (Config.linear11 0 (s.fget Adr.lvVin 15 0)).toNat)

/-- READ_IIN: no register shows the input current; it is a free value. -/
def execReadIin (s : State) : Out3 := .next (s.fresh.2.answerWord (s.fresh.1.toNat % 65536))

/-- READ_TEMPERATURE_1: LEAVE.TCP. -/
def execReadTemperature1 (s : State) : Out3 := .next (s.answerWord (Config.linear11 2 (s.fget Adr.lvTcp 10 0)).toNat)

/-- READ_TEMPERATURE_2: LEAVE.TJ_MAX. -/
def execReadTemperature2 (s : State) : Out3 := .next (s.answerWord (Config.linear11 2 (s.fget Adr.lvTjMax 10 0)).toNat)

/-- READ_PIN: LEAVE.PIN. -/
def execReadPin (s : State) : Out3 := .next (s.answerWord (Config.linear11 1 (s.fget Adr.lvPin 12 0)).toNat)

/-! ## Identification -/

/-- MFR_ID: "Getrum". -/
def execMfrId (s : State) : Out3 := .next (s.answerBytes [0x47, 0x65, 0x74, 0x72, 0x75, 0x6D])

/-- MFR_MODEL: "IZM2560-A0" or "IZM2560-A1", by the variant of GLB.ID. -/
def execMfrModel (s : State) : Out3 :=
  .next (s.answerBytes
    ([0x49, 0x5A, 0x4D, 0x32, 0x35, 0x36, 0x30, 0x2D, 0x41] ++ [if (Config.identity 2).toNat = 1 then 0x31 else 0x30]))

/-- The last `n` decimal digits of a number, the most significant first, in ASCII. -/
def decDigits : Nat → Nat → List Byte
  | 0, _ => []
  | n + 1, v => decDigits n (v / 10) ++ [BitVec.ofNat 8 (0x30 + v % 10)]

/-- MFR_SERIAL: identity bytes 6 to 15 as a little-endian number, in 25 digits. -/
def execMfrSerial (s : State) : Out3 :=
  .next (s.answerBytes (decDigits 25 (leNat ((List.range 10).map fun i => Config.identity (6 + i)))))

/-! ## Limits and states -/

/-- MFR_POWER_LIMIT: a write carries a word, a read none. 0 stands for no limit. -/
def execMfrPowerLimit (w : Option (BitVec 16)) (s : State) : Out3 :=
  .next (
    match w with
    | none => s.answerWord (s.lv.pmPow.getD 0)
    | some x =>
      let k := x.toNat
      if k = 0 then (s.updLv fun v => { v with pmPow := none }).fillWithheld.ack
      else if 4120 ≤ k ∧ k ≤ 8400 then (s.updLv fun v => { v with pmPow := some k }).fillWithheld.ack
      else s.nack)

/-- MFR_FETCH_LIMIT: as MFR_POWER_LIMIT; 0xFFFF stands for no limit. -/
def execMfrFetchLimit (w : Option (BitVec 16)) (s : State) : Out3 :=
  .next (
    match w with
    | none => s.answerWord (s.lv.pmFet.getD 0xFFFF)
    | some x =>
      let k := x.toNat
      if k = 0xFFFF then (s.updLv fun v => { v with pmFet := none }).fillWithheld.ack
      else if k ≤ 2000 then (s.updLv fun v => { v with pmFet := some k }).fillWithheld.ack
      else s.nack)

/-- MFR_STATE: a write requests a state as GLB.PWR_CTL.target does; a read answers GLB.PWR_STAT.state. -/
def execMfrState (w : Option (BitVec 8)) (s : State) : Out3 :=
  .next (
    match w with
    | none => s.answerBytes (leBytes 1 (s.fget Adr.pwrStat 2 0))
    | some x => if x.toNat ≤ 2 then (s.pwrTarget x.toNat).ack else s.nack)

/-- The codes of R553's table: those that a controller may read, and those that it may write. -/
def pmbusReads : List Nat := [0x79, 0x88, 0x89, 0x8D, 0x8E, 0x97, 0x99, 0x9A, 0x9E, 0xD0, 0xD1, 0xD2]
def pmbusWrites : List Nat := [0x03, 0xD0, 0xD1, 0xD2]

/-- PMBUS_UNSUPPORTED: a command that the module does not answer. -/
def execPmbusUnsupported (code : BitVec 8) (write : Bool) (s : State) : Out3 :=
  .next (if (if write then pmbusWrites else pmbusReads).contains code.toNat then s else s.nack)

end Sys2Proof.Machine
end

