-- ==== Sys2Proof/Machine/Dispatch.lean ====
section
/-!
DEFINITION. Machine/Dispatch.lean: each command to its meaning.
-/
namespace Sys2Proof.Machine

def exec (i : Instr) (s : State) : Host.Outcome State Fault Refusal :=
  match i with
  | .doorbell n v => Sys2Proof.Machine.execDoorbell n v s
  | .sqEnable n v => Sys2Proof.Machine.execSqEnable n v s
  | .sqDisable n => Sys2Proof.Machine.execSqDisable n s
  | .sqReset n => Sys2Proof.Machine.execSqReset n s
  | .sqResume n => Sys2Proof.Machine.execSqResume n s
  | .ringResetEnd n => Sys2Proof.Machine.execRingResetEnd n s
  | .cqEnable c v => Sys2Proof.Machine.execCqEnable c v s
  | .cqErrClear c => Sys2Proof.Machine.execCqErrClear c s
  | .cqHeadWrite c v => Sys2Proof.Machine.execCqHeadWrite c v s
  | .descriptorFetch n data => Sys2Proof.Machine.execDescriptorFetch n data s
  | .malformedDescriptor n => Sys2Proof.Machine.execMalformedDescriptor n s
  | .completionPost n ok => Sys2Proof.Machine.execCompletionPost n ok s
  | .cqModTimerExpiry c => Sys2Proof.Machine.execCqModTimerExpiry c s
  | .flr burst => Sys2Proof.Machine.execFlr burst s
  | .opNop n => Sys2Proof.Machine.execOpNop n s
  | .opFence n => Sys2Proof.Machine.execOpFence n s
  | .opTake n => Sys2Proof.Machine.execOpTake n s
  | .opCommit n => Sys2Proof.Machine.execOpCommit n s
  | .opSalvoArm n => Sys2Proof.Machine.execOpSalvoArm n s
  | .salvoCancel n => Sys2Proof.Machine.execSalvoCancel n s
  | .commitCancel n => Sys2Proof.Machine.execCommitCancel n s
  | .salvoArmTimeout owner salvo => Sys2Proof.Machine.execSalvoArmTimeout owner salvo s
  | .opHeadSet n => Sys2Proof.Machine.execOpHeadSet n s
  | .opLayerSet n => Sys2Proof.Machine.execOpLayerSet n s
  | .opHeadStop n => Sys2Proof.Machine.execOpHeadStop n s
  | .opSurfAlloc n => Sys2Proof.Machine.execOpSurfAlloc n s
  | .opSurfUpload n => Sys2Proof.Machine.execOpSurfUpload n s
  | .surfUploadEnd h rows => Sys2Proof.Machine.execSurfUploadEnd h rows s
  | .opSurfFree n => Sys2Proof.Machine.execOpSurfFree n s
  | .opSrcSet n => Sys2Proof.Machine.execOpSrcSet n s
  | .opFlowAdd n => Sys2Proof.Machine.execOpFlowAdd n s
  | .opFlowDel n => Sys2Proof.Machine.execOpFlowDel n s
  | .sourceRingFree n => Sys2Proof.Machine.execSourceRingFree n s
  | .opLedgerRead n ok => Sys2Proof.Machine.execOpLedgerRead n ok s
  | .scalerClaim n => Sys2Proof.Machine.execScalerClaim n s
  | .scalerRelease n => Sys2Proof.Machine.execScalerRelease n s
  | .scalerConfigure n => Sys2Proof.Machine.execScalerConfigure n s
  | .opColourLoad n data => Sys2Proof.Machine.execOpColourLoad n data s
  | .convClaim n => Sys2Proof.Machine.execConvClaim n s
  | .convRelease n => Sys2Proof.Machine.execConvRelease n s
  | .convMode n => Sys2Proof.Machine.execConvMode n s
  | .audioRoute n => Sys2Proof.Machine.execAudioRoute n s
  | .audioSet n => Sys2Proof.Machine.execAudioSet n s
  | .audioUnroute n => Sys2Proof.Machine.execAudioUnroute n s
  | .audioCompanion n => Sys2Proof.Machine.execAudioCompanion n s
  | .opLeaveReq n => Sys2Proof.Machine.execOpLeaveReq n s
  | .opLeaveRet n => Sys2Proof.Machine.execOpLeaveRet n s
  | .opNvRead n ok => Sys2Proof.Machine.execOpNvRead n ok s
  | .opNvWrite n data => Sys2Proof.Machine.execOpNvWrite n data s
  | .nvCountRead n => Sys2Proof.Machine.execNvCountRead n s
  | .nvCountIncrement n => Sys2Proof.Machine.execNvCountIncrement n s
  | .keyGenerate n => Sys2Proof.Machine.execKeyGenerate n s
  | .keyImport n data => Sys2Proof.Machine.execKeyImport n data s
  | .keyDerive n data => Sys2Proof.Machine.execKeyDerive n data s
  | .keyDelete n => Sys2Proof.Machine.execKeyDelete n s
  | .keyLimit n => Sys2Proof.Machine.execKeyLimit n s
  | .keyInfo n ok => Sys2Proof.Machine.execKeyInfo n ok s
  | .keySign n data => Sys2Proof.Machine.execKeySign n data s
  | .keyVerify n data => Sys2Proof.Machine.execKeyVerify n data s
  | .keyMac n data => Sys2Proof.Machine.execKeyMac n data s
  | .keyEncrypt n data => Sys2Proof.Machine.execKeyEncrypt n data s
  | .keyDecrypt n data => Sys2Proof.Machine.execKeyDecrypt n data s
  | .keyHash n data => Sys2Proof.Machine.execKeyHash n data s
  | .keyAttest n data => Sys2Proof.Machine.execKeyAttest n data s
  | .keyChallenge n ok => Sys2Proof.Machine.execKeyChallenge n ok s
  | .keyRespond n data => Sys2Proof.Machine.execKeyRespond n data s
  | .challengeExpiry n => Sys2Proof.Machine.execChallengeExpiry n s
  | .unlockLockoutExpiry => Sys2Proof.Machine.execUnlockLockoutExpiry s
  | .keyAdminSet n data => Sys2Proof.Machine.execKeyAdminSet n data s
  | .keyRecommission n => Sys2Proof.Machine.execKeyRecommission n s
  | .dikeBind n => Sys2Proof.Machine.execDikeBind n s
  | .dikeContent n sig ok ecc => Sys2Proof.Machine.execDikeContent n sig ok ecc s
  | .dikeUnbind n sig => Sys2Proof.Machine.execDikeUnbind n sig s
  | .dikeReapply n ok ecc => Sys2Proof.Machine.execDikeReapply n ok ecc s
  | .pushSet n => Sys2Proof.Machine.execPushSet n s
  | .pushDisable n => Sys2Proof.Machine.execPushDisable n s
  | .pushRefresh n => Sys2Proof.Machine.execPushRefresh n s
  | .sealLogSet n => Sys2Proof.Machine.execSealLogSet n s
  | .sealLogOff n => Sys2Proof.Machine.execSealLogOff n s
  | .sealRead n ok => Sys2Proof.Machine.execSealRead n ok s
  | .sealNow n => Sys2Proof.Machine.execSealNow n s
  | .rasterPeriodStart p => Sys2Proof.Machine.execRasterPeriodStart p s
  | .sluiceClose h => Sys2Proof.Machine.execSluiceClose h s
  | .composeDeadline h late => Sys2Proof.Machine.execComposeDeadline h late s
  | .flip h seen => Sys2Proof.Machine.execFlip h seen s
  | .pushReadEnd c tiles ok => Sys2Proof.Machine.execPushReadEnd c tiles ok s
  | .pushHeadWrite c v => Sys2Proof.Machine.execPushHeadWrite c v s
  | .pinSenseJudgement d spots lines hashes => Sys2Proof.Machine.execPinSenseJudgement d spots lines hashes s
  | .sealDue h => Sys2Proof.Machine.execSealDue h s
  | .sealSigned => Sys2Proof.Machine.execSealSigned s
  | .logHeadWrite v => Sys2Proof.Machine.execLogHeadWrite v s
  | .scanForceLine h on => Sys2Proof.Machine.execScanForceLine h on s
  | .headRstGo h => Sys2Proof.Machine.execHeadRstGo h s
  | .containmentHeadReset h cause => Sys2Proof.Machine.execContainmentHeadReset h cause s
  | .creditAudit faults => Sys2Proof.Machine.execCreditAudit faults s
  | .signalDetect n => Sys2Proof.Machine.execSignalDetect n s
  | .rateDwellExpiry n => Sys2Proof.Machine.execRateDwellExpiry n s
  | .cdrLock n => Sys2Proof.Machine.execCdrLock n s
  | .cdrLoss n => Sys2Proof.Machine.execCdrLoss n s
  | .sdiFrame n p => Sys2Proof.Machine.execSdiFrame n p s
  | .trsLoss n => Sys2Proof.Machine.execTrsLoss n s
  | .publishTimeout n => Sys2Proof.Machine.execPublishTimeout n s
  | .ipVideoPacket p => Sys2Proof.Machine.execIpVideoPacket p s
  | .mergeWindowExpiry n => Sys2Proof.Machine.execMergeWindowExpiry n s
  | .ipFlowTimeout n => Sys2Proof.Machine.execIpFlowTimeout n s
  | .legLost n legB => Sys2Proof.Machine.execLegLost n legB s
  | .igmpQuery port sub tagged vid version group srcs => Sys2Proof.Machine.execIgmpQuery port sub tagged vid version group srcs s
  | .igmpReportRepeat => Sys2Proof.Machine.execIgmpReportRepeat s
  | .buildStart m sight => Sys2Proof.Machine.execBuildStart m sight s
  | .audioSamplePosition arr => Sys2Proof.Machine.execAudioSamplePosition arr s
  | .audioPacket p => Sys2Proof.Machine.execAudioPacket p s
  | .audioSendPacket k => Sys2Proof.Machine.execAudioSendPacket k s
  | .classMeasurement g ppm steady => Sys2Proof.Machine.execClassMeasurement g ppm steady s
  | .ipSendPacket k => Sys2Proof.Machine.execIpSendPacket k s
  | .phcIncrWrite frac => Sys2Proof.Machine.execPhcIncrWrite frac s
  | .phcStepGo mode atPps => Sys2Proof.Machine.execPhcStepGo mode atPps s
  | .phcNowRead who => Sys2Proof.Machine.execPhcNowRead who s
  | .phcHoldoverTimeout => Sys2Proof.Machine.execPhcHoldoverTimeout s
  | .ppsEdge => Sys2Proof.Machine.execPpsEdge s
  | .ppsLost => Sys2Proof.Machine.execPpsLost s
  | .refAlignmentPoint r mode tri ppm => Sys2Proof.Machine.execRefAlignmentPoint r mode tri ppm s
  | .refSyncAbsent r => Sys2Proof.Machine.execRefSyncAbsent r s
  | .synthConfigWrite n reg v => Sys2Proof.Machine.execSynthConfigWrite n reg v s
  | .synthLock n clk10 => Sys2Proof.Machine.execSynthLock n clk10 s
  | .synthAlignmentPoint n => Sys2Proof.Machine.execSynthAlignmentPoint n s
  | .slewStep n => Sys2Proof.Machine.execSlewStep n s
  | .relock n => Sys2Proof.Machine.execRelock n s
  | .sourceSwitch n clk10 => Sys2Proof.Machine.execSourceSwitch n clk10 s
  | .synthRevert n clk10 => Sys2Proof.Machine.execSynthRevert n clk10 s
  | .polderCtlWrite p v => Sys2Proof.Machine.execPolderCtlWrite p v s
  | .hqRxFrame p q tci stepped f => Sys2Proof.Machine.execHqRxFrame p q tci stepped f s
  | .hqTxDb v => Sys2Proof.Machine.execHqTxDb v s
  | .hqTxDone entry dmaOk stepped => Sys2Proof.Machine.execHqTxDone entry dmaOk stepped s
  | .laneGrpEnable g => Sys2Proof.Machine.execLaneGrpEnable g s
  | .laneGrpDisable g => Sys2Proof.Machine.execLaneGrpDisable g s
  | .portEnable p => Sys2Proof.Machine.execPortEnable p s
  | .portDisable p => Sys2Proof.Machine.execPortDisable p s
  | .powerDownEnd i1 => Sys2Proof.Machine.execPowerDownEnd i1 s
  | .portLinkChange p q up => Sys2Proof.Machine.execPortLinkChange p q up s
  | .fecReport p corrected uncorrected => Sys2Proof.Machine.execFecReport p corrected uncorrected s
  | .loopSelect n mode => Sys2Proof.Machine.execLoopSelect n mode s
  | .prbsGeneratorSelect n gen => Sys2Proof.Machine.execPrbsGeneratorSelect n gen s
  | .prbsCheckerSelect n chk => Sys2Proof.Machine.execPrbsCheckerSelect n chk s
  | .prbsInject n => Sys2Proof.Machine.execPrbsInject n s
  | .leaveCfgWrite v => Sys2Proof.Machine.execLeaveCfgWrite v s
  | .leaveAudit powUpset fetUpset => Sys2Proof.Machine.execLeaveAudit powUpset fetUpset s
  | .supplyMeasurement mv10 p => Sys2Proof.Machine.execSupplyMeasurement mv10 p s
  | .powerFail => Sys2Proof.Machine.execPowerFail s
  | .powerFailRecovery => Sys2Proof.Machine.execPowerFailRecovery s
  | .thermalSample tj tcp => Sys2Proof.Machine.execThermalSample tj tcp s
  | .thermalTrip sensor temp => Sys2Proof.Machine.execThermalTrip sensor temp s
  | .tripRecover => Sys2Proof.Machine.execTripRecover s
  | .breach cause => Sys2Proof.Machine.execBreach cause s
  | .breachAck live => Sys2Proof.Machine.execBreachAck live s
  | .aonMapping => Sys2Proof.Machine.execAonMapping s
  | .battMeasure mv present => Sys2Proof.Machine.execBattMeasure mv present s
  | .recallScan f => Sys2Proof.Machine.execRecallScan f s
  | .recallDone ms => Sys2Proof.Machine.execRecallDone ms s
  | .nvRecordAck ok => Sys2Proof.Machine.execNvRecordAck ok s
  | .nvCellAck ok => Sys2Proof.Machine.execNvCellAck ok s
  | .nvEraseDone ok => Sys2Proof.Machine.execNvEraseDone ok s
  | .pacedWrite => Sys2Proof.Machine.execPacedWrite s
  | .nvCompaction => Sys2Proof.Machine.execNvCompaction s
  | .nvScrub found base => Sys2Proof.Machine.execNvScrub found base s
  | .holdupReady mj => Sys2Proof.Machine.execHoldupReady mj s
  | .flashTimeout answers => Sys2Proof.Machine.execFlashTimeout answers s
  | .mgmtWatchdog p burst => Sys2Proof.Machine.execMgmtWatchdog p burst s
  | .lockstepMismatch p burst => Sys2Proof.Machine.execLockstepMismatch p burst s
  | .pairBoot p badA badB => Sys2Proof.Machine.execPairBoot p badA badB s
  | .moultStage => Sys2Proof.Machine.execMoultStage s
  | .moultStageDone x => Sys2Proof.Machine.execMoultStageDone x s
  | .moultGo => Sys2Proof.Machine.execMoultGo s
  | .quietPoint => Sys2Proof.Machine.execQuietPoint s
  | .quietTimeout => Sys2Proof.Machine.execQuietTimeout s
  | .moultCommit => Sys2Proof.Machine.execMoultCommit s
  | .moultRollback => Sys2Proof.Machine.execMoultRollback s
  | .probationExpiry => Sys2Proof.Machine.execProbationExpiry s
  | .windowWrite addr v => Sys2Proof.Machine.execWindowWrite addr v s
  | .fuseArm => Sys2Proof.Machine.execFuseArm s
  | .fuseBlow => Sys2Proof.Machine.execFuseBlow s
  | .warmReset => Sys2Proof.Machine.execWarmReset s
  | .modRstN => Sys2Proof.Machine.execModRstN s
  | .powerOnReset f => Sys2Proof.Machine.execPowerOnReset f s
  | .pwrTargetRun => Sys2Proof.Machine.execPwrTargetRun s
  | .pwrTargetQuiet => Sys2Proof.Machine.execPwrTargetQuiet s
  | .pwrTargetStandby => Sys2Proof.Machine.execPwrTargetStandby s
  | .standbyEntryDone => Sys2Proof.Machine.execStandbyEntryDone s
  | .wakeDone => Sys2Proof.Machine.execWakeDone s
  | .restoreConfigWrite auto gated => Sys2Proof.Machine.execRestoreConfigWrite auto gated s
  | .restoreGo => Sys2Proof.Machine.execRestoreGo s
  | .restoration => Sys2Proof.Machine.execRestoration s
  | .restorePolderTimeout => Sys2Proof.Machine.execRestorePolderTimeout s
  | .eventOccurrence src code d => Sys2Proof.Machine.execEventOccurrence src code d s
  | .eventRecordWrite k ok => Sys2Proof.Machine.execEventRecordWrite k ok s
  | .eventRingEnable k v => Sys2Proof.Machine.execEventRingEnable k v s
  | .eventRingTimer k => Sys2Proof.Machine.execEventRingTimer k s
  | .swRaise v => Sys2Proof.Machine.execSwRaise v s
  | .patrolScrub found => Sys2Proof.Machine.execPatrolScrub found s
  | .sramScrub found => Sys2Proof.Machine.execSramScrub found s
  | .bar2Access off acc ecc => Sys2Proof.Machine.execBar2Access off acc ecc s
  | .unmappedAccess addr write => Sys2Proof.Machine.execUnmappedAccess addr write s
  | .badSizeAccess addr write => Sys2Proof.Machine.execBadSizeAccess addr write s
  | .registerWrite addr v => Sys2Proof.Machine.execRegisterWrite addr v s
  | .clearFaults => Sys2Proof.Machine.execClearFaults s
  | .statusWord => Sys2Proof.Machine.execStatusWord s
  | .readVin => Sys2Proof.Machine.execReadVin s
  | .readIin => Sys2Proof.Machine.execReadIin s
  | .readTemperature1 => Sys2Proof.Machine.execReadTemperature1 s
  | .readTemperature2 => Sys2Proof.Machine.execReadTemperature2 s
  | .readPin => Sys2Proof.Machine.execReadPin s
  | .mfrId => Sys2Proof.Machine.execMfrId s
  | .mfrModel => Sys2Proof.Machine.execMfrModel s
  | .mfrSerial => Sys2Proof.Machine.execMfrSerial s
  | .mfrPowerLimit w => Sys2Proof.Machine.execMfrPowerLimit w s
  | .mfrFetchLimit w => Sys2Proof.Machine.execMfrFetchLimit w s
  | .mfrState w => Sys2Proof.Machine.execMfrState w s
  | .pmbusUnsupported code write => Sys2Proof.Machine.execPmbusUnsupported code write s
  | .registerRead who addr => Sys2Proof.Machine.execRegisterRead who addr s
  | .d3hotEntry => Sys2Proof.Machine.execD3hotEntry s
  | .pcieAerError severity status => Sys2Proof.Machine.execPcieAerError severity status s
  | .laneSignalLost n => Sys2Proof.Machine.execLaneSignalLost n s
  | .prbsCheckerLock n => Sys2Proof.Machine.execPrbsCheckerLock n s
  | .prbsCheckerLoss n compared errors => Sys2Proof.Machine.execPrbsCheckerLoss n compared errors s
  | .ancillaryPacket p a => Sys2Proof.Machine.execAncillaryPacket p a s
  | .unmatchedFrame p q tci f => Sys2Proof.Machine.execUnmatchedFrame p q tci f s
  | .keyOperationEnd n ok => Sys2Proof.Machine.execKeyOperationEnd n ok s
  | .j4Disconnect burst => Sys2Proof.Machine.execJ4Disconnect burst s

end Sys2Proof.Machine
end

