-- ==== Sys2Proof/WellFormed.lean ====
section
/-!
DEFINITION. WellFormed.lean: which commands can be sent. A command that is not well formed carries an operand outside the range
that the spec gives it: an address outside its aperture, or data of a length that the record or measurement does not have.
-/
namespace Sys2Proof

/-- An offset inside the 64 MiB of BAR0 (R530). -/
def inBar0 (a : BitVec 32) : Bool := decide (a.toNat < 0x4000000)

/-- A command whose operands lie in their ranges: offsets in their aperture, 64-byte descriptors and queue entries (R13, R384),
12 bytes of event detail (R74), SHA-384 digests and P-384 signatures (R287, R291), four 16-byte hashes (R296), an IGMP version,
24 readings (R411), no more errors than bits compared (R377). -/
def Instr.wf (c : Instr) : Bool :=
  match c with
  | .doorbell _ _ => true
  | .sqEnable _ _ => true
  | .sqDisable _ => true
  | .sqReset _ => true
  | .sqResume _ => true
  | .ringResetEnd _ => true
  | .cqEnable _ _ => true
  | .cqErrClear _ => true
  | .cqHeadWrite _ _ => true
  | .descriptorFetch _ data => data.all (·.length == 64)
  | .malformedDescriptor _ => true
  | .completionPost _ _ => true
  | .cqModTimerExpiry _ => true
  | .flr _ => true
  | .opNop _ => true
  | .opFence _ => true
  | .opTake _ => true
  | .opCommit _ => true
  | .opSalvoArm _ => true
  | .salvoCancel _ => true
  | .commitCancel _ => true
  | .salvoArmTimeout _ _ => true
  | .opHeadSet _ => true
  | .opLayerSet _ => true
  | .opHeadStop _ => true
  | .opSurfAlloc _ => true
  | .opSurfUpload _ => true
  | .surfUploadEnd _ _ => true
  | .opSurfFree _ => true
  | .opSrcSet _ => true
  | .opFlowAdd _ => true
  | .opFlowDel _ => true
  | .sourceRingFree _ => true
  | .opLedgerRead _ _ => true
  | .scalerClaim _ => true
  | .scalerRelease _ => true
  | .scalerConfigure _ => true
  | .opColourLoad _ _ => true
  | .convClaim _ => true
  | .convRelease _ => true
  | .convMode _ => true
  | .audioRoute _ => true
  | .audioSet _ => true
  | .audioUnroute _ => true
  | .audioCompanion _ => true
  | .opLeaveReq _ => true
  | .opLeaveRet _ => true
  | .opNvRead _ _ => true
  | .opNvWrite _ _ => true
  | .nvCountRead _ => true
  | .nvCountIncrement _ => true
  | .keyGenerate _ => true
  | .keyImport _ _ => true
  | .keyDerive _ _ => true
  | .keyDelete _ => true
  | .keyLimit _ => true
  | .keyInfo _ _ => true
  | .keySign _ _ => true
  | .keyVerify _ _ => true
  | .keyMac _ _ => true
  | .keyEncrypt _ _ => true
  | .keyDecrypt _ _ => true
  | .keyHash _ _ => true
  | .keyAttest _ _ => true
  | .keyChallenge _ _ => true
  | .keyRespond _ _ => true
  | .challengeExpiry _ => true
  | .unlockLockoutExpiry => true
  | .keyAdminSet _ _ => true
  | .keyRecommission _ => true
  | .dikeBind _ => true
  | .dikeContent _ sig _ _ => sig.all (·.length == 96)
  | .dikeUnbind _ sig => sig.all (·.length == 96)
  | .dikeReapply _ _ _ => true
  | .pushSet _ => true
  | .pushDisable _ => true
  | .pushRefresh _ => true
  | .sealLogSet _ => true
  | .sealLogOff _ => true
  | .sealRead _ _ => true
  | .sealNow _ => true
  | .rasterPeriodStart _ => true
  | .sluiceClose _ => true
  | .composeDeadline _ _ => true
  | .flip _ _ => true
  | .pushReadEnd _ _ _ => true
  | .pushHeadWrite _ _ => true
  | .pinSenseJudgement _ _ _ hashes => hashes.length == 64
  | .sealDue _ => true
  | .sealSigned => true
  | .logHeadWrite _ => true
  | .scanForceLine _ _ => true
  | .headRstGo _ => true
  | .containmentHeadReset _ _ => true
  | .creditAudit _ => true
  | .signalDetect _ => true
  | .rateDwellExpiry _ => true
  | .cdrLock _ => true
  | .cdrLoss _ => true
  | .sdiFrame _ _ => true
  | .trsLoss _ => true
  | .publishTimeout _ => true
  | .ipVideoPacket _ => true
  | .mergeWindowExpiry _ => true
  | .ipFlowTimeout _ => true
  | .legLost _ _ => true
  | .igmpQuery _ _ _ _ version _ _ => decide (version.val ≠ 0)
  | .igmpReportRepeat => true
  | .buildStart _ _ => true
  | .audioSamplePosition _ => true
  | .audioPacket _ => true
  | .audioSendPacket _ => true
  | .classMeasurement _ _ _ => true
  | .ipSendPacket _ => true
  | .phcIncrWrite _ => true
  | .phcStepGo _ _ => true
  | .phcNowRead _ => true
  | .phcHoldoverTimeout => true
  | .ppsEdge => true
  | .ppsLost => true
  | .refAlignmentPoint _ _ _ _ => true
  | .refSyncAbsent _ => true
  | .synthConfigWrite _ _ _ => true
  | .synthLock _ _ => true
  | .synthAlignmentPoint _ => true
  | .slewStep _ => true
  | .relock _ => true
  | .sourceSwitch _ _ => true
  | .synthRevert _ _ => true
  | .polderCtlWrite _ _ => true
  | .hqRxFrame _ _ _ _ _ => true
  | .hqTxDb _ => true
  | .hqTxDone entry _ _ => entry.all (·.length == 64)
  | .laneGrpEnable _ => true
  | .laneGrpDisable _ => true
  | .portEnable _ => true
  | .portDisable _ => true
  | .powerDownEnd _ => true
  | .portLinkChange _ _ _ => true
  | .fecReport _ _ _ => true
  | .loopSelect _ _ => true
  | .prbsGeneratorSelect _ _ => true
  | .prbsCheckerSelect _ _ => true
  | .prbsInject _ => true
  | .leaveCfgWrite _ => true
  | .leaveAudit _ _ => true
  | .supplyMeasurement _ _ => true
  | .powerFail => true
  | .powerFailRecovery => true
  | .thermalSample tj _ => tj.length == 24
  | .thermalTrip _ _ => true
  | .tripRecover => true
  | .breach _ => true
  | .breachAck _ => true
  | .aonMapping => true
  | .battMeasure _ _ => true
  | .recallScan _ => true
  | .recallDone _ => true
  | .nvRecordAck _ => true
  | .nvCellAck _ => true
  | .nvEraseDone _ => true
  | .pacedWrite => true
  | .nvCompaction => true
  | .nvScrub _ _ => true
  | .holdupReady _ => true
  | .flashTimeout _ => true
  | .mgmtWatchdog _ _ => true
  | .lockstepMismatch _ _ => true
  | .pairBoot _ _ _ => true
  | .moultStage => true
  | .moultStageDone _ => true
  | .moultGo => true
  | .quietPoint => true
  | .quietTimeout => true
  | .moultCommit => true
  | .moultRollback => true
  | .probationExpiry => true
  | .windowWrite addr _ => inBar0 addr && decide (0x1000000 ≤ addr.toNat ∧ addr.toNat % 4 = 0)
  | .fuseArm => true
  | .fuseBlow => true
  | .warmReset => true
  | .modRstN => true
  | .powerOnReset _ => true
  | .pwrTargetRun => true
  | .pwrTargetQuiet => true
  | .pwrTargetStandby => true
  | .standbyEntryDone => true
  | .wakeDone => true
  | .restoreConfigWrite _ _ => true
  | .restoreGo => true
  | .restoration => true
  | .restorePolderTimeout => true
  | .eventOccurrence _ _ d => d.length == 12
  | .eventRecordWrite _ _ => true
  | .eventRingEnable _ _ => true
  | .eventRingTimer _ => true
  | .swRaise _ => true
  | .patrolScrub _ => true
  | .sramScrub _ => true
  | .bar2Access off acc _ => decide (off.toNat + (match acc with | .inl n => n | .inr l => l.length) ≤ 0x10000000)
  | .unmappedAccess addr _ => inBar0 addr
  | .badSizeAccess addr _ => inBar0 addr
  | .registerWrite addr _ => inBar0 addr
  | .clearFaults => true
  | .statusWord => true
  | .readVin => true
  | .readIin => true
  | .readTemperature1 => true
  | .readTemperature2 => true
  | .readPin => true
  | .mfrId => true
  | .mfrModel => true
  | .mfrSerial => true
  | .mfrPowerLimit _ => true
  | .mfrFetchLimit _ => true
  | .mfrState _ => true
  | .pmbusUnsupported _ _ => true
  | .registerRead _ addr => inBar0 addr
  | .d3hotEntry => true
  | .pcieAerError _ _ => true
  | .laneSignalLost _ => true
  | .prbsCheckerLock _ => true
  | .prbsCheckerLoss _ compared errors => decide (errors ≤ compared)
  | .ancillaryPacket _ _ => true
  | .unmatchedFrame _ _ _ _ => true
  | .keyOperationEnd _ _ => true
  | .j4Disconnect _ => true

end Sys2Proof
end

