-- ==== Sys2Proof/Safety.lean ====
section
/-!
DEFINITION. Safety.lean: what holds of every state that a step leaves, in the terms the statements use.
-/
namespace Sys2Proof.Machine

/-- Grants less returns are the tokens that are not free, in both pools of the leave arbiter (R407). -/
def State.leaveBalanced (s : State) : Prop :=
  s.lv.powFree + s.led 9 0 5 = powPool + s.led 9 0 6 ∧ s.lv.fetFree + s.led 9 1 5 = fetPool + s.led 9 1 6

/-- The register file, the ledgers, HBM and the host bytes that the module has written are in canonical form: equal
contents are equal data. A fence that waits has started: its stamp lies before the next one. -/
def State.canonical (s : State) : Prop :=
  Tab.wf powerOn s.regs = true ∧ Tab.wf (fun _ => 0) s.ledger = true ∧ Tab.wf (fun _ => none) s.hbm = true ∧
    Tab.wf (fun _ => none) s.hif.hostMem = true ∧ ∀ f ∈ s.hif.fences, f.stamp < s.hif.stamp

/-- PHC seconds fit 48 bits (R345), a step of the PHC that waits has an amount in range (R348), one of the two management
pairs serves (R474), the thermal shed is a level of R412 and the supply band one of R409. -/
def State.legal (s : State) : Prop :=
  s.tim.phc < 281474976710656 * phcUnit ∧ (∀ p, s.tim.stepWait = some p → p.ok = true) ∧ s.mg.serving ≤ 1 ∧ s.lv.thermal ≤ 3 ∧
    s.lv.band ≤ 2

/-- What every command keeps. -/
structure State.Good (s : State) : Prop where
  balanced : s.leaveBalanced
  canonical : s.canonical
  legal : s.legal

/-- The invariant of the machine: what every command keeps, and only well-formed commands wait. -/
structure State.Inv (s : State) : Prop where
  good : s.Good
  queue : ∀ c ∈ s.pending, c.wf = true

/-! ## Descriptors -/

/-- Ring `n` is the one served next (R45); the descriptor that it holds first is well formed and has opcode `opc` (R54); its
class, the power state and the serving pair accept it (R46, R69, R503). It starts as job `j`, and `u` is the state in which it has started. -/
structure State.Starts (s : State) (n opc : Nat) (j : Job) (u : State) : Prop where
  served : s.nextRing = some n
  first : ∃ d rest, (s.sq n).prefetch = d :: rest ∧ wellFormedDesc d (s.sq n).seqNext = true ∧ u8 d 0 = opc
  started : s.start n false = some (j, u)
  class_ : j.take = true → takeAccepts opc = true
  power : u.pwrRefuses opc = false
  firmware : (s.sq n).parked = [] ∧ (needsFw opc = true → u.fwUp = true)

/-- The descriptor of job `j` has ended, and its completion record with this status and result is ready (R57, R562). -/
def State.Answered (t : State) (j : Job) (status : Nat) (result : BitVec 64) : Prop :=
  ∃ e ∈ (t.sq j.ring).started, e.stamp = j.stamp ∧ e.seq = j.seq ∧ e.opcode = j.opcode ∧ e.ended = true ∧ e.ready = some (status, result)

/-- The descriptor of job `j` has ended and its completion waits for what the command has begun (R562). -/
def State.Ended (t : State) (j : Job) : Prop :=
  ∃ e ∈ (t.sq j.ring).started, e.stamp = j.stamp ∧ e.seq = j.seq ∧ e.opcode = j.opcode ∧ e.ended = true ∧ e.ready = none

/-- The descriptor of job `j` runs: it has started and not ended. -/
def State.Waits (t : State) (j : Job) : Prop :=
  ∃ e ∈ (t.sq j.ring).started, e.stamp = j.stamp ∧ e.seq = j.seq ∧ e.opcode = j.opcode ∧ e.ended = false ∧ e.ready = none ∧ e.flushed = false

/-! ## Parts of the state, and what each command may change -/

/-- The parts of the state that a frame tells apart. -/
inductive Part where
  /-- the queue of commands -/
  | pending
  /-- the register file -/
  | regs
  /-- values latched by a read -/
  | latches
  /-- the ledger counters -/
  | ledger
  /-- the submission rings -/
  | subRings
  /-- the completion rings -/
  | cplRings
  /-- the event rings, the events staged and their sources -/
  | events
  /-- the host bytes that the module has written -/
  | hostMem
  /-- the MSI-X table -/
  | msix
  /-- the pending bits and the messages sent -/
  | irq
  /-- the engine: time stamps, both round robins, the fences -/
  | engine
  /-- D3hot -/
  | d3hot
  /-- the sources and their rings -/
  | sources
  /-- the flows received -/
  | flows
  /-- the membership of the groups -/
  | igmp
  /-- the heads -/
  | heads
  /-- the salvos -/
  | salvos
  /-- the surfaces -/
  | surfaces
  /-- the scalers -/
  | scalers
  /-- the colour units, the dithers and the loads -/
  | colour
  /-- the converters -/
  | converters
  /-- the destinations -/
  | destinations
  /-- the push channels -/
  | pushes
  /-- the leave pools -/
  | leave
  /-- the limits set over PMBus -/
  | limits
  /-- the sheds and the status of the supply -/
  | sheds
  /-- converter time and the PHC -/
  | phc
  /-- the reference inputs -/
  | refs
  /-- the synthesisers -/
  | syns
  /-- the polders -/
  | polders
  /-- the network: flows sent, the host packet queue, lanes and ports -/
  | net
  /-- the dikes -/
  | dikes
  /-- what pin sense knows of each destination -/
  | pinSense
  /-- the seal chains and the as-run log -/
  | seals
  /-- the audio plane -/
  | audio
  /-- the management pairs -/
  | mgmt
  /-- the cocoon -/
  | cocoon
  /-- the NV store -/
  | nv
  /-- restoration -/
  | restoration
  /-- the power states -/
  | power
  /-- the scrubs -/
  | scrub
  /-- the HBM bytes that BAR2 has written -/
  | hbm
  /-- the answer of the last read -/
  | reply
  /-- how many free values have been used -/
  | free
  /-- the pictures that heads have shown -/
  | shots
  deriving DecidableEq, Repr

/-- A part of two states is the same. -/
def Part.same (s t : State) : Part → Prop
  | .pending => t.pending = s.pending
  | .regs => t.regs = s.regs
  | .latches => t.latches = s.latches
  | .ledger => t.ledger = s.ledger
  | .subRings => t.hif.sqs = s.hif.sqs
  | .cplRings => t.hif.cqs = s.hif.cqs
  | .events => (t.hif.ers, t.hif.staged, t.hif.evSrcs) = (s.hif.ers, s.hif.staged, s.hif.evSrcs)
  | .hostMem => t.hif.hostMem = s.hif.hostMem
  | .msix => t.hif.msix = s.hif.msix
  | .irq => (t.hif.pba, t.hif.msgs) = (s.hif.pba, s.hif.msgs)
  | .engine => (t.hif.stamp, t.hif.rrTake, t.hif.rrBulk, t.hif.fences) = (s.hif.stamp, s.hif.rrTake, s.hif.rrBulk, s.hif.fences)
  | .d3hot => t.hif.d3hot = s.hif.d3hot
  | .sources => (t.ing.srcs, t.ing.old, t.ing.nextRing) = (s.ing.srcs, s.ing.old, s.ing.nextRing)
  | .flows => (t.ing.flows, t.ing.nextHandle) = (s.ing.flows, s.ing.nextHandle)
  | .igmp => (t.ing.repeats, t.ing.older, t.ing.igmpSent, t.ing.igmpLast) = (s.ing.repeats, s.ing.older, s.ing.igmpSent, s.ing.igmpLast)
  | .heads => t.hds.heads = s.hds.heads
  | .salvos => (t.hds.staged, t.hds.armed) = (s.hds.staged, s.hds.armed)
  | .surfaces => t.srf = s.srf
  | .scalers => t.scc.scalers = s.scc.scalers
  | .colour => (t.scc.ins, t.scc.outs, t.scc.diths, t.scc.loads) = (s.scc.ins, s.scc.outs, s.scc.diths, s.scc.loads)
  | .converters => t.out.convs = s.out.convs
  | .destinations => t.out.dests = s.out.dests
  | .pushes => t.out.pushes = s.out.pushes
  | .leave => (t.lv.powFree, t.lv.fetFree, t.lv.powWith, t.lv.fetWith, t.lv.fixed) = (s.lv.powFree, s.lv.fetFree, s.lv.powWith, s.lv.fetWith, s.lv.fixed)
  | .limits => (t.lv.pmPow, t.lv.pmFet) = (s.lv.pmPow, s.lv.pmFet)
  | .sheds => (t.lv.stInput, t.lv.stTemp, t.lv.stCml, t.lv.stOther, t.lv.auditBad, t.lv.thermal, t.lv.thermSince, t.lv.supply, t.lv.supplySince, t.lv.power, t.lv.powerSince, t.lv.overSince, t.lv.band, t.lv.tripped, t.lv.tripExcl, t.lv.hbmHot, t.lv.level, t.lv.powerFail, t.lv.goodSince) = (s.lv.stInput, s.lv.stTemp, s.lv.stCml, s.lv.stOther, s.lv.auditBad, s.lv.thermal, s.lv.thermSince, s.lv.supply, s.lv.supplySince, s.lv.power, s.lv.powerSince, s.lv.overSince, s.lv.band, s.lv.tripped, s.lv.tripExcl, s.lv.hbmHot, s.lv.level, s.lv.powerFail, s.lv.goodSince)
  | .phc => (t.tim.ct, t.tim.phc, t.tim.incr, t.tim.incrAt, t.tim.stepWait, t.tim.ppsAt) = (s.tim.ct, s.tim.phc, s.tim.incr, s.tim.incrAt, s.tim.stepWait, s.tim.ppsAt)
  | .refs => t.tim.refs = s.tim.refs
  | .syns => t.tim.syns = s.tim.syns
  | .polders => t.tim.polders = s.tim.polders
  | .net => t.net = s.net
  | .dikes => (t.psn.dikes, t.psn.ties) = (s.psn.dikes, s.psn.ties)
  | .pinSense => t.psn.dests = s.psn.dests
  | .seals => (t.psn.chains, t.psn.queue, t.psn.signing, t.psn.log, t.psn.stopped) = (s.psn.chains, s.psn.queue, s.psn.signing, s.psn.log, s.psn.stopped)
  | .audio => t.aud = s.aud
  | .mgmt => t.mg = s.mg
  | .cocoon => t.coc = s.coc
  | .nv => t.nv = s.nv
  | .restoration => t.rest = s.rest
  | .power => t.pwr = s.pwr
  | .scrub => t.scrub = s.scrub
  | .hbm => t.hbm = s.hbm
  | .reply => t.reply = s.reply
  | .free => t.free = s.free
  | .shots => t.hds.shots = s.hds.shots

/-- The parts of the state that a command may change when it completes. Every other part stays as it is. -/
def touches : Instr → List Part
    | .doorbell _ _ => [.subRings, .events]
    | .sqEnable _ _ => [.subRings]
    | .sqDisable _ => [.subRings]
    | .sqReset _ => [.subRings]
    | .sqResume _ => [.subRings]
    | .ringResetEnd _ => [.subRings]
    | .cqEnable _ _ => [.subRings, .cplRings]
    | .cqErrClear _ => [.subRings, .cplRings]
    | .cqHeadWrite _ _ => [.cplRings]
    | .descriptorFetch _ _ => [.subRings, .events]
    | .malformedDescriptor _ => [.subRings, .events, .engine]
    | .completionPost _ _ => [.subRings, .cplRings, .events, .hostMem, .irq]
    | .cqModTimerExpiry _ => [.cplRings, .hostMem, .irq]
    | .flr _ => [.regs, .subRings, .cplRings, .events, .msix, .irq, .engine, .d3hot, .net]
    | .opNop _ => [.subRings, .events, .engine]
    | .opFence _ => [.subRings, .events, .engine]
    | .opTake _ => [.regs, .ledger, .subRings, .events, .engine, .heads, .salvos, .surfaces, .scalers, .converters, .leave,
      .free]
    | .opCommit _ => [.regs, .ledger, .subRings, .events, .engine, .heads, .salvos, .surfaces, .leave]
    | .opSalvoArm _ => [.regs, .ledger, .subRings, .events, .engine, .heads, .salvos, .surfaces, .scalers, .converters,
      .leave, .free]
    | .salvoCancel _ => [.regs, .ledger, .subRings, .events, .engine, .sources, .heads, .salvos, .surfaces, .scalers,
      .converters, .leave, .audio, .restoration]
    | .commitCancel _ => [.regs, .ledger, .subRings, .events, .engine, .sources, .heads, .salvos, .surfaces, .scalers,
      .converters, .leave, .audio, .restoration]
    | .salvoArmTimeout _ _ => [.subRings, .engine, .salvos]
    | .opHeadSet _ => [.subRings, .events, .engine, .heads]
    | .opLayerSet _ => [.subRings, .events, .engine, .heads]
    | .opHeadStop _ => [.regs, .ledger, .subRings, .events, .engine, .sources, .heads, .surfaces, .scalers, .converters,
      .leave]
    | .opSurfAlloc _ => [.ledger, .subRings, .events, .engine, .surfaces, .hbm]
    | .opSurfUpload _ => [.regs, .ledger, .subRings, .events, .engine, .surfaces, .leave]
    | .surfUploadEnd _ _ => [.regs, .ledger, .subRings, .events, .engine, .surfaces, .leave, .hbm]
    | .opSurfFree _ => [.ledger, .subRings, .events, .engine, .surfaces]
    | .opSrcSet _ => [.regs, .ledger, .subRings, .events, .engine, .sources, .surfaces, .nv]
    | .opFlowAdd _ => [.regs, .ledger, .subRings, .events, .engine, .sources, .flows, .igmp, .heads, .destinations, .leave,
      .audio, .nv, .free]
    | .opFlowDel _ => [.regs, .ledger, .subRings, .events, .hostMem, .irq, .engine, .sources, .flows, .igmp, .destinations,
      .pinSense, .seals, .audio, .nv]
    | .sourceRingFree _ => [.regs, .ledger, .events, .sources, .leave]
    | .opLedgerRead _ _ => [.subRings, .events, .hostMem, .engine]
    | .scalerClaim _ => [.regs, .ledger, .subRings, .events, .engine, .scalers, .leave]
    | .scalerRelease _ => [.regs, .ledger, .subRings, .events, .engine, .scalers, .leave]
    | .scalerConfigure _ => [.subRings, .events, .engine, .scalers]
    | .opColourLoad _ _ => [.subRings, .events, .engine, .sources, .heads, .scalers, .colour]
    | .convClaim _ => [.regs, .ledger, .subRings, .events, .engine, .converters, .leave]
    | .convRelease _ => [.regs, .ledger, .subRings, .events, .engine, .sources, .converters, .leave]
    | .convMode _ => [.regs, .ledger, .subRings, .events, .engine, .converters, .leave]
    | .audioRoute _ => [.subRings, .events, .engine, .audio]
    | .audioSet _ => [.subRings, .events, .engine, .audio]
    | .audioUnroute _ => [.subRings, .events, .engine, .audio]
    | .audioCompanion _ => [.subRings, .events, .engine, .audio, .nv]
    | .opLeaveReq _ => [.regs, .ledger, .subRings, .events, .engine, .heads, .leave]
    | .opLeaveRet _ => [.regs, .ledger, .subRings, .events, .engine, .heads, .leave]
    | .opNvRead _ _ => [.subRings, .events, .hostMem, .engine]
    | .opNvWrite _ _ => [.subRings, .events, .engine, .nv]
    | .nvCountRead _ => [.subRings, .events, .engine]
    | .nvCountIncrement _ => [.subRings, .events, .engine, .nv]
    | .keyGenerate _ => [.subRings, .events, .engine, .cocoon, .nv]
    | .keyImport _ _ => [.subRings, .events, .engine, .cocoon, .nv]
    | .keyDerive _ _ => [.subRings, .events, .engine, .cocoon, .nv]
    | .keyDelete _ => [.subRings, .events, .engine, .dikes, .cocoon, .nv]
    | .keyLimit _ => [.subRings, .events, .engine, .cocoon, .nv]
    | .keyInfo _ _ => [.subRings, .events, .hostMem, .engine]
    | .keySign _ _ => [.subRings, .events, .engine, .cocoon, .nv]
    | .keyVerify _ _ => [.subRings, .events, .engine, .cocoon, .nv]
    | .keyMac _ _ => [.subRings, .events, .engine, .cocoon, .nv]
    | .keyEncrypt _ _ => [.subRings, .events, .engine, .cocoon, .nv]
    | .keyDecrypt _ _ => [.subRings, .events, .engine, .cocoon, .nv]
    | .keyHash _ _ => [.subRings, .events, .engine, .cocoon, .nv]
    | .keyAttest _ _ => [.subRings, .events, .engine, .cocoon, .nv]
    | .keyChallenge _ _ => [.subRings, .events, .hostMem, .engine, .cocoon]
    | .keyRespond _ _ => [.subRings, .events, .engine, .cocoon, .nv]
    | .challengeExpiry _ => [.cocoon]
    | .unlockLockoutExpiry => [.cocoon]
    | .keyAdminSet _ _ => [.subRings, .events, .engine, .cocoon, .nv]
    | .keyRecommission _ => [.subRings, .events, .engine, .cocoon, .nv]
    | .dikeBind _ => [.subRings, .events, .engine, .dikes, .cocoon, .nv]
    | .dikeContent _ _ _ _ => [.regs, .ledger, .subRings, .events, .engine, .surfaces, .cocoon, .hbm]
    | .dikeUnbind _ _ => [.subRings, .events, .engine, .cocoon]
    | .dikeReapply _ _ _ => [.regs, .ledger, .subRings, .events, .engine, .surfaces, .cocoon, .hbm]
    | .pushSet _ => [.regs, .ledger, .subRings, .events, .engine, .pushes, .leave]
    | .pushDisable _ => [.regs, .ledger, .subRings, .events, .hostMem, .irq, .engine, .pushes, .leave]
    | .pushRefresh _ => [.subRings, .events, .engine, .pushes]
    | .sealLogSet _ => [.regs, .subRings, .events, .engine, .seals]
    | .sealLogOff _ => [.subRings, .events, .engine, .seals]
    | .sealRead _ _ => [.subRings, .events, .hostMem, .engine]
    | .sealNow _ => [.subRings, .events, .engine, .seals]
    | .rasterPeriodStart _ => [.regs, .ledger, .subRings, .events, .hostMem, .engine, .sources, .heads, .salvos, .surfaces,
      .scalers, .colour, .converters, .destinations, .pushes, .leave, .polders, .pinSense, .seals, .audio, .restoration]
    | .sluiceClose _ => [.regs, .ledger, .subRings, .events, .engine, .sources, .heads, .salvos, .surfaces, .scalers, .colour,
      .converters, .leave, .audio, .restoration]
    | .composeDeadline _ _ => [.regs, .ledger, .events, .sources, .heads]
    | .flip _ _ => [.regs, .ledger, .subRings, .cplRings, .events, .hostMem, .msix, .irq, .engine, .d3hot, .sources, .flows,
      .igmp, .heads, .salvos, .surfaces, .scalers, .colour, .converters, .destinations, .pushes, .leave, .sheds, .syns,
      .polders, .net, .dikes, .pinSense, .seals, .audio, .mgmt, .cocoon, .nv, .restoration, .power, .scrub, .shots]
    | .pushReadEnd _ _ _ => [.regs, .ledger, .events, .hostMem, .irq, .pushes]
    | .pushHeadWrite _ _ => [.pushes]
    | .pinSenseJudgement _ _ _ _ => [.regs, .ledger, .events, .hostMem, .irq, .destinations, .pinSense, .seals]
    | .sealDue _ => [.seals]
    | .sealSigned => [.subRings, .events, .hostMem, .irq, .engine, .seals, .nv]
    | .logHeadWrite _ => [.regs, .hostMem, .seals]
    | .scanForceLine _ _ => [.regs, .heads]
    | .headRstGo _ => [.regs, .ledger, .events, .hostMem, .irq, .sources, .heads, .destinations, .pushes, .pinSense, .seals]
    | .containmentHeadReset _ _ => [.regs, .ledger, .subRings, .events, .hostMem, .irq, .engine, .sources, .heads, .salvos,
      .surfaces, .scalers, .converters, .destinations, .pushes, .leave, .pinSense, .seals, .audio, .restoration]
    | .creditAudit _ => [.regs, .ledger, .subRings, .cplRings, .events, .hostMem, .msix, .irq, .engine, .d3hot, .sources,
      .flows, .igmp, .heads, .salvos, .surfaces, .scalers, .colour, .converters, .destinations, .pushes, .leave, .sheds,
      .syns, .polders, .net, .dikes, .pinSense, .seals, .audio, .mgmt, .cocoon, .nv, .restoration, .power, .scrub, .shots]
    | .signalDetect _ => [.regs, .events, .sources]
    | .rateDwellExpiry _ => [.sources]
    | .cdrLock _ => [.regs, .sources]
    | .cdrLoss _ => [.regs, .ledger, .events, .sources]
    | .sdiFrame _ _ => [.regs, .ledger, .subRings, .events, .engine, .sources, .colour, .scrub]
    | .trsLoss _ => [.regs, .ledger, .events, .sources]
    | .publishTimeout _ => [.regs, .ledger, .events, .sources]
    | .ipVideoPacket _ => [.regs, .ledger, .subRings, .events, .engine, .sources, .colour, .scrub]
    | .mergeWindowExpiry _ => [.regs, .ledger, .events, .sources]
    | .ipFlowTimeout _ => [.regs, .ledger, .events, .sources]
    | .legLost _ _ => [.regs, .events, .sources]
    | .igmpQuery _ _ _ _ _ _ _ => [.igmp]
    | .igmpReportRepeat => [.igmp]
    | .buildStart _ _ => [.regs, .ledger, .events, .sources, .converters, .leave, .scrub]
    | .audioSamplePosition _ => [.regs, .ledger, .subRings, .events, .engine, .audio, .nv, .scrub, .free]
    | .audioPacket _ => [.regs, .ledger, .events, .audio]
    | .audioSendPacket _ => [.flows, .audio]
    | .classMeasurement _ _ _ => [.regs, .ledger, .events, .audio]
    | .ipSendPacket _ => [.regs, .flows, .destinations]
    | .phcIncrWrite _ => [.regs, .events, .phc, .syns]
    | .phcStepGo _ _ => [.regs, .events, .phc]
    | .phcNowRead _ => [.latches, .reply]
    | .phcHoldoverTimeout => [.regs, .events]
    | .ppsEdge => [.regs, .events, .phc, .nv]
    | .ppsLost => [.regs, .events]
    | .refAlignmentPoint _ _ _ _ => [.regs, .events, .refs]
    | .refSyncAbsent _ => [.regs, .events, .refs]
    | .synthConfigWrite _ _ _ => [.regs, .events, .syns, .polders, .nv]
    | .synthLock _ _ => [.syns, .polders]
    | .synthAlignmentPoint _ => [.regs, .events, .syns]
    | .slewStep _ => [.regs, .events, .syns]
    | .relock _ => [.regs, .events, .syns, .polders]
    | .sourceSwitch _ _ => [.regs, .events, .syns]
    | .synthRevert _ _ => [.regs, .events, .syns]
    | .polderCtlWrite _ _ => [.regs, .events, .syns, .polders, .nv]
    | .hqRxFrame _ _ _ _ _ => [.regs, .events, .hostMem, .irq, .net]
    | .hqTxDb _ => [.net]
    | .hqTxDone _ _ _ => [.hostMem, .irq, .net]
    | .laneGrpEnable _ => [.regs, .ledger, .leave, .net, .nv]
    | .laneGrpDisable _ => [.regs, .net, .nv]
    | .portEnable _ => [.regs, .ledger, .leave, .net, .nv]
    | .portDisable _ => [.regs, .net, .nv]
    | .powerDownEnd _ => [.regs, .ledger, .events, .sources, .leave, .net]
    | .portLinkChange _ _ _ => [.regs, .events, .igmp, .net]
    | .fecReport _ _ _ => [.regs, .events]
    | .loopSelect _ _ => [.regs, .events, .net]
    | .prbsGeneratorSelect _ _ => [.regs]
    | .prbsCheckerSelect _ _ => [.regs]
    | .prbsInject _ => [.regs]
    | .leaveCfgWrite _ => [.regs, .ledger, .events, .leave, .nv]
    | .leaveAudit _ _ => [.regs, .events, .sheds]
    | .supplyMeasurement _ _ => [.regs, .events, .sheds]
    | .powerFail => [.regs, .latches, .ledger, .subRings, .cplRings, .events, .msix, .irq, .engine, .d3hot, .sources, .flows,
      .igmp, .heads, .salvos, .surfaces, .scalers, .colour, .converters, .destinations, .pushes, .leave, .limits, .sheds,
      .phc, .refs, .syns, .polders, .net, .dikes, .pinSense, .seals, .audio, .mgmt, .cocoon, .nv, .restoration, .power,
      .scrub, .hbm, .reply, .shots]
    | .powerFailRecovery => [.regs, .latches, .ledger, .subRings, .cplRings, .events, .msix, .irq, .engine, .d3hot, .sources,
      .flows, .igmp, .heads, .salvos, .surfaces, .scalers, .colour, .converters, .destinations, .pushes, .leave, .limits,
      .sheds, .phc, .refs, .syns, .polders, .net, .dikes, .pinSense, .seals, .audio, .mgmt, .cocoon, .nv, .restoration,
      .power, .scrub, .hbm, .reply, .shots]
    | .thermalSample _ _ => [.regs, .ledger, .subRings, .cplRings, .events, .hostMem, .msix, .irq, .engine, .d3hot, .sources,
      .flows, .igmp, .heads, .salvos, .surfaces, .scalers, .colour, .converters, .destinations, .pushes, .leave, .sheds,
      .syns, .polders, .net, .dikes, .pinSense, .seals, .audio, .mgmt, .cocoon, .nv, .restoration, .power, .shots]
    | .thermalTrip _ _ => [.regs, .ledger, .events, .hostMem, .irq, .sources, .heads, .destinations, .pushes, .sheds]
    | .tripRecover => [.regs, .ledger, .subRings, .cplRings, .events, .hostMem, .msix, .irq, .engine, .d3hot, .sources,
      .flows, .igmp, .heads, .salvos, .surfaces, .scalers, .colour, .converters, .destinations, .pushes, .leave, .sheds,
      .syns, .polders, .net, .dikes, .pinSense, .seals, .audio, .mgmt, .cocoon, .nv, .restoration, .power, .shots]
    | .breach _ => [.regs, .ledger, .subRings, .events, .engine, .surfaces, .leave, .sheds, .dikes, .seals, .cocoon, .nv]
    | .breachAck _ => [.cocoon]
    | .aonMapping => [.regs, .cocoon]
    | .battMeasure _ _ => [.regs, .events, .cocoon]
    | .recallScan _ => [.regs, .events, .nv]
    | .recallDone _ => [.regs, .events, .dikes, .seals, .cocoon, .nv, .restoration]
    | .nvRecordAck _ => [.regs, .ledger, .subRings, .events, .engine, .heads, .surfaces, .leave, .dikes, .cocoon, .nv]
    | .nvCellAck _ => [.regs, .ledger, .subRings, .events, .engine, .heads, .surfaces, .leave, .dikes, .cocoon, .nv]
    | .nvEraseDone _ => [.regs, .events, .nv]
    | .pacedWrite => [.seals, .nv]
    | .nvCompaction => [.nv]
    | .nvScrub _ _ => [.regs, .events, .nv]
    | .holdupReady _ => [.nv]
    | .flashTimeout _ => [.regs, .ledger, .subRings, .events, .engine, .heads, .surfaces, .leave, .dikes, .cocoon, .nv]
    | .mgmtWatchdog _ _ => [.regs, .events, .mgmt]
    | .lockstepMismatch _ _ => [.regs, .events, .mgmt]
    | .pairBoot _ _ _ => [.regs, .events, .mgmt, .cocoon]
    | .moultStage => [.events, .mgmt]
    | .moultStageDone _ => [.regs, .events, .mgmt]
    | .moultGo => [.events, .mgmt]
    | .quietPoint => [.regs, .events, .mgmt]
    | .quietTimeout => [.events, .mgmt]
    | .moultCommit => [.regs, .events, .mgmt]
    | .moultRollback => [.mgmt]
    | .probationExpiry => [.regs, .events, .mgmt]
    | .windowWrite _ _ => [.regs, .ledger, .subRings, .cplRings, .events, .hostMem, .msix, .irq, .engine, .d3hot, .sources,
      .flows, .igmp, .heads, .salvos, .surfaces, .scalers, .colour, .converters, .destinations, .pushes, .leave, .sheds, .phc,
      .refs, .syns, .polders, .net, .dikes, .pinSense, .seals, .audio, .mgmt, .cocoon, .nv, .restoration, .power, .shots]
    | .fuseArm => [.mgmt]
    | .fuseBlow => [.mgmt]
    | .warmReset => [.regs, .ledger, .subRings, .cplRings, .events, .hostMem, .msix, .irq, .engine, .d3hot, .sources, .flows,
      .igmp, .heads, .salvos, .surfaces, .scalers, .colour, .converters, .destinations, .pushes, .leave, .sheds, .syns,
      .polders, .net, .dikes, .pinSense, .seals, .audio, .mgmt, .cocoon, .nv, .restoration, .power, .shots]
    | .modRstN => [.regs, .latches, .ledger, .subRings, .cplRings, .events, .msix, .irq, .engine, .d3hot, .sources, .flows,
      .igmp, .heads, .salvos, .surfaces, .scalers, .colour, .converters, .destinations, .pushes, .leave, .limits, .sheds,
      .phc, .refs, .syns, .polders, .net, .dikes, .pinSense, .seals, .audio, .mgmt, .cocoon, .nv, .restoration, .power,
      .scrub, .hbm, .reply, .shots]
    | .powerOnReset _ => [.regs, .latches, .ledger, .subRings, .cplRings, .events, .msix, .irq, .engine, .d3hot, .sources,
      .flows, .igmp, .heads, .salvos, .surfaces, .scalers, .colour, .converters, .destinations, .pushes, .leave, .limits,
      .sheds, .phc, .refs, .syns, .polders, .net, .dikes, .pinSense, .seals, .audio, .mgmt, .cocoon, .nv, .restoration,
      .power, .scrub, .hbm, .reply, .shots]
    | .pwrTargetRun => [.regs, .events, .igmp, .scalers, .colour, .syns, .polders, .mgmt, .cocoon, .nv, .power]
    | .pwrTargetQuiet => [.regs, .events, .igmp, .scalers, .colour, .syns, .polders, .mgmt, .cocoon, .nv, .power]
    | .pwrTargetStandby => [.regs, .events, .igmp, .scalers, .colour, .syns, .polders, .mgmt, .cocoon, .nv, .power]
    | .standbyEntryDone => [.regs, .ledger, .events, .hostMem, .irq, .sources, .igmp, .scalers, .colour, .converters, .pushes,
      .leave, .syns, .polders, .net, .mgmt, .cocoon, .nv, .power]
    | .wakeDone => [.regs, .ledger, .subRings, .cplRings, .events, .hostMem, .msix, .irq, .engine, .d3hot, .sources, .flows,
      .igmp, .heads, .salvos, .surfaces, .scalers, .colour, .converters, .destinations, .pushes, .leave, .sheds, .net, .dikes,
      .pinSense, .seals, .audio, .mgmt, .cocoon, .nv, .restoration, .power, .shots]
    | .restoreConfigWrite _ _ => [.nv]
    | .restoreGo => [.restoration]
    | .restoration => [.regs, .ledger, .events, .engine, .sources, .flows, .igmp, .heads, .surfaces, .scalers, .converters,
      .destinations, .leave, .syns, .polders, .net, .audio, .nv, .restoration]
    | .restorePolderTimeout => [.regs, .ledger, .events, .sources, .heads, .scalers, .converters, .leave, .restoration]
    | .eventOccurrence _ _ _ => [.events]
    | .eventRecordWrite _ _ => [.events, .hostMem, .irq]
    | .eventRingEnable _ _ => [.events]
    | .eventRingTimer _ => [.events, .hostMem, .irq]
    | .swRaise _ => [.events]
    | .patrolScrub _ => [.regs, .events, .scrub]
    | .sramScrub _ => [.regs, .ledger, .subRings, .cplRings, .events, .hostMem, .msix, .irq, .engine, .d3hot, .sources,
      .flows, .igmp, .heads, .salvos, .surfaces, .scalers, .colour, .converters, .destinations, .pushes, .leave, .sheds,
      .syns, .polders, .net, .dikes, .pinSense, .seals, .audio, .mgmt, .cocoon, .nv, .restoration, .power, .scrub, .shots]
    | .bar2Access _ _ _ => [.regs, .events, .hbm, .reply, .free]
    | .unmappedAccess _ _ => [.regs, .events, .mgmt, .reply]
    | .badSizeAccess _ _ => [.regs, .reply]
    | .registerWrite _ _ => [.regs, .ledger, .subRings, .cplRings, .events, .hostMem, .msix, .irq, .engine, .d3hot, .sources,
      .flows, .igmp, .heads, .salvos, .surfaces, .scalers, .colour, .converters, .destinations, .pushes, .leave, .sheds, .phc,
      .refs, .syns, .polders, .net, .dikes, .pinSense, .seals, .audio, .mgmt, .cocoon, .nv, .restoration, .power, .shots]
    | .clearFaults => [.sheds, .reply]
    | .statusWord => [.reply]
    | .readVin => [.reply]
    | .readIin => [.reply, .free]
    | .readTemperature1 => [.reply]
    | .readTemperature2 => [.reply]
    | .readPin => [.reply]
    | .mfrId => [.reply]
    | .mfrModel => [.reply]
    | .mfrSerial => [.reply]
    | .mfrPowerLimit _ => [.regs, .ledger, .events, .leave, .limits, .sheds, .reply]
    | .mfrFetchLimit _ => [.regs, .ledger, .events, .leave, .limits, .sheds, .reply]
    | .mfrState _ => [.regs, .events, .igmp, .scalers, .colour, .sheds, .syns, .polders, .mgmt, .cocoon, .nv, .power, .reply]
    | .pmbusUnsupported _ _ => [.sheds, .reply]
    | .registerRead _ _ => [.regs, .latches, .subRings, .events, .mgmt, .reply, .free]
    | .d3hotEntry => [.d3hot]
    | .pcieAerError _ _ => [.events]
    | .laneSignalLost _ => [.regs, .events, .sources]
    | .prbsCheckerLock _ => [.regs, .events]
    | .prbsCheckerLoss _ _ _ => [.regs, .events]
    | .ancillaryPacket _ _ => [.regs, .sources]
    | .unmatchedFrame _ _ _ _ => [.regs]
    | .keyOperationEnd _ _ => [.regs, .ledger, .subRings, .events, .hostMem, .engine, .heads, .surfaces, .leave, .dikes,
      .seals, .cocoon, .nv]
    | .j4Disconnect _ => [.regs]

end Sys2Proof.Machine
end

