-- ==== Sys2Proof/Certificates/Slice0/Obligations.lean ====
section
/-!
DEFINITION. Certificates/Slice0/Obligations.lean: the statements for the provers. The first definitions are vocabulary; each statement
says in its docstring which rules of the spec it rests on. `touches` of Safety.lean is the table of what each command may change.
-/
open Sys2Proof Sys2Proof.Machine

/-- An event source has had one more occurrence (R75). -/
def Sys2Proof.Machine.State.Occurred (s t : State) (src : Nat) : Prop := (t.evSrc src).occurred = (s.evSrc src).occurred + 1

/-- Every part of the state but these is the same. -/
def Sys2Proof.Machine.State.Only (s t : State) (l : List Part) : Prop := ∀ p, p ∉ l → p.same s t
/-- The descriptor of job `j` is on its ring, and no fence has its stamp. -/
def Sys2Proof.Machine.State.Has (t : State) (j : Job) : Prop :=
  (∃ e ∈ (t.sq j.ring).started, e.stamp = j.stamp ∧ e.seq = j.seq ∧ e.opcode = j.opcode ∧ e.flushed = false) ∧
    ∀ f ∈ t.hif.fences, f.stamp ≠ j.stamp

/-- A step takes the command at the front of the queue, and is that command's effect with the rest of the queue waiting. -/
def Obligations.StepTakesFront : Prop := ∀ (c : Instr) (q : List Instr) (s : State), s.pending = c :: q → step s = exec c (s.withPending q)

/-- With no command waiting, a step is one tick of the 500 MHz clock: the PHC adds its increment (R345). That ticks pass on an empty queue is
the model's choice (log 1). -/
def Obligations.IdleStepTicks : Prop := ∀ s : State, s.pending = [] → ∃ t, step s = .next t ∧ t.tim.ct = s.tim.ct + 1 ∧
  t.tim.phc = (s.tim.phc + s.tim.incr) % (281474976710656 * phcUnit) ∧ s.Only t [.phc] ∧
  (t.tim.incr, t.tim.incrAt, t.tim.stepWait, t.tim.ppsAt) = (s.tim.incr, s.tim.incrAt, s.tim.stepWait, s.tim.ppsAt)

/-- A command leaves the queue of waiting commands alone. -/
def Obligations.CommandsKeepQueue : Prop := ∀ (c : Instr) (s t : State), exec c s = .next t → t.pending = s.pending

/-- A command whose operands lie in their ranges completes in every state. -/
def Obligations.WellFormedCompletes : Prop := ∀ (c : Instr) (s : State), c.wf = true → ∃ t, exec c s = .next t

/-- The only stops: an access at an offset that BAR0's 64 MiB or BAR2's 256 MiB do not have (R530). -/
def Obligations.StopsOutsideApertures : Prop := ∀ (c : Instr) (s : State) (f : Fault),
  (exec c s = .fault f → c.wf = false) ∧
  (∀ a w, 67108864 ≤ a.toNat → exec (.unmappedAccess a w) s = .fault .outsideBar0 ∧ exec (.badSizeAccess a w) s = .fault .outsideBar0) ∧
  (∀ a v, 67108864 ≤ a.toNat → exec (.registerWrite a v) s = .fault .outsideBar0 ∧ exec (.windowWrite a v) s = .fault .outsideBar0) ∧
  (∀ (who : Fin 3) a, 67108864 ≤ a.toNat → exec (.registerRead who a) s = .fault .outsideBar0) ∧
  (∀ x n e, 268435456 < x.toNat + n → exec (.bar2Access x (.inl n) e) s = .fault .outsideBar2) ∧
  (∀ x l e, 268435456 < x.toNat + l.length → exec (.bar2Access x (.inr l) e) s = .fault .outsideBar2)

/-- After reset the invariant holds. -/
def Obligations.InvAtReset : Prop := State.reset.Inv

/-- Every step keeps the invariant: tokens granted and free add up to the pools (R407), the PHC and a step that waits are in range (R345, R348), the
serving pair, the shed level and the supply band are legal (R474, R412, R409), sparse data is canonical, and what waits is well formed. -/
def Obligations.InvKept : Prop := ∀ s t : State, s.Inv → step s = .next t → t.Inv

/-- Which commands change a submission ring, a completion ring, the engine or D3hot: only those that `touches` lists for it. -/
def Obligations.FrameRings : Prop := ∀ (c : Instr) (s t : State), exec c s = .next t →
  (.subRings ∉ touches c → ∀ n, t.sq n = s.sq n) ∧ (.cplRings ∉ touches c → ∀ n, t.cq n = s.cq n) ∧
  (.engine ∉ touches c → (t.hif.stamp, t.hif.rrTake, t.hif.rrBulk, t.hif.fences) = (s.hif.stamp, s.hif.rrTake, s.hif.rrBulk, s.hif.fences)) ∧
  (.d3hot ∉ touches c → t.hif.d3hot = s.hif.d3hot)

/-- Event rings, staged records, event ledgers, the MSI-X table and pending bits change only by the commands that `touches` lists for them. -/
def Obligations.FrameEvents : Prop := ∀ (c : Instr) (s t : State), exec c s = .next t →
  (.events ∉ touches c → ∀ n, t.er n = s.er n ∧ t.stagedOf n = s.stagedOf n ∧ t.evSrc n = s.evSrc n) ∧
  (.msix ∉ touches c → ∀ n, t.msixWord n = s.msixWord n) ∧ (.irq ∉ touches c → t.hif.pba = s.hif.pba ∧ t.hif.msgs = s.hif.msgs)

/-- Every byte of host memory that the module has written, and every byte that BAR2 has written, reads as before, but for the commands that
`touches` lists for them. -/
def Obligations.FrameStoredBytes : Prop := ∀ (c : Instr) (s t : State), exec c s = .next t →
  (.hostMem ∉ touches c → ∀ a, Tab.get (fun _ => none) t.hif.hostMem a = Tab.get (fun _ => none) s.hif.hostMem a) ∧
  (.hbm ∉ touches c → ∀ a, Tab.get (fun _ => none) t.hbm a = Tab.get (fun _ => none) s.hbm a)

/-- Registers, latches, ledger counters, the answer of a read and the free values used change only by the commands that `touches` lists. -/
def Obligations.FrameRegisters : Prop := ∀ (c : Instr) (s t : State), exec c s = .next t →
  (.regs ∉ touches c → ∀ a, t.rd a = s.rd a) ∧ (.latches ∉ touches c → t.latches = s.latches) ∧
  (.ledger ∉ touches c → ∀ kind i k, t.led kind i k = s.led kind i k) ∧ (.reply ∉ touches c → t.reply = s.reply) ∧
  (.free ∉ touches c → t.free = s.free)

/-- Sources, flows and group memberships change only by the commands that `touches` lists. -/
def Obligations.FrameIngest : Prop := ∀ (c : Instr) (s t : State), exec c s = .next t →
  (.sources ∉ touches c → (∀ n, t.src n = s.src n) ∧ t.ing.old = s.ing.old) ∧ (.flows ∉ touches c → t.ing.flows = s.ing.flows) ∧
  (.igmp ∉ touches c → t.ing.repeats = s.ing.repeats ∧ t.ing.older = s.ing.older ∧ t.ing.igmpSent = s.ing.igmpSent)

/-- Heads, their configurations, commits and pictures, and salvos change only by the commands that `touches` lists. -/
def Obligations.FrameHeads : Prop := ∀ (c : Instr) (s t : State), exec c s = .next t →
  (.heads ∉ touches c → ∀ h, t.head h = s.head h) ∧ (.salvos ∉ touches c → t.hds.staged = s.hds.staged ∧ t.hds.armed = s.hds.armed)

/-- Surfaces, scalers, colour units, converter slices, destinations and push channels change only by the commands that `touches` lists. -/
def Obligations.FrameVideoUnits : Prop := ∀ (c : Instr) (s t : State), exec c s = .next t →
  (.surfaces ∉ touches c → t.srf = s.srf) ∧ (.scalers ∉ touches c → t.scc.scalers = s.scc.scalers) ∧
  (.colour ∉ touches c → (t.scc.ins, t.scc.outs, t.scc.diths, t.scc.loads) = (s.scc.ins, s.scc.outs, s.scc.diths, s.scc.loads)) ∧
  (.converters ∉ touches c → ∀ m, t.cnv m = s.cnv m) ∧ (.destinations ∉ touches c → ∀ d, t.dest d = s.dest d) ∧
  (.pushes ∉ touches c → ∀ p, t.push p = s.push p)

/-- Leave pools, PMBus limits, sheds and the supply's status change only by the commands that `touches` lists. -/
def Obligations.FrameLeave : Prop := ∀ (c : Instr) (s t : State), exec c s = .next t →
  (.leave ∉ touches c → (t.lv.powFree, t.lv.fetFree, t.lv.powWith, t.lv.fetWith, t.lv.fixed) = (s.lv.powFree, s.lv.fetFree, s.lv.powWith, s.lv.fetWith, s.lv.fixed)) ∧
  (.limits ∉ touches c → t.lv.pmPow = s.lv.pmPow ∧ t.lv.pmFet = s.lv.pmFet) ∧
  (.sheds ∉ touches c → (t.lv.thermal, t.lv.supply, t.lv.power, t.lv.band, t.lv.tripped, t.lv.powerFail, t.lv.auditBad) =
    (s.lv.thermal, s.lv.supply, s.lv.power, s.lv.band, s.lv.tripped, s.lv.powerFail, s.lv.auditBad))

/-- The PHC, references, synthesisers and polders change only by the commands that `touches` lists. -/
def Obligations.FrameTime : Prop := ∀ (c : Instr) (s t : State), exec c s = .next t →
  (.phc ∉ touches c → (t.tim.ct, t.tim.phc, t.tim.incr, t.tim.stepWait) = (s.tim.ct, s.tim.phc, s.tim.incr, s.tim.stepWait)) ∧
  (.refs ∉ touches c → ∀ r, t.refIn r = s.refIn r) ∧ (.syns ∉ touches c → ∀ n, t.syn n = s.syn n) ∧ (.polders ∉ touches c → ∀ p, t.polder p = s.polder p)

/-- Lane groups, ports and host queue, dikes, pin sense and seals change only by the commands that `touches` lists. -/
def Obligations.FramePortsDikesSeals : Prop := ∀ (c : Instr) (s t : State), exec c s = .next t →
  (.net ∉ touches c → (∀ i, t.unit i = s.unit i) ∧ t.net.hq = s.net.hq) ∧ (.dikes ∉ touches c → t.psn.dikes = s.psn.dikes ∧ t.psn.ties = s.psn.ties) ∧
  (.pinSense ∉ touches c → t.psn.dests = s.psn.dests) ∧
  (.seals ∉ touches c → (t.psn.chains, t.psn.queue, t.psn.signing, t.psn.log) = (s.psn.chains, s.psn.queue, s.psn.signing, s.psn.log))

/-- The audio matrix, the management pairs, the cocoon, the store, restoration, the power states and the scrubbers change only by the commands
that `touches` lists. -/
def Obligations.FrameServices : Prop := ∀ (c : Instr) (s t : State), exec c s = .next t →
  (.audio ∉ touches c → t.aud = s.aud) ∧ (.mgmt ∉ touches c → t.mg = s.mg) ∧ (.cocoon ∉ touches c → t.coc = s.coc) ∧ (.nv ∉ touches c → t.nv = s.nv) ∧
  (.restoration ∉ touches c → t.rest = s.rest) ∧ (.power ∉ touches c → t.pwr = s.pwr) ∧ (.scrub ∉ touches c → t.scrub = s.scrub)

/-- R35: an FLR, a reset of a management pair, a moult and a breach leave every head, its applied configuration and its instar, and every
destination as they are. -/
def Obligations.ResetsThatHeadsSurvive : Prop := ∀ (b : Bool) (p : Fin 2) (cause : BitVec 6) (x : StagedImage) (c : Instr) (s t : State),
  c ∈ [.flr b, .mgmtWatchdog p b, .lockstepMismatch p b, .moultStage, .moultStageDone x, .moultGo, .moultCommit, .moultRollback, .probationExpiry, .quietTimeout, .breach cause] →
  exec c s = .next t → (∀ h, t.head h = s.head h) ∧ (∀ d, t.dest d = s.dest d) ∧ (∀ m, t.cnv m = s.cnv m) ∧ t.ing.flows = s.ing.flows ∧
    (c ≠ .breach cause → t.srf = s.srf ∧ ∀ kind i k, t.led kind i k = s.led kind i k)

/-- R55: OP_NOP does nothing but complete, with CS_OK and bytes 8 to 15 of its body; a descriptor of its opcode with a byte of 16 to 63 that is not
0 is malformed. -/
def Obligations.NopRule : Prop :=
  (∀ (n : Fin 64) (j : Job) (s u : State), s.Good → s.Starts n 0xF0 j u →
    ∃ t, exec (.opNop n) s = .next t ∧ t.Answered j 0 (BitVec.ofNat 64 (u64 j.d 8)) ∧ u.Only t [.subRings, .engine] ∧ s.Only t [.subRings, .events, .engine]) ∧
  (∀ (d : List Byte) (seq : BitVec 32) (i : Nat), u8 d 0 = 0xF0 → 16 ≤ i → i ≤ 63 → u8 d i ≠ 0 → wellFormedDesc d seq = false)

/-- R514: a write to SW_RAISE raises EV_SOFTWARE (0x1500) on source 312 + i with v in bytes 24 to 27 of the detail: where the source is enabled and its
ring takes it, its record is staged with the time of the PHC and the source's own number; in every case it is an occurrence of that source alone. -/
def Obligations.SoftwareMarkRule : Prop := ∀ (v : BitVec 32) (k src : Nat) (s : State), src = 312 + v.toNat % 8 → k = s.fget (Adr.evtSrc src) 1 0 →
  (∃ t, exec (.swRaise v) s = .next t ∧ s.Occurred t src ∧ ∀ m, m ≠ src → t.evSrc m = s.evSrc m) ∧
  (s.flag (Adr.evtSrc src) 2 = true → (s.er k).enable = true → ((s.er k).tail - (s.er k).head).toNat + (s.stagedOf k).length < 2 ^ (s.er k).sizeLog2 →
    (s.stagedOf k).length < 64 → ∃ t, exec (.swRaise v) s = .next t ∧ t.stagedOf k = s.stagedOf k ++
      [{ source := src, code := 0x1500, ns := s.phcNs, sec := s.phcSec, occ := (s.evSrc src).occurred + 1,
         detail := [0, 0, 0, 0] ++ leBytes 4 (v.toNat / 65536) ++ [0, 0, 0, 0] }])

/-- Doorbells and the control of a submission ring (R42, R49, R50, R66 to R68): what each command leaves in the ring. -/
def Obligations.SubmissionRings : Prop := ∀ (n : Fin 64) (v : BitVec 32) (s : State),
  (∃ t, exec (.doorbell n v) s = .next t ∧
    (v.toNat / 65536 ≠ (s.sq n).owner →
      t = s.setSq n { s.sq n with dbReject := BitVec.ofNat 32 (min ((s.sq n).dbReject.toNat + 1) 4294967295) }) ∧
    (v.toNat / 65536 = (s.sq n).owner →
      ((s.sq n).state = .disabled ∨ (s.sq n).state = .resetting ∧ (s.sq n).closing = true → t = s) ∧
      (¬((s.sq n).state = .disabled ∨ (s.sq n).state = .resetting ∧ (s.sq n).closing = true) →
        ((BitVec.ofNat 16 v.toNat - (s.sq n).head).toNat ≤ 2 ^ (s.sq n).sizeLog2 → t = s.setSq n { s.sq n with tail := BitVec.ofNat 16 v.toNat }) ∧
        (2 ^ (s.sq n).sizeLog2 < (BitVec.ofNat 16 v.toNat - (s.sq n).head).toNat → s.Occurred t 286 ∧ s.Only t [.subRings, .events] ∧
          t.sq n = if (s.sq n).state = .resetting then s.sq n
            else { s.sq n with state := .halted, reason := .dbOverrun, prefetch := [], fetchFailed := false })))) ∧
  ((s.sq n).state = .disabled → ∃ t, exec (.sqEnable n v) s = .next t ∧ s.Only t [.subRings] ∧ (∀ m, m ≠ n.val → t.sq m = s.sq m) ∧
    (t.sq n).take = decide (bits v.toNat 3 3 = 1) ∧ (t.sq n).sizeLog2 = bits v.toNat 7 4 ∧ (t.sq n).cq = bits v.toNat 13 8 ∧
    (t.sq n).owner = bits v.toNat 31 16 ∧ (t.sq n).base = (s.sq n).base ∧ (t.sq n).seqNext = (s.sq n).seqNext ∧
    (if 4 ≤ bits v.toNat 7 4 ∧ bits v.toNat 7 4 ≤ 12 ∧ bits v.toNat 31 16 ≠ 0 ∧ bits v.toNat 31 16 ≠ 0xFFFF ∧ bits (s.sq n).base.toNat 5 4 = 0 then
      (t.sq n).enable = true ∧ (t.sq n).state = .running ∧ (t.sq n).head = 0 ∧ (t.sq n).tail = 0 ∧ (t.sq n).prefetch = []
    else (t.sq n).enable = (s.sq n).enable ∧ (t.sq n).state = .disabled ∧ (t.sq n).reason = .badCfg)) ∧
  ((s.sq n).state = .running ∨ (s.sq n).state = .halted → ∃ t, exec (.sqDisable n) s = .next t ∧
    t = s.setSq n { s.sq n with
      state := .resetting, closing := true, enable := false, started := (s.sq n).started ++ (s.sq n).flushed (s.sq n).seqNext ((s.sq n).tail - (s.sq n).firstNotStarted).toNat,
      flushSeq := (s.sq n).seqNext + BitVec.ofNat 32 ((s.sq n).tail - (s.sq n).firstNotStarted).toNat, prefetch := [], fetchFailed := false, resumeWaits := false }) ∧
  ((s.sq n).state = .resetting → (s.sq n).closing = false → ∃ t, exec (.sqDisable n) s = .next t ∧
    t = s.setSq n { s.sq n with
      closing := true, enable := false, started := (s.sq n).started ++ (s.sq n).flushed (s.sq n).flushSeq ((s.sq n).tail - (s.sq n).firstNotStarted).toNat,
      flushSeq := (s.sq n).flushSeq + BitVec.ofNat 32 ((s.sq n).tail - (s.sq n).firstNotStarted).toNat }) ∧
  ((s.sq n).state = .running ∨ (s.sq n).state = .halted → ∃ t, exec (.sqReset n) s = .next t ∧
    t = s.setSq n { s.sq n with
      state := .resetting, closing := false, enable := true, started := (s.sq n).started ++ (s.sq n).flushed (s.sq n).seqNext ((s.sq n).tail - (s.sq n).firstNotStarted).toNat,
      flushSeq := (s.sq n).seqNext + BitVec.ofNat 32 ((s.sq n).tail - (s.sq n).firstNotStarted).toNat, prefetch := [], fetchFailed := false, resumeWaits := false }) ∧
  ((s.sq n).state = .halted → ∃ t, exec (.sqResume n) s = .next t ∧
    t = s.setSq n (if (s.sq n).reason = .cqErr ∧ (s.cq (s.sq n).cq).err = true then { s.sq n with resumeWaits := true }
      else { s.sq n with state := .running, resumeWaits := false })) ∧
  ((s.sq n).state ≠ .halted → exec (.sqResume n) s = .next s ∨ (s.sq n).state = .disabled) ∧
  ((s.sq n).state = .resetting → (s.sq n).started = [] → ∃ t, exec (.ringResetEnd n) s = .next t ∧
    t = s.setSq n { s.sq n with
      seqNext := (s.sq n).flushSeq, priv := false, reason := .none, closing := false, state := if (s.sq n).closing then .disabled else .running })

/-- Completion rings (R41, R42, R58 to R60, R72). CQ_ENABLE, CQ_HEAD_WRITE, CQ_ERR_CLEAR, COMPLETION_POST and CQ_MOD_TIMER_EXPIRY complete: the
first five clauses and the seventh state the next state of each form's own effect. -/
def Obligations.CompletionRings : Prop := ∀ (c n : Fin 64) (v : BitVec 32) (s : State),
  ((s.cq c).enable = false → 4 ≤ bits v.toNat 7 4 → bits v.toNat 7 4 ≤ 12 → exec (.cqEnable c v) s = .next (s.setCq c
    { s.cq c with enable := true, sizeLog2 := bits v.toNat 7 4, vector := bits v.toNat 13 8, head := 0, tail := 0, unsig := 0 })) ∧
  (exec (.cqHeadWrite c v) s = .next (s.setCq c { s.cq c with head := BitVec.ofNat 16 v.toNat })) ∧
  ((s.cq c).enable = true → ∃ t, exec (.cqErrClear c) s = .next t ∧ (t.cq c).err = false ∧ (t.cq c).enable = true ∧
    (t.cq c).tail = (s.cq c).tail ∧ (t.cq c).head = (s.cq c).head ∧ (t.cq c).sizeLog2 = (s.cq c).sizeLog2 ∧
    ((s.cq c).vector < 64 → (s.cq c).sizeLog2 < 16 → t.cq c = { s.cq c with err := false }) ∧ s.Only t [.subRings, .cplRings] ∧
    (∀ m : Fin 64, (s.sq m).resumeWaits = true → (s.sq m).cq = c → (s.sq m).state = .halted → (t.sq m).state = .running)) ∧
  (∀ e rest status result, (s.sq n).started = e :: rest → e.ready = some (status, result) → s.cqRoom (s.sq n).cq = true → s.hif.d3hot = false →
    ∃ t, exec (.completionPost n true) s = .next t ∧
      t.sq n = { s.sq n with started := rest, head := (s.sq n).head + 1, seqPosted := e.seq } ∧
      (t.cq (s.sq n).cq).tail = (s.cq (s.sq n).cq).tail + 1 ∧ s.Only t [.subRings, .cplRings, .hostMem, .irq] ∧
      (e.irq = true ∨ e.halted = true ∨ (s.cq (s.sq n).cq).modCount ≤ (s.cq (s.sq n).cq).unsig + 1 → (t.cq (s.sq n).cq).unsig = 0)) ∧
  ((s.cq c).modTime ≠ 0 → (s.cq c).unsig ≠ 0 → (s.cq c).firstUnsig + usTicks (s.cq c).modTime ≤ s.now →
    exec (.cqModTimerExpiry c) s = .next ((s.setCq c { s.cq c with unsig := 0 }).interrupt (s.cq c).vector)) ∧
  ((s.cq c).enable = false → ¬(4 ≤ bits v.toNat 7 4 ∧ bits v.toNat 7 4 ≤ 12) → exec (.cqEnable c v) s = .next (s.setCq c
    { s.cq c with sizeLog2 := bits v.toNat 7 4, vector := bits v.toNat 13 8 })) ∧
  (∀ e rest status result, (s.sq n).started = e :: rest → e.ready = some (status, result) → s.cqRoom (s.sq n).cq = true → s.hif.d3hot = false →
    ∃ t, exec (.completionPost n false) s = .next t ∧ (t.cq (s.sq n).cq).err = true ∧ t.hif.hostMem = s.hif.hostMem ∧
      (t.sq n).started = (s.sq n).started ∧ (t.cq (s.sq n).cq).tail = (s.cq (s.sq n).cq).tail ∧
      ∀ m : Fin 64, (s.sq m).cq = (s.sq n).cq → ((s.sq m).state = .running ∨ (s.sq m).state = .halted → (t.sq m).state = .halted) ∧
        ((s.sq m).state ≠ .disabled → (t.sq m).reason = .cqErr))

/-- Fetching and starting descriptors: a fetch, a fetch that fails, a malformed descriptor, OP_NOP and OP_FENCE (R51, R55, R56, R64, R65). -/
def Obligations.DescriptorsStart : Prop := ∀ (n : Fin 64) (d : List Byte) (s : State), s.Good →
  (s.mayFetch n = true →
    (∃ t, exec (.descriptorFetch n (some d)) s = .next t ∧ t = s.setSq n { s.sq n with prefetch := (s.sq n).prefetch ++ [dmaFit d 64] }) ∧
    (∃ t, exec (.descriptorFetch n none) s = .next t ∧
      ((s.sq n).prefetch = [] → s.Occurred t 286 ∧
        t.sq n = { s.sq n with state := .halted, reason := .fetchErr, prefetch := [], fetchFailed := false }) ∧
      ((s.sq n).prefetch ≠ [] → t = s.setSq n { s.sq n with fetchFailed := true }))) ∧
  (∀ rest, s.nextRing = some n.val → (s.sq n).prefetch = d :: rest → wellFormedDesc d (s.sq n).seqNext = false →
    ∃ t, exec (.malformedDescriptor n) s = .next t ∧ (t.sq n).state = .halted ∧ (t.sq n).reason = .malformed ∧ (t.sq n).prefetch = [] ∧
      (t.sq n).seqNext = (s.sq n).seqNext + 1 ∧ s.Only t [.subRings, .events, .engine] ∧
      ∃ e ∈ (t.sq n).started, e.stamp = s.hif.stamp ∧ e.seq = (s.sq n).seqNext ∧ e.halted = true ∧ e.ended = true ∧ e.ready = some (csMalformed, 0)) ∧
  (∀ j u, s.Starts n 0xF0 j u →
    ∃ t, exec (.opNop n) s = .next t ∧ t.Answered j csOk (BitVec.ofNat 64 (u64 j.d 8)) ∧ s.Only t [.subRings, .events, .engine]) ∧
  (∀ j u, s.Starts n 0xF1 j u → ∃ t, exec (.opFence n) s = .next t ∧ s.Only t [.subRings, .events, .engine] ∧
    (u.fenceMet (u.fenceOf j) = true → (∀ f ∈ u.hif.fences, u.fenceMet f = false) → t.Answered j csOk s.phcResult) ∧
    ((∀ f ∈ u.fenceOf j :: u.hif.fences, u.fenceMet f = false) → t.Waits j ∧ u.fenceOf j ∈ t.hif.fences))

/-- Event rings and the occurrences of events (R72 to R75, R388, R511 to R514). -/
def Obligations.EventRings : Prop := ∀ (k : Fin 4) (src : Fin 320) (code : BitVec 16) (d : List Byte) (v : BitVec 32) (sev : Fin 3) (ok : Bool) (s : State),
  (∃ t, exec (.eventOccurrence src code d) s = .next t ∧ s.Only t [.events] ∧
    (s.flag (Adr.evtSrc src) 2 = false →
      t = s.setEvSrc src { s.evSrc src with occurred := (s.evSrc src).occurred + 1, suppressed := (s.evSrc src).suppressed + 1 }) ∧
    (s.flag (Adr.evtSrc src) 2 = true → s.Occurred t src ∧ (t.evSrc src).suppressed = (s.evSrc src).suppressed ∧
      ((t.evSrc src).overflowed = (s.evSrc src).overflowed + 1 ∧ t.hif.staged = s.hif.staged ∨
        (t.evSrc src).overflowed = (s.evSrc src).overflowed ∧
        t.stagedOf (s.fget (Adr.evtSrc src) 1 0) = s.stagedOf (s.fget (Adr.evtSrc src) 1 0) ++
          [{ source := src, code := code.toNat, ns := s.phcNs, sec := s.phcSec, occ := (s.evSrc src).occurred + 1, detail := dmaFit d 12 }]))) ∧
  (∀ r rest, s.stagedOf k = r :: rest → s.hif.d3hot = false → (s.er k).enable = true →
    ((s.er k).tail - (s.er k).head).toNat < 2 ^ (s.er k).sizeLog2 → ∃ t, exec (.eventRecordWrite k ok) s = .next t ∧ t.stagedOf k = rest ∧
      (ok = true → (t.er k).tail = (s.er k).tail + 1 ∧ (t.evSrc r.source).delivered = (s.evSrc r.source).delivered + 1 ∧
        s.Only t [.events, .hostMem, .irq]) ∧
      (ok = false → (t.er k).enable = false ∧ (t.evSrc r.source).overflowed = (s.evSrc r.source).overflowed + 1 ∧ s.Only t [.events])) ∧
  ((s.er k).enable = false → ∃ t, exec (.eventRingEnable k v) s = .next t ∧
    t = s.setEr k (if 4 ≤ bits v.toNat 7 4 ∧ bits v.toNat 7 4 ≤ 14 then
        { s.er k with enable := true, sizeLog2 := bits v.toNat 7 4, vector := bits v.toNat 13 8, head := 0, tail := 0, unsig := 0 }
      else { s.er k with sizeLog2 := bits v.toNat 7 4, vector := bits v.toNat 13 8 })) ∧
  (s.fget (Adr.erMod k) 17 8 ≠ 0 → (s.er k).unsig ≠ 0 → (s.er k).firstUnsig + usTicks (s.fget (Adr.erMod k) 17 8) ≤ s.now →
    ∃ t, exec (.eventRingTimer k) s = .next t ∧ t = (s.setEr k { s.er k with unsig := 0 }).interrupt (s.er k).vector) ∧
  (∃ t, exec (.swRaise v) s = .next t ∧ s.Only t [.events] ∧ s.Occurred t (312 + bits v.toNat 2 0)) ∧
  (∃ t, exec (.pcieAerError sev v) s = .next t ∧ s.Only t [.events] ∧ s.Occurred t 275) ∧
  (∃ t, exec .d3hotEntry s = .next t ∧ s.Only t [.d3hot] ∧ t.hif.d3hot = true)

/-- Lanes and the loss of a source's signal (R82, R83, R88, R95, R102). -/
def Obligations.SignalAndLoss : Prop := ∀ (l : Fin 144) (n : Fin 128) (m : Fin 256) (b : Bool) (s : State),
  (s.rxOn l = true → s.flag (Adr.laneStat l) 0 = false → ∃ t, exec (.signalDetect l) s = .next t ∧ t.flag (Adr.laneStat l) 0 = true ∧
    (l.val < 128 → (t.src l).search = some (0, s.now) ∧ (t.src l).state = (s.src l).state)) ∧
  (s.flag (Adr.laneStat l) 0 = true → ∃ t, exec (.laneSignalLost l) s = .next t ∧ t.flag (Adr.laneStat l) 0 = false ∧
    (l.val < 128 → (t.src l).search = none ∧ (t.src l).state = (s.src l).state)) ∧
  (∀ i u, (s.src n).search = some (i, u) → u + msTicks 2 ≤ s.now →
    ∃ t, exec (.rateDwellExpiry n) s = .next t ∧ t = s.setSrc n { s.src n with search := some ((i + 1) % 9, s.now) }) ∧
  (∀ i u, (s.src n).search = some (i, u) → s.now ≤ u + msTicks 2 →
    ∃ t, exec (.cdrLock n) s = .next t ∧ t.flag (Adr.laneStat n) 1 = true ∧ t.fget (Adr.laneStat n) 6 3 = (s.src n).tryRate i % 16 ∧
      t.src n = { s.src n with search := none, state := if (s.src n).state = .idle then .search else (s.src n).state }) ∧
  (s.flag (Adr.laneStat n) 1 = true → (s.src (quadHead n)).assembled = false → ∃ t, exec (.cdrLoss n) s = .next t ∧
    t.flag (Adr.laneStat n) 1 = false ∧
    (t.src n).state = if (s.src n).state = .locked ∨ (s.src n).state = .lost then .lost else .idle) ∧
  ((s.src (quadHead n)).assembled = false → ∃ t, exec (.trsLoss n) s = .next t ∧
    ((s.src n).state = .locked → (t.src n).state = .lost ∧ t.flag (Adr.srcCause n) 1 = true) ∧
    ((s.src n).state = .search → (t.src n).state = .search ∧ (t.src n).cand = none ∧ (t.src n).sdiProg = none) ∧
    ((s.src n).state ≠ .locked → (s.src n).state ≠ .search → t = s.setSrc n { s.src n with lane := none }) ∧ (t.src n).lane = none) ∧
  ((s.src m).lastPub + 3 * periodTicks (modeRate (s.src m).fmt.mode) ≤ s.now → ∃ t, exec (.publishTimeout m) s = .next t ∧
    ((s.src m).state = .locked → (t.src m).state = .lost ∧ t.flag (Adr.srcCause m) 1 = true) ∧ ((s.src m).state ≠ .locked → t = s)) ∧
  (∀ f, s.videoFlow m = some f → max (s.src m).lastA (s.src m).lastB + 2 * periodTicks (modeRate f.p0) ≤ s.now →
    ∃ t, exec (.ipFlowTimeout m) s = .next t ∧
      ((s.src m).state = .locked → (t.src m).state = .lost ∧ t.flag (Adr.srcCause m) 1 = true) ∧ ((s.src m).state ≠ .locked → t = s)) ∧
  (∀ f, s.videoFlow m = some f →
    (if b then f.b.isSome = true ∧ (s.src m).lostB = false ∧ (s.src m).lastB + msTicks 100 ≤ s.now
      else (s.src m).lostA = false ∧ (s.src m).lastA + msTicks 100 ≤ s.now) →
    ∃ t, exec (.legLost m b) s = .next t ∧ t.flag (Adr.srcCause m) 8 = true ∧
      t.src m = if b then { s.src m with legB := false, lostB := true } else { s.src m with legA := false, lostA := true })

/-- Frames and packets received, and the freeing of rings (R84, R87, R92 to R94, R98 to R101, R105, R564). -/
def Obligations.FramesReceived : Prop := ∀ (n : Fin 128) (m : Fin 256) (s : State),
  (s.ingests n = true → (s.src (quadHead n)).assembled = false → (s.src n).state = .locked → (s.src n).sdiProg = none →
    ∀ r k, (s.src n).ring = some r → r.victim = some k → ∃ t, exec (.sdiFrame n .start) s = .next t ∧
      (t.src n).sdiProg = some (some k) ∧ t.led 1 n 0 = s.led 1 n 0 + 1 ∧
      t.led 1 n 2 = s.led 1 n 2 + (if (r.slot k).frame.isSome = true ∧ (r.slot k).taken = false then 1 else 0)) ∧
  (∀ e : SdiEnd, s.ingests n = true → (s.src (quadHead n)).assembled = false → (s.src (quadHead n)).quad = 2 → (s.src n).state = .locked →
    e.missing = 0 → e.timing.mapped = true → (s.src n).fmt.same ((s.src n).combine e.timing) = true →
    ∀ r k, (s.src n).ring = some r → (s.src n).sdiProg = some (some k) → k < r.slots.length → ∃ t, exec (.sdiFrame n (.finish e)) s = .next t ∧
      (t.src n).state = .locked ∧ (t.src n).sdiProg = none ∧ (t.src n).nextId = (s.src n).nextId + 1 ∧ (t.src n).lastPub = s.now ∧
      ∃ f r', (t.src n).ring = some r' ∧ (r'.slot k).frame = some f ∧ f.id = (s.src n).nextId ∧ f.mode = (s.src n).fmt.mode ∧
        f.arrSec = s.phcSec ∧ f.arrNs = s.phcNs ∧ f.patched = false) ∧
  (∀ (p : IpPacket) (f : Flow) (g : InProg), s.lv.tripped = false → s.linkUp p.port p.sub = true →
    (s.ing.flows.filter fun f => f.kind == 1) = [f] → f.a.accepts f.pt p = true → f.b = none → f.inRaster p = true →
    (s.src f.target).ipProg.find? (fun g => g.isOf f.p0 p.ts p.second) = some g → g.covers p = false → g.pixels + p.npix ≠ modePx f.p0 →
    (∀ h ∈ (s.src f.target).ipProg, h.newer = 0) → p.marker = false → ∃ t, exec (.ipVideoPacket p) s = .next t ∧
      t.src f.target = { s.src f.target with
        legA := true, lastA := s.now, lostA := false, ipProg := (s.src f.target).ipProg.map fun h =>
          if h.num = g.num then { h.note f.p0 p.ts p.second with got := h.got ++ [(p.line, p.off, p.npix)] } else h }) ∧
  (∀ (f : Flow) (g : InProg) (u k : Nat), s.videoFlow m = some f → (s.src m).ipProg = [g] → g.closeAt = some u → u ≤ s.now → g.slot = some k →
    g.pixels ≠ modePx f.p0 → (s.src m).damagePub = false → ∃ t, exec (.mergeWindowExpiry m) s = .next t ∧
      (t.src m).ipProg = [] ∧ t.led 1 m 3 = s.led 1 m 3 + 1 ∧ t.flag (Adr.srcCause m) 7 = true ∧ (t.src m).nextId = (s.src m).nextId) ∧
  (∀ (p : IpPacket) (a : Anc) (f : Flow) (r : Ring) (k : Nat) (fr : Frame), s.lv.tripped = false → s.linkUp p.port p.sub = true →
    (s.ing.flows.filter fun f => f.kind == 4) = [f] → f.a.accepts f.pt p = true → (s.src f.target).ring = some r →
    r.slotOf p.ts = some (k, fr) → fr.anc.contains a = false → ∃ t, exec (.ancillaryPacket p a) s = .next t ∧
      t = if (fr.anc.map (·.size)).sum + a.size ≤ 16384 then
          s.updRing f.target r.id fun r => r.updSlot k fun x => { x with frame := x.frame.map fun g => { g with anc := g.anc ++ [a] } }
        else s.count (Adr.srcErr f.target) 31 16 1) ∧
  (∀ o : OldRing, (s.ing.old.filter fun o => o.src == m.val && decide (o.ring.pinned = 0) && !(o.byFlow && s.instarNames m)) = [o] →
    ∃ t, exec (.sourceRingFree m) s = .next t ∧ t.ing.old = s.ing.old.filter (fun p => p.ring.id ≠ o.ring.id))

/-- Surfaces: allocation, upload, the end of an upload, and the free (R159 to R163). -/
def Obligations.Surfaces : Prop := ∀ (n : Fin 64) (h : BitVec 32) (rows : List (List Byte)) (s : State), s.Good →
  (∀ j u, s.Starts n 0x20 j u → allocBad j.d = false → s.srf.list.length < 16384 → ceilDiv (allocPitch j.d * u16 j.d 18) 4096 ≤ u.hbmFree →
    ∃ t, exec (.opSurfAlloc n) s = .next t ∧ t.led 3 0 0 = s.led 3 0 0 + 1 ∧ ∃ f, t.srf.list = s.srf.list ++ [f] ∧
      f.handle.toNat % 65536 = s.surfIndex ∧ f.owner = j.owner ∧ f.format = u8 j.d 8 ∧ f.width = u16 j.d 16 ∧ f.height = u16 j.d 18 ∧
      f.pitch = allocPitch j.d ∧ f.refs = 0 ∧ f.state = (if ubit j.d 9 0 then .ready else .empty) ∧
      t.Answered j csOk (BitVec.ofNat 64 (f.handle.toNat + 4294967296 * ceilDiv (f.pitch * f.height) 4096))) ∧
  (∀ j u f, s.Starts n 0x21 j u → BitVec.ofNat 32 (u32 j.d 8) = h → s.surf h = some f → f.state ≠ .freeing → j.mayUse f.owner = true → f.refs = 0 →
    f.state ≠ .uploading → f.regionBad j.d = false → u16 j.d 32 ≠ 0 → u16 j.d 34 ≠ 0 → u8 j.d 12 ≠ 0 → u8 j.d 12 ≤ 24 → u.leaveFits 2 (u8 j.d 12) = true →
    ∃ t, exec (.opSurfUpload n) s = .next t ∧ t.Waits j ∧ t.lv.powFree = s.lv.powFree - 2 ∧ t.lv.fetFree = s.lv.fetFree - u8 j.d 12 ∧
      t.surf h = some { f with state := .uploading, owner := j.owner, upload := some ⟨j.ring, j.stamp, u8 j.d 12, 2, u16 j.d 28, u16 j.d 30, u16 j.d 32, u16 j.d 34⟩ }) ∧
  (∀ f u, s.surf h = some f → f.upload = some u → f.owner ≠ moduleTag → ∃ t, exec (.surfUploadEnd h rows) s = .next t ∧
    (f.state ≠ .freeing → t.surf h = some { f with upload := none, state := if u.whole f.format rows then .ready else .failed }) ∧
    (f.state = .freeing → f.refs = 0 → t.surf h = none ∧ t.led 3 0 1 = s.led 3 0 1 + 1) ∧
    (∀ j : Job, s.Has j → j.ring = u.ring → j.stamp = u.stamp → f.state ≠ .freeing → t.Answered j (if u.whole f.format rows then csOk else csDmaErr) 0)) ∧
  (∀ j u f, s.Starts n 0x22 j u → BitVec.ofNat 32 (u32 j.d 8) = h → s.surf h = some f → f.state ≠ .freeing → j.mayUse f.owner = true →
    ∃ t, exec (.opSurfFree n) s = .next t ∧
      (f.refs = 0 ∧ f.upload = none → t.surf h = none ∧ t.led 3 0 1 = s.led 3 0 1 + 1) ∧
      (f.refs ≠ 0 ∨ f.upload ≠ none → t.surf h = some { f with state := .freeing, owner := j.owner, free := some (j.ring, j.stamp) } ∧ t.Ended j))

/-- Flows, source settings, ledgers and the membership of groups (R89 to R93, R104 to R107, R110). -/
def Obligations.FlowsAndLedgers : Prop := ∀ (n : Fin 64) (port : Fin 2) (sub : Fin 8) (tagged : Bool) (vid : BitVec 12) (ver : Fin 4) (grp : BitVec 32)
    (ips : List (BitVec 32)) (ok : Bool) (s : State), s.Good →
  (∀ j u, s.Starts n 0x30 j u → u.srcSetCheck j = none → ∃ t, exec (.opSrcSet n) s = .next t ∧
    t.Answered j csOk (BitVec.ofNat 64 (match (t.src (u16 j.d 8)).ring with | some r => ceilDiv r.bytes 4096 | none => 0)) ∧
    (t.src (u16 j.d 8)).owner = j.owner ∧
    (t.src (u16 j.d 8)).holdMs = (if ubit j.d 10 0 then u16 j.d 12 else (s.src (u16 j.d 8)).holdMs) ∧
    (t.src (u16 j.d 8)).fallback = (if ubit j.d 10 1 then u8 j.d 14 else (s.src (u16 j.d 8)).fallback) ∧
    (t.src (u16 j.d 8)).quad = (if ubit j.d 10 3 then u8 j.d 22 else (s.src (u16 j.d 8)).quad) ∧
    (t.src (u16 j.d 8)).rateLock = (if ubit j.d 10 7 then u8 j.d 24 else (s.src (u16 j.d 8)).rateLock)) ∧
  (∀ j u base, s.Starts n 0x31 j u → u.flowCheck j = none →
    u.leaveFits 0 (if u8 j.d 8 = 1 then streamTokens 9 (u8 j.d 40) else 0) = true → s.flowRun (u8 j.d 8) (u8 j.d 40) = some base →
    ∃ t f l, exec (.opFlowAdd n) s = .next t ∧ t.ing.flows = l ++ [f] ∧ (u8 j.d 8 ≠ 5 → u8 j.d 8 ≠ 8 → l = s.ing.flows) ∧
      (l = s.ing.flows ∨ l = s.ing.flows.map fun g => if g.kind = 5 ∧ g.target = f.target then { g with owner := j.owner } else g) ∧ f.handle = s.newHandle ∧ f.kind = u8 j.d 8 ∧
      f.target = u16 j.d 10 ∧ f.owner = j.owner ∧ f.a = legA j.d ∧ f.b = (if ubit j.d 9 0 then some (legB j.d) else none) ∧ f.base = base ∧
      t.Answered j csOk (BitVec.ofNat 64 (f.handle.toNat + 4294967296 * (if f.kind = 1 then ringUnits f.p0 else 0)))) ∧
  (∀ j u f, s.Starts n 0x32 j u → (s.ing.flows.find? fun f => f.handle.toNat == u32 j.d 8) = some f → j.mayUse f.owner = true →
    ∃ t, exec (.opFlowDel n) s = .next t ∧ t.ing.flows = (s.ing.flows.filter fun g => g.handle ≠ f.handle) ∧ t.Answered j csOk 0) ∧
  (∀ j u, s.Starts n 0xA0 j u → u16 j.d 10 < ledgerCount (u8 j.d 8) → u64 j.d 16 % 64 = 0 → (if u8 j.d 8 = 2 then 576 else 64) ≤ u32 j.d 24 →
    ∃ t, exec (.opLedgerRead n ok) s = .next t ∧ (ok = false → t.Answered j csDmaErr 0 ∧ t.hif.hostMem = s.hif.hostMem) ∧
      (ok = true → t.Answered j csOk s.phcResult ∧
        t.hif.hostMem = (s.hostWrite (u64 j.d 16) ((u.ledgerOf (u8 j.d 8) (u16 j.d 10)).flatMap (leBytes 8))).hif.hostMem)) ∧
  (∃ t, exec (.igmpQuery port sub tagged vid ver grp ips) s = .next t ∧ s.Only t [.igmp] ∧
    (ver.val = 1 ∨ ver.val = 2 → ∃ o ∈ t.ing.older, o.net = { port := port, sub := sub, tagged := tagged, vid := if tagged then vid.toNat else 0 } ∧
      o.version = ver.val ∧ o.until_ = s.now + msTicks 260000) ∧
    (ver.val ≠ 1 ∧ ver.val ≠ 2 → ips = [] → ∀ k ∈ groupsOf s.ing.flows,
      k.1 = { port := port, sub := sub, tagged := tagged, vid := if tagged then vid.toNat else 0 } → grp = 0 ∨ k.2 = grp →
      s.report k.1 k.2 (membership s.ing.flows k.1 k.2) ∈ t.ing.igmpLast)) ∧
  (∀ r ∈ s.ing.repeats, r.1 ≤ s.now → ∃ t, exec .igmpReportRepeat s = .next t ∧ r.2 ∈ t.ing.igmpLast ∧
    t.ing.repeats = s.ing.repeats.filter fun r => !decide (r.1 ≤ s.now))

/-- The expert path on a head, its stop and its leave (R79, R154, R157, R404, R405). -/
def Obligations.HeadSetUp : Prop := ∀ (n : Fin 64) (s : State), s.Good →
  (∀ j u, s.Starts n 0x10 j u → headSetBad j.d = false → j.mayUse (s.head (u16 j.d 8)).owner = true →
    ∃ t, exec (.opHeadSet n) s = .next t ∧ t.Answered j csOk 0 ∧ t.head (u16 j.d 8) = { s.head (u16 j.d 8) with
      owner := j.owner, managed := .software, trans := none, leaving := false,
      shadow := (if (s.head (u16 j.d 8)).managed = .module then s.lastOf (u16 j.d 8) else (s.head (u16 j.d 8)).shadow).headSet j.d }) ∧
  (∀ j u, s.Starts n 0x11 j u → layerSetBad j.d = false → j.mayUse (s.head (u16 j.d 8)).owner = true →
    ((s.claimHead (u16 j.d 8) j.owner).head (u16 j.d 8)).shadow.dike = false ∨ u8 j.d 10 ≠ 7 →
    ∃ t, exec (.opLayerSet n) s = .next t ∧ t.Answered j csOk 0 ∧ (t.head (u16 j.d 8)).owner = j.owner ∧ (t.head (u16 j.d 8)).managed = .software ∧
      (t.head (u16 j.d 8)).shadow.layers = (((s.claimHead (u16 j.d 8) j.owner).head (u16 j.d 8)).shadow.layers.set (u8 j.d 10) (layerOf j.d)) ∧
      (t.head (u16 j.d 8)).applied = (s.head (u16 j.d 8)).applied) ∧
  (∀ j u, s.Starts n 0x13 j u → u16 j.d 8 ≤ 255 → (s.head (u16 j.d 8)).managed ≠ .free → j.mayUse (s.head (u16 j.d 8)).owner = true →
    (s.head (u16 j.d 8)).stopping = false → (s.head (u16 j.d 8)).last.dike = false ∨ (j.priv = true ∧ (s.dike (u16 j.d 8)).frozen = false) → ∃ t, exec (.opHeadStop n) s = .next t ∧
      ((s.head (u16 j.d 8)).run = .stopped ∧ (s.head (u16 j.d 8)).queue = [] →
        t.Answered j csOk (BitVec.ofNat 64 (s.head (u16 j.d 8)).instar.toNat) ∧ (t.head (u16 j.d 8)).managed = .free ∧ (t.head (u16 j.d 8)).owner = 0 ∧
        (t.head (u16 j.d 8)).fetchGrant = 0 ∧ (t.head (u16 j.d 8)).powerGrant = 0) ∧
      (¬((s.head (u16 j.d 8)).run = .stopped ∧ (s.head (u16 j.d 8)).queue = []) → t.Ended j ∧
        ∃ c, (t.head (u16 j.d 8)).queue = (s.head (u16 j.d 8)).queue ++ [c] ∧ c.kind = .stop ∧ c.ring = j.ring ∧ c.stamp = j.stamp ∧ c.seq = j.seq)) ∧
  (∀ j u, s.Starts n 0x60 j u → leaveBad j.d = false → j.mayUse (s.head (u16 j.d 8)).owner = true → (s.head (u16 j.d 8)).managed ≠ .module →
    u.leaveFits (u16 j.d 12) (u16 j.d 14) = true → ∃ t, exec (.opLeaveReq n) s = .next t ∧
      t.Answered j csOk (leaveResult ((s.head (u16 j.d 8)).powerGrant + u16 j.d 12) ((s.head (u16 j.d 8)).fetchGrant + u16 j.d 14)
        (s.lv.powFree - u16 j.d 12) (s.lv.fetFree - u16 j.d 14)) ∧
      (ubit j.d 10 0 = false → t.lv.powFree = s.lv.powFree - u16 j.d 12 ∧ t.lv.fetFree = s.lv.fetFree - u16 j.d 14 ∧
        (t.head (u16 j.d 8)).powerGrant = (s.head (u16 j.d 8)).powerGrant + u16 j.d 12 ∧
        (t.head (u16 j.d 8)).fetchGrant = (s.head (u16 j.d 8)).fetchGrant + u16 j.d 14) ∧
      (ubit j.d 10 0 = true → t.lv.powFree = s.lv.powFree ∧ t.lv.fetFree = s.lv.fetFree ∧ t.hds.heads = s.hds.heads)) ∧
  (∀ j u, s.Starts n 0x61 j u → leaveBad j.d = false → ubit j.d 10 0 = false → (s.head (u16 j.d 8)).managed = .software →
    j.mayUse (s.head (u16 j.d 8)).owner = true → u16 j.d 14 + u.needMost (s.head (u16 j.d 8)) ≤ (s.head (u16 j.d 8)).fetchGrant →
    u16 j.d 12 + (if (s.head (u16 j.d 8)).active then 6 else 0) ≤ (s.head (u16 j.d 8)).powerGrant → ∃ t, exec (.opLeaveRet n) s = .next t ∧
      t.Answered j csOk (leaveResult ((s.head (u16 j.d 8)).powerGrant - u16 j.d 12) ((s.head (u16 j.d 8)).fetchGrant - u16 j.d 14) t.lv.powFree t.lv.fetFree) ∧
      t.head (u16 j.d 8) = { s.head (u16 j.d 8) with
        powerGrant := (s.head (u16 j.d 8)).powerGrant - u16 j.d 12, fetchGrant := (s.head (u16 j.d 8)).fetchGrant - u16 j.d 14, owner := j.owner })

/-- Takes, commits and salvos (R117, R120, R129, R139 to R143, R173). -/
def Obligations.TakesCommitsSalvos : Prop := ∀ (n : Fin 64) (ow sv : BitVec 16) (s : State), s.Good →
  (∀ j u p tg land late, s.Starts n 0x01 j u → takeBad j.d = false → u16 j.d 18 = 0 → targetOf (u8 j.d 16) (u64 j.d 24) (u32 j.d 32) = some tg →
    u.takeTargetBad j.d tg = false → u.planTake j = .inr p → u.landing (u.head p.head) p.cfg.mode p.cfg.polder tg = some (land, late) → ∃ t, exec (.opTake n) s = .next t ∧ t.Ended j ∧
      (t.head p.head).owner = j.owner ∧ t.lv.powFree = s.lv.powFree - p.allPower ∧ t.lv.fetFree = s.lv.fetFree - p.allFetch ∧
      ∃ c, (t.head p.head).queue = (s.head p.head).queue ++ [c] ∧ c.kind = .take ∧ c.ring = j.ring ∧ c.stamp = j.stamp ∧ c.cfg = p.cfg ∧
        c.target = tg ∧ c.land = land ∧ c.late = late ∧ c.trans = p.trans ∧ c.dur = p.dur) ∧
  (∀ j u h tg land late cfg, s.Starts n 0x12 j u → u16 j.d 8 = h → h ≤ 255 → u16 j.d 12 = 0 → targetOf (u8 j.d 10) (u64 j.d 16) (u32 j.d 24) = some tg →
    (u.claimHead h j.owner).landing (u.head h) (if (s.head h).active then (s.head h).last.mode else ((u.claimHead h j.owner).snapshot h).mode)
      (if (s.head h).active then (s.head h).last.polder else ((u.claimHead h j.owner).snapshot h).polder) tg = some (land, late) →
    j.mayUse (s.head h).owner = true → (s.head h).commits < 16 →
    (u.claimHead h j.owner).checkCfg j.mayUse j.priv h ((u.claimHead h j.owner).snapshot h) = .inr cfg → (s.head h).stopping = false →
    u.fetchNeed cfg false ≤ (s.head h).fetchGrant → ((s.head h).run = .stopped → 6 ≤ (s.head h).powerGrant) →
    u.strippedShort (u.stripped h cfg.dests false) = false → u.leaveFits 0 (lendSum (u.lent (u.stripped h cfg.dests false))) = true →
    ∃ t, exec (.opCommit n) s = .next t ∧ t.Ended j ∧ ∃ c, (t.head h).queue = (s.head h).queue ++ [c] ∧ c.kind = .commit ∧ c.ring = j.ring ∧
      c.stamp = j.stamp ∧ c.cfg = cfg ∧ c.target = tg ∧ c.land = land ∧ c.late = late) ∧
  (∀ j u, s.Starts n 0x02 j u → u16 j.d 8 ≠ 0 → s.salvoArmed j.owner (u16 j.d 8) = false → s.membersOf j.owner (u16 j.d 8) ≠ [] →
    u8 j.d 10 ≤ 1 → u8 j.d 11 ≠ 1 → u8 j.d 11 ≠ 3 → (s.membersOf j.owner (u16 j.d 8)).length = u16 j.d 12 →
    ((s.membersOf j.owner (u16 j.d 8)).any fun m => m.kind == 1 || m.kind == 2) = false → u.sameHead (s.membersOf j.owner (u16 j.d 8)) = false →
    ∀ tg v rs, targetOf (u8 j.d 11) (u64 j.d 16) (u32 j.d 24) = some tg →
    u.armAll (s.membersOf j.owner (u16 j.d 8)) (u16 j.d 8, decide (u8 j.d 10 = 1)) tg = (v, rs) → (∀ r ∈ rs, r.2 = none) →
    v.twoOnOne j.owner (u16 j.d 8, decide (u8 j.d 10 = 1)) = false →
    (u8 j.d 10 = 0 ∨ v.lockstepBlocked j.owner (u16 j.d 8, decide (u8 j.d 10 = 1)) = false) →
    ∃ t, exec (.opSalvoArm n) s = .next t ∧ t.Answered j csOk 0 ∧
      t.hds.armed = s.hds.armed ++ [⟨j.owner, u16 j.d 8, decide (u8 j.d 10 = 1), false⟩] ∧ t.membersOf j.owner (u16 j.d 8) = []) ∧
  (∀ j u, s.Starts n 0x03 j u → u8 j.d 8 = 0 → u16 j.d 10 ≠ 0 →
    (∃ m ∈ s.hds.staged, m.salvo = u16 j.d 10 ∧ m.owner = j.owner) ∨ (∃ p ∈ s.queued, ∃ l, p.2.salvo = some (u16 j.d 10, l) ∧ p.2.owner = j.owner) →
    (∀ p ∈ s.queued, p.2.salvo = some (u16 j.d 10, true) → p.2.locked = false) →
    (∀ a ∈ s.hds.armed, a.salvo = u16 j.d 10 → a.go = false) → ∃ t, exec (.salvoCancel n) s = .next t ∧ (∃ r, t.Answered j csOk r) ∧
      ∀ m ∈ t.hds.staged, m.salvo = u16 j.d 10 → m.owner ≠ j.owner) ∧
  (∀ j u h c, s.Starts n 0x03 j u → u8 j.d 8 = 1 → u8 j.d 9 ≤ 63 → j.mayUse c.owner = true → c.locked = false → c.kind ≠ .restore →
    (s.queued.find? fun p => p.2.ring == u8 j.d 9 && decide (p.2.seq.toNat = u32 j.d 12) && p.2.kind != .stop) = some (h, c) →
    ∃ t, exec (.commitCancel n) s = .next t ∧ t.Answered j csOk 1 ∧ (t.head h).queue = (s.head h).queue.filter fun d => d.stamp ≠ c.stamp) ∧
  (∀ m ms, s.membersOf ow.toNat sv.toNat = m :: ms → m.since + msTicks 10000 ≤ s.now → ∃ t, exec (.salvoArmTimeout ow sv) s = .next t ∧
    t.membersOf ow.toNat sv.toNat = [] ∧ ∀ k ∈ m :: ms, s.Has k.job → t.Answered k.job csCancelled 0)

/-- The scaler pool, colour loads (R185 to R188, R199 to R203). -/
def Obligations.ScalersColour : Prop := ∀ (n : Fin 64) (data : Option (List Byte)) (s : State), s.Good →
  (∀ j u k, s.Starts n 0x40 j u → u8 j.d 8 = 0 → sclFieldsOk j.d = true →
    (if ubit j.d 9 1 then s.lowestScl (ubit j.d 9 0) = some k
     else k = u16 j.d 10 ∧ k < 128 ∧ (ubit j.d 9 0 = true → k % 2 = 0) ∧ s.sclFree k (ubit j.d 9 0) = true) → (s.scl k).setsOk j.d = true →
    u.leaveFits (if ubit j.d 9 0 then 8 else 4) 0 = true → ∃ t, exec (.scalerClaim n) s = .next t ∧
      t.Answered j csOk (sclResult k (if ubit j.d 9 0 then 8 else 4)) ∧ t.lv.powFree = s.lv.powFree - (if ubit j.d 9 0 then 8 else 4) ∧
      (t.scl k).state = (if ubit j.d 9 0 then .gangLead else .single) ∧ (t.scl k).owner = j.owner ∧ (t.scl k).tapsH = u8 j.d 12 ∧
      (t.scl k).tapsV = u8 j.d 13 ∧ (ubit j.d 9 0 = true → (t.scl (k + 1)).state = .gangMember)) ∧
  (∀ j u k, s.Starts n 0x40 j u → u8 j.d 8 = 1 → u16 j.d 10 = k → k < 128 → zeros j.d 9 9 = true → zeros j.d 12 15 = true →
    (s.scl k).state ≠ .gangMember → (s.scl k).state ≠ .free → j.mayUse (s.scl k).owner = true → s.sclNamed k = false →
    ∃ t, exec (.scalerRelease n) s = .next t ∧ t.Answered j csOk (sclResult k (s.scl k).power) ∧ (t.scl k).state = .free ∧ (t.scl k).owner = 0 ∧
      ((s.scl k).state = .gangLead → (t.scl (k + 1)).state = .free)) ∧
  (∀ j u k, s.Starts n 0x40 j u → u8 j.d 8 = 2 → u16 j.d 10 = k → k < 128 → zeros j.d 9 9 = true → sclFieldsOk j.d = true → (s.scl k).setsOk j.d = true →
    (s.scl k).state ≠ .gangMember → (s.scl k).state ≠ .free → j.mayUse (s.scl k).owner = true →
    ∃ t, exec (.scalerConfigure n) s = .next t ∧ t.Answered j csOk (sclResult k (s.scl k).power) ∧ t.scl k = { s.scl k with
      owner := j.owner, tapsH := u8 j.d 12, tapsV := u8 j.d 13, setH := u8 j.d 14, setV := u8 j.d 15 }) ∧
  (∀ j u, s.Starts n 0x48 j u → colourBad j.d = false → j.mayUse (s.colourOwner j.d) = true → data.isSome = true ∨ (colLens j.d).sum = 0 →
    colourDataBad j.d (dmaFit (data.getD []) (colLens j.d).sum) = false → s.scc.loads = [] →
    (u8 j.d 8 < 2 → ((s.colBase (u8 j.d 8) (u16 j.d 10)).load j.d (dmaFit (data.getD []) (colLens j.d).sum)).lacks = false) →
    ∃ t, exec (.opColourLoad n data) s = .next t ∧
      (u8 j.d 8 = 3 ∧ (s.dest (u16 j.d 10)).head = none →
        t.Answered j csOk 0 ∧ t.dith (u16 j.d 10) = { mode := u8 j.d 33, seed := BitVec.ofNat 32 (u32 j.d 36) }) ∧
      (u8 j.d 8 < 2 ∨ (u8 j.d 8 = 3 ∧ (s.dest (u16 j.d 10)).head ≠ none) → t.Waits j ∧ ∃ l, t.scc.loads = [l] ∧ l.ring = j.ring ∧ l.stamp = j.stamp ∧
        l.kind = u8 j.d 8 ∧ l.index = u16 j.d 10 ∧
        l.unit = (s.colBase (u8 j.d 8) (u16 j.d 10)).load j.d (dmaFit (data.getD []) (colLens j.d).sum)) ∧
      (u8 j.d 8 = 2 → (t.Waits j ∧ t.scc.loads ≠ []) ∨ (t.Answered j csOk 0 ∧ ∃ c, (t.scl (u16 j.d 10)).set (u8 j.d 12) = some c ∧
        c.tapsH = u8 j.d 14 ∧ c.tapsV = u8 j.d 15 ∧ c.coef = dmaFit (data.getD []) 2048)))

/-- Rate converters and push channels (R219, R232 to R237, R272 to R278). -/
def Obligations.ConvertersPushes : Prop := ∀ (n : Fin 64) (m : Fin 128) (c : Fin 8) (sight : BuildSight) (tiles : List (BitVec 64 × List Byte)) (ok : Bool)
    (v : BitVec 32) (s : State), s.Good →
  (∀ j u k, s.Starts n 0x41 j u → u8 j.d 8 = 0 → u.cnvClaimBad j.d = false → s.polderReady (u8 j.d 14) = true →
    (384 ≤ u16 j.d 12 → (s.head (u16 j.d 12 - 384)).run ≠ .stopped) →
    (if ubit j.d 9 1 then s.lowestCnv (ubit j.d 9 0) = some k else k = u16 j.d 10 ∧ s.cnvFree k (ubit j.d 9 0) = true) →
    j.mayUse (s.sourceOwner (u16 j.d 12)) = true → ∀ pw fe, convTokens (u8 j.d 15) (u.inputNominal (u16 j.d 12)) (ubit j.d 9 0) (s.polderRate (u8 j.d 14)) = (pw, fe) →
    u.leaveFits pw fe = true → ∃ t, exec (.convClaim n) s = .next t ∧ t.Answered j csOk (cnvResult k pw fe) ∧
      t.lv.powFree = s.lv.powFree - pw ∧ t.lv.fetFree = s.lv.fetFree - fe ∧ (t.cnv k).state = (if ubit j.d 9 0 then .groupLead else .single) ∧
      (t.cnv k).owner = j.owner ∧ (t.cnv k).input = u16 j.d 12 ∧ (t.cnv k).mode = u8 j.d 15 ∧ (t.cnv k).polder = u8 j.d 14) ∧
  (∀ j u k, s.Starts n 0x41 j u → u8 j.d 8 = 1 → u16 j.d 10 = k → k ≤ 127 → flagsUnused j.d = false → zeros j.d 12 18 = true → (s.cnv k).state ≠ .free →
    (s.cnv k).state ≠ .groupMember → j.mayUse (s.cnv k).owner = true → u.cnvNamed k = false →
    ∃ t, exec (.convRelease n) s = .next t ∧ t.Answered j csOk (cnvResult k 0 0) ∧ (t.cnv k).state = .free) ∧
  (∀ j u k, s.Starts n 0x41 j u → u8 j.d 8 = 2 → u16 j.d 10 = k → k ≤ 127 → flagsUnused j.d = false → zeros j.d 12 14 = true → u8 j.d 16 = 0 →
    1 ≤ u8 j.d 15 → u8 j.d 15 ≤ 3 → (u8 j.d 15 = 3 ∨ (u8 j.d 17 = 0 ∧ u8 j.d 18 = 0)) →
    (u8 j.d 15 = 1 ∨ u.inputNominal (s.cnv k).input = 0 ∨ ratePairOk (modeRate (u.inputNominal (s.cnv k).input)) (s.polderRate (s.cnv k).polder) = true) →
    (s.cnv k).state ≠ .free → (s.cnv k).state ≠ .groupMember → j.mayUse (s.cnv k).owner = true → (s.cnv k).pend = none →
    ∀ pw fe, convTokens (u8 j.d 15) (s.cnv k).claimMode (decide ((s.cnv k).state = .groupLead)) (s.polderRate (s.cnv k).polder) = (pw, fe) →
    u.leaveFits (pw - (s.cnv k).power) (fe - (s.cnv k).fetch) = true → ∃ t, exec (.convMode n) s = .next t ∧
      t.Answered j csOk (cnvResult k (max (s.cnv k).power pw) (max (s.cnv k).fetch fe)) ∧
      (t.cnv k).pend = some { mode := u8 j.d 15, cadence := u8 j.d 17, confMin := u8 j.d 18, power := pw, fetch := fe, at_ := s.now } ∧
      (t.cnv k).mode = (s.cnv k).mode ∧ (t.cnv k).power = max (s.cnv k).power pw ∧ (t.cnv k).fetch = max (s.cnv k).fetch fe) ∧
  ((s.cnv m).state = .single ∨ (s.cnv m).state = .groupLead → (s.polder (s.cnv m).polder).running = true →
    (s.cnv m).builtFor ≠ some (s.polder (s.cnv m).polder).count → ∃ t, exec (.buildStart m sight) s = .next t ∧
      (t.cnv m).builtFor = some (s.polder (s.cnv m).polder).count ∧
      ((s.cnv m).build ≠ none → (t.cnv m).nextId = (s.cnv m).nextId + 1 ∧ (t.cnv m).srcState = .locked) ∧
      ((s.cnv m).build = none → (t.cnv m).nextId = (s.cnv m).nextId ∧ (t.cnv m).srcState = if (s.cnv m).srcState = .locked then .lost else (s.cnv m).srcState)) ∧
  (∀ j u, s.Starts n 0x90 j u → u8 j.d 9 = 0 → u.pushSetBad j.d = false → ((s.push (u8 j.d 8)).enabled = true → j.mayUse (s.push (u8 j.d 8)).owner = true) →
    u.leaveFits (6 - (s.push (u8 j.d 8)).power) (u.pushFetch (pushCfgOf j.d) - (s.push (u8 j.d 8)).fetch) = true →
    ∃ t, exec (.pushSet n) s = .next t ∧ t.Answered j csOk (BitVec.ofNat 64 (u.pushFetch (pushCfgOf j.d) + 65536 * 6)) ∧
      (t.push (u8 j.d 8)).enabled = true ∧ (t.push (u8 j.d 8)).cfg = pushCfgOf j.d ∧ (t.push (u8 j.d 8)).owner = j.owner ∧
      (t.push (u8 j.d 8)).full = true) ∧
  (∀ j u, s.Starts n 0x90 j u → u8 j.d 9 = 1 → u8 j.d 8 ≤ 7 → zeros j.d 10 35 = true → (s.push (u8 j.d 8)).enabled = true →
    j.mayUse (s.push (u8 j.d 8)).owner = true → ∃ t, exec (.pushDisable n) s = .next t ∧ t.Answered j csOk 0 ∧ t.push (u8 j.d 8) = Push.reset) ∧
  (∀ j u, s.Starts n 0x90 j u → u8 j.d 9 = 2 → u8 j.d 8 ≤ 7 → zeros j.d 10 35 = true → (s.push (u8 j.d 8)).enabled = true →
    j.mayUse (s.push (u8 j.d 8)).owner = true → ∃ t, exec (.pushRefresh n) s = .next t ∧ t.Answered j csOk 0 ∧
      t.push (u8 j.d 8) = { s.push (u8 j.d 8) with full := true, owner := j.owner }) ∧
  (∀ r, (s.push c).run = some r → ∃ t, exec (.pushReadEnd c tiles ok) s = .next t ∧ (t.push c).run = none ∧
    (ok = true → t.led 5 c 1 = s.led 5 c 1 + 1 ∧ (t.push c).pushed = if r.refresh then 1 else (s.push c).pushed + 1) ∧
    (ok = false → t.led 5 c 3 = s.led 5 c 3 + 1 ∧ t.flag (Adr.puCause c) 1 = true)) ∧
  (∃ t, exec (.pushHeadWrite c v) s = .next t ∧ t.push c = { s.push c with headIdx := v } ∧ s.Only t [.pushes] ∧ ∀ k, k ≠ c.val → t.push k = s.push k)

/-- A route's descriptor has ended where its switch position is fixed; at a commit it waits for the flip that fixes it (R330, R562). -/
def Sys2Proof.Machine.State.RouteEnds (t : State) (j : Job) (w : AudSwitch) : Prop :=
  match w.due with | .commit _ _ => t.Waits j | _ => t.Ended j

/-- The audio matrix (R313, R317, R323 to R325, R328 to R332). -/
def Obligations.AudioMatrix : Prop := ∀ (n : Fin 64) (k : Fin 1024) (gr : Fin 1152) (ppm : Int) (steady : Bool) (arr : List SdiAudio) (p : AudioPacket)
    (s : State), s.Good →
  (∀ j u, s.Starts n 0x50 j u → u8 j.d 8 = 0 → u.routeCheck j = none → ∃ t w, exec (.audioRoute n) s = .next t ∧ t.RouteEnds j w ∧
    t.aud.switches = s.aud.switches ++ [w] ∧ w.ring = j.ring ∧ w.stamp = j.stamp ∧ w.owner = j.owner ∧ w.first = u16 j.d 12 ∧ w.count = u8 j.d 10 ∧
    w.act = (if ubit j.d 9 0 then .follow (u16 j.d 14) (u16 j.d 18) (u8 j.d 20)
      else .route (if u16 j.d 14 = 0xFFFF then none else some (u16 j.d 14)) (if u16 j.d 22 = 0xFFFF then none else some (u16 j.d 22))) ∧
    some w.due = s.routeWhen j.d) ∧
  (∀ j u, s.Starts n 0x50 j u → u8 j.d 8 = 1 → u.routeCheck j = none → ∃ t w, exec (.audioSet n) s = .next t ∧ t.RouteEnds j w ∧
    t.aud.switches = s.aud.switches ++ [w] ∧ w.ring = j.ring ∧ w.stamp = j.stamp ∧ w.first = u16 j.d 12 ∧ w.count = u8 j.d 10 ∧ w.act = .set ∧
    w.gain = s16 j.d 16 ∧ w.mute = ubit j.d 9 1 ∧ w.invert = ubit j.d 9 2 ∧ w.ramp = u8 j.d 11 ∧ some w.due = s.routeWhen j.d) ∧
  (∀ j u, s.Starts n 0x50 j u → u8 j.d 8 = 2 → u.routeCheck j = none → ∃ t w, exec (.audioUnroute n) s = .next t ∧ t.RouteEnds j w ∧
    t.aud.switches = s.aud.switches ++ [w] ∧ w.ring = j.ring ∧ w.stamp = j.stamp ∧ w.first = u16 j.d 12 ∧ w.count = u8 j.d 10 ∧ w.act = .unroute ∧
    some w.due = s.routeWhen j.d) ∧
  (∀ j u, s.Starts n 0x50 j u → u8 j.d 8 = 3 → u.routeBad j.d = false → j.mayUse (s.sourceOwner (u16 j.d 12)) = true →
    ∃ t, exec (.audioCompanion n) s = .next t ∧ t.Answered j csOk 0 ∧
      Tab.get (fun _ => none) t.aud.comps (u16 j.d 12) = if u16 j.d 14 = 0xFFFF then none else some (u16 j.d 14, u8 j.d 10)) ∧
  (s.fget Adr.pwrStat 2 0 ≠ 3 → ∃ t, exec (.audioSamplePosition arr) s = .next t ∧ t.aud.n = s.aud.n + 1) ∧
  (∀ f base count, (s.ing.flows.filter fun f => (f.kind == 2 || f.kind == 3) && s.linkUp p.hdr.port p.hdr.sub &&
      (f.a.accepts f.pt p.hdr || (match f.b with | some l => l.accepts f.pt p.hdr | none => false))) = [f] →
    (s.aud.rxRuns.find? fun r => r.1 == f.target) = some (f.target, base, count) → ∃ t, exec (.audioPacket p) s = .next t ∧
      p.hdr.ts ∈ (t.audGrp (128 + f.target)).seen ∧ (p.hdr.ts ∈ (s.audGrp (128 + f.target)).seen → t = s)) ∧
  (∀ f base count, (s.ing.flows.find? fun f => (f.kind == 6 || f.kind == 7) && f.target == k.val) = some f →
    (s.aud.txRuns.find? fun r => r.1 == k.val) = some (k.val, base, count) → (if f.p2 = 1 then 6 else 48) ≤ s.aud.n → s.fget Adr.pwrStat 2 0 = 1 →
    (f.pkts = 0 ∨ f.rtpTs + 2 * (if f.p2 = 1 then 6 else 48) ≤ s.audPos + 1) → ∃ t, exec (.audioSendPacket k) s = .next t ∧
      (Tab.get (fun _ => ([], [])) t.aud.sent k).1 = (List.range count).map (fun c =>
        (((s.audOut (base + c)).recent.take (if f.p2 = 1 then 6 else 48)).reverse).map fun v => if f.kind = 6 ∧ f.p1 = 0 then toL16 v else v.toInt) ∧
      t.ing.flows = s.ing.flows.map fun x => if x.handle = f.handle then
        { x with pkts := x.pkts + 1, rtpSeq := (x.rtpSeq + 1) % 65536, rtpTs := s.audPos + 1 - (if f.p2 = 1 then 6 else 48) } else x) ∧
  ((s.audGrp gr).cls ≠ .none → ∃ t, exec (.classMeasurement gr ppm steady) s = .next t ∧ (t.audGrp gr).ppm = ppm ∧
    (t.audGrp gr).cls = s.classFor gr (if ppm.natAbs ≤ 4 ∧ (gr.val < 128 ∨ steady = true) then .sync else .async))

/-- Dikes: a command starts its operation, which waits for the cocoon and the NV store (R284, R286, R290 to R292). Pin sense,
the as-run log and seals (R298 to R305). -/
def Obligations.DikesSeals : Prop := ∀ (n : Fin 64) (h d : Fin 256) (spots : BitVec 4) (lines : Nat) (hashes sig : List Byte) (v : BitVec 32)
    (ecc : List HbmErr) (s : State), s.Good →
  (∀ j u c, s.Starts n 0x81 j u → u8 j.d 8 = 0 → u.dikeBad j = false → u.isOwnerKey (u8 j.d 12) = true → j.priv = true →
    (s.dike (dHead j.d)).slot = none → s.keyless = false → s.tieFor (s.ownerHash (u8 j.d 12)) = some c → s.nv.phase ≠ .recall → s.nv.phase ≠ .fault →
    u.holdupOk = true → ∃ t l x, exec (.dikeBind n) s = .next t ∧ t.Waits j ∧ t.coc.ops = s.coc.ops ++ [j.keyOp (some []) .writing none []] ∧
      t.nv.jobs.getLast? = some (.page (832 + dHead j.d / 4) (.dikes l) (.op j.ring j.stamp)) ∧ (dHead j.d, x) ∈ l ∧
      x.slot = some (u8 j.d 12) ∧ x.counter = c ∧ x.owner = j.owner ∧ (c, s.ownerHash (u8 j.d 12)) ∈ t.psn.ties ∧ t.psn.dikes = s.psn.dikes) ∧
  (∀ j u f, s.Starts n 0x81 j u → u8 j.d 8 = 1 → u.dikeCheck j = none → s.surf (dSurf j.d) = some f → f.units ≤ u.hbmFree →
    s.srf.list.length < 16384 → ∃ t c, exec (.dikeContent n (some sig) true ecc) s = .next t ∧ t.Waits j ∧ t.srf.list = s.srf.list ++ [c] ∧
      c.width = f.width ∧ c.height = f.height ∧ c.format = f.format ∧ c.owner = moduleTag ∧ c.refs = 1 ∧ t.led 3 0 0 = s.led 3 0 0 + 1 ∧
      t.coc.ops = s.coc.ops ++ [{ j.keyOp (some (dmaFit sig 96)) .running none (sha384 (s.surfRows f)) with store := some c.handle }]) ∧
  (∀ j u f, s.Starts n 0x81 j u → u8 j.d 8 = 3 → u.dikeCheck j = none → s.surf (dSurf j.d) = some f → f.units ≤ u.hbmFree →
    s.srf.list.length < 16384 → ∃ t c, exec (.dikeReapply n true ecc) s = .next t ∧ t.Waits j ∧ t.srf.list = s.srf.list ++ [c] ∧
      c.width = f.width ∧ c.height = f.height ∧ c.format = f.format ∧ c.owner = moduleTag ∧ c.refs = 1 ∧ t.led 3 0 0 = s.led 3 0 0 + 1 ∧
      ∃ o, t.coc.ops = s.coc.ops ++ [o] ∧ o.desc = j.d ∧ o.phase = .running ∧ o.digest = sha384 (s.surfRows f) ∧ o.store = some c.handle) ∧
  (∀ j u, s.Starts n 0x81 j u → u8 j.d 8 = 2 → u.dikeCheck j = none → ∃ t, exec (.dikeUnbind n (some sig)) s = .next t ∧ t.Waits j ∧
      t.coc.ops = s.coc.ops ++ [j.keyOp (some (if u64 j.d 40 = 0 then [] else dmaFit sig 96)) .running none []]) ∧
  (∀ j u, s.Starts n 0xA1 j u → u8 j.d 8 = 0 → 20 ≤ u8 j.d 9 → u8 j.d 9 ≤ 30 → u8 j.d 12 ≤ 63 → u64 j.d 16 % 4096 = 0 →
    (s.psn.log.isOpen = true → s.psn.log.owner = j.owner) → ∃ t, exec (.sealLogSet n) s = .next t ∧ t.Answered j csOk 0 ∧ t.rd Adr.logHead = 0 ∧
      t.psn.log = { Log.reset with isOpen := true, owner := j.owner, addr := BitVec.ofNat 64 (u64 j.d 16), ringLog2 := u8 j.d 9, vector := u8 j.d 12 }) ∧
  (∀ j u, s.Starts n 0xA1 j u → u8 j.d 8 = 1 → (s.psn.log.isOpen = true → s.psn.log.owner = j.owner) →
    ∃ t, exec (.sealLogOff n) s = .next t ∧ t.Answered j csOk 0 ∧ t.psn.log = { s.psn.log with isOpen := false, lost := 0 }) ∧
  (∀ j u l, s.Starts n 0xA1 j u → u8 j.d 8 = 2 → u16 j.d 10 ≤ 255 → 224 ≤ u32 j.d 24 → (s.chain (u16 j.d 10)).latest = some l →
    ∃ t, exec (.sealRead n true) s = .next t ∧ t.Answered j csOk 0 ∧ t.hif.hostMem = (s.hostWrite (u64 j.d 16) (bytesAt l 0 224)).hif.hostMem) ∧
  (∀ j u, s.Starts n 0xA1 j u → u8 j.d 8 = 3 → u16 j.d 10 ≤ 255 → u.sealing = true → (s.head (u16 j.d 10)).run ≠ .stopped →
    ∃ t, exec (.sealNow n) s = .next t ∧ t.Waits j ∧ (t.chain (u16 j.d 10)).nows = (s.chain (u16 j.d 10)).nows ++ [(j.ring, j.stamp)] ∧
      u16 j.d 10 ∈ t.psn.queue ∧ (t.chain (u16 j.d 10)).due ≠ none) ∧
  (∀ g l, (s.psnDest d).judging = g :: l → s.laneTest d = false → ∃ t, exec (.pinSenseJudgement d spots lines hashes) s = .next t ∧
    t.psnDest d = { judging := l, spots := g.bad spots.toNat hashes, crc := lines != 0, run := g.bad spots.toNat hashes != 0 || lines != 0 || g.spoiled } ∧
    (∀ k < 4, bits (g.bad spots.toNat hashes) k k = 1 ↔
      bits g.spots k k = 1 ∧ bits spots.toNat k k = 1 ∧ bytesAt hashes (16 * k) 16 ≠ bytesAt g.refs (16 * k) 16) ∧
    t.led 6 g.head 1 = s.led 6 g.head 1 + (if g.bad spots.toNat hashes ≠ 0 ∨ lines ≠ 0 ∨ g.spoiled = true then 0 else 1) ∧
    t.led 6 g.head 2 = s.led 6 g.head 2 + (if g.bad spots.toNat hashes ≠ 0 ∨ lines ≠ 0 ∨ g.spoiled = true then 1 else 0)) ∧
  ((s.head h).run ≠ .stopped → s.sealing = true → (s.chain h).lastAt + s.sealInterval ≤ s.now → ∃ t, exec (.sealDue h) s = .next t ∧
    h.val ∈ t.psn.queue ∧ (t.chain h).due = some ((s.chain h).due.getD s.now)) ∧
  (∀ g k, s.psn.signing = some g → s.sealKey = some k → ∃ t, exec .sealSigned s = .next t ∧ t.psn.signing = none ∧ (s.evSrc 308).occurred < (t.evSrc 308).occurred ∧
    (t.chain g.head).latest = some (g.body ++ ecdsaSign k.secret (sha384 g.body)) ∧ (t.chain g.head).unsaved = (s.chain g.head).unsaved + 1) ∧
  (∃ t, exec (.logHeadWrite v) s = .next t ∧ t.rd Adr.logHead = v.toNat ∧
    (s.psn.log.isOpen = false ∨ s.psn.log.lost = 0 → t.psn.log = s.psn.log) ∧ t.psn.log.isOpen = s.psn.log.isOpen)

/-- Raster periods, the sluice, composition, flips and head resets (R124, R131, R174, R250, R254, R256, R268, R520). -/
def Obligations.FramesOfHeads : Prop := ∀ (p : Fin 32) (h : Fin 256) (k : Fin 128) (cause : Fin 3) (on : Bool) (seen : FlipSeen) (late : List (Fin 8 × Nat))
    (s : State), s.Good →
  ((s.polder p).ready = true → ∃ t, exec (.rasterPeriodStart p) s = .next t ∧ (t.polder p).running = true ∧ (t.polder p).lastStart = s.now ∧
    ((s.polder p).running = true → (t.polder p).count = (s.polder p).count + 1) ∧
    ((s.polder p).running = false → (t.polder p).count = s.tim.phc * (s.polderRate p).1 / (phcUnit * (s.polderRate p).2)) ∧
    ∀ q, q ≠ p.val → t.polder q = s.polder q) ∧
  (∃ t, exec (.scanForceLine h on) s = .next t ∧ t.forceLine h = on ∧
    (on = true → s.forceLine h = false → (s.head h).run = .frame → (s.head h).lineAt = none →
      (t.head h).lineAt = some (s.nextPeriod (s.head h).applied.polder (s.head h).applied.mode, 2))) ∧
  ((s.head h).run ≠ .stopped → ∃ t e, exec (.headRstGo h) s = .next t ∧ (t.head h).run = .recovering ∧ (t.head h).composing = none ∧
    (t.head h).lineAt = some (e, 1) ∧ (t.head h).instar = (s.head h).instar ∧ (∀ c ∈ (t.head h).queue, c.locked = false) ∧
    (t.head h).queue.map (·.stamp) = (s.head h).queue.map (·.stamp)) ∧
  ((s.head h).run ≠ .stopped → ∃ t, exec (.containmentHeadReset h cause) s = .next t ∧
    ((s.recentResets h).length < s.fget Adr.contain 3 0 → (t.head h).run = .recovering ∧ (t.head h).abandoned = (s.head h).abandoned ∧
      t.flag (Adr.hdFault h) cause = true) ∧
    (s.fget Adr.contain 3 0 ≤ (s.recentResets h).length → (t.head h).run = .stopped ∧ (t.head h).abandoned = true)) ∧
  (∀ q, s.flipDue h = true → s.fget Adr.pwrStat 2 0 ≠ 4 → (s.head h).lockedStop = none → (s.head h).handover = false → (s.head h).leaving = false →
    (s.head h).composing = some q → ∃ t : State, exec (.flip h seen) s = .next (t.errorsMet seen.ecc seen.sram) ∧ (t.head h).front = some { q with bgRow := seen.bg } ∧ (t.head h).fcount = q.frame ∧
      (t.head h).flipDone = true ∧ (t.head h).composing = none) ∧
  ((s.dest (128 + k)).head ≠ none → (s.dest (128 + k)).pktsLeft ≠ 0 → ∃ t, exec (.ipSendPacket k) s = .next t ∧
    (t.dest (128 + k)).pktsLeft = (s.dest (128 + k)).pktsLeft - 1 ∧ (t.dest (128 + k)).rtpSeq = ((s.dest (128 + k)).rtpSeq + 1) % 65536 ∧
    t.rd (Adr.txfPkts k) = (s.rd (Adr.txfPkts k) + 1) % 4294967296 ∧
    ∀ f ∈ s.ing.flows, f.kind = 5 → f.target = 128 + k.val → { f with pkts := f.pkts + 1, rtpSeq := (f.rtpSeq + 1) % 65536, rtpTs := s.rd (Adr.txfRtpTs k) } ∈ t.ing.flows) ∧
  ((s.head h).run = .frame → (s.head h).sluiceDone = false → (∀ c, (s.head h).composing = some c → (s.head h).period < c.frame) →
    (s.polder (s.head h).applied.polder).running = true → (s.polder (s.head h).applied.polder).count = (s.head h).period →
    ∃ t q, exec (.sluiceClose h) s = .next t ∧ (t.head h).composing = some q ∧ q.frame = (s.head h).period + 1 ∧ (t.head h).deadlineDone = false) ∧
  (∀ q, (s.head h).composing = some q → (s.head h).deadlineDone = false → ∃ t q', exec (.composeDeadline h late) s = .next t ∧
    (t.head h).composing = some q' ∧ (t.head h).deadlineDone = true ∧ q'.frame = q.frame ∧ q'.layers.length = q.layers.length ∧
    ∀ i < q.layers.length, (q'.layers.getD i LayerPic.off).cls =
      if (q.layers.getD i LayerPic.off).cls ≠ .off ∧ (late.any fun e => e.1.val == i) = true then .cutOff else (q.layers.getD i LayerPic.off).cls)

/-- Synthesisers and polders (R356 to R358, R359 to R364). -/
def Obligations.Synthesisers : Prop := ∀ (n p : Fin 32) (v : BitVec 32) (clk10 : Bool) (s : State), s.Good →
  (s.busyOn n = [] → ∃ t, exec (.synthConfigWrite n 0 v) s = .next t ∧ t.rd (Adr.syCtl n) = v.toNat) ∧
  (s.busyOn n = [] → s.rd (Adr.syFnum n) ≠ v.toNat → ∃ t, exec (.synthConfigWrite n 1 v) s = .next t ∧ t.rd (Adr.syFnum n) = v.toNat ∧
    (t.syn n).state = if s.synEnabled n = true then .acquiring else .off) ∧
  (s.busyOn n ≠ [] → s.rd (Adr.syFden n) ≠ v.toNat % 65536 → ∃ t, exec (.synthConfigWrite n 2 v) s = .next t ∧
    t.rd (Adr.syFden n) = s.rd (Adr.syFden n) ∧ t.syn n = s.syn n ∧ ∀ q ∈ s.busyOn n, t.flag (Adr.polderStat q) 2 = true) ∧
  (let w := bits v.toNat 6 0 + 256 * bits v.toNat 10 8 + 65536 * bits v.toNat 16 16
   let taken := bits v.toNat 16 16 = 1 ∧ ∃ q < 32, q ≠ p.val ∧ s.polderOn q = true ∧ s.polderOut q = bits v.toNat 6 0
   s.rd (Adr.polderCtl p) ≠ w →
    (s.polderBusy p = false → ¬taken → ∃ t, exec (.polderCtlWrite p v) s = .next t ∧ t.rd (Adr.polderCtl p) = w) ∧
    (s.polderBusy p = true ∨ taken → ∃ t, exec (.polderCtlWrite p v) s = .next t ∧ t.rd (Adr.polderCtl p) = s.rd (Adr.polderCtl p) ∧
      t.flag (Adr.polderStat p) 2 = true ∧ s.Only t [.regs])) ∧
  ((s.syn n).state = .acquiring → s.synBad n = false → s.sourceUsable n (s.syn n).active clk10 = true → ∃ t, exec (.synthLock n clk10) s = .next t ∧
    (t.syn n).state = .locked ∧ (t.syn n).active = (s.syn n).active ∧ (t.syn n).relocks = (s.syn n).relocks) ∧
  (∀ m, (s.syn n).state = .locked → (s.syn n).relock = none → s.measurePhase n = some m → ∃ t, exec (.synthAlignmentPoint n) s = .next t ∧
    ((s.syn n).capture = true → t.syn n = { s.syn n with capture := false, offset := m, phase := 0 }) ∧
    ((s.syn n).capture = false →
      ((m - (s.syn n).offset).natAbs < 2 → (t.syn n).phase = m - (s.syn n).offset ∧ (t.syn n).relock = none) ∧
      (2 ≤ (m - (s.syn n).offset).natAbs → (m - (s.syn n).offset).natAbs ≤ 1000 * s.fget (Adr.syCtl n) 31 16 → (s.syn n).slewing = false →
        s.fget (Adr.syCtl n) 15 8 ≠ 0 → (t.syn n).slewing = true ∧
        (t.syn n).goal = if 0 < m - (s.syn n).offset then -(s.fget (Adr.syCtl n) 15 8 : Int) else s.fget (Adr.syCtl n) 15 8) ∧
      (1000 * s.fget (Adr.syCtl n) 31 16 < (m - (s.syn n).offset).natAbs → 2 ≤ (m - (s.syn n).offset).natAbs →
        (t.syn n).relock = some (if (s.syn n).returned then 2 else 0)))) ∧
  ((s.syn n).slewing = true → (s.syn n).ppm ≠ (s.syn n).goal → (s.syn n).stepAt + msTicks 1 ≤ s.now → ∃ t, exec (.slewStep n) s = .next t ∧
    (t.syn n).ppm = slewTo (s.syn n).ppm (s.syn n).goal) ∧
  (∀ c, (s.syn n).relock = some c → ∃ t, exec (.relock n) s = .next t ∧ (t.syn n).relock = none ∧ (t.syn n).phase = 0 ∧
    (t.syn n).relocks = ((s.syn n).relocks + 1) % 65536 ∧ t.flag (Adr.syCause n) 0 = true) ∧
  ((s.syn n).state = .locked → s.sourceUsable n (s.syn n).active clk10 = false → ∃ t, exec (.sourceSwitch n clk10) s = .next t ∧
    (s.sourceUsable n (s.fget (Adr.syCtl n) 6 4) clk10 = true → (t.syn n).active = s.fget (Adr.syCtl n) 6 4 ∧ (t.syn n).capture = true ∧
      (t.syn n).state = .locked ∧ t.flag (Adr.syCause n) 3 = true) ∧
    (s.sourceUsable n (s.fget (Adr.syCtl n) 6 4) clk10 = false → (t.syn n).state = .holdover ∧ t.flag (Adr.syCause n) 2 = true)) ∧
  (s.flag (Adr.syCtl n) 7 = true → s.presentLong n (s.synSource n) clk10 = true → s.synBad n = false →
    (s.syn n).state = .holdover ∨ ((s.syn n).state = .locked ∧ (s.syn n).active ≠ s.synSource n) → ∃ t, exec (.synthRevert n clk10) s = .next t ∧
      (t.syn n).state = .locked ∧ (t.syn n).active = s.synSource n ∧ (t.syn n).returned = true)

/-- The step that a write of STEP_CTL asks for (R348). -/
def Sys2Proof.Machine.State.askedStep (s : State) (mode : Bool) : PhcStep :=
  { set := mode, ns := BitVec.ofNat 32 (s.rd Adr.stepNs), sec := BitVec.ofNat 48 (s.rd Adr.stepSecLo + 4294967296 * s.fget Adr.stepSecHi 15 0) }

/-- The PHC, PPS and the analog references (R346 to R349, R352, R354, R365). -/
def Obligations.TimeBase : Prop := ∀ (frac : BitVec 32) (mode atPps tri : Bool) (who : Fin 3) (r : Fin 2) (m : BitVec 8) (ppm : BitVec 16) (s : State), s.Good →
  (∃ t, exec (.phcIncrWrite frac) s = .next t ∧ t.tim.incr = max incrMin (min incrMax (s.fget Adr.incrNs 3 0 * 4294967296 + frac.toNat)) ∧
    t.tim.incrAt = s.tim.ct ∧ t.tim.phc = s.tim.phc) ∧
  (s.flag Adr.phcStat 0 = false → s.tim.incrAt + msTicks (s.fget Adr.phcHold 15 0) ≤ s.now → ∃ t, exec .phcHoldoverTimeout s = .next t ∧
    t.flag Adr.phcStat 0 = true ∧ t.flag Adr.phcCause 3 = true) ∧
  (s.flag Adr.phcStat 1 = false →
    ((s.askedStep mode).ok = false → ∃ t, exec (.phcStepGo mode atPps) s = .next t ∧ t.flag Adr.phcStat 4 = true ∧ t.tim = s.tim) ∧
    ((s.askedStep mode).ok = true → atPps = true → ∃ t, exec (.phcStepGo mode atPps) s = .next t ∧ t.flag Adr.phcStat 1 = true ∧
      t.tim = { s.tim with stepWait := some (s.askedStep mode) }) ∧
    ((s.askedStep mode).ok = true → atPps = false → ∃ t, exec (.phcStepGo mode atPps) s = .next t ∧ t.flag Adr.phcCause 0 = true ∧
      (mode = true → t.tim.phc = (s.askedStep true).sec.toNat * phcUnit + (s.askedStep true).ns.toNat * 4294967296) ∧
      (mode = false → t.tim.phc = (((s.tim.phc : Int) + ((s.askedStep false).sec.toInt * 1000000000 + (s.askedStep false).ns.toInt) * 4294967296) %
        ((281474976710656 * phcUnit : Nat) : Int)).toNat))) ∧
  (∃ t, exec (.phcNowRead who) s = .next t ∧ t.reply = .word (BitVec.ofNat 32 s.phcNs) ∧ s.Only t [.latches, .reply] ∧
    (t.unlatch who Adr.nowFrac).1 = some (BitVec.ofNat 32 s.phcFrac) ∧
    (t.unlatch who Adr.nowSecLo).1 = some (BitVec.ofNat 32 (s.phcSec % 4294967296)) ∧
    (t.unlatch who Adr.nowSecHi).1 = some (BitVec.ofNat 32 (s.phcSec / 4294967296))) ∧
  ((∀ e, s.tim.ppsAt = some e → e + msTicks 500 ≤ s.now) → ∃ t, exec .ppsEdge s = .next t ∧ t.tim.ppsAt = some s.tim.ct ∧ t.flag Adr.phcStat 2 = true ∧
    t.tim.stepWait = none ∧
    (s.tim.stepWait = none → s.fget Adr.ppsCtl 1 0 = 1 ∨ s.fget Adr.ppsCtl 1 0 = 2 → t.rd Adr.ppsNs = s.ppsCapture % phcUnit / 4294967296) ∧
    (s.tim.stepWait = none → s.fget Adr.ppsCtl 1 0 ≠ 2 → t.tim.phc = s.tim.phc) ∧
    (s.tim.stepWait = none → s.fget Adr.ppsCtl 1 0 = 2 → t.tim.phc = (s.ppsCapture + phcUnit / 2) / phcUnit % 281474976710656 * phcUnit)) ∧
  (∀ e, s.tim.ppsAt = some e → e + msTicks 1500 ≤ s.now → s.flag Adr.phcStat 2 = true → ∃ t, exec .ppsLost s = .next t ∧
    t.flag Adr.phcStat 2 = false ∧ t.flag Adr.phcCause 2 = true) ∧
  (s.flag (Adr.refCtl r) 0 = true → ∃ t, exec (.refAlignmentPoint r m tri ppm) s = .next t ∧ t.rd (Adr.refEdgeNs r) = s.phcNs ∧ (t.refIn r).edgeAt = s.now ∧
    (s.fget (Adr.refStat r) 1 0 ≠ 2 → refAccepts (s.fget (Adr.refCtl r) 3 2) m.toNat tri ppm.toInt = true →
      ((s.refIn r).cand = some m.toNat → t.fget (Adr.refStat r) 1 0 = 2 ∧ t.fget (Adr.refStat r) 15 8 = m.toNat ∧ (t.refIn r).present = some s.now ∧
        t.flag (Adr.refCause r) 0 = true) ∧
      ((s.refIn r).cand ≠ some m.toNat → t.fget (Adr.refStat r) 1 0 = 1 ∧ (t.refIn r).cand = some m.toNat)) ∧
    (s.fget (Adr.refStat r) 1 0 = 2 → s.fget (Adr.refStat r) 15 8 ≠ m.toNat → t.fget (Adr.refStat r) 1 0 = 1 ∧ t.flag (Adr.refCause r) 2 = true)) ∧
  (s.fget (Adr.refStat r) 1 0 ≠ 0 → ∃ t, exec (.refSyncAbsent r) s = .next t ∧ t.rd (Adr.refStat r) = 0 ∧ (t.refIn r).present = none ∧
    (t.refIn r).cand = none ∧ t.flag (Adr.refCause r) 1 = true)

/-- The power of lane groups and ports, the links of the subports, and the loops of lanes (R372, R373, R376, R378, R379). -/
def Obligations.LanesPorts : Prop := ∀ (g : Fin 8) (p : Fin 2) (q : Fin 8) (i : Fin 10) (l : Fin 144) (mode : BitVec 2) (corr unc : Nat) (s : State), s.Good →
  ((s.unit g).enable = false → (s.leaveFits (unitTokens g) 0 = true → ∃ t, exec (.laneGrpEnable g) s = .next t ∧
      t.unit g = { s.unit g with enable := true, enabled := true, tokens := (s.unit g).tokens + unitTokens g } ∧
      t.lv.powFree = s.lv.powFree - unitTokens g) ∧
    (s.leaveFits (unitTokens g) 0 = false → ∃ t, exec (.laneGrpEnable g) s = .next t ∧ t.net = s.net ∧ t.lv = s.lv ∧ t.flag (Adr.grpStat g) 1 = true)) ∧
  ((s.unit (8 + p)).enable = false → (s.leaveFits 72 0 = true → ∃ t, exec (.portEnable p) s = .next t ∧
      t.unit (8 + p) = { s.unit (8 + p) with enable := true, enabled := true, tokens := (s.unit (8 + p)).tokens + 72 } ∧
      t.lv.powFree = s.lv.powFree - 72) ∧
    (s.leaveFits 72 0 = false → ∃ t, exec (.portEnable p) s = .next t ∧ t.net = s.net ∧ t.lv = s.lv ∧ t.flag (Adr.portStat p) 9 = true)) ∧
  ((s.unit g).enable = true → (s.unitUsed g = false → ∃ t, exec (.laneGrpDisable g) s = .next t ∧ t.unit g = { s.unit g with enable := false, down := true } ∧ t.lv = s.lv) ∧
    (s.unitUsed g = true → ∃ t, exec (.laneGrpDisable g) s = .next t ∧ t.net = s.net ∧ t.flag (Adr.grpStat g) 2 = true)) ∧
  ((s.unit (8 + p)).enable = true → (s.unitUsed (8 + p) = false → ∃ t, exec (.portDisable p) s = .next t ∧
      t.unit (8 + p) = { s.unit (8 + p) with enable := false, down := true } ∧ t.lv = s.lv) ∧
    (s.unitUsed (8 + p) = true → ∃ t, exec (.portDisable p) s = .next t ∧ t.net = s.net ∧ t.flag (Adr.portStat p) 10 = true)) ∧
  ((s.unit i).down = true → ∃ t, exec (.powerDownEnd i) s = .next t ∧ (t.unit i).down = false ∧ (t.unit i).enabled = (s.unit i).enable ∧
    (t.unit i).tokens = (s.unit i).tokens - unitTokens i ∧ t.lv.powFree + t.lv.powWith = s.lv.powFree + s.lv.powWith + unitTokens i ∧
    ((s.unit i).enable = false → 8 ≤ i.val → (t.unit i).link = 0)) ∧
  (s.linkUp p q = false → (s.unit (8 + p)).enable = true → q.val < s.subports p →
    ((s.subLanes p q).all fun n => s.fget (Adr.laneLoop n) 1 0 == 0 && s.flag (Adr.laneCtl n) 0) = true →
    ∃ t, exec (.portLinkChange p q true) s = .next t ∧ t.linkUp p q = true ∧ t.flag (Adr.portCause p) 0 = true ∧ ∀ k < 8, k ≠ q.val → t.linkUp p k = s.linkUp p k) ∧
  (s.linkUp p q = true → ∃ t, exec (.portLinkChange p q false) s = .next t ∧ t.linkUp p q = false ∧ t.flag (Adr.portCause p) 0 = true ∧
    ∀ k < 8, k ≠ q.val → t.linkUp p k = s.linkUp p k) ∧
  (∃ t, exec (.fecReport p corr unc) s = .next t ∧ t.rd (Adr.fecCorr p) = min (s.rd (Adr.fecCorr p) + corr) 4294967295 ∧
    (unc ≠ 0 → t.rd (Adr.fecUncorr p) = min (s.rd (Adr.fecUncorr p) + unc) 4294967295 ∧ t.flag (Adr.portCause p) 1 = true)) ∧
  (∃ t, exec (.loopSelect l mode) s = .next t ∧ t.fget (Adr.laneLoop l) 1 0 = mode.toNat ∧ (l.val < 128 ∨ mode = 0 → s.Only t [.regs]) ∧
    (128 ≤ l.val → mode ≠ 0 → ∀ k < 8, (s.subLanes ((l.val - 128) / 8) k).contains l.val = true → t.linkUp ((l.val - 128) / 8) k = false))

/-- A 64-bit counter in two registers. -/
def Sys2Proof.Machine.State.rd64 (s : State) (lo hi : Nat) : Nat := s.rd lo + 4294967296 * s.rd hi

/-- An entry of the transmit ring that cannot be sent: it or its frame was not read, its length or its subport is out of range, or the link
is down (R384). -/
def Sys2Proof.Machine.State.TxBad (s : State) (entry : Option (List Byte)) (dmaOk : Bool) : Prop :=
  entry = none ∨ dmaOk = false ∨ u16 (entry.getD []) 8 < 60 ∨ 1518 < u16 (entry.getD []) 8 ∨ 15 < u8 (entry.getD []) 10 ∨
    s.subports (u8 (entry.getD []) 10 / 8) ≤ u8 (entry.getD []) 10 % 8 ∨ s.linkUp (u8 (entry.getD []) 10 / 8) (u8 (entry.getD []) 10 % 8) = false

/-- Pattern generators and checkers, and the host packet queue (R377, R381 to R384). -/
def Obligations.PatternsHostFrames : Prop := ∀ (n : Fin 144) (v : BitVec 4) (compared errors : Nat) (p : Fin 2) (q : Fin 8) (tci : Option (BitVec 16)) (f : List Byte)
    (stepped dmaOk : Bool) (tail : BitVec 16) (entry : Option (List Byte)) (s : State), s.Good →
  ((v = 8 → n.val < 128 ∧ s.txState n ≠ 0) → ∃ t, exec (.prbsGeneratorSelect n v) s = .next t ∧ t.fget (Adr.lanePrbs n) 3 0 = v.toNat ∧ s.Only t [.regs]) ∧
  (128 ≤ n.val ∨ s.txState n = 0 → exec (.prbsGeneratorSelect n 8) s = .next s) ∧
  (∃ t, exec (.prbsCheckerSelect n v) s = .next t ∧ t.fget (Adr.lanePrbs n) 7 4 = v.toNat ∧ t.flag (Adr.lanePrbs n) 8 = false ∧
    t.rd64 (Adr.prbsBitsLo n) (Adr.prbsBitsHi n) = 0 ∧ t.rd64 (Adr.prbsErrLo n) (Adr.prbsErrHi n) = 0 ∧ s.Only t [.regs]) ∧
  (s.selfTest n = true → s.flag (Adr.lanePrbs n) 8 = true → ∃ t, exec (.prbsInject n) s = .next t ∧
    t.rd64 (Adr.prbsErrLo n) (Adr.prbsErrHi n) = (s.rd64 (Adr.prbsErrLo n) (Adr.prbsErrHi n) + 1) % 2 ^ 64 ∧ s.Only t [.regs]) ∧
  (s.fget (Adr.lanePrbs n) 7 4 ≠ 0 → s.flag (Adr.lanePrbs n) 8 = false → ∃ t, exec (.prbsCheckerLock n) s = .next t ∧
    t.flag (Adr.lanePrbs n) 8 = true ∧ t.flag (Adr.laneCause n) 1 = true) ∧
  (s.flag (Adr.lanePrbs n) 8 = true → ∃ t, exec (.prbsCheckerLoss n compared errors) s = .next t ∧ t.flag (Adr.lanePrbs n) 8 = false ∧
    t.flag (Adr.laneCause n) 1 = true ∧ t.rd64 (Adr.prbsBitsLo n) (Adr.prbsBitsHi n) = (s.rd64 (Adr.prbsBitsLo n) (Adr.prbsBitsHi n) + compared) % 2 ^ 64 ∧
    t.rd64 (Adr.prbsErrLo n) (Adr.prbsErrHi n) = (s.rd64 (Adr.prbsErrLo n) (Adr.prbsErrHi n) + errors) % 2 ^ 64) ∧
  (s.hostClass p q (tci.map (·.toNat)) f = none → s.legTakes p q (tci.map (·.toNat)) f = false → ∃ t, exec (.unmatchedFrame p q tci f) s = .next t ∧
    t.rd (Adr.subRxDrop (subNo p q)) = min (s.rd (Adr.subRxDrop (subNo p q)) + 1) 4294967295 ∧ s.Only t [.regs]) ∧
  (∀ c, s.hostClass p q (tci.map (·.toNat)) f = some c →
    (2016 < f.length → ∃ t, exec (.hqRxFrame p q tci stepped f) s = .next t ∧ t.rd Adr.hqDrop = min (s.rd Adr.hqDrop + 1) 4294967295 ∧ s.Only t [.regs]) ∧
    (f.length ≤ 2016 → s.hqRoom = false → ∃ t, exec (.hqRxFrame p q tci stepped f) s = .next t ∧
      t.rd Adr.hqDrop = min (s.rd Adr.hqDrop + 1) 4294967295 ∧ t.flag Adr.hqCause 0 = true ∧ t.hif = s.hif) ∧
    (f.length ≤ 2016 → s.hqRoom = true → ∃ t more, exec (.hqRxFrame p q tci stepped f) s = .next t ∧ more.length = 28 ∧
      t.net.hq = { s.net.hq with rxTail := s.net.hq.rxTail + 1, dropRun := 0 } ∧
      t.hif.hostMem = ((s.hostWrite (s.net.hq.rxBase.toNat + s.net.hq.rxTail.toNat % 2 ^ s.net.hq.rxSize * 2048)
        (leBytes 2 f.length ++ [BitVec.ofNat 8 (subNo p q), BitVec.ofNat 8 (hqPhase s.net.hq.rxTail.toNat s.net.hq.rxSize + 2 * b2n tci.isSome + 16 * c)] ++
          more ++ f)).interrupt s.net.hq.rxVector).hif.hostMem)) ∧
  (s.net.hq.txEnable = true → ∃ t, exec (.hqTxDb tail) s = .next t ∧ t.net.hq = { s.net.hq with txTail := tail } ∧ s.Only t [.net]) ∧
  (s.net.hq.txEnable = true → s.net.hq.txHead ≠ s.net.hq.txTail → s.hif.d3hot = false → ∃ t bad stamp, exec (.hqTxDone entry dmaOk stepped) s = .next t ∧
    (bad = true ↔ s.TxBad entry dmaOk) ∧ stamp.length = 16 ∧ t.net.hq = { s.net.hq with txHead := s.net.hq.txHead + 1 } ∧
    t.hif.hostMem = ((s.hostWrite (s.net.hq.txBase.toNat + s.net.hq.txHead.toNat % 2 ^ s.net.hq.txSize * 64 + 11)
      ([BitVec.ofNat 8 (b2n (ubit (entry.getD []) 11 0) + 2 + 4 * b2n bad)] ++ List.replicate 4 0 ++ stamp)).interrupt s.net.hq.txVector).hif.hostMem)

/-- The leave limits and audit, the supply, the ladder of sheds and the trip (R406, R408, R409, R411 to R413, R416). -/
def Obligations.LeaveAndHeat : Prop := ∀ (v : BitVec 32) (pb fb : Bool) (mv : BitVec 16) (pw : BitVec 13) (tj : List (BitVec 11)) (tcp temp : BitVec 11)
    (sensor : Fin 24) (s : State), s.Good →
  (∃ t, exec (.leaveCfgWrite v) s = .next t ∧
    t.fget Adr.lvCfg 13 0 = (if 4120 ≤ v.toNat % 16384 ∧ v.toNat % 16384 ≤ 8400 then v.toNat % 16384 else s.fget Adr.lvCfg 13 0) ∧
    t.fget Adr.lvCfg 26 16 = (if v.toNat / 65536 % 2048 ≤ 2000 then v.toNat / 65536 % 2048 else s.fget Adr.lvCfg 26 16) ∧
    t.lv.powFree + t.lv.powWith = s.lv.powFree + s.lv.powWith ∧ t.lv.fetFree + t.lv.fetWith = s.lv.fetFree + s.lv.fetWith ∧
    t.lv.powWith = (if s.lv.powWith ≤ t.powTarget then min t.powTarget (s.lv.powWith + s.lv.powFree) else t.powTarget) ∧
    t.lv.fetWith = (if s.lv.fetWith ≤ t.fetTarget then min t.fetTarget (s.lv.fetWith + s.lv.fetFree) else t.fetTarget)) ∧
  ((pb = true ∨ fb = true) ∨ s.powSumOk = false ∨ s.fetSumOk = false → ∃ t, exec (.leaveAudit pb fb) s = .next t ∧ t.lv.auditBad = true ∧ t.flag Adr.lvCause 0 = true ∧ 1 ≤ t.shedLevel ∧
    (∀ p f, p ≠ 0 ∨ f ≠ 0 → t.leaveFits p f = false) ∧ (t.lv.powFree, t.lv.fetFree) = (s.lv.powFree, s.lv.fetFree)) ∧
  (s.powSumOk = true → s.fetSumOk = true → exec (.leaveAudit false false) s = .next s) ∧
  (∃ t, exec (.supplyMeasurement mv pw) s = .next t ∧ t.fget Adr.lvVin 15 0 = mv.toNat ∧ t.fget Adr.lvPin 12 0 = pw.toNat ∧
    t.lv.band = supplyBand s.lv.band mv.toNat ∧ t.lv.level = t.shedLevel ∧
    (mv.toNat < 3600 → t.lv.band = 1 ∧ t.lv.supply = true ∧ 2 ≤ t.shedLevel) ∧
    (supplyBand s.lv.band mv.toNat ≠ s.lv.band → t.flag Adr.lvCause 4 = true) ∧
    (∀ o, s.lv.power = false → s.lv.overSince = some o → s.powLimit < 2 * pw.toNat → o + msTicks 100 ≤ s.now → t.lv.power = true ∧ t.flag Adr.lvCause 5 = true)) ∧
  (tj.length = 24 → s.lv.tripped = false → ∃ t, exec (.thermalSample tj tcp) s = .next t ∧ t.lv.level = t.shedLevel ∧
    (s.lv.thermal < enterLevel (hottest (tj.map (·.toNat))).1 → t.lv.thermal = enterLevel (hottest (tj.map (·.toNat))).1) ∧
    (enterLevel (hottest (tj.map (·.toNat))).1 ≤ s.lv.thermal → s.lv.thermal ≠ 0 → clearBelow s.lv.thermal ≤ (hottest (tj.map (·.toNat))).1 →
      t.lv.thermal = s.lv.thermal ∧ t.lv.thermSince = none) ∧
    (∀ o, enterLevel (hottest (tj.map (·.toNat))).1 ≤ s.lv.thermal → s.lv.thermal ≠ 0 → (hottest (tj.map (·.toNat))).1 < clearBelow s.lv.thermal →
      s.lv.thermSince = some o → o + msTicks 1000 ≤ s.now → t.lv.thermal = max (s.lv.thermal - 1) (enterLevel (hottest (tj.map (·.toNat))).1))) ∧
  (s.diesOff = false → ∃ t, exec (.thermalTrip sensor temp) s = .next t ∧ t.lv.tripped = true ∧ t.shedLevel = 4 ∧ t.lv.level = 4 ∧
    t.flag Adr.lvCause 3 = true ∧ ∀ h, (t.head h).run = .stopped) ∧
  (s.diesOff = true → ∃ t, exec (.thermalTrip sensor temp) s = .next t ∧ s.Only t [.regs] ∧
    t.fget Adr.lvShed 31 16 = min (s.fget Adr.lvShed 31 16 + 1) 65535)

/-- A register none of whose fields `keep` names reads as after power-on, but for those listed (R9). -/
def Sys2Proof.Machine.State.Defaults (t : State) (keep : Nat → Fld → Bool) (but : List Nat) : Prop :=
  ∀ a r x, findReg a = some (r, x) → (∀ f ∈ r.fields, keep a f = false) → a ∉ but → t.rd a = (powerOn a).toNat

/-- A register with one field of 32 bits that `keep` names has its value. -/
def Sys2Proof.Machine.State.KeepsWords (s t : State) (keep : Nat → Fld → Bool) : Prop :=
  ∀ a r x f, findReg a = some (r, x) → r.fields = [f] → f.hi = 31 → f.lo = 0 → keep a f = true → t.rd a = s.rd a

/-- These parts are as after power-on: all that MOD_RST_N, power-on reset and a power fail reach (R496, R499). -/
def Sys2Proof.Machine.State.VideoAtReset (t : State) : Prop :=
  ∀ p ∈ ([.latches, .ledger, .subRings, .cplRings, .events, .msix, .d3hot, .sources, .flows, .igmp, .heads, .salvos, .surfaces, .scalers, .colour,
    .converters, .destinations, .pushes, .leave, .limits, .phc, .refs, .syns, .polders, .net, .dikes, .pinSense, .seals, .audio, .restoration,
    .power, .scrub, .hbm] : List Part), p.same State.reset t

/-- What a warm reset leaves (R146, R166, R391, R415, R424, R498, R499). -/
structure Sys2Proof.Machine.State.WarmFrom (s t : State) : Prop where
  heads : t.hds = Hds.reset
  video : t.scc = Scc.reset ∧ t.srf.list = [] ∧ t.out.convs = [] ∧ t.out.pushes = [] ∧ t.ing.flows = [] ∧ ∀ d, (t.dest d).head = none
  rings : t.hif.sqs = [] ∧ t.hif.cqs = [] ∧ t.hif.fences = [] ∧ t.hif.msix = [] ∧ t.hif.d3hot = false ∧ t.net.hq = Hq.reset
  leave : t.lv.tripped = false ∧ t.lv.auditBad = false ∧
    t.lv.powFree + t.lv.powWith = powPool - (3608 + (((List.range 10).filter fun i => (s.unit i).enable).map unitTokens).sum) ∧
    t.lv.fetFree + t.lv.fetWith = fetPool
  units : ∀ i < 10, (t.unit i).enable = (s.unit i).enable ∧ (t.unit i).link = (s.unit i).link
  pairs : t.mg.serving = 0 ∧ (t.pair 0).state = Pair.reset.state ∧ (t.pair 1).state = Pair.reset.state ∧ (t.pair 0).slot = (s.pair 0).slot ∧
    (t.pair 1).slot = (s.pair 1).slot
  keys : ∀ i k, Tab.get (fun _ => none) t.coc.slots i = some k → k.ephemeral = true → k.expired = true ∧ k.secret = []
  regs : t.Defaults keepWarm [Adr.pwrCtl]
  power : t.pwr = Pwr.reset
  time : t.tim = s.tim

/-- The resets: FLR, warm reset, a trip's recovery, MOD_RST_N, power-on reset, power fail and its end (R44, R70, R410, R413, R496 to R499). -/
def Obligations.Resets : Prop := ∀ (burst : Bool) (f : OffTime) (s : State), s.Good →
  (∃ t, exec (.flr burst) s = .next t ∧ (∀ n, (t.sq n).state = .disabled ∧ (t.sq n).seqNext = (s.sq n).seqNext ∧ (t.sq n).seqPosted = (s.sq n).seqPosted) ∧
    t.hif.cqs = [] ∧ t.hif.ers = [] ∧ t.hif.msix = [] ∧ t.hif.d3hot = false ∧ t.net.hq = Hq.reset ∧ t.hif.hostMem = s.hif.hostMem ∧
    t.Defaults keepFlr [Adr.fabStat] ∧ s.KeepsWords t keepFlr) ∧
  (s.pwr.standby = false → ∃ t, exec .warmReset s = .next t ∧ s.WarmFrom t) ∧
  (s.pwr.standby = false → s.lv.tripped = true → s.cooled = true → ∃ t, exec .tripRecover s = .next t ∧ s.WarmFrom t) ∧
  (s.pwr.standby = true → s.fget Adr.pwrStat 2 0 = 4 → ∃ t, exec .warmReset s = .next t ∧ t.pwr.warmWaits = some 3 ∧ t.pwr.wakeWaits = true ∧ s.Only t [.power]) ∧
  (s.lv.tripped = false ∨ s.cooled = false → exec .tripRecover s = .next s) ∧
  (s.lv.powerFail = false → ∃ t, exec .modRstN s = .next t ∧ t.VideoAtReset ∧ t.lv = State.reset.lv ∧ t.coc = s.coc.restart s.aon ∧ t.fget Adr.rstCause 3 0 = 2 ∧
    t.Defaults keepHeld [Adr.rstCause] ∧ s.KeepsWords t keepHeld ∧ t.hif.hostMem = s.hif.hostMem ∧ t.nv.ctrs = s.nv.ctrs ∧ t.nv.erases = s.nv.erases) ∧
  (∃ t, exec (.powerOnReset f) s = .next t ∧ t.VideoAtReset ∧ t.lv = State.reset.lv ∧ t.fget Adr.rstCause 3 0 = 0 ∧ t.Defaults keepHeld [Adr.rstCause] ∧
    (f.bbLost = false → f.breach = none → s.KeepsWords t keepHeld ∧ t.coc.root = s.coc.root) ∧
    (f.bbLost = true → t.fget Adr.brCause 7 0 = 64 ∧ t.coc.root = none)) ∧
  (s.lv.powerFail = false → ∃ t, exec .powerFail s = .next t ∧ t.VideoAtReset ∧ t.lv = { State.reset.lv with powerFail := true } ∧ t.nv.phase = .fault ∧
    (t.pair 0).state = .off ∧ (t.pair 1).state = .off ∧ t.fget Adr.rstCause 3 0 = 1) ∧
  (s.lv.powerFail = true → exec .powerFail s = .next s ∧ exec .modRstN s = .next s) ∧
  (s.lv.powerFail = true → s.lasted s.lv.goodSince 100 = true → ∃ t, exec .powerFailRecovery s = .next t ∧ t.VideoAtReset ∧
    t.lv = { State.reset.lv with stInput := true } ∧ t.fget Adr.rstCause 3 0 = 1 ∧ t.mg.a.state = Mg.reset.a.state) ∧
  (s.lv.powerFail = false → exec .powerFailRecovery s = .next s)

/-- A management watchdog reset of pair `p`, counted in field `bit` of its RESETS (R475, R490). -/
structure Sys2Proof.Machine.State.PairReset (s t : State) (p bit : Nat) : Prop where
  boots : (t.pair p).state = .boot ∧ (t.pair p).remap = false ∧ (t.pair p).staged = false ∧ (t.pair p).slot = (s.pair p).slot
  counted : t.fget (Adr.pairResets p) (16 * bit + 15) (16 * bit) = min (s.fget (Adr.pairResets p) (16 * bit + 15) (16 * bit) + 1) 65535
  raised : t.flag Adr.mgCause bit = true
  takeover : s.mg.serving = p → (s.pair (1 - p)).state = .standby → (s.pair (1 - p)).slot = (s.pair p).slot → (s.pair (1 - p)).version = (s.pair p).version →
    t.mg.serving = 1 - p ∧ (t.pair (1 - p)).state = .serving ∧ t.flag Adr.mgCause 2 = true
  alone : s.mg.serving = p → (s.pair (1 - p)).state ≠ .standby → t.mg.serving = p ∧ t.pair (1 - p) = s.pair (1 - p)
  moult : s.mg.serving ≠ p → s.mg.moult.state = .loading ∨ s.mg.moult.state = .ready → t.mg.moult.state = .rejected ∧ t.mg.moult.reason = 7
  stays : s.mg.serving ≠ p → t.mg.serving = s.mg.serving ∧ t.pair (1 - p) = s.pair (1 - p)

/-- The pairs: watchdog, lockstep, boot, and the disconnection of J4 (R474 to R476, R480, R486). -/
def Obligations.PairsBoot : Prop := ∀ (p : Fin 2) (burst badA badB : Bool) (s : State), s.Good →
  ((s.pair p).state ≠ .off → ∃ t, exec (.mgmtWatchdog p burst) s = .next t ∧ s.PairReset t p 0) ∧
  ((s.pair p).state ≠ .off → ∃ t, exec (.lockstepMismatch p burst) s = .next t ∧ s.PairReset t p 1) ∧
  ((s.pair p).state = .off → exec (.mgmtWatchdog p burst) s = .next s ∧ exec (.lockstepMismatch p burst) s = .next s) ∧
  (∀ i, (s.pair p).state = .boot → (s.pair p).staged = false → s.mg.moult.reload = none → i ≤ 1 → (s.mg.slotOf i).valid = true → (if i = 0 then badA else badB) = false →
    ((s.mg.slotOf (1 - i)).valid = true → (if 1 - i = 0 then badA else badB) = false → (s.mg.slotOf (1 - i)).seq.toNat < (s.mg.slotOf i).seq.toNat) →
    ∃ t, exec (.pairBoot p badA badB) s = .next t ∧ (t.pair p).slot = i ∧ (t.pair p).version = (s.mg.slotOf i).version ∧ (t.pair p).remap = true ∧ t.mg.noFw = false ∧
      (t.pair p).state = (if s.mg.serving = p ∨ s.mg.noFw = true then .serving else .standby) ∧ (s.mg.noFw = true → t.mg.serving = p)) ∧
  ((s.pair p).state = .boot → (s.pair p).staged = false → s.mg.moult.reload = none →
    ((s.mg.slotOf 0).valid = false ∨ badA = true) → ((s.mg.slotOf 1).valid = false ∨ badB = true) →
    ∃ t, exec (.pairBoot p badA badB) s = .next t ∧ t.mg.noFw = true ∧ (t.pair p).state = .boot ∧ s.Only t [.mgmt]) ∧
  ((s.pair p).state = .loading → (s.pair p).staged = true → s.mg.noFw = false → s.mg.moult.target ≤ 1 → (s.mg.slotOf s.mg.moult.target).valid = true →
    (if s.mg.moult.target = 0 then badA else badB) = false →
    ∃ t, exec (.pairBoot p badA badB) s = .next t ∧ (t.pair p).slot = s.mg.moult.target ∧ (t.pair p).staged = false ∧ t.mg.moult.state = .ready ∧ t.mg.moult.reason = 0) ∧
  ((s.pair p).state = .loading → (s.pair p).staged = true → (s.mg.slotOf s.mg.moult.target).valid = false →
    ∃ t, exec (.pairBoot p badA badB) s = .next t ∧ t.mg.moult.state = .rejected ∧ t.mg.moult.reason = 7 ∧ (t.pair p).staged = false) ∧
  ((s.pair p).state = .serving → exec (.pairBoot p badA badB) s = .next s) ∧
  (s.mg.locked = false → ∃ t, exec (.j4Disconnect burst) s = .next t ∧ s.Only t [.regs] ∧
    t.fget Adr.fabStat 31 16 = (if burst = true then min (s.fget Adr.fabStat 31 16 + 1) 65535 else s.fget Adr.fabStat 31 16)) ∧
  (s.mg.locked = true → exec (.j4Disconnect burst) s = .next s)

/-- The moult, and the field-lock fuse (R487 to R491). -/
def Obligations.MoultFuse : Prop := ∀ (x : StagedImage) (s : State), s.Good →
  (s.mg.moult.state = .idle ∨ s.mg.moult.state = .rejected → s.mg.noFw = false → s.mg.bothRun = true →
    ∃ t, exec .moultStage s = .next t ∧ t.mg.moult.state = .staging ∧ t.mg.moult.target = 1 - (s.pair s.mg.serving).slot ∧ (t.mg.slotOf t.mg.moult.target).valid = false ∧
      t.mg.a = s.mg.a ∧ t.mg.b = s.mg.b ∧ s.Occurred t 285) ∧
  (s.mg.moult.state = .idle ∨ s.mg.moult.state = .rejected → s.mg.noFw = false → s.mg.bothRun = false →
    ∃ t, exec .moultStage s = .next t ∧ t.mg.moult.state = .rejected ∧ t.mg.moult.reason = 9 ∧ t.mg.slotA = s.mg.slotA ∧ t.mg.slotB = s.mg.slotB) ∧
  (s.mg.moult.state ≠ .idle → s.mg.moult.state ≠ .rejected →
    ∃ t, exec .moultStage s = .next t ∧ t.mg = { s.mg with moult := { s.mg.moult with reason := 9 } } ∧ s.Only t [.mgmt]) ∧
  (s.mg.moult.state = .staging → s.holdupOk = true → s.mg.noFw = false → x.dmaOk = true → x.flashOk = true → x.lengthOk = true → s.fget Adr.moultLen 21 0 ≤ 3141632 → x.sigOk = true →
    (s.mg.slotOf (s.pair s.mg.serving).slot).secver.toNat ≤ x.secver.toNat →
    ∃ t, exec (.moultStageDone x) s = .next t ∧ t.mg.moult.state = .loading ∧ t.mg.slotOf s.mg.moult.target = { valid := true, version := x.version, secver := x.secver, seq := 0 } ∧
      (t.pair s.mg.other).state = .loading ∧ (t.pair s.mg.other).staged = true ∧ t.pair s.mg.serving = s.pair s.mg.serving ∧ t.mg.serving = s.mg.serving) ∧
  (∀ r, s.mg.moult.state = .staging → s.holdupOk = true →
    (x.dmaOk = false ∧ r = 4 ∨ x.dmaOk = true ∧ x.flashOk = false ∧ r = 5 ∨ x.dmaOk = true ∧ x.flashOk = true ∧ (x.lengthOk = false ∨ 3141632 < s.fget Adr.moultLen 21 0) ∧ r = 3 ∨
      x.dmaOk = true ∧ x.flashOk = true ∧ x.lengthOk = true ∧ s.fget Adr.moultLen 21 0 ≤ 3141632 ∧ x.sigOk = false ∧ r = 1 ∨
      x.dmaOk = true ∧ x.flashOk = true ∧ x.lengthOk = true ∧ s.fget Adr.moultLen 21 0 ≤ 3141632 ∧ x.sigOk = true ∧ s.mg.noFw = false ∧
        x.secver.toNat < (s.mg.slotOf (s.pair s.mg.serving).slot).secver.toNat ∧ r = 2) →
    ∃ t, exec (.moultStageDone x) s = .next t ∧ t.mg.moult.state = .rejected ∧ t.mg.moult.reason = r ∧ t.mg.slotA = s.mg.slotA ∧ t.mg.slotB = s.mg.slotB ∧ t.mg.a = s.mg.a ∧ t.mg.b = s.mg.b) ∧
  (s.mg.moult.state = .ready ∨ s.mg.moult.state = .rejected ∧ s.mg.moult.reason = 6 →
    ∃ t, exec .moultGo s = .next t ∧ t.mg.moult.state = .quiescing ∧ t.mg.moult.since = s.now ∧ s.Occurred t 285) ∧
  (s.mg.moult.state ≠ .ready → s.mg.moult.state ≠ .rejected → exec .moultGo s = .next s) ∧
  (s.mg.moult.state = .quiescing → s.quiet = true → ∃ t, exec .quietPoint s = .next t ∧ t.mg.moult.state = .probation ∧ t.mg.serving = 1 - s.mg.serving ∧
    (t.pair (1 - s.mg.serving)).state = .serving ∧ (t.pair s.mg.serving).state = .standby ∧ s.Occurred t 285) ∧
  (s.mg.moult.state = .probation → s.mg.moult.rolling = true → s.quiet = true → ∃ t, exec .quietPoint s = .next t ∧ t.mg.serving = 1 - s.mg.serving ∧
    (t.pair (1 - s.mg.serving)).state = .serving ∧ (t.pair s.mg.serving).state = .boot ∧ t.mg.moult.reload = some (s.mg.serving, 8)) ∧
  (s.quiet = false → exec .quietPoint s = .next s) ∧
  (s.mg.moult.state = .quiescing → s.mg.moult.since + msTicks 100 ≤ s.now → ∃ t, exec .quietTimeout s = .next t ∧ t.mg.moult.state = .rejected ∧ t.mg.moult.reason = 6 ∧
    t.mg.serving = s.mg.serving) ∧
  (s.now < s.mg.moult.since + msTicks 100 → exec .quietTimeout s = .next s) ∧
  (s.mg.moult.state = .probation → s.mg.moult.rolling = false → s.mg.moult.reload = none → ∃ t, exec .moultCommit s = .next t ∧ t.mg.moult.state = .committing ∧
    (t.mg.slotOf s.mg.moult.target).seq = BitVec.ofNat 16 (max s.mg.slotA.seq.toNat s.mg.slotB.seq.toNat + 1) ∧ (t.pair s.mg.other).state = .boot ∧
    t.mg.moult.reload = some (s.mg.other, 0) ∧ t.mg.serving = s.mg.serving ∧
    (s.mg.moult.since + msTicks 1000 * s.fget Adr.moultCtl 15 8 ≤ s.now → exec .probationExpiry s = .next t)) ∧
  (s.now < s.mg.moult.since + msTicks 1000 * s.fget Adr.moultCtl 15 8 → exec .probationExpiry s = .next s) ∧
  (s.mg.moult.state ≠ .probation → exec .moultCommit s = .next s ∧ exec .moultRollback s = .next s) ∧
  (s.mg.moult.state = .probation → s.mg.moult.reload = none → ∃ t, exec .moultRollback s = .next t ∧ t.mg.moult = { s.mg.moult with rolling := true } ∧ s.Only t [.mgmt]) ∧
  (∃ t, exec .fuseArm s = .next t ∧ t.mg = { s.mg with armed := some s.now } ∧ s.Only t [.mgmt]) ∧
  (∀ a, s.mg.armed = some a → s.now ≤ a + msTicks 1 → 3600 ≤ s.fget Adr.lvVin 15 0 → ∃ t, exec .fuseBlow s = .next t ∧ t.mg = { s.mg with locked := true, armed := none } ∧ s.Only t [.mgmt]) ∧
  (s.mg.armed = none ∨ (∃ a, s.mg.armed = some a ∧ a + msTicks 1 < s.now) ∨ s.fget Adr.lvVin 15 0 < 3600 → ∃ t, exec .fuseBlow s = .next t ∧ t.mg.locked = s.mg.locked ∧ t.mg.armed = none)

/-- The power states: RUN, QUIET, STANDBY and the wake (R501 to R503, R506). -/
def Obligations.PowerStates : Prop := ∀ (s : State), s.Good →
  (s.leaveRunBad = (if (∃ h ∈ s.headList, h.queue ≠ []) ∨ s.hds.armed ≠ [] then 1
    else if s.mg.moult.state ≠ .idle ∧ s.mg.moult.state ≠ .rejected ∧ s.mg.moult.state ≠ .probation then 2
    else if s.shedLevel = 4 then 3 else if s.rest.phase = .running then 4 else 0)) ∧
  (s.fget Adr.pwrStat 2 0 = 1 → s.leaveRunBad = 0 → s.pwr.standby = false → ∃ t, exec .pwrTargetQuiet s = .next t ∧ t.fget Adr.pwrCtl 1 0 = 1 ∧ s.Only t [.regs, .events] ∧
    t.fget Adr.pwrStat 2 0 = (if (∀ h ∈ s.headList, h.run = .stopped) then 2 else 4)) ∧
  (s.fget Adr.pwrStat 2 0 = 1 → s.leaveRunBad ≠ 0 → ∃ t, exec .pwrTargetQuiet s = .next t ∧ exec .pwrTargetStandby s = .next t ∧ t.fget Adr.pwrStat 7 4 = s.leaveRunBad ∧
    t.fget Adr.pwrStat 2 0 = 1 ∧ s.Only t [.regs]) ∧
  (s.fget Adr.pwrStat 2 0 = 1 → s.leaveRunBad = 0 → ∃ t, exec .pwrTargetStandby s = .next t ∧ t.fget Adr.pwrCtl 1 0 = 2 ∧ t.fget Adr.pwrStat 2 0 = 4 ∧ t.pwr.standby = true ∧
    t.nv.flushing = true ∧ (s.mg.moult.state = .probation → s.mg.moult.rolling = false → s.mg.moult.reload = none → t.mg.moult.state = .committing) ∧
    (∀ e ∈ s.psn.chains, (768 + e.1 / 4) ∈ t.nv.queue)) ∧
  (s.fget Adr.pwrStat 2 0 = 2 → s.pwr.standby = false → ∃ t, exec .pwrTargetRun s = .next t ∧ t.fget Adr.pwrCtl 1 0 = 0 ∧ t.fget Adr.pwrStat 2 0 = 5 ∧ t.pwr.wakeFrom = s.now ∧
    s.Only t [.regs, .events, .power]) ∧
  (s.fget Adr.pwrStat 2 0 = 3 → s.pwr.standby = true → ∃ t, exec .pwrTargetRun s = .next t ∧ t.pwr.wakeFrom = s.now ∧ t.pwr.wakeWaits = false ∧ (t.pair 0).state = .boot ∧ (t.pair 1).state = .boot ∧
    t.mg.serving = 0) ∧
  (s.fget Adr.pwrStat 2 0 = 4 → ∃ t, exec .pwrTargetRun s = .next t ∧ t.pwr.wakeWaits = true ∧ t.fget Adr.pwrCtl 1 0 = 0 ∧ t.fget Adr.pwrStat 2 0 = 4 ∧ s.Only t [.regs, .power]) ∧
  (s.fget Adr.pwrStat 2 0 = 4 → s.pwr.standby = true → (∀ h ∈ s.headList, h.run = .stopped) → s.nv.queue = [] → s.nv.jobs = [] → s.mg.moult.reload = none →
    s.pwr.wakeWaits = false → s.pwr.warmWaits = none → ∃ t, exec .standbyEntryDone s = .next t ∧ t.fget Adr.pwrStat 2 0 = 3 ∧ t.nv.flushing = false ∧
    (t.pair 0).state = .off ∧ (t.pair 1).state = .off ∧ t.pwr = s.pwr) ∧
  (s.fget Adr.pwrStat 2 0 ≠ 4 ∨ s.pwr.standby = false ∨ s.nv.queue ≠ [] ∨ s.nv.jobs ≠ [] → exec .standbyEntryDone s = .next s) ∧
  (s.fget Adr.pwrStat 2 0 = 5 → s.pwr.standby = false ∨ (s.pair s.mg.serving).state = .serving → s.pwr.warmWaits = none → ∃ t, exec .wakeDone s = .next t ∧ t.fget Adr.pwrStat 2 0 = 1 ∧
    t.fget Adr.pwrStat 31 16 = min ((s.now - s.pwr.wakeFrom) / 500000) 65535 ∧ t.pwr = { s.pwr with standby := false, warmWaits := none } ∧
    ∀ h, (s.head h).run = .stopped → (s.head h).resume = true → (t.head h).lineAt.isSome = true) ∧
  (s.fget Adr.pwrStat 2 0 ≠ 5 → exec .wakeDone s = .next s)

/-- Restoring the last routes (R504, R505). -/
def Obligations.Restoring : Prop := ∀ (auto gated : Bool) (s : State), s.Good →
  (s.nv.phase ≠ .fault → ∃ t d, exec (.restoreConfigWrite auto gated) s = .next t ∧ t.nv = { s.nv with jobs := s.nv.jobs ++ [.page 512 d (.restore auto gated)] } ∧ s.Only t [.nv]) ∧
  (s.rest.phase = .waitGo → s.nv.gated = true → ∃ t, exec .restoreGo s = .next t ∧ t.rest = { s.rest with phase := .running } ∧ s.Only t [.restoration]) ∧
  (s.nv.gated = false → exec .restoreGo s = .next s) ∧
  (s.fwUp = true → s.nv.phase ≠ .recall → s.rest.phase = .waitRecall → s.nv.auto = false → ∃ t, exec .restoration s = .next t ∧ t.rest = { s.rest with phase := .idle } ∧ s.Only t [.restoration]) ∧
  (s.fwUp = true → s.nv.phase ≠ .recall → s.rest.phase = .waitRecall → s.nv.auto = true → s.nv.gated = true → ∃ t, exec .restoration s = .next t ∧ t.rest = { s.rest with phase := .waitGo }) ∧
  (s.fwUp = true → s.nv.phase ≠ .recall → s.rest.phase = .running → s.rest.begun = false → ∃ t, exec .restoration s = .next t ∧ t.rest.begun = true ∧ t.rest.since = s.now) ∧
  (s.fwUp = true → s.nv.phase ≠ .recall → s.rest.phase = .running → s.rest.begun = true → s.rest.waiting = [] → s.rest.landing = [] →
    ∃ t, exec .restoration s = .next t ∧ t.rest = { s.rest with phase := .done } ∧ s.Occurred t 284) ∧
  (s.fwUp = false ∨ s.nv.phase = .recall → exec .restoration s = .next s) ∧
  (s.rest.phase = .running → s.rest.begun = true → s.rest.since + msTicks 5000 ≤ s.now → ∃ t, exec .restorePolderTimeout s = .next t ∧ t.rest.waiting = [] ∧
    t.rest.failed = s.rest.failed + s.rest.waiting.length) ∧
  (s.rest.phase ≠ .running → exec .restorePolderTimeout s = .next s)

/-- The NV descriptors: pages are read from the mirror, written as records, counters read and incremented (R449, R450, R458, R460, R466 to R468). -/
def Obligations.NvCommands : Prop := ∀ (n : Fin 64) (data : Option (List Byte)) (s : State), s.Good →
  (∀ j u, s.Starts n 0x70 j u → u16 j.d 8 ≤ 1023 → 1 ≤ u16 j.d 12 → u16 j.d 12 ≤ 256 → ubit j.d 11 0 = false → s.nv.phase ≠ .recall →
    ∃ t, exec (.opNvRead n true) s = .next t ∧ t.nv = s.nv ∧
      t.Answered j csOk (BitVec.ofNat 64 ((s.nvPage (u16 j.d 8)).shownSeq % 4294967296 + 4294967296 * u16 j.d 12)) ∧
      t.hif.hostMem = (s.hostWrite (u64 j.d 16) ((List.range (u16 j.d 12)).map fun i => (s.nvPage (u16 j.d 8)).byte (u16 j.d 8) ((u8 j.d 10 + i) % 256))).hif.hostMem) ∧
  (∀ j u, s.Starts n 0x70 j u → u16 j.d 8 ≤ 1023 → 1 ≤ u16 j.d 12 → u16 j.d 12 ≤ 256 → ubit j.d 11 0 = false → s.nv.phase = .recall →
    ∃ t, exec (.opNvRead n true) s = .next t ∧ t.nv = s.nv ∧ t.Answered j csRecall 0) ∧
  (∀ j u, s.Starts n 0x71 j u → u16 j.d 8 < 896 → (256 ≤ u16 j.d 8 → j.priv = true) → 1 ≤ u16 j.d 12 → u16 j.d 12 ≤ 256 →
    (ubit j.d 11 0 = true → s.nvPending (u16 j.d 8) = none ∧ (s.nvPage (u16 j.d 8)).shownSeq = u32 j.d 24) → s.nv.phase = .ready →
    data.isSome = true → s.nvNoSpace (u16 j.d 8) = false → s.holdupOk = true → ∃ t, exec (.opNvWrite n data) s = .next t ∧ t.Waits j ∧
      t.nv = { s.nv with jobs := s.nv.jobs ++ [.page (u16 j.d 8)
        (NvData.ofBytes (nvMerge (s.nvBytes (u16 j.d 8)) (dmaFit (data.getD []) (u16 j.d 12)) (u8 j.d 10))) (.desc j.ring j.stamp)] }) ∧
  (∀ j u, s.Starts n 0x71 j u → u16 j.d 8 < 896 → (256 ≤ u16 j.d 8 → j.priv = true) → 1 ≤ u16 j.d 12 → u16 j.d 12 ≤ 256 →
    ubit j.d 11 0 = true → (s.nvPage (u16 j.d 8)).shownSeq ≠ u32 j.d 24 → ∃ t, exec (.opNvWrite n data) s = .next t ∧ t.Answered j csState 0 ∧ t.nv = s.nv) ∧
  (∀ j u, s.Starts n 0x72 j u → u8 j.d 9 = 0 → u8 j.d 8 ≤ 63 → (32 ≤ u8 j.d 8 → j.priv = true) → s.nv.phase ≠ .recall →
    ∃ t, exec (.nvCountRead n) s = .next t ∧ t.nv = s.nv ∧ t.Answered j csOk (BitVec.ofNat 64 (s.ctrValue (u8 j.d 8)))) ∧
  (∀ j u, s.Starts n 0x72 j u → u8 j.d 9 = 1 → u8 j.d 8 ≤ 63 → (32 ≤ u8 j.d 8 → j.priv = true) → s.nv.phase = .ready → s.holdupOk = true →
    ∃ t, exec (.nvCountIncrement n) s = .next t ∧ t.Waits j ∧ t.nv = { s.nv with jobs := s.nv.jobs ++ [.cell (u8 j.d 8) 0 (.desc j.ring j.stamp)] }) ∧
  (∀ j u, s.Starts n 0x72 j u → u8 j.d 9 = 1 → 32 ≤ u8 j.d 8 → u8 j.d 8 ≤ 63 → j.priv = false →
    ∃ t, exec (.nvCountIncrement n) s = .next t ∧ t.Answered j csPriv 0 ∧ t.nv = s.nv)

/-- The flash programs, erases, compacts, scrubs and recalls (R451 to R457, R460, R461, R463, R464). -/
def Obligations.NvFlash : Prop := ∀ (n : Fin 4096) (ms base : Nat) (f : NvFound) (s : State), s.Good →
  (∀ p d r st rest k i, s.nv.jobs = .page p d (.desc r st) :: rest → s.holdupOk = true → s.nvNextSlot = some (k, i) →
    ∃ t, exec (.nvRecordAck true) s = .next t ∧ t.nvPage p = { data := d, seq := s.nv.seq + 1 } ∧ t.nv.seq = s.nv.seq + 1 ∧ t.nv.jobs = rest ∧
      (∀ q, q ≠ p → t.nvPage q = s.nvPage q) ∧ ∀ j, j.ring = r → j.stamp = st → s.Has j → t.Answered j csOk (BitVec.ofNat 64 (s.nv.seq + 1))) ∧
  (∀ p d r st rest k i, s.nv.jobs = .page p d (.desc r st) :: rest → s.holdupOk = true → s.nvNextSlot = some (k, i) →
    ∃ t, exec (.nvRecordAck false) s = .next t ∧ t.nv.pages = s.nv.pages ∧ t.nv.seq = s.nv.seq ∧ t.nv.jobs = rest ∧ t.flag Adr.nvCause 1 = true ∧
      ∀ j, j.ring = r → j.stamp = st → s.Has j → t.Answered j csNvFail 0) ∧
  (s.holdupOk = false → exec (.nvRecordAck true) s = .next s ∧ exec (.nvCellAck true) s = .next s) ∧
  (∀ c tries r st rest, s.nv.jobs = .cell c tries (.desc r st) :: rest → s.holdupOk = true → ((s.ctr c).full = true → (s.ctr c).otherErased = true) →
    ∃ t, exec (.nvCellAck true) s = .next t ∧ t.ctrValue c = s.ctrValue c + 1 ∧ t.nv.jobs = rest ∧ (∀ k, k ≠ c → t.ctr k = s.ctr k) ∧
      ((s.ctr c).full = true → (t.ctr c).epoch = (s.ctr c).epoch + 1 ∧ .counter c ∈ t.nv.erases) ∧
      ∀ j, j.ring = r → j.stamp = st → s.Has j → t.Answered j csOk (BitVec.ofNat 64 (s.ctrValue c + 1))) ∧
  (∀ c tries w rest, s.nv.jobs = .cell c tries w :: rest → s.holdupOk = true → (s.ctr c).full = false → tries + 1 < 3 →
    ∃ t, exec (.nvCellAck false) s = .next t ∧ t.ctrValue c = s.ctrValue c ∧ (t.ctr c).used = (s.ctr c).used + 1 ∧ t.nv.jobs = .cell c (tries + 1) w :: rest ∧
      t.flag Adr.nvCause 1 = true) ∧
  (∀ k rest, s.nv.erases = .record k :: rest → s.nv.erasing = true → ∃ t, exec (.nvEraseDone true) s = .next t ∧ t.nv.erases = rest ∧
    t.nvSector k = { seq := 0, recs := [], erases := (s.nvSector k).erases + 1, retired := (s.nvSector k).retired }) ∧
  (∀ k rest, s.nv.erases = .record k :: rest → s.nv.erasing = true → ∃ t, exec (.nvEraseDone false) s = .next t ∧ t.nv.erases = rest ∧
    (t.nvSector k).retired = true ∧ t.flag Adr.nvCause 1 = true) ∧
  (∀ p, s.nv.phase = .ready → s.holdupOk = true → (s.nv.flushing = true ∨ s.nv.lastPaced = none ∨ ∃ x, s.nv.lastPaced = some x ∧ x + msTicks 2000 ≤ s.now) →
    (∀ q d b, NvJob.page q d (.paced b) ∉ s.nv.jobs) → s.nextPaced = some p → ∃ t, exec .pacedWrite s = .next t ∧
      t.nv.jobs = s.nv.jobs ++ [.page p (s.sysData p) (.paced p)] ∧ t.nv.queue = s.nv.queue.filter (· ≠ p) ∧ t.nv.lastPaced = some s.now) ∧
  (∀ k, s.nv.phase = .ready → s.holdupOk = true → s.nvErased < 4 → s.nvOldest = some k → ∃ t, exec .nvCompaction s = .next t ∧
    .record k ∈ t.nv.erases ∧ t.nv.pages = s.nv.pages ∧ t.nv.seq = s.nv.seq ∧ s.Only t [.nv]) ∧
  (4 ≤ s.nvErased → exec .nvCompaction s = .next s) ∧
  (s.nv.phase = .ready → s.holdupOk = true → s.nv.lastScrub + msTicks 3600000 * s.fget Adr.nvCfg 7 0 ≤ s.now →
    (∃ t, exec (.nvScrub [] base) s = .next t ∧ t.nv = { s.nv with lastScrub := s.now } ∧ t.fget Adr.nvScrub 15 0 = min (s.fget Adr.nvScrub 15 0 + base) 65535 ∧
      s.Only t [.regs, .nv]) ∧
    ∀ k i r, (s.nvSector k).recs[i]? = some r → s.nvInForce r = true → ∃ t, exec (.nvScrub [(k, i, 255)] 0) s = .next t ∧ t.nv.lastScrub = s.now ∧ t.nv.pages = s.nv.pages ∧
      t.flag Adr.nvCause 2 = true ∧ t.flag Adr.nvCause 4 = true) ∧
  (1000 ≤ n.val → ∃ t, exec (.holdupReady n) s = .next t ∧ t.nv.energy = n.val ∧ s.Only t [.nv] ∧
    (s.nv.phase = .ready → t.nv.voids = [] ∧ t.nv.erasing = !s.nv.erases.isEmpty)) ∧
  (n.val < 1000 → exec (.holdupReady n) s = .next s) ∧
  (∀ p d r st rest k i, s.nv.jobs = .page p d (.desc r st) :: rest → s.holdupOk = true → s.nvNextSlot = some (k, i) → ∃ t, exec (.flashTimeout true) s = .next t ∧
    t.nv.jobs = rest ∧ t.nv.phase = s.nv.phase ∧ t.flag Adr.nvCause 1 = true ∧ ∀ j, j.ring = r → j.stamp = st → s.Has j → t.Answered j csNvFail 0) ∧
  (s.nv.jobs = [] → s.nv.erases ≠ [] → s.nv.erasing = true → ∃ t, exec (.flashTimeout false) s = .next t ∧ t.nv.phase = .fault ∧ t.nv.erasing = false ∧ t.flag Adr.nvCause 1 = true) ∧
  (s.nv.jobs = [] → s.nv.erasing = false → exec (.flashTimeout false) s = .next s) ∧
  (s.nv.phase = .recall → s.nv.scanned = none → ∃ t, exec (.recallScan f) s = .next t ∧ t.nv.scanned.isSome = true ∧ t.nv.phase = .recall ∧ t.nv.torn = [] ∧
    (s.nv.seq ≤ t.nv.seq ∧ ∀ r ∈ s.recallRecs f, r.seq ≤ t.nv.seq) ∧ ∀ k ∈ f.bad, .record k ∈ t.nv.erases) ∧
  (∀ tw, s.nv.phase = .recall → s.nv.scanned = some tw → ∃ t, exec (.recallDone ms) s = .next t ∧ t.nv.phase = .ready ∧ t.nv.scanned = none ∧ t.nv.pages = s.nv.pages ∧
    t.nv.lastScrub = s.now ∧ t.flag Adr.nvCause 5 = true) ∧
  (s.nv.phase ≠ .recall ∨ s.nv.scanned = none → exec (.recallDone ms) s = .next s)

/-- Breaches, the mapping of the always-on count, the coin cell, scrubs and the credit audit (R33, R78, R307, R435 to R443, R515 to R518). That
the credits are checked at this command is the model's reading of the cadence
(log 78). -/
def Obligations.BreachesAndScrubs : Prop := ∀ (cause live : BitVec 6) (mv : BitVec 12) (present : Bool) (hs : List HbmErr) (ws : List SramErr) (f : QueueFault)
    (s : State), s.Good →
  (s.armed cause = if s.coc.transport then cause &&& 0x13 else cause) ∧
  (s.armed cause ≠ 0 → ∃ t, exec (.breach cause) s = .next t ∧ t.coc.root = none ∧ t.coc.original = false ∧ t.coc.slots = [] ∧ t.coc.pending = true ∧
    t.coc.tamperOut = true ∧ t.coc.breaches = min (s.coc.breaches + 1) 65535 ∧ t.coc.live = (BitVec.ofNat 6 s.coc.live ||| s.armed cause).toNat ∧
    t.psn.stopped = true ∧ t.psn.signing = none ∧ t.psn.queue = [] ∧ (∀ m : Fin 64, (t.sq m).priv = false) ∧ (∀ h : Fin 256, (t.dike h).slot = none)) ∧
  (s.armed cause = 0 → exec (.breach cause) s = .next s) ∧
  (∃ t, exec (.breachAck live) s = .next t ∧ s.Only t [.cocoon] ∧ t.coc = { s.coc with
    live := live.toNat, pending := decide (live ≠ 0) && s.coc.pending, tamperOut := decide (live ≠ 0) && s.coc.tamperOut }) ∧
  (s.fget Adr.pwrStat 2 0 = 1 → s.coc.mapSec ≠ some s.phcSec → ∃ t, exec .aonMapping s = .next t ∧ s.Only t [.regs, .cocoon] ∧
    t.rd Adr.mapAonLo + 4294967296 * t.rd Adr.mapAonHi = s.aon ∧ t.rd Adr.mapSecLo + 4294967296 * t.rd Adr.mapSecHi = s.phcSec ∧
    t.coc = { s.coc with mapSec := some s.phcSec }) ∧
  ((∀ b, s.coc.battAt = some b → b + msTicks 3600000 ≤ s.now) → ∃ t, exec (.battMeasure mv present) s = .next t ∧
    t.fget Adr.batt 11 0 = mv.toNat ∧ (t.flag Adr.batt 12 = true ↔ mv.toNat < 2600) ∧ (t.flag Adr.batt 13 = true ↔ present = true) ∧
    t.coc = { s.coc with battAt := some s.now } ∧ (mv.toNat < 2600 → t.flag Adr.cocCause 1 = true) ∧ s.Only t [.regs, .events, .cocoon]) ∧
  (s.scrub.hbmAt + msTicks (3600000 * s.fget Adr.scrub 4 0) ≤ s.now → ∃ t, exec (.patrolScrub hs) s = .next t ∧ t.scrub = { s.scrub with hbmAt := s.now } ∧
    s.Only t [.regs, .events, .scrub] ∧ ∀ e, hs = [e] → s.Occurred t 309 ∧
      (e.corrected = true → t.fget Adr.hbmEcc 15 0 = min (s.fget Adr.hbmEcc 15 0 + 1) 65535) ∧
      (e.corrected = false → t.fget Adr.hbmEcc 31 16 = min (s.fget Adr.hbmEcc 31 16 + 1) 65535 ∧
        t.rd Adr.hbmUeLo + 4294967296 * t.fget Adr.hbmUeHi 3 0 = e.addr.toNat)) ∧
  (s.scrub.sramAt + msTicks (1000 * s.fget Adr.scrub 13 8) ≤ s.now → ∃ t, exec (.sramScrub ws) s = .next t ∧ t.scrub.sramAt = t.now ∧
    (ws = [] → s.Only t [.scrub]) ∧ ∀ w, ws = [w] → (w.corrected = true → s.Occurred t 310 ∧ s.Only t [.regs, .events, .scrub] ∧
      t.fget Adr.sramEcc 15 0 = min (s.fget Adr.sramEcc 15 0 + 1) 65535) ∧
      (w.corrected = false → (w.use = .pixels ∨ w.use = .push) → s.Occurred t 310 ∧ s.Only t [.regs, .events, .scrub] ∧
        t.fget Adr.sramEcc 31 16 = min (s.fget Adr.sramEcc 31 16 + 1) 65535)) ∧
  (s.mismatched = [] → exec (.creditAudit []) s = .next s) ∧
  (∀ g o, s.mismatched = [] → ((s.queueUpset f).queue f.queue).sumOk f.queue.depth = false → f.queue.cls = .audioGroup g ∨ f.queue.cls = .audioRoute o →
    ∃ t, exec (.creditAudit [f]) s = .next t ∧ s.Occurred t 311 ∧ t.fget Adr.audit 15 0 = min (s.fget Adr.audit 15 0 + 1) 65535 ∧
      t.fget Adr.audit 31 16 = f.queue.ident.toNat ∧ t.queue f.queue = Dcq.reset ∧ t.mismatched = [])

/-- What the host link, the pairs and the expert window reach: registers, BAR2, and accesses that reach nothing (R8, R9, R37, R483, R484, R530 to
R538). REGISTER_READ and REGISTER_WRITE are stated for every register that an address reaches; WINDOW_WRITE, BAR2_ACCESS, UNMAPPED_ACCESS and
BAD_SIZE_ACCESS for every address of their aperture. -/
def Obligations.HostAccesses : Prop := ∀ (who : Fin 3) (n : Fin 64) (addr v off : BitVec 32) (len : Nat) (l : List Byte) (ecc : List HbmErr) (write : Bool) (s : State), s.Good →
  (∀ b r i j, addr.toNat < 67108864 → addr.toNat % 4 = 0 → s.reach addr.toNat = some (b, r, i, j) → r.base ≠ Adr.nowNs → s.measured r.base i = false →
    (∀ x, (s.unlatch who b).1 = some x → ∃ t, exec (.registerRead who addr) s = .next t ∧ t.reply = .word x ∧ (t.unlatch who b).1 = none ∧ t.regs = s.regs) ∧
    ((s.unlatch who b).1 = none → ∃ t, exec (.registerRead who addr) s = .next t ∧
      t.reply = .word (BitVec.ofNat 32 ((s.winEnd addr.toNat).regValue b r.base i j)))) ∧
  (∀ b r i j, addr.toNat < 67108864 → addr.toNat % 4 = 0 → s.reach addr.toNat = some (b, r, i, j) → r.base ≠ Adr.nowNs → s.measured r.base i = true →
    ∃ t x, exec (.registerRead who addr) s = .next t ∧ t.reply = .word x ∧ t.free = s.free + 1) ∧
  (exec (.registerRead who (BitVec.ofNat 32 Adr.nowNs)) s = exec (.phcNowRead who) s) ∧
  (∀ b r i j, addr.toNat < 67108864 → addr.toNat % 4 = 0 → inWindow addr.toNat = false → s.fget Adr.pwrStat 2 0 ≠ 6 → s.reach addr.toNat = some (b, r, i, j) →
    ∃ t, exec (.registerWrite addr v) s = .next t ∧ t = s.writeReg b r i j v.toNat) ∧
  (s.fget Adr.pwrStat 2 0 ≠ 6 → exec (.registerWrite (BitVec.ofNat 32 (Adr.sqDb n)) v) s = exec (.doorbell n v) s ∧
    exec (.registerWrite (BitVec.ofNat 32 Adr.lvCfg) v) s = exec (.leaveCfgWrite v) s ∧
    exec (.registerWrite (BitVec.ofNat 32 Adr.swRaise) v) s = exec (.swRaise v) s ∧
    exec (.registerWrite (BitVec.ofNat 32 Adr.incrFrac) v) s = exec (.phcIncrWrite v) s) ∧
  (∀ b r i j, addr.toNat < 67108864 → addr.toNat % 4 = 0 → inWindow addr.toNat = true → s.fget Adr.pwrStat 2 0 ≠ 6 → s.reach addr.toNat = some (b, r, i, j) →
    exec (.registerWrite addr v) s = exec (.windowWrite addr v) s ∧
    (s.flag Adr.winCtl 0 = false → ∃ t, exec (.windowWrite addr v) s = .next t ∧ t.fget Adr.winStat 31 16 = min (s.fget Adr.winStat 31 16 + 1) 65535 ∧
      s.Only t [.regs, .mgmt]) ∧
    (s.flag Adr.winCtl 0 = true → ∃ t, exec (.windowWrite addr v) s = .next t ∧
      (isCmt r.base = true → t.regs = s.regs ∧ s.Only t [.mgmt]) ∧
      (isCmt r.base = false → t = (if winMirrors.contains r.base then (s.winEnd addr.toNat).winMirror r.base i j v.toNat
        else (s.winEnd addr.toNat).writeReg b r i j v.toNat)) ∧
      (r.base = Adr.dithCtl 0 → t.dith i = { s.dith i with mode := bits v.toNat 1 0 } ∧ s.Only t [.colour, .mgmt]))) ∧
  (addr.toNat < 67108864 → addr.toNat % 4 = 0 → s.reach addr.toNat = none →
    exec (.registerRead who addr) s = exec (.unmappedAccess addr false) s ∧
    ∃ t, exec (.unmappedAccess addr write) s = .next t ∧ (t.reply = if write then s.reply else .word 0) ∧
      (inWindow addr.toNat = false → t.fget Adr.glbAccErr 15 0 = min (s.fget Adr.glbAccErr 15 0 + 1) 65535 ∧ t.rd Adr.glbAccAddr = addr.toNat ∧
        s.Only t [.regs, .reply]) ∧
      (inWindow addr.toNat = true → t.fget Adr.winStat 15 0 = min (s.fget Adr.winStat 15 0 + 1) 65535 ∧ t.mg.winRun = true)) ∧
  (addr.toNat < 67108864 → ∃ t, exec (.badSizeAccess addr write) s = .next t ∧ (t.reply = if write then s.reply else .word 0) ∧
    t.fget Adr.glbAccErr 31 16 = min (s.fget Adr.glbAccErr 31 16 + 1) 65535 ∧ t.rd Adr.glbAccAddr = addr.toNat ∧ s.Only t [.regs, .reply] ∧
    (addr.toNat % 4 ≠ 0 → exec (.registerRead who addr) s = exec (.badSizeAccess addr false) s ∧ exec (.registerWrite addr v) s = exec (.badSizeAccess addr true) s)) ∧
  (off.toNat + len ≤ 268435456 → s.fget Adr.pwrStat 2 0 ≠ 3 → ∃ t bs, exec (.bar2Access off (.inl len) ecc) s = .next t ∧ t.reply = .bytes bs ∧ bs.length = len ∧
    ∀ k < len, (s.inDikeStore (s.bar2Addr off.toNat + k) = true → bs[k]? = some 0) ∧
      ∀ b, s.inDikeStore (s.bar2Addr off.toNat + k) = false → s.hbmKnown (s.bar2Addr off.toNat + k) = some b → bs[k]? = some b) ∧
  (off.toNat + l.length ≤ 268435456 → s.fget Adr.pwrStat 2 0 ≠ 3 → ∃ t, exec (.bar2Access off (.inr l) ecc) s = .next t ∧ s.Only t [.regs, .events, .hbm] ∧
    (∀ k < l.length, s.inDikeStore (s.bar2Addr off.toNat + k) = false → Tab.get (fun _ => none) t.hbm (s.bar2Addr off.toNat + k) = l[k]?) ∧
    ∀ x, s.inDikeStore x = true ∨ x < s.bar2Addr off.toNat ∨ s.bar2Addr off.toNat + l.length ≤ x →
      Tab.get (fun _ => none) t.hbm x = Tab.get (fun _ => none) s.hbm x) ∧
  (off.toNat + len ≤ 268435456 → s.fget Adr.pwrStat 2 0 = 3 → ∃ t, exec (.bar2Access off (.inl len) ecc) s = .next t ∧ t.reply = .bytes (List.replicate len 0) ∧
    t.fget Adr.glbAccErr 15 0 = min (s.fget Adr.glbAccErr 15 0 + 1) 65535 ∧ s.Only t [.regs, .reply])

/-- PMBus (R406, R553, R554): what every command of R553 answers and changes, and a command that the module does not answer. The places of the bits
of STATUS_WORD are those of PMBus 1.3 (presumed, log 41). -/
def Obligations.PmbusCommands : Prop := ∀ (w : BitVec 16) (x code : BitVec 8) (write : Bool) (s : State), s.Good →
  (∃ t, exec .clearFaults s = .next t ∧ t.reply = .none ∧ s.Only t [.sheds, .reply] ∧ t.lv = { s.lv with
    stInput := decide (s.lv.band ≠ 0), stTemp := decide (s.lv.thermal ≠ 0 ∨ s.lv.tripped = true), stCml := false, stOther := s.coc.pending } ∧
    (t.alert = true ↔ s.lv.band ≠ 0 ∨ s.lv.thermal ≠ 0 ∨ s.lv.tripped = true ∨ s.coc.pending = true)) ∧
  (∃ t, exec .statusWord s = .next t ∧ s.Only t [.reply] ∧ ∃ v, t.reply = .bytes (leBytes 2 v) ∧
    (bits v 13 13 = 1 ↔ s.lv.stInput = true ∨ s.lv.band ≠ 0) ∧ (bits v 9 9 = 1 ↔ s.lv.stOther = true ∨ s.coc.pending = true) ∧
    (bits v 2 2 = 1 ↔ s.lv.stTemp = true ∨ s.lv.thermal ≠ 0 ∨ s.lv.tripped = true) ∧ (bits v 1 1 = 1 ↔ s.lv.stCml = true) ∧
    (s.alert = true ↔ v ≠ 0)) ∧
  (∃ t, exec .readVin s = .next t ∧ s.Only t [.reply] ∧ t.reply = .bytes (leBytes 2 (Config.linear11 0 (s.fget Adr.lvVin 15 0)).toNat)) ∧
  (∃ t, exec .readTemperature1 s = .next t ∧ s.Only t [.reply] ∧ t.reply = .bytes (leBytes 2 (Config.linear11 2 (s.fget Adr.lvTcp 10 0)).toNat)) ∧
  (∃ t, exec .readTemperature2 s = .next t ∧ s.Only t [.reply] ∧ t.reply = .bytes (leBytes 2 (Config.linear11 2 (s.fget Adr.lvTjMax 10 0)).toNat)) ∧
  (∃ t, exec .readPin s = .next t ∧ s.Only t [.reply] ∧ t.reply = .bytes (leBytes 2 (Config.linear11 1 (s.fget Adr.lvPin 12 0)).toNat)) ∧
  (∃ t v, exec .readIin s = .next t ∧ s.Only t [.reply, .free] ∧ t.reply = .bytes (leBytes 2 v) ∧ t.free = s.free + 1) ∧
  (∃ t, exec .mfrId s = .next t ∧ s.Only t [.reply] ∧ t.reply = .bytes (label "Getrum")) ∧
  (∃ t, exec .mfrModel s = .next t ∧ s.Only t [.reply] ∧ t.reply = .bytes (label (if Config.identity 2 = 1 then "IZM2560-A1" else "IZM2560-A0"))) ∧
  (∃ t l, exec .mfrSerial s = .next t ∧ s.Only t [.reply] ∧ t.reply = .bytes l ∧ l.length = 25 ∧ (∀ b ∈ l, 0x30 ≤ b.toNat ∧ b.toNat ≤ 0x39) ∧
    l.foldl (fun a b => 10 * a + (b.toNat - 0x30)) 0 = leNat ((List.range 10).map fun i => Config.identity (6 + i))) ∧
  (∃ t, exec (.mfrPowerLimit none) s = .next t ∧ s.Only t [.reply] ∧ t.reply = .bytes (leBytes 2 (s.lv.pmPow.getD 0))) ∧
  (w = 0 ∨ 4120 ≤ w.toNat ∧ w.toNat ≤ 8400 → ∃ t, exec (.mfrPowerLimit (some w)) s = .next t ∧ t.reply = .none ∧
    t.lv.pmPow = (if w = 0 then none else some w.toNat) ∧ t.lv.powFree + t.lv.powWith = s.lv.powFree + s.lv.powWith ∧
    t.lv.powWith = (if s.lv.powWith ≤ t.powTarget then min t.powTarget (s.lv.powWith + s.lv.powFree) else t.powTarget)) ∧
  (¬(w = 0 ∨ 4120 ≤ w.toNat ∧ w.toNat ≤ 8400) → ∃ t, exec (.mfrPowerLimit (some w)) s = .next t ∧ t.reply = .nack ∧ s.Only t [.sheds, .reply] ∧
    t.lv = { s.lv with stCml := true }) ∧
  (∃ t, exec (.mfrFetchLimit none) s = .next t ∧ s.Only t [.reply] ∧ t.reply = .bytes (leBytes 2 (s.lv.pmFet.getD 0xFFFF))) ∧
  (w = 0xFFFF ∨ w.toNat ≤ 2000 → ∃ t, exec (.mfrFetchLimit (some w)) s = .next t ∧ t.reply = .none ∧
    t.lv.pmFet = (if w = 0xFFFF then none else some w.toNat) ∧ t.lv.fetFree + t.lv.fetWith = s.lv.fetFree + s.lv.fetWith ∧
    t.lv.fetWith = (if s.lv.fetWith ≤ t.fetTarget then min t.fetTarget (s.lv.fetWith + s.lv.fetFree) else t.fetTarget)) ∧
  (¬(w = 0xFFFF ∨ w.toNat ≤ 2000) → ∃ t, exec (.mfrFetchLimit (some w)) s = .next t ∧ t.reply = .nack ∧ s.Only t [.sheds, .reply] ∧
    t.lv = { s.lv with stCml := true }) ∧
  (∃ t, exec (.mfrState none) s = .next t ∧ s.Only t [.reply] ∧ t.reply = .bytes [BitVec.ofNat 8 (s.fget Adr.pwrStat 2 0)]) ∧
  (∃ t u v, exec (.mfrState (some 0)) s = .next { t with reply := .none } ∧ exec .pwrTargetRun s = .next t ∧
    exec (.mfrState (some 1)) s = .next { u with reply := .none } ∧ exec .pwrTargetQuiet s = .next u ∧
    exec (.mfrState (some 2)) s = .next { v with reply := .none } ∧ exec .pwrTargetStandby s = .next v) ∧
  (2 < x.toNat → ∃ t, exec (.mfrState (some x)) s = .next t ∧ t.reply = .nack ∧ s.Only t [.sheds, .reply] ∧ t.lv = { s.lv with stCml := true }) ∧
  ((if write then [0x03, 0xD0, 0xD1, 0xD2] else [0x79, 0x88, 0x89, 0x8D, 0x8E, 0x97, 0x99, 0x9A, 0x9E, 0xD0, 0xD1, 0xD2]).contains code.toNat = false →
    ∃ t, exec (.pmbusUnsupported code write) s = .next t ∧ t.reply = .nack ∧ s.Only t [.sheds, .reply] ∧ t.lv = { s.lv with stCml := true })

/-- The operation of job `j` has begun: its use is counted first where it uses a counted key (R425), at once for an ephemeral key, by a cell of
the key's wear counter for a key that lasts. -/
def Sys2Proof.Machine.State.KeyRuns (s t : State) (j : Job) (input : Option (List Byte)) (key : Option Key) (digest : List Byte) : Prop :=
  t.Waits j ∧
  ((∀ k, s.usedKey j.d = some k → k.counted = false) →
    t.coc.ops = s.coc.ops ++ [j.keyOp input .running key digest] ∧ t.coc.slots = s.coc.slots ∧ t.nv = s.nv) ∧
  (∀ i b k, kUsed j.d = some (i, b) → s.usedKey j.d = some k → k.counted = true → k.ephemeral = true →
    t.coc.ops = s.coc.ops ++ [j.keyOp input .running key digest] ∧ t.key i = some { k with used := k.used + 1 } ∧ t.nv = s.nv) ∧
  (∀ k, s.usedKey j.d = some k → k.counted = true → k.ephemeral = false →
    t.coc.ops = s.coc.ops ++ [j.keyOp input .counting key digest] ∧ t.coc.slots = s.coc.slots ∧
    (s.nv.phase ≠ .fault → t.nv.jobs = s.nv.jobs ++ [.cell k.counter 0 (.op j.ring j.stamp)]))

/-- OP_KEY starts: each subcode whose checks pass begins its operation or answers at once (R425 to R428, R432). -/
def Obligations.KeyCommands : Prop := ∀ (n : Fin 64) (data : Option (List Byte)) (s : State), s.Good → ∀ (j : Job) (u : State), s.Starts n 0x80 j u → u.keyCheck j = none →
  (kSub j.d = 0x01 → ∃ t, exec (.keyGenerate n) s = .next t ∧ s.KeyRuns t j (some []) (some (s.newKey j)) []) ∧
  ((keyInput j.d data).isSome = true →
    (kSub j.d = 0x02 → ∃ t, exec (.keyImport n data) s = .next t ∧ s.KeyRuns t j (keyInput j.d data) (some (s.newKey j)) []) ∧
    (kSub j.d = 0x03 → ∃ t, exec (.keyDerive n data) s = .next t ∧ s.KeyRuns t j (keyInput j.d data) (some (s.newKey j)) []) ∧
    (kSub j.d = 0x11 → ∃ t, exec (.keySign n data) s = .next t ∧ s.KeyRuns t j (keyInput j.d data) none []) ∧
    (kSub j.d = 0x12 → ∃ t, exec (.keyVerify n data) s = .next t ∧ s.KeyRuns t j (keyInput j.d data) none []) ∧
    (kSub j.d = 0x13 → ∃ t, exec (.keyMac n data) s = .next t ∧ s.KeyRuns t j (keyInput j.d data) none []) ∧
    (kSub j.d = 0x14 → ∃ t, exec (.keyEncrypt n data) s = .next t ∧ s.KeyRuns t j (keyInput j.d data) none []) ∧
    (kSub j.d = 0x15 → ∃ t, exec (.keyDecrypt n data) s = .next t ∧ s.KeyRuns t j (keyInput j.d data) none []) ∧
    (kSub j.d = 0x16 → ∃ t, exec (.keyHash n data) s = .next t ∧ s.KeyRuns t j (keyInput j.d data) none []) ∧
    (kSub j.d = 0x17 → ∃ t, exec (.keyAttest n data) s = .next t ∧ s.KeyRuns t j (keyInput j.d data) none []) ∧
    (kSub j.d = 0x19 → ∃ t g, exec (.keyRespond n data) s = .next t ∧ s.KeyRuns t j (keyInput j.d data) none g ∧ (∀ e ∈ t.coc.challenges, e.ring ≠ j.ring) ∧
      (∀ c, (s.coc.challenges.find? fun e => e.ring == j.ring) = some c → c.owner = j.owner → s.now < c.since + msTicks 10000 →
        g = sha384 (unlockMessage j.ring j.owner c.bytes)) ∧
      ((s.coc.challenges.find? fun e => e.ring == j.ring) = none → g = [])) ∧
    (kSub j.d = 0x20 → ∃ t, exec (.keyAdminSet n data) s = .next t ∧ s.KeyRuns t j (keyInput j.d data) none [])) ∧
  (kSub j.d = 0x21 → ∃ t, exec (.keyRecommission n) s = .next t ∧ s.KeyRuns t j (some []) none []) ∧
  (kSub j.d = 0x16 → keyInput j.d data = none → ∃ t, exec (.keyHash n data) s = .next t ∧ t.Answered j csDmaErr 0) ∧
  (∀ k, kSub j.d = 0x04 → ubit j.d 13 2 = false → s.key (kSlot j.d) = some k → ∃ t, exec (.keyDelete n) s = .next t ∧
    (k.ephemeral = true → t.Answered j csOk 0 ∧ t.key (kSlot j.d) = none) ∧
    (k.ephemeral = false → s.nv.phase ≠ .fault → t.Waits j ∧ t.key (kSlot j.d) = some k ∧ t.coc.ops = s.coc.ops ++ [j.keyOp (some []) .writing none []] ∧
      ∃ d, t.nv.jobs = s.nv.jobs ++ [.page (896 + kSlot j.d / 2) d (.op j.ring j.stamp)])) ∧
  (∀ k, kSub j.d = 0x05 → s.key (kSlot j.d) = some k → ∃ t, exec (.keyLimit n) s = .next t ∧
    (k.ephemeral = true → t.Answered j csOk (BitVec.ofNat 64 (s.keyUses k)) ∧ t.key (kSlot j.d) = some { k with limit := u32 j.d 16 }) ∧
    (k.ephemeral = false → s.nv.phase ≠ .fault → t.Waits j ∧ t.coc.ops = s.coc.ops ++ [j.keyOp (some []) .writing (some { k with limit := u32 j.d 16 }) []] ∧
      ∃ d, t.nv.jobs = s.nv.jobs ++ [.page (896 + kSlot j.d / 2) d (.op j.ring j.stamp)])) ∧
  (∀ k, kSub j.d = 0x10 → s.key (kSlot j.d) = some k → ∃ t, exec (.keyInfo n true) s = .next t ∧ t.Answered j csOk (BitVec.ofNat 64 (s.infoBytes (kSlot j.d) k).length) ∧
    t.hif.hostMem = (s.hostWrite (u64 j.d 40) (s.infoBytes (kSlot j.d) k)).hif.hostMem ∧ t.coc = s.coc) ∧
  (kSub j.d = 0x18 → ∃ t c, exec (.keyChallenge n true) s = .next t ∧ t.Answered j csOk 0 ∧ c = { ring := j.ring, owner := j.owner, bytes := (s.draw 48).1, since := s.now } ∧
    t.coc.challenges = (s.coc.challenges.filter fun e => e.ring ≠ j.ring) ++ [c] ∧ t.hif.hostMem = (s.hostWrite (u64 j.d 40) (s.draw 48).1).hif.hostMem)

/-- The operation `o` has ended and the cocoon holds it no longer; its descriptor's completion carries `status` and `result`. -/
def Sys2Proof.Machine.State.KeyEnds (s t : State) (o : KeyOp) (status : Nat) (result : BitVec 64) : Prop :=
  (∀ p ∈ t.coc.ops, ¬(p.ring = o.ring ∧ p.stamp = o.stamp)) ∧ ∀ j, j.ring = o.ring → j.stamp = o.stamp → s.Has j → t.Answered j status result

/-- The end of the cocoon's operations, of challenges and of the lockout (R422, R424, R425, R427, R428, R431, R432, R434). -/
def Obligations.KeyResults : Prop := ∀ (n : Fin 64) (ok : Bool) (s : State), s.Good →
  (∀ o, (s.mg.pair s.mg.serving).state = .serving → (s.coc.ops.find? fun o => o.ring == n.val && decide (o.phase = .running)) = some o → o.opcode = 0x80 →
    (∀ k, kSub o.desc = 0x11 → s.usedKey o.desc = some k → ∃ t, exec (.keyOperationEnd n true) s = .next t ∧ s.KeyEnds t o csOk 0 ∧
      t.hif.hostMem = (s.hostWrite (u64 o.desc 40) (ecdsaSign k.secret (o.input.getD []))).hif.hostMem) ∧
    (∀ k, kSub o.desc = 0x12 → s.usedKey o.desc = some k → ∃ t, exec (.keyOperationEnd n ok) s = .next t ∧ t.hif.hostMem = s.hif.hostMem ∧
      s.KeyEnds t o (if Config.ecdsaVerify k.pub (bytesAt (o.input.getD []) 0 48) (bytesAt (o.input.getD []) 48 96) then csOk else csAuth) 0) ∧
    (∀ k, kSub o.desc = 0x13 → s.usedKey o.desc = some k → ∃ t, exec (.keyOperationEnd n true) s = .next t ∧ s.KeyEnds t o csOk 0 ∧
      t.hif.hostMem = (s.hostWrite (u64 o.desc 40) (hmac384 k.secret (o.input.getD []))).hif.hostMem) ∧
    (∀ k, kSub o.desc = 0x14 → s.usedKey o.desc = some k → ∃ t, exec (.keyOperationEnd n true) s = .next t ∧ s.KeyEnds t o csOk 0 ∧
      t.hif.hostMem = (s.hostWrite (u64 o.desc 40) (gcmSeal k.secret ((o.input.getD []).take 12) ((o.input.getD []).drop 12))).hif.hostMem) ∧
    (∀ k, kSub o.desc = 0x15 → s.usedKey o.desc = some k → Config.gcmAuth k.secret ((o.input.getD []).take 12) ((o.input.getD []).drop 12) = false →
      ∃ t, exec (.keyOperationEnd n ok) s = .next t ∧ s.KeyEnds t o csAuth 0 ∧ t.hif.hostMem = s.hif.hostMem) ∧
    (kSub o.desc = 0x16 → ∃ t, exec (.keyOperationEnd n true) s = .next t ∧ s.KeyEnds t o csOk 0 ∧
      t.hif.hostMem = (s.hostWrite (u64 o.desc 40) (sha384 (o.input.getD []))).hif.hostMem) ∧
    (kSub o.desc = 0x16 → ∃ t, exec (.keyOperationEnd n false) s = .next t ∧ s.KeyEnds t o csDmaErr 0 ∧ t.hif.hostMem = s.hif.hostMem) ∧
    (∀ k, kSub o.desc = 0x02 → o.key = some k → Config.onCurve (o.input.getD []) = true → k.ephemeral = true → ∃ t, exec (.keyOperationEnd n ok) s = .next t ∧
      s.KeyEnds t o csOk (BitVec.ofNat 64 (kSlot o.desc)) ∧ t.key (kSlot o.desc) = some { k with pub := o.input.getD [] }) ∧
    (∀ k, kSub o.desc = 0x02 → o.key = some k → Config.onCurve (o.input.getD []) = false → ∃ t, exec (.keyOperationEnd n ok) s = .next t ∧ s.KeyEnds t o csBadParam 0 ∧
      t.coc.slots = s.coc.slots) ∧
    (∀ k, kSub o.desc = 0x02 → o.key = some k → Config.onCurve (o.input.getD []) = true → k.ephemeral = false → s.nv.phase ≠ .fault → ∃ t d, exec (.keyOperationEnd n ok) s = .next t ∧
      t.coc.slots = s.coc.slots ∧ t.nv.jobs = s.nv.jobs ++ [.page (896 + kSlot o.desc / 2) d (.op o.ring o.stamp)])) ∧
  (∀ o k, s.coc.ops = [o] → o.opcode = 0x80 → o.phase = .writing → kCreates o.desc = true → o.key = some k → ∀ p d rest i l, s.nv.jobs = .page p d (.op o.ring o.stamp) :: rest →
    s.holdupOk = true → s.nvNextSlot = some (i, l) → ∃ t, exec (.nvRecordAck true) s = .next t ∧ t.key (kSlot o.desc) = some k ∧
      s.KeyEnds t o csOk (BitVec.ofNat 64 (kSlot o.desc)) ∧ t.nvPage p = { data := d, seq := s.nv.seq + 1 }) ∧
  ((s.mg.pair s.mg.serving).state ≠ .serving → exec (.keyOperationEnd n ok) s = .next s) ∧
  (∃ t, exec (.challengeExpiry n) s = .next t ∧ (∀ e, e ∈ t.coc.challenges ↔ e ∈ s.coc.challenges ∧ ¬(e.ring = n.val ∧ e.since + msTicks 10000 ≤ s.now)) ∧ s.Only t [.cocoon]) ∧
  (∀ x, s.coc.lockedAt = some x → x + msTicks 60000 ≤ s.now → ∃ t, exec .unlockLockoutExpiry s = .next t ∧ t.coc = { s.coc with lockedAt := none } ∧ s.Only t [.cocoon]) ∧
  ((∀ x, s.coc.lockedAt = some x → s.now < x + msTicks 60000) → exec .unlockLockoutExpiry s = .next s) ∧
  (∀ o q, (s.sq o.ring).owner = o.owner → s.sq o.ring = q → q.state ≠ .disabled → ((s.unlock o true).sq o.ring).priv = true ∧ (s.unlock o true).coc.fails = 0 ∧
    (s.unlock o false).coc.fails = s.coc.fails + 1 ∧ (8 ≤ s.coc.fails + 1 → (s.unlock o false).coc.lockedAt = some s.now) ∧ (s.unlock o false).flag Adr.cocCause 2 = true)
end

