-- ==== Sys2Proof/Laws/Tab.lean ====
section
/-!
SUPPORT. Laws/Tab.lean: reading after writing a sparse table, and that every operation keeps the canonical form.
-/
namespace Sys2Proof.Machine
namespace Tab
variable {α : Type}

/-! ## Reading -/

theorem get_erase_self (d : Nat → α) (t : Tab α) (i : Nat) : get d (erase t i) i = d i := by
  induction t with
  | nil => rfl
  | cons p t ih =>
    obtain ⟨k, v⟩ := p
    by_cases h : k = i
    · simp [erase, h, ih]
    · simp [erase, get, h, ih]

theorem get_erase_ne (d : Nat → α) (t : Tab α) {i j : Nat} (h : j ≠ i) : get d (erase t i) j = get d t j := by
  induction t with
  | nil => rfl
  | cons p t ih =>
    obtain ⟨k, v⟩ := p
    by_cases hk : k = i
    · have : k ≠ j := fun e => h (e ▸ hk)
      simp [erase, get, hk, ih, show i ≠ j from fun e => h e.symm]
    · by_cases hj : k = j
      · subst hj; simp [erase, get, hk]
      · simp [erase, get, hk, hj, ih]

theorem get_insert_self (d : Nat → α) (t : Tab α) (i : Nat) (v : α) (h : get d t i = d i) (hn : ∀ p ∈ t, p.1 ≠ i) :
    get d (insert t i v) i = v := by
  induction t with
  | nil => simp [insert, get]
  | cons p t ih =>
    obtain ⟨k, w⟩ := p
    have hk : k ≠ i := hn _ (List.mem_cons_self ..)
    by_cases hl : i < k
    · simp [insert, hl, get]
    · have h' : get d t i = d i := by simpa [get, hk] using h
      simp [insert, hl, get, hk, ih h' fun p hp => hn p (List.mem_cons_of_mem _ hp)]

theorem get_insert_ne (d : Nat → α) (t : Tab α) {i j : Nat} (v : α) (h : j ≠ i) : get d (insert t i v) j = get d t j := by
  induction t with
  | nil => simp [insert, get, Ne.symm h]
  | cons p t ih =>
    obtain ⟨k, w⟩ := p
    by_cases hl : i < k
    · simp [insert, hl, get, Ne.symm h]
    · by_cases hj : k = j
      · subst hj; simp [insert, hl, get]
      · simp [insert, hl, get, hj, ih]

theorem mem_erase {t : Tab α} {i : Nat} {p : Nat × α} : p ∈ erase t i ↔ p ∈ t ∧ p.1 ≠ i := by
  induction t with
  | nil => simp [erase]
  | cons q t ih =>
    obtain ⟨k, v⟩ := q
    by_cases h : k = i
    · simp only [erase, h, if_true, ih, List.mem_cons]
      constructor
      · exact fun ⟨a, b⟩ => ⟨.inr a, b⟩
      · rintro ⟨rfl | a, b⟩
        · exact absurd rfl b
        · exact ⟨a, b⟩
    · simp only [erase, h, if_false, ih, List.mem_cons]
      constructor
      · rintro (rfl | ⟨a, b⟩)
        · exact ⟨.inl rfl, h⟩
        · exact ⟨.inr a, b⟩
      · rintro ⟨rfl | a, b⟩
        · exact .inl rfl
        · exact .inr ⟨a, b⟩

variable [DecidableEq α]

/-- A read after a write to the same index gives the value written. -/
@[simp] theorem get_set_self (d : Nat → α) (t : Tab α) (i : Nat) (v : α) : get d (set d t i v) i = v := by
  unfold set
  split
  · next h => rw [get_erase_self, h]
  · exact get_insert_self d _ i v (get_erase_self d t i) fun p hp => (mem_erase.1 hp).2

/-- A write leaves every other index alone. -/
theorem get_set_ne (d : Nat → α) (t : Tab α) {i j : Nat} (v : α) (h : j ≠ i) : get d (set d t i v) j = get d t j := by
  unfold set
  split
  · exact get_erase_ne d t h
  · rw [get_insert_ne d _ v h, get_erase_ne d t h]

@[simp] theorem get_upd_self (d : Nat → α) (t : Tab α) (i : Nat) (f : α → α) : get d (upd d t i f) i = f (get d t i) := by
  simp [upd]

theorem get_upd_ne (d : Nat → α) (t : Tab α) {i j : Nat} (f : α → α) (h : j ≠ i) : get d (upd d t i f) j = get d t j := by
  simp [upd, get_set_ne d t _ h]

/-! ## The canonical form -/

omit [DecidableEq α] in
theorem sortedAbove_mono {b c : Nat} (h : c ≤ b) : ∀ {t : Tab α}, sortedAbove b t = true → sortedAbove c t = true
  | [], _ => rfl
  | (k, _) :: t, ht => by
    simp only [sortedAbove, Bool.and_eq_true, decide_eq_true_eq] at ht ⊢
    exact ⟨le_trans h ht.1, ht.2⟩

omit [DecidableEq α] in
theorem sortedAbove_filter (p : Nat × α → Bool) : ∀ {b : Nat} {t : Tab α}, sortedAbove b t = true → sortedAbove b (t.filter p) = true
  | _, [], _ => rfl
  | b, (k, v) :: t, ht => by
    simp only [sortedAbove, Bool.and_eq_true, decide_eq_true_eq] at ht
    have ih := sortedAbove_filter p ht.2
    by_cases hp : p (k, v)
    · simp [hp, sortedAbove, ht.1, ih]
    · simp only [List.filter_cons, hp]
      exact sortedAbove_mono (by omega) ih

omit [DecidableEq α] in
theorem erase_eq_filter (i : Nat) : ∀ t : Tab α, erase t i = t.filter fun p => decide (p.1 ≠ i)
  | [] => rfl
  | (k, v) :: t => by by_cases h : k = i <;> simp [erase, h, erase_eq_filter i t]

omit [DecidableEq α] in
theorem sortedAbove_insert {i : Nat} (v : α) : ∀ {b : Nat} {t : Tab α}, b ≤ i → (∀ p ∈ t, p.1 ≠ i) → sortedAbove b t = true →
    sortedAbove b (insert t i v) = true
  | b, [], hb, _, _ => by simp [insert, sortedAbove, hb]
  | b, (k, w) :: t, hb, hn, ht => by
    simp only [sortedAbove, Bool.and_eq_true, decide_eq_true_eq] at ht
    by_cases hl : i < k
    · simp only [insert, hl, if_true, sortedAbove, Bool.and_eq_true, decide_eq_true_eq]
      exact ⟨hb, hl, ht.2⟩
    · have hk : k ≠ i := hn _ (List.mem_cons_self ..)
      simp only [insert, hl, if_false, sortedAbove, Bool.and_eq_true, decide_eq_true_eq]
      exact ⟨ht.1, sortedAbove_insert v (by omega) (fun p hp => hn p (List.mem_cons_of_mem _ hp)) ht.2⟩

theorem noDefault_iff {d : Nat → α} {t : Tab α} : noDefault d t = true ↔ ∀ p ∈ t, p.2 ≠ d p.1 := by
  simp [noDefault]

omit [DecidableEq α] in
theorem mem_insert {t : Tab α} {i : Nat} {v : α} {p : Nat × α} : p ∈ insert t i v → p = (i, v) ∨ p ∈ t := by
  induction t with
  | nil => simp [insert]
  | cons q t ih =>
    obtain ⟨k, w⟩ := q
    by_cases hl : i < k
    · simp [insert, hl]
    · simp only [insert, hl, if_false, List.mem_cons]
      rintro (h | h)
      · exact .inr (.inl h)
      · exact (ih h).imp id .inr

theorem wf_nil (d : Nat → α) : wf d [] = true := rfl

theorem wf_filter {d : Nat → α} {t : Tab α} (p : Nat × α → Bool) (h : wf d t = true) : wf d (t.filter p) = true := by
  simp only [wf, Bool.and_eq_true, noDefault_iff] at h ⊢
  exact ⟨sortedAbove_filter p h.1, fun q hq => h.2 q (List.mem_of_mem_filter hq)⟩

theorem wf_erase {d : Nat → α} {t : Tab α} (i : Nat) (h : wf d t = true) : wf d (erase t i) = true := by
  rw [erase_eq_filter]; exact wf_filter _ h

/-- A write keeps the canonical form. -/
theorem wf_set {d : Nat → α} {t : Tab α} (i : Nat) (v : α) (h : wf d t = true) : wf d (set d t i v) = true := by
  unfold set
  split
  · exact wf_erase i h
  · next hv =>
    have he := wf_erase i h
    simp only [wf, Bool.and_eq_true, noDefault_iff] at he ⊢
    refine ⟨sortedAbove_insert v (Nat.zero_le _) (fun p hp => (mem_erase.1 hp).2) he.1, fun p hp => ?_⟩
    rcases mem_insert hp with rfl | hp
    · exact hv
    · exact he.2 p hp

theorem wf_upd {d : Nat → α} {t : Tab α} (i : Nat) (f : α → α) (h : wf d t = true) : wf d (upd d t i f) = true :=
  wf_set i _ h

/-- Writing a list of places keeps the canonical form. -/
theorem wf_foldl_set {β : Type} {d : Nat → α} (f : β → Nat) (g : β → α) (l : List β) {t : Tab α} (h : wf d t = true) :
    wf d (l.foldl (fun t b => set d t (f b) (g b)) t) = true := by
  induction l generalizing t with
  | nil => exact h
  | cons b l ih => exact ih (wf_set _ _ h)

end Tab
end Sys2Proof.Machine
end

