-- ==== Sys2Proof/Laws/Frame.lean ====
section
/-!
SUPPORT. Laws/Frame.lean: the parts of the state, and the relation "t is s but for the parts of a mask, and t keeps what
every command keeps". One lemma for each function of the machine, in the files Laws/Frame*.lean, says in these terms all
that the function can touch.
-/
namespace Sys2Proof.Machine

/-- The bit of a part in a mask. -/
def Part.idx : Part → Nat
  | .pending => 0
  | .regs => 1
  | .latches => 2
  | .ledger => 3
  | .subRings => 4
  | .cplRings => 5
  | .events => 6
  | .hostMem => 7
  | .msix => 8
  | .irq => 9
  | .engine => 10
  | .d3hot => 11
  | .sources => 12
  | .flows => 13
  | .igmp => 14
  | .heads => 15
  | .salvos => 16
  | .surfaces => 17
  | .scalers => 18
  | .colour => 19
  | .converters => 20
  | .destinations => 21
  | .pushes => 22
  | .leave => 23
  | .limits => 24
  | .sheds => 25
  | .phc => 26
  | .refs => 27
  | .syns => 28
  | .polders => 29
  | .net => 30
  | .dikes => 31
  | .pinSense => 32
  | .seals => 33
  | .audio => 34
  | .mgmt => 35
  | .cocoon => 36
  | .nv => 37
  | .restoration => 38
  | .power => 39
  | .scrub => 40
  | .hbm => 41
  | .reply => 42
  | .free => 43
  | .shots => 44

/-- What `Good` depends on. -/
def State.core (s : State) :=
  (s.regs, s.ledger, s.hbm, s.hif.hostMem, s.hif.fences, s.hif.stamp, s.lv.powFree, s.lv.fetFree, s.tim.phc, s.tim.stepWait, s.mg.serving, s.lv.thermal, s.lv.band)

theorem State.Good.congr {s t : State} (h : t.core = s.core) (g : s.Good) : t.Good := by
  simp only [State.core, Prod.mk.injEq] at h
  obtain ⟨h1, h2, h3, h4, h12, h13, h5, h6, h7, h8, h9, h10, h11⟩ := h
  obtain ⟨a, b, c⟩ := g
  constructor
  · simpa only [State.leaveBalanced, State.led, h2, h5, h6] using a
  · simpa only [State.canonical, h1, h2, h3, h4, h12, h13] using b
  · simpa only [State.legal, h7, h8, h9, h10, h11] using c

/-- `t` is `s` but for the parts of the mask, and keeps what every command keeps. -/
structure Within (m : Nat) (s t : State) : Prop where
  same : ∀ p : Part, m.testBit p.idx = false → p.same s t
  good : s.Good → t.Good

theorem Part.same_trans {s t u : State} (p : Part) (h : p.same s t) (k : p.same t u) : p.same s u := by
  cases p <;> exact Eq.trans k h

theorem Within.refl (m : Nat) (s : State) : Within m s s :=
  ⟨fun p _ => by cases p <;> rfl, id⟩

/-- A change by `m` after a change by `l` is a change by `l` where `l` covers `m`. -/
theorem Within.via {l m : Nat} {r s t : State} (h : Within m s t) (hm : m ||| l = l) (k : Within l r s) : Within l r t := by
  refine ⟨fun p hp => p.same_trans (k.same p hp) (h.same p ?_), fun g => h.good (k.good g)⟩
  rw [← hm, Nat.testBit_or, Bool.or_eq_false_iff] at hp
  exact hp.1

theorem Within.mono {l m : Nat} {s t : State} (h : Within m s t) (hm : m ||| l = l) : Within l s t :=
  h.via hm (Within.refl l s)

/-- A change of one place. -/
theorem Within.leaf {m : Nat} {s t : State} (h : ∀ p : Part, m.testBit p.idx = false → p.same s t) (c : t.core = s.core) :
    Within m s t := ⟨h, fun g => g.congr c⟩

theorem Within.ite {m : Nat} {c : Prop} [Decidable c] {s a b : State} (h : Within m s a) (k : Within m s b) :
    Within m s (if c then a else b) := by split; exacts [h, k]

/-! ## Results that hold a state -/

def Within2 {α : Type} (m : Nat) (s : State) (p : α × State) : Prop := Within m s p.2
def Within1 {α : Type} (m : Nat) (s : State) (p : State × α) : Prop := Within m s p.1
def WithinS {α : Type} (m : Nat) (s : State) (p : α ⊕ State) : Prop := ∀ t, p = .inr t → Within m s t
def WithinJ {α : Type} (m : Nat) (s : State) (p : Option (α × State)) : Prop := ∀ a t, p = some (a, t) → Within m s t
def WithinO (m : Nat) (s : State) (o : Out3) : Prop := ∀ t, o = .next t → Within m s t

theorem Within2.mk {α : Type} {m : Nat} {s t : State} {a : α} (h : Within m s t) : Within2 m s (a, t) := h
theorem Within2.mk3 {α β : Type} {m : Nat} {s : State} {a : α} {p : β × State} (h : Within2 m s p) : Within2 m s ((a, p.1), p.2) := h
theorem Within1.mk {α : Type} {m : Nat} {s t : State} {a : α} (h : Within m s t) : Within1 m s (t, a) := h
theorem WithinS.inr {α : Type} {m : Nat} {s t : State} (h : Within m s t) : WithinS (α := α) m s (.inr t) :=
  fun _ e => Sum.inr.inj e ▸ h
theorem WithinS.inl {α : Type} {m : Nat} {s : State} (a : α) : WithinS m s (.inl a) := fun _ e => by cases e
theorem WithinJ.some {α : Type} {m : Nat} {s t : State} {a : α} (h : Within m s t) : WithinJ m s (some (a, t)) :=
  fun _ _ e => by cases e; exact h
theorem WithinJ.none {α : Type} {m : Nat} {s : State} : WithinJ (α := α) m s Option.none := fun _ _ e => by cases e
theorem WithinO.next {m : Nat} {s t : State} (h : Within m s t) : WithinO m s (.next t) := fun _ e => by cases e; exact h
theorem WithinO.fault {m : Nat} {s : State} {r : Fault} : WithinO m s (.fault r) := fun _ e => by cases e
theorem Within2.ofEq {α : Type} {m : Nat} {s t : State} {a : α} {p : α × State} (h : Within m s p.2) (e : p = (a, t)) : Within m s t := by
  subst e; exact h
theorem Within1.ofEq {α : Type} {m : Nat} {s t : State} {a : α} {p : State × α} (h : Within m s p.1) (e : p = (t, a)) : Within m s t := by
  subst e; exact h

theorem WithinS.ofEq {α : Type} {m : Nat} {s t : State} {p : α ⊕ State} (h : WithinS m s p) (e : p = .inr t) : Within m s t := h t e
theorem WithinJ.ofEq {α : Type} {m : Nat} {s t : State} {a : α} {p : Option (α × State)} (h : WithinJ m s p) (e : p = Option.some (a, t)) :
    Within m s t := h a t e

theorem Within2.ofEq' {α : Type} {m : Nat} {s t : State} {a : α} {p : α × State} (h : Within2 m s p) (e : p = (a, t)) : Within m s t := by
  subst e; exact h
theorem Within2.snd {α : Type} {m : Nat} {s : State} {p : α × State} (h : Within2 m s p) : Within m s p.2 := h
theorem Within1.fst {α : Type} {m : Nat} {s : State} {p : State × α} (h : Within1 m s p) : Within m s p.1 := h

/-! ## Binders and folds -/

theorem Within.cut {P : Prop} {l : Nat} {r x : State} (h : Within l r x) (k : Within l r x → P) : P := k h
theorem Within.cut2 {P : Prop} {α : Type} {l : Nat} {r : State} {x : α × State} (h : Within2 l r x) (k : Within l r x.2 → P) : P := k h
theorem Within.cut1 {P : Prop} {α : Type} {l : Nat} {r : State} {x : State × α} (h : Within1 l r x) (k : Within l r x.1 → P) : P := k h
theorem Within.cut3 {P : Prop} {α β : Type} {l : Nat} {r : State} {x : α × β × State} (h : Within l r x.2.2) (k : Within l r x.2.2 → P) : P := k h
theorem Within.cutF {P : Prop} {l : Nat} {r : State} {x : State → State} (h : ∀ t, Within l r t → Within l r (x t))
    (k : (∀ t, Within l r t → Within l r (x t)) → P) : P := k h
theorem Within.cutF1 {P : Prop} {α : Type} {l : Nat} {r : State} {x : State → α → State} (h : ∀ t a, Within l r t → Within l r (x t a))
    (k : (∀ t a, Within l r t → Within l r (x t a)) → P) : P := k h
theorem Within.cutF2 {P : Prop} {α β : Type} {l : Nat} {r : State} {x : State → α → β → State}
    (h : ∀ t a b, Within l r t → Within l r (x t a b)) (k : (∀ t a b, Within l r t → Within l r (x t a b)) → P) : P := k h
theorem Within.fold {α τ : Type} {Q : τ → Prop} {f : τ → α → τ} {l : List α} {a : τ} (h : Q a) (k : ∀ t x, Q t → Q (f t x)) :
    Q (l.foldl f a) := by
  induction l generalizing a with
  | nil => exact h
  | cons x l ih => exact ih (k _ _ h)

theorem Within2.fold {α β : Type} {m : Nat} {s : State} {f : α × State → β → α × State} {l : List β} {a : α × State} (h : Within2 m s a)
    (k : ∀ t x, Within2 m s t → Within2 m s (f t x)) : Within m s (l.foldl f a).2 := Within.fold (Q := Within2 m s) h k
theorem Within1.fold {α β : Type} {m : Nat} {s : State} {f : State × α → β → State × α} {l : List β} {a : State × α} (h : Within1 m s a)
    (k : ∀ t x, Within1 m s t → Within1 m s (f t x)) : Within m s (l.foldl f a).1 := Within.fold (Q := Within1 m s) h k

end Sys2Proof.Machine
end

