-- ==== Sys2Proof/Laws/FrameStore.lean ====
section
/-!
SUPPORT. Laws/FrameStore.lean: what the named accesses of Machine/Store.lean can touch.
-/
namespace Sys2Proof.Machine

/-! ## Leave, canonical form and legality under a write -/

theorem ledKey_inj {k i c k' i' c' : Nat} (hk : k < 16) (hk' : k' < 16) (hc : c < 1024) (hc' : c' < 1024)
    (h : ledKey k i c = ledKey k' i' c') : k = k' ∧ i = i' ∧ c = c' := by
  unfold ledKey at h; omega

theorem ledKey_kind {k i c k' i' c' : Nat} (hk : k < 16) (hk' : k' < 16) (h : k ≠ k') : ledKey k i c ≠ ledKey k' i' c' := by
  unfold ledKey; omega

theorem State.Good.wr {s : State} (a v : Nat) (g : s.Good) : (s.wr a v).Good := by
  obtain ⟨a', ⟨c1, c2, c3, c4⟩, c⟩ := g
  exact ⟨a', ⟨Tab.wf_set _ _ c1, c2, c3, c4⟩, c⟩

/-- A change of ledger counters of another chapter than leave. -/
theorem State.Good.ledger {s : State} {k i c n : Nat} (hk : k < 16 ∧ k ≠ 9) (g : s.Good) :
    State.Good { s with ledger := Tab.set (fun _ => 0) s.ledger (ledKey k i c) n } := by
  obtain ⟨⟨a, b⟩, ⟨c1, c2, c3, c4⟩, l⟩ := g
  have h : ∀ i' c', Tab.get (fun _ => 0) (Tab.set (fun _ => 0) s.ledger (ledKey k i c) n) (ledKey 9 i' c') = s.led 9 i' c' := fun i' c' =>
    Tab.get_set_ne _ _ _ (ledKey_kind (by decide) hk.1 (Ne.symm hk.2))
  exact ⟨⟨by simpa only [State.led, h] using a, by simpa only [State.led, h] using b⟩, ⟨c1, Tab.wf_set _ _ c2, c3, c4⟩, l⟩

/-! ## The parts of the state -/

theorem State.updHif_via {l r s f} (m : Nat) (hsubRings : m.testBit 4 = false → ∀ x : Hif, (f x).sqs = x.sqs) (hcplRings : m.testBit 5 = false → ∀ x : Hif, (f x).cqs = x.cqs) (hevents : m.testBit 6 = false → ∀ x : Hif, ((f x).ers, (f x).staged, (f x).evSrcs) = (x.ers, x.staged, x.evSrcs)) (hhostMem : m.testBit 7 = false → ∀ x : Hif, (f x).hostMem = x.hostMem) (hmsix : m.testBit 8 = false → ∀ x : Hif, (f x).msix = x.msix) (hirq : m.testBit 9 = false → ∀ x : Hif, ((f x).pba, (f x).msgs) = (x.pba, x.msgs)) (hengine : m.testBit 10 = false → ∀ x : Hif, ((f x).stamp, (f x).rrTake, (f x).rrBulk, (f x).fences) = (x.stamp, x.rrTake, x.rrBulk, x.fences)) (hd3hot : m.testBit 11 = false → ∀ x : Hif, (f x).d3hot = x.d3hot) (chostMem : ∀ x : Hif, (f x).hostMem = x.hostMem)
    (cfences : ∀ x : Hif, (∀ e ∈ x.fences, e.stamp < x.stamp) → ∀ e ∈ (f x).fences, e.stamp < (f x).stamp)
    (hm : m ||| l = l) (k : Within l r s) : Within l r (s.updHif f) := by
  refine Within.via (m := m) (s := s) ⟨fun p hp => ?_, fun g => ?_⟩ hm k
  · cases p with
      | subRings => exact hsubRings hp _
      | cplRings => exact hcplRings hp _
      | events => exact hevents hp _
      | hostMem => exact hhostMem hp _
      | msix => exact hmsix hp _
      | irq => exact hirq hp _
      | engine => exact hengine hp _
      | d3hot => exact hd3hot hp _
      | _ => rfl
  · obtain ⟨a, ⟨c1, c2, c3, c4, c5⟩, l⟩ := g
    exact ⟨a, ⟨c1, c2, c3, (by rw [State.updHif, chostMem]; exact c4), cfences _ c5⟩, l⟩

theorem State.updIng_via {l r s f} (m : Nat) (hsources : m.testBit 12 = false → ∀ x : Ing, ((f x).srcs, (f x).old, (f x).nextRing) = (x.srcs, x.old, x.nextRing)) (hflows : m.testBit 13 = false → ∀ x : Ing, ((f x).flows, (f x).nextHandle) = (x.flows, x.nextHandle)) (higmp : m.testBit 14 = false → ∀ x : Ing, ((f x).repeats, (f x).older, (f x).igmpSent, (f x).igmpLast) = (x.repeats, x.older, x.igmpSent, x.igmpLast))
    (hm : m ||| l = l) (k : Within l r s) : Within l r (s.updIng f) := by
  refine Within.via (m := m) (s := s) (.leaf (fun p hp => ?_) ?_) hm k
  · cases p with
      | sources => exact hsources hp _
      | flows => exact hflows hp _
      | igmp => exact higmp hp _
      | _ => rfl
  · rfl

theorem State.updHds_via {l r s f} (m : Nat) (hheads : m.testBit 15 = false → ∀ x : Hds, (f x).heads = x.heads) (hshots : m.testBit 44 = false → ∀ x : Hds, (f x).shots = x.shots) (hsalvos : m.testBit 16 = false → ∀ x : Hds, ((f x).staged, (f x).armed) = (x.staged, x.armed))
    (hm : m ||| l = l) (k : Within l r s) : Within l r (s.updHds f) := by
  refine Within.via (m := m) (s := s) (.leaf (fun p hp => ?_) ?_) hm k
  · cases p with
      | heads => exact hheads hp _
      | shots => exact hshots hp _
      | salvos => exact hsalvos hp _
      | _ => rfl
  · rfl

theorem State.updScc_via {l r s f} (m : Nat) (hscalers : m.testBit 18 = false → ∀ x : Scc, (f x).scalers = x.scalers) (hcolour : m.testBit 19 = false → ∀ x : Scc, ((f x).ins, (f x).outs, (f x).diths, (f x).loads) = (x.ins, x.outs, x.diths, x.loads))
    (hm : m ||| l = l) (k : Within l r s) : Within l r (s.updScc f) := by
  refine Within.via (m := m) (s := s) (.leaf (fun p hp => ?_) ?_) hm k
  · cases p with
      | scalers => exact hscalers hp _
      | colour => exact hcolour hp _
      | _ => rfl
  · rfl

theorem State.updOut_via {l r s f} (m : Nat) (hconverters : m.testBit 20 = false → ∀ x : Out, (f x).convs = x.convs) (hdestinations : m.testBit 21 = false → ∀ x : Out, (f x).dests = x.dests) (hpushes : m.testBit 22 = false → ∀ x : Out, (f x).pushes = x.pushes)
    (hm : m ||| l = l) (k : Within l r s) : Within l r (s.updOut f) := by
  refine Within.via (m := m) (s := s) (.leaf (fun p hp => ?_) ?_) hm k
  · cases p with
      | converters => exact hconverters hp _
      | destinations => exact hdestinations hp _
      | pushes => exact hpushes hp _
      | _ => rfl
  · rfl

theorem State.updLv_via {l r s f} (m : Nat) (hleave : m.testBit 23 = false → ∀ x : Lv, ((f x).powFree, (f x).fetFree, (f x).powWith, (f x).fetWith, (f x).fixed) = (x.powFree, x.fetFree, x.powWith, x.fetWith, x.fixed)) (hlimits : m.testBit 24 = false → ∀ x : Lv, ((f x).pmPow, (f x).pmFet) = (x.pmPow, x.pmFet)) (hsheds : m.testBit 25 = false → ∀ x : Lv, ((f x).stInput, (f x).stTemp, (f x).stCml, (f x).stOther, (f x).auditBad, (f x).thermal, (f x).thermSince, (f x).supply, (f x).supplySince, (f x).power, (f x).powerSince, (f x).overSince, (f x).band, (f x).tripped, (f x).tripExcl, (f x).hbmHot, (f x).level, (f x).powerFail, (f x).goodSince) = (x.stInput, x.stTemp, x.stCml, x.stOther, x.auditBad, x.thermal, x.thermSince, x.supply, x.supplySince, x.power, x.powerSince, x.overSince, x.band, x.tripped, x.tripExcl, x.hbmHot, x.level, x.powerFail, x.goodSince)) (cpowFree : ∀ x : Lv, (f x).powFree = x.powFree) (cfetFree : ∀ x : Lv, (f x).fetFree = x.fetFree) (cthermal : ∀ x : Lv, (f x).thermal = x.thermal) (cband : ∀ x : Lv, (f x).band = x.band)
    (hm : m ||| l = l) (k : Within l r s) : Within l r (s.updLv f) := by
  refine Within.via (m := m) (s := s) (.leaf (fun p hp => ?_) ?_) hm k
  · cases p with
      | leave => exact hleave hp _
      | limits => exact hlimits hp _
      | sheds => exact hsheds hp _
      | _ => rfl
  · simp only [State.core, State.updLv, cpowFree, cfetFree, cthermal, cband]

theorem State.updTim_via {l r s f} (m : Nat) (hphc : m.testBit 26 = false → ∀ x : Tim, ((f x).ct, (f x).phc, (f x).incr, (f x).incrAt, (f x).stepWait, (f x).ppsAt) = (x.ct, x.phc, x.incr, x.incrAt, x.stepWait, x.ppsAt)) (hrefs : m.testBit 27 = false → ∀ x : Tim, (f x).refs = x.refs) (hsyns : m.testBit 28 = false → ∀ x : Tim, (f x).syns = x.syns) (hpolders : m.testBit 29 = false → ∀ x : Tim, (f x).polders = x.polders) (cphc : ∀ x : Tim, (f x).phc = x.phc) (cstepWait : ∀ x : Tim, (f x).stepWait = x.stepWait)
    (hm : m ||| l = l) (k : Within l r s) : Within l r (s.updTim f) := by
  refine Within.via (m := m) (s := s) (.leaf (fun p hp => ?_) ?_) hm k
  · cases p with
      | phc => exact hphc hp _
      | refs => exact hrefs hp _
      | syns => exact hsyns hp _
      | polders => exact hpolders hp _
      | _ => rfl
  · simp only [State.core, State.updTim, cphc, cstepWait]

theorem State.updPsn_via {l r s f} (m : Nat) (hdikes : m.testBit 31 = false → ∀ x : Psn, ((f x).dikes, (f x).ties) = (x.dikes, x.ties)) (hpinSense : m.testBit 32 = false → ∀ x : Psn, (f x).dests = x.dests) (hseals : m.testBit 33 = false → ∀ x : Psn, ((f x).chains, (f x).queue, (f x).signing, (f x).log, (f x).stopped) = (x.chains, x.queue, x.signing, x.log, x.stopped))
    (hm : m ||| l = l) (k : Within l r s) : Within l r (s.updPsn f) := by
  refine Within.via (m := m) (s := s) (.leaf (fun p hp => ?_) ?_) hm k
  · cases p with
      | dikes => exact hdikes hp _
      | pinSense => exact hpinSense hp _
      | seals => exact hseals hp _
      | _ => rfl
  · rfl

theorem State.updMg_via {l : Nat} {r s : State} {f : Mg → Mg} (h : ∀ x : Mg, x.serving ≤ 1 → (f x).serving ≤ 1) (hm : 34359738368 ||| l = l) (k : Within l r s) :
    Within l r (s.updMg f) := by
  refine Within.via (m := 34359738368) (s := s) ⟨(fun p hp => by cases p <;> first | exact absurd hp (by decide) | rfl), fun g => ?_⟩ hm k
  obtain ⟨a, b, c1, cw, c2, c3⟩ := g
  exact ⟨a, b, c1, cw, h _ c2, c3⟩

theorem State.updSrf_via {l : Nat} {r s : State} {f : Srf → Srf} (hm : 131072 ||| l = l) (k : Within l r s) :
    Within l r (s.updSrf f) :=
  Within.via (m := 131072) (s := s) (.leaf (fun p hp => by cases p <;> first | exact absurd hp (by decide) | rfl) rfl) hm k

theorem State.updNet_via {l : Nat} {r s : State} {f : Net → Net} (hm : 1073741824 ||| l = l) (k : Within l r s) :
    Within l r (s.updNet f) :=
  Within.via (m := 1073741824) (s := s) (.leaf (fun p hp => by cases p <;> first | exact absurd hp (by decide) | rfl) rfl) hm k

theorem State.updAud_via {l : Nat} {r s : State} {f : Aud → Aud} (hm : 17179869184 ||| l = l) (k : Within l r s) :
    Within l r (s.updAud f) :=
  Within.via (m := 17179869184) (s := s) (.leaf (fun p hp => by cases p <;> first | exact absurd hp (by decide) | rfl) rfl) hm k

theorem State.updCoc_via {l : Nat} {r s : State} {f : Coc → Coc} (hm : 68719476736 ||| l = l) (k : Within l r s) :
    Within l r (s.updCoc f) :=
  Within.via (m := 68719476736) (s := s) (.leaf (fun p hp => by cases p <;> first | exact absurd hp (by decide) | rfl) rfl) hm k

theorem State.updNv_via {l : Nat} {r s : State} {f : Nv → Nv} (hm : 137438953472 ||| l = l) (k : Within l r s) :
    Within l r (s.updNv f) :=
  Within.via (m := 137438953472) (s := s) (.leaf (fun p hp => by cases p <;> first | exact absurd hp (by decide) | rfl) rfl) hm k

theorem State.updRest_via {l : Nat} {r s : State} {f : Rest → Rest} (hm : 274877906944 ||| l = l) (k : Within l r s) :
    Within l r (s.updRest f) :=
  Within.via (m := 274877906944) (s := s) (.leaf (fun p hp => by cases p <;> first | exact absurd hp (by decide) | rfl) rfl) hm k

theorem State.updPwr_via {l : Nat} {r s : State} {f : Pwr → Pwr} (hm : 549755813888 ||| l = l) (k : Within l r s) :
    Within l r (s.updPwr f) :=
  Within.via (m := 549755813888) (s := s) (.leaf (fun p hp => by cases p <;> first | exact absurd hp (by decide) | rfl) rfl) hm k

theorem State.with_reply_via {l : Nat} {r s : State} {v : Reply} (hm : 4398046511104 ||| l = l) (k : Within l r s) :
    Within l r { s with reply := v } :=
  Within.via (m := 4398046511104) (s := s) (.leaf (fun p hp => by cases p <;> first | exact absurd hp (by decide) | rfl) rfl) hm k

theorem State.with_latches_via {l : Nat} {r s : State} {v : List Latch} (hm : 4 ||| l = l) (k : Within l r s) :
    Within l r { s with latches := v } :=
  Within.via (m := 4) (s := s) (.leaf (fun p hp => by cases p <;> first | exact absurd hp (by decide) | rfl) rfl) hm k

theorem State.with_free_via {l : Nat} {r s : State} {v : Nat} (hm : 8796093022208 ||| l = l) (k : Within l r s) :
    Within l r { s with free := v } :=
  Within.via (m := 8796093022208) (s := s) (.leaf (fun p hp => by cases p <;> first | exact absurd hp (by decide) | rfl) rfl) hm k

theorem State.with_scrub_via {l : Nat} {r s : State} {v : Scrub} (hm : 1099511627776 ||| l = l) (k : Within l r s) :
    Within l r { s with scrub := v } :=
  Within.via (m := 1099511627776) (s := s) (.leaf (fun p hp => by cases p <;> first | exact absurd hp (by decide) | rfl) rfl) hm k

/-! ## The register file -/

theorem State.wr_within (s : State) (a v : Nat) : Within 2 s (s.wr a v) :=
  ⟨(fun p hp => by cases p <;> first | exact absurd hp (by decide) | rfl), State.Good.wr a v⟩
theorem State.fset_within (s : State) (a hi lo x : Nat) : Within 2 s (s.fset a hi lo x) := s.wr_within _ _
theorem State.count_within (s : State) (a hi lo n : Nat) : Within 2 s (s.count a hi lo n) := s.wr_within _ _
theorem State.setBit_within (s : State) (a k : Nat) : Within 2 s (s.setBit a k) := s.wr_within _ _

/-! ## Ledgers, free values, host interface -/

theorem State.ledAdd_within (s : State) (k i c n : Nat) (h : k < 16 ∧ k ≠ 9) : Within 8 s (s.ledAdd k i c n) :=
  ⟨(fun p hp => by cases p <;> first | exact absurd hp (by decide) | rfl), fun g => g.ledger h⟩
theorem State.ledSet_within (s : State) (k i c n : Nat) (h : k < 16 ∧ k ≠ 9) : Within 8 s (s.ledSet k i c n) :=
  ⟨(fun p hp => by cases p <;> first | exact absurd hp (by decide) | rfl), fun g => g.ledger h⟩
theorem State.fresh_within (s : State) : Within 8796093022208 s s.fresh.2 := .leaf (fun p hp => by cases p <;> first | exact absurd hp (by decide) | rfl) rfl

theorem State.setSq_within (s : State) (n : Nat) (v : Sq) : Within 16 s (s.setSq n v) := .leaf (fun p hp => by cases p <;> first | exact absurd hp (by decide) | rfl) rfl
theorem State.setCq_within (s : State) (n : Nat) (v : Cq) : Within 32 s (s.setCq n v) := .leaf (fun p hp => by cases p <;> first | exact absurd hp (by decide) | rfl) rfl
theorem State.setEr_within (s : State) (n : Nat) (v : Er) : Within 64 s (s.setEr n v) := .leaf (fun p hp => by cases p <;> first | exact absurd hp (by decide) | rfl) rfl
theorem State.setEvSrc_within (s : State) (n : Nat) (v : EvSrc) : Within 64 s (s.setEvSrc n v) := .leaf (fun p hp => by cases p <;> first | exact absurd hp (by decide) | rfl) rfl
theorem State.setStaged_within (s : State) (k : Nat) (v : List EvRec) : Within 64 s (s.setStaged k v) := .leaf (fun p hp => by cases p <;> first | exact absurd hp (by decide) | rfl) rfl
theorem State.setQueue_within (s : State) (q : QueueId) (v : Dcq) : Within 1099511627776 s (s.setQueue q v) := .leaf (fun p hp => by cases p <;> first | exact absurd hp (by decide) | rfl) rfl

theorem State.cross_within (s : State) (q : QueueId) : Within 1099511627776 s (s.cross q) := by
  unfold State.cross
  split <;> exact s.setQueue_within _ _

theorem State.hostWrite_within (s : State) (addr : Nat) (bs : List Byte) : Within 128 s (s.hostWrite addr bs) := by
  refine ⟨(fun p hp => by cases p <;> first | exact absurd hp (by decide) | rfl), fun g => ?_⟩
  obtain ⟨a, ⟨c1, c2, c3, c4, c5⟩, l⟩ := g
  exact ⟨a, ⟨c1, c2, c3, Tab.wf_foldl_set (fun p : Byte × Nat => addr + p.2) (fun p => some p.1) _ c4, c5⟩, l⟩

/-! ## Results of a tail call -/

theorem Within2.via {α : Type} {l m : Nat} {r s : State} {p : α × State} (h : Within m s p.2) (hm : m ||| l = l)
    (k : Within l r s) : Within2 l r p := Within.via h hm k
theorem Within1.via {α : Type} {l m : Nat} {r s : State} {p : State × α} (h : Within m s p.1) (hm : m ||| l = l)
    (k : Within l r s) : Within1 l r p := Within.via h hm k
theorem WithinS.via {α : Type} {l m : Nat} {r s : State} {p : α ⊕ State} (h : WithinS m s p) (hm : m ||| l = l)
    (k : Within l r s) : WithinS l r p := fun _ e => (h _ e).via hm k
theorem WithinJ.via {α : Type} {l m : Nat} {r s : State} {p : Option (α × State)} (h : WithinJ m s p) (hm : m ||| l = l)
    (k : Within l r s) : WithinJ l r p := fun _ _ e => (h _ _ e).via hm k
theorem WithinO.via {l m : Nat} {r s : State} {p : Out3} (h : WithinO m s p) (hm : m ||| l = l)
    (k : Within l r s) : WithinO l r p := fun _ e => (h _ e).via hm k

end Sys2Proof.Machine
end

