-- ==== Sys2Proof/Laws/FrameFlags.lean ====
section
/-!
SUPPORT. Laws/FrameFlags.lean: what each function of Machine/Flags.lean can touch.
-/
set_option linter.unusedTactic false
set_option linter.unreachableTactic false
set_option linter.tactic.unusedName false

namespace Sys2Proof.Machine

theorem State.msixSend_within (s : State) (v : Nat) :
    Within 640 s (State.msixSend s v) := by
  unfold State.msixSend
  repeat'
    first
    | with_reducible apply Within.refl
    | with_reducible assumption
    | (extract_lets +onlyGivenNames x; refine Within.cut (l := 640) (r := s) (x := x) ?_ ?_; rotate_left; (try clear_value x); intro _; rotate_right; subst x)
    | (extract_lets +onlyGivenNames x; try clear_value x)
    | (with_reducible apply State.updHif_via (m := 512) (l := 640) (hm := by decide)); (case hsubRings => exact (fun _ _ => rfl)); (case hcplRings => exact (fun _ _ => rfl)); (case hevents => exact (fun _ _ => rfl)); (case hhostMem => exact (fun _ _ => rfl)); (case hmsix => exact (fun _ _ => rfl)); (case hirq => exact (fun h => absurd h (by decide))); (case hengine => exact (fun _ _ => rfl)); (case hd3hot => exact (fun _ _ => rfl)); (case chostMem => exact (fun _ => rfl)); (case cfences => exact (by first | exact fun _ h => h | exact fun _ h f hf => Nat.lt_succ_of_lt (h f hf) | exact fun _ h f hf => h f (List.mem_of_mem_filter hf)))
    | (with_reducible apply Within.via (l := 640) (m := 128) (hm := by decide)); (case h => with_reducible apply State.hostWrite_within)
    | split

theorem State.interrupt_within (s : State) (v : Nat) :
    Within 640 s (State.interrupt s v) := by
  unfold State.interrupt
  repeat'
    first
    | with_reducible apply Within.refl
    | with_reducible assumption
    | (with_reducible apply State.updHif_via (m := 512) (l := 640) (hm := by decide)); (case hsubRings => exact (fun _ _ => rfl)); (case hcplRings => exact (fun _ _ => rfl)); (case hevents => exact (fun _ _ => rfl)); (case hhostMem => exact (fun _ _ => rfl)); (case hmsix => exact (fun _ _ => rfl)); (case hirq => exact (fun h => absurd h (by decide))); (case hengine => exact (fun _ _ => rfl)); (case hd3hot => exact (fun _ _ => rfl)); (case chostMem => exact (fun _ => rfl)); (case cfences => exact (by first | exact fun _ h => h | exact fun _ h f hf => Nat.lt_succ_of_lt (h f hf) | exact fun _ h f hf => h f (List.mem_of_mem_filter hf)))
    | (with_reducible apply Within.via (l := 640) (m := 640) (hm := by decide)); (case h => with_reducible apply State.msixSend_within)
    | split

theorem State.occurBytes_within (s : State) (src code : Nat) (d : List Byte) :
    Within 64 s (State.occurBytes s src code d) := by
  unfold State.occurBytes
  repeat'
    first
    | with_reducible apply Within.refl
    | with_reducible assumption
    | (extract_lets +onlyGivenNames x; refine Within.cut (l := 64) (r := s) (x := x) ?_ ?_; rotate_left; (try clear_value x); intro _; rotate_right; subst x)
    | (extract_lets +onlyGivenNames x; try clear_value x)
    | (with_reducible apply Within.via (l := 64) (m := 64) (hm := by decide)); (case h => with_reducible apply State.setEvSrc_within)
    | (with_reducible apply Within.via (l := 64) (m := 64) (hm := by decide)); (case h => with_reducible apply State.setStaged_within)
    | split

theorem State.occur_within (s : State) (src code : Nat) (d : List (Nat × Nat × Nat)) :
    Within 64 s (State.occur s src code d) := by
  unfold State.occur
  repeat'
    first
    | with_reducible apply Within.refl
    | with_reducible assumption
    | (with_reducible apply Within.via (l := 64) (m := 64) (hm := by decide)); (case h => with_reducible apply State.occurBytes_within)
    | split

theorem State.raise_within (s : State) (cause mask bit src code : Nat) (d : List (Nat × Nat × Nat)) :
    Within 66 s (State.raise s cause mask bit src code d) := by
  unfold State.raise
  repeat'
    first
    | with_reducible apply Within.refl
    | with_reducible assumption
    | (extract_lets +onlyGivenNames x; refine Within.cut (l := 66) (r := s) (x := x) ?_ ?_; rotate_left; (try clear_value x); intro _; rotate_right; subst x)
    | (extract_lets +onlyGivenNames x; try clear_value x)
    | (with_reducible apply Within.via (l := 66) (m := 64) (hm := by decide)); (case h => with_reducible apply State.occur_within)
    | (with_reducible apply Within.via (l := 66) (m := 2) (hm := by decide)); (case h => with_reducible apply State.setBit_within)
    | split

theorem State.nvTouch_within (s : State) (page : Nat) :
    Within 137438953472 s (State.nvTouch s page) := by
  unfold State.nvTouch
  repeat'
    first
    | with_reducible apply Within.refl
    | with_reducible assumption
    | (with_reducible apply State.updNv_via (l := 137438953472) (hm := by decide))
    | split

theorem State.rwsTouch_within (s : State) (a : Nat) :
    Within 137438953472 s (State.rwsTouch s a) := by
  unfold State.rwsTouch
  repeat'
    first
    | with_reducible apply Within.refl
    | with_reducible assumption
    | (with_reducible apply Within.via (l := 137438953472) (m := 137438953472) (hm := by decide)); (case h => with_reducible apply State.nvTouch_within)
    | split

end Sys2Proof.Machine
end

