-- ==== Sys2Proof/Laws/FrameOps.lean ====
section
/-!
SUPPORT. Laws/FrameOps.lean: what each function of Machine/Ops.lean can touch.
-/
set_option linter.unusedTactic false
set_option linter.unreachableTactic false
set_option linter.tactic.unusedName false

namespace Sys2Proof.Machine

theorem State.ringHaltEvent_within (s : State) (n : Nat) (r : SqReason) (seq : BitVec 32) :
    Within 64 s (State.ringHaltEvent s n r seq) := by
  unfold State.ringHaltEvent
  repeat'
    first
    | with_reducible apply Within.refl
    | with_reducible assumption
    | (with_reducible apply Within.via (l := 64) (m := 64) (hm := by decide)); (case h => with_reducible apply State.occur_within)
    | split

theorem State.halt_within (s : State) (n : Nat) (r : SqReason) (seq : BitVec 32) :
    Within 80 s (State.halt s n r seq) := by
  unfold State.halt
  repeat'
    first
    | with_reducible apply Within.refl
    | with_reducible assumption
    | (with_reducible apply Within.via (l := 80) (m := 64) (hm := by decide)); (case h => with_reducible apply State.ringHaltEvent_within)
    | (with_reducible apply Within.via (l := 80) (m := 16) (hm := by decide)); (case h => with_reducible apply State.setSq_within)
    | split

/-- The state in which a descriptor has started, before a failed fetch behind it halts the ring. -/
def State.started (s : State) (n : Nat) (d : List Byte) (rest : List (List Byte)) (halted : Bool) : State :=
  (s.updHif fun h =>
    { h with stamp := h.stamp + 1, rrTake := (if (s.sq n).take then n else h.rrTake),
             rrBulk := (if (s.sq n).take then h.rrBulk else n) }).setSq n
    { s.sq n with
      prefetch := rest, seqNext := (s.sq n).seqNext + 1,
      started := (s.sq n).started ++ [{ stamp := s.hif.stamp, seq := (s.sq n).seqNext, opcode := u8 d 0, irq := ubit d 1 0, halted := halted,
                                        flushed := false, ended := false, ready := none }] }

/-- All that a start does. -/
theorem State.start_eq {s : State} {n : Nat} {halted : Bool} {d : List Byte} {rest : List (List Byte)} (h : (s.sq n).prefetch = d :: rest) :
    s.start n halted = some ({ ring := n, stamp := s.hif.stamp, seq := (s.sq n).seqNext, opcode := u8 d 0, owner := (s.sq n).owner,
                               priv := (s.sq n).priv, take := (s.sq n).take, d := d },
      if rest.isEmpty && (s.sq n).fetchFailed && !halted then (s.started n d rest halted).halt n .fetchErr ((s.sq n).seqNext + 1)
      else s.started n d rest halted) := by
  unfold State.start State.started
  simp only [h]

/-- The next stamp lies after the one that a start gives. -/
theorem State.start_stamp {s t : State} {n : Nat} {b : Bool} {j : Job} (h : s.start n b = some (j, t)) : j.stamp < t.hif.stamp := by
  cases hp : (s.sq n).prefetch with
  | nil => unfold State.start at h; simp only [hp] at h; cases h
  | cons d rest =>
    rw [State.start_eq hp] at h
    injection h with h
    injection h with h1 h2
    subst h1 h2
    split
    · have e := (State.halt_within (s.started n d rest b) n SqReason.fetchErr ((s.sq n).seqNext + 1)).same .engine (by decide)
      simp only [Part.same, Prod.mk.injEq] at e
      rw [e.1]; exact Nat.lt_succ_self _
    · exact Nat.lt_succ_self _

theorem State.started_within (s : State) (n : Nat) (d : List Byte) (rest : List (List Byte)) (halted : Bool) :
    Within 1104 s (s.started n d rest halted) := by
  unfold State.started
  refine (State.setSq_within _ _ _).via (by decide) ?_
  exact State.updHif_via 1024 (by first | exact (fun h => absurd h (by decide)) | exact (fun _ _ => rfl)) (by first | exact (fun h => absurd h (by decide)) | exact (fun _ _ => rfl)) (by first | exact (fun h => absurd h (by decide)) | exact (fun _ _ => rfl)) (by first | exact (fun h => absurd h (by decide)) | exact (fun _ _ => rfl)) (by first | exact (fun h => absurd h (by decide)) | exact (fun _ _ => rfl)) (by first | exact (fun h => absurd h (by decide)) | exact (fun _ _ => rfl)) (by first | exact (fun h => absurd h (by decide)) | exact (fun _ _ => rfl)) (by first | exact (fun h => absurd h (by decide)) | exact (fun _ _ => rfl))  (fun _ => rfl) (fun _ h f hf => Nat.lt_succ_of_lt (h f hf)) (by decide) (Within.refl _ _)

theorem State.start_within (s : State) (n : Nat) (halted : Bool) : WithinJ 1104 s (State.start s n halted) := by
  intro j t h
  cases hp : (s.sq n).prefetch with
  | nil => unfold State.start at h; simp only [hp] at h; cases h
  | cons d rest =>
    rw [State.start_eq hp] at h
    injection h with h
    injection h with h1 h2
    subst h2
    split
    · exact (State.halt_within _ _ _ _).via (by decide) (State.started_within s n d rest halted)
    · exact State.started_within s n d rest halted

theorem State.mapStarted_within (s : State) (ring stamp : Nat) (f : Started → Started) :
    Within 16 s (State.mapStarted s ring stamp f) := by
  unfold State.mapStarted
  repeat'
    first
    | with_reducible apply Within.refl
    | with_reducible assumption
    | (extract_lets +onlyGivenNames x; refine Within.cut (l := 16) (r := s) (x := x) ?_ ?_; rotate_left; (try clear_value x); intro _; rotate_right; subst x)
    | (extract_lets +onlyGivenNames x; try clear_value x)
    | (with_reducible apply Within.via (l := 16) (m := 16) (hm := by decide)); (case h => with_reducible apply State.setSq_within)
    | split

theorem State.settle_within (s : State) :
    Within 1040 s (State.settle s) := by
  unfold State.settle
  repeat'
    first
    | with_reducible apply Within.refl
    | with_reducible assumption
    | (extract_lets +onlyGivenNames x; refine Within.cut (l := 1040) (r := s) (x := x) ?_ ?_; rotate_left; (try clear_value x); intro _; rotate_right; subst x)
    | (extract_lets +onlyGivenNames x; try clear_value x)
    | ((with_reducible apply Within.fold); (rotate_left; intro _ _ _; rotate_right))
    | (with_reducible apply State.updHif_via (m := 1024) (l := 1040) (hm := by decide)); (case hsubRings => exact (fun _ _ => rfl)); (case hcplRings => exact (fun _ _ => rfl)); (case hevents => exact (fun _ _ => rfl)); (case hhostMem => exact (fun _ _ => rfl)); (case hmsix => exact (fun _ _ => rfl)); (case hirq => exact (fun _ _ => rfl)); (case hengine => exact (fun h => absurd h (by decide))); (case hd3hot => exact (fun _ _ => rfl)); (case chostMem => exact (fun _ => rfl)); (case cfences => exact (by first | exact fun _ h => h | exact fun _ h f hf => Nat.lt_succ_of_lt (h f hf) | exact fun _ h f hf => h f (List.mem_of_mem_filter hf)))
    | (with_reducible apply Within.via (l := 1040) (m := 16) (hm := by decide)); (case h => with_reducible apply State.mapStarted_within)
    | split

theorem State.endAt_within (s : State) (ring stamp : Nat) :
    Within 1040 s (State.endAt s ring stamp) := by
  unfold State.endAt
  repeat'
    first
    | with_reducible apply Within.refl
    | with_reducible assumption
    | (with_reducible apply Within.via (l := 1040) (m := 16) (hm := by decide)); (case h => with_reducible apply State.mapStarted_within)
    | (with_reducible apply Within.via (l := 1040) (m := 1040) (hm := by decide)); (case h => with_reducible apply State.settle_within)
    | split

theorem State.endOp_within (s : State) (j : Job) :
    Within 1040 s (State.endOp s j) := by
  unfold State.endOp
  repeat'
    first
    | with_reducible apply Within.refl
    | with_reducible assumption
    | (with_reducible apply Within.via (l := 1040) (m := 1040) (hm := by decide)); (case h => with_reducible apply State.endAt_within)
    | split

theorem State.completeAt_within (s : State) (ring stamp status : Nat) (result : BitVec 64) :
    Within 1040 s (State.completeAt s ring stamp status result) := by
  unfold State.completeAt
  repeat'
    first
    | with_reducible apply Within.refl
    | with_reducible assumption
    | (with_reducible apply Within.via (l := 1040) (m := 16) (hm := by decide)); (case h => with_reducible apply State.mapStarted_within)
    | (with_reducible apply Within.via (l := 1040) (m := 1040) (hm := by decide)); (case h => with_reducible apply State.settle_within)
    | split

theorem State.complete_within (s : State) (j : Job) (status : Nat) (result : BitVec 64) :
    Within 1040 s (State.complete s j status result) := by
  unfold State.complete
  repeat'
    first
    | with_reducible apply Within.refl
    | with_reducible assumption
    | (with_reducible apply Within.via (l := 1040) (m := 1040) (hm := by decide)); (case h => with_reducible apply State.completeAt_within)
    | split

theorem State.park_within (s : State) (j : Job) :
    Within 16 s (State.park s j) := by
  unfold State.park
  repeat'
    first
    | with_reducible apply Within.refl
    | with_reducible assumption
    | (with_reducible apply Within.via (l := 16) (m := 16) (hm := by decide)); (case h => with_reducible apply State.setSq_within)
    | split

theorem State.unpark_within (s : State) (ring : Nat) :
    Within 16 s (State.unpark s ring) := by
  unfold State.unpark
  repeat'
    first
    | with_reducible apply Within.refl
    | with_reducible assumption
    | (with_reducible apply Within.via (l := 16) (m := 16) (hm := by decide)); (case h => with_reducible apply State.setSq_within)
    | split

theorem State.parkedNext_none {s : State} {ring opc : Nat} {sel : List Byte → Bool} (h : needsFw opc = false) :
    s.parkedNext ring opc sel = none := by
  unfold State.parkedNext
  split
  · rfl
  · rw [h, Bool.false_and, Bool.false_and, Bool.false_and]; rfl

theorem State.runOp_via {l : Nat} {r s : State} {ring opc : Nat} {sel : List Byte → Bool} {body : Job → State → State}
    (hm : 1104 ||| l = l) (h : Within l r s) (hb : ∀ j t, Within l r t → Within l r (body j t)) :
    Within l r (s.runOp ring opc sel body) := by
  have hm' : ∀ {a}, a ||| 1104 = 1104 → a ||| l = l := fun {a} e => by rw [← hm, ← Nat.or_assoc, e]
  unfold State.runOp
  split
  · exact hb _ _ (Within.via (State.unpark_within _ _) (hm' (by decide)) h)
  · split
    · split
      · exact h
      · split
        · split
          · next j t e =>
            have ht : Within l r t := Within.via (State.start_within _ _ _ _ _ e) (hm' (by decide)) h
            split
            · exact Within.via (State.complete_within _ _ _ _) (hm' (by decide)) ht
            · split
              · exact Within.via (State.complete_within _ _ _ _) (hm' (by decide)) ht
              · split
                · exact Within.via (State.park_within _ _) (hm' (by decide)) ht
                · exact hb _ _ ht
          · exact h
        · exact h
    · exact h

end Sys2Proof.Machine
end

