-- ==== Sys2Proof/Laws/State.lean ====
section
/-!
SUPPORT. Laws/State.lean: one lemma for each field of the state and each update: what the field is afterwards. No proof
unfolds a record update.
-/
namespace Sys2Proof.Machine

/-! ## Updates of one field -/

/-! ### updHif -/

@[simp] theorem State.updHif_pending (s : State) (f : Hif → Hif) : (s.updHif f).pending = s.pending := rfl
@[simp] theorem State.updHif_regs (s : State) (f : Hif → Hif) : (s.updHif f).regs = s.regs := rfl
@[simp] theorem State.updHif_latches (s : State) (f : Hif → Hif) : (s.updHif f).latches = s.latches := rfl
@[simp] theorem State.updHif_ledger (s : State) (f : Hif → Hif) : (s.updHif f).ledger = s.ledger := rfl
@[simp] theorem State.updHif_hif (s : State) (f : Hif → Hif) : (s.updHif f).hif = f s.hif := rfl
@[simp] theorem State.updHif_ing (s : State) (f : Hif → Hif) : (s.updHif f).ing = s.ing := rfl
@[simp] theorem State.updHif_hds (s : State) (f : Hif → Hif) : (s.updHif f).hds = s.hds := rfl
@[simp] theorem State.updHif_srf (s : State) (f : Hif → Hif) : (s.updHif f).srf = s.srf := rfl
@[simp] theorem State.updHif_scc (s : State) (f : Hif → Hif) : (s.updHif f).scc = s.scc := rfl
@[simp] theorem State.updHif_out (s : State) (f : Hif → Hif) : (s.updHif f).out = s.out := rfl
@[simp] theorem State.updHif_lv (s : State) (f : Hif → Hif) : (s.updHif f).lv = s.lv := rfl
@[simp] theorem State.updHif_tim (s : State) (f : Hif → Hif) : (s.updHif f).tim = s.tim := rfl
@[simp] theorem State.updHif_net (s : State) (f : Hif → Hif) : (s.updHif f).net = s.net := rfl
@[simp] theorem State.updHif_psn (s : State) (f : Hif → Hif) : (s.updHif f).psn = s.psn := rfl
@[simp] theorem State.updHif_aud (s : State) (f : Hif → Hif) : (s.updHif f).aud = s.aud := rfl
@[simp] theorem State.updHif_mg (s : State) (f : Hif → Hif) : (s.updHif f).mg = s.mg := rfl
@[simp] theorem State.updHif_coc (s : State) (f : Hif → Hif) : (s.updHif f).coc = s.coc := rfl
@[simp] theorem State.updHif_nv (s : State) (f : Hif → Hif) : (s.updHif f).nv = s.nv := rfl
@[simp] theorem State.updHif_rest (s : State) (f : Hif → Hif) : (s.updHif f).rest = s.rest := rfl
@[simp] theorem State.updHif_pwr (s : State) (f : Hif → Hif) : (s.updHif f).pwr = s.pwr := rfl
@[simp] theorem State.updHif_scrub (s : State) (f : Hif → Hif) : (s.updHif f).scrub = s.scrub := rfl
@[simp] theorem State.updHif_hbm (s : State) (f : Hif → Hif) : (s.updHif f).hbm = s.hbm := rfl
@[simp] theorem State.updHif_reply (s : State) (f : Hif → Hif) : (s.updHif f).reply = s.reply := rfl
@[simp] theorem State.updHif_free (s : State) (f : Hif → Hif) : (s.updHif f).free = s.free := rfl

/-! ### updIng -/

@[simp] theorem State.updIng_pending (s : State) (f : Ing → Ing) : (s.updIng f).pending = s.pending := rfl
@[simp] theorem State.updIng_regs (s : State) (f : Ing → Ing) : (s.updIng f).regs = s.regs := rfl
@[simp] theorem State.updIng_latches (s : State) (f : Ing → Ing) : (s.updIng f).latches = s.latches := rfl
@[simp] theorem State.updIng_ledger (s : State) (f : Ing → Ing) : (s.updIng f).ledger = s.ledger := rfl
@[simp] theorem State.updIng_hif (s : State) (f : Ing → Ing) : (s.updIng f).hif = s.hif := rfl
@[simp] theorem State.updIng_ing (s : State) (f : Ing → Ing) : (s.updIng f).ing = f s.ing := rfl
@[simp] theorem State.updIng_hds (s : State) (f : Ing → Ing) : (s.updIng f).hds = s.hds := rfl
@[simp] theorem State.updIng_srf (s : State) (f : Ing → Ing) : (s.updIng f).srf = s.srf := rfl
@[simp] theorem State.updIng_scc (s : State) (f : Ing → Ing) : (s.updIng f).scc = s.scc := rfl
@[simp] theorem State.updIng_out (s : State) (f : Ing → Ing) : (s.updIng f).out = s.out := rfl
@[simp] theorem State.updIng_lv (s : State) (f : Ing → Ing) : (s.updIng f).lv = s.lv := rfl
@[simp] theorem State.updIng_tim (s : State) (f : Ing → Ing) : (s.updIng f).tim = s.tim := rfl
@[simp] theorem State.updIng_net (s : State) (f : Ing → Ing) : (s.updIng f).net = s.net := rfl
@[simp] theorem State.updIng_psn (s : State) (f : Ing → Ing) : (s.updIng f).psn = s.psn := rfl
@[simp] theorem State.updIng_aud (s : State) (f : Ing → Ing) : (s.updIng f).aud = s.aud := rfl
@[simp] theorem State.updIng_mg (s : State) (f : Ing → Ing) : (s.updIng f).mg = s.mg := rfl
@[simp] theorem State.updIng_coc (s : State) (f : Ing → Ing) : (s.updIng f).coc = s.coc := rfl
@[simp] theorem State.updIng_nv (s : State) (f : Ing → Ing) : (s.updIng f).nv = s.nv := rfl
@[simp] theorem State.updIng_rest (s : State) (f : Ing → Ing) : (s.updIng f).rest = s.rest := rfl
@[simp] theorem State.updIng_pwr (s : State) (f : Ing → Ing) : (s.updIng f).pwr = s.pwr := rfl
@[simp] theorem State.updIng_scrub (s : State) (f : Ing → Ing) : (s.updIng f).scrub = s.scrub := rfl
@[simp] theorem State.updIng_hbm (s : State) (f : Ing → Ing) : (s.updIng f).hbm = s.hbm := rfl
@[simp] theorem State.updIng_reply (s : State) (f : Ing → Ing) : (s.updIng f).reply = s.reply := rfl
@[simp] theorem State.updIng_free (s : State) (f : Ing → Ing) : (s.updIng f).free = s.free := rfl

/-! ### updHds -/

@[simp] theorem State.updHds_pending (s : State) (f : Hds → Hds) : (s.updHds f).pending = s.pending := rfl
@[simp] theorem State.updHds_regs (s : State) (f : Hds → Hds) : (s.updHds f).regs = s.regs := rfl
@[simp] theorem State.updHds_latches (s : State) (f : Hds → Hds) : (s.updHds f).latches = s.latches := rfl
@[simp] theorem State.updHds_ledger (s : State) (f : Hds → Hds) : (s.updHds f).ledger = s.ledger := rfl
@[simp] theorem State.updHds_hif (s : State) (f : Hds → Hds) : (s.updHds f).hif = s.hif := rfl
@[simp] theorem State.updHds_ing (s : State) (f : Hds → Hds) : (s.updHds f).ing = s.ing := rfl
@[simp] theorem State.updHds_hds (s : State) (f : Hds → Hds) : (s.updHds f).hds = f s.hds := rfl
@[simp] theorem State.updHds_srf (s : State) (f : Hds → Hds) : (s.updHds f).srf = s.srf := rfl
@[simp] theorem State.updHds_scc (s : State) (f : Hds → Hds) : (s.updHds f).scc = s.scc := rfl
@[simp] theorem State.updHds_out (s : State) (f : Hds → Hds) : (s.updHds f).out = s.out := rfl
@[simp] theorem State.updHds_lv (s : State) (f : Hds → Hds) : (s.updHds f).lv = s.lv := rfl
@[simp] theorem State.updHds_tim (s : State) (f : Hds → Hds) : (s.updHds f).tim = s.tim := rfl
@[simp] theorem State.updHds_net (s : State) (f : Hds → Hds) : (s.updHds f).net = s.net := rfl
@[simp] theorem State.updHds_psn (s : State) (f : Hds → Hds) : (s.updHds f).psn = s.psn := rfl
@[simp] theorem State.updHds_aud (s : State) (f : Hds → Hds) : (s.updHds f).aud = s.aud := rfl
@[simp] theorem State.updHds_mg (s : State) (f : Hds → Hds) : (s.updHds f).mg = s.mg := rfl
@[simp] theorem State.updHds_coc (s : State) (f : Hds → Hds) : (s.updHds f).coc = s.coc := rfl
@[simp] theorem State.updHds_nv (s : State) (f : Hds → Hds) : (s.updHds f).nv = s.nv := rfl
@[simp] theorem State.updHds_rest (s : State) (f : Hds → Hds) : (s.updHds f).rest = s.rest := rfl
@[simp] theorem State.updHds_pwr (s : State) (f : Hds → Hds) : (s.updHds f).pwr = s.pwr := rfl
@[simp] theorem State.updHds_scrub (s : State) (f : Hds → Hds) : (s.updHds f).scrub = s.scrub := rfl
@[simp] theorem State.updHds_hbm (s : State) (f : Hds → Hds) : (s.updHds f).hbm = s.hbm := rfl
@[simp] theorem State.updHds_reply (s : State) (f : Hds → Hds) : (s.updHds f).reply = s.reply := rfl
@[simp] theorem State.updHds_free (s : State) (f : Hds → Hds) : (s.updHds f).free = s.free := rfl

/-! ### updSrf -/

@[simp] theorem State.updSrf_pending (s : State) (f : Srf → Srf) : (s.updSrf f).pending = s.pending := rfl
@[simp] theorem State.updSrf_regs (s : State) (f : Srf → Srf) : (s.updSrf f).regs = s.regs := rfl
@[simp] theorem State.updSrf_latches (s : State) (f : Srf → Srf) : (s.updSrf f).latches = s.latches := rfl
@[simp] theorem State.updSrf_ledger (s : State) (f : Srf → Srf) : (s.updSrf f).ledger = s.ledger := rfl
@[simp] theorem State.updSrf_hif (s : State) (f : Srf → Srf) : (s.updSrf f).hif = s.hif := rfl
@[simp] theorem State.updSrf_ing (s : State) (f : Srf → Srf) : (s.updSrf f).ing = s.ing := rfl
@[simp] theorem State.updSrf_hds (s : State) (f : Srf → Srf) : (s.updSrf f).hds = s.hds := rfl
@[simp] theorem State.updSrf_srf (s : State) (f : Srf → Srf) : (s.updSrf f).srf = f s.srf := rfl
@[simp] theorem State.updSrf_scc (s : State) (f : Srf → Srf) : (s.updSrf f).scc = s.scc := rfl
@[simp] theorem State.updSrf_out (s : State) (f : Srf → Srf) : (s.updSrf f).out = s.out := rfl
@[simp] theorem State.updSrf_lv (s : State) (f : Srf → Srf) : (s.updSrf f).lv = s.lv := rfl
@[simp] theorem State.updSrf_tim (s : State) (f : Srf → Srf) : (s.updSrf f).tim = s.tim := rfl
@[simp] theorem State.updSrf_net (s : State) (f : Srf → Srf) : (s.updSrf f).net = s.net := rfl
@[simp] theorem State.updSrf_psn (s : State) (f : Srf → Srf) : (s.updSrf f).psn = s.psn := rfl
@[simp] theorem State.updSrf_aud (s : State) (f : Srf → Srf) : (s.updSrf f).aud = s.aud := rfl
@[simp] theorem State.updSrf_mg (s : State) (f : Srf → Srf) : (s.updSrf f).mg = s.mg := rfl
@[simp] theorem State.updSrf_coc (s : State) (f : Srf → Srf) : (s.updSrf f).coc = s.coc := rfl
@[simp] theorem State.updSrf_nv (s : State) (f : Srf → Srf) : (s.updSrf f).nv = s.nv := rfl
@[simp] theorem State.updSrf_rest (s : State) (f : Srf → Srf) : (s.updSrf f).rest = s.rest := rfl
@[simp] theorem State.updSrf_pwr (s : State) (f : Srf → Srf) : (s.updSrf f).pwr = s.pwr := rfl
@[simp] theorem State.updSrf_scrub (s : State) (f : Srf → Srf) : (s.updSrf f).scrub = s.scrub := rfl
@[simp] theorem State.updSrf_hbm (s : State) (f : Srf → Srf) : (s.updSrf f).hbm = s.hbm := rfl
@[simp] theorem State.updSrf_reply (s : State) (f : Srf → Srf) : (s.updSrf f).reply = s.reply := rfl
@[simp] theorem State.updSrf_free (s : State) (f : Srf → Srf) : (s.updSrf f).free = s.free := rfl

/-! ### updScc -/

@[simp] theorem State.updScc_pending (s : State) (f : Scc → Scc) : (s.updScc f).pending = s.pending := rfl
@[simp] theorem State.updScc_regs (s : State) (f : Scc → Scc) : (s.updScc f).regs = s.regs := rfl
@[simp] theorem State.updScc_latches (s : State) (f : Scc → Scc) : (s.updScc f).latches = s.latches := rfl
@[simp] theorem State.updScc_ledger (s : State) (f : Scc → Scc) : (s.updScc f).ledger = s.ledger := rfl
@[simp] theorem State.updScc_hif (s : State) (f : Scc → Scc) : (s.updScc f).hif = s.hif := rfl
@[simp] theorem State.updScc_ing (s : State) (f : Scc → Scc) : (s.updScc f).ing = s.ing := rfl
@[simp] theorem State.updScc_hds (s : State) (f : Scc → Scc) : (s.updScc f).hds = s.hds := rfl
@[simp] theorem State.updScc_srf (s : State) (f : Scc → Scc) : (s.updScc f).srf = s.srf := rfl
@[simp] theorem State.updScc_scc (s : State) (f : Scc → Scc) : (s.updScc f).scc = f s.scc := rfl
@[simp] theorem State.updScc_out (s : State) (f : Scc → Scc) : (s.updScc f).out = s.out := rfl
@[simp] theorem State.updScc_lv (s : State) (f : Scc → Scc) : (s.updScc f).lv = s.lv := rfl
@[simp] theorem State.updScc_tim (s : State) (f : Scc → Scc) : (s.updScc f).tim = s.tim := rfl
@[simp] theorem State.updScc_net (s : State) (f : Scc → Scc) : (s.updScc f).net = s.net := rfl
@[simp] theorem State.updScc_psn (s : State) (f : Scc → Scc) : (s.updScc f).psn = s.psn := rfl
@[simp] theorem State.updScc_aud (s : State) (f : Scc → Scc) : (s.updScc f).aud = s.aud := rfl
@[simp] theorem State.updScc_mg (s : State) (f : Scc → Scc) : (s.updScc f).mg = s.mg := rfl
@[simp] theorem State.updScc_coc (s : State) (f : Scc → Scc) : (s.updScc f).coc = s.coc := rfl
@[simp] theorem State.updScc_nv (s : State) (f : Scc → Scc) : (s.updScc f).nv = s.nv := rfl
@[simp] theorem State.updScc_rest (s : State) (f : Scc → Scc) : (s.updScc f).rest = s.rest := rfl
@[simp] theorem State.updScc_pwr (s : State) (f : Scc → Scc) : (s.updScc f).pwr = s.pwr := rfl
@[simp] theorem State.updScc_scrub (s : State) (f : Scc → Scc) : (s.updScc f).scrub = s.scrub := rfl
@[simp] theorem State.updScc_hbm (s : State) (f : Scc → Scc) : (s.updScc f).hbm = s.hbm := rfl
@[simp] theorem State.updScc_reply (s : State) (f : Scc → Scc) : (s.updScc f).reply = s.reply := rfl
@[simp] theorem State.updScc_free (s : State) (f : Scc → Scc) : (s.updScc f).free = s.free := rfl

/-! ### updOut -/

@[simp] theorem State.updOut_pending (s : State) (f : Out → Out) : (s.updOut f).pending = s.pending := rfl
@[simp] theorem State.updOut_regs (s : State) (f : Out → Out) : (s.updOut f).regs = s.regs := rfl
@[simp] theorem State.updOut_latches (s : State) (f : Out → Out) : (s.updOut f).latches = s.latches := rfl
@[simp] theorem State.updOut_ledger (s : State) (f : Out → Out) : (s.updOut f).ledger = s.ledger := rfl
@[simp] theorem State.updOut_hif (s : State) (f : Out → Out) : (s.updOut f).hif = s.hif := rfl
@[simp] theorem State.updOut_ing (s : State) (f : Out → Out) : (s.updOut f).ing = s.ing := rfl
@[simp] theorem State.updOut_hds (s : State) (f : Out → Out) : (s.updOut f).hds = s.hds := rfl
@[simp] theorem State.updOut_srf (s : State) (f : Out → Out) : (s.updOut f).srf = s.srf := rfl
@[simp] theorem State.updOut_scc (s : State) (f : Out → Out) : (s.updOut f).scc = s.scc := rfl
@[simp] theorem State.updOut_out (s : State) (f : Out → Out) : (s.updOut f).out = f s.out := rfl
@[simp] theorem State.updOut_lv (s : State) (f : Out → Out) : (s.updOut f).lv = s.lv := rfl
@[simp] theorem State.updOut_tim (s : State) (f : Out → Out) : (s.updOut f).tim = s.tim := rfl
@[simp] theorem State.updOut_net (s : State) (f : Out → Out) : (s.updOut f).net = s.net := rfl
@[simp] theorem State.updOut_psn (s : State) (f : Out → Out) : (s.updOut f).psn = s.psn := rfl
@[simp] theorem State.updOut_aud (s : State) (f : Out → Out) : (s.updOut f).aud = s.aud := rfl
@[simp] theorem State.updOut_mg (s : State) (f : Out → Out) : (s.updOut f).mg = s.mg := rfl
@[simp] theorem State.updOut_coc (s : State) (f : Out → Out) : (s.updOut f).coc = s.coc := rfl
@[simp] theorem State.updOut_nv (s : State) (f : Out → Out) : (s.updOut f).nv = s.nv := rfl
@[simp] theorem State.updOut_rest (s : State) (f : Out → Out) : (s.updOut f).rest = s.rest := rfl
@[simp] theorem State.updOut_pwr (s : State) (f : Out → Out) : (s.updOut f).pwr = s.pwr := rfl
@[simp] theorem State.updOut_scrub (s : State) (f : Out → Out) : (s.updOut f).scrub = s.scrub := rfl
@[simp] theorem State.updOut_hbm (s : State) (f : Out → Out) : (s.updOut f).hbm = s.hbm := rfl
@[simp] theorem State.updOut_reply (s : State) (f : Out → Out) : (s.updOut f).reply = s.reply := rfl
@[simp] theorem State.updOut_free (s : State) (f : Out → Out) : (s.updOut f).free = s.free := rfl

/-! ### updLv -/

@[simp] theorem State.updLv_pending (s : State) (f : Lv → Lv) : (s.updLv f).pending = s.pending := rfl
@[simp] theorem State.updLv_regs (s : State) (f : Lv → Lv) : (s.updLv f).regs = s.regs := rfl
@[simp] theorem State.updLv_latches (s : State) (f : Lv → Lv) : (s.updLv f).latches = s.latches := rfl
@[simp] theorem State.updLv_ledger (s : State) (f : Lv → Lv) : (s.updLv f).ledger = s.ledger := rfl
@[simp] theorem State.updLv_hif (s : State) (f : Lv → Lv) : (s.updLv f).hif = s.hif := rfl
@[simp] theorem State.updLv_ing (s : State) (f : Lv → Lv) : (s.updLv f).ing = s.ing := rfl
@[simp] theorem State.updLv_hds (s : State) (f : Lv → Lv) : (s.updLv f).hds = s.hds := rfl
@[simp] theorem State.updLv_srf (s : State) (f : Lv → Lv) : (s.updLv f).srf = s.srf := rfl
@[simp] theorem State.updLv_scc (s : State) (f : Lv → Lv) : (s.updLv f).scc = s.scc := rfl
@[simp] theorem State.updLv_out (s : State) (f : Lv → Lv) : (s.updLv f).out = s.out := rfl
@[simp] theorem State.updLv_lv (s : State) (f : Lv → Lv) : (s.updLv f).lv = f s.lv := rfl
@[simp] theorem State.updLv_tim (s : State) (f : Lv → Lv) : (s.updLv f).tim = s.tim := rfl
@[simp] theorem State.updLv_net (s : State) (f : Lv → Lv) : (s.updLv f).net = s.net := rfl
@[simp] theorem State.updLv_psn (s : State) (f : Lv → Lv) : (s.updLv f).psn = s.psn := rfl
@[simp] theorem State.updLv_aud (s : State) (f : Lv → Lv) : (s.updLv f).aud = s.aud := rfl
@[simp] theorem State.updLv_mg (s : State) (f : Lv → Lv) : (s.updLv f).mg = s.mg := rfl
@[simp] theorem State.updLv_coc (s : State) (f : Lv → Lv) : (s.updLv f).coc = s.coc := rfl
@[simp] theorem State.updLv_nv (s : State) (f : Lv → Lv) : (s.updLv f).nv = s.nv := rfl
@[simp] theorem State.updLv_rest (s : State) (f : Lv → Lv) : (s.updLv f).rest = s.rest := rfl
@[simp] theorem State.updLv_pwr (s : State) (f : Lv → Lv) : (s.updLv f).pwr = s.pwr := rfl
@[simp] theorem State.updLv_scrub (s : State) (f : Lv → Lv) : (s.updLv f).scrub = s.scrub := rfl
@[simp] theorem State.updLv_hbm (s : State) (f : Lv → Lv) : (s.updLv f).hbm = s.hbm := rfl
@[simp] theorem State.updLv_reply (s : State) (f : Lv → Lv) : (s.updLv f).reply = s.reply := rfl
@[simp] theorem State.updLv_free (s : State) (f : Lv → Lv) : (s.updLv f).free = s.free := rfl

/-! ### updTim -/

@[simp] theorem State.updTim_pending (s : State) (f : Tim → Tim) : (s.updTim f).pending = s.pending := rfl
@[simp] theorem State.updTim_regs (s : State) (f : Tim → Tim) : (s.updTim f).regs = s.regs := rfl
@[simp] theorem State.updTim_latches (s : State) (f : Tim → Tim) : (s.updTim f).latches = s.latches := rfl
@[simp] theorem State.updTim_ledger (s : State) (f : Tim → Tim) : (s.updTim f).ledger = s.ledger := rfl
@[simp] theorem State.updTim_hif (s : State) (f : Tim → Tim) : (s.updTim f).hif = s.hif := rfl
@[simp] theorem State.updTim_ing (s : State) (f : Tim → Tim) : (s.updTim f).ing = s.ing := rfl
@[simp] theorem State.updTim_hds (s : State) (f : Tim → Tim) : (s.updTim f).hds = s.hds := rfl
@[simp] theorem State.updTim_srf (s : State) (f : Tim → Tim) : (s.updTim f).srf = s.srf := rfl
@[simp] theorem State.updTim_scc (s : State) (f : Tim → Tim) : (s.updTim f).scc = s.scc := rfl
@[simp] theorem State.updTim_out (s : State) (f : Tim → Tim) : (s.updTim f).out = s.out := rfl
@[simp] theorem State.updTim_lv (s : State) (f : Tim → Tim) : (s.updTim f).lv = s.lv := rfl
@[simp] theorem State.updTim_tim (s : State) (f : Tim → Tim) : (s.updTim f).tim = f s.tim := rfl
@[simp] theorem State.updTim_net (s : State) (f : Tim → Tim) : (s.updTim f).net = s.net := rfl
@[simp] theorem State.updTim_psn (s : State) (f : Tim → Tim) : (s.updTim f).psn = s.psn := rfl
@[simp] theorem State.updTim_aud (s : State) (f : Tim → Tim) : (s.updTim f).aud = s.aud := rfl
@[simp] theorem State.updTim_mg (s : State) (f : Tim → Tim) : (s.updTim f).mg = s.mg := rfl
@[simp] theorem State.updTim_coc (s : State) (f : Tim → Tim) : (s.updTim f).coc = s.coc := rfl
@[simp] theorem State.updTim_nv (s : State) (f : Tim → Tim) : (s.updTim f).nv = s.nv := rfl
@[simp] theorem State.updTim_rest (s : State) (f : Tim → Tim) : (s.updTim f).rest = s.rest := rfl
@[simp] theorem State.updTim_pwr (s : State) (f : Tim → Tim) : (s.updTim f).pwr = s.pwr := rfl
@[simp] theorem State.updTim_scrub (s : State) (f : Tim → Tim) : (s.updTim f).scrub = s.scrub := rfl
@[simp] theorem State.updTim_hbm (s : State) (f : Tim → Tim) : (s.updTim f).hbm = s.hbm := rfl
@[simp] theorem State.updTim_reply (s : State) (f : Tim → Tim) : (s.updTim f).reply = s.reply := rfl
@[simp] theorem State.updTim_free (s : State) (f : Tim → Tim) : (s.updTim f).free = s.free := rfl

/-! ### updNet -/

@[simp] theorem State.updNet_pending (s : State) (f : Net → Net) : (s.updNet f).pending = s.pending := rfl
@[simp] theorem State.updNet_regs (s : State) (f : Net → Net) : (s.updNet f).regs = s.regs := rfl
@[simp] theorem State.updNet_latches (s : State) (f : Net → Net) : (s.updNet f).latches = s.latches := rfl
@[simp] theorem State.updNet_ledger (s : State) (f : Net → Net) : (s.updNet f).ledger = s.ledger := rfl
@[simp] theorem State.updNet_hif (s : State) (f : Net → Net) : (s.updNet f).hif = s.hif := rfl
@[simp] theorem State.updNet_ing (s : State) (f : Net → Net) : (s.updNet f).ing = s.ing := rfl
@[simp] theorem State.updNet_hds (s : State) (f : Net → Net) : (s.updNet f).hds = s.hds := rfl
@[simp] theorem State.updNet_srf (s : State) (f : Net → Net) : (s.updNet f).srf = s.srf := rfl
@[simp] theorem State.updNet_scc (s : State) (f : Net → Net) : (s.updNet f).scc = s.scc := rfl
@[simp] theorem State.updNet_out (s : State) (f : Net → Net) : (s.updNet f).out = s.out := rfl
@[simp] theorem State.updNet_lv (s : State) (f : Net → Net) : (s.updNet f).lv = s.lv := rfl
@[simp] theorem State.updNet_tim (s : State) (f : Net → Net) : (s.updNet f).tim = s.tim := rfl
@[simp] theorem State.updNet_net (s : State) (f : Net → Net) : (s.updNet f).net = f s.net := rfl
@[simp] theorem State.updNet_psn (s : State) (f : Net → Net) : (s.updNet f).psn = s.psn := rfl
@[simp] theorem State.updNet_aud (s : State) (f : Net → Net) : (s.updNet f).aud = s.aud := rfl
@[simp] theorem State.updNet_mg (s : State) (f : Net → Net) : (s.updNet f).mg = s.mg := rfl
@[simp] theorem State.updNet_coc (s : State) (f : Net → Net) : (s.updNet f).coc = s.coc := rfl
@[simp] theorem State.updNet_nv (s : State) (f : Net → Net) : (s.updNet f).nv = s.nv := rfl
@[simp] theorem State.updNet_rest (s : State) (f : Net → Net) : (s.updNet f).rest = s.rest := rfl
@[simp] theorem State.updNet_pwr (s : State) (f : Net → Net) : (s.updNet f).pwr = s.pwr := rfl
@[simp] theorem State.updNet_scrub (s : State) (f : Net → Net) : (s.updNet f).scrub = s.scrub := rfl
@[simp] theorem State.updNet_hbm (s : State) (f : Net → Net) : (s.updNet f).hbm = s.hbm := rfl
@[simp] theorem State.updNet_reply (s : State) (f : Net → Net) : (s.updNet f).reply = s.reply := rfl
@[simp] theorem State.updNet_free (s : State) (f : Net → Net) : (s.updNet f).free = s.free := rfl

/-! ### updPsn -/

@[simp] theorem State.updPsn_pending (s : State) (f : Psn → Psn) : (s.updPsn f).pending = s.pending := rfl
@[simp] theorem State.updPsn_regs (s : State) (f : Psn → Psn) : (s.updPsn f).regs = s.regs := rfl
@[simp] theorem State.updPsn_latches (s : State) (f : Psn → Psn) : (s.updPsn f).latches = s.latches := rfl
@[simp] theorem State.updPsn_ledger (s : State) (f : Psn → Psn) : (s.updPsn f).ledger = s.ledger := rfl
@[simp] theorem State.updPsn_hif (s : State) (f : Psn → Psn) : (s.updPsn f).hif = s.hif := rfl
@[simp] theorem State.updPsn_ing (s : State) (f : Psn → Psn) : (s.updPsn f).ing = s.ing := rfl
@[simp] theorem State.updPsn_hds (s : State) (f : Psn → Psn) : (s.updPsn f).hds = s.hds := rfl
@[simp] theorem State.updPsn_srf (s : State) (f : Psn → Psn) : (s.updPsn f).srf = s.srf := rfl
@[simp] theorem State.updPsn_scc (s : State) (f : Psn → Psn) : (s.updPsn f).scc = s.scc := rfl
@[simp] theorem State.updPsn_out (s : State) (f : Psn → Psn) : (s.updPsn f).out = s.out := rfl
@[simp] theorem State.updPsn_lv (s : State) (f : Psn → Psn) : (s.updPsn f).lv = s.lv := rfl
@[simp] theorem State.updPsn_tim (s : State) (f : Psn → Psn) : (s.updPsn f).tim = s.tim := rfl
@[simp] theorem State.updPsn_net (s : State) (f : Psn → Psn) : (s.updPsn f).net = s.net := rfl
@[simp] theorem State.updPsn_psn (s : State) (f : Psn → Psn) : (s.updPsn f).psn = f s.psn := rfl
@[simp] theorem State.updPsn_aud (s : State) (f : Psn → Psn) : (s.updPsn f).aud = s.aud := rfl
@[simp] theorem State.updPsn_mg (s : State) (f : Psn → Psn) : (s.updPsn f).mg = s.mg := rfl
@[simp] theorem State.updPsn_coc (s : State) (f : Psn → Psn) : (s.updPsn f).coc = s.coc := rfl
@[simp] theorem State.updPsn_nv (s : State) (f : Psn → Psn) : (s.updPsn f).nv = s.nv := rfl
@[simp] theorem State.updPsn_rest (s : State) (f : Psn → Psn) : (s.updPsn f).rest = s.rest := rfl
@[simp] theorem State.updPsn_pwr (s : State) (f : Psn → Psn) : (s.updPsn f).pwr = s.pwr := rfl
@[simp] theorem State.updPsn_scrub (s : State) (f : Psn → Psn) : (s.updPsn f).scrub = s.scrub := rfl
@[simp] theorem State.updPsn_hbm (s : State) (f : Psn → Psn) : (s.updPsn f).hbm = s.hbm := rfl
@[simp] theorem State.updPsn_reply (s : State) (f : Psn → Psn) : (s.updPsn f).reply = s.reply := rfl
@[simp] theorem State.updPsn_free (s : State) (f : Psn → Psn) : (s.updPsn f).free = s.free := rfl

/-! ### updAud -/

@[simp] theorem State.updAud_pending (s : State) (f : Aud → Aud) : (s.updAud f).pending = s.pending := rfl
@[simp] theorem State.updAud_regs (s : State) (f : Aud → Aud) : (s.updAud f).regs = s.regs := rfl
@[simp] theorem State.updAud_latches (s : State) (f : Aud → Aud) : (s.updAud f).latches = s.latches := rfl
@[simp] theorem State.updAud_ledger (s : State) (f : Aud → Aud) : (s.updAud f).ledger = s.ledger := rfl
@[simp] theorem State.updAud_hif (s : State) (f : Aud → Aud) : (s.updAud f).hif = s.hif := rfl
@[simp] theorem State.updAud_ing (s : State) (f : Aud → Aud) : (s.updAud f).ing = s.ing := rfl
@[simp] theorem State.updAud_hds (s : State) (f : Aud → Aud) : (s.updAud f).hds = s.hds := rfl
@[simp] theorem State.updAud_srf (s : State) (f : Aud → Aud) : (s.updAud f).srf = s.srf := rfl
@[simp] theorem State.updAud_scc (s : State) (f : Aud → Aud) : (s.updAud f).scc = s.scc := rfl
@[simp] theorem State.updAud_out (s : State) (f : Aud → Aud) : (s.updAud f).out = s.out := rfl
@[simp] theorem State.updAud_lv (s : State) (f : Aud → Aud) : (s.updAud f).lv = s.lv := rfl
@[simp] theorem State.updAud_tim (s : State) (f : Aud → Aud) : (s.updAud f).tim = s.tim := rfl
@[simp] theorem State.updAud_net (s : State) (f : Aud → Aud) : (s.updAud f).net = s.net := rfl
@[simp] theorem State.updAud_psn (s : State) (f : Aud → Aud) : (s.updAud f).psn = s.psn := rfl
@[simp] theorem State.updAud_aud (s : State) (f : Aud → Aud) : (s.updAud f).aud = f s.aud := rfl
@[simp] theorem State.updAud_mg (s : State) (f : Aud → Aud) : (s.updAud f).mg = s.mg := rfl
@[simp] theorem State.updAud_coc (s : State) (f : Aud → Aud) : (s.updAud f).coc = s.coc := rfl
@[simp] theorem State.updAud_nv (s : State) (f : Aud → Aud) : (s.updAud f).nv = s.nv := rfl
@[simp] theorem State.updAud_rest (s : State) (f : Aud → Aud) : (s.updAud f).rest = s.rest := rfl
@[simp] theorem State.updAud_pwr (s : State) (f : Aud → Aud) : (s.updAud f).pwr = s.pwr := rfl
@[simp] theorem State.updAud_scrub (s : State) (f : Aud → Aud) : (s.updAud f).scrub = s.scrub := rfl
@[simp] theorem State.updAud_hbm (s : State) (f : Aud → Aud) : (s.updAud f).hbm = s.hbm := rfl
@[simp] theorem State.updAud_reply (s : State) (f : Aud → Aud) : (s.updAud f).reply = s.reply := rfl
@[simp] theorem State.updAud_free (s : State) (f : Aud → Aud) : (s.updAud f).free = s.free := rfl

/-! ### updCoc -/

@[simp] theorem State.updCoc_pending (s : State) (f : Coc → Coc) : (s.updCoc f).pending = s.pending := rfl
@[simp] theorem State.updCoc_regs (s : State) (f : Coc → Coc) : (s.updCoc f).regs = s.regs := rfl
@[simp] theorem State.updCoc_latches (s : State) (f : Coc → Coc) : (s.updCoc f).latches = s.latches := rfl
@[simp] theorem State.updCoc_ledger (s : State) (f : Coc → Coc) : (s.updCoc f).ledger = s.ledger := rfl
@[simp] theorem State.updCoc_hif (s : State) (f : Coc → Coc) : (s.updCoc f).hif = s.hif := rfl
@[simp] theorem State.updCoc_ing (s : State) (f : Coc → Coc) : (s.updCoc f).ing = s.ing := rfl
@[simp] theorem State.updCoc_hds (s : State) (f : Coc → Coc) : (s.updCoc f).hds = s.hds := rfl
@[simp] theorem State.updCoc_srf (s : State) (f : Coc → Coc) : (s.updCoc f).srf = s.srf := rfl
@[simp] theorem State.updCoc_scc (s : State) (f : Coc → Coc) : (s.updCoc f).scc = s.scc := rfl
@[simp] theorem State.updCoc_out (s : State) (f : Coc → Coc) : (s.updCoc f).out = s.out := rfl
@[simp] theorem State.updCoc_lv (s : State) (f : Coc → Coc) : (s.updCoc f).lv = s.lv := rfl
@[simp] theorem State.updCoc_tim (s : State) (f : Coc → Coc) : (s.updCoc f).tim = s.tim := rfl
@[simp] theorem State.updCoc_net (s : State) (f : Coc → Coc) : (s.updCoc f).net = s.net := rfl
@[simp] theorem State.updCoc_psn (s : State) (f : Coc → Coc) : (s.updCoc f).psn = s.psn := rfl
@[simp] theorem State.updCoc_aud (s : State) (f : Coc → Coc) : (s.updCoc f).aud = s.aud := rfl
@[simp] theorem State.updCoc_mg (s : State) (f : Coc → Coc) : (s.updCoc f).mg = s.mg := rfl
@[simp] theorem State.updCoc_coc (s : State) (f : Coc → Coc) : (s.updCoc f).coc = f s.coc := rfl
@[simp] theorem State.updCoc_nv (s : State) (f : Coc → Coc) : (s.updCoc f).nv = s.nv := rfl
@[simp] theorem State.updCoc_rest (s : State) (f : Coc → Coc) : (s.updCoc f).rest = s.rest := rfl
@[simp] theorem State.updCoc_pwr (s : State) (f : Coc → Coc) : (s.updCoc f).pwr = s.pwr := rfl
@[simp] theorem State.updCoc_scrub (s : State) (f : Coc → Coc) : (s.updCoc f).scrub = s.scrub := rfl
@[simp] theorem State.updCoc_hbm (s : State) (f : Coc → Coc) : (s.updCoc f).hbm = s.hbm := rfl
@[simp] theorem State.updCoc_reply (s : State) (f : Coc → Coc) : (s.updCoc f).reply = s.reply := rfl
@[simp] theorem State.updCoc_free (s : State) (f : Coc → Coc) : (s.updCoc f).free = s.free := rfl

/-! ### updNv -/

@[simp] theorem State.updNv_pending (s : State) (f : Nv → Nv) : (s.updNv f).pending = s.pending := rfl
@[simp] theorem State.updNv_regs (s : State) (f : Nv → Nv) : (s.updNv f).regs = s.regs := rfl
@[simp] theorem State.updNv_latches (s : State) (f : Nv → Nv) : (s.updNv f).latches = s.latches := rfl
@[simp] theorem State.updNv_ledger (s : State) (f : Nv → Nv) : (s.updNv f).ledger = s.ledger := rfl
@[simp] theorem State.updNv_hif (s : State) (f : Nv → Nv) : (s.updNv f).hif = s.hif := rfl
@[simp] theorem State.updNv_ing (s : State) (f : Nv → Nv) : (s.updNv f).ing = s.ing := rfl
@[simp] theorem State.updNv_hds (s : State) (f : Nv → Nv) : (s.updNv f).hds = s.hds := rfl
@[simp] theorem State.updNv_srf (s : State) (f : Nv → Nv) : (s.updNv f).srf = s.srf := rfl
@[simp] theorem State.updNv_scc (s : State) (f : Nv → Nv) : (s.updNv f).scc = s.scc := rfl
@[simp] theorem State.updNv_out (s : State) (f : Nv → Nv) : (s.updNv f).out = s.out := rfl
@[simp] theorem State.updNv_lv (s : State) (f : Nv → Nv) : (s.updNv f).lv = s.lv := rfl
@[simp] theorem State.updNv_tim (s : State) (f : Nv → Nv) : (s.updNv f).tim = s.tim := rfl
@[simp] theorem State.updNv_net (s : State) (f : Nv → Nv) : (s.updNv f).net = s.net := rfl
@[simp] theorem State.updNv_psn (s : State) (f : Nv → Nv) : (s.updNv f).psn = s.psn := rfl
@[simp] theorem State.updNv_aud (s : State) (f : Nv → Nv) : (s.updNv f).aud = s.aud := rfl
@[simp] theorem State.updNv_mg (s : State) (f : Nv → Nv) : (s.updNv f).mg = s.mg := rfl
@[simp] theorem State.updNv_coc (s : State) (f : Nv → Nv) : (s.updNv f).coc = s.coc := rfl
@[simp] theorem State.updNv_nv (s : State) (f : Nv → Nv) : (s.updNv f).nv = f s.nv := rfl
@[simp] theorem State.updNv_rest (s : State) (f : Nv → Nv) : (s.updNv f).rest = s.rest := rfl
@[simp] theorem State.updNv_pwr (s : State) (f : Nv → Nv) : (s.updNv f).pwr = s.pwr := rfl
@[simp] theorem State.updNv_scrub (s : State) (f : Nv → Nv) : (s.updNv f).scrub = s.scrub := rfl
@[simp] theorem State.updNv_hbm (s : State) (f : Nv → Nv) : (s.updNv f).hbm = s.hbm := rfl
@[simp] theorem State.updNv_reply (s : State) (f : Nv → Nv) : (s.updNv f).reply = s.reply := rfl
@[simp] theorem State.updNv_free (s : State) (f : Nv → Nv) : (s.updNv f).free = s.free := rfl

/-! ### updRest -/

@[simp] theorem State.updRest_pending (s : State) (f : Rest → Rest) : (s.updRest f).pending = s.pending := rfl
@[simp] theorem State.updRest_regs (s : State) (f : Rest → Rest) : (s.updRest f).regs = s.regs := rfl
@[simp] theorem State.updRest_latches (s : State) (f : Rest → Rest) : (s.updRest f).latches = s.latches := rfl
@[simp] theorem State.updRest_ledger (s : State) (f : Rest → Rest) : (s.updRest f).ledger = s.ledger := rfl
@[simp] theorem State.updRest_hif (s : State) (f : Rest → Rest) : (s.updRest f).hif = s.hif := rfl
@[simp] theorem State.updRest_ing (s : State) (f : Rest → Rest) : (s.updRest f).ing = s.ing := rfl
@[simp] theorem State.updRest_hds (s : State) (f : Rest → Rest) : (s.updRest f).hds = s.hds := rfl
@[simp] theorem State.updRest_srf (s : State) (f : Rest → Rest) : (s.updRest f).srf = s.srf := rfl
@[simp] theorem State.updRest_scc (s : State) (f : Rest → Rest) : (s.updRest f).scc = s.scc := rfl
@[simp] theorem State.updRest_out (s : State) (f : Rest → Rest) : (s.updRest f).out = s.out := rfl
@[simp] theorem State.updRest_lv (s : State) (f : Rest → Rest) : (s.updRest f).lv = s.lv := rfl
@[simp] theorem State.updRest_tim (s : State) (f : Rest → Rest) : (s.updRest f).tim = s.tim := rfl
@[simp] theorem State.updRest_net (s : State) (f : Rest → Rest) : (s.updRest f).net = s.net := rfl
@[simp] theorem State.updRest_psn (s : State) (f : Rest → Rest) : (s.updRest f).psn = s.psn := rfl
@[simp] theorem State.updRest_aud (s : State) (f : Rest → Rest) : (s.updRest f).aud = s.aud := rfl
@[simp] theorem State.updRest_mg (s : State) (f : Rest → Rest) : (s.updRest f).mg = s.mg := rfl
@[simp] theorem State.updRest_coc (s : State) (f : Rest → Rest) : (s.updRest f).coc = s.coc := rfl
@[simp] theorem State.updRest_nv (s : State) (f : Rest → Rest) : (s.updRest f).nv = s.nv := rfl
@[simp] theorem State.updRest_rest (s : State) (f : Rest → Rest) : (s.updRest f).rest = f s.rest := rfl
@[simp] theorem State.updRest_pwr (s : State) (f : Rest → Rest) : (s.updRest f).pwr = s.pwr := rfl
@[simp] theorem State.updRest_scrub (s : State) (f : Rest → Rest) : (s.updRest f).scrub = s.scrub := rfl
@[simp] theorem State.updRest_hbm (s : State) (f : Rest → Rest) : (s.updRest f).hbm = s.hbm := rfl
@[simp] theorem State.updRest_reply (s : State) (f : Rest → Rest) : (s.updRest f).reply = s.reply := rfl
@[simp] theorem State.updRest_free (s : State) (f : Rest → Rest) : (s.updRest f).free = s.free := rfl

/-! ### updPwr -/

@[simp] theorem State.updPwr_pending (s : State) (f : Pwr → Pwr) : (s.updPwr f).pending = s.pending := rfl
@[simp] theorem State.updPwr_regs (s : State) (f : Pwr → Pwr) : (s.updPwr f).regs = s.regs := rfl
@[simp] theorem State.updPwr_latches (s : State) (f : Pwr → Pwr) : (s.updPwr f).latches = s.latches := rfl
@[simp] theorem State.updPwr_ledger (s : State) (f : Pwr → Pwr) : (s.updPwr f).ledger = s.ledger := rfl
@[simp] theorem State.updPwr_hif (s : State) (f : Pwr → Pwr) : (s.updPwr f).hif = s.hif := rfl
@[simp] theorem State.updPwr_ing (s : State) (f : Pwr → Pwr) : (s.updPwr f).ing = s.ing := rfl
@[simp] theorem State.updPwr_hds (s : State) (f : Pwr → Pwr) : (s.updPwr f).hds = s.hds := rfl
@[simp] theorem State.updPwr_srf (s : State) (f : Pwr → Pwr) : (s.updPwr f).srf = s.srf := rfl
@[simp] theorem State.updPwr_scc (s : State) (f : Pwr → Pwr) : (s.updPwr f).scc = s.scc := rfl
@[simp] theorem State.updPwr_out (s : State) (f : Pwr → Pwr) : (s.updPwr f).out = s.out := rfl
@[simp] theorem State.updPwr_lv (s : State) (f : Pwr → Pwr) : (s.updPwr f).lv = s.lv := rfl
@[simp] theorem State.updPwr_tim (s : State) (f : Pwr → Pwr) : (s.updPwr f).tim = s.tim := rfl
@[simp] theorem State.updPwr_net (s : State) (f : Pwr → Pwr) : (s.updPwr f).net = s.net := rfl
@[simp] theorem State.updPwr_psn (s : State) (f : Pwr → Pwr) : (s.updPwr f).psn = s.psn := rfl
@[simp] theorem State.updPwr_aud (s : State) (f : Pwr → Pwr) : (s.updPwr f).aud = s.aud := rfl
@[simp] theorem State.updPwr_mg (s : State) (f : Pwr → Pwr) : (s.updPwr f).mg = s.mg := rfl
@[simp] theorem State.updPwr_coc (s : State) (f : Pwr → Pwr) : (s.updPwr f).coc = s.coc := rfl
@[simp] theorem State.updPwr_nv (s : State) (f : Pwr → Pwr) : (s.updPwr f).nv = s.nv := rfl
@[simp] theorem State.updPwr_rest (s : State) (f : Pwr → Pwr) : (s.updPwr f).rest = s.rest := rfl
@[simp] theorem State.updPwr_pwr (s : State) (f : Pwr → Pwr) : (s.updPwr f).pwr = f s.pwr := rfl
@[simp] theorem State.updPwr_scrub (s : State) (f : Pwr → Pwr) : (s.updPwr f).scrub = s.scrub := rfl
@[simp] theorem State.updPwr_hbm (s : State) (f : Pwr → Pwr) : (s.updPwr f).hbm = s.hbm := rfl
@[simp] theorem State.updPwr_reply (s : State) (f : Pwr → Pwr) : (s.updPwr f).reply = s.reply := rfl
@[simp] theorem State.updPwr_free (s : State) (f : Pwr → Pwr) : (s.updPwr f).free = s.free := rfl

/-! ### updMg -/

@[simp] theorem State.updMg_pending (s : State) (f : Mg → Mg) : (s.updMg f).pending = s.pending := rfl
@[simp] theorem State.updMg_regs (s : State) (f : Mg → Mg) : (s.updMg f).regs = s.regs := rfl
@[simp] theorem State.updMg_latches (s : State) (f : Mg → Mg) : (s.updMg f).latches = s.latches := rfl
@[simp] theorem State.updMg_ledger (s : State) (f : Mg → Mg) : (s.updMg f).ledger = s.ledger := rfl
@[simp] theorem State.updMg_hif (s : State) (f : Mg → Mg) : (s.updMg f).hif = s.hif := rfl
@[simp] theorem State.updMg_ing (s : State) (f : Mg → Mg) : (s.updMg f).ing = s.ing := rfl
@[simp] theorem State.updMg_hds (s : State) (f : Mg → Mg) : (s.updMg f).hds = s.hds := rfl
@[simp] theorem State.updMg_srf (s : State) (f : Mg → Mg) : (s.updMg f).srf = s.srf := rfl
@[simp] theorem State.updMg_scc (s : State) (f : Mg → Mg) : (s.updMg f).scc = s.scc := rfl
@[simp] theorem State.updMg_out (s : State) (f : Mg → Mg) : (s.updMg f).out = s.out := rfl
@[simp] theorem State.updMg_lv (s : State) (f : Mg → Mg) : (s.updMg f).lv = s.lv := rfl
@[simp] theorem State.updMg_tim (s : State) (f : Mg → Mg) : (s.updMg f).tim = s.tim := rfl
@[simp] theorem State.updMg_net (s : State) (f : Mg → Mg) : (s.updMg f).net = s.net := rfl
@[simp] theorem State.updMg_psn (s : State) (f : Mg → Mg) : (s.updMg f).psn = s.psn := rfl
@[simp] theorem State.updMg_aud (s : State) (f : Mg → Mg) : (s.updMg f).aud = s.aud := rfl
@[simp] theorem State.updMg_mg (s : State) (f : Mg → Mg) : (s.updMg f).mg = f s.mg := rfl
@[simp] theorem State.updMg_coc (s : State) (f : Mg → Mg) : (s.updMg f).coc = s.coc := rfl
@[simp] theorem State.updMg_nv (s : State) (f : Mg → Mg) : (s.updMg f).nv = s.nv := rfl
@[simp] theorem State.updMg_rest (s : State) (f : Mg → Mg) : (s.updMg f).rest = s.rest := rfl
@[simp] theorem State.updMg_pwr (s : State) (f : Mg → Mg) : (s.updMg f).pwr = s.pwr := rfl
@[simp] theorem State.updMg_scrub (s : State) (f : Mg → Mg) : (s.updMg f).scrub = s.scrub := rfl
@[simp] theorem State.updMg_hbm (s : State) (f : Mg → Mg) : (s.updMg f).hbm = s.hbm := rfl
@[simp] theorem State.updMg_reply (s : State) (f : Mg → Mg) : (s.updMg f).reply = s.reply := rfl
@[simp] theorem State.updMg_free (s : State) (f : Mg → Mg) : (s.updMg f).free = s.free := rfl

/-! ### wr -/

@[simp] theorem State.wr_pending (s : State) (a : Nat) (v : Nat) : (s.wr a v).pending = s.pending := rfl
@[simp] theorem State.wr_latches (s : State) (a : Nat) (v : Nat) : (s.wr a v).latches = s.latches := rfl
@[simp] theorem State.wr_ledger (s : State) (a : Nat) (v : Nat) : (s.wr a v).ledger = s.ledger := rfl
@[simp] theorem State.wr_hif (s : State) (a : Nat) (v : Nat) : (s.wr a v).hif = s.hif := rfl
@[simp] theorem State.wr_ing (s : State) (a : Nat) (v : Nat) : (s.wr a v).ing = s.ing := rfl
@[simp] theorem State.wr_hds (s : State) (a : Nat) (v : Nat) : (s.wr a v).hds = s.hds := rfl
@[simp] theorem State.wr_srf (s : State) (a : Nat) (v : Nat) : (s.wr a v).srf = s.srf := rfl
@[simp] theorem State.wr_scc (s : State) (a : Nat) (v : Nat) : (s.wr a v).scc = s.scc := rfl
@[simp] theorem State.wr_out (s : State) (a : Nat) (v : Nat) : (s.wr a v).out = s.out := rfl
@[simp] theorem State.wr_lv (s : State) (a : Nat) (v : Nat) : (s.wr a v).lv = s.lv := rfl
@[simp] theorem State.wr_tim (s : State) (a : Nat) (v : Nat) : (s.wr a v).tim = s.tim := rfl
@[simp] theorem State.wr_net (s : State) (a : Nat) (v : Nat) : (s.wr a v).net = s.net := rfl
@[simp] theorem State.wr_psn (s : State) (a : Nat) (v : Nat) : (s.wr a v).psn = s.psn := rfl
@[simp] theorem State.wr_aud (s : State) (a : Nat) (v : Nat) : (s.wr a v).aud = s.aud := rfl
@[simp] theorem State.wr_mg (s : State) (a : Nat) (v : Nat) : (s.wr a v).mg = s.mg := rfl
@[simp] theorem State.wr_coc (s : State) (a : Nat) (v : Nat) : (s.wr a v).coc = s.coc := rfl
@[simp] theorem State.wr_nv (s : State) (a : Nat) (v : Nat) : (s.wr a v).nv = s.nv := rfl
@[simp] theorem State.wr_rest (s : State) (a : Nat) (v : Nat) : (s.wr a v).rest = s.rest := rfl
@[simp] theorem State.wr_pwr (s : State) (a : Nat) (v : Nat) : (s.wr a v).pwr = s.pwr := rfl
@[simp] theorem State.wr_scrub (s : State) (a : Nat) (v : Nat) : (s.wr a v).scrub = s.scrub := rfl
@[simp] theorem State.wr_hbm (s : State) (a : Nat) (v : Nat) : (s.wr a v).hbm = s.hbm := rfl
@[simp] theorem State.wr_reply (s : State) (a : Nat) (v : Nat) : (s.wr a v).reply = s.reply := rfl
@[simp] theorem State.wr_free (s : State) (a : Nat) (v : Nat) : (s.wr a v).free = s.free := rfl

/-! ### fset -/

@[simp] theorem State.fset_pending (s : State) (a : Nat) (hi : Nat) (lo : Nat) (x : Nat) : (s.fset a hi lo x).pending = s.pending := rfl
@[simp] theorem State.fset_latches (s : State) (a : Nat) (hi : Nat) (lo : Nat) (x : Nat) : (s.fset a hi lo x).latches = s.latches := rfl
@[simp] theorem State.fset_ledger (s : State) (a : Nat) (hi : Nat) (lo : Nat) (x : Nat) : (s.fset a hi lo x).ledger = s.ledger := rfl
@[simp] theorem State.fset_hif (s : State) (a : Nat) (hi : Nat) (lo : Nat) (x : Nat) : (s.fset a hi lo x).hif = s.hif := rfl
@[simp] theorem State.fset_ing (s : State) (a : Nat) (hi : Nat) (lo : Nat) (x : Nat) : (s.fset a hi lo x).ing = s.ing := rfl
@[simp] theorem State.fset_hds (s : State) (a : Nat) (hi : Nat) (lo : Nat) (x : Nat) : (s.fset a hi lo x).hds = s.hds := rfl
@[simp] theorem State.fset_srf (s : State) (a : Nat) (hi : Nat) (lo : Nat) (x : Nat) : (s.fset a hi lo x).srf = s.srf := rfl
@[simp] theorem State.fset_scc (s : State) (a : Nat) (hi : Nat) (lo : Nat) (x : Nat) : (s.fset a hi lo x).scc = s.scc := rfl
@[simp] theorem State.fset_out (s : State) (a : Nat) (hi : Nat) (lo : Nat) (x : Nat) : (s.fset a hi lo x).out = s.out := rfl
@[simp] theorem State.fset_lv (s : State) (a : Nat) (hi : Nat) (lo : Nat) (x : Nat) : (s.fset a hi lo x).lv = s.lv := rfl
@[simp] theorem State.fset_tim (s : State) (a : Nat) (hi : Nat) (lo : Nat) (x : Nat) : (s.fset a hi lo x).tim = s.tim := rfl
@[simp] theorem State.fset_net (s : State) (a : Nat) (hi : Nat) (lo : Nat) (x : Nat) : (s.fset a hi lo x).net = s.net := rfl
@[simp] theorem State.fset_psn (s : State) (a : Nat) (hi : Nat) (lo : Nat) (x : Nat) : (s.fset a hi lo x).psn = s.psn := rfl
@[simp] theorem State.fset_aud (s : State) (a : Nat) (hi : Nat) (lo : Nat) (x : Nat) : (s.fset a hi lo x).aud = s.aud := rfl
@[simp] theorem State.fset_mg (s : State) (a : Nat) (hi : Nat) (lo : Nat) (x : Nat) : (s.fset a hi lo x).mg = s.mg := rfl
@[simp] theorem State.fset_coc (s : State) (a : Nat) (hi : Nat) (lo : Nat) (x : Nat) : (s.fset a hi lo x).coc = s.coc := rfl
@[simp] theorem State.fset_nv (s : State) (a : Nat) (hi : Nat) (lo : Nat) (x : Nat) : (s.fset a hi lo x).nv = s.nv := rfl
@[simp] theorem State.fset_rest (s : State) (a : Nat) (hi : Nat) (lo : Nat) (x : Nat) : (s.fset a hi lo x).rest = s.rest := rfl
@[simp] theorem State.fset_pwr (s : State) (a : Nat) (hi : Nat) (lo : Nat) (x : Nat) : (s.fset a hi lo x).pwr = s.pwr := rfl
@[simp] theorem State.fset_scrub (s : State) (a : Nat) (hi : Nat) (lo : Nat) (x : Nat) : (s.fset a hi lo x).scrub = s.scrub := rfl
@[simp] theorem State.fset_hbm (s : State) (a : Nat) (hi : Nat) (lo : Nat) (x : Nat) : (s.fset a hi lo x).hbm = s.hbm := rfl
@[simp] theorem State.fset_reply (s : State) (a : Nat) (hi : Nat) (lo : Nat) (x : Nat) : (s.fset a hi lo x).reply = s.reply := rfl
@[simp] theorem State.fset_free (s : State) (a : Nat) (hi : Nat) (lo : Nat) (x : Nat) : (s.fset a hi lo x).free = s.free := rfl

/-! ### count -/

@[simp] theorem State.count_pending (s : State) (a : Nat) (hi : Nat) (lo : Nat) (n : Nat) : (s.count a hi lo n).pending = s.pending := rfl
@[simp] theorem State.count_latches (s : State) (a : Nat) (hi : Nat) (lo : Nat) (n : Nat) : (s.count a hi lo n).latches = s.latches := rfl
@[simp] theorem State.count_ledger (s : State) (a : Nat) (hi : Nat) (lo : Nat) (n : Nat) : (s.count a hi lo n).ledger = s.ledger := rfl
@[simp] theorem State.count_hif (s : State) (a : Nat) (hi : Nat) (lo : Nat) (n : Nat) : (s.count a hi lo n).hif = s.hif := rfl
@[simp] theorem State.count_ing (s : State) (a : Nat) (hi : Nat) (lo : Nat) (n : Nat) : (s.count a hi lo n).ing = s.ing := rfl
@[simp] theorem State.count_hds (s : State) (a : Nat) (hi : Nat) (lo : Nat) (n : Nat) : (s.count a hi lo n).hds = s.hds := rfl
@[simp] theorem State.count_srf (s : State) (a : Nat) (hi : Nat) (lo : Nat) (n : Nat) : (s.count a hi lo n).srf = s.srf := rfl
@[simp] theorem State.count_scc (s : State) (a : Nat) (hi : Nat) (lo : Nat) (n : Nat) : (s.count a hi lo n).scc = s.scc := rfl
@[simp] theorem State.count_out (s : State) (a : Nat) (hi : Nat) (lo : Nat) (n : Nat) : (s.count a hi lo n).out = s.out := rfl
@[simp] theorem State.count_lv (s : State) (a : Nat) (hi : Nat) (lo : Nat) (n : Nat) : (s.count a hi lo n).lv = s.lv := rfl
@[simp] theorem State.count_tim (s : State) (a : Nat) (hi : Nat) (lo : Nat) (n : Nat) : (s.count a hi lo n).tim = s.tim := rfl
@[simp] theorem State.count_net (s : State) (a : Nat) (hi : Nat) (lo : Nat) (n : Nat) : (s.count a hi lo n).net = s.net := rfl
@[simp] theorem State.count_psn (s : State) (a : Nat) (hi : Nat) (lo : Nat) (n : Nat) : (s.count a hi lo n).psn = s.psn := rfl
@[simp] theorem State.count_aud (s : State) (a : Nat) (hi : Nat) (lo : Nat) (n : Nat) : (s.count a hi lo n).aud = s.aud := rfl
@[simp] theorem State.count_mg (s : State) (a : Nat) (hi : Nat) (lo : Nat) (n : Nat) : (s.count a hi lo n).mg = s.mg := rfl
@[simp] theorem State.count_coc (s : State) (a : Nat) (hi : Nat) (lo : Nat) (n : Nat) : (s.count a hi lo n).coc = s.coc := rfl
@[simp] theorem State.count_nv (s : State) (a : Nat) (hi : Nat) (lo : Nat) (n : Nat) : (s.count a hi lo n).nv = s.nv := rfl
@[simp] theorem State.count_rest (s : State) (a : Nat) (hi : Nat) (lo : Nat) (n : Nat) : (s.count a hi lo n).rest = s.rest := rfl
@[simp] theorem State.count_pwr (s : State) (a : Nat) (hi : Nat) (lo : Nat) (n : Nat) : (s.count a hi lo n).pwr = s.pwr := rfl
@[simp] theorem State.count_scrub (s : State) (a : Nat) (hi : Nat) (lo : Nat) (n : Nat) : (s.count a hi lo n).scrub = s.scrub := rfl
@[simp] theorem State.count_hbm (s : State) (a : Nat) (hi : Nat) (lo : Nat) (n : Nat) : (s.count a hi lo n).hbm = s.hbm := rfl
@[simp] theorem State.count_reply (s : State) (a : Nat) (hi : Nat) (lo : Nat) (n : Nat) : (s.count a hi lo n).reply = s.reply := rfl
@[simp] theorem State.count_free (s : State) (a : Nat) (hi : Nat) (lo : Nat) (n : Nat) : (s.count a hi lo n).free = s.free := rfl

/-! ### setBit -/

@[simp] theorem State.setBit_pending (s : State) (a : Nat) (k : Nat) : (s.setBit a k).pending = s.pending := rfl
@[simp] theorem State.setBit_latches (s : State) (a : Nat) (k : Nat) : (s.setBit a k).latches = s.latches := rfl
@[simp] theorem State.setBit_ledger (s : State) (a : Nat) (k : Nat) : (s.setBit a k).ledger = s.ledger := rfl
@[simp] theorem State.setBit_hif (s : State) (a : Nat) (k : Nat) : (s.setBit a k).hif = s.hif := rfl
@[simp] theorem State.setBit_ing (s : State) (a : Nat) (k : Nat) : (s.setBit a k).ing = s.ing := rfl
@[simp] theorem State.setBit_hds (s : State) (a : Nat) (k : Nat) : (s.setBit a k).hds = s.hds := rfl
@[simp] theorem State.setBit_srf (s : State) (a : Nat) (k : Nat) : (s.setBit a k).srf = s.srf := rfl
@[simp] theorem State.setBit_scc (s : State) (a : Nat) (k : Nat) : (s.setBit a k).scc = s.scc := rfl
@[simp] theorem State.setBit_out (s : State) (a : Nat) (k : Nat) : (s.setBit a k).out = s.out := rfl
@[simp] theorem State.setBit_lv (s : State) (a : Nat) (k : Nat) : (s.setBit a k).lv = s.lv := rfl
@[simp] theorem State.setBit_tim (s : State) (a : Nat) (k : Nat) : (s.setBit a k).tim = s.tim := rfl
@[simp] theorem State.setBit_net (s : State) (a : Nat) (k : Nat) : (s.setBit a k).net = s.net := rfl
@[simp] theorem State.setBit_psn (s : State) (a : Nat) (k : Nat) : (s.setBit a k).psn = s.psn := rfl
@[simp] theorem State.setBit_aud (s : State) (a : Nat) (k : Nat) : (s.setBit a k).aud = s.aud := rfl
@[simp] theorem State.setBit_mg (s : State) (a : Nat) (k : Nat) : (s.setBit a k).mg = s.mg := rfl
@[simp] theorem State.setBit_coc (s : State) (a : Nat) (k : Nat) : (s.setBit a k).coc = s.coc := rfl
@[simp] theorem State.setBit_nv (s : State) (a : Nat) (k : Nat) : (s.setBit a k).nv = s.nv := rfl
@[simp] theorem State.setBit_rest (s : State) (a : Nat) (k : Nat) : (s.setBit a k).rest = s.rest := rfl
@[simp] theorem State.setBit_pwr (s : State) (a : Nat) (k : Nat) : (s.setBit a k).pwr = s.pwr := rfl
@[simp] theorem State.setBit_scrub (s : State) (a : Nat) (k : Nat) : (s.setBit a k).scrub = s.scrub := rfl
@[simp] theorem State.setBit_hbm (s : State) (a : Nat) (k : Nat) : (s.setBit a k).hbm = s.hbm := rfl
@[simp] theorem State.setBit_reply (s : State) (a : Nat) (k : Nat) : (s.setBit a k).reply = s.reply := rfl
@[simp] theorem State.setBit_free (s : State) (a : Nat) (k : Nat) : (s.setBit a k).free = s.free := rfl

/-! ### ledAdd -/

@[simp] theorem State.ledAdd_pending (s : State) (k : Nat) (i : Nat) (c : Nat) (n : Nat) : (s.ledAdd k i c n).pending = s.pending := rfl
@[simp] theorem State.ledAdd_regs (s : State) (k : Nat) (i : Nat) (c : Nat) (n : Nat) : (s.ledAdd k i c n).regs = s.regs := rfl
@[simp] theorem State.ledAdd_latches (s : State) (k : Nat) (i : Nat) (c : Nat) (n : Nat) : (s.ledAdd k i c n).latches = s.latches := rfl
@[simp] theorem State.ledAdd_hif (s : State) (k : Nat) (i : Nat) (c : Nat) (n : Nat) : (s.ledAdd k i c n).hif = s.hif := rfl
@[simp] theorem State.ledAdd_ing (s : State) (k : Nat) (i : Nat) (c : Nat) (n : Nat) : (s.ledAdd k i c n).ing = s.ing := rfl
@[simp] theorem State.ledAdd_hds (s : State) (k : Nat) (i : Nat) (c : Nat) (n : Nat) : (s.ledAdd k i c n).hds = s.hds := rfl
@[simp] theorem State.ledAdd_srf (s : State) (k : Nat) (i : Nat) (c : Nat) (n : Nat) : (s.ledAdd k i c n).srf = s.srf := rfl
@[simp] theorem State.ledAdd_scc (s : State) (k : Nat) (i : Nat) (c : Nat) (n : Nat) : (s.ledAdd k i c n).scc = s.scc := rfl
@[simp] theorem State.ledAdd_out (s : State) (k : Nat) (i : Nat) (c : Nat) (n : Nat) : (s.ledAdd k i c n).out = s.out := rfl
@[simp] theorem State.ledAdd_lv (s : State) (k : Nat) (i : Nat) (c : Nat) (n : Nat) : (s.ledAdd k i c n).lv = s.lv := rfl
@[simp] theorem State.ledAdd_tim (s : State) (k : Nat) (i : Nat) (c : Nat) (n : Nat) : (s.ledAdd k i c n).tim = s.tim := rfl
@[simp] theorem State.ledAdd_net (s : State) (k : Nat) (i : Nat) (c : Nat) (n : Nat) : (s.ledAdd k i c n).net = s.net := rfl
@[simp] theorem State.ledAdd_psn (s : State) (k : Nat) (i : Nat) (c : Nat) (n : Nat) : (s.ledAdd k i c n).psn = s.psn := rfl
@[simp] theorem State.ledAdd_aud (s : State) (k : Nat) (i : Nat) (c : Nat) (n : Nat) : (s.ledAdd k i c n).aud = s.aud := rfl
@[simp] theorem State.ledAdd_mg (s : State) (k : Nat) (i : Nat) (c : Nat) (n : Nat) : (s.ledAdd k i c n).mg = s.mg := rfl
@[simp] theorem State.ledAdd_coc (s : State) (k : Nat) (i : Nat) (c : Nat) (n : Nat) : (s.ledAdd k i c n).coc = s.coc := rfl
@[simp] theorem State.ledAdd_nv (s : State) (k : Nat) (i : Nat) (c : Nat) (n : Nat) : (s.ledAdd k i c n).nv = s.nv := rfl
@[simp] theorem State.ledAdd_rest (s : State) (k : Nat) (i : Nat) (c : Nat) (n : Nat) : (s.ledAdd k i c n).rest = s.rest := rfl
@[simp] theorem State.ledAdd_pwr (s : State) (k : Nat) (i : Nat) (c : Nat) (n : Nat) : (s.ledAdd k i c n).pwr = s.pwr := rfl
@[simp] theorem State.ledAdd_scrub (s : State) (k : Nat) (i : Nat) (c : Nat) (n : Nat) : (s.ledAdd k i c n).scrub = s.scrub := rfl
@[simp] theorem State.ledAdd_hbm (s : State) (k : Nat) (i : Nat) (c : Nat) (n : Nat) : (s.ledAdd k i c n).hbm = s.hbm := rfl
@[simp] theorem State.ledAdd_reply (s : State) (k : Nat) (i : Nat) (c : Nat) (n : Nat) : (s.ledAdd k i c n).reply = s.reply := rfl
@[simp] theorem State.ledAdd_free (s : State) (k : Nat) (i : Nat) (c : Nat) (n : Nat) : (s.ledAdd k i c n).free = s.free := rfl

/-! ### ledSet -/

@[simp] theorem State.ledSet_pending (s : State) (k : Nat) (i : Nat) (c : Nat) (n : Nat) : (s.ledSet k i c n).pending = s.pending := rfl
@[simp] theorem State.ledSet_regs (s : State) (k : Nat) (i : Nat) (c : Nat) (n : Nat) : (s.ledSet k i c n).regs = s.regs := rfl
@[simp] theorem State.ledSet_latches (s : State) (k : Nat) (i : Nat) (c : Nat) (n : Nat) : (s.ledSet k i c n).latches = s.latches := rfl
@[simp] theorem State.ledSet_hif (s : State) (k : Nat) (i : Nat) (c : Nat) (n : Nat) : (s.ledSet k i c n).hif = s.hif := rfl
@[simp] theorem State.ledSet_ing (s : State) (k : Nat) (i : Nat) (c : Nat) (n : Nat) : (s.ledSet k i c n).ing = s.ing := rfl
@[simp] theorem State.ledSet_hds (s : State) (k : Nat) (i : Nat) (c : Nat) (n : Nat) : (s.ledSet k i c n).hds = s.hds := rfl
@[simp] theorem State.ledSet_srf (s : State) (k : Nat) (i : Nat) (c : Nat) (n : Nat) : (s.ledSet k i c n).srf = s.srf := rfl
@[simp] theorem State.ledSet_scc (s : State) (k : Nat) (i : Nat) (c : Nat) (n : Nat) : (s.ledSet k i c n).scc = s.scc := rfl
@[simp] theorem State.ledSet_out (s : State) (k : Nat) (i : Nat) (c : Nat) (n : Nat) : (s.ledSet k i c n).out = s.out := rfl
@[simp] theorem State.ledSet_lv (s : State) (k : Nat) (i : Nat) (c : Nat) (n : Nat) : (s.ledSet k i c n).lv = s.lv := rfl
@[simp] theorem State.ledSet_tim (s : State) (k : Nat) (i : Nat) (c : Nat) (n : Nat) : (s.ledSet k i c n).tim = s.tim := rfl
@[simp] theorem State.ledSet_net (s : State) (k : Nat) (i : Nat) (c : Nat) (n : Nat) : (s.ledSet k i c n).net = s.net := rfl
@[simp] theorem State.ledSet_psn (s : State) (k : Nat) (i : Nat) (c : Nat) (n : Nat) : (s.ledSet k i c n).psn = s.psn := rfl
@[simp] theorem State.ledSet_aud (s : State) (k : Nat) (i : Nat) (c : Nat) (n : Nat) : (s.ledSet k i c n).aud = s.aud := rfl
@[simp] theorem State.ledSet_mg (s : State) (k : Nat) (i : Nat) (c : Nat) (n : Nat) : (s.ledSet k i c n).mg = s.mg := rfl
@[simp] theorem State.ledSet_coc (s : State) (k : Nat) (i : Nat) (c : Nat) (n : Nat) : (s.ledSet k i c n).coc = s.coc := rfl
@[simp] theorem State.ledSet_nv (s : State) (k : Nat) (i : Nat) (c : Nat) (n : Nat) : (s.ledSet k i c n).nv = s.nv := rfl
@[simp] theorem State.ledSet_rest (s : State) (k : Nat) (i : Nat) (c : Nat) (n : Nat) : (s.ledSet k i c n).rest = s.rest := rfl
@[simp] theorem State.ledSet_pwr (s : State) (k : Nat) (i : Nat) (c : Nat) (n : Nat) : (s.ledSet k i c n).pwr = s.pwr := rfl
@[simp] theorem State.ledSet_scrub (s : State) (k : Nat) (i : Nat) (c : Nat) (n : Nat) : (s.ledSet k i c n).scrub = s.scrub := rfl
@[simp] theorem State.ledSet_hbm (s : State) (k : Nat) (i : Nat) (c : Nat) (n : Nat) : (s.ledSet k i c n).hbm = s.hbm := rfl
@[simp] theorem State.ledSet_reply (s : State) (k : Nat) (i : Nat) (c : Nat) (n : Nat) : (s.ledSet k i c n).reply = s.reply := rfl
@[simp] theorem State.ledSet_free (s : State) (k : Nat) (i : Nat) (c : Nat) (n : Nat) : (s.ledSet k i c n).free = s.free := rfl

/-! ### withPending -/

@[simp] theorem State.withPending_regs (s : State) (q : List Instr) : (s.withPending q).regs = s.regs := rfl
@[simp] theorem State.withPending_latches (s : State) (q : List Instr) : (s.withPending q).latches = s.latches := rfl
@[simp] theorem State.withPending_ledger (s : State) (q : List Instr) : (s.withPending q).ledger = s.ledger := rfl
@[simp] theorem State.withPending_hif (s : State) (q : List Instr) : (s.withPending q).hif = s.hif := rfl
@[simp] theorem State.withPending_ing (s : State) (q : List Instr) : (s.withPending q).ing = s.ing := rfl
@[simp] theorem State.withPending_hds (s : State) (q : List Instr) : (s.withPending q).hds = s.hds := rfl
@[simp] theorem State.withPending_srf (s : State) (q : List Instr) : (s.withPending q).srf = s.srf := rfl
@[simp] theorem State.withPending_scc (s : State) (q : List Instr) : (s.withPending q).scc = s.scc := rfl
@[simp] theorem State.withPending_out (s : State) (q : List Instr) : (s.withPending q).out = s.out := rfl
@[simp] theorem State.withPending_lv (s : State) (q : List Instr) : (s.withPending q).lv = s.lv := rfl
@[simp] theorem State.withPending_tim (s : State) (q : List Instr) : (s.withPending q).tim = s.tim := rfl
@[simp] theorem State.withPending_net (s : State) (q : List Instr) : (s.withPending q).net = s.net := rfl
@[simp] theorem State.withPending_psn (s : State) (q : List Instr) : (s.withPending q).psn = s.psn := rfl
@[simp] theorem State.withPending_aud (s : State) (q : List Instr) : (s.withPending q).aud = s.aud := rfl
@[simp] theorem State.withPending_mg (s : State) (q : List Instr) : (s.withPending q).mg = s.mg := rfl
@[simp] theorem State.withPending_coc (s : State) (q : List Instr) : (s.withPending q).coc = s.coc := rfl
@[simp] theorem State.withPending_nv (s : State) (q : List Instr) : (s.withPending q).nv = s.nv := rfl
@[simp] theorem State.withPending_rest (s : State) (q : List Instr) : (s.withPending q).rest = s.rest := rfl
@[simp] theorem State.withPending_pwr (s : State) (q : List Instr) : (s.withPending q).pwr = s.pwr := rfl
@[simp] theorem State.withPending_scrub (s : State) (q : List Instr) : (s.withPending q).scrub = s.scrub := rfl
@[simp] theorem State.withPending_hbm (s : State) (q : List Instr) : (s.withPending q).hbm = s.hbm := rfl
@[simp] theorem State.withPending_reply (s : State) (q : List Instr) : (s.withPending q).reply = s.reply := rfl
@[simp] theorem State.withPending_free (s : State) (q : List Instr) : (s.withPending q).free = s.free := rfl

/-! ### setSq -/

@[simp] theorem State.setSq_pending (s : State) (n : Nat) (v : Sq) : (s.setSq n v).pending = s.pending := rfl
@[simp] theorem State.setSq_regs (s : State) (n : Nat) (v : Sq) : (s.setSq n v).regs = s.regs := rfl
@[simp] theorem State.setSq_latches (s : State) (n : Nat) (v : Sq) : (s.setSq n v).latches = s.latches := rfl
@[simp] theorem State.setSq_ledger (s : State) (n : Nat) (v : Sq) : (s.setSq n v).ledger = s.ledger := rfl
@[simp] theorem State.setSq_ing (s : State) (n : Nat) (v : Sq) : (s.setSq n v).ing = s.ing := rfl
@[simp] theorem State.setSq_hds (s : State) (n : Nat) (v : Sq) : (s.setSq n v).hds = s.hds := rfl
@[simp] theorem State.setSq_srf (s : State) (n : Nat) (v : Sq) : (s.setSq n v).srf = s.srf := rfl
@[simp] theorem State.setSq_scc (s : State) (n : Nat) (v : Sq) : (s.setSq n v).scc = s.scc := rfl
@[simp] theorem State.setSq_out (s : State) (n : Nat) (v : Sq) : (s.setSq n v).out = s.out := rfl
@[simp] theorem State.setSq_lv (s : State) (n : Nat) (v : Sq) : (s.setSq n v).lv = s.lv := rfl
@[simp] theorem State.setSq_tim (s : State) (n : Nat) (v : Sq) : (s.setSq n v).tim = s.tim := rfl
@[simp] theorem State.setSq_net (s : State) (n : Nat) (v : Sq) : (s.setSq n v).net = s.net := rfl
@[simp] theorem State.setSq_psn (s : State) (n : Nat) (v : Sq) : (s.setSq n v).psn = s.psn := rfl
@[simp] theorem State.setSq_aud (s : State) (n : Nat) (v : Sq) : (s.setSq n v).aud = s.aud := rfl
@[simp] theorem State.setSq_mg (s : State) (n : Nat) (v : Sq) : (s.setSq n v).mg = s.mg := rfl
@[simp] theorem State.setSq_coc (s : State) (n : Nat) (v : Sq) : (s.setSq n v).coc = s.coc := rfl
@[simp] theorem State.setSq_nv (s : State) (n : Nat) (v : Sq) : (s.setSq n v).nv = s.nv := rfl
@[simp] theorem State.setSq_rest (s : State) (n : Nat) (v : Sq) : (s.setSq n v).rest = s.rest := rfl
@[simp] theorem State.setSq_pwr (s : State) (n : Nat) (v : Sq) : (s.setSq n v).pwr = s.pwr := rfl
@[simp] theorem State.setSq_scrub (s : State) (n : Nat) (v : Sq) : (s.setSq n v).scrub = s.scrub := rfl
@[simp] theorem State.setSq_hbm (s : State) (n : Nat) (v : Sq) : (s.setSq n v).hbm = s.hbm := rfl
@[simp] theorem State.setSq_reply (s : State) (n : Nat) (v : Sq) : (s.setSq n v).reply = s.reply := rfl
@[simp] theorem State.setSq_free (s : State) (n : Nat) (v : Sq) : (s.setSq n v).free = s.free := rfl
@[simp] theorem State.sq_setSq (s : State) (n : Nat) (v : Sq) : (s.setSq n v).sq n = v := Tab.get_set_self ..
theorem State.sq_setSq_ne (s : State) {n m : Nat} (v : Sq) (h : m ≠ n) : (s.setSq n v).sq m = s.sq m := Tab.get_set_ne _ _ _ h

/-! ### setCq -/

@[simp] theorem State.setCq_pending (s : State) (n : Nat) (v : Cq) : (s.setCq n v).pending = s.pending := rfl
@[simp] theorem State.setCq_regs (s : State) (n : Nat) (v : Cq) : (s.setCq n v).regs = s.regs := rfl
@[simp] theorem State.setCq_latches (s : State) (n : Nat) (v : Cq) : (s.setCq n v).latches = s.latches := rfl
@[simp] theorem State.setCq_ledger (s : State) (n : Nat) (v : Cq) : (s.setCq n v).ledger = s.ledger := rfl
@[simp] theorem State.setCq_ing (s : State) (n : Nat) (v : Cq) : (s.setCq n v).ing = s.ing := rfl
@[simp] theorem State.setCq_hds (s : State) (n : Nat) (v : Cq) : (s.setCq n v).hds = s.hds := rfl
@[simp] theorem State.setCq_srf (s : State) (n : Nat) (v : Cq) : (s.setCq n v).srf = s.srf := rfl
@[simp] theorem State.setCq_scc (s : State) (n : Nat) (v : Cq) : (s.setCq n v).scc = s.scc := rfl
@[simp] theorem State.setCq_out (s : State) (n : Nat) (v : Cq) : (s.setCq n v).out = s.out := rfl
@[simp] theorem State.setCq_lv (s : State) (n : Nat) (v : Cq) : (s.setCq n v).lv = s.lv := rfl
@[simp] theorem State.setCq_tim (s : State) (n : Nat) (v : Cq) : (s.setCq n v).tim = s.tim := rfl
@[simp] theorem State.setCq_net (s : State) (n : Nat) (v : Cq) : (s.setCq n v).net = s.net := rfl
@[simp] theorem State.setCq_psn (s : State) (n : Nat) (v : Cq) : (s.setCq n v).psn = s.psn := rfl
@[simp] theorem State.setCq_aud (s : State) (n : Nat) (v : Cq) : (s.setCq n v).aud = s.aud := rfl
@[simp] theorem State.setCq_mg (s : State) (n : Nat) (v : Cq) : (s.setCq n v).mg = s.mg := rfl
@[simp] theorem State.setCq_coc (s : State) (n : Nat) (v : Cq) : (s.setCq n v).coc = s.coc := rfl
@[simp] theorem State.setCq_nv (s : State) (n : Nat) (v : Cq) : (s.setCq n v).nv = s.nv := rfl
@[simp] theorem State.setCq_rest (s : State) (n : Nat) (v : Cq) : (s.setCq n v).rest = s.rest := rfl
@[simp] theorem State.setCq_pwr (s : State) (n : Nat) (v : Cq) : (s.setCq n v).pwr = s.pwr := rfl
@[simp] theorem State.setCq_scrub (s : State) (n : Nat) (v : Cq) : (s.setCq n v).scrub = s.scrub := rfl
@[simp] theorem State.setCq_hbm (s : State) (n : Nat) (v : Cq) : (s.setCq n v).hbm = s.hbm := rfl
@[simp] theorem State.setCq_reply (s : State) (n : Nat) (v : Cq) : (s.setCq n v).reply = s.reply := rfl
@[simp] theorem State.setCq_free (s : State) (n : Nat) (v : Cq) : (s.setCq n v).free = s.free := rfl
@[simp] theorem State.cq_setCq (s : State) (n : Nat) (v : Cq) : (s.setCq n v).cq n = v := Tab.get_set_self ..
theorem State.cq_setCq_ne (s : State) {n m : Nat} (v : Cq) (h : m ≠ n) : (s.setCq n v).cq m = s.cq m := Tab.get_set_ne _ _ _ h

/-! ### setEr -/

@[simp] theorem State.setEr_pending (s : State) (n : Nat) (v : Er) : (s.setEr n v).pending = s.pending := rfl
@[simp] theorem State.setEr_regs (s : State) (n : Nat) (v : Er) : (s.setEr n v).regs = s.regs := rfl
@[simp] theorem State.setEr_latches (s : State) (n : Nat) (v : Er) : (s.setEr n v).latches = s.latches := rfl
@[simp] theorem State.setEr_ledger (s : State) (n : Nat) (v : Er) : (s.setEr n v).ledger = s.ledger := rfl
@[simp] theorem State.setEr_ing (s : State) (n : Nat) (v : Er) : (s.setEr n v).ing = s.ing := rfl
@[simp] theorem State.setEr_hds (s : State) (n : Nat) (v : Er) : (s.setEr n v).hds = s.hds := rfl
@[simp] theorem State.setEr_srf (s : State) (n : Nat) (v : Er) : (s.setEr n v).srf = s.srf := rfl
@[simp] theorem State.setEr_scc (s : State) (n : Nat) (v : Er) : (s.setEr n v).scc = s.scc := rfl
@[simp] theorem State.setEr_out (s : State) (n : Nat) (v : Er) : (s.setEr n v).out = s.out := rfl
@[simp] theorem State.setEr_lv (s : State) (n : Nat) (v : Er) : (s.setEr n v).lv = s.lv := rfl
@[simp] theorem State.setEr_tim (s : State) (n : Nat) (v : Er) : (s.setEr n v).tim = s.tim := rfl
@[simp] theorem State.setEr_net (s : State) (n : Nat) (v : Er) : (s.setEr n v).net = s.net := rfl
@[simp] theorem State.setEr_psn (s : State) (n : Nat) (v : Er) : (s.setEr n v).psn = s.psn := rfl
@[simp] theorem State.setEr_aud (s : State) (n : Nat) (v : Er) : (s.setEr n v).aud = s.aud := rfl
@[simp] theorem State.setEr_mg (s : State) (n : Nat) (v : Er) : (s.setEr n v).mg = s.mg := rfl
@[simp] theorem State.setEr_coc (s : State) (n : Nat) (v : Er) : (s.setEr n v).coc = s.coc := rfl
@[simp] theorem State.setEr_nv (s : State) (n : Nat) (v : Er) : (s.setEr n v).nv = s.nv := rfl
@[simp] theorem State.setEr_rest (s : State) (n : Nat) (v : Er) : (s.setEr n v).rest = s.rest := rfl
@[simp] theorem State.setEr_pwr (s : State) (n : Nat) (v : Er) : (s.setEr n v).pwr = s.pwr := rfl
@[simp] theorem State.setEr_scrub (s : State) (n : Nat) (v : Er) : (s.setEr n v).scrub = s.scrub := rfl
@[simp] theorem State.setEr_hbm (s : State) (n : Nat) (v : Er) : (s.setEr n v).hbm = s.hbm := rfl
@[simp] theorem State.setEr_reply (s : State) (n : Nat) (v : Er) : (s.setEr n v).reply = s.reply := rfl
@[simp] theorem State.setEr_free (s : State) (n : Nat) (v : Er) : (s.setEr n v).free = s.free := rfl
@[simp] theorem State.er_setEr (s : State) (n : Nat) (v : Er) : (s.setEr n v).er n = v := Tab.get_set_self ..
theorem State.er_setEr_ne (s : State) {n m : Nat} (v : Er) (h : m ≠ n) : (s.setEr n v).er m = s.er m := Tab.get_set_ne _ _ _ h

/-! ### setEvSrc -/

@[simp] theorem State.setEvSrc_pending (s : State) (n : Nat) (v : EvSrc) : (s.setEvSrc n v).pending = s.pending := rfl
@[simp] theorem State.setEvSrc_regs (s : State) (n : Nat) (v : EvSrc) : (s.setEvSrc n v).regs = s.regs := rfl
@[simp] theorem State.setEvSrc_latches (s : State) (n : Nat) (v : EvSrc) : (s.setEvSrc n v).latches = s.latches := rfl
@[simp] theorem State.setEvSrc_ledger (s : State) (n : Nat) (v : EvSrc) : (s.setEvSrc n v).ledger = s.ledger := rfl
@[simp] theorem State.setEvSrc_ing (s : State) (n : Nat) (v : EvSrc) : (s.setEvSrc n v).ing = s.ing := rfl
@[simp] theorem State.setEvSrc_hds (s : State) (n : Nat) (v : EvSrc) : (s.setEvSrc n v).hds = s.hds := rfl
@[simp] theorem State.setEvSrc_srf (s : State) (n : Nat) (v : EvSrc) : (s.setEvSrc n v).srf = s.srf := rfl
@[simp] theorem State.setEvSrc_scc (s : State) (n : Nat) (v : EvSrc) : (s.setEvSrc n v).scc = s.scc := rfl
@[simp] theorem State.setEvSrc_out (s : State) (n : Nat) (v : EvSrc) : (s.setEvSrc n v).out = s.out := rfl
@[simp] theorem State.setEvSrc_lv (s : State) (n : Nat) (v : EvSrc) : (s.setEvSrc n v).lv = s.lv := rfl
@[simp] theorem State.setEvSrc_tim (s : State) (n : Nat) (v : EvSrc) : (s.setEvSrc n v).tim = s.tim := rfl
@[simp] theorem State.setEvSrc_net (s : State) (n : Nat) (v : EvSrc) : (s.setEvSrc n v).net = s.net := rfl
@[simp] theorem State.setEvSrc_psn (s : State) (n : Nat) (v : EvSrc) : (s.setEvSrc n v).psn = s.psn := rfl
@[simp] theorem State.setEvSrc_aud (s : State) (n : Nat) (v : EvSrc) : (s.setEvSrc n v).aud = s.aud := rfl
@[simp] theorem State.setEvSrc_mg (s : State) (n : Nat) (v : EvSrc) : (s.setEvSrc n v).mg = s.mg := rfl
@[simp] theorem State.setEvSrc_coc (s : State) (n : Nat) (v : EvSrc) : (s.setEvSrc n v).coc = s.coc := rfl
@[simp] theorem State.setEvSrc_nv (s : State) (n : Nat) (v : EvSrc) : (s.setEvSrc n v).nv = s.nv := rfl
@[simp] theorem State.setEvSrc_rest (s : State) (n : Nat) (v : EvSrc) : (s.setEvSrc n v).rest = s.rest := rfl
@[simp] theorem State.setEvSrc_pwr (s : State) (n : Nat) (v : EvSrc) : (s.setEvSrc n v).pwr = s.pwr := rfl
@[simp] theorem State.setEvSrc_scrub (s : State) (n : Nat) (v : EvSrc) : (s.setEvSrc n v).scrub = s.scrub := rfl
@[simp] theorem State.setEvSrc_hbm (s : State) (n : Nat) (v : EvSrc) : (s.setEvSrc n v).hbm = s.hbm := rfl
@[simp] theorem State.setEvSrc_reply (s : State) (n : Nat) (v : EvSrc) : (s.setEvSrc n v).reply = s.reply := rfl
@[simp] theorem State.setEvSrc_free (s : State) (n : Nat) (v : EvSrc) : (s.setEvSrc n v).free = s.free := rfl
@[simp] theorem State.evSrc_setEvSrc (s : State) (n : Nat) (v : EvSrc) : (s.setEvSrc n v).evSrc n = v := Tab.get_set_self ..
theorem State.evSrc_setEvSrc_ne (s : State) {n m : Nat} (v : EvSrc) (h : m ≠ n) : (s.setEvSrc n v).evSrc m = s.evSrc m := Tab.get_set_ne _ _ _ h

/-! ### setStaged -/

@[simp] theorem State.setStaged_pending (s : State) (n : Nat) (v : List EvRec) : (s.setStaged n v).pending = s.pending := rfl
@[simp] theorem State.setStaged_regs (s : State) (n : Nat) (v : List EvRec) : (s.setStaged n v).regs = s.regs := rfl
@[simp] theorem State.setStaged_latches (s : State) (n : Nat) (v : List EvRec) : (s.setStaged n v).latches = s.latches := rfl
@[simp] theorem State.setStaged_ledger (s : State) (n : Nat) (v : List EvRec) : (s.setStaged n v).ledger = s.ledger := rfl
@[simp] theorem State.setStaged_ing (s : State) (n : Nat) (v : List EvRec) : (s.setStaged n v).ing = s.ing := rfl
@[simp] theorem State.setStaged_hds (s : State) (n : Nat) (v : List EvRec) : (s.setStaged n v).hds = s.hds := rfl
@[simp] theorem State.setStaged_srf (s : State) (n : Nat) (v : List EvRec) : (s.setStaged n v).srf = s.srf := rfl
@[simp] theorem State.setStaged_scc (s : State) (n : Nat) (v : List EvRec) : (s.setStaged n v).scc = s.scc := rfl
@[simp] theorem State.setStaged_out (s : State) (n : Nat) (v : List EvRec) : (s.setStaged n v).out = s.out := rfl
@[simp] theorem State.setStaged_lv (s : State) (n : Nat) (v : List EvRec) : (s.setStaged n v).lv = s.lv := rfl
@[simp] theorem State.setStaged_tim (s : State) (n : Nat) (v : List EvRec) : (s.setStaged n v).tim = s.tim := rfl
@[simp] theorem State.setStaged_net (s : State) (n : Nat) (v : List EvRec) : (s.setStaged n v).net = s.net := rfl
@[simp] theorem State.setStaged_psn (s : State) (n : Nat) (v : List EvRec) : (s.setStaged n v).psn = s.psn := rfl
@[simp] theorem State.setStaged_aud (s : State) (n : Nat) (v : List EvRec) : (s.setStaged n v).aud = s.aud := rfl
@[simp] theorem State.setStaged_mg (s : State) (n : Nat) (v : List EvRec) : (s.setStaged n v).mg = s.mg := rfl
@[simp] theorem State.setStaged_coc (s : State) (n : Nat) (v : List EvRec) : (s.setStaged n v).coc = s.coc := rfl
@[simp] theorem State.setStaged_nv (s : State) (n : Nat) (v : List EvRec) : (s.setStaged n v).nv = s.nv := rfl
@[simp] theorem State.setStaged_rest (s : State) (n : Nat) (v : List EvRec) : (s.setStaged n v).rest = s.rest := rfl
@[simp] theorem State.setStaged_pwr (s : State) (n : Nat) (v : List EvRec) : (s.setStaged n v).pwr = s.pwr := rfl
@[simp] theorem State.setStaged_scrub (s : State) (n : Nat) (v : List EvRec) : (s.setStaged n v).scrub = s.scrub := rfl
@[simp] theorem State.setStaged_hbm (s : State) (n : Nat) (v : List EvRec) : (s.setStaged n v).hbm = s.hbm := rfl
@[simp] theorem State.setStaged_reply (s : State) (n : Nat) (v : List EvRec) : (s.setStaged n v).reply = s.reply := rfl
@[simp] theorem State.setStaged_free (s : State) (n : Nat) (v : List EvRec) : (s.setStaged n v).free = s.free := rfl
@[simp] theorem State.stagedOf_setStaged (s : State) (n : Nat) (v : List EvRec) : (s.setStaged n v).stagedOf n = v := Tab.get_set_self ..
theorem State.stagedOf_setStaged_ne (s : State) {n m : Nat} (v : List EvRec) (h : m ≠ n) : (s.setStaged n v).stagedOf m = s.stagedOf m := Tab.get_set_ne _ _ _ h

/-! ### setSrc -/

@[simp] theorem State.setSrc_pending (s : State) (n : Nat) (v : Source) : (s.setSrc n v).pending = s.pending := rfl
@[simp] theorem State.setSrc_regs (s : State) (n : Nat) (v : Source) : (s.setSrc n v).regs = s.regs := rfl
@[simp] theorem State.setSrc_latches (s : State) (n : Nat) (v : Source) : (s.setSrc n v).latches = s.latches := rfl
@[simp] theorem State.setSrc_ledger (s : State) (n : Nat) (v : Source) : (s.setSrc n v).ledger = s.ledger := rfl
@[simp] theorem State.setSrc_hif (s : State) (n : Nat) (v : Source) : (s.setSrc n v).hif = s.hif := rfl
@[simp] theorem State.setSrc_hds (s : State) (n : Nat) (v : Source) : (s.setSrc n v).hds = s.hds := rfl
@[simp] theorem State.setSrc_srf (s : State) (n : Nat) (v : Source) : (s.setSrc n v).srf = s.srf := rfl
@[simp] theorem State.setSrc_scc (s : State) (n : Nat) (v : Source) : (s.setSrc n v).scc = s.scc := rfl
@[simp] theorem State.setSrc_out (s : State) (n : Nat) (v : Source) : (s.setSrc n v).out = s.out := rfl
@[simp] theorem State.setSrc_lv (s : State) (n : Nat) (v : Source) : (s.setSrc n v).lv = s.lv := rfl
@[simp] theorem State.setSrc_tim (s : State) (n : Nat) (v : Source) : (s.setSrc n v).tim = s.tim := rfl
@[simp] theorem State.setSrc_net (s : State) (n : Nat) (v : Source) : (s.setSrc n v).net = s.net := rfl
@[simp] theorem State.setSrc_psn (s : State) (n : Nat) (v : Source) : (s.setSrc n v).psn = s.psn := rfl
@[simp] theorem State.setSrc_aud (s : State) (n : Nat) (v : Source) : (s.setSrc n v).aud = s.aud := rfl
@[simp] theorem State.setSrc_mg (s : State) (n : Nat) (v : Source) : (s.setSrc n v).mg = s.mg := rfl
@[simp] theorem State.setSrc_coc (s : State) (n : Nat) (v : Source) : (s.setSrc n v).coc = s.coc := rfl
@[simp] theorem State.setSrc_nv (s : State) (n : Nat) (v : Source) : (s.setSrc n v).nv = s.nv := rfl
@[simp] theorem State.setSrc_rest (s : State) (n : Nat) (v : Source) : (s.setSrc n v).rest = s.rest := rfl
@[simp] theorem State.setSrc_pwr (s : State) (n : Nat) (v : Source) : (s.setSrc n v).pwr = s.pwr := rfl
@[simp] theorem State.setSrc_scrub (s : State) (n : Nat) (v : Source) : (s.setSrc n v).scrub = s.scrub := rfl
@[simp] theorem State.setSrc_hbm (s : State) (n : Nat) (v : Source) : (s.setSrc n v).hbm = s.hbm := rfl
@[simp] theorem State.setSrc_reply (s : State) (n : Nat) (v : Source) : (s.setSrc n v).reply = s.reply := rfl
@[simp] theorem State.setSrc_free (s : State) (n : Nat) (v : Source) : (s.setSrc n v).free = s.free := rfl
@[simp] theorem State.src_setSrc (s : State) (n : Nat) (v : Source) : (s.setSrc n v).src n = v := Tab.get_set_self ..
theorem State.src_setSrc_ne (s : State) {n m : Nat} (v : Source) (h : m ≠ n) : (s.setSrc n v).src m = s.src m := Tab.get_set_ne _ _ _ h

/-! ### updSrc -/

@[simp] theorem State.updSrc_pending (s : State) (n : Nat) (f : Source → Source) : (s.updSrc n f).pending = s.pending := rfl
@[simp] theorem State.updSrc_regs (s : State) (n : Nat) (f : Source → Source) : (s.updSrc n f).regs = s.regs := rfl
@[simp] theorem State.updSrc_latches (s : State) (n : Nat) (f : Source → Source) : (s.updSrc n f).latches = s.latches := rfl
@[simp] theorem State.updSrc_ledger (s : State) (n : Nat) (f : Source → Source) : (s.updSrc n f).ledger = s.ledger := rfl
@[simp] theorem State.updSrc_hif (s : State) (n : Nat) (f : Source → Source) : (s.updSrc n f).hif = s.hif := rfl
@[simp] theorem State.updSrc_hds (s : State) (n : Nat) (f : Source → Source) : (s.updSrc n f).hds = s.hds := rfl
@[simp] theorem State.updSrc_srf (s : State) (n : Nat) (f : Source → Source) : (s.updSrc n f).srf = s.srf := rfl
@[simp] theorem State.updSrc_scc (s : State) (n : Nat) (f : Source → Source) : (s.updSrc n f).scc = s.scc := rfl
@[simp] theorem State.updSrc_out (s : State) (n : Nat) (f : Source → Source) : (s.updSrc n f).out = s.out := rfl
@[simp] theorem State.updSrc_lv (s : State) (n : Nat) (f : Source → Source) : (s.updSrc n f).lv = s.lv := rfl
@[simp] theorem State.updSrc_tim (s : State) (n : Nat) (f : Source → Source) : (s.updSrc n f).tim = s.tim := rfl
@[simp] theorem State.updSrc_net (s : State) (n : Nat) (f : Source → Source) : (s.updSrc n f).net = s.net := rfl
@[simp] theorem State.updSrc_psn (s : State) (n : Nat) (f : Source → Source) : (s.updSrc n f).psn = s.psn := rfl
@[simp] theorem State.updSrc_aud (s : State) (n : Nat) (f : Source → Source) : (s.updSrc n f).aud = s.aud := rfl
@[simp] theorem State.updSrc_mg (s : State) (n : Nat) (f : Source → Source) : (s.updSrc n f).mg = s.mg := rfl
@[simp] theorem State.updSrc_coc (s : State) (n : Nat) (f : Source → Source) : (s.updSrc n f).coc = s.coc := rfl
@[simp] theorem State.updSrc_nv (s : State) (n : Nat) (f : Source → Source) : (s.updSrc n f).nv = s.nv := rfl
@[simp] theorem State.updSrc_rest (s : State) (n : Nat) (f : Source → Source) : (s.updSrc n f).rest = s.rest := rfl
@[simp] theorem State.updSrc_pwr (s : State) (n : Nat) (f : Source → Source) : (s.updSrc n f).pwr = s.pwr := rfl
@[simp] theorem State.updSrc_scrub (s : State) (n : Nat) (f : Source → Source) : (s.updSrc n f).scrub = s.scrub := rfl
@[simp] theorem State.updSrc_hbm (s : State) (n : Nat) (f : Source → Source) : (s.updSrc n f).hbm = s.hbm := rfl
@[simp] theorem State.updSrc_reply (s : State) (n : Nat) (f : Source → Source) : (s.updSrc n f).reply = s.reply := rfl
@[simp] theorem State.updSrc_free (s : State) (n : Nat) (f : Source → Source) : (s.updSrc n f).free = s.free := rfl
@[simp] theorem State.src_updSrc (s : State) (n : Nat) (f : Source → Source) : (s.updSrc n f).src n = f (s.src n) := Tab.get_set_self ..
theorem State.src_updSrc_ne (s : State) {n m : Nat} (f : Source → Source) (h : m ≠ n) : (s.updSrc n f).src m = s.src m := Tab.get_set_ne _ _ _ h

/-! ### setColIn -/

@[simp] theorem State.setColIn_pending (s : State) (n : Nat) (v : ColUnit) : (s.setColIn n v).pending = s.pending := rfl
@[simp] theorem State.setColIn_regs (s : State) (n : Nat) (v : ColUnit) : (s.setColIn n v).regs = s.regs := rfl
@[simp] theorem State.setColIn_latches (s : State) (n : Nat) (v : ColUnit) : (s.setColIn n v).latches = s.latches := rfl
@[simp] theorem State.setColIn_ledger (s : State) (n : Nat) (v : ColUnit) : (s.setColIn n v).ledger = s.ledger := rfl
@[simp] theorem State.setColIn_hif (s : State) (n : Nat) (v : ColUnit) : (s.setColIn n v).hif = s.hif := rfl
@[simp] theorem State.setColIn_ing (s : State) (n : Nat) (v : ColUnit) : (s.setColIn n v).ing = s.ing := rfl
@[simp] theorem State.setColIn_hds (s : State) (n : Nat) (v : ColUnit) : (s.setColIn n v).hds = s.hds := rfl
@[simp] theorem State.setColIn_srf (s : State) (n : Nat) (v : ColUnit) : (s.setColIn n v).srf = s.srf := rfl
@[simp] theorem State.setColIn_out (s : State) (n : Nat) (v : ColUnit) : (s.setColIn n v).out = s.out := rfl
@[simp] theorem State.setColIn_lv (s : State) (n : Nat) (v : ColUnit) : (s.setColIn n v).lv = s.lv := rfl
@[simp] theorem State.setColIn_tim (s : State) (n : Nat) (v : ColUnit) : (s.setColIn n v).tim = s.tim := rfl
@[simp] theorem State.setColIn_net (s : State) (n : Nat) (v : ColUnit) : (s.setColIn n v).net = s.net := rfl
@[simp] theorem State.setColIn_psn (s : State) (n : Nat) (v : ColUnit) : (s.setColIn n v).psn = s.psn := rfl
@[simp] theorem State.setColIn_aud (s : State) (n : Nat) (v : ColUnit) : (s.setColIn n v).aud = s.aud := rfl
@[simp] theorem State.setColIn_mg (s : State) (n : Nat) (v : ColUnit) : (s.setColIn n v).mg = s.mg := rfl
@[simp] theorem State.setColIn_coc (s : State) (n : Nat) (v : ColUnit) : (s.setColIn n v).coc = s.coc := rfl
@[simp] theorem State.setColIn_nv (s : State) (n : Nat) (v : ColUnit) : (s.setColIn n v).nv = s.nv := rfl
@[simp] theorem State.setColIn_rest (s : State) (n : Nat) (v : ColUnit) : (s.setColIn n v).rest = s.rest := rfl
@[simp] theorem State.setColIn_pwr (s : State) (n : Nat) (v : ColUnit) : (s.setColIn n v).pwr = s.pwr := rfl
@[simp] theorem State.setColIn_scrub (s : State) (n : Nat) (v : ColUnit) : (s.setColIn n v).scrub = s.scrub := rfl
@[simp] theorem State.setColIn_hbm (s : State) (n : Nat) (v : ColUnit) : (s.setColIn n v).hbm = s.hbm := rfl
@[simp] theorem State.setColIn_reply (s : State) (n : Nat) (v : ColUnit) : (s.setColIn n v).reply = s.reply := rfl
@[simp] theorem State.setColIn_free (s : State) (n : Nat) (v : ColUnit) : (s.setColIn n v).free = s.free := rfl
@[simp] theorem State.colIn_setColIn (s : State) (n : Nat) (v : ColUnit) : (s.setColIn n v).colIn n = v := Tab.get_set_self ..
theorem State.colIn_setColIn_ne (s : State) {n m : Nat} (v : ColUnit) (h : m ≠ n) : (s.setColIn n v).colIn m = s.colIn m := Tab.get_set_ne _ _ _ h

/-! ### setColOut -/

@[simp] theorem State.setColOut_pending (s : State) (n : Nat) (v : ColUnit) : (s.setColOut n v).pending = s.pending := rfl
@[simp] theorem State.setColOut_regs (s : State) (n : Nat) (v : ColUnit) : (s.setColOut n v).regs = s.regs := rfl
@[simp] theorem State.setColOut_latches (s : State) (n : Nat) (v : ColUnit) : (s.setColOut n v).latches = s.latches := rfl
@[simp] theorem State.setColOut_ledger (s : State) (n : Nat) (v : ColUnit) : (s.setColOut n v).ledger = s.ledger := rfl
@[simp] theorem State.setColOut_hif (s : State) (n : Nat) (v : ColUnit) : (s.setColOut n v).hif = s.hif := rfl
@[simp] theorem State.setColOut_ing (s : State) (n : Nat) (v : ColUnit) : (s.setColOut n v).ing = s.ing := rfl
@[simp] theorem State.setColOut_hds (s : State) (n : Nat) (v : ColUnit) : (s.setColOut n v).hds = s.hds := rfl
@[simp] theorem State.setColOut_srf (s : State) (n : Nat) (v : ColUnit) : (s.setColOut n v).srf = s.srf := rfl
@[simp] theorem State.setColOut_out (s : State) (n : Nat) (v : ColUnit) : (s.setColOut n v).out = s.out := rfl
@[simp] theorem State.setColOut_lv (s : State) (n : Nat) (v : ColUnit) : (s.setColOut n v).lv = s.lv := rfl
@[simp] theorem State.setColOut_tim (s : State) (n : Nat) (v : ColUnit) : (s.setColOut n v).tim = s.tim := rfl
@[simp] theorem State.setColOut_net (s : State) (n : Nat) (v : ColUnit) : (s.setColOut n v).net = s.net := rfl
@[simp] theorem State.setColOut_psn (s : State) (n : Nat) (v : ColUnit) : (s.setColOut n v).psn = s.psn := rfl
@[simp] theorem State.setColOut_aud (s : State) (n : Nat) (v : ColUnit) : (s.setColOut n v).aud = s.aud := rfl
@[simp] theorem State.setColOut_mg (s : State) (n : Nat) (v : ColUnit) : (s.setColOut n v).mg = s.mg := rfl
@[simp] theorem State.setColOut_coc (s : State) (n : Nat) (v : ColUnit) : (s.setColOut n v).coc = s.coc := rfl
@[simp] theorem State.setColOut_nv (s : State) (n : Nat) (v : ColUnit) : (s.setColOut n v).nv = s.nv := rfl
@[simp] theorem State.setColOut_rest (s : State) (n : Nat) (v : ColUnit) : (s.setColOut n v).rest = s.rest := rfl
@[simp] theorem State.setColOut_pwr (s : State) (n : Nat) (v : ColUnit) : (s.setColOut n v).pwr = s.pwr := rfl
@[simp] theorem State.setColOut_scrub (s : State) (n : Nat) (v : ColUnit) : (s.setColOut n v).scrub = s.scrub := rfl
@[simp] theorem State.setColOut_hbm (s : State) (n : Nat) (v : ColUnit) : (s.setColOut n v).hbm = s.hbm := rfl
@[simp] theorem State.setColOut_reply (s : State) (n : Nat) (v : ColUnit) : (s.setColOut n v).reply = s.reply := rfl
@[simp] theorem State.setColOut_free (s : State) (n : Nat) (v : ColUnit) : (s.setColOut n v).free = s.free := rfl
@[simp] theorem State.colOut_setColOut (s : State) (n : Nat) (v : ColUnit) : (s.setColOut n v).colOut n = v := Tab.get_set_self ..
theorem State.colOut_setColOut_ne (s : State) {n m : Nat} (v : ColUnit) (h : m ≠ n) : (s.setColOut n v).colOut m = s.colOut m := Tab.get_set_ne _ _ _ h

/-! ### setDith -/

@[simp] theorem State.setDith_pending (s : State) (n : Nat) (v : Dith) : (s.setDith n v).pending = s.pending := rfl
@[simp] theorem State.setDith_regs (s : State) (n : Nat) (v : Dith) : (s.setDith n v).regs = s.regs := rfl
@[simp] theorem State.setDith_latches (s : State) (n : Nat) (v : Dith) : (s.setDith n v).latches = s.latches := rfl
@[simp] theorem State.setDith_ledger (s : State) (n : Nat) (v : Dith) : (s.setDith n v).ledger = s.ledger := rfl
@[simp] theorem State.setDith_hif (s : State) (n : Nat) (v : Dith) : (s.setDith n v).hif = s.hif := rfl
@[simp] theorem State.setDith_ing (s : State) (n : Nat) (v : Dith) : (s.setDith n v).ing = s.ing := rfl
@[simp] theorem State.setDith_hds (s : State) (n : Nat) (v : Dith) : (s.setDith n v).hds = s.hds := rfl
@[simp] theorem State.setDith_srf (s : State) (n : Nat) (v : Dith) : (s.setDith n v).srf = s.srf := rfl
@[simp] theorem State.setDith_out (s : State) (n : Nat) (v : Dith) : (s.setDith n v).out = s.out := rfl
@[simp] theorem State.setDith_lv (s : State) (n : Nat) (v : Dith) : (s.setDith n v).lv = s.lv := rfl
@[simp] theorem State.setDith_tim (s : State) (n : Nat) (v : Dith) : (s.setDith n v).tim = s.tim := rfl
@[simp] theorem State.setDith_net (s : State) (n : Nat) (v : Dith) : (s.setDith n v).net = s.net := rfl
@[simp] theorem State.setDith_psn (s : State) (n : Nat) (v : Dith) : (s.setDith n v).psn = s.psn := rfl
@[simp] theorem State.setDith_aud (s : State) (n : Nat) (v : Dith) : (s.setDith n v).aud = s.aud := rfl
@[simp] theorem State.setDith_mg (s : State) (n : Nat) (v : Dith) : (s.setDith n v).mg = s.mg := rfl
@[simp] theorem State.setDith_coc (s : State) (n : Nat) (v : Dith) : (s.setDith n v).coc = s.coc := rfl
@[simp] theorem State.setDith_nv (s : State) (n : Nat) (v : Dith) : (s.setDith n v).nv = s.nv := rfl
@[simp] theorem State.setDith_rest (s : State) (n : Nat) (v : Dith) : (s.setDith n v).rest = s.rest := rfl
@[simp] theorem State.setDith_pwr (s : State) (n : Nat) (v : Dith) : (s.setDith n v).pwr = s.pwr := rfl
@[simp] theorem State.setDith_scrub (s : State) (n : Nat) (v : Dith) : (s.setDith n v).scrub = s.scrub := rfl
@[simp] theorem State.setDith_hbm (s : State) (n : Nat) (v : Dith) : (s.setDith n v).hbm = s.hbm := rfl
@[simp] theorem State.setDith_reply (s : State) (n : Nat) (v : Dith) : (s.setDith n v).reply = s.reply := rfl
@[simp] theorem State.setDith_free (s : State) (n : Nat) (v : Dith) : (s.setDith n v).free = s.free := rfl
@[simp] theorem State.dith_setDith (s : State) (n : Nat) (v : Dith) : (s.setDith n v).dith n = v := Tab.get_set_self ..
theorem State.dith_setDith_ne (s : State) {n m : Nat} (v : Dith) (h : m ≠ n) : (s.setDith n v).dith m = s.dith m := Tab.get_set_ne _ _ _ h

/-! ### setScl -/

@[simp] theorem State.setScl_pending (s : State) (n : Nat) (v : Scaler) : (s.setScl n v).pending = s.pending := rfl
@[simp] theorem State.setScl_regs (s : State) (n : Nat) (v : Scaler) : (s.setScl n v).regs = s.regs := rfl
@[simp] theorem State.setScl_latches (s : State) (n : Nat) (v : Scaler) : (s.setScl n v).latches = s.latches := rfl
@[simp] theorem State.setScl_ledger (s : State) (n : Nat) (v : Scaler) : (s.setScl n v).ledger = s.ledger := rfl
@[simp] theorem State.setScl_hif (s : State) (n : Nat) (v : Scaler) : (s.setScl n v).hif = s.hif := rfl
@[simp] theorem State.setScl_ing (s : State) (n : Nat) (v : Scaler) : (s.setScl n v).ing = s.ing := rfl
@[simp] theorem State.setScl_hds (s : State) (n : Nat) (v : Scaler) : (s.setScl n v).hds = s.hds := rfl
@[simp] theorem State.setScl_srf (s : State) (n : Nat) (v : Scaler) : (s.setScl n v).srf = s.srf := rfl
@[simp] theorem State.setScl_out (s : State) (n : Nat) (v : Scaler) : (s.setScl n v).out = s.out := rfl
@[simp] theorem State.setScl_lv (s : State) (n : Nat) (v : Scaler) : (s.setScl n v).lv = s.lv := rfl
@[simp] theorem State.setScl_tim (s : State) (n : Nat) (v : Scaler) : (s.setScl n v).tim = s.tim := rfl
@[simp] theorem State.setScl_net (s : State) (n : Nat) (v : Scaler) : (s.setScl n v).net = s.net := rfl
@[simp] theorem State.setScl_psn (s : State) (n : Nat) (v : Scaler) : (s.setScl n v).psn = s.psn := rfl
@[simp] theorem State.setScl_aud (s : State) (n : Nat) (v : Scaler) : (s.setScl n v).aud = s.aud := rfl
@[simp] theorem State.setScl_mg (s : State) (n : Nat) (v : Scaler) : (s.setScl n v).mg = s.mg := rfl
@[simp] theorem State.setScl_coc (s : State) (n : Nat) (v : Scaler) : (s.setScl n v).coc = s.coc := rfl
@[simp] theorem State.setScl_nv (s : State) (n : Nat) (v : Scaler) : (s.setScl n v).nv = s.nv := rfl
@[simp] theorem State.setScl_rest (s : State) (n : Nat) (v : Scaler) : (s.setScl n v).rest = s.rest := rfl
@[simp] theorem State.setScl_pwr (s : State) (n : Nat) (v : Scaler) : (s.setScl n v).pwr = s.pwr := rfl
@[simp] theorem State.setScl_scrub (s : State) (n : Nat) (v : Scaler) : (s.setScl n v).scrub = s.scrub := rfl
@[simp] theorem State.setScl_hbm (s : State) (n : Nat) (v : Scaler) : (s.setScl n v).hbm = s.hbm := rfl
@[simp] theorem State.setScl_reply (s : State) (n : Nat) (v : Scaler) : (s.setScl n v).reply = s.reply := rfl
@[simp] theorem State.setScl_free (s : State) (n : Nat) (v : Scaler) : (s.setScl n v).free = s.free := rfl
@[simp] theorem State.scl_setScl (s : State) (n : Nat) (v : Scaler) : (s.setScl n v).scl n = v := Tab.get_set_self ..
theorem State.scl_setScl_ne (s : State) {n m : Nat} (v : Scaler) (h : m ≠ n) : (s.setScl n v).scl m = s.scl m := Tab.get_set_ne _ _ _ h

/-! ### setUnit -/

@[simp] theorem State.setUnit_pending (s : State) (n : Nat) (v : PowerUnit) : (s.setUnit n v).pending = s.pending := rfl
@[simp] theorem State.setUnit_regs (s : State) (n : Nat) (v : PowerUnit) : (s.setUnit n v).regs = s.regs := rfl
@[simp] theorem State.setUnit_latches (s : State) (n : Nat) (v : PowerUnit) : (s.setUnit n v).latches = s.latches := rfl
@[simp] theorem State.setUnit_ledger (s : State) (n : Nat) (v : PowerUnit) : (s.setUnit n v).ledger = s.ledger := rfl
@[simp] theorem State.setUnit_hif (s : State) (n : Nat) (v : PowerUnit) : (s.setUnit n v).hif = s.hif := rfl
@[simp] theorem State.setUnit_ing (s : State) (n : Nat) (v : PowerUnit) : (s.setUnit n v).ing = s.ing := rfl
@[simp] theorem State.setUnit_hds (s : State) (n : Nat) (v : PowerUnit) : (s.setUnit n v).hds = s.hds := rfl
@[simp] theorem State.setUnit_srf (s : State) (n : Nat) (v : PowerUnit) : (s.setUnit n v).srf = s.srf := rfl
@[simp] theorem State.setUnit_scc (s : State) (n : Nat) (v : PowerUnit) : (s.setUnit n v).scc = s.scc := rfl
@[simp] theorem State.setUnit_out (s : State) (n : Nat) (v : PowerUnit) : (s.setUnit n v).out = s.out := rfl
@[simp] theorem State.setUnit_lv (s : State) (n : Nat) (v : PowerUnit) : (s.setUnit n v).lv = s.lv := rfl
@[simp] theorem State.setUnit_tim (s : State) (n : Nat) (v : PowerUnit) : (s.setUnit n v).tim = s.tim := rfl
@[simp] theorem State.setUnit_psn (s : State) (n : Nat) (v : PowerUnit) : (s.setUnit n v).psn = s.psn := rfl
@[simp] theorem State.setUnit_aud (s : State) (n : Nat) (v : PowerUnit) : (s.setUnit n v).aud = s.aud := rfl
@[simp] theorem State.setUnit_mg (s : State) (n : Nat) (v : PowerUnit) : (s.setUnit n v).mg = s.mg := rfl
@[simp] theorem State.setUnit_coc (s : State) (n : Nat) (v : PowerUnit) : (s.setUnit n v).coc = s.coc := rfl
@[simp] theorem State.setUnit_nv (s : State) (n : Nat) (v : PowerUnit) : (s.setUnit n v).nv = s.nv := rfl
@[simp] theorem State.setUnit_rest (s : State) (n : Nat) (v : PowerUnit) : (s.setUnit n v).rest = s.rest := rfl
@[simp] theorem State.setUnit_pwr (s : State) (n : Nat) (v : PowerUnit) : (s.setUnit n v).pwr = s.pwr := rfl
@[simp] theorem State.setUnit_scrub (s : State) (n : Nat) (v : PowerUnit) : (s.setUnit n v).scrub = s.scrub := rfl
@[simp] theorem State.setUnit_hbm (s : State) (n : Nat) (v : PowerUnit) : (s.setUnit n v).hbm = s.hbm := rfl
@[simp] theorem State.setUnit_reply (s : State) (n : Nat) (v : PowerUnit) : (s.setUnit n v).reply = s.reply := rfl
@[simp] theorem State.setUnit_free (s : State) (n : Nat) (v : PowerUnit) : (s.setUnit n v).free = s.free := rfl
@[simp] theorem State.unit_setUnit (s : State) (n : Nat) (v : PowerUnit) : (s.setUnit n v).unit n = v := Tab.get_set_self ..
theorem State.unit_setUnit_ne (s : State) {n m : Nat} (v : PowerUnit) (h : m ≠ n) : (s.setUnit n v).unit m = s.unit m := Tab.get_set_ne _ _ _ h

/-! ### setAudIn -/

@[simp] theorem State.setAudIn_pending (s : State) (n : Nat) (v : AudIn) : (s.setAudIn n v).pending = s.pending := rfl
@[simp] theorem State.setAudIn_regs (s : State) (n : Nat) (v : AudIn) : (s.setAudIn n v).regs = s.regs := rfl
@[simp] theorem State.setAudIn_latches (s : State) (n : Nat) (v : AudIn) : (s.setAudIn n v).latches = s.latches := rfl
@[simp] theorem State.setAudIn_ledger (s : State) (n : Nat) (v : AudIn) : (s.setAudIn n v).ledger = s.ledger := rfl
@[simp] theorem State.setAudIn_hif (s : State) (n : Nat) (v : AudIn) : (s.setAudIn n v).hif = s.hif := rfl
@[simp] theorem State.setAudIn_ing (s : State) (n : Nat) (v : AudIn) : (s.setAudIn n v).ing = s.ing := rfl
@[simp] theorem State.setAudIn_hds (s : State) (n : Nat) (v : AudIn) : (s.setAudIn n v).hds = s.hds := rfl
@[simp] theorem State.setAudIn_srf (s : State) (n : Nat) (v : AudIn) : (s.setAudIn n v).srf = s.srf := rfl
@[simp] theorem State.setAudIn_scc (s : State) (n : Nat) (v : AudIn) : (s.setAudIn n v).scc = s.scc := rfl
@[simp] theorem State.setAudIn_out (s : State) (n : Nat) (v : AudIn) : (s.setAudIn n v).out = s.out := rfl
@[simp] theorem State.setAudIn_lv (s : State) (n : Nat) (v : AudIn) : (s.setAudIn n v).lv = s.lv := rfl
@[simp] theorem State.setAudIn_tim (s : State) (n : Nat) (v : AudIn) : (s.setAudIn n v).tim = s.tim := rfl
@[simp] theorem State.setAudIn_net (s : State) (n : Nat) (v : AudIn) : (s.setAudIn n v).net = s.net := rfl
@[simp] theorem State.setAudIn_psn (s : State) (n : Nat) (v : AudIn) : (s.setAudIn n v).psn = s.psn := rfl
@[simp] theorem State.setAudIn_mg (s : State) (n : Nat) (v : AudIn) : (s.setAudIn n v).mg = s.mg := rfl
@[simp] theorem State.setAudIn_coc (s : State) (n : Nat) (v : AudIn) : (s.setAudIn n v).coc = s.coc := rfl
@[simp] theorem State.setAudIn_nv (s : State) (n : Nat) (v : AudIn) : (s.setAudIn n v).nv = s.nv := rfl
@[simp] theorem State.setAudIn_rest (s : State) (n : Nat) (v : AudIn) : (s.setAudIn n v).rest = s.rest := rfl
@[simp] theorem State.setAudIn_pwr (s : State) (n : Nat) (v : AudIn) : (s.setAudIn n v).pwr = s.pwr := rfl
@[simp] theorem State.setAudIn_scrub (s : State) (n : Nat) (v : AudIn) : (s.setAudIn n v).scrub = s.scrub := rfl
@[simp] theorem State.setAudIn_hbm (s : State) (n : Nat) (v : AudIn) : (s.setAudIn n v).hbm = s.hbm := rfl
@[simp] theorem State.setAudIn_reply (s : State) (n : Nat) (v : AudIn) : (s.setAudIn n v).reply = s.reply := rfl
@[simp] theorem State.setAudIn_free (s : State) (n : Nat) (v : AudIn) : (s.setAudIn n v).free = s.free := rfl
@[simp] theorem State.audIn_setAudIn (s : State) (n : Nat) (v : AudIn) : (s.setAudIn n v).audIn n = v := Tab.get_set_self ..
theorem State.audIn_setAudIn_ne (s : State) {n m : Nat} (v : AudIn) (h : m ≠ n) : (s.setAudIn n v).audIn m = s.audIn m := Tab.get_set_ne _ _ _ h

/-! ### updAudIn -/

@[simp] theorem State.updAudIn_pending (s : State) (n : Nat) (f : AudIn → AudIn) : (s.updAudIn n f).pending = s.pending := rfl
@[simp] theorem State.updAudIn_regs (s : State) (n : Nat) (f : AudIn → AudIn) : (s.updAudIn n f).regs = s.regs := rfl
@[simp] theorem State.updAudIn_latches (s : State) (n : Nat) (f : AudIn → AudIn) : (s.updAudIn n f).latches = s.latches := rfl
@[simp] theorem State.updAudIn_ledger (s : State) (n : Nat) (f : AudIn → AudIn) : (s.updAudIn n f).ledger = s.ledger := rfl
@[simp] theorem State.updAudIn_hif (s : State) (n : Nat) (f : AudIn → AudIn) : (s.updAudIn n f).hif = s.hif := rfl
@[simp] theorem State.updAudIn_ing (s : State) (n : Nat) (f : AudIn → AudIn) : (s.updAudIn n f).ing = s.ing := rfl
@[simp] theorem State.updAudIn_hds (s : State) (n : Nat) (f : AudIn → AudIn) : (s.updAudIn n f).hds = s.hds := rfl
@[simp] theorem State.updAudIn_srf (s : State) (n : Nat) (f : AudIn → AudIn) : (s.updAudIn n f).srf = s.srf := rfl
@[simp] theorem State.updAudIn_scc (s : State) (n : Nat) (f : AudIn → AudIn) : (s.updAudIn n f).scc = s.scc := rfl
@[simp] theorem State.updAudIn_out (s : State) (n : Nat) (f : AudIn → AudIn) : (s.updAudIn n f).out = s.out := rfl
@[simp] theorem State.updAudIn_lv (s : State) (n : Nat) (f : AudIn → AudIn) : (s.updAudIn n f).lv = s.lv := rfl
@[simp] theorem State.updAudIn_tim (s : State) (n : Nat) (f : AudIn → AudIn) : (s.updAudIn n f).tim = s.tim := rfl
@[simp] theorem State.updAudIn_net (s : State) (n : Nat) (f : AudIn → AudIn) : (s.updAudIn n f).net = s.net := rfl
@[simp] theorem State.updAudIn_psn (s : State) (n : Nat) (f : AudIn → AudIn) : (s.updAudIn n f).psn = s.psn := rfl
@[simp] theorem State.updAudIn_mg (s : State) (n : Nat) (f : AudIn → AudIn) : (s.updAudIn n f).mg = s.mg := rfl
@[simp] theorem State.updAudIn_coc (s : State) (n : Nat) (f : AudIn → AudIn) : (s.updAudIn n f).coc = s.coc := rfl
@[simp] theorem State.updAudIn_nv (s : State) (n : Nat) (f : AudIn → AudIn) : (s.updAudIn n f).nv = s.nv := rfl
@[simp] theorem State.updAudIn_rest (s : State) (n : Nat) (f : AudIn → AudIn) : (s.updAudIn n f).rest = s.rest := rfl
@[simp] theorem State.updAudIn_pwr (s : State) (n : Nat) (f : AudIn → AudIn) : (s.updAudIn n f).pwr = s.pwr := rfl
@[simp] theorem State.updAudIn_scrub (s : State) (n : Nat) (f : AudIn → AudIn) : (s.updAudIn n f).scrub = s.scrub := rfl
@[simp] theorem State.updAudIn_hbm (s : State) (n : Nat) (f : AudIn → AudIn) : (s.updAudIn n f).hbm = s.hbm := rfl
@[simp] theorem State.updAudIn_reply (s : State) (n : Nat) (f : AudIn → AudIn) : (s.updAudIn n f).reply = s.reply := rfl
@[simp] theorem State.updAudIn_free (s : State) (n : Nat) (f : AudIn → AudIn) : (s.updAudIn n f).free = s.free := rfl
@[simp] theorem State.audIn_updAudIn (s : State) (n : Nat) (f : AudIn → AudIn) : (s.updAudIn n f).audIn n = f (s.audIn n) := Tab.get_set_self ..
theorem State.audIn_updAudIn_ne (s : State) {n m : Nat} (f : AudIn → AudIn) (h : m ≠ n) : (s.updAudIn n f).audIn m = s.audIn m := Tab.get_set_ne _ _ _ h

/-! ### setAudGrp -/

@[simp] theorem State.setAudGrp_pending (s : State) (n : Nat) (v : AudGrp) : (s.setAudGrp n v).pending = s.pending := rfl
@[simp] theorem State.setAudGrp_regs (s : State) (n : Nat) (v : AudGrp) : (s.setAudGrp n v).regs = s.regs := rfl
@[simp] theorem State.setAudGrp_latches (s : State) (n : Nat) (v : AudGrp) : (s.setAudGrp n v).latches = s.latches := rfl
@[simp] theorem State.setAudGrp_ledger (s : State) (n : Nat) (v : AudGrp) : (s.setAudGrp n v).ledger = s.ledger := rfl
@[simp] theorem State.setAudGrp_hif (s : State) (n : Nat) (v : AudGrp) : (s.setAudGrp n v).hif = s.hif := rfl
@[simp] theorem State.setAudGrp_ing (s : State) (n : Nat) (v : AudGrp) : (s.setAudGrp n v).ing = s.ing := rfl
@[simp] theorem State.setAudGrp_hds (s : State) (n : Nat) (v : AudGrp) : (s.setAudGrp n v).hds = s.hds := rfl
@[simp] theorem State.setAudGrp_srf (s : State) (n : Nat) (v : AudGrp) : (s.setAudGrp n v).srf = s.srf := rfl
@[simp] theorem State.setAudGrp_scc (s : State) (n : Nat) (v : AudGrp) : (s.setAudGrp n v).scc = s.scc := rfl
@[simp] theorem State.setAudGrp_out (s : State) (n : Nat) (v : AudGrp) : (s.setAudGrp n v).out = s.out := rfl
@[simp] theorem State.setAudGrp_lv (s : State) (n : Nat) (v : AudGrp) : (s.setAudGrp n v).lv = s.lv := rfl
@[simp] theorem State.setAudGrp_tim (s : State) (n : Nat) (v : AudGrp) : (s.setAudGrp n v).tim = s.tim := rfl
@[simp] theorem State.setAudGrp_net (s : State) (n : Nat) (v : AudGrp) : (s.setAudGrp n v).net = s.net := rfl
@[simp] theorem State.setAudGrp_psn (s : State) (n : Nat) (v : AudGrp) : (s.setAudGrp n v).psn = s.psn := rfl
@[simp] theorem State.setAudGrp_mg (s : State) (n : Nat) (v : AudGrp) : (s.setAudGrp n v).mg = s.mg := rfl
@[simp] theorem State.setAudGrp_coc (s : State) (n : Nat) (v : AudGrp) : (s.setAudGrp n v).coc = s.coc := rfl
@[simp] theorem State.setAudGrp_nv (s : State) (n : Nat) (v : AudGrp) : (s.setAudGrp n v).nv = s.nv := rfl
@[simp] theorem State.setAudGrp_rest (s : State) (n : Nat) (v : AudGrp) : (s.setAudGrp n v).rest = s.rest := rfl
@[simp] theorem State.setAudGrp_pwr (s : State) (n : Nat) (v : AudGrp) : (s.setAudGrp n v).pwr = s.pwr := rfl
@[simp] theorem State.setAudGrp_scrub (s : State) (n : Nat) (v : AudGrp) : (s.setAudGrp n v).scrub = s.scrub := rfl
@[simp] theorem State.setAudGrp_hbm (s : State) (n : Nat) (v : AudGrp) : (s.setAudGrp n v).hbm = s.hbm := rfl
@[simp] theorem State.setAudGrp_reply (s : State) (n : Nat) (v : AudGrp) : (s.setAudGrp n v).reply = s.reply := rfl
@[simp] theorem State.setAudGrp_free (s : State) (n : Nat) (v : AudGrp) : (s.setAudGrp n v).free = s.free := rfl
@[simp] theorem State.audGrp_setAudGrp (s : State) (n : Nat) (v : AudGrp) : (s.setAudGrp n v).audGrp n = v := Tab.get_set_self ..
theorem State.audGrp_setAudGrp_ne (s : State) {n m : Nat} (v : AudGrp) (h : m ≠ n) : (s.setAudGrp n v).audGrp m = s.audGrp m := Tab.get_set_ne _ _ _ h

/-! ### updAudGrp -/

@[simp] theorem State.updAudGrp_pending (s : State) (n : Nat) (f : AudGrp → AudGrp) : (s.updAudGrp n f).pending = s.pending := rfl
@[simp] theorem State.updAudGrp_regs (s : State) (n : Nat) (f : AudGrp → AudGrp) : (s.updAudGrp n f).regs = s.regs := rfl
@[simp] theorem State.updAudGrp_latches (s : State) (n : Nat) (f : AudGrp → AudGrp) : (s.updAudGrp n f).latches = s.latches := rfl
@[simp] theorem State.updAudGrp_ledger (s : State) (n : Nat) (f : AudGrp → AudGrp) : (s.updAudGrp n f).ledger = s.ledger := rfl
@[simp] theorem State.updAudGrp_hif (s : State) (n : Nat) (f : AudGrp → AudGrp) : (s.updAudGrp n f).hif = s.hif := rfl
@[simp] theorem State.updAudGrp_ing (s : State) (n : Nat) (f : AudGrp → AudGrp) : (s.updAudGrp n f).ing = s.ing := rfl
@[simp] theorem State.updAudGrp_hds (s : State) (n : Nat) (f : AudGrp → AudGrp) : (s.updAudGrp n f).hds = s.hds := rfl
@[simp] theorem State.updAudGrp_srf (s : State) (n : Nat) (f : AudGrp → AudGrp) : (s.updAudGrp n f).srf = s.srf := rfl
@[simp] theorem State.updAudGrp_scc (s : State) (n : Nat) (f : AudGrp → AudGrp) : (s.updAudGrp n f).scc = s.scc := rfl
@[simp] theorem State.updAudGrp_out (s : State) (n : Nat) (f : AudGrp → AudGrp) : (s.updAudGrp n f).out = s.out := rfl
@[simp] theorem State.updAudGrp_lv (s : State) (n : Nat) (f : AudGrp → AudGrp) : (s.updAudGrp n f).lv = s.lv := rfl
@[simp] theorem State.updAudGrp_tim (s : State) (n : Nat) (f : AudGrp → AudGrp) : (s.updAudGrp n f).tim = s.tim := rfl
@[simp] theorem State.updAudGrp_net (s : State) (n : Nat) (f : AudGrp → AudGrp) : (s.updAudGrp n f).net = s.net := rfl
@[simp] theorem State.updAudGrp_psn (s : State) (n : Nat) (f : AudGrp → AudGrp) : (s.updAudGrp n f).psn = s.psn := rfl
@[simp] theorem State.updAudGrp_mg (s : State) (n : Nat) (f : AudGrp → AudGrp) : (s.updAudGrp n f).mg = s.mg := rfl
@[simp] theorem State.updAudGrp_coc (s : State) (n : Nat) (f : AudGrp → AudGrp) : (s.updAudGrp n f).coc = s.coc := rfl
@[simp] theorem State.updAudGrp_nv (s : State) (n : Nat) (f : AudGrp → AudGrp) : (s.updAudGrp n f).nv = s.nv := rfl
@[simp] theorem State.updAudGrp_rest (s : State) (n : Nat) (f : AudGrp → AudGrp) : (s.updAudGrp n f).rest = s.rest := rfl
@[simp] theorem State.updAudGrp_pwr (s : State) (n : Nat) (f : AudGrp → AudGrp) : (s.updAudGrp n f).pwr = s.pwr := rfl
@[simp] theorem State.updAudGrp_scrub (s : State) (n : Nat) (f : AudGrp → AudGrp) : (s.updAudGrp n f).scrub = s.scrub := rfl
@[simp] theorem State.updAudGrp_hbm (s : State) (n : Nat) (f : AudGrp → AudGrp) : (s.updAudGrp n f).hbm = s.hbm := rfl
@[simp] theorem State.updAudGrp_reply (s : State) (n : Nat) (f : AudGrp → AudGrp) : (s.updAudGrp n f).reply = s.reply := rfl
@[simp] theorem State.updAudGrp_free (s : State) (n : Nat) (f : AudGrp → AudGrp) : (s.updAudGrp n f).free = s.free := rfl
@[simp] theorem State.audGrp_updAudGrp (s : State) (n : Nat) (f : AudGrp → AudGrp) : (s.updAudGrp n f).audGrp n = f (s.audGrp n) := Tab.get_set_self ..
theorem State.audGrp_updAudGrp_ne (s : State) {n m : Nat} (f : AudGrp → AudGrp) (h : m ≠ n) : (s.updAudGrp n f).audGrp m = s.audGrp m := Tab.get_set_ne _ _ _ h

/-! ### setAudOut -/

@[simp] theorem State.setAudOut_pending (s : State) (n : Nat) (v : AudOut) : (s.setAudOut n v).pending = s.pending := rfl
@[simp] theorem State.setAudOut_regs (s : State) (n : Nat) (v : AudOut) : (s.setAudOut n v).regs = s.regs := rfl
@[simp] theorem State.setAudOut_latches (s : State) (n : Nat) (v : AudOut) : (s.setAudOut n v).latches = s.latches := rfl
@[simp] theorem State.setAudOut_ledger (s : State) (n : Nat) (v : AudOut) : (s.setAudOut n v).ledger = s.ledger := rfl
@[simp] theorem State.setAudOut_hif (s : State) (n : Nat) (v : AudOut) : (s.setAudOut n v).hif = s.hif := rfl
@[simp] theorem State.setAudOut_ing (s : State) (n : Nat) (v : AudOut) : (s.setAudOut n v).ing = s.ing := rfl
@[simp] theorem State.setAudOut_hds (s : State) (n : Nat) (v : AudOut) : (s.setAudOut n v).hds = s.hds := rfl
@[simp] theorem State.setAudOut_srf (s : State) (n : Nat) (v : AudOut) : (s.setAudOut n v).srf = s.srf := rfl
@[simp] theorem State.setAudOut_scc (s : State) (n : Nat) (v : AudOut) : (s.setAudOut n v).scc = s.scc := rfl
@[simp] theorem State.setAudOut_out (s : State) (n : Nat) (v : AudOut) : (s.setAudOut n v).out = s.out := rfl
@[simp] theorem State.setAudOut_lv (s : State) (n : Nat) (v : AudOut) : (s.setAudOut n v).lv = s.lv := rfl
@[simp] theorem State.setAudOut_tim (s : State) (n : Nat) (v : AudOut) : (s.setAudOut n v).tim = s.tim := rfl
@[simp] theorem State.setAudOut_net (s : State) (n : Nat) (v : AudOut) : (s.setAudOut n v).net = s.net := rfl
@[simp] theorem State.setAudOut_psn (s : State) (n : Nat) (v : AudOut) : (s.setAudOut n v).psn = s.psn := rfl
@[simp] theorem State.setAudOut_mg (s : State) (n : Nat) (v : AudOut) : (s.setAudOut n v).mg = s.mg := rfl
@[simp] theorem State.setAudOut_coc (s : State) (n : Nat) (v : AudOut) : (s.setAudOut n v).coc = s.coc := rfl
@[simp] theorem State.setAudOut_nv (s : State) (n : Nat) (v : AudOut) : (s.setAudOut n v).nv = s.nv := rfl
@[simp] theorem State.setAudOut_rest (s : State) (n : Nat) (v : AudOut) : (s.setAudOut n v).rest = s.rest := rfl
@[simp] theorem State.setAudOut_pwr (s : State) (n : Nat) (v : AudOut) : (s.setAudOut n v).pwr = s.pwr := rfl
@[simp] theorem State.setAudOut_scrub (s : State) (n : Nat) (v : AudOut) : (s.setAudOut n v).scrub = s.scrub := rfl
@[simp] theorem State.setAudOut_hbm (s : State) (n : Nat) (v : AudOut) : (s.setAudOut n v).hbm = s.hbm := rfl
@[simp] theorem State.setAudOut_reply (s : State) (n : Nat) (v : AudOut) : (s.setAudOut n v).reply = s.reply := rfl
@[simp] theorem State.setAudOut_free (s : State) (n : Nat) (v : AudOut) : (s.setAudOut n v).free = s.free := rfl
@[simp] theorem State.audOut_setAudOut (s : State) (n : Nat) (v : AudOut) : (s.setAudOut n v).audOut n = v := Tab.get_set_self ..
theorem State.audOut_setAudOut_ne (s : State) {n m : Nat} (v : AudOut) (h : m ≠ n) : (s.setAudOut n v).audOut m = s.audOut m := Tab.get_set_ne _ _ _ h

/-! ### updAudOut -/

@[simp] theorem State.updAudOut_pending (s : State) (n : Nat) (f : AudOut → AudOut) : (s.updAudOut n f).pending = s.pending := rfl
@[simp] theorem State.updAudOut_regs (s : State) (n : Nat) (f : AudOut → AudOut) : (s.updAudOut n f).regs = s.regs := rfl
@[simp] theorem State.updAudOut_latches (s : State) (n : Nat) (f : AudOut → AudOut) : (s.updAudOut n f).latches = s.latches := rfl
@[simp] theorem State.updAudOut_ledger (s : State) (n : Nat) (f : AudOut → AudOut) : (s.updAudOut n f).ledger = s.ledger := rfl
@[simp] theorem State.updAudOut_hif (s : State) (n : Nat) (f : AudOut → AudOut) : (s.updAudOut n f).hif = s.hif := rfl
@[simp] theorem State.updAudOut_ing (s : State) (n : Nat) (f : AudOut → AudOut) : (s.updAudOut n f).ing = s.ing := rfl
@[simp] theorem State.updAudOut_hds (s : State) (n : Nat) (f : AudOut → AudOut) : (s.updAudOut n f).hds = s.hds := rfl
@[simp] theorem State.updAudOut_srf (s : State) (n : Nat) (f : AudOut → AudOut) : (s.updAudOut n f).srf = s.srf := rfl
@[simp] theorem State.updAudOut_scc (s : State) (n : Nat) (f : AudOut → AudOut) : (s.updAudOut n f).scc = s.scc := rfl
@[simp] theorem State.updAudOut_out (s : State) (n : Nat) (f : AudOut → AudOut) : (s.updAudOut n f).out = s.out := rfl
@[simp] theorem State.updAudOut_lv (s : State) (n : Nat) (f : AudOut → AudOut) : (s.updAudOut n f).lv = s.lv := rfl
@[simp] theorem State.updAudOut_tim (s : State) (n : Nat) (f : AudOut → AudOut) : (s.updAudOut n f).tim = s.tim := rfl
@[simp] theorem State.updAudOut_net (s : State) (n : Nat) (f : AudOut → AudOut) : (s.updAudOut n f).net = s.net := rfl
@[simp] theorem State.updAudOut_psn (s : State) (n : Nat) (f : AudOut → AudOut) : (s.updAudOut n f).psn = s.psn := rfl
@[simp] theorem State.updAudOut_mg (s : State) (n : Nat) (f : AudOut → AudOut) : (s.updAudOut n f).mg = s.mg := rfl
@[simp] theorem State.updAudOut_coc (s : State) (n : Nat) (f : AudOut → AudOut) : (s.updAudOut n f).coc = s.coc := rfl
@[simp] theorem State.updAudOut_nv (s : State) (n : Nat) (f : AudOut → AudOut) : (s.updAudOut n f).nv = s.nv := rfl
@[simp] theorem State.updAudOut_rest (s : State) (n : Nat) (f : AudOut → AudOut) : (s.updAudOut n f).rest = s.rest := rfl
@[simp] theorem State.updAudOut_pwr (s : State) (n : Nat) (f : AudOut → AudOut) : (s.updAudOut n f).pwr = s.pwr := rfl
@[simp] theorem State.updAudOut_scrub (s : State) (n : Nat) (f : AudOut → AudOut) : (s.updAudOut n f).scrub = s.scrub := rfl
@[simp] theorem State.updAudOut_hbm (s : State) (n : Nat) (f : AudOut → AudOut) : (s.updAudOut n f).hbm = s.hbm := rfl
@[simp] theorem State.updAudOut_reply (s : State) (n : Nat) (f : AudOut → AudOut) : (s.updAudOut n f).reply = s.reply := rfl
@[simp] theorem State.updAudOut_free (s : State) (n : Nat) (f : AudOut → AudOut) : (s.updAudOut n f).free = s.free := rfl
@[simp] theorem State.audOut_updAudOut (s : State) (n : Nat) (f : AudOut → AudOut) : (s.updAudOut n f).audOut n = f (s.audOut n) := Tab.get_set_self ..
theorem State.audOut_updAudOut_ne (s : State) {n m : Nat} (f : AudOut → AudOut) (h : m ≠ n) : (s.updAudOut n f).audOut m = s.audOut m := Tab.get_set_ne _ _ _ h

/-! ### setKey -/

@[simp] theorem State.setKey_pending (s : State) (n : Nat) (v : Option Key) : (s.setKey n v).pending = s.pending := rfl
@[simp] theorem State.setKey_regs (s : State) (n : Nat) (v : Option Key) : (s.setKey n v).regs = s.regs := rfl
@[simp] theorem State.setKey_latches (s : State) (n : Nat) (v : Option Key) : (s.setKey n v).latches = s.latches := rfl
@[simp] theorem State.setKey_ledger (s : State) (n : Nat) (v : Option Key) : (s.setKey n v).ledger = s.ledger := rfl
@[simp] theorem State.setKey_hif (s : State) (n : Nat) (v : Option Key) : (s.setKey n v).hif = s.hif := rfl
@[simp] theorem State.setKey_ing (s : State) (n : Nat) (v : Option Key) : (s.setKey n v).ing = s.ing := rfl
@[simp] theorem State.setKey_hds (s : State) (n : Nat) (v : Option Key) : (s.setKey n v).hds = s.hds := rfl
@[simp] theorem State.setKey_srf (s : State) (n : Nat) (v : Option Key) : (s.setKey n v).srf = s.srf := rfl
@[simp] theorem State.setKey_scc (s : State) (n : Nat) (v : Option Key) : (s.setKey n v).scc = s.scc := rfl
@[simp] theorem State.setKey_out (s : State) (n : Nat) (v : Option Key) : (s.setKey n v).out = s.out := rfl
@[simp] theorem State.setKey_lv (s : State) (n : Nat) (v : Option Key) : (s.setKey n v).lv = s.lv := rfl
@[simp] theorem State.setKey_tim (s : State) (n : Nat) (v : Option Key) : (s.setKey n v).tim = s.tim := rfl
@[simp] theorem State.setKey_net (s : State) (n : Nat) (v : Option Key) : (s.setKey n v).net = s.net := rfl
@[simp] theorem State.setKey_psn (s : State) (n : Nat) (v : Option Key) : (s.setKey n v).psn = s.psn := rfl
@[simp] theorem State.setKey_aud (s : State) (n : Nat) (v : Option Key) : (s.setKey n v).aud = s.aud := rfl
@[simp] theorem State.setKey_mg (s : State) (n : Nat) (v : Option Key) : (s.setKey n v).mg = s.mg := rfl
@[simp] theorem State.setKey_nv (s : State) (n : Nat) (v : Option Key) : (s.setKey n v).nv = s.nv := rfl
@[simp] theorem State.setKey_rest (s : State) (n : Nat) (v : Option Key) : (s.setKey n v).rest = s.rest := rfl
@[simp] theorem State.setKey_pwr (s : State) (n : Nat) (v : Option Key) : (s.setKey n v).pwr = s.pwr := rfl
@[simp] theorem State.setKey_scrub (s : State) (n : Nat) (v : Option Key) : (s.setKey n v).scrub = s.scrub := rfl
@[simp] theorem State.setKey_hbm (s : State) (n : Nat) (v : Option Key) : (s.setKey n v).hbm = s.hbm := rfl
@[simp] theorem State.setKey_reply (s : State) (n : Nat) (v : Option Key) : (s.setKey n v).reply = s.reply := rfl
@[simp] theorem State.setKey_free (s : State) (n : Nat) (v : Option Key) : (s.setKey n v).free = s.free := rfl

/-! ### setPolder -/

@[simp] theorem State.setPolder_pending (s : State) (n : Nat) (v : Polder) : (s.setPolder n v).pending = s.pending := rfl
@[simp] theorem State.setPolder_regs (s : State) (n : Nat) (v : Polder) : (s.setPolder n v).regs = s.regs := rfl
@[simp] theorem State.setPolder_latches (s : State) (n : Nat) (v : Polder) : (s.setPolder n v).latches = s.latches := rfl
@[simp] theorem State.setPolder_ledger (s : State) (n : Nat) (v : Polder) : (s.setPolder n v).ledger = s.ledger := rfl
@[simp] theorem State.setPolder_hif (s : State) (n : Nat) (v : Polder) : (s.setPolder n v).hif = s.hif := rfl
@[simp] theorem State.setPolder_ing (s : State) (n : Nat) (v : Polder) : (s.setPolder n v).ing = s.ing := rfl
@[simp] theorem State.setPolder_hds (s : State) (n : Nat) (v : Polder) : (s.setPolder n v).hds = s.hds := rfl
@[simp] theorem State.setPolder_srf (s : State) (n : Nat) (v : Polder) : (s.setPolder n v).srf = s.srf := rfl
@[simp] theorem State.setPolder_scc (s : State) (n : Nat) (v : Polder) : (s.setPolder n v).scc = s.scc := rfl
@[simp] theorem State.setPolder_out (s : State) (n : Nat) (v : Polder) : (s.setPolder n v).out = s.out := rfl
@[simp] theorem State.setPolder_lv (s : State) (n : Nat) (v : Polder) : (s.setPolder n v).lv = s.lv := rfl
@[simp] theorem State.setPolder_net (s : State) (n : Nat) (v : Polder) : (s.setPolder n v).net = s.net := rfl
@[simp] theorem State.setPolder_psn (s : State) (n : Nat) (v : Polder) : (s.setPolder n v).psn = s.psn := rfl
@[simp] theorem State.setPolder_aud (s : State) (n : Nat) (v : Polder) : (s.setPolder n v).aud = s.aud := rfl
@[simp] theorem State.setPolder_mg (s : State) (n : Nat) (v : Polder) : (s.setPolder n v).mg = s.mg := rfl
@[simp] theorem State.setPolder_coc (s : State) (n : Nat) (v : Polder) : (s.setPolder n v).coc = s.coc := rfl
@[simp] theorem State.setPolder_nv (s : State) (n : Nat) (v : Polder) : (s.setPolder n v).nv = s.nv := rfl
@[simp] theorem State.setPolder_rest (s : State) (n : Nat) (v : Polder) : (s.setPolder n v).rest = s.rest := rfl
@[simp] theorem State.setPolder_pwr (s : State) (n : Nat) (v : Polder) : (s.setPolder n v).pwr = s.pwr := rfl
@[simp] theorem State.setPolder_scrub (s : State) (n : Nat) (v : Polder) : (s.setPolder n v).scrub = s.scrub := rfl
@[simp] theorem State.setPolder_hbm (s : State) (n : Nat) (v : Polder) : (s.setPolder n v).hbm = s.hbm := rfl
@[simp] theorem State.setPolder_reply (s : State) (n : Nat) (v : Polder) : (s.setPolder n v).reply = s.reply := rfl
@[simp] theorem State.setPolder_free (s : State) (n : Nat) (v : Polder) : (s.setPolder n v).free = s.free := rfl
@[simp] theorem State.polder_setPolder (s : State) (n : Nat) (v : Polder) : (s.setPolder n v).polder n = v := Tab.get_set_self ..
theorem State.polder_setPolder_ne (s : State) {n m : Nat} (v : Polder) (h : m ≠ n) : (s.setPolder n v).polder m = s.polder m := Tab.get_set_ne _ _ _ h

/-! ### setCnv -/

@[simp] theorem State.setCnv_pending (s : State) (n : Nat) (v : Conv) : (s.setCnv n v).pending = s.pending := rfl
@[simp] theorem State.setCnv_regs (s : State) (n : Nat) (v : Conv) : (s.setCnv n v).regs = s.regs := rfl
@[simp] theorem State.setCnv_latches (s : State) (n : Nat) (v : Conv) : (s.setCnv n v).latches = s.latches := rfl
@[simp] theorem State.setCnv_ledger (s : State) (n : Nat) (v : Conv) : (s.setCnv n v).ledger = s.ledger := rfl
@[simp] theorem State.setCnv_hif (s : State) (n : Nat) (v : Conv) : (s.setCnv n v).hif = s.hif := rfl
@[simp] theorem State.setCnv_ing (s : State) (n : Nat) (v : Conv) : (s.setCnv n v).ing = s.ing := rfl
@[simp] theorem State.setCnv_hds (s : State) (n : Nat) (v : Conv) : (s.setCnv n v).hds = s.hds := rfl
@[simp] theorem State.setCnv_srf (s : State) (n : Nat) (v : Conv) : (s.setCnv n v).srf = s.srf := rfl
@[simp] theorem State.setCnv_scc (s : State) (n : Nat) (v : Conv) : (s.setCnv n v).scc = s.scc := rfl
@[simp] theorem State.setCnv_lv (s : State) (n : Nat) (v : Conv) : (s.setCnv n v).lv = s.lv := rfl
@[simp] theorem State.setCnv_tim (s : State) (n : Nat) (v : Conv) : (s.setCnv n v).tim = s.tim := rfl
@[simp] theorem State.setCnv_net (s : State) (n : Nat) (v : Conv) : (s.setCnv n v).net = s.net := rfl
@[simp] theorem State.setCnv_psn (s : State) (n : Nat) (v : Conv) : (s.setCnv n v).psn = s.psn := rfl
@[simp] theorem State.setCnv_aud (s : State) (n : Nat) (v : Conv) : (s.setCnv n v).aud = s.aud := rfl
@[simp] theorem State.setCnv_mg (s : State) (n : Nat) (v : Conv) : (s.setCnv n v).mg = s.mg := rfl
@[simp] theorem State.setCnv_coc (s : State) (n : Nat) (v : Conv) : (s.setCnv n v).coc = s.coc := rfl
@[simp] theorem State.setCnv_nv (s : State) (n : Nat) (v : Conv) : (s.setCnv n v).nv = s.nv := rfl
@[simp] theorem State.setCnv_rest (s : State) (n : Nat) (v : Conv) : (s.setCnv n v).rest = s.rest := rfl
@[simp] theorem State.setCnv_pwr (s : State) (n : Nat) (v : Conv) : (s.setCnv n v).pwr = s.pwr := rfl
@[simp] theorem State.setCnv_scrub (s : State) (n : Nat) (v : Conv) : (s.setCnv n v).scrub = s.scrub := rfl
@[simp] theorem State.setCnv_hbm (s : State) (n : Nat) (v : Conv) : (s.setCnv n v).hbm = s.hbm := rfl
@[simp] theorem State.setCnv_reply (s : State) (n : Nat) (v : Conv) : (s.setCnv n v).reply = s.reply := rfl
@[simp] theorem State.setCnv_free (s : State) (n : Nat) (v : Conv) : (s.setCnv n v).free = s.free := rfl
@[simp] theorem State.cnv_setCnv (s : State) (n : Nat) (v : Conv) : (s.setCnv n v).cnv n = v := Tab.get_set_self ..
theorem State.cnv_setCnv_ne (s : State) {n m : Nat} (v : Conv) (h : m ≠ n) : (s.setCnv n v).cnv m = s.cnv m := Tab.get_set_ne _ _ _ h

/-! ### updCnv -/

@[simp] theorem State.updCnv_pending (s : State) (n : Nat) (f : Conv → Conv) : (s.updCnv n f).pending = s.pending := rfl
@[simp] theorem State.updCnv_regs (s : State) (n : Nat) (f : Conv → Conv) : (s.updCnv n f).regs = s.regs := rfl
@[simp] theorem State.updCnv_latches (s : State) (n : Nat) (f : Conv → Conv) : (s.updCnv n f).latches = s.latches := rfl
@[simp] theorem State.updCnv_ledger (s : State) (n : Nat) (f : Conv → Conv) : (s.updCnv n f).ledger = s.ledger := rfl
@[simp] theorem State.updCnv_hif (s : State) (n : Nat) (f : Conv → Conv) : (s.updCnv n f).hif = s.hif := rfl
@[simp] theorem State.updCnv_ing (s : State) (n : Nat) (f : Conv → Conv) : (s.updCnv n f).ing = s.ing := rfl
@[simp] theorem State.updCnv_hds (s : State) (n : Nat) (f : Conv → Conv) : (s.updCnv n f).hds = s.hds := rfl
@[simp] theorem State.updCnv_srf (s : State) (n : Nat) (f : Conv → Conv) : (s.updCnv n f).srf = s.srf := rfl
@[simp] theorem State.updCnv_scc (s : State) (n : Nat) (f : Conv → Conv) : (s.updCnv n f).scc = s.scc := rfl
@[simp] theorem State.updCnv_lv (s : State) (n : Nat) (f : Conv → Conv) : (s.updCnv n f).lv = s.lv := rfl
@[simp] theorem State.updCnv_tim (s : State) (n : Nat) (f : Conv → Conv) : (s.updCnv n f).tim = s.tim := rfl
@[simp] theorem State.updCnv_net (s : State) (n : Nat) (f : Conv → Conv) : (s.updCnv n f).net = s.net := rfl
@[simp] theorem State.updCnv_psn (s : State) (n : Nat) (f : Conv → Conv) : (s.updCnv n f).psn = s.psn := rfl
@[simp] theorem State.updCnv_aud (s : State) (n : Nat) (f : Conv → Conv) : (s.updCnv n f).aud = s.aud := rfl
@[simp] theorem State.updCnv_mg (s : State) (n : Nat) (f : Conv → Conv) : (s.updCnv n f).mg = s.mg := rfl
@[simp] theorem State.updCnv_coc (s : State) (n : Nat) (f : Conv → Conv) : (s.updCnv n f).coc = s.coc := rfl
@[simp] theorem State.updCnv_nv (s : State) (n : Nat) (f : Conv → Conv) : (s.updCnv n f).nv = s.nv := rfl
@[simp] theorem State.updCnv_rest (s : State) (n : Nat) (f : Conv → Conv) : (s.updCnv n f).rest = s.rest := rfl
@[simp] theorem State.updCnv_pwr (s : State) (n : Nat) (f : Conv → Conv) : (s.updCnv n f).pwr = s.pwr := rfl
@[simp] theorem State.updCnv_scrub (s : State) (n : Nat) (f : Conv → Conv) : (s.updCnv n f).scrub = s.scrub := rfl
@[simp] theorem State.updCnv_hbm (s : State) (n : Nat) (f : Conv → Conv) : (s.updCnv n f).hbm = s.hbm := rfl
@[simp] theorem State.updCnv_reply (s : State) (n : Nat) (f : Conv → Conv) : (s.updCnv n f).reply = s.reply := rfl
@[simp] theorem State.updCnv_free (s : State) (n : Nat) (f : Conv → Conv) : (s.updCnv n f).free = s.free := rfl
@[simp] theorem State.cnv_updCnv (s : State) (n : Nat) (f : Conv → Conv) : (s.updCnv n f).cnv n = f (s.cnv n) := Tab.get_set_self ..
theorem State.cnv_updCnv_ne (s : State) {n m : Nat} (f : Conv → Conv) (h : m ≠ n) : (s.updCnv n f).cnv m = s.cnv m := Tab.get_set_ne _ _ _ h

/-! ### setHead -/

@[simp] theorem State.setHead_pending (s : State) (n : Nat) (v : Head) : (s.setHead n v).pending = s.pending := rfl
@[simp] theorem State.setHead_regs (s : State) (n : Nat) (v : Head) : (s.setHead n v).regs = s.regs := rfl
@[simp] theorem State.setHead_latches (s : State) (n : Nat) (v : Head) : (s.setHead n v).latches = s.latches := rfl
@[simp] theorem State.setHead_ledger (s : State) (n : Nat) (v : Head) : (s.setHead n v).ledger = s.ledger := rfl
@[simp] theorem State.setHead_hif (s : State) (n : Nat) (v : Head) : (s.setHead n v).hif = s.hif := rfl
@[simp] theorem State.setHead_ing (s : State) (n : Nat) (v : Head) : (s.setHead n v).ing = s.ing := rfl
@[simp] theorem State.setHead_srf (s : State) (n : Nat) (v : Head) : (s.setHead n v).srf = s.srf := rfl
@[simp] theorem State.setHead_scc (s : State) (n : Nat) (v : Head) : (s.setHead n v).scc = s.scc := rfl
@[simp] theorem State.setHead_out (s : State) (n : Nat) (v : Head) : (s.setHead n v).out = s.out := rfl
@[simp] theorem State.setHead_lv (s : State) (n : Nat) (v : Head) : (s.setHead n v).lv = s.lv := rfl
@[simp] theorem State.setHead_tim (s : State) (n : Nat) (v : Head) : (s.setHead n v).tim = s.tim := rfl
@[simp] theorem State.setHead_net (s : State) (n : Nat) (v : Head) : (s.setHead n v).net = s.net := rfl
@[simp] theorem State.setHead_psn (s : State) (n : Nat) (v : Head) : (s.setHead n v).psn = s.psn := rfl
@[simp] theorem State.setHead_aud (s : State) (n : Nat) (v : Head) : (s.setHead n v).aud = s.aud := rfl
@[simp] theorem State.setHead_mg (s : State) (n : Nat) (v : Head) : (s.setHead n v).mg = s.mg := rfl
@[simp] theorem State.setHead_coc (s : State) (n : Nat) (v : Head) : (s.setHead n v).coc = s.coc := rfl
@[simp] theorem State.setHead_nv (s : State) (n : Nat) (v : Head) : (s.setHead n v).nv = s.nv := rfl
@[simp] theorem State.setHead_rest (s : State) (n : Nat) (v : Head) : (s.setHead n v).rest = s.rest := rfl
@[simp] theorem State.setHead_pwr (s : State) (n : Nat) (v : Head) : (s.setHead n v).pwr = s.pwr := rfl
@[simp] theorem State.setHead_scrub (s : State) (n : Nat) (v : Head) : (s.setHead n v).scrub = s.scrub := rfl
@[simp] theorem State.setHead_hbm (s : State) (n : Nat) (v : Head) : (s.setHead n v).hbm = s.hbm := rfl
@[simp] theorem State.setHead_reply (s : State) (n : Nat) (v : Head) : (s.setHead n v).reply = s.reply := rfl
@[simp] theorem State.setHead_free (s : State) (n : Nat) (v : Head) : (s.setHead n v).free = s.free := rfl
@[simp] theorem State.head_setHead (s : State) (n : Nat) (v : Head) : (s.setHead n v).head n = v := Tab.get_set_self ..
theorem State.head_setHead_ne (s : State) {n m : Nat} (v : Head) (h : m ≠ n) : (s.setHead n v).head m = s.head m := Tab.get_set_ne _ _ _ h

/-! ### updHead -/

@[simp] theorem State.updHead_pending (s : State) (n : Nat) (f : Head → Head) : (s.updHead n f).pending = s.pending := rfl
@[simp] theorem State.updHead_regs (s : State) (n : Nat) (f : Head → Head) : (s.updHead n f).regs = s.regs := rfl
@[simp] theorem State.updHead_latches (s : State) (n : Nat) (f : Head → Head) : (s.updHead n f).latches = s.latches := rfl
@[simp] theorem State.updHead_ledger (s : State) (n : Nat) (f : Head → Head) : (s.updHead n f).ledger = s.ledger := rfl
@[simp] theorem State.updHead_hif (s : State) (n : Nat) (f : Head → Head) : (s.updHead n f).hif = s.hif := rfl
@[simp] theorem State.updHead_ing (s : State) (n : Nat) (f : Head → Head) : (s.updHead n f).ing = s.ing := rfl
@[simp] theorem State.updHead_srf (s : State) (n : Nat) (f : Head → Head) : (s.updHead n f).srf = s.srf := rfl
@[simp] theorem State.updHead_scc (s : State) (n : Nat) (f : Head → Head) : (s.updHead n f).scc = s.scc := rfl
@[simp] theorem State.updHead_out (s : State) (n : Nat) (f : Head → Head) : (s.updHead n f).out = s.out := rfl
@[simp] theorem State.updHead_lv (s : State) (n : Nat) (f : Head → Head) : (s.updHead n f).lv = s.lv := rfl
@[simp] theorem State.updHead_tim (s : State) (n : Nat) (f : Head → Head) : (s.updHead n f).tim = s.tim := rfl
@[simp] theorem State.updHead_net (s : State) (n : Nat) (f : Head → Head) : (s.updHead n f).net = s.net := rfl
@[simp] theorem State.updHead_psn (s : State) (n : Nat) (f : Head → Head) : (s.updHead n f).psn = s.psn := rfl
@[simp] theorem State.updHead_aud (s : State) (n : Nat) (f : Head → Head) : (s.updHead n f).aud = s.aud := rfl
@[simp] theorem State.updHead_mg (s : State) (n : Nat) (f : Head → Head) : (s.updHead n f).mg = s.mg := rfl
@[simp] theorem State.updHead_coc (s : State) (n : Nat) (f : Head → Head) : (s.updHead n f).coc = s.coc := rfl
@[simp] theorem State.updHead_nv (s : State) (n : Nat) (f : Head → Head) : (s.updHead n f).nv = s.nv := rfl
@[simp] theorem State.updHead_rest (s : State) (n : Nat) (f : Head → Head) : (s.updHead n f).rest = s.rest := rfl
@[simp] theorem State.updHead_pwr (s : State) (n : Nat) (f : Head → Head) : (s.updHead n f).pwr = s.pwr := rfl
@[simp] theorem State.updHead_scrub (s : State) (n : Nat) (f : Head → Head) : (s.updHead n f).scrub = s.scrub := rfl
@[simp] theorem State.updHead_hbm (s : State) (n : Nat) (f : Head → Head) : (s.updHead n f).hbm = s.hbm := rfl
@[simp] theorem State.updHead_reply (s : State) (n : Nat) (f : Head → Head) : (s.updHead n f).reply = s.reply := rfl
@[simp] theorem State.updHead_free (s : State) (n : Nat) (f : Head → Head) : (s.updHead n f).free = s.free := rfl
@[simp] theorem State.head_updHead (s : State) (n : Nat) (f : Head → Head) : (s.updHead n f).head n = f (s.head n) := Tab.get_set_self ..
theorem State.head_updHead_ne (s : State) {n m : Nat} (f : Head → Head) (h : m ≠ n) : (s.updHead n f).head m = s.head m := Tab.get_set_ne _ _ _ h

/-! ### setPsnDest -/

@[simp] theorem State.setPsnDest_pending (s : State) (n : Nat) (v : PsnDest) : (s.setPsnDest n v).pending = s.pending := rfl
@[simp] theorem State.setPsnDest_regs (s : State) (n : Nat) (v : PsnDest) : (s.setPsnDest n v).regs = s.regs := rfl
@[simp] theorem State.setPsnDest_latches (s : State) (n : Nat) (v : PsnDest) : (s.setPsnDest n v).latches = s.latches := rfl
@[simp] theorem State.setPsnDest_ledger (s : State) (n : Nat) (v : PsnDest) : (s.setPsnDest n v).ledger = s.ledger := rfl
@[simp] theorem State.setPsnDest_hif (s : State) (n : Nat) (v : PsnDest) : (s.setPsnDest n v).hif = s.hif := rfl
@[simp] theorem State.setPsnDest_ing (s : State) (n : Nat) (v : PsnDest) : (s.setPsnDest n v).ing = s.ing := rfl
@[simp] theorem State.setPsnDest_hds (s : State) (n : Nat) (v : PsnDest) : (s.setPsnDest n v).hds = s.hds := rfl
@[simp] theorem State.setPsnDest_srf (s : State) (n : Nat) (v : PsnDest) : (s.setPsnDest n v).srf = s.srf := rfl
@[simp] theorem State.setPsnDest_scc (s : State) (n : Nat) (v : PsnDest) : (s.setPsnDest n v).scc = s.scc := rfl
@[simp] theorem State.setPsnDest_out (s : State) (n : Nat) (v : PsnDest) : (s.setPsnDest n v).out = s.out := rfl
@[simp] theorem State.setPsnDest_lv (s : State) (n : Nat) (v : PsnDest) : (s.setPsnDest n v).lv = s.lv := rfl
@[simp] theorem State.setPsnDest_tim (s : State) (n : Nat) (v : PsnDest) : (s.setPsnDest n v).tim = s.tim := rfl
@[simp] theorem State.setPsnDest_net (s : State) (n : Nat) (v : PsnDest) : (s.setPsnDest n v).net = s.net := rfl
@[simp] theorem State.setPsnDest_aud (s : State) (n : Nat) (v : PsnDest) : (s.setPsnDest n v).aud = s.aud := rfl
@[simp] theorem State.setPsnDest_mg (s : State) (n : Nat) (v : PsnDest) : (s.setPsnDest n v).mg = s.mg := rfl
@[simp] theorem State.setPsnDest_coc (s : State) (n : Nat) (v : PsnDest) : (s.setPsnDest n v).coc = s.coc := rfl
@[simp] theorem State.setPsnDest_nv (s : State) (n : Nat) (v : PsnDest) : (s.setPsnDest n v).nv = s.nv := rfl
@[simp] theorem State.setPsnDest_rest (s : State) (n : Nat) (v : PsnDest) : (s.setPsnDest n v).rest = s.rest := rfl
@[simp] theorem State.setPsnDest_pwr (s : State) (n : Nat) (v : PsnDest) : (s.setPsnDest n v).pwr = s.pwr := rfl
@[simp] theorem State.setPsnDest_scrub (s : State) (n : Nat) (v : PsnDest) : (s.setPsnDest n v).scrub = s.scrub := rfl
@[simp] theorem State.setPsnDest_hbm (s : State) (n : Nat) (v : PsnDest) : (s.setPsnDest n v).hbm = s.hbm := rfl
@[simp] theorem State.setPsnDest_reply (s : State) (n : Nat) (v : PsnDest) : (s.setPsnDest n v).reply = s.reply := rfl
@[simp] theorem State.setPsnDest_free (s : State) (n : Nat) (v : PsnDest) : (s.setPsnDest n v).free = s.free := rfl
@[simp] theorem State.psnDest_setPsnDest (s : State) (n : Nat) (v : PsnDest) : (s.setPsnDest n v).psnDest n = v := Tab.get_set_self ..
theorem State.psnDest_setPsnDest_ne (s : State) {n m : Nat} (v : PsnDest) (h : m ≠ n) : (s.setPsnDest n v).psnDest m = s.psnDest m := Tab.get_set_ne _ _ _ h

/-! ### setChain -/

@[simp] theorem State.setChain_pending (s : State) (n : Nat) (v : Chain) : (s.setChain n v).pending = s.pending := rfl
@[simp] theorem State.setChain_regs (s : State) (n : Nat) (v : Chain) : (s.setChain n v).regs = s.regs := rfl
@[simp] theorem State.setChain_latches (s : State) (n : Nat) (v : Chain) : (s.setChain n v).latches = s.latches := rfl
@[simp] theorem State.setChain_ledger (s : State) (n : Nat) (v : Chain) : (s.setChain n v).ledger = s.ledger := rfl
@[simp] theorem State.setChain_hif (s : State) (n : Nat) (v : Chain) : (s.setChain n v).hif = s.hif := rfl
@[simp] theorem State.setChain_ing (s : State) (n : Nat) (v : Chain) : (s.setChain n v).ing = s.ing := rfl
@[simp] theorem State.setChain_hds (s : State) (n : Nat) (v : Chain) : (s.setChain n v).hds = s.hds := rfl
@[simp] theorem State.setChain_srf (s : State) (n : Nat) (v : Chain) : (s.setChain n v).srf = s.srf := rfl
@[simp] theorem State.setChain_scc (s : State) (n : Nat) (v : Chain) : (s.setChain n v).scc = s.scc := rfl
@[simp] theorem State.setChain_out (s : State) (n : Nat) (v : Chain) : (s.setChain n v).out = s.out := rfl
@[simp] theorem State.setChain_lv (s : State) (n : Nat) (v : Chain) : (s.setChain n v).lv = s.lv := rfl
@[simp] theorem State.setChain_tim (s : State) (n : Nat) (v : Chain) : (s.setChain n v).tim = s.tim := rfl
@[simp] theorem State.setChain_net (s : State) (n : Nat) (v : Chain) : (s.setChain n v).net = s.net := rfl
@[simp] theorem State.setChain_aud (s : State) (n : Nat) (v : Chain) : (s.setChain n v).aud = s.aud := rfl
@[simp] theorem State.setChain_mg (s : State) (n : Nat) (v : Chain) : (s.setChain n v).mg = s.mg := rfl
@[simp] theorem State.setChain_coc (s : State) (n : Nat) (v : Chain) : (s.setChain n v).coc = s.coc := rfl
@[simp] theorem State.setChain_nv (s : State) (n : Nat) (v : Chain) : (s.setChain n v).nv = s.nv := rfl
@[simp] theorem State.setChain_rest (s : State) (n : Nat) (v : Chain) : (s.setChain n v).rest = s.rest := rfl
@[simp] theorem State.setChain_pwr (s : State) (n : Nat) (v : Chain) : (s.setChain n v).pwr = s.pwr := rfl
@[simp] theorem State.setChain_scrub (s : State) (n : Nat) (v : Chain) : (s.setChain n v).scrub = s.scrub := rfl
@[simp] theorem State.setChain_hbm (s : State) (n : Nat) (v : Chain) : (s.setChain n v).hbm = s.hbm := rfl
@[simp] theorem State.setChain_reply (s : State) (n : Nat) (v : Chain) : (s.setChain n v).reply = s.reply := rfl
@[simp] theorem State.setChain_free (s : State) (n : Nat) (v : Chain) : (s.setChain n v).free = s.free := rfl
@[simp] theorem State.chain_setChain (s : State) (n : Nat) (v : Chain) : (s.setChain n v).chain n = v := Tab.get_set_self ..
theorem State.chain_setChain_ne (s : State) {n m : Nat} (v : Chain) (h : m ≠ n) : (s.setChain n v).chain m = s.chain m := Tab.get_set_ne _ _ _ h

/-! ### updChain -/

@[simp] theorem State.updChain_pending (s : State) (n : Nat) (f : Chain → Chain) : (s.updChain n f).pending = s.pending := rfl
@[simp] theorem State.updChain_regs (s : State) (n : Nat) (f : Chain → Chain) : (s.updChain n f).regs = s.regs := rfl
@[simp] theorem State.updChain_latches (s : State) (n : Nat) (f : Chain → Chain) : (s.updChain n f).latches = s.latches := rfl
@[simp] theorem State.updChain_ledger (s : State) (n : Nat) (f : Chain → Chain) : (s.updChain n f).ledger = s.ledger := rfl
@[simp] theorem State.updChain_hif (s : State) (n : Nat) (f : Chain → Chain) : (s.updChain n f).hif = s.hif := rfl
@[simp] theorem State.updChain_ing (s : State) (n : Nat) (f : Chain → Chain) : (s.updChain n f).ing = s.ing := rfl
@[simp] theorem State.updChain_hds (s : State) (n : Nat) (f : Chain → Chain) : (s.updChain n f).hds = s.hds := rfl
@[simp] theorem State.updChain_srf (s : State) (n : Nat) (f : Chain → Chain) : (s.updChain n f).srf = s.srf := rfl
@[simp] theorem State.updChain_scc (s : State) (n : Nat) (f : Chain → Chain) : (s.updChain n f).scc = s.scc := rfl
@[simp] theorem State.updChain_out (s : State) (n : Nat) (f : Chain → Chain) : (s.updChain n f).out = s.out := rfl
@[simp] theorem State.updChain_lv (s : State) (n : Nat) (f : Chain → Chain) : (s.updChain n f).lv = s.lv := rfl
@[simp] theorem State.updChain_tim (s : State) (n : Nat) (f : Chain → Chain) : (s.updChain n f).tim = s.tim := rfl
@[simp] theorem State.updChain_net (s : State) (n : Nat) (f : Chain → Chain) : (s.updChain n f).net = s.net := rfl
@[simp] theorem State.updChain_aud (s : State) (n : Nat) (f : Chain → Chain) : (s.updChain n f).aud = s.aud := rfl
@[simp] theorem State.updChain_mg (s : State) (n : Nat) (f : Chain → Chain) : (s.updChain n f).mg = s.mg := rfl
@[simp] theorem State.updChain_coc (s : State) (n : Nat) (f : Chain → Chain) : (s.updChain n f).coc = s.coc := rfl
@[simp] theorem State.updChain_nv (s : State) (n : Nat) (f : Chain → Chain) : (s.updChain n f).nv = s.nv := rfl
@[simp] theorem State.updChain_rest (s : State) (n : Nat) (f : Chain → Chain) : (s.updChain n f).rest = s.rest := rfl
@[simp] theorem State.updChain_pwr (s : State) (n : Nat) (f : Chain → Chain) : (s.updChain n f).pwr = s.pwr := rfl
@[simp] theorem State.updChain_scrub (s : State) (n : Nat) (f : Chain → Chain) : (s.updChain n f).scrub = s.scrub := rfl
@[simp] theorem State.updChain_hbm (s : State) (n : Nat) (f : Chain → Chain) : (s.updChain n f).hbm = s.hbm := rfl
@[simp] theorem State.updChain_reply (s : State) (n : Nat) (f : Chain → Chain) : (s.updChain n f).reply = s.reply := rfl
@[simp] theorem State.updChain_free (s : State) (n : Nat) (f : Chain → Chain) : (s.updChain n f).free = s.free := rfl
@[simp] theorem State.chain_updChain (s : State) (n : Nat) (f : Chain → Chain) : (s.updChain n f).chain n = f (s.chain n) := Tab.get_set_self ..
theorem State.chain_updChain_ne (s : State) {n m : Nat} (f : Chain → Chain) (h : m ≠ n) : (s.updChain n f).chain m = s.chain m := Tab.get_set_ne _ _ _ h

/-! ### setDike -/

@[simp] theorem State.setDike_pending (s : State) (n : Nat) (v : Dike) : (s.setDike n v).pending = s.pending := rfl
@[simp] theorem State.setDike_regs (s : State) (n : Nat) (v : Dike) : (s.setDike n v).regs = s.regs := rfl
@[simp] theorem State.setDike_latches (s : State) (n : Nat) (v : Dike) : (s.setDike n v).latches = s.latches := rfl
@[simp] theorem State.setDike_ledger (s : State) (n : Nat) (v : Dike) : (s.setDike n v).ledger = s.ledger := rfl
@[simp] theorem State.setDike_hif (s : State) (n : Nat) (v : Dike) : (s.setDike n v).hif = s.hif := rfl
@[simp] theorem State.setDike_ing (s : State) (n : Nat) (v : Dike) : (s.setDike n v).ing = s.ing := rfl
@[simp] theorem State.setDike_hds (s : State) (n : Nat) (v : Dike) : (s.setDike n v).hds = s.hds := rfl
@[simp] theorem State.setDike_srf (s : State) (n : Nat) (v : Dike) : (s.setDike n v).srf = s.srf := rfl
@[simp] theorem State.setDike_scc (s : State) (n : Nat) (v : Dike) : (s.setDike n v).scc = s.scc := rfl
@[simp] theorem State.setDike_out (s : State) (n : Nat) (v : Dike) : (s.setDike n v).out = s.out := rfl
@[simp] theorem State.setDike_lv (s : State) (n : Nat) (v : Dike) : (s.setDike n v).lv = s.lv := rfl
@[simp] theorem State.setDike_tim (s : State) (n : Nat) (v : Dike) : (s.setDike n v).tim = s.tim := rfl
@[simp] theorem State.setDike_net (s : State) (n : Nat) (v : Dike) : (s.setDike n v).net = s.net := rfl
@[simp] theorem State.setDike_aud (s : State) (n : Nat) (v : Dike) : (s.setDike n v).aud = s.aud := rfl
@[simp] theorem State.setDike_mg (s : State) (n : Nat) (v : Dike) : (s.setDike n v).mg = s.mg := rfl
@[simp] theorem State.setDike_coc (s : State) (n : Nat) (v : Dike) : (s.setDike n v).coc = s.coc := rfl
@[simp] theorem State.setDike_nv (s : State) (n : Nat) (v : Dike) : (s.setDike n v).nv = s.nv := rfl
@[simp] theorem State.setDike_rest (s : State) (n : Nat) (v : Dike) : (s.setDike n v).rest = s.rest := rfl
@[simp] theorem State.setDike_pwr (s : State) (n : Nat) (v : Dike) : (s.setDike n v).pwr = s.pwr := rfl
@[simp] theorem State.setDike_scrub (s : State) (n : Nat) (v : Dike) : (s.setDike n v).scrub = s.scrub := rfl
@[simp] theorem State.setDike_hbm (s : State) (n : Nat) (v : Dike) : (s.setDike n v).hbm = s.hbm := rfl
@[simp] theorem State.setDike_reply (s : State) (n : Nat) (v : Dike) : (s.setDike n v).reply = s.reply := rfl
@[simp] theorem State.setDike_free (s : State) (n : Nat) (v : Dike) : (s.setDike n v).free = s.free := rfl
@[simp] theorem State.dike_setDike (s : State) (n : Nat) (v : Dike) : (s.setDike n v).dike n = v := Tab.get_set_self ..
theorem State.dike_setDike_ne (s : State) {n m : Nat} (v : Dike) (h : m ≠ n) : (s.setDike n v).dike m = s.dike m := Tab.get_set_ne _ _ _ h

/-! ### setDest -/

@[simp] theorem State.setDest_pending (s : State) (n : Nat) (v : Dest) : (s.setDest n v).pending = s.pending := rfl
@[simp] theorem State.setDest_regs (s : State) (n : Nat) (v : Dest) : (s.setDest n v).regs = s.regs := rfl
@[simp] theorem State.setDest_latches (s : State) (n : Nat) (v : Dest) : (s.setDest n v).latches = s.latches := rfl
@[simp] theorem State.setDest_ledger (s : State) (n : Nat) (v : Dest) : (s.setDest n v).ledger = s.ledger := rfl
@[simp] theorem State.setDest_hif (s : State) (n : Nat) (v : Dest) : (s.setDest n v).hif = s.hif := rfl
@[simp] theorem State.setDest_ing (s : State) (n : Nat) (v : Dest) : (s.setDest n v).ing = s.ing := rfl
@[simp] theorem State.setDest_hds (s : State) (n : Nat) (v : Dest) : (s.setDest n v).hds = s.hds := rfl
@[simp] theorem State.setDest_srf (s : State) (n : Nat) (v : Dest) : (s.setDest n v).srf = s.srf := rfl
@[simp] theorem State.setDest_scc (s : State) (n : Nat) (v : Dest) : (s.setDest n v).scc = s.scc := rfl
@[simp] theorem State.setDest_lv (s : State) (n : Nat) (v : Dest) : (s.setDest n v).lv = s.lv := rfl
@[simp] theorem State.setDest_tim (s : State) (n : Nat) (v : Dest) : (s.setDest n v).tim = s.tim := rfl
@[simp] theorem State.setDest_net (s : State) (n : Nat) (v : Dest) : (s.setDest n v).net = s.net := rfl
@[simp] theorem State.setDest_psn (s : State) (n : Nat) (v : Dest) : (s.setDest n v).psn = s.psn := rfl
@[simp] theorem State.setDest_aud (s : State) (n : Nat) (v : Dest) : (s.setDest n v).aud = s.aud := rfl
@[simp] theorem State.setDest_mg (s : State) (n : Nat) (v : Dest) : (s.setDest n v).mg = s.mg := rfl
@[simp] theorem State.setDest_coc (s : State) (n : Nat) (v : Dest) : (s.setDest n v).coc = s.coc := rfl
@[simp] theorem State.setDest_nv (s : State) (n : Nat) (v : Dest) : (s.setDest n v).nv = s.nv := rfl
@[simp] theorem State.setDest_rest (s : State) (n : Nat) (v : Dest) : (s.setDest n v).rest = s.rest := rfl
@[simp] theorem State.setDest_pwr (s : State) (n : Nat) (v : Dest) : (s.setDest n v).pwr = s.pwr := rfl
@[simp] theorem State.setDest_scrub (s : State) (n : Nat) (v : Dest) : (s.setDest n v).scrub = s.scrub := rfl
@[simp] theorem State.setDest_hbm (s : State) (n : Nat) (v : Dest) : (s.setDest n v).hbm = s.hbm := rfl
@[simp] theorem State.setDest_reply (s : State) (n : Nat) (v : Dest) : (s.setDest n v).reply = s.reply := rfl
@[simp] theorem State.setDest_free (s : State) (n : Nat) (v : Dest) : (s.setDest n v).free = s.free := rfl
@[simp] theorem State.dest_setDest (s : State) (n : Nat) (v : Dest) : (s.setDest n v).dest n = v := Tab.get_set_self ..
theorem State.dest_setDest_ne (s : State) {n m : Nat} (v : Dest) (h : m ≠ n) : (s.setDest n v).dest m = s.dest m := Tab.get_set_ne _ _ _ h

/-! ### updDest -/

@[simp] theorem State.updDest_pending (s : State) (n : Nat) (f : Dest → Dest) : (s.updDest n f).pending = s.pending := rfl
@[simp] theorem State.updDest_regs (s : State) (n : Nat) (f : Dest → Dest) : (s.updDest n f).regs = s.regs := rfl
@[simp] theorem State.updDest_latches (s : State) (n : Nat) (f : Dest → Dest) : (s.updDest n f).latches = s.latches := rfl
@[simp] theorem State.updDest_ledger (s : State) (n : Nat) (f : Dest → Dest) : (s.updDest n f).ledger = s.ledger := rfl
@[simp] theorem State.updDest_hif (s : State) (n : Nat) (f : Dest → Dest) : (s.updDest n f).hif = s.hif := rfl
@[simp] theorem State.updDest_ing (s : State) (n : Nat) (f : Dest → Dest) : (s.updDest n f).ing = s.ing := rfl
@[simp] theorem State.updDest_hds (s : State) (n : Nat) (f : Dest → Dest) : (s.updDest n f).hds = s.hds := rfl
@[simp] theorem State.updDest_srf (s : State) (n : Nat) (f : Dest → Dest) : (s.updDest n f).srf = s.srf := rfl
@[simp] theorem State.updDest_scc (s : State) (n : Nat) (f : Dest → Dest) : (s.updDest n f).scc = s.scc := rfl
@[simp] theorem State.updDest_lv (s : State) (n : Nat) (f : Dest → Dest) : (s.updDest n f).lv = s.lv := rfl
@[simp] theorem State.updDest_tim (s : State) (n : Nat) (f : Dest → Dest) : (s.updDest n f).tim = s.tim := rfl
@[simp] theorem State.updDest_net (s : State) (n : Nat) (f : Dest → Dest) : (s.updDest n f).net = s.net := rfl
@[simp] theorem State.updDest_psn (s : State) (n : Nat) (f : Dest → Dest) : (s.updDest n f).psn = s.psn := rfl
@[simp] theorem State.updDest_aud (s : State) (n : Nat) (f : Dest → Dest) : (s.updDest n f).aud = s.aud := rfl
@[simp] theorem State.updDest_mg (s : State) (n : Nat) (f : Dest → Dest) : (s.updDest n f).mg = s.mg := rfl
@[simp] theorem State.updDest_coc (s : State) (n : Nat) (f : Dest → Dest) : (s.updDest n f).coc = s.coc := rfl
@[simp] theorem State.updDest_nv (s : State) (n : Nat) (f : Dest → Dest) : (s.updDest n f).nv = s.nv := rfl
@[simp] theorem State.updDest_rest (s : State) (n : Nat) (f : Dest → Dest) : (s.updDest n f).rest = s.rest := rfl
@[simp] theorem State.updDest_pwr (s : State) (n : Nat) (f : Dest → Dest) : (s.updDest n f).pwr = s.pwr := rfl
@[simp] theorem State.updDest_scrub (s : State) (n : Nat) (f : Dest → Dest) : (s.updDest n f).scrub = s.scrub := rfl
@[simp] theorem State.updDest_hbm (s : State) (n : Nat) (f : Dest → Dest) : (s.updDest n f).hbm = s.hbm := rfl
@[simp] theorem State.updDest_reply (s : State) (n : Nat) (f : Dest → Dest) : (s.updDest n f).reply = s.reply := rfl
@[simp] theorem State.updDest_free (s : State) (n : Nat) (f : Dest → Dest) : (s.updDest n f).free = s.free := rfl
@[simp] theorem State.dest_updDest (s : State) (n : Nat) (f : Dest → Dest) : (s.updDest n f).dest n = f (s.dest n) := Tab.get_set_self ..
theorem State.dest_updDest_ne (s : State) {n m : Nat} (f : Dest → Dest) (h : m ≠ n) : (s.updDest n f).dest m = s.dest m := Tab.get_set_ne _ _ _ h

/-! ### setNvPage -/

@[simp] theorem State.setNvPage_pending (s : State) (n : Nat) (v : NvPage) : (s.setNvPage n v).pending = s.pending := rfl
@[simp] theorem State.setNvPage_regs (s : State) (n : Nat) (v : NvPage) : (s.setNvPage n v).regs = s.regs := rfl
@[simp] theorem State.setNvPage_latches (s : State) (n : Nat) (v : NvPage) : (s.setNvPage n v).latches = s.latches := rfl
@[simp] theorem State.setNvPage_ledger (s : State) (n : Nat) (v : NvPage) : (s.setNvPage n v).ledger = s.ledger := rfl
@[simp] theorem State.setNvPage_hif (s : State) (n : Nat) (v : NvPage) : (s.setNvPage n v).hif = s.hif := rfl
@[simp] theorem State.setNvPage_ing (s : State) (n : Nat) (v : NvPage) : (s.setNvPage n v).ing = s.ing := rfl
@[simp] theorem State.setNvPage_hds (s : State) (n : Nat) (v : NvPage) : (s.setNvPage n v).hds = s.hds := rfl
@[simp] theorem State.setNvPage_srf (s : State) (n : Nat) (v : NvPage) : (s.setNvPage n v).srf = s.srf := rfl
@[simp] theorem State.setNvPage_scc (s : State) (n : Nat) (v : NvPage) : (s.setNvPage n v).scc = s.scc := rfl
@[simp] theorem State.setNvPage_out (s : State) (n : Nat) (v : NvPage) : (s.setNvPage n v).out = s.out := rfl
@[simp] theorem State.setNvPage_lv (s : State) (n : Nat) (v : NvPage) : (s.setNvPage n v).lv = s.lv := rfl
@[simp] theorem State.setNvPage_tim (s : State) (n : Nat) (v : NvPage) : (s.setNvPage n v).tim = s.tim := rfl
@[simp] theorem State.setNvPage_net (s : State) (n : Nat) (v : NvPage) : (s.setNvPage n v).net = s.net := rfl
@[simp] theorem State.setNvPage_psn (s : State) (n : Nat) (v : NvPage) : (s.setNvPage n v).psn = s.psn := rfl
@[simp] theorem State.setNvPage_aud (s : State) (n : Nat) (v : NvPage) : (s.setNvPage n v).aud = s.aud := rfl
@[simp] theorem State.setNvPage_mg (s : State) (n : Nat) (v : NvPage) : (s.setNvPage n v).mg = s.mg := rfl
@[simp] theorem State.setNvPage_coc (s : State) (n : Nat) (v : NvPage) : (s.setNvPage n v).coc = s.coc := rfl
@[simp] theorem State.setNvPage_rest (s : State) (n : Nat) (v : NvPage) : (s.setNvPage n v).rest = s.rest := rfl
@[simp] theorem State.setNvPage_pwr (s : State) (n : Nat) (v : NvPage) : (s.setNvPage n v).pwr = s.pwr := rfl
@[simp] theorem State.setNvPage_scrub (s : State) (n : Nat) (v : NvPage) : (s.setNvPage n v).scrub = s.scrub := rfl
@[simp] theorem State.setNvPage_hbm (s : State) (n : Nat) (v : NvPage) : (s.setNvPage n v).hbm = s.hbm := rfl
@[simp] theorem State.setNvPage_reply (s : State) (n : Nat) (v : NvPage) : (s.setNvPage n v).reply = s.reply := rfl
@[simp] theorem State.setNvPage_free (s : State) (n : Nat) (v : NvPage) : (s.setNvPage n v).free = s.free := rfl
@[simp] theorem State.nvPage_setNvPage (s : State) (n : Nat) (v : NvPage) : (s.setNvPage n v).nvPage n = v := Tab.get_set_self ..
theorem State.nvPage_setNvPage_ne (s : State) {n m : Nat} (v : NvPage) (h : m ≠ n) : (s.setNvPage n v).nvPage m = s.nvPage m := Tab.get_set_ne _ _ _ h

/-! ### setNvSector -/

@[simp] theorem State.setNvSector_pending (s : State) (n : Nat) (v : NvSector) : (s.setNvSector n v).pending = s.pending := rfl
@[simp] theorem State.setNvSector_regs (s : State) (n : Nat) (v : NvSector) : (s.setNvSector n v).regs = s.regs := rfl
@[simp] theorem State.setNvSector_latches (s : State) (n : Nat) (v : NvSector) : (s.setNvSector n v).latches = s.latches := rfl
@[simp] theorem State.setNvSector_ledger (s : State) (n : Nat) (v : NvSector) : (s.setNvSector n v).ledger = s.ledger := rfl
@[simp] theorem State.setNvSector_hif (s : State) (n : Nat) (v : NvSector) : (s.setNvSector n v).hif = s.hif := rfl
@[simp] theorem State.setNvSector_ing (s : State) (n : Nat) (v : NvSector) : (s.setNvSector n v).ing = s.ing := rfl
@[simp] theorem State.setNvSector_hds (s : State) (n : Nat) (v : NvSector) : (s.setNvSector n v).hds = s.hds := rfl
@[simp] theorem State.setNvSector_srf (s : State) (n : Nat) (v : NvSector) : (s.setNvSector n v).srf = s.srf := rfl
@[simp] theorem State.setNvSector_scc (s : State) (n : Nat) (v : NvSector) : (s.setNvSector n v).scc = s.scc := rfl
@[simp] theorem State.setNvSector_out (s : State) (n : Nat) (v : NvSector) : (s.setNvSector n v).out = s.out := rfl
@[simp] theorem State.setNvSector_lv (s : State) (n : Nat) (v : NvSector) : (s.setNvSector n v).lv = s.lv := rfl
@[simp] theorem State.setNvSector_tim (s : State) (n : Nat) (v : NvSector) : (s.setNvSector n v).tim = s.tim := rfl
@[simp] theorem State.setNvSector_net (s : State) (n : Nat) (v : NvSector) : (s.setNvSector n v).net = s.net := rfl
@[simp] theorem State.setNvSector_psn (s : State) (n : Nat) (v : NvSector) : (s.setNvSector n v).psn = s.psn := rfl
@[simp] theorem State.setNvSector_aud (s : State) (n : Nat) (v : NvSector) : (s.setNvSector n v).aud = s.aud := rfl
@[simp] theorem State.setNvSector_mg (s : State) (n : Nat) (v : NvSector) : (s.setNvSector n v).mg = s.mg := rfl
@[simp] theorem State.setNvSector_coc (s : State) (n : Nat) (v : NvSector) : (s.setNvSector n v).coc = s.coc := rfl
@[simp] theorem State.setNvSector_rest (s : State) (n : Nat) (v : NvSector) : (s.setNvSector n v).rest = s.rest := rfl
@[simp] theorem State.setNvSector_pwr (s : State) (n : Nat) (v : NvSector) : (s.setNvSector n v).pwr = s.pwr := rfl
@[simp] theorem State.setNvSector_scrub (s : State) (n : Nat) (v : NvSector) : (s.setNvSector n v).scrub = s.scrub := rfl
@[simp] theorem State.setNvSector_hbm (s : State) (n : Nat) (v : NvSector) : (s.setNvSector n v).hbm = s.hbm := rfl
@[simp] theorem State.setNvSector_reply (s : State) (n : Nat) (v : NvSector) : (s.setNvSector n v).reply = s.reply := rfl
@[simp] theorem State.setNvSector_free (s : State) (n : Nat) (v : NvSector) : (s.setNvSector n v).free = s.free := rfl
@[simp] theorem State.nvSector_setNvSector (s : State) (n : Nat) (v : NvSector) : (s.setNvSector n v).nvSector n = v := Tab.get_set_self ..
theorem State.nvSector_setNvSector_ne (s : State) {n m : Nat} (v : NvSector) (h : m ≠ n) : (s.setNvSector n v).nvSector m = s.nvSector m := Tab.get_set_ne _ _ _ h

/-! ### setCtr -/

@[simp] theorem State.setCtr_pending (s : State) (n : Nat) (v : NvCtr) : (s.setCtr n v).pending = s.pending := rfl
@[simp] theorem State.setCtr_regs (s : State) (n : Nat) (v : NvCtr) : (s.setCtr n v).regs = s.regs := rfl
@[simp] theorem State.setCtr_latches (s : State) (n : Nat) (v : NvCtr) : (s.setCtr n v).latches = s.latches := rfl
@[simp] theorem State.setCtr_ledger (s : State) (n : Nat) (v : NvCtr) : (s.setCtr n v).ledger = s.ledger := rfl
@[simp] theorem State.setCtr_hif (s : State) (n : Nat) (v : NvCtr) : (s.setCtr n v).hif = s.hif := rfl
@[simp] theorem State.setCtr_ing (s : State) (n : Nat) (v : NvCtr) : (s.setCtr n v).ing = s.ing := rfl
@[simp] theorem State.setCtr_hds (s : State) (n : Nat) (v : NvCtr) : (s.setCtr n v).hds = s.hds := rfl
@[simp] theorem State.setCtr_srf (s : State) (n : Nat) (v : NvCtr) : (s.setCtr n v).srf = s.srf := rfl
@[simp] theorem State.setCtr_scc (s : State) (n : Nat) (v : NvCtr) : (s.setCtr n v).scc = s.scc := rfl
@[simp] theorem State.setCtr_out (s : State) (n : Nat) (v : NvCtr) : (s.setCtr n v).out = s.out := rfl
@[simp] theorem State.setCtr_lv (s : State) (n : Nat) (v : NvCtr) : (s.setCtr n v).lv = s.lv := rfl
@[simp] theorem State.setCtr_tim (s : State) (n : Nat) (v : NvCtr) : (s.setCtr n v).tim = s.tim := rfl
@[simp] theorem State.setCtr_net (s : State) (n : Nat) (v : NvCtr) : (s.setCtr n v).net = s.net := rfl
@[simp] theorem State.setCtr_psn (s : State) (n : Nat) (v : NvCtr) : (s.setCtr n v).psn = s.psn := rfl
@[simp] theorem State.setCtr_aud (s : State) (n : Nat) (v : NvCtr) : (s.setCtr n v).aud = s.aud := rfl
@[simp] theorem State.setCtr_mg (s : State) (n : Nat) (v : NvCtr) : (s.setCtr n v).mg = s.mg := rfl
@[simp] theorem State.setCtr_coc (s : State) (n : Nat) (v : NvCtr) : (s.setCtr n v).coc = s.coc := rfl
@[simp] theorem State.setCtr_rest (s : State) (n : Nat) (v : NvCtr) : (s.setCtr n v).rest = s.rest := rfl
@[simp] theorem State.setCtr_pwr (s : State) (n : Nat) (v : NvCtr) : (s.setCtr n v).pwr = s.pwr := rfl
@[simp] theorem State.setCtr_scrub (s : State) (n : Nat) (v : NvCtr) : (s.setCtr n v).scrub = s.scrub := rfl
@[simp] theorem State.setCtr_hbm (s : State) (n : Nat) (v : NvCtr) : (s.setCtr n v).hbm = s.hbm := rfl
@[simp] theorem State.setCtr_reply (s : State) (n : Nat) (v : NvCtr) : (s.setCtr n v).reply = s.reply := rfl
@[simp] theorem State.setCtr_free (s : State) (n : Nat) (v : NvCtr) : (s.setCtr n v).free = s.free := rfl
@[simp] theorem State.ctr_setCtr (s : State) (n : Nat) (v : NvCtr) : (s.setCtr n v).ctr n = v := Tab.get_set_self ..
theorem State.ctr_setCtr_ne (s : State) {n m : Nat} (v : NvCtr) (h : m ≠ n) : (s.setCtr n v).ctr m = s.ctr m := Tab.get_set_ne _ _ _ h

/-! ### setPush -/

@[simp] theorem State.setPush_pending (s : State) (n : Nat) (v : Push) : (s.setPush n v).pending = s.pending := rfl
@[simp] theorem State.setPush_regs (s : State) (n : Nat) (v : Push) : (s.setPush n v).regs = s.regs := rfl
@[simp] theorem State.setPush_latches (s : State) (n : Nat) (v : Push) : (s.setPush n v).latches = s.latches := rfl
@[simp] theorem State.setPush_ledger (s : State) (n : Nat) (v : Push) : (s.setPush n v).ledger = s.ledger := rfl
@[simp] theorem State.setPush_hif (s : State) (n : Nat) (v : Push) : (s.setPush n v).hif = s.hif := rfl
@[simp] theorem State.setPush_ing (s : State) (n : Nat) (v : Push) : (s.setPush n v).ing = s.ing := rfl
@[simp] theorem State.setPush_hds (s : State) (n : Nat) (v : Push) : (s.setPush n v).hds = s.hds := rfl
@[simp] theorem State.setPush_srf (s : State) (n : Nat) (v : Push) : (s.setPush n v).srf = s.srf := rfl
@[simp] theorem State.setPush_scc (s : State) (n : Nat) (v : Push) : (s.setPush n v).scc = s.scc := rfl
@[simp] theorem State.setPush_lv (s : State) (n : Nat) (v : Push) : (s.setPush n v).lv = s.lv := rfl
@[simp] theorem State.setPush_tim (s : State) (n : Nat) (v : Push) : (s.setPush n v).tim = s.tim := rfl
@[simp] theorem State.setPush_net (s : State) (n : Nat) (v : Push) : (s.setPush n v).net = s.net := rfl
@[simp] theorem State.setPush_psn (s : State) (n : Nat) (v : Push) : (s.setPush n v).psn = s.psn := rfl
@[simp] theorem State.setPush_aud (s : State) (n : Nat) (v : Push) : (s.setPush n v).aud = s.aud := rfl
@[simp] theorem State.setPush_mg (s : State) (n : Nat) (v : Push) : (s.setPush n v).mg = s.mg := rfl
@[simp] theorem State.setPush_coc (s : State) (n : Nat) (v : Push) : (s.setPush n v).coc = s.coc := rfl
@[simp] theorem State.setPush_nv (s : State) (n : Nat) (v : Push) : (s.setPush n v).nv = s.nv := rfl
@[simp] theorem State.setPush_rest (s : State) (n : Nat) (v : Push) : (s.setPush n v).rest = s.rest := rfl
@[simp] theorem State.setPush_pwr (s : State) (n : Nat) (v : Push) : (s.setPush n v).pwr = s.pwr := rfl
@[simp] theorem State.setPush_scrub (s : State) (n : Nat) (v : Push) : (s.setPush n v).scrub = s.scrub := rfl
@[simp] theorem State.setPush_hbm (s : State) (n : Nat) (v : Push) : (s.setPush n v).hbm = s.hbm := rfl
@[simp] theorem State.setPush_reply (s : State) (n : Nat) (v : Push) : (s.setPush n v).reply = s.reply := rfl
@[simp] theorem State.setPush_free (s : State) (n : Nat) (v : Push) : (s.setPush n v).free = s.free := rfl
@[simp] theorem State.push_setPush (s : State) (n : Nat) (v : Push) : (s.setPush n v).push n = v := Tab.get_set_self ..
theorem State.push_setPush_ne (s : State) {n m : Nat} (v : Push) (h : m ≠ n) : (s.setPush n v).push m = s.push m := Tab.get_set_ne _ _ _ h

/-! ### updPush -/

@[simp] theorem State.updPush_pending (s : State) (n : Nat) (f : Push → Push) : (s.updPush n f).pending = s.pending := rfl
@[simp] theorem State.updPush_regs (s : State) (n : Nat) (f : Push → Push) : (s.updPush n f).regs = s.regs := rfl
@[simp] theorem State.updPush_latches (s : State) (n : Nat) (f : Push → Push) : (s.updPush n f).latches = s.latches := rfl
@[simp] theorem State.updPush_ledger (s : State) (n : Nat) (f : Push → Push) : (s.updPush n f).ledger = s.ledger := rfl
@[simp] theorem State.updPush_hif (s : State) (n : Nat) (f : Push → Push) : (s.updPush n f).hif = s.hif := rfl
@[simp] theorem State.updPush_ing (s : State) (n : Nat) (f : Push → Push) : (s.updPush n f).ing = s.ing := rfl
@[simp] theorem State.updPush_hds (s : State) (n : Nat) (f : Push → Push) : (s.updPush n f).hds = s.hds := rfl
@[simp] theorem State.updPush_srf (s : State) (n : Nat) (f : Push → Push) : (s.updPush n f).srf = s.srf := rfl
@[simp] theorem State.updPush_scc (s : State) (n : Nat) (f : Push → Push) : (s.updPush n f).scc = s.scc := rfl
@[simp] theorem State.updPush_lv (s : State) (n : Nat) (f : Push → Push) : (s.updPush n f).lv = s.lv := rfl
@[simp] theorem State.updPush_tim (s : State) (n : Nat) (f : Push → Push) : (s.updPush n f).tim = s.tim := rfl
@[simp] theorem State.updPush_net (s : State) (n : Nat) (f : Push → Push) : (s.updPush n f).net = s.net := rfl
@[simp] theorem State.updPush_psn (s : State) (n : Nat) (f : Push → Push) : (s.updPush n f).psn = s.psn := rfl
@[simp] theorem State.updPush_aud (s : State) (n : Nat) (f : Push → Push) : (s.updPush n f).aud = s.aud := rfl
@[simp] theorem State.updPush_mg (s : State) (n : Nat) (f : Push → Push) : (s.updPush n f).mg = s.mg := rfl
@[simp] theorem State.updPush_coc (s : State) (n : Nat) (f : Push → Push) : (s.updPush n f).coc = s.coc := rfl
@[simp] theorem State.updPush_nv (s : State) (n : Nat) (f : Push → Push) : (s.updPush n f).nv = s.nv := rfl
@[simp] theorem State.updPush_rest (s : State) (n : Nat) (f : Push → Push) : (s.updPush n f).rest = s.rest := rfl
@[simp] theorem State.updPush_pwr (s : State) (n : Nat) (f : Push → Push) : (s.updPush n f).pwr = s.pwr := rfl
@[simp] theorem State.updPush_scrub (s : State) (n : Nat) (f : Push → Push) : (s.updPush n f).scrub = s.scrub := rfl
@[simp] theorem State.updPush_hbm (s : State) (n : Nat) (f : Push → Push) : (s.updPush n f).hbm = s.hbm := rfl
@[simp] theorem State.updPush_reply (s : State) (n : Nat) (f : Push → Push) : (s.updPush n f).reply = s.reply := rfl
@[simp] theorem State.updPush_free (s : State) (n : Nat) (f : Push → Push) : (s.updPush n f).free = s.free := rfl
@[simp] theorem State.push_updPush (s : State) (n : Nat) (f : Push → Push) : (s.updPush n f).push n = f (s.push n) := Tab.get_set_self ..
theorem State.push_updPush_ne (s : State) {n m : Nat} (f : Push → Push) (h : m ≠ n) : (s.updPush n f).push m = s.push m := Tab.get_set_ne _ _ _ h

/-! ### setSyn -/

@[simp] theorem State.setSyn_pending (s : State) (n : Nat) (v : Syn) : (s.setSyn n v).pending = s.pending := rfl
@[simp] theorem State.setSyn_regs (s : State) (n : Nat) (v : Syn) : (s.setSyn n v).regs = s.regs := rfl
@[simp] theorem State.setSyn_latches (s : State) (n : Nat) (v : Syn) : (s.setSyn n v).latches = s.latches := rfl
@[simp] theorem State.setSyn_ledger (s : State) (n : Nat) (v : Syn) : (s.setSyn n v).ledger = s.ledger := rfl
@[simp] theorem State.setSyn_hif (s : State) (n : Nat) (v : Syn) : (s.setSyn n v).hif = s.hif := rfl
@[simp] theorem State.setSyn_ing (s : State) (n : Nat) (v : Syn) : (s.setSyn n v).ing = s.ing := rfl
@[simp] theorem State.setSyn_hds (s : State) (n : Nat) (v : Syn) : (s.setSyn n v).hds = s.hds := rfl
@[simp] theorem State.setSyn_srf (s : State) (n : Nat) (v : Syn) : (s.setSyn n v).srf = s.srf := rfl
@[simp] theorem State.setSyn_scc (s : State) (n : Nat) (v : Syn) : (s.setSyn n v).scc = s.scc := rfl
@[simp] theorem State.setSyn_out (s : State) (n : Nat) (v : Syn) : (s.setSyn n v).out = s.out := rfl
@[simp] theorem State.setSyn_lv (s : State) (n : Nat) (v : Syn) : (s.setSyn n v).lv = s.lv := rfl
@[simp] theorem State.setSyn_net (s : State) (n : Nat) (v : Syn) : (s.setSyn n v).net = s.net := rfl
@[simp] theorem State.setSyn_psn (s : State) (n : Nat) (v : Syn) : (s.setSyn n v).psn = s.psn := rfl
@[simp] theorem State.setSyn_aud (s : State) (n : Nat) (v : Syn) : (s.setSyn n v).aud = s.aud := rfl
@[simp] theorem State.setSyn_mg (s : State) (n : Nat) (v : Syn) : (s.setSyn n v).mg = s.mg := rfl
@[simp] theorem State.setSyn_coc (s : State) (n : Nat) (v : Syn) : (s.setSyn n v).coc = s.coc := rfl
@[simp] theorem State.setSyn_nv (s : State) (n : Nat) (v : Syn) : (s.setSyn n v).nv = s.nv := rfl
@[simp] theorem State.setSyn_rest (s : State) (n : Nat) (v : Syn) : (s.setSyn n v).rest = s.rest := rfl
@[simp] theorem State.setSyn_pwr (s : State) (n : Nat) (v : Syn) : (s.setSyn n v).pwr = s.pwr := rfl
@[simp] theorem State.setSyn_scrub (s : State) (n : Nat) (v : Syn) : (s.setSyn n v).scrub = s.scrub := rfl
@[simp] theorem State.setSyn_hbm (s : State) (n : Nat) (v : Syn) : (s.setSyn n v).hbm = s.hbm := rfl
@[simp] theorem State.setSyn_reply (s : State) (n : Nat) (v : Syn) : (s.setSyn n v).reply = s.reply := rfl
@[simp] theorem State.setSyn_free (s : State) (n : Nat) (v : Syn) : (s.setSyn n v).free = s.free := rfl
@[simp] theorem State.syn_setSyn (s : State) (n : Nat) (v : Syn) : (s.setSyn n v).syn n = v := Tab.get_set_self ..
theorem State.syn_setSyn_ne (s : State) {n m : Nat} (v : Syn) (h : m ≠ n) : (s.setSyn n v).syn m = s.syn m := Tab.get_set_ne _ _ _ h

/-! ### updSyn -/

@[simp] theorem State.updSyn_pending (s : State) (n : Nat) (f : Syn → Syn) : (s.updSyn n f).pending = s.pending := rfl
@[simp] theorem State.updSyn_regs (s : State) (n : Nat) (f : Syn → Syn) : (s.updSyn n f).regs = s.regs := rfl
@[simp] theorem State.updSyn_latches (s : State) (n : Nat) (f : Syn → Syn) : (s.updSyn n f).latches = s.latches := rfl
@[simp] theorem State.updSyn_ledger (s : State) (n : Nat) (f : Syn → Syn) : (s.updSyn n f).ledger = s.ledger := rfl
@[simp] theorem State.updSyn_hif (s : State) (n : Nat) (f : Syn → Syn) : (s.updSyn n f).hif = s.hif := rfl
@[simp] theorem State.updSyn_ing (s : State) (n : Nat) (f : Syn → Syn) : (s.updSyn n f).ing = s.ing := rfl
@[simp] theorem State.updSyn_hds (s : State) (n : Nat) (f : Syn → Syn) : (s.updSyn n f).hds = s.hds := rfl
@[simp] theorem State.updSyn_srf (s : State) (n : Nat) (f : Syn → Syn) : (s.updSyn n f).srf = s.srf := rfl
@[simp] theorem State.updSyn_scc (s : State) (n : Nat) (f : Syn → Syn) : (s.updSyn n f).scc = s.scc := rfl
@[simp] theorem State.updSyn_out (s : State) (n : Nat) (f : Syn → Syn) : (s.updSyn n f).out = s.out := rfl
@[simp] theorem State.updSyn_lv (s : State) (n : Nat) (f : Syn → Syn) : (s.updSyn n f).lv = s.lv := rfl
@[simp] theorem State.updSyn_net (s : State) (n : Nat) (f : Syn → Syn) : (s.updSyn n f).net = s.net := rfl
@[simp] theorem State.updSyn_psn (s : State) (n : Nat) (f : Syn → Syn) : (s.updSyn n f).psn = s.psn := rfl
@[simp] theorem State.updSyn_aud (s : State) (n : Nat) (f : Syn → Syn) : (s.updSyn n f).aud = s.aud := rfl
@[simp] theorem State.updSyn_mg (s : State) (n : Nat) (f : Syn → Syn) : (s.updSyn n f).mg = s.mg := rfl
@[simp] theorem State.updSyn_coc (s : State) (n : Nat) (f : Syn → Syn) : (s.updSyn n f).coc = s.coc := rfl
@[simp] theorem State.updSyn_nv (s : State) (n : Nat) (f : Syn → Syn) : (s.updSyn n f).nv = s.nv := rfl
@[simp] theorem State.updSyn_rest (s : State) (n : Nat) (f : Syn → Syn) : (s.updSyn n f).rest = s.rest := rfl
@[simp] theorem State.updSyn_pwr (s : State) (n : Nat) (f : Syn → Syn) : (s.updSyn n f).pwr = s.pwr := rfl
@[simp] theorem State.updSyn_scrub (s : State) (n : Nat) (f : Syn → Syn) : (s.updSyn n f).scrub = s.scrub := rfl
@[simp] theorem State.updSyn_hbm (s : State) (n : Nat) (f : Syn → Syn) : (s.updSyn n f).hbm = s.hbm := rfl
@[simp] theorem State.updSyn_reply (s : State) (n : Nat) (f : Syn → Syn) : (s.updSyn n f).reply = s.reply := rfl
@[simp] theorem State.updSyn_free (s : State) (n : Nat) (f : Syn → Syn) : (s.updSyn n f).free = s.free := rfl
@[simp] theorem State.syn_updSyn (s : State) (n : Nat) (f : Syn → Syn) : (s.updSyn n f).syn n = f (s.syn n) := Tab.get_set_self ..
theorem State.syn_updSyn_ne (s : State) {n m : Nat} (f : Syn → Syn) (h : m ≠ n) : (s.updSyn n f).syn m = s.syn m := Tab.get_set_ne _ _ _ h

/-! ### setRefIn -/

@[simp] theorem State.setRefIn_pending (s : State) (n : Nat) (v : RefIn) : (s.setRefIn n v).pending = s.pending := rfl
@[simp] theorem State.setRefIn_regs (s : State) (n : Nat) (v : RefIn) : (s.setRefIn n v).regs = s.regs := rfl
@[simp] theorem State.setRefIn_latches (s : State) (n : Nat) (v : RefIn) : (s.setRefIn n v).latches = s.latches := rfl
@[simp] theorem State.setRefIn_ledger (s : State) (n : Nat) (v : RefIn) : (s.setRefIn n v).ledger = s.ledger := rfl
@[simp] theorem State.setRefIn_hif (s : State) (n : Nat) (v : RefIn) : (s.setRefIn n v).hif = s.hif := rfl
@[simp] theorem State.setRefIn_ing (s : State) (n : Nat) (v : RefIn) : (s.setRefIn n v).ing = s.ing := rfl
@[simp] theorem State.setRefIn_hds (s : State) (n : Nat) (v : RefIn) : (s.setRefIn n v).hds = s.hds := rfl
@[simp] theorem State.setRefIn_srf (s : State) (n : Nat) (v : RefIn) : (s.setRefIn n v).srf = s.srf := rfl
@[simp] theorem State.setRefIn_scc (s : State) (n : Nat) (v : RefIn) : (s.setRefIn n v).scc = s.scc := rfl
@[simp] theorem State.setRefIn_out (s : State) (n : Nat) (v : RefIn) : (s.setRefIn n v).out = s.out := rfl
@[simp] theorem State.setRefIn_lv (s : State) (n : Nat) (v : RefIn) : (s.setRefIn n v).lv = s.lv := rfl
@[simp] theorem State.setRefIn_net (s : State) (n : Nat) (v : RefIn) : (s.setRefIn n v).net = s.net := rfl
@[simp] theorem State.setRefIn_psn (s : State) (n : Nat) (v : RefIn) : (s.setRefIn n v).psn = s.psn := rfl
@[simp] theorem State.setRefIn_aud (s : State) (n : Nat) (v : RefIn) : (s.setRefIn n v).aud = s.aud := rfl
@[simp] theorem State.setRefIn_mg (s : State) (n : Nat) (v : RefIn) : (s.setRefIn n v).mg = s.mg := rfl
@[simp] theorem State.setRefIn_coc (s : State) (n : Nat) (v : RefIn) : (s.setRefIn n v).coc = s.coc := rfl
@[simp] theorem State.setRefIn_nv (s : State) (n : Nat) (v : RefIn) : (s.setRefIn n v).nv = s.nv := rfl
@[simp] theorem State.setRefIn_rest (s : State) (n : Nat) (v : RefIn) : (s.setRefIn n v).rest = s.rest := rfl
@[simp] theorem State.setRefIn_pwr (s : State) (n : Nat) (v : RefIn) : (s.setRefIn n v).pwr = s.pwr := rfl
@[simp] theorem State.setRefIn_scrub (s : State) (n : Nat) (v : RefIn) : (s.setRefIn n v).scrub = s.scrub := rfl
@[simp] theorem State.setRefIn_hbm (s : State) (n : Nat) (v : RefIn) : (s.setRefIn n v).hbm = s.hbm := rfl
@[simp] theorem State.setRefIn_reply (s : State) (n : Nat) (v : RefIn) : (s.setRefIn n v).reply = s.reply := rfl
@[simp] theorem State.setRefIn_free (s : State) (n : Nat) (v : RefIn) : (s.setRefIn n v).free = s.free := rfl
@[simp] theorem State.refIn_setRefIn (s : State) (n : Nat) (v : RefIn) : (s.setRefIn n v).refIn n = v := Tab.get_set_self ..
theorem State.refIn_setRefIn_ne (s : State) {n m : Nat} (v : RefIn) (h : m ≠ n) : (s.setRefIn n v).refIn m = s.refIn m := Tab.get_set_ne _ _ _ h

end Sys2Proof.Machine
end

