-- ==== Sys2Proof/Laws/Desc.lean ====
section
/-!
SUPPORT. Laws/Desc.lean: the start of a descriptor, and what completing it leaves.
-/
namespace Sys2Proof.Machine

/-- No fence carries the stamp of a descriptor, which waits. -/
def State.Open (t : State) (j : Job) : Prop := t.Waits j ∧ ∀ f ∈ t.hif.fences, f.stamp ≠ j.stamp

theorem State.sq_congr {s t : State} (h : t.hif.sqs = s.hif.sqs) (n : Nat) : t.sq n = s.sq n := by
  unfold State.sq; rw [h]

theorem State.occurBytes_sqs (s : State) (a b : Nat) (d : List Byte) : (s.occurBytes a b d).hif.sqs = s.hif.sqs := by
  have h := (State.occurBytes_within s a b d).same .subRings (by decide)
  exact h

/-- A start parks nothing. -/
theorem State.Starts.parked {s u : State} {n opc : Nat} {j : Job} (h : s.Starts n opc j u) : (u.sq n).parked = [] := by
  obtain ⟨-, ⟨d, rest, hp, -, -⟩, h3, -, -, h6, -⟩ := h
  rw [State.start_eq hp] at h3
  injection h3 with h3
  injection h3 with _ h4
  have hw : ((s.started n d rest false).sq n).parked = (s.sq n).parked := by
    unfold State.started
    rw [State.sq_setSq]
  rw [← h4]
  split
  · unfold State.halt State.ringHaltEvent State.occur
    rw [State.sq_congr (State.occurBytes_sqs _ _ _ _), State.sq_setSq]
    exact hw.trans h6
  · exact hw.trans h6

/-- A command on a descriptor that starts runs its body. -/
theorem State.Starts.runOp {s u : State} {n opc : Nat} {j : Job} (h : s.Starts n opc j u) {sel : List Byte → Bool} (hs : sel j.d = true)
    (body : Job → State → State) : s.runOp n opc sel body = body j u := by
  have hk := h.parked
  obtain ⟨h1, ⟨d, rest, hp, hw, ho⟩, h3, h4, h5, h6, h7⟩ := h
  have hd : j.d = d := by
    rw [State.start_eq hp] at h3
    injection h3 with h3
    injection h3 with h3 _
    rw [← h3]
  rw [hd] at hs
  have hn : s.parkedNext n opc sel = none := by
    unfold State.parkedNext
    simp only [h6]
  have hf : (needsFw opc && (!u.fwUp || !(u.sq n).parked.isEmpty)) = false := by
    rw [hk]
    cases hq : needsFw opc
    · rfl
    · rw [h7 hq]; rfl
  unfold State.runOp
  simp only [hn, h1, if_true, hp, hw, ho, hs, beq_self_eq_true, Bool.and_self, h3]
  have hc : (j.take && !takeAccepts opc) = false := by
    cases ht : j.take
    · rfl
    · rw [h4 ht]; rfl
  rw [hc, h5, hf]
  rfl

/-- A descriptor that starts belongs to the ring that it was fetched from. -/
theorem State.Starts.ring {s u : State} {n opc : Nat} {j : Job} (h : s.Starts n opc j u) : j.ring = n := by
  obtain ⟨-, ⟨d, rest, hp, -, -⟩, h3, -, -, -⟩ := h
  rw [State.start_eq hp] at h3
  injection h3 with h3
  injection h3 with h3 _
  rw [← h3]

/-- A start changes the rings, the engine, and the events of a halt. -/
theorem State.Starts.within {s u : State} {n opc : Nat} {j : Job} (h : s.Starts n opc j u) : Within 1104 s u :=
  State.start_within _ _ _ _ _ h.started

/-- A descriptor that starts waits, and no fence has its stamp. -/
theorem State.Starts.opens {s u : State} {n opc : Nat} {j : Job} (h : s.Starts n opc j u) (g : s.Good) : u.Open j := by
  obtain ⟨-, ⟨d, rest, hp, -, -⟩, h3, -, -, -⟩ := h
  rw [State.start_eq hp] at h3
  injection h3 with h3
  injection h3 with h3 h4
  have hf : ∀ f ∈ (s.started n d rest false).hif.fences, f.stamp ≠ s.hif.stamp := fun f hf => Nat.ne_of_lt (g.canonical.2.2.2.2 f hf)
  have hw : (s.started n d rest false).Waits j := by
    subst h3
    refine ⟨{ stamp := s.hif.stamp, seq := (s.sq n).seqNext, opcode := u8 d 0, irq := ubit d 1 0, halted := false, flushed := false,
              ended := false, ready := none }, ?_, rfl, rfl, rfl, rfl, rfl, rfl⟩
    show _ ∈ ((s.started n d rest false).sq n).started
    unfold State.started
    rw [State.sq_setSq]
    exact List.mem_append_right _ (List.mem_singleton_self _)
  have hj : j.stamp = s.hif.stamp := by rw [← h3]
  subst h4
  split
  · constructor
    · obtain ⟨e, he, hr⟩ := hw
      refine ⟨e, ?_, hr⟩
      have hr' : j.ring = n := by rw [← h3]
      rw [hr'] at he ⊢
      unfold State.halt State.ringHaltEvent State.occur
      rw [State.sq_congr (State.occurBytes_sqs _ _ _ _), State.sq_setSq]
      exact he
    · have e := (State.halt_within (s.started n d rest false) n SqReason.fetchErr ((s.sq n).seqNext + 1)).same .engine (by decide)
      simp only [Part.same, Prod.mk.injEq] at e
      rw [e.2.2.2, hj]; exact hf
  · exact ⟨hw, hj ▸ hf⟩

/-- A change of other parts than the rings and the engine leaves a descriptor open. -/
theorem State.Open.congr {s t : State} {j : Job} (o : s.Open j) (h : t.hif.sqs = s.hif.sqs) (k : t.hif.fences = s.hif.fences) : t.Open j := by
  obtain ⟨⟨e, he, hr⟩, f⟩ := o
  exact ⟨⟨e, by rw [State.sq_congr h]; exact he, hr⟩, by rw [k]; exact f⟩

theorem State.Open.within {s t : State} {j : Job} {m : Nat} (o : s.Open j) (h : Within m s t) (h1 : m.testBit 4 = false) (h2 : m.testBit 10 = false) :
    t.Open j := by
  have e := h.same .engine h2
  simp only [Part.same, Prod.mk.injEq] at e
  exact o.congr (h.same .subRings h1) e.2.2.2

theorem State.mapStarted_mem {s : State} {ring stamp r : Nat} {f : Started → Started} {e : Started} (h : e ∈ (s.sq r).started)
    (hs : e.stamp ≠ stamp) : e ∈ ((s.mapStarted ring stamp f).sq r).started := by
  unfold State.mapStarted
  by_cases hr : r = ring
  · subst hr
    rw [State.sq_setSq]
    refine List.mem_map.2 ⟨e, h, if_neg fun c => hs c.1⟩
  · rw [State.sq_setSq_ne _ _ hr]
    exact h

/-- Settling the fences leaves the entry of a descriptor that is no fence. -/
theorem State.settle_mem {s : State} {r : Nat} {e : Started} (h : e ∈ (s.sq r).started) (hf : ∀ f ∈ s.hif.fences, f.stamp ≠ e.stamp) :
    e ∈ (s.settle.sq r).started := by
  unfold State.settle
  generalize s.hif.fences = l at hf ⊢
  induction l generalizing s with
  | nil => exact h
  | cons f l ih =>
    rw [List.foldl_cons]
    refine ih ?_ fun g hg => hf g (List.mem_cons_of_mem _ hg)
    split
    · exact State.mapStarted_mem h (Ne.symm (hf f (List.mem_cons_self ..)))
    · exact h

/-- A descriptor that waits is answered once it completes. -/
theorem State.Open.answered {s : State} {j : Job} (o : s.Open j) (status : Nat) (result : BitVec 64) :
    (s.complete j status result).Answered j status (if status < 0x100 then result else 0) := by
  obtain ⟨⟨e, he, h1, h2, h3, -, -, h6⟩, f⟩ := o
  refine ⟨{ e with ended := true, ready := some (status, if status < 0x100 then result else 0) }, ?_, h1, h2, h3, rfl, rfl⟩
  unfold State.complete State.completeAt
  refine State.settle_mem ?_ (by rw [show ({ e with ended := true, ready := some (status, if status < 0x100 then result else 0) } : Started).stamp = j.stamp from h1]; exact f)
  unfold State.mapStarted
  rw [State.sq_setSq]
  exact List.mem_map.2 ⟨e, he, if_pos ⟨h1, h6⟩⟩

/-- A descriptor that waits has ended once its work but the delayed part is done. -/
theorem State.Open.ended {s : State} {j : Job} (o : s.Open j) : (s.endOp j).Ended j := by
  obtain ⟨⟨e, he, h1, h2, h3, -, h5, h6⟩, f⟩ := o
  refine ⟨{ e with ended := true }, ?_, h1, h2, h3, rfl, h5⟩
  unfold State.endOp
  refine State.settle_mem ?_ (by rw [show ({ e with ended := true } : Started).stamp = j.stamp from h1]; exact f)
  unfold State.mapStarted
  rw [State.sq_setSq]
  exact List.mem_map.2 ⟨e, he, if_pos ⟨h1, h6⟩⟩

end Sys2Proof.Machine
end

