-- ==== Sys2Proof/Laws/FrameRings.lean ====
section
/-!
SUPPORT. Laws/FrameRings.lean: what each function of Machine/Rings.lean can touch.
-/
set_option linter.unusedTactic false
set_option linter.unreachableTactic false
set_option linter.tactic.unusedName false

namespace Sys2Proof.Machine

theorem State.writeDoorbell_within (s : State) (n v : Nat) :
    Within 80 s (State.writeDoorbell s n v) := by
  unfold State.writeDoorbell
  repeat'
    first
    | with_reducible apply Within.refl
    | with_reducible assumption
    | (extract_lets +onlyGivenNames x; refine Within.cut (l := 80) (r := s) (x := x) ?_ ?_; rotate_left; (try clear_value x); intro _; rotate_right; subst x)
    | (extract_lets +onlyGivenNames x; try clear_value x)
    | (with_reducible apply Within.via (l := 80) (m := 80) (hm := by decide)); (case h => with_reducible apply State.halt_within)
    | (with_reducible apply Within.via (l := 80) (m := 64) (hm := by decide)); (case h => with_reducible apply State.ringHaltEvent_within)
    | (with_reducible apply Within.via (l := 80) (m := 16) (hm := by decide)); (case h => with_reducible apply State.setSq_within)
    | split

theorem execDoorbell_within (n : Fin 64) (v : BitVec 32) (s : State) :
    WithinO 80 s (execDoorbell n v s) := by
  unfold execDoorbell
  repeat'
    first
    | with_reducible apply Within.refl
    | with_reducible assumption
    | with_reducible apply WithinO.next
    | with_reducible apply WithinO.fault
    | (with_reducible apply Within.via (l := 80) (m := 80) (hm := by decide)); (case h => with_reducible apply State.writeDoorbell_within)
    | split

theorem State.resumeSq_within (s : State) (n : Nat) :
    Within 16 s (State.resumeSq s n) := by
  unfold State.resumeSq
  repeat'
    first
    | with_reducible apply Within.refl
    | with_reducible assumption
    | (extract_lets +onlyGivenNames x; refine Within.cut (l := 16) (r := s) (x := x) ?_ ?_; rotate_left; (try clear_value x); intro _; rotate_right; subst x)
    | (extract_lets +onlyGivenNames x; try clear_value x)
    | (with_reducible apply Within.via (l := 16) (m := 16) (hm := by decide)); (case h => with_reducible apply State.setSq_within)
    | split

theorem State.writeSqCtl_within (s : State) (n v : Nat) :
    Within 16 s (State.writeSqCtl s n v) := by
  unfold State.writeSqCtl
  repeat'
    first
    | with_reducible apply Within.refl
    | with_reducible assumption
    | (extract_lets +onlyGivenNames x; refine Within.cut (l := 16) (r := s) (x := x) ?_ ?_; rotate_left; (try clear_value x); intro _; rotate_right; subst x)
    | (extract_lets +onlyGivenNames x; try clear_value x)
    | (with_reducible apply Within.via (l := 16) (m := 16) (hm := by decide)); (case h => with_reducible apply State.resumeSq_within)
    | (with_reducible apply Within.via (l := 16) (m := 16) (hm := by decide)); (case h => with_reducible apply State.setSq_within)
    | split

theorem execSqEnable_within (n : Fin 64) (v : BitVec 32) (s : State) :
    WithinO 16 s (execSqEnable n v s) := by
  unfold execSqEnable
  repeat'
    first
    | with_reducible apply Within.refl
    | with_reducible assumption
    | with_reducible apply WithinO.next
    | with_reducible apply WithinO.fault
    | (with_reducible apply Within.via (l := 16) (m := 16) (hm := by decide)); (case h => with_reducible apply State.writeSqCtl_within)
    | split

theorem execSqDisable_within (n : Fin 64) (s : State) :
    WithinO 16 s (execSqDisable n s) := by
  unfold execSqDisable
  repeat'
    first
    | with_reducible apply Within.refl
    | with_reducible assumption
    | with_reducible apply WithinO.next
    | with_reducible apply WithinO.fault
    | (with_reducible apply Within.via (l := 16) (m := 16) (hm := by decide)); (case h => with_reducible apply State.writeSqCtl_within)
    | split

theorem execSqReset_within (n : Fin 64) (s : State) :
    WithinO 16 s (execSqReset n s) := by
  unfold execSqReset
  repeat'
    first
    | with_reducible apply Within.refl
    | with_reducible assumption
    | with_reducible apply WithinO.next
    | with_reducible apply WithinO.fault
    | (with_reducible apply Within.via (l := 16) (m := 16) (hm := by decide)); (case h => with_reducible apply State.writeSqCtl_within)
    | split

theorem execSqResume_within (n : Fin 64) (s : State) :
    WithinO 16 s (execSqResume n s) := by
  unfold execSqResume
  repeat'
    first
    | with_reducible apply Within.refl
    | with_reducible assumption
    | with_reducible apply WithinO.next
    | with_reducible apply WithinO.fault
    | (with_reducible apply Within.via (l := 16) (m := 16) (hm := by decide)); (case h => with_reducible apply State.writeSqCtl_within)
    | split

theorem execRingResetEnd_within (n : Fin 64) (s : State) :
    WithinO 16 s (execRingResetEnd n s) := by
  unfold execRingResetEnd
  repeat'
    first
    | with_reducible apply Within.refl
    | with_reducible assumption
    | (extract_lets +onlyGivenNames x; refine Within.cut (l := 16) (r := s) (x := x) ?_ ?_; rotate_left; (try clear_value x); intro _; rotate_right; subst x)
    | (extract_lets +onlyGivenNames x; try clear_value x)
    | with_reducible apply WithinO.next
    | with_reducible apply WithinO.fault
    | (with_reducible apply Within.via (l := 16) (m := 16) (hm := by decide)); (case h => with_reducible apply State.setSq_within)
    | split

theorem State.releaseResumes_within (s : State) (c : Nat) :
    Within 16 s (State.releaseResumes s c) := by
  unfold State.releaseResumes
  repeat'
    first
    | with_reducible apply Within.refl
    | with_reducible assumption
    | (extract_lets +onlyGivenNames x; refine Within.cut (l := 16) (r := s) (x := x) ?_ ?_; rotate_left; (try clear_value x); intro _; rotate_right; subst x)
    | (extract_lets +onlyGivenNames x; try clear_value x)
    | ((with_reducible apply Within.fold); (rotate_left; intro _ _ _; rotate_right))
    | (with_reducible apply Within.via (l := 16) (m := 16) (hm := by decide)); (case h => with_reducible apply State.setSq_within)
    | split

theorem State.writeCqCtl_within (s : State) (c v : Nat) :
    Within 48 s (State.writeCqCtl s c v) := by
  unfold State.writeCqCtl
  repeat'
    first
    | with_reducible apply Within.refl
    | with_reducible assumption
    | (extract_lets +onlyGivenNames x; refine Within.cut (l := 48) (r := s) (x := x) ?_ ?_; rotate_left; (try clear_value x); intro _; rotate_right; subst x)
    | (extract_lets +onlyGivenNames x; try clear_value x)
    | (with_reducible apply Within.via (l := 48) (m := 16) (hm := by decide)); (case h => with_reducible apply State.releaseResumes_within)
    | (with_reducible apply Within.via (l := 48) (m := 32) (hm := by decide)); (case h => with_reducible apply State.setCq_within)
    | split

theorem execCqEnable_within (c : Fin 64) (v : BitVec 32) (s : State) :
    WithinO 48 s (execCqEnable c v s) := by
  unfold execCqEnable
  repeat'
    first
    | with_reducible apply Within.refl
    | with_reducible assumption
    | with_reducible apply WithinO.next
    | with_reducible apply WithinO.fault
    | (with_reducible apply Within.via (l := 48) (m := 48) (hm := by decide)); (case h => with_reducible apply State.writeCqCtl_within)
    | split

theorem execCqErrClear_within (c : Fin 64) (s : State) :
    WithinO 48 s (execCqErrClear c s) := by
  unfold execCqErrClear
  repeat'
    first
    | with_reducible apply Within.refl
    | with_reducible assumption
    | with_reducible apply WithinO.next
    | with_reducible apply WithinO.fault
    | (with_reducible apply Within.via (l := 48) (m := 48) (hm := by decide)); (case h => with_reducible apply State.writeCqCtl_within)
    | split

theorem execCqHeadWrite_within (c : Fin 64) (v : BitVec 32) (s : State) :
    WithinO 32 s (execCqHeadWrite c v s) := by
  unfold execCqHeadWrite
  repeat'
    first
    | with_reducible apply Within.refl
    | with_reducible assumption
    | with_reducible apply WithinO.next
    | with_reducible apply WithinO.fault
    | (with_reducible apply Within.via (l := 32) (m := 32) (hm := by decide)); (case h => with_reducible apply State.setCq_within)
    | split

theorem execDescriptorFetch_within (n : Fin 64) (data : Option (List Byte)) (s : State) :
    WithinO 80 s (execDescriptorFetch n data s) := by
  unfold execDescriptorFetch
  repeat'
    first
    | with_reducible apply Within.refl
    | with_reducible assumption
    | (extract_lets +onlyGivenNames x; refine Within.cut (l := 80) (r := s) (x := x) ?_ ?_; rotate_left; (try clear_value x); intro _; rotate_right; subst x)
    | (extract_lets +onlyGivenNames x; try clear_value x)
    | with_reducible apply WithinO.next
    | with_reducible apply WithinO.fault
    | (with_reducible apply Within.via (l := 80) (m := 80) (hm := by decide)); (case h => with_reducible apply State.halt_within)
    | (with_reducible apply Within.via (l := 80) (m := 16) (hm := by decide)); (case h => with_reducible apply State.setSq_within)
    | split

theorem execMalformedDescriptor_within (n : Fin 64) (s : State) :
    WithinO 1104 s (execMalformedDescriptor n s) := by
  unfold execMalformedDescriptor
  repeat'
    first
    | with_reducible apply Within.refl
    | with_reducible assumption
    | with_reducible apply WithinO.next
    | with_reducible apply WithinO.fault
    | (with_reducible apply Within.via (l := 1104) (m := 1040) (hm := by decide)); (case h => with_reducible apply State.complete_within)
    | (with_reducible apply Within.via (l := 1104) (m := 80) (hm := by decide)); (case h => with_reducible apply State.halt_within)
    | (with_reducible apply WithinJ.via (l := 1104) (m := 1104) (hm := by decide)); (case h => with_reducible apply State.start_within)
    | (with_reducible apply Within.via (l := 1104) (m := 1104) (hm := by decide)); (case h => (with_reducible apply WithinJ.ofEq (State.start_within _ _ _)); with_reducible assumption)
    | split

theorem State.signalCq_within (s : State) (c : Nat) (now_ : Bool) :
    Within 672 s (State.signalCq s c now_) := by
  unfold State.signalCq
  repeat'
    first
    | with_reducible apply Within.refl
    | with_reducible assumption
    | (extract_lets +onlyGivenNames x; refine Within.cut (l := 672) (r := s) (x := x) ?_ ?_; rotate_left; (try clear_value x); intro _; rotate_right; subst x)
    | (extract_lets +onlyGivenNames x; try clear_value x)
    | (with_reducible apply Within.via (l := 672) (m := 640) (hm := by decide)); (case h => with_reducible apply State.interrupt_within)
    | (with_reducible apply Within.via (l := 672) (m := 32) (hm := by decide)); (case h => with_reducible apply State.setCq_within)
    | split

theorem State.cqFail_within (s : State) (c : Nat) :
    Within 112 s (State.cqFail s c) := by
  unfold State.cqFail
  repeat'
    first
    | with_reducible apply Within.refl
    | with_reducible assumption
    | (extract_lets +onlyGivenNames x; refine Within.cut (l := 112) (r := s) (x := x) ?_ ?_; rotate_left; (try clear_value x); intro _; rotate_right; subst x)
    | (extract_lets +onlyGivenNames x; try clear_value x)
    | ((with_reducible apply Within.fold); (rotate_left; intro _ _ _; rotate_right))
    | (with_reducible apply Within.via (l := 112) (m := 80) (hm := by decide)); (case h => with_reducible apply State.halt_within)
    | (with_reducible apply Within.via (l := 112) (m := 64) (hm := by decide)); (case h => with_reducible apply State.ringHaltEvent_within)
    | (with_reducible apply Within.via (l := 112) (m := 32) (hm := by decide)); (case h => with_reducible apply State.setCq_within)
    | (with_reducible apply Within.via (l := 112) (m := 16) (hm := by decide)); (case h => with_reducible apply State.setSq_within)
    | split

theorem execCompletionPost_within (n : Fin 64) (ok : Bool) (s : State) :
    WithinO 752 s (execCompletionPost n ok s) := by
  unfold execCompletionPost
  repeat'
    first
    | with_reducible apply Within.refl
    | with_reducible assumption
    | (extract_lets +onlyGivenNames x; refine Within.cut (l := 752) (r := s) (x := x) ?_ ?_; rotate_left; (try clear_value x); intro _; rotate_right; subst x)
    | (extract_lets +onlyGivenNames x; try clear_value x)
    | with_reducible apply WithinO.next
    | with_reducible apply WithinO.fault
    | (with_reducible apply Within.via (l := 752) (m := 112) (hm := by decide)); (case h => with_reducible apply State.cqFail_within)
    | (with_reducible apply Within.via (l := 752) (m := 128) (hm := by decide)); (case h => with_reducible apply State.hostWrite_within)
    | (with_reducible apply Within.via (l := 752) (m := 32) (hm := by decide)); (case h => with_reducible apply State.setCq_within)
    | (with_reducible apply Within.via (l := 752) (m := 16) (hm := by decide)); (case h => with_reducible apply State.setSq_within)
    | (with_reducible apply Within.via (l := 752) (m := 672) (hm := by decide)); (case h => with_reducible apply State.signalCq_within)
    | split

theorem execCqModTimerExpiry_within (c : Fin 64) (s : State) :
    WithinO 672 s (execCqModTimerExpiry c s) := by
  unfold execCqModTimerExpiry
  repeat'
    first
    | with_reducible apply Within.refl
    | with_reducible assumption
    | (extract_lets +onlyGivenNames x; refine Within.cut (l := 672) (r := s) (x := x) ?_ ?_; rotate_left; (try clear_value x); intro _; rotate_right; subst x)
    | (extract_lets +onlyGivenNames x; try clear_value x)
    | with_reducible apply WithinO.next
    | with_reducible apply WithinO.fault
    | (with_reducible apply Within.via (l := 672) (m := 640) (hm := by decide)); (case h => with_reducible apply State.interrupt_within)
    | (with_reducible apply Within.via (l := 672) (m := 32) (hm := by decide)); (case h => with_reducible apply State.setCq_within)
    | split

theorem execOpNop_within (n : Fin 64) (s : State) :
    WithinO 1104 s (execOpNop n s) := by
  unfold execOpNop
  repeat'
    first
    | with_reducible apply Within.refl
    | with_reducible assumption
    | with_reducible apply WithinO.next
    | with_reducible apply WithinO.fault
    | (with_reducible apply Within.via (l := 1104) (m := 1040) (hm := by decide)); (case h => with_reducible apply State.complete_within)
    | with_reducible refine State.runOp_via (by decide) ?_ (fun _ _ _ => ?_)
    | split

theorem execOpFence_within (n : Fin 64) (s : State) : WithinO 1104 s (execOpFence n s) := by
  unfold execOpFence
  refine .next ?_
  rw [State.runOp, State.parkedNext_none (by decide)]
  dsimp only
  split
  · split
    · exact Within.refl _ _
    · split
      · split
        · next j t e =>
          have ht : Within 1104 s t := Within.via (State.start_within _ _ _ _ _ e) (by decide) (Within.refl _ _)
          have hs : j.stamp < t.hif.stamp := State.start_stamp e
          split
          · exact Within.via (State.complete_within _ _ _ _) (by decide) ht
          · split
            · exact Within.via (State.complete_within _ _ _ _) (by decide) ht
            · rw [show needsFw 241 = false from rfl, Bool.false_and, if_neg (by decide)]
              refine Within.via (State.settle_within _) (by decide) (Within.via (m := 1024) ⟨(fun p hp => by cases p <;> first | exact absurd hp (by decide) | rfl), fun g => ?_⟩ (by decide) ht)
              obtain ⟨a, ⟨c1, c2, c3, c4, c5⟩, l⟩ := g
              refine ⟨a, ⟨c1, c2, c3, c4, fun f hf => ?_⟩, l⟩
              rcases List.mem_append.1 hf with h | h
              · exact c5 f h
              · rw [List.mem_singleton] at h
                subst h
                exact hs
        · exact Within.refl _ _
      · exact Within.refl _ _
  · exact Within.refl _ _

end Sys2Proof.Machine
end

