-- ==== Sys2Proof/Laws/FrameEvents.lean ====
section
/-!
SUPPORT. Laws/FrameEvents.lean: what each function of Machine/Events.lean can touch.
-/
set_option linter.unusedTactic false
set_option linter.unreachableTactic false
set_option linter.tactic.unusedName false

namespace Sys2Proof.Machine

theorem execEventOccurrence_within (src : Fin 320) (code : BitVec 16) (d : List Byte) (s : State) :
    WithinO 64 s (execEventOccurrence src code d s) := by
  unfold execEventOccurrence
  repeat'
    first
    | with_reducible apply Within.refl
    | with_reducible assumption
    | with_reducible apply WithinO.next
    | with_reducible apply WithinO.fault
    | (with_reducible apply Within.via (l := 64) (m := 64) (hm := by decide)); (case h => with_reducible apply State.occurBytes_within)
    | split

theorem State.signalEr_within (s : State) (k : Nat) (urgent : Bool) :
    Within 704 s (State.signalEr s k urgent) := by
  unfold State.signalEr
  repeat'
    first
    | with_reducible apply Within.refl
    | with_reducible assumption
    | (extract_lets +onlyGivenNames x; refine Within.cut (l := 704) (r := s) (x := x) ?_ ?_; rotate_left; (try clear_value x); intro _; rotate_right; subst x)
    | (extract_lets +onlyGivenNames x; try clear_value x)
    | (with_reducible apply Within.via (l := 704) (m := 640) (hm := by decide)); (case h => with_reducible apply State.interrupt_within)
    | (with_reducible apply Within.via (l := 704) (m := 64) (hm := by decide)); (case h => with_reducible apply State.setEr_within)
    | split

theorem execEventRecordWrite_within (k : Fin 4) (ok : Bool) (s : State) :
    WithinO 704 s (execEventRecordWrite k ok s) := by
  unfold execEventRecordWrite
  repeat'
    first
    | with_reducible apply Within.refl
    | with_reducible assumption
    | (extract_lets +onlyGivenNames x; refine Within.cut (l := 704) (r := s) (x := x) ?_ ?_; rotate_left; (try clear_value x); intro _; rotate_right; subst x)
    | (extract_lets +onlyGivenNames x; try clear_value x)
    | with_reducible apply WithinO.next
    | with_reducible apply WithinO.fault
    | (with_reducible apply Within.via (l := 704) (m := 128) (hm := by decide)); (case h => with_reducible apply State.hostWrite_within)
    | (with_reducible apply Within.via (l := 704) (m := 64) (hm := by decide)); (case h => with_reducible apply State.setEr_within)
    | (with_reducible apply Within.via (l := 704) (m := 64) (hm := by decide)); (case h => with_reducible apply State.setEvSrc_within)
    | (with_reducible apply Within.via (l := 704) (m := 64) (hm := by decide)); (case h => with_reducible apply State.setStaged_within)
    | (with_reducible apply Within.via (l := 704) (m := 704) (hm := by decide)); (case h => with_reducible apply State.signalEr_within)
    | split

theorem State.writeErCtl_within (s : State) (k v : Nat) :
    Within 64 s (State.writeErCtl s k v) := by
  unfold State.writeErCtl
  repeat'
    first
    | with_reducible apply Within.refl
    | with_reducible assumption
    | (extract_lets +onlyGivenNames x; refine Within.cut (l := 64) (r := s) (x := x) ?_ ?_; rotate_left; (try clear_value x); intro _; rotate_right; subst x)
    | (extract_lets +onlyGivenNames x; try clear_value x)
    | (with_reducible apply Within.via (l := 64) (m := 64) (hm := by decide)); (case h => with_reducible apply State.setEr_within)
    | split

theorem execEventRingEnable_within (k : Fin 4) (v : BitVec 32) (s : State) :
    WithinO 64 s (execEventRingEnable k v s) := by
  unfold execEventRingEnable
  repeat'
    first
    | with_reducible apply Within.refl
    | with_reducible assumption
    | with_reducible apply WithinO.next
    | with_reducible apply WithinO.fault
    | (with_reducible apply Within.via (l := 64) (m := 64) (hm := by decide)); (case h => with_reducible apply State.writeErCtl_within)
    | split

theorem execEventRingTimer_within (k : Fin 4) (s : State) :
    WithinO 704 s (execEventRingTimer k s) := by
  unfold execEventRingTimer
  repeat'
    first
    | with_reducible apply Within.refl
    | with_reducible assumption
    | (extract_lets +onlyGivenNames x; refine Within.cut (l := 704) (r := s) (x := x) ?_ ?_; rotate_left; (try clear_value x); intro _; rotate_right; subst x)
    | (extract_lets +onlyGivenNames x; try clear_value x)
    | with_reducible apply WithinO.next
    | with_reducible apply WithinO.fault
    | (with_reducible apply Within.via (l := 704) (m := 640) (hm := by decide)); (case h => with_reducible apply State.interrupt_within)
    | (with_reducible apply Within.via (l := 704) (m := 64) (hm := by decide)); (case h => with_reducible apply State.setEr_within)
    | split

theorem State.swRaise_within (s : State) (v : Nat) :
    Within 64 s (State.swRaise s v) := by
  unfold State.swRaise
  repeat'
    first
    | with_reducible apply Within.refl
    | with_reducible assumption
    | (with_reducible apply Within.via (l := 64) (m := 64) (hm := by decide)); (case h => with_reducible apply State.occur_within)
    | split

theorem execSwRaise_within (v : BitVec 32) (s : State) :
    WithinO 64 s (execSwRaise v s) := by
  unfold execSwRaise
  repeat'
    first
    | with_reducible apply Within.refl
    | with_reducible assumption
    | with_reducible apply WithinO.next
    | with_reducible apply WithinO.fault
    | (with_reducible apply Within.via (l := 64) (m := 64) (hm := by decide)); (case h => with_reducible apply State.swRaise_within)
    | split

theorem State.powerTo_within (s : State) (st : Nat) :
    Within 66 s (State.powerTo s st) := by
  unfold State.powerTo
  repeat'
    first
    | with_reducible apply Within.refl
    | with_reducible assumption
    | (extract_lets +onlyGivenNames x; refine Within.cut (l := 66) (r := s) (x := x) ?_ ?_; rotate_left; (try clear_value x); intro _; rotate_right; subst x)
    | (extract_lets +onlyGivenNames x; try clear_value x)
    | (with_reducible apply Within.via (l := 66) (m := 2) (hm := by decide)); (case h => with_reducible apply State.fset_within)
    | (with_reducible apply Within.via (l := 66) (m := 64) (hm := by decide)); (case h => with_reducible apply State.occur_within)
    | split

theorem State.quietCheck_within (s : State) :
    Within 66 s (State.quietCheck s) := by
  unfold State.quietCheck
  repeat'
    first
    | with_reducible apply Within.refl
    | with_reducible assumption
    | (with_reducible apply Within.via (l := 66) (m := 66) (hm := by decide)); (case h => with_reducible apply State.powerTo_within)
    | split

end Sys2Proof.Machine
end

