-- ==== Sys2Proof/Laws/FrameLeave.lean ====
section
/-!
SUPPORT. Laws/FrameLeave.lean: what each function of Machine/Leave.lean can touch.
-/
set_option linter.unusedTactic false
set_option linter.unreachableTactic false
set_option linter.tactic.unusedName false

namespace Sys2Proof.Machine

theorem State.lvRaise_within (s : State) (bit src code : Nat) (d : List (Nat × Nat × Nat)) :
    Within 66 s (State.lvRaise s bit src code d) := by
  unfold State.lvRaise
  repeat'
    first
    | with_reducible apply Within.refl
    | with_reducible assumption
    | (with_reducible apply Within.via (l := 66) (m := 66) (hm := by decide)); (case h => with_reducible apply State.raise_within)
    | split

theorem State.shedUpdate_within (s : State) :
    Within 33554498 s (State.shedUpdate s) := by
  unfold State.shedUpdate
  repeat'
    first
    | with_reducible apply Within.refl
    | with_reducible assumption
    | (extract_lets +onlyGivenNames x; refine Within.cut (l := 33554498) (r := s) (x := x) ?_ ?_; rotate_left; (try clear_value x); intro _; rotate_right; subst x)
    | (extract_lets +onlyGivenNames x; try clear_value x)
    | (with_reducible apply State.updLv_via (m := 33554432) (l := 33554498) (hm := by decide)); (case hleave => exact (fun _ _ => rfl)); (case hlimits => exact (fun _ _ => rfl)); (case hsheds => exact (fun h => absurd h (by decide))); (case cpowFree => exact (fun _ => rfl)); (case cfetFree => exact (fun _ => rfl)); (case cthermal => exact (fun _ => rfl)); (case cband => exact (fun _ => rfl))
    | (with_reducible apply Within.via (l := 33554498) (m := 66) (hm := by decide)); (case h => with_reducible apply State.lvRaise_within)
    | split

theorem State.limitEvent_within (s : State) :
    Within 66 s (State.limitEvent s) := by
  unfold State.limitEvent
  repeat'
    first
    | with_reducible apply Within.refl
    | with_reducible assumption
    | (with_reducible apply Within.via (l := 66) (m := 66) (hm := by decide)); (case h => with_reducible apply State.lvRaise_within)
    | split

theorem State.led_ledAdd_self (s : State) (k i c n : Nat) : (s.ledAdd k i c n).led k i c = s.led k i c + n :=
  Tab.get_set_self _ _ _ _
theorem State.led_ledAdd_ne (s : State) {k i c k' i' c' : Nat} (n : Nat) (h : ledKey k' i' c' ≠ ledKey k i c) :
    (s.ledAdd k i c n).led k' i' c' = s.led k' i' c' := Tab.get_set_ne _ _ _ h
theorem State.led_ledSet_self (s : State) (k i c n : Nat) : (s.ledSet k i c n).led k i c = n := Tab.get_set_self _ _ _ _
theorem State.led_ledSet_ne (s : State) {k i c k' i' c' : Nat} (n : Nat) (h : ledKey k' i' c' ≠ ledKey k i c) :
    (s.ledSet k i c n).led k' i' c' = s.led k' i' c' := Tab.get_set_ne _ _ _ h
theorem State.led_updLv (s : State) (f : Lv → Lv) (k i c : Nat) : (s.updLv f).led k i c = s.led k i c := rfl

/-- The withheld holders take `tp` and `tf`, or return `rp` and `rf`. -/
theorem State.fillMove_within (s : State) (tp rp tf rf : Nat) (h : tp ≤ s.lv.powFree ∧ tf ≤ s.lv.fetFree) :
    Within 8388616 s (((((s.updLv fun v =>
      { v with powFree := v.powFree - tp + rp, powWith := v.powWith + tp - rp,
               fetFree := v.fetFree - tf + rf, fetWith := v.fetWith + tf - rf }).ledAdd 9 0 5 tp).ledAdd 9 0 6 rp).ledAdd 9 1 5 tf).ledAdd 9 1 6 rf) := by
  refine ⟨(fun p hp => by cases p <;> first | exact absurd hp (by decide) | rfl), fun g => ?_⟩
  obtain ⟨⟨b1, b2⟩, ⟨c1, c2, c3, c4⟩, l⟩ := g
  refine ⟨⟨?_, ?_⟩, ⟨c1, Tab.wf_set _ _ (Tab.wf_set _ _ (Tab.wf_set _ _ (Tab.wf_set _ _ c2))), c3, c4⟩, l⟩
  · rw [led_ledAdd_ne _ _ (by decide), led_ledAdd_ne _ _ (by decide), led_ledAdd_ne _ _ (by decide), led_ledAdd_self, led_updLv,
      led_ledAdd_ne _ _ (by decide), led_ledAdd_ne _ _ (by decide), led_ledAdd_self, led_ledAdd_ne _ _ (by decide), led_updLv]
    show s.lv.powFree - tp + rp + _ = _
    omega
  · rw [led_ledAdd_ne _ _ (by decide), led_ledAdd_self, led_ledAdd_ne _ _ (by decide), led_ledAdd_ne _ _ (by decide), led_updLv,
      led_ledAdd_self, led_ledAdd_ne _ _ (by decide), led_ledAdd_ne _ _ (by decide), led_ledAdd_ne _ _ (by decide), led_updLv]
    show s.lv.fetFree - tf + rf + _ = _
    omega

theorem State.fillWithheld_within (s : State) : Within 8388682 s s.fillWithheld := by
  unfold State.fillWithheld
  extract_lets tp rp tf rf s1 s2
  have h : Within 8388616 s s2 := State.fillMove_within s tp rp tf rf ⟨Nat.min_le_right .., Nat.min_le_right ..⟩
  have h' : Within 8388682 s s2 := h.mono (by decide)
  clear_value s2
  split
  · exact Within.via (State.limitEvent_within _) (by decide) h'
  · exact h'

/-- A grant that the pools cover. -/
theorem State.leaveTake_within (s : State) (p f : Nat) (h : p ≤ s.lv.powFree ∧ f ≤ s.lv.fetFree) : Within 8388616 s (s.leaveTake p f) := by
  unfold State.leaveTake
  refine ⟨(fun p hp => by cases p <;> first | exact absurd hp (by decide) | rfl), fun g => ?_⟩
  obtain ⟨⟨b1, b2⟩, ⟨c1, c2, c3, c4⟩, l⟩ := g
  refine ⟨⟨?_, ?_⟩, ⟨c1, Tab.wf_set _ _ (Tab.wf_set _ _ c2), c3, c4⟩, l⟩
  · rw [led_ledAdd_ne _ _ (by decide), led_ledAdd_self, led_updLv, led_ledAdd_ne _ _ (by decide), led_ledAdd_ne _ _ (by decide), led_updLv]
    show s.lv.powFree - p + _ = _
    omega
  · rw [led_ledAdd_self, led_ledAdd_ne _ _ (by decide), led_updLv, led_ledAdd_ne _ _ (by decide), led_ledAdd_ne _ _ (by decide), led_updLv]
    show s.lv.fetFree - f + _ = _
    omega

/-- A request that fits is covered by the free tokens of both pools. -/
theorem State.leaveFits_le {s : State} {p f : Nat} (h : s.leaveFits p f = true) : p ≤ s.lv.powFree ∧ f ≤ s.lv.fetFree := by
  simp only [State.leaveFits, Bool.or_eq_true, Bool.and_eq_true, beq_iff_eq, decide_eq_true_eq] at h
  omega

/-- A refused-request counter. -/
theorem State.refused_within (s : State) (i n : Nat) : Within 8 s (s.ledAdd 9 i 7 n) := by
  refine ⟨(fun p hp => by cases p <;> first | exact absurd hp (by decide) | rfl), fun g => ?_⟩
  obtain ⟨⟨b1, b2⟩, ⟨c1, c2, c3, c4⟩, l⟩ := g
  have e : ∀ j c, c = 5 ∨ c = 6 → (s.ledAdd 9 i 7 n).led 9 j c = s.led 9 j c := fun j c hc =>
    led_ledAdd_ne _ _ (by unfold ledKey; omega)
  refine ⟨⟨?_, ?_⟩, ⟨c1, Tab.wf_set _ _ c2, c3, c4⟩, l⟩
  · rw [e _ _ (.inl rfl), e _ _ (.inr rfl)]; exact b1
  · rw [e _ _ (.inl rfl), e _ _ (.inr rfl)]; exact b2

theorem State.leaveRefuse_within (s : State) (owner p f : Nat) : Within 10 s (s.leaveRefuse owner p f) := by
  unfold State.leaveRefuse
  extract_lets last s1 s2
  have h1 : Within 10 s s1 := (State.wr_within s _ _).mono (by decide)
  have h2 : Within 10 s s2 := by
    simp only [s2]; split
    · exact (State.refused_within s1 _ _).via (by decide) h1
    · exact h1
  split
  · exact (State.refused_within s2 _ _).via (by decide) h2
  · exact h2

theorem State.leaveAsk_within (s : State) (owner p f : Nat) : Within 8388618 s (s.leaveAsk owner p f).2 := by
  unfold State.leaveAsk
  split
  · next h => exact (State.leaveTake_within s p f (leaveFits_le h)).mono (by decide)
  · exact (State.leaveRefuse_within s owner p f).mono (by decide)

/-- Tokens return to free. -/
theorem State.leaveBack_within (s : State) (p f : Nat) :
    Within 8388616 s (((s.updLv fun v => { v with powFree := v.powFree + p, fetFree := v.fetFree + f }).ledAdd 9 0 6 p).ledAdd 9 1 6 f) := by
  refine ⟨(fun p hp => by cases p <;> first | exact absurd hp (by decide) | rfl), fun g => ?_⟩
  obtain ⟨⟨b1, b2⟩, ⟨c1, c2, c3, c4⟩, l⟩ := g
  refine ⟨⟨?_, ?_⟩, ⟨c1, Tab.wf_set _ _ (Tab.wf_set _ _ c2), c3, c4⟩, l⟩
  · rw [led_ledAdd_ne _ _ (by decide), led_ledAdd_ne _ _ (by decide), led_updLv, led_ledAdd_ne _ _ (by decide), led_ledAdd_self, led_updLv]
    show s.lv.powFree + p + _ = _
    omega
  · rw [led_ledAdd_ne _ _ (by decide), led_ledAdd_ne _ _ (by decide), led_updLv, led_ledAdd_self, led_ledAdd_ne _ _ (by decide), led_updLv]
    show s.lv.fetFree + f + _ = _
    omega

theorem State.leaveRet_within (s : State) (p f : Nat) : Within 8388682 s (s.leaveRet p f) := by
  unfold State.leaveRet
  extract_lets t
  have h : Within 8388616 s t := State.leaveBack_within s p f
  have h' : Within 8388682 s t := h.mono (by decide)
  clear_value t
  split
  · exact (State.fillWithheld_within t).via (by decide) h'
  · exact h'

theorem State.writeLeaveCfg_within (s : State) (v : Nat) :
    Within 137447342154 s (State.writeLeaveCfg s v) := by
  unfold State.writeLeaveCfg
  repeat'
    first
    | with_reducible apply Within.refl
    | with_reducible assumption
    | (extract_lets +onlyGivenNames x; refine Within.cut (l := 137447342154) (r := s) (x := x) ?_ ?_; rotate_left; (try clear_value x); intro _; rotate_right; subst x)
    | (extract_lets +onlyGivenNames x; try clear_value x)
    | (with_reducible apply Within.via (l := 137447342154) (m := 8388682) (hm := by decide)); (case h => with_reducible apply State.fillWithheld_within)
    | (with_reducible apply Within.via (l := 137447342154) (m := 2) (hm := by decide)); (case h => with_reducible apply State.fset_within)
    | (with_reducible apply Within.via (l := 137447342154) (m := 137438953472) (hm := by decide)); (case h => with_reducible apply State.nvTouch_within)
    | split

theorem execLeaveCfgWrite_within (v : BitVec 32) (s : State) :
    WithinO 137447342154 s (execLeaveCfgWrite v s) := by
  unfold execLeaveCfgWrite
  repeat'
    first
    | with_reducible apply Within.refl
    | with_reducible assumption
    | with_reducible apply WithinO.next
    | with_reducible apply WithinO.fault
    | (with_reducible apply Within.via (l := 137447342154) (m := 137447342154) (hm := by decide)); (case h => with_reducible apply State.writeLeaveCfg_within)
    | split

theorem execLeaveAudit_within (powUpset fetUpset : Bool) (s : State) :
    WithinO 33554498 s (execLeaveAudit powUpset fetUpset s) := by
  unfold execLeaveAudit
  repeat'
    first
    | with_reducible apply Within.refl
    | with_reducible assumption
    | (extract_lets +onlyGivenNames x; refine Within.cut (l := 33554498) (r := s) (x := x) ?_ ?_; rotate_left; (try clear_value x); intro _; rotate_right; subst x)
    | (extract_lets +onlyGivenNames x; try clear_value x)
    | with_reducible apply WithinO.next
    | with_reducible apply WithinO.fault
    | (with_reducible apply State.updLv_via (m := 33554432) (l := 33554498) (hm := by decide)); (case hleave => exact (fun _ _ => rfl)); (case hlimits => exact (fun _ _ => rfl)); (case hsheds => exact (fun h => absurd h (by decide))); (case cpowFree => exact (fun _ => rfl)); (case cfetFree => exact (fun _ => rfl)); (case cthermal => exact (fun _ => rfl)); (case cband => exact (fun _ => rfl))
    | (with_reducible apply Within.via (l := 33554498) (m := 66) (hm := by decide)); (case h => with_reducible apply State.lvRaise_within)
    | (with_reducible apply Within.via (l := 33554498) (m := 33554498) (hm := by decide)); (case h => with_reducible apply State.shedUpdate_within)
    | split

theorem State.supplyShed_within (s : State) :
    Within 33554432 s (State.supplyShed s) := by
  unfold State.supplyShed
  repeat'
    first
    | with_reducible apply Within.refl
    | with_reducible assumption
    | (with_reducible apply State.updLv_via (m := 33554432) (l := 33554432) (hm := by decide)); (case hleave => exact (fun _ _ => rfl)); (case hlimits => exact (fun _ _ => rfl)); (case hsheds => exact (fun h => absurd h (by decide))); (case cpowFree => exact (fun _ => rfl)); (case cfetFree => exact (fun _ => rfl)); (case cthermal => exact (fun _ => rfl)); (case cband => exact (fun _ => rfl))
    | split

theorem State.powerShed_within (s : State) (p : Nat) :
    Within 33554498 s (State.powerShed s p) := by
  unfold State.powerShed
  repeat'
    first
    | with_reducible apply Within.refl
    | with_reducible assumption
    | (extract_lets +onlyGivenNames x; refine Within.cut (l := 33554498) (r := s) (x := x) ?_ ?_; rotate_left; (try clear_value x); intro _; rotate_right; subst x)
    | (extract_lets +onlyGivenNames x; try clear_value x)
    | (with_reducible apply State.updLv_via (m := 33554432) (l := 33554498) (hm := by decide)); (case hleave => exact (fun _ _ => rfl)); (case hlimits => exact (fun _ _ => rfl)); (case hsheds => exact (fun h => absurd h (by decide))); (case cpowFree => exact (fun _ => rfl)); (case cfetFree => exact (fun _ => rfl)); (case cthermal => exact (fun _ => rfl)); (case cband => exact (fun _ => rfl))
    | (with_reducible apply Within.via (l := 33554498) (m := 66) (hm := by decide)); (case h => with_reducible apply State.lvRaise_within)
    | split

theorem supplyBand_le (o v : Nat) : supplyBand o v ≤ 2 := by
  unfold supplyBand; repeat' split
  all_goals omega

theorem execSupplyMeasurement_within (mv10 : BitVec 16) (p : BitVec 13) (s : State) :
    WithinO 33554498 s (execSupplyMeasurement mv10 p s) := by
  unfold execSupplyMeasurement
  extract_lets v s1 band changed s2 s3
  have hb : band ≤ 2 := supplyBand_le _ _
  have h1 : Within 33554498 s s1 :=
    (State.fset_within _ _ _ _ _).via (by decide) ((State.fset_within _ _ _ _ _).mono (by decide))
  have h2 : Within 33554498 s1 s2 := by
    refine ⟨(fun p hp => by cases p <;> first | exact absurd hp (by decide) | rfl), fun g => ?_⟩
    obtain ⟨a, b, c1, cw, c2, c3, c4⟩ := g
    exact ⟨a, b, c1, cw, c2, c3, hb⟩
  have h3 : Within 33554498 s s3 := by
    simp only [s3]; split
    · exact (State.lvRaise_within _ _ _ _ _).via (by decide) (h2.via (by decide) h1)
    · exact h2.via (by decide) h1
  clear_value s3
  exact .next ((State.shedUpdate_within _).via (by decide) ((State.powerShed_within _ _).via (by decide)
    ((State.supplyShed_within _).via (by decide) h3)))

theorem enterLevel_le (t : Int) : enterLevel t ≤ 3 := by
  unfold enterLevel; repeat' split
  all_goals omega

theorem State.thermalLevel_within (s : State) (t : Int) : Within 33554432 s (s.thermalLevel t) := by
  unfold State.thermalLevel
  extract_lets l e
  have he : e ≤ 3 := enterLevel_le t
  split
  · refine ⟨(fun p hp => by cases p <;> first | exact absurd hp (by decide) | rfl), fun g => ?_⟩
    obtain ⟨a, b, c1, cw, c2, c3, c4⟩ := g
    exact ⟨a, b, c1, cw, c2, he, c4⟩
  · split
    · exact Within.refl _ _
    · split
      · split
        · exact .leaf (fun p hp => by cases p <;> first | exact absurd hp (by decide) | rfl) rfl
        · split
          · refine ⟨(fun p hp => by cases p <;> first | exact absurd hp (by decide) | rfl), fun g => ?_⟩
            obtain ⟨a, b, c1, cw, c2, c3, c4⟩ := g
            exact ⟨a, b, c1, cw, c2, by show max (l - 1) e ≤ 3; have : l ≤ 3 := c3; omega, c4⟩
          · exact Within.refl _ _
      · exact .leaf (fun p hp => by cases p <;> first | exact absurd hp (by decide) | rfl) rfl

theorem State.hbmHeat_within (s : State) (tj : List Nat) :
    Within 33554498 s (State.hbmHeat s tj) := by
  unfold State.hbmHeat
  repeat'
    first
    | with_reducible apply Within.refl
    | with_reducible assumption
    | (extract_lets +onlyGivenNames x; refine Within.cut (l := 33554498) (r := s) (x := x) ?_ ?_; rotate_left; (try clear_value x); intro _; rotate_right; subst x)
    | (extract_lets +onlyGivenNames x; try clear_value x)
    | ((with_reducible apply Within.fold); (rotate_left; intro _ _ _; rotate_right))
    | (with_reducible apply State.updLv_via (m := 33554432) (l := 33554498) (hm := by decide)); (case hleave => exact (fun _ _ => rfl)); (case hlimits => exact (fun _ _ => rfl)); (case hsheds => exact (fun h => absurd h (by decide))); (case cpowFree => exact (fun _ => rfl)); (case cfetFree => exact (fun _ => rfl)); (case cthermal => exact (fun _ => rfl)); (case cband => exact (fun _ => rfl))
    | (with_reducible apply Within.via (l := 33554498) (m := 66) (hm := by decide)); (case h => with_reducible apply State.lvRaise_within)
    | split

theorem State.thermalSample_within (s : State) (tj : List (BitVec 11)) (tcp : BitVec 11) :
    Within 33554498 s (State.thermalSample s tj tcp) := by
  unfold State.thermalSample
  repeat'
    first
    | with_reducible apply Within.refl
    | with_reducible assumption
    | (extract_lets +onlyGivenNames x; refine Within.cut (l := 33554498) (r := s) (x := x) ?_ ?_; rotate_left; (try clear_value x); intro _; rotate_right; subst x)
    | (extract_lets +onlyGivenNames x; try clear_value x)
    | ((with_reducible apply Within.fold); (rotate_left; intro _ _ _; rotate_right))
    | (with_reducible apply Within.via (l := 33554498) (m := 2) (hm := by decide)); (case h => with_reducible apply State.fset_within)
    | (with_reducible apply Within.via (l := 33554498) (m := 33554498) (hm := by decide)); (case h => with_reducible apply State.hbmHeat_within)
    | (with_reducible apply Within.via (l := 33554498) (m := 33554498) (hm := by decide)); (case h => with_reducible apply State.shedUpdate_within)
    | (with_reducible apply Within.via (l := 33554498) (m := 33554432) (hm := by decide)); (case h => with_reducible apply State.thermalLevel_within)
    | split

end Sys2Proof.Machine
end

