-- ==== Sys2Proof/Laws/FrameIngest.lean ====
section
/-!
SUPPORT. Laws/FrameIngest.lean: what each function of Machine/Ingest.lean can touch.
-/
set_option linter.unusedTactic false
set_option linter.unreachableTactic false
set_option linter.tactic.unusedName false

namespace Sys2Proof.Machine

theorem State.setSrc_within (s : State) (n : Nat) (v : Source) :
    Within 4096 s (State.setSrc s n v) := by
  unfold State.setSrc
  repeat'
    first
    | with_reducible apply Within.refl
    | with_reducible assumption
    | (with_reducible apply State.updIng_via (m := 4096) (l := 4096) (hm := by decide)); (case hsources => exact (fun h => absurd h (by decide))); (case hflows => exact (fun _ _ => rfl)); (case higmp => exact (fun _ _ => rfl))
    | split

theorem State.updSrc_within (s : State) (n : Nat) (f : Source → Source) :
    Within 4096 s (State.updSrc s n f) := by
  unfold State.updSrc
  repeat'
    first
    | with_reducible apply Within.refl
    | with_reducible assumption
    | (with_reducible apply Within.via (l := 4096) (m := 4096) (hm := by decide)); (case h => with_reducible apply State.setSrc_within)
    | split

theorem State.srcRaise_within (s : State) (n bit code : Nat) (d : List (Nat × Nat × Nat)) :
    Within 66 s (State.srcRaise s n bit code d) := by
  unfold State.srcRaise
  repeat'
    first
    | with_reducible apply Within.refl
    | with_reducible assumption
    | (with_reducible apply Within.via (l := 66) (m := 66) (hm := by decide)); (case h => with_reducible apply State.raise_within)
    | split

theorem State.srcCount_within (s : State) (n c k : Nat) :
    Within 8 s (State.srcCount s n c k) := by
  unfold State.srcCount
  repeat'
    first
    | with_reducible apply Within.refl
    | with_reducible assumption
    | (with_reducible apply Within.via (l := 8) (m := 8) (hm := by decide)); (case h => (with_reducible apply State.ledAdd_within); decide)
    | split

theorem State.srcDamaged_within (s : State) (n missing : Nat) :
    Within 74 s (State.srcDamaged s n missing) := by
  unfold State.srcDamaged
  repeat'
    first
    | with_reducible apply Within.refl
    | with_reducible assumption
    | (with_reducible apply Within.via (l := 74) (m := 8) (hm := by decide)); (case h => with_reducible apply State.srcCount_within)
    | (with_reducible apply Within.via (l := 74) (m := 66) (hm := by decide)); (case h => with_reducible apply State.srcRaise_within)
    | split

theorem State.newRing_within (s : State) (mode tokens : Nat) :
    Within 4096 s (State.newRing s mode tokens).2 := by
  unfold State.newRing
  show Within2 _ _ _
  repeat'
    first
    | with_reducible apply Within.refl
    | with_reducible assumption
    | with_reducible apply Within2.mk
    | (with_reducible apply State.updIng_via (m := 4096) (l := 4096) (hm := by decide)); (case hsources => exact (fun h => absurd h (by decide))); (case hflows => exact (fun _ _ => rfl)); (case higmp => exact (fun _ _ => rfl))
    | split

theorem State.supersedeOld_within (s : State) (n : Nat) :
    Within 4104 s (State.supersedeOld s n) := by
  unfold State.supersedeOld
  repeat'
    first
    | with_reducible apply Within.refl
    | with_reducible assumption
    | (extract_lets +onlyGivenNames x; refine Within.cut (l := 4104) (r := s) (x := x) ?_ ?_; rotate_left; (try clear_value x); intro _; rotate_right; subst x)
    | (extract_lets +onlyGivenNames x; try clear_value x)
    | (with_reducible apply State.updIng_via (m := 4096) (l := 4104) (hm := by decide)); (case hsources => exact (fun h => absurd h (by decide))); (case hflows => exact (fun _ _ => rfl)); (case higmp => exact (fun _ _ => rfl))
    | (with_reducible apply Within.via (l := 4104) (m := 8) (hm := by decide)); (case h => with_reducible apply State.srcCount_within)
    | split

theorem State.replaceRing_within (s : State) (n mode tokens : Nat) :
    Within 4104 s (State.replaceRing s n mode tokens) := by
  unfold State.replaceRing
  repeat'
    first
    | with_reducible apply Within.refl
    | with_reducible assumption
    | (extract_lets +onlyGivenNames x; refine Within.cut (l := 4104) (r := s) (x := x) ?_ ?_; rotate_left; (try clear_value x); intro _; rotate_right; subst x)
    | (extract_lets +onlyGivenNames x; refine Within.cut2 (l := 4104) (r := s) (x := x) ?_ ?_; rotate_left; (try clear_value x); intro _; rotate_right; subst x)
    | (extract_lets +onlyGivenNames x; refine Within.cut1 (l := 4104) (r := s) (x := x) ?_ ?_; rotate_left; (try clear_value x); intro _; rotate_right; subst x)
    | (extract_lets +onlyGivenNames x; try clear_value x)
    | (with_reducible apply Within2.snd; with_reducible assumption)
    | (with_reducible apply Within1.fst; with_reducible assumption)
    | with_reducible apply Within2.mk
    | with_reducible apply Within1.mk
    | with_reducible refine Within2.fold ?_ (fun _ _ _ => ?_)
    | with_reducible refine Within1.fold ?_ (fun _ _ _ => ?_)
    | (with_reducible apply State.updIng_via (m := 4096) (l := 4104) (hm := by decide)); (case hsources => exact (fun h => absurd h (by decide))); (case hflows => exact (fun _ _ => rfl)); (case higmp => exact (fun _ _ => rfl))
    | (with_reducible apply Within2.via (l := 4104) (m := 4096) (hm := by decide)); (case h => with_reducible apply State.newRing_within)
    | (with_reducible apply Within.via (l := 4104) (m := 4096) (hm := by decide)); (case h => with_reducible apply State.newRing_within)
    | (with_reducible apply Within.via (l := 4104) (m := 4096) (hm := by decide)); (case h => (with_reducible apply Within2.ofEq (State.newRing_within _ _ _)); with_reducible assumption)
    | (with_reducible apply Within.via (l := 4104) (m := 4104) (hm := by decide)); (case h => with_reducible apply State.supersedeOld_within)
    | (with_reducible apply Within.via (l := 4104) (m := 4096) (hm := by decide)); (case h => with_reducible apply State.updSrc_within)
    | split
    | dsimp only
    | (with_reducible refine Within2.ofEq' ?_ (by assumption))

theorem State.updRing_within (s : State) (n id : Nat) (f : Ring → Ring) :
    Within 4096 s (State.updRing s n id f) := by
  unfold State.updRing
  repeat'
    first
    | with_reducible apply Within.refl
    | with_reducible assumption
    | (with_reducible apply State.updIng_via (m := 4096) (l := 4096) (hm := by decide)); (case hsources => exact (fun h => absurd h (by decide))); (case hflows => exact (fun _ _ => rfl)); (case higmp => exact (fun _ _ => rfl))
    | (with_reducible apply Within.via (l := 4096) (m := 4096) (hm := by decide)); (case h => with_reducible apply State.updSrc_within)
    | split

theorem State.takeFrame_within (s : State) (n : Nat) (r : Ring) (k : Nat) (p : Pin) :
    Within 4104 s (State.takeFrame s n r k p) := by
  unfold State.takeFrame
  repeat'
    first
    | with_reducible apply Within.refl
    | with_reducible assumption
    | (extract_lets +onlyGivenNames x; refine Within.cut (l := 4104) (r := s) (x := x) ?_ ?_; rotate_left; (try clear_value x); intro _; rotate_right; subst x)
    | (extract_lets +onlyGivenNames x; try clear_value x)
    | (with_reducible apply Within.via (l := 4104) (m := 8) (hm := by decide)); (case h => with_reducible apply State.srcCount_within)
    | (with_reducible apply Within.via (l := 4104) (m := 4096) (hm := by decide)); (case h => with_reducible apply State.updRing_within)
    | split

theorem State.unpin_within (s : State) (p : Pin) :
    Within 4096 s (State.unpin s p) := by
  unfold State.unpin
  repeat'
    first
    | with_reducible apply Within.refl
    | with_reducible assumption
    | (with_reducible apply State.updIng_via (m := 4096) (l := 4096) (hm := by decide)); (case hsources => exact (fun h => absurd h (by decide))); (case hflows => exact (fun _ _ => rfl)); (case higmp => exact (fun _ _ => rfl))
    | split

theorem State.beginWrite_within (s : State) (n : Nat) :
    Within 4170 s (State.beginWrite s n).2 := by
  unfold State.beginWrite
  show Within2 _ _ _
  repeat'
    first
    | with_reducible apply Within.refl
    | with_reducible assumption
    | (extract_lets +onlyGivenNames x; refine Within.cut (l := 4170) (r := s) (x := x) ?_ ?_; rotate_left; (try clear_value x); intro _; rotate_right; subst x)
    | (extract_lets +onlyGivenNames x; try clear_value x)
    | with_reducible apply Within2.mk
    | (with_reducible apply Within.via (l := 4170) (m := 8) (hm := by decide)); (case h => with_reducible apply State.srcCount_within)
    | (with_reducible apply Within.via (l := 4170) (m := 66) (hm := by decide)); (case h => with_reducible apply State.srcRaise_within)
    | (with_reducible apply Within.via (l := 4170) (m := 4096) (hm := by decide)); (case h => with_reducible apply State.updSrc_within)
    | split

theorem State.dropWrite_within (s : State) (n : Nat) (slot : Option Nat) :
    Within 4096 s (State.dropWrite s n slot) := by
  unfold State.dropWrite
  repeat'
    first
    | with_reducible apply Within.refl
    | with_reducible assumption
    | (with_reducible apply Within.via (l := 4096) (m := 4096) (hm := by decide)); (case h => with_reducible apply State.updSrc_within)
    | split

theorem State.pidEvent_within (s : State) (n : Nat) :
    Within 66 s (State.pidEvent s n) := by
  unfold State.pidEvent
  repeat'
    first
    | with_reducible apply Within.refl
    | with_reducible assumption
    | (with_reducible apply Within.via (l := 66) (m := 66) (hm := by decide)); (case h => with_reducible apply State.srcRaise_within)
    | split

theorem State.acceptFmt_within (s : State) (n : Nat) (f : Fmt) :
    Within 4170 s (State.acceptFmt s n f) := by
  unfold State.acceptFmt
  repeat'
    first
    | with_reducible apply Within.refl
    | with_reducible assumption
    | (extract_lets +onlyGivenNames x; refine Within.cut (l := 4170) (r := s) (x := x) ?_ ?_; rotate_left; (try clear_value x); intro _; rotate_right; subst x)
    | (extract_lets +onlyGivenNames x; try clear_value x)
    | (with_reducible apply Within.via (l := 4170) (m := 66) (hm := by decide)); (case h => with_reducible apply State.pidEvent_within)
    | (with_reducible apply Within.via (l := 4170) (m := 4096) (hm := by decide)); (case h => with_reducible apply State.setSrc_within)
    | (with_reducible apply Within.via (l := 4170) (m := 8) (hm := by decide)); (case h => with_reducible apply State.srcCount_within)
    | (with_reducible apply Within.via (l := 4170) (m := 66) (hm := by decide)); (case h => with_reducible apply State.srcRaise_within)
    | split

theorem State.publish_within (s : State) (n k : Nat) (f : Frame) :
    Within 4096 s (State.publish s n k f) := by
  unfold State.publish
  repeat'
    first
    | with_reducible apply Within.refl
    | with_reducible assumption
    | (with_reducible apply Within.via (l := 4096) (m := 4096) (hm := by decide)); (case h => with_reducible apply State.updSrc_within)
    | split

theorem State.setColIn_within (s : State) (n : Nat) (v : ColUnit) :
    Within 524288 s (State.setColIn s n v) := by
  unfold State.setColIn
  repeat'
    first
    | with_reducible apply Within.refl
    | with_reducible assumption
    | (with_reducible apply State.updScc_via (m := 524288) (l := 524288) (hm := by decide)); (case hscalers => exact (fun _ _ => rfl)); (case hcolour => exact (fun h => absurd h (by decide)))
    | split

theorem State.setColOut_within (s : State) (h : Nat) (v : ColUnit) :
    Within 524288 s (State.setColOut s h v) := by
  unfold State.setColOut
  repeat'
    first
    | with_reducible apply Within.refl
    | with_reducible assumption
    | (with_reducible apply State.updScc_via (m := 524288) (l := 524288) (hm := by decide)); (case hscalers => exact (fun _ _ => rfl)); (case hcolour => exact (fun h => absurd h (by decide)))
    | split

theorem State.loadDone_within (s : State) (l : ColLoad) :
    Within 525328 s (State.loadDone s l) := by
  unfold State.loadDone
  repeat'
    first
    | with_reducible apply Within.refl
    | with_reducible assumption
    | (with_reducible apply State.updScc_via (m := 524288) (l := 525328) (hm := by decide)); (case hscalers => exact (fun _ _ => rfl)); (case hcolour => exact (fun h => absurd h (by decide)))
    | (with_reducible apply Within.via (l := 525328) (m := 1040) (hm := by decide)); (case h => with_reducible apply State.completeAt_within)
    | split

theorem State.colourBegin_within (s : State) (n : Nat) :
    Within 525328 s (State.colourBegin s n) := by
  unfold State.colourBegin
  repeat'
    first
    | with_reducible apply Within.refl
    | with_reducible assumption
    | ((with_reducible apply Within.fold); (rotate_left; intro _ _ _; rotate_right))
    | (with_reducible apply Within.via (l := 525328) (m := 525328) (hm := by decide)); (case h => with_reducible apply State.loadDone_within)
    | (with_reducible apply Within.via (l := 525328) (m := 524288) (hm := by decide)); (case h => with_reducible apply State.setColIn_within)
    | split

theorem State.abandon_within (s : State) (n : Nat) (missing : List (Nat × Nat × Nat) → Nat) :
    Within 4170 s (State.abandon s n missing) := by
  unfold State.abandon
  repeat'
    first
    | with_reducible apply Within.refl
    | with_reducible assumption
    | (extract_lets +onlyGivenNames x; refine Within.cut (l := 4170) (r := s) (x := x) ?_ ?_; rotate_left; (try clear_value x); intro _; rotate_right; subst x)
    | (extract_lets +onlyGivenNames x; try clear_value x)
    | ((with_reducible apply Within.fold); (rotate_left; intro _ _ _; rotate_right))
    | (with_reducible apply Within.via (l := 4170) (m := 4096) (hm := by decide)); (case h => with_reducible apply State.dropWrite_within)
    | (with_reducible apply Within.via (l := 4170) (m := 74) (hm := by decide)); (case h => with_reducible apply State.srcDamaged_within)
    | (with_reducible apply Within.via (l := 4170) (m := 4096) (hm := by decide)); (case h => with_reducible apply State.updSrc_within)
    | split

theorem State.srcLose_within (s : State) (n : Nat) :
    Within 4170 s (State.srcLose s n) := by
  unfold State.srcLose
  repeat'
    first
    | with_reducible apply Within.refl
    | with_reducible assumption
    | (with_reducible apply Within.via (l := 4170) (m := 4170) (hm := by decide)); (case h => with_reducible apply State.abandon_within)
    | (with_reducible apply Within.via (l := 4170) (m := 66) (hm := by decide)); (case h => with_reducible apply State.srcRaise_within)
    | (with_reducible apply Within.via (l := 4170) (m := 4096) (hm := by decide)); (case h => with_reducible apply State.updSrc_within)
    | split

theorem State.srcSearch_within (s : State) (n : Nat) :
    Within 4170 s (State.srcSearch s n) := by
  unfold State.srcSearch
  repeat'
    first
    | with_reducible apply Within.refl
    | with_reducible assumption
    | (with_reducible apply Within.via (l := 4170) (m := 4170) (hm := by decide)); (case h => with_reducible apply State.abandon_within)
    | (with_reducible apply Within.via (l := 4170) (m := 4096) (hm := by decide)); (case h => with_reducible apply State.updSrc_within)
    | split

theorem State.setUnit_within (s : State) (i : Nat) (v : PowerUnit) :
    Within 1073741824 s (State.setUnit s i v) := by
  unfold State.setUnit
  repeat'
    first
    | with_reducible apply Within.refl
    | with_reducible assumption
    | (with_reducible apply State.updNet_via (l := 1073741824) (hm := by decide))
    | split

theorem State.laneSignal_within (s : State) (n present : Nat) :
    Within 66 s (State.laneSignal s n present) := by
  unfold State.laneSignal
  repeat'
    first
    | with_reducible apply Within.refl
    | with_reducible assumption
    | (with_reducible apply Within.via (l := 66) (m := 66) (hm := by decide)); (case h => with_reducible apply State.raise_within)
    | split

theorem execSignalDetect_within (n : Fin 144) (s : State) :
    WithinO 4162 s (execSignalDetect n s) := by
  unfold execSignalDetect
  repeat'
    first
    | with_reducible apply Within.refl
    | with_reducible assumption
    | (extract_lets +onlyGivenNames x; refine Within.cut (l := 4162) (r := s) (x := x) ?_ ?_; rotate_left; (try clear_value x); intro _; rotate_right; subst x)
    | (extract_lets +onlyGivenNames x; try clear_value x)
    | with_reducible apply WithinO.next
    | with_reducible apply WithinO.fault
    | (with_reducible apply Within.via (l := 4162) (m := 66) (hm := by decide)); (case h => with_reducible apply State.laneSignal_within)
    | (with_reducible apply Within.via (l := 4162) (m := 2) (hm := by decide)); (case h => with_reducible apply State.setBit_within)
    | (with_reducible apply Within.via (l := 4162) (m := 4096) (hm := by decide)); (case h => with_reducible apply State.updSrc_within)
    | split

theorem execRateDwellExpiry_within (n : Fin 128) (s : State) :
    WithinO 4096 s (execRateDwellExpiry n s) := by
  unfold execRateDwellExpiry
  repeat'
    first
    | with_reducible apply Within.refl
    | with_reducible assumption
    | with_reducible apply WithinO.next
    | with_reducible apply WithinO.fault
    | (with_reducible apply Within.via (l := 4096) (m := 4096) (hm := by decide)); (case h => with_reducible apply State.updSrc_within)
    | split

theorem execCdrLock_within (n : Fin 128) (s : State) :
    WithinO 4098 s (execCdrLock n s) := by
  unfold execCdrLock
  repeat'
    first
    | with_reducible apply Within.refl
    | with_reducible assumption
    | (extract_lets +onlyGivenNames x; refine Within.cut (l := 4098) (r := s) (x := x) ?_ ?_; rotate_left; (try clear_value x); intro _; rotate_right; subst x)
    | (extract_lets +onlyGivenNames x; try clear_value x)
    | with_reducible apply WithinO.next
    | with_reducible apply WithinO.fault
    | (with_reducible apply Within.via (l := 4098) (m := 2) (hm := by decide)); (case h => with_reducible apply State.fset_within)
    | (with_reducible apply Within.via (l := 4098) (m := 2) (hm := by decide)); (case h => with_reducible apply State.setBit_within)
    | (with_reducible apply Within.via (l := 4098) (m := 4096) (hm := by decide)); (case h => with_reducible apply State.setSrc_within)
    | split

theorem State.quadBreak_within (s : State) (q : Nat) :
    Within 4170 s (State.quadBreak s q) := by
  unfold State.quadBreak
  repeat'
    first
    | with_reducible apply Within.refl
    | with_reducible assumption
    | (extract_lets +onlyGivenNames x; refine Within.cut (l := 4170) (r := s) (x := x) ?_ ?_; rotate_left; (try clear_value x); intro _; rotate_right; subst x)
    | (extract_lets +onlyGivenNames x; try clear_value x)
    | ((with_reducible apply Within.fold); (rotate_left; intro _ _ _; rotate_right))
    | (with_reducible apply Within.via (l := 4170) (m := 4170) (hm := by decide)); (case h => with_reducible apply State.srcLose_within)
    | (with_reducible apply Within.via (l := 4170) (m := 4170) (hm := by decide)); (case h => with_reducible apply State.srcSearch_within)
    | (with_reducible apply Within.via (l := 4170) (m := 4096) (hm := by decide)); (case h => with_reducible apply State.updSrc_within)
    | split

theorem State.cdrLost_within (s : State) (n : Nat) :
    Within 4170 s (State.cdrLost s n) := by
  unfold State.cdrLost
  repeat'
    first
    | with_reducible apply Within.refl
    | with_reducible assumption
    | (extract_lets +onlyGivenNames x; refine Within.cut (l := 4170) (r := s) (x := x) ?_ ?_; rotate_left; (try clear_value x); intro _; rotate_right; subst x)
    | (extract_lets +onlyGivenNames x; try clear_value x)
    | (with_reducible apply Within.via (l := 4170) (m := 4170) (hm := by decide)); (case h => with_reducible apply State.abandon_within)
    | (with_reducible apply Within.via (l := 4170) (m := 2) (hm := by decide)); (case h => with_reducible apply State.fset_within)
    | (with_reducible apply Within.via (l := 4170) (m := 4170) (hm := by decide)); (case h => with_reducible apply State.quadBreak_within)
    | (with_reducible apply Within.via (l := 4170) (m := 4170) (hm := by decide)); (case h => with_reducible apply State.srcLose_within)
    | (with_reducible apply Within.via (l := 4170) (m := 4096) (hm := by decide)); (case h => with_reducible apply State.updSrc_within)
    | split

theorem execCdrLoss_within (n : Fin 128) (s : State) :
    WithinO 4170 s (execCdrLoss n s) := by
  unfold execCdrLoss
  repeat'
    first
    | with_reducible apply Within.refl
    | with_reducible assumption
    | (extract_lets +onlyGivenNames x; refine Within.cut (l := 4170) (r := s) (x := x) ?_ ?_; rotate_left; (try clear_value x); intro _; rotate_right; subst x)
    | (extract_lets +onlyGivenNames x; try clear_value x)
    | with_reducible apply WithinO.next
    | with_reducible apply WithinO.fault
    | (with_reducible apply Within.via (l := 4170) (m := 4170) (hm := by decide)); (case h => with_reducible apply State.cdrLost_within)
    | (with_reducible apply Within.via (l := 4170) (m := 4096) (hm := by decide)); (case h => with_reducible apply State.updSrc_within)
    | split

theorem execLaneSignalLost_within (n : Fin 144) (s : State) :
    WithinO 4162 s (execLaneSignalLost n s) := by
  unfold execLaneSignalLost
  repeat'
    first
    | with_reducible apply Within.refl
    | with_reducible assumption
    | (extract_lets +onlyGivenNames x; refine Within.cut (l := 4162) (r := s) (x := x) ?_ ?_; rotate_left; (try clear_value x); intro _; rotate_right; subst x)
    | (extract_lets +onlyGivenNames x; try clear_value x)
    | with_reducible apply WithinO.next
    | with_reducible apply WithinO.fault
    | (with_reducible apply Within.via (l := 4162) (m := 2) (hm := by decide)); (case h => with_reducible apply State.fset_within)
    | (with_reducible apply Within.via (l := 4162) (m := 66) (hm := by decide)); (case h => with_reducible apply State.laneSignal_within)
    | (with_reducible apply Within.via (l := 4162) (m := 4096) (hm := by decide)); (case h => with_reducible apply State.updSrc_within)
    | split

theorem State.quadAssemble_within (s : State) (q : Nat) :
    Within 4170 s (State.quadAssemble s q) := by
  unfold State.quadAssemble
  repeat'
    first
    | with_reducible apply Within.refl
    | with_reducible assumption
    | (extract_lets +onlyGivenNames x; refine Within.cut (l := 4170) (r := s) (x := x) ?_ ?_; rotate_left; (try clear_value x); intro _; rotate_right; subst x)
    | (extract_lets +onlyGivenNames x; try clear_value x)
    | ((with_reducible apply Within.fold); (rotate_left; intro _ _ _; rotate_right))
    | (with_reducible apply Within.via (l := 4170) (m := 4170) (hm := by decide)); (case h => with_reducible apply State.srcSearch_within)
    | (with_reducible apply Within.via (l := 4170) (m := 4096) (hm := by decide)); (case h => with_reducible apply State.updSrc_within)
    | split

theorem State.sizeRing_within (s : State) (n mode : Nat) :
    Within 4104 s (State.sizeRing s n mode).2 := by
  unfold State.sizeRing
  show Within2 _ _ _
  repeat'
    first
    | with_reducible apply Within.refl
    | with_reducible assumption
    | (extract_lets +onlyGivenNames x; refine Within.cut (l := 4104) (r := s) (x := x) ?_ ?_; rotate_left; (try clear_value x); intro _; rotate_right; subst x)
    | (extract_lets +onlyGivenNames x; try clear_value x)
    | with_reducible apply Within2.mk
    | (with_reducible apply Within.via (l := 4104) (m := 4104) (hm := by decide)); (case h => with_reducible apply State.replaceRing_within)
    | split

theorem State.sdiArrive_within (s : State) (n : Nat) :
    Within 4170 s (State.sdiArrive s n) := by
  unfold State.sdiArrive
  repeat'
    first
    | with_reducible apply Within.refl
    | with_reducible assumption
    | (extract_lets +onlyGivenNames x; refine Within.cut (l := 4170) (r := s) (x := x) ?_ ?_; rotate_left; (try clear_value x); intro _; rotate_right; subst x)
    | (extract_lets +onlyGivenNames x; refine Within.cut2 (l := 4170) (r := s) (x := x) ?_ ?_; rotate_left; (try clear_value x); intro _; rotate_right; subst x)
    | (extract_lets +onlyGivenNames x; refine Within.cut1 (l := 4170) (r := s) (x := x) ?_ ?_; rotate_left; (try clear_value x); intro _; rotate_right; subst x)
    | (extract_lets +onlyGivenNames x; try clear_value x)
    | (with_reducible apply Within2.snd; with_reducible assumption)
    | (with_reducible apply Within1.fst; with_reducible assumption)
    | with_reducible apply Within2.mk
    | with_reducible apply Within1.mk
    | with_reducible refine Within2.fold ?_ (fun _ _ _ => ?_)
    | with_reducible refine Within1.fold ?_ (fun _ _ _ => ?_)
    | (with_reducible apply Within2.via (l := 4170) (m := 4170) (hm := by decide)); (case h => with_reducible apply State.beginWrite_within)
    | (with_reducible apply Within.via (l := 4170) (m := 4170) (hm := by decide)); (case h => with_reducible apply State.beginWrite_within)
    | (with_reducible apply Within.via (l := 4170) (m := 4170) (hm := by decide)); (case h => (with_reducible apply Within2.ofEq (State.beginWrite_within _ _)); with_reducible assumption)
    | (with_reducible apply Within.via (l := 4170) (m := 8) (hm := by decide)); (case h => with_reducible apply State.srcCount_within)
    | (with_reducible apply Within.via (l := 4170) (m := 4096) (hm := by decide)); (case h => with_reducible apply State.updSrc_within)
    | split
    | dsimp only
    | (with_reducible refine Within2.ofEq' ?_ (by assumption))

theorem State.tooLarge_within (s : State) (n : Nat) (mode : Nat) :
    Within 4162 s (State.tooLarge s n mode) := by
  unfold State.tooLarge
  repeat'
    first
    | with_reducible apply Within.refl
    | with_reducible assumption
    | (with_reducible apply Within.via (l := 4162) (m := 66) (hm := by decide)); (case h => with_reducible apply State.srcRaise_within)
    | (with_reducible apply Within.via (l := 4162) (m := 4096) (hm := by decide)); (case h => with_reducible apply State.updSrc_within)
    | split

theorem State.sdiSecond_within (s : State) (n : Nat) (m : SdiMeas) :
    Within 4170 s (State.sdiSecond s n m) := by
  unfold State.sdiSecond
  repeat'
    first
    | with_reducible apply Within.refl
    | with_reducible assumption
    | (extract_lets +onlyGivenNames x; refine Within.cut (l := 4170) (r := s) (x := x) ?_ ?_; rotate_left; (try clear_value x); intro _; rotate_right; subst x)
    | (extract_lets +onlyGivenNames x; refine Within.cut2 (l := 4170) (r := s) (x := x) ?_ ?_; rotate_left; (try clear_value x); intro _; rotate_right; subst x)
    | (extract_lets +onlyGivenNames x; refine Within.cut1 (l := 4170) (r := s) (x := x) ?_ ?_; rotate_left; (try clear_value x); intro _; rotate_right; subst x)
    | (extract_lets +onlyGivenNames x; try clear_value x)
    | (with_reducible apply Within2.snd; with_reducible assumption)
    | (with_reducible apply Within1.fst; with_reducible assumption)
    | with_reducible apply Within2.mk
    | with_reducible apply Within1.mk
    | with_reducible refine Within2.fold ?_ (fun _ _ _ => ?_)
    | with_reducible refine Within1.fold ?_ (fun _ _ _ => ?_)
    | (with_reducible apply Within.via (l := 4170) (m := 4170) (hm := by decide)); (case h => with_reducible apply State.sdiArrive_within)
    | (with_reducible apply Within2.via (l := 4170) (m := 4104) (hm := by decide)); (case h => with_reducible apply State.sizeRing_within)
    | (with_reducible apply Within.via (l := 4170) (m := 4104) (hm := by decide)); (case h => with_reducible apply State.sizeRing_within)
    | (with_reducible apply Within.via (l := 4170) (m := 4104) (hm := by decide)); (case h => (with_reducible apply Within2.ofEq (State.sizeRing_within _ _ _)); with_reducible assumption)
    | (with_reducible apply Within.via (l := 4170) (m := 66) (hm := by decide)); (case h => with_reducible apply State.srcRaise_within)
    | (with_reducible apply Within.via (l := 4170) (m := 4162) (hm := by decide)); (case h => with_reducible apply State.tooLarge_within)
    | (with_reducible apply Within.via (l := 4170) (m := 4096) (hm := by decide)); (case h => with_reducible apply State.updSrc_within)
    | split
    | dsimp only
    | (with_reducible refine Within2.ofEq' ?_ (by assumption))

theorem State.sdiStart_within (s : State) (n : Nat) :
    Within 4170 s (State.sdiStart s n) := by
  unfold State.sdiStart
  repeat'
    first
    | with_reducible apply Within.refl
    | with_reducible assumption
    | (extract_lets +onlyGivenNames x; refine Within.cut (l := 4170) (r := s) (x := x) ?_ ?_; rotate_left; (try clear_value x); intro _; rotate_right; subst x)
    | (extract_lets +onlyGivenNames x; refine Within.cut2 (l := 4170) (r := s) (x := x) ?_ ?_; rotate_left; (try clear_value x); intro _; rotate_right; subst x)
    | (extract_lets +onlyGivenNames x; refine Within.cut1 (l := 4170) (r := s) (x := x) ?_ ?_; rotate_left; (try clear_value x); intro _; rotate_right; subst x)
    | (extract_lets +onlyGivenNames x; try clear_value x)
    | (with_reducible apply Within2.snd; with_reducible assumption)
    | (with_reducible apply Within1.fst; with_reducible assumption)
    | with_reducible apply Within2.mk
    | with_reducible apply Within1.mk
    | with_reducible refine Within2.fold ?_ (fun _ _ _ => ?_)
    | with_reducible refine Within1.fold ?_ (fun _ _ _ => ?_)
    | (with_reducible apply Within.via (l := 4170) (m := 4170) (hm := by decide)); (case h => with_reducible apply State.acceptFmt_within)
    | (with_reducible apply Within.via (l := 4170) (m := 4170) (hm := by decide)); (case h => with_reducible apply State.sdiArrive_within)
    | (with_reducible apply Within.via (l := 4170) (m := 4170) (hm := by decide)); (case h => with_reducible apply State.sdiSecond_within)
    | (with_reducible apply Within2.via (l := 4170) (m := 4104) (hm := by decide)); (case h => with_reducible apply State.sizeRing_within)
    | (with_reducible apply Within.via (l := 4170) (m := 4104) (hm := by decide)); (case h => with_reducible apply State.sizeRing_within)
    | (with_reducible apply Within.via (l := 4170) (m := 4104) (hm := by decide)); (case h => (with_reducible apply Within2.ofEq (State.sizeRing_within _ _ _)); with_reducible assumption)
    | (with_reducible apply Within.via (l := 4170) (m := 4162) (hm := by decide)); (case h => with_reducible apply State.tooLarge_within)
    | (with_reducible apply Within.via (l := 4170) (m := 4096) (hm := by decide)); (case h => with_reducible apply State.updSrc_within)
    | split
    | dsimp only
    | (with_reducible refine Within2.ofEq' ?_ (by assumption))

theorem State.sdiCounts_within (s : State) (n : Nat) (e : SdiEnd) :
    Within 4098 s (State.sdiCounts s n e) := by
  unfold State.sdiCounts
  repeat'
    first
    | with_reducible apply Within.refl
    | with_reducible assumption
    | (extract_lets +onlyGivenNames x; refine Within.cut (l := 4098) (r := s) (x := x) ?_ ?_; rotate_left; (try clear_value x); intro _; rotate_right; subst x)
    | (extract_lets +onlyGivenNames x; try clear_value x)
    | (with_reducible apply Within.via (l := 4098) (m := 2) (hm := by decide)); (case h => with_reducible apply State.count_within)
    | (with_reducible apply Within.via (l := 4098) (m := 4096) (hm := by decide)); (case h => with_reducible apply State.updSrc_within)
    | split

theorem State.sdiPublish_within (s : State) (n k : Nat) (e : SdiEnd) :
    Within 4098 s (State.sdiPublish s n k e) := by
  unfold State.sdiPublish
  repeat'
    first
    | with_reducible apply Within.refl
    | with_reducible assumption
    | (extract_lets +onlyGivenNames x; refine Within.cut (l := 4098) (r := s) (x := x) ?_ ?_; rotate_left; (try clear_value x); intro _; rotate_right; subst x)
    | (extract_lets +onlyGivenNames x; try clear_value x)
    | (with_reducible apply Within.via (l := 4098) (m := 2) (hm := by decide)); (case h => with_reducible apply State.count_within)
    | (with_reducible apply Within.via (l := 4098) (m := 4096) (hm := by decide)); (case h => with_reducible apply State.publish_within)
    | split

theorem State.sdiFlags_within (s : State) (n : Nat) (f : Fmt) :
    Within 4162 s (State.sdiFlags s n f) := by
  unfold State.sdiFlags
  repeat'
    first
    | with_reducible apply Within.refl
    | with_reducible assumption
    | (extract_lets +onlyGivenNames x; refine Within.cut (l := 4162) (r := s) (x := x) ?_ ?_; rotate_left; (try clear_value x); intro _; rotate_right; subst x)
    | (extract_lets +onlyGivenNames x; try clear_value x)
    | (with_reducible apply Within.via (l := 4162) (m := 66) (hm := by decide)); (case h => with_reducible apply State.pidEvent_within)
    | (with_reducible apply Within.via (l := 4162) (m := 4096) (hm := by decide)); (case h => with_reducible apply State.updSrc_within)
    | split

theorem State.sdiMeasure_within (s : State) (n : Nat) (e : SdiEnd) (m : SdiMeas) :
    Within 4162 s (State.sdiMeasure s n e m) := by
  unfold State.sdiMeasure
  repeat'
    first
    | with_reducible apply Within.refl
    | with_reducible assumption
    | (extract_lets +onlyGivenNames x; refine Within.cut (l := 4162) (r := s) (x := x) ?_ ?_; rotate_left; (try clear_value x); intro _; rotate_right; subst x)
    | (extract_lets +onlyGivenNames x; try clear_value x)
    | (with_reducible apply Within.via (l := 4162) (m := 66) (hm := by decide)); (case h => with_reducible apply State.srcRaise_within)
    | (with_reducible apply Within.via (l := 4162) (m := 4096) (hm := by decide)); (case h => with_reducible apply State.updSrc_within)
    | split

theorem State.sdiFinish_within (s : State) (n : Nat) (e : SdiEnd) :
    Within 4170 s (State.sdiFinish s n e) := by
  unfold State.sdiFinish
  repeat'
    first
    | with_reducible apply Within.refl
    | with_reducible assumption
    | (extract_lets +onlyGivenNames x; refine Within.cut (l := 4170) (r := s) (x := x) ?_ ?_; rotate_left; (try clear_value x); intro _; rotate_right; subst x)
    | (extract_lets +onlyGivenNames x; refine Within.cutF (l := 4170) (r := s) (x := x) ?_ ?_; rotate_left; (try clear_value x); intro hF; rotate_right; (subst x; intro _ _; beta_reduce))
    | with_reducible apply hF
    | (extract_lets +onlyGivenNames x; try clear_value x)
    | (with_reducible apply Within.via (l := 4170) (m := 4170) (hm := by decide)); (case h => with_reducible apply State.acceptFmt_within)
    | (with_reducible apply Within.via (l := 4170) (m := 4096) (hm := by decide)); (case h => with_reducible apply State.dropWrite_within)
    | (with_reducible apply Within.via (l := 4170) (m := 4162) (hm := by decide)); (case h => with_reducible apply State.sdiFlags_within)
    | (with_reducible apply Within.via (l := 4170) (m := 4162) (hm := by decide)); (case h => with_reducible apply State.sdiMeasure_within)
    | (with_reducible apply Within.via (l := 4170) (m := 4098) (hm := by decide)); (case h => with_reducible apply State.sdiPublish_within)
    | (with_reducible apply Within.via (l := 4170) (m := 74) (hm := by decide)); (case h => with_reducible apply State.srcDamaged_within)
    | (with_reducible apply Within.via (l := 4170) (m := 4162) (hm := by decide)); (case h => with_reducible apply State.tooLarge_within)
    | (with_reducible apply Within.via (l := 4170) (m := 4096) (hm := by decide)); (case h => with_reducible apply State.updSrc_within)
    | split

theorem execSdiFrame_within (n : Fin 128) (p : SdiPart) (s : State) :
    WithinO 1099512157274 s (execSdiFrame n p s) := by
  unfold execSdiFrame
  repeat'
    first
    | with_reducible apply Within.refl
    | with_reducible assumption
    | (extract_lets +onlyGivenNames x; refine Within.cut (l := 1099512157274) (r := s) (x := x) ?_ ?_; rotate_left; (try clear_value x); intro _; rotate_right; subst x)
    | (extract_lets +onlyGivenNames x; try clear_value x)
    | with_reducible apply WithinO.next
    | with_reducible apply WithinO.fault
    | (with_reducible apply Within.via (l := 1099512157274) (m := 525328) (hm := by decide)); (case h => with_reducible apply State.colourBegin_within)
    | (with_reducible apply Within.via (l := 1099512157274) (m := 1099511627776) (hm := by decide)); (case h => with_reducible apply State.cross_within)
    | (with_reducible apply Within.via (l := 1099512157274) (m := 4170) (hm := by decide)); (case h => with_reducible apply State.quadAssemble_within)
    | (with_reducible apply Within.via (l := 1099512157274) (m := 4170) (hm := by decide)); (case h => with_reducible apply State.quadBreak_within)
    | (with_reducible apply Within.via (l := 1099512157274) (m := 4098) (hm := by decide)); (case h => with_reducible apply State.sdiCounts_within)
    | (with_reducible apply Within.via (l := 1099512157274) (m := 4170) (hm := by decide)); (case h => with_reducible apply State.sdiFinish_within)
    | (with_reducible apply Within.via (l := 1099512157274) (m := 4170) (hm := by decide)); (case h => with_reducible apply State.sdiStart_within)
    | (with_reducible apply WithinJ.via (l := 1099512157274) (m := 1104) (hm := by decide)); (case h => with_reducible apply State.start_within)
    | (with_reducible apply Within.via (l := 1099512157274) (m := 1104) (hm := by decide)); (case h => (with_reducible apply WithinJ.ofEq (State.start_within _ _ _)); with_reducible assumption)
    | (with_reducible apply Within.via (l := 1099512157274) (m := 4096) (hm := by decide)); (case h => with_reducible apply State.updSrc_within)
    | split

theorem execTrsLoss_within (n : Fin 128) (s : State) :
    WithinO 4170 s (execTrsLoss n s) := by
  unfold execTrsLoss
  repeat'
    first
    | with_reducible apply Within.refl
    | with_reducible assumption
    | (extract_lets +onlyGivenNames x; refine Within.cut (l := 4170) (r := s) (x := x) ?_ ?_; rotate_left; (try clear_value x); intro _; rotate_right; subst x)
    | (extract_lets +onlyGivenNames x; try clear_value x)
    | with_reducible apply WithinO.next
    | with_reducible apply WithinO.fault
    | (with_reducible apply Within.via (l := 4170) (m := 4170) (hm := by decide)); (case h => with_reducible apply State.quadBreak_within)
    | (with_reducible apply Within.via (l := 4170) (m := 4170) (hm := by decide)); (case h => with_reducible apply State.srcLose_within)
    | (with_reducible apply Within.via (l := 4170) (m := 4170) (hm := by decide)); (case h => with_reducible apply State.srcSearch_within)
    | (with_reducible apply Within.via (l := 4170) (m := 4096) (hm := by decide)); (case h => with_reducible apply State.updSrc_within)
    | split

theorem execPublishTimeout_within (n : Fin 256) (s : State) :
    WithinO 4170 s (execPublishTimeout n s) := by
  unfold execPublishTimeout
  repeat'
    first
    | with_reducible apply Within.refl
    | with_reducible assumption
    | (extract_lets +onlyGivenNames x; refine Within.cut (l := 4170) (r := s) (x := x) ?_ ?_; rotate_left; (try clear_value x); intro _; rotate_right; subst x)
    | (extract_lets +onlyGivenNames x; try clear_value x)
    | with_reducible apply WithinO.next
    | with_reducible apply WithinO.fault
    | (with_reducible apply Within.via (l := 4170) (m := 4170) (hm := by decide)); (case h => with_reducible apply State.srcLose_within)
    | split

theorem State.closeFrame_within (s : State) (n : Nat) (fl : Flow) (num : Nat) :
    Within 4170 s (State.closeFrame s n fl num) := by
  unfold State.closeFrame
  repeat'
    first
    | with_reducible apply Within.refl
    | with_reducible assumption
    | (extract_lets +onlyGivenNames x; refine Within.cut (l := 4170) (r := s) (x := x) ?_ ?_; rotate_left; (try clear_value x); intro _; rotate_right; subst x)
    | (extract_lets +onlyGivenNames x; refine Within.cutF1 (l := 4170) (r := s) (x := x) ?_ ?_; rotate_left; (try clear_value x); intro hF; rotate_right; (subst x; intro _ _ _; beta_reduce))
    | with_reducible apply hF
    | (extract_lets +onlyGivenNames x; try clear_value x)
    | (with_reducible apply Within.via (l := 4170) (m := 4170) (hm := by decide)); (case h => with_reducible apply State.acceptFmt_within)
    | (with_reducible apply Within.via (l := 4170) (m := 4096) (hm := by decide)); (case h => with_reducible apply State.dropWrite_within)
    | (with_reducible apply Within.via (l := 4170) (m := 4096) (hm := by decide)); (case h => with_reducible apply State.publish_within)
    | (with_reducible apply Within.via (l := 4170) (m := 8) (hm := by decide)); (case h => with_reducible apply State.srcCount_within)
    | (with_reducible apply Within.via (l := 4170) (m := 74) (hm := by decide)); (case h => with_reducible apply State.srcDamaged_within)
    | (with_reducible apply Within.via (l := 4170) (m := 66) (hm := by decide)); (case h => with_reducible apply State.srcRaise_within)
    | (with_reducible apply Within.via (l := 4170) (m := 4096) (hm := by decide)); (case h => with_reducible apply State.updSrc_within)
    | split

theorem State.closeOvertaken_within (s : State) (n : Nat) (fl : Flow) :
    Within 4170 s (State.closeOvertaken s n fl) := by
  unfold State.closeOvertaken
  repeat'
    first
    | with_reducible apply Within.refl
    | with_reducible assumption
    | ((with_reducible apply Within.fold); (rotate_left; intro _ _ _; rotate_right))
    | (with_reducible apply Within.via (l := 4170) (m := 4170) (hm := by decide)); (case h => with_reducible apply State.closeFrame_within)
    | split

theorem State.ipNewFrame_within (s : State) (n : Nat) (fl : Flow) (ts : Nat) (second : Bool) :
    Within 529498 s (State.ipNewFrame s n fl ts second) := by
  unfold State.ipNewFrame
  repeat'
    first
    | with_reducible apply Within.refl
    | with_reducible assumption
    | (extract_lets +onlyGivenNames x; refine Within.cut (l := 529498) (r := s) (x := x) ?_ ?_; rotate_left; (try clear_value x); intro _; rotate_right; subst x)
    | (extract_lets +onlyGivenNames x; refine Within.cut2 (l := 529498) (r := s) (x := x) ?_ ?_; rotate_left; (try clear_value x); intro _; rotate_right; subst x)
    | (extract_lets +onlyGivenNames x; refine Within.cut1 (l := 529498) (r := s) (x := x) ?_ ?_; rotate_left; (try clear_value x); intro _; rotate_right; subst x)
    | (extract_lets +onlyGivenNames x; try clear_value x)
    | (with_reducible apply Within2.snd; with_reducible assumption)
    | (with_reducible apply Within1.fst; with_reducible assumption)
    | with_reducible apply Within2.mk
    | with_reducible apply Within1.mk
    | with_reducible refine Within2.fold ?_ (fun _ _ _ => ?_)
    | with_reducible refine Within1.fold ?_ (fun _ _ _ => ?_)
    | (with_reducible apply Within2.via (l := 529498) (m := 4170) (hm := by decide)); (case h => with_reducible apply State.beginWrite_within)
    | (with_reducible apply Within.via (l := 529498) (m := 4170) (hm := by decide)); (case h => with_reducible apply State.beginWrite_within)
    | (with_reducible apply Within.via (l := 529498) (m := 4170) (hm := by decide)); (case h => (with_reducible apply Within2.ofEq (State.beginWrite_within _ _)); with_reducible assumption)
    | (with_reducible apply Within.via (l := 529498) (m := 4170) (hm := by decide)); (case h => with_reducible apply State.closeOvertaken_within)
    | (with_reducible apply Within.via (l := 529498) (m := 525328) (hm := by decide)); (case h => with_reducible apply State.colourBegin_within)
    | (with_reducible apply Within.via (l := 529498) (m := 8) (hm := by decide)); (case h => with_reducible apply State.srcCount_within)
    | (with_reducible apply Within.via (l := 529498) (m := 4096) (hm := by decide)); (case h => with_reducible apply State.updSrc_within)
    | split
    | dsimp only
    | (with_reducible refine Within2.ofEq' ?_ (by assumption))

theorem State.ipWrite_within (s : State) (n : Nat) (fl : Flow) (p : IpPacket) :
    Within 4170 s (State.ipWrite s n fl p) := by
  unfold State.ipWrite
  repeat'
    first
    | with_reducible apply Within.refl
    | with_reducible assumption
    | (extract_lets +onlyGivenNames x; refine Within.cut (l := 4170) (r := s) (x := x) ?_ ?_; rotate_left; (try clear_value x); intro _; rotate_right; subst x)
    | (extract_lets +onlyGivenNames x; try clear_value x)
    | (with_reducible apply Within.via (l := 4170) (m := 4170) (hm := by decide)); (case h => with_reducible apply State.closeFrame_within)
    | (with_reducible apply Within.via (l := 4170) (m := 4096) (hm := by decide)); (case h => with_reducible apply State.updSrc_within)
    | split

theorem State.ipSkew_within (s : State) (n : Nat) (fl : Flow) (legB : Bool) (t : Nat) :
    Within 4162 s (State.ipSkew s n fl legB t) := by
  unfold State.ipSkew
  repeat'
    first
    | with_reducible apply Within.refl
    | with_reducible assumption
    | (extract_lets +onlyGivenNames x; refine Within.cut (l := 4162) (r := s) (x := x) ?_ ?_; rotate_left; (try clear_value x); intro _; rotate_right; subst x)
    | (extract_lets +onlyGivenNames x; try clear_value x)
    | (with_reducible apply Within.via (l := 4162) (m := 66) (hm := by decide)); (case h => with_reducible apply State.srcRaise_within)
    | (with_reducible apply Within.via (l := 4162) (m := 4096) (hm := by decide)); (case h => with_reducible apply State.updSrc_within)
    | split

theorem State.ipMarker_within (s : State) (n : Nat) (fl : Flow) (legB : Bool) (p : IpPacket) :
    Within 4170 s (State.ipMarker s n fl legB p) := by
  unfold State.ipMarker
  repeat'
    first
    | with_reducible apply Within.refl
    | with_reducible assumption
    | (extract_lets +onlyGivenNames x; refine Within.cut (l := 4170) (r := s) (x := x) ?_ ?_; rotate_left; (try clear_value x); intro _; rotate_right; subst x)
    | (extract_lets +onlyGivenNames x; try clear_value x)
    | (with_reducible apply Within.via (l := 4170) (m := 4170) (hm := by decide)); (case h => with_reducible apply State.closeFrame_within)
    | (with_reducible apply Within.via (l := 4170) (m := 4162) (hm := by decide)); (case h => with_reducible apply State.ipSkew_within)
    | (with_reducible apply Within.via (l := 4170) (m := 4096) (hm := by decide)); (case h => with_reducible apply State.updSrc_within)
    | split

theorem State.ipAccept_within (s : State) (fl : Flow) (legB : Bool) (p : IpPacket) :
    Within 1099512157274 s (State.ipAccept s fl legB p) := by
  unfold State.ipAccept
  repeat'
    first
    | with_reducible apply Within.refl
    | with_reducible assumption
    | (extract_lets +onlyGivenNames x; refine Within.cut (l := 1099512157274) (r := s) (x := x) ?_ ?_; rotate_left; (try clear_value x); intro _; rotate_right; subst x)
    | (extract_lets +onlyGivenNames x; try clear_value x)
    | (with_reducible apply Within.via (l := 1099512157274) (m := 4170) (hm := by decide)); (case h => with_reducible apply State.closeOvertaken_within)
    | (with_reducible apply Within.via (l := 1099512157274) (m := 2) (hm := by decide)); (case h => with_reducible apply State.count_within)
    | (with_reducible apply Within.via (l := 1099512157274) (m := 1099511627776) (hm := by decide)); (case h => with_reducible apply State.cross_within)
    | (with_reducible apply Within.via (l := 1099512157274) (m := 4170) (hm := by decide)); (case h => with_reducible apply State.ipMarker_within)
    | (with_reducible apply Within.via (l := 1099512157274) (m := 529498) (hm := by decide)); (case h => with_reducible apply State.ipNewFrame_within)
    | (with_reducible apply Within.via (l := 1099512157274) (m := 4170) (hm := by decide)); (case h => with_reducible apply State.ipWrite_within)
    | (with_reducible apply Within.via (l := 1099512157274) (m := 4096) (hm := by decide)); (case h => with_reducible apply State.updSrc_within)
    | split

theorem execIpVideoPacket_within (p : IpPacket) (s : State) :
    WithinO 1099512157274 s (execIpVideoPacket p s) := by
  unfold execIpVideoPacket
  repeat'
    first
    | with_reducible apply Within.refl
    | with_reducible assumption
    | (extract_lets +onlyGivenNames x; refine Within.cut (l := 1099512157274) (r := s) (x := x) ?_ ?_; rotate_left; (try clear_value x); intro _; rotate_right; subst x)
    | (extract_lets +onlyGivenNames x; try clear_value x)
    | with_reducible apply WithinO.next
    | with_reducible apply WithinO.fault
    | ((with_reducible apply Within.fold); (rotate_left; intro _ _ _; rotate_right))
    | (with_reducible apply Within.via (l := 1099512157274) (m := 1099512157274) (hm := by decide)); (case h => with_reducible apply State.ipAccept_within)
    | split

theorem execMergeWindowExpiry_within (n : Fin 256) (s : State) :
    WithinO 4170 s (execMergeWindowExpiry n s) := by
  unfold execMergeWindowExpiry
  repeat'
    first
    | with_reducible apply Within.refl
    | with_reducible assumption
    | with_reducible apply WithinO.next
    | with_reducible apply WithinO.fault
    | ((with_reducible apply Within.fold); (rotate_left; intro _ _ _; rotate_right))
    | (with_reducible apply Within.via (l := 4170) (m := 4170) (hm := by decide)); (case h => with_reducible apply State.closeFrame_within)
    | split

theorem execIpFlowTimeout_within (n : Fin 256) (s : State) :
    WithinO 4170 s (execIpFlowTimeout n s) := by
  unfold execIpFlowTimeout
  repeat'
    first
    | with_reducible apply Within.refl
    | with_reducible assumption
    | (extract_lets +onlyGivenNames x; refine Within.cut (l := 4170) (r := s) (x := x) ?_ ?_; rotate_left; (try clear_value x); intro _; rotate_right; subst x)
    | (extract_lets +onlyGivenNames x; try clear_value x)
    | with_reducible apply WithinO.next
    | with_reducible apply WithinO.fault
    | (with_reducible apply Within.via (l := 4170) (m := 4170) (hm := by decide)); (case h => with_reducible apply State.srcLose_within)
    | split

theorem execLegLost_within (n : Fin 256) (legB : Bool) (s : State) :
    WithinO 4162 s (execLegLost n legB s) := by
  unfold execLegLost
  repeat'
    first
    | with_reducible apply Within.refl
    | with_reducible assumption
    | (extract_lets +onlyGivenNames x; refine Within.cut (l := 4162) (r := s) (x := x) ?_ ?_; rotate_left; (try clear_value x); intro _; rotate_right; subst x)
    | (extract_lets +onlyGivenNames x; try clear_value x)
    | with_reducible apply WithinO.next
    | with_reducible apply WithinO.fault
    | (with_reducible apply Within.via (l := 4162) (m := 4096) (hm := by decide)); (case h => with_reducible apply State.setSrc_within)
    | (with_reducible apply Within.via (l := 4162) (m := 66) (hm := by decide)); (case h => with_reducible apply State.srcRaise_within)
    | split

theorem State.ancJoin_within (s : State) (n ts : Nat) (a : Anc) :
    Within 4098 s (State.ancJoin s n ts a) := by
  unfold State.ancJoin
  repeat'
    first
    | with_reducible apply Within.refl
    | with_reducible assumption
    | (extract_lets +onlyGivenNames x; refine Within.cut (l := 4098) (r := s) (x := x) ?_ ?_; rotate_left; (try clear_value x); intro _; rotate_right; subst x)
    | (extract_lets +onlyGivenNames x; try clear_value x)
    | (with_reducible apply Within.via (l := 4098) (m := 2) (hm := by decide)); (case h => with_reducible apply State.count_within)
    | (with_reducible apply Within.via (l := 4098) (m := 4096) (hm := by decide)); (case h => with_reducible apply State.updRing_within)
    | (with_reducible apply Within.via (l := 4098) (m := 4096) (hm := by decide)); (case h => with_reducible apply State.updSrc_within)
    | split

theorem execAncillaryPacket_within (p : IpPacket) (a : Anc) (s : State) :
    WithinO 4098 s (execAncillaryPacket p a s) := by
  unfold execAncillaryPacket
  repeat'
    first
    | with_reducible apply Within.refl
    | with_reducible assumption
    | with_reducible apply WithinO.next
    | with_reducible apply WithinO.fault
    | ((with_reducible apply Within.fold); (rotate_left; intro _ _ _; rotate_right))
    | (with_reducible apply Within.via (l := 4098) (m := 4098) (hm := by decide)); (case h => with_reducible apply State.ancJoin_within)
    | split

theorem execSourceRingFree_within (n : Fin 256) (s : State) :
    WithinO 8392778 s (execSourceRingFree n s) := by
  unfold execSourceRingFree
  repeat'
    first
    | with_reducible apply Within.refl
    | with_reducible assumption
    | (extract_lets +onlyGivenNames x; refine Within.cut (l := 8392778) (r := s) (x := x) ?_ ?_; rotate_left; (try clear_value x); intro _; rotate_right; subst x)
    | (extract_lets +onlyGivenNames x; try clear_value x)
    | with_reducible apply WithinO.next
    | with_reducible apply WithinO.fault
    | ((with_reducible apply Within.fold); (rotate_left; intro _ _ _; rotate_right))
    | (with_reducible apply State.updIng_via (m := 4096) (l := 8392778) (hm := by decide)); (case hsources => exact (fun h => absurd h (by decide))); (case hflows => exact (fun _ _ => rfl)); (case higmp => exact (fun _ _ => rfl))
    | (with_reducible apply Within.via (l := 8392778) (m := 8388682) (hm := by decide)); (case h => with_reducible apply State.leaveRet_within)
    | (with_reducible apply Within.via (l := 8392778) (m := 8) (hm := by decide)); (case h => with_reducible apply State.srcCount_within)
    | split

end Sys2Proof.Machine
end

