-- ==== Sys2Proof/Laws/FrameSurfaces.lean ====
section
/-!
SUPPORT. Laws/FrameSurfaces.lean: what each function of Machine/Surfaces.lean can touch.
-/
set_option linter.unusedTactic false
set_option linter.unreachableTactic false
set_option linter.tactic.unusedName false

namespace Sys2Proof.Machine

theorem State.updSurf_within (s : State) (h : BitVec 32) (f : Surf → Surf) :
    Within 131072 s (State.updSurf s h f) := by
  unfold State.updSurf
  repeat'
    first
    | with_reducible apply Within.refl
    | with_reducible assumption
    | (with_reducible apply State.updSrf_via (l := 131072) (hm := by decide))
    | split

theorem State.surfGone_within (s : State) (h : BitVec 32) :
    Within 132120 s (State.surfGone s h) := by
  unfold State.surfGone
  repeat'
    first
    | with_reducible apply Within.refl
    | with_reducible assumption
    | (extract_lets +onlyGivenNames x; refine Within.cut (l := 132120) (r := s) (x := x) ?_ ?_; rotate_left; (try clear_value x); intro _; rotate_right; subst x)
    | (extract_lets +onlyGivenNames x; try clear_value x)
    | (with_reducible apply State.updSrf_via (l := 132120) (hm := by decide))
    | (with_reducible apply Within.via (l := 132120) (m := 8) (hm := by decide)); (case h => (with_reducible apply State.ledAdd_within); decide)
    | (with_reducible apply Within.via (l := 132120) (m := 1040) (hm := by decide)); (case h => with_reducible apply State.completeAt_within)
    | split

theorem State.surfSettle_within (s : State) (h : BitVec 32) :
    Within 132120 s (State.surfSettle s h) := by
  unfold State.surfSettle
  repeat'
    first
    | with_reducible apply Within.refl
    | with_reducible assumption
    | (with_reducible apply Within.via (l := 132120) (m := 132120) (hm := by decide)); (case h => with_reducible apply State.surfGone_within)
    | split

theorem State.takeRefs_within (s : State) (l : List (BitVec 32)) :
    Within 131080 s (State.takeRefs s l) := by
  unfold State.takeRefs
  repeat'
    first
    | with_reducible apply Within.refl
    | with_reducible assumption
    | ((with_reducible apply Within.fold); (rotate_left; intro _ _ _; rotate_right))
    | (with_reducible apply Within.via (l := 131080) (m := 8) (hm := by decide)); (case h => (with_reducible apply State.ledAdd_within); decide)
    | (with_reducible apply Within.via (l := 131080) (m := 131072) (hm := by decide)); (case h => with_reducible apply State.updSurf_within)
    | split

theorem State.dropRefs_within (s : State) (l : List (BitVec 32)) :
    Within 132120 s (State.dropRefs s l) := by
  unfold State.dropRefs
  repeat'
    first
    | with_reducible apply Within.refl
    | with_reducible assumption
    | ((with_reducible apply Within.fold); (rotate_left; intro _ _ _; rotate_right))
    | (with_reducible apply Within.via (l := 132120) (m := 8) (hm := by decide)); (case h => (with_reducible apply State.ledAdd_within); decide)
    | (with_reducible apply Within.via (l := 132120) (m := 132120) (hm := by decide)); (case h => with_reducible apply State.surfSettle_within)
    | (with_reducible apply Within.via (l := 132120) (m := 131072) (hm := by decide)); (case h => with_reducible apply State.updSurf_within)
    | split

theorem State.hbmPut_within (s : State) (x : Nat) (bs : List Byte) : Within 2199023255552 s (s.hbmPut x bs) := by
  refine ⟨(fun p hp => by cases p <;> first | exact absurd hp (by decide) | rfl), fun g => ⟨g.balanced, ⟨g.canonical.1, g.canonical.2.1, ?_, g.canonical.2.2.2⟩, g.legal⟩⟩
  exact Tab.wf_foldl_set (fun p : Byte × Nat => x + p.2) (fun p => some p.1) _ g.canonical.2.2.1

theorem State.hbmClear_within (s : State) (b e : Nat) : Within 2199023255552 s (s.hbmClear b e) := by
  refine ⟨(fun p hp => by cases p <;> first | exact absurd hp (by decide) | rfl), fun g => ⟨g.balanced, ⟨g.canonical.1, g.canonical.2.1, ?_, g.canonical.2.2.2⟩, g.legal⟩⟩
  exact Tab.wf_filter _ g.canonical.2.2.1

theorem State.hbmFound_within (s : State) (e : HbmErr) :
    Within 66 s (State.hbmFound s e) := by
  unfold State.hbmFound
  repeat'
    first
    | with_reducible apply Within.refl
    | with_reducible assumption
    | (extract_lets +onlyGivenNames x; refine Within.cut (l := 66) (r := s) (x := x) ?_ ?_; rotate_left; (try clear_value x); intro _; rotate_right; subst x)
    | (extract_lets +onlyGivenNames x; try clear_value x)
    | (with_reducible apply Within.via (l := 66) (m := 2) (hm := by decide)); (case h => with_reducible apply State.count_within)
    | (with_reducible apply Within.via (l := 66) (m := 2) (hm := by decide)); (case h => with_reducible apply State.fset_within)
    | (with_reducible apply Within.via (l := 66) (m := 64) (hm := by decide)); (case h => with_reducible apply State.occur_within)
    | (with_reducible apply Within.via (l := 66) (m := 2) (hm := by decide)); (case h => with_reducible apply State.wr_within)
    | split

theorem State.granulesMet_within (s : State) (ecc : List HbmErr) :
    Within 66 s (State.granulesMet s ecc) := by
  unfold State.granulesMet
  repeat'
    first
    | with_reducible apply Within.refl
    | with_reducible assumption
    | ((with_reducible apply Within.fold); (rotate_left; intro _ _ _; rotate_right))
    | (with_reducible apply Within.via (l := 66) (m := 66) (hm := by decide)); (case h => with_reducible apply State.hbmFound_within)
    | split

theorem State.hbmCopy_within (s : State) (src dst n : Nat) : Within 2199023255552 s (s.hbmCopy src dst n) := by
  unfold State.hbmCopy
  extract_lets cells t
  have h : Within 2199023255552 s t := State.hbmClear_within _ _ _
  clear_value t
  refine Within.via (m := 2199023255552) (s := t) ⟨(fun p hp => by cases p <;> first | exact absurd hp (by decide) | rfl), fun g => ⟨g.balanced, ⟨g.canonical.1, g.canonical.2.1, ?_, g.canonical.2.2.2⟩, g.legal⟩⟩ (by decide) h
  exact Tab.wf_foldl_set (fun p : Nat × Option Byte => dst + (p.1 - src)) (fun p => p.2) _ g.canonical.2.2.1

theorem State.surfAlloc_within (s : State) (owner : Nat) (d : List Byte) :
    Within 2199023386632 s (State.surfAlloc s owner d).2 := by
  unfold State.surfAlloc
  show Within2 _ _ _
  repeat'
    first
    | with_reducible apply Within.refl
    | with_reducible assumption
    | (extract_lets +onlyGivenNames x; refine Within.cut (l := 2199023386632) (r := s) (x := x) ?_ ?_; rotate_left; (try clear_value x); intro _; rotate_right; subst x)
    | (extract_lets +onlyGivenNames x; try clear_value x)
    | with_reducible apply Within2.mk
    | (with_reducible apply State.updSrf_via (l := 2199023386632) (hm := by decide))
    | (with_reducible apply Within.via (l := 2199023386632) (m := 8) (hm := by decide)); (case h => (with_reducible apply State.ledAdd_within); decide)
    | (with_reducible apply Within.via (l := 2199023386632) (m := 2199023255552) (hm := by decide)); (case h => with_reducible apply State.hbmClear_within)
    | split

theorem execOpSurfAlloc_within (n : Fin 64) (s : State) :
    WithinO 2199023387736 s (execOpSurfAlloc n s) := by
  unfold execOpSurfAlloc
  repeat'
    first
    | with_reducible apply Within.refl
    | with_reducible assumption
    | (extract_lets +onlyGivenNames x; refine Within.cut (l := 2199023387736) (r := s) (x := x) ?_ ?_; rotate_left; (try clear_value x); intro _; rotate_right; subst x)
    | (extract_lets +onlyGivenNames x; refine Within.cut2 (l := 2199023387736) (r := s) (x := x) ?_ ?_; rotate_left; (try clear_value x); intro _; rotate_right; subst x)
    | (extract_lets +onlyGivenNames x; refine Within.cut1 (l := 2199023387736) (r := s) (x := x) ?_ ?_; rotate_left; (try clear_value x); intro _; rotate_right; subst x)
    | (extract_lets +onlyGivenNames x; try clear_value x)
    | (with_reducible apply Within2.snd; with_reducible assumption)
    | (with_reducible apply Within1.fst; with_reducible assumption)
    | with_reducible apply Within2.mk
    | with_reducible apply Within1.mk
    | with_reducible refine Within2.fold ?_ (fun _ _ _ => ?_)
    | with_reducible refine Within1.fold ?_ (fun _ _ _ => ?_)
    | with_reducible apply WithinO.next
    | with_reducible apply WithinO.fault
    | (with_reducible apply Within.via (l := 2199023387736) (m := 1040) (hm := by decide)); (case h => with_reducible apply State.complete_within)
    | with_reducible refine State.runOp_via (by decide) ?_ (fun _ _ _ => ?_)
    | (with_reducible apply Within2.via (l := 2199023387736) (m := 2199023386632) (hm := by decide)); (case h => with_reducible apply State.surfAlloc_within)
    | (with_reducible apply Within.via (l := 2199023387736) (m := 2199023386632) (hm := by decide)); (case h => with_reducible apply State.surfAlloc_within)
    | (with_reducible apply Within.via (l := 2199023387736) (m := 2199023386632) (hm := by decide)); (case h => (with_reducible apply Within2.ofEq (State.surfAlloc_within _ _ _)); with_reducible assumption)
    | split
    | dsimp only
    | (with_reducible refine Within2.ofEq' ?_ (by assumption))

theorem execOpSurfUpload_within (n : Fin 64) (s : State) :
    WithinO 8520794 s (execOpSurfUpload n s) := by
  unfold execOpSurfUpload
  repeat'
    first
    | with_reducible apply Within.refl
    | with_reducible assumption
    | (extract_lets +onlyGivenNames x; refine Within.cut (l := 8520794) (r := s) (x := x) ?_ ?_; rotate_left; (try clear_value x); intro _; rotate_right; subst x)
    | (extract_lets +onlyGivenNames x; refine Within.cut2 (l := 8520794) (r := s) (x := x) ?_ ?_; rotate_left; (try clear_value x); intro _; rotate_right; subst x)
    | (extract_lets +onlyGivenNames x; refine Within.cut1 (l := 8520794) (r := s) (x := x) ?_ ?_; rotate_left; (try clear_value x); intro _; rotate_right; subst x)
    | (extract_lets +onlyGivenNames x; try clear_value x)
    | (with_reducible apply Within2.snd; with_reducible assumption)
    | (with_reducible apply Within1.fst; with_reducible assumption)
    | with_reducible apply Within2.mk
    | with_reducible apply Within1.mk
    | with_reducible refine Within2.fold ?_ (fun _ _ _ => ?_)
    | with_reducible refine Within1.fold ?_ (fun _ _ _ => ?_)
    | with_reducible apply WithinO.next
    | with_reducible apply WithinO.fault
    | (with_reducible apply Within.via (l := 8520794) (m := 1040) (hm := by decide)); (case h => with_reducible apply State.complete_within)
    | (with_reducible apply Within2.via (l := 8520794) (m := 8388618) (hm := by decide)); (case h => with_reducible apply State.leaveAsk_within)
    | (with_reducible apply Within.via (l := 8520794) (m := 8388618) (hm := by decide)); (case h => with_reducible apply State.leaveAsk_within)
    | (with_reducible apply Within.via (l := 8520794) (m := 8388618) (hm := by decide)); (case h => (with_reducible apply Within2.ofEq (State.leaveAsk_within _ _ _ _)); with_reducible assumption)
    | with_reducible refine State.runOp_via (by decide) ?_ (fun _ _ _ => ?_)
    | (with_reducible apply Within.via (l := 8520794) (m := 131072) (hm := by decide)); (case h => with_reducible apply State.updSurf_within)
    | split
    | dsimp only
    | (with_reducible refine Within2.ofEq' ?_ (by assumption))

theorem State.uploadRows_within (s : State) (f : Surf) (u : Upload) (rows : List (List Byte)) :
    Within 2199023255552 s (State.uploadRows s f u rows) := by
  unfold State.uploadRows
  repeat'
    first
    | with_reducible apply Within.refl
    | with_reducible assumption
    | (extract_lets +onlyGivenNames x; refine Within.cut (l := 2199023255552) (r := s) (x := x) ?_ ?_; rotate_left; (try clear_value x); intro _; rotate_right; subst x)
    | (extract_lets +onlyGivenNames x; try clear_value x)
    | ((with_reducible apply Within.fold); (rotate_left; intro _ _ _; rotate_right))
    | (with_reducible apply Within.via (l := 2199023255552) (m := 2199023255552) (hm := by decide)); (case h => with_reducible apply State.hbmClear_within)
    | (with_reducible apply Within.via (l := 2199023255552) (m := 2199023255552) (hm := by decide)); (case h => with_reducible apply State.hbmPut_within)
    | split

theorem execSurfUploadEnd_within (h : BitVec 32) (rows : List (List Byte)) (s : State) :
    WithinO 2199031776346 s (execSurfUploadEnd h rows s) := by
  unfold execSurfUploadEnd
  repeat'
    first
    | with_reducible apply Within.refl
    | with_reducible assumption
    | (extract_lets +onlyGivenNames x; refine Within.cut (l := 2199031776346) (r := s) (x := x) ?_ ?_; rotate_left; (try clear_value x); intro _; rotate_right; subst x)
    | (extract_lets +onlyGivenNames x; try clear_value x)
    | with_reducible apply WithinO.next
    | with_reducible apply WithinO.fault
    | (with_reducible apply Within.via (l := 2199031776346) (m := 1040) (hm := by decide)); (case h => with_reducible apply State.completeAt_within)
    | (with_reducible apply Within.via (l := 2199031776346) (m := 8388682) (hm := by decide)); (case h => with_reducible apply State.leaveRet_within)
    | (with_reducible apply Within.via (l := 2199031776346) (m := 132120) (hm := by decide)); (case h => with_reducible apply State.surfSettle_within)
    | (with_reducible apply Within.via (l := 2199031776346) (m := 131072) (hm := by decide)); (case h => with_reducible apply State.updSurf_within)
    | (with_reducible apply Within.via (l := 2199031776346) (m := 2199023255552) (hm := by decide)); (case h => with_reducible apply State.uploadRows_within)
    | split

theorem execOpSurfFree_within (n : Fin 64) (s : State) :
    WithinO 132184 s (execOpSurfFree n s) := by
  unfold execOpSurfFree
  repeat'
    first
    | with_reducible apply Within.refl
    | with_reducible assumption
    | (extract_lets +onlyGivenNames x; refine Within.cut (l := 132184) (r := s) (x := x) ?_ ?_; rotate_left; (try clear_value x); intro _; rotate_right; subst x)
    | (extract_lets +onlyGivenNames x; try clear_value x)
    | with_reducible apply WithinO.next
    | with_reducible apply WithinO.fault
    | (with_reducible apply Within.via (l := 132184) (m := 1040) (hm := by decide)); (case h => with_reducible apply State.complete_within)
    | (with_reducible apply Within.via (l := 132184) (m := 1040) (hm := by decide)); (case h => with_reducible apply State.endOp_within)
    | with_reducible refine State.runOp_via (by decide) ?_ (fun _ _ _ => ?_)
    | (with_reducible apply Within.via (l := 132184) (m := 132120) (hm := by decide)); (case h => with_reducible apply State.surfSettle_within)
    | (with_reducible apply Within.via (l := 132184) (m := 131072) (hm := by decide)); (case h => with_reducible apply State.updSurf_within)
    | split

end Sys2Proof.Machine
end

