-- ==== Sys2Proof/Laws/FrameScalers.lean ====
section
/-!
SUPPORT. Laws/FrameScalers.lean: what each function of Machine/Scalers.lean can touch.
-/
set_option linter.unusedTactic false
set_option linter.unreachableTactic false
set_option linter.tactic.unusedName false

namespace Sys2Proof.Machine

theorem State.setScl_within (s : State) (n : Nat) (v : Scaler) :
    Within 262144 s (State.setScl s n v) := by
  unfold State.setScl
  repeat'
    first
    | with_reducible apply Within.refl
    | with_reducible assumption
    | (with_reducible apply State.updScc_via (m := 262144) (l := 262144) (hm := by decide)); (case hscalers => exact (fun h => absurd h (by decide))); (case hcolour => exact (fun _ _ => rfl))
    | split

theorem State.claimScl_within (s : State) (n : Nat) (gang : Bool) (owner : Nat) (byTake : Bool) (th tv sh sv : Nat) :
    Within 262144 s (State.claimScl s n gang owner byTake th tv sh sv) := by
  unfold State.claimScl
  repeat'
    first
    | with_reducible apply Within.refl
    | with_reducible assumption
    | (extract_lets +onlyGivenNames x; refine Within.cut (l := 262144) (r := s) (x := x) ?_ ?_; rotate_left; (try clear_value x); intro _; rotate_right; subst x)
    | (extract_lets +onlyGivenNames x; try clear_value x)
    | (with_reducible apply Within.via (l := 262144) (m := 262144) (hm := by decide)); (case h => with_reducible apply State.setScl_within)
    | split

theorem State.freeScl_within (s : State) (n : Nat) :
    Within 8650826 s (State.freeScl s n).2 := by
  unfold State.freeScl
  show Within2 _ _ _
  repeat'
    first
    | with_reducible apply Within.refl
    | with_reducible assumption
    | (extract_lets +onlyGivenNames x; refine Within.cut (l := 8650826) (r := s) (x := x) ?_ ?_; rotate_left; (try clear_value x); intro _; rotate_right; subst x)
    | (extract_lets +onlyGivenNames x; try clear_value x)
    | with_reducible apply Within2.mk
    | (with_reducible apply Within.via (l := 8650826) (m := 8388682) (hm := by decide)); (case h => with_reducible apply State.leaveRet_within)
    | (with_reducible apply Within.via (l := 8650826) (m := 262144) (hm := by decide)); (case h => with_reducible apply State.setScl_within)
    | split

theorem execScalerClaim_within (n : Fin 64) (s : State) :
    WithinO 8651866 s (execScalerClaim n s) := by
  unfold execScalerClaim
  repeat'
    first
    | with_reducible apply Within.refl
    | with_reducible assumption
    | (extract_lets +onlyGivenNames x; refine Within.cut (l := 8651866) (r := s) (x := x) ?_ ?_; rotate_left; (try clear_value x); intro _; rotate_right; subst x)
    | (extract_lets +onlyGivenNames x; refine Within.cut2 (l := 8651866) (r := s) (x := x) ?_ ?_; rotate_left; (try clear_value x); intro _; rotate_right; subst x)
    | (extract_lets +onlyGivenNames x; refine Within.cut1 (l := 8651866) (r := s) (x := x) ?_ ?_; rotate_left; (try clear_value x); intro _; rotate_right; subst x)
    | (extract_lets +onlyGivenNames x; try clear_value x)
    | (with_reducible apply Within2.snd; with_reducible assumption)
    | (with_reducible apply Within1.fst; with_reducible assumption)
    | with_reducible apply Within2.mk
    | with_reducible apply Within1.mk
    | with_reducible refine Within2.fold ?_ (fun _ _ _ => ?_)
    | with_reducible refine Within1.fold ?_ (fun _ _ _ => ?_)
    | with_reducible apply WithinO.next
    | with_reducible apply WithinO.fault
    | (with_reducible apply Within.via (l := 8651866) (m := 262144) (hm := by decide)); (case h => with_reducible apply State.claimScl_within)
    | (with_reducible apply Within.via (l := 8651866) (m := 1040) (hm := by decide)); (case h => with_reducible apply State.complete_within)
    | (with_reducible apply Within2.via (l := 8651866) (m := 8388618) (hm := by decide)); (case h => with_reducible apply State.leaveAsk_within)
    | (with_reducible apply Within.via (l := 8651866) (m := 8388618) (hm := by decide)); (case h => with_reducible apply State.leaveAsk_within)
    | (with_reducible apply Within.via (l := 8651866) (m := 8388618) (hm := by decide)); (case h => (with_reducible apply Within2.ofEq (State.leaveAsk_within _ _ _ _)); with_reducible assumption)
    | with_reducible refine State.runOp_via (by decide) ?_ (fun _ _ _ => ?_)
    | split
    | dsimp only
    | (with_reducible refine Within2.ofEq' ?_ (by assumption))

theorem execScalerRelease_within (n : Fin 64) (s : State) :
    WithinO 8651866 s (execScalerRelease n s) := by
  unfold execScalerRelease
  repeat'
    first
    | with_reducible apply Within.refl
    | with_reducible assumption
    | (extract_lets +onlyGivenNames x; refine Within.cut (l := 8651866) (r := s) (x := x) ?_ ?_; rotate_left; (try clear_value x); intro _; rotate_right; subst x)
    | (extract_lets +onlyGivenNames x; refine Within.cut2 (l := 8651866) (r := s) (x := x) ?_ ?_; rotate_left; (try clear_value x); intro _; rotate_right; subst x)
    | (extract_lets +onlyGivenNames x; refine Within.cut1 (l := 8651866) (r := s) (x := x) ?_ ?_; rotate_left; (try clear_value x); intro _; rotate_right; subst x)
    | (extract_lets +onlyGivenNames x; try clear_value x)
    | (with_reducible apply Within2.snd; with_reducible assumption)
    | (with_reducible apply Within1.fst; with_reducible assumption)
    | with_reducible apply Within2.mk
    | with_reducible apply Within1.mk
    | with_reducible refine Within2.fold ?_ (fun _ _ _ => ?_)
    | with_reducible refine Within1.fold ?_ (fun _ _ _ => ?_)
    | with_reducible apply WithinO.next
    | with_reducible apply WithinO.fault
    | (with_reducible apply Within.via (l := 8651866) (m := 1040) (hm := by decide)); (case h => with_reducible apply State.complete_within)
    | (with_reducible apply Within2.via (l := 8651866) (m := 8650826) (hm := by decide)); (case h => with_reducible apply State.freeScl_within)
    | (with_reducible apply Within.via (l := 8651866) (m := 8650826) (hm := by decide)); (case h => with_reducible apply State.freeScl_within)
    | (with_reducible apply Within.via (l := 8651866) (m := 8650826) (hm := by decide)); (case h => (with_reducible apply Within2.ofEq (State.freeScl_within _ _)); with_reducible assumption)
    | with_reducible refine State.runOp_via (by decide) ?_ (fun _ _ _ => ?_)
    | split
    | dsimp only
    | (with_reducible refine Within2.ofEq' ?_ (by assumption))

theorem execScalerConfigure_within (n : Fin 64) (s : State) :
    WithinO 263248 s (execScalerConfigure n s) := by
  unfold execScalerConfigure
  repeat'
    first
    | with_reducible apply Within.refl
    | with_reducible assumption
    | (extract_lets +onlyGivenNames x; refine Within.cut (l := 263248) (r := s) (x := x) ?_ ?_; rotate_left; (try clear_value x); intro _; rotate_right; subst x)
    | (extract_lets +onlyGivenNames x; try clear_value x)
    | with_reducible apply WithinO.next
    | with_reducible apply WithinO.fault
    | (with_reducible apply Within.via (l := 263248) (m := 1040) (hm := by decide)); (case h => with_reducible apply State.complete_within)
    | with_reducible refine State.runOp_via (by decide) ?_ (fun _ _ _ => ?_)
    | (with_reducible apply Within.via (l := 263248) (m := 262144) (hm := by decide)); (case h => with_reducible apply State.setScl_within)
    | split

end Sys2Proof.Machine
end

