-- ==== Sys2Proof/Laws/FrameConverters.lean ====
section
/-!
SUPPORT. Laws/FrameConverters.lean: what each function of Machine/Converters.lean can touch.
-/
set_option linter.unusedTactic false
set_option linter.unreachableTactic false
set_option linter.tactic.unusedName false

namespace Sys2Proof.Machine

theorem State.setPolder_within (s : State) (p : Nat) (v : Polder) :
    Within 536870912 s (State.setPolder s p v) := by
  unfold State.setPolder
  repeat'
    first
    | with_reducible apply Within.refl
    | with_reducible assumption
    | (with_reducible apply State.updTim_via (m := 536870912) (l := 536870912) (hm := by decide)); (case hphc => exact (fun _ _ => rfl)); (case hrefs => exact (fun _ _ => rfl)); (case hsyns => exact (fun _ _ => rfl)); (case hpolders => exact (fun h => absurd h (by decide))); (case cphc => exact (fun _ => rfl)); (case cstepWait => exact (fun _ => rfl))
    | split

theorem State.setCnv_within (s : State) (m : Nat) (v : Conv) :
    Within 1048576 s (State.setCnv s m v) := by
  unfold State.setCnv
  repeat'
    first
    | with_reducible apply Within.refl
    | with_reducible assumption
    | (with_reducible apply State.updOut_via (m := 1048576) (l := 1048576) (hm := by decide)); (case hconverters => exact (fun h => absurd h (by decide))); (case hdestinations => exact (fun _ _ => rfl)); (case hpushes => exact (fun _ _ => rfl))
    | split

theorem State.updCnv_within (s : State) (m : Nat) (f : Conv → Conv) :
    Within 1048576 s (State.updCnv s m f) := by
  unfold State.updCnv
  repeat'
    first
    | with_reducible apply Within.refl
    | with_reducible assumption
    | (with_reducible apply Within.via (l := 1048576) (m := 1048576) (hm := by decide)); (case h => with_reducible apply State.setCnv_within)
    | split

theorem State.setHead_within (s : State) (h : Nat) (v : Head) :
    Within 32768 s (State.setHead s h v) := by
  unfold State.setHead
  repeat'
    first
    | with_reducible apply Within.refl
    | with_reducible assumption
    | (with_reducible apply State.updHds_via (m := 32768) (l := 32768) (hm := by decide)); (case hheads => exact (fun h => absurd h (by decide))); (case hshots => exact (fun _ _ => rfl)); (case hsalvos => exact (fun _ _ => rfl))
    | split

theorem State.updHead_within (s : State) (h : Nat) (f : Head → Head) :
    Within 32768 s (State.updHead s h f) := by
  unfold State.updHead
  repeat'
    first
    | with_reducible apply Within.refl
    | with_reducible assumption
    | (with_reducible apply Within.via (l := 32768) (m := 32768) (hm := by decide)); (case h => with_reducible apply State.setHead_within)
    | split

theorem State.cnvRaise_within (s : State) (m bit code : Nat) (d : List (Nat × Nat × Nat)) :
    Within 66 s (State.cnvRaise s m bit code d) := by
  unfold State.cnvRaise
  repeat'
    first
    | with_reducible apply Within.refl
    | with_reducible assumption
    | (with_reducible apply Within.via (l := 66) (m := 66) (hm := by decide)); (case h => with_reducible apply State.raise_within)
    | split

theorem State.cnvCount_within (s : State) (m c k : Nat) :
    Within 8 s (State.cnvCount s m c k) := by
  unfold State.cnvCount
  repeat'
    first
    | with_reducible apply Within.refl
    | with_reducible assumption
    | (with_reducible apply Within.via (l := 8) (m := 8) (hm := by decide)); (case h => (with_reducible apply State.ledAdd_within); decide)
    | split

theorem State.cnvUnlock_within (s : State) (m : Nat) :
    Within 1048642 s (State.cnvUnlock s m) := by
  unfold State.cnvUnlock
  repeat'
    first
    | with_reducible apply Within.refl
    | with_reducible assumption
    | (extract_lets +onlyGivenNames x; refine Within.cut (l := 1048642) (r := s) (x := x) ?_ ?_; rotate_left; (try clear_value x); intro _; rotate_right; subst x)
    | (extract_lets +onlyGivenNames x; try clear_value x)
    | (with_reducible apply Within.via (l := 1048642) (m := 66) (hm := by decide)); (case h => with_reducible apply State.cnvRaise_within)
    | (with_reducible apply Within.via (l := 1048642) (m := 1048576) (hm := by decide)); (case h => with_reducible apply State.setCnv_within)
    | split

theorem State.cnvPicture_within (s : State) (m : Nat) (f : Frame) (field : Nat) (time : Int) (rep : Bool) :
    Within 1048642 s (State.cnvPicture s m f field time rep) := by
  unfold State.cnvPicture
  repeat'
    first
    | with_reducible apply Within.refl
    | with_reducible assumption
    | (extract_lets +onlyGivenNames x; refine Within.cut (l := 1048642) (r := s) (x := x) ?_ ?_; rotate_left; (try clear_value x); intro _; rotate_right; subst x)
    | (extract_lets +onlyGivenNames x; try clear_value x)
    | (with_reducible apply Within.via (l := 1048642) (m := 66) (hm := by decide)); (case h => with_reducible apply State.cnvRaise_within)
    | (with_reducible apply Within.via (l := 1048642) (m := 1048576) (hm := by decide)); (case h => with_reducible apply State.setCnv_within)
    | split

theorem State.cnvTake_within (s : State) (m : Nat) (f : Frame) (time : Int) (reps : List Bool) :
    Within 1048642 s (State.cnvTake s m f time reps) := by
  unfold State.cnvTake
  repeat'
    first
    | with_reducible apply Within.refl
    | with_reducible assumption
    | (extract_lets +onlyGivenNames x; refine Within.cut (l := 1048642) (r := s) (x := x) ?_ ?_; rotate_left; (try clear_value x); intro _; rotate_right; subst x)
    | (extract_lets +onlyGivenNames x; try clear_value x)
    | (with_reducible apply Within.via (l := 1048642) (m := 1048642) (hm := by decide)); (case h => with_reducible apply State.cnvPicture_within)
    | (with_reducible apply Within.via (l := 1048642) (m := 1048576) (hm := by decide)); (case h => with_reducible apply State.setCnv_within)
    | split

theorem State.cnvDrop_within (s : State) (m : Nat) :
    Within 1048650 s (State.cnvDrop s m) := by
  unfold State.cnvDrop
  repeat'
    first
    | with_reducible apply Within.refl
    | with_reducible assumption
    | (extract_lets +onlyGivenNames x; refine Within.cut (l := 1048650) (r := s) (x := x) ?_ ?_; rotate_left; (try clear_value x); intro _; rotate_right; subst x)
    | (extract_lets +onlyGivenNames x; try clear_value x)
    | (with_reducible apply Within.via (l := 1048650) (m := 8) (hm := by decide)); (case h => with_reducible apply State.cnvCount_within)
    | (with_reducible apply Within.via (l := 1048650) (m := 1048642) (hm := by decide)); (case h => with_reducible apply State.cnvUnlock_within)
    | (with_reducible apply Within.via (l := 1048650) (m := 1048576) (hm := by decide)); (case h => with_reducible apply State.updCnv_within)
    | split

theorem State.claimCnv_within (s : State) (m : Nat) (uhd : Bool) (owner : Nat) (byTake : Bool) (input polder mode scan cadence confMin power fetch : Nat) :
    Within 1048642 s (State.claimCnv s m uhd owner byTake input polder mode scan cadence confMin power fetch) := by
  unfold State.claimCnv
  repeat'
    first
    | with_reducible apply Within.refl
    | with_reducible assumption
    | (extract_lets +onlyGivenNames x; refine Within.cut (l := 1048642) (r := s) (x := x) ?_ ?_; rotate_left; (try clear_value x); intro _; rotate_right; subst x)
    | (extract_lets +onlyGivenNames x; try clear_value x)
    | ((with_reducible apply Within.fold); (rotate_left; intro _ _ _; rotate_right))
    | (with_reducible apply Within.via (l := 1048642) (m := 1048642) (hm := by decide)); (case h => with_reducible apply State.cnvTake_within)
    | (with_reducible apply Within.via (l := 1048642) (m := 2) (hm := by decide)); (case h => with_reducible apply State.count_within)
    | (with_reducible apply Within.via (l := 1048642) (m := 1048576) (hm := by decide)); (case h => with_reducible apply State.setCnv_within)
    | (with_reducible apply Within.via (l := 1048642) (m := 1048576) (hm := by decide)); (case h => with_reducible apply State.updCnv_within)
    | split

theorem State.releaseCnv_within (s : State) (m : Nat) :
    Within 9441354 s (State.releaseCnv s m) := by
  unfold State.releaseCnv
  repeat'
    first
    | with_reducible apply Within.refl
    | with_reducible assumption
    | (extract_lets +onlyGivenNames x; refine Within.cut (l := 9441354) (r := s) (x := x) ?_ ?_; rotate_left; (try clear_value x); intro _; rotate_right; subst x)
    | (extract_lets +onlyGivenNames x; try clear_value x)
    | ((with_reducible apply Within.fold); (rotate_left; intro _ _ _; rotate_right))
    | (with_reducible apply Within.via (l := 9441354) (m := 8388682) (hm := by decide)); (case h => with_reducible apply State.leaveRet_within)
    | (with_reducible apply Within.via (l := 9441354) (m := 4096) (hm := by decide)); (case h => with_reducible apply State.unpin_within)
    | (with_reducible apply Within.via (l := 9441354) (m := 1048576) (hm := by decide)); (case h => with_reducible apply State.updCnv_within)
    | split

theorem execConvClaim_within (n : Fin 64) (s : State) :
    WithinO 9438298 s (execConvClaim n s) := by
  unfold execConvClaim
  repeat'
    first
    | with_reducible apply Within.refl
    | with_reducible assumption
    | (extract_lets +onlyGivenNames x; refine Within.cut (l := 9438298) (r := s) (x := x) ?_ ?_; rotate_left; (try clear_value x); intro _; rotate_right; subst x)
    | (extract_lets +onlyGivenNames x; refine Within.cut2 (l := 9438298) (r := s) (x := x) ?_ ?_; rotate_left; (try clear_value x); intro _; rotate_right; subst x)
    | (extract_lets +onlyGivenNames x; refine Within.cut1 (l := 9438298) (r := s) (x := x) ?_ ?_; rotate_left; (try clear_value x); intro _; rotate_right; subst x)
    | (extract_lets +onlyGivenNames x; try clear_value x)
    | (with_reducible apply Within2.snd; with_reducible assumption)
    | (with_reducible apply Within1.fst; with_reducible assumption)
    | with_reducible apply Within2.mk
    | with_reducible apply Within1.mk
    | with_reducible refine Within2.fold ?_ (fun _ _ _ => ?_)
    | with_reducible refine Within1.fold ?_ (fun _ _ _ => ?_)
    | with_reducible apply WithinO.next
    | with_reducible apply WithinO.fault
    | (with_reducible apply Within.via (l := 9438298) (m := 1048642) (hm := by decide)); (case h => with_reducible apply State.claimCnv_within)
    | (with_reducible apply Within.via (l := 9438298) (m := 1040) (hm := by decide)); (case h => with_reducible apply State.complete_within)
    | (with_reducible apply Within2.via (l := 9438298) (m := 8388618) (hm := by decide)); (case h => with_reducible apply State.leaveAsk_within)
    | (with_reducible apply Within.via (l := 9438298) (m := 8388618) (hm := by decide)); (case h => with_reducible apply State.leaveAsk_within)
    | (with_reducible apply Within.via (l := 9438298) (m := 8388618) (hm := by decide)); (case h => (with_reducible apply Within2.ofEq (State.leaveAsk_within _ _ _ _)); with_reducible assumption)
    | with_reducible refine State.runOp_via (by decide) ?_ (fun _ _ _ => ?_)
    | split
    | dsimp only
    | (with_reducible refine Within2.ofEq' ?_ (by assumption))

theorem execConvRelease_within (n : Fin 64) (s : State) :
    WithinO 9442394 s (execConvRelease n s) := by
  unfold execConvRelease
  repeat'
    first
    | with_reducible apply Within.refl
    | with_reducible assumption
    | (extract_lets +onlyGivenNames x; refine Within.cut (l := 9442394) (r := s) (x := x) ?_ ?_; rotate_left; (try clear_value x); intro _; rotate_right; subst x)
    | (extract_lets +onlyGivenNames x; try clear_value x)
    | with_reducible apply WithinO.next
    | with_reducible apply WithinO.fault
    | (with_reducible apply Within.via (l := 9442394) (m := 1040) (hm := by decide)); (case h => with_reducible apply State.complete_within)
    | (with_reducible apply Within.via (l := 9442394) (m := 9441354) (hm := by decide)); (case h => with_reducible apply State.releaseCnv_within)
    | with_reducible refine State.runOp_via (by decide) ?_ (fun _ _ _ => ?_)
    | split

theorem execConvMode_within (n : Fin 64) (s : State) :
    WithinO 9438298 s (execConvMode n s) := by
  unfold execConvMode
  repeat'
    first
    | with_reducible apply Within.refl
    | with_reducible assumption
    | (extract_lets +onlyGivenNames x; refine Within.cut (l := 9438298) (r := s) (x := x) ?_ ?_; rotate_left; (try clear_value x); intro _; rotate_right; subst x)
    | (extract_lets +onlyGivenNames x; refine Within.cut2 (l := 9438298) (r := s) (x := x) ?_ ?_; rotate_left; (try clear_value x); intro _; rotate_right; subst x)
    | (extract_lets +onlyGivenNames x; refine Within.cut1 (l := 9438298) (r := s) (x := x) ?_ ?_; rotate_left; (try clear_value x); intro _; rotate_right; subst x)
    | (extract_lets +onlyGivenNames x; try clear_value x)
    | (with_reducible apply Within2.snd; with_reducible assumption)
    | (with_reducible apply Within1.fst; with_reducible assumption)
    | with_reducible apply Within2.mk
    | with_reducible apply Within1.mk
    | with_reducible refine Within2.fold ?_ (fun _ _ _ => ?_)
    | with_reducible refine Within1.fold ?_ (fun _ _ _ => ?_)
    | with_reducible apply WithinO.next
    | with_reducible apply WithinO.fault
    | (with_reducible apply Within.via (l := 9438298) (m := 1040) (hm := by decide)); (case h => with_reducible apply State.complete_within)
    | (with_reducible apply Within2.via (l := 9438298) (m := 8388618) (hm := by decide)); (case h => with_reducible apply State.leaveAsk_within)
    | (with_reducible apply Within.via (l := 9438298) (m := 8388618) (hm := by decide)); (case h => with_reducible apply State.leaveAsk_within)
    | (with_reducible apply Within.via (l := 9438298) (m := 8388618) (hm := by decide)); (case h => (with_reducible apply Within2.ofEq (State.leaveAsk_within _ _ _ _)); with_reducible assumption)
    | with_reducible refine State.runOp_via (by decide) ?_ (fun _ _ _ => ?_)
    | (with_reducible apply Within.via (l := 9438298) (m := 1048576) (hm := by decide)); (case h => with_reducible apply State.updCnv_within)
    | split
    | dsimp only
    | (with_reducible refine Within2.ofEq' ?_ (by assumption))

theorem State.cnvTakeAll_within (s : State) (m pj : Nat) (reps : List Bool) :
    Within 1052746 s (State.cnvTakeAll s m pj reps) := by
  unfold State.cnvTakeAll
  repeat'
    first
    | with_reducible apply Within.refl
    | with_reducible assumption
    | (extract_lets +onlyGivenNames x; refine Within.cut (l := 1052746) (r := s) (x := x) ?_ ?_; rotate_left; (try clear_value x); intro _; rotate_right; subst x)
    | (extract_lets +onlyGivenNames x; try clear_value x)
    | ((with_reducible apply Within.fold); (rotate_left; intro _ _ _; rotate_right))
    | (with_reducible apply Within.via (l := 1052746) (m := 1048642) (hm := by decide)); (case h => with_reducible apply State.cnvTake_within)
    | (with_reducible apply Within.via (l := 1052746) (m := 4104) (hm := by decide)); (case h => with_reducible apply State.takeFrame_within)
    | (with_reducible apply Within.via (l := 1052746) (m := 4096) (hm := by decide)); (case h => with_reducible apply State.unpin_within)
    | (with_reducible apply Within.via (l := 1052746) (m := 1048576) (hm := by decide)); (case h => with_reducible apply State.updCnv_within)
    | split

theorem State.cnvPublish_within (s : State) (m : Nat) :
    Within 1099512676426 s (State.cnvPublish s m) := by
  unfold State.cnvPublish
  repeat'
    first
    | with_reducible apply Within.refl
    | with_reducible assumption
    | (extract_lets +onlyGivenNames x; refine Within.cut (l := 1099512676426) (r := s) (x := x) ?_ ?_; rotate_left; (try clear_value x); intro _; rotate_right; subst x)
    | (extract_lets +onlyGivenNames x; try clear_value x)
    | (with_reducible apply Within.via (l := 1099512676426) (m := 8) (hm := by decide)); (case h => with_reducible apply State.cnvCount_within)
    | (with_reducible apply Within.via (l := 1099512676426) (m := 66) (hm := by decide)); (case h => with_reducible apply State.cnvRaise_within)
    | (with_reducible apply Within.via (l := 1099512676426) (m := 1099511627776) (hm := by decide)); (case h => with_reducible apply State.cross_within)
    | (with_reducible apply Within.via (l := 1099512676426) (m := 1048576) (hm := by decide)); (case h => with_reducible apply State.updCnv_within)
    | split

theorem State.cnvFormat_within (s : State) (m : Nat) :
    Within 1048650 s (State.cnvFormat s m) := by
  unfold State.cnvFormat
  repeat'
    first
    | with_reducible apply Within.refl
    | with_reducible assumption
    | (extract_lets +onlyGivenNames x; refine Within.cut (l := 1048650) (r := s) (x := x) ?_ ?_; rotate_left; (try clear_value x); intro _; rotate_right; subst x)
    | (extract_lets +onlyGivenNames x; try clear_value x)
    | (with_reducible apply Within.via (l := 1048650) (m := 1048650) (hm := by decide)); (case h => with_reducible apply State.cnvDrop_within)
    | (with_reducible apply Within.via (l := 1048650) (m := 66) (hm := by decide)); (case h => with_reducible apply State.cnvRaise_within)
    | (with_reducible apply Within.via (l := 1048650) (m := 1048576) (hm := by decide)); (case h => with_reducible apply State.updCnv_within)
    | split

theorem State.cnvMode_within (s : State) (m pj : Nat) :
    Within 9437258 s (State.cnvMode s m pj) := by
  unfold State.cnvMode
  repeat'
    first
    | with_reducible apply Within.refl
    | with_reducible assumption
    | (extract_lets +onlyGivenNames x; refine Within.cut (l := 9437258) (r := s) (x := x) ?_ ?_; rotate_left; (try clear_value x); intro _; rotate_right; subst x)
    | (extract_lets +onlyGivenNames x; try clear_value x)
    | (with_reducible apply Within.via (l := 9437258) (m := 1048642) (hm := by decide)); (case h => with_reducible apply State.cnvUnlock_within)
    | (with_reducible apply Within.via (l := 9437258) (m := 8388682) (hm := by decide)); (case h => with_reducible apply State.leaveRet_within)
    | (with_reducible apply Within.via (l := 9437258) (m := 1048576) (hm := by decide)); (case h => with_reducible apply State.updCnv_within)
    | split

theorem State.cnvShed_within (s : State) (m : Nat) :
    Within 1048642 s (State.cnvShed s m) := by
  unfold State.cnvShed
  repeat'
    first
    | with_reducible apply Within.refl
    | with_reducible assumption
    | (extract_lets +onlyGivenNames x; refine Within.cut (l := 1048642) (r := s) (x := x) ?_ ?_; rotate_left; (try clear_value x); intro _; rotate_right; subst x)
    | (extract_lets +onlyGivenNames x; try clear_value x)
    | (with_reducible apply Within.via (l := 1048642) (m := 66) (hm := by decide)); (case h => with_reducible apply State.cnvRaise_within)
    | (with_reducible apply Within.via (l := 1048642) (m := 1048576) (hm := by decide)); (case h => with_reducible apply State.updCnv_within)
    | split

theorem State.cnvBuild_within (s : State) (m : Nat) (pj : Nat) (matched : List Nat) :
    Within 1048650 s (State.cnvBuild s m pj matched) := by
  unfold State.cnvBuild
  repeat'
    first
    | with_reducible apply Within.refl
    | with_reducible assumption
    | (extract_lets +onlyGivenNames x; refine Within.cut (l := 1048650) (r := s) (x := x) ?_ ?_; rotate_left; (try clear_value x); intro _; rotate_right; subst x)
    | (extract_lets +onlyGivenNames x; refine Within.cutF1 (l := 1048650) (r := s) (x := x) ?_ ?_; rotate_left; (try clear_value x); intro hF; rotate_right; (subst x; intro _ _ _; beta_reduce))
    | with_reducible apply hF
    | (extract_lets +onlyGivenNames x; try clear_value x)
    | (with_reducible apply Within.via (l := 1048650) (m := 1048650) (hm := by decide)); (case h => with_reducible apply State.cnvDrop_within)
    | (with_reducible apply Within.via (l := 1048650) (m := 66) (hm := by decide)); (case h => with_reducible apply State.cnvRaise_within)
    | (with_reducible apply Within.via (l := 1048650) (m := 1048576) (hm := by decide)); (case h => with_reducible apply State.updCnv_within)
    | split

theorem execBuildStart_within (m : Fin 128) (sight : BuildSight) (s : State) :
    WithinO 1099521069130 s (execBuildStart m sight s) := by
  unfold execBuildStart
  repeat'
    first
    | with_reducible apply Within.refl
    | with_reducible assumption
    | (extract_lets +onlyGivenNames x; refine Within.cut (l := 1099521069130) (r := s) (x := x) ?_ ?_; rotate_left; (try clear_value x); intro _; rotate_right; subst x)
    | (extract_lets +onlyGivenNames x; try clear_value x)
    | with_reducible apply WithinO.next
    | with_reducible apply WithinO.fault
    | (with_reducible apply Within.via (l := 1099521069130) (m := 1048650) (hm := by decide)); (case h => with_reducible apply State.cnvBuild_within)
    | (with_reducible apply Within.via (l := 1099521069130) (m := 1048650) (hm := by decide)); (case h => with_reducible apply State.cnvFormat_within)
    | (with_reducible apply Within.via (l := 1099521069130) (m := 9437258) (hm := by decide)); (case h => with_reducible apply State.cnvMode_within)
    | (with_reducible apply Within.via (l := 1099521069130) (m := 1099512676426) (hm := by decide)); (case h => with_reducible apply State.cnvPublish_within)
    | (with_reducible apply Within.via (l := 1099521069130) (m := 1048642) (hm := by decide)); (case h => with_reducible apply State.cnvShed_within)
    | (with_reducible apply Within.via (l := 1099521069130) (m := 1052746) (hm := by decide)); (case h => with_reducible apply State.cnvTakeAll_within)
    | (with_reducible apply Within.via (l := 1099521069130) (m := 2) (hm := by decide)); (case h => with_reducible apply State.count_within)
    | (with_reducible apply Within.via (l := 1099521069130) (m := 1048576) (hm := by decide)); (case h => with_reducible apply State.updCnv_within)
    | split

theorem State.cnvFeed_within (s : State) (h : Nat) (reps : List Bool) :
    Within 1048642 s (State.cnvFeed s h reps) := by
  unfold State.cnvFeed
  repeat'
    first
    | with_reducible apply Within.refl
    | with_reducible assumption
    | (extract_lets +onlyGivenNames x; refine Within.cut (l := 1048642) (r := s) (x := x) ?_ ?_; rotate_left; (try clear_value x); intro _; rotate_right; subst x)
    | (extract_lets +onlyGivenNames x; try clear_value x)
    | ((with_reducible apply Within.fold); (rotate_left; intro _ _ _; rotate_right))
    | (with_reducible apply Within.via (l := 1048642) (m := 1048642) (hm := by decide)); (case h => with_reducible apply State.cnvTake_within)
    | split

end Sys2Proof.Machine
end

