-- ==== Sys2Proof/Laws/FrameHeadCheck.lean ====
section
/-!
SUPPORT. Laws/FrameHeadCheck.lean: what each function of Machine/HeadCheck.lean can touch.
-/
set_option linter.unusedTactic false
set_option linter.unreachableTactic false
set_option linter.tactic.unusedName false

namespace Sys2Proof.Machine

theorem State.setDike_within (s : State) (h : Nat) (v : Dike) :
    Within 2147483648 s (State.setDike s h v) := by
  unfold State.setDike
  repeat'
    first
    | with_reducible apply Within.refl
    | with_reducible assumption
    | (with_reducible apply State.updPsn_via (m := 2147483648) (l := 2147483648) (hm := by decide)); (case hdikes => exact (fun h => absurd h (by decide))); (case hpinSense => exact (fun _ _ => rfl)); (case hseals => exact (fun _ _ => rfl))
    | split

theorem State.setDest_within (s : State) (d : Nat) (v : Dest) :
    Within 2097152 s (State.setDest s d v) := by
  unfold State.setDest
  repeat'
    first
    | with_reducible apply Within.refl
    | with_reducible assumption
    | (with_reducible apply State.updOut_via (m := 2097152) (l := 2097152) (hm := by decide)); (case hconverters => exact (fun _ _ => rfl)); (case hdestinations => exact (fun h => absurd h (by decide))); (case hpushes => exact (fun _ _ => rfl))
    | split

theorem State.updDest_within (s : State) (d : Nat) (f : Dest → Dest) :
    Within 2097152 s (State.updDest s d f) := by
  unfold State.updDest
  repeat'
    first
    | with_reducible apply Within.refl
    | with_reducible assumption
    | (with_reducible apply Within.via (l := 2097152) (m := 2097152) (hm := by decide)); (case h => with_reducible apply State.setDest_within)
    | split

end Sys2Proof.Machine
end

