-- ==== Sys2Proof/Laws/FrameHeads.lean ====
section
/-!
SUPPORT. Laws/FrameHeads.lean: what each function of Machine/Heads.lean can touch.
-/
set_option linter.unusedTactic false
set_option linter.unreachableTactic false
set_option linter.tactic.unusedName false

namespace Sys2Proof.Machine

theorem State.cmtFlag_within (s : State) (h bit mask code ring : Nat) (seq : BitVec 32) (last : Nat) :
    Within 66 s (State.cmtFlag s h bit mask code ring seq last) := by
  unfold State.cmtFlag
  repeat'
    first
    | with_reducible apply Within.refl
    | with_reducible assumption
    | (extract_lets +onlyGivenNames x; refine Within.cut (l := 66) (r := s) (x := x) ?_ ?_; rotate_left; (try clear_value x); intro _; rotate_right; subst x)
    | (extract_lets +onlyGivenNames x; try clear_value x)
    | (with_reducible apply Within.via (l := 66) (m := 64) (hm := by decide)); (case h => with_reducible apply State.occur_within)
    | (with_reducible apply Within.via (l := 66) (m := 2) (hm := by decide)); (case h => with_reducible apply State.setBit_within)
    | split

theorem State.sluiceMiss_within (s : State) (h : Nat) :
    Within 2 s (State.sluiceMiss s h) := by
  unfold State.sluiceMiss
  repeat'
    first
    | with_reducible apply Within.refl
    | with_reducible assumption
    | (with_reducible apply Within.via (l := 2) (m := 2) (hm := by decide)); (case h => with_reducible apply State.count_within)
    | (with_reducible apply Within.via (l := 2) (m := 2) (hm := by decide)); (case h => with_reducible apply State.setBit_within)
    | split

theorem State.missEvent_within (s : State) (h : Nat) (c : Commit) (frame : Nat) :
    Within 64 s (State.missEvent s h c frame) := by
  unfold State.missEvent
  repeat'
    first
    | with_reducible apply Within.refl
    | with_reducible assumption
    | (with_reducible apply Within.via (l := 64) (m := 64) (hm := by decide)); (case h => with_reducible apply State.occur_within)
    | split

theorem State.enqueue_within (s : State) (h : Nat) (c : Commit) :
    Within 163850 s (State.enqueue s h c) := by
  unfold State.enqueue
  repeat'
    first
    | with_reducible apply Within.refl
    | with_reducible assumption
    | (extract_lets +onlyGivenNames x; refine Within.cut (l := 163850) (r := s) (x := x) ?_ ?_; rotate_left; (try clear_value x); intro _; rotate_right; subst x)
    | (extract_lets +onlyGivenNames x; try clear_value x)
    | (with_reducible apply Within.via (l := 163850) (m := 32768) (hm := by decide)); (case h => with_reducible apply State.setHead_within)
    | (with_reducible apply Within.via (l := 163850) (m := 2) (hm := by decide)); (case h => with_reducible apply State.sluiceMiss_within)
    | (with_reducible apply Within.via (l := 163850) (m := 131080) (hm := by decide)); (case h => with_reducible apply State.takeRefs_within)
    | split

theorem State.routesOf_within (s : State) (c : Commit) (applied : Bool) :
    Within 17179870224 s (State.routesOf s c applied) := by
  unfold State.routesOf
  repeat'
    first
    | with_reducible apply Within.refl
    | with_reducible assumption
    | (extract_lets +onlyGivenNames x; refine Within.cut (l := 17179870224) (r := s) (x := x) ?_ ?_; rotate_left; (try clear_value x); intro _; rotate_right; subst x)
    | (extract_lets +onlyGivenNames x; try clear_value x)
    | ((with_reducible apply Within.fold); (rotate_left; intro _ _ _; rotate_right))
    | (with_reducible apply State.updAud_via (l := 17179870224) (hm := by decide))
    | (with_reducible apply Within.via (l := 17179870224) (m := 1040) (hm := by decide)); (case h => with_reducible apply State.completeAt_within)
    | (with_reducible apply Within.via (l := 17179870224) (m := 1040) (hm := by decide)); (case h => with_reducible apply State.endAt_within)
    | split

theorem State.restEnd_within (s : State) :
    Within 274877907008 s (State.restEnd s) := by
  unfold State.restEnd
  repeat'
    first
    | with_reducible apply Within.refl
    | with_reducible assumption
    | (extract_lets +onlyGivenNames x; refine Within.cut (l := 274877907008) (r := s) (x := x) ?_ ?_; rotate_left; (try clear_value x); intro _; rotate_right; subst x)
    | (extract_lets +onlyGivenNames x; try clear_value x)
    | (with_reducible apply State.updRest_via (l := 274877907008) (hm := by decide))
    | (with_reducible apply Within.via (l := 274877907008) (m := 64) (hm := by decide)); (case h => with_reducible apply State.occur_within)
    | split

theorem State.restOutcome_within (s : State) (h outcome code : Nat) :
    Within 274877907008 s (State.restOutcome s h outcome code) := by
  unfold State.restOutcome
  repeat'
    first
    | with_reducible apply Within.refl
    | with_reducible assumption
    | (extract_lets +onlyGivenNames x; refine Within.cut (l := 274877907008) (r := s) (x := x) ?_ ?_; rotate_left; (try clear_value x); intro _; rotate_right; subst x)
    | (extract_lets +onlyGivenNames x; try clear_value x)
    | (with_reducible apply State.updRest_via (l := 274877907008) (hm := by decide))
    | (with_reducible apply Within.via (l := 274877907008) (m := 64) (hm := by decide)); (case h => with_reducible apply State.occur_within)
    | (with_reducible apply Within.via (l := 274877907008) (m := 274877907008) (hm := by decide)); (case h => with_reducible apply State.restEnd_within)
    | split

theorem State.commitDone_within (s : State) (c : Commit) (status : Nat) (result : BitVec 64) :
    Within 292057842768 s (State.commitDone s c status result) := by
  unfold State.commitDone
  repeat'
    first
    | with_reducible apply Within.refl
    | with_reducible assumption
    | (extract_lets +onlyGivenNames x; refine Within.cut (l := 292057842768) (r := s) (x := x) ?_ ?_; rotate_left; (try clear_value x); intro _; rotate_right; subst x)
    | (extract_lets +onlyGivenNames x; try clear_value x)
    | (with_reducible apply State.updHds_via (m := 65536) (l := 292057842768) (hm := by decide)); (case hheads => exact (fun _ _ => rfl)); (case hshots => exact (fun _ _ => rfl)); (case hsalvos => exact (fun h => absurd h (by decide)))
    | (with_reducible apply Within.via (l := 292057842768) (m := 1040) (hm := by decide)); (case h => with_reducible apply State.completeAt_within)
    | (with_reducible apply Within.via (l := 292057842768) (m := 274877907008) (hm := by decide)); (case h => with_reducible apply State.restOutcome_within)
    | (with_reducible apply Within.via (l := 292057842768) (m := 17179870224) (hm := by decide)); (case h => with_reducible apply State.routesOf_within)
    | split

theorem State.trimGrant_within (s : State) (h : Nat) :
    Within 8421450 s (State.trimGrant s h) := by
  unfold State.trimGrant
  repeat'
    first
    | with_reducible apply Within.refl
    | with_reducible assumption
    | (extract_lets +onlyGivenNames x; refine Within.cut (l := 8421450) (r := s) (x := x) ?_ ?_; rotate_left; (try clear_value x); intro _; rotate_right; subst x)
    | (extract_lets +onlyGivenNames x; try clear_value x)
    | (with_reducible apply Within.via (l := 8421450) (m := 8388682) (hm := by decide)); (case h => with_reducible apply State.leaveRet_within)
    | (with_reducible apply Within.via (l := 8421450) (m := 32768) (hm := by decide)); (case h => with_reducible apply State.setHead_within)
    | split

theorem State.freeHead_within (s : State) (h : Nat) :
    Within 9736266 s (State.freeHead s h) := by
  unfold State.freeHead
  repeat'
    first
    | with_reducible apply Within.refl
    | with_reducible assumption
    | (extract_lets +onlyGivenNames x; refine Within.cut (l := 9736266) (r := s) (x := x) ?_ ?_; rotate_left; (try clear_value x); intro _; rotate_right; subst x)
    | (extract_lets +onlyGivenNames x; refine Within.cut2 (l := 9736266) (r := s) (x := x) ?_ ?_; rotate_left; (try clear_value x); intro _; rotate_right; subst x)
    | (extract_lets +onlyGivenNames x; refine Within.cut1 (l := 9736266) (r := s) (x := x) ?_ ?_; rotate_left; (try clear_value x); intro _; rotate_right; subst x)
    | (extract_lets +onlyGivenNames x; try clear_value x)
    | (with_reducible apply Within2.snd; with_reducible assumption)
    | (with_reducible apply Within1.fst; with_reducible assumption)
    | with_reducible apply Within2.mk
    | with_reducible apply Within1.mk
    | with_reducible refine Within2.fold ?_ (fun _ _ _ => ?_)
    | with_reducible refine Within1.fold ?_ (fun _ _ _ => ?_)
    | (with_reducible apply Within2.via (l := 9736266) (m := 8650826) (hm := by decide)); (case h => with_reducible apply State.freeScl_within)
    | (with_reducible apply Within.via (l := 9736266) (m := 8650826) (hm := by decide)); (case h => with_reducible apply State.freeScl_within)
    | (with_reducible apply Within.via (l := 9736266) (m := 8650826) (hm := by decide)); (case h => (with_reducible apply Within2.ofEq (State.freeScl_within _ _)); with_reducible assumption)
    | (with_reducible apply Within.via (l := 9736266) (m := 8388682) (hm := by decide)); (case h => with_reducible apply State.leaveRet_within)
    | (with_reducible apply Within.via (l := 9736266) (m := 9441354) (hm := by decide)); (case h => with_reducible apply State.releaseCnv_within)
    | (with_reducible apply Within.via (l := 9736266) (m := 32768) (hm := by decide)); (case h => with_reducible apply State.setHead_within)
    | split
    | dsimp only
    | (with_reducible refine Within2.ofEq' ?_ (by assumption))

theorem State.startLess_within (s : State) (h : Nat) :
    Within 9736266 s (State.startLess s h) := by
  unfold State.startLess
  repeat'
    first
    | with_reducible apply Within.refl
    | with_reducible assumption
    | (extract_lets +onlyGivenNames x; refine Within.cut (l := 9736266) (r := s) (x := x) ?_ ?_; rotate_left; (try clear_value x); intro _; rotate_right; subst x)
    | (extract_lets +onlyGivenNames x; try clear_value x)
    | (with_reducible apply Within.via (l := 9736266) (m := 9736266) (hm := by decide)); (case h => with_reducible apply State.freeHead_within)
    | (with_reducible apply Within.via (l := 9736266) (m := 32768) (hm := by decide)); (case h => with_reducible apply State.setHead_within)
    | split

theorem State.dropCommit_within (s : State) (h : Nat) (c : Commit) :
    Within 9868378 s (State.dropCommit s h c) := by
  unfold State.dropCommit
  repeat'
    first
    | with_reducible apply Within.refl
    | with_reducible assumption
    | (extract_lets +onlyGivenNames x; refine Within.cut (l := 9868378) (r := s) (x := x) ?_ ?_; rotate_left; (try clear_value x); intro _; rotate_right; subst x)
    | (extract_lets +onlyGivenNames x; refine Within.cut2 (l := 9868378) (r := s) (x := x) ?_ ?_; rotate_left; (try clear_value x); intro _; rotate_right; subst x)
    | (extract_lets +onlyGivenNames x; refine Within.cut1 (l := 9868378) (r := s) (x := x) ?_ ?_; rotate_left; (try clear_value x); intro _; rotate_right; subst x)
    | (extract_lets +onlyGivenNames x; try clear_value x)
    | (with_reducible apply Within2.snd; with_reducible assumption)
    | (with_reducible apply Within1.fst; with_reducible assumption)
    | with_reducible apply Within2.mk
    | with_reducible apply Within1.mk
    | with_reducible refine Within2.fold ?_ (fun _ _ _ => ?_)
    | with_reducible refine Within1.fold ?_ (fun _ _ _ => ?_)
    | (with_reducible apply Within.via (l := 9868378) (m := 132120) (hm := by decide)); (case h => with_reducible apply State.dropRefs_within)
    | (with_reducible apply Within2.via (l := 9868378) (m := 8650826) (hm := by decide)); (case h => with_reducible apply State.freeScl_within)
    | (with_reducible apply Within.via (l := 9868378) (m := 8650826) (hm := by decide)); (case h => with_reducible apply State.freeScl_within)
    | (with_reducible apply Within.via (l := 9868378) (m := 8650826) (hm := by decide)); (case h => (with_reducible apply Within2.ofEq (State.freeScl_within _ _)); with_reducible assumption)
    | (with_reducible apply Within.via (l := 9868378) (m := 8388682) (hm := by decide)); (case h => with_reducible apply State.leaveRet_within)
    | (with_reducible apply Within.via (l := 9868378) (m := 9441354) (hm := by decide)); (case h => with_reducible apply State.releaseCnv_within)
    | (with_reducible apply Within.via (l := 9868378) (m := 9736266) (hm := by decide)); (case h => with_reducible apply State.startLess_within)
    | (with_reducible apply Within.via (l := 9868378) (m := 8421450) (hm := by decide)); (case h => with_reducible apply State.trimGrant_within)
    | (with_reducible apply Within.via (l := 9868378) (m := 32768) (hm := by decide)); (case h => with_reducible apply State.updHead_within)
    | split
    | dsimp only
    | (with_reducible refine Within2.ofEq' ?_ (by assumption))

theorem State.claimHead_within (s : State) (h owner : Nat) :
    Within 32768 s (State.claimHead s h owner) := by
  unfold State.claimHead
  repeat'
    first
    | with_reducible apply Within.refl
    | with_reducible assumption
    | (extract_lets +onlyGivenNames x; refine Within.cut (l := 32768) (r := s) (x := x) ?_ ?_; rotate_left; (try clear_value x); intro _; rotate_right; subst x)
    | (extract_lets +onlyGivenNames x; try clear_value x)
    | (with_reducible apply Within.via (l := 32768) (m := 32768) (hm := by decide)); (case h => with_reducible apply State.updHead_within)
    | split

theorem execOpHeadSet_within (n : Fin 64) (s : State) :
    WithinO 33872 s (execOpHeadSet n s) := by
  unfold execOpHeadSet
  repeat'
    first
    | with_reducible apply Within.refl
    | with_reducible assumption
    | (extract_lets +onlyGivenNames x; refine Within.cut (l := 33872) (r := s) (x := x) ?_ ?_; rotate_left; (try clear_value x); intro _; rotate_right; subst x)
    | (extract_lets +onlyGivenNames x; try clear_value x)
    | with_reducible apply WithinO.next
    | with_reducible apply WithinO.fault
    | (with_reducible apply Within.via (l := 33872) (m := 32768) (hm := by decide)); (case h => with_reducible apply State.claimHead_within)
    | (with_reducible apply Within.via (l := 33872) (m := 1040) (hm := by decide)); (case h => with_reducible apply State.complete_within)
    | with_reducible refine State.runOp_via (by decide) ?_ (fun _ _ _ => ?_)
    | (with_reducible apply Within.via (l := 33872) (m := 32768) (hm := by decide)); (case h => with_reducible apply State.updHead_within)
    | split

theorem execOpLayerSet_within (n : Fin 64) (s : State) :
    WithinO 33872 s (execOpLayerSet n s) := by
  unfold execOpLayerSet
  repeat'
    first
    | with_reducible apply Within.refl
    | with_reducible assumption
    | (extract_lets +onlyGivenNames x; refine Within.cut (l := 33872) (r := s) (x := x) ?_ ?_; rotate_left; (try clear_value x); intro _; rotate_right; subst x)
    | (extract_lets +onlyGivenNames x; try clear_value x)
    | with_reducible apply WithinO.next
    | with_reducible apply WithinO.fault
    | (with_reducible apply Within.via (l := 33872) (m := 32768) (hm := by decide)); (case h => with_reducible apply State.claimHead_within)
    | (with_reducible apply Within.via (l := 33872) (m := 1040) (hm := by decide)); (case h => with_reducible apply State.complete_within)
    | with_reducible refine State.runOp_via (by decide) ?_ (fun _ _ _ => ?_)
    | (with_reducible apply Within.via (l := 33872) (m := 32768) (hm := by decide)); (case h => with_reducible apply State.updHead_within)
    | split

theorem State.submitCommit_within (s : State) (j : Job) (h : Nat) (t : Target) (guard : Option (BitVec 32)) (salvo : Option (Nat × Bool)) :
    WithinS 8552458 s (State.submitCommit s j h t guard salvo) := by
  unfold State.submitCommit
  extract_lets x s1 c
  have h1 : Within 8552458 s s1 := (State.claimHead_within _ _ _).mono (by decide)
  have e1 : s1.lv.powFree = s.lv.powFree ∧ s1.lv.fetFree = s.lv.fetFree := by
    have e := (State.claimHead_within s h j.owner).same .leave (by decide)
    simp only [Part.same, Prod.mk.injEq] at e
    exact ⟨e.1, e.2.1⟩
  split
  · exact .inl _
  · split
    · exact .inl _
    · split
      · exact .inl _
      · split
        · exact .inl _
        · extract_lets bare lends
          split
          · exact .inl _
          · split
            · exact .inl _
            · split
              · exact .inl _
              · next hf =>
                have hf : s.leaveFits 0 (lendSum lends) = true := by
                  cases e : s.leaveFits 0 (lendSum lends) with
                  | true => rfl
                  | false => exact absurd e hf
                have hl := leaveFits_le hf
                have h2 := State.leaveTake_within s1 0 (lendSum lends) (by rw [e1.1, e1.2]; exact hl)
                exact .inr ((State.enqueue_within _ _ _).via (by decide) (h2.via (by decide) h1))

/-- A plan that the leave arbiter covers. -/
def FitsPlan (s : State) (r : TakeNo ⊕ TakePlan) : Prop := ∀ p, r = .inr p → s.leaveFits p.allPower p.allFetch = true

theorem FitsPlan.inl (s : State) (e : TakeNo) : FitsPlan s (.inl e) := fun _ h => by cases h
theorem FitsPlan.refuse (s : State) (c : Nat) : FitsPlan s (refuse c) := .inl _ _
theorem FitsPlan.inr {s : State} {p : TakePlan} (h : s.leaveFits p.allPower p.allFetch = true) : FitsPlan s (.inr p) :=
  fun _ e => by cases e; exact h

theorem State.planRoute_fits (s : State) (j : Job) (t : TransKind) (dur req : Nat) : FitsPlan s (s.planRoute j t dur req) := by
  unfold State.planRoute
  repeat'
    first
    | with_reducible exact FitsPlan.refuse _ _
    | with_reducible exact FitsPlan.inl _ _
    | (with_reducible refine FitsPlan.inr ?_); assumption
    | (extract_lets +onlyGivenNames x; try clear_value x)
    | split

theorem State.planClone_fits (s : State) (j : Job) : FitsPlan s (s.planClone j) := by
  unfold State.planClone
  repeat'
    first
    | with_reducible exact FitsPlan.refuse _ _
    | with_reducible exact FitsPlan.inl _ _
    | (with_reducible refine FitsPlan.inr ?_); assumption
    | (extract_lets +onlyGivenNames x; try clear_value x)
    | split

/-- A take that is planned fits the pools. -/
theorem State.planTake_fits (s : State) (j : Job) : FitsPlan s (s.planTake j) := by
  unfold State.planTake
  split
  · exact s.planClone_fits j
  · extract_lets req
    have h := fun t d r => s.planRoute_fits j t d r
    split
    · next p e => exact .inr (show s.leaveFits p.allPower p.allFetch = true from h _ _ _ p e)
    · split
      · split
        · next p e => exact .inr (show s.leaveFits p.allPower p.allFetch = true from h _ _ _ p e)
        · split
          · exact .inl _ _
          · split
            · next p e => exact .inr (show s.leaveFits p.allPower p.allFetch = true from h _ _ _ p e)
            · exact .inl _ _
      · exact .inl _ _

theorem State.submitTake_within (s : State) (j : Job) (t : Target) (guard : Option (BitVec 32)) (salvo : Option (Nat × Bool)) :
    WithinS 8796102885450 s (State.submitTake s j t guard salvo) := by
  unfold State.submitTake
  split
  · exact .inl _
  · split
    · exact .inl _
    · next p hp =>
      split
      · exact .inl _
      · have h0 := State.leaveTake_within s p.allPower p.allFetch (leaveFits_le (s.planTake_fits j p hp))
        have h1 : Within 8796102885450 s (s.leaveTake p.allPower p.allFetch) := h0.mono (by decide)
        extract_lets s1 s2 s3 s4 c d
        have h2 : Within 8796102885450 s s2 := by
          simp only [s2]; split
          · exact (State.claimScl_within _ _ _ _ _ _ _ _ _).via (by decide) h1
          · exact h1
        clear_value s2
        have h3 : Within 8796102885450 s s3 := by
          simp only [s3]; split
          · exact (State.claimCnv_within _ _ _ _ _ _ _ _ _ _ _ _ _).via (by decide) h2
          · exact h2
        clear_value s3
        exact .inr ((State.enqueue_within _ _ _).via (by decide) ((State.updHead_within _ _ _).via (by decide) h3))

theorem State.noteRefusal_within (s : State) (e : TakeNo) :
    Within 10 s (State.noteRefusal s e) := by
  unfold State.noteRefusal
  repeat'
    first
    | with_reducible apply Within.refl
    | with_reducible assumption
    | (with_reducible apply Within.via (l := 10) (m := 10) (hm := by decide)); (case h => with_reducible apply State.leaveRefuse_within)
    | split

theorem State.stage_within (s : State) (j : Job) (salvo : Nat) :
    Within 66576 s (State.stage s j salvo) := by
  unfold State.stage
  repeat'
    first
    | with_reducible apply Within.refl
    | with_reducible assumption
    | (extract_lets +onlyGivenNames x; refine Within.cut (l := 66576) (r := s) (x := x) ?_ ?_; rotate_left; (try clear_value x); intro _; rotate_right; subst x)
    | (extract_lets +onlyGivenNames x; try clear_value x)
    | (with_reducible apply State.updHds_via (m := 65536) (l := 66576) (hm := by decide)); (case hheads => exact (fun _ _ => rfl)); (case hshots => exact (fun _ _ => rfl)); (case hsalvos => exact (fun h => absurd h (by decide)))
    | (with_reducible apply Within.via (l := 66576) (m := 1040) (hm := by decide)); (case h => with_reducible apply State.complete_within)
    | (with_reducible apply Within.via (l := 66576) (m := 1040) (hm := by decide)); (case h => with_reducible apply State.endOp_within)
    | split

theorem execOpCommit_within (n : Fin 64) (s : State) :
    WithinO 8619098 s (execOpCommit n s) := by
  unfold execOpCommit
  repeat'
    first
    | with_reducible apply Within.refl
    | with_reducible assumption
    | with_reducible apply WithinO.next
    | with_reducible apply WithinO.fault
    | (with_reducible apply Within.via (l := 8619098) (m := 1040) (hm := by decide)); (case h => with_reducible apply State.complete_within)
    | (with_reducible apply Within.via (l := 8619098) (m := 1040) (hm := by decide)); (case h => with_reducible apply State.endOp_within)
    | (with_reducible apply Within.via (l := 8619098) (m := 10) (hm := by decide)); (case h => with_reducible apply State.noteRefusal_within)
    | with_reducible refine State.runOp_via (by decide) ?_ (fun _ _ _ => ?_)
    | (with_reducible apply Within.via (l := 8619098) (m := 66576) (hm := by decide)); (case h => with_reducible apply State.stage_within)
    | (with_reducible apply WithinS.via (l := 8619098) (m := 8552458) (hm := by decide)); (case h => with_reducible apply State.submitCommit_within)
    | (with_reducible apply Within.via (l := 8619098) (m := 8552458) (hm := by decide)); (case h => (with_reducible apply WithinS.ofEq (State.submitCommit_within _ _ _ _ _ _)); with_reducible assumption)
    | split

theorem execOpTake_within (n : Fin 64) (s : State) :
    WithinO 8796102952026 s (execOpTake n s) := by
  unfold execOpTake
  repeat'
    first
    | with_reducible apply Within.refl
    | with_reducible assumption
    | with_reducible apply WithinO.next
    | with_reducible apply WithinO.fault
    | (with_reducible apply Within.via (l := 8796102952026) (m := 1040) (hm := by decide)); (case h => with_reducible apply State.complete_within)
    | (with_reducible apply Within.via (l := 8796102952026) (m := 1040) (hm := by decide)); (case h => with_reducible apply State.endOp_within)
    | (with_reducible apply Within.via (l := 8796102952026) (m := 10) (hm := by decide)); (case h => with_reducible apply State.noteRefusal_within)
    | with_reducible refine State.runOp_via (by decide) ?_ (fun _ _ _ => ?_)
    | (with_reducible apply Within.via (l := 8796102952026) (m := 66576) (hm := by decide)); (case h => with_reducible apply State.stage_within)
    | (with_reducible apply WithinS.via (l := 8796102952026) (m := 8796102885450) (hm := by decide)); (case h => with_reducible apply State.submitTake_within)
    | (with_reducible apply Within.via (l := 8796102952026) (m := 8796102885450) (hm := by decide)); (case h => (with_reducible apply WithinS.ofEq (State.submitTake_within _ _ _ _ _)); with_reducible assumption)
    | split

theorem State.armOne_within (s : State) (m : Member140) (salvo : Nat × Bool) (t : Target) :
    WithinS 8796102885450 s (State.armOne s m salvo t) := by
  unfold State.armOne
  repeat'
    first
    | with_reducible apply Within.refl
    | with_reducible assumption
    | with_reducible apply WithinS.inl
    | with_reducible apply WithinS.inr
    | (with_reducible apply WithinS.via (l := 8796102885450) (m := 8552458) (hm := by decide)); (case h => with_reducible apply State.submitCommit_within)
    | (with_reducible apply Within.via (l := 8796102885450) (m := 8552458) (hm := by decide)); (case h => (with_reducible apply WithinS.ofEq (State.submitCommit_within _ _ _ _ _ _)); with_reducible assumption)
    | (with_reducible apply WithinS.via (l := 8796102885450) (m := 8796102885450) (hm := by decide)); (case h => with_reducible apply State.submitTake_within)
    | (with_reducible apply Within.via (l := 8796102885450) (m := 8796102885450) (hm := by decide)); (case h => (with_reducible apply WithinS.ofEq (State.submitTake_within _ _ _ _ _)); with_reducible assumption)
    | split

theorem State.armAll_within (s : State) (ms : List Member140) (salvo : Nat × Bool) (t : Target) :
    Within 8796102885450 s (State.armAll s ms salvo t).1 := by
  unfold State.armAll
  show Within1 _ _ _
  repeat'
    first
    | with_reducible apply Within.refl
    | with_reducible assumption
    | (with_reducible apply Within2.snd; with_reducible assumption)
    | (with_reducible apply Within1.fst; with_reducible assumption)
    | with_reducible apply Within2.mk
    | with_reducible apply Within1.mk
    | with_reducible refine Within2.fold ?_ (fun _ _ _ => ?_)
    | with_reducible refine Within1.fold ?_ (fun _ _ _ => ?_)
    | ((with_reducible apply Within.fold); (rotate_left; intro _ _ _; rotate_right))
    | (with_reducible apply WithinS.via (l := 8796102885450) (m := 8796102885450) (hm := by decide)); (case h => with_reducible apply State.armOne_within)
    | (with_reducible apply Within.via (l := 8796102885450) (m := 8796102885450) (hm := by decide)); (case h => (with_reducible apply WithinS.ofEq (State.armOne_within _ _ _ _)); with_reducible assumption)
    | split
    | dsimp only
    | (with_reducible refine Within2.ofEq' ?_ (by assumption))

theorem State.lockstepLate_within (s : State) (owner : Nat) (salvo : Nat × Bool) :
    Within 32768 s (State.lockstepLate s owner salvo) := by
  unfold State.lockstepLate
  repeat'
    first
    | with_reducible apply Within.refl
    | with_reducible assumption
    | (extract_lets +onlyGivenNames x; refine Within.cut (l := 32768) (r := s) (x := x) ?_ ?_; rotate_left; (try clear_value x); intro _; rotate_right; subst x)
    | (extract_lets +onlyGivenNames x; try clear_value x)
    | ((with_reducible apply Within.fold); (rotate_left; intro _ _ _; rotate_right))
    | (with_reducible apply Within.via (l := 32768) (m := 32768) (hm := by decide)); (case h => with_reducible apply State.updHead_within)
    | split

theorem State.dissolve_within (s : State) (rs : List (Member140 × Option TakeNo)) :
    Within 66576 s (State.dissolve s rs) := by
  unfold State.dissolve
  repeat'
    first
    | with_reducible apply Within.refl
    | with_reducible assumption
    | (extract_lets +onlyGivenNames x; refine Within.cut (l := 66576) (r := s) (x := x) ?_ ?_; rotate_left; (try clear_value x); intro _; rotate_right; subst x)
    | (extract_lets +onlyGivenNames x; try clear_value x)
    | ((with_reducible apply Within.fold); (rotate_left; intro _ _ _; rotate_right))
    | (with_reducible apply State.updHds_via (m := 65536) (l := 66576) (hm := by decide)); (case hheads => exact (fun _ _ => rfl)); (case hshots => exact (fun _ _ => rfl)); (case hsalvos => exact (fun h => absurd h (by decide)))
    | (with_reducible apply Within.via (l := 66576) (m := 1040) (hm := by decide)); (case h => with_reducible apply State.completeAt_within)
    | split

theorem execOpSalvoArm_within (n : Fin 64) (s : State) :
    WithinO 8796102952026 s (execOpSalvoArm n s) := by
  unfold execOpSalvoArm
  repeat'
    first
    | with_reducible apply Within.refl
    | with_reducible assumption
    | (extract_lets +onlyGivenNames x; refine Within.cut (l := 8796102952026) (r := s) (x := x) ?_ ?_; rotate_left; (try clear_value x); intro _; rotate_right; subst x)
    | (extract_lets +onlyGivenNames x; refine Within.cut2 (l := 8796102952026) (r := s) (x := x) ?_ ?_; rotate_left; (try clear_value x); intro _; rotate_right; subst x)
    | (extract_lets +onlyGivenNames x; refine Within.cut1 (l := 8796102952026) (r := s) (x := x) ?_ ?_; rotate_left; (try clear_value x); intro _; rotate_right; subst x)
    | (extract_lets +onlyGivenNames x; try clear_value x)
    | (with_reducible apply Within2.snd; with_reducible assumption)
    | (with_reducible apply Within1.fst; with_reducible assumption)
    | with_reducible apply Within2.mk
    | with_reducible apply Within1.mk
    | with_reducible refine Within2.fold ?_ (fun _ _ _ => ?_)
    | with_reducible refine Within1.fold ?_ (fun _ _ _ => ?_)
    | with_reducible apply WithinO.next
    | with_reducible apply WithinO.fault
    | (with_reducible apply State.updHds_via (m := 65536) (l := 8796102952026) (hm := by decide)); (case hheads => exact (fun _ _ => rfl)); (case hshots => exact (fun _ _ => rfl)); (case hsalvos => exact (fun h => absurd h (by decide)))
    | (with_reducible apply Within1.via (l := 8796102952026) (m := 8796102885450) (hm := by decide)); (case h => with_reducible apply State.armAll_within)
    | (with_reducible apply Within.via (l := 8796102952026) (m := 8796102885450) (hm := by decide)); (case h => with_reducible apply State.armAll_within)
    | (with_reducible apply Within.via (l := 8796102952026) (m := 8796102885450) (hm := by decide)); (case h => (with_reducible apply Within1.ofEq (State.armAll_within _ _ _ _)); with_reducible assumption)
    | (with_reducible apply Within.via (l := 8796102952026) (m := 1040) (hm := by decide)); (case h => with_reducible apply State.complete_within)
    | (with_reducible apply Within.via (l := 8796102952026) (m := 66576) (hm := by decide)); (case h => with_reducible apply State.dissolve_within)
    | (with_reducible apply Within.via (l := 8796102952026) (m := 32768) (hm := by decide)); (case h => with_reducible apply State.lockstepLate_within)
    | (with_reducible apply Within.via (l := 8796102952026) (m := 10) (hm := by decide)); (case h => with_reducible apply State.noteRefusal_within)
    | with_reducible refine State.runOp_via (by decide) ?_ (fun _ _ _ => ?_)
    | split
    | dsimp only
    | (with_reducible refine Within2.ofEq' ?_ (by assumption))

theorem execSalvoArmTimeout_within (owner salvo : BitVec 16) (s : State) :
    WithinO 66576 s (execSalvoArmTimeout owner salvo s) := by
  unfold execSalvoArmTimeout
  repeat'
    first
    | with_reducible apply Within.refl
    | with_reducible assumption
    | (extract_lets +onlyGivenNames x; refine Within.cut (l := 66576) (r := s) (x := x) ?_ ?_; rotate_left; (try clear_value x); intro _; rotate_right; subst x)
    | (extract_lets +onlyGivenNames x; try clear_value x)
    | with_reducible apply WithinO.next
    | with_reducible apply WithinO.fault
    | (with_reducible apply Within.via (l := 66576) (m := 66576) (hm := by decide)); (case h => with_reducible apply State.dissolve_within)
    | split

theorem State.withdraw_within (s : State) (h : Nat) (c : Commit) :
    Within 292067710042 s (State.withdraw s h c) := by
  unfold State.withdraw
  repeat'
    first
    | with_reducible apply Within.refl
    | with_reducible assumption
    | (with_reducible apply Within.via (l := 292067710042) (m := 292057842768) (hm := by decide)); (case h => with_reducible apply State.commitDone_within)
    | (with_reducible apply Within.via (l := 292067710042) (m := 9868378) (hm := by decide)); (case h => with_reducible apply State.dropCommit_within)
    | split

theorem execSalvoCancel_within (n : Fin 64) (s : State) :
    WithinO 292067710042 s (execSalvoCancel n s) := by
  unfold execSalvoCancel
  repeat'
    first
    | with_reducible apply Within.refl
    | with_reducible assumption
    | (extract_lets +onlyGivenNames x; refine Within.cut (l := 292067710042) (r := s) (x := x) ?_ ?_; rotate_left; (try clear_value x); intro _; rotate_right; subst x)
    | (extract_lets +onlyGivenNames x; try clear_value x)
    | with_reducible apply WithinO.next
    | with_reducible apply WithinO.fault
    | ((with_reducible apply Within.fold); (rotate_left; intro _ _ _; rotate_right))
    | (with_reducible apply Within.via (l := 292067710042) (m := 1040) (hm := by decide)); (case h => with_reducible apply State.complete_within)
    | (with_reducible apply Within.via (l := 292067710042) (m := 66576) (hm := by decide)); (case h => with_reducible apply State.dissolve_within)
    | with_reducible refine State.runOp_via (by decide) ?_ (fun _ _ _ => ?_)
    | (with_reducible apply Within.via (l := 292067710042) (m := 292067710042) (hm := by decide)); (case h => with_reducible apply State.withdraw_within)
    | split

theorem execCommitCancel_within (n : Fin 64) (s : State) :
    WithinO 292067710042 s (execCommitCancel n s) := by
  unfold execCommitCancel
  repeat'
    first
    | with_reducible apply Within.refl
    | with_reducible assumption
    | (extract_lets +onlyGivenNames x; refine Within.cut (l := 292067710042) (r := s) (x := x) ?_ ?_; rotate_left; (try clear_value x); intro _; rotate_right; subst x)
    | (extract_lets +onlyGivenNames x; try clear_value x)
    | with_reducible apply WithinO.next
    | with_reducible apply WithinO.fault
    | (with_reducible apply Within.via (l := 292067710042) (m := 1040) (hm := by decide)); (case h => with_reducible apply State.complete_within)
    | with_reducible refine State.runOp_via (by decide) ?_ (fun _ _ _ => ?_)
    | (with_reducible apply Within.via (l := 292067710042) (m := 292067710042) (hm := by decide)); (case h => with_reducible apply State.withdraw_within)
    | split

theorem execOpHeadStop_within (n : Fin 64) (s : State) :
    WithinO 9868378 s (execOpHeadStop n s) := by
  unfold execOpHeadStop
  repeat'
    first
    | with_reducible apply Within.refl
    | with_reducible assumption
    | (extract_lets +onlyGivenNames x; refine Within.cut (l := 9868378) (r := s) (x := x) ?_ ?_; rotate_left; (try clear_value x); intro _; rotate_right; subst x)
    | (extract_lets +onlyGivenNames x; try clear_value x)
    | with_reducible apply WithinO.next
    | with_reducible apply WithinO.fault
    | (with_reducible apply Within.via (l := 9868378) (m := 1040) (hm := by decide)); (case h => with_reducible apply State.complete_within)
    | (with_reducible apply Within.via (l := 9868378) (m := 1040) (hm := by decide)); (case h => with_reducible apply State.endOp_within)
    | (with_reducible apply Within.via (l := 9868378) (m := 163850) (hm := by decide)); (case h => with_reducible apply State.enqueue_within)
    | (with_reducible apply Within.via (l := 9868378) (m := 9736266) (hm := by decide)); (case h => with_reducible apply State.freeHead_within)
    | with_reducible refine State.runOp_via (by decide) ?_ (fun _ _ _ => ?_)
    | split

theorem execOpLeaveReq_within (n : Fin 64) (s : State) :
    WithinO 8422490 s (execOpLeaveReq n s) := by
  unfold execOpLeaveReq
  repeat'
    first
    | with_reducible apply Within.refl
    | with_reducible assumption
    | (extract_lets +onlyGivenNames x; refine Within.cut (l := 8422490) (r := s) (x := x) ?_ ?_; rotate_left; (try clear_value x); intro _; rotate_right; subst x)
    | (extract_lets +onlyGivenNames x; refine Within.cut2 (l := 8422490) (r := s) (x := x) ?_ ?_; rotate_left; (try clear_value x); intro _; rotate_right; subst x)
    | (extract_lets +onlyGivenNames x; refine Within.cut1 (l := 8422490) (r := s) (x := x) ?_ ?_; rotate_left; (try clear_value x); intro _; rotate_right; subst x)
    | (extract_lets +onlyGivenNames x; try clear_value x)
    | (with_reducible apply Within2.snd; with_reducible assumption)
    | (with_reducible apply Within1.fst; with_reducible assumption)
    | with_reducible apply Within2.mk
    | with_reducible apply Within1.mk
    | with_reducible refine Within2.fold ?_ (fun _ _ _ => ?_)
    | with_reducible refine Within1.fold ?_ (fun _ _ _ => ?_)
    | with_reducible apply WithinO.next
    | with_reducible apply WithinO.fault
    | (with_reducible apply Within.via (l := 8422490) (m := 32768) (hm := by decide)); (case h => with_reducible apply State.claimHead_within)
    | (with_reducible apply Within.via (l := 8422490) (m := 1040) (hm := by decide)); (case h => with_reducible apply State.complete_within)
    | (with_reducible apply Within2.via (l := 8422490) (m := 8388618) (hm := by decide)); (case h => with_reducible apply State.leaveAsk_within)
    | (with_reducible apply Within.via (l := 8422490) (m := 8388618) (hm := by decide)); (case h => with_reducible apply State.leaveAsk_within)
    | (with_reducible apply Within.via (l := 8422490) (m := 8388618) (hm := by decide)); (case h => (with_reducible apply Within2.ofEq (State.leaveAsk_within _ _ _ _)); with_reducible assumption)
    | with_reducible refine State.runOp_via (by decide) ?_ (fun _ _ _ => ?_)
    | (with_reducible apply Within.via (l := 8422490) (m := 32768) (hm := by decide)); (case h => with_reducible apply State.updHead_within)
    | split
    | dsimp only
    | (with_reducible refine Within2.ofEq' ?_ (by assumption))

theorem execOpLeaveRet_within (n : Fin 64) (s : State) :
    WithinO 8422490 s (execOpLeaveRet n s) := by
  unfold execOpLeaveRet
  repeat'
    first
    | with_reducible apply Within.refl
    | with_reducible assumption
    | (extract_lets +onlyGivenNames x; refine Within.cut (l := 8422490) (r := s) (x := x) ?_ ?_; rotate_left; (try clear_value x); intro _; rotate_right; subst x)
    | (extract_lets +onlyGivenNames x; try clear_value x)
    | with_reducible apply WithinO.next
    | with_reducible apply WithinO.fault
    | (with_reducible apply Within.via (l := 8422490) (m := 1040) (hm := by decide)); (case h => with_reducible apply State.complete_within)
    | (with_reducible apply Within.via (l := 8422490) (m := 8388682) (hm := by decide)); (case h => with_reducible apply State.leaveRet_within)
    | with_reducible refine State.runOp_via (by decide) ?_ (fun _ _ _ => ?_)
    | (with_reducible apply Within.via (l := 8422490) (m := 32768) (hm := by decide)); (case h => with_reducible apply State.setHead_within)
    | split

end Sys2Proof.Machine
end

