-- ==== Sys2Proof/Laws/FrameDests.lean ====
section
/-!
SUPPORT. Laws/FrameDests.lean: what each function of Machine/Dests.lean can touch.
-/
set_option linter.unusedTactic false
set_option linter.unreachableTactic false
set_option linter.tactic.unusedName false

namespace Sys2Proof.Machine

theorem State.setPsnDest_within (s : State) (d : Nat) (v : PsnDest) :
    Within 4294967296 s (State.setPsnDest s d v) := by
  unfold State.setPsnDest
  repeat'
    first
    | with_reducible apply Within.refl
    | with_reducible assumption
    | (with_reducible apply State.updPsn_via (m := 4294967296) (l := 4294967296) (hm := by decide)); (case hdikes => exact (fun _ _ => rfl)); (case hpinSense => exact (fun h => absurd h (by decide))); (case hseals => exact (fun _ _ => rfl))
    | split

theorem State.setChain_within (s : State) (h : Nat) (v : Chain) :
    Within 8589934592 s (State.setChain s h v) := by
  unfold State.setChain
  repeat'
    first
    | with_reducible apply Within.refl
    | with_reducible assumption
    | (with_reducible apply State.updPsn_via (m := 8589934592) (l := 8589934592) (hm := by decide)); (case hdikes => exact (fun _ _ => rfl)); (case hpinSense => exact (fun _ _ => rfl)); (case hseals => exact (fun h => absurd h (by decide)))
    | split

theorem State.updChain_within (s : State) (h : Nat) (f : Chain → Chain) :
    Within 8589934592 s (State.updChain s h f) := by
  unfold State.updChain
  repeat'
    first
    | with_reducible apply Within.refl
    | with_reducible assumption
    | (with_reducible apply Within.via (l := 8589934592) (m := 8589934592) (hm := by decide)); (case h => with_reducible apply State.setChain_within)
    | split

theorem State.quadMembers_within (s : State) (d : Nat) (on : Bool) :
    Within 2097152 s (State.quadMembers s d on) := by
  unfold State.quadMembers
  repeat'
    first
    | with_reducible apply Within.refl
    | with_reducible assumption
    | ((with_reducible apply Within.fold); (rotate_left; intro _ _ _; rotate_right))
    | (with_reducible apply Within.via (l := 2097152) (m := 2097152) (hm := by decide)); (case h => with_reducible apply State.updDest_within)
    | split

theorem State.feedDest_within (s : State) (h d : Nat) :
    Within 2129920 s (State.feedDest s h d) := by
  unfold State.feedDest
  repeat'
    first
    | with_reducible apply Within.refl
    | with_reducible assumption
    | (extract_lets +onlyGivenNames x; refine Within.cut (l := 2129920) (r := s) (x := x) ?_ ?_; rotate_left; (try clear_value x); intro _; rotate_right; subst x)
    | (extract_lets +onlyGivenNames x; try clear_value x)
    | (with_reducible apply Within.via (l := 2129920) (m := 2097152) (hm := by decide)); (case h => with_reducible apply State.quadMembers_within)
    | (with_reducible apply Within.via (l := 2129920) (m := 2097152) (hm := by decide)); (case h => with_reducible apply State.setDest_within)
    | (with_reducible apply Within.via (l := 2129920) (m := 32768) (hm := by decide)); (case h => with_reducible apply State.updHead_within)
    | split

theorem State.squelch_within (s : State) (d : Nat) (service off : Bool) :
    Within 2097152 s (State.squelch s d service off) := by
  unfold State.squelch
  repeat'
    first
    | with_reducible apply Within.refl
    | with_reducible assumption
    | (extract_lets +onlyGivenNames x; refine Within.cut (l := 2097152) (r := s) (x := x) ?_ ?_; rotate_left; (try clear_value x); intro _; rotate_right; subst x)
    | (extract_lets +onlyGivenNames x; try clear_value x)
    | (with_reducible apply Within.via (l := 2097152) (m := 2097152) (hm := by decide)); (case h => with_reducible apply State.quadMembers_within)
    | (with_reducible apply Within.via (l := 2097152) (m := 2097152) (hm := by decide)); (case h => with_reducible apply State.setDest_within)
    | split

theorem State.feedAll_within (s : State) (h : Nat) :
    Within 2129920 s (State.feedAll s h) := by
  unfold State.feedAll
  repeat'
    first
    | with_reducible apply Within.refl
    | with_reducible assumption
    | (extract_lets +onlyGivenNames x; refine Within.cut (l := 2129920) (r := s) (x := x) ?_ ?_; rotate_left; (try clear_value x); intro _; rotate_right; subst x)
    | (extract_lets +onlyGivenNames x; try clear_value x)
    | ((with_reducible apply Within.fold); (rotate_left; intro _ _ _; rotate_right))
    | (with_reducible apply Within.via (l := 2129920) (m := 2129920) (hm := by decide)); (case h => with_reducible apply State.feedDest_within)
    | (with_reducible apply Within.via (l := 2129920) (m := 2097152) (hm := by decide)); (case h => with_reducible apply State.squelch_within)
    | split

theorem State.unpinHead_within (s : State) (h : Nat) :
    Within 4096 s (State.unpinHead s h) := by
  unfold State.unpinHead
  repeat'
    first
    | with_reducible apply Within.refl
    | with_reducible assumption
    | ((with_reducible apply Within.fold); (rotate_left; intro _ _ _; rotate_right))
    | (with_reducible apply Within.via (l := 4096) (m := 4096) (hm := by decide)); (case h => with_reducible apply State.unpin_within)
    | split

theorem State.stopHead_within (s : State) (h : Nat) :
    Within 2159449178 s (State.stopHead s h) := by
  unfold State.stopHead
  repeat'
    first
    | with_reducible apply Within.refl
    | with_reducible assumption
    | (extract_lets +onlyGivenNames x; refine Within.cut (l := 2159449178) (r := s) (x := x) ?_ ?_; rotate_left; (try clear_value x); intro _; rotate_right; subst x)
    | (extract_lets +onlyGivenNames x; try clear_value x)
    | ((with_reducible apply Within.fold); (rotate_left; intro _ _ _; rotate_right))
    | (with_reducible apply Within.via (l := 2159449178) (m := 132120) (hm := by decide)); (case h => with_reducible apply State.dropRefs_within)
    | (with_reducible apply Within.via (l := 2159449178) (m := 9736266) (hm := by decide)); (case h => with_reducible apply State.freeHead_within)
    | (with_reducible apply Within.via (l := 2159449178) (m := 2147483648) (hm := by decide)); (case h => with_reducible apply State.setDike_within)
    | (with_reducible apply Within.via (l := 2159449178) (m := 32768) (hm := by decide)); (case h => with_reducible apply State.setHead_within)
    | (with_reducible apply Within.via (l := 2159449178) (m := 2097152) (hm := by decide)); (case h => with_reducible apply State.squelch_within)
    | (with_reducible apply Within.via (l := 2159449178) (m := 4096) (hm := by decide)); (case h => with_reducible apply State.unpinHead_within)
    | split

theorem State.atcFlip_within (s : State) (d : Nat) (rate : Nat × Nat) (took : Option Nat) :
    Within 2097152 s (State.atcFlip s d rate took) := by
  unfold State.atcFlip
  repeat'
    first
    | with_reducible apply Within.refl
    | with_reducible assumption
    | (extract_lets +onlyGivenNames x; refine Within.cut (l := 2097152) (r := s) (x := x) ?_ ?_; rotate_left; (try clear_value x); intro _; rotate_right; subst x)
    | (extract_lets +onlyGivenNames x; try clear_value x)
    | (with_reducible apply Within.via (l := 2097152) (m := 2097152) (hm := by decide)); (case h => with_reducible apply State.setDest_within)
    | split

theorem State.ancFlip_within (s : State) (d : Nat) (p : Picture) (drops : Nat) :
    Within 2097154 s (State.ancFlip s d p drops) := by
  unfold State.ancFlip
  repeat'
    first
    | with_reducible apply Within.refl
    | with_reducible assumption
    | (extract_lets +onlyGivenNames x; refine Within.cut (l := 2097154) (r := s) (x := x) ?_ ?_; rotate_left; (try clear_value x); intro _; rotate_right; subst x)
    | (extract_lets +onlyGivenNames x; try clear_value x)
    | (with_reducible apply Within.via (l := 2097154) (m := 2) (hm := by decide)); (case h => with_reducible apply State.count_within)
    | (with_reducible apply Within.via (l := 2097154) (m := 2097152) (hm := by decide)); (case h => with_reducible apply State.updDest_within)
    | split

theorem State.countPeriod_within (s : State) (d : Nat) (excl : Bool) (cause : Nat) :
    Within 8 s (State.countPeriod s d excl cause) := by
  unfold State.countPeriod
  repeat'
    first
    | with_reducible apply Within.refl
    | with_reducible assumption
    | (extract_lets +onlyGivenNames x; refine Within.cut (l := 8) (r := s) (x := x) ?_ ?_; rotate_left; (try clear_value x); intro _; rotate_right; subst x)
    | (extract_lets +onlyGivenNames x; try clear_value x)
    | (with_reducible apply Within.via (l := 8) (m := 8) (hm := by decide)); (case h => (with_reducible apply State.ledAdd_within); decide)
    | split

theorem State.endPeriods_within (s : State) (p : Nat) :
    Within 2097160 s (State.endPeriods s p) := by
  unfold State.endPeriods
  repeat'
    first
    | with_reducible apply Within.refl
    | with_reducible assumption
    | (extract_lets +onlyGivenNames x; refine Within.cut (l := 2097160) (r := s) (x := x) ?_ ?_; rotate_left; (try clear_value x); intro _; rotate_right; subst x)
    | (extract_lets +onlyGivenNames x; try clear_value x)
    | ((with_reducible apply Within.fold); (rotate_left; intro _ _ _; rotate_right))
    | (with_reducible apply Within.via (l := 2097160) (m := 8) (hm := by decide)); (case h => with_reducible apply State.countPeriod_within)
    | (with_reducible apply Within.via (l := 2097160) (m := 2097152) (hm := by decide)); (case h => with_reducible apply State.setDest_within)
    | split

end Sys2Proof.Machine
end

