-- ==== Sys2Proof/Laws/FrameColour.lean ====
section
/-!
SUPPORT. Laws/FrameColour.lean: what each function of Machine/Colour.lean can touch.
-/
set_option linter.unusedTactic false
set_option linter.unreachableTactic false
set_option linter.tactic.unusedName false

namespace Sys2Proof.Machine

theorem State.setDith_within (s : State) (d : Nat) (v : Dith) :
    Within 524288 s (State.setDith s d v) := by
  unfold State.setDith
  repeat'
    first
    | with_reducible apply Within.refl
    | with_reducible assumption
    | (with_reducible apply State.updScc_via (m := 524288) (l := 524288) (hm := by decide)); (case hscalers => exact (fun _ _ => rfl)); (case hcolour => exact (fun h => absurd h (by decide)))
    | split

theorem State.loadApply_within (s : State) (l : ColLoad) :
    Within 787472 s (State.loadApply s l) := by
  unfold State.loadApply
  repeat'
    first
    | with_reducible apply Within.refl
    | with_reducible assumption
    | (extract_lets +onlyGivenNames x; refine Within.cut (l := 787472) (r := s) (x := x) ?_ ?_; rotate_left; (try clear_value x); intro _; rotate_right; subst x)
    | (extract_lets +onlyGivenNames x; try clear_value x)
    | (with_reducible apply Within.via (l := 787472) (m := 525328) (hm := by decide)); (case h => with_reducible apply State.loadDone_within)
    | (with_reducible apply Within.via (l := 787472) (m := 524288) (hm := by decide)); (case h => with_reducible apply State.setColOut_within)
    | (with_reducible apply Within.via (l := 787472) (m := 524288) (hm := by decide)); (case h => with_reducible apply State.setDith_within)
    | (with_reducible apply Within.via (l := 787472) (m := 262144) (hm := by decide)); (case h => with_reducible apply State.setScl_within)
    | split

theorem State.colourIdle_within (s : State) :
    Within 787472 s (State.colourIdle s) := by
  unfold State.colourIdle
  repeat'
    first
    | with_reducible apply Within.refl
    | with_reducible assumption
    | ((with_reducible apply Within.fold); (rotate_left; intro _ _ _; rotate_right))
    | (with_reducible apply Within.via (l := 787472) (m := 787472) (hm := by decide)); (case h => with_reducible apply State.loadApply_within)
    | split

theorem State.colourCompose_within (s : State) (h : Nat) :
    Within 787472 s (State.colourCompose s h) := by
  unfold State.colourCompose
  repeat'
    first
    | with_reducible apply Within.refl
    | with_reducible assumption
    | (extract_lets +onlyGivenNames x; refine Within.cut (l := 787472) (r := s) (x := x) ?_ ?_; rotate_left; (try clear_value x); intro _; rotate_right; subst x)
    | (extract_lets +onlyGivenNames x; try clear_value x)
    | ((with_reducible apply Within.fold); (rotate_left; intro _ _ _; rotate_right))
    | (with_reducible apply Within.via (l := 787472) (m := 787472) (hm := by decide)); (case h => with_reducible apply State.loadApply_within)
    | split

theorem State.colourFlip_within (s : State) (h : Nat) :
    Within 787472 s (State.colourFlip s h) := by
  unfold State.colourFlip
  repeat'
    first
    | with_reducible apply Within.refl
    | with_reducible assumption
    | ((with_reducible apply Within.fold); (rotate_left; intro _ _ _; rotate_right))
    | (with_reducible apply Within.via (l := 787472) (m := 787472) (hm := by decide)); (case h => with_reducible apply State.colourIdle_within)
    | (with_reducible apply Within.via (l := 787472) (m := 787472) (hm := by decide)); (case h => with_reducible apply State.loadApply_within)
    | split

theorem State.colourTag_within (s : State) (j : Job) :
    Within 299008 s (State.colourTag s j) := by
  unfold State.colourTag
  repeat'
    first
    | with_reducible apply Within.refl
    | with_reducible assumption
    | (with_reducible apply Within.via (l := 299008) (m := 262144) (hm := by decide)); (case h => with_reducible apply State.setScl_within)
    | (with_reducible apply Within.via (l := 299008) (m := 32768) (hm := by decide)); (case h => with_reducible apply State.updHead_within)
    | (with_reducible apply Within.via (l := 299008) (m := 4096) (hm := by decide)); (case h => with_reducible apply State.updSrc_within)
    | split

theorem execOpColourLoad_within (n : Fin 64) (data : Option (List Byte)) (s : State) :
    WithinO 824400 s (execOpColourLoad n data s) := by
  unfold execOpColourLoad
  repeat'
    first
    | with_reducible apply Within.refl
    | with_reducible assumption
    | (extract_lets +onlyGivenNames x; refine Within.cut (l := 824400) (r := s) (x := x) ?_ ?_; rotate_left; (try clear_value x); intro _; rotate_right; subst x)
    | (extract_lets +onlyGivenNames x; try clear_value x)
    | with_reducible apply WithinO.next
    | with_reducible apply WithinO.fault
    | (with_reducible apply State.updScc_via (m := 524288) (l := 824400) (hm := by decide)); (case hscalers => exact (fun _ _ => rfl)); (case hcolour => exact (fun h => absurd h (by decide)))
    | (with_reducible apply Within.via (l := 824400) (m := 787472) (hm := by decide)); (case h => with_reducible apply State.colourIdle_within)
    | (with_reducible apply Within.via (l := 824400) (m := 299008) (hm := by decide)); (case h => with_reducible apply State.colourTag_within)
    | (with_reducible apply Within.via (l := 824400) (m := 1040) (hm := by decide)); (case h => with_reducible apply State.complete_within)
    | with_reducible refine State.runOp_via (by decide) ?_ (fun _ _ _ => ?_)
    | split

end Sys2Proof.Machine
end

