-- ==== Sys2Proof/Laws/FrameScan.lean ====
section
/-!
SUPPORT. Laws/FrameScan.lean: what each function of Machine/Scan.lean can touch.
-/
set_option linter.unusedTactic false
set_option linter.unreachableTactic false
set_option linter.tactic.unusedName false

namespace Sys2Proof.Machine

theorem State.layerRaise_within (s : State) (h k bit code : Nat) (d : List (Nat × Nat × Nat)) :
    Within 66 s (State.layerRaise s h k bit code d) := by
  unfold State.layerRaise
  repeat'
    first
    | with_reducible apply Within.refl
    | with_reducible assumption
    | (with_reducible apply Within.via (l := 66) (m := 66) (hm := by decide)); (case h => with_reducible apply State.raise_within)
    | split

theorem State.takeSource_within (s : State) (n h k : Nat) :
    Within 4104 s (State.takeSource s n h k) := by
  unfold State.takeSource
  repeat'
    first
    | with_reducible apply Within.refl
    | with_reducible assumption
    | (with_reducible apply Within.via (l := 4104) (m := 4104) (hm := by decide)); (case h => with_reducible apply State.takeFrame_within)
    | split

theorem State.fallbackEvent_within (s : State) (h k n : Nat) (f : Nat × BitVec 32) (run : LayerRun) :
    Within 66 s (State.fallbackEvent s h k n f run) := by
  unfold State.fallbackEvent
  repeat'
    first
    | with_reducible apply Within.refl
    | with_reducible assumption
    | (with_reducible apply Within.via (l := 66) (m := 66) (hm := by decide)); (case h => with_reducible apply State.layerRaise_within)
    | split

theorem State.composeSource_within (s : State) (h k : Nat) (polder : Nat) (l : LayerCfg) (base : LayerPic) (run : LayerRun) :
    Within 4170 s (State.composeSource s h k polder l base run).2.2 := by
  unfold State.composeSource
  repeat'
    first
    | with_reducible apply Within.refl
    | with_reducible assumption
    | (extract_lets +onlyGivenNames x; refine Within.cut (l := 4170) (r := s) (x := x) ?_ ?_; rotate_left; (try clear_value x); intro _; rotate_right; subst x)
    | (extract_lets +onlyGivenNames x; try clear_value x)
    | with_reducible apply Within2.mk
    | (with_reducible apply Within.via (l := 4170) (m := 66) (hm := by decide)); (case h => with_reducible apply State.fallbackEvent_within)
    | (with_reducible apply Within.via (l := 4170) (m := 4104) (hm := by decide)); (case h => with_reducible apply State.takeSource_within)
    | split

theorem State.scaleEvent_within (s : State) (h k : Nat) (l : LayerCfg) (deg : Bool × Bool) (frame : Nat) (on : Bool) :
    Within 66 s (State.scaleEvent s h k l deg frame on) := by
  unfold State.scaleEvent
  repeat'
    first
    | with_reducible apply Within.refl
    | with_reducible assumption
    | (extract_lets +onlyGivenNames x; refine Within.cut (l := 66) (r := s) (x := x) ?_ ?_; rotate_left; (try clear_value x); intro _; rotate_right; subst x)
    | (extract_lets +onlyGivenNames x; try clear_value x)
    | (with_reducible apply Within.via (l := 66) (m := 66) (hm := by decide)); (case h => with_reducible apply State.raise_within)
    | split

theorem State.scalerFrame_within (s : State) (h k : Nat) (c : HeadCfg) (fresh : Bool) (l : LayerCfg) (taken : Option (Raster × (Bool × Bool))) :
    Within 262210 s (State.scalerFrame s h k c fresh l taken) := by
  unfold State.scalerFrame
  repeat'
    first
    | with_reducible apply Within.refl
    | with_reducible assumption
    | (extract_lets +onlyGivenNames x; refine Within.cut (l := 262210) (r := s) (x := x) ?_ ?_; rotate_left; (try clear_value x); intro _; rotate_right; subst x)
    | (extract_lets +onlyGivenNames x; try clear_value x)
    | (with_reducible apply Within.via (l := 262210) (m := 66) (hm := by decide)); (case h => with_reducible apply State.scaleEvent_within)
    | (with_reducible apply Within.via (l := 262210) (m := 262144) (hm := by decide)); (case h => with_reducible apply State.setScl_within)
    | split

theorem State.composeLayer_within (s : State) (h k : Nat) (c : HeadCfg) (fresh : Bool) (e : LayerCfg × Nat × Nat) :
    Within 299082 s (State.composeLayer s h k c fresh e).2 := by
  unfold State.composeLayer
  show Within2 _ _ _
  repeat'
    first
    | with_reducible apply Within.refl
    | with_reducible assumption
    | (extract_lets +onlyGivenNames x; refine Within.cut (l := 299082) (r := s) (x := x) ?_ ?_; rotate_left; (try clear_value x); intro _; rotate_right; subst x)
    | (extract_lets +onlyGivenNames x; refine Within.cut2 (l := 299082) (r := s) (x := x) ?_ ?_; rotate_left; (try clear_value x); intro _; rotate_right; subst x)
    | (extract_lets +onlyGivenNames x; refine Within.cut1 (l := 299082) (r := s) (x := x) ?_ ?_; rotate_left; (try clear_value x); intro _; rotate_right; subst x)
    | (extract_lets +onlyGivenNames x; refine Within.cut3 (l := 299082) (r := s) (x := x) ?_ ?_; rotate_left; (try clear_value x); intro _; rotate_right; subst x)
    | (extract_lets +onlyGivenNames x; try clear_value x)
    | (with_reducible apply Within2.snd; with_reducible assumption)
    | (with_reducible apply Within1.fst; with_reducible assumption)
    | with_reducible apply Within2.mk
    | with_reducible apply Within1.mk
    | with_reducible refine Within2.fold ?_ (fun _ _ _ => ?_)
    | with_reducible refine Within1.fold ?_ (fun _ _ _ => ?_)
    | (with_reducible apply Within2.via (l := 299082) (m := 4170) (hm := by decide)); (case h => with_reducible apply State.composeSource_within)
    | (with_reducible apply Within.via (l := 299082) (m := 4170) (hm := by decide)); (case h => with_reducible apply State.composeSource_within)
    | (with_reducible apply Within.via (l := 299082) (m := 2) (hm := by decide)); (case h => with_reducible apply State.count_within)
    | (with_reducible apply Within.via (l := 299082) (m := 262210) (hm := by decide)); (case h => with_reducible apply State.scalerFrame_within)
    | (with_reducible apply Within.via (l := 299082) (m := 32768) (hm := by decide)); (case h => with_reducible apply State.updHead_within)
    | split
    | dsimp only
    | (with_reducible refine Within2.ofEq' ?_ (by assumption))

theorem State.holdOffs_within (s : State) (h : Nat) (c : HeadCfg) :
    Within 32834 s (State.holdOffs s h c) := by
  unfold State.holdOffs
  repeat'
    first
    | with_reducible apply Within.refl
    | with_reducible assumption
    | (extract_lets +onlyGivenNames x; refine Within.cut (l := 32834) (r := s) (x := x) ?_ ?_; rotate_left; (try clear_value x); intro _; rotate_right; subst x)
    | (extract_lets +onlyGivenNames x; try clear_value x)
    | ((with_reducible apply Within.fold); (rotate_left; intro _ _ _; rotate_right))
    | (with_reducible apply Within.via (l := 32834) (m := 66) (hm := by decide)); (case h => with_reducible apply State.layerRaise_within)
    | (with_reducible apply Within.via (l := 32834) (m := 32768) (hm := by decide)); (case h => with_reducible apply State.updHead_within)
    | split

theorem State.compose_within (s : State) (h frame : Nat) :
    Within 824410 s (State.compose s h frame) := by
  unfold State.compose
  repeat'
    first
    | with_reducible apply Within.refl
    | with_reducible assumption
    | (extract_lets +onlyGivenNames x; refine Within.cut (l := 824410) (r := s) (x := x) ?_ ?_; rotate_left; (try clear_value x); intro _; rotate_right; subst x)
    | (extract_lets +onlyGivenNames x; refine Within.cut2 (l := 824410) (r := s) (x := x) ?_ ?_; rotate_left; (try clear_value x); intro _; rotate_right; subst x)
    | (extract_lets +onlyGivenNames x; refine Within.cut1 (l := 824410) (r := s) (x := x) ?_ ?_; rotate_left; (try clear_value x); intro _; rotate_right; subst x)
    | (extract_lets +onlyGivenNames x; try clear_value x)
    | (with_reducible apply Within2.snd; with_reducible assumption)
    | (with_reducible apply Within1.fst; with_reducible assumption)
    | with_reducible apply Within2.mk
    | with_reducible apply Within1.mk
    | with_reducible refine Within2.fold ?_ (fun _ _ _ => ?_)
    | with_reducible refine Within1.fold ?_ (fun _ _ _ => ?_)
    | ((with_reducible apply Within.fold); (rotate_left; intro _ _ _; rotate_right))
    | (with_reducible apply Within.via (l := 824410) (m := 787472) (hm := by decide)); (case h => with_reducible apply State.colourCompose_within)
    | (with_reducible apply Within2.via (l := 824410) (m := 299082) (hm := by decide)); (case h => with_reducible apply State.composeLayer_within)
    | (with_reducible apply Within.via (l := 824410) (m := 299082) (hm := by decide)); (case h => with_reducible apply State.composeLayer_within)
    | (with_reducible apply Within.via (l := 824410) (m := 299082) (hm := by decide)); (case h => (with_reducible apply Within2.ofEq (State.composeLayer_within _ _ _ _ _ _)); with_reducible assumption)
    | (with_reducible apply Within.via (l := 824410) (m := 32834) (hm := by decide)); (case h => with_reducible apply State.holdOffs_within)
    | (with_reducible apply Within.via (l := 824410) (m := 4096) (hm := by decide)); (case h => with_reducible apply State.unpinHead_within)
    | (with_reducible apply Within.via (l := 824410) (m := 32768) (hm := by decide)); (case h => with_reducible apply State.updHead_within)
    | split
    | dsimp only
    | (with_reducible refine Within2.ofEq' ?_ (by assumption))

theorem State.holdCommit_within (s : State) (h : Nat) (c : Commit) (handle : BitVec 32) :
    Within 32834 s (State.holdCommit s h c handle) := by
  unfold State.holdCommit
  repeat'
    first
    | with_reducible apply Within.refl
    | with_reducible assumption
    | (extract_lets +onlyGivenNames x; refine Within.cut (l := 32834) (r := s) (x := x) ?_ ?_; rotate_left; (try clear_value x); intro _; rotate_right; subst x)
    | (extract_lets +onlyGivenNames x; try clear_value x)
    | (with_reducible apply Within.via (l := 32834) (m := 66) (hm := by decide)); (case h => with_reducible apply State.cmtFlag_within)
    | (with_reducible apply Within.via (l := 32834) (m := 2) (hm := by decide)); (case h => with_reducible apply State.count_within)
    | (with_reducible apply Within.via (l := 32834) (m := 2) (hm := by decide)); (case h => with_reducible apply State.setBit_within)
    | (with_reducible apply Within.via (l := 32834) (m := 32768) (hm := by decide)); (case h => with_reducible apply State.updHead_within)
    | split

theorem State.notReady_within (s : State) (h : Nat) (c : Commit) (handle : BitVec 32) :
    Within 292067710042 s (State.notReady s h c handle) := by
  unfold State.notReady
  repeat'
    first
    | with_reducible apply Within.refl
    | with_reducible assumption
    | (with_reducible apply Within.via (l := 292067710042) (m := 66) (hm := by decide)); (case h => with_reducible apply State.cmtFlag_within)
    | (with_reducible apply Within.via (l := 292067710042) (m := 292057842768) (hm := by decide)); (case h => with_reducible apply State.commitDone_within)
    | (with_reducible apply Within.via (l := 292067710042) (m := 9868378) (hm := by decide)); (case h => with_reducible apply State.dropCommit_within)
    | split

theorem State.lockstepSluice_within (s : State) (c : Commit) :
    Within 292067710042 s (State.lockstepSluice s c).2 := by
  unfold State.lockstepSluice
  show Within2 _ _ _
  repeat'
    first
    | with_reducible apply Within.refl
    | with_reducible assumption
    | (extract_lets +onlyGivenNames x; refine Within.cut (l := 292067710042) (r := s) (x := x) ?_ ?_; rotate_left; (try clear_value x); intro _; rotate_right; subst x)
    | (extract_lets +onlyGivenNames x; try clear_value x)
    | with_reducible apply Within2.mk
    | ((with_reducible apply Within.fold); (rotate_left; intro _ _ _; rotate_right))
    | (with_reducible apply State.updHds_via (m := 65536) (l := 292067710042) (hm := by decide)); (case hheads => exact (fun _ _ => rfl)); (case hshots => exact (fun _ _ => rfl)); (case hsalvos => exact (fun h => absurd h (by decide)))
    | (with_reducible apply Within.via (l := 292067710042) (m := 66) (hm := by decide)); (case h => with_reducible apply State.cmtFlag_within)
    | (with_reducible apply Within.via (l := 292067710042) (m := 292057842768) (hm := by decide)); (case h => with_reducible apply State.commitDone_within)
    | (with_reducible apply Within.via (l := 292067710042) (m := 2) (hm := by decide)); (case h => with_reducible apply State.count_within)
    | (with_reducible apply Within.via (l := 292067710042) (m := 9868378) (hm := by decide)); (case h => with_reducible apply State.dropCommit_within)
    | (with_reducible apply Within.via (l := 292067710042) (m := 292067710042) (hm := by decide)); (case h => with_reducible apply State.notReady_within)
    | (with_reducible apply Within.via (l := 292067710042) (m := 2) (hm := by decide)); (case h => with_reducible apply State.setBit_within)
    | (with_reducible apply Within.via (l := 292067710042) (m := 32768) (hm := by decide)); (case h => with_reducible apply State.updHead_within)
    | split

theorem State.judgeCommit_within (s : State) (h f : Nat) (c : Commit) :
    Within 292067710042 s (State.judgeCommit s h f c).2 := by
  unfold State.judgeCommit
  show Within2 _ _ _
  repeat'
    first
    | with_reducible apply Within.refl
    | with_reducible assumption
    | (extract_lets +onlyGivenNames x; refine Within.cut (l := 292067710042) (r := s) (x := x) ?_ ?_; rotate_left; (try clear_value x); intro _; rotate_right; subst x)
    | (extract_lets +onlyGivenNames x; refine Within.cutF (l := 292067710042) (r := s) (x := x) ?_ ?_; rotate_left; (try clear_value x); intro hF; rotate_right; (subst x; intro _ _; beta_reduce))
    | with_reducible apply hF
    | (extract_lets +onlyGivenNames x; refine Within.cut2 (l := 292067710042) (r := s) (x := x) ?_ ?_; rotate_left; (try clear_value x); intro _; rotate_right; subst x)
    | (extract_lets +onlyGivenNames x; refine Within.cut1 (l := 292067710042) (r := s) (x := x) ?_ ?_; rotate_left; (try clear_value x); intro _; rotate_right; subst x)
    | (extract_lets +onlyGivenNames x; try clear_value x)
    | (with_reducible apply Within2.snd; with_reducible assumption)
    | (with_reducible apply Within1.fst; with_reducible assumption)
    | with_reducible apply Within2.mk
    | with_reducible apply Within1.mk
    | with_reducible refine Within2.fold ?_ (fun _ _ _ => ?_)
    | with_reducible refine Within1.fold ?_ (fun _ _ _ => ?_)
    | (with_reducible apply Within.via (l := 292067710042) (m := 32834) (hm := by decide)); (case h => with_reducible apply State.holdCommit_within)
    | (with_reducible apply Within2.via (l := 292067710042) (m := 292067710042) (hm := by decide)); (case h => with_reducible apply State.lockstepSluice_within)
    | (with_reducible apply Within.via (l := 292067710042) (m := 292067710042) (hm := by decide)); (case h => with_reducible apply State.lockstepSluice_within)
    | (with_reducible apply Within.via (l := 292067710042) (m := 292067710042) (hm := by decide)); (case h => (with_reducible apply Within2.ofEq (State.lockstepSluice_within _ _)); with_reducible assumption)
    | (with_reducible apply Within.via (l := 292067710042) (m := 292067710042) (hm := by decide)); (case h => with_reducible apply State.notReady_within)
    | (with_reducible apply Within.via (l := 292067710042) (m := 2) (hm := by decide)); (case h => with_reducible apply State.sluiceMiss_within)
    | (with_reducible apply Within.via (l := 292067710042) (m := 32768) (hm := by decide)); (case h => with_reducible apply State.updHead_within)
    | split
    | dsimp only
    | (with_reducible refine Within2.ofEq' ?_ (by assumption))

theorem State.judgeQueue_within (h f fuel : Nat) (s : State) : Within 292067710042 s (judgeQueue h f fuel s) := by
  induction fuel generalizing s with
  | zero => exact Within.refl _ _
  | succ n ih =>
    unfold judgeQueue
    split
    · exact Within.refl _ _
    · extract_lets r
      have hr : Within 292067710042 s r.2 := (State.judgeCommit_within _ _ _ _).mono (by decide)
      split
      · exact (ih r.2).via (by decide) hr
      · exact hr

theorem State.closeSluice_within (s : State) (h f lines : Nat) :
    Within 292067710042 s (State.closeSluice s h f lines) := by
  unfold State.closeSluice
  repeat'
    first
    | with_reducible apply Within.refl
    | with_reducible assumption
    | (extract_lets +onlyGivenNames x; refine Within.cut (l := 292067710042) (r := s) (x := x) ?_ ?_; rotate_left; (try clear_value x); intro _; rotate_right; subst x)
    | (extract_lets +onlyGivenNames x; try clear_value x)
    | (with_reducible apply Within.via (l := 292067710042) (m := 292067710042) (hm := by decide)); (case h => with_reducible apply State.judgeQueue_within)
    | (with_reducible apply Within.via (l := 292067710042) (m := 32768) (hm := by decide)); (case h => with_reducible apply State.setHead_within)
    | split

theorem execSluiceClose_within (h : Fin 256) (s : State) :
    WithinO 292068234330 s (execSluiceClose h s) := by
  unfold execSluiceClose
  repeat'
    first
    | with_reducible apply Within.refl
    | with_reducible assumption
    | (extract_lets +onlyGivenNames x; refine Within.cut (l := 292068234330) (r := s) (x := x) ?_ ?_; rotate_left; (try clear_value x); intro _; rotate_right; subst x)
    | (extract_lets +onlyGivenNames x; try clear_value x)
    | with_reducible apply WithinO.next
    | with_reducible apply WithinO.fault
    | (with_reducible apply Within.via (l := 292068234330) (m := 292067710042) (hm := by decide)); (case h => with_reducible apply State.closeSluice_within)
    | (with_reducible apply Within.via (l := 292068234330) (m := 824410) (hm := by decide)); (case h => with_reducible apply State.compose_within)
    | (with_reducible apply Within.via (l := 292068234330) (m := 2) (hm := by decide)); (case h => with_reducible apply State.count_within)
    | (with_reducible apply Within.via (l := 292068234330) (m := 32768) (hm := by decide)); (case h => with_reducible apply State.updHead_within)
    | split

theorem execComposeDeadline_within (h : Fin 256) (late : List (Fin 8 × Nat)) (s : State) :
    WithinO 36938 s (execComposeDeadline h late s) := by
  unfold execComposeDeadline
  repeat'
    first
    | with_reducible apply Within.refl
    | with_reducible assumption
    | (extract_lets +onlyGivenNames x; refine Within.cut (l := 36938) (r := s) (x := x) ?_ ?_; rotate_left; (try clear_value x); intro _; rotate_right; subst x)
    | (extract_lets +onlyGivenNames x; try clear_value x)
    | with_reducible apply WithinO.next
    | with_reducible apply WithinO.fault
    | ((with_reducible apply Within.fold); (rotate_left; intro _ _ _; rotate_right))
    | (with_reducible apply Within.via (l := 36938) (m := 8) (hm := by decide)); (case h => (with_reducible apply State.ledAdd_within); decide)
    | (with_reducible apply Within.via (l := 36938) (m := 8) (hm := by decide)); (case h => (with_reducible apply State.ledSet_within); decide)
    | (with_reducible apply Within.via (l := 36938) (m := 66) (hm := by decide)); (case h => with_reducible apply State.layerRaise_within)
    | (with_reducible apply Within.via (l := 36938) (m := 4096) (hm := by decide)); (case h => with_reducible apply State.unpinHead_within)
    | (with_reducible apply Within.via (l := 36938) (m := 32768) (hm := by decide)); (case h => with_reducible apply State.updHead_within)
    | split

end Sys2Proof.Machine
end

