-- ==== Sys2Proof/Laws/FramePush.lean ====
section
/-!
SUPPORT. Laws/FramePush.lean: what each function of Machine/Push.lean can touch.
-/
set_option linter.unusedTactic false
set_option linter.unreachableTactic false
set_option linter.tactic.unusedName false

namespace Sys2Proof.Machine

theorem State.setPush_within (s : State) (c : Nat) (v : Push) :
    Within 4194304 s (State.setPush s c v) := by
  unfold State.setPush
  repeat'
    first
    | with_reducible apply Within.refl
    | with_reducible assumption
    | (with_reducible apply State.updOut_via (m := 4194304) (l := 4194304) (hm := by decide)); (case hconverters => exact (fun _ _ => rfl)); (case hdestinations => exact (fun _ _ => rfl)); (case hpushes => exact (fun h => absurd h (by decide)))
    | split

theorem State.updPush_within (s : State) (c : Nat) (f : Push → Push) :
    Within 4194304 s (State.updPush s c f) := by
  unfold State.updPush
  repeat'
    first
    | with_reducible apply Within.refl
    | with_reducible assumption
    | (with_reducible apply Within.via (l := 4194304) (m := 4194304) (hm := by decide)); (case h => with_reducible apply State.setPush_within)
    | split

theorem State.pushRaise_within (s : State) (c bit code extra frame : Nat) :
    Within 66 s (State.pushRaise s c bit code extra frame) := by
  unfold State.pushRaise
  repeat'
    first
    | with_reducible apply Within.refl
    | with_reducible assumption
    | (with_reducible apply Within.via (l := 66) (m := 66) (hm := by decide)); (case h => with_reducible apply State.raise_within)
    | split

theorem State.pushCount_within (s : State) (c k n : Nat) :
    Within 8 s (State.pushCount s c k n) := by
  unfold State.pushCount
  repeat'
    first
    | with_reducible apply Within.refl
    | with_reducible assumption
    | (with_reducible apply Within.via (l := 8) (m := 8) (hm := by decide)); (case h => (with_reducible apply State.ledAdd_within); decide)
    | split

theorem State.pushWrite_within (s : State) (c : Nat) (bs : List Byte) (frame : Nat) :
    Within 4194440 s (State.pushWrite s c bs frame) := by
  unfold State.pushWrite
  repeat'
    first
    | with_reducible apply Within.refl
    | with_reducible assumption
    | (extract_lets +onlyGivenNames x; refine Within.cut (l := 4194440) (r := s) (x := x) ?_ ?_; rotate_left; (try clear_value x); intro _; rotate_right; subst x)
    | (extract_lets +onlyGivenNames x; try clear_value x)
    | (with_reducible apply Within.via (l := 4194440) (m := 128) (hm := by decide)); (case h => with_reducible apply State.hostWrite_within)
    | (with_reducible apply Within.via (l := 4194440) (m := 8) (hm := by decide)); (case h => with_reducible apply State.pushCount_within)
    | (with_reducible apply Within.via (l := 4194440) (m := 4194304) (hm := by decide)); (case h => with_reducible apply State.setPush_within)
    | split

theorem State.pushAbort_within (s : State) (c reason : Nat) :
    Within 4195018 s (State.pushAbort s c reason) := by
  unfold State.pushAbort
  repeat'
    first
    | with_reducible apply Within.refl
    | with_reducible assumption
    | (extract_lets +onlyGivenNames x; refine Within.cut (l := 4195018) (r := s) (x := x) ?_ ?_; rotate_left; (try clear_value x); intro _; rotate_right; subst x)
    | (extract_lets +onlyGivenNames x; try clear_value x)
    | (with_reducible apply Within.via (l := 4195018) (m := 640) (hm := by decide)); (case h => with_reducible apply State.interrupt_within)
    | (with_reducible apply Within.via (l := 4195018) (m := 8) (hm := by decide)); (case h => with_reducible apply State.pushCount_within)
    | (with_reducible apply Within.via (l := 4195018) (m := 66) (hm := by decide)); (case h => with_reducible apply State.pushRaise_within)
    | (with_reducible apply Within.via (l := 4195018) (m := 4194440) (hm := by decide)); (case h => with_reducible apply State.pushWrite_within)
    | (with_reducible apply Within.via (l := 4195018) (m := 4194304) (hm := by decide)); (case h => with_reducible apply State.updPush_within)
    | split

theorem State.pushAbortHead_within (s : State) (h reason : Nat) :
    Within 4195018 s (State.pushAbortHead s h reason) := by
  unfold State.pushAbortHead
  repeat'
    first
    | with_reducible apply Within.refl
    | with_reducible assumption
    | ((with_reducible apply Within.fold); (rotate_left; intro _ _ _; rotate_right))
    | (with_reducible apply Within.via (l := 4195018) (m := 4195018) (hm := by decide)); (case h => with_reducible apply State.pushAbort_within)
    | split

theorem State.pushShed_within (s : State) (c frame : Nat) :
    Within 4194370 s (State.pushShed s c frame) := by
  unfold State.pushShed
  repeat'
    first
    | with_reducible apply Within.refl
    | with_reducible assumption
    | (extract_lets +onlyGivenNames x; refine Within.cut (l := 4194370) (r := s) (x := x) ?_ ?_; rotate_left; (try clear_value x); intro _; rotate_right; subst x)
    | (extract_lets +onlyGivenNames x; try clear_value x)
    | (with_reducible apply Within.via (l := 4194370) (m := 66) (hm := by decide)); (case h => with_reducible apply State.pushRaise_within)
    | (with_reducible apply Within.via (l := 4194370) (m := 4194304) (hm := by decide)); (case h => with_reducible apply State.updPush_within)
    | split

theorem State.pushSample_within (s : State) (c j : Nat) (shown : Bool) :
    Within 4194506 s (State.pushSample s c j shown) := by
  unfold State.pushSample
  repeat'
    first
    | with_reducible apply Within.refl
    | with_reducible assumption
    | (extract_lets +onlyGivenNames x; refine Within.cut (l := 4194506) (r := s) (x := x) ?_ ?_; rotate_left; (try clear_value x); intro _; rotate_right; subst x)
    | (extract_lets +onlyGivenNames x; try clear_value x)
    | (with_reducible apply Within.via (l := 4194506) (m := 8) (hm := by decide)); (case h => with_reducible apply State.pushCount_within)
    | (with_reducible apply Within.via (l := 4194506) (m := 66) (hm := by decide)); (case h => with_reducible apply State.pushRaise_within)
    | (with_reducible apply Within.via (l := 4194506) (m := 4194370) (hm := by decide)); (case h => with_reducible apply State.pushShed_within)
    | (with_reducible apply Within.via (l := 4194506) (m := 4194440) (hm := by decide)); (case h => with_reducible apply State.pushWrite_within)
    | (with_reducible apply Within.via (l := 4194506) (m := 2) (hm := by decide)); (case h => with_reducible apply State.setBit_within)
    | (with_reducible apply Within.via (l := 4194506) (m := 4194304) (hm := by decide)); (case h => with_reducible apply State.setPush_within)
    | (with_reducible apply Within.via (l := 4194506) (m := 4194304) (hm := by decide)); (case h => with_reducible apply State.updPush_within)
    | split

theorem State.pushPeriod_within (s : State) (h j : Nat) (shown : Bool) :
    Within 4194506 s (State.pushPeriod s h j shown) := by
  unfold State.pushPeriod
  repeat'
    first
    | with_reducible apply Within.refl
    | with_reducible assumption
    | (extract_lets +onlyGivenNames x; refine Within.cut (l := 4194506) (r := s) (x := x) ?_ ?_; rotate_left; (try clear_value x); intro _; rotate_right; subst x)
    | (extract_lets +onlyGivenNames x; try clear_value x)
    | ((with_reducible apply Within.fold); (rotate_left; intro _ _ _; rotate_right))
    | (with_reducible apply Within.via (l := 4194506) (m := 4194506) (hm := by decide)); (case h => with_reducible apply State.pushSample_within)
    | split

theorem execPushReadEnd_within (c : Fin 8) (tiles : List (BitVec 64 × List Byte)) (ok : Bool) (s : State) :
    WithinO 4195018 s (execPushReadEnd c tiles ok s) := by
  unfold execPushReadEnd
  repeat'
    first
    | with_reducible apply Within.refl
    | with_reducible assumption
    | (extract_lets +onlyGivenNames x; refine Within.cut (l := 4195018) (r := s) (x := x) ?_ ?_; rotate_left; (try clear_value x); intro _; rotate_right; subst x)
    | (extract_lets +onlyGivenNames x; try clear_value x)
    | with_reducible apply WithinO.next
    | with_reducible apply WithinO.fault
    | ((with_reducible apply Within.fold); (rotate_left; intro _ _ _; rotate_right))
    | (with_reducible apply Within.via (l := 4195018) (m := 640) (hm := by decide)); (case h => with_reducible apply State.interrupt_within)
    | (with_reducible apply Within.via (l := 4195018) (m := 4195018) (hm := by decide)); (case h => with_reducible apply State.pushAbort_within)
    | (with_reducible apply Within.via (l := 4195018) (m := 8) (hm := by decide)); (case h => with_reducible apply State.pushCount_within)
    | (with_reducible apply Within.via (l := 4195018) (m := 4194440) (hm := by decide)); (case h => with_reducible apply State.pushWrite_within)
    | (with_reducible apply Within.via (l := 4195018) (m := 4194304) (hm := by decide)); (case h => with_reducible apply State.updPush_within)
    | split

theorem execPushHeadWrite_within (c : Fin 8) (v : BitVec 32) (s : State) :
    WithinO 4194304 s (execPushHeadWrite c v s) := by
  unfold execPushHeadWrite
  repeat'
    first
    | with_reducible apply Within.refl
    | with_reducible assumption
    | with_reducible apply WithinO.next
    | with_reducible apply WithinO.fault
    | (with_reducible apply Within.via (l := 4194304) (m := 4194304) (hm := by decide)); (case h => with_reducible apply State.updPush_within)
    | split

theorem execPushSet_within (n : Fin 64) (s : State) :
    WithinO 12584026 s (execPushSet n s) := by
  unfold execPushSet
  repeat'
    first
    | with_reducible apply Within.refl
    | with_reducible assumption
    | (extract_lets +onlyGivenNames x; refine Within.cut (l := 12584026) (r := s) (x := x) ?_ ?_; rotate_left; (try clear_value x); intro _; rotate_right; subst x)
    | (extract_lets +onlyGivenNames x; refine Within.cut2 (l := 12584026) (r := s) (x := x) ?_ ?_; rotate_left; (try clear_value x); intro _; rotate_right; subst x)
    | (extract_lets +onlyGivenNames x; refine Within.cut1 (l := 12584026) (r := s) (x := x) ?_ ?_; rotate_left; (try clear_value x); intro _; rotate_right; subst x)
    | (extract_lets +onlyGivenNames x; try clear_value x)
    | (with_reducible apply Within2.snd; with_reducible assumption)
    | (with_reducible apply Within1.fst; with_reducible assumption)
    | with_reducible apply Within2.mk
    | with_reducible apply Within1.mk
    | with_reducible refine Within2.fold ?_ (fun _ _ _ => ?_)
    | with_reducible refine Within1.fold ?_ (fun _ _ _ => ?_)
    | with_reducible apply WithinO.next
    | with_reducible apply WithinO.fault
    | (with_reducible apply Within.via (l := 12584026) (m := 1040) (hm := by decide)); (case h => with_reducible apply State.complete_within)
    | (with_reducible apply Within2.via (l := 12584026) (m := 8388618) (hm := by decide)); (case h => with_reducible apply State.leaveAsk_within)
    | (with_reducible apply Within.via (l := 12584026) (m := 8388618) (hm := by decide)); (case h => with_reducible apply State.leaveAsk_within)
    | (with_reducible apply Within.via (l := 12584026) (m := 8388618) (hm := by decide)); (case h => (with_reducible apply Within2.ofEq (State.leaveAsk_within _ _ _ _)); with_reducible assumption)
    | (with_reducible apply Within.via (l := 12584026) (m := 8388682) (hm := by decide)); (case h => with_reducible apply State.leaveRet_within)
    | with_reducible refine State.runOp_via (by decide) ?_ (fun _ _ _ => ?_)
    | (with_reducible apply Within.via (l := 12584026) (m := 4194304) (hm := by decide)); (case h => with_reducible apply State.setPush_within)
    | split
    | dsimp only
    | (with_reducible refine Within2.ofEq' ?_ (by assumption))

theorem State.pushOff_within (s : State) (c : Nat) :
    Within 12582986 s (State.pushOff s c) := by
  unfold State.pushOff
  repeat'
    first
    | with_reducible apply Within.refl
    | with_reducible assumption
    | (extract_lets +onlyGivenNames x; refine Within.cut (l := 12582986) (r := s) (x := x) ?_ ?_; rotate_left; (try clear_value x); intro _; rotate_right; subst x)
    | (extract_lets +onlyGivenNames x; try clear_value x)
    | (with_reducible apply Within.via (l := 12582986) (m := 8388682) (hm := by decide)); (case h => with_reducible apply State.leaveRet_within)
    | (with_reducible apply Within.via (l := 12582986) (m := 4194304) (hm := by decide)); (case h => with_reducible apply State.setPush_within)
    | split

theorem execPushDisable_within (n : Fin 64) (s : State) :
    WithinO 12584666 s (execPushDisable n s) := by
  unfold execPushDisable
  repeat'
    first
    | with_reducible apply Within.refl
    | with_reducible assumption
    | with_reducible apply WithinO.next
    | with_reducible apply WithinO.fault
    | (with_reducible apply Within.via (l := 12584666) (m := 1040) (hm := by decide)); (case h => with_reducible apply State.complete_within)
    | (with_reducible apply Within.via (l := 12584666) (m := 4195018) (hm := by decide)); (case h => with_reducible apply State.pushAbort_within)
    | (with_reducible apply Within.via (l := 12584666) (m := 12582986) (hm := by decide)); (case h => with_reducible apply State.pushOff_within)
    | with_reducible refine State.runOp_via (by decide) ?_ (fun _ _ _ => ?_)
    | split

theorem execPushRefresh_within (n : Fin 64) (s : State) :
    WithinO 4195408 s (execPushRefresh n s) := by
  unfold execPushRefresh
  repeat'
    first
    | with_reducible apply Within.refl
    | with_reducible assumption
    | with_reducible apply WithinO.next
    | with_reducible apply WithinO.fault
    | (with_reducible apply Within.via (l := 4195408) (m := 1040) (hm := by decide)); (case h => with_reducible apply State.complete_within)
    | with_reducible refine State.runOp_via (by decide) ?_ (fun _ _ _ => ?_)
    | (with_reducible apply Within.via (l := 4195408) (m := 4194304) (hm := by decide)); (case h => with_reducible apply State.updPush_within)
    | split

end Sys2Proof.Machine
end

