-- ==== Sys2Proof/Laws/FrameFlip.lean ====
section
/-!
SUPPORT. Laws/FrameFlip.lean: what each function of Machine/Flip.lean can touch.
-/
set_option linter.unusedTactic false
set_option linter.unreachableTactic false
set_option linter.tactic.unusedName false

namespace Sys2Proof.Machine

theorem State.lineEvent_within (s : State) (h reason frame : Nat) :
    Within 64 s (State.lineEvent s h reason frame) := by
  unfold State.lineEvent
  repeat'
    first
    | with_reducible apply Within.refl
    | with_reducible assumption
    | (with_reducible apply Within.via (l := 64) (m := 64) (hm := by decide)); (case h => with_reducible apply State.occur_within)
    | split

theorem State.lineFrame_within (s : State) (h j : Nat) :
    Within 824410 s (State.lineFrame s h j) := by
  unfold State.lineFrame
  repeat'
    first
    | with_reducible apply Within.refl
    | with_reducible assumption
    | (extract_lets +onlyGivenNames x; refine Within.cut (l := 824410) (r := s) (x := x) ?_ ?_; rotate_left; (try clear_value x); intro _; rotate_right; subst x)
    | (extract_lets +onlyGivenNames x; try clear_value x)
    | (with_reducible apply Within.via (l := 824410) (m := 824410) (hm := by decide)); (case h => with_reducible apply State.compose_within)
    | (with_reducible apply Within.via (l := 824410) (m := 32768) (hm := by decide)); (case h => with_reducible apply State.updHead_within)
    | split

theorem State.enterLine_within (s : State) (h j reason : Nat) :
    Within 300658168922 s (State.enterLine s h j reason) := by
  unfold State.enterLine
  repeat'
    first
    | with_reducible apply Within.refl
    | with_reducible assumption
    | (extract_lets +onlyGivenNames x; refine Within.cut (l := 300658168922) (r := s) (x := x) ?_ ?_; rotate_left; (try clear_value x); intro _; rotate_right; subst x)
    | (extract_lets +onlyGivenNames x; try clear_value x)
    | (with_reducible apply Within.via (l := 300658168922) (m := 292067710042) (hm := by decide)); (case h => with_reducible apply State.closeSluice_within)
    | (with_reducible apply Within.via (l := 300658168922) (m := 64) (hm := by decide)); (case h => with_reducible apply State.lineEvent_within)
    | (with_reducible apply Within.via (l := 300658168922) (m := 824410) (hm := by decide)); (case h => with_reducible apply State.lineFrame_within)
    | (with_reducible apply Within.via (l := 300658168922) (m := 32768) (hm := by decide)); (case h => with_reducible apply State.setHead_within)
    | (with_reducible apply Within.via (l := 300658168922) (m := 8589934592) (hm := by decide)); (case h => with_reducible apply State.updChain_within)
    | split

theorem State.headPeriod_within (s : State) (h j : Nat) :
    Within 300658168922 s (State.headPeriod s h j) := by
  unfold State.headPeriod
  repeat'
    first
    | with_reducible apply Within.refl
    | with_reducible assumption
    | (extract_lets +onlyGivenNames x; refine Within.cut (l := 300658168922) (r := s) (x := x) ?_ ?_; rotate_left; (try clear_value x); intro _; rotate_right; subst x)
    | (extract_lets +onlyGivenNames x; try clear_value x)
    | (with_reducible apply Within.via (l := 300658168922) (m := 292067710042) (hm := by decide)); (case h => with_reducible apply State.closeSluice_within)
    | (with_reducible apply Within.via (l := 300658168922) (m := 300658168922) (hm := by decide)); (case h => with_reducible apply State.enterLine_within)
    | (with_reducible apply Within.via (l := 300658168922) (m := 824410) (hm := by decide)); (case h => with_reducible apply State.lineFrame_within)
    | (with_reducible apply Within.via (l := 300658168922) (m := 32768) (hm := by decide)); (case h => with_reducible apply State.setHead_within)
    | (with_reducible apply Within.via (l := 300658168922) (m := 32768) (hm := by decide)); (case h => with_reducible apply State.updHead_within)
    | split

theorem State.exclBent_within (s : State) (p : Nat) :
    Within 4294967298 s (State.exclBent s p) := by
  unfold State.exclBent
  repeat'
    first
    | with_reducible apply Within.refl
    | with_reducible assumption
    | (extract_lets +onlyGivenNames x; refine Within.cut (l := 4294967298) (r := s) (x := x) ?_ ?_; rotate_left; (try clear_value x); intro _; rotate_right; subst x)
    | (extract_lets +onlyGivenNames x; try clear_value x)
    | ((with_reducible apply Within.fold); (rotate_left; intro _ _ _; rotate_right))
    | (with_reducible apply Within.via (l := 4294967298) (m := 2) (hm := by decide)); (case h => with_reducible apply State.count_within)
    | (with_reducible apply Within.via (l := 4294967298) (m := 4294967296) (hm := by decide)); (case h => with_reducible apply State.setPsnDest_within)
    | split

theorem execRasterPeriodStart_within (p : Fin 32) (s : State) :
    WithinO 305496298714 s (execRasterPeriodStart p s) := by
  unfold execRasterPeriodStart
  repeat'
    first
    | with_reducible apply Within.refl
    | with_reducible assumption
    | (extract_lets +onlyGivenNames x; refine Within.cut (l := 305496298714) (r := s) (x := x) ?_ ?_; rotate_left; (try clear_value x); intro _; rotate_right; subst x)
    | (extract_lets +onlyGivenNames x; try clear_value x)
    | with_reducible apply WithinO.next
    | with_reducible apply WithinO.fault
    | ((with_reducible apply Within.fold); (rotate_left; intro _ _ _; rotate_right))
    | (with_reducible apply Within.via (l := 305496298714) (m := 2) (hm := by decide)); (case h => with_reducible apply State.count_within)
    | (with_reducible apply Within.via (l := 305496298714) (m := 2097160) (hm := by decide)); (case h => with_reducible apply State.endPeriods_within)
    | (with_reducible apply Within.via (l := 305496298714) (m := 4294967298) (hm := by decide)); (case h => with_reducible apply State.exclBent_within)
    | (with_reducible apply Within.via (l := 305496298714) (m := 300658168922) (hm := by decide)); (case h => with_reducible apply State.headPeriod_within)
    | (with_reducible apply Within.via (l := 305496298714) (m := 4194506) (hm := by decide)); (case h => with_reducible apply State.pushPeriod_within)
    | (with_reducible apply Within.via (l := 305496298714) (m := 66) (hm := by decide)); (case h => with_reducible apply State.quietCheck_within)
    | (with_reducible apply Within.via (l := 305496298714) (m := 536870912) (hm := by decide)); (case h => with_reducible apply State.setPolder_within)
    | split

theorem State.writeForceLine_within (s : State) (h : Nat) (on : Bool) :
    Within 32770 s (State.writeForceLine s h on) := by
  unfold State.writeForceLine
  repeat'
    first
    | with_reducible apply Within.refl
    | with_reducible assumption
    | (extract_lets +onlyGivenNames x; refine Within.cut (l := 32770) (r := s) (x := x) ?_ ?_; rotate_left; (try clear_value x); intro _; rotate_right; subst x)
    | (extract_lets +onlyGivenNames x; try clear_value x)
    | (with_reducible apply Within.via (l := 32770) (m := 2) (hm := by decide)); (case h => with_reducible apply State.fset_within)
    | (with_reducible apply Within.via (l := 32770) (m := 32768) (hm := by decide)); (case h => with_reducible apply State.setHead_within)
    | split

theorem execScanForceLine_within (h : Fin 256) (on : Bool) (s : State) :
    WithinO 32770 s (execScanForceLine h on s) := by
  unfold execScanForceLine
  repeat'
    first
    | with_reducible apply Within.refl
    | with_reducible assumption
    | with_reducible apply WithinO.next
    | with_reducible apply WithinO.fault
    | (with_reducible apply Within.via (l := 32770) (m := 32770) (hm := by decide)); (case h => with_reducible apply State.writeForceLine_within)
    | split

theorem State.uncheckFrame_within (s : State) (h frame : Nat) :
    Within 12886999048 s (State.uncheckFrame s h frame) := by
  unfold State.uncheckFrame
  repeat'
    first
    | with_reducible apply Within.refl
    | with_reducible assumption
    | (extract_lets +onlyGivenNames x; refine Within.cut (l := 12886999048) (r := s) (x := x) ?_ ?_; rotate_left; (try clear_value x); intro _; rotate_right; subst x)
    | (extract_lets +onlyGivenNames x; try clear_value x)
    | ((with_reducible apply Within.fold); (rotate_left; intro _ _ _; rotate_right))
    | (with_reducible apply Within.via (l := 12886999048) (m := 8) (hm := by decide)); (case h => (with_reducible apply State.ledAdd_within); decide)
    | (with_reducible apply Within.via (l := 12886999048) (m := 4294967296) (hm := by decide)); (case h => with_reducible apply State.setPsnDest_within)
    | (with_reducible apply Within.via (l := 12886999048) (m := 8589934592) (hm := by decide)); (case h => with_reducible apply State.updChain_within)
    | (with_reducible apply Within.via (l := 12886999048) (m := 2097152) (hm := by decide)); (case h => with_reducible apply State.updDest_within)
    | split

theorem State.headReset_within (s : State) (h : Nat) :
    Within 12891230922 s (State.headReset s h) := by
  unfold State.headReset
  repeat'
    first
    | with_reducible apply Within.refl
    | with_reducible assumption
    | (extract_lets +onlyGivenNames x; refine Within.cut (l := 12891230922) (r := s) (x := x) ?_ ?_; rotate_left; (try clear_value x); intro _; rotate_right; subst x)
    | (extract_lets +onlyGivenNames x; try clear_value x)
    | ((with_reducible apply Within.fold); (rotate_left; intro _ _ _; rotate_right))
    | (with_reducible apply Within.via (l := 12891230922) (m := 2) (hm := by decide)); (case h => with_reducible apply State.count_within)
    | (with_reducible apply Within.via (l := 12891230922) (m := 4195018) (hm := by decide)); (case h => with_reducible apply State.pushAbortHead_within)
    | (with_reducible apply Within.via (l := 12891230922) (m := 2) (hm := by decide)); (case h => with_reducible apply State.sluiceMiss_within)
    | (with_reducible apply Within.via (l := 12891230922) (m := 12886999048) (hm := by decide)); (case h => with_reducible apply State.uncheckFrame_within)
    | (with_reducible apply Within.via (l := 12891230922) (m := 4096) (hm := by decide)); (case h => with_reducible apply State.unpinHead_within)
    | (with_reducible apply Within.via (l := 12891230922) (m := 32768) (hm := by decide)); (case h => with_reducible apply State.updHead_within)
    | split

theorem execHeadRstGo_within (h : Fin 256) (s : State) :
    WithinO 12891230922 s (execHeadRstGo h s) := by
  unfold execHeadRstGo
  repeat'
    first
    | with_reducible apply Within.refl
    | with_reducible assumption
    | with_reducible apply WithinO.next
    | with_reducible apply WithinO.fault
    | (with_reducible apply Within.via (l := 12891230922) (m := 2) (hm := by decide)); (case h => with_reducible apply State.fset_within)
    | (with_reducible apply Within.via (l := 12891230922) (m := 12891230922) (hm := by decide)); (case h => with_reducible apply State.headReset_within)
    | split

theorem State.abandonHead_within (s : State) (h : Nat) :
    Within 292074002138 s (State.abandonHead s h) := by
  unfold State.abandonHead
  repeat'
    first
    | with_reducible apply Within.refl
    | with_reducible assumption
    | (extract_lets +onlyGivenNames x; refine Within.cut (l := 292074002138) (r := s) (x := x) ?_ ?_; rotate_left; (try clear_value x); intro _; rotate_right; subst x)
    | (extract_lets +onlyGivenNames x; try clear_value x)
    | ((with_reducible apply Within.fold); (rotate_left; intro _ _ _; rotate_right))
    | (with_reducible apply Within.via (l := 292074002138) (m := 292057842768) (hm := by decide)); (case h => with_reducible apply State.commitDone_within)
    | (with_reducible apply Within.via (l := 292074002138) (m := 9868378) (hm := by decide)); (case h => with_reducible apply State.dropCommit_within)
    | (with_reducible apply Within.via (l := 292074002138) (m := 4195018) (hm := by decide)); (case h => with_reducible apply State.pushAbortHead_within)
    | (with_reducible apply Within.via (l := 292074002138) (m := 2097152) (hm := by decide)); (case h => with_reducible apply State.squelch_within)
    | (with_reducible apply Within.via (l := 292074002138) (m := 4096) (hm := by decide)); (case h => with_reducible apply State.unpinHead_within)
    | (with_reducible apply Within.via (l := 292074002138) (m := 32768) (hm := by decide)); (case h => with_reducible apply State.updHead_within)
    | split

theorem State.containHead_within (s : State) (h cause : Nat) :
    Within 304958904026 s (State.containHead s h cause) := by
  unfold State.containHead
  repeat'
    first
    | with_reducible apply Within.refl
    | with_reducible assumption
    | (extract_lets +onlyGivenNames x; refine Within.cut (l := 304958904026) (r := s) (x := x) ?_ ?_; rotate_left; (try clear_value x); intro _; rotate_right; subst x)
    | (extract_lets +onlyGivenNames x; try clear_value x)
    | (with_reducible apply Within.via (l := 304958904026) (m := 292074002138) (hm := by decide)); (case h => with_reducible apply State.abandonHead_within)
    | (with_reducible apply Within.via (l := 304958904026) (m := 2) (hm := by decide)); (case h => with_reducible apply State.count_within)
    | (with_reducible apply Within.via (l := 304958904026) (m := 12891230922) (hm := by decide)); (case h => with_reducible apply State.headReset_within)
    | (with_reducible apply Within.via (l := 304958904026) (m := 64) (hm := by decide)); (case h => with_reducible apply State.occur_within)
    | (with_reducible apply Within.via (l := 304958904026) (m := 2) (hm := by decide)); (case h => with_reducible apply State.setBit_within)
    | (with_reducible apply Within.via (l := 304958904026) (m := 32768) (hm := by decide)); (case h => with_reducible apply State.updHead_within)
    | split

theorem execContainmentHeadReset_within (h : Fin 256) (cause : Fin 3) (s : State) :
    WithinO 304958904026 s (execContainmentHeadReset h cause s) := by
  unfold execContainmentHeadReset
  repeat'
    first
    | with_reducible apply Within.refl
    | with_reducible assumption
    | with_reducible apply WithinO.next
    | with_reducible apply WithinO.fault
    | (with_reducible apply Within.via (l := 304958904026) (m := 304958904026) (hm := by decide)); (case h => with_reducible apply State.containHead_within)
    | split

theorem State.releaseOld_within (s : State) (h : Nat) (c : Commit) :
    Within 9736266 s (State.releaseOld s h c) := by
  unfold State.releaseOld
  repeat'
    first
    | with_reducible apply Within.refl
    | with_reducible assumption
    | (extract_lets +onlyGivenNames x; refine Within.cut (l := 9736266) (r := s) (x := x) ?_ ?_; rotate_left; (try clear_value x); intro _; rotate_right; subst x)
    | (extract_lets +onlyGivenNames x; refine Within.cut2 (l := 9736266) (r := s) (x := x) ?_ ?_; rotate_left; (try clear_value x); intro _; rotate_right; subst x)
    | (extract_lets +onlyGivenNames x; refine Within.cut1 (l := 9736266) (r := s) (x := x) ?_ ?_; rotate_left; (try clear_value x); intro _; rotate_right; subst x)
    | (extract_lets +onlyGivenNames x; try clear_value x)
    | (with_reducible apply Within2.snd; with_reducible assumption)
    | (with_reducible apply Within1.fst; with_reducible assumption)
    | with_reducible apply Within2.mk
    | with_reducible apply Within1.mk
    | with_reducible refine Within2.fold ?_ (fun _ _ _ => ?_)
    | with_reducible refine Within1.fold ?_ (fun _ _ _ => ?_)
    | (with_reducible apply Within2.via (l := 9736266) (m := 8650826) (hm := by decide)); (case h => with_reducible apply State.freeScl_within)
    | (with_reducible apply Within.via (l := 9736266) (m := 8650826) (hm := by decide)); (case h => with_reducible apply State.freeScl_within)
    | (with_reducible apply Within.via (l := 9736266) (m := 8650826) (hm := by decide)); (case h => (with_reducible apply Within2.ofEq (State.freeScl_within _ _)); with_reducible assumption)
    | (with_reducible apply Within.via (l := 9736266) (m := 9441354) (hm := by decide)); (case h => with_reducible apply State.releaseCnv_within)
    | (with_reducible apply Within.via (l := 9736266) (m := 32768) (hm := by decide)); (case h => with_reducible apply State.updHead_within)
    | split
    | dsimp only
    | (with_reducible refine Within2.ofEq' ?_ (by assumption))

theorem State.degradeEvents_within (s : State) (h frame : Nat) (c : Commit) :
    Within 66 s (State.degradeEvents s h frame c) := by
  unfold State.degradeEvents
  repeat'
    first
    | with_reducible apply Within.refl
    | with_reducible assumption
    | (extract_lets +onlyGivenNames x; refine Within.cut (l := 66) (r := s) (x := x) ?_ ?_; rotate_left; (try clear_value x); intro _; rotate_right; subst x)
    | (extract_lets +onlyGivenNames x; try clear_value x)
    | ((with_reducible apply Within.fold); (rotate_left; intro _ _ _; rotate_right))
    | (with_reducible apply Within.via (l := 66) (m := 66) (hm := by decide)); (case h => with_reducible apply State.scaleEvent_within)
    | split

theorem State.lend_within (s : State) (c : Commit) :
    Within 8421450 s (State.lend s c) := by
  unfold State.lend
  repeat'
    first
    | with_reducible apply Within.refl
    | with_reducible assumption
    | (extract_lets +onlyGivenNames x; refine Within.cut (l := 8421450) (r := s) (x := x) ?_ ?_; rotate_left; (try clear_value x); intro _; rotate_right; subst x)
    | (extract_lets +onlyGivenNames x; try clear_value x)
    | ((with_reducible apply Within.fold); (rotate_left; intro _ _ _; rotate_right))
    | (with_reducible apply Within.via (l := 8421450) (m := 8388682) (hm := by decide)); (case h => with_reducible apply State.leaveRet_within)
    | (with_reducible apply Within.via (l := 8421450) (m := 32768) (hm := by decide)); (case h => with_reducible apply State.setHead_within)
    | split

theorem State.leaveHead_within (s : State) (h : Nat) (before : Option Nat) :
    Within 2159449178 s (State.leaveHead s h before) := by
  unfold State.leaveHead
  repeat'
    first
    | with_reducible apply Within.refl
    | with_reducible assumption
    | (with_reducible apply Within.via (l := 2159449178) (m := 2159449178) (hm := by decide)); (case h => with_reducible apply State.stopHead_within)
    | (with_reducible apply Within.via (l := 2159449178) (m := 32768) (hm := by decide)); (case h => with_reducible apply State.updHead_within)
    | split

theorem State.applyCommit_within (s : State) (h frame : Nat) (c : Commit) :
    Within 294215193690 s (State.applyCommit s h frame c).2 := by
  unfold State.applyCommit
  show Within2 _ _ _
  repeat'
    first
    | with_reducible apply Within.refl
    | with_reducible assumption
    | (extract_lets +onlyGivenNames x; refine Within.cut (l := 294215193690) (r := s) (x := x) ?_ ?_; rotate_left; (try clear_value x); intro _; rotate_right; subst x)
    | (extract_lets +onlyGivenNames x; try clear_value x)
    | with_reducible apply Within2.mk
    | (with_reducible apply Within.via (l := 294215193690) (m := 292057842768) (hm := by decide)); (case h => with_reducible apply State.commitDone_within)
    | (with_reducible apply Within.via (l := 294215193690) (m := 66) (hm := by decide)); (case h => with_reducible apply State.degradeEvents_within)
    | (with_reducible apply Within.via (l := 294215193690) (m := 9868378) (hm := by decide)); (case h => with_reducible apply State.dropCommit_within)
    | (with_reducible apply Within.via (l := 294215193690) (m := 132120) (hm := by decide)); (case h => with_reducible apply State.dropRefs_within)
    | (with_reducible apply Within.via (l := 294215193690) (m := 8421450) (hm := by decide)); (case h => with_reducible apply State.lend_within)
    | (with_reducible apply Within.via (l := 294215193690) (m := 64) (hm := by decide)); (case h => with_reducible apply State.missEvent_within)
    | (with_reducible apply Within.via (l := 294215193690) (m := 9736266) (hm := by decide)); (case h => with_reducible apply State.releaseOld_within)
    | (with_reducible apply Within.via (l := 294215193690) (m := 2147483648) (hm := by decide)); (case h => with_reducible apply State.setDike_within)
    | (with_reducible apply Within.via (l := 294215193690) (m := 32768) (hm := by decide)); (case h => with_reducible apply State.setHead_within)
    | (with_reducible apply Within.via (l := 294215193690) (m := 2) (hm := by decide)); (case h => with_reducible apply State.wr_within)
    | split

theorem State.applyAll_within (s : State) (h frame : Nat) :
    Within 294215193690 s (State.applyAll s h frame).2 := by
  unfold State.applyAll
  show Within2 _ _ _
  repeat'
    first
    | with_reducible apply Within.refl
    | with_reducible assumption
    | (extract_lets +onlyGivenNames x; refine Within.cut (l := 294215193690) (r := s) (x := x) ?_ ?_; rotate_left; (try clear_value x); intro _; rotate_right; subst x)
    | (extract_lets +onlyGivenNames x; refine Within.cut2 (l := 294215193690) (r := s) (x := x) ?_ ?_; rotate_left; (try clear_value x); intro _; rotate_right; subst x)
    | (extract_lets +onlyGivenNames x; refine Within.cut1 (l := 294215193690) (r := s) (x := x) ?_ ?_; rotate_left; (try clear_value x); intro _; rotate_right; subst x)
    | (extract_lets +onlyGivenNames x; try clear_value x)
    | (with_reducible apply Within2.snd; with_reducible assumption)
    | (with_reducible apply Within1.fst; with_reducible assumption)
    | with_reducible apply Within2.mk
    | with_reducible apply Within1.mk
    | with_reducible refine Within2.fold ?_ (fun _ _ _ => ?_)
    | with_reducible refine Within1.fold ?_ (fun _ _ _ => ?_)
    | ((with_reducible apply Within.fold); (rotate_left; intro _ _ _; rotate_right))
    | (with_reducible apply Within2.via (l := 294215193690) (m := 294215193690) (hm := by decide)); (case h => with_reducible apply State.applyCommit_within)
    | (with_reducible apply Within.via (l := 294215193690) (m := 294215193690) (hm := by decide)); (case h => with_reducible apply State.applyCommit_within)
    | (with_reducible apply Within.via (l := 294215193690) (m := 294215193690) (hm := by decide)); (case h => (with_reducible apply Within2.ofEq (State.applyCommit_within _ _ _ _)); with_reducible assumption)
    | split
    | dsimp only
    | (with_reducible refine Within2.ofEq' ?_ (by assumption))

theorem State.countFlip_within (s : State) (h : Nat) (p : Picture) :
    Within 8 s (State.countFlip s h p) := by
  unfold State.countFlip
  repeat'
    first
    | with_reducible apply Within.refl
    | with_reducible assumption
    | (extract_lets +onlyGivenNames x; refine Within.cut (l := 8) (r := s) (x := x) ?_ ?_; rotate_left; (try clear_value x); intro _; rotate_right; subst x)
    | (extract_lets +onlyGivenNames x; try clear_value x)
    | ((with_reducible apply Within.fold); (rotate_left; intro _ _ _; rotate_right))
    | (with_reducible apply Within.via (l := 8) (m := 8) (hm := by decide)); (case h => (with_reducible apply State.ledAdd_within); decide)
    | split

theorem State.destFlip_within (s : State) (h d : Nat) (p : Picture) (drops : Nat) (dikeShown : Bool) :
    Within 4297064458 s (State.destFlip s h d p drops dikeShown).2 := by
  unfold State.destFlip
  show Within2 _ _ _
  repeat'
    first
    | with_reducible apply Within.refl
    | with_reducible assumption
    | (extract_lets +onlyGivenNames x; refine Within.cut (l := 4297064458) (r := s) (x := x) ?_ ?_; rotate_left; (try clear_value x); intro _; rotate_right; subst x)
    | (extract_lets +onlyGivenNames x; try clear_value x)
    | with_reducible apply Within2.mk
    | (with_reducible apply Within.via (l := 4297064458) (m := 8) (hm := by decide)); (case h => (with_reducible apply State.ledAdd_within); decide)
    | (with_reducible apply Within.via (l := 4297064458) (m := 2097154) (hm := by decide)); (case h => with_reducible apply State.ancFlip_within)
    | (with_reducible apply Within.via (l := 4297064458) (m := 2097152) (hm := by decide)); (case h => with_reducible apply State.atcFlip_within)
    | (with_reducible apply Within.via (l := 4297064458) (m := 4294967296) (hm := by decide)); (case h => with_reducible apply State.setPsnDest_within)
    | (with_reducible apply Within.via (l := 4297064458) (m := 2097152) (hm := by decide)); (case h => with_reducible apply State.updDest_within)
    | (with_reducible apply Within.via (l := 4297064458) (m := 2) (hm := by decide)); (case h => with_reducible apply State.wr_within)
    | split

theorem State.showFrame_within (s : State) (h : Nat) (p : Picture) (line : Bool) (drops : List (Nat × Nat)) :
    Within 18704585491546 s (State.showFrame s h p line drops) := by
  unfold State.showFrame
  repeat'
    first
    | with_reducible apply Within.refl
    | with_reducible assumption
    | (extract_lets +onlyGivenNames x; refine Within.cut (l := 18704585491546) (r := s) (x := x) ?_ ?_; rotate_left; (try clear_value x); intro _; rotate_right; subst x)
    | (extract_lets +onlyGivenNames x; refine Within.cut2 (l := 18704585491546) (r := s) (x := x) ?_ ?_; rotate_left; (try clear_value x); intro _; rotate_right; subst x)
    | (extract_lets +onlyGivenNames x; refine Within.cut1 (l := 18704585491546) (r := s) (x := x) ?_ ?_; rotate_left; (try clear_value x); intro _; rotate_right; subst x)
    | (extract_lets +onlyGivenNames x; try clear_value x)
    | (with_reducible apply Within2.snd; with_reducible assumption)
    | (with_reducible apply Within1.fst; with_reducible assumption)
    | with_reducible apply Within2.mk
    | with_reducible apply Within1.mk
    | with_reducible refine Within2.fold ?_ (fun _ _ _ => ?_)
    | with_reducible refine Within1.fold ?_ (fun _ _ _ => ?_)
    | ((with_reducible apply Within.fold); (rotate_left; intro _ _ _; rotate_right))
    | (with_reducible apply State.updHds_via (m := 17592186044416) (l := 18704585491546) (hm := by decide)); (case hheads => exact (fun _ _ => rfl)); (case hshots => exact (fun h => absurd h (by decide))); (case hsalvos => exact (fun _ _ => rfl))
    | (with_reducible apply Within.via (l := 18704585491546) (m := 787472) (hm := by decide)); (case h => with_reducible apply State.colourFlip_within)
    | (with_reducible apply Within.via (l := 18704585491546) (m := 8) (hm := by decide)); (case h => with_reducible apply State.countFlip_within)
    | (with_reducible apply Within.via (l := 18704585491546) (m := 1099511627776) (hm := by decide)); (case h => with_reducible apply State.cross_within)
    | (with_reducible apply Within2.via (l := 18704585491546) (m := 4297064458) (hm := by decide)); (case h => with_reducible apply State.destFlip_within)
    | (with_reducible apply Within.via (l := 18704585491546) (m := 4297064458) (hm := by decide)); (case h => with_reducible apply State.destFlip_within)
    | (with_reducible apply Within.via (l := 18704585491546) (m := 4297064458) (hm := by decide)); (case h => (with_reducible apply Within2.ofEq (State.destFlip_within _ _ _ _ _ _)); with_reducible assumption)
    | (with_reducible apply Within.via (l := 18704585491546) (m := 66) (hm := by decide)); (case h => with_reducible apply State.layerRaise_within)
    | (with_reducible apply Within.via (l := 18704585491546) (m := 8589934592) (hm := by decide)); (case h => with_reducible apply State.updChain_within)
    | (with_reducible apply Within.via (l := 18704585491546) (m := 32768) (hm := by decide)); (case h => with_reducible apply State.updHead_within)
    | split
    | dsimp only
    | (with_reducible refine Within2.ofEq' ?_ (by assumption))

theorem State.quietStop_within (s : State) (h : Nat) :
    Within 2134016 s (State.quietStop s h) := by
  unfold State.quietStop
  repeat'
    first
    | with_reducible apply Within.refl
    | with_reducible assumption
    | (extract_lets +onlyGivenNames x; refine Within.cut (l := 2134016) (r := s) (x := x) ?_ ?_; rotate_left; (try clear_value x); intro _; rotate_right; subst x)
    | (extract_lets +onlyGivenNames x; try clear_value x)
    | ((with_reducible apply Within.fold); (rotate_left; intro _ _ _; rotate_right))
    | (with_reducible apply Within.via (l := 2134016) (m := 2097152) (hm := by decide)); (case h => with_reducible apply State.squelch_within)
    | (with_reducible apply Within.via (l := 2134016) (m := 4096) (hm := by decide)); (case h => with_reducible apply State.unpinHead_within)
    | (with_reducible apply Within.via (l := 2134016) (m := 32768) (hm := by decide)); (case h => with_reducible apply State.updHead_within)
    | split

theorem State.flipHead_within (s : State) (h : Nat) (seen : FlipSeen) :
    Within 18998800389210 s (State.flipHead s h seen).2 := by
  unfold State.flipHead
  show Within2 _ _ _
  repeat'
    first
    | with_reducible apply Within.refl
    | with_reducible assumption
    | (extract_lets +onlyGivenNames x; refine Within.cut (l := 18998800389210) (r := s) (x := x) ?_ ?_; rotate_left; (try clear_value x); intro _; rotate_right; subst x)
    | (extract_lets +onlyGivenNames x; refine Within.cut2 (l := 18998800389210) (r := s) (x := x) ?_ ?_; rotate_left; (try clear_value x); intro _; rotate_right; subst x)
    | (extract_lets +onlyGivenNames x; refine Within.cut1 (l := 18998800389210) (r := s) (x := x) ?_ ?_; rotate_left; (try clear_value x); intro _; rotate_right; subst x)
    | (extract_lets +onlyGivenNames x; try clear_value x)
    | (with_reducible apply Within2.snd; with_reducible assumption)
    | (with_reducible apply Within1.fst; with_reducible assumption)
    | with_reducible apply Within2.mk
    | with_reducible apply Within1.mk
    | with_reducible refine Within2.fold ?_ (fun _ _ _ => ?_)
    | with_reducible refine Within1.fold ?_ (fun _ _ _ => ?_)
    | ((with_reducible apply Within.fold); (rotate_left; intro _ _ _; rotate_right))
    | (with_reducible apply Within2.via (l := 18998800389210) (m := 294215193690) (hm := by decide)); (case h => with_reducible apply State.applyAll_within)
    | (with_reducible apply Within.via (l := 18998800389210) (m := 294215193690) (hm := by decide)); (case h => with_reducible apply State.applyAll_within)
    | (with_reducible apply Within.via (l := 18998800389210) (m := 294215193690) (hm := by decide)); (case h => (with_reducible apply Within2.ofEq (State.applyAll_within _ _ _)); with_reducible assumption)
    | (with_reducible apply Within.via (l := 18998800389210) (m := 1048642) (hm := by decide)); (case h => with_reducible apply State.cnvFeed_within)
    | (with_reducible apply Within.via (l := 18998800389210) (m := 292057842768) (hm := by decide)); (case h => with_reducible apply State.commitDone_within)
    | (with_reducible apply Within.via (l := 18998800389210) (m := 2129920) (hm := by decide)); (case h => with_reducible apply State.feedAll_within)
    | (with_reducible apply Within.via (l := 18998800389210) (m := 2159449178) (hm := by decide)); (case h => with_reducible apply State.leaveHead_within)
    | (with_reducible apply Within.via (l := 18998800389210) (m := 64) (hm := by decide)); (case h => with_reducible apply State.occur_within)
    | (with_reducible apply Within.via (l := 18998800389210) (m := 2134016) (hm := by decide)); (case h => with_reducible apply State.quietStop_within)
    | (with_reducible apply Within.via (l := 18998800389210) (m := 32768) (hm := by decide)); (case h => with_reducible apply State.setHead_within)
    | (with_reducible apply Within.via (l := 18998800389210) (m := 18704585491546) (hm := by decide)); (case h => with_reducible apply State.showFrame_within)
    | (with_reducible apply Within.via (l := 18998800389210) (m := 2159449178) (hm := by decide)); (case h => with_reducible apply State.stopHead_within)
    | (with_reducible apply Within.via (l := 18998800389210) (m := 8421450) (hm := by decide)); (case h => with_reducible apply State.trimGrant_within)
    | (with_reducible apply Within.via (l := 18998800389210) (m := 32768) (hm := by decide)); (case h => with_reducible apply State.updHead_within)
    | split
    | dsimp only
    | (with_reducible refine Within2.ofEq' ?_ (by assumption))

end Sys2Proof.Machine
end

