-- ==== Sys2Proof/Laws/FrameAudio.lean ====
section
/-!
SUPPORT. Laws/FrameAudio.lean: what each function of Machine/Audio.lean can touch.
-/
set_option linter.unusedTactic false
set_option linter.unreachableTactic false
set_option linter.tactic.unusedName false

namespace Sys2Proof.Machine

theorem State.setAudIn_within (s : State) (i : Nat) (v : AudIn) :
    Within 17179869184 s (State.setAudIn s i v) := by
  unfold State.setAudIn
  repeat'
    first
    | with_reducible apply Within.refl
    | with_reducible assumption
    | (with_reducible apply State.updAud_via (l := 17179869184) (hm := by decide))
    | split

theorem State.updAudIn_within (s : State) (i : Nat) (f : AudIn → AudIn) :
    Within 17179869184 s (State.updAudIn s i f) := by
  unfold State.updAudIn
  repeat'
    first
    | with_reducible apply Within.refl
    | with_reducible assumption
    | (with_reducible apply Within.via (l := 17179869184) (m := 17179869184) (hm := by decide)); (case h => with_reducible apply State.setAudIn_within)
    | split

theorem State.setAudGrp_within (s : State) (g : Nat) (v : AudGrp) :
    Within 17179869184 s (State.setAudGrp s g v) := by
  unfold State.setAudGrp
  repeat'
    first
    | with_reducible apply Within.refl
    | with_reducible assumption
    | (with_reducible apply State.updAud_via (l := 17179869184) (hm := by decide))
    | split

theorem State.updAudGrp_within (s : State) (g : Nat) (f : AudGrp → AudGrp) :
    Within 17179869184 s (State.updAudGrp s g f) := by
  unfold State.updAudGrp
  repeat'
    first
    | with_reducible apply Within.refl
    | with_reducible assumption
    | (with_reducible apply Within.via (l := 17179869184) (m := 17179869184) (hm := by decide)); (case h => with_reducible apply State.setAudGrp_within)
    | split

theorem State.setAudOut_within (s : State) (o : Nat) (v : AudOut) :
    Within 17179869184 s (State.setAudOut s o v) := by
  unfold State.setAudOut
  repeat'
    first
    | with_reducible apply Within.refl
    | with_reducible assumption
    | (with_reducible apply State.updAud_via (l := 17179869184) (hm := by decide))
    | split

theorem State.updAudOut_within (s : State) (o : Nat) (f : AudOut → AudOut) :
    Within 17179869184 s (State.updAudOut s o f) := by
  unfold State.updAudOut
  repeat'
    first
    | with_reducible apply Within.refl
    | with_reducible assumption
    | (with_reducible apply Within.via (l := 17179869184) (m := 17179869184) (hm := by decide)); (case h => with_reducible apply State.setAudOut_within)
    | split

theorem State.grpRaise_within (s : State) (g bit code : Nat) (d : List (Nat × Nat × Nat)) :
    Within 66 s (State.grpRaise s g bit code d) := by
  unfold State.grpRaise
  repeat'
    first
    | with_reducible apply Within.refl
    | with_reducible assumption
    | (with_reducible apply Within.via (l := 66) (m := 66) (hm := by decide)); (case h => with_reducible apply State.raise_within)
    | split

theorem State.routeRaise_within (s : State) (o bit code : Nat) (d : List (Nat × Nat × Nat)) :
    Within 66 s (State.routeRaise s o bit code d) := by
  unfold State.routeRaise
  repeat'
    first
    | with_reducible apply Within.refl
    | with_reducible assumption
    | (with_reducible apply Within.via (l := 66) (m := 66) (hm := by decide)); (case h => with_reducible apply State.raise_within)
    | split

theorem State.inCount_within (s : State) (i c n : Nat) :
    Within 8 s (State.inCount s i c n) := by
  unfold State.inCount
  repeat'
    first
    | with_reducible apply Within.refl
    | with_reducible assumption
    | (with_reducible apply Within.via (l := 8) (m := 8) (hm := by decide)); (case h => (with_reducible apply State.ledAdd_within); decide)
    | split

theorem State.outCount_within (s : State) (o c n : Nat) :
    Within 8 s (State.outCount s o c n) := by
  unfold State.outCount
  repeat'
    first
    | with_reducible apply Within.refl
    | with_reducible assumption
    | (with_reducible apply Within.via (l := 8) (m := 8) (hm := by decide)); (case h => (with_reducible apply State.ledAdd_within); decide)
    | split

theorem State.deliver_within (s : State) (i k : Nat) (v : BitVec 24) :
    Within 17179869192 s (State.deliver s i k v) := by
  unfold State.deliver
  repeat'
    first
    | with_reducible apply Within.refl
    | with_reducible assumption
    | (with_reducible apply Within.via (l := 17179869192) (m := 8) (hm := by decide)); (case h => with_reducible apply State.inCount_within)
    | (with_reducible apply Within.via (l := 17179869192) (m := 17179869184) (hm := by decide)); (case h => with_reducible apply State.updAudIn_within)
    | split

theorem State.noteLatency_within (s : State) (g d : Nat) :
    Within 17179869184 s (State.noteLatency s g d) := by
  unfold State.noteLatency
  repeat'
    first
    | with_reducible apply Within.refl
    | with_reducible assumption
    | (with_reducible apply Within.via (l := 17179869184) (m := 17179869184) (hm := by decide)); (case h => with_reducible apply State.updAudGrp_within)
    | split

theorem State.receive_within (s : State) (g i : Nat) (k : Int) (v : BitVec 24) :
    Within 17179869192 s (State.receive s g i k v) := by
  unfold State.receive
  repeat'
    first
    | with_reducible apply Within.refl
    | with_reducible assumption
    | (extract_lets +onlyGivenNames x; refine Within.cut (l := 17179869192) (r := s) (x := x) ?_ ?_; rotate_left; (try clear_value x); intro _; rotate_right; subst x)
    | (extract_lets +onlyGivenNames x; try clear_value x)
    | (with_reducible apply Within.via (l := 17179869192) (m := 17179869192) (hm := by decide)); (case h => with_reducible apply State.deliver_within)
    | (with_reducible apply Within.via (l := 17179869192) (m := 8) (hm := by decide)); (case h => with_reducible apply State.inCount_within)
    | (with_reducible apply Within.via (l := 17179869192) (m := 17179869184) (hm := by decide)); (case h => with_reducible apply State.setAudIn_within)
    | (with_reducible apply Within.via (l := 17179869192) (m := 17179869184) (hm := by decide)); (case h => with_reducible apply State.updAudIn_within)
    | split

theorem State.srcAssign_within (s : State) :
    Within 17179869258 s (State.srcAssign s) := by
  unfold State.srcAssign
  repeat'
    first
    | with_reducible apply Within.refl
    | with_reducible assumption
    | (extract_lets +onlyGivenNames x; refine Within.cut (l := 17179869258) (r := s) (x := x) ?_ ?_; rotate_left; (try clear_value x); intro _; rotate_right; subst x)
    | (extract_lets +onlyGivenNames x; try clear_value x)
    | ((with_reducible apply Within.fold); (rotate_left; intro _ _ _; rotate_right))
    | (with_reducible apply Within.via (l := 17179869258) (m := 66) (hm := by decide)); (case h => with_reducible apply State.grpRaise_within)
    | (with_reducible apply Within.via (l := 17179869258) (m := 8) (hm := by decide)); (case h => with_reducible apply State.inCount_within)
    | (with_reducible apply Within.via (l := 17179869258) (m := 64) (hm := by decide)); (case h => with_reducible apply State.occur_within)
    | (with_reducible apply Within.via (l := 17179869258) (m := 17179869184) (hm := by decide)); (case h => with_reducible apply State.setAudIn_within)
    | split

theorem State.setClass_within (s : State) (g : Nat) (c : AudClass) :
    Within 17179869258 s (State.setClass s g c) := by
  unfold State.setClass
  repeat'
    first
    | with_reducible apply Within.refl
    | with_reducible assumption
    | (extract_lets +onlyGivenNames x; refine Within.cut (l := 17179869258) (r := s) (x := x) ?_ ?_; rotate_left; (try clear_value x); intro _; rotate_right; subst x)
    | (extract_lets +onlyGivenNames x; try clear_value x)
    | ((with_reducible apply Within.fold); (rotate_left; intro _ _ _; rotate_right))
    | (with_reducible apply Within.via (l := 17179869258) (m := 17179869192) (hm := by decide)); (case h => with_reducible apply State.deliver_within)
    | (with_reducible apply Within.via (l := 17179869258) (m := 66) (hm := by decide)); (case h => with_reducible apply State.grpRaise_within)
    | (with_reducible apply Within.via (l := 17179869258) (m := 17179869258) (hm := by decide)); (case h => with_reducible apply State.srcAssign_within)
    | (with_reducible apply Within.via (l := 17179869258) (m := 17179869184) (hm := by decide)); (case h => with_reducible apply State.updAudGrp_within)
    | (with_reducible apply Within.via (l := 17179869258) (m := 17179869184) (hm := by decide)); (case h => with_reducible apply State.updAudIn_within)
    | split

theorem State.noteBursts_within (s : State) (base : Nat) (bursts inBurst : List Nat) (status : List (Nat × List Byte)) (count : Nat) :
    Within 17179869184 s (State.noteBursts s base bursts inBurst status count) := by
  unfold State.noteBursts
  repeat'
    first
    | with_reducible apply Within.refl
    | with_reducible assumption
    | ((with_reducible apply Within.fold); (rotate_left; intro _ _ _; rotate_right))
    | (with_reducible apply Within.via (l := 17179869184) (m := 17179869184) (hm := by decide)); (case h => with_reducible apply State.updAudIn_within)
    | split

theorem State.sdiAudio_within (s : State) (a : SdiAudio) :
    Within 8813272891466 s (State.sdiAudio s a) := by
  unfold State.sdiAudio
  repeat'
    first
    | with_reducible apply Within.refl
    | with_reducible assumption
    | (extract_lets +onlyGivenNames x; refine Within.cut (l := 8813272891466) (r := s) (x := x) ?_ ?_; rotate_left; (try clear_value x); intro _; rotate_right; subst x)
    | (extract_lets +onlyGivenNames x; refine Within.cut2 (l := 8813272891466) (r := s) (x := x) ?_ ?_; rotate_left; (try clear_value x); intro _; rotate_right; subst x)
    | (extract_lets +onlyGivenNames x; refine Within.cut1 (l := 8813272891466) (r := s) (x := x) ?_ ?_; rotate_left; (try clear_value x); intro _; rotate_right; subst x)
    | (extract_lets +onlyGivenNames x; try clear_value x)
    | (with_reducible apply Within2.snd; with_reducible assumption)
    | (with_reducible apply Within1.fst; with_reducible assumption)
    | with_reducible apply Within2.mk
    | with_reducible apply Within1.mk
    | with_reducible refine Within2.fold ?_ (fun _ _ _ => ?_)
    | with_reducible refine Within1.fold ?_ (fun _ _ _ => ?_)
    | ((with_reducible apply Within.fold); (rotate_left; intro _ _ _; rotate_right))
    | (with_reducible apply Within2.via (l := 8813272891466) (m := 8796093022208) (hm := by decide)); (case h => with_reducible apply State.fresh_within)
    | (with_reducible apply Within.via (l := 8813272891466) (m := 8796093022208) (hm := by decide)); (case h => with_reducible apply State.fresh_within)
    | (with_reducible apply Within.via (l := 8813272891466) (m := 8796093022208) (hm := by decide)); (case h => (with_reducible apply Within2.ofEq (State.fresh_within _)); with_reducible assumption)
    | (with_reducible apply Within.via (l := 8813272891466) (m := 66) (hm := by decide)); (case h => with_reducible apply State.grpRaise_within)
    | (with_reducible apply Within.via (l := 8813272891466) (m := 8) (hm := by decide)); (case h => with_reducible apply State.inCount_within)
    | (with_reducible apply Within.via (l := 8813272891466) (m := 17179869184) (hm := by decide)); (case h => with_reducible apply State.noteBursts_within)
    | (with_reducible apply Within.via (l := 8813272891466) (m := 17179869184) (hm := by decide)); (case h => with_reducible apply State.noteLatency_within)
    | (with_reducible apply Within.via (l := 8813272891466) (m := 17179869192) (hm := by decide)); (case h => with_reducible apply State.receive_within)
    | (with_reducible apply Within.via (l := 8813272891466) (m := 17179869184) (hm := by decide)); (case h => with_reducible apply State.setAudGrp_within)
    | (with_reducible apply Within.via (l := 8813272891466) (m := 17179869258) (hm := by decide)); (case h => with_reducible apply State.setClass_within)
    | (with_reducible apply Within.via (l := 8813272891466) (m := 17179869184) (hm := by decide)); (case h => with_reducible apply State.updAudGrp_within)
    | split
    | dsimp only
    | (with_reducible refine Within2.ofEq' ?_ (by assumption))

theorem State.srcStep_within (s : State) (i : Nat) :
    Within 8813272891400 s (State.srcStep s i) := by
  unfold State.srcStep
  repeat'
    first
    | with_reducible apply Within.refl
    | with_reducible assumption
    | (extract_lets +onlyGivenNames x; refine Within.cut (l := 8813272891400) (r := s) (x := x) ?_ ?_; rotate_left; (try clear_value x); intro _; rotate_right; subst x)
    | (extract_lets +onlyGivenNames x; refine Within.cut2 (l := 8813272891400) (r := s) (x := x) ?_ ?_; rotate_left; (try clear_value x); intro _; rotate_right; subst x)
    | (extract_lets +onlyGivenNames x; refine Within.cut1 (l := 8813272891400) (r := s) (x := x) ?_ ?_; rotate_left; (try clear_value x); intro _; rotate_right; subst x)
    | (extract_lets +onlyGivenNames x; try clear_value x)
    | (with_reducible apply Within2.snd; with_reducible assumption)
    | (with_reducible apply Within1.fst; with_reducible assumption)
    | with_reducible apply Within2.mk
    | with_reducible apply Within1.mk
    | with_reducible refine Within2.fold ?_ (fun _ _ _ => ?_)
    | with_reducible refine Within1.fold ?_ (fun _ _ _ => ?_)
    | (with_reducible apply Within.via (l := 8813272891400) (m := 17179869192) (hm := by decide)); (case h => with_reducible apply State.deliver_within)
    | (with_reducible apply Within2.via (l := 8813272891400) (m := 8796093022208) (hm := by decide)); (case h => with_reducible apply State.fresh_within)
    | (with_reducible apply Within.via (l := 8813272891400) (m := 8796093022208) (hm := by decide)); (case h => with_reducible apply State.fresh_within)
    | (with_reducible apply Within.via (l := 8813272891400) (m := 8796093022208) (hm := by decide)); (case h => (with_reducible apply Within2.ofEq (State.fresh_within _)); with_reducible assumption)
    | (with_reducible apply Within.via (l := 8813272891400) (m := 8) (hm := by decide)); (case h => with_reducible apply State.inCount_within)
    | (with_reducible apply Within.via (l := 8813272891400) (m := 17179869184) (hm := by decide)); (case h => with_reducible apply State.setAudIn_within)
    | (with_reducible apply Within.via (l := 8813272891400) (m := 17179869184) (hm := by decide)); (case h => with_reducible apply State.updAudIn_within)
    | split
    | dsimp only
    | (with_reducible refine Within2.ofEq' ?_ (by assumption))

theorem State.switchVoice_within (s : State) (o : Nat) (old : Option Nat) (v : Voice) (r : Nat) :
    Within 17179869192 s (State.switchVoice s o old v r) := by
  unfold State.switchVoice
  repeat'
    first
    | with_reducible apply Within.refl
    | with_reducible assumption
    | (extract_lets +onlyGivenNames x; refine Within.cut (l := 17179869192) (r := s) (x := x) ?_ ?_; rotate_left; (try clear_value x); intro _; rotate_right; subst x)
    | (extract_lets +onlyGivenNames x; try clear_value x)
    | (with_reducible apply Within.via (l := 17179869192) (m := 8) (hm := by decide)); (case h => with_reducible apply State.outCount_within)
    | (with_reducible apply Within.via (l := 17179869192) (m := 17179869184) (hm := by decide)); (case h => with_reducible apply State.setAudOut_within)
    | split

theorem State.switchOne_within (s : State) (w : AudSwitch) (k : Nat) :
    Within 1116691496968 s (State.switchOne s w k) := by
  unfold State.switchOne
  repeat'
    first
    | with_reducible apply Within.refl
    | with_reducible assumption
    | (extract_lets +onlyGivenNames x; refine Within.cut (l := 1116691496968) (r := s) (x := x) ?_ ?_; rotate_left; (try clear_value x); intro _; rotate_right; subst x)
    | (extract_lets +onlyGivenNames x; try clear_value x)
    | (with_reducible apply Within.via (l := 1116691496968) (m := 1099511627776) (hm := by decide)); (case h => with_reducible apply State.cross_within)
    | (with_reducible apply Within.via (l := 1116691496968) (m := 8) (hm := by decide)); (case h => with_reducible apply State.outCount_within)
    | (with_reducible apply Within.via (l := 1116691496968) (m := 17179869184) (hm := by decide)); (case h => with_reducible apply State.setAudOut_within)
    | (with_reducible apply Within.via (l := 1116691496968) (m := 17179869192) (hm := by decide)); (case h => with_reducible apply State.switchVoice_within)
    | split

theorem State.runSwitch_within (s : State) (w : AudSwitch) :
    Within 1254130451482 s (State.runSwitch s w) := by
  unfold State.runSwitch
  repeat'
    first
    | with_reducible apply Within.refl
    | with_reducible assumption
    | (extract_lets +onlyGivenNames x; refine Within.cut (l := 1254130451482) (r := s) (x := x) ?_ ?_; rotate_left; (try clear_value x); intro _; rotate_right; subst x)
    | (extract_lets +onlyGivenNames x; try clear_value x)
    | ((with_reducible apply Within.fold); (rotate_left; intro _ _ _; rotate_right))
    | (with_reducible apply State.updAud_via (l := 1254130451482) (hm := by decide))
    | (with_reducible apply Within.via (l := 1254130451482) (m := 1040) (hm := by decide)); (case h => with_reducible apply State.completeAt_within)
    | (with_reducible apply Within.via (l := 1254130451482) (m := 2) (hm := by decide)); (case h => with_reducible apply State.count_within)
    | (with_reducible apply Within.via (l := 1254130451482) (m := 137438953472) (hm := by decide)); (case h => with_reducible apply State.nvTouch_within)
    | (with_reducible apply Within.via (l := 1254130451482) (m := 1116691496968) (hm := by decide)); (case h => with_reducible apply State.switchOne_within)
    | split

theorem State.outStep_within (s : State) (o : Nat) :
    Within 17179869258 s (State.outStep s o) := by
  unfold State.outStep
  repeat'
    first
    | with_reducible apply Within.refl
    | with_reducible assumption
    | (extract_lets +onlyGivenNames x; refine Within.cut (l := 17179869258) (r := s) (x := x) ?_ ?_; rotate_left; (try clear_value x); intro _; rotate_right; subst x)
    | (extract_lets +onlyGivenNames x; try clear_value x)
    | (with_reducible apply Within.via (l := 17179869258) (m := 8) (hm := by decide)); (case h => with_reducible apply State.outCount_within)
    | (with_reducible apply Within.via (l := 17179869258) (m := 66) (hm := by decide)); (case h => with_reducible apply State.routeRaise_within)
    | (with_reducible apply Within.via (l := 17179869258) (m := 17179869184) (hm := by decide)); (case h => with_reducible apply State.setAudOut_within)
    | split

theorem State.cnvAudio_within (s : State) :
    Within 8 s (State.cnvAudio s) := by
  unfold State.cnvAudio
  repeat'
    first
    | with_reducible apply Within.refl
    | with_reducible assumption
    | ((with_reducible apply Within.fold); (rotate_left; intro _ _ _; rotate_right))
    | (with_reducible apply Within.via (l := 8) (m := 8) (hm := by decide)); (case h => with_reducible apply State.inCount_within)
    | split

theorem State.embed_within (s : State) (d : Nat) :
    Within 17179869186 s (State.embed s d) := by
  unfold State.embed
  repeat'
    first
    | with_reducible apply Within.refl
    | with_reducible assumption
    | (extract_lets +onlyGivenNames x; refine Within.cut (l := 17179869186) (r := s) (x := x) ?_ ?_; rotate_left; (try clear_value x); intro _; rotate_right; subst x)
    | (extract_lets +onlyGivenNames x; try clear_value x)
    | (with_reducible apply State.updAud_via (l := 17179869186) (hm := by decide))
    | (with_reducible apply Within.via (l := 17179869186) (m := 2) (hm := by decide)); (case h => with_reducible apply State.count_within)
    | split

theorem execAudioSamplePosition_within (arr : List SdiAudio) (s : State) :
    WithinO 10050223473754 s (execAudioSamplePosition arr s) := by
  unfold execAudioSamplePosition
  repeat'
    first
    | with_reducible apply Within.refl
    | with_reducible assumption
    | (extract_lets +onlyGivenNames x; refine Within.cut (l := 10050223473754) (r := s) (x := x) ?_ ?_; rotate_left; (try clear_value x); intro _; rotate_right; subst x)
    | (extract_lets +onlyGivenNames x; try clear_value x)
    | with_reducible apply WithinO.next
    | with_reducible apply WithinO.fault
    | ((with_reducible apply Within.fold); (rotate_left; intro _ _ _; rotate_right))
    | (with_reducible apply State.updAud_via (l := 10050223473754) (hm := by decide))
    | (with_reducible apply Within.via (l := 10050223473754) (m := 8) (hm := by decide)); (case h => with_reducible apply State.cnvAudio_within)
    | (with_reducible apply Within.via (l := 10050223473754) (m := 17179869186) (hm := by decide)); (case h => with_reducible apply State.embed_within)
    | (with_reducible apply Within.via (l := 10050223473754) (m := 17179869258) (hm := by decide)); (case h => with_reducible apply State.outStep_within)
    | (with_reducible apply Within.via (l := 10050223473754) (m := 1254130451482) (hm := by decide)); (case h => with_reducible apply State.runSwitch_within)
    | (with_reducible apply Within.via (l := 10050223473754) (m := 8813272891466) (hm := by decide)); (case h => with_reducible apply State.sdiAudio_within)
    | (with_reducible apply Within.via (l := 10050223473754) (m := 17179869258) (hm := by decide)); (case h => with_reducible apply State.srcAssign_within)
    | (with_reducible apply Within.via (l := 10050223473754) (m := 8813272891400) (hm := by decide)); (case h => with_reducible apply State.srcStep_within)
    | split

theorem State.audioFlow_within (s : State) (f : Flow) (p : AudioPacket) :
    Within 17179869258 s (State.audioFlow s f p) := by
  unfold State.audioFlow
  repeat'
    first
    | with_reducible apply Within.refl
    | with_reducible assumption
    | (extract_lets +onlyGivenNames x; refine Within.cut (l := 17179869258) (r := s) (x := x) ?_ ?_; rotate_left; (try clear_value x); intro _; rotate_right; subst x)
    | (extract_lets +onlyGivenNames x; try clear_value x)
    | ((with_reducible apply Within.fold); (rotate_left; intro _ _ _; rotate_right))
    | (with_reducible apply Within.via (l := 17179869258) (m := 17179869184) (hm := by decide)); (case h => with_reducible apply State.noteBursts_within)
    | (with_reducible apply Within.via (l := 17179869258) (m := 17179869184) (hm := by decide)); (case h => with_reducible apply State.noteLatency_within)
    | (with_reducible apply Within.via (l := 17179869258) (m := 17179869192) (hm := by decide)); (case h => with_reducible apply State.receive_within)
    | (with_reducible apply Within.via (l := 17179869258) (m := 17179869184) (hm := by decide)); (case h => with_reducible apply State.setAudGrp_within)
    | (with_reducible apply Within.via (l := 17179869258) (m := 17179869258) (hm := by decide)); (case h => with_reducible apply State.setClass_within)
    | split

theorem execAudioPacket_within (p : AudioPacket) (s : State) :
    WithinO 17179869258 s (execAudioPacket p s) := by
  unfold execAudioPacket
  repeat'
    first
    | with_reducible apply Within.refl
    | with_reducible assumption
    | with_reducible apply WithinO.next
    | with_reducible apply WithinO.fault
    | ((with_reducible apply Within.fold); (rotate_left; intro _ _ _; rotate_right))
    | (with_reducible apply Within.via (l := 17179869258) (m := 17179869258) (hm := by decide)); (case h => with_reducible apply State.audioFlow_within)
    | split

theorem execAudioSendPacket_within (k : Fin 1024) (s : State) :
    WithinO 17179877376 s (execAudioSendPacket k s) := by
  unfold execAudioSendPacket
  repeat'
    first
    | with_reducible apply Within.refl
    | with_reducible assumption
    | (extract_lets +onlyGivenNames x; refine Within.cut (l := 17179877376) (r := s) (x := x) ?_ ?_; rotate_left; (try clear_value x); intro _; rotate_right; subst x)
    | (extract_lets +onlyGivenNames x; try clear_value x)
    | with_reducible apply WithinO.next
    | with_reducible apply WithinO.fault
    | (with_reducible apply State.updIng_via (m := 8192) (l := 17179877376) (hm := by decide)); (case hsources => exact (fun _ _ => rfl)); (case hflows => exact (fun h => absurd h (by decide))); (case higmp => exact (fun _ _ => rfl))
    | (with_reducible apply State.updAud_via (l := 17179877376) (hm := by decide))
    | split

theorem execClassMeasurement_within (g : Fin 1152) (ppm : Int) (steady : Bool) (s : State) :
    WithinO 17179869258 s (execClassMeasurement g ppm steady s) := by
  unfold execClassMeasurement
  repeat'
    first
    | with_reducible apply Within.refl
    | with_reducible assumption
    | (extract_lets +onlyGivenNames x; refine Within.cut (l := 17179869258) (r := s) (x := x) ?_ ?_; rotate_left; (try clear_value x); intro _; rotate_right; subst x)
    | (extract_lets +onlyGivenNames x; try clear_value x)
    | with_reducible apply WithinO.next
    | with_reducible apply WithinO.fault
    | (with_reducible apply Within.via (l := 17179869258) (m := 17179869258) (hm := by decide)); (case h => with_reducible apply State.setClass_within)
    | (with_reducible apply Within.via (l := 17179869258) (m := 17179869184) (hm := by decide)); (case h => with_reducible apply State.updAudGrp_within)
    | split

theorem State.measure_within (s : State) (h o : Nat) :
    Within 17179869184 s (State.measure s h o).2 := by
  unfold State.measure
  show Within2 _ _ _
  repeat'
    first
    | with_reducible apply Within.refl
    | with_reducible assumption
    | (extract_lets +onlyGivenNames x; refine Within.cut (l := 17179869184) (r := s) (x := x) ?_ ?_; rotate_left; (try clear_value x); intro _; rotate_right; subst x)
    | (extract_lets +onlyGivenNames x; try clear_value x)
    | with_reducible apply Within2.mk
    | (with_reducible apply Within.via (l := 17179869184) (m := 17179869184) (hm := by decide)); (case h => with_reducible apply State.setAudOut_within)
    | split

theorem State.retime_within (s : State) (o : Nat) :
    Within 17179869258 s (State.retime s o) := by
  unfold State.retime
  repeat'
    first
    | with_reducible apply Within.refl
    | with_reducible assumption
    | (extract_lets +onlyGivenNames x; refine Within.cut (l := 17179869258) (r := s) (x := x) ?_ ?_; rotate_left; (try clear_value x); intro _; rotate_right; subst x)
    | (extract_lets +onlyGivenNames x; try clear_value x)
    | (with_reducible apply Within.via (l := 17179869258) (m := 8) (hm := by decide)); (case h => with_reducible apply State.outCount_within)
    | (with_reducible apply Within.via (l := 17179869258) (m := 66) (hm := by decide)); (case h => with_reducible apply State.routeRaise_within)
    | (with_reducible apply Within.via (l := 17179869258) (m := 17179869184) (hm := by decide)); (case h => with_reducible apply State.setAudOut_within)
    | split

theorem State.audioFlip_within (s : State) (h : Nat) (applied : List Commit) :
    Within 17179869258 s (State.audioFlip s h applied) := by
  unfold State.audioFlip
  repeat'
    first
    | with_reducible apply Within.refl
    | with_reducible assumption
    | (extract_lets +onlyGivenNames x; refine Within.cut (l := 17179869258) (r := s) (x := x) ?_ ?_; rotate_left; (try clear_value x); intro _; rotate_right; subst x)
    | (extract_lets +onlyGivenNames x; refine Within.cut2 (l := 17179869258) (r := s) (x := x) ?_ ?_; rotate_left; (try clear_value x); intro _; rotate_right; subst x)
    | (extract_lets +onlyGivenNames x; refine Within.cut1 (l := 17179869258) (r := s) (x := x) ?_ ?_; rotate_left; (try clear_value x); intro _; rotate_right; subst x)
    | (extract_lets +onlyGivenNames x; try clear_value x)
    | (with_reducible apply Within2.snd; with_reducible assumption)
    | (with_reducible apply Within1.fst; with_reducible assumption)
    | with_reducible apply Within2.mk
    | with_reducible apply Within1.mk
    | with_reducible refine Within2.fold ?_ (fun _ _ _ => ?_)
    | with_reducible refine Within1.fold ?_ (fun _ _ _ => ?_)
    | ((with_reducible apply Within.fold); (rotate_left; intro _ _ _; rotate_right))
    | (with_reducible apply State.updAud_via (l := 17179869258) (hm := by decide))
    | (with_reducible apply Within2.via (l := 17179869258) (m := 17179869184) (hm := by decide)); (case h => with_reducible apply State.measure_within)
    | (with_reducible apply Within.via (l := 17179869258) (m := 17179869184) (hm := by decide)); (case h => with_reducible apply State.measure_within)
    | (with_reducible apply Within.via (l := 17179869258) (m := 17179869184) (hm := by decide)); (case h => (with_reducible apply Within2.ofEq (State.measure_within _ _ _)); with_reducible assumption)
    | (with_reducible apply Within.via (l := 17179869258) (m := 17179869258) (hm := by decide)); (case h => with_reducible apply State.retime_within)
    | split
    | dsimp only
    | (with_reducible refine Within2.ofEq' ?_ (by assumption))

theorem State.queueSwitch_within (s : State) (j : Job) (act : AudAct) :
    Within 17179870224 s (State.queueSwitch s j act) := by
  unfold State.queueSwitch
  repeat'
    first
    | with_reducible apply Within.refl
    | with_reducible assumption
    | (extract_lets +onlyGivenNames x; refine Within.cut (l := 17179870224) (r := s) (x := x) ?_ ?_; rotate_left; (try clear_value x); intro _; rotate_right; subst x)
    | (extract_lets +onlyGivenNames x; try clear_value x)
    | (with_reducible apply State.updAud_via (l := 17179870224) (hm := by decide))
    | (with_reducible apply Within.via (l := 17179870224) (m := 1040) (hm := by decide)); (case h => with_reducible apply State.endOp_within)
    | split

theorem execAudioRoute_within (n : Fin 64) (s : State) :
    WithinO 17179870288 s (execAudioRoute n s) := by
  unfold execAudioRoute
  repeat'
    first
    | with_reducible apply Within.refl
    | with_reducible assumption
    | (extract_lets +onlyGivenNames x; refine Within.cut (l := 17179870288) (r := s) (x := x) ?_ ?_; rotate_left; (try clear_value x); intro _; rotate_right; subst x)
    | (extract_lets +onlyGivenNames x; try clear_value x)
    | with_reducible apply WithinO.next
    | with_reducible apply WithinO.fault
    | (with_reducible apply Within.via (l := 17179870288) (m := 1040) (hm := by decide)); (case h => with_reducible apply State.complete_within)
    | (with_reducible apply Within.via (l := 17179870288) (m := 17179870224) (hm := by decide)); (case h => with_reducible apply State.queueSwitch_within)
    | with_reducible refine State.runOp_via (by decide) ?_ (fun _ _ _ => ?_)
    | split

theorem execAudioSet_within (n : Fin 64) (s : State) :
    WithinO 17179870288 s (execAudioSet n s) := by
  unfold execAudioSet
  repeat'
    first
    | with_reducible apply Within.refl
    | with_reducible assumption
    | with_reducible apply WithinO.next
    | with_reducible apply WithinO.fault
    | (with_reducible apply Within.via (l := 17179870288) (m := 1040) (hm := by decide)); (case h => with_reducible apply State.complete_within)
    | (with_reducible apply Within.via (l := 17179870288) (m := 17179870224) (hm := by decide)); (case h => with_reducible apply State.queueSwitch_within)
    | with_reducible refine State.runOp_via (by decide) ?_ (fun _ _ _ => ?_)
    | split

theorem execAudioUnroute_within (n : Fin 64) (s : State) :
    WithinO 17179870288 s (execAudioUnroute n s) := by
  unfold execAudioUnroute
  repeat'
    first
    | with_reducible apply Within.refl
    | with_reducible assumption
    | with_reducible apply WithinO.next
    | with_reducible apply WithinO.fault
    | (with_reducible apply Within.via (l := 17179870288) (m := 1040) (hm := by decide)); (case h => with_reducible apply State.complete_within)
    | (with_reducible apply Within.via (l := 17179870288) (m := 17179870224) (hm := by decide)); (case h => with_reducible apply State.queueSwitch_within)
    | with_reducible refine State.runOp_via (by decide) ?_ (fun _ _ _ => ?_)
    | split

theorem execAudioCompanion_within (n : Fin 64) (s : State) :
    WithinO 154618823760 s (execAudioCompanion n s) := by
  unfold execAudioCompanion
  repeat'
    first
    | with_reducible apply Within.refl
    | with_reducible assumption
    | (extract_lets +onlyGivenNames x; refine Within.cut (l := 154618823760) (r := s) (x := x) ?_ ?_; rotate_left; (try clear_value x); intro _; rotate_right; subst x)
    | (extract_lets +onlyGivenNames x; try clear_value x)
    | with_reducible apply WithinO.next
    | with_reducible apply WithinO.fault
    | (with_reducible apply State.updAud_via (l := 154618823760) (hm := by decide))
    | (with_reducible apply Within.via (l := 154618823760) (m := 1040) (hm := by decide)); (case h => with_reducible apply State.complete_within)
    | (with_reducible apply Within.via (l := 154618823760) (m := 137438953472) (hm := by decide)); (case h => with_reducible apply State.nvTouch_within)
    | with_reducible refine State.runOp_via (by decide) ?_ (fun _ _ _ => ?_)
    | split

end Sys2Proof.Machine
end

