-- ==== Sys2Proof/Laws/FrameNv.lean ====
section
/-!
SUPPORT. Laws/FrameNv.lean: what each function of Machine/Nv.lean can touch.
-/
set_option linter.unusedTactic false
set_option linter.unreachableTactic false
set_option linter.tactic.unusedName false

namespace Sys2Proof.Machine

theorem State.setNvPage_within (s : State) (p : Nat) (v : NvPage) :
    Within 137438953472 s (State.setNvPage s p v) := by
  unfold State.setNvPage
  repeat'
    first
    | with_reducible apply Within.refl
    | with_reducible assumption
    | (with_reducible apply State.updNv_via (l := 137438953472) (hm := by decide))
    | split

theorem State.setNvSector_within (s : State) (k : Nat) (v : NvSector) :
    Within 137438953472 s (State.setNvSector s k v) := by
  unfold State.setNvSector
  repeat'
    first
    | with_reducible apply Within.refl
    | with_reducible assumption
    | (with_reducible apply State.updNv_via (l := 137438953472) (hm := by decide))
    | split

theorem State.nvRaise_within (s : State) (bit code : Nat) (d : List (Nat × Nat × Nat)) :
    Within 66 s (State.nvRaise s bit code d) := by
  unfold State.nvRaise
  repeat'
    first
    | with_reducible apply Within.refl
    | with_reducible assumption
    | (with_reducible apply Within.via (l := 66) (m := 66) (hm := by decide)); (case h => with_reducible apply State.raise_within)
    | split

theorem State.nvFail_within (s : State) (kind item off : Nat) :
    Within 66 s (State.nvFail s kind item off) := by
  unfold State.nvFail
  repeat'
    first
    | with_reducible apply Within.refl
    | with_reducible assumption
    | (with_reducible apply Within.via (l := 66) (m := 66) (hm := by decide)); (case h => with_reducible apply State.nvRaise_within)
    | split

theorem State.nvAppend_within (s : State) (r : NvRec) :
    Within 137438953472 s (State.nvAppend s r) := by
  unfold State.nvAppend
  repeat'
    first
    | with_reducible apply Within.refl
    | with_reducible assumption
    | (extract_lets +onlyGivenNames x; refine Within.cut (l := 137438953472) (r := s) (x := x) ?_ ?_; rotate_left; (try clear_value x); intro _; rotate_right; subst x)
    | (extract_lets +onlyGivenNames x; try clear_value x)
    | (with_reducible apply State.updNv_via (l := 137438953472) (hm := by decide))
    | (with_reducible apply Within.via (l := 137438953472) (m := 137438953472) (hm := by decide)); (case h => with_reducible apply State.setNvSector_within)
    | split

theorem State.nvVoid_within (s : State) (k i : Nat) :
    Within 137438953472 s (State.nvVoid s k i) := by
  unfold State.nvVoid
  repeat'
    first
    | with_reducible apply Within.refl
    | with_reducible assumption
    | (extract_lets +onlyGivenNames x; refine Within.cut (l := 137438953472) (r := s) (x := x) ?_ ?_; rotate_left; (try clear_value x); intro _; rotate_right; subst x)
    | (extract_lets +onlyGivenNames x; try clear_value x)
    | (with_reducible apply Within.via (l := 137438953472) (m := 137438953472) (hm := by decide)); (case h => with_reducible apply State.setNvSector_within)
    | split

theorem State.nvKick_within (s : State) :
    Within 137438953472 s (State.nvKick s) := by
  unfold State.nvKick
  repeat'
    first
    | with_reducible apply Within.refl
    | with_reducible assumption
    | (extract_lets +onlyGivenNames x; refine Within.cut (l := 137438953472) (r := s) (x := x) ?_ ?_; rotate_left; (try clear_value x); intro _; rotate_right; subst x)
    | (extract_lets +onlyGivenNames x; try clear_value x)
    | ((with_reducible apply Within.fold); (rotate_left; intro _ _ _; rotate_right))
    | (with_reducible apply State.updNv_via (l := 137438953472) (hm := by decide))
    | (with_reducible apply Within.via (l := 137438953472) (m := 137438953472) (hm := by decide)); (case h => with_reducible apply State.nvVoid_within)
    | split

theorem State.nvErase_within (s : State) (e : NvErase) :
    Within 137438953472 s (State.nvErase s e) := by
  unfold State.nvErase
  repeat'
    first
    | with_reducible apply Within.refl
    | with_reducible assumption
    | (with_reducible apply State.updNv_via (l := 137438953472) (hm := by decide))
    | (with_reducible apply Within.via (l := 137438953472) (m := 137438953472) (hm := by decide)); (case h => with_reducible apply State.nvKick_within)
    | split

theorem State.setCtr_within (s : State) (c : Nat) (v : NvCtr) :
    Within 137438953472 s (State.setCtr s c v) := by
  unfold State.setCtr
  repeat'
    first
    | with_reducible apply Within.refl
    | with_reducible assumption
    | (with_reducible apply State.updNv_via (l := 137438953472) (hm := by decide))
    | split

theorem State.eraseEnd_within (s : State) (ok : Bool) (kind : Nat) :
    Within 137438953538 s (State.eraseEnd s ok kind) := by
  unfold State.eraseEnd
  repeat'
    first
    | with_reducible apply Within.refl
    | with_reducible assumption
    | (extract_lets +onlyGivenNames x; refine Within.cut (l := 137438953538) (r := s) (x := x) ?_ ?_; rotate_left; (try clear_value x); intro _; rotate_right; subst x)
    | (extract_lets +onlyGivenNames x; refine Within.cutF2 (l := 137438953538) (r := s) (x := x) ?_ ?_; rotate_left; (try clear_value x); intro hF; rotate_right; (subst x; intro _ _ _ _; beta_reduce))
    | with_reducible apply hF
    | (extract_lets +onlyGivenNames x; try clear_value x)
    | (with_reducible apply State.updNv_via (l := 137438953538) (hm := by decide))
    | (with_reducible apply Within.via (l := 137438953538) (m := 66) (hm := by decide)); (case h => with_reducible apply State.nvFail_within)
    | (with_reducible apply Within.via (l := 137438953538) (m := 137438953472) (hm := by decide)); (case h => with_reducible apply State.nvKick_within)
    | (with_reducible apply Within.via (l := 137438953538) (m := 66) (hm := by decide)); (case h => with_reducible apply State.nvRaise_within)
    | (with_reducible apply Within.via (l := 137438953538) (m := 137438953472) (hm := by decide)); (case h => with_reducible apply State.setCtr_within)
    | (with_reducible apply Within.via (l := 137438953538) (m := 137438953472) (hm := by decide)); (case h => with_reducible apply State.setNvSector_within)
    | split

theorem execNvEraseDone_within (ok : Bool) (s : State) :
    WithinO 137438953538 s (execNvEraseDone ok s) := by
  unfold execNvEraseDone
  repeat'
    first
    | with_reducible apply Within.refl
    | with_reducible assumption
    | with_reducible apply WithinO.next
    | with_reducible apply WithinO.fault
    | (with_reducible apply Within.via (l := 137438953538) (m := 137438953538) (hm := by decide)); (case h => with_reducible apply State.eraseEnd_within)
    | split

theorem execNvCompaction_within (s : State) :
    WithinO 137438953472 s (execNvCompaction s) := by
  unfold execNvCompaction
  repeat'
    first
    | with_reducible apply Within.refl
    | with_reducible assumption
    | with_reducible apply WithinO.next
    | with_reducible apply WithinO.fault
    | ((with_reducible apply Within.fold); (rotate_left; intro _ _ _; rotate_right))
    | (with_reducible apply Within.via (l := 137438953472) (m := 137438953472) (hm := by decide)); (case h => with_reducible apply State.nvAppend_within)
    | (with_reducible apply Within.via (l := 137438953472) (m := 137438953472) (hm := by decide)); (case h => with_reducible apply State.nvErase_within)
    | split

theorem execNvScrub_within (found : List (Nat × Nat × Nat)) (base : Nat) (s : State) :
    WithinO 137438953538 s (execNvScrub found base s) := by
  unfold execNvScrub
  repeat'
    first
    | with_reducible apply Within.refl
    | with_reducible assumption
    | (extract_lets +onlyGivenNames x; refine Within.cut (l := 137438953538) (r := s) (x := x) ?_ ?_; rotate_left; (try clear_value x); intro _; rotate_right; subst x)
    | (extract_lets +onlyGivenNames x; refine Within.cut2 (l := 137438953538) (r := s) (x := x) ?_ ?_; rotate_left; (try clear_value x); intro _; rotate_right; subst x)
    | (extract_lets +onlyGivenNames x; refine Within.cut1 (l := 137438953538) (r := s) (x := x) ?_ ?_; rotate_left; (try clear_value x); intro _; rotate_right; subst x)
    | (extract_lets +onlyGivenNames x; try clear_value x)
    | (with_reducible apply Within2.snd; with_reducible assumption)
    | (with_reducible apply Within1.fst; with_reducible assumption)
    | with_reducible apply Within2.mk
    | with_reducible apply Within1.mk
    | with_reducible refine Within2.fold ?_ (fun _ _ _ => ?_)
    | with_reducible refine Within1.fold ?_ (fun _ _ _ => ?_)
    | with_reducible apply WithinO.next
    | with_reducible apply WithinO.fault
    | ((with_reducible apply Within.fold); (rotate_left; intro _ _ _; rotate_right))
    | (with_reducible apply State.updNv_via (l := 137438953538) (hm := by decide))
    | (with_reducible apply Within.via (l := 137438953538) (m := 2) (hm := by decide)); (case h => with_reducible apply State.count_within)
    | (with_reducible apply Within.via (l := 137438953538) (m := 137438953472) (hm := by decide)); (case h => with_reducible apply State.nvAppend_within)
    | (with_reducible apply Within.via (l := 137438953538) (m := 66) (hm := by decide)); (case h => with_reducible apply State.nvRaise_within)
    | (with_reducible apply Within.via (l := 137438953538) (m := 137438953472) (hm := by decide)); (case h => with_reducible apply State.nvVoid_within)
    | split
    | dsimp only
    | (with_reducible refine Within2.ofEq' ?_ (by assumption))

theorem execRecallScan_within (f : NvFound) (s : State) :
    WithinO 137438953538 s (execRecallScan f s) := by
  unfold execRecallScan
  repeat'
    first
    | with_reducible apply Within.refl
    | with_reducible assumption
    | (extract_lets +onlyGivenNames x; refine Within.cut (l := 137438953538) (r := s) (x := x) ?_ ?_; rotate_left; (try clear_value x); intro _; rotate_right; subst x)
    | (extract_lets +onlyGivenNames x; try clear_value x)
    | with_reducible apply WithinO.next
    | with_reducible apply WithinO.fault
    | ((with_reducible apply Within.fold); (rotate_left; intro _ _ _; rotate_right))
    | (with_reducible apply State.updNv_via (l := 137438953538) (hm := by decide))
    | (with_reducible apply Within.via (l := 137438953538) (m := 137438953472) (hm := by decide)); (case h => with_reducible apply State.nvErase_within)
    | (with_reducible apply Within.via (l := 137438953538) (m := 66) (hm := by decide)); (case h => with_reducible apply State.nvRaise_within)
    | (with_reducible apply Within.via (l := 137438953538) (m := 137438953472) (hm := by decide)); (case h => with_reducible apply State.setCtr_within)
    | (with_reducible apply Within.via (l := 137438953538) (m := 137438953472) (hm := by decide)); (case h => with_reducible apply State.setNvPage_within)
    | split

theorem State.nvQueue_within (s : State) (j : NvJob) :
    Within 137438953472 s (State.nvQueue s j) := by
  unfold State.nvQueue
  repeat'
    first
    | with_reducible apply Within.refl
    | with_reducible assumption
    | (with_reducible apply State.updNv_via (l := 137438953472) (hm := by decide))
    | split

theorem State.nvPageEnd_within (s : State) (ok : Bool) (kind : Nat) :
    Within 137438953538 s (State.nvPageEnd s ok kind).2 := by
  unfold State.nvPageEnd
  show Within2 _ _ _
  repeat'
    first
    | with_reducible apply Within.refl
    | with_reducible assumption
    | (extract_lets +onlyGivenNames x; refine Within.cut (l := 137438953538) (r := s) (x := x) ?_ ?_; rotate_left; (try clear_value x); intro _; rotate_right; subst x)
    | (extract_lets +onlyGivenNames x; try clear_value x)
    | with_reducible apply Within2.mk
    | (with_reducible apply State.updNv_via (l := 137438953538) (hm := by decide))
    | (with_reducible apply Within.via (l := 137438953538) (m := 137438953472) (hm := by decide)); (case h => with_reducible apply State.nvAppend_within)
    | (with_reducible apply Within.via (l := 137438953538) (m := 66) (hm := by decide)); (case h => with_reducible apply State.nvFail_within)
    | (with_reducible apply Within.via (l := 137438953538) (m := 137438953472) (hm := by decide)); (case h => with_reducible apply State.nvKick_within)
    | (with_reducible apply Within.via (l := 137438953538) (m := 137438953472) (hm := by decide)); (case h => with_reducible apply State.setNvPage_within)
    | split

theorem State.nvCellEnd_within (s : State) (ok : Bool) (kind : Nat) :
    Within 137438953538 s (State.nvCellEnd s ok kind).2 := by
  unfold State.nvCellEnd
  show Within2 _ _ _
  repeat'
    first
    | with_reducible apply Within.refl
    | with_reducible assumption
    | (extract_lets +onlyGivenNames x; refine Within.cut (l := 137438953538) (r := s) (x := x) ?_ ?_; rotate_left; (try clear_value x); intro _; rotate_right; subst x)
    | (extract_lets +onlyGivenNames x; try clear_value x)
    | with_reducible apply Within2.mk
    | (with_reducible apply State.updNv_via (l := 137438953538) (hm := by decide))
    | (with_reducible apply Within.via (l := 137438953538) (m := 137438953472) (hm := by decide)); (case h => with_reducible apply State.nvErase_within)
    | (with_reducible apply Within.via (l := 137438953538) (m := 66) (hm := by decide)); (case h => with_reducible apply State.nvFail_within)
    | (with_reducible apply Within.via (l := 137438953538) (m := 137438953472) (hm := by decide)); (case h => with_reducible apply State.setCtr_within)
    | split

theorem execOpNvRead_within (n : Fin 64) (ok : Bool) (s : State) :
    WithinO 1232 s (execOpNvRead n ok s) := by
  unfold execOpNvRead
  repeat'
    first
    | with_reducible apply Within.refl
    | with_reducible assumption
    | (extract_lets +onlyGivenNames x; refine Within.cut (l := 1232) (r := s) (x := x) ?_ ?_; rotate_left; (try clear_value x); intro _; rotate_right; subst x)
    | (extract_lets +onlyGivenNames x; try clear_value x)
    | with_reducible apply WithinO.next
    | with_reducible apply WithinO.fault
    | (with_reducible apply Within.via (l := 1232) (m := 1040) (hm := by decide)); (case h => with_reducible apply State.complete_within)
    | (with_reducible apply Within.via (l := 1232) (m := 128) (hm := by decide)); (case h => with_reducible apply State.hostWrite_within)
    | with_reducible refine State.runOp_via (by decide) ?_ (fun _ _ _ => ?_)
    | split

theorem execOpNvWrite_within (n : Fin 64) (data : Option (List Byte)) (s : State) :
    WithinO 137438954576 s (execOpNvWrite n data s) := by
  unfold execOpNvWrite
  repeat'
    first
    | with_reducible apply Within.refl
    | with_reducible assumption
    | (extract_lets +onlyGivenNames x; refine Within.cut (l := 137438954576) (r := s) (x := x) ?_ ?_; rotate_left; (try clear_value x); intro _; rotate_right; subst x)
    | (extract_lets +onlyGivenNames x; try clear_value x)
    | with_reducible apply WithinO.next
    | with_reducible apply WithinO.fault
    | (with_reducible apply Within.via (l := 137438954576) (m := 1040) (hm := by decide)); (case h => with_reducible apply State.complete_within)
    | (with_reducible apply Within.via (l := 137438954576) (m := 137438953472) (hm := by decide)); (case h => with_reducible apply State.nvQueue_within)
    | with_reducible refine State.runOp_via (by decide) ?_ (fun _ _ _ => ?_)
    | split

theorem execNvCountRead_within (n : Fin 64) (s : State) :
    WithinO 1104 s (execNvCountRead n s) := by
  unfold execNvCountRead
  repeat'
    first
    | with_reducible apply Within.refl
    | with_reducible assumption
    | with_reducible apply WithinO.next
    | with_reducible apply WithinO.fault
    | (with_reducible apply Within.via (l := 1104) (m := 1040) (hm := by decide)); (case h => with_reducible apply State.complete_within)
    | with_reducible refine State.runOp_via (by decide) ?_ (fun _ _ _ => ?_)
    | split

theorem execNvCountIncrement_within (n : Fin 64) (s : State) :
    WithinO 137438954576 s (execNvCountIncrement n s) := by
  unfold execNvCountIncrement
  repeat'
    first
    | with_reducible apply Within.refl
    | with_reducible assumption
    | with_reducible apply WithinO.next
    | with_reducible apply WithinO.fault
    | (with_reducible apply Within.via (l := 137438954576) (m := 1040) (hm := by decide)); (case h => with_reducible apply State.complete_within)
    | (with_reducible apply Within.via (l := 137438954576) (m := 137438953472) (hm := by decide)); (case h => with_reducible apply State.nvQueue_within)
    | with_reducible refine State.runOp_via (by decide) ?_ (fun _ _ _ => ?_)
    | split

end Sys2Proof.Machine
end

