-- ==== Sys2Proof/Laws/FrameCocoon.lean ====
section
/-!
SUPPORT. Laws/FrameCocoon.lean: what each function of Machine/Cocoon.lean can touch.
-/
set_option linter.unusedTactic false
set_option linter.unreachableTactic false
set_option linter.tactic.unusedName false

namespace Sys2Proof.Machine

theorem State.setKey_within (s : State) (n : Nat) (k : Option Key) :
    Within 68719476736 s (State.setKey s n k) := by
  unfold State.setKey
  repeat'
    first
    | with_reducible apply Within.refl
    | with_reducible assumption
    | (with_reducible apply State.updCoc_via (l := 68719476736) (hm := by decide))
    | split

theorem State.cocRaise_within (s : State) (bit code : Nat) (d : List (Nat × Nat × Nat)) :
    Within 66 s (State.cocRaise s bit code d) := by
  unfold State.cocRaise
  repeat'
    first
    | with_reducible apply Within.refl
    | with_reducible assumption
    | (with_reducible apply Within.via (l := 66) (m := 66) (hm := by decide)); (case h => with_reducible apply State.raise_within)
    | split

theorem State.draw_within (s : State) (n : Nat) :
    Within 68719476736 s (State.draw s n).2 := by
  unfold State.draw
  show Within2 _ _ _
  repeat'
    first
    | with_reducible apply Within.refl
    | with_reducible assumption
    | with_reducible apply Within2.mk
    | (with_reducible apply State.updCoc_via (l := 68719476736) (hm := by decide))
    | split

theorem State.addOp_within (s : State) (o : KeyOp) :
    Within 68719476736 s (State.addOp s o) := by
  unfold State.addOp
  repeat'
    first
    | with_reducible apply Within.refl
    | with_reducible assumption
    | (with_reducible apply State.updCoc_via (l := 68719476736) (hm := by decide))
    | split

theorem State.dropOp_within (s : State) (o : KeyOp) :
    Within 68719476736 s (State.dropOp s o) := by
  unfold State.dropOp
  repeat'
    first
    | with_reducible apply Within.refl
    | with_reducible assumption
    | (with_reducible apply State.updCoc_via (l := 68719476736) (hm := by decide))
    | split

theorem State.opPhase_within (s : State) (o : KeyOp) (p : KeyPhase) :
    Within 68719476736 s (State.opPhase s o p) := by
  unfold State.opPhase
  repeat'
    first
    | with_reducible apply Within.refl
    | with_reducible assumption
    | (with_reducible apply State.updCoc_via (l := 68719476736) (hm := by decide))
    | split

theorem State.opDone_within (s : State) (o : KeyOp) (status : Nat) (result : BitVec 64) :
    Within 68719477776 s (State.opDone s o status result) := by
  unfold State.opDone
  repeat'
    first
    | with_reducible apply Within.refl
    | with_reducible assumption
    | (with_reducible apply Within.via (l := 68719477776) (m := 1040) (hm := by decide)); (case h => with_reducible apply State.completeAt_within)
    | (with_reducible apply Within.via (l := 68719477776) (m := 68719476736) (hm := by decide)); (case h => with_reducible apply State.dropOp_within)
    | split

theorem State.keyBegin_within (s : State) (j : Job) (data : Option (List Byte)) (key : Option Key) (digest : List Byte) :
    Within 206158431248 s (State.keyBegin s j data key digest) := by
  unfold State.keyBegin
  repeat'
    first
    | with_reducible apply Within.refl
    | with_reducible assumption
    | (extract_lets +onlyGivenNames x; refine Within.cut (l := 206158431248) (r := s) (x := x) ?_ ?_; rotate_left; (try clear_value x); intro _; rotate_right; subst x)
    | (extract_lets +onlyGivenNames x; try clear_value x)
    | (with_reducible apply Within.via (l := 206158431248) (m := 68719476736) (hm := by decide)); (case h => with_reducible apply State.addOp_within)
    | (with_reducible apply Within.via (l := 206158431248) (m := 1040) (hm := by decide)); (case h => with_reducible apply State.complete_within)
    | (with_reducible apply Within.via (l := 206158431248) (m := 137438953472) (hm := by decide)); (case h => with_reducible apply State.nvQueue_within)
    | (with_reducible apply Within.via (l := 206158431248) (m := 68719476736) (hm := by decide)); (case h => with_reducible apply State.setKey_within)
    | split

theorem State.keyRun_within (s : State) (n sub : Nat) (data : Option (List Byte)) :
    Within 206158431312 s (State.keyRun s n sub data) := by
  unfold State.keyRun
  repeat'
    first
    | with_reducible apply Within.refl
    | with_reducible assumption
    | (with_reducible apply Within.via (l := 206158431312) (m := 1040) (hm := by decide)); (case h => with_reducible apply State.complete_within)
    | (with_reducible apply Within.via (l := 206158431312) (m := 206158431248) (hm := by decide)); (case h => with_reducible apply State.keyBegin_within)
    | with_reducible refine State.runOp_via (by decide) ?_ (fun _ _ _ => ?_)
    | split

theorem State.keyStore_within (s : State) (o : KeyOp) (k : Option Key) (lasting : Bool) (res : BitVec 64) :
    Within 206158431248 s (State.keyStore s o k lasting res) := by
  unfold State.keyStore
  repeat'
    first
    | with_reducible apply Within.refl
    | with_reducible assumption
    | (extract_lets +onlyGivenNames x; refine Within.cut (l := 206158431248) (r := s) (x := x) ?_ ?_; rotate_left; (try clear_value x); intro _; rotate_right; subst x)
    | (extract_lets +onlyGivenNames x; try clear_value x)
    | (with_reducible apply State.updCoc_via (l := 206158431248) (hm := by decide))
    | (with_reducible apply Within.via (l := 206158431248) (m := 137438953472) (hm := by decide)); (case h => with_reducible apply State.nvQueue_within)
    | (with_reducible apply Within.via (l := 206158431248) (m := 68719477776) (hm := by decide)); (case h => with_reducible apply State.opDone_within)
    | (with_reducible apply Within.via (l := 206158431248) (m := 68719476736) (hm := by decide)); (case h => with_reducible apply State.setKey_within)
    | split

theorem State.keyOutput_within (s : State) (o : KeyOp) (ok : Bool) (out : List Byte) (res : BitVec 64) :
    Within 68719477904 s (State.keyOutput s o ok out res) := by
  unfold State.keyOutput
  repeat'
    first
    | with_reducible apply Within.refl
    | with_reducible assumption
    | (with_reducible apply Within.via (l := 68719477904) (m := 128) (hm := by decide)); (case h => with_reducible apply State.hostWrite_within)
    | (with_reducible apply Within.via (l := 68719477904) (m := 68719477776) (hm := by decide)); (case h => with_reducible apply State.opDone_within)
    | split

theorem State.unlock_within (s : State) (o : KeyOp) (good : Bool) :
    Within 68719477842 s (State.unlock s o good) := by
  unfold State.unlock
  repeat'
    first
    | with_reducible apply Within.refl
    | with_reducible assumption
    | (extract_lets +onlyGivenNames x; refine Within.cut (l := 68719477842) (r := s) (x := x) ?_ ?_; rotate_left; (try clear_value x); intro _; rotate_right; subst x)
    | (extract_lets +onlyGivenNames x; try clear_value x)
    | (with_reducible apply State.updCoc_via (l := 68719477842) (hm := by decide))
    | (with_reducible apply Within.via (l := 68719477842) (m := 66) (hm := by decide)); (case h => with_reducible apply State.cocRaise_within)
    | (with_reducible apply Within.via (l := 68719477842) (m := 68719477776) (hm := by decide)); (case h => with_reducible apply State.opDone_within)
    | (with_reducible apply Within.via (l := 68719477842) (m := 16) (hm := by decide)); (case h => with_reducible apply State.setSq_within)
    | split

theorem State.keyFinish_within (s : State) (o : KeyOp) (ok : Bool) :
    Within 214748366034 s (State.keyFinish s o ok) := by
  unfold State.keyFinish
  repeat'
    first
    | with_reducible apply Within.refl
    | with_reducible assumption
    | (extract_lets +onlyGivenNames x; refine Within.cut (l := 214748366034) (r := s) (x := x) ?_ ?_; rotate_left; (try clear_value x); intro _; rotate_right; subst x)
    | (extract_lets +onlyGivenNames x; refine Within.cut2 (l := 214748366034) (r := s) (x := x) ?_ ?_; rotate_left; (try clear_value x); intro _; rotate_right; subst x)
    | (extract_lets +onlyGivenNames x; refine Within.cut1 (l := 214748366034) (r := s) (x := x) ?_ ?_; rotate_left; (try clear_value x); intro _; rotate_right; subst x)
    | (extract_lets +onlyGivenNames x; try clear_value x)
    | (with_reducible apply Within2.snd; with_reducible assumption)
    | (with_reducible apply Within1.fst; with_reducible assumption)
    | with_reducible apply Within2.mk
    | with_reducible apply Within1.mk
    | with_reducible refine Within2.fold ?_ (fun _ _ _ => ?_)
    | with_reducible refine Within1.fold ?_ (fun _ _ _ => ?_)
    | ((with_reducible apply Within.fold); (rotate_left; intro _ _ _; rotate_right))
    | (with_reducible apply State.updPsn_via (m := 8589934592) (l := 214748366034) (hm := by decide)); (case hdikes => exact (fun _ _ => rfl)); (case hpinSense => exact (fun _ _ => rfl)); (case hseals => exact (fun h => absurd h (by decide)))
    | (with_reducible apply State.updCoc_via (l := 214748366034) (hm := by decide))
    | (with_reducible apply Within2.via (l := 214748366034) (m := 68719476736) (hm := by decide)); (case h => with_reducible apply State.draw_within)
    | (with_reducible apply Within.via (l := 214748366034) (m := 68719476736) (hm := by decide)); (case h => with_reducible apply State.draw_within)
    | (with_reducible apply Within.via (l := 214748366034) (m := 68719476736) (hm := by decide)); (case h => (with_reducible apply Within2.ofEq (State.draw_within _ _)); with_reducible assumption)
    | (with_reducible apply Within.via (l := 214748366034) (m := 128) (hm := by decide)); (case h => with_reducible apply State.hostWrite_within)
    | (with_reducible apply Within.via (l := 214748366034) (m := 68719477904) (hm := by decide)); (case h => with_reducible apply State.keyOutput_within)
    | (with_reducible apply Within.via (l := 214748366034) (m := 206158431248) (hm := by decide)); (case h => with_reducible apply State.keyStore_within)
    | (with_reducible apply Within.via (l := 214748366034) (m := 137438953472) (hm := by decide)); (case h => with_reducible apply State.nvQueue_within)
    | (with_reducible apply Within.via (l := 214748366034) (m := 68719477776) (hm := by decide)); (case h => with_reducible apply State.opDone_within)
    | (with_reducible apply Within.via (l := 214748366034) (m := 68719476736) (hm := by decide)); (case h => with_reducible apply State.opPhase_within)
    | (with_reducible apply Within.via (l := 214748366034) (m := 68719476736) (hm := by decide)); (case h => with_reducible apply State.setKey_within)
    | (with_reducible apply Within.via (l := 214748366034) (m := 68719477842) (hm := by decide)); (case h => with_reducible apply State.unlock_within)
    | split
    | dsimp only
    | (with_reducible refine Within2.ofEq' ?_ (by assumption))

theorem State.keyCounted_within (s : State) (o : KeyOp) (ok : Bool) :
    Within 68719477776 s (State.keyCounted s o ok) := by
  unfold State.keyCounted
  repeat'
    first
    | with_reducible apply Within.refl
    | with_reducible assumption
    | (with_reducible apply Within.via (l := 68719477776) (m := 68719477776) (hm := by decide)); (case h => with_reducible apply State.opDone_within)
    | (with_reducible apply Within.via (l := 68719477776) (m := 68719476736) (hm := by decide)); (case h => with_reducible apply State.opPhase_within)
    | split

theorem State.keyStored_within (s : State) (o : KeyOp) (ok : Bool) :
    Within 68719477776 s (State.keyStored s o ok) := by
  unfold State.keyStored
  repeat'
    first
    | with_reducible apply Within.refl
    | with_reducible assumption
    | (extract_lets +onlyGivenNames x; refine Within.cut (l := 68719477776) (r := s) (x := x) ?_ ?_; rotate_left; (try clear_value x); intro _; rotate_right; subst x)
    | (extract_lets +onlyGivenNames x; try clear_value x)
    | (with_reducible apply State.updCoc_via (l := 68719477776) (hm := by decide))
    | (with_reducible apply Within.via (l := 68719477776) (m := 68719477776) (hm := by decide)); (case h => with_reducible apply State.opDone_within)
    | (with_reducible apply Within.via (l := 68719477776) (m := 68719476736) (hm := by decide)); (case h => with_reducible apply State.setKey_within)
    | split

theorem execKeyGenerate_within (n : Fin 64) (s : State) :
    WithinO 206158431312 s (execKeyGenerate n s) := by
  unfold execKeyGenerate
  repeat'
    first
    | with_reducible apply Within.refl
    | with_reducible assumption
    | with_reducible apply WithinO.next
    | with_reducible apply WithinO.fault
    | (with_reducible apply Within.via (l := 206158431312) (m := 1040) (hm := by decide)); (case h => with_reducible apply State.complete_within)
    | (with_reducible apply Within.via (l := 206158431312) (m := 206158431248) (hm := by decide)); (case h => with_reducible apply State.keyBegin_within)
    | with_reducible refine State.runOp_via (by decide) ?_ (fun _ _ _ => ?_)
    | split

theorem execKeyImport_within (n : Fin 64) (data : Option (List Byte)) (s : State) :
    WithinO 206158431312 s (execKeyImport n data s) := by
  unfold execKeyImport
  repeat'
    first
    | with_reducible apply Within.refl
    | with_reducible assumption
    | with_reducible apply WithinO.next
    | with_reducible apply WithinO.fault
    | (with_reducible apply Within.via (l := 206158431312) (m := 206158431312) (hm := by decide)); (case h => with_reducible apply State.keyRun_within)
    | split

theorem execKeyDerive_within (n : Fin 64) (data : Option (List Byte)) (s : State) :
    WithinO 206158431312 s (execKeyDerive n data s) := by
  unfold execKeyDerive
  repeat'
    first
    | with_reducible apply Within.refl
    | with_reducible assumption
    | with_reducible apply WithinO.next
    | with_reducible apply WithinO.fault
    | (with_reducible apply Within.via (l := 206158431312) (m := 206158431312) (hm := by decide)); (case h => with_reducible apply State.keyRun_within)
    | split

theorem execKeyDelete_within (n : Fin 64) (s : State) :
    WithinO 208305914960 s (execKeyDelete n s) := by
  unfold execKeyDelete
  repeat'
    first
    | with_reducible apply Within.refl
    | with_reducible assumption
    | (extract_lets +onlyGivenNames x; refine Within.cut (l := 208305914960) (r := s) (x := x) ?_ ?_; rotate_left; (try clear_value x); intro _; rotate_right; subst x)
    | (extract_lets +onlyGivenNames x; try clear_value x)
    | with_reducible apply WithinO.next
    | with_reducible apply WithinO.fault
    | (with_reducible apply State.updPsn_via (m := 2147483648) (l := 208305914960) (hm := by decide)); (case hdikes => exact (fun h => absurd h (by decide))); (case hpinSense => exact (fun _ _ => rfl)); (case hseals => exact (fun _ _ => rfl))
    | (with_reducible apply Within.via (l := 208305914960) (m := 68719476736) (hm := by decide)); (case h => with_reducible apply State.addOp_within)
    | (with_reducible apply Within.via (l := 208305914960) (m := 1040) (hm := by decide)); (case h => with_reducible apply State.complete_within)
    | (with_reducible apply Within.via (l := 208305914960) (m := 137438953472) (hm := by decide)); (case h => with_reducible apply State.nvQueue_within)
    | with_reducible refine State.runOp_via (by decide) ?_ (fun _ _ _ => ?_)
    | (with_reducible apply Within.via (l := 208305914960) (m := 68719476736) (hm := by decide)); (case h => with_reducible apply State.setKey_within)
    | split

theorem execKeyLimit_within (n : Fin 64) (s : State) :
    WithinO 206158431312 s (execKeyLimit n s) := by
  unfold execKeyLimit
  repeat'
    first
    | with_reducible apply Within.refl
    | with_reducible assumption
    | (extract_lets +onlyGivenNames x; refine Within.cut (l := 206158431312) (r := s) (x := x) ?_ ?_; rotate_left; (try clear_value x); intro _; rotate_right; subst x)
    | (extract_lets +onlyGivenNames x; try clear_value x)
    | with_reducible apply WithinO.next
    | with_reducible apply WithinO.fault
    | (with_reducible apply Within.via (l := 206158431312) (m := 68719476736) (hm := by decide)); (case h => with_reducible apply State.addOp_within)
    | (with_reducible apply Within.via (l := 206158431312) (m := 1040) (hm := by decide)); (case h => with_reducible apply State.complete_within)
    | (with_reducible apply Within.via (l := 206158431312) (m := 137438953472) (hm := by decide)); (case h => with_reducible apply State.nvQueue_within)
    | with_reducible refine State.runOp_via (by decide) ?_ (fun _ _ _ => ?_)
    | (with_reducible apply Within.via (l := 206158431312) (m := 68719476736) (hm := by decide)); (case h => with_reducible apply State.setKey_within)
    | split

theorem execKeyInfo_within (n : Fin 64) (ok : Bool) (s : State) :
    WithinO 1232 s (execKeyInfo n ok s) := by
  unfold execKeyInfo
  repeat'
    first
    | with_reducible apply Within.refl
    | with_reducible assumption
    | (extract_lets +onlyGivenNames x; refine Within.cut (l := 1232) (r := s) (x := x) ?_ ?_; rotate_left; (try clear_value x); intro _; rotate_right; subst x)
    | (extract_lets +onlyGivenNames x; try clear_value x)
    | with_reducible apply WithinO.next
    | with_reducible apply WithinO.fault
    | (with_reducible apply Within.via (l := 1232) (m := 1040) (hm := by decide)); (case h => with_reducible apply State.complete_within)
    | (with_reducible apply Within.via (l := 1232) (m := 128) (hm := by decide)); (case h => with_reducible apply State.hostWrite_within)
    | with_reducible refine State.runOp_via (by decide) ?_ (fun _ _ _ => ?_)
    | split

theorem execKeySign_within (n : Fin 64) (data : Option (List Byte)) (s : State) :
    WithinO 206158431312 s (execKeySign n data s) := by
  unfold execKeySign
  repeat'
    first
    | with_reducible apply Within.refl
    | with_reducible assumption
    | with_reducible apply WithinO.next
    | with_reducible apply WithinO.fault
    | (with_reducible apply Within.via (l := 206158431312) (m := 206158431312) (hm := by decide)); (case h => with_reducible apply State.keyRun_within)
    | split

theorem execKeyVerify_within (n : Fin 64) (data : Option (List Byte)) (s : State) :
    WithinO 206158431312 s (execKeyVerify n data s) := by
  unfold execKeyVerify
  repeat'
    first
    | with_reducible apply Within.refl
    | with_reducible assumption
    | with_reducible apply WithinO.next
    | with_reducible apply WithinO.fault
    | (with_reducible apply Within.via (l := 206158431312) (m := 206158431312) (hm := by decide)); (case h => with_reducible apply State.keyRun_within)
    | split

theorem execKeyMac_within (n : Fin 64) (data : Option (List Byte)) (s : State) :
    WithinO 206158431312 s (execKeyMac n data s) := by
  unfold execKeyMac
  repeat'
    first
    | with_reducible apply Within.refl
    | with_reducible assumption
    | with_reducible apply WithinO.next
    | with_reducible apply WithinO.fault
    | (with_reducible apply Within.via (l := 206158431312) (m := 206158431312) (hm := by decide)); (case h => with_reducible apply State.keyRun_within)
    | split

theorem execKeyEncrypt_within (n : Fin 64) (data : Option (List Byte)) (s : State) :
    WithinO 206158431312 s (execKeyEncrypt n data s) := by
  unfold execKeyEncrypt
  repeat'
    first
    | with_reducible apply Within.refl
    | with_reducible assumption
    | with_reducible apply WithinO.next
    | with_reducible apply WithinO.fault
    | (with_reducible apply Within.via (l := 206158431312) (m := 206158431312) (hm := by decide)); (case h => with_reducible apply State.keyRun_within)
    | split

theorem execKeyDecrypt_within (n : Fin 64) (data : Option (List Byte)) (s : State) :
    WithinO 206158431312 s (execKeyDecrypt n data s) := by
  unfold execKeyDecrypt
  repeat'
    first
    | with_reducible apply Within.refl
    | with_reducible assumption
    | with_reducible apply WithinO.next
    | with_reducible apply WithinO.fault
    | (with_reducible apply Within.via (l := 206158431312) (m := 206158431312) (hm := by decide)); (case h => with_reducible apply State.keyRun_within)
    | split

theorem execKeyHash_within (n : Fin 64) (data : Option (List Byte)) (s : State) :
    WithinO 206158431312 s (execKeyHash n data s) := by
  unfold execKeyHash
  repeat'
    first
    | with_reducible apply Within.refl
    | with_reducible assumption
    | with_reducible apply WithinO.next
    | with_reducible apply WithinO.fault
    | (with_reducible apply Within.via (l := 206158431312) (m := 206158431312) (hm := by decide)); (case h => with_reducible apply State.keyRun_within)
    | split

theorem execKeyAttest_within (n : Fin 64) (data : Option (List Byte)) (s : State) :
    WithinO 206158431312 s (execKeyAttest n data s) := by
  unfold execKeyAttest
  repeat'
    first
    | with_reducible apply Within.refl
    | with_reducible assumption
    | with_reducible apply WithinO.next
    | with_reducible apply WithinO.fault
    | (with_reducible apply Within.via (l := 206158431312) (m := 206158431312) (hm := by decide)); (case h => with_reducible apply State.keyRun_within)
    | split

theorem execKeyChallenge_within (n : Fin 64) (ok : Bool) (s : State) :
    WithinO 68719477968 s (execKeyChallenge n ok s) := by
  unfold execKeyChallenge
  repeat'
    first
    | with_reducible apply Within.refl
    | with_reducible assumption
    | (extract_lets +onlyGivenNames x; refine Within.cut (l := 68719477968) (r := s) (x := x) ?_ ?_; rotate_left; (try clear_value x); intro _; rotate_right; subst x)
    | (extract_lets +onlyGivenNames x; refine Within.cut2 (l := 68719477968) (r := s) (x := x) ?_ ?_; rotate_left; (try clear_value x); intro _; rotate_right; subst x)
    | (extract_lets +onlyGivenNames x; refine Within.cut1 (l := 68719477968) (r := s) (x := x) ?_ ?_; rotate_left; (try clear_value x); intro _; rotate_right; subst x)
    | (extract_lets +onlyGivenNames x; try clear_value x)
    | (with_reducible apply Within2.snd; with_reducible assumption)
    | (with_reducible apply Within1.fst; with_reducible assumption)
    | with_reducible apply Within2.mk
    | with_reducible apply Within1.mk
    | with_reducible refine Within2.fold ?_ (fun _ _ _ => ?_)
    | with_reducible refine Within1.fold ?_ (fun _ _ _ => ?_)
    | with_reducible apply WithinO.next
    | with_reducible apply WithinO.fault
    | (with_reducible apply State.updCoc_via (l := 68719477968) (hm := by decide))
    | (with_reducible apply Within.via (l := 68719477968) (m := 1040) (hm := by decide)); (case h => with_reducible apply State.complete_within)
    | (with_reducible apply Within2.via (l := 68719477968) (m := 68719476736) (hm := by decide)); (case h => with_reducible apply State.draw_within)
    | (with_reducible apply Within.via (l := 68719477968) (m := 68719476736) (hm := by decide)); (case h => with_reducible apply State.draw_within)
    | (with_reducible apply Within.via (l := 68719477968) (m := 68719476736) (hm := by decide)); (case h => (with_reducible apply Within2.ofEq (State.draw_within _ _)); with_reducible assumption)
    | (with_reducible apply Within.via (l := 68719477968) (m := 128) (hm := by decide)); (case h => with_reducible apply State.hostWrite_within)
    | with_reducible refine State.runOp_via (by decide) ?_ (fun _ _ _ => ?_)
    | split
    | dsimp only
    | (with_reducible refine Within2.ofEq' ?_ (by assumption))

theorem execKeyRespond_within (n : Fin 64) (data : Option (List Byte)) (s : State) :
    WithinO 206158431312 s (execKeyRespond n data s) := by
  unfold execKeyRespond
  repeat'
    first
    | with_reducible apply Within.refl
    | with_reducible assumption
    | (extract_lets +onlyGivenNames x; refine Within.cut (l := 206158431312) (r := s) (x := x) ?_ ?_; rotate_left; (try clear_value x); intro _; rotate_right; subst x)
    | (extract_lets +onlyGivenNames x; try clear_value x)
    | with_reducible apply WithinO.next
    | with_reducible apply WithinO.fault
    | (with_reducible apply State.updCoc_via (l := 206158431312) (hm := by decide))
    | (with_reducible apply Within.via (l := 206158431312) (m := 1040) (hm := by decide)); (case h => with_reducible apply State.complete_within)
    | (with_reducible apply Within.via (l := 206158431312) (m := 206158431248) (hm := by decide)); (case h => with_reducible apply State.keyBegin_within)
    | with_reducible refine State.runOp_via (by decide) ?_ (fun _ _ _ => ?_)
    | split

theorem execChallengeExpiry_within (n : Fin 64) (s : State) :
    WithinO 68719476736 s (execChallengeExpiry n s) := by
  unfold execChallengeExpiry
  repeat'
    first
    | with_reducible apply Within.refl
    | with_reducible assumption
    | with_reducible apply WithinO.next
    | with_reducible apply WithinO.fault
    | (with_reducible apply State.updCoc_via (l := 68719476736) (hm := by decide))
    | split

theorem execUnlockLockoutExpiry_within (s : State) :
    WithinO 68719476736 s (execUnlockLockoutExpiry s) := by
  unfold execUnlockLockoutExpiry
  repeat'
    first
    | with_reducible apply Within.refl
    | with_reducible assumption
    | with_reducible apply WithinO.next
    | with_reducible apply WithinO.fault
    | (with_reducible apply State.updCoc_via (l := 68719476736) (hm := by decide))
    | split

theorem execKeyAdminSet_within (n : Fin 64) (data : Option (List Byte)) (s : State) :
    WithinO 206158431312 s (execKeyAdminSet n data s) := by
  unfold execKeyAdminSet
  repeat'
    first
    | with_reducible apply Within.refl
    | with_reducible assumption
    | with_reducible apply WithinO.next
    | with_reducible apply WithinO.fault
    | (with_reducible apply Within.via (l := 206158431312) (m := 206158431312) (hm := by decide)); (case h => with_reducible apply State.keyRun_within)
    | split

theorem execKeyRecommission_within (n : Fin 64) (s : State) :
    WithinO 206158431312 s (execKeyRecommission n s) := by
  unfold execKeyRecommission
  repeat'
    first
    | with_reducible apply Within.refl
    | with_reducible assumption
    | with_reducible apply WithinO.next
    | with_reducible apply WithinO.fault
    | (with_reducible apply Within.via (l := 206158431312) (m := 206158431312) (hm := by decide)); (case h => with_reducible apply State.keyRun_within)
    | split

end Sys2Proof.Machine
end

