-- ==== Sys2Proof/Laws/FrameSeals.lean ====
section
/-!
SUPPORT. Laws/FrameSeals.lean: what each function of Machine/Seals.lean can touch.
-/
set_option linter.unusedTactic false
set_option linter.unreachableTactic false
set_option linter.tactic.unusedName false

namespace Sys2Proof.Machine

theorem State.logPut_within (s : State) (type h len : Nat) (payload : List Byte) :
    Within 8589934720 s (State.logPut s type h len payload) := by
  unfold State.logPut
  repeat'
    first
    | with_reducible apply Within.refl
    | with_reducible assumption
    | (extract_lets +onlyGivenNames x; refine Within.cut (l := 8589934720) (r := s) (x := x) ?_ ?_; rotate_left; (try clear_value x); intro _; rotate_right; subst x)
    | (extract_lets +onlyGivenNames x; try clear_value x)
    | (with_reducible apply State.updPsn_via (m := 8589934592) (l := 8589934720) (hm := by decide)); (case hdikes => exact (fun _ _ => rfl)); (case hpinSense => exact (fun _ _ => rfl)); (case hseals => exact (fun h => absurd h (by decide)))
    | (with_reducible apply Within.via (l := 8589934720) (m := 128) (hm := by decide)); (case h => with_reducible apply State.hostWrite_within)
    | split

theorem State.logWrite_within (s : State) (type h len : Nat) (payload : List Byte) (frame index : Nat) :
    Within 8589935296 s (State.logWrite s type h len payload frame index) := by
  unfold State.logWrite
  repeat'
    first
    | with_reducible apply Within.refl
    | with_reducible assumption
    | (extract_lets +onlyGivenNames x; refine Within.cut (l := 8589935296) (r := s) (x := x) ?_ ?_; rotate_left; (try clear_value x); intro _; rotate_right; subst x)
    | (extract_lets +onlyGivenNames x; try clear_value x)
    | (with_reducible apply State.updPsn_via (m := 8589934592) (l := 8589935296) (hm := by decide)); (case hdikes => exact (fun _ _ => rfl)); (case hpinSense => exact (fun _ _ => rfl)); (case hseals => exact (fun h => absurd h (by decide)))
    | (with_reducible apply Within.via (l := 8589935296) (m := 640) (hm := by decide)); (case h => with_reducible apply State.interrupt_within)
    | (with_reducible apply Within.via (l := 8589935296) (m := 8589934720) (hm := by decide)); (case h => with_reducible apply State.logPut_within)
    | (with_reducible apply Within.via (l := 8589935296) (m := 64) (hm := by decide)); (case h => with_reducible apply State.occur_within)
    | split

theorem State.writeLogHead_within (s : State) (v : Nat) :
    Within 8589934722 s (State.writeLogHead s v) := by
  unfold State.writeLogHead
  repeat'
    first
    | with_reducible apply Within.refl
    | with_reducible assumption
    | (extract_lets +onlyGivenNames x; refine Within.cut (l := 8589934722) (r := s) (x := x) ?_ ?_; rotate_left; (try clear_value x); intro _; rotate_right; subst x)
    | (extract_lets +onlyGivenNames x; try clear_value x)
    | (with_reducible apply State.updPsn_via (m := 8589934592) (l := 8589934722) (hm := by decide)); (case hdikes => exact (fun _ _ => rfl)); (case hpinSense => exact (fun _ _ => rfl)); (case hseals => exact (fun h => absurd h (by decide)))
    | (with_reducible apply Within.via (l := 8589934722) (m := 8589934720) (hm := by decide)); (case h => with_reducible apply State.logPut_within)
    | (with_reducible apply Within.via (l := 8589934722) (m := 2) (hm := by decide)); (case h => with_reducible apply State.wr_within)
    | split

theorem execLogHeadWrite_within (v : BitVec 32) (s : State) :
    WithinO 8589934722 s (execLogHeadWrite v s) := by
  unfold execLogHeadWrite
  repeat'
    first
    | with_reducible apply Within.refl
    | with_reducible assumption
    | with_reducible apply WithinO.next
    | with_reducible apply WithinO.fault
    | (with_reducible apply Within.via (l := 8589934722) (m := 8589934722) (hm := by decide)); (case h => with_reducible apply State.writeLogHead_within)
    | split

theorem State.sealTrigger_within (s : State) (h : Nat) :
    Within 8589934592 s (State.sealTrigger s h) := by
  unfold State.sealTrigger
  repeat'
    first
    | with_reducible apply Within.refl
    | with_reducible assumption
    | (extract_lets +onlyGivenNames x; refine Within.cut (l := 8589934592) (r := s) (x := x) ?_ ?_; rotate_left; (try clear_value x); intro _; rotate_right; subst x)
    | (extract_lets +onlyGivenNames x; try clear_value x)
    | (with_reducible apply State.updPsn_via (m := 8589934592) (l := 8589934592) (hm := by decide)); (case hdikes => exact (fun _ _ => rfl)); (case hpinSense => exact (fun _ _ => rfl)); (case hseals => exact (fun h => absurd h (by decide)))
    | (with_reducible apply Within.via (l := 8589934592) (m := 8589934592) (hm := by decide)); (case h => with_reducible apply State.setChain_within)
    | split

theorem State.sealDue_within (s : State) (h : Nat) :
    Within 8589934592 s (State.sealDue s h) := by
  unfold State.sealDue
  repeat'
    first
    | with_reducible apply Within.refl
    | with_reducible assumption
    | (extract_lets +onlyGivenNames x; refine Within.cut (l := 8589934592) (r := s) (x := x) ?_ ?_; rotate_left; (try clear_value x); intro _; rotate_right; subst x)
    | (extract_lets +onlyGivenNames x; try clear_value x)
    | (with_reducible apply State.updPsn_via (m := 8589934592) (l := 8589934592) (hm := by decide)); (case hdikes => exact (fun _ _ => rfl)); (case hpinSense => exact (fun _ _ => rfl)); (case hseals => exact (fun h => absurd h (by decide)))
    | (with_reducible apply Within.via (l := 8589934592) (m := 8589934592) (hm := by decide)); (case h => with_reducible apply State.updChain_within)
    | split

theorem execSealDue_within (h : Fin 256) (s : State) :
    WithinO 8589934592 s (execSealDue h s) := by
  unfold execSealDue
  repeat'
    first
    | with_reducible apply Within.refl
    | with_reducible assumption
    | with_reducible apply WithinO.next
    | with_reducible apply WithinO.fault
    | (with_reducible apply Within.via (l := 8589934592) (m := 8589934592) (hm := by decide)); (case h => with_reducible apply State.sealDue_within)
    | split

theorem execSealSigned_within (s : State) :
    WithinO 146028889808 s (execSealSigned s) := by
  unfold execSealSigned
  repeat'
    first
    | with_reducible apply Within.refl
    | with_reducible assumption
    | (extract_lets +onlyGivenNames x; refine Within.cut (l := 146028889808) (r := s) (x := x) ?_ ?_; rotate_left; (try clear_value x); intro _; rotate_right; subst x)
    | (extract_lets +onlyGivenNames x; try clear_value x)
    | with_reducible apply WithinO.next
    | with_reducible apply WithinO.fault
    | ((with_reducible apply Within.fold); (rotate_left; intro _ _ _; rotate_right))
    | (with_reducible apply State.updPsn_via (m := 8589934592) (l := 146028889808) (hm := by decide)); (case hdikes => exact (fun _ _ => rfl)); (case hpinSense => exact (fun _ _ => rfl)); (case hseals => exact (fun h => absurd h (by decide)))
    | (with_reducible apply Within.via (l := 146028889808) (m := 1040) (hm := by decide)); (case h => with_reducible apply State.completeAt_within)
    | (with_reducible apply Within.via (l := 146028889808) (m := 8589935296) (hm := by decide)); (case h => with_reducible apply State.logWrite_within)
    | (with_reducible apply Within.via (l := 146028889808) (m := 137438953472) (hm := by decide)); (case h => with_reducible apply State.nvTouch_within)
    | (with_reducible apply Within.via (l := 146028889808) (m := 64) (hm := by decide)); (case h => with_reducible apply State.occur_within)
    | (with_reducible apply Within.via (l := 146028889808) (m := 8589934592) (hm := by decide)); (case h => with_reducible apply State.updChain_within)
    | split

theorem State.sealHeadStop_within (s : State) (h : Nat) :
    Within 8589935632 s (State.sealHeadStop s h) := by
  unfold State.sealHeadStop
  repeat'
    first
    | with_reducible apply Within.refl
    | with_reducible assumption
    | (extract_lets +onlyGivenNames x; refine Within.cut (l := 8589935632) (r := s) (x := x) ?_ ?_; rotate_left; (try clear_value x); intro _; rotate_right; subst x)
    | (extract_lets +onlyGivenNames x; try clear_value x)
    | ((with_reducible apply Within.fold); (rotate_left; intro _ _ _; rotate_right))
    | (with_reducible apply State.updPsn_via (m := 8589934592) (l := 8589935632) (hm := by decide)); (case hdikes => exact (fun _ _ => rfl)); (case hpinSense => exact (fun _ _ => rfl)); (case hseals => exact (fun h => absurd h (by decide)))
    | (with_reducible apply Within.via (l := 8589935632) (m := 1040) (hm := by decide)); (case h => with_reducible apply State.completeAt_within)
    | (with_reducible apply Within.via (l := 8589935632) (m := 8589934592) (hm := by decide)); (case h => with_reducible apply State.setChain_within)
    | split

theorem State.appendRec_within (s : State) (h : Nat) (r : Rec) :
    Within 8589935296 s (State.appendRec s h r) := by
  unfold State.appendRec
  repeat'
    first
    | with_reducible apply Within.refl
    | with_reducible assumption
    | (extract_lets +onlyGivenNames x; refine Within.cut (l := 8589935296) (r := s) (x := x) ?_ ?_; rotate_left; (try clear_value x); intro _; rotate_right; subst x)
    | (extract_lets +onlyGivenNames x; try clear_value x)
    | (with_reducible apply Within.via (l := 8589935296) (m := 8589935296) (hm := by decide)); (case h => with_reducible apply State.logWrite_within)
    | (with_reducible apply Within.via (l := 8589935296) (m := 8589934592) (hm := by decide)); (case h => with_reducible apply State.sealTrigger_within)
    | (with_reducible apply Within.via (l := 8589935296) (m := 8589934592) (hm := by decide)); (case h => with_reducible apply State.setChain_within)
    | split

theorem State.appendReady_within (s : State) (h n : Nat) : Within 8589935296 s (s.appendReady h n) := by
  induction n generalizing s with
  | zero => exact Within.refl _ _
  | succ n ih =>
    unfold State.appendReady
    split
    · split
      · exact (ih _).via (by decide) ((State.appendRec_within _ _ _).via (by decide) ((State.updChain_within _ _ _).mono (by decide)))
      · exact Within.refl _ _
    · exact Within.refl _ _

theorem State.appendAll_within (s : State) (h : Nat) :
    Within 8589935296 s (State.appendAll s h) := by
  unfold State.appendAll
  repeat'
    first
    | with_reducible apply Within.refl
    | with_reducible assumption
    | (with_reducible apply Within.via (l := 8589935296) (m := 8589935296) (hm := by decide)); (case h => with_reducible apply State.appendReady_within)
    | split

theorem State.uncheckDest_within (s : State) (d : Nat) :
    Within 12886999752 s (State.uncheckDest s d) := by
  unfold State.uncheckDest
  repeat'
    first
    | with_reducible apply Within.refl
    | with_reducible assumption
    | (extract_lets +onlyGivenNames x; refine Within.cut (l := 12886999752) (r := s) (x := x) ?_ ?_; rotate_left; (try clear_value x); intro _; rotate_right; subst x)
    | (extract_lets +onlyGivenNames x; try clear_value x)
    | ((with_reducible apply Within.fold); (rotate_left; intro _ _ _; rotate_right))
    | (with_reducible apply Within.via (l := 12886999752) (m := 8) (hm := by decide)); (case h => (with_reducible apply State.ledAdd_within); decide)
    | (with_reducible apply Within.via (l := 12886999752) (m := 8589935296) (hm := by decide)); (case h => with_reducible apply State.appendAll_within)
    | (with_reducible apply Within.via (l := 12886999752) (m := 4294967296) (hm := by decide)); (case h => with_reducible apply State.setPsnDest_within)
    | (with_reducible apply Within.via (l := 12886999752) (m := 8589934592) (hm := by decide)); (case h => with_reducible apply State.updChain_within)
    | (with_reducible apply Within.via (l := 12886999752) (m := 2097152) (hm := by decide)); (case h => with_reducible apply State.updDest_within)
    | split

theorem execPinSenseJudgement_within (d : Fin 256) (spots : BitVec 4) (lines : Nat) (hashes : List Byte) (s : State) :
    WithinO 12886999754 s (execPinSenseJudgement d spots lines hashes s) := by
  unfold execPinSenseJudgement
  repeat'
    first
    | with_reducible apply Within.refl
    | with_reducible assumption
    | (extract_lets +onlyGivenNames x; refine Within.cut (l := 12886999754) (r := s) (x := x) ?_ ?_; rotate_left; (try clear_value x); intro _; rotate_right; subst x)
    | (extract_lets +onlyGivenNames x; try clear_value x)
    | with_reducible apply WithinO.next
    | with_reducible apply WithinO.fault
    | (with_reducible apply Within.via (l := 12886999754) (m := 8) (hm := by decide)); (case h => (with_reducible apply State.ledAdd_within); decide)
    | (with_reducible apply Within.via (l := 12886999754) (m := 8589935296) (hm := by decide)); (case h => with_reducible apply State.appendAll_within)
    | (with_reducible apply Within.via (l := 12886999754) (m := 2) (hm := by decide)); (case h => with_reducible apply State.count_within)
    | (with_reducible apply Within.via (l := 12886999754) (m := 8) (hm := by decide)); (case h => with_reducible apply State.countPeriod_within)
    | (with_reducible apply Within.via (l := 12886999754) (m := 66) (hm := by decide)); (case h => with_reducible apply State.raise_within)
    | (with_reducible apply Within.via (l := 12886999754) (m := 4294967296) (hm := by decide)); (case h => with_reducible apply State.setPsnDest_within)
    | (with_reducible apply Within.via (l := 12886999754) (m := 12886999752) (hm := by decide)); (case h => with_reducible apply State.uncheckDest_within)
    | (with_reducible apply Within.via (l := 12886999754) (m := 8589934592) (hm := by decide)); (case h => with_reducible apply State.updChain_within)
    | split

theorem execSealLogSet_within (n : Fin 64) (s : State) :
    WithinO 8589935698 s (execSealLogSet n s) := by
  unfold execSealLogSet
  repeat'
    first
    | with_reducible apply Within.refl
    | with_reducible assumption
    | (extract_lets +onlyGivenNames x; refine Within.cut (l := 8589935698) (r := s) (x := x) ?_ ?_; rotate_left; (try clear_value x); intro _; rotate_right; subst x)
    | (extract_lets +onlyGivenNames x; try clear_value x)
    | with_reducible apply WithinO.next
    | with_reducible apply WithinO.fault
    | (with_reducible apply State.updPsn_via (m := 8589934592) (l := 8589935698) (hm := by decide)); (case hdikes => exact (fun _ _ => rfl)); (case hpinSense => exact (fun _ _ => rfl)); (case hseals => exact (fun h => absurd h (by decide)))
    | (with_reducible apply Within.via (l := 8589935698) (m := 1040) (hm := by decide)); (case h => with_reducible apply State.complete_within)
    | with_reducible refine State.runOp_via (by decide) ?_ (fun _ _ _ => ?_)
    | (with_reducible apply Within.via (l := 8589935698) (m := 2) (hm := by decide)); (case h => with_reducible apply State.wr_within)
    | split

theorem execSealLogOff_within (n : Fin 64) (s : State) :
    WithinO 8589935696 s (execSealLogOff n s) := by
  unfold execSealLogOff
  repeat'
    first
    | with_reducible apply Within.refl
    | with_reducible assumption
    | with_reducible apply WithinO.next
    | with_reducible apply WithinO.fault
    | (with_reducible apply State.updPsn_via (m := 8589934592) (l := 8589935696) (hm := by decide)); (case hdikes => exact (fun _ _ => rfl)); (case hpinSense => exact (fun _ _ => rfl)); (case hseals => exact (fun h => absurd h (by decide)))
    | (with_reducible apply Within.via (l := 8589935696) (m := 1040) (hm := by decide)); (case h => with_reducible apply State.complete_within)
    | with_reducible refine State.runOp_via (by decide) ?_ (fun _ _ _ => ?_)
    | split

theorem execSealRead_within (n : Fin 64) (ok : Bool) (s : State) :
    WithinO 1232 s (execSealRead n ok s) := by
  unfold execSealRead
  repeat'
    first
    | with_reducible apply Within.refl
    | with_reducible assumption
    | (extract_lets +onlyGivenNames x; refine Within.cut (l := 1232) (r := s) (x := x) ?_ ?_; rotate_left; (try clear_value x); intro _; rotate_right; subst x)
    | (extract_lets +onlyGivenNames x; try clear_value x)
    | with_reducible apply WithinO.next
    | with_reducible apply WithinO.fault
    | (with_reducible apply Within.via (l := 1232) (m := 1040) (hm := by decide)); (case h => with_reducible apply State.complete_within)
    | (with_reducible apply Within.via (l := 1232) (m := 128) (hm := by decide)); (case h => with_reducible apply State.hostWrite_within)
    | with_reducible refine State.runOp_via (by decide) ?_ (fun _ _ _ => ?_)
    | split

theorem execSealNow_within (n : Fin 64) (s : State) :
    WithinO 8589935696 s (execSealNow n s) := by
  unfold execSealNow
  repeat'
    first
    | with_reducible apply Within.refl
    | with_reducible assumption
    | (extract_lets +onlyGivenNames x; refine Within.cut (l := 8589935696) (r := s) (x := x) ?_ ?_; rotate_left; (try clear_value x); intro _; rotate_right; subst x)
    | (extract_lets +onlyGivenNames x; try clear_value x)
    | with_reducible apply WithinO.next
    | with_reducible apply WithinO.fault
    | (with_reducible apply Within.via (l := 8589935696) (m := 1040) (hm := by decide)); (case h => with_reducible apply State.complete_within)
    | with_reducible refine State.runOp_via (by decide) ?_ (fun _ _ _ => ?_)
    | (with_reducible apply Within.via (l := 8589935696) (m := 8589934592) (hm := by decide)); (case h => with_reducible apply State.sealDue_within)
    | (with_reducible apply Within.via (l := 8589935696) (m := 8589934592) (hm := by decide)); (case h => with_reducible apply State.updChain_within)
    | split

end Sys2Proof.Machine
end

