-- ==== Sys2Proof/Laws/FrameDike.lean ====
section
/-!
SUPPORT. Laws/FrameDike.lean: what each function of Machine/Dike.lean can touch.
-/
set_option linter.unusedTactic false
set_option linter.unreachableTactic false
set_option linter.tactic.unusedName false

namespace Sys2Proof.Machine

theorem execDikeBind_within (n : Fin 64) (s : State) :
    WithinO 208305914960 s (execDikeBind n s) := by
  unfold execDikeBind
  repeat'
    first
    | with_reducible apply Within.refl
    | with_reducible assumption
    | (extract_lets +onlyGivenNames x; refine Within.cut (l := 208305914960) (r := s) (x := x) ?_ ?_; rotate_left; (try clear_value x); intro _; rotate_right; subst x)
    | (extract_lets +onlyGivenNames x; try clear_value x)
    | with_reducible apply WithinO.next
    | with_reducible apply WithinO.fault
    | (with_reducible apply State.updPsn_via (m := 2147483648) (l := 208305914960) (hm := by decide)); (case hdikes => exact (fun h => absurd h (by decide))); (case hpinSense => exact (fun _ _ => rfl)); (case hseals => exact (fun _ _ => rfl))
    | (with_reducible apply Within.via (l := 208305914960) (m := 68719476736) (hm := by decide)); (case h => with_reducible apply State.addOp_within)
    | (with_reducible apply Within.via (l := 208305914960) (m := 1040) (hm := by decide)); (case h => with_reducible apply State.complete_within)
    | (with_reducible apply Within.via (l := 208305914960) (m := 137438953472) (hm := by decide)); (case h => with_reducible apply State.nvQueue_within)
    | with_reducible refine State.runOp_via (by decide) ?_ (fun _ _ _ => ?_)
    | split

theorem State.dikeCopy_within (s : State) (f : Surf) :
    Within 2199023386632 s (State.dikeCopy s f).2 := by
  unfold State.dikeCopy
  show Within2 _ _ _
  repeat'
    first
    | with_reducible apply Within.refl
    | with_reducible assumption
    | (extract_lets +onlyGivenNames x; refine Within.cut (l := 2199023386632) (r := s) (x := x) ?_ ?_; rotate_left; (try clear_value x); intro _; rotate_right; subst x)
    | (extract_lets +onlyGivenNames x; try clear_value x)
    | with_reducible apply Within2.mk
    | (with_reducible apply State.updSrf_via (l := 2199023386632) (hm := by decide))
    | (with_reducible apply Within.via (l := 2199023386632) (m := 8) (hm := by decide)); (case h => (with_reducible apply State.ledAdd_within); decide)
    | (with_reducible apply Within.via (l := 2199023386632) (m := 2199023255552) (hm := by decide)); (case h => with_reducible apply State.hbmCopy_within)
    | (with_reducible apply Within.via (l := 2199023386632) (m := 131080) (hm := by decide)); (case h => with_reducible apply State.takeRefs_within)
    | split

theorem State.dikeDrop_within (s : State) (h : BitVec 32) :
    Within 132120 s (State.dikeDrop s h) := by
  unfold State.dikeDrop
  repeat'
    first
    | with_reducible apply Within.refl
    | with_reducible assumption
    | (with_reducible apply Within.via (l := 132120) (m := 132120) (hm := by decide)); (case h => with_reducible apply State.dropRefs_within)
    | split

theorem State.dikeStart_within (s : State) (j : Job) (sig : Option (List Byte)) (ok : Bool) (ecc : List HbmErr) :
    Within 2267742864474 s (State.dikeStart s j sig ok ecc) := by
  unfold State.dikeStart
  repeat'
    first
    | with_reducible apply Within.refl
    | with_reducible assumption
    | (extract_lets +onlyGivenNames x; refine Within.cut (l := 2267742864474) (r := s) (x := x) ?_ ?_; rotate_left; (try clear_value x); intro _; rotate_right; subst x)
    | (extract_lets +onlyGivenNames x; refine Within.cut2 (l := 2267742864474) (r := s) (x := x) ?_ ?_; rotate_left; (try clear_value x); intro _; rotate_right; subst x)
    | (extract_lets +onlyGivenNames x; refine Within.cut1 (l := 2267742864474) (r := s) (x := x) ?_ ?_; rotate_left; (try clear_value x); intro _; rotate_right; subst x)
    | (extract_lets +onlyGivenNames x; try clear_value x)
    | (with_reducible apply Within2.snd; with_reducible assumption)
    | (with_reducible apply Within1.fst; with_reducible assumption)
    | with_reducible apply Within2.mk
    | with_reducible apply Within1.mk
    | with_reducible refine Within2.fold ?_ (fun _ _ _ => ?_)
    | with_reducible refine Within1.fold ?_ (fun _ _ _ => ?_)
    | (with_reducible apply Within.via (l := 2267742864474) (m := 68719476736) (hm := by decide)); (case h => with_reducible apply State.addOp_within)
    | (with_reducible apply Within.via (l := 2267742864474) (m := 1040) (hm := by decide)); (case h => with_reducible apply State.complete_within)
    | (with_reducible apply Within2.via (l := 2267742864474) (m := 2199023386632) (hm := by decide)); (case h => with_reducible apply State.dikeCopy_within)
    | (with_reducible apply Within.via (l := 2267742864474) (m := 2199023386632) (hm := by decide)); (case h => with_reducible apply State.dikeCopy_within)
    | (with_reducible apply Within.via (l := 2267742864474) (m := 2199023386632) (hm := by decide)); (case h => (with_reducible apply Within2.ofEq (State.dikeCopy_within _ _)); with_reducible assumption)
    | (with_reducible apply Within.via (l := 2267742864474) (m := 66) (hm := by decide)); (case h => with_reducible apply State.granulesMet_within)
    | split
    | dsimp only
    | (with_reducible refine Within2.ofEq' ?_ (by assumption))

theorem execDikeContent_within (n : Fin 64) (sig : Option (List Byte)) (ok : Bool) (ecc : List HbmErr) (s : State) :
    WithinO 2267742864474 s (execDikeContent n sig ok ecc s) := by
  unfold execDikeContent
  repeat'
    first
    | with_reducible apply Within.refl
    | with_reducible assumption
    | with_reducible apply WithinO.next
    | with_reducible apply WithinO.fault
    | (with_reducible apply Within.via (l := 2267742864474) (m := 2267742864474) (hm := by decide)); (case h => with_reducible apply State.dikeStart_within)
    | with_reducible refine State.runOp_via (by decide) ?_ (fun _ _ _ => ?_)
    | split

theorem execDikeReapply_within (n : Fin 64) (ok : Bool) (ecc : List HbmErr) (s : State) :
    WithinO 2267742864474 s (execDikeReapply n ok ecc s) := by
  unfold execDikeReapply
  repeat'
    first
    | with_reducible apply Within.refl
    | with_reducible assumption
    | with_reducible apply WithinO.next
    | with_reducible apply WithinO.fault
    | (with_reducible apply Within.via (l := 2267742864474) (m := 2267742864474) (hm := by decide)); (case h => with_reducible apply State.dikeStart_within)
    | with_reducible refine State.runOp_via (by decide) ?_ (fun _ _ _ => ?_)
    | split

theorem execDikeUnbind_within (n : Fin 64) (sig : Option (List Byte)) (s : State) :
    WithinO 68719477840 s (execDikeUnbind n sig s) := by
  unfold execDikeUnbind
  repeat'
    first
    | with_reducible apply Within.refl
    | with_reducible assumption
    | with_reducible apply WithinO.next
    | with_reducible apply WithinO.fault
    | (with_reducible apply Within.via (l := 68719477840) (m := 68719476736) (hm := by decide)); (case h => with_reducible apply State.addOp_within)
    | (with_reducible apply Within.via (l := 68719477840) (m := 1040) (hm := by decide)); (case h => with_reducible apply State.complete_within)
    | with_reducible refine State.runOp_via (by decide) ?_ (fun _ _ _ => ?_)
    | split

theorem State.dikeFail_within (s : State) (o : KeyOp) (code : Nat) :
    Within 68719608856 s (State.dikeFail s o code) := by
  unfold State.dikeFail
  repeat'
    first
    | with_reducible apply Within.refl
    | with_reducible assumption
    | (extract_lets +onlyGivenNames x; refine Within.cut (l := 68719608856) (r := s) (x := x) ?_ ?_; rotate_left; (try clear_value x); intro _; rotate_right; subst x)
    | (extract_lets +onlyGivenNames x; try clear_value x)
    | (with_reducible apply Within.via (l := 68719608856) (m := 132120) (hm := by decide)); (case h => with_reducible apply State.dikeDrop_within)
    | (with_reducible apply Within.via (l := 68719608856) (m := 68719477776) (hm := by decide)); (case h => with_reducible apply State.opDone_within)
    | split

theorem State.dikeEnqueue_within (s : State) (o : KeyOp) (fetch : Nat) :
    Within 68719641626 s (State.dikeEnqueue s o fetch) := by
  unfold State.dikeEnqueue
  repeat'
    first
    | with_reducible apply Within.refl
    | with_reducible assumption
    | (extract_lets +onlyGivenNames x; refine Within.cut (l := 68719641626) (r := s) (x := x) ?_ ?_; rotate_left; (try clear_value x); intro _; rotate_right; subst x)
    | (extract_lets +onlyGivenNames x; try clear_value x)
    | (with_reducible apply Within.via (l := 68719641626) (m := 132120) (hm := by decide)); (case h => with_reducible apply State.dikeDrop_within)
    | (with_reducible apply Within.via (l := 68719641626) (m := 68719476736) (hm := by decide)); (case h => with_reducible apply State.dropOp_within)
    | (with_reducible apply Within.via (l := 68719641626) (m := 1040) (hm := by decide)); (case h => with_reducible apply State.endOp_within)
    | (with_reducible apply Within.via (l := 68719641626) (m := 163850) (hm := by decide)); (case h => with_reducible apply State.enqueue_within)
    | split

theorem State.dikeFinish_within (s : State) (o : KeyOp) :
    Within 208314467354 s (State.dikeFinish s o) := by
  unfold State.dikeFinish
  repeat'
    first
    | with_reducible apply Within.refl
    | with_reducible assumption
    | (extract_lets +onlyGivenNames x; refine Within.cut (l := 208314467354) (r := s) (x := x) ?_ ?_; rotate_left; (try clear_value x); intro _; rotate_right; subst x)
    | (extract_lets +onlyGivenNames x; refine Within.cut2 (l := 208314467354) (r := s) (x := x) ?_ ?_; rotate_left; (try clear_value x); intro _; rotate_right; subst x)
    | (extract_lets +onlyGivenNames x; refine Within.cut1 (l := 208314467354) (r := s) (x := x) ?_ ?_; rotate_left; (try clear_value x); intro _; rotate_right; subst x)
    | (extract_lets +onlyGivenNames x; try clear_value x)
    | (with_reducible apply Within2.snd; with_reducible assumption)
    | (with_reducible apply Within1.fst; with_reducible assumption)
    | with_reducible apply Within2.mk
    | with_reducible apply Within1.mk
    | with_reducible refine Within2.fold ?_ (fun _ _ _ => ?_)
    | with_reducible refine Within1.fold ?_ (fun _ _ _ => ?_)
    | (with_reducible apply State.updCoc_via (l := 208314467354) (hm := by decide))
    | (with_reducible apply Within.via (l := 208314467354) (m := 68719641626) (hm := by decide)); (case h => with_reducible apply State.dikeEnqueue_within)
    | (with_reducible apply Within.via (l := 208314467354) (m := 68719608856) (hm := by decide)); (case h => with_reducible apply State.dikeFail_within)
    | (with_reducible apply Within2.via (l := 208314467354) (m := 8388618) (hm := by decide)); (case h => with_reducible apply State.leaveAsk_within)
    | (with_reducible apply Within.via (l := 208314467354) (m := 8388618) (hm := by decide)); (case h => with_reducible apply State.leaveAsk_within)
    | (with_reducible apply Within.via (l := 208314467354) (m := 8388618) (hm := by decide)); (case h => (with_reducible apply Within2.ofEq (State.leaveAsk_within _ _ _ _)); with_reducible assumption)
    | (with_reducible apply Within.via (l := 208314467354) (m := 137438953472) (hm := by decide)); (case h => with_reducible apply State.nvQueue_within)
    | (with_reducible apply Within.via (l := 208314467354) (m := 2147483648) (hm := by decide)); (case h => with_reducible apply State.setDike_within)
    | split
    | dsimp only
    | (with_reducible refine Within2.ofEq' ?_ (by assumption))

theorem State.dikeCounted_within (s : State) (o : KeyOp) (ok : Bool) :
    Within 206166951002 s (State.dikeCounted s o ok) := by
  unfold State.dikeCounted
  repeat'
    first
    | with_reducible apply Within.refl
    | with_reducible assumption
    | (extract_lets +onlyGivenNames x; refine Within.cut (l := 206166951002) (r := s) (x := x) ?_ ?_; rotate_left; (try clear_value x); intro _; rotate_right; subst x)
    | (extract_lets +onlyGivenNames x; try clear_value x)
    | (with_reducible apply Within.via (l := 206166951002) (m := 68719608856) (hm := by decide)); (case h => with_reducible apply State.dikeFail_within)
    | (with_reducible apply Within.via (l := 206166951002) (m := 8388682) (hm := by decide)); (case h => with_reducible apply State.leaveRet_within)
    | (with_reducible apply Within.via (l := 206166951002) (m := 137438953472) (hm := by decide)); (case h => with_reducible apply State.nvQueue_within)
    | (with_reducible apply Within.via (l := 206166951002) (m := 68719476736) (hm := by decide)); (case h => with_reducible apply State.opPhase_within)
    | split

theorem State.dikeStored_within (s : State) (o : KeyOp) (ok : Bool) :
    Within 70875513946 s (State.dikeStored s o ok) := by
  unfold State.dikeStored
  repeat'
    first
    | with_reducible apply Within.refl
    | with_reducible assumption
    | (extract_lets +onlyGivenNames x; refine Within.cut (l := 70875513946) (r := s) (x := x) ?_ ?_; rotate_left; (try clear_value x); intro _; rotate_right; subst x)
    | (extract_lets +onlyGivenNames x; try clear_value x)
    | (with_reducible apply Within.via (l := 70875513946) (m := 68719641626) (hm := by decide)); (case h => with_reducible apply State.dikeEnqueue_within)
    | (with_reducible apply Within.via (l := 70875513946) (m := 68719608856) (hm := by decide)); (case h => with_reducible apply State.dikeFail_within)
    | (with_reducible apply Within.via (l := 70875513946) (m := 8388682) (hm := by decide)); (case h => with_reducible apply State.leaveRet_within)
    | (with_reducible apply Within.via (l := 70875513946) (m := 68719477776) (hm := by decide)); (case h => with_reducible apply State.opDone_within)
    | (with_reducible apply Within.via (l := 70875513946) (m := 2147483648) (hm := by decide)); (case h => with_reducible apply State.setDike_within)
    | split

end Sys2Proof.Machine
end

