-- ==== Sys2Proof/Laws/FrameFlipExec.lean ====
section
/-!
SUPPORT. Laws/FrameFlipExec.lean: what each function of Machine/FlipExec.lean can touch.
-/
set_option linter.unusedTactic false
set_option linter.unreachableTactic false
set_option linter.tactic.unusedName false

namespace Sys2Proof.Machine

theorem State.flip_within (s : State) (h : Nat) (seen : FlipSeen) :
    Within 19136243537626 s (State.flip s h seen) := by
  unfold State.flip
  repeat'
    first
    | with_reducible apply Within.refl
    | with_reducible assumption
    | (extract_lets +onlyGivenNames x; refine Within.cut (l := 19136243537626) (r := s) (x := x) ?_ ?_; rotate_left; (try clear_value x); intro _; rotate_right; subst x)
    | (extract_lets +onlyGivenNames x; refine Within.cut2 (l := 19136243537626) (r := s) (x := x) ?_ ?_; rotate_left; (try clear_value x); intro _; rotate_right; subst x)
    | (extract_lets +onlyGivenNames x; refine Within.cut1 (l := 19136243537626) (r := s) (x := x) ?_ ?_; rotate_left; (try clear_value x); intro _; rotate_right; subst x)
    | (extract_lets +onlyGivenNames x; try clear_value x)
    | (with_reducible apply Within2.snd; with_reducible assumption)
    | (with_reducible apply Within1.fst; with_reducible assumption)
    | with_reducible apply Within2.mk
    | with_reducible apply Within1.mk
    | with_reducible refine Within2.fold ?_ (fun _ _ _ => ?_)
    | with_reducible refine Within1.fold ?_ (fun _ _ _ => ?_)
    | (with_reducible apply Within.via (l := 19136243537626) (m := 8589935296) (hm := by decide)); (case h => with_reducible apply State.appendAll_within)
    | (with_reducible apply Within.via (l := 19136243537626) (m := 17179869258) (hm := by decide)); (case h => with_reducible apply State.audioFlip_within)
    | (with_reducible apply Within.via (l := 19136243537626) (m := 787472) (hm := by decide)); (case h => with_reducible apply State.colourFlip_within)
    | (with_reducible apply Within.via (l := 19136243537626) (m := 787472) (hm := by decide)); (case h => with_reducible apply State.colourIdle_within)
    | (with_reducible apply Within2.via (l := 19136243537626) (m := 18998800389210) (hm := by decide)); (case h => with_reducible apply State.flipHead_within)
    | (with_reducible apply Within.via (l := 19136243537626) (m := 18998800389210) (hm := by decide)); (case h => with_reducible apply State.flipHead_within)
    | (with_reducible apply Within.via (l := 19136243537626) (m := 18998800389210) (hm := by decide)); (case h => (with_reducible apply Within2.ofEq (State.flipHead_within _ _ _)); with_reducible assumption)
    | (with_reducible apply Within.via (l := 19136243537626) (m := 137438953472) (hm := by decide)); (case h => with_reducible apply State.nvTouch_within)
    | (with_reducible apply Within.via (l := 19136243537626) (m := 4195018) (hm := by decide)); (case h => with_reducible apply State.pushAbortHead_within)
    | (with_reducible apply Within.via (l := 19136243537626) (m := 4194506) (hm := by decide)); (case h => with_reducible apply State.pushPeriod_within)
    | (with_reducible apply Within.via (l := 19136243537626) (m := 66) (hm := by decide)); (case h => with_reducible apply State.quietCheck_within)
    | (with_reducible apply Within.via (l := 19136243537626) (m := 8589935632) (hm := by decide)); (case h => with_reducible apply State.sealHeadStop_within)
    | split
    | dsimp only
    | (with_reducible refine Within2.ofEq' ?_ (by assumption))

theorem execIpSendPacket_within (k : Fin 128) (s : State) :
    WithinO 2105346 s (execIpSendPacket k s) := by
  unfold execIpSendPacket
  repeat'
    first
    | with_reducible apply Within.refl
    | with_reducible assumption
    | (extract_lets +onlyGivenNames x; refine Within.cut (l := 2105346) (r := s) (x := x) ?_ ?_; rotate_left; (try clear_value x); intro _; rotate_right; subst x)
    | (extract_lets +onlyGivenNames x; try clear_value x)
    | with_reducible apply WithinO.next
    | with_reducible apply WithinO.fault
    | (with_reducible apply State.updIng_via (m := 8192) (l := 2105346) (hm := by decide)); (case hsources => exact (fun _ _ => rfl)); (case hflows => exact (fun h => absurd h (by decide))); (case higmp => exact (fun _ _ => rfl))
    | (with_reducible apply Within.via (l := 2105346) (m := 2097152) (hm := by decide)); (case h => with_reducible apply State.setDest_within)
    | (with_reducible apply Within.via (l := 2105346) (m := 2) (hm := by decide)); (case h => with_reducible apply State.wr_within)
    | split

end Sys2Proof.Machine
end

