-- ==== Sys2Proof/Laws/FrameNvEnd.lean ====
section
/-!
SUPPORT. Laws/FrameNvEnd.lean: what each function of Machine/NvEnd.lean can touch.
-/
set_option linter.unusedTactic false
set_option linter.unreachableTactic false
set_option linter.tactic.unusedName false

namespace Sys2Proof.Machine

theorem State.chainsSaved_within (s : State) (p : Nat) :
    Within 8589934592 s (State.chainsSaved s p) := by
  unfold State.chainsSaved
  repeat'
    first
    | with_reducible apply Within.refl
    | with_reducible assumption
    | (extract_lets +onlyGivenNames x; refine Within.cut (l := 8589934592) (r := s) (x := x) ?_ ?_; rotate_left; (try clear_value x); intro _; rotate_right; subst x)
    | (extract_lets +onlyGivenNames x; try clear_value x)
    | ((with_reducible apply Within.fold); (rotate_left; intro _ _ _; rotate_right))
    | (with_reducible apply Within.via (l := 8589934592) (m := 8589934592) (hm := by decide)); (case h => with_reducible apply State.updChain_within)
    | split

theorem execPacedWrite_within (s : State) :
    WithinO 146028888064 s (execPacedWrite s) := by
  unfold execPacedWrite
  repeat'
    first
    | with_reducible apply Within.refl
    | with_reducible assumption
    | (extract_lets +onlyGivenNames x; refine Within.cut (l := 146028888064) (r := s) (x := x) ?_ ?_; rotate_left; (try clear_value x); intro _; rotate_right; subst x)
    | (extract_lets +onlyGivenNames x; try clear_value x)
    | with_reducible apply WithinO.next
    | with_reducible apply WithinO.fault
    | (with_reducible apply State.updNv_via (l := 146028888064) (hm := by decide))
    | (with_reducible apply Within.via (l := 146028888064) (m := 8589934592) (hm := by decide)); (case h => with_reducible apply State.chainsSaved_within)
    | (with_reducible apply Within.via (l := 146028888064) (m := 137438953472) (hm := by decide)); (case h => with_reducible apply State.nvQueue_within)
    | split

theorem State.nvFlush_within (s : State) :
    Within 146028888064 s (State.nvFlush s) := by
  unfold State.nvFlush
  repeat'
    first
    | with_reducible apply Within.refl
    | with_reducible assumption
    | (extract_lets +onlyGivenNames x; refine Within.cut (l := 146028888064) (r := s) (x := x) ?_ ?_; rotate_left; (try clear_value x); intro _; rotate_right; subst x)
    | (extract_lets +onlyGivenNames x; try clear_value x)
    | ((with_reducible apply Within.fold); (rotate_left; intro _ _ _; rotate_right))
    | (with_reducible apply State.updNv_via (l := 146028888064) (hm := by decide))
    | (with_reducible apply Within.via (l := 146028888064) (m := 8589934592) (hm := by decide)); (case h => with_reducible apply State.chainsSaved_within)
    | (with_reducible apply Within.via (l := 146028888064) (m := 137438953472) (hm := by decide)); (case h => with_reducible apply State.nvAppend_within)
    | (with_reducible apply Within.via (l := 146028888064) (m := 137438953472) (hm := by decide)); (case h => with_reducible apply State.nvKick_within)
    | (with_reducible apply Within.via (l := 146028888064) (m := 137438953472) (hm := by decide)); (case h => with_reducible apply State.setNvPage_within)
    | split

theorem State.nvResult_within (s : State) (r : Option NvResult) :
    Within 208314467418 s (State.nvResult s r) := by
  unfold State.nvResult
  repeat'
    first
    | with_reducible apply Within.refl
    | with_reducible assumption
    | (with_reducible apply State.updNv_via (l := 208314467418) (hm := by decide))
    | (with_reducible apply Within.via (l := 208314467418) (m := 1040) (hm := by decide)); (case h => with_reducible apply State.completeAt_within)
    | (with_reducible apply Within.via (l := 208314467418) (m := 206166951002) (hm := by decide)); (case h => with_reducible apply State.dikeCounted_within)
    | (with_reducible apply Within.via (l := 208314467418) (m := 70875513946) (hm := by decide)); (case h => with_reducible apply State.dikeStored_within)
    | (with_reducible apply Within.via (l := 208314467418) (m := 68719477776) (hm := by decide)); (case h => with_reducible apply State.keyCounted_within)
    | (with_reducible apply Within.via (l := 208314467418) (m := 68719477776) (hm := by decide)); (case h => with_reducible apply State.keyStored_within)
    | (with_reducible apply Within.via (l := 208314467418) (m := 137438953472) (hm := by decide)); (case h => with_reducible apply State.nvTouch_within)
    | split

theorem execNvRecordAck_within (ok : Bool) (s : State) :
    WithinO 208314467418 s (execNvRecordAck ok s) := by
  unfold execNvRecordAck
  repeat'
    first
    | with_reducible apply Within.refl
    | with_reducible assumption
    | (extract_lets +onlyGivenNames x; refine Within.cut (l := 208314467418) (r := s) (x := x) ?_ ?_; rotate_left; (try clear_value x); intro _; rotate_right; subst x)
    | (extract_lets +onlyGivenNames x; refine Within.cut2 (l := 208314467418) (r := s) (x := x) ?_ ?_; rotate_left; (try clear_value x); intro _; rotate_right; subst x)
    | (extract_lets +onlyGivenNames x; refine Within.cut1 (l := 208314467418) (r := s) (x := x) ?_ ?_; rotate_left; (try clear_value x); intro _; rotate_right; subst x)
    | (extract_lets +onlyGivenNames x; try clear_value x)
    | (with_reducible apply Within2.snd; with_reducible assumption)
    | (with_reducible apply Within1.fst; with_reducible assumption)
    | with_reducible apply Within2.mk
    | with_reducible apply Within1.mk
    | with_reducible refine Within2.fold ?_ (fun _ _ _ => ?_)
    | with_reducible refine Within1.fold ?_ (fun _ _ _ => ?_)
    | with_reducible apply WithinO.next
    | with_reducible apply WithinO.fault
    | (with_reducible apply Within2.via (l := 208314467418) (m := 137438953538) (hm := by decide)); (case h => with_reducible apply State.nvPageEnd_within)
    | (with_reducible apply Within.via (l := 208314467418) (m := 137438953538) (hm := by decide)); (case h => with_reducible apply State.nvPageEnd_within)
    | (with_reducible apply Within.via (l := 208314467418) (m := 137438953538) (hm := by decide)); (case h => (with_reducible apply Within2.ofEq (State.nvPageEnd_within _ _ _)); with_reducible assumption)
    | (with_reducible apply Within.via (l := 208314467418) (m := 208314467418) (hm := by decide)); (case h => with_reducible apply State.nvResult_within)
    | split
    | dsimp only
    | (with_reducible refine Within2.ofEq' ?_ (by assumption))

theorem execNvCellAck_within (ok : Bool) (s : State) :
    WithinO 208314467418 s (execNvCellAck ok s) := by
  unfold execNvCellAck
  repeat'
    first
    | with_reducible apply Within.refl
    | with_reducible assumption
    | (extract_lets +onlyGivenNames x; refine Within.cut (l := 208314467418) (r := s) (x := x) ?_ ?_; rotate_left; (try clear_value x); intro _; rotate_right; subst x)
    | (extract_lets +onlyGivenNames x; refine Within.cut2 (l := 208314467418) (r := s) (x := x) ?_ ?_; rotate_left; (try clear_value x); intro _; rotate_right; subst x)
    | (extract_lets +onlyGivenNames x; refine Within.cut1 (l := 208314467418) (r := s) (x := x) ?_ ?_; rotate_left; (try clear_value x); intro _; rotate_right; subst x)
    | (extract_lets +onlyGivenNames x; try clear_value x)
    | (with_reducible apply Within2.snd; with_reducible assumption)
    | (with_reducible apply Within1.fst; with_reducible assumption)
    | with_reducible apply Within2.mk
    | with_reducible apply Within1.mk
    | with_reducible refine Within2.fold ?_ (fun _ _ _ => ?_)
    | with_reducible refine Within1.fold ?_ (fun _ _ _ => ?_)
    | with_reducible apply WithinO.next
    | with_reducible apply WithinO.fault
    | (with_reducible apply Within2.via (l := 208314467418) (m := 137438953538) (hm := by decide)); (case h => with_reducible apply State.nvCellEnd_within)
    | (with_reducible apply Within.via (l := 208314467418) (m := 137438953538) (hm := by decide)); (case h => with_reducible apply State.nvCellEnd_within)
    | (with_reducible apply Within.via (l := 208314467418) (m := 137438953538) (hm := by decide)); (case h => (with_reducible apply Within2.ofEq (State.nvCellEnd_within _ _ _)); with_reducible assumption)
    | (with_reducible apply Within.via (l := 208314467418) (m := 208314467418) (hm := by decide)); (case h => with_reducible apply State.nvResult_within)
    | split
    | dsimp only
    | (with_reducible refine Within2.ofEq' ?_ (by assumption))

theorem State.nvDead_within (s : State) :
    Within 208314467418 s (State.nvDead s) := by
  unfold State.nvDead
  repeat'
    first
    | with_reducible apply Within.refl
    | with_reducible assumption
    | (extract_lets +onlyGivenNames x; refine Within.cut (l := 208314467418) (r := s) (x := x) ?_ ?_; rotate_left; (try clear_value x); intro _; rotate_right; subst x)
    | (extract_lets +onlyGivenNames x; try clear_value x)
    | ((with_reducible apply Within.fold); (rotate_left; intro _ _ _; rotate_right))
    | (with_reducible apply State.updNv_via (l := 208314467418) (hm := by decide))
    | (with_reducible apply Within.via (l := 208314467418) (m := 208314467418) (hm := by decide)); (case h => with_reducible apply State.nvResult_within)
    | split

theorem execFlashTimeout_within (answers : Bool) (s : State) :
    WithinO 208314467418 s (execFlashTimeout answers s) := by
  unfold execFlashTimeout
  repeat'
    first
    | with_reducible apply Within.refl
    | with_reducible assumption
    | (extract_lets +onlyGivenNames x; refine Within.cut (l := 208314467418) (r := s) (x := x) ?_ ?_; rotate_left; (try clear_value x); intro _; rotate_right; subst x)
    | (extract_lets +onlyGivenNames x; refine Within.cut2 (l := 208314467418) (r := s) (x := x) ?_ ?_; rotate_left; (try clear_value x); intro _; rotate_right; subst x)
    | (extract_lets +onlyGivenNames x; refine Within.cut1 (l := 208314467418) (r := s) (x := x) ?_ ?_; rotate_left; (try clear_value x); intro _; rotate_right; subst x)
    | (extract_lets +onlyGivenNames x; try clear_value x)
    | (with_reducible apply Within2.snd; with_reducible assumption)
    | (with_reducible apply Within1.fst; with_reducible assumption)
    | with_reducible apply Within2.mk
    | with_reducible apply Within1.mk
    | with_reducible refine Within2.fold ?_ (fun _ _ _ => ?_)
    | with_reducible refine Within1.fold ?_ (fun _ _ _ => ?_)
    | with_reducible apply WithinO.next
    | with_reducible apply WithinO.fault
    | (with_reducible apply Within.via (l := 208314467418) (m := 137438953538) (hm := by decide)); (case h => with_reducible apply State.eraseEnd_within)
    | (with_reducible apply Within2.via (l := 208314467418) (m := 137438953538) (hm := by decide)); (case h => with_reducible apply State.nvCellEnd_within)
    | (with_reducible apply Within.via (l := 208314467418) (m := 137438953538) (hm := by decide)); (case h => with_reducible apply State.nvCellEnd_within)
    | (with_reducible apply Within.via (l := 208314467418) (m := 137438953538) (hm := by decide)); (case h => (with_reducible apply Within2.ofEq (State.nvCellEnd_within _ _ _)); with_reducible assumption)
    | (with_reducible apply Within.via (l := 208314467418) (m := 208314467418) (hm := by decide)); (case h => with_reducible apply State.nvDead_within)
    | (with_reducible apply Within2.via (l := 208314467418) (m := 137438953538) (hm := by decide)); (case h => with_reducible apply State.nvPageEnd_within)
    | (with_reducible apply Within.via (l := 208314467418) (m := 137438953538) (hm := by decide)); (case h => with_reducible apply State.nvPageEnd_within)
    | (with_reducible apply Within.via (l := 208314467418) (m := 137438953538) (hm := by decide)); (case h => (with_reducible apply Within2.ofEq (State.nvPageEnd_within _ _ _)); with_reducible assumption)
    | (with_reducible apply Within.via (l := 208314467418) (m := 208314467418) (hm := by decide)); (case h => with_reducible apply State.nvResult_within)
    | split
    | dsimp only
    | (with_reducible refine Within2.ofEq' ?_ (by assumption))

theorem execHoldupReady_within (mj : Fin 4096) (s : State) :
    WithinO 137438953472 s (execHoldupReady mj s) := by
  unfold execHoldupReady
  repeat'
    first
    | with_reducible apply Within.refl
    | with_reducible assumption
    | with_reducible apply WithinO.next
    | with_reducible apply WithinO.fault
    | (with_reducible apply State.updNv_via (l := 137438953472) (hm := by decide))
    | (with_reducible apply Within.via (l := 137438953472) (m := 137438953472) (hm := by decide)); (case h => with_reducible apply State.nvKick_within)
    | split

theorem State.eraseSecrets_within (s : State) :
    Within 137438953472 s (State.eraseSecrets s) := by
  unfold State.eraseSecrets
  repeat'
    first
    | with_reducible apply Within.refl
    | with_reducible assumption
    | ((with_reducible apply Within.fold); (rotate_left; intro _ _ _; rotate_right))
    | (with_reducible apply Within.via (l := 137438953472) (m := 137438953472) (hm := by decide)); (case h => with_reducible apply State.nvQueue_within)
    | split

theorem State.loadChains_within (s : State) :
    Within 8589934592 s (State.loadChains s) := by
  unfold State.loadChains
  repeat'
    first
    | with_reducible apply Within.refl
    | with_reducible assumption
    | ((with_reducible apply Within.fold); (rotate_left; intro _ _ _; rotate_right))
    | (with_reducible apply Within.via (l := 8589934592) (m := 8589934592) (hm := by decide)); (case h => with_reducible apply State.setChain_within)
    | split

theorem State.freshChains_within (s : State) :
    Within 8589934592 s (State.freshChains s) := by
  unfold State.freshChains
  repeat'
    first
    | with_reducible apply Within.refl
    | with_reducible assumption
    | ((with_reducible apply Within.fold); (rotate_left; intro _ _ _; rotate_right))
    | (with_reducible apply Within.via (l := 8589934592) (m := 8589934592) (hm := by decide)); (case h => with_reducible apply State.setChain_within)
    | split

theorem State.loadDikes_within (s : State) :
    Within 2147483648 s (State.loadDikes s) := by
  unfold State.loadDikes
  repeat'
    first
    | with_reducible apply Within.refl
    | with_reducible assumption
    | ((with_reducible apply Within.fold); (rotate_left; intro _ _ _; rotate_right))
    | (with_reducible apply Within.via (l := 2147483648) (m := 2147483648) (hm := by decide)); (case h => with_reducible apply State.setDike_within)
    | split

theorem State.loadKeys_within (s : State) :
    Within 70866960384 s (State.loadKeys s) := by
  unfold State.loadKeys
  repeat'
    first
    | with_reducible apply Within.refl
    | with_reducible assumption
    | (extract_lets +onlyGivenNames x; refine Within.cut (l := 70866960384) (r := s) (x := x) ?_ ?_; rotate_left; (try clear_value x); intro _; rotate_right; subst x)
    | (extract_lets +onlyGivenNames x; try clear_value x)
    | ((with_reducible apply Within.fold); (rotate_left; intro _ _ _; rotate_right))
    | (with_reducible apply State.updPsn_via (m := 2147483648) (l := 70866960384) (hm := by decide)); (case hdikes => exact (fun h => absurd h (by decide))); (case hpinSense => exact (fun _ _ => rfl)); (case hseals => exact (fun _ _ => rfl))
    | (with_reducible apply State.updCoc_via (l := 70866960384) (hm := by decide))
    | (with_reducible apply Within.via (l := 70866960384) (m := 68719476736) (hm := by decide)); (case h => with_reducible apply State.setKey_within)
    | split

theorem execRecallDone_within (ms : Nat) (s : State) :
    WithinO 491773755458 s (execRecallDone ms s) := by
  unfold execRecallDone
  repeat'
    first
    | with_reducible apply Within.refl
    | with_reducible assumption
    | (extract_lets +onlyGivenNames x; refine Within.cut (l := 491773755458) (r := s) (x := x) ?_ ?_; rotate_left; (try clear_value x); intro _; rotate_right; subst x)
    | (extract_lets +onlyGivenNames x; try clear_value x)
    | with_reducible apply WithinO.next
    | with_reducible apply WithinO.fault
    | (with_reducible apply State.updNv_via (l := 491773755458) (hm := by decide))
    | (with_reducible apply State.updRest_via (l := 491773755458) (hm := by decide))
    | (with_reducible apply Within.via (l := 491773755458) (m := 137438953472) (hm := by decide)); (case h => with_reducible apply State.eraseSecrets_within)
    | (with_reducible apply Within.via (l := 491773755458) (m := 8589934592) (hm := by decide)); (case h => with_reducible apply State.freshChains_within)
    | (with_reducible apply Within.via (l := 491773755458) (m := 8589934592) (hm := by decide)); (case h => with_reducible apply State.loadChains_within)
    | (with_reducible apply Within.via (l := 491773755458) (m := 2147483648) (hm := by decide)); (case h => with_reducible apply State.loadDikes_within)
    | (with_reducible apply Within.via (l := 491773755458) (m := 70866960384) (hm := by decide)); (case h => with_reducible apply State.loadKeys_within)
    | (with_reducible apply Within.via (l := 491773755458) (m := 137438953472) (hm := by decide)); (case h => with_reducible apply State.nvKick_within)
    | (with_reducible apply Within.via (l := 491773755458) (m := 66) (hm := by decide)); (case h => with_reducible apply State.nvRaise_within)
    | split

theorem execKeyOperationEnd_within (n : Fin 64) (ok : Bool) (s : State) :
    WithinO 216904402138 s (execKeyOperationEnd n ok s) := by
  unfold execKeyOperationEnd
  repeat'
    first
    | with_reducible apply Within.refl
    | with_reducible assumption
    | with_reducible apply WithinO.next
    | with_reducible apply WithinO.fault
    | (with_reducible apply Within.via (l := 216904402138) (m := 208314467354) (hm := by decide)); (case h => with_reducible apply State.dikeFinish_within)
    | (with_reducible apply Within.via (l := 216904402138) (m := 214748366034) (hm := by decide)); (case h => with_reducible apply State.keyFinish_within)
    | split

end Sys2Proof.Machine
end

