-- ==== Sys2Proof/Laws/FrameFlows.lean ====
section
/-!
SUPPORT. Laws/FrameFlows.lean: what each function of Machine/Flows.lean can touch.
-/
set_option linter.unusedTactic false
set_option linter.unreachableTactic false
set_option linter.tactic.unusedName false

namespace Sys2Proof.Machine

theorem State.igmpSend_within (s : State) (l : List IgmpReport) :
    Within 16384 s (State.igmpSend s l) := by
  unfold State.igmpSend
  repeat'
    first
    | with_reducible apply Within.refl
    | with_reducible assumption
    | (with_reducible apply State.updIng_via (m := 16384) (l := 16384) (hm := by decide)); (case hsources => exact (fun _ _ => rfl)); (case hflows => exact (fun _ _ => rfl)); (case higmp => exact (fun h => absurd h (by decide)))
    | split

theorem State.igmpChange_within (s : State) (l : List IgmpReport) :
    Within 16384 s (State.igmpChange s l) := by
  unfold State.igmpChange
  repeat'
    first
    | with_reducible apply Within.refl
    | with_reducible assumption
    | (extract_lets +onlyGivenNames x; refine Within.cut (l := 16384) (r := s) (x := x) ?_ ?_; rotate_left; (try clear_value x); intro _; rotate_right; subst x)
    | (extract_lets +onlyGivenNames x; try clear_value x)
    | (with_reducible apply State.updIng_via (m := 16384) (l := 16384) (hm := by decide)); (case hsources => exact (fun _ _ => rfl)); (case hflows => exact (fun _ _ => rfl)); (case higmp => exact (fun h => absurd h (by decide)))
    | (with_reducible apply Within.via (l := 16384) (m := 16384) (hm := by decide)); (case h => with_reducible apply State.igmpSend_within)
    | split

theorem State.setFlows_within (s : State) (fl : List Flow) :
    Within 24576 s (State.setFlows s fl) := by
  unfold State.setFlows
  repeat'
    first
    | with_reducible apply Within.refl
    | with_reducible assumption
    | (extract_lets +onlyGivenNames x; refine Within.cut (l := 24576) (r := s) (x := x) ?_ ?_; rotate_left; (try clear_value x); intro _; rotate_right; subst x)
    | (extract_lets +onlyGivenNames x; try clear_value x)
    | (with_reducible apply State.updIng_via (m := 8192) (l := 24576) (hm := by decide)); (case hsources => exact (fun _ _ => rfl)); (case hflows => exact (fun h => absurd h (by decide))); (case higmp => exact (fun _ _ => rfl))
    | (with_reducible apply Within.via (l := 24576) (m := 16384) (hm := by decide)); (case h => with_reducible apply State.igmpChange_within)
    | split

theorem execIgmpQuery_within (port : Fin 2) (sub : Fin 8) (tagged : Bool) (vid : BitVec 12) (version : Fin 4) (group : BitVec 32) (srcs : List (BitVec 32)) (s : State) :
    WithinO 16384 s (execIgmpQuery port sub tagged vid version group srcs s) := by
  unfold execIgmpQuery
  repeat'
    first
    | with_reducible apply Within.refl
    | with_reducible assumption
    | (extract_lets +onlyGivenNames x; refine Within.cut (l := 16384) (r := s) (x := x) ?_ ?_; rotate_left; (try clear_value x); intro _; rotate_right; subst x)
    | (extract_lets +onlyGivenNames x; try clear_value x)
    | with_reducible apply WithinO.next
    | with_reducible apply WithinO.fault
    | (with_reducible apply State.updIng_via (m := 16384) (l := 16384) (hm := by decide)); (case hsources => exact (fun _ _ => rfl)); (case hflows => exact (fun _ _ => rfl)); (case higmp => exact (fun h => absurd h (by decide)))
    | (with_reducible apply Within.via (l := 16384) (m := 16384) (hm := by decide)); (case h => with_reducible apply State.igmpSend_within)
    | split

theorem execIgmpReportRepeat_within (s : State) :
    WithinO 16384 s (execIgmpReportRepeat s) := by
  unfold execIgmpReportRepeat
  repeat'
    first
    | with_reducible apply Within.refl
    | with_reducible assumption
    | (extract_lets +onlyGivenNames x; refine Within.cut (l := 16384) (r := s) (x := x) ?_ ?_; rotate_left; (try clear_value x); intro _; rotate_right; subst x)
    | (extract_lets +onlyGivenNames x; try clear_value x)
    | with_reducible apply WithinO.next
    | with_reducible apply WithinO.fault
    | (with_reducible apply State.updIng_via (m := 16384) (l := 16384) (hm := by decide)); (case hsources => exact (fun _ _ => rfl)); (case hflows => exact (fun _ _ => rfl)); (case higmp => exact (fun h => absurd h (by decide)))
    | (with_reducible apply Within.via (l := 16384) (m := 16384) (hm := by decide)); (case h => with_reducible apply State.igmpSend_within)
    | split

theorem State.placeFlow_within (s : State) (f : Flow) (tokens : Nat) :
    Within 17181970440 s (State.placeFlow s f tokens) := by
  unfold State.placeFlow
  repeat'
    first
    | with_reducible apply Within.refl
    | with_reducible assumption
    | (with_reducible apply State.updAud_via (l := 17181970440) (hm := by decide))
    | (with_reducible apply Within.via (l := 17181970440) (m := 4104) (hm := by decide)); (case h => with_reducible apply State.replaceRing_within)
    | (with_reducible apply Within.via (l := 17181970440) (m := 17179869184) (hm := by decide)); (case h => with_reducible apply State.setAudGrp_within)
    | (with_reducible apply Within.via (l := 17181970440) (m := 2097152) (hm := by decide)); (case h => with_reducible apply State.updDest_within)
    | (with_reducible apply Within.via (l := 17181970440) (m := 4096) (hm := by decide)); (case h => with_reducible apply State.updSrc_within)
    | split

theorem State.retagTarget_within (s : State) (kind t owner : Nat) :
    Within 61440 s (State.retagTarget s kind t owner) := by
  unfold State.retagTarget
  repeat'
    first
    | with_reducible apply Within.refl
    | with_reducible assumption
    | (extract_lets +onlyGivenNames x; refine Within.cut (l := 61440) (r := s) (x := x) ?_ ?_; rotate_left; (try clear_value x); intro _; rotate_right; subst x)
    | (extract_lets +onlyGivenNames x; try clear_value x)
    | (with_reducible apply Within.via (l := 61440) (m := 24576) (hm := by decide)); (case h => with_reducible apply State.setFlows_within)
    | (with_reducible apply Within.via (l := 61440) (m := 32768) (hm := by decide)); (case h => with_reducible apply State.updHead_within)
    | (with_reducible apply Within.via (l := 61440) (m := 4096) (hm := by decide)); (case h => with_reducible apply State.updSrc_within)
    | split

theorem State.addFlow_within (s : State) (d : List Byte) (owner base tokens : Nat) :
    Within 8950714003464 s (State.addFlow s d owner base tokens).2 := by
  unfold State.addFlow
  show Within2 _ _ _
  repeat'
    first
    | with_reducible apply Within.refl
    | with_reducible assumption
    | (extract_lets +onlyGivenNames x; refine Within.cut (l := 8950714003464) (r := s) (x := x) ?_ ?_; rotate_left; (try clear_value x); intro _; rotate_right; subst x)
    | (extract_lets +onlyGivenNames x; refine Within.cut2 (l := 8950714003464) (r := s) (x := x) ?_ ?_; rotate_left; (try clear_value x); intro _; rotate_right; subst x)
    | (extract_lets +onlyGivenNames x; refine Within.cut1 (l := 8950714003464) (r := s) (x := x) ?_ ?_; rotate_left; (try clear_value x); intro _; rotate_right; subst x)
    | (extract_lets +onlyGivenNames x; try clear_value x)
    | (with_reducible apply Within2.snd; with_reducible assumption)
    | (with_reducible apply Within1.fst; with_reducible assumption)
    | with_reducible apply Within2.mk
    | with_reducible apply Within1.mk
    | with_reducible refine Within2.fold ?_ (fun _ _ _ => ?_)
    | with_reducible refine Within1.fold ?_ (fun _ _ _ => ?_)
    | (with_reducible apply State.updIng_via (m := 8192) (l := 8950714003464) (hm := by decide)); (case hsources => exact (fun _ _ => rfl)); (case hflows => exact (fun h => absurd h (by decide))); (case higmp => exact (fun _ _ => rfl))
    | (with_reducible apply Within2.via (l := 8950714003464) (m := 8796093022208) (hm := by decide)); (case h => with_reducible apply State.fresh_within)
    | (with_reducible apply Within.via (l := 8950714003464) (m := 8796093022208) (hm := by decide)); (case h => with_reducible apply State.fresh_within)
    | (with_reducible apply Within.via (l := 8950714003464) (m := 8796093022208) (hm := by decide)); (case h => (with_reducible apply Within2.ofEq (State.fresh_within _)); with_reducible assumption)
    | (with_reducible apply Within.via (l := 8950714003464) (m := 137438953472) (hm := by decide)); (case h => with_reducible apply State.nvTouch_within)
    | (with_reducible apply Within.via (l := 8950714003464) (m := 17181970440) (hm := by decide)); (case h => with_reducible apply State.placeFlow_within)
    | (with_reducible apply Within.via (l := 8950714003464) (m := 61440) (hm := by decide)); (case h => with_reducible apply State.retagTarget_within)
    | (with_reducible apply Within.via (l := 8950714003464) (m := 24576) (hm := by decide)); (case h => with_reducible apply State.setFlows_within)
    | split
    | dsimp only
    | (with_reducible refine Within2.ofEq' ?_ (by assumption))

theorem execOpFlowAdd_within (n : Fin 64) (s : State) :
    WithinO 8950722393178 s (execOpFlowAdd n s) := by
  unfold execOpFlowAdd
  repeat'
    first
    | with_reducible apply Within.refl
    | with_reducible assumption
    | (extract_lets +onlyGivenNames x; refine Within.cut (l := 8950722393178) (r := s) (x := x) ?_ ?_; rotate_left; (try clear_value x); intro _; rotate_right; subst x)
    | (extract_lets +onlyGivenNames x; refine Within.cut2 (l := 8950722393178) (r := s) (x := x) ?_ ?_; rotate_left; (try clear_value x); intro _; rotate_right; subst x)
    | (extract_lets +onlyGivenNames x; refine Within.cut1 (l := 8950722393178) (r := s) (x := x) ?_ ?_; rotate_left; (try clear_value x); intro _; rotate_right; subst x)
    | (extract_lets +onlyGivenNames x; try clear_value x)
    | (with_reducible apply Within2.snd; with_reducible assumption)
    | (with_reducible apply Within1.fst; with_reducible assumption)
    | with_reducible apply Within2.mk
    | with_reducible apply Within1.mk
    | with_reducible refine Within2.fold ?_ (fun _ _ _ => ?_)
    | with_reducible refine Within1.fold ?_ (fun _ _ _ => ?_)
    | with_reducible apply WithinO.next
    | with_reducible apply WithinO.fault
    | (with_reducible apply Within2.via (l := 8950722393178) (m := 8950714003464) (hm := by decide)); (case h => with_reducible apply State.addFlow_within)
    | (with_reducible apply Within.via (l := 8950722393178) (m := 8950714003464) (hm := by decide)); (case h => with_reducible apply State.addFlow_within)
    | (with_reducible apply Within.via (l := 8950722393178) (m := 8950714003464) (hm := by decide)); (case h => (with_reducible apply Within2.ofEq (State.addFlow_within _ _ _ _ _)); with_reducible assumption)
    | (with_reducible apply Within.via (l := 8950722393178) (m := 1040) (hm := by decide)); (case h => with_reducible apply State.complete_within)
    | (with_reducible apply Within2.via (l := 8950722393178) (m := 8388618) (hm := by decide)); (case h => with_reducible apply State.leaveAsk_within)
    | (with_reducible apply Within.via (l := 8950722393178) (m := 8388618) (hm := by decide)); (case h => with_reducible apply State.leaveAsk_within)
    | (with_reducible apply Within.via (l := 8950722393178) (m := 8388618) (hm := by decide)); (case h => (with_reducible apply Within2.ofEq (State.leaveAsk_within _ _ _ _)); with_reducible assumption)
    | with_reducible refine State.runOp_via (by decide) ?_ (fun _ _ _ => ?_)
    | split
    | dsimp only
    | (with_reducible refine Within2.ofEq' ?_ (by assumption))

theorem State.unflowSource_within (s : State) (n : Nat) :
    Within 4170 s (State.unflowSource s n) := by
  unfold State.unflowSource
  repeat'
    first
    | with_reducible apply Within.refl
    | with_reducible assumption
    | (extract_lets +onlyGivenNames x; refine Within.cut (l := 4170) (r := s) (x := x) ?_ ?_; rotate_left; (try clear_value x); intro _; rotate_right; subst x)
    | (extract_lets +onlyGivenNames x; try clear_value x)
    | (with_reducible apply State.updIng_via (m := 4096) (l := 4170) (hm := by decide)); (case hsources => exact (fun h => absurd h (by decide))); (case hflows => exact (fun _ _ => rfl)); (case higmp => exact (fun _ _ => rfl))
    | (with_reducible apply Within.via (l := 4170) (m := 4170) (hm := by decide)); (case h => with_reducible apply State.abandon_within)
    | (with_reducible apply Within.via (l := 4170) (m := 4096) (hm := by decide)); (case h => with_reducible apply State.updSrc_within)
    | split

theorem State.unflowRx_within (s : State) (t : Nat) :
    Within 17179869258 s (State.unflowRx s t) := by
  unfold State.unflowRx
  repeat'
    first
    | with_reducible apply Within.refl
    | with_reducible assumption
    | (extract_lets +onlyGivenNames x; refine Within.cut (l := 17179869258) (r := s) (x := x) ?_ ?_; rotate_left; (try clear_value x); intro _; rotate_right; subst x)
    | (extract_lets +onlyGivenNames x; try clear_value x)
    | ((with_reducible apply Within.fold); (rotate_left; intro _ _ _; rotate_right))
    | (with_reducible apply State.updAud_via (l := 17179869258) (hm := by decide))
    | (with_reducible apply Within.via (l := 17179869258) (m := 8) (hm := by decide)); (case h => with_reducible apply State.inCount_within)
    | (with_reducible apply Within.via (l := 17179869258) (m := 17179869184) (hm := by decide)); (case h => with_reducible apply State.setAudGrp_within)
    | (with_reducible apply Within.via (l := 17179869258) (m := 17179869184) (hm := by decide)); (case h => with_reducible apply State.setAudIn_within)
    | (with_reducible apply Within.via (l := 17179869258) (m := 17179869258) (hm := by decide)); (case h => with_reducible apply State.srcAssign_within)
    | split

theorem State.unflowTx_within (s : State) (t : Nat) :
    Within 154618822730 s (State.unflowTx s t) := by
  unfold State.unflowTx
  repeat'
    first
    | with_reducible apply Within.refl
    | with_reducible assumption
    | (extract_lets +onlyGivenNames x; refine Within.cut (l := 154618822730) (r := s) (x := x) ?_ ?_; rotate_left; (try clear_value x); intro _; rotate_right; subst x)
    | (extract_lets +onlyGivenNames x; try clear_value x)
    | ((with_reducible apply Within.fold); (rotate_left; intro _ _ _; rotate_right))
    | (with_reducible apply State.updAud_via (l := 154618822730) (hm := by decide))
    | (with_reducible apply Within.via (l := 154618822730) (m := 137438953472) (hm := by decide)); (case h => with_reducible apply State.nvTouch_within)
    | (with_reducible apply Within.via (l := 154618822730) (m := 17179869184) (hm := by decide)); (case h => with_reducible apply State.setAudOut_within)
    | (with_reducible apply Within.via (l := 154618822730) (m := 17179869258) (hm := by decide)); (case h => with_reducible apply State.srcAssign_within)
    | split

theorem State.delFlow_within (s : State) (f : Flow) :
    Within 167505851082 s (State.delFlow s f) := by
  unfold State.delFlow
  repeat'
    first
    | with_reducible apply Within.refl
    | with_reducible assumption
    | (extract_lets +onlyGivenNames x; refine Within.cut (l := 167505851082) (r := s) (x := x) ?_ ?_; rotate_left; (try clear_value x); intro _; rotate_right; subst x)
    | (extract_lets +onlyGivenNames x; try clear_value x)
    | (with_reducible apply Within.via (l := 167505851082) (m := 137438953472) (hm := by decide)); (case h => with_reducible apply State.nvTouch_within)
    | (with_reducible apply Within.via (l := 167505851082) (m := 24576) (hm := by decide)); (case h => with_reducible apply State.setFlows_within)
    | (with_reducible apply Within.via (l := 167505851082) (m := 12886999752) (hm := by decide)); (case h => with_reducible apply State.uncheckDest_within)
    | (with_reducible apply Within.via (l := 167505851082) (m := 17179869258) (hm := by decide)); (case h => with_reducible apply State.unflowRx_within)
    | (with_reducible apply Within.via (l := 167505851082) (m := 4170) (hm := by decide)); (case h => with_reducible apply State.unflowSource_within)
    | (with_reducible apply Within.via (l := 167505851082) (m := 154618822730) (hm := by decide)); (case h => with_reducible apply State.unflowTx_within)
    | (with_reducible apply Within.via (l := 167505851082) (m := 2097152) (hm := by decide)); (case h => with_reducible apply State.updDest_within)
    | split

theorem execOpFlowDel_within (n : Fin 64) (s : State) :
    WithinO 167505852122 s (execOpFlowDel n s) := by
  unfold execOpFlowDel
  repeat'
    first
    | with_reducible apply Within.refl
    | with_reducible assumption
    | with_reducible apply WithinO.next
    | with_reducible apply WithinO.fault
    | (with_reducible apply Within.via (l := 167505852122) (m := 1040) (hm := by decide)); (case h => with_reducible apply State.complete_within)
    | (with_reducible apply Within.via (l := 167505852122) (m := 167505851082) (hm := by decide)); (case h => with_reducible apply State.delFlow_within)
    | with_reducible refine State.runOp_via (by decide) ?_ (fun _ _ _ => ?_)
    | split

theorem State.setRing_within (s : State) (n : Nat) (fixed : Bool) (mode : Nat) :
    Within 4170 s (State.setRing s n fixed mode) := by
  unfold State.setRing
  repeat'
    first
    | with_reducible apply Within.refl
    | with_reducible assumption
    | (extract_lets +onlyGivenNames x; refine Within.cut (l := 4170) (r := s) (x := x) ?_ ?_; rotate_left; (try clear_value x); intro _; rotate_right; subst x)
    | (extract_lets +onlyGivenNames x; try clear_value x)
    | (with_reducible apply Within.via (l := 4170) (m := 4170) (hm := by decide)); (case h => with_reducible apply State.abandon_within)
    | (with_reducible apply Within.via (l := 4170) (m := 4096) (hm := by decide)); (case h => with_reducible apply State.dropWrite_within)
    | (with_reducible apply Within.via (l := 4170) (m := 4104) (hm := by decide)); (case h => with_reducible apply State.replaceRing_within)
    | (with_reducible apply Within.via (l := 4170) (m := 4162) (hm := by decide)); (case h => with_reducible apply State.tooLarge_within)
    | (with_reducible apply Within.via (l := 4170) (m := 4096) (hm := by decide)); (case h => with_reducible apply State.updSrc_within)
    | split

theorem State.setQuad_within (s : State) (n q : Nat) :
    Within 4170 s (State.setQuad s n q) := by
  unfold State.setQuad
  repeat'
    first
    | with_reducible apply Within.refl
    | with_reducible assumption
    | (extract_lets +onlyGivenNames x; refine Within.cut (l := 4170) (r := s) (x := x) ?_ ?_; rotate_left; (try clear_value x); intro _; rotate_right; subst x)
    | (extract_lets +onlyGivenNames x; try clear_value x)
    | (with_reducible apply Within.via (l := 4170) (m := 4170) (hm := by decide)); (case h => with_reducible apply State.quadBreak_within)
    | (with_reducible apply Within.via (l := 4170) (m := 4170) (hm := by decide)); (case h => with_reducible apply State.srcSearch_within)
    | (with_reducible apply Within.via (l := 4170) (m := 4096) (hm := by decide)); (case h => with_reducible apply State.updSrc_within)
    | split

theorem State.setRateLock_within (s : State) (n r : Nat) :
    Within 4170 s (State.setRateLock s n r) := by
  unfold State.setRateLock
  repeat'
    first
    | with_reducible apply Within.refl
    | with_reducible assumption
    | (extract_lets +onlyGivenNames x; refine Within.cut (l := 4170) (r := s) (x := x) ?_ ?_; rotate_left; (try clear_value x); intro _; rotate_right; subst x)
    | (extract_lets +onlyGivenNames x; try clear_value x)
    | (with_reducible apply Within.via (l := 4170) (m := 4170) (hm := by decide)); (case h => with_reducible apply State.cdrLost_within)
    | (with_reducible apply Within.via (l := 4170) (m := 4096) (hm := by decide)); (case h => with_reducible apply State.updSrc_within)
    | split

theorem State.setFallback_within (s : State) (n fb : Nat) (slate : BitVec 32) :
    Within 136216 s (State.setFallback s n fb slate) := by
  unfold State.setFallback
  repeat'
    first
    | with_reducible apply Within.refl
    | with_reducible assumption
    | (extract_lets +onlyGivenNames x; refine Within.cut (l := 136216) (r := s) (x := x) ?_ ?_; rotate_left; (try clear_value x); intro _; rotate_right; subst x)
    | (extract_lets +onlyGivenNames x; try clear_value x)
    | (with_reducible apply Within.via (l := 136216) (m := 132120) (hm := by decide)); (case h => with_reducible apply State.dropRefs_within)
    | (with_reducible apply Within.via (l := 136216) (m := 131080) (hm := by decide)); (case h => with_reducible apply State.takeRefs_within)
    | (with_reducible apply Within.via (l := 136216) (m := 4096) (hm := by decide)); (case h => with_reducible apply State.updSrc_within)
    | split

theorem State.srcSet_within (s : State) (d : List Byte) :
    Within 136282 s (State.srcSet s d) := by
  unfold State.srcSet
  repeat'
    first
    | with_reducible apply Within.refl
    | with_reducible assumption
    | (extract_lets +onlyGivenNames x; refine Within.cut (l := 136282) (r := s) (x := x) ?_ ?_; rotate_left; (try clear_value x); intro _; rotate_right; subst x)
    | (extract_lets +onlyGivenNames x; try clear_value x)
    | (with_reducible apply Within.via (l := 136282) (m := 136216) (hm := by decide)); (case h => with_reducible apply State.setFallback_within)
    | (with_reducible apply Within.via (l := 136282) (m := 4170) (hm := by decide)); (case h => with_reducible apply State.setQuad_within)
    | (with_reducible apply Within.via (l := 136282) (m := 4170) (hm := by decide)); (case h => with_reducible apply State.setRateLock_within)
    | (with_reducible apply Within.via (l := 136282) (m := 4170) (hm := by decide)); (case h => with_reducible apply State.setRing_within)
    | (with_reducible apply Within.via (l := 136282) (m := 4096) (hm := by decide)); (case h => with_reducible apply State.updSrc_within)
    | split

theorem execOpSrcSet_within (n : Fin 64) (s : State) :
    WithinO 137439089754 s (execOpSrcSet n s) := by
  unfold execOpSrcSet
  repeat'
    first
    | with_reducible apply Within.refl
    | with_reducible assumption
    | (extract_lets +onlyGivenNames x; refine Within.cut (l := 137439089754) (r := s) (x := x) ?_ ?_; rotate_left; (try clear_value x); intro _; rotate_right; subst x)
    | (extract_lets +onlyGivenNames x; try clear_value x)
    | with_reducible apply WithinO.next
    | with_reducible apply WithinO.fault
    | (with_reducible apply Within.via (l := 137439089754) (m := 1040) (hm := by decide)); (case h => with_reducible apply State.complete_within)
    | (with_reducible apply Within.via (l := 137439089754) (m := 137438953472) (hm := by decide)); (case h => with_reducible apply State.nvTouch_within)
    | with_reducible refine State.runOp_via (by decide) ?_ (fun _ _ _ => ?_)
    | (with_reducible apply Within.via (l := 137439089754) (m := 136282) (hm := by decide)); (case h => with_reducible apply State.srcSet_within)
    | (with_reducible apply Within.via (l := 137439089754) (m := 4096) (hm := by decide)); (case h => with_reducible apply State.updSrc_within)
    | split

theorem execOpLedgerRead_within (n : Fin 64) (ok : Bool) (s : State) :
    WithinO 1232 s (execOpLedgerRead n ok s) := by
  unfold execOpLedgerRead
  repeat'
    first
    | with_reducible apply Within.refl
    | with_reducible assumption
    | (extract_lets +onlyGivenNames x; refine Within.cut (l := 1232) (r := s) (x := x) ?_ ?_; rotate_left; (try clear_value x); intro _; rotate_right; subst x)
    | (extract_lets +onlyGivenNames x; try clear_value x)
    | with_reducible apply WithinO.next
    | with_reducible apply WithinO.fault
    | (with_reducible apply Within.via (l := 1232) (m := 1040) (hm := by decide)); (case h => with_reducible apply State.complete_within)
    | (with_reducible apply Within.via (l := 1232) (m := 128) (hm := by decide)); (case h => with_reducible apply State.hostWrite_within)
    | with_reducible refine State.runOp_via (by decide) ?_ (fun _ _ _ => ?_)
    | split

end Sys2Proof.Machine
end

