-- ==== Sys2Proof/Laws/FrameLanes.lean ====
section
/-!
SUPPORT. Laws/FrameLanes.lean: what each function of Machine/Lanes.lean can touch.
-/
set_option linter.unusedTactic false
set_option linter.unreachableTactic false
set_option linter.tactic.unusedName false

namespace Sys2Proof.Machine

theorem State.portLatencies_within (s : State) (p : Nat) :
    Within 2 s (State.portLatencies s p) := by
  unfold State.portLatencies
  repeat'
    first
    | with_reducible apply Within.refl
    | with_reducible assumption
    | ((with_reducible apply Within.fold); (rotate_left; intro _ _ _; rotate_right))
    | (with_reducible apply Within.via (l := 2) (m := 2) (hm := by decide)); (case h => with_reducible apply State.wr_within)
    | split

theorem State.unitOn_within (s : State) (i : Nat) :
    Within 138521083914 s (State.unitOn s i) := by
  unfold State.unitOn
  repeat'
    first
    | with_reducible apply Within.refl
    | with_reducible assumption
    | (extract_lets +onlyGivenNames x; refine Within.cut (l := 138521083914) (r := s) (x := x) ?_ ?_; rotate_left; (try clear_value x); intro _; rotate_right; subst x)
    | (extract_lets +onlyGivenNames x; refine Within.cut2 (l := 138521083914) (r := s) (x := x) ?_ ?_; rotate_left; (try clear_value x); intro _; rotate_right; subst x)
    | (extract_lets +onlyGivenNames x; refine Within.cut1 (l := 138521083914) (r := s) (x := x) ?_ ?_; rotate_left; (try clear_value x); intro _; rotate_right; subst x)
    | (extract_lets +onlyGivenNames x; try clear_value x)
    | (with_reducible apply Within2.snd; with_reducible assumption)
    | (with_reducible apply Within1.fst; with_reducible assumption)
    | with_reducible apply Within2.mk
    | with_reducible apply Within1.mk
    | with_reducible refine Within2.fold ?_ (fun _ _ _ => ?_)
    | with_reducible refine Within1.fold ?_ (fun _ _ _ => ?_)
    | (with_reducible apply Within2.via (l := 138521083914) (m := 8388618) (hm := by decide)); (case h => with_reducible apply State.leaveAsk_within)
    | (with_reducible apply Within.via (l := 138521083914) (m := 8388618) (hm := by decide)); (case h => with_reducible apply State.leaveAsk_within)
    | (with_reducible apply Within.via (l := 138521083914) (m := 8388618) (hm := by decide)); (case h => (with_reducible apply Within2.ofEq (State.leaveAsk_within _ _ _ _)); with_reducible assumption)
    | (with_reducible apply Within.via (l := 138521083914) (m := 137438953472) (hm := by decide)); (case h => with_reducible apply State.nvTouch_within)
    | (with_reducible apply Within.via (l := 138521083914) (m := 2) (hm := by decide)); (case h => with_reducible apply State.portLatencies_within)
    | (with_reducible apply Within.via (l := 138521083914) (m := 2) (hm := by decide)); (case h => with_reducible apply State.setBit_within)
    | (with_reducible apply Within.via (l := 138521083914) (m := 1073741824) (hm := by decide)); (case h => with_reducible apply State.setUnit_within)
    | split
    | dsimp only
    | (with_reducible refine Within2.ofEq' ?_ (by assumption))

theorem State.unitOff_within (s : State) (i : Nat) :
    Within 138512695298 s (State.unitOff s i) := by
  unfold State.unitOff
  repeat'
    first
    | with_reducible apply Within.refl
    | with_reducible assumption
    | (extract_lets +onlyGivenNames x; refine Within.cut (l := 138512695298) (r := s) (x := x) ?_ ?_; rotate_left; (try clear_value x); intro _; rotate_right; subst x)
    | (extract_lets +onlyGivenNames x; try clear_value x)
    | (with_reducible apply Within.via (l := 138512695298) (m := 137438953472) (hm := by decide)); (case h => with_reducible apply State.nvTouch_within)
    | (with_reducible apply Within.via (l := 138512695298) (m := 2) (hm := by decide)); (case h => with_reducible apply State.setBit_within)
    | (with_reducible apply Within.via (l := 138512695298) (m := 1073741824) (hm := by decide)); (case h => with_reducible apply State.setUnit_within)
    | split

theorem execLaneGrpEnable_within (g : Fin 8) (s : State) :
    WithinO 138521083914 s (execLaneGrpEnable g s) := by
  unfold execLaneGrpEnable
  repeat'
    first
    | with_reducible apply Within.refl
    | with_reducible assumption
    | with_reducible apply WithinO.next
    | with_reducible apply WithinO.fault
    | (with_reducible apply Within.via (l := 138521083914) (m := 138521083914) (hm := by decide)); (case h => with_reducible apply State.unitOn_within)
    | split

theorem execLaneGrpDisable_within (g : Fin 8) (s : State) :
    WithinO 138512695298 s (execLaneGrpDisable g s) := by
  unfold execLaneGrpDisable
  repeat'
    first
    | with_reducible apply Within.refl
    | with_reducible assumption
    | with_reducible apply WithinO.next
    | with_reducible apply WithinO.fault
    | (with_reducible apply Within.via (l := 138512695298) (m := 138512695298) (hm := by decide)); (case h => with_reducible apply State.unitOff_within)
    | split

theorem execPortEnable_within (p : Fin 2) (s : State) :
    WithinO 138521083914 s (execPortEnable p s) := by
  unfold execPortEnable
  repeat'
    first
    | with_reducible apply Within.refl
    | with_reducible assumption
    | with_reducible apply WithinO.next
    | with_reducible apply WithinO.fault
    | (with_reducible apply Within.via (l := 138521083914) (m := 138521083914) (hm := by decide)); (case h => with_reducible apply State.unitOn_within)
    | split

theorem execPortDisable_within (p : Fin 2) (s : State) :
    WithinO 138512695298 s (execPortDisable p s) := by
  unfold execPortDisable
  repeat'
    first
    | with_reducible apply Within.refl
    | with_reducible assumption
    | with_reducible apply WithinO.next
    | with_reducible apply WithinO.fault
    | (with_reducible apply Within.via (l := 138512695298) (m := 138512695298) (hm := by decide)); (case h => with_reducible apply State.unitOff_within)
    | split

theorem State.setLink_within (s : State) (p q : Nat) (up : Bool) :
    Within 1073741890 s (State.setLink s p q up) := by
  unfold State.setLink
  repeat'
    first
    | with_reducible apply Within.refl
    | with_reducible assumption
    | (extract_lets +onlyGivenNames x; refine Within.cut (l := 1073741890) (r := s) (x := x) ?_ ?_; rotate_left; (try clear_value x); intro _; rotate_right; subst x)
    | (extract_lets +onlyGivenNames x; try clear_value x)
    | ((with_reducible apply Within.fold); (rotate_left; intro _ _ _; rotate_right))
    | (with_reducible apply Within.via (l := 1073741890) (m := 2) (hm := by decide)); (case h => with_reducible apply State.fset_within)
    | (with_reducible apply Within.via (l := 1073741890) (m := 66) (hm := by decide)); (case h => with_reducible apply State.raise_within)
    | (with_reducible apply Within.via (l := 1073741890) (m := 2) (hm := by decide)); (case h => with_reducible apply State.setBit_within)
    | (with_reducible apply Within.via (l := 1073741890) (m := 1073741824) (hm := by decide)); (case h => with_reducible apply State.setUnit_within)
    | split

theorem execPortLinkChange_within (p : Fin 2) (q : Fin 8) (up : Bool) (s : State) :
    WithinO 1073758274 s (execPortLinkChange p q up s) := by
  unfold execPortLinkChange
  repeat'
    first
    | with_reducible apply Within.refl
    | with_reducible assumption
    | (extract_lets +onlyGivenNames x; refine Within.cut (l := 1073758274) (r := s) (x := x) ?_ ?_; rotate_left; (try clear_value x); intro _; rotate_right; subst x)
    | (extract_lets +onlyGivenNames x; try clear_value x)
    | with_reducible apply WithinO.next
    | with_reducible apply WithinO.fault
    | (with_reducible apply Within.via (l := 1073758274) (m := 16384) (hm := by decide)); (case h => with_reducible apply State.igmpChange_within)
    | (with_reducible apply Within.via (l := 1073758274) (m := 1073741890) (hm := by decide)); (case h => with_reducible apply State.setLink_within)
    | split

theorem State.portDown_within (s : State) (p : Nat) :
    Within 1073741890 s (State.portDown s p) := by
  unfold State.portDown
  repeat'
    first
    | with_reducible apply Within.refl
    | with_reducible assumption
    | ((with_reducible apply Within.fold); (rotate_left; intro _ _ _; rotate_right))
    | (with_reducible apply Within.via (l := 1073741890) (m := 1073741890) (hm := by decide)); (case h => with_reducible apply State.setLink_within)
    | split

theorem State.laneDark_within (s : State) (n : Nat) :
    Within 4170 s (State.laneDark s n) := by
  unfold State.laneDark
  repeat'
    first
    | with_reducible apply Within.refl
    | with_reducible assumption
    | (extract_lets +onlyGivenNames x; refine Within.cut (l := 4170) (r := s) (x := x) ?_ ?_; rotate_left; (try clear_value x); intro _; rotate_right; subst x)
    | (extract_lets +onlyGivenNames x; try clear_value x)
    | (with_reducible apply Within.via (l := 4170) (m := 4170) (hm := by decide)); (case h => with_reducible apply State.cdrLost_within)
    | (with_reducible apply Within.via (l := 4170) (m := 2) (hm := by decide)); (case h => with_reducible apply State.fset_within)
    | (with_reducible apply Within.via (l := 4170) (m := 66) (hm := by decide)); (case h => with_reducible apply State.laneSignal_within)
    | (with_reducible apply Within.via (l := 4170) (m := 4096) (hm := by decide)); (case h => with_reducible apply State.updSrc_within)
    | split

theorem execPowerDownEnd_within (i : Fin 10) (s : State) :
    WithinO 1082134602 s (execPowerDownEnd i s) := by
  unfold execPowerDownEnd
  repeat'
    first
    | with_reducible apply Within.refl
    | with_reducible assumption
    | (extract_lets +onlyGivenNames x; refine Within.cut (l := 1082134602) (r := s) (x := x) ?_ ?_; rotate_left; (try clear_value x); intro _; rotate_right; subst x)
    | (extract_lets +onlyGivenNames x; try clear_value x)
    | with_reducible apply WithinO.next
    | with_reducible apply WithinO.fault
    | ((with_reducible apply Within.fold); (rotate_left; intro _ _ _; rotate_right))
    | (with_reducible apply State.updLv_via (m := 8388608) (l := 1082134602) (hm := by decide)); (case hleave => exact (fun h => absurd h (by decide))); (case hlimits => exact (fun _ _ => rfl)); (case hsheds => exact (fun _ _ => rfl)); (case cpowFree => exact (fun _ => rfl)); (case cfetFree => exact (fun _ => rfl)); (case cthermal => exact (fun _ => rfl)); (case cband => exact (fun _ => rfl))
    | (with_reducible apply Within.via (l := 1082134602) (m := 4170) (hm := by decide)); (case h => with_reducible apply State.laneDark_within)
    | (with_reducible apply Within.via (l := 1082134602) (m := 8388682) (hm := by decide)); (case h => with_reducible apply State.leaveRet_within)
    | (with_reducible apply Within.via (l := 1082134602) (m := 1073741890) (hm := by decide)); (case h => with_reducible apply State.portDown_within)
    | (with_reducible apply Within.via (l := 1082134602) (m := 1073741824) (hm := by decide)); (case h => with_reducible apply State.setUnit_within)
    | split

theorem execFecReport_within (p : Fin 2) (corrected uncorrected : Nat) (s : State) :
    WithinO 66 s (execFecReport p corrected uncorrected s) := by
  unfold execFecReport
  repeat'
    first
    | with_reducible apply Within.refl
    | with_reducible assumption
    | (extract_lets +onlyGivenNames x; refine Within.cut (l := 66) (r := s) (x := x) ?_ ?_; rotate_left; (try clear_value x); intro _; rotate_right; subst x)
    | (extract_lets +onlyGivenNames x; try clear_value x)
    | with_reducible apply WithinO.next
    | with_reducible apply WithinO.fault
    | (with_reducible apply Within.via (l := 66) (m := 2) (hm := by decide)); (case h => with_reducible apply State.count_within)
    | (with_reducible apply Within.via (l := 66) (m := 66) (hm := by decide)); (case h => with_reducible apply State.raise_within)
    | split

theorem State.laneLinksDown_within (s : State) (n : Nat) :
    Within 1073741890 s (State.laneLinksDown s n) := by
  unfold State.laneLinksDown
  repeat'
    first
    | with_reducible apply Within.refl
    | with_reducible assumption
    | (extract_lets +onlyGivenNames x; refine Within.cut (l := 1073741890) (r := s) (x := x) ?_ ?_; rotate_left; (try clear_value x); intro _; rotate_right; subst x)
    | (extract_lets +onlyGivenNames x; try clear_value x)
    | ((with_reducible apply Within.fold); (rotate_left; intro _ _ _; rotate_right))
    | (with_reducible apply Within.via (l := 1073741890) (m := 1073741890) (hm := by decide)); (case h => with_reducible apply State.setLink_within)
    | split

theorem State.setLoop_within (s : State) (n mode : Nat) :
    Within 1073741890 s (State.setLoop s n mode) := by
  unfold State.setLoop
  repeat'
    first
    | with_reducible apply Within.refl
    | with_reducible assumption
    | (extract_lets +onlyGivenNames x; refine Within.cut (l := 1073741890) (r := s) (x := x) ?_ ?_; rotate_left; (try clear_value x); intro _; rotate_right; subst x)
    | (extract_lets +onlyGivenNames x; try clear_value x)
    | (with_reducible apply Within.via (l := 1073741890) (m := 2) (hm := by decide)); (case h => with_reducible apply State.fset_within)
    | (with_reducible apply Within.via (l := 1073741890) (m := 1073741890) (hm := by decide)); (case h => with_reducible apply State.laneLinksDown_within)
    | split

theorem execLoopSelect_within (n : Fin 144) (mode : BitVec 2) (s : State) :
    WithinO 1073741890 s (execLoopSelect n mode s) := by
  unfold execLoopSelect
  repeat'
    first
    | with_reducible apply Within.refl
    | with_reducible assumption
    | with_reducible apply WithinO.next
    | with_reducible apply WithinO.fault
    | (with_reducible apply Within.via (l := 1073741890) (m := 1073741890) (hm := by decide)); (case h => with_reducible apply State.setLoop_within)
    | split

theorem State.setGen_within (s : State) (n g : Nat) :
    Within 2 s (State.setGen s n g) := by
  unfold State.setGen
  repeat'
    first
    | with_reducible apply Within.refl
    | with_reducible assumption
    | (with_reducible apply Within.via (l := 2) (m := 2) (hm := by decide)); (case h => with_reducible apply State.fset_within)
    | split

theorem execPrbsGeneratorSelect_within (n : Fin 144) (gen : BitVec 4) (s : State) :
    WithinO 2 s (execPrbsGeneratorSelect n gen s) := by
  unfold execPrbsGeneratorSelect
  repeat'
    first
    | with_reducible apply Within.refl
    | with_reducible assumption
    | with_reducible apply WithinO.next
    | with_reducible apply WithinO.fault
    | (with_reducible apply Within.via (l := 2) (m := 2) (hm := by decide)); (case h => with_reducible apply State.setGen_within)
    | split

theorem State.setChk_within (s : State) (n c : Nat) :
    Within 2 s (State.setChk s n c) := by
  unfold State.setChk
  repeat'
    first
    | with_reducible apply Within.refl
    | with_reducible assumption
    | (with_reducible apply Within.via (l := 2) (m := 2) (hm := by decide)); (case h => with_reducible apply State.fset_within)
    | (with_reducible apply Within.via (l := 2) (m := 2) (hm := by decide)); (case h => with_reducible apply State.wr_within)
    | split

theorem execPrbsCheckerSelect_within (n : Fin 144) (chk : BitVec 4) (s : State) :
    WithinO 2 s (execPrbsCheckerSelect n chk s) := by
  unfold execPrbsCheckerSelect
  repeat'
    first
    | with_reducible apply Within.refl
    | with_reducible assumption
    | with_reducible apply WithinO.next
    | with_reducible apply WithinO.fault
    | (with_reducible apply Within.via (l := 2) (m := 2) (hm := by decide)); (case h => with_reducible apply State.setChk_within)
    | split

theorem State.add64_within (s : State) (lo hi k : Nat) :
    Within 2 s (State.add64 s lo hi k) := by
  unfold State.add64
  repeat'
    first
    | with_reducible apply Within.refl
    | with_reducible assumption
    | (extract_lets +onlyGivenNames x; refine Within.cut (l := 2) (r := s) (x := x) ?_ ?_; rotate_left; (try clear_value x); intro _; rotate_right; subst x)
    | (extract_lets +onlyGivenNames x; try clear_value x)
    | (with_reducible apply Within.via (l := 2) (m := 2) (hm := by decide)); (case h => with_reducible apply State.wr_within)
    | split

theorem State.inject_within (s : State) (n : Nat) :
    Within 2 s (State.inject s n) := by
  unfold State.inject
  repeat'
    first
    | with_reducible apply Within.refl
    | with_reducible assumption
    | (with_reducible apply Within.via (l := 2) (m := 2) (hm := by decide)); (case h => with_reducible apply State.add64_within)
    | split

theorem execPrbsInject_within (n : Fin 144) (s : State) :
    WithinO 2 s (execPrbsInject n s) := by
  unfold execPrbsInject
  repeat'
    first
    | with_reducible apply Within.refl
    | with_reducible assumption
    | with_reducible apply WithinO.next
    | with_reducible apply WithinO.fault
    | (with_reducible apply Within.via (l := 2) (m := 2) (hm := by decide)); (case h => with_reducible apply State.inject_within)
    | split

theorem execPrbsCheckerLock_within (n : Fin 144) (s : State) :
    WithinO 66 s (execPrbsCheckerLock n s) := by
  unfold execPrbsCheckerLock
  repeat'
    first
    | with_reducible apply Within.refl
    | with_reducible assumption
    | with_reducible apply WithinO.next
    | with_reducible apply WithinO.fault
    | (with_reducible apply Within.via (l := 66) (m := 66) (hm := by decide)); (case h => with_reducible apply State.raise_within)
    | (with_reducible apply Within.via (l := 66) (m := 2) (hm := by decide)); (case h => with_reducible apply State.setBit_within)
    | split

theorem execPrbsCheckerLoss_within (n : Fin 144) (compared errors : Nat) (s : State) :
    WithinO 66 s (execPrbsCheckerLoss n compared errors s) := by
  unfold execPrbsCheckerLoss
  repeat'
    first
    | with_reducible apply Within.refl
    | with_reducible assumption
    | (extract_lets +onlyGivenNames x; refine Within.cut (l := 66) (r := s) (x := x) ?_ ?_; rotate_left; (try clear_value x); intro _; rotate_right; subst x)
    | (extract_lets +onlyGivenNames x; try clear_value x)
    | with_reducible apply WithinO.next
    | with_reducible apply WithinO.fault
    | (with_reducible apply Within.via (l := 66) (m := 2) (hm := by decide)); (case h => with_reducible apply State.add64_within)
    | (with_reducible apply Within.via (l := 66) (m := 2) (hm := by decide)); (case h => with_reducible apply State.fset_within)
    | (with_reducible apply Within.via (l := 66) (m := 66) (hm := by decide)); (case h => with_reducible apply State.raise_within)
    | split

theorem State.hqDiscard_within (s : State) :
    Within 1073741826 s (State.hqDiscard s) := by
  unfold State.hqDiscard
  repeat'
    first
    | with_reducible apply Within.refl
    | with_reducible assumption
    | (with_reducible apply State.updNet_via (l := 1073741826) (hm := by decide))
    | (with_reducible apply Within.via (l := 1073741826) (m := 2) (hm := by decide)); (case h => with_reducible apply State.count_within)
    | (with_reducible apply Within.via (l := 1073741826) (m := 2) (hm := by decide)); (case h => with_reducible apply State.setBit_within)
    | split

theorem State.hqRunEnd_within (s : State) :
    Within 1073741888 s (State.hqRunEnd s) := by
  unfold State.hqRunEnd
  repeat'
    first
    | with_reducible apply Within.refl
    | with_reducible assumption
    | (extract_lets +onlyGivenNames x; refine Within.cut (l := 1073741888) (r := s) (x := x) ?_ ?_; rotate_left; (try clear_value x); intro _; rotate_right; subst x)
    | (extract_lets +onlyGivenNames x; try clear_value x)
    | (with_reducible apply State.updNet_via (l := 1073741888) (hm := by decide))
    | (with_reducible apply Within.via (l := 1073741888) (m := 64) (hm := by decide)); (case h => with_reducible apply State.occur_within)
    | split

theorem State.hqStore_within (s : State) (q cls : Nat) (tci : Option Nat) (stepped : Bool) (f : List Byte) :
    Within 1073742528 s (State.hqStore s q cls tci stepped f) := by
  unfold State.hqStore
  repeat'
    first
    | with_reducible apply Within.refl
    | with_reducible assumption
    | (extract_lets +onlyGivenNames x; refine Within.cut (l := 1073742528) (r := s) (x := x) ?_ ?_; rotate_left; (try clear_value x); intro _; rotate_right; subst x)
    | (extract_lets +onlyGivenNames x; try clear_value x)
    | (with_reducible apply State.updNet_via (l := 1073742528) (hm := by decide))
    | (with_reducible apply Within.via (l := 1073742528) (m := 128) (hm := by decide)); (case h => with_reducible apply State.hostWrite_within)
    | (with_reducible apply Within.via (l := 1073742528) (m := 1073741888) (hm := by decide)); (case h => with_reducible apply State.hqRunEnd_within)
    | (with_reducible apply Within.via (l := 1073742528) (m := 640) (hm := by decide)); (case h => with_reducible apply State.interrupt_within)
    | split

theorem execHqRxFrame_within (p : Fin 2) (q : Fin 8) (tci : Option (BitVec 16)) (stepped : Bool) (f : List Byte) (s : State) :
    WithinO 1073742530 s (execHqRxFrame p q tci stepped f s) := by
  unfold execHqRxFrame
  repeat'
    first
    | with_reducible apply Within.refl
    | with_reducible assumption
    | (extract_lets +onlyGivenNames x; refine Within.cut (l := 1073742530) (r := s) (x := x) ?_ ?_; rotate_left; (try clear_value x); intro _; rotate_right; subst x)
    | (extract_lets +onlyGivenNames x; try clear_value x)
    | with_reducible apply WithinO.next
    | with_reducible apply WithinO.fault
    | (with_reducible apply Within.via (l := 1073742530) (m := 2) (hm := by decide)); (case h => with_reducible apply State.count_within)
    | (with_reducible apply Within.via (l := 1073742530) (m := 1073741826) (hm := by decide)); (case h => with_reducible apply State.hqDiscard_within)
    | (with_reducible apply Within.via (l := 1073742530) (m := 1073742528) (hm := by decide)); (case h => with_reducible apply State.hqStore_within)
    | split

theorem execUnmatchedFrame_within (p : Fin 2) (q : Fin 8) (tci : Option (BitVec 16)) (f : List Byte) (s : State) :
    WithinO 2 s (execUnmatchedFrame p q tci f s) := by
  unfold execUnmatchedFrame
  repeat'
    first
    | with_reducible apply Within.refl
    | with_reducible assumption
    | (extract_lets +onlyGivenNames x; refine Within.cut (l := 2) (r := s) (x := x) ?_ ?_; rotate_left; (try clear_value x); intro _; rotate_right; subst x)
    | (extract_lets +onlyGivenNames x; try clear_value x)
    | with_reducible apply WithinO.next
    | with_reducible apply WithinO.fault
    | (with_reducible apply Within.via (l := 2) (m := 2) (hm := by decide)); (case h => with_reducible apply State.count_within)
    | split

theorem State.hqDoorbell_within (s : State) (v : Nat) :
    Within 1073741824 s (State.hqDoorbell s v) := by
  unfold State.hqDoorbell
  repeat'
    first
    | with_reducible apply Within.refl
    | with_reducible assumption
    | (with_reducible apply State.updNet_via (l := 1073741824) (hm := by decide))
    | split

theorem execHqTxDb_within (v : BitVec 16) (s : State) :
    WithinO 1073741824 s (execHqTxDb v s) := by
  unfold execHqTxDb
  repeat'
    first
    | with_reducible apply Within.refl
    | with_reducible assumption
    | with_reducible apply WithinO.next
    | with_reducible apply WithinO.fault
    | (with_reducible apply Within.via (l := 1073741824) (m := 1073741824) (hm := by decide)); (case h => with_reducible apply State.hqDoorbell_within)
    | split

theorem execHqTxDone_within (entry : Option (List Byte)) (dmaOk stepped : Bool) (s : State) :
    WithinO 1073742464 s (execHqTxDone entry dmaOk stepped s) := by
  unfold execHqTxDone
  repeat'
    first
    | with_reducible apply Within.refl
    | with_reducible assumption
    | (extract_lets +onlyGivenNames x; refine Within.cut (l := 1073742464) (r := s) (x := x) ?_ ?_; rotate_left; (try clear_value x); intro _; rotate_right; subst x)
    | (extract_lets +onlyGivenNames x; try clear_value x)
    | with_reducible apply WithinO.next
    | with_reducible apply WithinO.fault
    | (with_reducible apply State.updNet_via (l := 1073742464) (hm := by decide))
    | (with_reducible apply Within.via (l := 1073742464) (m := 128) (hm := by decide)); (case h => with_reducible apply State.hostWrite_within)
    | (with_reducible apply Within.via (l := 1073742464) (m := 640) (hm := by decide)); (case h => with_reducible apply State.interrupt_within)
    | split

theorem execD3hotEntry_within (s : State) :
    WithinO 2048 s (execD3hotEntry s) := by
  unfold execD3hotEntry
  repeat'
    first
    | with_reducible apply Within.refl
    | with_reducible assumption
    | with_reducible apply WithinO.next
    | with_reducible apply WithinO.fault
    | (with_reducible apply State.updHif_via (m := 2048) (l := 2048) (hm := by decide)); (case hsubRings => exact (fun _ _ => rfl)); (case hcplRings => exact (fun _ _ => rfl)); (case hevents => exact (fun _ _ => rfl)); (case hhostMem => exact (fun _ _ => rfl)); (case hmsix => exact (fun _ _ => rfl)); (case hirq => exact (fun _ _ => rfl)); (case hengine => exact (fun _ _ => rfl)); (case hd3hot => exact (fun h => absurd h (by decide))); (case chostMem => exact (fun _ => rfl)); (case cfences => exact (by first | exact fun _ h => h | exact fun _ h f hf => Nat.lt_succ_of_lt (h f hf) | exact fun _ h f hf => h f (List.mem_of_mem_filter hf)))
    | split

theorem execPcieAerError_within (severity : Fin 3) (status : BitVec 32) (s : State) :
    WithinO 64 s (execPcieAerError severity status s) := by
  unfold execPcieAerError
  repeat'
    first
    | with_reducible apply Within.refl
    | with_reducible assumption
    | with_reducible apply WithinO.next
    | with_reducible apply WithinO.fault
    | (with_reducible apply Within.via (l := 64) (m := 64) (hm := by decide)); (case h => with_reducible apply State.occur_within)
    | split

end Sys2Proof.Machine
end

