-- ==== Sys2Proof/Laws/FrameTime.lean ====
section
/-!
SUPPORT. Laws/FrameTime.lean: what each function of Machine/Time.lean can touch.
-/
set_option linter.unusedTactic false
set_option linter.unreachableTactic false
set_option linter.tactic.unusedName false

namespace Sys2Proof.Machine

theorem State.tick_within (s : State) : Within 67108864 s s.tick := by
  refine ⟨(fun p hp => by cases p <;> first | exact absurd hp (by decide) | rfl), fun g => ?_⟩
  obtain ⟨a, b, c1, cw, c2⟩ := g
  exact ⟨a, b, Nat.mod_lt _ (by decide), cw, c2⟩

theorem State.phcRaise_within (s : State) (bit code : Nat) (d : List (Nat × Nat × Nat)) :
    Within 66 s (State.phcRaise s bit code d) := by
  unfold State.phcRaise
  repeat'
    first
    | with_reducible apply Within.refl
    | with_reducible assumption
    | (with_reducible apply Within.via (l := 66) (m := 66) (hm := by decide)); (case h => with_reducible apply State.raise_within)
    | split

theorem State.setSyn_within (s : State) (n : Nat) (v : Syn) :
    Within 268435456 s (State.setSyn s n v) := by
  unfold State.setSyn
  repeat'
    first
    | with_reducible apply Within.refl
    | with_reducible assumption
    | (with_reducible apply State.updTim_via (m := 268435456) (l := 268435456) (hm := by decide)); (case hphc => exact (fun _ _ => rfl)); (case hrefs => exact (fun _ _ => rfl)); (case hsyns => exact (fun h => absurd h (by decide))); (case hpolders => exact (fun _ _ => rfl)); (case cphc => exact (fun _ => rfl)); (case cstepWait => exact (fun _ => rfl))
    | split

theorem State.updSyn_within (s : State) (n : Nat) (f : Syn → Syn) :
    Within 268435456 s (State.updSyn s n f) := by
  unfold State.updSyn
  repeat'
    first
    | with_reducible apply Within.refl
    | with_reducible assumption
    | (with_reducible apply Within.via (l := 268435456) (m := 268435456) (hm := by decide)); (case h => with_reducible apply State.setSyn_within)
    | split

theorem State.synRaise_within (s : State) (n bit code : Nat) (d : List (Nat × Nat × Nat)) :
    Within 66 s (State.synRaise s n bit code d) := by
  unfold State.synRaise
  repeat'
    first
    | with_reducible apply Within.refl
    | with_reducible assumption
    | (with_reducible apply Within.via (l := 66) (m := 66) (hm := by decide)); (case h => with_reducible apply State.raise_within)
    | split

theorem State.slewEnd_within (s : State) (n : Nat) :
    Within 268435522 s (State.slewEnd s n) := by
  unfold State.slewEnd
  repeat'
    first
    | with_reducible apply Within.refl
    | with_reducible assumption
    | (with_reducible apply Within.via (l := 268435522) (m := 66) (hm := by decide)); (case h => with_reducible apply State.synRaise_within)
    | (with_reducible apply Within.via (l := 268435522) (m := 268435456) (hm := by decide)); (case h => with_reducible apply State.updSyn_within)
    | split

theorem State.relockBegin_within (s : State) (n cause : Nat) :
    Within 268435522 s (State.relockBegin s n cause) := by
  unfold State.relockBegin
  repeat'
    first
    | with_reducible apply Within.refl
    | with_reducible assumption
    | (with_reducible apply Within.via (l := 268435522) (m := 268435522) (hm := by decide)); (case h => with_reducible apply State.slewEnd_within)
    | (with_reducible apply Within.via (l := 268435522) (m := 268435456) (hm := by decide)); (case h => with_reducible apply State.updSyn_within)
    | split

theorem State.synFollow_within (s : State) (n old new : Nat) :
    Within 268435522 s (State.synFollow s n old new) := by
  unfold State.synFollow
  repeat'
    first
    | with_reducible apply Within.refl
    | with_reducible assumption
    | (extract_lets +onlyGivenNames x; refine Within.cut (l := 268435522) (r := s) (x := x) ?_ ?_; rotate_left; (try clear_value x); intro _; rotate_right; subst x)
    | (extract_lets +onlyGivenNames x; try clear_value x)
    | (with_reducible apply Within.via (l := 268435522) (m := 268435522) (hm := by decide)); (case h => with_reducible apply State.relockBegin_within)
    | (with_reducible apply Within.via (l := 268435522) (m := 268435456) (hm := by decide)); (case h => with_reducible apply State.updSyn_within)
    | split

theorem State.phcHoldover_within (s : State) (on : Bool) :
    Within 66 s (State.phcHoldover s on) := by
  unfold State.phcHoldover
  repeat'
    first
    | with_reducible apply Within.refl
    | with_reducible assumption
    | (with_reducible apply Within.via (l := 66) (m := 2) (hm := by decide)); (case h => with_reducible apply State.fset_within)
    | (with_reducible apply Within.via (l := 66) (m := 66) (hm := by decide)); (case h => with_reducible apply State.phcRaise_within)
    | split

theorem State.incrWrite_within (s : State) (frac : Nat) :
    Within 335544386 s (State.incrWrite s frac) := by
  unfold State.incrWrite
  repeat'
    first
    | with_reducible apply Within.refl
    | with_reducible assumption
    | (extract_lets +onlyGivenNames x; refine Within.cut (l := 335544386) (r := s) (x := x) ?_ ?_; rotate_left; (try clear_value x); intro _; rotate_right; subst x)
    | (extract_lets +onlyGivenNames x; try clear_value x)
    | ((with_reducible apply Within.fold); (rotate_left; intro _ _ _; rotate_right))
    | (with_reducible apply State.updTim_via (m := 67108864) (l := 335544386) (hm := by decide)); (case hphc => exact (fun h => absurd h (by decide))); (case hrefs => exact (fun _ _ => rfl)); (case hsyns => exact (fun _ _ => rfl)); (case hpolders => exact (fun _ _ => rfl)); (case cphc => exact (fun _ => rfl)); (case cstepWait => exact (fun _ => rfl))
    | (with_reducible apply Within.via (l := 335544386) (m := 66) (hm := by decide)); (case h => with_reducible apply State.phcHoldover_within)
    | (with_reducible apply Within.via (l := 335544386) (m := 66) (hm := by decide)); (case h => with_reducible apply State.phcRaise_within)
    | (with_reducible apply Within.via (l := 335544386) (m := 2) (hm := by decide)); (case h => with_reducible apply State.setBit_within)
    | (with_reducible apply Within.via (l := 335544386) (m := 268435522) (hm := by decide)); (case h => with_reducible apply State.synFollow_within)
    | (with_reducible apply Within.via (l := 335544386) (m := 2) (hm := by decide)); (case h => with_reducible apply State.wr_within)
    | split

theorem execPhcIncrWrite_within (frac : BitVec 32) (s : State) :
    WithinO 335544386 s (execPhcIncrWrite frac s) := by
  unfold execPhcIncrWrite
  repeat'
    first
    | with_reducible apply Within.refl
    | with_reducible assumption
    | with_reducible apply WithinO.next
    | with_reducible apply WithinO.fault
    | (with_reducible apply Within.via (l := 335544386) (m := 335544386) (hm := by decide)); (case h => with_reducible apply State.incrWrite_within)
    | split

theorem execPhcHoldoverTimeout_within (s : State) :
    WithinO 66 s (execPhcHoldoverTimeout s) := by
  unfold execPhcHoldoverTimeout
  repeat'
    first
    | with_reducible apply Within.refl
    | with_reducible assumption
    | with_reducible apply WithinO.next
    | with_reducible apply WithinO.fault
    | (with_reducible apply Within.via (l := 66) (m := 66) (hm := by decide)); (case h => with_reducible apply State.phcHoldover_within)
    | split

/-- The PHC takes a legal time. -/
theorem State.phcSet_within (s : State) (new : Nat) (h : new < 281474976710656 * phcUnit) :
    Within 67108864 s (s.updTim fun t => { t with phc := new }) := by
  refine ⟨(fun p hp => by cases p <;> first | exact absurd hp (by decide) | rfl), fun g => ?_⟩
  obtain ⟨a, b, c1, cw, c2⟩ := g
  exact ⟨a, b, h, cw, c2⟩

theorem State.phcJump_rest (s : State) (new kind : Nat) : Within 67108930 (s.updTim fun t => { t with phc := new }) (s.phcJump new kind) := by
  unfold State.phcJump
  extract_lets amount s1 s2
  exact (State.phcRaise_within _ _ _ _).via (by decide) ((State.fset_within _ _ _ _ _).mono (by decide))

theorem State.phcJump_same (s : State) (new kind : Nat) (q : Part) (hq : Nat.testBit 67108930 q.idx = false) : q.same s (s.phcJump new kind) :=
  q.same_trans (by cases q <;> first | exact absurd hq (by decide) | rfl) ((s.phcJump_rest new kind).same q hq)

theorem State.phcJump_within (s : State) (new kind : Nat) (h : new < 281474976710656 * phcUnit) : Within 67108930 s (s.phcJump new kind) :=
  ⟨s.phcJump_same new kind, fun g => (s.phcJump_rest new kind).good ((s.phcSet_within new h).good g)⟩

theorem State.phcApply_same (s : State) (p : PhcStep) (q : Part) (hq : Nat.testBit 67108930 q.idx = false) : q.same s (s.phcApply p) := by
  unfold State.phcApply
  split
  · exact s.phcJump_same _ _ q hq
  · exact s.phcJump_same _ _ q hq

theorem State.phcApply_within (s : State) (p : PhcStep) (hp : p.ok = true) : Within 67108930 s (s.phcApply p) := by
  unfold State.phcApply
  split
  · next h =>
    refine State.phcJump_within _ _ _ ?_
    have h1 : p.ns.toNat ≤ 999999999 := by simpa [PhcStep.ok, h] using hp
    have h2 := p.sec.isLt
    simp only [phcUnit]
    omega
  · extract_lets a
    refine State.phcJump_within _ _ _ ?_
    have h0 : (0 : Int) < ((281474976710656 * phcUnit : Nat) : Int) := by decide
    have h1 := Int.emod_lt_of_pos ((s.tim.phc : Int) + a * 4294967296) h0
    have h2 := Int.emod_nonneg ((s.tim.phc : Int) + a * 4294967296) (ne_of_gt h0)
    generalize ((s.tim.phc : Int) + a * 4294967296) % ((281474976710656 * phcUnit : Nat) : Int) = z at *
    generalize 281474976710656 * phcUnit = w at *
    omega

/-- A step in range waits for a PPS edge. -/
theorem State.stepWait_within (s : State) (p : PhcStep) (hp : p.ok = true) :
    Within 67108864 s (s.updTim fun t => { t with stepWait := some p }) := by
  refine ⟨(fun p hp => by cases p <;> first | exact absurd hp (by decide) | rfl), fun g => ?_⟩
  obtain ⟨a, b, c1, cw, c2⟩ := g
  exact ⟨a, b, c1, fun q hq => by cases hq; exact hp, c2⟩

theorem State.stepGo_within (s : State) : Within 67108930 s s.stepGo := by
  unfold State.stepGo
  split
  · exact Within.refl _ _
  · extract_lets p
    split
    · exact (State.setBit_within _ _ _).mono (by decide)
    · next h =>
      have hp : p.ok = true := by simpa using h
      clear_value p
      split
      · exact (State.setBit_within _ _ _).via (by decide) ((s.stepWait_within p hp).mono (by decide))
      · exact State.phcApply_within s p hp

theorem execPhcStepGo_within (mode atPps : Bool) (s : State) :
    WithinO 67108930 s (execPhcStepGo mode atPps s) := by
  unfold execPhcStepGo
  repeat'
    first
    | with_reducible apply Within.refl
    | with_reducible assumption
    | with_reducible apply WithinO.next
    | with_reducible apply WithinO.fault
    | (with_reducible apply Within.via (l := 67108930) (m := 2) (hm := by decide)); (case h => with_reducible apply State.fset_within)
    | (with_reducible apply Within.via (l := 67108930) (m := 67108930) (hm := by decide)); (case h => with_reducible apply State.stepGo_within)
    | split

theorem State.latch_within (s : State) (who addr v : Nat) :
    Within 4 s (State.latch s who addr v) := by
  unfold State.latch
  repeat'
    first
    | with_reducible apply Within.refl
    | with_reducible assumption
    | (with_reducible apply State.with_latches_via (l := 4) (hm := by decide))
    | split

theorem State.unlatch_within (s : State) (who addr : Nat) : Within 4 s (s.unlatch who addr).2 := by
  unfold State.unlatch
  split
  · exact State.with_latches_via (s := s) (by decide) (Within.refl _ _)
  · exact Within.refl _ _

theorem State.readNow_within (s : State) (who : Nat) : Within 4398046511108 s (s.readNow who) := by
  unfold State.readNow
  extract_lets x
  have h : Within 4398046511108 s x := (State.latch_within _ _ _ _).via (by decide) ((State.latch_within _ _ _ _).via (by decide)
    ((State.latch_within _ _ _ _).mono (by decide)))
  exact State.with_reply_via (s := x) (by decide) h

theorem execPhcNowRead_within (who : Fin 3) (s : State) :
    WithinO 4398046511108 s (execPhcNowRead who s) := by
  unfold execPhcNowRead
  repeat'
    first
    | with_reducible apply Within.refl
    | with_reducible assumption
    | with_reducible apply WithinO.next
    | with_reducible apply WithinO.fault
    | (with_reducible apply Within.via (l := 4398046511108) (m := 4398046511108) (hm := by decide)); (case h => with_reducible apply State.readNow_within)
    | split

theorem State.ppsLatch_within (s : State) (c : Nat) :
    Within 66 s (State.ppsLatch s c) := by
  unfold State.ppsLatch
  repeat'
    first
    | with_reducible apply Within.refl
    | with_reducible assumption
    | (extract_lets +onlyGivenNames x; refine Within.cut (l := 66) (r := s) (x := x) ?_ ?_; rotate_left; (try clear_value x); intro _; rotate_right; subst x)
    | (extract_lets +onlyGivenNames x; try clear_value x)
    | (with_reducible apply Within.via (l := 66) (m := 66) (hm := by decide)); (case h => with_reducible apply State.phcRaise_within)
    | (with_reducible apply Within.via (l := 66) (m := 2) (hm := by decide)); (case h => with_reducible apply State.wr_within)
    | split

theorem execPpsEdge_within (s : State) : WithinO 137506062402 s (execPpsEdge s) := by
  unfold execPpsEdge
  refine .next ?_
  extract_lets early s1 wait s2 mode c s3 s4
  split
  · exact Within.refl _ _
  · have h1 : Within 137506062402 s s1 :=
      (State.setBit_within _ _ _).via (by decide) (State.updTim_via (m := 137506062402) (hphc := fun h => absurd h (by decide))
        (hrefs := fun _ _ => rfl) (hsyns := fun _ _ => rfl) (hpolders := fun _ _ => rfl) (cphc := fun _ => rfl) (cstepWait := fun _ => rfl)
        (hm := by decide) (k := Within.refl _ _))
    have h2 : Within 137506062402 s s2 := by
      simp only [s2]
      generalize hw : wait = w
      cases w with
      | none => exact h1
      | some p =>
        have hp : s.tim.stepWait = some p := hw
        have hq : s.Good → p.ok = true := fun g => g.legal.2.1 p hp
        have hx : Within 137506062402 s ((s1.updTim fun t => { t with stepWait := none }).fset Adr.phcStat 1 1 0) := by
          refine (State.fset_within _ _ _ _ _).via (by decide) ⟨fun q hq' => q.same_trans (h1.same q hq') ?_, fun g => ?_⟩
          · cases q <;> first | exact absurd hq' (by decide) | rfl
          · obtain ⟨a, b, c1, cw, c2⟩ := h1.good g
            exact ⟨a, b, c1, fun p hp => (by cases hp), c2⟩
        exact ⟨fun q hq' => q.same_trans (hx.same q hq') (State.phcApply_same _ p q (by cases q <;> first | exact absurd hq' (by decide) | rfl)),
          fun g => (State.phcApply_within _ p (hq g)).good (hx.good g)⟩
    split
    · have h3 : Within 137506062402 s s3 := (State.ppsLatch_within _ _).via (by decide) h2
      split
      · have h4 : Within 137506062402 s s4 := (State.nvTouch_within _ _).via (by decide) ((State.fset_within _ _ _ _ _).via (by decide) h3)
        split
        · exact h4
        · refine (State.phcJump_within _ _ _ ?_).via (by decide) h4
          exact (Nat.mul_lt_mul_right (by decide)).2 (Nat.mod_lt _ (by decide))
      · exact h3
    · exact h2

theorem execPpsLost_within (s : State) :
    WithinO 66 s (execPpsLost s) := by
  unfold execPpsLost
  repeat'
    first
    | with_reducible apply Within.refl
    | with_reducible assumption
    | (extract_lets +onlyGivenNames x; refine Within.cut (l := 66) (r := s) (x := x) ?_ ?_; rotate_left; (try clear_value x); intro _; rotate_right; subst x)
    | (extract_lets +onlyGivenNames x; try clear_value x)
    | with_reducible apply WithinO.next
    | with_reducible apply WithinO.fault
    | (with_reducible apply Within.via (l := 66) (m := 2) (hm := by decide)); (case h => with_reducible apply State.fset_within)
    | (with_reducible apply Within.via (l := 66) (m := 66) (hm := by decide)); (case h => with_reducible apply State.phcRaise_within)
    | split

theorem State.setRefIn_within (s : State) (r : Nat) (v : RefIn) :
    Within 134217728 s (State.setRefIn s r v) := by
  unfold State.setRefIn
  repeat'
    first
    | with_reducible apply Within.refl
    | with_reducible assumption
    | (with_reducible apply State.updTim_via (m := 134217728) (l := 134217728) (hm := by decide)); (case hphc => exact (fun _ _ => rfl)); (case hrefs => exact (fun h => absurd h (by decide))); (case hsyns => exact (fun _ _ => rfl)); (case hpolders => exact (fun _ _ => rfl)); (case cphc => exact (fun _ => rfl)); (case cstepWait => exact (fun _ => rfl))
    | split

theorem State.refRaise_within (s : State) (r bit code : Nat) (d : List (Nat × Nat × Nat)) :
    Within 66 s (State.refRaise s r bit code d) := by
  unfold State.refRaise
  repeat'
    first
    | with_reducible apply Within.refl
    | with_reducible assumption
    | (with_reducible apply Within.via (l := 66) (m := 66) (hm := by decide)); (case h => with_reducible apply State.raise_within)
    | split

theorem State.refShow_within (s : State) (r st mode : Nat) (tri : Bool) (ppm : Int) :
    Within 2 s (State.refShow s r st mode tri ppm) := by
  unfold State.refShow
  repeat'
    first
    | with_reducible apply Within.refl
    | with_reducible assumption
    | (with_reducible apply Within.via (l := 2) (m := 2) (hm := by decide)); (case h => with_reducible apply State.wr_within)
    | split

theorem execRefAlignmentPoint_within (r : Fin 2) (mode : BitVec 8) (tri : Bool) (ppm : BitVec 16) (s : State) :
    WithinO 134217794 s (execRefAlignmentPoint r mode tri ppm s) := by
  unfold execRefAlignmentPoint
  repeat'
    first
    | with_reducible apply Within.refl
    | with_reducible assumption
    | (extract_lets +onlyGivenNames x; refine Within.cut (l := 134217794) (r := s) (x := x) ?_ ?_; rotate_left; (try clear_value x); intro _; rotate_right; subst x)
    | (extract_lets +onlyGivenNames x; try clear_value x)
    | with_reducible apply WithinO.next
    | with_reducible apply WithinO.fault
    | (with_reducible apply Within.via (l := 134217794) (m := 66) (hm := by decide)); (case h => with_reducible apply State.refRaise_within)
    | (with_reducible apply Within.via (l := 134217794) (m := 2) (hm := by decide)); (case h => with_reducible apply State.refShow_within)
    | (with_reducible apply Within.via (l := 134217794) (m := 134217728) (hm := by decide)); (case h => with_reducible apply State.setRefIn_within)
    | (with_reducible apply Within.via (l := 134217794) (m := 2) (hm := by decide)); (case h => with_reducible apply State.wr_within)
    | split

theorem State.refAbsent_within (s : State) (r : Nat) :
    Within 134217794 s (State.refAbsent s r) := by
  unfold State.refAbsent
  repeat'
    first
    | with_reducible apply Within.refl
    | with_reducible assumption
    | (with_reducible apply Within.via (l := 134217794) (m := 66) (hm := by decide)); (case h => with_reducible apply State.refRaise_within)
    | (with_reducible apply Within.via (l := 134217794) (m := 134217728) (hm := by decide)); (case h => with_reducible apply State.setRefIn_within)
    | (with_reducible apply Within.via (l := 134217794) (m := 2) (hm := by decide)); (case h => with_reducible apply State.wr_within)
    | split

theorem execRefSyncAbsent_within (r : Fin 2) (s : State) :
    WithinO 134217794 s (execRefSyncAbsent r s) := by
  unfold execRefSyncAbsent
  repeat'
    first
    | with_reducible apply Within.refl
    | with_reducible assumption
    | with_reducible apply WithinO.next
    | with_reducible apply WithinO.fault
    | (with_reducible apply Within.via (l := 134217794) (m := 134217794) (hm := by decide)); (case h => with_reducible apply State.refAbsent_within)
    | split

end Sys2Proof.Machine
end

