-- ==== Sys2Proof/Laws/FrameSynth.lean ====
section
/-!
SUPPORT. Laws/FrameSynth.lean: what each function of Machine/Synth.lean can touch.
-/
set_option linter.unusedTactic false
set_option linter.unreachableTactic false
set_option linter.tactic.unusedName false

namespace Sys2Proof.Machine

theorem State.polderRefresh_within (s : State) :
    Within 536870912 s (State.polderRefresh s) := by
  unfold State.polderRefresh
  repeat'
    first
    | with_reducible apply Within.refl
    | with_reducible assumption
    | ((with_reducible apply Within.fold); (rotate_left; intro _ _ _; rotate_right))
    | (with_reducible apply Within.via (l := 536870912) (m := 536870912) (hm := by decide)); (case h => with_reducible apply State.setPolder_within)
    | split

theorem State.synRefresh_within (s : State) :
    Within 805306434 s (State.synRefresh s) := by
  unfold State.synRefresh
  repeat'
    first
    | with_reducible apply Within.refl
    | with_reducible assumption
    | (extract_lets +onlyGivenNames x; refine Within.cut (l := 805306434) (r := s) (x := x) ?_ ?_; rotate_left; (try clear_value x); intro _; rotate_right; subst x)
    | (extract_lets +onlyGivenNames x; try clear_value x)
    | ((with_reducible apply Within.fold); (rotate_left; intro _ _ _; rotate_right))
    | (with_reducible apply Within.via (l := 805306434) (m := 536870912) (hm := by decide)); (case h => with_reducible apply State.polderRefresh_within)
    | (with_reducible apply Within.via (l := 805306434) (m := 268435456) (hm := by decide)); (case h => with_reducible apply State.setSyn_within)
    | (with_reducible apply Within.via (l := 805306434) (m := 66) (hm := by decide)); (case h => with_reducible apply State.synRaise_within)
    | split

theorem State.polderIgnored_within (s : State) (l : List Nat) :
    Within 2 s (State.polderIgnored s l) := by
  unfold State.polderIgnored
  repeat'
    first
    | with_reducible apply Within.refl
    | with_reducible assumption
    | ((with_reducible apply Within.fold); (rotate_left; intro _ _ _; rotate_right))
    | (with_reducible apply Within.via (l := 2) (m := 2) (hm := by decide)); (case h => with_reducible apply State.setBit_within)
    | split

theorem State.acquire_within (s : State) (n : Nat) :
    Within 805306434 s (State.acquire s n) := by
  unfold State.acquire
  repeat'
    first
    | with_reducible apply Within.refl
    | with_reducible assumption
    | (extract_lets +onlyGivenNames x; refine Within.cut (l := 805306434) (r := s) (x := x) ?_ ?_; rotate_left; (try clear_value x); intro _; rotate_right; subst x)
    | (extract_lets +onlyGivenNames x; try clear_value x)
    | (with_reducible apply Within.via (l := 805306434) (m := 536870912) (hm := by decide)); (case h => with_reducible apply State.polderRefresh_within)
    | (with_reducible apply Within.via (l := 805306434) (m := 268435456) (hm := by decide)); (case h => with_reducible apply State.setSyn_within)
    | (with_reducible apply Within.via (l := 805306434) (m := 66) (hm := by decide)); (case h => with_reducible apply State.synRaise_within)
    | split

theorem State.synFreqWrite_within (s : State) (n a v : Nat) :
    Within 138244259906 s (State.synFreqWrite s n a v) := by
  unfold State.synFreqWrite
  repeat'
    first
    | with_reducible apply Within.refl
    | with_reducible assumption
    | (with_reducible apply Within.via (l := 138244259906) (m := 805306434) (hm := by decide)); (case h => with_reducible apply State.acquire_within)
    | (with_reducible apply Within.via (l := 138244259906) (m := 137438953472) (hm := by decide)); (case h => with_reducible apply State.nvTouch_within)
    | (with_reducible apply Within.via (l := 138244259906) (m := 2) (hm := by decide)); (case h => with_reducible apply State.polderIgnored_within)
    | (with_reducible apply Within.via (l := 138244259906) (m := 2) (hm := by decide)); (case h => with_reducible apply State.wr_within)
    | split

theorem State.synCtlWrite_within (s : State) (n v : Nat) :
    Within 138244259906 s (State.synCtlWrite s n v) := by
  unfold State.synCtlWrite
  repeat'
    first
    | with_reducible apply Within.refl
    | with_reducible assumption
    | (extract_lets +onlyGivenNames x; refine Within.cut (l := 138244259906) (r := s) (x := x) ?_ ?_; rotate_left; (try clear_value x); intro _; rotate_right; subst x)
    | (extract_lets +onlyGivenNames x; try clear_value x)
    | (with_reducible apply Within.via (l := 138244259906) (m := 805306434) (hm := by decide)); (case h => with_reducible apply State.acquire_within)
    | (with_reducible apply Within.via (l := 138244259906) (m := 137438953472) (hm := by decide)); (case h => with_reducible apply State.nvTouch_within)
    | (with_reducible apply Within.via (l := 138244259906) (m := 2) (hm := by decide)); (case h => with_reducible apply State.polderIgnored_within)
    | (with_reducible apply Within.via (l := 138244259906) (m := 2) (hm := by decide)); (case h => with_reducible apply State.wr_within)
    | split

theorem State.outCtlWrite_within (s : State) (o v : Nat) :
    Within 138244259906 s (State.outCtlWrite s o v) := by
  unfold State.outCtlWrite
  repeat'
    first
    | with_reducible apply Within.refl
    | with_reducible assumption
    | (extract_lets +onlyGivenNames x; refine Within.cut (l := 138244259906) (r := s) (x := x) ?_ ?_; rotate_left; (try clear_value x); intro _; rotate_right; subst x)
    | (extract_lets +onlyGivenNames x; try clear_value x)
    | (with_reducible apply Within.via (l := 138244259906) (m := 137438953472) (hm := by decide)); (case h => with_reducible apply State.nvTouch_within)
    | (with_reducible apply Within.via (l := 138244259906) (m := 2) (hm := by decide)); (case h => with_reducible apply State.polderIgnored_within)
    | (with_reducible apply Within.via (l := 138244259906) (m := 805306434) (hm := by decide)); (case h => with_reducible apply State.synRefresh_within)
    | (with_reducible apply Within.via (l := 138244259906) (m := 2) (hm := by decide)); (case h => with_reducible apply State.wr_within)
    | split

theorem execSynthConfigWrite_within (n : Fin 32) (reg : Fin 3) (v : BitVec 32) (s : State) :
    WithinO 138244259906 s (execSynthConfigWrite n reg v s) := by
  unfold execSynthConfigWrite
  repeat'
    first
    | with_reducible apply Within.refl
    | with_reducible assumption
    | with_reducible apply WithinO.next
    | with_reducible apply WithinO.fault
    | (with_reducible apply Within.via (l := 138244259906) (m := 138244259906) (hm := by decide)); (case h => with_reducible apply State.synCtlWrite_within)
    | (with_reducible apply Within.via (l := 138244259906) (m := 138244259906) (hm := by decide)); (case h => with_reducible apply State.synFreqWrite_within)
    | split

theorem State.polderWrite_within (s : State) (p v : Nat) :
    Within 138244259906 s (State.polderWrite s p v) := by
  unfold State.polderWrite
  repeat'
    first
    | with_reducible apply Within.refl
    | with_reducible assumption
    | (extract_lets +onlyGivenNames x; refine Within.cut (l := 138244259906) (r := s) (x := x) ?_ ?_; rotate_left; (try clear_value x); intro _; rotate_right; subst x)
    | (extract_lets +onlyGivenNames x; try clear_value x)
    | (with_reducible apply Within.via (l := 138244259906) (m := 137438953472) (hm := by decide)); (case h => with_reducible apply State.nvTouch_within)
    | (with_reducible apply Within.via (l := 138244259906) (m := 2) (hm := by decide)); (case h => with_reducible apply State.setBit_within)
    | (with_reducible apply Within.via (l := 138244259906) (m := 536870912) (hm := by decide)); (case h => with_reducible apply State.setPolder_within)
    | (with_reducible apply Within.via (l := 138244259906) (m := 805306434) (hm := by decide)); (case h => with_reducible apply State.synRefresh_within)
    | (with_reducible apply Within.via (l := 138244259906) (m := 2) (hm := by decide)); (case h => with_reducible apply State.wr_within)
    | split

theorem execPolderCtlWrite_within (p : Fin 32) (v : BitVec 32) (s : State) :
    WithinO 138244259906 s (execPolderCtlWrite p v s) := by
  unfold execPolderCtlWrite
  repeat'
    first
    | with_reducible apply Within.refl
    | with_reducible assumption
    | with_reducible apply WithinO.next
    | with_reducible apply WithinO.fault
    | (with_reducible apply Within.via (l := 138244259906) (m := 138244259906) (hm := by decide)); (case h => with_reducible apply State.polderWrite_within)
    | split

theorem execSynthLock_within (n : Fin 32) (clk10 : Bool) (s : State) :
    WithinO 805306368 s (execSynthLock n clk10 s) := by
  unfold execSynthLock
  repeat'
    first
    | with_reducible apply Within.refl
    | with_reducible assumption
    | (extract_lets +onlyGivenNames x; refine Within.cut (l := 805306368) (r := s) (x := x) ?_ ?_; rotate_left; (try clear_value x); intro _; rotate_right; subst x)
    | (extract_lets +onlyGivenNames x; try clear_value x)
    | with_reducible apply WithinO.next
    | with_reducible apply WithinO.fault
    | (with_reducible apply Within.via (l := 805306368) (m := 536870912) (hm := by decide)); (case h => with_reducible apply State.polderRefresh_within)
    | (with_reducible apply Within.via (l := 805306368) (m := 268435456) (hm := by decide)); (case h => with_reducible apply State.setSyn_within)
    | split

theorem State.slewMove_within (s : State) (n : Nat) :
    Within 268435522 s (State.slewMove s n) := by
  unfold State.slewMove
  repeat'
    first
    | with_reducible apply Within.refl
    | with_reducible assumption
    | (extract_lets +onlyGivenNames x; refine Within.cut (l := 268435522) (r := s) (x := x) ?_ ?_; rotate_left; (try clear_value x); intro _; rotate_right; subst x)
    | (extract_lets +onlyGivenNames x; try clear_value x)
    | (with_reducible apply Within.via (l := 268435522) (m := 268435456) (hm := by decide)); (case h => with_reducible apply State.setSyn_within)
    | (with_reducible apply Within.via (l := 268435522) (m := 268435522) (hm := by decide)); (case h => with_reducible apply State.slewEnd_within)
    | split

theorem execSynthAlignmentPoint_within (n : Fin 32) (s : State) :
    WithinO 268435522 s (execSynthAlignmentPoint n s) := by
  unfold execSynthAlignmentPoint
  repeat'
    first
    | with_reducible apply Within.refl
    | with_reducible assumption
    | (extract_lets +onlyGivenNames x; refine Within.cut (l := 268435522) (r := s) (x := x) ?_ ?_; rotate_left; (try clear_value x); intro _; rotate_right; subst x)
    | (extract_lets +onlyGivenNames x; try clear_value x)
    | with_reducible apply WithinO.next
    | with_reducible apply WithinO.fault
    | (with_reducible apply Within.via (l := 268435522) (m := 268435522) (hm := by decide)); (case h => with_reducible apply State.relockBegin_within)
    | (with_reducible apply Within.via (l := 268435522) (m := 268435456) (hm := by decide)); (case h => with_reducible apply State.setSyn_within)
    | (with_reducible apply Within.via (l := 268435522) (m := 268435522) (hm := by decide)); (case h => with_reducible apply State.slewMove_within)
    | (with_reducible apply Within.via (l := 268435522) (m := 66) (hm := by decide)); (case h => with_reducible apply State.synRaise_within)
    | (with_reducible apply Within.via (l := 268435522) (m := 268435456) (hm := by decide)); (case h => with_reducible apply State.updSyn_within)
    | split

theorem execSlewStep_within (n : Fin 32) (s : State) :
    WithinO 268435522 s (execSlewStep n s) := by
  unfold execSlewStep
  repeat'
    first
    | with_reducible apply Within.refl
    | with_reducible assumption
    | (extract_lets +onlyGivenNames x; refine Within.cut (l := 268435522) (r := s) (x := x) ?_ ?_; rotate_left; (try clear_value x); intro _; rotate_right; subst x)
    | (extract_lets +onlyGivenNames x; try clear_value x)
    | with_reducible apply WithinO.next
    | with_reducible apply WithinO.fault
    | (with_reducible apply Within.via (l := 268435522) (m := 268435522) (hm := by decide)); (case h => with_reducible apply State.slewMove_within)
    | split

theorem execRelock_within (n : Fin 32) (s : State) :
    WithinO 805306434 s (execRelock n s) := by
  unfold execRelock
  repeat'
    first
    | with_reducible apply Within.refl
    | with_reducible assumption
    | (extract_lets +onlyGivenNames x; refine Within.cut (l := 805306434) (r := s) (x := x) ?_ ?_; rotate_left; (try clear_value x); intro _; rotate_right; subst x)
    | (extract_lets +onlyGivenNames x; try clear_value x)
    | with_reducible apply WithinO.next
    | with_reducible apply WithinO.fault
    | ((with_reducible apply Within.fold); (rotate_left; intro _ _ _; rotate_right))
    | (with_reducible apply Within.via (l := 805306434) (m := 536870912) (hm := by decide)); (case h => with_reducible apply State.setPolder_within)
    | (with_reducible apply Within.via (l := 805306434) (m := 268435456) (hm := by decide)); (case h => with_reducible apply State.setSyn_within)
    | (with_reducible apply Within.via (l := 805306434) (m := 66) (hm := by decide)); (case h => with_reducible apply State.synRaise_within)
    | split

theorem execSourceSwitch_within (n : Fin 32) (clk10 : Bool) (s : State) :
    WithinO 268435522 s (execSourceSwitch n clk10 s) := by
  unfold execSourceSwitch
  repeat'
    first
    | with_reducible apply Within.refl
    | with_reducible assumption
    | (extract_lets +onlyGivenNames x; refine Within.cut (l := 268435522) (r := s) (x := x) ?_ ?_; rotate_left; (try clear_value x); intro _; rotate_right; subst x)
    | (extract_lets +onlyGivenNames x; try clear_value x)
    | with_reducible apply WithinO.next
    | with_reducible apply WithinO.fault
    | (with_reducible apply Within.via (l := 268435522) (m := 268435456) (hm := by decide)); (case h => with_reducible apply State.setSyn_within)
    | (with_reducible apply Within.via (l := 268435522) (m := 268435522) (hm := by decide)); (case h => with_reducible apply State.slewEnd_within)
    | (with_reducible apply Within.via (l := 268435522) (m := 66) (hm := by decide)); (case h => with_reducible apply State.synRaise_within)
    | split

theorem execSynthRevert_within (n : Fin 32) (clk10 : Bool) (s : State) :
    WithinO 268435522 s (execSynthRevert n clk10 s) := by
  unfold execSynthRevert
  repeat'
    first
    | with_reducible apply Within.refl
    | with_reducible assumption
    | (extract_lets +onlyGivenNames x; refine Within.cut (l := 268435522) (r := s) (x := x) ?_ ?_; rotate_left; (try clear_value x); intro _; rotate_right; subst x)
    | (extract_lets +onlyGivenNames x; try clear_value x)
    | with_reducible apply WithinO.next
    | with_reducible apply WithinO.fault
    | (with_reducible apply Within.via (l := 268435522) (m := 268435522) (hm := by decide)); (case h => with_reducible apply State.slewEnd_within)
    | (with_reducible apply Within.via (l := 268435522) (m := 66) (hm := by decide)); (case h => with_reducible apply State.synRaise_within)
    | (with_reducible apply Within.via (l := 268435522) (m := 268435456) (hm := by decide)); (case h => with_reducible apply State.updSyn_within)
    | split

end Sys2Proof.Machine
end

