-- ==== Sys2Proof/Laws/FrameMgmt.lean ====
section
/-!
SUPPORT. Laws/FrameMgmt.lean: what each function of Machine/Mgmt.lean can touch.
-/
set_option linter.unusedTactic false
set_option linter.unreachableTactic false
set_option linter.tactic.unusedName false

namespace Sys2Proof.Machine

theorem State.mgRaise_within (s : State) (bit code : Nat) (d : List (Nat × Nat × Nat)) :
    Within 66 s (State.mgRaise s bit code d) := by
  unfold State.mgRaise
  repeat'
    first
    | with_reducible apply Within.refl
    | with_reducible assumption
    | (with_reducible apply Within.via (l := 66) (m := 66) (hm := by decide)); (case h => with_reducible apply State.raise_within)
    | split

theorem Mg.setPair_serving (m : Mg) (p : Nat) (v : Pair) : (m.setPair p v).serving = m.serving := by
  unfold Mg.setPair; split <;> rfl
theorem Mg.setSlot_serving (m : Mg) (p : Nat) (v : Slot48) : (m.setSlot p v).serving = m.serving := by
  unfold Mg.setSlot; split <;> rfl

theorem State.setPair_within (s : State) (p : Nat) (v : Pair) : Within 34359738368 s (s.setPair p v) :=
  State.updMg_via (s := s) (fun _ hx => (Mg.setPair_serving ..).trans_le hx) (by decide) (Within.refl _ _)

theorem State.updMoult_within (s : State) (f : Moult → Moult) :
    Within 34359738368 s (State.updMoult s f) := by
  unfold State.updMoult
  repeat'
    first
    | with_reducible apply Within.refl
    | with_reducible assumption
    | (with_reducible apply State.updMg_via (l := 34359738368) (hm := by decide)); (case h => intro x hx; first | exact hx | exact (Mg.setPair_serving ..).trans_le hx | exact (Mg.setSlot_serving ..).trans_le hx)
    | split

theorem State.reportBreach_within (s : State) :
    Within 68719476802 s (State.reportBreach s) := by
  unfold State.reportBreach
  repeat'
    first
    | with_reducible apply Within.refl
    | with_reducible assumption
    | (with_reducible apply State.updCoc_via (l := 68719476802) (hm := by decide))
    | (with_reducible apply Within.via (l := 68719476802) (m := 66) (hm := by decide)); (case h => with_reducible apply State.cocRaise_within)
    | split

theorem State.setPower_within (s : State) (st : Nat) :
    Within 68719476802 s (State.setPower s st) := by
  unfold State.setPower
  repeat'
    first
    | with_reducible apply Within.refl
    | with_reducible assumption
    | (extract_lets +onlyGivenNames x; refine Within.cut (l := 68719476802) (r := s) (x := x) ?_ ?_; rotate_left; (try clear_value x); intro _; rotate_right; subst x)
    | (extract_lets +onlyGivenNames x; try clear_value x)
    | (with_reducible apply Within.via (l := 68719476802) (m := 66) (hm := by decide)); (case h => with_reducible apply State.lvRaise_within)
    | (with_reducible apply Within.via (l := 68719476802) (m := 66) (hm := by decide)); (case h => with_reducible apply State.powerTo_within)
    | (with_reducible apply Within.via (l := 68719476802) (m := 68719476802) (hm := by decide)); (case h => with_reducible apply State.reportBreach_within)
    | split

theorem State.moultTo_within (s : State) (st : MoultState) (reason : Nat) :
    Within 34359738432 s (State.moultTo s st reason) := by
  unfold State.moultTo
  repeat'
    first
    | with_reducible apply Within.refl
    | with_reducible assumption
    | (extract_lets +onlyGivenNames x; refine Within.cut (l := 34359738432) (r := s) (x := x) ?_ ?_; rotate_left; (try clear_value x); intro _; rotate_right; subst x)
    | (extract_lets +onlyGivenNames x; try clear_value x)
    | (with_reducible apply Within.via (l := 34359738432) (m := 64) (hm := by decide)); (case h => with_reducible apply State.occur_within)
    | (with_reducible apply Within.via (l := 34359738432) (m := 34359738368) (hm := by decide)); (case h => with_reducible apply State.updMoult_within)
    | split

theorem State.drain_within (s : State) (burst : Bool) :
    Within 2 s (State.drain s burst) := by
  unfold State.drain
  repeat'
    first
    | with_reducible apply Within.refl
    | with_reducible assumption
    | (with_reducible apply Within.via (l := 2) (m := 2) (hm := by decide)); (case h => with_reducible apply State.count_within)
    | split

theorem State.pairReset_within (s : State) (p bit : Nat) (st : PairState) (staged : Bool) :
    Within 34359738434 s (State.pairReset s p bit st staged) := by
  unfold State.pairReset
  repeat'
    first
    | with_reducible apply Within.refl
    | with_reducible assumption
    | (extract_lets +onlyGivenNames x; refine Within.cut (l := 34359738434) (r := s) (x := x) ?_ ?_; rotate_left; (try clear_value x); intro _; rotate_right; subst x)
    | (extract_lets +onlyGivenNames x; try clear_value x)
    | (with_reducible apply Within.via (l := 34359738434) (m := 2) (hm := by decide)); (case h => with_reducible apply State.count_within)
    | (with_reducible apply Within.via (l := 34359738434) (m := 66) (hm := by decide)); (case h => with_reducible apply State.mgRaise_within)
    | (with_reducible apply Within.via (l := 34359738434) (m := 34359738368) (hm := by decide)); (case h => with_reducible apply State.setPair_within)
    | split

theorem State.takeOver_within (s : State) (p : Nat) (hp : p ≤ 1) : Within 34359738434 s (s.takeOver p) := by
  unfold State.takeOver
  extract_lets x
  have h : Within 34359738434 s x := State.updMg_via (s := s) (fun _ _ => hp) (by decide) (Within.refl _ _)
  exact (State.mgRaise_within _ _ _ _).via (by decide) h

theorem State.afterReset_within (s : State) (p : Nat) (m : Mg) : Within 34359738434 s (s.afterReset p m) := by
  unfold State.afterReset
  extract_lets st o
  have ho : o ≤ 1 := Nat.sub_le ..
  split
  · split
    · exact (State.updMoult_within _ _).via (by decide) (State.takeOver_within s o ho)
    · split
      · exact State.takeOver_within s o ho
      · exact Within.refl _ _
  · split
    · exact (State.moultTo_within _ _ _).mono (by decide)
    · exact Within.refl _ _

theorem State.resetPair_within (s : State) (p bit : Nat) (burst : Bool) :
    Within 34359738434 s (State.resetPair s p bit burst) := by
  unfold State.resetPair
  repeat'
    first
    | with_reducible apply Within.refl
    | with_reducible assumption
    | (with_reducible apply Within.via (l := 34359738434) (m := 34359738434) (hm := by decide)); (case h => with_reducible apply State.afterReset_within)
    | (with_reducible apply Within.via (l := 34359738434) (m := 2) (hm := by decide)); (case h => with_reducible apply State.drain_within)
    | (with_reducible apply Within.via (l := 34359738434) (m := 34359738434) (hm := by decide)); (case h => with_reducible apply State.pairReset_within)
    | split

theorem execMgmtWatchdog_within (p : Fin 2) (burst : Bool) (s : State) :
    WithinO 34359738434 s (execMgmtWatchdog p burst s) := by
  unfold execMgmtWatchdog
  repeat'
    first
    | with_reducible apply Within.refl
    | with_reducible assumption
    | with_reducible apply WithinO.next
    | with_reducible apply WithinO.fault
    | (with_reducible apply Within.via (l := 34359738434) (m := 34359738434) (hm := by decide)); (case h => with_reducible apply State.resetPair_within)
    | split

theorem execLockstepMismatch_within (p : Fin 2) (burst : Bool) (s : State) :
    WithinO 34359738434 s (execLockstepMismatch p burst s) := by
  unfold execLockstepMismatch
  repeat'
    first
    | with_reducible apply Within.refl
    | with_reducible assumption
    | with_reducible apply WithinO.next
    | with_reducible apply WithinO.fault
    | (with_reducible apply Within.via (l := 34359738434) (m := 34359738434) (hm := by decide)); (case h => with_reducible apply State.resetPair_within)
    | split

theorem State.pairRuns_within (s : State) (p slot : Nat) (hp : p ≤ 1) : Within 103079215170 s (s.pairRuns p slot) := by
  unfold State.pairRuns
  extract_lets served serve src x st
  have h : Within 103079215170 s x := State.updMg_via (s := s) (fun y hy => by show (if serve = true then p else y.serving) ≤ 1; split; exacts [hp, hy])
    (by decide) (Within.refl _ _)
  clear_value x
  split
  · exact (State.setPower_within _ _).via (by decide) h
  · exact h

theorem State.bootBySeq_within (s : State) (p : Nat) (bad : Nat → Bool) (hp : p ≤ 1) : Within 103079215170 s (s.bootBySeq p bad) := by
  unfold State.bootBySeq
  split
  · exact (State.pairRuns_within _ _ _ hp).mono (by decide)
  · exact State.updMg_via (s := s) (fun _ hx => (Mg.setPair_serving ..).trans_le hx) (by decide) (Within.refl _ _)

theorem execPairBoot_within (p : Fin 2) (badA badB : Bool) (s : State) : WithinO 103079215170 s (execPairBoot p badA badB s) := by
  have hp : p.val ≤ 1 := Nat.le_of_lt_succ p.isLt
  unfold execPairBoot
  refine .next ?_
  extract_lets t dead s1 s2
  have h1 : Within 103079215170 s s1 := (State.pairRuns_within _ _ _ hp).mono (by decide)
  have h2 : Within 103079215170 s s2 := (State.bootBySeq_within _ _ _ hp).mono (by decide)
  split
  · exact Within.refl _ _
  · split
    · split
      · split
        · exact (State.moultTo_within _ _ _).via (by decide) h1
        · exact (State.moultTo_within _ _ _).via (by decide) h1
      · exact (State.bootBySeq_within _ _ _ hp).via (by decide) ((State.moultTo_within _ _ _).mono (by decide))
    · split
      · split
        · exact (State.moultTo_within _ _ _).via (by decide) ((State.updMoult_within _ _).via (by decide) h2)
        · exact h2
      · exact h2

theorem State.moultStage_within (s : State) :
    Within 34359738432 s (State.moultStage s) := by
  unfold State.moultStage
  repeat'
    first
    | with_reducible apply Within.refl
    | with_reducible assumption
    | (extract_lets +onlyGivenNames x; refine Within.cut (l := 34359738432) (r := s) (x := x) ?_ ?_; rotate_left; (try clear_value x); intro _; rotate_right; subst x)
    | (extract_lets +onlyGivenNames x; try clear_value x)
    | (with_reducible apply State.updMg_via (l := 34359738432) (hm := by decide)); (case h => intro x hx; first | exact hx | exact (Mg.setPair_serving ..).trans_le hx | exact (Mg.setSlot_serving ..).trans_le hx)
    | (with_reducible apply Within.via (l := 34359738432) (m := 34359738432) (hm := by decide)); (case h => with_reducible apply State.moultTo_within)
    | (with_reducible apply Within.via (l := 34359738432) (m := 34359738368) (hm := by decide)); (case h => with_reducible apply State.updMoult_within)
    | split

theorem execMoultStage_within (s : State) :
    WithinO 34359738432 s (execMoultStage s) := by
  unfold execMoultStage
  repeat'
    first
    | with_reducible apply Within.refl
    | with_reducible assumption
    | with_reducible apply WithinO.next
    | with_reducible apply WithinO.fault
    | (with_reducible apply Within.via (l := 34359738432) (m := 34359738432) (hm := by decide)); (case h => with_reducible apply State.moultStage_within)
    | split

theorem execMoultStageDone_within (x : StagedImage) (s : State) :
    WithinO 34359738434 s (execMoultStageDone x s) := by
  unfold execMoultStageDone
  repeat'
    first
    | with_reducible apply Within.refl
    | with_reducible assumption
    | (extract_lets +onlyGivenNames x; refine Within.cut (l := 34359738434) (r := s) (x := x) ?_ ?_; rotate_left; (try clear_value x); intro _; rotate_right; subst x)
    | (extract_lets +onlyGivenNames x; try clear_value x)
    | with_reducible apply WithinO.next
    | with_reducible apply WithinO.fault
    | (with_reducible apply State.updMg_via (l := 34359738434) (hm := by decide)); (case h => intro x hx; first | exact hx | exact (Mg.setPair_serving ..).trans_le hx | exact (Mg.setSlot_serving ..).trans_le hx)
    | (with_reducible apply Within.via (l := 34359738434) (m := 34359738432) (hm := by decide)); (case h => with_reducible apply State.moultTo_within)
    | (with_reducible apply Within.via (l := 34359738434) (m := 34359738434) (hm := by decide)); (case h => with_reducible apply State.pairReset_within)
    | (with_reducible apply Within.via (l := 34359738434) (m := 34359738368) (hm := by decide)); (case h => with_reducible apply State.updMoult_within)
    | split

theorem State.moultGo_within (s : State) :
    Within 34359738432 s (State.moultGo s) := by
  unfold State.moultGo
  repeat'
    first
    | with_reducible apply Within.refl
    | with_reducible assumption
    | (extract_lets +onlyGivenNames x; refine Within.cut (l := 34359738432) (r := s) (x := x) ?_ ?_; rotate_left; (try clear_value x); intro _; rotate_right; subst x)
    | (extract_lets +onlyGivenNames x; try clear_value x)
    | (with_reducible apply Within.via (l := 34359738432) (m := 34359738432) (hm := by decide)); (case h => with_reducible apply State.moultTo_within)
    | split

theorem execMoultGo_within (s : State) :
    WithinO 34359738432 s (execMoultGo s) := by
  unfold execMoultGo
  repeat'
    first
    | with_reducible apply Within.refl
    | with_reducible assumption
    | with_reducible apply WithinO.next
    | with_reducible apply WithinO.fault
    | (with_reducible apply Within.via (l := 34359738432) (m := 34359738432) (hm := by decide)); (case h => with_reducible apply State.moultGo_within)
    | split

theorem State.swapPairs_within (s : State) : Within 34359738368 s s.swapPairs :=
  State.updMg_via (s := s) (fun _ _ => Nat.sub_le ..) (by decide) (Within.refl _ _)

theorem execQuietPoint_within (s : State) :
    WithinO 34359738434 s (execQuietPoint s) := by
  unfold execQuietPoint
  repeat'
    first
    | with_reducible apply Within.refl
    | with_reducible assumption
    | (extract_lets +onlyGivenNames x; refine Within.cut (l := 34359738434) (r := s) (x := x) ?_ ?_; rotate_left; (try clear_value x); intro _; rotate_right; subst x)
    | (extract_lets +onlyGivenNames x; try clear_value x)
    | with_reducible apply WithinO.next
    | with_reducible apply WithinO.fault
    | (with_reducible apply Within.via (l := 34359738434) (m := 34359738432) (hm := by decide)); (case h => with_reducible apply State.moultTo_within)
    | (with_reducible apply Within.via (l := 34359738434) (m := 34359738434) (hm := by decide)); (case h => with_reducible apply State.pairReset_within)
    | (with_reducible apply Within.via (l := 34359738434) (m := 34359738368) (hm := by decide)); (case h => with_reducible apply State.swapPairs_within)
    | (with_reducible apply Within.via (l := 34359738434) (m := 34359738368) (hm := by decide)); (case h => with_reducible apply State.updMoult_within)
    | split

theorem execQuietTimeout_within (s : State) :
    WithinO 34359738432 s (execQuietTimeout s) := by
  unfold execQuietTimeout
  repeat'
    first
    | with_reducible apply Within.refl
    | with_reducible assumption
    | (extract_lets +onlyGivenNames x; refine Within.cut (l := 34359738432) (r := s) (x := x) ?_ ?_; rotate_left; (try clear_value x); intro _; rotate_right; subst x)
    | (extract_lets +onlyGivenNames x; try clear_value x)
    | with_reducible apply WithinO.next
    | with_reducible apply WithinO.fault
    | (with_reducible apply Within.via (l := 34359738432) (m := 34359738432) (hm := by decide)); (case h => with_reducible apply State.moultTo_within)
    | split

theorem State.moultCommit_within (s : State) :
    Within 34359738434 s (State.moultCommit s) := by
  unfold State.moultCommit
  repeat'
    first
    | with_reducible apply Within.refl
    | with_reducible assumption
    | (extract_lets +onlyGivenNames x; refine Within.cut (l := 34359738434) (r := s) (x := x) ?_ ?_; rotate_left; (try clear_value x); intro _; rotate_right; subst x)
    | (extract_lets +onlyGivenNames x; try clear_value x)
    | (with_reducible apply State.updMg_via (l := 34359738434) (hm := by decide)); (case h => intro x hx; first | exact hx | exact (Mg.setPair_serving ..).trans_le hx | exact (Mg.setSlot_serving ..).trans_le hx)
    | (with_reducible apply Within.via (l := 34359738434) (m := 34359738432) (hm := by decide)); (case h => with_reducible apply State.moultTo_within)
    | (with_reducible apply Within.via (l := 34359738434) (m := 34359738434) (hm := by decide)); (case h => with_reducible apply State.pairReset_within)
    | (with_reducible apply Within.via (l := 34359738434) (m := 34359738368) (hm := by decide)); (case h => with_reducible apply State.updMoult_within)
    | split

theorem execMoultCommit_within (s : State) :
    WithinO 34359738434 s (execMoultCommit s) := by
  unfold execMoultCommit
  repeat'
    first
    | with_reducible apply Within.refl
    | with_reducible assumption
    | with_reducible apply WithinO.next
    | with_reducible apply WithinO.fault
    | (with_reducible apply Within.via (l := 34359738434) (m := 34359738434) (hm := by decide)); (case h => with_reducible apply State.moultCommit_within)
    | split

theorem State.moultRollback_within (s : State) :
    Within 34359738368 s (State.moultRollback s) := by
  unfold State.moultRollback
  repeat'
    first
    | with_reducible apply Within.refl
    | with_reducible assumption
    | (extract_lets +onlyGivenNames x; refine Within.cut (l := 34359738368) (r := s) (x := x) ?_ ?_; rotate_left; (try clear_value x); intro _; rotate_right; subst x)
    | (extract_lets +onlyGivenNames x; try clear_value x)
    | (with_reducible apply Within.via (l := 34359738368) (m := 34359738368) (hm := by decide)); (case h => with_reducible apply State.updMoult_within)
    | split

theorem execMoultRollback_within (s : State) :
    WithinO 34359738368 s (execMoultRollback s) := by
  unfold execMoultRollback
  repeat'
    first
    | with_reducible apply Within.refl
    | with_reducible assumption
    | with_reducible apply WithinO.next
    | with_reducible apply WithinO.fault
    | (with_reducible apply Within.via (l := 34359738368) (m := 34359738368) (hm := by decide)); (case h => with_reducible apply State.moultRollback_within)
    | split

theorem execProbationExpiry_within (s : State) :
    WithinO 34359738434 s (execProbationExpiry s) := by
  unfold execProbationExpiry
  repeat'
    first
    | with_reducible apply Within.refl
    | with_reducible assumption
    | with_reducible apply WithinO.next
    | with_reducible apply WithinO.fault
    | (with_reducible apply Within.via (l := 34359738434) (m := 34359738434) (hm := by decide)); (case h => with_reducible apply State.moultCommit_within)
    | split

theorem State.fuseArm_within (s : State) :
    Within 34359738368 s (State.fuseArm s) := by
  unfold State.fuseArm
  repeat'
    first
    | with_reducible apply Within.refl
    | with_reducible assumption
    | (with_reducible apply State.updMg_via (l := 34359738368) (hm := by decide)); (case h => intro x hx; first | exact hx | exact (Mg.setPair_serving ..).trans_le hx | exact (Mg.setSlot_serving ..).trans_le hx)
    | split

theorem execFuseArm_within (s : State) :
    WithinO 34359738368 s (execFuseArm s) := by
  unfold execFuseArm
  repeat'
    first
    | with_reducible apply Within.refl
    | with_reducible assumption
    | with_reducible apply WithinO.next
    | with_reducible apply WithinO.fault
    | (with_reducible apply Within.via (l := 34359738368) (m := 34359738368) (hm := by decide)); (case h => with_reducible apply State.fuseArm_within)
    | split

theorem State.fuseBlow_within (s : State) :
    Within 34359738368 s (State.fuseBlow s) := by
  unfold State.fuseBlow
  repeat'
    first
    | with_reducible apply Within.refl
    | with_reducible assumption
    | (extract_lets +onlyGivenNames x; refine Within.cut (l := 34359738368) (r := s) (x := x) ?_ ?_; rotate_left; (try clear_value x); intro _; rotate_right; subst x)
    | (extract_lets +onlyGivenNames x; try clear_value x)
    | (with_reducible apply State.updMg_via (l := 34359738368) (hm := by decide)); (case h => intro x hx; first | exact hx | exact (Mg.setPair_serving ..).trans_le hx | exact (Mg.setSlot_serving ..).trans_le hx)
    | split

theorem execFuseBlow_within (s : State) :
    WithinO 34359738368 s (execFuseBlow s) := by
  unfold execFuseBlow
  repeat'
    first
    | with_reducible apply Within.refl
    | with_reducible assumption
    | with_reducible apply WithinO.next
    | with_reducible apply WithinO.fault
    | (with_reducible apply Within.via (l := 34359738368) (m := 34359738368) (hm := by decide)); (case h => with_reducible apply State.fuseBlow_within)
    | split

theorem execJ4Disconnect_within (burst : Bool) (s : State) :
    WithinO 2 s (execJ4Disconnect burst s) := by
  unfold execJ4Disconnect
  repeat'
    first
    | with_reducible apply Within.refl
    | with_reducible assumption
    | with_reducible apply WithinO.next
    | with_reducible apply WithinO.fault
    | (with_reducible apply Within.via (l := 2) (m := 2) (hm := by decide)); (case h => with_reducible apply State.drain_within)
    | split

end Sys2Proof.Machine
end

