-- ==== Sys2Proof/Laws/FrameBreach.lean ====
section
/-!
SUPPORT. Laws/FrameBreach.lean: what each function of Machine/Breach.lean can touch.
-/
set_option linter.unusedTactic false
set_option linter.unreachableTactic false
set_option linter.tactic.unusedName false

namespace Sys2Proof.Machine

theorem State.abortOps_within (s : State) :
    Within 68727997530 s (State.abortOps s) := by
  unfold State.abortOps
  repeat'
    first
    | with_reducible apply Within.refl
    | with_reducible assumption
    | (extract_lets +onlyGivenNames x; refine Within.cut (l := 68727997530) (r := s) (x := x) ?_ ?_; rotate_left; (try clear_value x); intro _; rotate_right; subst x)
    | (extract_lets +onlyGivenNames x; try clear_value x)
    | ((with_reducible apply Within.fold); (rotate_left; intro _ _ _; rotate_right))
    | (with_reducible apply Within.via (l := 68727997530) (m := 68719608856) (hm := by decide)); (case h => with_reducible apply State.dikeFail_within)
    | (with_reducible apply Within.via (l := 68727997530) (m := 8388682) (hm := by decide)); (case h => with_reducible apply State.leaveRet_within)
    | split

theorem State.freezeDikes_within (s : State) :
    Within 2147483648 s (State.freezeDikes s) := by
  unfold State.freezeDikes
  repeat'
    first
    | with_reducible apply Within.refl
    | with_reducible assumption
    | (extract_lets +onlyGivenNames x; refine Within.cut (l := 2147483648) (r := s) (x := x) ?_ ?_; rotate_left; (try clear_value x); intro _; rotate_right; subst x)
    | (extract_lets +onlyGivenNames x; try clear_value x)
    | ((with_reducible apply Within.fold); (rotate_left; intro _ _ _; rotate_right))
    | (with_reducible apply Within.via (l := 2147483648) (m := 2147483648) (hm := by decide)); (case h => with_reducible apply State.setDike_within)
    | split

theorem State.stopSeals_within (s : State) :
    Within 8589935696 s (State.stopSeals s) := by
  unfold State.stopSeals
  repeat'
    first
    | with_reducible apply Within.refl
    | with_reducible assumption
    | (extract_lets +onlyGivenNames x; refine Within.cut (l := 8589935696) (r := s) (x := x) ?_ ?_; rotate_left; (try clear_value x); intro _; rotate_right; subst x)
    | (extract_lets +onlyGivenNames x; try clear_value x)
    | ((with_reducible apply Within.fold); (rotate_left; intro _ _ _; rotate_right))
    | (with_reducible apply State.updPsn_via (m := 8589934592) (l := 8589935696) (hm := by decide)); (case hdikes => exact (fun _ _ => rfl)); (case hpinSense => exact (fun _ _ => rfl)); (case hseals => exact (fun h => absurd h (by decide)))
    | (with_reducible apply Within.via (l := 8589935696) (m := 1040) (hm := by decide)); (case h => with_reducible apply State.completeAt_within)
    | (with_reducible apply Within.via (l := 8589935696) (m := 64) (hm := by decide)); (case h => with_reducible apply State.occur_within)
    | (with_reducible apply Within.via (l := 8589935696) (m := 8589934592) (hm := by decide)); (case h => with_reducible apply State.setChain_within)
    | split

theorem State.dropPriv_within (s : State) :
    Within 16 s (State.dropPriv s) := by
  unfold State.dropPriv
  repeat'
    first
    | with_reducible apply Within.refl
    | with_reducible assumption
    | ((with_reducible apply Within.fold); (rotate_left; intro _ _ _; rotate_right))
    | (with_reducible apply Within.via (l := 16) (m := 16) (hm := by decide)); (case h => with_reducible apply State.setSq_within)
    | split

theorem State.latchBreach_within (s : State) (cause aon : Nat) :
    Within 68753031170 s (State.latchBreach s cause aon) := by
  unfold State.latchBreach
  repeat'
    first
    | with_reducible apply Within.refl
    | with_reducible assumption
    | (extract_lets +onlyGivenNames x; refine Within.cut (l := 68753031170) (r := s) (x := x) ?_ ?_; rotate_left; (try clear_value x); intro _; rotate_right; subst x)
    | (extract_lets +onlyGivenNames x; try clear_value x)
    | (with_reducible apply State.updLv_via (m := 33554432) (l := 68753031170) (hm := by decide)); (case hleave => exact (fun _ _ => rfl)); (case hlimits => exact (fun _ _ => rfl)); (case hsheds => exact (fun h => absurd h (by decide))); (case cpowFree => exact (fun _ => rfl)); (case cfetFree => exact (fun _ => rfl)); (case cthermal => exact (fun _ => rfl)); (case cband => exact (fun _ => rfl))
    | (with_reducible apply State.updCoc_via (l := 68753031170) (hm := by decide))
    | (with_reducible apply Within.via (l := 68753031170) (m := 2) (hm := by decide)); (case h => with_reducible apply State.fset_within)
    | (with_reducible apply Within.via (l := 68753031170) (m := 2) (hm := by decide)); (case h => with_reducible apply State.wr_within)
    | split

theorem State.breach_within (s : State) (cause : Nat) :
    Within 216937923674 s (State.breach s cause) := by
  unfold State.breach
  repeat'
    first
    | with_reducible apply Within.refl
    | with_reducible assumption
    | (extract_lets +onlyGivenNames x; refine Within.cut (l := 216937923674) (r := s) (x := x) ?_ ?_; rotate_left; (try clear_value x); intro _; rotate_right; subst x)
    | (extract_lets +onlyGivenNames x; try clear_value x)
    | (with_reducible apply State.updCoc_via (l := 216937923674) (hm := by decide))
    | (with_reducible apply Within.via (l := 216937923674) (m := 68727997530) (hm := by decide)); (case h => with_reducible apply State.abortOps_within)
    | (with_reducible apply Within.via (l := 216937923674) (m := 66) (hm := by decide)); (case h => with_reducible apply State.cocRaise_within)
    | (with_reducible apply Within.via (l := 216937923674) (m := 16) (hm := by decide)); (case h => with_reducible apply State.dropPriv_within)
    | (with_reducible apply Within.via (l := 216937923674) (m := 137438953472) (hm := by decide)); (case h => with_reducible apply State.eraseSecrets_within)
    | (with_reducible apply Within.via (l := 216937923674) (m := 2147483648) (hm := by decide)); (case h => with_reducible apply State.freezeDikes_within)
    | (with_reducible apply Within.via (l := 216937923674) (m := 68753031170) (hm := by decide)); (case h => with_reducible apply State.latchBreach_within)
    | (with_reducible apply Within.via (l := 216937923674) (m := 8589935696) (hm := by decide)); (case h => with_reducible apply State.stopSeals_within)
    | split

theorem execBreach_within (cause : BitVec 6) (s : State) :
    WithinO 216937923674 s (execBreach cause s) := by
  unfold execBreach
  repeat'
    first
    | with_reducible apply Within.refl
    | with_reducible assumption
    | (extract_lets +onlyGivenNames x; refine Within.cut (l := 216937923674) (r := s) (x := x) ?_ ?_; rotate_left; (try clear_value x); intro _; rotate_right; subst x)
    | (extract_lets +onlyGivenNames x; try clear_value x)
    | with_reducible apply WithinO.next
    | with_reducible apply WithinO.fault
    | (with_reducible apply State.updCoc_via (l := 216937923674) (hm := by decide))
    | (with_reducible apply Within.via (l := 216937923674) (m := 216937923674) (hm := by decide)); (case h => with_reducible apply State.breach_within)
    | split

theorem State.breachAck_within (s : State) :
    Within 68719476736 s (State.breachAck s) := by
  unfold State.breachAck
  repeat'
    first
    | with_reducible apply Within.refl
    | with_reducible assumption
    | (with_reducible apply State.updCoc_via (l := 68719476736) (hm := by decide))
    | split

theorem execBreachAck_within (live : BitVec 6) (s : State) :
    WithinO 68719476736 s (execBreachAck live s) := by
  unfold execBreachAck
  repeat'
    first
    | with_reducible apply Within.refl
    | with_reducible assumption
    | with_reducible apply WithinO.next
    | with_reducible apply WithinO.fault
    | (with_reducible apply State.updCoc_via (l := 68719476736) (hm := by decide))
    | (with_reducible apply Within.via (l := 68719476736) (m := 68719476736) (hm := by decide)); (case h => with_reducible apply State.breachAck_within)
    | split

theorem execAonMapping_within (s : State) :
    WithinO 68719476738 s (execAonMapping s) := by
  unfold execAonMapping
  repeat'
    first
    | with_reducible apply Within.refl
    | with_reducible assumption
    | (extract_lets +onlyGivenNames x; refine Within.cut (l := 68719476738) (r := s) (x := x) ?_ ?_; rotate_left; (try clear_value x); intro _; rotate_right; subst x)
    | (extract_lets +onlyGivenNames x; try clear_value x)
    | with_reducible apply WithinO.next
    | with_reducible apply WithinO.fault
    | (with_reducible apply State.updCoc_via (l := 68719476738) (hm := by decide))
    | (with_reducible apply Within.via (l := 68719476738) (m := 2) (hm := by decide)); (case h => with_reducible apply State.wr_within)
    | split

theorem State.batt_within (s : State) (mv : Nat) (present : Bool) :
    Within 68719476802 s (State.batt s mv present) := by
  unfold State.batt
  repeat'
    first
    | with_reducible apply Within.refl
    | with_reducible assumption
    | (extract_lets +onlyGivenNames x; refine Within.cut (l := 68719476802) (r := s) (x := x) ?_ ?_; rotate_left; (try clear_value x); intro _; rotate_right; subst x)
    | (extract_lets +onlyGivenNames x; try clear_value x)
    | (with_reducible apply State.updCoc_via (l := 68719476802) (hm := by decide))
    | (with_reducible apply Within.via (l := 68719476802) (m := 66) (hm := by decide)); (case h => with_reducible apply State.cocRaise_within)
    | (with_reducible apply Within.via (l := 68719476802) (m := 2) (hm := by decide)); (case h => with_reducible apply State.wr_within)
    | split

theorem execBattMeasure_within (mv : BitVec 12) (present : Bool) (s : State) :
    WithinO 68719476802 s (execBattMeasure mv present s) := by
  unfold execBattMeasure
  repeat'
    first
    | with_reducible apply Within.refl
    | with_reducible assumption
    | with_reducible apply WithinO.next
    | with_reducible apply WithinO.fault
    | (with_reducible apply Within.via (l := 68719476802) (m := 68719476802) (hm := by decide)); (case h => with_reducible apply State.batt_within)
    | split

end Sys2Proof.Machine
end

