-- ==== Sys2Proof/Laws/FrameResets.lean ====
section
/-!
SUPPORT. Laws/FrameResets.lean: what each function of Machine/Resets.lean can touch.
-/
set_option linter.unusedTactic false
set_option linter.unreachableTactic false
set_option linter.tactic.unusedName false

namespace Sys2Proof.Machine

theorem State.resetRegs_within (s : State) (keep : Nat → Fld → Bool) : Within 2 s (s.resetRegs keep) := by
  refine ⟨(fun p hp => by cases p <;> first | exact absurd hp (by decide) | rfl), fun g => ?_⟩
  obtain ⟨a, ⟨c1, c2, c3, c4⟩, l⟩ := g
  exact ⟨a, ⟨Tab.wf_foldl_set _ _ _ c1, c2, c3, c4⟩, l⟩

theorem State.hqReset_within (s : State) :
    Within 1073741824 s (State.hqReset s) := by
  unfold State.hqReset
  repeat'
    first
    | with_reducible apply Within.refl
    | with_reducible assumption
    | (with_reducible apply State.updNet_via (l := 1073741824) (hm := by decide))
    | split

theorem State.flr_within (s : State) : Within 1073745778 s s.flr := by
  unfold State.flr
  have h : Within 1073745778 s (s.updHif Hif.flr) := State.updHif_via 3952 (by first | exact (fun h => absurd h (by decide)) | exact (fun _ _ => rfl)) (by first | exact (fun h => absurd h (by decide)) | exact (fun _ _ => rfl)) (by first | exact (fun h => absurd h (by decide)) | exact (fun _ _ => rfl)) (by first | exact (fun h => absurd h (by decide)) | exact (fun _ _ => rfl)) (by first | exact (fun h => absurd h (by decide)) | exact (fun _ _ => rfl)) (by first | exact (fun h => absurd h (by decide)) | exact (fun _ _ => rfl)) (by first | exact (fun h => absurd h (by decide)) | exact (fun _ _ => rfl)) (by first | exact (fun h => absurd h (by decide)) | exact (fun _ _ => rfl))  (fun _ => rfl) (fun _ h f hf => nomatch hf) (by decide) (Within.refl _ _)
  exact (State.resetRegs_within _ _).via (by decide) ((State.hqReset_within _).via (by decide) h)

theorem execFlr_within (burst : Bool) (s : State) :
    WithinO 1073745778 s (execFlr burst s) := by
  unfold execFlr
  repeat'
    first
    | with_reducible apply Within.refl
    | with_reducible assumption
    | with_reducible apply WithinO.next
    | with_reducible apply WithinO.fault
    | (with_reducible apply Within.via (l := 1073745778) (m := 2) (hm := by decide)); (case h => with_reducible apply State.drain_within)
    | (with_reducible apply Within.via (l := 1073745778) (m := 1073745778) (hm := by decide)); (case h => with_reducible apply State.flr_within)
    | split

theorem State.warmSource_within (s : State) (n : Nat) :
    Within 4104 s (State.warmSource s n) := by
  unfold State.warmSource
  repeat'
    first
    | with_reducible apply Within.refl
    | with_reducible assumption
    | (extract_lets +onlyGivenNames x; refine Within.cut (l := 4104) (r := s) (x := x) ?_ ?_; rotate_left; (try clear_value x); intro _; rotate_right; subst x)
    | (extract_lets +onlyGivenNames x; try clear_value x)
    | (with_reducible apply Within.via (l := 4104) (m := 4096) (hm := by decide)); (case h => with_reducible apply State.setSrc_within)
    | (with_reducible apply Within.via (l := 4104) (m := 8) (hm := by decide)); (case h => with_reducible apply State.srcCount_within)
    | split

theorem State.warmAudio_within (s : State) :
    Within 17179869192 s (State.warmAudio s) := by
  unfold State.warmAudio
  repeat'
    first
    | with_reducible apply Within.refl
    | with_reducible assumption
    | (extract_lets +onlyGivenNames x; refine Within.cut (l := 17179869192) (r := s) (x := x) ?_ ?_; rotate_left; (try clear_value x); intro _; rotate_right; subst x)
    | (extract_lets +onlyGivenNames x; try clear_value x)
    | ((with_reducible apply Within.fold); (rotate_left; intro _ _ _; rotate_right))
    | (with_reducible apply State.updAud_via (l := 17179869192) (hm := by decide))
    | (with_reducible apply Within.via (l := 17179869192) (m := 8) (hm := by decide)); (case h => with_reducible apply State.inCount_within)
    | split

theorem State.warmHeads_within (s : State) (off : Bool) : Within 17605078385354 s (s.warmHeads off) := by
  unfold State.warmHeads
  extract_lets s1 s2 s3
  have h1 : Within 17605078385354 s s1 := Within.fold (Within.refl _ _) fun t c h => (State.pushAbort_within t c 2).via (by decide) h
  have h2 : Within 17605078385354 s s2 := Within.fold h1 fun t c h => (State.uncheckDest_within t c).via (by decide) h
  clear_value s2
  have h3 : Within 17605078385354 s s3 := State.updHds_via 17592186142720 (by first | exact (fun h => absurd h (by decide)) | exact (fun _ _ => rfl)) (by first | exact (fun h => absurd h (by decide)) | exact (fun _ _ => rfl)) (by first | exact (fun h => absurd h (by decide)) | exact (fun _ _ => rfl))  (by decide) (h2)
  clear_value s3
  exact State.updOut_via 7340032 (by first | exact (fun h => absurd h (by decide)) | exact (fun _ _ => rfl)) (by first | exact (fun h => absurd h (by decide)) | exact (fun _ _ => rfl)) (by first | exact (fun h => absurd h (by decide)) | exact (fun _ _ => rfl))  (by decide) (h3)

theorem State.warmSurfaces_within (s : State) :
    Within 131080 s (State.warmSurfaces s) := by
  unfold State.warmSurfaces
  repeat'
    first
    | with_reducible apply Within.refl
    | with_reducible assumption
    | (extract_lets +onlyGivenNames x; refine Within.cut (l := 131080) (r := s) (x := x) ?_ ?_; rotate_left; (try clear_value x); intro _; rotate_right; subst x)
    | (extract_lets +onlyGivenNames x; try clear_value x)
    | (with_reducible apply State.updSrf_via (l := 131080) (hm := by decide))
    | (with_reducible apply Within.via (l := 131080) (m := 8) (hm := by decide)); (case h => (with_reducible apply State.ledAdd_within); decide)
    | split

theorem State.warmVideo_within (s : State) (off : Bool) : Within 17624406684362 s (s.warmVideo off) := by
  unfold State.warmVideo
  extract_lets s1 s2 s3 s4 x0 s5
  have h1 : Within 17624406684362 s s1 := Within.fold (Within.refl _ _) fun t n h => (State.warmSource_within t n).via (by decide) h
  clear_value s1
  have h2 : Within 17624406684362 s s2 := State.updIng_via 12288 (by first | exact (fun h => absurd h (by decide)) | exact (fun _ _ => rfl)) (by first | exact (fun h => absurd h (by decide)) | exact (fun _ _ => rfl)) (by first | exact (fun h => absurd h (by decide)) | exact (fun _ _ => rfl))  (by decide) ((State.setFlows_within _ _).via (by decide) h1)
  clear_value s2
  have h3 : Within 17624406684362 s s3 := (State.warmAudio_within _).via (by decide) ((State.warmSurfaces_within _).via (by decide)
    ((State.warmHeads_within _ _).via (by decide) h2))
  clear_value s3
  have h4 : Within 17624406684362 s s4 := State.updScc_via 786432 (by first | exact (fun h => absurd h (by decide)) | exact (fun _ _ => rfl)) (by first | exact (fun h => absurd h (by decide)) | exact (fun _ _ => rfl))  (by decide) (h3)
  clear_value s4
  have h5 : Within 17624406684362 s s5 := State.updPsn_via 15032385536 (by first | exact (fun h => absurd h (by decide)) | exact (fun _ _ => rfl)) (by first | exact (fun h => absurd h (by decide)) | exact (fun _ _ => rfl)) (by first | exact (fun h => absurd h (by decide)) | exact (fun _ _ => rfl))  (by decide) (h4)
  clear_value s5
  split
  · exact (State.freshChains_within _).via (by decide) h5
  · exact (State.loadChains_within _).via (by decide) ((State.loadDikes_within _).via (by decide) h5)

/-- The tokens of the units that are enabled, at most all of them. -/
theorem unitTokens_le (p : Nat → Bool) : fixedTokens + (((List.range 10).filter p).map unitTokens).sum ≤ powPool := by
  have h : (((List.range 10).filter p).map unitTokens).sum ≤ ((List.range 10).map unitTokens).sum :=
    (List.filter_sublist.map _).sum_le_sum fun _ _ => Nat.zero_le _
  have h' : fixedTokens + ((List.range 10).map unitTokens).sum ≤ powPool := by decide
  omega

theorem State.led_congr {s t : State} (h : t.ledger = s.ledger) (k i c : Nat) : t.led k i c = s.led k i c := by
  unfold State.led; rw [h]

/-- Every grant returns, and the precharge is taken again: both pools balance. -/
theorem State.retake_within (s s2 : State) (pre : Nat) (hp : pre ≤ powPool)
    (h2 : Within 1073741824 ((s.ledSet 9 0 6 (s.led 9 0 5)).ledSet 9 1 6 (s.led 9 1 5)) s2) :
    Within 1115684872 s ((s2.updLv fun v =>
      { v with powFree := powPool - pre, fetFree := fetPool, powWith := 0, fetWith := 0, fixed := pre, auditBad := false, tripped := false,
               tripExcl := false }).ledAdd 9 0 5 pre) := by
  have h1 : ∀ p : Part, Nat.testBit 1115684872 p.idx = false →
      p.same s ((s.ledSet 9 0 6 (s.led 9 0 5)).ledSet 9 1 6 (s.led 9 1 5)) := (fun p hp => by cases p <;> first | exact absurd hp (by decide) | rfl)
  have b1 : ((s.ledSet 9 0 6 (s.led 9 0 5)).ledSet 9 1 6 (s.led 9 1 5)).led 9 0 6 = ((s.ledSet 9 0 6 (s.led 9 0 5)).ledSet 9 1 6 (s.led 9 1 5)).led 9 0 5 := by
    rw [led_ledSet_ne _ _ (by decide), led_ledSet_self, led_ledSet_ne _ _ (by decide), led_ledSet_ne _ _ (by decide)]
  have b2 : ((s.ledSet 9 0 6 (s.led 9 0 5)).ledSet 9 1 6 (s.led 9 1 5)).led 9 1 6 = ((s.ledSet 9 0 6 (s.led 9 0 5)).ledSet 9 1 6 (s.led 9 1 5)).led 9 1 5 := by
    rw [led_ledSet_self, led_ledSet_ne _ _ (by decide), led_ledSet_ne _ _ (by decide)]
  have g1 : s.Good → ((s.ledSet 9 0 6 (s.led 9 0 5)).ledSet 9 1 6 (s.led 9 1 5)).canonical ∧
      ((s.ledSet 9 0 6 (s.led 9 0 5)).ledSet 9 1 6 (s.led 9 1 5)).legal := fun ⟨_, ⟨c1, c2, c3, c4⟩, l⟩ =>
    ⟨⟨c1, Tab.wf_set _ _ (Tab.wf_set _ _ c2), c3, c4⟩, l⟩
  generalize (s.ledSet 9 0 6 (s.led 9 0 5)).ledSet 9 1 6 (s.led 9 1 5) = s1 at h1 h2 g1 b1 b2
  have hl : s2.ledger = s1.ledger := h2.same .ledger (by decide)
  have g2 : s.Good → s2.canonical ∧ s2.legal := fun g => by
    obtain ⟨⟨c1, c2, c3, c4, c5⟩, l1, l2, l3, l4⟩ := g1 g
    have e1 : s2.regs = s1.regs := h2.same .regs (by decide)
    have e2 : s2.hbm = s1.hbm := h2.same .hbm (by decide)
    have e3 : s2.hif.hostMem = s1.hif.hostMem := h2.same .hostMem (by decide)
    have e7 := h2.same .engine (by decide)
    simp only [Part.same, Prod.mk.injEq] at e7
    have e4 := h2.same .phc (by decide)
    have e5 : s2.mg = s1.mg := h2.same .mgmt (by decide)
    have e6 := h2.same .sheds (by decide)
    simp only [Part.same, Prod.mk.injEq] at e4 e6
    obtain ⟨_, e41, _, _, e42, _⟩ := e4
    obtain ⟨_, _, _, _, _, e61, _, _, _, _, _, _, e62, _⟩ := e6
    exact ⟨⟨e1 ▸ c1, hl ▸ c2, e2 ▸ c3, e3 ▸ c4, e7.2.2.2 ▸ e7.1 ▸ c5⟩, e41 ▸ l1, e42 ▸ l2, e5 ▸ l3, e61 ▸ l4.1, e62 ▸ l4.2⟩
  refine ⟨fun p hp => ?_, fun g => ?_⟩
  · refine p.same_trans (p.same_trans (h1 p hp) ((h2.mono (by decide)).same p hp)) ?_
    cases p <;> first | exact absurd hp (by decide) | rfl
  · obtain ⟨⟨c1, c2, c3, c4⟩, l⟩ := g2 g
    refine ⟨⟨?_, ?_⟩, ⟨c1, Tab.wf_set _ _ c2, c3, c4⟩, l⟩
    · rw [led_ledAdd_self, led_ledAdd_ne _ _ (by decide), led_updLv, led_updLv, led_congr hl, led_congr hl, b1]
      show powPool - pre + _ = _
      omega
    · rw [led_ledAdd_ne _ _ (by decide), led_ledAdd_ne _ _ (by decide), led_updLv, led_updLv, led_congr hl, led_congr hl, b2]
      rfl

theorem State.leaveAgain_within (s : State) : Within 1115684938 s s.leaveAgain := by
  unfold State.leaveAgain
  dsimp only
  refine (State.shedUpdate_within _).via (by decide) ((State.fillWithheld_within _).via (by decide) (Within.mono (l := 1115684938)
    (State.retake_within s _ _ (unitTokens_le _) ?_) (by decide)))
  exact Within.fold (Within.refl _ _) fun t n h => (State.setUnit_within _ _ _).via (by decide) h

theorem State.warmCocoon_within (s : State) :
    Within 68719476736 s (State.warmCocoon s) := by
  unfold State.warmCocoon
  repeat'
    first
    | with_reducible apply Within.refl
    | with_reducible assumption
    | (extract_lets +onlyGivenNames x; refine Within.cut (l := 68719476736) (r := s) (x := x) ?_ ?_; rotate_left; (try clear_value x); intro _; rotate_right; subst x)
    | (extract_lets +onlyGivenNames x; try clear_value x)
    | ((with_reducible apply Within.fold); (rotate_left; intro _ _ _; rotate_right))
    | (with_reducible apply State.updCoc_via (l := 68719476736) (hm := by decide))
    | split

theorem State.warmMgmt_within (s : State) : Within 34359738434 s s.warmMgmt := by
  unfold State.warmMgmt
  extract_lets st a b s1
  have h : Within 34359738434 s s1 := State.updMg_via (s := s) (fun _ _ => Nat.zero_le _) (by decide) (Within.refl _ _)
  clear_value s1
  split
  · exact (State.occur_within _ _ _ _).via (by decide) h
  · exact h

theorem State.restAgain_within (s : State) :
    Within 274877906944 s (State.restAgain s) := by
  unfold State.restAgain
  repeat'
    first
    | with_reducible apply Within.refl
    | with_reducible assumption
    | (with_reducible apply State.updRest_via (l := 274877906944) (hm := by decide))
    | split

theorem State.warmReset_within (s : State) (cause : Nat) : Within 18690674262010 s (s.warmReset cause) := by
  unfold State.warmReset
  extract_lets s1 s2 s3 s4 s5 s6 s7 s8
  have h1 : Within 18690674262010 s s1 := (State.setPower_within _ _).via (by decide) ((State.count_within _ _ _ _ _).via (by decide)
    ((State.fset_within _ _ _ _ _).mono (by decide)))
  have h2 : Within 18690674262010 s s2 := (State.nvFlush_within _).via (by decide) h1
  have h3 : Within 18690674262010 s s3 := (State.warmVideo_within _ _).via (by decide) h2
  have h4 : Within 18690674262010 s s4 := (State.leaveAgain_within _).via (by decide) h3
  clear_value s4
  have h4' := State.updHif_via (f := fun h => { h.flr with sqs := [] }) 3952 (by first | exact (fun h => absurd h (by decide)) | exact (fun _ _ => rfl)) (by first | exact (fun h => absurd h (by decide)) | exact (fun _ _ => rfl)) (by first | exact (fun h => absurd h (by decide)) | exact (fun _ _ => rfl)) (by first | exact (fun h => absurd h (by decide)) | exact (fun _ _ => rfl)) (by first | exact (fun h => absurd h (by decide)) | exact (fun _ _ => rfl)) (by first | exact (fun h => absurd h (by decide)) | exact (fun _ _ => rfl)) (by first | exact (fun h => absurd h (by decide)) | exact (fun _ _ => rfl)) (by first | exact (fun h => absurd h (by decide)) | exact (fun _ _ => rfl))  (fun _ => rfl) (fun _ h f hf => nomatch hf) (by decide) (h4)
  have h5 : Within 18690674262010 s s5 := (State.hqReset_within _).via (by decide) h4'
  clear_value s5
  have h6 : Within 18690674262010 s s6 := (State.warmMgmt_within _).via (by decide) ((State.warmCocoon_within _).via (by decide) h5)
  have h7 : Within 18690674262010 s s7 := (State.resetRegs_within _ _).via (by decide) h6
  have h8 : Within 18690674262010 s s8 := State.updPwr_via (by decide) ((State.fset_within _ _ _ _ _).via (by decide) h7)
  exact (State.restAgain_within _).via (by decide) h8

theorem State.wakeBegin_within (s : State) : Within 653641138242 s s.wakeBegin := by
  unfold State.wakeBegin
  extract_lets s1 a s2 lose unload s3 s4
  have h1 : Within 653641138242 s s1 := State.updPwr_via (by decide) ((State.fset_within _ _ _ _ _).via (by decide)
    ((State.setPower_within _ _).mono (by decide)))
  clear_value s1
  split
  · have h2 : Within 653641138242 s s2 := State.updMg_via (fun _ _ => Nat.zero_le _) (by decide) h1
    clear_value s2
    have h3 : Within 653641138242 s s3 := State.updScc_via 786432 (by first | exact (fun h => absurd h (by decide)) | exact (fun _ _ => rfl)) (by first | exact (fun h => absurd h (by decide)) | exact (fun _ _ => rfl))  (by decide) (h2)
    clear_value s3
    have h4 : Within 653641138242 s s4 := (State.synRefresh_within _).via (by decide) h3
    exact (State.igmpChange_within _ _).via (by decide) h4
  · exact h1

theorem State.askWarm_within (s : State) (cause : Nat) :
    Within 18691479568378 s (State.askWarm s cause) := by
  unfold State.askWarm
  repeat'
    first
    | with_reducible apply Within.refl
    | with_reducible assumption
    | (extract_lets +onlyGivenNames x; refine Within.cut (l := 18691479568378) (r := s) (x := x) ?_ ?_; rotate_left; (try clear_value x); intro _; rotate_right; subst x)
    | (extract_lets +onlyGivenNames x; try clear_value x)
    | (with_reducible apply State.updPwr_via (l := 18691479568378) (hm := by decide))
    | (with_reducible apply Within.via (l := 18691479568378) (m := 653641138242) (hm := by decide)); (case h => with_reducible apply State.wakeBegin_within)
    | (with_reducible apply Within.via (l := 18691479568378) (m := 18690674262010) (hm := by decide)); (case h => with_reducible apply State.warmReset_within)
    | split

theorem execWarmReset_within (s : State) :
    WithinO 18691479568378 s (execWarmReset s) := by
  unfold execWarmReset
  repeat'
    first
    | with_reducible apply Within.refl
    | with_reducible assumption
    | with_reducible apply WithinO.next
    | with_reducible apply WithinO.fault
    | (with_reducible apply Within.via (l := 18691479568378) (m := 18691479568378) (hm := by decide)); (case h => with_reducible apply State.askWarm_within)
    | split

theorem State.nvSpoil_within (s : State) :
    Within 137438953472 s (State.nvSpoil s) := by
  unfold State.nvSpoil
  repeat'
    first
    | with_reducible apply Within.refl
    | with_reducible assumption
    | (with_reducible apply Within.via (l := 137438953472) (m := 137438953472) (hm := by decide)); (case h => with_reducible apply State.nvAppend_within)
    | split

theorem State.eraseCut_within (s : State) :
    Within 137438953472 s (State.eraseCut s) := by
  unfold State.eraseCut
  repeat'
    first
    | with_reducible apply Within.refl
    | with_reducible assumption
    | (with_reducible apply Within.via (l := 137438953472) (m := 137438953472) (hm := by decide)); (case h => with_reducible apply State.setNvSector_within)
    | split

/-- Reset meets what every command keeps. -/
theorem State.reset_good : State.reset.Good :=
  ⟨⟨by decide, by decide⟩, ⟨by decide, by decide, by decide, by decide, (fun f hf => nomatch hf)⟩, by decide, (fun p hp => nomatch hp), by decide, by decide, by decide⟩

theorem State.hardReset_within (s : State) (cause energy aon : Nat) : Within 26388279066494 s (s.hardReset cause energy aon) := by
  unfold State.hardReset
  extract_lets s1 held x0 x1 x2 t
  have h1 : Within 26388279066494 s s1 := (State.eraseCut_within _).via (by decide) ((State.nvSpoil_within _).mono (by decide))
  clear_value s1
  have h2 : Within 26388279066494 s held := (State.resetRegs_within _ _).via (by decide) h1
  have ht : Within 26388279066494 s t := by
    refine ⟨fun p hp => ?_, fun g => ?_⟩
    · refine p.same_trans (h1.same p hp) ?_
      cases p <;> first | exact absurd hp (by decide) | rfl
    · exact ⟨State.reset_good.balanced, ⟨(h2.good g).canonical.1, State.reset_good.canonical.2.1, rfl, (h1.good g).canonical.2.2.2.1, fun f hf => nomatch hf⟩,
        State.reset_good.legal⟩
  clear_value t
  exact (State.fset_within _ _ _ _ _).via (by decide) ht

theorem execModRstN_within (s : State) :
    WithinO 26388279066494 s (execModRstN s) := by
  unfold execModRstN
  repeat'
    first
    | with_reducible apply Within.refl
    | with_reducible assumption
    | with_reducible apply WithinO.next
    | with_reducible apply WithinO.fault
    | (with_reducible apply Within.via (l := 26388279066494) (m := 26388279066494) (hm := by decide)); (case h => with_reducible apply State.hardReset_within)
    | split

theorem State.foundBreach_within (s : State) (cause aon : Nat) :
    Within 68753031170 s (State.foundBreach s cause aon) := by
  unfold State.foundBreach
  repeat'
    first
    | with_reducible apply Within.refl
    | with_reducible assumption
    | (with_reducible apply State.updCoc_via (l := 68753031170) (hm := by decide))
    | (with_reducible apply Within.via (l := 68753031170) (m := 68753031170) (hm := by decide)); (case h => with_reducible apply State.latchBreach_within)
    | split

theorem State.afterOff_within (s : State) (f : OffTime) :
    Within 216937923674 s (State.afterOff s f) := by
  unfold State.afterOff
  repeat'
    first
    | with_reducible apply Within.refl
    | with_reducible assumption
    | (extract_lets +onlyGivenNames x; refine Within.cut (l := 216937923674) (r := s) (x := x) ?_ ?_; rotate_left; (try clear_value x); intro _; rotate_right; subst x)
    | (extract_lets +onlyGivenNames x; try clear_value x)
    | ((with_reducible apply Within.fold); (rotate_left; intro _ _ _; rotate_right))
    | (with_reducible apply State.updCoc_via (l := 216937923674) (hm := by decide))
    | (with_reducible apply Within.via (l := 216937923674) (m := 216937923674) (hm := by decide)); (case h => with_reducible apply State.breach_within)
    | (with_reducible apply Within.via (l := 216937923674) (m := 68753031170) (hm := by decide)); (case h => with_reducible apply State.foundBreach_within)
    | (with_reducible apply Within.via (l := 216937923674) (m := 2) (hm := by decide)); (case h => with_reducible apply State.wr_within)
    | split

theorem execPowerOnReset_within (f : OffTime) (s : State) :
    WithinO 26388279066494 s (execPowerOnReset f s) := by
  unfold execPowerOnReset
  repeat'
    first
    | with_reducible apply Within.refl
    | with_reducible assumption
    | (extract_lets +onlyGivenNames x; refine Within.cut (l := 26388279066494) (r := s) (x := x) ?_ ?_; rotate_left; (try clear_value x); intro _; rotate_right; subst x)
    | (extract_lets +onlyGivenNames x; try clear_value x)
    | with_reducible apply WithinO.next
    | with_reducible apply WithinO.fault
    | (with_reducible apply State.updCoc_via (l := 26388279066494) (hm := by decide))
    | (with_reducible apply Within.via (l := 26388279066494) (m := 216937923674) (hm := by decide)); (case h => with_reducible apply State.afterOff_within)
    | (with_reducible apply Within.via (l := 26388279066494) (m := 26388279066494) (hm := by decide)); (case h => with_reducible apply State.hardReset_within)
    | split

theorem State.powerFails_within (s : State) : Within 26388279066494 s s.powerFails := by
  unfold State.powerFails
  extract_lets s1 s2 t t2
  have h1 : Within 26388279066494 s s1 := by
    simp only [s1]; split
    · exact (State.eraseEnd_within _ _ _).mono (by decide)
    · exact Within.refl _ _
  clear_value s1
  have h2 : Within 26388279066494 s s2 := State.updNv_via (by decide) h1
  have h3 : Within 26388279066494 s t := (State.hardReset_within _ _ _ _).via (by decide) h2
  clear_value t
  have h4 : Within 26388279066494 s t2 := State.updLv_via 33554432 (by first | exact (fun h => absurd h (by decide)) | exact (fun _ _ => rfl)) (by first | exact (fun h => absurd h (by decide)) | exact (fun _ _ => rfl)) (by first | exact (fun h => absurd h (by decide)) | exact (fun _ _ => rfl)) (fun _ => rfl) (fun _ => rfl) (fun _ => rfl) (fun _ => rfl) (by decide) (h3)
  clear_value t2
  exact State.updMg_via (fun _ hx => hx) (by decide) (State.updNv_via (by decide) h4)

theorem execPowerFail_within (s : State) :
    WithinO 26388279066494 s (execPowerFail s) := by
  unfold execPowerFail
  repeat'
    first
    | with_reducible apply Within.refl
    | with_reducible assumption
    | with_reducible apply WithinO.next
    | with_reducible apply WithinO.fault
    | (with_reducible apply Within.via (l := 26388279066494) (m := 26388279066494) (hm := by decide)); (case h => with_reducible apply State.powerFails_within)
    | split

theorem execPowerFailRecovery_within (s : State) :
    WithinO 26388279066494 s (execPowerFailRecovery s) := by
  unfold execPowerFailRecovery
  repeat'
    first
    | with_reducible apply Within.refl
    | with_reducible assumption
    | with_reducible apply WithinO.next
    | with_reducible apply WithinO.fault
    | (with_reducible apply State.updLv_via (m := 33554432) (l := 26388279066494) (hm := by decide)); (case hleave => exact (fun _ _ => rfl)); (case hlimits => exact (fun _ _ => rfl)); (case hsheds => exact (fun h => absurd h (by decide))); (case cpowFree => exact (fun _ => rfl)); (case cfetFree => exact (fun _ => rfl)); (case cthermal => exact (fun _ => rfl)); (case cband => exact (fun _ => rfl))
    | (with_reducible apply Within.via (l := 26388279066494) (m := 26388279066494) (hm := by decide)); (case h => with_reducible apply State.hardReset_within)
    | split

end Sys2Proof.Machine
end

