-- ==== Sys2Proof/Laws/FramePowerStates.lean ====
section
/-!
SUPPORT. Laws/FramePowerStates.lean: what each function of Machine/PowerStates.lean can touch.
-/
set_option linter.unusedTactic false
set_option linter.unreachableTactic false
set_option linter.tactic.unusedName false

namespace Sys2Proof.Machine

theorem State.tripHead_within (s : State) (h : Nat) :
    Within 6329034 s (State.tripHead s h) := by
  unfold State.tripHead
  repeat'
    first
    | with_reducible apply Within.refl
    | with_reducible assumption
    | (extract_lets +onlyGivenNames x; refine Within.cut (l := 6329034) (r := s) (x := x) ?_ ?_; rotate_left; (try clear_value x); intro _; rotate_right; subst x)
    | (extract_lets +onlyGivenNames x; try clear_value x)
    | ((with_reducible apply Within.fold); (rotate_left; intro _ _ _; rotate_right))
    | (with_reducible apply Within.via (l := 6329034) (m := 4195018) (hm := by decide)); (case h => with_reducible apply State.pushAbortHead_within)
    | (with_reducible apply Within.via (l := 6329034) (m := 2097152) (hm := by decide)); (case h => with_reducible apply State.squelch_within)
    | (with_reducible apply Within.via (l := 6329034) (m := 4096) (hm := by decide)); (case h => with_reducible apply State.unpinHead_within)
    | (with_reducible apply Within.via (l := 6329034) (m := 32768) (hm := by decide)); (case h => with_reducible apply State.updHead_within)
    | split

theorem execThermalTrip_within (sensor : Fin 24) (temp : BitVec 11) (s : State) :
    WithinO 39883466 s (execThermalTrip sensor temp s) := by
  unfold execThermalTrip
  repeat'
    first
    | with_reducible apply Within.refl
    | with_reducible assumption
    | (extract_lets +onlyGivenNames x; refine Within.cut (l := 39883466) (r := s) (x := x) ?_ ?_; rotate_left; (try clear_value x); intro _; rotate_right; subst x)
    | (extract_lets +onlyGivenNames x; try clear_value x)
    | with_reducible apply WithinO.next
    | with_reducible apply WithinO.fault
    | ((with_reducible apply Within.fold); (rotate_left; intro _ _ _; rotate_right))
    | (with_reducible apply State.updLv_via (m := 33554432) (l := 39883466) (hm := by decide)); (case hleave => exact (fun _ _ => rfl)); (case hlimits => exact (fun _ _ => rfl)); (case hsheds => exact (fun h => absurd h (by decide))); (case cpowFree => exact (fun _ => rfl)); (case cfetFree => exact (fun _ => rfl)); (case cthermal => exact (fun _ => rfl)); (case cband => exact (fun _ => rfl))
    | (with_reducible apply Within.via (l := 39883466) (m := 2) (hm := by decide)); (case h => with_reducible apply State.count_within)
    | (with_reducible apply Within.via (l := 39883466) (m := 66) (hm := by decide)); (case h => with_reducible apply State.lvRaise_within)
    | (with_reducible apply Within.via (l := 39883466) (m := 33554498) (hm := by decide)); (case h => with_reducible apply State.shedUpdate_within)
    | (with_reducible apply Within.via (l := 39883466) (m := 6329034) (hm := by decide)); (case h => with_reducible apply State.tripHead_within)
    | split

theorem execThermalSample_within (tj : List (BitVec 11)) (tcp : BitVec 11) (s : State) :
    WithinO 18691479568378 s (execThermalSample tj tcp s) := by
  unfold execThermalSample
  repeat'
    first
    | with_reducible apply Within.refl
    | with_reducible assumption
    | (extract_lets +onlyGivenNames x; refine Within.cut (l := 18691479568378) (r := s) (x := x) ?_ ?_; rotate_left; (try clear_value x); intro _; rotate_right; subst x)
    | (extract_lets +onlyGivenNames x; try clear_value x)
    | with_reducible apply WithinO.next
    | with_reducible apply WithinO.fault
    | (with_reducible apply Within.via (l := 18691479568378) (m := 18691479568378) (hm := by decide)); (case h => with_reducible apply State.askWarm_within)
    | (with_reducible apply Within.via (l := 18691479568378) (m := 33554498) (hm := by decide)); (case h => with_reducible apply State.thermalSample_within)
    | split

theorem State.tripRecover_within (s : State) :
    Within 18691479568378 s (State.tripRecover s) := by
  unfold State.tripRecover
  repeat'
    first
    | with_reducible apply Within.refl
    | with_reducible assumption
    | (with_reducible apply Within.via (l := 18691479568378) (m := 18691479568378) (hm := by decide)); (case h => with_reducible apply State.askWarm_within)
    | split

theorem execTripRecover_within (s : State) :
    WithinO 18691479568378 s (execTripRecover s) := by
  unfold execTripRecover
  repeat'
    first
    | with_reducible apply Within.refl
    | with_reducible assumption
    | with_reducible apply WithinO.next
    | with_reducible apply WithinO.fault
    | (with_reducible apply Within.via (l := 18691479568378) (m := 18691479568378) (hm := by decide)); (case h => with_reducible apply State.tripRecover_within)
    | split

theorem State.standbyFlush_within (s : State) :
    Within 137438953472 s (State.standbyFlush s) := by
  unfold State.standbyFlush
  repeat'
    first
    | with_reducible apply Within.refl
    | with_reducible assumption
    | (extract_lets +onlyGivenNames x; refine Within.cut (l := 137438953472) (r := s) (x := x) ?_ ?_; rotate_left; (try clear_value x); intro _; rotate_right; subst x)
    | (extract_lets +onlyGivenNames x; try clear_value x)
    | ((with_reducible apply Within.fold); (rotate_left; intro _ _ _; rotate_right))
    | (with_reducible apply State.updNv_via (l := 137438953472) (hm := by decide))
    | (with_reducible apply Within.via (l := 137438953472) (m := 137438953472) (hm := by decide)); (case h => with_reducible apply State.nvTouch_within)
    | split

theorem State.pwrTarget_within (s : State) (t : Nat) :
    Within 791080091714 s (State.pwrTarget s t) := by
  unfold State.pwrTarget
  repeat'
    first
    | with_reducible apply Within.refl
    | with_reducible assumption
    | (extract_lets +onlyGivenNames x; refine Within.cut (l := 791080091714) (r := s) (x := x) ?_ ?_; rotate_left; (try clear_value x); intro _; rotate_right; subst x)
    | (extract_lets +onlyGivenNames x; try clear_value x)
    | (with_reducible apply State.updPwr_via (l := 791080091714) (hm := by decide))
    | (with_reducible apply Within.via (l := 791080091714) (m := 2) (hm := by decide)); (case h => with_reducible apply State.fset_within)
    | (with_reducible apply Within.via (l := 791080091714) (m := 34359738434) (hm := by decide)); (case h => with_reducible apply State.moultCommit_within)
    | (with_reducible apply Within.via (l := 791080091714) (m := 66) (hm := by decide)); (case h => with_reducible apply State.powerTo_within)
    | (with_reducible apply Within.via (l := 791080091714) (m := 66) (hm := by decide)); (case h => with_reducible apply State.quietCheck_within)
    | (with_reducible apply Within.via (l := 791080091714) (m := 137438953472) (hm := by decide)); (case h => with_reducible apply State.standbyFlush_within)
    | (with_reducible apply Within.via (l := 791080091714) (m := 653641138242) (hm := by decide)); (case h => with_reducible apply State.wakeBegin_within)
    | split

theorem execPwrTargetRun_within (s : State) :
    WithinO 791080091714 s (execPwrTargetRun s) := by
  unfold execPwrTargetRun
  repeat'
    first
    | with_reducible apply Within.refl
    | with_reducible assumption
    | with_reducible apply WithinO.next
    | with_reducible apply WithinO.fault
    | (with_reducible apply Within.via (l := 791080091714) (m := 791080091714) (hm := by decide)); (case h => with_reducible apply State.pwrTarget_within)
    | split

theorem execPwrTargetQuiet_within (s : State) :
    WithinO 791080091714 s (execPwrTargetQuiet s) := by
  unfold execPwrTargetQuiet
  repeat'
    first
    | with_reducible apply Within.refl
    | with_reducible assumption
    | with_reducible apply WithinO.next
    | with_reducible apply WithinO.fault
    | (with_reducible apply Within.via (l := 791080091714) (m := 791080091714) (hm := by decide)); (case h => with_reducible apply State.pwrTarget_within)
    | split

theorem execPwrTargetStandby_within (s : State) :
    WithinO 791080091714 s (execPwrTargetStandby s) := by
  unfold execPwrTargetStandby
  repeat'
    first
    | with_reducible apply Within.refl
    | with_reducible assumption
    | with_reducible apply WithinO.next
    | with_reducible apply WithinO.fault
    | (with_reducible apply Within.via (l := 791080091714) (m := 791080091714) (hm := by decide)); (case h => with_reducible apply State.pwrTarget_within)
    | split

theorem State.convRestart_within (s : State) (m : Nat) :
    Within 1052746 s (State.convRestart s m) := by
  unfold State.convRestart
  repeat'
    first
    | with_reducible apply Within.refl
    | with_reducible assumption
    | (extract_lets +onlyGivenNames x; refine Within.cut (l := 1052746) (r := s) (x := x) ?_ ?_; rotate_left; (try clear_value x); intro _; rotate_right; subst x)
    | (extract_lets +onlyGivenNames x; try clear_value x)
    | (with_reducible apply Within.via (l := 1052746) (m := 1048650) (hm := by decide)); (case h => with_reducible apply State.cnvDrop_within)
    | (with_reducible apply Within.via (l := 1052746) (m := 4096) (hm := by decide)); (case h => with_reducible apply State.unpin_within)
    | (with_reducible apply Within.via (l := 1052746) (m := 1048576) (hm := by decide)); (case h => with_reducible apply State.updCnv_within)
    | split

theorem State.pauseConvs_within (s : State) :
    Within 1052746 s (State.pauseConvs s) := by
  unfold State.pauseConvs
  repeat'
    first
    | with_reducible apply Within.refl
    | with_reducible assumption
    | ((with_reducible apply Within.fold); (rotate_left; intro _ _ _; rotate_right))
    | (with_reducible apply Within.via (l := 1052746) (m := 1052746) (hm := by decide)); (case h => with_reducible apply State.convRestart_within)
    | split

theorem State.standbyOff_within (s : State) :
    Within 36252422858 s (State.standbyOff s) := by
  unfold State.standbyOff
  repeat'
    first
    | with_reducible apply Within.refl
    | with_reducible assumption
    | (extract_lets +onlyGivenNames x; refine Within.cut (l := 36252422858) (r := s) (x := x) ?_ ?_; rotate_left; (try clear_value x); intro _; rotate_right; subst x)
    | (extract_lets +onlyGivenNames x; try clear_value x)
    | ((with_reducible apply Within.fold); (rotate_left; intro _ _ _; rotate_right))
    | (with_reducible apply State.updMg_via (l := 36252422858) (hm := by decide)); (case h => intro x hx; first | exact hx | exact (Mg.setPair_serving ..).trans_le hx | exact (Mg.setSlot_serving ..).trans_le hx)
    | (with_reducible apply Within.via (l := 36252422858) (m := 4170) (hm := by decide)); (case h => with_reducible apply State.laneDark_within)
    | (with_reducible apply Within.via (l := 36252422858) (m := 1052746) (hm := by decide)); (case h => with_reducible apply State.pauseConvs_within)
    | (with_reducible apply Within.via (l := 36252422858) (m := 66) (hm := by decide)); (case h => with_reducible apply State.phcHoldover_within)
    | (with_reducible apply Within.via (l := 36252422858) (m := 536870912) (hm := by decide)); (case h => with_reducible apply State.polderRefresh_within)
    | (with_reducible apply Within.via (l := 36252422858) (m := 1073741890) (hm := by decide)); (case h => with_reducible apply State.portDown_within)
    | (with_reducible apply Within.via (l := 36252422858) (m := 4195018) (hm := by decide)); (case h => with_reducible apply State.pushAbort_within)
    | (with_reducible apply Within.via (l := 36252422858) (m := 12582986) (hm := by decide)); (case h => with_reducible apply State.pushOff_within)
    | (with_reducible apply Within.via (l := 36252422858) (m := 268435456) (hm := by decide)); (case h => with_reducible apply State.setSyn_within)
    | split

theorem execStandbyEntryDone_within (s : State) :
    WithinO 792167469770 s (execStandbyEntryDone s) := by
  unfold execStandbyEntryDone
  repeat'
    first
    | with_reducible apply Within.refl
    | with_reducible assumption
    | (extract_lets +onlyGivenNames x; refine Within.cut (l := 792167469770) (r := s) (x := x) ?_ ?_; rotate_left; (try clear_value x); intro _; rotate_right; subst x)
    | (extract_lets +onlyGivenNames x; try clear_value x)
    | with_reducible apply WithinO.next
    | with_reducible apply WithinO.fault
    | (with_reducible apply State.updNv_via (l := 792167469770) (hm := by decide))
    | (with_reducible apply Within.via (l := 792167469770) (m := 66) (hm := by decide)); (case h => with_reducible apply State.powerTo_within)
    | (with_reducible apply Within.via (l := 792167469770) (m := 36252422858) (hm := by decide)); (case h => with_reducible apply State.standbyOff_within)
    | (with_reducible apply Within.via (l := 792167469770) (m := 653641138242) (hm := by decide)); (case h => with_reducible apply State.wakeBegin_within)
    | split

theorem State.resumeHeads_within (s : State) :
    Within 32768 s (State.resumeHeads s) := by
  unfold State.resumeHeads
  repeat'
    first
    | with_reducible apply Within.refl
    | with_reducible assumption
    | ((with_reducible apply Within.fold); (rotate_left; intro _ _ _; rotate_right))
    | (with_reducible apply Within.via (l := 32768) (m := 32768) (hm := by decide)); (case h => with_reducible apply State.updHead_within)
    | split

theorem execWakeDone_within (s : State) :
    WithinO 18690674262010 s (execWakeDone s) := by
  unfold execWakeDone
  repeat'
    first
    | with_reducible apply Within.refl
    | with_reducible assumption
    | (extract_lets +onlyGivenNames x; refine Within.cut (l := 18690674262010) (r := s) (x := x) ?_ ?_; rotate_left; (try clear_value x); intro _; rotate_right; subst x)
    | (extract_lets +onlyGivenNames x; try clear_value x)
    | with_reducible apply WithinO.next
    | with_reducible apply WithinO.fault
    | (with_reducible apply State.updPwr_via (l := 18690674262010) (hm := by decide))
    | (with_reducible apply Within.via (l := 18690674262010) (m := 2) (hm := by decide)); (case h => with_reducible apply State.fset_within)
    | (with_reducible apply Within.via (l := 18690674262010) (m := 32768) (hm := by decide)); (case h => with_reducible apply State.resumeHeads_within)
    | (with_reducible apply Within.via (l := 18690674262010) (m := 68719476802) (hm := by decide)); (case h => with_reducible apply State.setPower_within)
    | (with_reducible apply Within.via (l := 18690674262010) (m := 18690674262010) (hm := by decide)); (case h => with_reducible apply State.warmReset_within)
    | split

theorem State.writeRestore_within (s : State) (auto gated : Bool) :
    Within 137438953472 s (State.writeRestore s auto gated) := by
  unfold State.writeRestore
  repeat'
    first
    | with_reducible apply Within.refl
    | with_reducible assumption
    | (extract_lets +onlyGivenNames x; refine Within.cut (l := 137438953472) (r := s) (x := x) ?_ ?_; rotate_left; (try clear_value x); intro _; rotate_right; subst x)
    | (extract_lets +onlyGivenNames x; try clear_value x)
    | (with_reducible apply Within.via (l := 137438953472) (m := 137438953472) (hm := by decide)); (case h => with_reducible apply State.nvQueue_within)
    | split

theorem execRestoreConfigWrite_within (auto gated : Bool) (s : State) :
    WithinO 137438953472 s (execRestoreConfigWrite auto gated s) := by
  unfold execRestoreConfigWrite
  repeat'
    first
    | with_reducible apply Within.refl
    | with_reducible assumption
    | with_reducible apply WithinO.next
    | with_reducible apply WithinO.fault
    | (with_reducible apply Within.via (l := 137438953472) (m := 137438953472) (hm := by decide)); (case h => with_reducible apply State.writeRestore_within)
    | split

theorem State.restoreGo_within (s : State) :
    Within 274877906944 s (State.restoreGo s) := by
  unfold State.restoreGo
  repeat'
    first
    | with_reducible apply Within.refl
    | with_reducible assumption
    | (with_reducible apply State.updRest_via (l := 274877906944) (hm := by decide))
    | split

theorem execRestoreGo_within (s : State) :
    WithinO 274877906944 s (execRestoreGo s) := by
  unfold execRestoreGo
  repeat'
    first
    | with_reducible apply Within.refl
    | with_reducible assumption
    | with_reducible apply WithinO.next
    | with_reducible apply WithinO.fault
    | (with_reducible apply Within.via (l := 274877906944) (m := 274877906944) (hm := by decide)); (case h => with_reducible apply State.restoreGo_within)
    | split

theorem State.restoreReg_within (s : State) (a v : Nat) :
    Within 138521083914 s (State.restoreReg s a v) := by
  unfold State.restoreReg
  repeat'
    first
    | with_reducible apply Within.refl
    | with_reducible assumption
    | (extract_lets +onlyGivenNames x; refine Within.cut (l := 138521083914) (r := s) (x := x) ?_ ?_; rotate_left; (try clear_value x); intro _; rotate_right; subst x)
    | (extract_lets +onlyGivenNames x; try clear_value x)
    | ((with_reducible apply Within.fold); (rotate_left; intro _ _ _; rotate_right))
    | (with_reducible apply Within.via (l := 138521083914) (m := 2) (hm := by decide)); (case h => with_reducible apply State.fset_within)
    | (with_reducible apply Within.via (l := 138521083914) (m := 138512695298) (hm := by decide)); (case h => with_reducible apply State.unitOff_within)
    | (with_reducible apply Within.via (l := 138521083914) (m := 138521083914) (hm := by decide)); (case h => with_reducible apply State.unitOn_within)
    | split

theorem State.restoreRws_within (s : State) :
    Within 139326390346 s (State.restoreRws s) := by
  unfold State.restoreRws
  repeat'
    first
    | with_reducible apply Within.refl
    | with_reducible assumption
    | ((with_reducible apply Within.fold); (rotate_left; intro _ _ _; rotate_right))
    | (with_reducible apply Within.via (l := 139326390346) (m := 8388682) (hm := by decide)); (case h => with_reducible apply State.fillWithheld_within)
    | (with_reducible apply Within.via (l := 139326390346) (m := 138521083914) (hm := by decide)); (case h => with_reducible apply State.restoreReg_within)
    | (with_reducible apply Within.via (l := 139326390346) (m := 805306434) (hm := by decide)); (case h => with_reducible apply State.synRefresh_within)
    | split

theorem State.restoreFlow_within (s : State) (f : Flow) :
    Within 17190383626 s (State.restoreFlow s f) := by
  unfold State.restoreFlow
  repeat'
    first
    | with_reducible apply Within.refl
    | with_reducible assumption
    | (extract_lets +onlyGivenNames x; refine Within.cut (l := 17190383626) (r := s) (x := x) ?_ ?_; rotate_left; (try clear_value x); intro _; rotate_right; subst x)
    | (extract_lets +onlyGivenNames x; refine Within.cut2 (l := 17190383626) (r := s) (x := x) ?_ ?_; rotate_left; (try clear_value x); intro _; rotate_right; subst x)
    | (extract_lets +onlyGivenNames x; refine Within.cut1 (l := 17190383626) (r := s) (x := x) ?_ ?_; rotate_left; (try clear_value x); intro _; rotate_right; subst x)
    | (extract_lets +onlyGivenNames x; try clear_value x)
    | (with_reducible apply Within2.snd; with_reducible assumption)
    | (with_reducible apply Within1.fst; with_reducible assumption)
    | with_reducible apply Within2.mk
    | with_reducible apply Within1.mk
    | with_reducible refine Within2.fold ?_ (fun _ _ _ => ?_)
    | with_reducible refine Within1.fold ?_ (fun _ _ _ => ?_)
    | (with_reducible apply Within2.via (l := 17190383626) (m := 8388618) (hm := by decide)); (case h => with_reducible apply State.leaveAsk_within)
    | (with_reducible apply Within.via (l := 17190383626) (m := 8388618) (hm := by decide)); (case h => with_reducible apply State.leaveAsk_within)
    | (with_reducible apply Within.via (l := 17190383626) (m := 8388618) (hm := by decide)); (case h => (with_reducible apply Within2.ofEq (State.leaveAsk_within _ _ _ _)); with_reducible assumption)
    | (with_reducible apply Within.via (l := 17190383626) (m := 17181970440) (hm := by decide)); (case h => with_reducible apply State.placeFlow_within)
    | (with_reducible apply Within.via (l := 17190383626) (m := 24576) (hm := by decide)); (case h => with_reducible apply State.setFlows_within)
    | split
    | dsimp only
    | (with_reducible refine Within2.ofEq' ?_ (by assumption))

theorem State.restoreSource_within (s : State) (n : Nat) (x : Source) :
    Within 4170 s (State.restoreSource s n x) := by
  unfold State.restoreSource
  repeat'
    first
    | with_reducible apply Within.refl
    | with_reducible assumption
    | (extract_lets +onlyGivenNames x; refine Within.cut (l := 4170) (r := s) (x := x) ?_ ?_; rotate_left; (try clear_value x); intro _; rotate_right; subst x)
    | (extract_lets +onlyGivenNames x; try clear_value x)
    | (with_reducible apply Within.via (l := 4170) (m := 4170) (hm := by decide)); (case h => with_reducible apply State.setRing_within)
    | (with_reducible apply Within.via (l := 4170) (m := 4096) (hm := by decide)); (case h => with_reducible apply State.updSrc_within)
    | split

theorem State.restoreFlows_within (s : State) :
    Within 17190383690 s (State.restoreFlows s) := by
  unfold State.restoreFlows
  repeat'
    first
    | with_reducible apply Within.refl
    | with_reducible assumption
    | (extract_lets +onlyGivenNames x; refine Within.cut (l := 17190383690) (r := s) (x := x) ?_ ?_; rotate_left; (try clear_value x); intro _; rotate_right; subst x)
    | (extract_lets +onlyGivenNames x; try clear_value x)
    | ((with_reducible apply Within.fold); (rotate_left; intro _ _ _; rotate_right))
    | (with_reducible apply State.updIng_via (m := 8192) (l := 17190383690) (hm := by decide)); (case hsources => exact (fun _ _ => rfl)); (case hflows => exact (fun h => absurd h (by decide))); (case higmp => exact (fun _ _ => rfl))
    | (with_reducible apply Within.via (l := 17190383690) (m := 17190383626) (hm := by decide)); (case h => with_reducible apply State.restoreFlow_within)
    | (with_reducible apply Within.via (l := 17190383690) (m := 4170) (hm := by decide)); (case h => with_reducible apply State.restoreSource_within)
    | split

theorem State.restoreClaims_within (s : State) (x : HeadSave) :
    Within 9699402 s (State.restoreClaims s x) := by
  unfold State.restoreClaims
  repeat'
    first
    | with_reducible apply Within.refl
    | with_reducible assumption
    | (extract_lets +onlyGivenNames x; refine Within.cut (l := 9699402) (r := s) (x := x) ?_ ?_; rotate_left; (try clear_value x); intro _; rotate_right; subst x)
    | (extract_lets +onlyGivenNames x; refine Within.cut2 (l := 9699402) (r := s) (x := x) ?_ ?_; rotate_left; (try clear_value x); intro _; rotate_right; subst x)
    | (extract_lets +onlyGivenNames x; refine Within.cut1 (l := 9699402) (r := s) (x := x) ?_ ?_; rotate_left; (try clear_value x); intro _; rotate_right; subst x)
    | (extract_lets +onlyGivenNames x; try clear_value x)
    | (with_reducible apply Within2.snd; with_reducible assumption)
    | (with_reducible apply Within1.fst; with_reducible assumption)
    | with_reducible apply Within2.mk
    | with_reducible apply Within1.mk
    | with_reducible refine Within2.fold ?_ (fun _ _ _ => ?_)
    | with_reducible refine Within1.fold ?_ (fun _ _ _ => ?_)
    | ((with_reducible apply Within.fold); (rotate_left; intro _ _ _; rotate_right))
    | (with_reducible apply Within.via (l := 9699402) (m := 1048642) (hm := by decide)); (case h => with_reducible apply State.claimCnv_within)
    | (with_reducible apply Within.via (l := 9699402) (m := 262144) (hm := by decide)); (case h => with_reducible apply State.claimScl_within)
    | (with_reducible apply Within2.via (l := 9699402) (m := 8388618) (hm := by decide)); (case h => with_reducible apply State.leaveAsk_within)
    | (with_reducible apply Within.via (l := 9699402) (m := 8388618) (hm := by decide)); (case h => with_reducible apply State.leaveAsk_within)
    | (with_reducible apply Within.via (l := 9699402) (m := 8388618) (hm := by decide)); (case h => (with_reducible apply Within2.ofEq (State.leaveAsk_within _ _ _ _)); with_reducible assumption)
    | split
    | dsimp only
    | (with_reducible refine Within2.ofEq' ?_ (by assumption))

theorem State.restoreDikeEvent_within (s : State) (h : Nat) (x : HeadSave) (c : HeadCfg) :
    Within 66 s (State.restoreDikeEvent s h x c) := by
  unfold State.restoreDikeEvent
  repeat'
    first
    | with_reducible apply Within.refl
    | with_reducible assumption
    | (with_reducible apply Within.via (l := 66) (m := 66) (hm := by decide)); (case h => with_reducible apply State.raise_within)
    | split

theorem State.restoreFail_within (s : State) (h : Nat) (x : HeadSave) (code : Nat) :
    Within 274887643210 s (State.restoreFail s h x code) := by
  unfold State.restoreFail
  repeat'
    first
    | with_reducible apply Within.refl
    | with_reducible assumption
    | (extract_lets +onlyGivenNames x; refine Within.cut (l := 274887643210) (r := s) (x := x) ?_ ?_; rotate_left; (try clear_value x); intro _; rotate_right; subst x)
    | (extract_lets +onlyGivenNames x; refine Within.cut2 (l := 274887643210) (r := s) (x := x) ?_ ?_; rotate_left; (try clear_value x); intro _; rotate_right; subst x)
    | (extract_lets +onlyGivenNames x; refine Within.cut1 (l := 274887643210) (r := s) (x := x) ?_ ?_; rotate_left; (try clear_value x); intro _; rotate_right; subst x)
    | (extract_lets +onlyGivenNames x; try clear_value x)
    | (with_reducible apply Within2.snd; with_reducible assumption)
    | (with_reducible apply Within1.fst; with_reducible assumption)
    | with_reducible apply Within2.mk
    | with_reducible apply Within1.mk
    | with_reducible refine Within2.fold ?_ (fun _ _ _ => ?_)
    | with_reducible refine Within1.fold ?_ (fun _ _ _ => ?_)
    | ((with_reducible apply Within.fold); (rotate_left; intro _ _ _; rotate_right))
    | (with_reducible apply Within2.via (l := 274887643210) (m := 8650826) (hm := by decide)); (case h => with_reducible apply State.freeScl_within)
    | (with_reducible apply Within.via (l := 274887643210) (m := 8650826) (hm := by decide)); (case h => with_reducible apply State.freeScl_within)
    | (with_reducible apply Within.via (l := 274887643210) (m := 8650826) (hm := by decide)); (case h => (with_reducible apply Within2.ofEq (State.freeScl_within _ _)); with_reducible assumption)
    | (with_reducible apply Within.via (l := 274887643210) (m := 9441354) (hm := by decide)); (case h => with_reducible apply State.releaseCnv_within)
    | (with_reducible apply Within.via (l := 274887643210) (m := 274877907008) (hm := by decide)); (case h => with_reducible apply State.restOutcome_within)
    | (with_reducible apply Within.via (l := 274887643210) (m := 32768) (hm := by decide)); (case h => with_reducible apply State.setHead_within)
    | split
    | dsimp only
    | (with_reducible refine Within2.ofEq' ?_ (by assumption))

theorem State.restoreHead_within (s : State) (h : Nat) (x : HeadSave) :
    Within 274887775306 s (State.restoreHead s h x) := by
  unfold State.restoreHead
  repeat'
    first
    | with_reducible apply Within.refl
    | with_reducible assumption
    | (extract_lets +onlyGivenNames x; refine Within.cut (l := 274887775306) (r := s) (x := x) ?_ ?_; rotate_left; (try clear_value x); intro _; rotate_right; subst x)
    | (extract_lets +onlyGivenNames x; refine Within.cut2 (l := 274887775306) (r := s) (x := x) ?_ ?_; rotate_left; (try clear_value x); intro _; rotate_right; subst x)
    | (extract_lets +onlyGivenNames x; refine Within.cut1 (l := 274887775306) (r := s) (x := x) ?_ ?_; rotate_left; (try clear_value x); intro _; rotate_right; subst x)
    | (extract_lets +onlyGivenNames x; try clear_value x)
    | (with_reducible apply Within2.snd; with_reducible assumption)
    | (with_reducible apply Within1.fst; with_reducible assumption)
    | with_reducible apply Within2.mk
    | with_reducible apply Within1.mk
    | with_reducible refine Within2.fold ?_ (fun _ _ _ => ?_)
    | with_reducible refine Within1.fold ?_ (fun _ _ _ => ?_)
    | (with_reducible apply State.updHif_via (m := 1024) (l := 274887775306) (hm := by decide)); (case hsubRings => exact (fun _ _ => rfl)); (case hcplRings => exact (fun _ _ => rfl)); (case hevents => exact (fun _ _ => rfl)); (case hhostMem => exact (fun _ _ => rfl)); (case hmsix => exact (fun _ _ => rfl)); (case hirq => exact (fun _ _ => rfl)); (case hengine => exact (fun h => absurd h (by decide))); (case hd3hot => exact (fun _ _ => rfl)); (case chostMem => exact (fun _ => rfl)); (case cfences => exact (by first | exact fun _ h => h | exact fun _ h f hf => Nat.lt_succ_of_lt (h f hf) | exact fun _ h f hf => h f (List.mem_of_mem_filter hf)))
    | (with_reducible apply State.updRest_via (l := 274887775306) (hm := by decide))
    | (with_reducible apply Within.via (l := 274887775306) (m := 163850) (hm := by decide)); (case h => with_reducible apply State.enqueue_within)
    | (with_reducible apply Within2.via (l := 274887775306) (m := 8388618) (hm := by decide)); (case h => with_reducible apply State.leaveAsk_within)
    | (with_reducible apply Within.via (l := 274887775306) (m := 8388618) (hm := by decide)); (case h => with_reducible apply State.leaveAsk_within)
    | (with_reducible apply Within.via (l := 274887775306) (m := 8388618) (hm := by decide)); (case h => (with_reducible apply Within2.ofEq (State.leaveAsk_within _ _ _ _)); with_reducible assumption)
    | (with_reducible apply Within.via (l := 274887775306) (m := 8388682) (hm := by decide)); (case h => with_reducible apply State.leaveRet_within)
    | (with_reducible apply Within.via (l := 274887775306) (m := 66) (hm := by decide)); (case h => with_reducible apply State.restoreDikeEvent_within)
    | (with_reducible apply Within.via (l := 274887775306) (m := 274887643210) (hm := by decide)); (case h => with_reducible apply State.restoreFail_within)
    | (with_reducible apply Within.via (l := 274887775306) (m := 32768) (hm := by decide)); (case h => with_reducible apply State.setHead_within)
    | (with_reducible apply Within.via (l := 274887775306) (m := 32768) (hm := by decide)); (case h => with_reducible apply State.updHead_within)
    | split
    | dsimp only
    | (with_reducible refine Within2.ofEq' ?_ (by assumption))

theorem State.restoreAudio_within (s : State) :
    Within 17179869258 s (State.restoreAudio s) := by
  unfold State.restoreAudio
  repeat'
    first
    | with_reducible apply Within.refl
    | with_reducible assumption
    | (extract_lets +onlyGivenNames x; refine Within.cut (l := 17179869258) (r := s) (x := x) ?_ ?_; rotate_left; (try clear_value x); intro _; rotate_right; subst x)
    | (extract_lets +onlyGivenNames x; try clear_value x)
    | ((with_reducible apply Within.fold); (rotate_left; intro _ _ _; rotate_right))
    | (with_reducible apply State.updAud_via (l := 17179869258) (hm := by decide))
    | (with_reducible apply Within.via (l := 17179869258) (m := 17179869184) (hm := by decide)); (case h => with_reducible apply State.setAudOut_within)
    | (with_reducible apply Within.via (l := 17179869258) (m := 17179869258) (hm := by decide)); (case h => with_reducible apply State.srcAssign_within)
    | split

theorem State.restoreBegin_within (s : State) :
    Within 292069601354 s (State.restoreBegin s) := by
  unfold State.restoreBegin
  repeat'
    first
    | with_reducible apply Within.refl
    | with_reducible assumption
    | (extract_lets +onlyGivenNames x; refine Within.cut (l := 292069601354) (r := s) (x := x) ?_ ?_; rotate_left; (try clear_value x); intro _; rotate_right; subst x)
    | (extract_lets +onlyGivenNames x; try clear_value x)
    | ((with_reducible apply Within.fold); (rotate_left; intro _ _ _; rotate_right))
    | (with_reducible apply State.updRest_via (l := 292069601354) (hm := by decide))
    | (with_reducible apply Within.via (l := 292069601354) (m := 17179869258) (hm := by decide)); (case h => with_reducible apply State.restoreAudio_within)
    | (with_reducible apply Within.via (l := 292069601354) (m := 9699402) (hm := by decide)); (case h => with_reducible apply State.restoreClaims_within)
    | (with_reducible apply Within.via (l := 292069601354) (m := 17190383690) (hm := by decide)); (case h => with_reducible apply State.restoreFlows_within)
    | split

theorem State.restoreTry_within (s : State) :
    Within 274887775306 s (State.restoreTry s) := by
  unfold State.restoreTry
  repeat'
    first
    | with_reducible apply Within.refl
    | with_reducible assumption
    | (extract_lets +onlyGivenNames x; refine Within.cut (l := 274887775306) (r := s) (x := x) ?_ ?_; rotate_left; (try clear_value x); intro _; rotate_right; subst x)
    | (extract_lets +onlyGivenNames x; try clear_value x)
    | ((with_reducible apply Within.fold); (rotate_left; intro _ _ _; rotate_right))
    | (with_reducible apply Within.via (l := 274887775306) (m := 274877907008) (hm := by decide)); (case h => with_reducible apply State.restEnd_within)
    | (with_reducible apply Within.via (l := 274887775306) (m := 274877907008) (hm := by decide)); (case h => with_reducible apply State.restOutcome_within)
    | (with_reducible apply Within.via (l := 274887775306) (m := 274887775306) (hm := by decide)); (case h => with_reducible apply State.restoreHead_within)
    | split

theorem execRestoration_within (s : State) :
    WithinO 431387767882 s (execRestoration s) := by
  unfold execRestoration
  repeat'
    first
    | with_reducible apply Within.refl
    | with_reducible assumption
    | (extract_lets +onlyGivenNames x; refine Within.cut (l := 431387767882) (r := s) (x := x) ?_ ?_; rotate_left; (try clear_value x); intro _; rotate_right; subst x)
    | (extract_lets +onlyGivenNames x; try clear_value x)
    | with_reducible apply WithinO.next
    | with_reducible apply WithinO.fault
    | (with_reducible apply State.updRest_via (l := 431387767882) (hm := by decide))
    | (with_reducible apply Within.via (l := 431387767882) (m := 292069601354) (hm := by decide)); (case h => with_reducible apply State.restoreBegin_within)
    | (with_reducible apply Within.via (l := 431387767882) (m := 139326390346) (hm := by decide)); (case h => with_reducible apply State.restoreRws_within)
    | (with_reducible apply Within.via (l := 431387767882) (m := 274887775306) (hm := by decide)); (case h => with_reducible apply State.restoreTry_within)
    | split

theorem execRestorePolderTimeout_within (s : State) :
    WithinO 274887643210 s (execRestorePolderTimeout s) := by
  unfold execRestorePolderTimeout
  repeat'
    first
    | with_reducible apply Within.refl
    | with_reducible assumption
    | (extract_lets +onlyGivenNames x; refine Within.cut (l := 274887643210) (r := s) (x := x) ?_ ?_; rotate_left; (try clear_value x); intro _; rotate_right; subst x)
    | (extract_lets +onlyGivenNames x; try clear_value x)
    | with_reducible apply WithinO.next
    | with_reducible apply WithinO.fault
    | ((with_reducible apply Within.fold); (rotate_left; intro _ _ _; rotate_right))
    | (with_reducible apply Within.via (l := 274887643210) (m := 274877907008) (hm := by decide)); (case h => with_reducible apply State.restOutcome_within)
    | (with_reducible apply Within.via (l := 274887643210) (m := 274887643210) (hm := by decide)); (case h => with_reducible apply State.restoreFail_within)
    | split

end Sys2Proof.Machine
end

