-- ==== Sys2Proof/Laws/FrameFaults.lean ====
section
/-!
SUPPORT. Laws/FrameFaults.lean: what each function of Machine/Faults.lean can touch.
-/
set_option linter.unusedTactic false
set_option linter.unreachableTactic false
set_option linter.tactic.unusedName false

namespace Sys2Proof.Machine

theorem State.inputFlush_within (s : State) (i : Nat) :
    Within 17179869192 s (State.inputFlush s i) := by
  unfold State.inputFlush
  repeat'
    first
    | with_reducible apply Within.refl
    | with_reducible assumption
    | (extract_lets +onlyGivenNames x; refine Within.cut (l := 17179869192) (r := s) (x := x) ?_ ?_; rotate_left; (try clear_value x); intro _; rotate_right; subst x)
    | (extract_lets +onlyGivenNames x; try clear_value x)
    | (with_reducible apply Within.via (l := 17179869192) (m := 8) (hm := by decide)); (case h => with_reducible apply State.inCount_within)
    | (with_reducible apply Within.via (l := 17179869192) (m := 17179869184) (hm := by decide)); (case h => with_reducible apply State.setAudIn_within)
    | split

theorem State.groupRestart_within (s : State) (g : Nat) :
    Within 17179869192 s (State.groupRestart s g) := by
  unfold State.groupRestart
  repeat'
    first
    | with_reducible apply Within.refl
    | with_reducible assumption
    | ((with_reducible apply Within.fold); (rotate_left; intro _ _ _; rotate_right))
    | (with_reducible apply Within.via (l := 17179869192) (m := 17179869192) (hm := by decide)); (case h => with_reducible apply State.inputFlush_within)
    | (with_reducible apply Within.via (l := 17179869192) (m := 17179869184) (hm := by decide)); (case h => with_reducible apply State.updAudGrp_within)
    | split

theorem State.auditAct_within (s : State) (arg0 : QueueClass) :
    Within 340392386554 s (State.auditAct s arg0) := by
  unfold State.auditAct
  repeat'
    first
    | with_reducible apply Within.refl
    | with_reducible assumption
    | (with_reducible apply Within.via (l := 340392386554) (m := 4170) (hm := by decide)); (case h => with_reducible apply State.abandon_within)
    | (with_reducible apply Within.via (l := 340392386554) (m := 304958904026) (hm := by decide)); (case h => with_reducible apply State.containHead_within)
    | (with_reducible apply Within.via (l := 340392386554) (m := 1052746) (hm := by decide)); (case h => with_reducible apply State.convRestart_within)
    | (with_reducible apply Within.via (l := 340392386554) (m := 1073745778) (hm := by decide)); (case h => with_reducible apply State.flr_within)
    | (with_reducible apply Within.via (l := 340392386554) (m := 17179869192) (hm := by decide)); (case h => with_reducible apply State.groupRestart_within)
    | (with_reducible apply Within.via (l := 340392386554) (m := 17179869192) (hm := by decide)); (case h => with_reducible apply State.inputFlush_within)
    | (with_reducible apply Within.via (l := 340392386554) (m := 34359738434) (hm := by decide)); (case h => with_reducible apply State.resetPair_within)
    | (with_reducible apply Within.via (l := 340392386554) (m := 4170) (hm := by decide)); (case h => with_reducible apply State.srcSearch_within)
    | split

theorem State.auditMismatch_within (s : State) (q : QueueClass) (ident : BitVec 16) :
    Within 340392386554 s (State.auditMismatch s q ident) := by
  unfold State.auditMismatch
  repeat'
    first
    | with_reducible apply Within.refl
    | with_reducible assumption
    | (extract_lets +onlyGivenNames x; refine Within.cut (l := 340392386554) (r := s) (x := x) ?_ ?_; rotate_left; (try clear_value x); intro _; rotate_right; subst x)
    | (extract_lets +onlyGivenNames x; try clear_value x)
    | (with_reducible apply Within.via (l := 340392386554) (m := 340392386554) (hm := by decide)); (case h => with_reducible apply State.auditAct_within)
    | (with_reducible apply Within.via (l := 340392386554) (m := 2) (hm := by decide)); (case h => with_reducible apply State.count_within)
    | (with_reducible apply Within.via (l := 340392386554) (m := 2) (hm := by decide)); (case h => with_reducible apply State.fset_within)
    | (with_reducible apply Within.via (l := 340392386554) (m := 64) (hm := by decide)); (case h => with_reducible apply State.occur_within)
    | split

theorem State.queueUpset_within (s : State) (f : QueueFault) :
    Within 1099511627776 s (State.queueUpset s f) := by
  unfold State.queueUpset
  repeat'
    first
    | with_reducible apply Within.refl
    | with_reducible assumption
    | (with_reducible apply Within.via (l := 1099511627776) (m := 1099511627776) (hm := by decide)); (case h => with_reducible apply State.setQueue_within)
    | split

theorem State.queueFlush_within (s : State) (bad : List QueueId) :
    Within 1099511627776 s (State.queueFlush s bad) := by
  unfold State.queueFlush
  repeat'
    first
    | with_reducible apply Within.refl
    | with_reducible assumption
    | ((with_reducible apply Within.fold); (rotate_left; intro _ _ _; rotate_right))
    | (with_reducible apply Within.via (l := 1099511627776) (m := 1099511627776) (hm := by decide)); (case h => with_reducible apply State.setQueue_within)
    | split

theorem execCreditAudit_within (faults : List QueueFault) (s : State) :
    WithinO 19790991196154 s (execCreditAudit faults s) := by
  unfold execCreditAudit
  repeat'
    first
    | with_reducible apply Within.refl
    | with_reducible assumption
    | (extract_lets +onlyGivenNames x; refine Within.cut (l := 19790991196154) (r := s) (x := x) ?_ ?_; rotate_left; (try clear_value x); intro _; rotate_right; subst x)
    | (extract_lets +onlyGivenNames x; try clear_value x)
    | with_reducible apply WithinO.next
    | with_reducible apply WithinO.fault
    | ((with_reducible apply Within.fold); (rotate_left; intro _ _ _; rotate_right))
    | (with_reducible apply Within.via (l := 19790991196154) (m := 18691479568378) (hm := by decide)); (case h => with_reducible apply State.askWarm_within)
    | (with_reducible apply Within.via (l := 19790991196154) (m := 340392386554) (hm := by decide)); (case h => with_reducible apply State.auditMismatch_within)
    | (with_reducible apply Within.via (l := 19790991196154) (m := 1099511627776) (hm := by decide)); (case h => with_reducible apply State.queueFlush_within)
    | (with_reducible apply Within.via (l := 19790991196154) (m := 1099511627776) (hm := by decide)); (case h => with_reducible apply State.queueUpset_within)
    | split

theorem execPatrolScrub_within (found : List HbmErr) (s : State) : WithinO 1099511627842 s (execPatrolScrub found s) := by
  unfold execPatrolScrub
  refine .next ?_
  split
  · have h : Within 1099511627842 s (found.foldl (fun s e => State.hbmFound s e) s) :=
      Within.fold (Within.refl _ _) fun t e h => (State.hbmFound_within t e).via (by decide) h
    exact State.with_scrub_via (by decide) h
  · exact Within.refl _ _

theorem State.judgeBad_within (s : State) (d : Nat) :
    Within 4294967296 s (State.judgeBad s d) := by
  unfold State.judgeBad
  repeat'
    first
    | with_reducible apply Within.refl
    | with_reducible assumption
    | (with_reducible apply Within.via (l := 4294967296) (m := 4294967296) (hm := by decide)); (case h => with_reducible apply State.setPsnDest_within)
    | split

theorem State.sramContain_within (s : State) (arg0 : SramUse) :
    Within 18691479568378 s (State.sramContain s arg0) := by
  unfold State.sramContain
  repeat'
    first
    | with_reducible apply Within.refl
    | with_reducible assumption
    | (with_reducible apply Within.via (l := 18691479568378) (m := 4170) (hm := by decide)); (case h => with_reducible apply State.abandon_within)
    | (with_reducible apply Within.via (l := 18691479568378) (m := 18691479568378) (hm := by decide)); (case h => with_reducible apply State.askWarm_within)
    | (with_reducible apply Within.via (l := 18691479568378) (m := 304958904026) (hm := by decide)); (case h => with_reducible apply State.containHead_within)
    | (with_reducible apply Within.via (l := 18691479568378) (m := 4294967296) (hm := by decide)); (case h => with_reducible apply State.judgeBad_within)
    | (with_reducible apply Within.via (l := 18691479568378) (m := 34359738434) (hm := by decide)); (case h => with_reducible apply State.resetPair_within)
    | (with_reducible apply Within.via (l := 18691479568378) (m := 17179869184) (hm := by decide)); (case h => with_reducible apply State.setAudIn_within)
    | (with_reducible apply Within.via (l := 18691479568378) (m := 524288) (hm := by decide)); (case h => with_reducible apply State.setColIn_within)
    | (with_reducible apply Within.via (l := 18691479568378) (m := 524288) (hm := by decide)); (case h => with_reducible apply State.setColOut_within)
    | split

theorem State.sramFound_within (s : State) (e : SramErr) :
    Within 18691479568378 s (State.sramFound s e) := by
  unfold State.sramFound
  repeat'
    first
    | with_reducible apply Within.refl
    | with_reducible assumption
    | (extract_lets +onlyGivenNames x; refine Within.cut (l := 18691479568378) (r := s) (x := x) ?_ ?_; rotate_left; (try clear_value x); intro _; rotate_right; subst x)
    | (extract_lets +onlyGivenNames x; try clear_value x)
    | (with_reducible apply Within.via (l := 18691479568378) (m := 2) (hm := by decide)); (case h => with_reducible apply State.count_within)
    | (with_reducible apply Within.via (l := 18691479568378) (m := 64) (hm := by decide)); (case h => with_reducible apply State.occur_within)
    | (with_reducible apply Within.via (l := 18691479568378) (m := 18691479568378) (hm := by decide)); (case h => with_reducible apply State.sramContain_within)
    | split

theorem State.errorsMet_within (s : State) (ecc : List HbmErr) (sram : List SramErr) :
    Within 18691479568378 s (State.errorsMet s ecc sram) := by
  unfold State.errorsMet
  repeat'
    first
    | with_reducible apply Within.refl
    | with_reducible assumption
    | ((with_reducible apply Within.fold); (rotate_left; intro _ _ _; rotate_right))
    | (with_reducible apply Within.via (l := 18691479568378) (m := 66) (hm := by decide)); (case h => with_reducible apply State.granulesMet_within)
    | (with_reducible apply Within.via (l := 18691479568378) (m := 18691479568378) (hm := by decide)); (case h => with_reducible apply State.sramFound_within)
    | split

theorem execFlip_within (h : Fin 256) (seen : FlipSeen) (s : State) :
    WithinO 19790991196154 s (execFlip h seen s) := by
  unfold execFlip
  repeat'
    first
    | with_reducible apply Within.refl
    | with_reducible assumption
    | with_reducible apply WithinO.next
    | with_reducible apply WithinO.fault
    | (with_reducible apply Within.via (l := 19790991196154) (m := 18691479568378) (hm := by decide)); (case h => with_reducible apply State.errorsMet_within)
    | (with_reducible apply Within.via (l := 19790991196154) (m := 19136243537626) (hm := by decide)); (case h => with_reducible apply State.flip_within)
    | split

theorem execSramScrub_within (found : List SramErr) (s : State) : WithinO 19790991196154 s (execSramScrub found s) := by
  unfold execSramScrub
  refine .next ?_
  split
  · have h : Within 19790991196154 s (found.foldl (fun s e => State.sramFound s e) s) :=
      Within.fold (Within.refl _ _) fun t e h => (State.sramFound_within t e).via (by decide) h
    exact State.with_scrub_via (by decide) h
  · exact Within.refl _ _

end Sys2Proof.Machine
end

