-- ==== Sys2Proof/Laws/FrameRegRead.lean ====
section
/-!
SUPPORT. Laws/FrameRegRead.lean: what each function of Machine/RegRead.lean can touch.
-/
set_option linter.unusedTactic false
set_option linter.unreachableTactic false
set_option linter.tactic.unusedName false

namespace Sys2Proof.Machine

theorem State.winUnmapped_within (s : State) (a : Nat) :
    Within 34359738434 s (State.winUnmapped s a) := by
  unfold State.winUnmapped
  repeat'
    first
    | with_reducible apply Within.refl
    | with_reducible assumption
    | (extract_lets +onlyGivenNames x; refine Within.cut (l := 34359738434) (r := s) (x := x) ?_ ?_; rotate_left; (try clear_value x); intro _; rotate_right; subst x)
    | (extract_lets +onlyGivenNames x; try clear_value x)
    | (with_reducible apply State.updMg_via (l := 34359738434) (hm := by decide)); (case h => intro x hx; first | exact hx | exact (Mg.setPair_serving ..).trans_le hx | exact (Mg.setSlot_serving ..).trans_le hx)
    | (with_reducible apply Within.via (l := 34359738434) (m := 2) (hm := by decide)); (case h => with_reducible apply State.count_within)
    | (with_reducible apply Within.via (l := 34359738434) (m := 66) (hm := by decide)); (case h => with_reducible apply State.mgRaise_within)
    | split

theorem State.unmapped_within (s : State) (a : Nat) :
    Within 34359738434 s (State.unmapped s a) := by
  unfold State.unmapped
  repeat'
    first
    | with_reducible apply Within.refl
    | with_reducible assumption
    | (with_reducible apply Within.via (l := 34359738434) (m := 2) (hm := by decide)); (case h => with_reducible apply State.count_within)
    | (with_reducible apply Within.via (l := 34359738434) (m := 34359738434) (hm := by decide)); (case h => with_reducible apply State.winUnmapped_within)
    | (with_reducible apply Within.via (l := 34359738434) (m := 2) (hm := by decide)); (case h => with_reducible apply State.wr_within)
    | split

theorem State.badSize_within (s : State) (a : Nat) :
    Within 2 s (State.badSize s a) := by
  unfold State.badSize
  repeat'
    first
    | with_reducible apply Within.refl
    | with_reducible assumption
    | (with_reducible apply Within.via (l := 2) (m := 2) (hm := by decide)); (case h => with_reducible apply State.count_within)
    | (with_reducible apply Within.via (l := 2) (m := 2) (hm := by decide)); (case h => with_reducible apply State.wr_within)
    | split

theorem State.answer_within (s : State) (v : Nat) :
    Within 4398046511104 s (State.answer s v) := by
  unfold State.answer
  repeat'
    first
    | with_reducible apply Within.refl
    | with_reducible assumption
    | (with_reducible apply State.with_reply_via (l := 4398046511104) (hm := by decide))
    | split

theorem execUnmappedAccess_within (addr : BitVec 32) (write : Bool) (s : State) :
    WithinO 4432406249538 s (execUnmappedAccess addr write s) := by
  unfold execUnmappedAccess
  repeat'
    first
    | with_reducible apply Within.refl
    | with_reducible assumption
    | (extract_lets +onlyGivenNames x; refine Within.cut (l := 4432406249538) (r := s) (x := x) ?_ ?_; rotate_left; (try clear_value x); intro _; rotate_right; subst x)
    | (extract_lets +onlyGivenNames x; try clear_value x)
    | with_reducible apply WithinO.next
    | with_reducible apply WithinO.fault
    | (with_reducible apply Within.via (l := 4432406249538) (m := 4398046511104) (hm := by decide)); (case h => with_reducible apply State.answer_within)
    | (with_reducible apply Within.via (l := 4432406249538) (m := 34359738434) (hm := by decide)); (case h => with_reducible apply State.unmapped_within)
    | split

theorem execBadSizeAccess_within (addr : BitVec 32) (write : Bool) (s : State) :
    WithinO 4398046511106 s (execBadSizeAccess addr write s) := by
  unfold execBadSizeAccess
  repeat'
    first
    | with_reducible apply Within.refl
    | with_reducible assumption
    | (extract_lets +onlyGivenNames x; refine Within.cut (l := 4398046511106) (r := s) (x := x) ?_ ?_; rotate_left; (try clear_value x); intro _; rotate_right; subst x)
    | (extract_lets +onlyGivenNames x; try clear_value x)
    | with_reducible apply WithinO.next
    | with_reducible apply WithinO.fault
    | (with_reducible apply Within.via (l := 4398046511106) (m := 4398046511104) (hm := by decide)); (case h => with_reducible apply State.answer_within)
    | (with_reducible apply Within.via (l := 4398046511106) (m := 2) (hm := by decide)); (case h => with_reducible apply State.badSize_within)
    | split

theorem State.latchNext_within (s : State) (who a n : Nat) :
    Within 4 s (State.latchNext s who a n) := by
  unfold State.latchNext
  repeat'
    first
    | with_reducible apply Within.refl
    | with_reducible assumption
    | ((with_reducible apply Within.fold); (rotate_left; intro _ _ _; rotate_right))
    | (with_reducible apply Within.via (l := 4) (m := 4) (hm := by decide)); (case h => with_reducible apply State.latch_within)
    | split

theorem State.clearRc_within (s : State) (r : RegRow) (a i : Nat) :
    Within 18 s (State.clearRc s r a i) := by
  unfold State.clearRc
  repeat'
    first
    | with_reducible apply Within.refl
    | with_reducible assumption
    | (extract_lets +onlyGivenNames x; refine Within.cut (l := 18) (r := s) (x := x) ?_ ?_; rotate_left; (try clear_value x); intro _; rotate_right; subst x)
    | (extract_lets +onlyGivenNames x; try clear_value x)
    | ((with_reducible apply Within.fold); (rotate_left; intro _ _ _; rotate_right))
    | (with_reducible apply Within.via (l := 18) (m := 2) (hm := by decide)); (case h => with_reducible apply State.fset_within)
    | (with_reducible apply Within.via (l := 18) (m := 16) (hm := by decide)); (case h => with_reducible apply State.setSq_within)
    | split

theorem State.readMeasured_within (s : State) (b : Nat) :
    Within 13194139533312 s (State.readMeasured s b) := by
  unfold State.readMeasured
  repeat'
    first
    | with_reducible apply Within.refl
    | with_reducible assumption
    | (extract_lets +onlyGivenNames x; refine Within.cut (l := 13194139533312) (r := s) (x := x) ?_ ?_; rotate_left; (try clear_value x); intro _; rotate_right; subst x)
    | (extract_lets +onlyGivenNames x; refine Within.cut2 (l := 13194139533312) (r := s) (x := x) ?_ ?_; rotate_left; (try clear_value x); intro _; rotate_right; subst x)
    | (extract_lets +onlyGivenNames x; refine Within.cut1 (l := 13194139533312) (r := s) (x := x) ?_ ?_; rotate_left; (try clear_value x); intro _; rotate_right; subst x)
    | (extract_lets +onlyGivenNames x; try clear_value x)
    | (with_reducible apply Within2.snd; with_reducible assumption)
    | (with_reducible apply Within1.fst; with_reducible assumption)
    | with_reducible apply Within2.mk
    | with_reducible apply Within1.mk
    | with_reducible refine Within2.fold ?_ (fun _ _ _ => ?_)
    | with_reducible refine Within1.fold ?_ (fun _ _ _ => ?_)
    | (with_reducible apply Within.via (l := 13194139533312) (m := 4398046511104) (hm := by decide)); (case h => with_reducible apply State.answer_within)
    | (with_reducible apply Within2.via (l := 13194139533312) (m := 8796093022208) (hm := by decide)); (case h => with_reducible apply State.fresh_within)
    | (with_reducible apply Within.via (l := 13194139533312) (m := 8796093022208) (hm := by decide)); (case h => with_reducible apply State.fresh_within)
    | (with_reducible apply Within.via (l := 13194139533312) (m := 8796093022208) (hm := by decide)); (case h => (with_reducible apply Within2.ofEq (State.fresh_within _)); with_reducible assumption)
    | split
    | dsimp only
    | (with_reducible refine Within2.ofEq' ?_ (by assumption))

theorem State.readReg_within (s : State) (who a : Nat) (r : RegRow) (i j : Nat) :
    Within 13194139533334 s (State.readReg s who a r i j) := by
  unfold State.readReg
  repeat'
    first
    | with_reducible apply Within.refl
    | with_reducible assumption
    | (with_reducible apply Within2.snd; with_reducible assumption)
    | (with_reducible apply Within1.fst; with_reducible assumption)
    | with_reducible apply Within2.mk
    | with_reducible apply Within1.mk
    | with_reducible refine Within2.fold ?_ (fun _ _ _ => ?_)
    | with_reducible refine Within1.fold ?_ (fun _ _ _ => ?_)
    | (with_reducible apply Within.via (l := 13194139533334) (m := 4398046511104) (hm := by decide)); (case h => with_reducible apply State.answer_within)
    | (with_reducible apply Within.via (l := 13194139533334) (m := 18) (hm := by decide)); (case h => with_reducible apply State.clearRc_within)
    | (with_reducible apply Within.via (l := 13194139533334) (m := 4) (hm := by decide)); (case h => with_reducible apply State.latchNext_within)
    | (with_reducible apply Within.via (l := 13194139533334) (m := 13194139533312) (hm := by decide)); (case h => with_reducible apply State.readMeasured_within)
    | (with_reducible apply Within.via (l := 13194139533334) (m := 4398046511108) (hm := by decide)); (case h => with_reducible apply State.readNow_within)
    | (with_reducible apply Within2.via (l := 13194139533334) (m := 4) (hm := by decide)); (case h => with_reducible apply State.unlatch_within)
    | (with_reducible apply Within.via (l := 13194139533334) (m := 4) (hm := by decide)); (case h => with_reducible apply State.unlatch_within)
    | (with_reducible apply Within.via (l := 13194139533334) (m := 4) (hm := by decide)); (case h => (with_reducible apply Within2.ofEq (State.unlatch_within _ _ _)); with_reducible assumption)
    | split
    | dsimp only
    | (with_reducible refine Within2.ofEq' ?_ (by assumption))

theorem State.winEnd_within (s : State) (a : Nat) :
    Within 34359738368 s (State.winEnd s a) := by
  unfold State.winEnd
  repeat'
    first
    | with_reducible apply Within.refl
    | with_reducible assumption
    | (with_reducible apply State.updMg_via (l := 34359738368) (hm := by decide)); (case h => intro x hx; first | exact hx | exact (Mg.setPair_serving ..).trans_le hx | exact (Mg.setSlot_serving ..).trans_le hx)
    | split

theorem State.bar0Read_within (s : State) (who a : Nat) :
    Within 13228499271766 s (State.bar0Read s who a) := by
  unfold State.bar0Read
  repeat'
    first
    | with_reducible apply Within.refl
    | with_reducible assumption
    | (with_reducible apply Within.via (l := 13228499271766) (m := 4398046511104) (hm := by decide)); (case h => with_reducible apply State.answer_within)
    | (with_reducible apply Within.via (l := 13228499271766) (m := 2) (hm := by decide)); (case h => with_reducible apply State.badSize_within)
    | (with_reducible apply Within.via (l := 13228499271766) (m := 13194139533334) (hm := by decide)); (case h => with_reducible apply State.readReg_within)
    | (with_reducible apply Within.via (l := 13228499271766) (m := 34359738434) (hm := by decide)); (case h => with_reducible apply State.unmapped_within)
    | (with_reducible apply Within.via (l := 13228499271766) (m := 34359738368) (hm := by decide)); (case h => with_reducible apply State.winEnd_within)
    | split

theorem execRegisterRead_within (who : Fin 3) (addr : BitVec 32) (s : State) :
    WithinO 13228499271766 s (execRegisterRead who addr s) := by
  unfold execRegisterRead
  repeat'
    first
    | with_reducible apply Within.refl
    | with_reducible assumption
    | with_reducible apply WithinO.next
    | with_reducible apply WithinO.fault
    | (with_reducible apply Within.via (l := 13228499271766) (m := 13228499271766) (hm := by decide)); (case h => with_reducible apply State.bar0Read_within)
    | split

end Sys2Proof.Machine
end

