-- ==== Sys2Proof/Laws/FrameRegWrite.lean ====
section
/-!
SUPPORT. Laws/FrameRegWrite.lean: what each function of Machine/RegWrite.lean can touch.
-/
set_option linter.unusedTactic false
set_option linter.unreachableTactic false
set_option linter.tactic.unusedName false

namespace Sys2Proof.Machine

theorem State.writeField_within (s : State) (a v : Nat) (f : Fld) :
    Within 2 s (State.writeField s a v f) := by
  unfold State.writeField
  repeat'
    first
    | with_reducible apply Within.refl
    | with_reducible assumption
    | (extract_lets +onlyGivenNames x; refine Within.cut (l := 2) (r := s) (x := x) ?_ ?_; rotate_left; (try clear_value x); intro _; rotate_right; subst x)
    | (extract_lets +onlyGivenNames x; try clear_value x)
    | (with_reducible apply Within.via (l := 2) (m := 2) (hm := by decide)); (case h => with_reducible apply State.fset_within)
    | split

theorem State.writeFields_within (s : State) (r : RegRow) (a v : Nat) :
    Within 137438953474 s (State.writeFields s r a v) := by
  unfold State.writeFields
  repeat'
    first
    | with_reducible apply Within.refl
    | with_reducible assumption
    | (extract_lets +onlyGivenNames x; refine Within.cut (l := 137438953474) (r := s) (x := x) ?_ ?_; rotate_left; (try clear_value x); intro _; rotate_right; subst x)
    | (extract_lets +onlyGivenNames x; try clear_value x)
    | ((with_reducible apply Within.fold); (rotate_left; intro _ _ _; rotate_right))
    | (with_reducible apply Within.via (l := 137438953474) (m := 137438953472) (hm := by decide)); (case h => with_reducible apply State.rwsTouch_within)
    | (with_reducible apply Within.via (l := 137438953474) (m := 2) (hm := by decide)); (case h => with_reducible apply State.writeField_within)
    | split

theorem State.writeRestoreReg_within (s : State) (v : Nat) :
    Within 412316860416 s (State.writeRestoreReg s v) := by
  unfold State.writeRestoreReg
  repeat'
    first
    | with_reducible apply Within.refl
    | with_reducible assumption
    | (extract_lets +onlyGivenNames x; refine Within.cut (l := 412316860416) (r := s) (x := x) ?_ ?_; rotate_left; (try clear_value x); intro _; rotate_right; subst x)
    | (extract_lets +onlyGivenNames x; try clear_value x)
    | (with_reducible apply Within.via (l := 412316860416) (m := 274877906944) (hm := by decide)); (case h => with_reducible apply State.restoreGo_within)
    | (with_reducible apply Within.via (l := 412316860416) (m := 137438953472) (hm := by decide)); (case h => with_reducible apply State.writeRestore_within)
    | split

theorem State.writeGlb_within (s : State) (r : RegRow) (a v : Nat) :
    Within 18691479568378 s (State.writeGlb s r a v) := by
  unfold State.writeGlb
  repeat'
    first
    | with_reducible apply Within.refl
    | with_reducible assumption
    | (extract_lets +onlyGivenNames x; refine Within.cut (l := 18691479568378) (r := s) (x := x) ?_ ?_; rotate_left; (try clear_value x); intro _; rotate_right; subst x)
    | (extract_lets +onlyGivenNames x; try clear_value x)
    | (with_reducible apply Within.via (l := 18691479568378) (m := 18691479568378) (hm := by decide)); (case h => with_reducible apply State.askWarm_within)
    | (with_reducible apply Within.via (l := 18691479568378) (m := 2) (hm := by decide)); (case h => with_reducible apply State.fset_within)
    | (with_reducible apply Within.via (l := 18691479568378) (m := 12891230922) (hm := by decide)); (case h => with_reducible apply State.headReset_within)
    | (with_reducible apply Within.via (l := 18691479568378) (m := 791080091714) (hm := by decide)); (case h => with_reducible apply State.pwrTarget_within)
    | (with_reducible apply Within.via (l := 18691479568378) (m := 137438953474) (hm := by decide)); (case h => with_reducible apply State.writeFields_within)
    | (with_reducible apply Within.via (l := 18691479568378) (m := 412316860416) (hm := by decide)); (case h => with_reducible apply State.writeRestoreReg_within)
    | split

theorem State.writeSqBase_within (s : State) (n : Nat) (base : BitVec 64) :
    Within 16 s (State.writeSqBase s n base) := by
  unfold State.writeSqBase
  repeat'
    first
    | with_reducible apply Within.refl
    | with_reducible assumption
    | (extract_lets +onlyGivenNames x; refine Within.cut (l := 16) (r := s) (x := x) ?_ ?_; rotate_left; (try clear_value x); intro _; rotate_right; subst x)
    | (extract_lets +onlyGivenNames x; try clear_value x)
    | (with_reducible apply Within.via (l := 16) (m := 16) (hm := by decide)); (case h => with_reducible apply State.setSq_within)
    | split

theorem State.writeCqBase_within (s : State) (c : Nat) (base : BitVec 64) :
    Within 32 s (State.writeCqBase s c base) := by
  unfold State.writeCqBase
  repeat'
    first
    | with_reducible apply Within.refl
    | with_reducible assumption
    | (with_reducible apply Within.via (l := 32) (m := 32) (hm := by decide)); (case h => with_reducible apply State.setCq_within)
    | split

theorem State.writeMsix_within (s : State) (i v : Nat) :
    Within 896 s (State.writeMsix s i v) := by
  unfold State.writeMsix
  repeat'
    first
    | with_reducible apply Within.refl
    | with_reducible assumption
    | (extract_lets +onlyGivenNames x; refine Within.cut (l := 896) (r := s) (x := x) ?_ ?_; rotate_left; (try clear_value x); intro _; rotate_right; subst x)
    | (extract_lets +onlyGivenNames x; try clear_value x)
    | (with_reducible apply State.updHif_via (m := 256) (l := 896) (hm := by decide)); (case hsubRings => exact (fun _ _ => rfl)); (case hcplRings => exact (fun _ _ => rfl)); (case hevents => exact (fun _ _ => rfl)); (case hhostMem => exact (fun _ _ => rfl)); (case hmsix => exact (fun h => absurd h (by decide))); (case hirq => exact (fun _ _ => rfl)); (case hengine => exact (fun _ _ => rfl)); (case hd3hot => exact (fun _ _ => rfl)); (case chostMem => exact (fun _ => rfl)); (case cfences => exact (by first | exact fun _ h => h | exact fun _ h f hf => Nat.lt_succ_of_lt (h f hf) | exact fun _ h f hf => h f (List.mem_of_mem_filter hf)))
    | (with_reducible apply State.updHif_via (m := 512) (l := 896) (hm := by decide)); (case hsubRings => exact (fun _ _ => rfl)); (case hcplRings => exact (fun _ _ => rfl)); (case hevents => exact (fun _ _ => rfl)); (case hhostMem => exact (fun _ _ => rfl)); (case hmsix => exact (fun _ _ => rfl)); (case hirq => exact (fun h => absurd h (by decide))); (case hengine => exact (fun _ _ => rfl)); (case hd3hot => exact (fun _ _ => rfl)); (case chostMem => exact (fun _ => rfl)); (case cfences => exact (by first | exact fun _ h => h | exact fun _ h f hf => Nat.lt_succ_of_lt (h f hf) | exact fun _ h f hf => h f (List.mem_of_mem_filter hf)))
    | (with_reducible apply Within.via (l := 896) (m := 640) (hm := by decide)); (case h => with_reducible apply State.msixSend_within)
    | split

theorem State.writeHif_within (s : State) (r : RegRow) (a n v : Nat) :
    Within 137438954482 s (State.writeHif s r a n v) := by
  unfold State.writeHif
  repeat'
    first
    | with_reducible apply Within.refl
    | with_reducible assumption
    | (with_reducible apply Within.via (l := 137438954482) (m := 32) (hm := by decide)); (case h => with_reducible apply State.setCq_within)
    | (with_reducible apply Within.via (l := 137438954482) (m := 16) (hm := by decide)); (case h => with_reducible apply State.setSq_within)
    | (with_reducible apply Within.via (l := 137438954482) (m := 32) (hm := by decide)); (case h => with_reducible apply State.writeCqBase_within)
    | (with_reducible apply Within.via (l := 137438954482) (m := 48) (hm := by decide)); (case h => with_reducible apply State.writeCqCtl_within)
    | (with_reducible apply Within.via (l := 137438954482) (m := 80) (hm := by decide)); (case h => with_reducible apply State.writeDoorbell_within)
    | (with_reducible apply Within.via (l := 137438954482) (m := 137438953474) (hm := by decide)); (case h => with_reducible apply State.writeFields_within)
    | (with_reducible apply Within.via (l := 137438954482) (m := 896) (hm := by decide)); (case h => with_reducible apply State.writeMsix_within)
    | (with_reducible apply Within.via (l := 137438954482) (m := 16) (hm := by decide)); (case h => with_reducible apply State.writeSqBase_within)
    | (with_reducible apply Within.via (l := 137438954482) (m := 16) (hm := by decide)); (case h => with_reducible apply State.writeSqCtl_within)
    | with_reducible apply Within.ite
    | split

theorem State.writeErBase_within (s : State) (k : Nat) (base : BitVec 64) :
    Within 64 s (State.writeErBase s k base) := by
  unfold State.writeErBase
  repeat'
    first
    | with_reducible apply Within.refl
    | with_reducible assumption
    | (with_reducible apply Within.via (l := 64) (m := 64) (hm := by decide)); (case h => with_reducible apply State.setEr_within)
    | split

theorem State.writeEvt_within (s : State) (r : RegRow) (a k v : Nat) :
    Within 137438953538 s (State.writeEvt s r a k v) := by
  unfold State.writeEvt
  repeat'
    first
    | with_reducible apply Within.refl
    | with_reducible assumption
    | (with_reducible apply Within.via (l := 137438953538) (m := 64) (hm := by decide)); (case h => with_reducible apply State.setEr_within)
    | (with_reducible apply Within.via (l := 137438953538) (m := 64) (hm := by decide)); (case h => with_reducible apply State.swRaise_within)
    | (with_reducible apply Within.via (l := 137438953538) (m := 64) (hm := by decide)); (case h => with_reducible apply State.writeErBase_within)
    | (with_reducible apply Within.via (l := 137438953538) (m := 64) (hm := by decide)); (case h => with_reducible apply State.writeErCtl_within)
    | (with_reducible apply Within.via (l := 137438953538) (m := 137438953474) (hm := by decide)); (case h => with_reducible apply State.writeFields_within)
    | split

theorem State.writeLeave_within (s : State) (r : RegRow) (a v : Nat) :
    Within 18691479568378 s (State.writeLeave s r a v) := by
  unfold State.writeLeave
  repeat'
    first
    | with_reducible apply Within.refl
    | with_reducible assumption
    | (extract_lets +onlyGivenNames x; refine Within.cut (l := 18691479568378) (r := s) (x := x) ?_ ?_; rotate_left; (try clear_value x); intro _; rotate_right; subst x)
    | (extract_lets +onlyGivenNames x; try clear_value x)
    | (with_reducible apply Within.via (l := 18691479568378) (m := 33554498) (hm := by decide)); (case h => with_reducible apply State.shedUpdate_within)
    | (with_reducible apply Within.via (l := 18691479568378) (m := 18691479568378) (hm := by decide)); (case h => with_reducible apply State.tripRecover_within)
    | (with_reducible apply Within.via (l := 18691479568378) (m := 137438953474) (hm := by decide)); (case h => with_reducible apply State.writeFields_within)
    | (with_reducible apply Within.via (l := 18691479568378) (m := 137447342154) (hm := by decide)); (case h => with_reducible apply State.writeLeaveCfg_within)
    | split

theorem State.writeTime_within (s : State) (r : RegRow) (a i j v : Nat) :
    Within 138445586498 s (State.writeTime s r a i j v) := by
  unfold State.writeTime
  repeat'
    first
    | with_reducible apply Within.refl
    | with_reducible assumption
    | (extract_lets +onlyGivenNames x; refine Within.cut (l := 138445586498) (r := s) (x := x) ?_ ?_; rotate_left; (try clear_value x); intro _; rotate_right; subst x)
    | (extract_lets +onlyGivenNames x; try clear_value x)
    | (with_reducible apply Within.via (l := 138445586498) (m := 335544386) (hm := by decide)); (case h => with_reducible apply State.incrWrite_within)
    | (with_reducible apply Within.via (l := 138445586498) (m := 138244259906) (hm := by decide)); (case h => with_reducible apply State.outCtlWrite_within)
    | (with_reducible apply Within.via (l := 138445586498) (m := 138244259906) (hm := by decide)); (case h => with_reducible apply State.polderWrite_within)
    | (with_reducible apply Within.via (l := 138445586498) (m := 134217794) (hm := by decide)); (case h => with_reducible apply State.refAbsent_within)
    | (with_reducible apply Within.via (l := 138445586498) (m := 67108930) (hm := by decide)); (case h => with_reducible apply State.stepGo_within)
    | (with_reducible apply Within.via (l := 138445586498) (m := 138244259906) (hm := by decide)); (case h => with_reducible apply State.synCtlWrite_within)
    | (with_reducible apply Within.via (l := 138445586498) (m := 138244259906) (hm := by decide)); (case h => with_reducible apply State.synFreqWrite_within)
    | (with_reducible apply Within.via (l := 138445586498) (m := 137438953474) (hm := by decide)); (case h => with_reducible apply State.writeFields_within)
    | with_reducible apply Within.ite
    | split

theorem State.writeLaneCtl_within (s : State) (r : RegRow) (a n v : Nat) :
    Within 138512699466 s (State.writeLaneCtl s r a n v) := by
  unfold State.writeLaneCtl
  repeat'
    first
    | with_reducible apply Within.refl
    | with_reducible assumption
    | (extract_lets +onlyGivenNames x; refine Within.cut (l := 138512699466) (r := s) (x := x) ?_ ?_; rotate_left; (try clear_value x); intro _; rotate_right; subst x)
    | (extract_lets +onlyGivenNames x; try clear_value x)
    | (with_reducible apply Within.via (l := 138512699466) (m := 4170) (hm := by decide)); (case h => with_reducible apply State.laneDark_within)
    | (with_reducible apply Within.via (l := 138512699466) (m := 1073741890) (hm := by decide)); (case h => with_reducible apply State.laneLinksDown_within)
    | (with_reducible apply Within.via (l := 138512699466) (m := 137438953474) (hm := by decide)); (case h => with_reducible apply State.writeFields_within)
    | split

theorem State.writePrbs_within (s : State) (n v : Nat) :
    Within 2 s (State.writePrbs s n v) := by
  unfold State.writePrbs
  repeat'
    first
    | with_reducible apply Within.refl
    | with_reducible assumption
    | (extract_lets +onlyGivenNames x; refine Within.cut (l := 2) (r := s) (x := x) ?_ ?_; rotate_left; (try clear_value x); intro _; rotate_right; subst x)
    | (extract_lets +onlyGivenNames x; try clear_value x)
    | (with_reducible apply Within.via (l := 2) (m := 2) (hm := by decide)); (case h => with_reducible apply State.inject_within)
    | (with_reducible apply Within.via (l := 2) (m := 2) (hm := by decide)); (case h => with_reducible apply State.setChk_within)
    | (with_reducible apply Within.via (l := 2) (m := 2) (hm := by decide)); (case h => with_reducible apply State.setGen_within)
    | split

theorem State.writeGroup_within (s : State) (g v : Nat) :
    Within 138521083914 s (State.writeGroup s g v) := by
  unfold State.writeGroup
  repeat'
    first
    | with_reducible apply Within.refl
    | with_reducible assumption
    | (with_reducible apply Within.via (l := 138521083914) (m := 138512695298) (hm := by decide)); (case h => with_reducible apply State.unitOff_within)
    | (with_reducible apply Within.via (l := 138521083914) (m := 138521083914) (hm := by decide)); (case h => with_reducible apply State.unitOn_within)
    | split

theorem State.writePort_within (s : State) (r : RegRow) (a p v : Nat) :
    Within 138521083914 s (State.writePort s r a p v) := by
  unfold State.writePort
  repeat'
    first
    | with_reducible apply Within.refl
    | with_reducible assumption
    | (extract_lets +onlyGivenNames x; refine Within.cut (l := 138521083914) (r := s) (x := x) ?_ ?_; rotate_left; (try clear_value x); intro _; rotate_right; subst x)
    | (extract_lets +onlyGivenNames x; try clear_value x)
    | (with_reducible apply Within.via (l := 138521083914) (m := 2) (hm := by decide)); (case h => with_reducible apply State.setBit_within)
    | (with_reducible apply Within.via (l := 138521083914) (m := 138512695298) (hm := by decide)); (case h => with_reducible apply State.unitOff_within)
    | (with_reducible apply Within.via (l := 138521083914) (m := 138521083914) (hm := by decide)); (case h => with_reducible apply State.unitOn_within)
    | (with_reducible apply Within.via (l := 138521083914) (m := 137438953474) (hm := by decide)); (case h => with_reducible apply State.writeFields_within)
    | split

theorem State.writeLane_within (s : State) (r : RegRow) (a i v : Nat) :
    Within 138521088074 s (State.writeLane s r a i v) := by
  unfold State.writeLane
  repeat'
    first
    | with_reducible apply Within.refl
    | with_reducible assumption
    | (with_reducible apply Within.via (l := 138521088074) (m := 1073741890) (hm := by decide)); (case h => with_reducible apply State.setLoop_within)
    | (with_reducible apply Within.via (l := 138521088074) (m := 137438953474) (hm := by decide)); (case h => with_reducible apply State.writeFields_within)
    | (with_reducible apply Within.via (l := 138521088074) (m := 138521083914) (hm := by decide)); (case h => with_reducible apply State.writeGroup_within)
    | (with_reducible apply Within.via (l := 138521088074) (m := 138512699466) (hm := by decide)); (case h => with_reducible apply State.writeLaneCtl_within)
    | (with_reducible apply Within.via (l := 138521088074) (m := 138521083914) (hm := by decide)); (case h => with_reducible apply State.writePort_within)
    | (with_reducible apply Within.via (l := 138521088074) (m := 2) (hm := by decide)); (case h => with_reducible apply State.writePrbs_within)
    | split

theorem State.updHq_within (s : State) (f : Hq → Hq) :
    Within 1073741824 s (State.updHq s f) := by
  unfold State.updHq
  repeat'
    first
    | with_reducible apply Within.refl
    | with_reducible assumption
    | (with_reducible apply State.updNet_via (l := 1073741824) (hm := by decide))
    | split

theorem State.writeHq_within (s : State) (r : RegRow) (a v : Nat) :
    Within 138512695298 s (State.writeHq s r a v) := by
  unfold State.writeHq
  repeat'
    first
    | with_reducible apply Within.refl
    | with_reducible assumption
    | (with_reducible apply Within.via (l := 138512695298) (m := 1073741824) (hm := by decide)); (case h => with_reducible apply State.hqDoorbell_within)
    | (with_reducible apply Within.via (l := 138512695298) (m := 1073741824) (hm := by decide)); (case h => with_reducible apply State.updHq_within)
    | (with_reducible apply Within.via (l := 138512695298) (m := 137438953474) (hm := by decide)); (case h => with_reducible apply State.writeFields_within)
    | with_reducible apply Within.ite
    | split

theorem State.writeScanCtl_within (s : State) (r : RegRow) (a h v : Nat) :
    Within 137438986242 s (State.writeScanCtl s r a h v) := by
  unfold State.writeScanCtl
  repeat'
    first
    | with_reducible apply Within.refl
    | with_reducible assumption
    | (extract_lets +onlyGivenNames x; refine Within.cut (l := 137438986242) (r := s) (x := x) ?_ ?_; rotate_left; (try clear_value x); intro _; rotate_right; subst x)
    | (extract_lets +onlyGivenNames x; try clear_value x)
    | (with_reducible apply Within.via (l := 137438986242) (m := 137438953474) (hm := by decide)); (case h => with_reducible apply State.writeFields_within)
    | (with_reducible apply Within.via (l := 137438986242) (m := 32770) (hm := by decide)); (case h => with_reducible apply State.writeForceLine_within)
    | split

theorem State.writeClass_within (s : State) (r : RegRow) (a g v : Nat) :
    Within 154618822730 s (State.writeClass s r a g v) := by
  unfold State.writeClass
  repeat'
    first
    | with_reducible apply Within.refl
    | with_reducible assumption
    | (extract_lets +onlyGivenNames x; refine Within.cut (l := 154618822730) (r := s) (x := x) ?_ ?_; rotate_left; (try clear_value x); intro _; rotate_right; subst x)
    | (extract_lets +onlyGivenNames x; try clear_value x)
    | (with_reducible apply Within.via (l := 154618822730) (m := 17179869258) (hm := by decide)); (case h => with_reducible apply State.setClass_within)
    | (with_reducible apply Within.via (l := 154618822730) (m := 137438953474) (hm := by decide)); (case h => with_reducible apply State.writeFields_within)
    | split

theorem State.writeSpot_within (s : State) (r : RegRow) (a h k v : Nat) :
    Within 137438953474 s (State.writeSpot s r a h k v) := by
  unfold State.writeSpot
  repeat'
    first
    | with_reducible apply Within.refl
    | with_reducible assumption
    | (with_reducible apply Within.via (l := 137438953474) (m := 137438953474) (hm := by decide)); (case h => with_reducible apply State.writeFields_within)
    | split

theorem State.writeMedia_within (s : State) (r : RegRow) (a i j v : Nat) :
    Within 164018290890 s (State.writeMedia s r a i j v) := by
  unfold State.writeMedia
  repeat'
    first
    | with_reducible apply Within.refl
    | with_reducible assumption
    | (with_reducible apply Within.via (l := 164018290890) (m := 805306434) (hm := by decide)); (case h => with_reducible apply State.synRefresh_within)
    | (with_reducible apply Within.via (l := 164018290890) (m := 4194304) (hm := by decide)); (case h => with_reducible apply State.updPush_within)
    | (with_reducible apply Within.via (l := 164018290890) (m := 154618822730) (hm := by decide)); (case h => with_reducible apply State.writeClass_within)
    | (with_reducible apply Within.via (l := 164018290890) (m := 137438953474) (hm := by decide)); (case h => with_reducible apply State.writeFields_within)
    | (with_reducible apply Within.via (l := 164018290890) (m := 8589934722) (hm := by decide)); (case h => with_reducible apply State.writeLogHead_within)
    | (with_reducible apply Within.via (l := 164018290890) (m := 137438986242) (hm := by decide)); (case h => with_reducible apply State.writeScanCtl_within)
    | (with_reducible apply Within.via (l := 164018290890) (m := 137438953474) (hm := by decide)); (case h => with_reducible apply State.writeSpot_within)
    | split

theorem State.writeMoult_within (s : State) (r : RegRow) (a v : Nat) :
    Within 171798691906 s (State.writeMoult s r a v) := by
  unfold State.writeMoult
  repeat'
    first
    | with_reducible apply Within.refl
    | with_reducible assumption
    | (extract_lets +onlyGivenNames x; refine Within.cut (l := 171798691906) (r := s) (x := x) ?_ ?_; rotate_left; (try clear_value x); intro _; rotate_right; subst x)
    | (extract_lets +onlyGivenNames x; try clear_value x)
    | (with_reducible apply Within.via (l := 171798691906) (m := 34359738434) (hm := by decide)); (case h => with_reducible apply State.moultCommit_within)
    | (with_reducible apply Within.via (l := 171798691906) (m := 34359738432) (hm := by decide)); (case h => with_reducible apply State.moultGo_within)
    | (with_reducible apply Within.via (l := 171798691906) (m := 34359738368) (hm := by decide)); (case h => with_reducible apply State.moultRollback_within)
    | (with_reducible apply Within.via (l := 171798691906) (m := 34359738432) (hm := by decide)); (case h => with_reducible apply State.moultStage_within)
    | (with_reducible apply Within.via (l := 171798691906) (m := 137438953474) (hm := by decide)); (case h => with_reducible apply State.writeFields_within)
    | split

theorem State.writeLock_within (s : State) (v : Nat) :
    Within 34359738368 s (State.writeLock s v) := by
  unfold State.writeLock
  repeat'
    first
    | with_reducible apply Within.refl
    | with_reducible assumption
    | (with_reducible apply Within.via (l := 34359738368) (m := 34359738368) (hm := by decide)); (case h => with_reducible apply State.fuseArm_within)
    | (with_reducible apply Within.via (l := 34359738368) (m := 34359738368) (hm := by decide)); (case h => with_reducible apply State.fuseBlow_within)
    | split

theorem State.writeMgmt_within (s : State) (r : RegRow) (a v : Nat) :
    Within 240518168642 s (State.writeMgmt s r a v) := by
  unfold State.writeMgmt
  repeat'
    first
    | with_reducible apply Within.refl
    | with_reducible assumption
    | (with_reducible apply Within.via (l := 240518168642) (m := 68719476736) (hm := by decide)); (case h => with_reducible apply State.breachAck_within)
    | (with_reducible apply Within.via (l := 240518168642) (m := 137438953474) (hm := by decide)); (case h => with_reducible apply State.writeFields_within)
    | (with_reducible apply Within.via (l := 240518168642) (m := 34359738368) (hm := by decide)); (case h => with_reducible apply State.writeLock_within)
    | (with_reducible apply Within.via (l := 240518168642) (m := 171798691906) (hm := by decide)); (case h => with_reducible apply State.writeMoult_within)
    | split

theorem State.writeReg_within (s : State) (a : Nat) (r : RegRow) (i j v : Nat) :
    Within 18691680894970 s (State.writeReg s a r i j v) := by
  unfold State.writeReg
  repeat'
    first
    | with_reducible apply Within.refl
    | with_reducible assumption
    | (with_reducible apply Within.via (l := 18691680894970) (m := 137438953538) (hm := by decide)); (case h => with_reducible apply State.writeEvt_within)
    | (with_reducible apply Within.via (l := 18691680894970) (m := 18691479568378) (hm := by decide)); (case h => with_reducible apply State.writeGlb_within)
    | (with_reducible apply Within.via (l := 18691680894970) (m := 137438954482) (hm := by decide)); (case h => with_reducible apply State.writeHif_within)
    | (with_reducible apply Within.via (l := 18691680894970) (m := 138512695298) (hm := by decide)); (case h => with_reducible apply State.writeHq_within)
    | (with_reducible apply Within.via (l := 18691680894970) (m := 138521088074) (hm := by decide)); (case h => with_reducible apply State.writeLane_within)
    | (with_reducible apply Within.via (l := 18691680894970) (m := 18691479568378) (hm := by decide)); (case h => with_reducible apply State.writeLeave_within)
    | (with_reducible apply Within.via (l := 18691680894970) (m := 164018290890) (hm := by decide)); (case h => with_reducible apply State.writeMedia_within)
    | (with_reducible apply Within.via (l := 18691680894970) (m := 240518168642) (hm := by decide)); (case h => with_reducible apply State.writeMgmt_within)
    | (with_reducible apply Within.via (l := 18691680894970) (m := 138445586498) (hm := by decide)); (case h => with_reducible apply State.writeTime_within)
    | with_reducible apply Within.ite
    | split

end Sys2Proof.Machine
end

