-- ==== Sys2Proof/Laws/FrameWindow.lean ====
section
/-!
SUPPORT. Laws/FrameWindow.lean: what each function of Machine/Window.lean can touch.
-/
set_option linter.unusedTactic false
set_option linter.unreachableTactic false
set_option linter.tactic.unusedName false

namespace Sys2Proof.Machine

theorem State.winSrc_within (s : State) (b n v : Nat) :
    Within 137438957568 s (State.winSrc s b n v) := by
  unfold State.winSrc
  repeat'
    first
    | with_reducible apply Within.refl
    | with_reducible assumption
    | (extract_lets +onlyGivenNames x; refine Within.cut (l := 137438957568) (r := s) (x := x) ?_ ?_; rotate_left; (try clear_value x); intro _; rotate_right; subst x)
    | (extract_lets +onlyGivenNames x; try clear_value x)
    | (with_reducible apply Within.via (l := 137438957568) (m := 137438953472) (hm := by decide)); (case h => with_reducible apply State.nvTouch_within)
    | (with_reducible apply Within.via (l := 137438957568) (m := 4096) (hm := by decide)); (case h => with_reducible apply State.updSrc_within)
    | split

theorem State.winHead_within (s : State) (b h k v : Nat) :
    Within 137438986240 s (State.winHead s b h k v) := by
  unfold State.winHead
  repeat'
    first
    | with_reducible apply Within.refl
    | with_reducible assumption
    | (extract_lets +onlyGivenNames x; refine Within.cut (l := 137438986240) (r := s) (x := x) ?_ ?_; rotate_left; (try clear_value x); intro _; rotate_right; subst x)
    | (extract_lets +onlyGivenNames x; try clear_value x)
    | (with_reducible apply Within.via (l := 137438986240) (m := 137438953472) (hm := by decide)); (case h => with_reducible apply State.nvTouch_within)
    | (with_reducible apply Within.via (l := 137438986240) (m := 32768) (hm := by decide)); (case h => with_reducible apply State.updHead_within)
    | split

theorem State.winScl_within (s : State) (n v : Nat) :
    Within 294912 s (State.winScl s n v) := by
  unfold State.winScl
  repeat'
    first
    | with_reducible apply Within.refl
    | with_reducible assumption
    | (extract_lets +onlyGivenNames x; refine Within.cut (l := 294912) (r := s) (x := x) ?_ ?_; rotate_left; (try clear_value x); intro _; rotate_right; subst x)
    | (extract_lets +onlyGivenNames x; try clear_value x)
    | ((with_reducible apply Within.fold); (rotate_left; intro _ _ _; rotate_right))
    | (with_reducible apply Within.via (l := 294912) (m := 262144) (hm := by decide)); (case h => with_reducible apply State.setScl_within)
    | (with_reducible apply Within.via (l := 294912) (m := 32768) (hm := by decide)); (case h => with_reducible apply State.updHead_within)
    | split

theorem State.winCnv_within (s : State) (b m v : Nat) :
    Within 1048576 s (State.winCnv s b m v) := by
  unfold State.winCnv
  repeat'
    first
    | with_reducible apply Within.refl
    | with_reducible assumption
    | (extract_lets +onlyGivenNames x; refine Within.cut (l := 1048576) (r := s) (x := x) ?_ ?_; rotate_left; (try clear_value x); intro _; rotate_right; subst x)
    | (extract_lets +onlyGivenNames x; try clear_value x)
    | (with_reducible apply Within.via (l := 1048576) (m := 1048576) (hm := by decide)); (case h => with_reducible apply State.setCnv_within)
    | split

theorem State.winCol_within (s : State) (b i v : Nat) :
    Within 524288 s (State.winCol s b i v) := by
  unfold State.winCol
  repeat'
    first
    | with_reducible apply Within.refl
    | with_reducible assumption
    | (with_reducible apply Within.via (l := 524288) (m := 524288) (hm := by decide)); (case h => with_reducible apply State.setColIn_within)
    | (with_reducible apply Within.via (l := 524288) (m := 524288) (hm := by decide)); (case h => with_reducible apply State.setColOut_within)
    | (with_reducible apply Within.via (l := 524288) (m := 524288) (hm := by decide)); (case h => with_reducible apply State.setDith_within)
    | split

theorem State.winAud_within (s : State) (b i v : Nat) :
    Within 154618822656 s (State.winAud s b i v) := by
  unfold State.winAud
  repeat'
    first
    | with_reducible apply Within.refl
    | with_reducible assumption
    | (extract_lets +onlyGivenNames x; refine Within.cut (l := 154618822656) (r := s) (x := x) ?_ ?_; rotate_left; (try clear_value x); intro _; rotate_right; subst x)
    | (extract_lets +onlyGivenNames x; try clear_value x)
    | (with_reducible apply State.updAud_via (l := 154618822656) (hm := by decide))
    | (with_reducible apply Within.via (l := 154618822656) (m := 137438953472) (hm := by decide)); (case h => with_reducible apply State.nvTouch_within)
    | (with_reducible apply Within.via (l := 154618822656) (m := 17179869184) (hm := by decide)); (case h => with_reducible apply State.setAudOut_within)
    | (with_reducible apply Within.via (l := 154618822656) (m := 17179869184) (hm := by decide)); (case h => with_reducible apply State.updAudGrp_within)
    | split

theorem State.winMirror_within (s : State) (b i j v : Nat) :
    Within 154620694528 s (State.winMirror s b i j v) := by
  unfold State.winMirror
  repeat'
    first
    | with_reducible apply Within.refl
    | with_reducible assumption
    | (with_reducible apply Within.via (l := 154620694528) (m := 154618822656) (hm := by decide)); (case h => with_reducible apply State.winAud_within)
    | (with_reducible apply Within.via (l := 154620694528) (m := 1048576) (hm := by decide)); (case h => with_reducible apply State.winCnv_within)
    | (with_reducible apply Within.via (l := 154620694528) (m := 524288) (hm := by decide)); (case h => with_reducible apply State.winCol_within)
    | (with_reducible apply Within.via (l := 154620694528) (m := 137438986240) (hm := by decide)); (case h => with_reducible apply State.winHead_within)
    | (with_reducible apply Within.via (l := 154620694528) (m := 294912) (hm := by decide)); (case h => with_reducible apply State.winScl_within)
    | (with_reducible apply Within.via (l := 154620694528) (m := 137438957568) (hm := by decide)); (case h => with_reducible apply State.winSrc_within)
    | split

theorem State.windowWrite_within (s : State) (a v : Nat) :
    Within 18691680894970 s (State.windowWrite s a v) := by
  unfold State.windowWrite
  repeat'
    first
    | with_reducible apply Within.refl
    | with_reducible assumption
    | (extract_lets +onlyGivenNames x; refine Within.cut (l := 18691680894970) (r := s) (x := x) ?_ ?_; rotate_left; (try clear_value x); intro _; rotate_right; subst x)
    | (extract_lets +onlyGivenNames x; try clear_value x)
    | (with_reducible apply Within.via (l := 18691680894970) (m := 2) (hm := by decide)); (case h => with_reducible apply State.count_within)
    | (with_reducible apply Within.via (l := 18691680894970) (m := 34359738368) (hm := by decide)); (case h => with_reducible apply State.winEnd_within)
    | (with_reducible apply Within.via (l := 18691680894970) (m := 154620694528) (hm := by decide)); (case h => with_reducible apply State.winMirror_within)
    | (with_reducible apply Within.via (l := 18691680894970) (m := 34359738434) (hm := by decide)); (case h => with_reducible apply State.winUnmapped_within)
    | (with_reducible apply Within.via (l := 18691680894970) (m := 18691680894970) (hm := by decide)); (case h => with_reducible apply State.writeReg_within)
    | split

theorem State.bar0Write_within (s : State) (a v : Nat) :
    Within 18691680894970 s (State.bar0Write s a v) := by
  unfold State.bar0Write
  repeat'
    first
    | with_reducible apply Within.refl
    | with_reducible assumption
    | (with_reducible apply Within.via (l := 18691680894970) (m := 2) (hm := by decide)); (case h => with_reducible apply State.badSize_within)
    | (with_reducible apply Within.via (l := 18691680894970) (m := 34359738434) (hm := by decide)); (case h => with_reducible apply State.unmapped_within)
    | (with_reducible apply Within.via (l := 18691680894970) (m := 18691680894970) (hm := by decide)); (case h => with_reducible apply State.windowWrite_within)
    | (with_reducible apply Within.via (l := 18691680894970) (m := 18691680894970) (hm := by decide)); (case h => with_reducible apply State.writeReg_within)
    | split

theorem execRegisterWrite_within (addr v : BitVec 32) (s : State) :
    WithinO 18691680894970 s (execRegisterWrite addr v s) := by
  unfold execRegisterWrite
  repeat'
    first
    | with_reducible apply Within.refl
    | with_reducible assumption
    | with_reducible apply WithinO.next
    | with_reducible apply WithinO.fault
    | (with_reducible apply Within.via (l := 18691680894970) (m := 18691680894970) (hm := by decide)); (case h => with_reducible apply State.bar0Write_within)
    | split

theorem execWindowWrite_within (addr v : BitVec 32) (s : State) :
    WithinO 18691680894970 s (execWindowWrite addr v s) := by
  unfold execWindowWrite
  repeat'
    first
    | with_reducible apply Within.refl
    | with_reducible assumption
    | (extract_lets +onlyGivenNames x; refine Within.cut (l := 18691680894970) (r := s) (x := x) ?_ ?_; rotate_left; (try clear_value x); intro _; rotate_right; subst x)
    | (extract_lets +onlyGivenNames x; try clear_value x)
    | with_reducible apply WithinO.next
    | with_reducible apply WithinO.fault
    | (with_reducible apply Within.via (l := 18691680894970) (m := 18691680894970) (hm := by decide)); (case h => with_reducible apply State.windowWrite_within)
    | split

theorem State.hbmRead_within (s : State) (x : Nat) : Within 8796093022208 s (s.hbmRead x).2 := by
  unfold State.hbmRead
  split
  · exact Within.refl _ _
  · split
    · exact Within.refl _ _
    · exact State.with_free_via (by decide) (Within.refl _ _)

theorem State.hbmReads_within (s : State) (x n : Nat) : Within 8796093022208 s (s.hbmReads x n).2 := by
  induction n generalizing s x with
  | zero => exact Within.refl _ _
  | succ n ih => exact (ih _ _).via (by decide) (State.hbmRead_within s x)

theorem State.hbmWrite_within (s : State) (x : Nat) (b : Byte) : Within 2199023255552 s (s.hbmWrite x b) := by
  unfold State.hbmWrite
  split
  · exact Within.refl _ _
  · refine ⟨(fun p hp => by cases p <;> first | exact absurd hp (by decide) | rfl), fun g => ⟨g.balanced, ⟨g.canonical.1, g.canonical.2.1, ?_, g.canonical.2.2.2⟩, g.legal⟩⟩
    exact Tab.wf_set (d := fun _ => none) x (some b) g.canonical.2.2.1

theorem State.hbmWrites_within (s : State) (x : Nat) (l : List Byte) : Within 2199023255552 s (s.hbmWrites x l) := by
  induction l generalizing s x with
  | nil => exact Within.refl _ _
  | cons b l ih => exact (ih _ _).via (by decide) (State.hbmWrite_within s x b)

theorem State.bar2Dark_within (s : State) :
    Within 2 s (State.bar2Dark s) := by
  unfold State.bar2Dark
  repeat'
    first
    | with_reducible apply Within.refl
    | with_reducible assumption
    | (with_reducible apply Within.via (l := 2) (m := 2) (hm := by decide)); (case h => with_reducible apply State.count_within)
    | (with_reducible apply Within.via (l := 2) (m := 2) (hm := by decide)); (case h => with_reducible apply State.wr_within)
    | split

theorem execBar2Access_within (off : BitVec 32) (acc : Nat ⊕ List Byte) (ecc : List HbmErr) (s : State) :
    WithinO 15393162788930 s (execBar2Access off acc ecc s) := by
  unfold execBar2Access
  extract_lets x n
  split
  · exact .fault
  · refine .next ?_
    have h := (State.bar2Dark_within s).mono (l := 15393162788930) (by decide)
    split
    · split
      · exact h
      · exact State.with_reply_via (by decide) h
    · split
      · exact (State.granulesMet_within _ _).via (by decide) ((State.hbmWrites_within _ _ _).mono (by decide))
      · exact State.with_reply_via (by decide) ((State.granulesMet_within _ _).via (by decide) ((State.hbmReads_within _ _ _).mono (by decide)))

end Sys2Proof.Machine
end

