-- ==== Sys2Proof/Laws/FramePmbus.lean ====
section
/-!
SUPPORT. Laws/FramePmbus.lean: what each function of Machine/Pmbus.lean can touch.
-/
set_option linter.unusedTactic false
set_option linter.unreachableTactic false
set_option linter.tactic.unusedName false

namespace Sys2Proof.Machine

theorem State.answerBytes_within (s : State) (l : List Byte) :
    Within 4398046511104 s (State.answerBytes s l) := by
  unfold State.answerBytes
  repeat'
    first
    | with_reducible apply Within.refl
    | with_reducible assumption
    | (with_reducible apply State.with_reply_via (l := 4398046511104) (hm := by decide))
    | split

theorem State.answerWord_within (s : State) (w : Nat) :
    Within 4398046511104 s (State.answerWord s w) := by
  unfold State.answerWord
  repeat'
    first
    | with_reducible apply Within.refl
    | with_reducible assumption
    | (with_reducible apply Within.via (l := 4398046511104) (m := 4398046511104) (hm := by decide)); (case h => with_reducible apply State.answerBytes_within)
    | split

theorem State.ack_within (s : State) :
    Within 4398046511104 s (State.ack s) := by
  unfold State.ack
  repeat'
    first
    | with_reducible apply Within.refl
    | with_reducible assumption
    | (with_reducible apply State.with_reply_via (l := 4398046511104) (hm := by decide))
    | split

theorem State.nack_within (s : State) : Within 4398080065536 s s.nack := by
  have h : Within 4398080065536 s (s.updLv fun v => { v with stCml := true }) := State.updLv_via 33554432 (by first | exact (fun h => absurd h (by decide)) | exact (fun _ _ => rfl)) (by first | exact (fun h => absurd h (by decide)) | exact (fun _ _ => rfl)) (by first | exact (fun h => absurd h (by decide)) | exact (fun _ _ => rfl)) (fun _ => rfl) (fun _ => rfl) (fun _ => rfl) (fun _ => rfl) (by decide) (Within.refl _ _)
  exact State.with_reply_via (by decide) h

theorem execClearFaults_within (s : State) :
    WithinO 4398080065536 s (execClearFaults s) := by
  unfold execClearFaults
  repeat'
    first
    | with_reducible apply Within.refl
    | with_reducible assumption
    | with_reducible apply WithinO.next
    | with_reducible apply WithinO.fault
    | (with_reducible apply State.updLv_via (m := 33554432) (l := 4398080065536) (hm := by decide)); (case hleave => exact (fun _ _ => rfl)); (case hlimits => exact (fun _ _ => rfl)); (case hsheds => exact (fun h => absurd h (by decide))); (case cpowFree => exact (fun _ => rfl)); (case cfetFree => exact (fun _ => rfl)); (case cthermal => exact (fun _ => rfl)); (case cband => exact (fun _ => rfl))
    | (with_reducible apply Within.via (l := 4398080065536) (m := 4398046511104) (hm := by decide)); (case h => with_reducible apply State.ack_within)
    | split

theorem execStatusWord_within (s : State) :
    WithinO 4398046511104 s (execStatusWord s) := by
  unfold execStatusWord
  repeat'
    first
    | with_reducible apply Within.refl
    | with_reducible assumption
    | with_reducible apply WithinO.next
    | with_reducible apply WithinO.fault
    | (with_reducible apply Within.via (l := 4398046511104) (m := 4398046511104) (hm := by decide)); (case h => with_reducible apply State.answerWord_within)
    | split

theorem execReadVin_within (s : State) :
    WithinO 4398046511104 s (execReadVin s) := by
  unfold execReadVin
  repeat'
    first
    | with_reducible apply Within.refl
    | with_reducible assumption
    | with_reducible apply WithinO.next
    | with_reducible apply WithinO.fault
    | (with_reducible apply Within.via (l := 4398046511104) (m := 4398046511104) (hm := by decide)); (case h => with_reducible apply State.answerWord_within)
    | split

theorem execReadIin_within (s : State) :
    WithinO 13194139533312 s (execReadIin s) := by
  unfold execReadIin
  repeat'
    first
    | with_reducible apply Within.refl
    | with_reducible assumption
    | (with_reducible apply Within2.snd; with_reducible assumption)
    | (with_reducible apply Within1.fst; with_reducible assumption)
    | with_reducible apply Within2.mk
    | with_reducible apply Within1.mk
    | with_reducible refine Within2.fold ?_ (fun _ _ _ => ?_)
    | with_reducible refine Within1.fold ?_ (fun _ _ _ => ?_)
    | with_reducible apply WithinO.next
    | with_reducible apply WithinO.fault
    | (with_reducible apply Within.via (l := 13194139533312) (m := 4398046511104) (hm := by decide)); (case h => with_reducible apply State.answerWord_within)
    | (with_reducible apply Within2.via (l := 13194139533312) (m := 8796093022208) (hm := by decide)); (case h => with_reducible apply State.fresh_within)
    | (with_reducible apply Within.via (l := 13194139533312) (m := 8796093022208) (hm := by decide)); (case h => with_reducible apply State.fresh_within)
    | (with_reducible apply Within.via (l := 13194139533312) (m := 8796093022208) (hm := by decide)); (case h => (with_reducible apply Within2.ofEq (State.fresh_within _)); with_reducible assumption)
    | split
    | dsimp only
    | (with_reducible refine Within2.ofEq' ?_ (by assumption))

theorem execReadTemperature1_within (s : State) :
    WithinO 4398046511104 s (execReadTemperature1 s) := by
  unfold execReadTemperature1
  repeat'
    first
    | with_reducible apply Within.refl
    | with_reducible assumption
    | with_reducible apply WithinO.next
    | with_reducible apply WithinO.fault
    | (with_reducible apply Within.via (l := 4398046511104) (m := 4398046511104) (hm := by decide)); (case h => with_reducible apply State.answerWord_within)
    | split

theorem execReadTemperature2_within (s : State) :
    WithinO 4398046511104 s (execReadTemperature2 s) := by
  unfold execReadTemperature2
  repeat'
    first
    | with_reducible apply Within.refl
    | with_reducible assumption
    | with_reducible apply WithinO.next
    | with_reducible apply WithinO.fault
    | (with_reducible apply Within.via (l := 4398046511104) (m := 4398046511104) (hm := by decide)); (case h => with_reducible apply State.answerWord_within)
    | split

theorem execReadPin_within (s : State) :
    WithinO 4398046511104 s (execReadPin s) := by
  unfold execReadPin
  repeat'
    first
    | with_reducible apply Within.refl
    | with_reducible assumption
    | with_reducible apply WithinO.next
    | with_reducible apply WithinO.fault
    | (with_reducible apply Within.via (l := 4398046511104) (m := 4398046511104) (hm := by decide)); (case h => with_reducible apply State.answerWord_within)
    | split

theorem execMfrId_within (s : State) :
    WithinO 4398046511104 s (execMfrId s) := by
  unfold execMfrId
  repeat'
    first
    | with_reducible apply Within.refl
    | with_reducible assumption
    | with_reducible apply WithinO.next
    | with_reducible apply WithinO.fault
    | (with_reducible apply Within.via (l := 4398046511104) (m := 4398046511104) (hm := by decide)); (case h => with_reducible apply State.answerBytes_within)
    | split

theorem execMfrModel_within (s : State) :
    WithinO 4398046511104 s (execMfrModel s) := by
  unfold execMfrModel
  repeat'
    first
    | with_reducible apply Within.refl
    | with_reducible assumption
    | with_reducible apply WithinO.next
    | with_reducible apply WithinO.fault
    | (with_reducible apply Within.via (l := 4398046511104) (m := 4398046511104) (hm := by decide)); (case h => with_reducible apply State.answerBytes_within)
    | split

theorem execMfrSerial_within (s : State) :
    WithinO 4398046511104 s (execMfrSerial s) := by
  unfold execMfrSerial
  repeat'
    first
    | with_reducible apply Within.refl
    | with_reducible assumption
    | with_reducible apply WithinO.next
    | with_reducible apply WithinO.fault
    | (with_reducible apply Within.via (l := 4398046511104) (m := 4398046511104) (hm := by decide)); (case h => with_reducible apply State.answerBytes_within)
    | split

theorem execMfrPowerLimit_within (w : Option (BitVec 16)) (s : State) :
    WithinO 4398105231434 s (execMfrPowerLimit w s) := by
  unfold execMfrPowerLimit
  repeat'
    first
    | with_reducible apply Within.refl
    | with_reducible assumption
    | (extract_lets +onlyGivenNames x; refine Within.cut (l := 4398105231434) (r := s) (x := x) ?_ ?_; rotate_left; (try clear_value x); intro _; rotate_right; subst x)
    | (extract_lets +onlyGivenNames x; try clear_value x)
    | with_reducible apply WithinO.next
    | with_reducible apply WithinO.fault
    | (with_reducible apply State.updLv_via (m := 16777216) (l := 4398105231434) (hm := by decide)); (case hleave => exact (fun _ _ => rfl)); (case hlimits => exact (fun h => absurd h (by decide))); (case hsheds => exact (fun _ _ => rfl)); (case cpowFree => exact (fun _ => rfl)); (case cfetFree => exact (fun _ => rfl)); (case cthermal => exact (fun _ => rfl)); (case cband => exact (fun _ => rfl))
    | (with_reducible apply Within.via (l := 4398105231434) (m := 4398046511104) (hm := by decide)); (case h => with_reducible apply State.ack_within)
    | (with_reducible apply Within.via (l := 4398105231434) (m := 4398046511104) (hm := by decide)); (case h => with_reducible apply State.answerWord_within)
    | (with_reducible apply Within.via (l := 4398105231434) (m := 8388682) (hm := by decide)); (case h => with_reducible apply State.fillWithheld_within)
    | (with_reducible apply Within.via (l := 4398105231434) (m := 4398080065536) (hm := by decide)); (case h => with_reducible apply State.nack_within)
    | split

theorem execMfrFetchLimit_within (w : Option (BitVec 16)) (s : State) :
    WithinO 4398105231434 s (execMfrFetchLimit w s) := by
  unfold execMfrFetchLimit
  repeat'
    first
    | with_reducible apply Within.refl
    | with_reducible assumption
    | (extract_lets +onlyGivenNames x; refine Within.cut (l := 4398105231434) (r := s) (x := x) ?_ ?_; rotate_left; (try clear_value x); intro _; rotate_right; subst x)
    | (extract_lets +onlyGivenNames x; try clear_value x)
    | with_reducible apply WithinO.next
    | with_reducible apply WithinO.fault
    | (with_reducible apply State.updLv_via (m := 16777216) (l := 4398105231434) (hm := by decide)); (case hleave => exact (fun _ _ => rfl)); (case hlimits => exact (fun h => absurd h (by decide))); (case hsheds => exact (fun _ _ => rfl)); (case cpowFree => exact (fun _ => rfl)); (case cfetFree => exact (fun _ => rfl)); (case cthermal => exact (fun _ => rfl)); (case cband => exact (fun _ => rfl))
    | (with_reducible apply Within.via (l := 4398105231434) (m := 4398046511104) (hm := by decide)); (case h => with_reducible apply State.ack_within)
    | (with_reducible apply Within.via (l := 4398105231434) (m := 4398046511104) (hm := by decide)); (case h => with_reducible apply State.answerWord_within)
    | (with_reducible apply Within.via (l := 4398105231434) (m := 8388682) (hm := by decide)); (case h => with_reducible apply State.fillWithheld_within)
    | (with_reducible apply Within.via (l := 4398105231434) (m := 4398080065536) (hm := by decide)); (case h => with_reducible apply State.nack_within)
    | split

theorem execMfrState_within (w : Option (BitVec 8)) (s : State) :
    WithinO 5189160157250 s (execMfrState w s) := by
  unfold execMfrState
  repeat'
    first
    | with_reducible apply Within.refl
    | with_reducible assumption
    | with_reducible apply WithinO.next
    | with_reducible apply WithinO.fault
    | (with_reducible apply Within.via (l := 5189160157250) (m := 4398046511104) (hm := by decide)); (case h => with_reducible apply State.ack_within)
    | (with_reducible apply Within.via (l := 5189160157250) (m := 4398046511104) (hm := by decide)); (case h => with_reducible apply State.answerBytes_within)
    | (with_reducible apply Within.via (l := 5189160157250) (m := 4398080065536) (hm := by decide)); (case h => with_reducible apply State.nack_within)
    | (with_reducible apply Within.via (l := 5189160157250) (m := 791080091714) (hm := by decide)); (case h => with_reducible apply State.pwrTarget_within)
    | split

theorem execPmbusUnsupported_within (code : BitVec 8) (write : Bool) (s : State) :
    WithinO 4398080065536 s (execPmbusUnsupported code write s) := by
  unfold execPmbusUnsupported
  repeat'
    first
    | with_reducible apply Within.refl
    | with_reducible assumption
    | with_reducible apply WithinO.next
    | with_reducible apply WithinO.fault
    | (with_reducible apply Within.via (l := 4398080065536) (m := 4398080065536) (hm := by decide)); (case h => with_reducible apply State.nack_within)
    | split

end Sys2Proof.Machine
end

