-- ==== Sys2Proof/Laws/Exec.lean ====
section
/-!
SUPPORT. Laws/Exec.lean: what each command may change, and that every command keeps what a state holds of itself.
-/
namespace Sys2Proof.Machine

/-- The mask of a list of parts. -/
def maskOf : List Part → Nat
  | [] => 0
  | p :: l => 2 ^ p.idx ||| maskOf l

theorem Part.idx_inj {p q : Part} (h : p.idx = q.idx) : p = q := by
  cases p <;> cases q <;> first | rfl | exact absurd h (by decide)

theorem testBit_maskOf {p : Part} {l : List Part} (h : p ∉ l) : (maskOf l).testBit p.idx = false := by
  induction l with
  | nil => exact Nat.zero_testBit _
  | cons q l ih =>
    rw [List.mem_cons, not_or] at h
    rw [maskOf, Nat.testBit_or, ih h.2, Bool.or_false, Nat.testBit_two_pow]
    exact decide_eq_false fun e => h.1 (Part.idx_inj e.symm)

/-- What a command may change, as a mask. -/
theorem exec_within (c : Instr) (s : State) : WithinO (maskOf (touches c)) s (exec c s) := by
  cases c with
  | doorbell _ _ => exact execDoorbell_within _ _ _
  | sqEnable _ _ => exact execSqEnable_within _ _ _
  | sqDisable _ => exact execSqDisable_within _ _
  | sqReset _ => exact execSqReset_within _ _
  | sqResume _ => exact execSqResume_within _ _
  | ringResetEnd _ => exact execRingResetEnd_within _ _
  | cqEnable _ _ => exact execCqEnable_within _ _ _
  | cqErrClear _ => exact execCqErrClear_within _ _
  | cqHeadWrite _ _ => exact execCqHeadWrite_within _ _ _
  | descriptorFetch _ _ => exact execDescriptorFetch_within _ _ _
  | malformedDescriptor _ => exact execMalformedDescriptor_within _ _
  | completionPost _ _ => exact execCompletionPost_within _ _ _
  | cqModTimerExpiry _ => exact execCqModTimerExpiry_within _ _
  | flr _ => exact execFlr_within _ _
  | opNop _ => exact execOpNop_within _ _
  | opFence _ => exact execOpFence_within _ _
  | opTake _ => exact execOpTake_within _ _
  | opCommit _ => exact execOpCommit_within _ _
  | opSalvoArm _ => exact execOpSalvoArm_within _ _
  | salvoCancel _ => exact execSalvoCancel_within _ _
  | commitCancel _ => exact execCommitCancel_within _ _
  | salvoArmTimeout _ _ => exact execSalvoArmTimeout_within _ _ _
  | opHeadSet _ => exact execOpHeadSet_within _ _
  | opLayerSet _ => exact execOpLayerSet_within _ _
  | opHeadStop _ => exact execOpHeadStop_within _ _
  | opSurfAlloc _ => exact execOpSurfAlloc_within _ _
  | opSurfUpload _ => exact execOpSurfUpload_within _ _
  | surfUploadEnd _ _ => exact execSurfUploadEnd_within _ _ _
  | opSurfFree _ => exact execOpSurfFree_within _ _
  | opSrcSet _ => exact execOpSrcSet_within _ _
  | opFlowAdd _ => exact execOpFlowAdd_within _ _
  | opFlowDel _ => exact execOpFlowDel_within _ _
  | sourceRingFree _ => exact execSourceRingFree_within _ _
  | opLedgerRead _ _ => exact execOpLedgerRead_within _ _ _
  | scalerClaim _ => exact execScalerClaim_within _ _
  | scalerRelease _ => exact execScalerRelease_within _ _
  | scalerConfigure _ => exact execScalerConfigure_within _ _
  | opColourLoad _ _ => exact execOpColourLoad_within _ _ _
  | convClaim _ => exact execConvClaim_within _ _
  | convRelease _ => exact execConvRelease_within _ _
  | convMode _ => exact execConvMode_within _ _
  | audioRoute _ => exact execAudioRoute_within _ _
  | audioSet _ => exact execAudioSet_within _ _
  | audioUnroute _ => exact execAudioUnroute_within _ _
  | audioCompanion _ => exact execAudioCompanion_within _ _
  | opLeaveReq _ => exact execOpLeaveReq_within _ _
  | opLeaveRet _ => exact execOpLeaveRet_within _ _
  | opNvRead _ _ => exact execOpNvRead_within _ _ _
  | opNvWrite _ _ => exact execOpNvWrite_within _ _ _
  | nvCountRead _ => exact execNvCountRead_within _ _
  | nvCountIncrement _ => exact execNvCountIncrement_within _ _
  | keyGenerate _ => exact execKeyGenerate_within _ _
  | keyImport _ _ => exact execKeyImport_within _ _ _
  | keyDerive _ _ => exact execKeyDerive_within _ _ _
  | keyDelete _ => exact execKeyDelete_within _ _
  | keyLimit _ => exact execKeyLimit_within _ _
  | keyInfo _ _ => exact execKeyInfo_within _ _ _
  | keySign _ _ => exact execKeySign_within _ _ _
  | keyVerify _ _ => exact execKeyVerify_within _ _ _
  | keyMac _ _ => exact execKeyMac_within _ _ _
  | keyEncrypt _ _ => exact execKeyEncrypt_within _ _ _
  | keyDecrypt _ _ => exact execKeyDecrypt_within _ _ _
  | keyHash _ _ => exact execKeyHash_within _ _ _
  | keyAttest _ _ => exact execKeyAttest_within _ _ _
  | keyChallenge _ _ => exact execKeyChallenge_within _ _ _
  | keyRespond _ _ => exact execKeyRespond_within _ _ _
  | challengeExpiry _ => exact execChallengeExpiry_within _ _
  | unlockLockoutExpiry => exact execUnlockLockoutExpiry_within _
  | keyAdminSet _ _ => exact execKeyAdminSet_within _ _ _
  | keyRecommission _ => exact execKeyRecommission_within _ _
  | dikeBind _ => exact execDikeBind_within _ _
  | dikeContent _ _ _ _ => exact execDikeContent_within _ _ _ _ _
  | dikeUnbind _ _ => exact execDikeUnbind_within _ _ _
  | dikeReapply _ _ _ => exact execDikeReapply_within _ _ _ _
  | pushSet _ => exact execPushSet_within _ _
  | pushDisable _ => exact execPushDisable_within _ _
  | pushRefresh _ => exact execPushRefresh_within _ _
  | sealLogSet _ => exact execSealLogSet_within _ _
  | sealLogOff _ => exact execSealLogOff_within _ _
  | sealRead _ _ => exact execSealRead_within _ _ _
  | sealNow _ => exact execSealNow_within _ _
  | rasterPeriodStart _ => exact execRasterPeriodStart_within _ _
  | sluiceClose _ => exact execSluiceClose_within _ _
  | composeDeadline _ _ => exact execComposeDeadline_within _ _ _
  | flip _ _ => exact execFlip_within _ _ _
  | pushReadEnd _ _ _ => exact execPushReadEnd_within _ _ _ _
  | pushHeadWrite _ _ => exact execPushHeadWrite_within _ _ _
  | pinSenseJudgement _ _ _ _ => exact execPinSenseJudgement_within _ _ _ _ _
  | sealDue _ => exact execSealDue_within _ _
  | sealSigned => exact execSealSigned_within _
  | logHeadWrite _ => exact execLogHeadWrite_within _ _
  | scanForceLine _ _ => exact execScanForceLine_within _ _ _
  | headRstGo _ => exact execHeadRstGo_within _ _
  | containmentHeadReset _ _ => exact execContainmentHeadReset_within _ _ _
  | creditAudit _ => exact execCreditAudit_within _ _
  | signalDetect _ => exact execSignalDetect_within _ _
  | rateDwellExpiry _ => exact execRateDwellExpiry_within _ _
  | cdrLock _ => exact execCdrLock_within _ _
  | cdrLoss _ => exact execCdrLoss_within _ _
  | sdiFrame _ _ => exact execSdiFrame_within _ _ _
  | trsLoss _ => exact execTrsLoss_within _ _
  | publishTimeout _ => exact execPublishTimeout_within _ _
  | ipVideoPacket _ => exact execIpVideoPacket_within _ _
  | mergeWindowExpiry _ => exact execMergeWindowExpiry_within _ _
  | ipFlowTimeout _ => exact execIpFlowTimeout_within _ _
  | legLost _ _ => exact execLegLost_within _ _ _
  | igmpQuery _ _ _ _ _ _ _ => exact execIgmpQuery_within _ _ _ _ _ _ _ _
  | igmpReportRepeat => exact execIgmpReportRepeat_within _
  | buildStart _ _ => exact execBuildStart_within _ _ _
  | audioSamplePosition _ => exact execAudioSamplePosition_within _ _
  | audioPacket _ => exact execAudioPacket_within _ _
  | audioSendPacket _ => exact execAudioSendPacket_within _ _
  | classMeasurement _ _ _ => exact execClassMeasurement_within _ _ _ _
  | ipSendPacket _ => exact execIpSendPacket_within _ _
  | phcIncrWrite _ => exact execPhcIncrWrite_within _ _
  | phcStepGo _ _ => exact execPhcStepGo_within _ _ _
  | phcNowRead _ => exact execPhcNowRead_within _ _
  | phcHoldoverTimeout => exact execPhcHoldoverTimeout_within _
  | ppsEdge => exact execPpsEdge_within _
  | ppsLost => exact execPpsLost_within _
  | refAlignmentPoint _ _ _ _ => exact execRefAlignmentPoint_within _ _ _ _ _
  | refSyncAbsent _ => exact execRefSyncAbsent_within _ _
  | synthConfigWrite _ _ _ => exact execSynthConfigWrite_within _ _ _ _
  | synthLock _ _ => exact execSynthLock_within _ _ _
  | synthAlignmentPoint _ => exact execSynthAlignmentPoint_within _ _
  | slewStep _ => exact execSlewStep_within _ _
  | relock _ => exact execRelock_within _ _
  | sourceSwitch _ _ => exact execSourceSwitch_within _ _ _
  | synthRevert _ _ => exact execSynthRevert_within _ _ _
  | polderCtlWrite _ _ => exact execPolderCtlWrite_within _ _ _
  | hqRxFrame _ _ _ _ _ => exact execHqRxFrame_within _ _ _ _ _ _
  | hqTxDb _ => exact execHqTxDb_within _ _
  | hqTxDone _ _ _ => exact execHqTxDone_within _ _ _ _
  | laneGrpEnable _ => exact execLaneGrpEnable_within _ _
  | laneGrpDisable _ => exact execLaneGrpDisable_within _ _
  | portEnable _ => exact execPortEnable_within _ _
  | portDisable _ => exact execPortDisable_within _ _
  | powerDownEnd _ => exact execPowerDownEnd_within _ _
  | portLinkChange _ _ _ => exact execPortLinkChange_within _ _ _ _
  | fecReport _ _ _ => exact execFecReport_within _ _ _ _
  | loopSelect _ _ => exact execLoopSelect_within _ _ _
  | prbsGeneratorSelect _ _ => exact execPrbsGeneratorSelect_within _ _ _
  | prbsCheckerSelect _ _ => exact execPrbsCheckerSelect_within _ _ _
  | prbsInject _ => exact execPrbsInject_within _ _
  | leaveCfgWrite _ => exact execLeaveCfgWrite_within _ _
  | leaveAudit _ _ => exact execLeaveAudit_within _ _ _
  | supplyMeasurement _ _ => exact execSupplyMeasurement_within _ _ _
  | powerFail => exact execPowerFail_within _
  | powerFailRecovery => exact execPowerFailRecovery_within _
  | thermalSample _ _ => exact execThermalSample_within _ _ _
  | thermalTrip _ _ => exact execThermalTrip_within _ _ _
  | tripRecover => exact execTripRecover_within _
  | breach _ => exact execBreach_within _ _
  | breachAck _ => exact execBreachAck_within _ _
  | aonMapping => exact execAonMapping_within _
  | battMeasure _ _ => exact execBattMeasure_within _ _ _
  | recallScan _ => exact execRecallScan_within _ _
  | recallDone _ => exact execRecallDone_within _ _
  | nvRecordAck _ => exact execNvRecordAck_within _ _
  | nvCellAck _ => exact execNvCellAck_within _ _
  | nvEraseDone _ => exact execNvEraseDone_within _ _
  | pacedWrite => exact execPacedWrite_within _
  | nvCompaction => exact execNvCompaction_within _
  | nvScrub _ _ => exact execNvScrub_within _ _ _
  | holdupReady _ => exact execHoldupReady_within _ _
  | flashTimeout _ => exact execFlashTimeout_within _ _
  | mgmtWatchdog _ _ => exact execMgmtWatchdog_within _ _ _
  | lockstepMismatch _ _ => exact execLockstepMismatch_within _ _ _
  | pairBoot _ _ _ => exact execPairBoot_within _ _ _ _
  | moultStage => exact execMoultStage_within _
  | moultStageDone _ => exact execMoultStageDone_within _ _
  | moultGo => exact execMoultGo_within _
  | quietPoint => exact execQuietPoint_within _
  | quietTimeout => exact execQuietTimeout_within _
  | moultCommit => exact execMoultCommit_within _
  | moultRollback => exact execMoultRollback_within _
  | probationExpiry => exact execProbationExpiry_within _
  | windowWrite _ _ => exact execWindowWrite_within _ _ _
  | fuseArm => exact execFuseArm_within _
  | fuseBlow => exact execFuseBlow_within _
  | warmReset => exact execWarmReset_within _
  | modRstN => exact execModRstN_within _
  | powerOnReset _ => exact execPowerOnReset_within _ _
  | pwrTargetRun => exact execPwrTargetRun_within _
  | pwrTargetQuiet => exact execPwrTargetQuiet_within _
  | pwrTargetStandby => exact execPwrTargetStandby_within _
  | standbyEntryDone => exact execStandbyEntryDone_within _
  | wakeDone => exact execWakeDone_within _
  | restoreConfigWrite _ _ => exact execRestoreConfigWrite_within _ _ _
  | restoreGo => exact execRestoreGo_within _
  | restoration => exact execRestoration_within _
  | restorePolderTimeout => exact execRestorePolderTimeout_within _
  | eventOccurrence _ _ _ => exact execEventOccurrence_within _ _ _ _
  | eventRecordWrite _ _ => exact execEventRecordWrite_within _ _ _
  | eventRingEnable _ _ => exact execEventRingEnable_within _ _ _
  | eventRingTimer _ => exact execEventRingTimer_within _ _
  | swRaise _ => exact execSwRaise_within _ _
  | patrolScrub _ => exact execPatrolScrub_within _ _
  | sramScrub _ => exact execSramScrub_within _ _
  | bar2Access _ _ _ => exact execBar2Access_within _ _ _ _
  | unmappedAccess _ _ => exact execUnmappedAccess_within _ _ _
  | badSizeAccess _ _ => exact execBadSizeAccess_within _ _ _
  | registerWrite _ _ => exact execRegisterWrite_within _ _ _
  | clearFaults => exact execClearFaults_within _
  | statusWord => exact execStatusWord_within _
  | readVin => exact execReadVin_within _
  | readIin => exact execReadIin_within _
  | readTemperature1 => exact execReadTemperature1_within _
  | readTemperature2 => exact execReadTemperature2_within _
  | readPin => exact execReadPin_within _
  | mfrId => exact execMfrId_within _
  | mfrModel => exact execMfrModel_within _
  | mfrSerial => exact execMfrSerial_within _
  | mfrPowerLimit _ => exact execMfrPowerLimit_within _ _
  | mfrFetchLimit _ => exact execMfrFetchLimit_within _ _
  | mfrState _ => exact execMfrState_within _ _
  | pmbusUnsupported _ _ => exact execPmbusUnsupported_within _ _ _
  | registerRead _ _ => exact execRegisterRead_within _ _ _
  | d3hotEntry => exact execD3hotEntry_within _
  | pcieAerError _ _ => exact execPcieAerError_within _ _ _
  | laneSignalLost _ => exact execLaneSignalLost_within _ _
  | prbsCheckerLock _ => exact execPrbsCheckerLock_within _ _
  | prbsCheckerLoss _ _ _ => exact execPrbsCheckerLoss_within _ _ _ _
  | ancillaryPacket _ _ => exact execAncillaryPacket_within _ _ _
  | unmatchedFrame _ _ _ _ => exact execUnmatchedFrame_within _ _ _ _ _
  | keyOperationEnd _ _ => exact execKeyOperationEnd_within _ _ _
  | j4Disconnect _ => exact execJ4Disconnect_within _ _

/-- A command changes no part that `touches` does not list. -/
theorem exec_frame {c : Instr} {s t : State} (h : exec c s = .next t) {p : Part} (hp : p ∉ touches c) : p.same s t :=
  (exec_within c s t h).same p (testBit_maskOf hp)

/-- A command keeps what every state holds of itself. -/
theorem exec_good {c : Instr} {s t : State} (h : exec c s = .next t) (g : s.Good) : t.Good := (exec_within c s t h).good g

end Sys2Proof.Machine
end

