-- ==== Sys2Proof/Tests/Slice0.lean ====
section
/-!
SUPPORT. Tests/Slice0.lean: small tests, and for the statements a state and operands that meet their hypotheses.
-/
namespace Sys2Proof.Tests
open Sys2Proof Sys2Proof.Machine

/-! ## What WellFormed refuses -/

/-- R530: an offset at 64 MiB. -/
theorem test_wf_bar0 : (Instr.registerWrite 0x4000000 0).wf = false ∧ (Instr.registerRead 0 0x4000000).wf = false ∧
    (Instr.unmappedAccess 0x4000000 false).wf = false ∧ (Instr.badSizeAccess 0x4000000 true).wf = false ∧
    (Instr.registerWrite 0x3FFFFFC 0).wf = true := by decide
/-- R483, R530: a window write below the window, and one not aligned. -/
theorem test_wf_window : (Instr.windowWrite 0xFFFFFC 0).wf = false ∧ (Instr.windowWrite 0x1000002 0).wf = false ∧
    (Instr.windowWrite 0x1000004 0).wf = true := by decide
/-- R538: the last byte of 256 MiB, and one past it. -/
theorem test_wf_bar2 : (Instr.bar2Access 0xFFFFFFF (.inl 2) []).wf = false ∧ (Instr.bar2Access 0xFFFFFFF (.inl 1) []).wf = true ∧
    (Instr.bar2Access 0xFFFFFFF (.inr [1, 2]) []).wf = false := by decide
/-- R13: a descriptor has 64 bytes. -/
theorem test_wf_descriptor : (Instr.descriptorFetch 0 (some [1])).wf = false ∧ (Instr.descriptorFetch 0 none).wf = true := by decide
/-- R74: twelve bytes of detail. -/
theorem test_wf_event : (Instr.eventOccurrence 0 0 [1]).wf = false ∧ (Instr.eventOccurrence 0 0 (List.replicate 12 0)).wf = true := by decide
/-- R291: signatures of 96 bytes. -/
theorem test_wf_dike : (Instr.dikeContent 0 (some []) true []).wf = false ∧ (Instr.dikeUnbind 0 (some [])).wf = false ∧
    (Instr.dikeContent 0 none true []).wf = true ∧ (Instr.dikeUnbind 0 none).wf = true := by decide
/-- R296: four hashes of 16 bytes. -/
theorem test_wf_hashes : (Instr.pinSenseJudgement 0 0 0 []).wf = false := by decide
/-- IGMP has no version 0. -/
theorem test_wf_igmp : (Instr.igmpQuery 0 0 false 0 0 0 []).wf = false := by decide
/-- R384: an entry of 64 bytes. -/
theorem test_wf_txEntry : (Instr.hqTxDone (some []) true false).wf = false := by decide
/-- R411: 24 readings. -/
theorem test_wf_thermal : (Instr.thermalSample [] 0).wf = false := by decide
/-- R377: no more errors than bits compared. -/
theorem test_wf_prbs : (Instr.prbsCheckerLoss 0 1 2).wf = false := by decide

set_option Elab.async false

/-! ## The hypotheses of the statements are met

`Meets s opc P`: in the state `s`, which is Good, a descriptor of opcode `opc` starts on ring 0, and its job and the state in which it has
started meet `P`. Each theorem `meets_…` shows the hypotheses of one clause of a statement, or of several, met together. -/

/-- What decides whether a state is Good. -/
def goodB (s : State) : Bool :=
  s.lv.powFree + s.led 9 0 5 == powPool + s.led 9 0 6 && s.lv.fetFree + s.led 9 1 5 == fetPool + s.led 9 1 6 &&
  (Tab.wf powerOn s.regs && Tab.wf (fun _ => 0) s.ledger && Tab.wf (fun _ => none) s.hbm && Tab.wf (fun _ => none) s.hif.hostMem &&
    s.hif.fences.all fun f => decide (f.stamp < s.hif.stamp)) &&
  (decide (s.tim.phc < 281474976710656 * phcUnit) && s.tim.stepWait.all (·.ok) && decide (s.mg.serving ≤ 1) && decide (s.lv.thermal ≤ 3) &&
    decide (s.lv.band ≤ 2))

theorem good_of {s : State} (h : goodB s = true) : s.Good := by
  simp only [goodB, Bool.and_eq_true, beq_iff_eq, decide_eq_true_eq, List.all_eq_true] at h
  obtain ⟨⟨⟨hp, hf⟩, ⟨⟨⟨h1, h2⟩, h3⟩, h4⟩, h5⟩, ⟨⟨⟨hc, hw⟩, hs⟩, ht⟩, hb⟩ := h
  exact ⟨⟨hp, hf⟩, ⟨h1, h2, h3, h4, h5⟩, hc, fun p e => by simpa [e] using hw, hs, ht, hb⟩

/-- The job and the state that the first descriptor of ring 0 starts with. -/
def begun (s : State) : Job × State := (s.start 0 false).getD (⟨0, 0, 0, 0, 0, false, false, []⟩, s)

/-- What decides whether the first descriptor of ring 0 starts, with opcode `opc`. -/
def startsB (s : State) (opc : Nat) : Bool :=
  s.nextRing == some 0 && wellFormedDesc ((s.sq 0).prefetch.headD []) (s.sq 0).seqNext && u8 ((s.sq 0).prefetch.headD []) 0 == opc &&
  !(s.sq 0).prefetch.isEmpty && (!(begun s).1.take || takeAccepts opc) && !(begun s).2.pwrRefuses opc && (s.sq 0).parked.isEmpty && (!needsFw opc || (begun s).2.fwUp)

theorem starts_of {s : State} {opc : Nat} (h : startsB s opc = true) : s.Starts 0 opc (begun s).1 (begun s).2 := by
  simp only [startsB, Bool.and_eq_true, Bool.or_eq_true, Bool.not_eq_true', beq_iff_eq, List.isEmpty_iff] at h
  obtain ⟨⟨⟨⟨⟨⟨⟨hn, hw⟩, ho⟩, he⟩, hc⟩, hp⟩, hk⟩, hf⟩ := h
  cases hd : (s.sq 0).prefetch with
  | nil => simp [hd] at he
  | cons d rest =>
    rw [hd] at hw ho
    exact ⟨hn, ⟨d, rest, hd, hw, ho⟩, by simp [begun, State.start, hd], fun t => by simpa [t] using hc, hp, hk, fun t => by simpa [t] using hf⟩

def Meets (s : State) (opc : Nat) (P : Job → State → Prop) : Prop := s.Good ∧ ∃ j u, s.Starts 0 opc j u ∧ P j u

theorem meets {s : State} {opc : Nat} {P : Job → State → Prop} (h : (goodB s && startsB s opc) = true) (p : P (begun s).1 (begun s).2) : Meets s opc P := by
  rw [Bool.and_eq_true] at h
  exact ⟨good_of h.1, _, _, starts_of h.2, p⟩

/-- A descriptor: its opcode, and the bytes of its body that are not 0. -/
def desc (op : Nat) (l : List (Nat × Nat)) : List Byte :=
  (List.range 64).map fun i => BitVec.ofNat 8 (if i = 0 then op else if i = 2 then 1 else (l.lookup i).getD 0)

/-- After reset: pair A serves, the NV store is recalled and its hold-up is charged; ring 0 is open, privileged and of owner 7 with one descriptor fetched. -/
def ring (d : List Byte) : State :=
  { State.reset with
    hif := { Hif.reset with
      sqs := [(0, { Sq.reset with enable := true, state := .running, sizeLog2 := 4, owner := 7, priv := true, tail := 1, prefetch := [d] })],
      cqs := [(0, { Cq.reset with enable := true, sizeLog2 := 4 })] },
    mg := { Mg.reset with a := { Pair.reset with state := .serving }, b := { Pair.reset with state := .standby } },
    nv := { Nv.reset with phase := .ready, energy := 4000 } }

/-- Ring 0 with one descriptor in a state changed by `f`. -/
def ringIn (f : State → State) (op : Nat) (l : List (Nat × Nat)) : State := f (ring (desc op l))

/-! ### The machine -/

theorem meets_StepTakesFront : ({ State.reset with pending := [.flr false, .mfrId] } : State).pending = .flr false :: [.mfrId] := rfl
theorem meets_IdleStepTicks : State.reset.pending = [] := rfl
/-- For CommandsKeepQueue, WellFormedCompletes and every frame: a command that completes and whose list of parts has none but the answer, and one that has none. -/
theorem meets_frames : (∃ t, exec .mfrId State.reset = .next t) ∧ Instr.mfrId.wf = true ∧ (∀ p : Part, p ∈ touches .mfrId → p = .reply) ∧
    (∃ t, exec .quietTimeout State.reset = .next t) ∧ .reply ∉ touches .quietTimeout := by
  refine ⟨⟨_, rfl⟩, rfl, by decide, ⟨_, rfl⟩, by decide⟩
theorem meets_StopsOutsideApertures : (∃ f, exec (.registerRead 0 0x4000000) State.reset = .fault f) ∧ 67108864 ≤ (0x4000000 : BitVec 32).toNat ∧
    268435456 < (0xFFFFFFF : BitVec 32).toNat + 2 ∧ 268435456 < (0x10000000 : BitVec 32).toNat + ([1] : List Byte).length :=
  ⟨⟨_, rfl⟩, by decide, by decide, by decide⟩
theorem meets_InvKept : State.reset.Inv ∧ ∃ t, step State.reset = .next t := ⟨⟨good_of (by decide +kernel), by simp [State.reset]⟩, _, rfl⟩
theorem meets_ResetsThatHeadsSurvive : ∃ t, exec .moultRollback State.reset = .next t := ⟨_, rfl⟩

/-! ### Rings, completions and events -/

theorem meets_NopRule : Meets (ringIn id 0xF0 []) 0xF0 fun _ _ => True := meets (by decide +kernel) trivial
theorem meets_NopRule_malformed : u8 (desc 0xF0 [(16, 1)]) 0 = 0xF0 ∧ u8 (desc 0xF0 [(16, 1)]) 16 ≠ 0 ∧ u8 (desc 0xF0 [(63, 1)]) 63 ≠ 0 := by decide +kernel
/-- Source 312 delivers, and its ring has room. -/
def evtOpen : State := State.reset.setEr 3 { Er.reset with enable := true, sizeLog2 := 4 }
theorem meets_SoftwareMarkRule : evtOpen.fget (Adr.evtSrc 312) 1 0 = 3 ∧ evtOpen.flag (Adr.evtSrc 312) 2 = true ∧ (evtOpen.er 3).enable = true ∧
    ((evtOpen.er 3).tail - (evtOpen.er 3).head).toNat + (evtOpen.stagedOf 3).length < 2 ^ (evtOpen.er 3).sizeLog2 ∧ (evtOpen.stagedOf 3).length < 64 := by decide +kernel

/-- Ring 0 in the state `st`, owner 7, of 16 entries. -/
def sqIn (st : SqState) : State := State.reset.setSq 0 { Sq.reset with state := st, owner := 7, sizeLog2 := 4 }
/-- A doorbell of another owner; one to a closed ring; one that fills the ring, and one past it. -/
theorem meets_SubmissionRings_doorbell : (0x80001 : BitVec 32).toNat / 65536 ≠ ((sqIn .running).sq 0).owner ∧
    (0x70010 : BitVec 32).toNat / 65536 = ((sqIn .running).sq 0).owner ∧ ((sqIn .disabled).sq 0).state = .disabled ∧
    (BitVec.ofNat 16 (0x70010 : BitVec 32).toNat - ((sqIn .running).sq 0).head).toNat ≤ 2 ^ ((sqIn .running).sq 0).sizeLog2 ∧
    2 ^ ((sqIn .running).sq 0).sizeLog2 < (BitVec.ofNat 16 (0x70011 : BitVec 32).toNat - ((sqIn .running).sq 0).head).toNat := by decide +kernel
/-- An enable with a good configuration, and one with a bad size; the states that the other clauses name. -/
theorem meets_SubmissionRings_states : (4 ≤ bits (0x70041 : BitVec 32).toNat 7 4 ∧ bits (0x70041 : BitVec 32).toNat 31 16 = 7) ∧ bits (0x70031 : BitVec 32).toNat 7 4 < 4 ∧
    ((sqIn .halted).sq 0).state = .halted ∧ ((sqIn .resetting).sq 0).state = .resetting ∧ ((sqIn .resetting).sq 0).closing = false ∧
    ((sqIn .resetting).sq 0).started = [] ∧ ((sqIn .running).sq 0).state ≠ .halted := by decide +kernel

/-- Ring 0's first completion is ready, and completion ring 0 takes it. -/
def cqOpen (room : Bool) : State :=
  (State.reset.setSq 0 { Sq.reset with
      state := .running, owner := 7, sizeLog2 := 4, tail := 1,
      started := [{ stamp := 0, seq := 0, opcode := 0xF0, irq := false, halted := false, flushed := false, ended := true, ready := some (0, 0) }] }).setCq 0
    { Cq.reset with enable := true, sizeLog2 := 4, err := !room, modTime := 1, unsig := 1 }
theorem meets_CompletionRings : ((State.reset).cq 0).enable = false ∧ (4 ≤ bits (0x40 : BitVec 32).toNat 7 4 ∧ bits (0xC0 : BitVec 32).toNat 7 4 ≤ 12) ∧
    ¬(bits (0xD0 : BitVec 32).toNat 7 4 ≤ 12) ∧ ((cqOpen false).cq 0).enable = true ∧ ((cqOpen false).cq 0).err = true ∧
    (∃ e, ((cqOpen true).sq 0).started = [e] ∧ e.ready = some (0, 0)) ∧ (cqOpen true).cqRoom ((cqOpen true).sq 0).cq = true ∧ (cqOpen true).hif.d3hot = false :=
  ⟨by decide +kernel, by decide +kernel, by decide +kernel, by decide +kernel, by decide +kernel, ⟨_, rfl, rfl⟩, by decide +kernel, by decide +kernel⟩
theorem meets_CompletionRings_timer : let s := { cqOpen true with tim := { Tim.reset with ct := 500 } }
    (s.cq 0).modTime ≠ 0 ∧ (s.cq 0).unsig ≠ 0 ∧ (s.cq 0).firstUnsig + usTicks (s.cq 0).modTime ≤ s.now := by decide +kernel

theorem meets_DescriptorsStart_fetch : (ringIn (fun s => s.setSq 0 { s.sq 0 with prefetch := [] }) 0xF0 []).mayFetch 0 = true ∧
    ((ringIn (fun s => s.setSq 0 { s.sq 0 with tail := 2 }) 0xF0 []).mayFetch 0 = true ∧ (ringIn (fun s => s.setSq 0 { s.sq 0 with tail := 2 }) 0xF0 []).Good) :=
  ⟨by decide +kernel, by decide +kernel, good_of (by decide +kernel)⟩
theorem meets_DescriptorsStart_malformed : (ringIn id 0xF0 [(16, 1)]).nextRing = some 0 ∧
    ((ringIn id 0xF0 [(16, 1)]).sq 0).prefetch = desc 0xF0 [(16, 1)] :: [] ∧ wellFormedDesc (desc 0xF0 [(16, 1)]) 0 = false := by decide +kernel
/-- A fence that is met, and one of scope 0 that waits for an older descriptor. -/
theorem meets_DescriptorsStart_fence : Meets (ringIn id 0xF1 []) 0xF1 (fun j u => u.fenceMet (u.fenceOf j) = true ∧ u.hif.fences = []) ∧
    Meets (ringIn (fun s => s.setSq 0 { s.sq 0 with started := [⟨0, 0, 0x21, false, false, false, false, none⟩] } |>.updHif fun h => { h with stamp := 1 }) 0xF1 [(8, 1)]) 0xF1
      fun j u => ∀ f ∈ u.fenceOf j :: u.hif.fences, u.fenceMet f = false :=
  ⟨meets (by decide +kernel) (by decide +kernel), meets (by decide +kernel) (by decide +kernel)⟩

theorem meets_EventRings : (State.reset.fset (Adr.evtSrc 0) 2 2 0).flag (Adr.evtSrc 0) 2 = false ∧ evtOpen.flag (Adr.evtSrc 312) 2 = true ∧ (State.reset.er 0).enable = false ∧
    4 ≤ bits (0x40 : BitVec 32).toNat 7 4 ∧ bits (0xF0 : BitVec 32).toNat 7 4 > 14 := by decide +kernel
theorem meets_EventRings_write : let s := evtOpen.setStaged 3 [⟨312, 0x1500, 0, 0, 1, []⟩]
    (∃ r, s.stagedOf 3 = r :: []) ∧ s.hif.d3hot = false ∧ (s.er 3).enable = true ∧ ((s.er 3).tail - (s.er 3).head).toNat < 2 ^ (s.er 3).sizeLog2 :=
  ⟨⟨_, rfl⟩, by decide +kernel, by decide +kernel, by decide +kernel⟩
theorem meets_EventRings_timer : let s := ({ State.reset with tim := { Tim.reset with ct := 500 } }.fset (Adr.erMod 0) 17 8 1).setEr 0 { Er.reset with unsig := 1 }
    s.fget (Adr.erMod 0) 17 8 ≠ 0 ∧ (s.er 0).unsig ≠ 0 ∧ (s.er 0).firstUnsig + usTicks (s.fget (Adr.erMod 0) 17 8) ≤ s.now := by decide +kernel

/-! ### Sources, frames, flows and surfaces -/

/-- The same state at another converter time. -/
def later (s : State) (ct : Nat) : State := { s with tim := { s.tim with ct := ct } }
/-- Source 0 changed from its reset. -/
def srcIs (f : Source → Source) : State := State.reset.setSrc 0 (f Source.reset)

theorem meets_SignalAndLoss_lane : (State.reset.setBit (Adr.laneCtl 0) 0).rxOn 0 = true ∧ State.reset.flag (Adr.laneStat 0) 0 = false ∧
    (State.reset.setBit (Adr.laneStat 0) 0).flag (Adr.laneStat 0) 0 = true ∧ (State.reset.setBit (Adr.laneStat 0) 1).flag (Adr.laneStat 0) 1 = true ∧
    (State.reset.src (quadHead 0)).assembled = false := by decide +kernel
/-- The dwell of 2 ms at its end, which both the next rate and a lock meet. -/
theorem meets_SignalAndLoss_search : let s := later (srcIs fun x => { x with search := some (8, 0) }) (msTicks 2)
    (s.src 0).search = some (8, 0) ∧ 0 + msTicks 2 ≤ s.now ∧ s.now ≤ 0 + msTicks 2 := by decide +kernel
theorem meets_SignalAndLoss_silence : let s := later ((srcIs fun x => { x with state := .locked, fmt := { Fmt.none with mode := 0x32 } }).setSrc 128
      { Source.reset with state := .locked }) (msTicks 500)
    (s.src 0).lastPub + 3 * periodTicks (modeRate (s.src 0).fmt.mode) ≤ s.now ∧ (s.src 0).state = .locked := by decide +kernel

/-- A flow of kind `k` for `target`, of mode 0x32, on one leg or two. -/
def flowOf (k target : Nat) (seam : Bool) : Flow :=
  { handle := 1, kind := k, owner := 7, target := target, a := ⟨0xEF000001, 0, 5004, 0, false, 0, 0⟩,
    b := if seam then some ⟨0xEF000002, 0, 5004, 0, false, 1, 0⟩ else none, pt := 96, mergeMs := 10, damage := false,
    p0 := 0x32, p1 := 0, p2 := 0, p3 := 0, p4 := 0, p5 := 0, p6 := 0, ssrc := 0, ttl := 1, dscp := 0, body := [], base := 0,
    rtpSeq := 0, pkts := 0, rtpTs := 0 }
/-- Subport 0 of N0 is up, and one flow of kind `k` runs to `target`. -/
def ipState (k target : Nat) (seam : Bool) : State :=
  ((State.reset.setUnit 8 { PowerUnit.reset 8 with enable := true, enabled := true, link := 1 }).setFlows [flowOf k target seam])
theorem meets_SignalAndLoss_flow : let s := later ((ipState 1 128 true).setSrc 128 { Source.reset with state := .locked }) (msTicks 100)
    (∃ f, s.videoFlow 128 = some f ∧ max (s.src 128).lastA (s.src 128).lastB + 2 * periodTicks (modeRate f.p0) ≤ s.now ∧ f.b.isSome = true) ∧
    (s.src 128).lostB = false ∧ (s.src 128).lastB + msTicks 100 ≤ s.now ∧ (s.src 128).lostA = false ∧ (s.src 128).lastA + msTicks 100 ≤ s.now :=
  ⟨⟨_, rfl, by decide +kernel, by decide +kernel⟩, by decide +kernel⟩

/-- A published frame with one ancillary packet, and a ring that holds it in slot 0. -/
def frame1 : Frame :=
  { id := 1, mode := 0x32, il := false, sampling := 0, colorimetry := 0, transfer := 0, arrSec := 0, arrNs := 0, pubCt := 0, patched := false,
    rtpTs := 900, atc := none, anc := [⟨0x61, 0x02, 9, 0, [], 16⟩], ref := 0, pid := none, rtpTs2 := none,
    content := .one ⟨.ring 0 1 Fmt.none ColUnit.reset, 0⟩ .whole, content2 := none }
def ring3 : Ring := { id := 1, mode := 0x32, bytes := 4096, slots := [{ Slot.empty with frame := some frame1 }, Slot.empty, Slot.empty], tokens := 0 }
def sdiSrc (prog : Option (Option Nat)) : State :=
  (srcIs fun x => { x with state := .locked, fmt := { Fmt.none with mode := 0x32, rate := 2, interface := 1 }, quad := 2, ring := some ring3, sdiProg := prog }).setBit
    (Adr.laneStat 0) 1
def sdiTiming : SdiTiming := { mode := 0x32, totalLines := 1125, interface := 1, rate := 2, pid := none }
theorem meets_FramesReceived_start : let s := sdiSrc none
    s.ingests 0 = true ∧ (s.src (quadHead 0)).assembled = false ∧ (s.src 0).state = .locked ∧ (s.src 0).sdiProg = none ∧
      (s.src 0).ring = some ring3 ∧ ring3.victim = some 1 := by decide +kernel
theorem meets_FramesReceived_finish : let s := sdiSrc (some (some 1))
    s.ingests 0 = true ∧ (s.src (quadHead 0)).assembled = false ∧ (s.src (quadHead 0)).quad = 2 ∧ (s.src 0).state = .locked ∧ sdiTiming.mapped = true ∧
      (s.src 0).fmt.same ((s.src 0).combine sdiTiming) = true ∧ (s.src 0).sdiProg = some (some 1) ∧ 1 < ring3.slots.length := by decide +kernel
/-- A packet on leg A, in the middle of a frame in progress. -/
def packet : IpPacket :=
  { port := 0, sub := 0, dst := 0xEF000001, src := 0, udp := 5004, vid := 0, tagged := false, pt := 96, ts := 900, second := false, lost := 0,
    line := 1079, off := 1900, npix := 20, marker := false }
def inProg (close : Option Nat) : InProg :=
  { num := 0, ts1 := some 900, ts2 := none, since := 0, newer := 0, slot := some 1, unit := ColUnit.reset, got := [(0, 0, 20)], closeAt := close }
theorem meets_FramesReceived_packet : let s := (ipState 1 128 false).setSrc 128 { Source.reset with ipProg := [inProg none] }
    s.lv.tripped = false ∧ s.linkUp packet.port packet.sub = true ∧ (s.ing.flows.filter fun f => f.kind == 1) = [flowOf 1 128 false] ∧
      (flowOf 1 128 false).a.accepts 96 packet = true ∧ (flowOf 1 128 false).b = none ∧ (flowOf 1 128 false).inRaster packet = true ∧
      (s.src 128).ipProg.find? (fun g => g.isOf 0x32 packet.ts packet.second) = some (inProg none) ∧ (inProg none).covers packet = false ∧
      (inProg none).pixels + packet.npix ≠ modePx 0x32 ∧ (∀ h ∈ (s.src 128).ipProg, h.newer = 0) := by decide +kernel
theorem meets_FramesReceived_window : let s := later ((ipState 1 128 true).setSrc 128 { Source.reset with ipProg := [inProg (some 100)] }) 100
    s.videoFlow 128 = some (flowOf 1 128 true) ∧ (s.src 128).ipProg = [inProg (some 100)] ∧ 100 ≤ s.now ∧ (inProg (some 100)).slot = some 1 ∧
      (inProg (some 100)).pixels ≠ modePx 0x32 ∧ (s.src 128).damagePub = false := by decide +kernel
theorem meets_FramesReceived_ancillary : let s := (ipState 4 128 false).setSrc 128 { Source.reset with ring := some ring3 }
    s.lv.tripped = false ∧ s.linkUp packet.port packet.sub = true ∧ (s.ing.flows.filter fun f => f.kind == 4) = [flowOf 4 128 false] ∧
      (flowOf 4 128 false).a.accepts 96 packet = true ∧ (s.src 128).ring = some ring3 ∧ ring3.slotOf packet.ts = some (0, frame1) ∧
      frame1.anc.contains ⟨0x61, 0x02, 9, 1, [], 16⟩ = false := by decide +kernel
theorem meets_FramesReceived_oldRing : let o : OldRing := ⟨0, ring3, true⟩
    let s := State.reset.updIng fun g => { g with old := [o] }
    (s.ing.old.filter fun o => o.src == 0 && decide (o.ring.pinned = 0) && !(o.byFlow && s.instarNames 0)) = [o] := by decide +kernel

/-- A surface of 16 by 16 pixels, of owner 7. -/
def surf1 (st : SurfState) (up : Option Upload) : Surf :=
  { handle := 0x10000, owner := 7, format := 1, width := 16, height := 16, pitch := 64, units := 1, colorimetry := 0, transfer := 0, range := 0,
    fill := 0, filled := false, state := st, refs := 0, upload := up, free := none }
def withSurf (f : Surf) (s : State) : State := s.updSrf fun x => { x with list := [f] }
theorem meets_Surfaces_alloc : Meets (ringIn id 0x20 [(8, 1), (9, 1), (16, 16), (18, 16)]) 0x20 fun j u => allocBad j.d = false ∧
    u.srf.list.length < 16384 ∧ ceilDiv (allocPitch j.d * u16 j.d 18) 4096 ≤ u.hbmFree := meets (by decide +kernel) (by decide +kernel)
theorem meets_Surfaces_upload : Meets (ringIn (withSurf (surf1 .empty none)) 0x21 [(10, 1), (12, 24), (24, 64), (32, 16), (34, 16)]) 0x21 fun j u =>
    BitVec.ofNat 32 (u32 j.d 8) = 0x10000 ∧ u.surf 0x10000 = some (surf1 .empty none) ∧ j.mayUse 7 = true ∧
      (surf1 .empty none).regionBad j.d = false ∧ u16 j.d 32 ≠ 0 ∧ u16 j.d 34 ≠ 0 ∧ u8 j.d 12 = 24 ∧ u.leaveFits 2 (u8 j.d 12) = true :=
  meets (by decide +kernel) (by decide +kernel)
theorem meets_Surfaces_uploadEnd : let f := surf1 .uploading (some ⟨0, 0, 24, 2, 0, 0, 16, 16⟩)
    (withSurf f (ring [])).Good ∧ (withSurf f (ring [])).surf 0x10000 = some f ∧ f.owner ≠ moduleTag := ⟨good_of (by decide +kernel), by decide +kernel⟩
theorem meets_Surfaces_free : (Meets (ringIn (withSurf (surf1 .ready none)) 0x22 [(10, 1)]) 0x22 fun j u =>
      BitVec.ofNat 32 (u32 j.d 8) = 0x10000 ∧ u.surf 0x10000 = some (surf1 .ready none) ∧ j.mayUse 7 = true) ∧
    Meets (ringIn (withSurf { surf1 .ready none with refs := 1 }) 0x22 [(10, 1)]) 0x22 fun j u =>
      u.surf 0x10000 = some { surf1 .ready none with refs := 1 } ∧ j.mayUse 7 = true := ⟨meets (by decide +kernel) (by decide +kernel), meets (by decide +kernel) (by decide +kernel)⟩

theorem meets_FlowsAndLedgers_srcSet : Meets (ringIn id 0x30 [(10, 1), (12, 20)]) 0x30 fun j u => u.srcSetCheck j = none := meets (by decide +kernel) (by decide +kernel)
/-- N0 is on. -/
def portOn (s : State) : State := s.setUnit 8 { PowerUnit.reset 8 with enable := true, enabled := true, link := 1 }
theorem meets_FlowsAndLedgers_flowAdd : Meets (ringIn portOn 0x31
      [(8, 1), (10, 128), (12, 1), (15, 0xEF), (20, 0x8C), (21, 0x13), (38, 96), (40, 0x32)]) 0x31 fun j u =>
    u.flowCheck j = none ∧ u.leaveFits 0 (if u8 j.d 8 = 1 then streamTokens 9 (u8 j.d 40) else 0) = true ∧ u.flowRun (u8 j.d 8) (u8 j.d 40) = some 0 :=
  meets (by decide +kernel) (by decide +kernel)
theorem meets_FlowsAndLedgers_flowDel : Meets (ringIn (fun s => (portOn s).setFlows [flowOf 1 128 false]) 0x32 [(8, 1)]) 0x32 fun j u =>
    (u.ing.flows.find? fun f => f.handle.toNat == u32 j.d 8) = some (flowOf 1 128 false) ∧ j.mayUse 7 = true := meets (by decide +kernel) (by decide +kernel)
theorem meets_FlowsAndLedgers_ledgerRead : (Meets (ringIn id 0xA0 [(8, 2), (10, 255), (24, 0x40), (25, 2)]) 0xA0 fun j _ =>
      u16 j.d 10 < ledgerCount (u8 j.d 8) ∧ u64 j.d 16 % 64 = 0 ∧ u8 j.d 8 = 2 ∧ 576 ≤ u32 j.d 24) ∧
    Meets (ringIn id 0xA0 [(8, 11), (10, 255), (24, 0x40)]) 0xA0 fun j _ => u16 j.d 10 < ledgerCount (u8 j.d 8) ∧ u64 j.d 16 % 64 = 0 ∧ 64 ≤ u32 j.d 24 :=
  ⟨meets (by decide +kernel) (by decide +kernel), meets (by decide +kernel) (by decide +kernel)⟩
theorem meets_FlowsAndLedgers_igmp : let s := (ipState 1 128 false).updIng fun g => { g with repeats := [(0, ⟨⟨0, 0, false, 0⟩, 0, 3, 0xEF000001, true, []⟩)] }
    s.Good ∧ (∃ k ∈ groupsOf s.ing.flows, k.1 = { port := 0, sub := 0, tagged := false, vid := 0 }) ∧ (∀ r ∈ s.ing.repeats, r.1 ≤ s.now) :=
  ⟨good_of (by decide +kernel), by decide +kernel⟩

/-! ### Heads, takes, salvos, scalers, colour -/

/-- Head 0, of owner 7 and managed by software, in the run state `r`, with mode 0x32 and the grants of its frames. -/
def head1 (r : RunState) : Head :=
  { Head.reset with
    owner := 7, managed := .software, run := r, shadow := { HeadCfg.reset with mode := 0x32 }, applied := { HeadCfg.reset with mode := 0x32 },
    fetchGrant := 100, powerGrant := 12 }
def withHead (x : Head) (s : State) : State := s.setHead 0 x
/-- Polder 0 at 25 Hz is ready, and runs where `run` says so. -/
def polderOn (run : Bool) (s : State) : State := (s.fset (Adr.polderCtl 0) 10 8 2).setPolder 0 { Polder.reset with ready := true, running := run }
/-- A commit of head 0 that waits. -/
def commit1 (k : CommitKind) (salvo : Option (Nat × Bool)) : Commit :=
  { ring := 1, stamp := 9, seq := 3, opcode := 0x12, owner := 7, kind := k, cfg := { HeadCfg.reset with mode := 0x32 }, target := .asap, guard := none,
    land := some 5, late := false, missed := false, held := 0, wasHeld := false, degraded := false, trans := .cut, dur := 1,
    audioFollow := false, fetch := 0, power := 0, newScaler := none, newConv := none, salvo := salvo, refs := [], locked := false,
    peak := 0, split := none, moves := false, lends := [], delay := 0, dest := 0, clone := false, old := none }

theorem meets_HeadSetUp_headSet : Meets (ringIn id 0x10 [(8, 255), (10, 1), (12, 0x32), (13, 31)]) 0x10 fun j u => headSetBad j.d = false ∧ j.mayUse (u.head (u16 j.d 8)).owner = true :=
  meets (by decide +kernel) (by decide +kernel)
theorem meets_HeadSetUp_layerSet : Meets (ringIn id 0x11 [(10, 7), (36, 1), (38, 1)]) 0x11 fun j u => layerSetBad j.d = false ∧
    j.mayUse (u.head (u16 j.d 8)).owner = true ∧ ((u.claimHead (u16 j.d 8) j.owner).head (u16 j.d 8)).shadow.dike = false := meets (by decide +kernel) (by decide +kernel)
/-- A stop at once, and one that is queued. -/
theorem meets_HeadSetUp_headStop : (Meets (ringIn (withHead (head1 .stopped)) 0x13 []) 0x13 fun j u => (u.head 0).managed ≠ .free ∧ j.mayUse (u.head 0).owner = true ∧
      (u.head 0).stopping = false ∧ (u.head 0).last.dike = false ∧ (u.head 0).run = .stopped ∧ (u.head 0).queue = []) ∧
    Meets (ringIn (withHead (head1 .frame)) 0x13 []) 0x13 fun j u => (u.head 0).managed ≠ .free ∧ j.mayUse (u.head 0).owner = true ∧ (u.head 0).stopping = false ∧
      (u.head 0).last.dike = false ∧ (u.head 0).run ≠ .stopped := ⟨meets (by decide +kernel) (by decide +kernel), meets (by decide +kernel) (by decide +kernel)⟩
theorem meets_HeadSetUp_leave : (Meets (ringIn (withHead (head1 .stopped)) 0x60 [(12, 6), (14, 9)]) 0x60 fun j u => leaveBad j.d = false ∧
      j.mayUse (u.head 0).owner = true ∧ (u.head 0).managed ≠ .module ∧ ubit j.d 10 0 = false ∧ u.leaveFits (u16 j.d 12) (u16 j.d 14) = true) ∧
    Meets (ringIn (withHead (head1 .stopped)) 0x61 [(12, 12)]) 0x61 fun j u => leaveBad j.d = false ∧ ubit j.d 10 0 = false ∧ (u.head 0).managed = .software ∧
      j.mayUse (u.head 0).owner = true ∧ u16 j.d 14 + u.needMost (u.head 0) ≤ (u.head 0).fetchGrant ∧
      u16 j.d 12 + (if (u.head 0).active then 6 else 0) ≤ (u.head 0).powerGrant := ⟨meets (by decide +kernel) (by decide +kernel), meets (by decide +kernel) (by decide +kernel)⟩

/-- What is decided of the plan of a take and of its landing. -/
def takeB (j : Job) (u : State) (tg : Target) : Bool :=
  match u.planTake j with
  | .inr p => (u.landing (u.head p.head) p.cfg.mode p.cfg.polder tg).isSome
  | .inl _ => false
/-- A take of black to destination 0, in mode 0x32 on polder 0. -/
theorem meets_TakesCommitsSalvos_take : Meets (ringIn (polderOn false) 0x01 [(10, 0xFF), (11, 0xFF), (14, 1), (20, 0x32)]) 0x01 fun j u => takeBad j.d = false ∧ u16 j.d 18 = 0 ∧
    targetOf (u8 j.d 16) (u64 j.d 24) (u32 j.d 32) = some .asap ∧ u.takeTargetBad j.d .asap = false ∧ takeB j u .asap = true := meets (by decide +kernel) (by decide +kernel)
theorem meets_TakesCommitsSalvos_commit : Meets (ringIn (fun s => withHead (head1 .stopped) (polderOn false s)) 0x12 []) 0x12 fun j u => u16 j.d 12 = 0 ∧
    targetOf (u8 j.d 10) (u64 j.d 16) (u32 j.d 24) = some .asap ∧ (u.head 0).active = false ∧
    ((u.claimHead 0 j.owner).landing (u.head 0) ((u.claimHead 0 j.owner).snapshot 0).mode ((u.claimHead 0 j.owner).snapshot 0).polder .asap).isSome = true ∧
    j.mayUse (u.head 0).owner = true ∧ (u.head 0).commits < 16 ∧ (u.head 0).stopping = false ∧ 6 ≤ (u.head 0).powerGrant ∧
    (match (u.claimHead 0 j.owner).checkCfg j.mayUse j.priv 0 ((u.claimHead 0 j.owner).snapshot 0) with
      | .inr cfg => decide (u.fetchNeed cfg false ≤ (u.head 0).fetchGrant) && !u.strippedShort (u.stripped 0 cfg.dests false) &&
          u.leaveFits 0 (lendSum (u.lent (u.stripped 0 cfg.dests false)))
      | .inl _ => false) = true := meets (by decide +kernel) (by decide +kernel)

/-- A staged member of salvo 5: a commit of head 0. -/
def member1 : Member140 := ⟨1, 9, 3, 7, 5, true, desc 0x12 [(12, 5)], 0⟩
def staged (s : State) : State := (withHead (head1 .stopped) (polderOn false s)).updHds fun x => { x with staged := [member1] }
theorem meets_TakesCommitsSalvos_arm : Meets (ringIn staged 0x02 [(8, 5), (10, 1), (12, 1)]) 0x02 fun j u => u16 j.d 8 ≠ 0 ∧ u.salvoArmed j.owner (u16 j.d 8) = false ∧
    u.membersOf j.owner (u16 j.d 8) = [member1] ∧ u8 j.d 10 ≤ 1 ∧ u8 j.d 11 ≠ 1 ∧ u8 j.d 11 ≠ 3 ∧ u16 j.d 12 = 1 ∧ (member1.kind == 1 || member1.kind == 2) = false ∧
    u.sameHead [member1] = false ∧ targetOf (u8 j.d 11) (u64 j.d 16) (u32 j.d 24) = some .asap ∧
    ((u.armAll [member1] (5, true) .asap).2.all fun r => r.2.isNone) = true ∧ (u.armAll [member1] (5, true) .asap).1.twoOnOne j.owner (5, true) = false ∧
    (u.armAll [member1] (5, true) .asap).1.lockstepBlocked j.owner (5, true) = false := meets (by decide +kernel) (by decide +kernel)
theorem meets_TakesCommitsSalvos_cancel : (Meets (ringIn staged 0x03 [(10, 5)]) 0x03 fun j u => u8 j.d 8 = 0 ∧ u16 j.d 10 ≠ 0 ∧
      (∃ m ∈ u.hds.staged, m.salvo = u16 j.d 10 ∧ m.owner = j.owner) ∧ u.queued = [] ∧ u.hds.armed = []) ∧
    Meets (ringIn (withHead { head1 .frame with queue := [commit1 .commit (some (5, true))] }) 0x03 [(8, 1), (9, 1), (12, 3)]) 0x03 fun j u => u8 j.d 8 = 1 ∧ u8 j.d 9 ≤ 63 ∧
      j.mayUse 7 = true ∧ (u.queued.find? fun p => p.2.ring == u8 j.d 9 && decide (p.2.seq.toNat = u32 j.d 12) && p.2.kind != .stop) =
        some (0, commit1 .commit (some (5, true))) := ⟨meets (by decide +kernel) (by decide +kernel), meets (by decide +kernel) (by decide +kernel)⟩
theorem meets_TakesCommitsSalvos_timeout : let s := later (staged State.reset) (msTicks 10000)
    s.membersOf 7 5 = [member1] ∧ member1.since + msTicks 10000 ≤ s.now ∧ s.Good := ⟨by decide +kernel, by decide +kernel, good_of (by decide +kernel)⟩

/-- Scaler 0 in the state `st`, of owner 7. -/
def scalerIs (st : SclState) (s : State) : State := s.setScl 0 { Scaler.reset with state := st, owner := 7, power := 4 }
theorem meets_ScalersColour_claim : (Meets (ringIn id 0x40 [(10, 127), (12, 4), (13, 8)]) 0x40 fun j u => sclFieldsOk j.d = true ∧ u16 j.d 10 = 127 ∧
      u.sclFree 127 false = true ∧ (u.scl 127).setsOk j.d = true ∧ u.leaveFits 4 0 = true) ∧
    Meets (ringIn id 0x40 [(9, 3), (12, 4), (13, 4)]) 0x40 fun j u => sclFieldsOk j.d = true ∧ u.lowestScl true = some 0 ∧ (u.scl 0).setsOk j.d = true ∧ u.leaveFits 8 0 = true :=
  ⟨meets (by decide +kernel) (by decide +kernel), meets (by decide +kernel) (by decide +kernel)⟩
theorem meets_ScalersColour_release : (Meets (ringIn (scalerIs .single) 0x40 [(8, 1)]) 0x40 fun j u => u8 j.d 8 = 1 ∧ zeros j.d 9 9 = true ∧ zeros j.d 12 15 = true ∧
      (u.scl 0).state = .single ∧ j.mayUse (u.scl 0).owner = true ∧ u.sclNamed 0 = false) ∧
    Meets (ringIn (scalerIs .single) 0x40 [(8, 2), (12, 2), (13, 6)]) 0x40 fun j u => u8 j.d 8 = 2 ∧ zeros j.d 9 9 = true ∧ sclFieldsOk j.d = true ∧ (u.scl 0).setsOk j.d = true ∧
      (u.scl 0).state = .single ∧ j.mayUse (u.scl 0).owner = true := ⟨meets (by decide +kernel) (by decide +kernel), meets (by decide +kernel) (by decide +kernel)⟩
/-- Coefficients of two taps: 4,096 and 0 in every phase. -/
def coefs : List Byte := (List.range 2048).map fun k => if k % 16 = 1 then 16 else 0
theorem coefs_at (k : Nat) : (dmaFit coefs 2048).getD k 0 = if k < 2048 ∧ k % 16 = 1 then 16 else 0 := by
  by_cases h : k < 2048 <;> simp [dmaFit, bytesAt, coefs, List.getD, h]
theorem coefs_ok (off : Nat) (h : off = 0 ∨ off = 1024) : phasesOk (dmaFit coefs 2048) off 2 = true := by
  simp only [phasesOk, s16, u16, u8, coefs_at]
  rcases h with h | h <;> subst h <;> decide +kernel
theorem meets_ScalersColour_load : (Meets (ringIn id 0x48 []) 0x48 fun j u => colourBad j.d = false ∧ j.mayUse (u.colourOwner j.d) = true ∧ (colLens j.d).sum = 0 ∧
      colourDataBad j.d [] = false ∧ u.scc.loads = [] ∧ ((u.colBase 0 0).load j.d []).lacks = false) ∧
    (Meets (ringIn id 0x48 [(8, 3), (10, 255), (33, 2), (36, 1)]) 0x48 fun j u => colourBad j.d = false ∧ j.mayUse (u.colourOwner j.d) = true ∧ (colLens j.d).sum = 0 ∧
      colourDataBad j.d [] = false ∧ u.scc.loads = [] ∧ (u.dest 255).head = none) :=
  ⟨meets (by decide +kernel) (by decide +kernel), meets (by decide +kernel) (by decide +kernel)⟩
theorem meets_ScalersColour_taps : Meets (ringIn id 0x48 [(8, 2), (10, 127), (12, 3), (14, 2), (15, 2), (25, 8)]) 0x48 fun j u => (colourBad j.d = false ∧
      j.mayUse (u.colourOwner j.d) = true ∧ (colLens j.d).sum = 2048 ∧ u.scc.loads = []) ∧ colourDataBad j.d (dmaFit coefs 2048) = false := by
  refine meets (by decide +kernel) ⟨by decide +kernel, ?_⟩
  rw [show ∀ d : List Byte, u8 d 8 = 2 → u8 d 14 = 2 → u8 d 15 = 2 → colourDataBad d (dmaFit coefs 2048) = false from fun d a b c => by
    simp [colourDataBad, a, b, c, coefs_ok]] <;> decide +kernel

/-! ### Converters, pushes, audio -/

/-- Slice 0 as a single slice of owner 7 on polder 0, with `b` to be built. -/
def conv1 (b : Option ConvBuild) : Conv := { Conv.reset with state := .single, owner := 7, mode := 1, build := b }
def withConv (b : Option ConvBuild) (s : State) : State := polderOn true (s.setCnv 0 (conv1 b))
theorem meets_ConvertersPushes_claim : (Meets (ringIn (polderOn true) 0x41 [(10, 127), (15, 1)]) 0x41 fun j u => u8 j.d 8 = 0 ∧ u.cnvClaimBad j.d = false ∧
      u.polderReady (u8 j.d 14) = true ∧ u16 j.d 12 < 384 ∧ u16 j.d 10 = 127 ∧ u.cnvFree 127 (ubit j.d 9 0) = true ∧ j.mayUse (u.sourceOwner (u16 j.d 12)) = true ∧
      u.leaveFits (convTokens 1 (u.inputNominal 0) false (u.polderRate 0)).1 (convTokens 1 (u.inputNominal 0) false (u.polderRate 0)).2 = true) ∧
    Meets (ringIn (polderOn true) 0x41 [(9, 3), (15, 3)]) 0x41 fun j u => u8 j.d 8 = 0 ∧ u.cnvClaimBad j.d = false ∧ u.polderReady (u8 j.d 14) = true ∧
      u.lowestCnv true = some 0 ∧ j.mayUse (u.sourceOwner 0) = true ∧
      u.leaveFits (convTokens 3 (u.inputNominal 0) true (u.polderRate 0)).1 (convTokens 3 (u.inputNominal 0) true (u.polderRate 0)).2 = true :=
  ⟨meets (by decide +kernel) (by decide +kernel), meets (by decide +kernel) (by decide +kernel)⟩
theorem meets_ConvertersPushes_release : Meets (ringIn (withConv none) 0x41 [(8, 1)]) 0x41 fun j u => u8 j.d 8 = 1 ∧ flagsUnused j.d = false ∧ zeros j.d 12 18 = true ∧
    (u.cnv 0).state = .single ∧ j.mayUse (u.cnv 0).owner = true ∧ u.cnvNamed 0 = false := meets (by decide +kernel) (by decide +kernel)
theorem meets_ConvertersPushes_mode : Meets (ringIn (withConv none) 0x41 [(8, 2), (15, 3), (17, 1), (18, 255)]) 0x41 fun j u => u8 j.d 8 = 2 ∧ flagsUnused j.d = false ∧
    zeros j.d 12 14 = true ∧ u8 j.d 16 = 0 ∧ u8 j.d 15 = 3 ∧ u.inputNominal (u.cnv 0).input = 0 ∧ (u.cnv 0).state = .single ∧ j.mayUse (u.cnv 0).owner = true ∧
    (u.cnv 0).pend = none ∧ u.leaveFits ((convTokens 3 (u.cnv 0).claimMode false (u.polderRate 0)).1 - (u.cnv 0).power)
      ((convTokens 3 (u.cnv 0).claimMode false (u.polderRate 0)).2 - (u.cnv 0).fetch) = true := meets (by decide +kernel) (by decide +kernel)
theorem meets_ConvertersPushes_build : let b : ConvBuild := ⟨frame1, 1, 1, false, false, 0, [(1, 1)], 0⟩
    let s := withConv (some b) State.reset
    s.Good ∧ (s.cnv 0).state = .single ∧ (s.polder (s.cnv 0).polder).running = true ∧ (s.cnv 0).builtFor ≠ some (s.polder (s.cnv 0).polder).count ∧ (s.cnv 0).build ≠ none ∧
      ((withConv none State.reset).cnv 0).build = none := ⟨good_of (by decide +kernel), by decide +kernel⟩
/-- Channel 0 is on, of owner 7. -/
def pushOn (s : State) : State := s.setPush 0 { Push.reset with enabled := true, owner := 7, run := some ⟨0, false, 1⟩ }
theorem meets_ConvertersPushes_push : (Meets (ringIn id 0x90 [(13, 1), (14, 4), (15, 1), (20, 16), (22, 16), (32, 16)]) 0x90 fun j u => u8 j.d 9 = 0 ∧ u.pushSetBad j.d = false ∧
      (u.push (u8 j.d 8)).enabled = false ∧ u.leaveFits (6 - (u.push (u8 j.d 8)).power) (u.pushFetch (pushCfgOf j.d) - (u.push (u8 j.d 8)).fetch) = true) ∧
    (Meets (ringIn pushOn 0x90 [(9, 1)]) 0x90 fun j u => u8 j.d 9 = 1 ∧ u8 j.d 8 ≤ 7 ∧ zeros j.d 10 35 = true ∧ (u.push 0).enabled = true ∧ j.mayUse (u.push 0).owner = true) ∧
    (Meets (ringIn pushOn 0x90 [(9, 2)]) 0x90 fun j u => u8 j.d 9 = 2 ∧ u8 j.d 8 ≤ 7 ∧ zeros j.d 10 35 = true ∧ (u.push 0).enabled = true ∧ j.mayUse (u.push 0).owner = true) ∧
    (pushOn State.reset).Good ∧ ((pushOn State.reset).push 0).run = some ⟨0, false, 1⟩ :=
  ⟨meets (by decide +kernel) (by decide +kernel), meets (by decide +kernel) (by decide +kernel), meets (by decide +kernel) (by decide +kernel), good_of (by decide +kernel), by decide +kernel⟩

theorem meets_AudioMatrix_routes : (Meets (ringIn id 0x50 [(10, 16)]) 0x50 fun j u => u8 j.d 8 = 0 ∧ u.routeCheck j = none) ∧
    (Meets (ringIn id 0x50 [(8, 1), (10, 1), (12, 0xFF), (13, 7)]) 0x50 fun j u => u8 j.d 8 = 1 ∧ u.routeCheck j = none) ∧
    (Meets (ringIn id 0x50 [(8, 2), (10, 1)]) 0x50 fun j u => u8 j.d 8 = 2 ∧ u.routeCheck j = none) ∧
    Meets (ringIn id 0x50 [(8, 3), (10, 16), (12, 128), (14, 0xFF), (15, 0xFF)]) 0x50 fun j u => u8 j.d 8 = 3 ∧ u.routeBad j.d = false ∧ j.mayUse (u.sourceOwner (u16 j.d 12)) = true :=
  ⟨meets (by decide +kernel) (by decide +kernel), meets (by decide +kernel) (by decide +kernel), meets (by decide +kernel) (by decide +kernel), meets (by decide +kernel) (by decide +kernel)⟩
theorem meets_AudioMatrix_packets : let s := (ipState 2 0 false).updAud fun a => { a with rxRuns := [(0, 4096, 2)] }
    s.Good ∧ s.fget Adr.pwrStat 2 0 ≠ 3 ∧ (s.ing.flows.filter fun f => (f.kind == 2 || f.kind == 3) && s.linkUp packet.port packet.sub &&
      (f.a.accepts f.pt packet || (match f.b with | some l => l.accepts f.pt packet | none => false))) = [flowOf 2 0 false] ∧
      (s.aud.rxRuns.find? fun r => r.1 == 0) = some (0, 4096, 2) := ⟨good_of (by decide +kernel), by decide +kernel⟩
theorem meets_AudioMatrix_send : let s := ((ipState 6 0 false).updAud fun a => { a with txRuns := [(0, 2048, 2)], n := 48 }).fset Adr.pwrStat 2 0 1
    s.Good ∧ (s.ing.flows.find? fun f => (f.kind == 6 || f.kind == 7) && f.target == 0) = some (flowOf 6 0 false) ∧
      (s.aud.txRuns.find? fun r => r.1 == 0) = some (0, 2048, 2) ∧ 48 ≤ s.aud.n ∧ s.fget Adr.pwrStat 2 0 = 1 ∧ (flowOf 6 0 false).pkts = 0 := ⟨good_of (by decide +kernel), by decide +kernel⟩
theorem meets_AudioMatrix_class : ((State.reset.setAudGrp 0 { AudGrp.reset 0 with cls := .sync }).audGrp 0).cls ≠ .none ∧ State.reset.Good := ⟨by decide +kernel, good_of (by decide +kernel)⟩

/-! ### Dikes, pin sense, seals -/

/-- The keys work where the fuses hold what R418 says: `Config.identityOk` is opaque. -/
theorem keyed {s : State} (h : Config.identityOk = true) (r : s.coc.root.isNone = false) : s.keyless = false := by simp [State.keyless, h, r]
/-- A persistent signing key of the host, whose use bits are `use`. -/
def key1 (use : Nat) : Key :=
  { type := 3, use := use, owner := 7, origin := 1, ephemeral := false, counted := false, limit := 0, counter := 0, base := 0, used := 0, secret := [],
    pub := [], expired := false }
def withKey (k : Key) (s : State) : State := s.setKey 0 (some k)
theorem meets_DikesSeals_bind (h : Config.identityOk = true) : Meets (ringIn (withKey (key1 0x80)) 0x81 []) 0x81 fun j u => (u8 j.d 8 = 0 ∧ u.dikeBad j = false ∧
    u.isOwnerKey (u8 j.d 12) = true ∧ j.priv = true ∧ (u.dike (dHead j.d)).slot = none ∧ u.tieFor (u.ownerHash (u8 j.d 12)) = some 48 ∧ u.nv.phase = .ready ∧ u.holdupOk = true) ∧
    u.keyless = false := meets (by decide +kernel) ⟨by decide +kernel, keyed h (by decide +kernel)⟩
/-- Head 0 shows a dike and is bound; surface 1 fits it. -/
def dikeOn (s : State) : State :=
  (withSurf { surf1 .ready none with format := 2 } (s.setDike 0 { Dike.reset with slot := some 0, owner := 7 })).setHead 0
    { head1 .frame with applied := { HeadCfg.reset with mode := 0x32, dike := true, count := 8 } }
theorem dike_checked {s : State} {j : Job} (k : s.keyless = false) (h : firstFail [(s.dikeBad j, csBadParam), (dAction j.d != 2 && (s.surf (dSurf j.d)).isNone, csNotFound),
    (dAction j.d != 2 && !j.mayUse (s.surfOwner (dSurf j.d)), s.ownerCode (s.surfOwner (dSurf j.d))),
    ((s.dike (dHead j.d)).slot.isNone || (s.dike (dHead j.d)).frozen || (dAction j.d != 2 && !(s.head (dHead j.d)).applied.dike) ||
      (dAction j.d != 2 && !s.surfReady (dSurf j.d)) || false, csState)] = none) : s.dikeCheck j = none := by
  simpa only [State.dikeCheck, k] using h
theorem meets_DikesSeals_updates (h : Config.identityOk = true) : (Meets (ringIn dikeOn 0x81 [(8, 1), (18, 1)]) 0x81 fun j u => (u8 j.d 8 = 1 ∧
      u.surf (dSurf j.d) = some { surf1 .ready none with format := 2 } ∧ 1 ≤ u.hbmFree ∧ u.srf.list.length < 16384) ∧ u.dikeCheck j = none) ∧
    (Meets (ringIn dikeOn 0x81 [(8, 3), (18, 1)]) 0x81 fun j u => (u8 j.d 8 = 3 ∧ u.surf (dSurf j.d) = some { surf1 .ready none with format := 2 } ∧ 1 ≤ u.hbmFree) ∧
      u.dikeCheck j = none) ∧
    Meets (ringIn dikeOn 0x81 [(8, 2)]) 0x81 fun j u => u8 j.d 8 = 2 ∧ u.dikeCheck j = none := by
  refine ⟨meets (by decide +kernel) ⟨by decide +kernel, ?_⟩, meets (by decide +kernel) ⟨by decide +kernel, ?_⟩, meets (by decide +kernel) ⟨by decide +kernel, ?_⟩⟩ <;>
    exact dike_checked (keyed h (by decide +kernel)) (by decide +kernel)
/-- Seals are signed with slot 0, head 0 runs and has a seal. -/
def sealOn (s : State) : State :=
  ((withKey (key1 0x40) (withHead (head1 .frame) (later s (msTicks 65535)))).fset Adr.sealCtl 23 16 0).setChain 0 { Chain.reset with latest := some [] }
theorem sealed {s : State} (h : Config.identityOk = true) (r : s.coc.root.isNone = false) (k : s.key (s.fget Adr.sealCtl 23 16) = some (key1 0x40)) :
    s.sealKey = some (key1 0x40) := by
  simp only [State.sealKey, k, keyed h r]; decide
theorem meets_DikesSeals_log : (Meets (ringIn id 0xA1 [(9, 30), (12, 63), (17, 16)]) 0xA1 fun j u => u8 j.d 8 = 0 ∧ 20 ≤ u8 j.d 9 ∧ u8 j.d 9 ≤ 30 ∧ u8 j.d 12 ≤ 63 ∧
      u64 j.d 16 % 4096 = 0 ∧ u.psn.log.isOpen = false) ∧
    (Meets (ringIn id 0xA1 [(8, 1)]) 0xA1 fun j u => u8 j.d 8 = 1 ∧ u.psn.log.isOpen = false) ∧
    Meets (ringIn sealOn 0xA1 [(8, 2), (24, 224)]) 0xA1 fun j u => u8 j.d 8 = 2 ∧ u16 j.d 10 ≤ 255 ∧ 224 ≤ u32 j.d 24 ∧ (u.chain (u16 j.d 10)).latest = some [] :=
  ⟨meets (by decide +kernel) (by decide +kernel), meets (by decide +kernel) (by decide +kernel), meets (by decide +kernel) (by decide +kernel)⟩
theorem meets_DikesSeals_now (h : Config.identityOk = true) : Meets (ringIn sealOn 0xA1 [(8, 3)]) 0xA1 fun j u => (u8 j.d 8 = 3 ∧ u16 j.d 10 ≤ 255 ∧
    (u.head (u16 j.d 10)).run ≠ .stopped ∧ u.psn.stopped = false ∧ (u.chain 0).lastAt + u.sealInterval ≤ u.now) ∧ u.sealing = true := by
  refine meets (by decide +kernel) ⟨by decide +kernel, ?_⟩
  simp only [State.sealing, sealed h (s := (begun (ringIn sealOn 0xA1 [(8, 3)])).2) (by decide +kernel) (by decide +kernel)]; decide +kernel
theorem meets_DikesSeals_signed (h : Config.identityOk = true) : let s := (sealOn State.reset).updPsn fun p => { p with signing := some ⟨0, [], 0, 0, []⟩ }
    s.psn.signing = some ⟨0, [], 0, 0, []⟩ ∧ s.sealKey = some (key1 0x40) ∧ s.Good :=
  ⟨rfl, sealed h (by decide +kernel) (by decide +kernel), good_of (by decide +kernel)⟩
theorem meets_DikesSeals_judgement : let s := State.reset.setPsnDest 0 { PsnDest.reset with judging := [⟨0, 0, false, false, 1, [], false, false⟩] }
    s.Good ∧ (∃ g, (s.psnDest 0).judging = g :: []) ∧ s.laneTest 0 = false := ⟨good_of (by decide +kernel), ⟨_, rfl⟩, by decide +kernel⟩

/-! ### Frames of heads, time, lanes and ports -/

theorem meets_FramesOfHeads_start : (polderOn false State.reset).Good ∧ ((polderOn false State.reset).polder 0).ready = true ∧
    ((polderOn true State.reset).polder 0).running = true ∧ ((withHead (head1 .frame) State.reset).head 0).run = .frame ∧
    ((withHead (head1 .frame) State.reset).head 0).lineAt = none ∧ State.reset.forceLine 0 = false := ⟨good_of (by decide +kernel), by decide +kernel⟩
/-- A head that runs, under the limit of resets and at it. -/
theorem meets_FramesOfHeads_reset : let s := withHead (head1 .frame) (State.reset.fset Adr.contain 3 0 1)
    let u := withHead { head1 .frame with contained := [0] } (State.reset.fset Adr.contain 3 0 1)
    s.Good ∧ u.Good ∧ (s.head 0).run ≠ .stopped ∧ (s.recentResets 0).length < s.fget Adr.contain 3 0 ∧ u.fget Adr.contain 3 0 ≤ (u.recentResets 0).length :=
  ⟨good_of (by decide +kernel), good_of (by decide +kernel), by decide +kernel⟩
/-- Head 0 in FRAME mode, with a picture composed for the period that runs. -/
def composed (frame : Nat) : State := polderOn true (withHead { head1 .frame with composing := some { Picture.blank with frame := frame } } State.reset)
theorem meets_FramesOfHeads_flip : let s := composed 0
    s.Good ∧ s.flipDue 0 = true ∧ s.fget Adr.pwrStat 2 0 ≠ 4 ∧ (s.head 0).lockedStop = none ∧ (s.head 0).handover = false ∧ (s.head 0).leaving = false ∧
      (s.head 0).composing = some { Picture.blank with frame := 0 } ∧ (s.head 0).deadlineDone = false := ⟨good_of (by decide +kernel), by decide +kernel⟩
theorem meets_FramesOfHeads_sluice : let s := polderOn true (withHead (head1 .frame) State.reset)
    s.Good ∧ (s.head 0).run = .frame ∧ (s.head 0).sluiceDone = false ∧ (s.head 0).composing = none ∧ (s.polder (s.head 0).applied.polder).running = true ∧
      (s.polder (s.head 0).applied.polder).count = (s.head 0).period := ⟨good_of (by decide +kernel), by decide +kernel⟩
theorem meets_FramesOfHeads_packet : let s := (ipState 5 128 false).setDest 128 { Dest.reset with head := some 0, pktsLeft := 1 }
    s.Good ∧ (s.dest (128 + 0)).head ≠ none ∧ (s.dest (128 + 0)).pktsLeft ≠ 0 ∧ ∃ f ∈ s.ing.flows, f.kind = 5 ∧ f.target = 128 := ⟨good_of (by decide +kernel), by decide +kernel⟩

/-- Synthesiser 0 runs at 297 MHz from the crystal, its output 0 by 11 for polder 0, which a head uses where `busy` says so. -/
def synOn (x : Syn) (busy : Bool) : State :=
  let s := ((((State.reset.wr (Adr.syCtl 0) 1).wr (Adr.syFnum 0) 2376).wr (Adr.syFden 0) 1).fset (Adr.syOutCtl 0 0) 8 8 1).fset (Adr.syOutCtl 0 0) 7 0 16
  let s := (s.wr (Adr.polderCtl 0) (0x10000 + 0x200)).setSyn 0 x
  if busy then withHead (head1 .frame) s else s
theorem meets_Synthesisers_write : (synOn Syn.reset false).Good ∧ (synOn Syn.reset false).busyOn 0 = [] ∧ (synOn Syn.reset false).rd (Adr.syFnum 0) ≠ 2500 ∧
    (synOn Syn.reset true).busyOn 0 ≠ [] ∧ (synOn Syn.reset true).rd (Adr.syFden 0) ≠ 2 % 65536 := ⟨good_of (by decide +kernel), by decide +kernel⟩
/-- A polder that is free takes an output; one that a head uses does not, and an output that another polder has is taken. -/
theorem meets_Synthesisers_polder : let s := synOn Syn.reset true
    s.Good ∧ s.rd (Adr.polderCtl 1) ≠ 0x10001 ∧ s.polderBusy 1 = false ∧ s.polderBusy 0 = true ∧ s.rd (Adr.polderCtl 0) ≠ 0 ∧
      (s.polderOn 0 = true ∧ s.polderOut 0 = 0) := ⟨good_of (by decide +kernel), by decide +kernel⟩
theorem meets_Synthesisers_lock : let s := synOn { Syn.reset with state := .acquiring } false
    s.Good ∧ (s.syn 0).state = .acquiring ∧ s.synBad 0 = false ∧ s.sourceUsable 0 (s.syn 0).active false = true := ⟨good_of (by decide +kernel), by decide +kernel⟩
theorem meets_Synthesisers_align : let s := synOn { Syn.reset with state := .locked, active := 1 } false
    s.Good ∧ (s.syn 0).state = .locked ∧ (s.syn 0).relock = none ∧ (s.measurePhase 0).isSome = true ∧ (s.syn 0).capture = false := ⟨good_of (by decide +kernel), by decide +kernel⟩
theorem meets_Synthesisers_slew : let s := later (synOn { Syn.reset with slewing := true, goal := 5, relock := some 0 } false) (msTicks 1)
    s.Good ∧ (s.syn 0).slewing = true ∧ (s.syn 0).ppm ≠ (s.syn 0).goal ∧ (s.syn 0).stepAt + msTicks 1 ≤ s.now ∧ (s.syn 0).relock = some 0 := ⟨good_of (by decide +kernel), by decide +kernel⟩
/-- The reference in use is lost; the fallback is usable, or not. -/
theorem meets_Synthesisers_switch : let s := synOn { Syn.reset with state := .locked, active := 2 } false
    s.Good ∧ (s.syn 0).state = .locked ∧ s.sourceUsable 0 (s.syn 0).active false = false ∧ s.sourceUsable 0 (s.fget (Adr.syCtl 0) 6 4) false = true ∧
      (s.fset (Adr.syCtl 0) 6 4 3).sourceUsable 0 ((s.fset (Adr.syCtl 0) 6 4 3).fget (Adr.syCtl 0) 6 4) false = false := ⟨good_of (by decide +kernel), by decide +kernel⟩
theorem meets_Synthesisers_revert : let s := (synOn { Syn.reset with state := .holdover, active := 2 } false).fset (Adr.syCtl 0) 7 7 1
    s.Good ∧ s.flag (Adr.syCtl 0) 7 = true ∧ s.presentLong 0 (s.synSource 0) false = true ∧ s.synBad 0 = false ∧ (s.syn 0).state = .holdover := ⟨good_of (by decide +kernel), by decide +kernel⟩

theorem meets_TimeBase_step : State.reset.Good ∧ State.reset.flag Adr.phcStat 1 = false ∧ (State.reset.askedStep true).ok = true ∧ (State.reset.askedStep false).ok = true ∧
    ((State.reset.wr Adr.stepNs 1000000000).askedStep true).ok = false := ⟨good_of (by decide +kernel), by decide +kernel⟩
theorem meets_TimeBase_timeouts : let s := later ((State.reset.wr Adr.phcStat 4).updTim fun t => { t with ppsAt := some 0 }) (msTicks 65535)
    s.Good ∧ s.flag Adr.phcStat 0 = false ∧ s.tim.incrAt + msTicks (s.fget Adr.phcHold 15 0) ≤ s.now ∧ s.tim.ppsAt = some 0 ∧ 0 + msTicks 1500 ≤ s.now ∧
      s.flag Adr.phcStat 2 = true ∧ State.reset.tim.ppsAt = none ∧ s.tim.stepWait = none ∧ s.fget Adr.ppsCtl 1 0 ≠ 2 := ⟨good_of (by decide +kernel), by decide +kernel⟩
theorem meets_TimeBase_reference : let s := (State.reset.fset (Adr.refCtl 0) 0 0 1).setRefIn 0 { RefIn.reset with cand := some 0x20 }
    s.Good ∧ s.flag (Adr.refCtl 0) 0 = true ∧ s.fget (Adr.refStat 0) 1 0 ≠ 2 ∧ refAccepts (s.fget (Adr.refCtl 0) 3 2) 0x20 true 200 = true ∧ (s.refIn 0).cand = some 0x20 ∧
      (s.fset (Adr.refStat 0) 1 0 2).fget (Adr.refStat 0) 1 0 = 2 := ⟨good_of (by decide +kernel), by decide +kernel⟩

theorem meets_LanesPorts_power : let off := State.reset.setUnit 0 { PowerUnit.reset 0 with enable := false, enabled := false, tokens := 0 }
    off.Good ∧ (off.unit 0).enable = false ∧ off.leaveFits (unitTokens 0) 0 = true ∧ (off.updLv fun l => { l with thermal := 1 }).leaveFits (unitTokens 0) 0 = false ∧
      (off.unit 8).enable = false ∧ off.leaveFits 72 0 = true ∧ (State.reset.unit 0).enable = true ∧ State.reset.unitUsed 0 = false ∧
      ((State.reset.setDest 0 { Dest.reset with head := some 0 }).unitUsed 0 = true) := ⟨good_of (by decide +kernel), by decide +kernel⟩
theorem meets_LanesPorts_ports : let s := portOn State.reset
    s.Good ∧ (s.unit 8).enable = true ∧ s.unitUsed 8 = false ∧ (ipState 1 128 false).unitUsed 8 = true ∧ s.linkUp 0 0 = true ∧
      ((State.reset.setUnit 9 { PowerUnit.reset 9 with down := true }).unit 9).down = true := ⟨good_of (by decide +kernel), by decide +kernel⟩
theorem meets_LanesPorts_link : let s := (List.range 16).foldl (fun s i => s.setBit (Adr.laneCtl (128 + i)) 0) (State.reset.setUnit 8 { PowerUnit.reset 8 with enable := true, enabled := true })
    s.Good ∧ s.linkUp 0 0 = false ∧ (s.unit 8).enable = true ∧ 0 < s.subports 0 ∧
      ((s.subLanes 0 0).all fun n => s.fget (Adr.laneLoop n) 1 0 == 0 && s.flag (Adr.laneCtl n) 0) = true := ⟨good_of (by decide +kernel), by decide +kernel⟩
theorem meets_PatternsHostFrames_prbs : let s := ((State.reset.fset (Adr.laneLoop 0) 1 0 1).fset (Adr.lanePrbs 0) 7 0 0x11).setBit (Adr.lanePrbs 0) 8
    s.Good ∧ s.selfTest 0 = true ∧ s.flag (Adr.lanePrbs 0) 8 = true ∧ (State.reset.fset (Adr.lanePrbs 0) 7 4 1).fget (Adr.lanePrbs 0) 7 4 ≠ 0 ∧
      (State.reset.fset (Adr.lanePrbs 0) 7 4 1).flag (Adr.lanePrbs 0) 8 = false ∧ State.reset.txState 0 = 0 ∧
      (State.reset.setDest 0 { Dest.reset with head := some 0 }).txState 0 ≠ 0 := ⟨good_of (by decide +kernel), by decide +kernel⟩
/-- An ARP frame: the host takes it where the ring has room. A frame of another EtherType is for nobody. -/
def arp (n : Nat) : List Byte := (List.range n).map fun i => if i = 12 then 8 else if i = 13 then 6 else 0
theorem meets_PatternsHostFrames_receive : let s := State.reset.updNet fun n => { n with hq := { Hq.reset with rxEnable := true, rxSize := 4 } }
    s.Good ∧ s.hostClass 0 0 none (arp 60) = some 1 ∧ s.hqRoom = true ∧ State.reset.hqRoom = false ∧ (arp 60).length ≤ 2016 ∧ s.hostClass 0 0 none [] = none ∧
      s.legTakes 0 0 none [] = false := ⟨good_of (by decide +kernel), by decide +kernel⟩
theorem meets_PatternsHostFrames_long : 2016 < (arp 2017).length ∧ State.reset.hostClass 0 0 none (arp 2017) = some 1 := by
  refine ⟨by simp [arp], by decide +kernel⟩
theorem meets_PatternsHostFrames_send : let s := State.reset.updNet fun n => { n with hq := { Hq.reset with txEnable := true, txTail := 1 } }
    s.Good ∧ s.net.hq.txEnable = true ∧ s.net.hq.txHead ≠ s.net.hq.txTail ∧ s.hif.d3hot = false := ⟨good_of (by decide +kernel), by decide +kernel⟩

/-! ### Leave, resets, pairs, power states -/

/-- Bounds of the limits, readings of the supply, and a step down of the thermal shed after a second. -/
theorem meets_LeaveAndHeat : let s := later (State.reset.updLv fun l => { l with thermal := 3, thermSince := some 0, overSince := some 0 }) (msTicks 1000)
    s.Good ∧ s.powSumOk = true ∧ s.fetSumOk = true ∧ s.lv.power = false ∧ s.lv.overSince = some 0 ∧ 0 + msTicks 100 ≤ s.now ∧
      s.lv.tripped = false ∧ enterLevel (hottest ((List.replicate 24 (760 : BitVec 11)).map (·.toNat))).1 ≤ s.lv.thermal ∧
      (hottest ((List.replicate 24 (760 : BitVec 11)).map (·.toNat))).1 < clearBelow s.lv.thermal ∧ s.lv.thermSince = some 0 ∧
      (hottest ((List.replicate 24 (880 : BitVec 11)).map (·.toNat))).1 ≥ clearBelow 3 ∧ State.reset.lv.thermal < enterLevel (hottest ((List.replicate 24 (880 : BitVec 11)).map (·.toNat))).1 ∧
      s.diesOff = false ∧ ((State.reset.fset Adr.pwrStat 2 0 3).updPwr fun p => { p with standby := true }).diesOff = true :=
  ⟨good_of (by decide +kernel), by decide +kernel⟩
theorem meets_LeaveAndHeat_sum : ((State.reset.updLv fun l => { l with powFree := 0 }).powSumOk = false) ∧ ((State.reset.updLv fun l => { l with fetFree := 0 }).fetSumOk = false) := by
  decide +kernel
theorem meets_Resets : let s := State.reset.updLv fun l => { l with tripped := true, powerFail := false }
    let u := later (State.reset.updLv fun l => { l with powerFail := true, goodSince := some 0 }) (msTicks 100)
    s.Good ∧ u.Good ∧ s.pwr.standby = false ∧ s.lv.tripped = true ∧ s.cooled = true ∧ s.lv.powerFail = false ∧ u.lv.powerFail = true ∧ u.lasted u.lv.goodSince 100 = true :=
  ⟨good_of (by decide +kernel), good_of (by decide +kernel), by decide +kernel⟩
theorem meets_Resets_standby : let s := (State.reset.fset Adr.pwrStat 2 0 4).updPwr fun p => { p with standby := true }
    s.Good ∧ s.pwr.standby = true ∧ s.fget Adr.pwrStat 2 0 = 4 := ⟨good_of (by decide +kernel), by decide +kernel⟩

/-- The state with the pairs and slots of `f`. -/
def mgIs (f : Mg → Mg) : State := State.reset.updMg f
def slotOk (seq : BitVec 16) : Slot48 := { valid := true, version := 1, secver := 1, seq := seq }
theorem meets_PairsBoot : let s := mgIs fun m => { m with slotA := slotOk 1, slotB := slotOk 2 }
    s.Good ∧ (s.pair 0).state = .boot ∧ (s.pair 0).staged = false ∧ s.mg.moult.reload = none ∧ (s.mg.slotOf 1).valid = true ∧ (s.mg.slotOf 0).valid = true ∧
      (s.mg.slotOf 0).seq.toNat < (s.mg.slotOf 1).seq.toNat ∧ ((mgIs fun m => { m with slotA := { slotOk 0 with valid := false } }).mg.slotOf 0).valid = false ∧
      ((mgIs fun m => { m with a := { Pair.reset with state := .off } }).pair 0).state = .off := ⟨good_of (by decide +kernel), by decide +kernel⟩
theorem meets_PairsBoot_load : let s := mgIs fun m => { m with b := { Pair.reset with state := .loading, staged := true }, slotB := slotOk 2, moult := { Moult.reset with target := 1 } }
    s.Good ∧ (s.pair 1).state = .loading ∧ (s.pair 1).staged = true ∧ s.mg.noFw = false ∧ s.mg.moult.target ≤ 1 ∧ (s.mg.slotOf s.mg.moult.target).valid = true ∧
      (mgIs fun m => { m with locked := false }).mg.locked = false ∧ (mgIs fun m => { m with locked := true }).mg.locked = true := ⟨good_of (by decide +kernel), by decide +kernel⟩
/-- Both pairs run, pair 0 serves, and the moult is in the state `st`. -/
def moultIs (st : MoultState) : State :=
  (later (mgIs fun m => { m with a := { Pair.reset with state := .serving }, b := { Pair.reset with state := .standby }, slotA := slotOk 1, slotB := slotOk 2,
                                 armed := some (msTicks 100), moult := { Moult.reset with state := st, target := 1 } }) (msTicks 100)).updNv fun n => { n with energy := 1000 }
theorem meets_MoultFuse : let s := moultIs .idle
    s.Good ∧ s.mg.moult.state = .idle ∧ s.mg.noFw = false ∧ s.mg.bothRun = true ∧ State.reset.mg.bothRun = false ∧ State.reset.mg.moult.state = .idle ∧ s.holdupOk = true ∧
      s.quiet = true ∧ (moultIs .quiescing).mg.moult.since + msTicks 100 ≤ (moultIs .quiescing).now ∧ (moultIs .probation).mg.moult.rolling = false ∧
      (moultIs .probation).mg.moult.reload = none ∧ s.fget Adr.moultLen 21 0 ≤ 3141632 ∧ (s.mg.slotOf (s.pair s.mg.serving).slot).secver.toNat ≤ (1 : BitVec 8).toNat ∧
      (0 : BitVec 8).toNat < (s.mg.slotOf (s.pair s.mg.serving).slot).secver.toNat := ⟨good_of (by decide +kernel), by decide +kernel⟩
/-- The fuse is blown in the millisecond after it is armed and with 48 V; probation ends after its seconds. -/
theorem meets_MoultFuse_fuse : let s := (moultIs .probation).fset Adr.lvVin 15 0 3600
    let u := later s (msTicks 101 + 1)
    s.Good ∧ s.mg.armed = some (msTicks 100) ∧ s.now ≤ msTicks 100 + msTicks 1 ∧ 3600 ≤ s.fget Adr.lvVin 15 0 ∧ msTicks 100 + msTicks 1 < u.now ∧ State.reset.fget Adr.lvVin 15 0 < 3600 ∧
      s.now < s.mg.moult.since + msTicks 1000 * s.fget Adr.moultCtl 15 8 ∧
      (s.fset Adr.moultCtl 15 8 0).mg.moult.since + msTicks 1000 * (s.fset Adr.moultCtl 15 8 0).fget Adr.moultCtl 15 8 ≤ s.now := ⟨good_of (by decide +kernel), by decide +kernel⟩

/-- The power state `st`, with `sb` where the module goes to STANDBY or has been there. -/
def powerIs (st : Nat) (sb : Bool) : State := (State.reset.fset Adr.pwrStat 2 0 st).updPwr fun p => { p with standby := sb }
theorem meets_PowerStates : (powerIs 1 false).Good ∧ (powerIs 1 false).fget Adr.pwrStat 2 0 = 1 ∧ (powerIs 1 false).leaveRunBad = 0 ∧ (powerIs 1 false).headList = [] ∧
    ((withHead { head1 .frame with queue := [commit1 .commit none] } (powerIs 1 false)).leaveRunBad ≠ 0) ∧ (powerIs 2 false).fget Adr.pwrStat 2 0 = 2 ∧
    (powerIs 3 true).fget Adr.pwrStat 2 0 = 3 ∧ (powerIs 3 true).pwr.standby = true ∧ (powerIs 4 true).fget Adr.pwrStat 2 0 = 4 ∧ (powerIs 4 true).nv.queue = [] ∧
    (powerIs 4 true).nv.jobs = [] ∧ (powerIs 4 true).mg.moult.reload = none ∧ (powerIs 4 true).pwr.wakeWaits = false ∧ (powerIs 4 true).pwr.warmWaits = none ∧
    (powerIs 5 false).fget Adr.pwrStat 2 0 = 5 := ⟨good_of (by decide +kernel), by decide +kernel⟩
/-- A restoration in the phase `ph`. -/
def restIs (ph : RestPhase) (begun auto gated : Bool) : State :=
  later (((mgIs fun m => { m with a := { Pair.reset with state := .serving } }).updNv fun n => { n with phase := .ready, auto := auto, gated := gated }).updRest fun r =>
    { r with phase := ph, begun := begun }) (msTicks 5000)
theorem meets_Restoring : (restIs .waitRecall false true true).Good ∧ (restIs .waitRecall false true true).nv.phase ≠ .fault ∧ (restIs .waitGo false true true).rest.phase = .waitGo ∧
    (restIs .waitGo false true true).nv.gated = true ∧ (restIs .waitRecall false false false).fwUp = true ∧ (restIs .waitRecall false false false).nv.auto = false ∧
    (restIs .running false true true).rest.begun = false ∧ (restIs .running true true true).rest.begun = true ∧ (restIs .running true true true).rest.waiting = [] ∧
    (restIs .running true true true).rest.landing = [] ∧ (restIs .running true true true).rest.since + msTicks 5000 ≤ (restIs .running true true true).now ∧
    State.reset.fwUp = false := ⟨good_of (by decide +kernel), by decide +kernel⟩

/-! ### The store -/

theorem meets_NvCommands_read : (Meets (ringIn id 0x70 [(8, 0xFF), (9, 3), (13, 1)]) 0x70 fun j u => u16 j.d 8 = 1023 ∧ u16 j.d 12 = 256 ∧ ubit j.d 11 0 = false ∧ u.nv.phase ≠ .recall) ∧
    Meets (ringIn (fun s => s.updNv fun n => { n with phase := .recall }) 0x70 [(12, 1)]) 0x70 fun j u => u16 j.d 8 ≤ 1023 ∧ u16 j.d 12 = 1 ∧ ubit j.d 11 0 = false ∧ u.nv.phase = .recall :=
  ⟨meets (by decide +kernel) (by decide +kernel), meets (by decide +kernel) (by decide +kernel)⟩
theorem meets_NvCommands_write : (Meets (ringIn id 0x71 [(8, 0x7F), (9, 3), (12, 1)]) 0x71 fun j u => u16 j.d 8 = 895 ∧ j.priv = true ∧ u16 j.d 12 = 1 ∧ ubit j.d 11 0 = false ∧
      u.nv.phase = .ready ∧ u.nvNoSpace (u16 j.d 8) = false ∧ u.holdupOk = true) ∧
    Meets (ringIn id 0x71 [(11, 1), (12, 1), (24, 1)]) 0x71 fun j u => u16 j.d 8 = 0 ∧ ubit j.d 11 0 = true ∧ (u.nvPage (u16 j.d 8)).shownSeq ≠ u32 j.d 24 :=
  ⟨meets (by decide +kernel) (by decide +kernel), meets (by decide +kernel) (by decide +kernel)⟩
theorem meets_NvCommands_count : (Meets (ringIn id 0x72 [(8, 63)]) 0x72 fun j u => u8 j.d 9 = 0 ∧ u8 j.d 8 = 63 ∧ j.priv = true ∧ u.nv.phase ≠ .recall) ∧
    (Meets (ringIn id 0x72 [(8, 63), (9, 1)]) 0x72 fun j u => u8 j.d 9 = 1 ∧ u8 j.d 8 = 63 ∧ j.priv = true ∧ u.nv.phase = .ready ∧ u.holdupOk = true) ∧
    Meets (ringIn (fun s => s.setSq 0 { s.sq 0 with priv := false }) 0x72 [(8, 32), (9, 1)]) 0x72 fun j _ => u8 j.d 9 = 1 ∧ u8 j.d 8 = 32 ∧ j.priv = false :=
  ⟨meets (by decide +kernel) (by decide +kernel), meets (by decide +kernel) (by decide +kernel), meets (by decide +kernel) (by decide +kernel)⟩
/-- A store that is ready, with hold-up, changed by `f`. -/
def nvIs (f : Nv → Nv) : State := later (State.reset.updNv fun n => f { n with phase := .ready, energy := 1000 }) (msTicks 3600000 * 255)
/-- What the descriptor of ring 0 waits for. -/
def nvRing (f : Nv → Nv) : State := (nvIs f).setSq 0 { Sq.reset with started := [⟨0, 0, 0x71, false, false, false, false, none⟩] }
theorem meets_NvFlash_page : let s := nvRing fun n => { n with jobs := [.page 5 .blank (.desc 0 0)] }
    s.Good ∧ s.nv.jobs = .page 5 .blank (.desc 0 0) :: [] ∧ s.holdupOk = true ∧ s.nvNextSlot = some (0, 0) ∧ s.Has ⟨0, 0, 0, 0x71, 0, false, false, []⟩ ∧ State.reset.holdupOk = false :=
  ⟨good_of (by decide +kernel), rfl, by decide +kernel, by decide +kernel, ⟨⟨_, List.mem_singleton.2 rfl, rfl, rfl, rfl, rfl⟩, by simp [nvRing, nvIs, later, State.reset, Hif.reset, State.setSq, State.updHif, State.updNv]⟩, by decide +kernel⟩
theorem meets_NvFlash_cell : let s := nvRing fun n => { n with jobs := [.cell 5 0 (.desc 0 0)] }
    s.Good ∧ s.nv.jobs = .cell 5 0 (.desc 0 0) :: [] ∧ (s.ctr 5).full = false ∧ 0 + 1 < 3 := ⟨good_of (by decide +kernel), by decide +kernel⟩
theorem meets_NvFlash_erase : let s := nvIs fun n => { n with erases := [.record 3], erasing := true }
    s.Good ∧ s.nv.erases = .record 3 :: [] ∧ s.nv.erasing = true ∧ s.nv.jobs = [] := ⟨good_of (by decide +kernel), by decide +kernel⟩
theorem meets_NvFlash_paced : let s := nvIs fun n => { n with queue := [600, 768] }
    s.Good ∧ s.nv.phase = .ready ∧ s.nv.lastPaced = none ∧ s.nv.jobs = [] ∧ s.nextPaced = some 768 ∧ s.nv.lastScrub + msTicks 3600000 * s.fget Adr.nvCfg 7 0 ≤ s.now ∧ 4 ≤ s.nvErased :=
  ⟨good_of (by decide +kernel), by decide +kernel⟩
theorem meets_NvFlash_compact : let s := nvIs fun n => { n with sectors := (List.range 125).map fun k => (k, { NvSector.reset with seq := k + 1 }) }
    s.Good ∧ s.nvErased < 4 ∧ s.nvOldest = some 0 := ⟨good_of (by decide +kernel), by decide +kernel⟩
theorem meets_NvFlash_scrub : let r : NvRec := ⟨5, 9, .blank, .committed⟩
    let s := nvIs fun n => { n with sectors := [(0, { NvSector.reset with seq := 1, recs := [r] })], pages := [(5, ⟨.blank, 9⟩)] }
    s.Good ∧ (s.nvSector 0).recs[0]? = some r ∧ s.nvInForce r = true := ⟨good_of (by decide +kernel), by decide +kernel⟩
theorem meets_NvFlash_recall : let s := State.reset.updNv fun n => { n with scanned := some 0 }
    s.Good ∧ s.nv.phase = .recall ∧ s.nv.scanned = some 0 ∧ State.reset.nv.phase = .recall ∧ State.reset.nv.scanned = none := ⟨good_of (by decide +kernel), by decide +kernel⟩

/-! ### Breaches, scrubs, accesses -/

theorem meets_BreachesAndScrubs : let s := later (powerIs 1 false) (msTicks 3600000 * 31)
    s.Good ∧ State.reset.armed 1 ≠ 0 ∧ State.reset.armed 0 = 0 ∧ s.coc.mapSec ≠ some s.phcSec ∧ s.coc.battAt = none ∧
      s.scrub.hbmAt + msTicks (3600000 * s.fget Adr.scrub 4 0) ≤ s.now ∧ s.scrub.sramAt + msTicks (1000 * s.fget Adr.scrub 13 8) ≤ s.now ∧ s.mismatched = [] :=
  ⟨good_of (by decide +kernel), by decide +kernel⟩
/-- One credit of a queue is lost, whatever its depth: a depth is at least 1. -/
theorem meets_BreachesAndScrubs_audit : let f : QueueFault := ⟨⟨.audioGroup 0, 0⟩, 1, 0⟩
    State.reset.Good ∧ State.reset.mismatched = [] ∧ ((State.reset.queueUpset f).queue f.queue).sumOk f.queue.depth = false := by
  refine ⟨good_of (by decide +kernel), by decide +kernel, ?_⟩
  have h : (State.reset.queueUpset ⟨⟨.audioGroup 0, 0⟩, 1, 0⟩).queue ⟨.audioGroup 0, 0⟩ = ⟨1, 0, 0, false⟩ := by decide +kernel
  simp only [h, Dcq.sumOk, Dcq.credits, QueueId.depth]
  exact decide_eq_false (by omega)
/-- A register, one in the window, an offset that no register has, and the last byte of BAR2. -/
theorem meets_HostAccesses : State.reset.Good ∧ State.reset.fget Adr.pwrStat 2 0 ≠ 6 ∧ State.reset.fget Adr.pwrStat 2 0 ≠ 3 ∧ (powerIs 3 true).fget Adr.pwrStat 2 0 = 3 ∧
    (State.reset.reach Adr.lvCfg).isSome = true ∧ inWindow Adr.lvCfg = false ∧
    State.reset.reach 0xFFFFFC = none ∧ inWindow 0x1000000 = true ∧ (State.reset.setBit Adr.winCtl 0).flag Adr.winCtl 0 = true ∧ State.reset.flag Adr.winCtl 0 = false ∧
    (0xFFFFFFF : BitVec 32).toNat + 1 ≤ 268435456 := ⟨good_of (by decide +kernel), by decide +kernel⟩
theorem meets_PmbusCommands : State.reset.Good ∧ (4120 ≤ (0x1018 : BitVec 16).toNat ∧ (8400 : BitVec 16).toNat ≤ 8400) ∧ ¬((0x1017 : BitVec 16) = 0 ∨ 4120 ≤ (0x1017 : BitVec 16).toNat) ∧
    (2000 : BitVec 16).toNat ≤ 2000 ∧ ¬((2001 : BitVec 16) = 0xFFFF ∨ (2001 : BitVec 16).toNat ≤ 2000) ∧ 2 < (3 : BitVec 8).toNat ∧
    [0x03, 0xD0, 0xD1, 0xD2].contains (0x04 : BitVec 8).toNat = false := ⟨good_of (by decide +kernel), by decide +kernel⟩

/-! ### Keys -/

/-- keyCheck with `b` for whether the module has no keys. -/
def keyChecked (b : Bool) (s : State) (j : Job) : Option Nat :=
  let d := j.d
  let sub := kSub d
  let missing := (kNeeds d).any fun e => (s.key e.1).isNone
  let foreign := (kNeeds d).filterMap fun e =>
    match s.key e.1 with | some k => if e.2 && k.owner != j.owner && !j.priv then some k.owner else none | none => none
  let lacks := match kUsed d, s.usedKey d with
    | some (_, b), some k => bits k.use b b == 0 || k.expired || s.keySpent k
    | _, _ => false
  let wrong := (b && [0x01, 0x03, 0x04, 0x05, 0x11, 0x13, 0x14, 0x15, 0x17].contains sub) || (kCreates d && (decide (kSlot d < 2) || s.slotTaken (kSlot d))) ||
    ((sub == 4 || sub == 5) && decide (kSlot d < 2)) || (sub == 4 && s.slotBound (kSlot d)) || (sub == 0x21 && (!b || s.coc.live != 0)) ||
    (sub == 0x18 && s.coc.lockedAt.isSome)
  firstFail [(s.keyFieldsBad d, csBadParam), (s.keyPrivBad j, csPriv), (missing, csNotFound), (!foreign.isEmpty, s.ownerCode (foreign.headD 0)), (wrong, csState),
    (lacks, csKeyLimit), (kCreates d && ubit d 13 1 && !ubit d 13 0 && s.freeKeyCounter.isNone, csNoResource),
    (s.keyNeedsNv d && decide (s.nv.phase = .recall), csRecall), (s.keyNeedsNv d && !s.holdupOk, csHoldup), (s.keyNeedsNv d && decide (s.nv.phase = .fault), csNvFail)]
theorem key_checked {b : Bool} {s : State} {j : Job} (k : s.keyless = b) (h : keyChecked b s j = none) : s.keyCheck j = none := by subst k; exact h

/-- Keys in slots 2 and 3: an ephemeral one with every use, and a counted one. -/
def keysIn (s : State) : State :=
  (s.setKey 2 (some { key1 0x7F with ephemeral := true })).setKey 3 (some { key1 0x7F with counted := true, ephemeral := true, limit := 9 })
/-- The state of a subcode that needs keys. -/
def keyOf (l : List (Nat × Nat)) : State := ringIn keysIn 0x80 l
theorem meets_key (h : Config.identityOk = true) {l : List (Nat × Nat)} {P : Job → State → Prop} (g : (goodB (keyOf l) && startsB (keyOf l) 0x80) = true)
    (r : (begun (keyOf l)).2.coc.root.isNone = false) (k : keyChecked false (begun (keyOf l)).2 (begun (keyOf l)).1 = none) (p : P (begun (keyOf l)).1 (begun (keyOf l)).2) :
    Meets (keyOf l) 0x80 fun j u => u.keyCheck j = none ∧ P j u := meets g ⟨key_checked (keyed h r) k, p⟩
/-- GENERATE, IMPORT and DERIVE of a key in slot 5. -/
theorem meets_KeyCommands_create (h : Config.identityOk = true) :
    (Meets (keyOf [(8, 1), (9, 5), (11, 1), (13, 1)]) 0x80 fun j u => u.keyCheck j = none ∧ kSub j.d = 0x01) ∧
    (Meets (keyOf [(8, 2), (9, 5), (11, 4), (20, 96)]) 0x80 fun j u => u.keyCheck j = none ∧ kSub j.d = 0x02 ∧ (keyInput j.d (some [])).isSome = true) ∧
    Meets (keyOf [(8, 3), (9, 5), (10, 2), (11, 2), (13, 1), (20, 64)]) 0x80 fun j u => u.keyCheck j = none ∧ kSub j.d = 0x03 ∧ (keyInput j.d (some [])).isSome = true :=
  ⟨meets_key h (by decide +kernel) (by decide +kernel) (by decide +kernel) (by decide +kernel),
   meets_key h (by decide +kernel) (by decide +kernel) (by decide +kernel) (by decide +kernel),
   meets_key h (by decide +kernel) (by decide +kernel) (by decide +kernel) (by decide +kernel)⟩
theorem meets_KeyCommands_sign (h : Config.identityOk = true) :
    (Meets (keyOf [(8, 0x11), (9, 2), (20, 48), (32, 96)]) 0x80 fun j u => u.keyCheck j = none ∧ kSub j.d = 0x11 ∧ (keyInput j.d (some [])).isSome = true) ∧
    (Meets (keyOf [(8, 0x12), (9, 3), (20, 144)]) 0x80 fun j u => u.keyCheck j = none ∧ kSub j.d = 0x12 ∧ (keyInput j.d (some [])).isSome = true) ∧
    Meets (keyOf [(8, 0x13), (9, 2), (32, 48)]) 0x80 fun j u => u.keyCheck j = none ∧ kSub j.d = 0x13 ∧ (keyInput j.d none).isSome = true :=
  ⟨meets_key h (by decide +kernel) (by decide +kernel) (by decide +kernel) (by decide +kernel),
   meets_key h (by decide +kernel) (by decide +kernel) (by decide +kernel) (by decide +kernel),
   meets_key h (by decide +kernel) (by decide +kernel) (by decide +kernel) (by decide +kernel)⟩
theorem meets_KeyCommands_crypt (h : Config.identityOk = true) :
    (Meets (keyOf [(8, 0x14), (9, 2), (20, 12), (32, 16)]) 0x80 fun j u => u.keyCheck j = none ∧ kSub j.d = 0x14 ∧ (keyInput j.d (some [])).isSome = true) ∧
    (Meets (keyOf [(8, 0x15), (9, 2), (20, 28)]) 0x80 fun j u => u.keyCheck j = none ∧ kSub j.d = 0x15 ∧ (keyInput j.d (some [])).isSome = true) ∧
    Meets (keyOf [(8, 0x16), (20, 1), (32, 48)]) 0x80 fun j u => u.keyCheck j = none ∧ kSub j.d = 0x16 ∧ keyInput j.d none = none :=
  ⟨meets_key h (by decide +kernel) (by decide +kernel) (by decide +kernel) (by decide +kernel),
   meets_key h (by decide +kernel) (by decide +kernel) (by decide +kernel) (by decide +kernel),
   meets_key h (by decide +kernel) (by decide +kernel) (by decide +kernel) (by decide +kernel)⟩
theorem meets_KeyCommands_proof (h : Config.identityOk = true) :
    (Meets (keyOf [(8, 0x17), (9, 2), (20, 32), (32, 0x20), (33, 1)]) 0x80 fun j u => u.keyCheck j = none ∧ kSub j.d = 0x17 ∧ (keyInput j.d (some [])).isSome = true) ∧
    (Meets (keyOf [(8, 0x18), (32, 48)]) 0x80 fun j u => u.keyCheck j = none ∧ kSub j.d = 0x18) ∧
    (Meets (keyOf [(8, 0x19), (20, 96)]) 0x80 fun j u => u.keyCheck j = none ∧ kSub j.d = 0x19 ∧ (keyInput j.d (some [])).isSome = true ∧
      (u.coc.challenges.find? fun e => e.ring == j.ring) = none) ∧
    Meets (keyOf [(8, 0x20), (20, 96)]) 0x80 fun j u => u.keyCheck j = none ∧ kSub j.d = 0x20 ∧ (keyInput j.d (some [])).isSome = true :=
  ⟨meets_key h (by decide +kernel) (by decide +kernel) (by decide +kernel) (by decide +kernel),
   meets_key h (by decide +kernel) (by decide +kernel) (by decide +kernel) (by decide +kernel),
   meets_key h (by decide +kernel) (by decide +kernel) (by decide +kernel) (by decide +kernel),
   meets_key h (by decide +kernel) (by decide +kernel) (by decide +kernel) (by decide +kernel)⟩
theorem meets_KeyCommands_manage (h : Config.identityOk = true) :
    (Meets (keyOf [(8, 4), (9, 2)]) 0x80 fun j u => u.keyCheck j = none ∧ kSub j.d = 0x04 ∧ ubit j.d 13 2 = false ∧ (u.key (kSlot j.d)).isSome = true) ∧
    (Meets (keyOf [(8, 5), (9, 3), (16, 9)]) 0x80 fun j u => u.keyCheck j = none ∧ kSub j.d = 0x05 ∧ (u.key (kSlot j.d)).isSome = true) ∧
    Meets (keyOf [(8, 0x10), (9, 2), (32, 64)]) 0x80 fun j u => u.keyCheck j = none ∧ kSub j.d = 0x10 ∧ (u.key (kSlot j.d)).isSome = true :=
  ⟨meets_key h (by decide +kernel) (by decide +kernel) (by decide +kernel) (by decide +kernel),
   meets_key h (by decide +kernel) (by decide +kernel) (by decide +kernel) (by decide +kernel),
   meets_key h (by decide +kernel) (by decide +kernel) (by decide +kernel) (by decide +kernel)⟩
/-- After a breach the module has no keys, and takes a new commission. -/
theorem meets_KeyCommands_recommission : Meets (ringIn (fun s => s.updCoc fun c => { c with root := none }) 0x80 [(8, 0x21), (32, 96)]) 0x80 fun j u =>
    kSub j.d = 0x21 ∧ u.keyCheck j = none := meets (by decide +kernel) ⟨by decide +kernel, key_checked (b := true) (by decide +kernel) (by decide +kernel)⟩

/-- An operation of ring 0 that runs: subcode and slot from `l`. -/
def op1 (ph : KeyPhase) (k : Option Key) (l : List (Nat × Nat)) : KeyOp :=
  { ring := 0, stamp := 0, seq := 0, opcode := 0x80, owner := 7, priv := true, desc := desc 0x80 l, input := some [], phase := ph, key := k, store := none,
    digest := [], grant := 0 }
def opIn (o : KeyOp) : State := (keysIn (nvIs id)).updMg (fun m => { m with a := { Pair.reset with state := .serving } }) |>.updCoc fun c => { c with ops := [o] }
theorem meets_KeyResults : let s := opIn (op1 .running none [(8, 0x11), (9, 2)])
    s.Good ∧ (s.mg.pair s.mg.serving).state = .serving ∧ (s.coc.ops.find? fun o => o.ring == 0 && decide (o.phase = .running)) = some (op1 .running none [(8, 0x11), (9, 2)]) ∧
      kSub (op1 .running none [(8, 0x11), (9, 2)]).desc = 0x11 ∧ (s.usedKey (op1 .running none [(8, 0x11), (9, 2)]).desc).isSome = true ∧
      (s.usedKey (op1 .running none [(8, 0x15), (9, 3)]).desc).isSome = true ∧ kSub (op1 .running none [(8, 2), (9, 5)]).desc = 0x02 ∧
      (State.reset.mg.pair State.reset.mg.serving).state ≠ .serving := ⟨good_of (by decide +kernel), by decide +kernel⟩
theorem meets_KeyResults_store : let o := op1 .writing (some (key1 0x40)) [(8, 1), (9, 5)]
    let s := (opIn o).updNv fun n => { n with jobs := [.page 898 .blank (.op 0 0)] }
    s.Good ∧ s.coc.ops = [o] ∧ o.opcode = 0x80 ∧ o.phase = .writing ∧ kCreates o.desc = true ∧ o.key = some (key1 0x40) ∧ s.nv.jobs = .page 898 .blank (.op 0 0) :: [] ∧
      s.holdupOk = true ∧ s.nvNextSlot = some (0, 0) := ⟨good_of (by decide +kernel), by decide +kernel⟩
theorem meets_KeyResults_unlock : let s := later (State.reset.updCoc fun c => { c with lockedAt := some 0 }) (msTicks 60000)
    s.Good ∧ s.coc.lockedAt = some 0 ∧ 0 + msTicks 60000 ≤ s.now ∧ State.reset.coc.lockedAt = none ∧ ((ring []).sq 0).owner = (op1 .running none []).owner ∧
      ((ring []).sq 0).state ≠ .disabled := ⟨good_of (by decide +kernel), by decide +kernel⟩

end Sys2Proof.Tests
end

section
/-!
SUPPORT. The register file: what a read of a register or of a field returns after a write, and which commands leave it alone (R9, R10).
-/
namespace Sys2Proof.Machine

/-! ## Bit fields -/

/-- A field that has just been replaced holds the new value, cut to its width. -/
theorem bits_putBits_self (v hi lo x : Nat) : bits (putBits v hi lo x) hi lo = x % 2 ^ (hi + 1 - lo) := by
  unfold bits putBits bits
  have hP : 0 < 2 ^ lo := Nat.two_pow_pos lo
  generalize 2 ^ lo = P at *
  generalize 2 ^ (hi + 1 - lo) = M
  have hv : v - v / P % M * P = v % P + M * (v / P / M) * P := by
    have h1 := Nat.mod_add_div v P
    have h2 := Nat.mod_add_div (v / P) M
    have h3 : v = v % P + (v / P % M * P + M * (v / P / M) * P) := by
      rw [← Nat.add_mul, h2, Nat.mul_comm (v / P) P]; exact h1.symm
    omega
  have hsum : v % P + M * (v / P / M) * P + x % M * P = v % P + P * (M * (v / P / M) + x % M) := by ring
  rw [hv, hsum, Nat.add_mul_div_left _ _ hP, Nat.div_eq_of_lt (Nat.mod_lt _ hP), Nat.zero_add, Nat.mul_add_mod, Nat.mod_mod]

/-- A field of a register lies in the low 32 bits. -/
theorem bits_mod_word {hi lo : Nat} (h : hi < 32) (v : Nat) : bits (v % 2 ^ 32) hi lo = bits v hi lo := by
  unfold bits
  by_cases hl : lo ≤ hi
  · rw [show 2 ^ 32 = 2 ^ lo * 2 ^ (32 - lo) by rw [← Nat.pow_add]; congr 1; omega, Nat.mod_mul_right_div_self,
      Nat.mod_mod_of_dvd _ (Nat.pow_dvd_pow 2 (by omega))]
  · rw [show hi + 1 - lo = 0 by omega, Nat.pow_zero, Nat.mod_one, Nat.mod_one]

/-! ## Reads after writes -/

theorem State.rd_wr_self (s : State) (a : Nat) {v : Nat} (h : v < 2 ^ 32) : (s.wr a v).rd a = v := by
  simp only [State.rd, State.wr, Tab.get_set_self, BitVec.toNat_ofNat, Nat.mod_eq_of_lt h]

theorem State.rd_wr_ne (s : State) {a b : Nat} (v : Nat) (h : b ≠ a) : (s.wr a v).rd b = s.rd b := by
  simp only [State.rd, State.wr, Tab.get_set_ne _ _ _ h]

theorem State.fget_wr_ne (s : State) {a b : Nat} (v hi lo : Nat) (h : b ≠ a) : (s.wr a v).fget b hi lo = s.fget b hi lo :=
  congrArg (bits · hi lo) (s.rd_wr_ne v h)

theorem State.fget_fset_self (s : State) (a x : Nat) {hi lo : Nat} (h : hi < 32) :
    (s.fset a hi lo x).fget a hi lo = x % 2 ^ (hi + 1 - lo) := by
  simp only [State.fget, State.fset, State.rd, State.wr, Tab.get_set_self, BitVec.toNat_ofNat, bits_mod_word h, bits_putBits_self]

theorem State.fget_fset_ne (s : State) {a b : Nat} (hi lo x hi' lo' : Nat) (h : b ≠ a) :
    (s.fset a hi lo x).fget b hi' lo' = s.fget b hi' lo' := s.fget_wr_ne _ _ _ h

/-- A counter counts up to the largest value of its field and stays there. -/
theorem State.fget_count_self (s : State) (a n : Nat) {hi lo : Nat} (h : hi < 32) :
    (s.count a hi lo n).fget a hi lo = min (s.fget a hi lo + n) (2 ^ (hi + 1 - lo) - 1) := by
  have hM := Nat.two_pow_pos (hi + 1 - lo)
  rw [State.count, State.fget_fset_self _ _ _ h]
  exact Nat.mod_eq_of_lt (by omega)

/-! ## States with the same register file -/

theorem State.rd_congr {s t : State} (h : t.regs = s.regs) (a : Nat) : t.rd a = s.rd a := by simp only [State.rd, h]

theorem State.fget_congr {s t : State} (h : t.regs = s.regs) (a hi lo : Nat) : t.fget a hi lo = s.fget a hi lo := by
  simp only [State.fget, State.rd_congr h]

theorem State.flag_congr {s t : State} (h : t.regs = s.regs) (a k : Nat) : t.flag a k = s.flag a k := by
  simp only [State.flag, State.fget_congr h]

/-! ## Frames of single states -/

/-- A change within a mask leaves alone every part that a list with that mask does not name. -/
theorem Within.only {m : Nat} {s t : State} (l : List Part) (h : Within m s t) (hl : m ||| maskOf l = maskOf l) : s.Only t l :=
  fun _ hp => (h.mono hl).same _ (testBit_maskOf hp)

/-! ## The obligation -/

/-- Settles O11: each part that the statement names is a function of a part of the state that `exec_frame` keeps. -/
theorem frameRegisters : Obligations.FrameRegisters := by
  intro c s t h
  refine ⟨fun hp => State.rd_congr (exec_frame h hp), fun hp => exec_frame h hp,
    fun hp => State.led_congr (exec_frame h hp), fun hp => exec_frame h hp, fun hp => exec_frame h hp⟩

end Sys2Proof.Machine
end

section
/-!
SUPPORT. BAR0 reads: what `exec` does by what the address reaches, the latches of R8, and accesses that find nothing (R532, R533).
-/
namespace Sys2Proof.Machine

/-! ## Answers and events leave the counters alone -/

/-- An access that finds nothing: a read answers 0, a write is discarded. -/
def State.respond (s : State) (write : Bool) : State := if write then s else s.answer 0

theorem State.respond_reply (s : State) (write : Bool) : (s.respond write).reply = if write then s.reply else .word 0 := by
  cases write <;> rfl

theorem State.respond_within (s : State) (write : Bool) : Within 4398046511104 s (s.respond write) := by
  cases write
  · exact s.answer_within 0
  · exact Within.refl _ _

@[simp] theorem State.respond_regs (s : State) (write : Bool) : (s.respond write).regs = s.regs :=
  (s.respond_within write).same .regs (by decide)
@[simp] theorem State.respond_mg (s : State) (write : Bool) : (s.respond write).mg = s.mg :=
  (s.respond_within write).same .mgmt (by decide)

theorem State.answer_latches (s : State) (v : Nat) : (s.answer v).latches = s.latches := rfl

theorem State.occur_regs (s : State) (src code : Nat) (d : List (Nat × Nat × Nat)) : (s.occur src code d).regs = s.regs :=
  (s.occur_within src code d).same .regs (by decide)

/-- Of the register file a cause changes its own register alone. -/
theorem State.fget_raise_ne (s : State) {a cause : Nat} (h : a ≠ cause) (mask bit src code : Nat) (d : List (Nat × Nat × Nat)) (hi lo : Nat) :
    (s.raise cause mask bit src code d).fget a hi lo = s.fget a hi lo := by
  have hs : (s.setBit cause bit).fget a hi lo = s.fget a hi lo := s.fget_fset_ne _ _ _ _ _ h
  unfold State.raise
  extract_lets t
  split
  · rw [State.fget_congr (State.occur_regs _ _ _ _), hs]
  · exact hs

/-! ## The window's run of unmapped accesses -/

@[simp] theorem State.winEnd_regs (s : State) (a : Nat) : (s.winEnd a).regs = s.regs := (s.winEnd_within a).same .regs (by decide)
@[simp] theorem State.winEnd_latches (s : State) (a : Nat) : (s.winEnd a).latches = s.latches := (s.winEnd_within a).same .latches (by decide)
@[simp] theorem State.winEnd_free (s : State) (a : Nat) : (s.winEnd a).free = s.free := (s.winEnd_within a).same .free (by decide)
@[simp] theorem State.winEnd_scc (s : State) (a : Nat) : (s.winEnd a).scc = s.scc := by unfold State.winEnd; split <;> rfl

theorem State.winEnd_outside (s : State) {a : Nat} (h : inWindow a = false) : s.winEnd a = s := by simp [State.winEnd, h]

theorem State.winUnmapped_counts (s : State) (a : Nat) :
    (s.winUnmapped a).fget Adr.winStat 15 0 = min (s.fget Adr.winStat 15 0 + 1) 65535 := by
  have hc : (s.count Adr.winStat 15 0 1).fget Adr.winStat 15 0 = min (s.fget Adr.winStat 15 0 + 1) 65535 :=
    s.fget_count_self _ _ (by decide)
  unfold State.winUnmapped
  extract_lets t
  split
  · exact hc
  · unfold State.mgRaise
    rw [State.fget_raise_ne _ (by decide), State.fget_congr (State.updMg_regs _ _), hc]

theorem State.winUnmapped_winRun (s : State) (a : Nat) : (s.winUnmapped a).mg.winRun = true := by
  unfold State.winUnmapped
  extract_lets t
  split
  · assumption
  · rw [(State.mgRaise_within _ _ _ _).same .mgmt (by decide)]; rfl

/-! ## Accesses that find nothing -/

theorem State.unmapped_reply (s : State) (a : Nat) : (s.unmapped a).reply = s.reply := (s.unmapped_within a).same .reply (by decide)

theorem State.unmapped_inWindow (s : State) {a : Nat} (h : inWindow a = true) : s.unmapped a = s.winUnmapped a := if_pos h

theorem State.unmapped_outside (s : State) {a : Nat} (h : inWindow a = false) :
    s.unmapped a = (s.count Adr.glbAccErr 15 0 1).wr Adr.glbAccAddr a := by simp [State.unmapped, h]

theorem State.unmapped_outside_within (s : State) {a : Nat} (h : inWindow a = false) : Within 2 s (s.unmapped a) := by
  rw [s.unmapped_outside h]
  exact (State.wr_within _ _ _).via (by decide) (State.count_within _ _ _ _ _)

/-- The two counts of ACC_ERR stay when the offset is written to ACC_ADDR. -/
theorem State.fget_accErr_counted (s : State) (a : Nat) {hi lo : Nat} (h : hi < 32) :
    ((s.count Adr.glbAccErr hi lo 1).wr Adr.glbAccAddr a).fget Adr.glbAccErr hi lo =
      min (s.fget Adr.glbAccErr hi lo + 1) (2 ^ (hi + 1 - lo) - 1) := by
  rw [State.fget_wr_ne _ _ _ _ (by decide), State.fget_count_self _ _ _ h]

theorem State.badSize_eq (s : State) {a : Nat} (h : a < 67108864) :
    s.badSize a = (s.count Adr.glbAccErr 31 16 1).wr Adr.glbAccAddr a := by
  rw [State.badSize, show bits a 25 0 = a from by simp only [bits]; omega]

/-! ## Latches (R8) -/

theorem State.unlatch_fst (s : State) (who a : Nat) :
    (s.unlatch who a).1 = (s.latches.find? fun l => l.who == who && l.addr == a).map (·.value) := by
  unfold State.unlatch
  split <;> simp only [*, Option.map_some, Option.map_none]

/-- A read uses the latched value up. -/
theorem State.unlatch_unlatch (s : State) (who a : Nat) : ((s.unlatch who a).2.unlatch who a).1 = none := by
  rw [State.unlatch_fst]
  unfold State.unlatch
  split
  · rw [Option.map_eq_none_iff, List.find?_eq_none]
    intro l hl
    simpa only [Bool.not_eq_true', Bool.not_eq_true] using (List.mem_filter.1 hl).2
  · next h => rw [h, Option.map_none]

theorem State.unlatch_congr {s t : State} (h : t.latches = s.latches) (who a : Nat) : (t.unlatch who a).1 = (s.unlatch who a).1 := by
  rw [State.unlatch_fst, State.unlatch_fst, h]

theorem State.measured_congr {s t : State} (h : t.regs = s.regs) (b i : Nat) : t.measured b i = s.measured b i := by
  simp only [State.measured, State.fget_congr h, State.flag_congr h]

/-! ## A read by what the register is -/

theorem State.readReg_now (s : State) (who a i j : Nat) {r : RegRow} (hn : r.base = Adr.nowNs) : s.readReg who a r i j = s.readNow who :=
  if_pos hn

section
variable {s : State} {who a i j : Nat} {r : RegRow} (hn : r.base ≠ Adr.nowNs)
include hn

theorem State.readReg_measured (hm : s.measured r.base i = true) : s.readReg who a r i j = s.readMeasured r.base := by
  simp only [State.readReg, if_neg hn, hm, if_true]

theorem State.readReg_latched (hm : s.measured r.base i = false) {x : BitVec 32} (hx : (s.unlatch who a).1 = some x) :
    s.readReg who a r i j = (s.unlatch who a).2.answer x.toNat := by
  obtain ⟨t, ht⟩ : ∃ t, s.unlatch who a = (some x, t) := ⟨_, Prod.ext hx rfl⟩
  simp only [State.readReg, if_neg hn, hm, Bool.false_eq_true, if_false, ht]

theorem State.readReg_unlatched (hm : s.measured r.base i = false) (hx : (s.unlatch who a).1 = none) :
    s.readReg who a r i j = ((s.latchNext who a (latchSpan r.base j)).clearRc r a i).answer (s.regValue a r.base i j) := by
  obtain ⟨t, ht⟩ : ∃ t, s.unlatch who a = (none, t) := ⟨_, Prod.ext hx rfl⟩
  simp only [State.readReg, if_neg hn, hm, Bool.false_eq_true, if_false, ht]

end

/-! ## What `exec` does by what the address reaches -/

section
variable {addr : BitVec 32} {s : State} (ha : addr.toNat < 67108864)
include ha

theorem exec_registerRead_eq (who : Fin 3) : exec (.registerRead who addr) s = .next (s.bar0Read who addr.toNat) :=
  if_neg (Nat.not_le.2 ha)

theorem exec_badSizeAccess_eq (write : Bool) : exec (.badSizeAccess addr write) s = .next ((s.badSize addr.toNat).respond write) :=
  if_neg (Nat.not_le.2 ha)

theorem exec_registerRead_misaligned (who : Fin 3) (h4 : addr.toNat % 4 ≠ 0) :
    exec (.registerRead who addr) s = exec (.badSizeAccess addr false) s := by
  rw [exec_registerRead_eq ha, exec_badSizeAccess_eq ha, State.bar0Read, if_pos h4]; rfl

variable (h4 : addr.toNat % 4 = 0)
include h4

theorem exec_registerRead_reached (who : Fin 3) {b i j : Nat} {r : RegRow} (hr : s.reach addr.toNat = some (b, r, i, j)) :
    exec (.registerRead who addr) s = .next ((s.winEnd addr.toNat).readReg who b r i j) := by
  simp only [exec_registerRead_eq ha, State.bar0Read, h4, hr, ne_eq, not_true_eq_false, if_false]

theorem exec_unmappedAccess_unreached (write : Bool) (hr : s.reach addr.toNat = none) :
    exec (.unmappedAccess addr write) s = .next ((s.unmapped addr.toNat).respond write) := by
  show execUnmappedAccess addr write s = _
  simp only [execUnmappedAccess, if_neg (Nat.not_le.2 ha : ¬bar0Size ≤ addr.toNat), h4, hr, Option.isNone_none, and_self, if_true]
  rfl

theorem exec_registerRead_unreached (who : Fin 3) (hr : s.reach addr.toNat = none) :
    exec (.registerRead who addr) s = exec (.unmappedAccess addr false) s := by
  rw [exec_unmappedAccess_unreached ha h4 false hr]
  simp only [exec_registerRead_eq ha, State.bar0Read, h4, hr, ne_eq, not_true_eq_false, if_false]
  rfl

end

/-! ## The reads and the accesses that find nothing, as O50 states them -/

section
variable {addr : BitVec 32} {s : State} {who : Fin 3} {b i j : Nat} {r : RegRow} (ha : addr.toNat < 67108864) (h4 : addr.toNat % 4 = 0)
  (hr : s.reach addr.toNat = some (b, r, i, j)) (hn : r.base ≠ Adr.nowNs)
include ha h4 hr hn

theorem registerRead_latched (hm : s.measured r.base i = false) {x : BitVec 32} (hx : (s.unlatch who b).1 = some x) :
    ∃ t, exec (.registerRead who addr) s = .next t ∧ t.reply = .word x ∧ (t.unlatch who b).1 = none ∧ t.regs = s.regs := by
  have hm' : (s.winEnd addr.toNat).measured r.base i = false := (State.measured_congr (s.winEnd_regs _) _ _).trans hm
  have hx' : ((s.winEnd addr.toNat).unlatch who b).1 = some x := (State.unlatch_congr (s.winEnd_latches _) _ _).trans hx
  refine ⟨_, by rw [exec_registerRead_reached ha h4 who hr, State.readReg_latched hn hm' hx'], ?_, ?_, ?_⟩
  · simp only [State.answer, BitVec.ofNat_toNat, BitVec.setWidth_eq]
  · rw [State.unlatch_congr (State.answer_latches _ _), State.unlatch_unlatch]
  · exact ((State.unlatch_within _ _ _).same .regs (by decide)).trans (s.winEnd_regs _)

theorem registerRead_unlatched (hm : s.measured r.base i = false) (hx : (s.unlatch who b).1 = none) :
    ∃ t, exec (.registerRead who addr) s = .next t ∧ t.reply = .word (BitVec.ofNat 32 ((s.winEnd addr.toNat).regValue b r.base i j)) := by
  have hm' : (s.winEnd addr.toNat).measured r.base i = false := (State.measured_congr (s.winEnd_regs _) _ _).trans hm
  have hx' : ((s.winEnd addr.toNat).unlatch who b).1 = none := (State.unlatch_congr (s.winEnd_latches _) _ _).trans hx
  exact ⟨_, by rw [exec_registerRead_reached ha h4 who hr, State.readReg_unlatched hn hm' hx'], rfl⟩

theorem registerRead_measured (hm : s.measured r.base i = true) :
    ∃ t x, exec (.registerRead who addr) s = .next t ∧ t.reply = .word x ∧ t.free = s.free + 1 := by
  have hm' : (s.winEnd addr.toNat).measured r.base i = true := (State.measured_congr (s.winEnd_regs _) _ _).trans hm
  exact ⟨_, _, by rw [exec_registerRead_reached ha h4 who hr, State.readReg_measured hn hm'], rfl,
    congrArg (· + 1) (s.winEnd_free addr.toNat)⟩

end

section
variable {addr : BitVec 32} {s : State} (ha : addr.toNat < 67108864)
include ha

theorem unmappedAccess_result (h4 : addr.toNat % 4 = 0) (hr : s.reach addr.toNat = none) (write : Bool) :
    ∃ t, exec (.unmappedAccess addr write) s = .next t ∧ (t.reply = if write then s.reply else .word 0) ∧
      (inWindow addr.toNat = false → t.fget Adr.glbAccErr 15 0 = min (s.fget Adr.glbAccErr 15 0 + 1) 65535 ∧ t.rd Adr.glbAccAddr = addr.toNat ∧
        s.Only t [.regs, .reply]) ∧
      (inWindow addr.toNat = true → t.fget Adr.winStat 15 0 = min (s.fget Adr.winStat 15 0 + 1) 65535 ∧ t.mg.winRun = true) := by
  refine ⟨_, exec_unmappedAccess_unreached ha h4 write hr, ?_, fun hw => ⟨?_, ?_, ?_⟩, fun hw => ⟨?_, ?_⟩⟩
  · rw [State.respond_reply, State.unmapped_reply]
  · rw [State.fget_congr (State.respond_regs _ _), s.unmapped_outside hw]
    exact s.fget_accErr_counted _ (by decide)
  · rw [State.rd_congr (State.respond_regs _ _), s.unmapped_outside hw, State.rd_wr_self _ _ addr.isLt]
  · exact ((State.respond_within _ _).via (by decide) ((s.unmapped_outside_within hw).mono (l := 4398046511106) (by decide))).only _ (by decide)
  · rw [State.fget_congr (State.respond_regs _ _), s.unmapped_inWindow hw, State.winUnmapped_counts]
  · rw [State.respond_mg, s.unmapped_inWindow hw, State.winUnmapped_winRun]

theorem badSizeAccess_result (write : Bool) :
    ∃ t, exec (.badSizeAccess addr write) s = .next t ∧ (t.reply = if write then s.reply else .word 0) ∧
      t.fget Adr.glbAccErr 31 16 = min (s.fget Adr.glbAccErr 31 16 + 1) 65535 ∧ t.rd Adr.glbAccAddr = addr.toNat ∧ s.Only t [.regs, .reply] := by
  refine ⟨_, exec_badSizeAccess_eq ha write, ?_, ?_, ?_, ?_⟩
  · rw [State.respond_reply, (s.badSize_within _).same .reply (by decide)]
  · rw [State.fget_congr (State.respond_regs _ _), s.badSize_eq ha]
    exact s.fget_accErr_counted _ (by decide)
  · rw [State.rd_congr (State.respond_regs _ _), s.badSize_eq ha, State.rd_wr_self _ _ addr.isLt]
  · exact ((State.respond_within _ _).via (by decide) ((s.badSize_within _).mono (l := 4398046511106) (by decide))).only _ (by decide)

end

end Sys2Proof.Machine
end

section
/-!
SUPPORT. BAR0 writes and the expert window: what `exec` does by what the address reaches, and the registers whose write is a command of its
own (R9, R483, R484, R537).
-/
namespace Sys2Proof.Machine

/-! ## Registers below the blocks that STANDBY darkens -/

/-- The register of an address below the block SRC is there in every power state. -/
theorem State.reach_of_lt (s : State) {a b i j : Nat} (ha : a < 0x200000)
    (h : (findReg a).map (fun x => (x.1.base, x.2.1, x.2.2)) = some (b, i, j)) : ∃ r, s.reach a = some (a, r, i, j) ∧ r.base = b := by
  obtain ⟨⟨r, i', j'⟩, hf, he⟩ := Option.map_eq_some_iff.1 h
  simp only [Prod.mk.injEq] at he
  obtain ⟨hb, rfl, rfl⟩ := he
  have hw : regAddr a = some a := by simp [regAddr, inWindow, show ¬0x1000000 ≤ a by omega]
  have hd : s.dark a = false := by simp [State.dark, show ¬0x200000 ≤ a by omega]
  exact ⟨r, by simp [State.reach, hw, hd, hf], hb⟩

theorem State.reach_nowNs (s : State) : ∃ r, s.reach Adr.nowNs = some (Adr.nowNs, r, 0, 0) ∧ r.base = Adr.nowNs :=
  s.reach_of_lt (by decide) (by decide +kernel)
theorem State.reach_sqDb (s : State) (n : Fin 64) : ∃ r : RegRow, s.reach (Adr.sqDb n) = some (Adr.sqDb n, r, n.val, 0) ∧ r.base = Adr.sqDb 0 :=
  s.reach_of_lt (by have := n.isLt; unfold Adr.sqDb; omega) (by revert n; decide +kernel)
theorem State.reach_lvCfg (s : State) : ∃ r, s.reach Adr.lvCfg = some (Adr.lvCfg, r, 0, 0) ∧ r.base = Adr.lvCfg :=
  s.reach_of_lt (by decide) (by decide +kernel)
theorem State.reach_swRaise (s : State) : ∃ r, s.reach Adr.swRaise = some (Adr.swRaise, r, 0, 0) ∧ r.base = Adr.swRaise :=
  s.reach_of_lt (by decide) (by decide +kernel)
theorem State.reach_incrFrac (s : State) : ∃ r, s.reach Adr.incrFrac = some (Adr.incrFrac, r, 0, 0) ∧ r.base = Adr.incrFrac :=
  s.reach_of_lt (by decide) (by decide +kernel)

/-! ## Writes that are commands of their own -/

section
variable (s : State) (a i j v : Nat) {r : RegRow}

theorem State.writeReg_sqDb (h : r.base = Adr.sqDb 0) : s.writeReg a r i j v = s.writeDoorbell i v := by
  unfold State.writeReg State.writeHif; rw [h]; rfl
theorem State.writeReg_lvCfg (h : r.base = Adr.lvCfg) : s.writeReg a r i j v = s.writeLeaveCfg v := by
  unfold State.writeReg State.writeLeave; rw [h]; rfl
theorem State.writeReg_swRaise (h : r.base = Adr.swRaise) : s.writeReg a r i j v = s.swRaise v := by
  unfold State.writeReg State.writeEvt; rw [h]; rfl
theorem State.writeReg_incrFrac (h : r.base = Adr.incrFrac) : s.writeReg a r i j v = s.incrWrite v := by
  unfold State.writeReg State.writeTime; rw [h]; rfl

end

/-! ## What `exec` does by what the address reaches -/

/-- Out of WARM_RESET no write is switched off (R537). -/
theorem State.writesOff_eq_false {s : State} (hp : s.fget Adr.pwrStat 2 0 ≠ 6) (a : Nat) : s.writesOff a = false := by
  simp [State.writesOff, hp]

section
variable {addr : BitVec 32} {s : State} (v : BitVec 32) (ha : addr.toNat < 67108864)
include ha

theorem exec_registerWrite_eq : exec (.registerWrite addr v) s = .next (s.bar0Write addr.toNat v.toNat) :=
  if_neg (Nat.not_le.2 ha)

theorem exec_registerWrite_misaligned (h4 : addr.toNat % 4 ≠ 0) :
    exec (.registerWrite addr v) s = exec (.badSizeAccess addr true) s := by
  rw [exec_registerWrite_eq v ha, exec_badSizeAccess_eq ha, State.bar0Write, if_pos h4]; rfl

variable (h4 : addr.toNat % 4 = 0) (hp : s.fget Adr.pwrStat 2 0 ≠ 6)
include h4 hp

theorem exec_registerWrite_reached (hw : inWindow addr.toNat = false) {b i j : Nat} {r : RegRow} (hr : s.reach addr.toNat = some (b, r, i, j)) :
    exec (.registerWrite addr v) s = .next (s.writeReg b r i j v.toNat) := by
  simp only [exec_registerWrite_eq v ha, State.bar0Write, h4, State.writesOff_eq_false hp, hw, hr, ne_eq, not_true_eq_false,
    Bool.false_eq_true, if_false]

theorem exec_windowWrite_eq (hw : inWindow addr.toNat = true) : exec (.windowWrite addr v) s = .next (s.windowWrite addr.toNat v.toNat) := by
  show execWindowWrite addr v s = _
  simp only [execWindowWrite, if_neg (Nat.not_le.2 ha : ¬bar0Size ≤ addr.toNat), h4, hw, State.writesOff_eq_false hp, and_self, if_true]

theorem exec_registerWrite_inWindow (hw : inWindow addr.toNat = true) : exec (.registerWrite addr v) s = exec (.windowWrite addr v) s := by
  rw [exec_windowWrite_eq v ha h4 hp hw]
  simp only [exec_registerWrite_eq v ha, State.bar0Write, h4, State.writesOff_eq_false hp, hw, ne_eq, not_true_eq_false,
    Bool.false_eq_true, if_false, if_true]

end

/-- A write of the register at the constant address `a`. -/
theorem exec_registerWrite_ofNat {s : State} {a i j : Nat} {r : RegRow} (v : BitVec 32) (ha : a < 0x200000) (h4 : a % 4 = 0)
    (hp : s.fget Adr.pwrStat 2 0 ≠ 6) (hr : s.reach a = some (a, r, i, j)) :
    exec (.registerWrite (BitVec.ofNat 32 a) v) s = .next (s.writeReg a r i j v.toNat) := by
  have he : (BitVec.ofNat 32 a).toNat = a := by rw [BitVec.toNat_ofNat]; omega
  exact exec_registerWrite_reached v (by omega) (by omega) hp (by simp [inWindow, he]; omega) (by rw [he]; exact hr)

theorem registerWrite_commands (n : Fin 64) (v : BitVec 32) {s : State} (hp : s.fget Adr.pwrStat 2 0 ≠ 6) :
    exec (.registerWrite (BitVec.ofNat 32 (Adr.sqDb n)) v) s = exec (.doorbell n v) s ∧
    exec (.registerWrite (BitVec.ofNat 32 Adr.lvCfg) v) s = exec (.leaveCfgWrite v) s ∧
    exec (.registerWrite (BitVec.ofNat 32 Adr.swRaise) v) s = exec (.swRaise v) s ∧
    exec (.registerWrite (BitVec.ofNat 32 Adr.incrFrac) v) s = exec (.phcIncrWrite v) s := by
  obtain ⟨rd, hd, hdb⟩ := s.reach_sqDb n
  obtain ⟨rl, hl, hlb⟩ := s.reach_lvCfg
  obtain ⟨rs, hs, hsb⟩ := s.reach_swRaise
  obtain ⟨ri, hi, hib⟩ := s.reach_incrFrac
  have hn : Adr.sqDb n < 0x200000 ∧ Adr.sqDb n % 4 = 0 := by have := n.isLt; unfold Adr.sqDb; omega
  refine ⟨?_, ?_, ?_, ?_⟩
  · rw [exec_registerWrite_ofNat v hn.1 hn.2 hp hd, State.writeReg_sqDb _ _ _ _ _ hdb]; rfl
  · rw [exec_registerWrite_ofNat v (by decide) (by decide) hp hl, State.writeReg_lvCfg _ _ _ _ _ hlb]; rfl
  · rw [exec_registerWrite_ofNat v (by decide) (by decide) hp hs, State.writeReg_swRaise _ _ _ _ _ hsb]; rfl
  · rw [exec_registerWrite_ofNat v (by decide) (by decide) hp hi, State.writeReg_incrFrac _ _ _ _ _ hib]; rfl

theorem registerRead_nowNs (who : Fin 3) (s : State) : exec (.registerRead who (BitVec.ofNat 32 Adr.nowNs)) s = exec (.phcNowRead who) s := by
  obtain ⟨r, hr, hb⟩ := s.reach_nowNs
  rw [exec_registerRead_reached (by decide) (by decide) who hr, State.winEnd_outside _ (by decide), State.readReg_now _ _ _ _ _ hb]
  rfl

/-! ## Writes through the window -/

section
variable {s : State} {a b i j : Nat} {r : RegRow} (v : Nat) (hr : s.reach a = some (b, r, i, j))
include hr

theorem State.windowWrite_closed (hc : s.flag Adr.winCtl 0 = false) : s.windowWrite a v = (s.winEnd a).count Adr.winStat 31 16 1 := by
  have hc' : (s.winEnd a).flag Adr.winCtl 0 = false := (State.flag_congr (s.winEnd_regs a) _ _).trans hc
  simp only [State.windowWrite, hr, hc', if_true]

theorem State.windowWrite_open (ho : s.flag Adr.winCtl 0 = true) : s.windowWrite a v =
    if isCmt r.base then s.winEnd a else if winMirrors.contains r.base then (s.winEnd a).winMirror r.base i j v else (s.winEnd a).writeReg b r i j v := by
  have ho' : (s.winEnd a).flag Adr.winCtl 0 = true := (State.flag_congr (s.winEnd_regs a) _ _).trans ho
  simp only [State.windowWrite, hr, ho', Bool.true_eq_false, if_false]

end

theorem State.winMirror_dithCtl (s : State) (i j v : Nat) :
    s.winMirror (Adr.dithCtl 0) i j v = s.setDith i { s.dith i with mode := bits v 1 0 } := rfl

section
variable {addr : BitVec 32} {s : State} {b i j : Nat} {r : RegRow} (v : BitVec 32) (ha : addr.toNat < 67108864) (h4 : addr.toNat % 4 = 0)
  (hw : inWindow addr.toNat = true) (hp : s.fget Adr.pwrStat 2 0 ≠ 6) (hr : s.reach addr.toNat = some (b, r, i, j))
include ha h4 hw hp hr

theorem windowWrite_refused (hc : s.flag Adr.winCtl 0 = false) :
    ∃ t, exec (.windowWrite addr v) s = .next t ∧ t.fget Adr.winStat 31 16 = min (s.fget Adr.winStat 31 16 + 1) 65535 ∧ s.Only t [.regs, .mgmt] := by
  refine ⟨_, by rw [exec_windowWrite_eq v ha h4 hp hw, State.windowWrite_closed _ hr hc], ?_, ?_⟩
  · exact ((s.winEnd _).fget_count_self _ 1 (by decide)).trans (congrArg (fun k => min (k + 1) 65535) (State.fget_congr (s.winEnd_regs _) ..))
  · exact ((State.count_within _ _ _ _ _).via (by decide) ((s.winEnd_within _).mono (l := 34359738370) (by decide))).only _ (by decide)

theorem windowWrite_taken (ho : s.flag Adr.winCtl 0 = true) :
    ∃ t, exec (.windowWrite addr v) s = .next t ∧
      (isCmt r.base = true → t.regs = s.regs ∧ s.Only t [.mgmt]) ∧
      (isCmt r.base = false → t = (if winMirrors.contains r.base then (s.winEnd addr.toNat).winMirror r.base i j v.toNat
        else (s.winEnd addr.toNat).writeReg b r i j v.toNat)) ∧
      (r.base = Adr.dithCtl 0 → t.dith i = { s.dith i with mode := bits v.toNat 1 0 } ∧ s.Only t [.colour, .mgmt]) := by
  refine ⟨_, by rw [exec_windowWrite_eq v ha h4 hp hw, State.windowWrite_open _ hr ho], fun hc => ?_, fun hc => ?_, fun hd => ?_⟩
  · rw [if_pos hc]
    exact ⟨s.winEnd_regs _, (s.winEnd_within _).only _ (by decide)⟩
  · exact if_neg (Bool.eq_false_iff.1 hc)
  · have hs : (s.winEnd addr.toNat).dith i = s.dith i := congrArg (fun c : Scc => Tab.get Dith.reset c.diths i) (s.winEnd_scc _)
    rw [hd, if_neg (by decide), if_pos (by decide), State.winMirror_dithCtl, State.dith_setDith, hs]
    exact ⟨rfl, ((State.setDith_within _ _ _).via (by decide) ((s.winEnd_within _).mono (l := 34360262656) (by decide))).only _ (by decide)⟩

end

end Sys2Proof.Machine
end

section
/-!
SUPPORT. BAR2: the bytes that an access reads and writes, byte by byte (R28, R286, R538).
-/
namespace Sys2Proof.Machine

/-! ## The dike store and the known bytes -/

theorem State.inDikeStore_congr {s t : State} (h : t.srf = s.srf) (x : Nat) : t.inDikeStore x = s.inDikeStore x := by
  simp only [State.inDikeStore, State.dikeStores, h]

/-- The byte that a read of BAR2 must answer: 0 in the dike store, elsewhere what is known; none where any value may stand. -/
def State.bar2Byte (s : State) (x : Nat) : Option Byte := if s.inDikeStore x then some 0 else s.hbmKnown x

theorem State.bar2Byte_dike {s : State} {x : Nat} (h : s.inDikeStore x = true) : s.bar2Byte x = some 0 := if_pos h

theorem State.bar2Byte_known {s : State} {x : Nat} (h : s.inDikeStore x = false) : s.bar2Byte x = s.hbmKnown x := by
  simp [State.bar2Byte, h]

theorem State.bar2Byte_congr {s t : State} (hs : t.srf = s.srf) (hb : t.hbm = s.hbm) (x : Nat) : t.bar2Byte x = s.bar2Byte x := by
  simp only [State.bar2Byte, State.inDikeStore_congr hs, State.hbmKnown, hs, hb]

/-! ## Reads -/

/-- A read of a byte uses a free value at most. -/
theorem State.hbmRead_bar2Byte (s : State) (x y : Nat) : (s.hbmRead x).2.bar2Byte y = s.bar2Byte y :=
  State.bar2Byte_congr ((s.hbmRead_within x).same .surfaces (by decide)) ((s.hbmRead_within x).same .hbm (by decide)) y

theorem State.hbmRead_fst {s : State} {x : Nat} {b : Byte} (h : s.bar2Byte x = some b) : (s.hbmRead x).1 = b := by
  unfold State.bar2Byte at h
  unfold State.hbmRead
  split at h
  · next hd => rw [if_pos hd]; exact Option.some.inj h
  · next hd => rw [if_neg hd, h]

theorem State.hbmReads_length (s : State) (x n : Nat) : (s.hbmReads x n).1.length = n := by
  induction n generalizing s x with
  | zero => rfl
  | succ n ih => exact congrArg (· + 1) (ih _ _)

theorem State.hbmReads_getElem? {s : State} {x n k : Nat} {b : Byte} (hk : k < n) (h : s.bar2Byte (x + k) = some b) :
    (s.hbmReads x n).1[k]? = some b := by
  induction n generalizing s x k with
  | zero => omega
  | succ n ih =>
    cases k with
    | zero => exact congrArg some (State.hbmRead_fst h)
    | succ k =>
      have h' : (s.hbmRead x).2.bar2Byte (x + 1 + k) = some b := by
        rw [State.hbmRead_bar2Byte, show x + 1 + k = x + (k + 1) by omega, h]
      exact ih (by omega) h'

/-! ## Writes -/

theorem State.hbmWrite_inDikeStore (s : State) (x : Nat) (b : Byte) (y : Nat) : (s.hbmWrite x b).inDikeStore y = s.inDikeStore y :=
  State.inDikeStore_congr ((s.hbmWrite_within x b).same .surfaces (by decide)) y

theorem State.hbmWrite_self {s : State} {x : Nat} (b : Byte) (h : s.inDikeStore x = false) :
    Tab.get (fun _ => none) (s.hbmWrite x b).hbm x = some b := by
  simp only [State.hbmWrite, h, Bool.false_eq_true, if_false, Tab.get_set_self]

/-- A write leaves every other byte alone, and the dike store in any case. -/
theorem State.hbmWrite_other {s : State} {x y : Nat} (b : Byte) (h : s.inDikeStore y = true ∨ y ≠ x) :
    Tab.get (fun _ => none) (s.hbmWrite x b).hbm y = Tab.get (fun _ => none) s.hbm y := by
  unfold State.hbmWrite
  split
  · rfl
  · next hd =>
    have hne : y ≠ x := h.elim (fun hy e => hd (e ▸ hy)) id
    exact Tab.get_set_ne (fun _ => none) s.hbm (some b) hne

theorem State.hbmWrites_other {s : State} {x y : Nat} (l : List Byte) (h : s.inDikeStore y = true ∨ y < x ∨ x + l.length ≤ y) :
    Tab.get (fun _ => none) (s.hbmWrites x l).hbm y = Tab.get (fun _ => none) s.hbm y := by
  induction l generalizing s x with
  | nil => rfl
  | cons b l ih =>
    rw [List.length_cons] at h
    have h1 : s.inDikeStore y = true ∨ y ≠ x := h.imp_right (by omega)
    have h2 : (s.hbmWrite x b).inDikeStore y = true ∨ y < x + 1 ∨ x + 1 + l.length ≤ y := by
      rw [State.hbmWrite_inDikeStore]; exact h.imp_right (by omega)
    exact (ih h2).trans (State.hbmWrite_other b h1)

theorem State.hbmWrites_getElem? {s : State} {x k : Nat} {l : List Byte} (hk : k < l.length) (h : s.inDikeStore (x + k) = false) :
    Tab.get (fun _ => none) (s.hbmWrites x l).hbm (x + k) = l[k]? := by
  induction l generalizing s x k with
  | nil => exact absurd hk (Nat.not_lt_zero _)
  | cons b l ih =>
    cases k with
    | zero => exact (State.hbmWrites_other l (.inr (.inl (Nat.lt_succ_self _)))).trans (State.hbmWrite_self b h)
    | succ k =>
      rw [List.getElem?_cons_succ, show x + (k + 1) = x + 1 + k by omega]
      refine ih (Nat.lt_of_succ_lt_succ hk) ?_
      rw [State.hbmWrite_inDikeStore, show x + 1 + k = x + (k + 1) by omega, h]

/-! ## What `exec` does -/

theorem State.granulesMet_hbm (s : State) (ecc : List HbmErr) : (s.granulesMet ecc).hbm = s.hbm :=
  (s.granulesMet_within ecc).same .hbm (by decide)

section
variable {off : BitVec 32} {s : State} (ecc : List HbmErr)

theorem bar2Access_read {len : Nat} (hl : off.toNat + len ≤ 268435456) (hp : s.fget Adr.pwrStat 2 0 ≠ 3) :
    ∃ t bs, exec (.bar2Access off (.inl len) ecc) s = .next t ∧ t.reply = .bytes bs ∧ bs.length = len ∧
      ∀ k < len, (s.inDikeStore (s.bar2Addr off.toNat + k) = true → bs[k]? = some 0) ∧
        ∀ b, s.inDikeStore (s.bar2Addr off.toNat + k) = false → s.hbmKnown (s.bar2Addr off.toNat + k) = some b → bs[k]? = some b := by
  have he : exec (.bar2Access off (.inl len) ecc) s = .next { (s.hbmReads (s.bar2Addr off.toNat) len).2.granulesMet ecc with
      reply := .bytes (s.hbmReads (s.bar2Addr off.toNat) len).1 } := by
    show execBar2Access off (.inl len) ecc s = _
    simp only [execBar2Access, if_neg (Nat.not_lt.2 hl : ¬bar2Size < off.toNat + len), if_neg hp]
  refine ⟨_, _, he, rfl, State.hbmReads_length _ _ _, fun k hk => ⟨fun hd => ?_, fun b hd hb => ?_⟩⟩
  · exact State.hbmReads_getElem? hk (State.bar2Byte_dike hd)
  · exact State.hbmReads_getElem? hk ((State.bar2Byte_known hd).trans hb)

theorem bar2Access_write {l : List Byte} (hl : off.toNat + l.length ≤ 268435456) (hp : s.fget Adr.pwrStat 2 0 ≠ 3) :
    ∃ t, exec (.bar2Access off (.inr l) ecc) s = .next t ∧ s.Only t [.regs, .events, .hbm] ∧
      (∀ k < l.length, s.inDikeStore (s.bar2Addr off.toNat + k) = false → Tab.get (fun _ => none) t.hbm (s.bar2Addr off.toNat + k) = l[k]?) ∧
      ∀ x, s.inDikeStore x = true ∨ x < s.bar2Addr off.toNat ∨ s.bar2Addr off.toNat + l.length ≤ x →
        Tab.get (fun _ => none) t.hbm x = Tab.get (fun _ => none) s.hbm x := by
  have he : exec (.bar2Access off (.inr l) ecc) s = .next ((s.hbmWrites (s.bar2Addr off.toNat) l).granulesMet ecc) := by
    show execBar2Access off (.inr l) ecc s = _
    simp only [execBar2Access, if_neg (Nat.not_lt.2 hl : ¬bar2Size < off.toNat + l.length), if_neg hp]
  refine ⟨_, he, ?_, fun k hk hd => ?_, fun x hx => ?_⟩
  · exact ((State.granulesMet_within _ _).via (by decide) ((s.hbmWrites_within _ _).mono (l := 2199023255618) (by decide))).only _ (by decide)
  · rw [State.granulesMet_hbm, State.hbmWrites_getElem? hk hd]
  · rw [State.granulesMet_hbm, State.hbmWrites_other l hx]

theorem bar2Access_standby {len : Nat} (hl : off.toNat + len ≤ 268435456) (hp : s.fget Adr.pwrStat 2 0 = 3) :
    ∃ t, exec (.bar2Access off (.inl len) ecc) s = .next t ∧ t.reply = .bytes (List.replicate len 0) ∧
      t.fget Adr.glbAccErr 15 0 = min (s.fget Adr.glbAccErr 15 0 + 1) 65535 ∧ s.Only t [.regs, .reply] := by
  have he : exec (.bar2Access off (.inl len) ecc) s = .next { s.bar2Dark with reply := .bytes (List.replicate len 0) } := by
    show execBar2Access off (.inl len) ecc s = _
    simp only [execBar2Access, if_neg (Nat.not_lt.2 hl : ¬bar2Size < off.toNat + len), if_pos hp]
  refine ⟨_, he, rfl, s.fget_accErr_counted 2147483648 (by decide), ?_⟩
  exact (State.with_reply_via (by decide) (s.bar2Dark_within.mono (l := 4398046511106) (by decide))).only _ (by decide)

end

/-! ## The obligation -/

/-- Settles O50: clause by clause, each by the lemma above that says what the access does by what it reaches. -/
theorem hostAccesses : Obligations.HostAccesses := by
  intro who n addr v off len l ecc write s _
  refine ⟨?reads, ?measured, registerRead_nowNs who s, ?writes, registerWrite_commands n v, ?window, ?unmapped, ?badSize,
    bar2Access_read ecc, bar2Access_write ecc, bar2Access_standby ecc⟩
  case reads =>
    exact fun b r i j ha h4 hr hn hm => ⟨fun x => registerRead_latched ha h4 hr hn hm, registerRead_unlatched ha h4 hr hn hm⟩
  case measured => exact fun b r i j => registerRead_measured
  case writes => exact fun b r i j ha h4 hw hp hr => ⟨_, exec_registerWrite_reached v ha h4 hp hw hr, rfl⟩
  case window =>
    exact fun b r i j ha h4 hw hp hr =>
      ⟨exec_registerWrite_inWindow v ha h4 hp hw, windowWrite_refused v ha h4 hw hp hr, windowWrite_taken v ha h4 hw hp hr⟩
  case unmapped => exact fun ha h4 hr => ⟨exec_registerRead_unreached ha h4 who hr, unmappedAccess_result ha h4 hr write⟩
  case badSize =>
    intro ha
    obtain ⟨t, he, hreply, hcount, haddr, honly⟩ := badSizeAccess_result ha write
    exact ⟨t, he, hreply, hcount, haddr, honly, fun h4 => ⟨exec_registerRead_misaligned ha who h4, exec_registerWrite_misaligned v ha h4⟩⟩

end Sys2Proof.Machine
end

section
/-!
SUPPORT. Resets and breaches that heads survive (R35, R499): a command that `touches` lists no head for changes none.
-/
namespace Sys2Proof.Machine

theorem State.head_congr {s t : State} (e : t.hds.heads = s.hds.heads) (h : Nat) : t.head h = s.head h := by simp only [State.head, e]
theorem State.dest_congr {s t : State} (e : t.out.dests = s.out.dests) (d : Nat) : t.dest d = s.dest d := by simp only [State.dest, e]
theorem State.cnv_congr {s t : State} (e : t.out.convs = s.out.convs) (m : Nat) : t.cnv m = s.cnv m := by simp only [State.cnv, e]

/-- The resets and faults of R35 that reach the module's hosts, its firmware and its secrets: an FLR, what resets a pair, a moult and a breach. -/
def headsSurvive (b : Bool) (p : Fin 2) (cause : BitVec 6) (x : StagedImage) : List Instr :=
  [.flr b, .mgmtWatchdog p b, .lockstepMismatch p b, .moultStage, .moultStageDone x, .moultGo, .moultCommit, .moultRollback, .probationExpiry,
    .quietTimeout, .breach cause]

section
variable {b : Bool} {p : Fin 2} {cause : BitVec 6} {x : StagedImage} {c : Instr} (hc : c ∈ headsSurvive b p cause x)
include hc

/-- The parts that carry pictures and flows are not among those that these commands may change. -/
theorem onAir_notMem_touches : ∀ q ∈ [Part.heads, .destinations, .converters, .flows], q ∉ touches c := by
  simp only [headsSurvive, List.mem_cons, List.not_mem_nil, or_false] at hc
  rcases hc with rfl | rfl | rfl | rfl | rfl | rfl | rfl | rfl | rfl | rfl | rfl
  all_goals simp [touches]

/-- A breach returns what the operations that it aborts hold; the others touch neither surfaces nor counters. -/
theorem ledger_notMem_touches (hb : c ≠ .breach cause) : ∀ q ∈ [Part.surfaces, .ledger], q ∉ touches c := by
  simp only [headsSurvive, List.mem_cons, List.not_mem_nil, or_false, hb] at hc
  rcases hc with rfl | rfl | rfl | rfl | rfl | rfl | rfl | rfl | rfl | rfl
  all_goals simp [touches]

end

/-! ## The obligation -/

/-- Settles O19: the parts that the statement names are outside what `touches` lists for these commands. -/
theorem resetsThatHeadsSurvive : Obligations.ResetsThatHeadsSurvive := by
  intro b p cause x c s t hc h
  have same : ∀ q ∈ [Part.heads, .destinations, .converters, .flows], q.same s t := fun q hq => exec_frame h (onAir_notMem_touches hc q hq)
  refine ⟨State.head_congr (same .heads (by decide)), State.dest_congr (same .destinations (by decide)), State.cnv_congr (same .converters (by decide)),
    congrArg Prod.fst (same .flows (by decide)), fun hb => ?_⟩
  have same' : ∀ q ∈ [Part.surfaces, .ledger], q.same s t := fun q hq => exec_frame h (ledger_notMem_touches hc hb q hq)
  exact ⟨same' .surfaces (by decide), State.led_congr (same' .ledger (by decide))⟩

end Sys2Proof.Machine
end

section
/-!
SUPPORT. Events and fields that a breach, the scrubs and the credit audit leave: an occurrence of a source is counted whether or not its
event is delivered (R75, R511); a field of a register is left alone by a change of a field above it.
-/
namespace Sys2Proof.Machine

/-! ## Occurrences -/

theorem State.evSrc_congr {s t : State} (h : t.hif.evSrcs = s.hif.evSrcs) (n : Nat) : t.evSrc n = s.evSrc n := by simp only [State.evSrc, h]

theorem State.evSrc_setStaged (s : State) (k : Nat) (v : List EvRec) (n : Nat) : (s.setStaged k v).evSrc n = s.evSrc n := rfl

/-- An occurrence counts, be it suppressed, overflowed or staged. -/
theorem State.occurBytes_occurred (s : State) (src code : Nat) (d : List Byte) : s.Occurred (s.occurBytes src code d) src := by
  unfold State.occurBytes State.Occurred
  extract_lets e occ e' a k r full record
  split
  · rw [State.evSrc_setEvSrc]
  split
  · rw [State.evSrc_setEvSrc]; rfl
  · rw [State.evSrc_setStaged, State.evSrc_setEvSrc]

theorem State.occur_occurred (s : State) (src code : Nat) (d : List (Nat × Nat × Nat)) : s.Occurred (s.occur src code d) src :=
  s.occurBytes_occurred src code (detail d)

/-- What changes no event before an occurrence leaves its count to it. -/
theorem State.Occurred.of_within {m : Nat} {s u t : State} {src : Nat} (o : u.Occurred t src) (h : Within m s u) (hm : m.testBit 6 = false) :
    s.Occurred t src := by
  have he := h.same .events hm
  simp only [Part.same, Prod.mk.injEq] at he
  unfold State.Occurred at o ⊢
  rw [o, State.evSrc_congr he.2.2]

/-! ## Fields -/

/-- A field lies in the bits up to its highest. -/
theorem bits_mod_two_pow {n hi lo : Nat} (h : hi < n) (v : Nat) : bits (v % 2 ^ n) hi lo = bits v hi lo := by
  unfold bits
  by_cases hl : lo ≤ hi
  · rw [show 2 ^ n = 2 ^ lo * 2 ^ (n - lo) by rw [← Nat.pow_add]; congr 1; omega, Nat.mod_mul_right_div_self,
      Nat.mod_mod_of_dvd _ (Nat.pow_dvd_pow 2 (by omega))]
  · rw [show hi + 1 - lo = 0 by omega, Nat.pow_zero, Nat.mod_one, Nat.mod_one]

/-- A field that is replaced leaves the bits below it. -/
theorem putBits_mod (v hi lo x : Nat) : putBits v hi lo x % 2 ^ lo = v % 2 ^ lo := by
  have hle : bits v hi lo * 2 ^ lo ≤ v := (Nat.mul_le_mul_right _ (Nat.mod_le _ _)).trans (Nat.div_mul_le_self _ _)
  calc putBits v hi lo x % 2 ^ lo = (v - bits v hi lo * 2 ^ lo) % 2 ^ lo := Nat.add_mul_mod_self_right ..
    _ = v % 2 ^ lo := by rw [← Nat.add_mul_mod_self_right _ (bits v hi lo), Nat.sub_add_cancel hle]

theorem State.fget_fset_below (s : State) (a hi lo x : Nat) {hi' lo' : Nat} (h : hi' < lo) (hw : lo ≤ 32) :
    (s.fset a hi lo x).fget a hi' lo' = s.fget a hi' lo' := by
  simp only [State.fget, State.fset, State.rd, State.wr, Tab.get_set_self, BitVec.toNat_ofNat, bits_mod_word (h.trans_le hw)]
  rw [← bits_mod_two_pow h, putBits_mod, bits_mod_two_pow h]

theorem State.flag_setBit_self (s : State) (a : Nat) {k : Nat} (h : k < 32) : (s.setBit a k).flag a k = true := by
  unfold State.flag State.setBit
  rw [State.fget_fset_self _ _ _ h, Nat.add_sub_cancel_left]
  rfl

/-- A cause sets its bit, whether or not its event is let through. -/
theorem State.flag_raise_self (s : State) (cause mask : Nat) {bit : Nat} (h : bit < 32) (src code : Nat) (d : List (Nat × Nat × Nat)) :
    (s.raise cause mask bit src code d).flag cause bit = true := by
  unfold State.raise
  extract_lets t
  split
  · rw [State.flag_congr (State.occur_regs _ _ _ _), State.flag_setBit_self _ _ h]
  · exact s.flag_setBit_self _ h

/-- A number that is written as its low word and the rest reads as itself. -/
theorem State.rd_pair (s : State) {a b : Nat} (hab : a ≠ b) {v : Nat} (hv : v < 2 ^ 64) :
    ((s.wr a (v % 4294967296)).wr b (v / 4294967296)).rd a + 4294967296 * ((s.wr a (v % 4294967296)).wr b (v / 4294967296)).rd b = v := by
  rw [State.rd_wr_ne _ _ hab, State.rd_wr_self _ _ (by omega), State.rd_wr_self _ _ (by omega)]
  exact Nat.mod_add_div v 4294967296

end Sys2Proof.Machine
end

section
/-!
SUPPORT. What a breach leaves (R435 to R440, R307, R78), its acknowledgement, the always-on mapping (R442) and the coin cell.
-/
namespace Sys2Proof.Machine

/-- A fold that brings about `P x` at each `x` of its list and keeps it at the others leaves it of every element. -/
theorem foldl_forall {α σ : Type} [DecidableEq α] {P : α → σ → Prop} {f : σ → α → σ} (hset : ∀ s x, P x (f s x))
    (hkeep : ∀ s x y, y ≠ x → P y s → P y (f s x)) (l : List α) (s : σ) : ∀ y ∈ l, P y (l.foldl f s) := by
  induction l using List.reverseRecOn with
  | nil => simp
  | append_singleton l x ih =>
    intro y hy
    rw [List.foldl_append, List.foldl_cons, List.foldl_nil]
    by_cases hyx : y = x
    · exact hyx ▸ hset _ _
    · exact hkeep _ _ _ hyx (ih y (by simpa [hyx] using hy))

/-! ## The cocoon's work is aborted -/

theorem State.opDone_coc (s : State) (o : KeyOp) (status : Nat) (result : BitVec 64) : (s.opDone o status result).coc = (s.dropOp o).coc :=
  (State.completeAt_within _ _ _ _ _).same .cocoon (by decide)

/-- The end of an update takes the operation off the cocoon's list and leaves the rest of the cocoon. -/
theorem State.dikeFail_coc (s : State) (o : KeyOp) (code : Nat) : ∃ ops, (s.dikeFail o code).coc = { s.coc with ops := ops } := by
  have hd : ∀ h, (s.dikeDrop h).coc = s.coc := fun h => (s.dikeDrop_within h).same .cocoon (by decide)
  unfold State.dikeFail
  extract_lets u
  have hu : u.coc = s.coc := by
    show State.coc (match o.store with | some h => s.dikeDrop h | none => s) = s.coc
    split
    · exact hd _
    · rfl
  exact ⟨_, (State.opDone_coc _ _ _ _).trans (by rw [State.dropOp, State.updCoc_coc, hu])⟩

theorem State.abortOps_coc (s : State) : ∃ ops, s.abortOps.coc = { s.coc with ops := ops } := by
  unfold State.abortOps
  refine Within.fold (Q := fun t : State => ∃ ops, t.coc = { s.coc with ops := ops }) ⟨s.coc.ops, rfl⟩ ?_
  rintro t o ⟨ops, ht⟩
  extract_lets u
  have hu : u.coc = t.coc := by
    show State.coc (if o.opcode = 0x81 then t.leaveRet 0 o.grant else t) = t.coc
    split
    · exact (t.leaveRet_within 0 o.grant).same .cocoon (by decide)
    · rfl
  obtain ⟨ops', h'⟩ := u.dikeFail_coc o csBreach
  exact ⟨ops', by rw [h', hu, ht]⟩

/-! ## Seals stop, rings lose privilege, dikes freeze -/

/-- No seal is signed, nor due to be. -/
def Psn.sealsStopped (p : Psn) : Prop := p.stopped = true ∧ p.signing = none ∧ p.queue = []

theorem State.sealsStopped_within {m : Nat} {s t : State} (h : Within m s t) (hm : m.testBit 33 = false) (k : s.psn.sealsStopped) :
    t.psn.sealsStopped := by
  have e := h.same .seals hm
  simp only [Part.same, Prod.mk.injEq] at e
  obtain ⟨-, hq, hs, -, ht⟩ := e
  unfold Psn.sealsStopped
  rwa [ht, hs, hq]

theorem State.stopSeals_sealsStopped (s : State) : s.stopSeals.psn.sealsStopped := by
  have complete : ∀ (nows : List (Nat × Nat)) (t : State), t.psn.sealsStopped →
      (nows.foldl (fun t n => t.completeAt n.1 n.2 csBreach 0) t).psn.sealsStopped := fun nows t ht =>
    Within.fold (Q := fun t : State => t.psn.sealsStopped) ht fun u n hu =>
      State.sealsStopped_within (u.completeAt_within n.1 n.2 csBreach 0) (by decide) hu
  unfold State.stopSeals
  extract_lets was nows u v
  refine complete _ v (Within.fold (Q := fun t : State => t.psn.sealsStopped) ⟨rfl, rfl, rfl⟩ fun t h ht => ?_)
  extract_lets c t1 t2
  have h1 : t1.psn.sealsStopped := by
    show State.psn (if c.due.isNone && c.nows.isEmpty then t else t.setChain h { c with due := none, nows := [] }) |>.sealsStopped
    split
    · exact ht
    · exact ht
  have h2 : t2.psn.sealsStopped := complete _ _ h1
  split
  · exact State.sealsStopped_within (t2.occur_within _ _ _) (by decide) h2
  · exact h2

theorem State.dropPriv_priv (s : State) : ∀ n ∈ rings, (s.dropPriv.sq n).priv = false := by
  refine foldl_forall (P := fun n (t : State) => (t.sq n).priv = false) (fun t n => ?_) (fun t n m hm ht => ?_) rings s
  · split
    · rw [State.sq_setSq]
    · next h => exact Bool.eq_false_iff.2 h
  · split
    · rwa [State.sq_setSq_ne _ _ hm]
    · exact ht

theorem State.freezeDikes_slot (s : State) : ∀ h ∈ List.range 256, (s.freezeDikes.dike h).slot = none := by
  refine foldl_forall (P := fun h (t : State) => (t.dike h).slot = none) (fun t h => ?_) (fun t h k hk ht => ?_) (List.range 256) s
  · rw [State.dike_setDike]; rfl
  · rwa [State.dike_setDike_ne _ _ hk]

/-! ## The breach -/

theorem State.dike_congr {s t : State} (e : t.psn.dikes = s.psn.dikes) (h : Nat) : t.dike h = s.dike h := by simp only [State.dike, e]

/-- A breach before the store's pages are erased and the breach is reported. -/
def State.purged (s : State) (cause : Nat) : State :=
  (((s.updCoc Coc.zeroed).latchBreach cause s.aon).abortOps.stopSeals.dropPriv).freezeDikes

theorem State.latchBreach_coc (s : State) (cause aon : Nat) : (s.latchBreach cause aon).coc =
    { s.coc with breaches := min (s.coc.breaches + 1) 65535, pending := true, tamperOut := true } := rfl

theorem State.purged_coc (s : State) (cause : Nat) : ∃ ops, (s.purged cause).coc =
    { s.coc.zeroed with breaches := min (s.coc.breaches + 1) 65535, pending := true, tamperOut := true, ops := ops } := by
  obtain ⟨ops, h⟩ := ((s.updCoc Coc.zeroed).latchBreach cause s.aon).abortOps_coc
  refine ⟨ops, ?_⟩
  calc (s.purged cause).coc
      = ((s.updCoc Coc.zeroed).latchBreach cause s.aon).abortOps.stopSeals.dropPriv.coc := (State.freezeDikes_within _).same .cocoon (by decide)
    _ = ((s.updCoc Coc.zeroed).latchBreach cause s.aon).abortOps.stopSeals.coc := (State.dropPriv_within _).same .cocoon (by decide)
    _ = ((s.updCoc Coc.zeroed).latchBreach cause s.aon).abortOps.coc := (State.stopSeals_within _).same .cocoon (by decide)
    _ = _ := h

theorem State.purged_sealsStopped (s : State) (cause : Nat) : (s.purged cause).psn.sealsStopped :=
  State.sealsStopped_within (State.freezeDikes_within _) (by decide)
    (State.sealsStopped_within (State.dropPriv_within _) (by decide) (State.stopSeals_sealsStopped _))

theorem State.purged_priv (s : State) (cause : Nat) (n : Fin 64) : ((s.purged cause).sq n).priv = false := by
  rw [State.purged, State.sq_congr ((State.freezeDikes_within _).same .subRings (by decide))]
  exact State.dropPriv_priv _ n (List.mem_range.2 n.isLt)

theorem State.purged_slot (s : State) (cause : Nat) (h : Fin 256) : ((s.purged cause).dike h).slot = none := by
  rw [State.purged]
  exact State.freezeDikes_slot _ h (List.mem_range.2 h.isLt)

/-- A breach erases and reports after the rest; of the cocoon only the report that is still due changes then. -/
theorem State.breach_after_purged (s : State) (cause : Nat) :
    Within (maskOf [.regs, .events, .cocoon, .nv]) (s.purged cause) (s.breach cause) ∧ ∃ r, (s.breach cause).coc = { (s.purged cause).coc with report := r } := by
  unfold State.breach
  extract_lets s1 s2 s3 s4
  have w3 : Within (maskOf [.nv]) (s.purged cause) s3 := by
    show Within _ s2 (if s2.nv.phase = .ready then s2.eraseSecrets else s2)
    exact .ite s2.eraseSecrets_within (.refl _ _)
  clear_value s3
  have w4 : Within (maskOf [.cocoon, .nv]) (s.purged cause) s4 := State.updCoc_via (by decide) (w3.mono (by decide))
  have c3 : s3.coc = (s.purged cause).coc := w3.same .cocoon (by decide)
  split
  · exact ⟨(State.cocRaise_within _ _ _ _).via (by decide) (State.updCoc_via (by decide) (w4.mono (by decide))), false,
      ((State.cocRaise_within _ _ _ _).same .cocoon (by decide)).trans (congrArg (fun c : Coc => { c with report := false }) c3)⟩
  · exact ⟨w4.mono (by decide), true, congrArg (fun c : Coc => { c with report := true }) c3⟩

theorem exec_breach_armed {cause : BitVec 6} {s : State} (h : s.armed cause ≠ 0) : exec (.breach cause) s =
    .next ((s.updCoc fun x => { x with live := (BitVec.ofNat 6 x.live ||| s.armed cause).toNat }).breach (s.armed cause).toNat) := by
  show execBreach cause s = _
  simp only [execBreach, if_neg h]

theorem exec_breach_unarmed {cause : BitVec 6} {s : State} (h : s.armed cause = 0) : exec (.breach cause) s = .next s := by
  show execBreach cause s = _
  simp only [execBreach, if_pos h]

theorem breach_result {cause : BitVec 6} {s : State} (h : s.armed cause ≠ 0) : ∃ t, exec (.breach cause) s = .next t ∧
    t.coc.root = none ∧ t.coc.original = false ∧ t.coc.slots = [] ∧ t.coc.pending = true ∧
    t.coc.tamperOut = true ∧ t.coc.breaches = min (s.coc.breaches + 1) 65535 ∧ t.coc.live = (BitVec.ofNat 6 s.coc.live ||| s.armed cause).toNat ∧
    t.psn.stopped = true ∧ t.psn.signing = none ∧ t.psn.queue = [] ∧ (∀ m : Fin 64, (t.sq m).priv = false) ∧ (∀ h : Fin 256, (t.dike h).slot = none) := by
  refine ⟨_, exec_breach_armed h, ?_⟩
  generalize hu : s.updCoc (fun x => { x with live := (BitVec.ofNat 6 x.live ||| s.armed cause).toNat }) = u
  obtain ⟨w, r, hr⟩ := u.breach_after_purged (s.armed cause).toNat
  obtain ⟨ops, hc⟩ := u.purged_coc (s.armed cause).toNat
  obtain ⟨hstop, hsign, hqueue⟩ := State.sealsStopped_within w (by decide) (u.purged_sealsStopped _)
  have hd := w.same .dikes (by decide)
  simp only [Part.same, Prod.mk.injEq] at hd
  rw [hr, hc, ← hu]
  refine ⟨rfl, rfl, rfl, rfl, rfl, rfl, rfl, ?_⟩
  rw [hu]
  refine ⟨hstop, hsign, hqueue, fun m => ?_, fun k => ?_⟩
  · rw [State.sq_congr (w.same .subRings (by decide))]
    exact u.purged_priv _ m
  · rw [State.dike_congr hd.1]
    exact u.purged_slot _ k

/-! ## The acknowledgement, the mapping and the coin cell -/

theorem State.breachAck_coc (s : State) : s.breachAck.coc =
    { s.coc with pending := decide (s.coc.live ≠ 0) && s.coc.pending, tamperOut := decide (s.coc.live ≠ 0) && s.coc.tamperOut } := by
  unfold State.breachAck
  split
  · next h => simp only [State.updCoc_coc, h, ne_eq, not_true_eq_false, decide_false, Bool.false_and]
  · next h => simp only [ne_eq, h, not_false_eq_true, decide_true, Bool.true_and]

theorem breachAck_result (live : BitVec 6) (s : State) : ∃ t, exec (.breachAck live) s = .next t ∧ s.Only t [.cocoon] ∧ t.coc = { s.coc with
    live := live.toNat, pending := decide (live ≠ 0) && s.coc.pending, tamperOut := decide (live ≠ 0) && s.coc.tamperOut } := by
  have he : exec (.breachAck live) s = .next (s.updCoc fun c => { c with live := live.toNat }).breachAck := rfl
  have hz : live.toNat ≠ 0 ↔ live ≠ 0 := not_congr (BitVec.toNat_inj (y := 0#6))
  refine ⟨_, he, fun _ hp => exec_frame he hp, ?_⟩
  simp only [State.breachAck_coc, State.updCoc_coc, hz]

theorem aonMapping_result {s : State} (hp : s.fget Adr.pwrStat 2 0 = 1) (hm : s.coc.mapSec ≠ some s.phcSec) :
    ∃ t, exec .aonMapping s = .next t ∧ s.Only t [.regs, .cocoon] ∧
    t.rd Adr.mapAonLo + 4294967296 * t.rd Adr.mapAonHi = s.aon ∧ t.rd Adr.mapSecLo + 4294967296 * t.rd Adr.mapSecHi = s.phcSec ∧
    t.coc = { s.coc with mapSec := some s.phcSec } := by
  have he : exec .aonMapping s = .next (((((s.wr Adr.mapAonLo (s.aon % 4294967296)).wr Adr.mapAonHi (s.aon / 4294967296)).wr Adr.mapSecLo
      (s.phcSec % 4294967296)).wr Adr.mapSecHi (s.phcSec / 4294967296)).updCoc fun c => { c with mapSec := some s.phcSec }) := by
    show execAonMapping s = _
    rw [execAonMapping, if_pos ⟨hp, hm⟩]
    rfl
  have haon : s.aon < 2 ^ 64 := (Nat.mod_lt _ (by decide)).trans (by decide)
  have hsec : s.phcSec < 2 ^ 64 := (Nat.mod_lt _ (by decide)).trans (by decide)
  refine ⟨_, he, fun _ hp => exec_frame he hp, ?_, State.rd_pair _ (by decide) hsec, rfl⟩
  have aon : ∀ a, a ≠ Adr.mapSecHi → a ≠ Adr.mapSecLo → ∀ (t : State) (v w : Nat), ((t.wr Adr.mapSecLo v).wr Adr.mapSecHi w).rd a = t.rd a :=
    fun a hhi hlo t v w => ((t.wr Adr.mapSecLo v).rd_wr_ne w hhi).trans (t.rd_wr_ne v hlo)
  simp only [State.rd_congr (State.updCoc_regs _ _)]
  rw [aon _ (by decide) (by decide), aon _ (by decide) (by decide)]
  exact s.rd_pair (by decide) haon

end Sys2Proof.Machine
end

section
/-!
SUPPORT. The coin cell (R444), the scrubs (R515 to R517) and the credit audit (R33, R518).
-/
namespace Sys2Proof.Machine

/-! ## The coin cell -/

/-- The word of COC.BATT: the voltage, whether it is low, and whether a cell is present. -/
def battWord (mv : Nat) (present : Bool) : Nat := mv + 4096 * b2n (decide (mv < 2600)) + 8192 * b2n present

theorem b2n_le_one (b : Bool) : b2n b ≤ 1 := by cases b <;> decide
theorem b2n_eq_one (b : Bool) : b2n b = 1 ↔ b = true := by cases b <;> decide

theorem battWord_lt {mv : Nat} (h : mv < 4096) (present : Bool) : battWord mv present < 2 ^ 32 := by
  have hl := b2n_le_one (decide (mv < 2600))
  have hp := b2n_le_one present
  unfold battWord
  omega

theorem bits_battWord {mv : Nat} (h : mv < 4096) (present : Bool) : bits (battWord mv present) 11 0 = mv ∧
    bits (battWord mv present) 12 12 = b2n (decide (mv < 2600)) ∧ bits (battWord mv present) 13 13 = b2n present := by
  have hl := b2n_le_one (decide (mv < 2600))
  have hp := b2n_le_one present
  simp only [battWord, bits]
  omega

/-- A measurement writes its word; the cause of a low cell lies elsewhere. -/
theorem State.fget_batt (s : State) {mv : Nat} (h : mv < 4096) (present : Bool) (hi lo : Nat) :
    (s.batt mv present).fget Adr.batt hi lo = bits (battWord mv present) hi lo := by
  have hw : (s.wr Adr.batt (battWord mv present)).fget Adr.batt hi lo = bits (battWord mv present) hi lo :=
    congrArg (bits · hi lo) (s.rd_wr_self _ (battWord_lt h present))
  unfold State.batt
  extract_lets low u
  split
  · exact (State.fget_raise_ne _ (by decide) _ _ _ _ _ _ _).trans hw
  · exact hw

theorem State.batt_low (s : State) {mv : Nat} (h : mv < 2600) (present : Bool) : (s.batt mv present).flag Adr.cocCause 1 = true := by
  simp only [State.batt, h, decide_true, if_true]
  exact State.flag_raise_self _ _ _ (by decide) _ _ _

theorem State.batt_coc (s : State) (mv : Nat) (present : Bool) : (s.batt mv present).coc = { s.coc with battAt := some s.now } := by
  unfold State.batt
  extract_lets low u
  split
  · exact (State.cocRaise_within _ _ _ _).same .cocoon (by decide)
  · rfl

theorem exec_battMeasure_due {s : State} (h : ∀ b, s.coc.battAt = some b → b + msTicks 3600000 ≤ s.now) (mv : BitVec 12) (present : Bool) :
    exec (.battMeasure mv present) s = .next (s.batt mv.toNat present) := by
  show execBattMeasure mv present s = _
  unfold execBattMeasure
  split
  · next t ht => rw [if_pos (h t ht)]
  · rfl

theorem battMeasure_result {s : State} (h : ∀ b, s.coc.battAt = some b → b + msTicks 3600000 ≤ s.now) (mv : BitVec 12) (present : Bool) :
    ∃ t, exec (.battMeasure mv present) s = .next t ∧
      t.fget Adr.batt 11 0 = mv.toNat ∧ (t.flag Adr.batt 12 = true ↔ mv.toNat < 2600) ∧ (t.flag Adr.batt 13 = true ↔ present = true) ∧
      t.coc = { s.coc with battAt := some s.now } ∧ (mv.toNat < 2600 → t.flag Adr.cocCause 1 = true) ∧ s.Only t [.regs, .events, .cocoon] := by
  have he := exec_battMeasure_due h mv present
  obtain ⟨hv, hlow, hpresent⟩ := bits_battWord mv.isLt present
  refine ⟨_, he, (s.fget_batt mv.isLt present 11 0).trans hv, ?_, ?_, s.batt_coc _ _, fun hl => s.batt_low hl present, fun _ hp => exec_frame he hp⟩
  · rw [State.flag, s.fget_batt mv.isLt, hlow, decide_eq_true_iff, b2n_eq_one, decide_eq_true_iff]
  · rw [State.flag, s.fget_batt mv.isLt, hpresent, decide_eq_true_iff, b2n_eq_one]

/-! ## The patrol scrub -/

theorem exec_patrolScrub_due {s : State} (h : s.scrub.hbmAt + msTicks (3600000 * s.fget Adr.scrub 4 0) ≤ s.now) (hs : List HbmErr) :
    exec (.patrolScrub hs) s = .next { hs.foldl (fun s e => s.hbmFound e) s with
      scrub := { (hs.foldl (fun s e => s.hbmFound e) s).scrub with hbmAt := (hs.foldl (fun s e => s.hbmFound e) s).now } } := by
  show execPatrolScrub hs s = _
  simp only [execPatrolScrub, if_pos h]

/-- A pass over HBM changes neither the time nor what the scrubs hold of their own. -/
theorem hbmFounds_within (hs : List HbmErr) (s : State) : Within (maskOf [.regs, .events]) s (hs.foldl (fun s e => s.hbmFound e) s) :=
  Within.fold (.refl _ _) fun t e h => (t.hbmFound_within e).via (by decide) h

theorem Within.now {m : Nat} {s t : State} (h : Within m s t) (hm : m.testBit 26 = false) : t.now = s.now :=
  congrArg Prod.fst (h.same .phc hm)

theorem State.hbmFound_occurred (s : State) (e : HbmErr) : s.Occurred (s.hbmFound e) 309 := by
  unfold State.hbmFound
  extract_lets det u
  split
  · exact (State.occur_occurred _ _ _ _).of_within (s.count_within _ _ _ _) (by decide)
  · refine (State.occur_occurred _ _ _ _).of_within (m := maskOf [.regs]) ((State.fset_within _ _ _ _ _).via (by decide) ?_) (by decide)
    exact (State.wr_within _ _ _).via (by decide) (s.count_within _ _ _ _)

theorem State.hbmFound_corrected (s : State) {e : HbmErr} (h : e.corrected = true) :
    (s.hbmFound e).fget Adr.hbmEcc 15 0 = min (s.fget Adr.hbmEcc 15 0 + 1) 65535 := by
  simp only [State.hbmFound, h, if_true]
  rw [State.fget_congr (State.occur_regs _ _ _ _)]
  exact s.fget_count_self _ _ (by decide)

/-- A granule that is not corrected is counted, and its address stands in HBM_UE. -/
theorem State.hbmFound_uncorrected (s : State) {e : HbmErr} (h : e.corrected = false) :
    (s.hbmFound e).fget Adr.hbmEcc 31 16 = min (s.fget Adr.hbmEcc 31 16 + 1) 65535 ∧
      (s.hbmFound e).rd Adr.hbmUeLo + 4294967296 * (s.hbmFound e).fget Adr.hbmUeHi 3 0 = e.addr.toNat := by
  have ha := e.addr.isLt
  simp only [State.hbmFound, h, Bool.false_eq_true, if_false]
  rw [State.fget_congr (State.occur_regs _ _ _ _), State.fget_congr (State.occur_regs _ _ _ _), State.rd_congr (State.occur_regs _ _ _ _)]
  constructor
  · rw [State.fget_fset_ne _ _ _ _ _ _ (by decide), State.fget_wr_ne _ _ _ _ (by decide)]
    exact s.fget_count_self _ _ (by decide)
  · rw [State.fget_fset_self _ _ _ (by decide), State.fset, State.rd_wr_ne _ _ (by decide), State.rd_wr_self _ _ (by omega)]
    omega

theorem patrolScrub_result {s : State} (h : s.scrub.hbmAt + msTicks (3600000 * s.fget Adr.scrub 4 0) ≤ s.now) (hs : List HbmErr) :
    ∃ t, exec (.patrolScrub hs) s = .next t ∧ t.scrub = { s.scrub with hbmAt := s.now } ∧
      s.Only t [.regs, .events, .scrub] ∧ ∀ e, hs = [e] → s.Occurred t 309 ∧
        (e.corrected = true → t.fget Adr.hbmEcc 15 0 = min (s.fget Adr.hbmEcc 15 0 + 1) 65535) ∧
        (e.corrected = false → t.fget Adr.hbmEcc 31 16 = min (s.fget Adr.hbmEcc 31 16 + 1) 65535 ∧
          t.rd Adr.hbmUeLo + 4294967296 * t.fget Adr.hbmUeHi 3 0 = e.addr.toNat) := by
  have he := exec_patrolScrub_due h hs
  have w := hbmFounds_within hs s
  refine ⟨_, he, ?_, fun _ hp => exec_frame he hp, ?_⟩
  · rw [← w.now (by decide), ← show _ = s.scrub from w.same .scrub (by decide)]
  · rintro e rfl
    exact ⟨s.hbmFound_occurred e, s.hbmFound_corrected, s.hbmFound_uncorrected⟩

/-! ## The scrub of the SRAM -/

theorem exec_sramScrub_due {s : State} (h : s.scrub.sramAt + msTicks (1000 * s.fget Adr.scrub 13 8) ≤ s.now) (ws : List SramErr) :
    exec (.sramScrub ws) s = .next { ws.foldl (fun s e => s.sramFound e) s with
      scrub := { (ws.foldl (fun s e => s.sramFound e) s).scrub with sramAt := (ws.foldl (fun s e => s.sramFound e) s).now } } := by
  show execSramScrub ws s = _
  simp only [execSramScrub, if_pos h]

/-- What a word of the scrub leaves that needs no more than its count and its event: half `[hi:lo]` of SRAM_ECC counts it. -/
def State.Counted (s t : State) (hi lo : Nat) : Prop :=
  s.Occurred t 310 ∧ Within (maskOf [.regs, .events]) s t ∧ t.fget Adr.sramEcc hi lo = min (s.fget Adr.sramEcc hi lo + 1) (2 ^ (hi + 1 - lo) - 1)

theorem State.counted_occur (s : State) {hi lo : Nat} (h : hi < 32) (code : Nat) (d : List (Nat × Nat × Nat)) :
    s.Counted ((s.count Adr.sramEcc hi lo 1).occur 310 code d) hi lo :=
  ⟨(State.occur_occurred _ _ _ _).of_within (s.count_within _ _ _ _) (by decide),
    (State.occur_within _ _ _ _).via (by decide) ((s.count_within _ _ _ _).mono (by decide)),
    (State.fget_congr (State.occur_regs _ _ _ _) _ _ _).trans (s.fget_count_self _ _ h)⟩

theorem State.sramFound_corrected (s : State) {w : SramErr} (h : w.corrected = true) : s.Counted (s.sramFound w) 15 0 := by
  simp only [State.sramFound, h, if_true]
  exact s.counted_occur (by decide) _ _

/-- A pixel and a push need no containment. -/
theorem State.sramFound_shown (s : State) {w : SramErr} (h : w.corrected = false) (hu : w.use = .pixels ∨ w.use = .push) :
    s.Counted (s.sramFound w) 31 16 := by
  have hc : ∀ t : State, t.sramContain w.use = t := fun t => by rcases hu with hu | hu <;> rw [hu] <;> rfl
  simp only [State.sramFound, h, Bool.false_eq_true, if_false, hc]
  exact s.counted_occur (by decide) _ _

/-- The time of the pass is noted last. -/
theorem State.Counted.scrubbed {s t : State} {hi lo : Nat} (c : s.Counted t hi lo) (v : Scrub) :
    s.Occurred { t with scrub := v } 310 ∧ s.Only { t with scrub := v } [.regs, .events, .scrub] ∧
      State.fget { t with scrub := v } Adr.sramEcc hi lo = min (s.fget Adr.sramEcc hi lo + 1) (2 ^ (hi + 1 - lo) - 1) := by
  obtain ⟨ho, hw, hn⟩ := c
  exact ⟨ho, (State.with_scrub_via (l := maskOf [.regs, .events, .scrub]) (by decide) (hw.mono (by decide))).only _ (by decide), hn⟩

theorem sramScrub_result {s : State} (h : s.scrub.sramAt + msTicks (1000 * s.fget Adr.scrub 13 8) ≤ s.now) (ws : List SramErr) :
    ∃ t, exec (.sramScrub ws) s = .next t ∧ t.scrub.sramAt = t.now ∧
      (ws = [] → s.Only t [.scrub]) ∧ ∀ w, ws = [w] → (w.corrected = true → s.Occurred t 310 ∧ s.Only t [.regs, .events, .scrub] ∧
        t.fget Adr.sramEcc 15 0 = min (s.fget Adr.sramEcc 15 0 + 1) 65535) ∧
        (w.corrected = false → (w.use = .pixels ∨ w.use = .push) → s.Occurred t 310 ∧ s.Only t [.regs, .events, .scrub] ∧
          t.fget Adr.sramEcc 31 16 = min (s.fget Adr.sramEcc 31 16 + 1) 65535) := by
  refine ⟨_, exec_sramScrub_due h ws, rfl, ?_, ?_⟩
  · rintro rfl
    exact (State.with_scrub_via (l := maskOf [.scrub]) (by decide) (.refl _ s)).only _ (by decide)
  · rintro w rfl
    exact ⟨fun hc => (s.sramFound_corrected hc).scrubbed _, fun hc hu => (s.sramFound_shown hc hu).scrubbed _⟩

/-! ## Queues and their credits -/

theorem Dcq.reset_sumOk (depth : Nat) : Dcq.reset.sumOk depth = true := by simp [Dcq.sumOk, Dcq.credits, Dcq.reset]

theorem State.queue_setQueue (s : State) (q : QueueId) (v : Dcq) : (s.setQueue q v).queue q = v := by
  have hnone : (s.scrub.queues.filter fun e => !decide (e.1 = q)).find? (fun e => decide (e.1 = q)) = none := by
    simp [List.find?_eq_none]
  unfold State.queue State.setQueue
  by_cases hv : v = Dcq.reset
  · simp [hv, hnone]
  · simp [hv, hnone, List.find?_append]

/-- After a write a check finds what it found of the other queues, and this one where its counts are wrong. -/
theorem State.mismatched_setQueue (s : State) (q : QueueId) (v : Dcq) : (s.setQueue q v).mismatched =
    (s.mismatched.filter fun e => !decide (e = q)) ++ if !v.sumOk q.depth || v.short then [q] else [] := by
  have hf : (s.mismatched.filter fun e => !decide (e = q)) =
      ((s.scrub.queues.filter fun e => !decide (e.1 = q)).filter fun e => !e.2.sumOk e.1.depth || e.2.short).map (·.1) := by
    unfold State.mismatched
    rw [List.filter_map, List.filter_filter, List.filter_filter]
    congr 1
    exact List.filter_congr fun e _ => Bool.and_comm ..
  rw [hf]
  unfold State.mismatched State.setQueue
  by_cases hv : v = Dcq.reset
  · subst hv
    simp only [if_true, Dcq.reset_sumOk]
    exact (List.append_nil _).symm
  · simp only [hv, if_false, List.filter_append, List.map_append]
    congr 1
    simp only [List.filter_cons, List.filter_nil]
    split <;> rfl

theorem State.mismatched_congr {s t : State} (h : t.scrub = s.scrub) : t.mismatched = s.mismatched := by simp only [State.mismatched, h]
theorem State.queue_congr {s t : State} (h : t.scrub = s.scrub) (q : QueueId) : t.queue q = s.queue q := by simp only [State.queue, h]

/-! ## The credit audit -/

theorem exec_creditAudit_clean {s : State} (h : s.mismatched = []) : exec (.creditAudit []) s = .next s := by
  show execCreditAudit [] s = _
  simp [execCreditAudit, h, State.queueFlush]

/-- An audit that finds one queue, not of the fabric, flushes it and contains its mismatch. -/
theorem exec_creditAudit_one {s : State} {f : QueueFault} (h : (s.queueUpset f).mismatched = [f.queue]) (hc : f.queue.cls ≠ .fabric) :
    exec (.creditAudit [f]) s = .next (((s.queueUpset f).setQueue f.queue Dcq.reset).auditMismatch f.queue.cls f.queue.ident) := by
  show execCreditAudit [f] s = _
  simp [execCreditAudit, h, hc, State.queueFlush]

/-- The audio plane contains a mismatch by itself. -/
theorem State.auditAct_audio (s : State) {q : QueueClass} {g : Fin 1152} {o : Fin 8192} (h : q = .audioGroup g ∨ q = .audioRoute o) :
    Within (maskOf [.ledger, .audio]) s (s.auditAct q) := by
  rcases h with rfl | rfl
  · exact s.groupRestart_within g
  · simp only [State.auditAct]
    split
    · exact s.inputFlush_within _
    · exact .refl _ _

/-- A mismatch that changes no register, no event and no queue in its containment is counted and reported. -/
theorem State.auditMismatch_result (s : State) {q : QueueClass} {m : Nat} (ident : BitVec 16) (act : ∀ t : State, Within m t (t.auditAct q))
    (hr : m.testBit 1 = false) (he : m.testBit 6 = false) (hs : m.testBit 40 = false) :
    s.Occurred (s.auditMismatch q ident) 311 ∧ (s.auditMismatch q ident).fget Adr.audit 15 0 = min (s.fget Adr.audit 15 0 + 1) 65535 ∧
      (s.auditMismatch q ident).fget Adr.audit 31 16 = ident.toNat ∧ (s.auditMismatch q ident).scrub = s.scrub := by
  unfold State.auditMismatch
  extract_lets u
  have hu : Within (maskOf [.regs]) s u := (State.fset_within _ _ _ _ _).via (by decide) (s.count_within _ _ _ _)
  have regs : ((u.auditAct q).occur 311 0x1420 [(20, 1, q.row.1), (22, 2, q.row.2), (24, 2, ident.toNat)]).regs = u.regs :=
    (State.occur_regs _ _ _ _).trans ((act u).same .regs hr)
  refine ⟨((State.occur_occurred _ _ _ _).of_within (act u) he).of_within hu (by decide), ?_, ?_, ?_⟩
  · rw [State.fget_congr regs]
    exact (State.fget_fset_below _ _ _ _ _ (by decide) (by decide)).trans (s.fget_count_self _ _ (by decide))
  · rw [State.fget_congr regs]
    exact (State.fget_fset_self _ _ _ (by decide)).trans (Nat.mod_eq_of_lt ident.isLt)
  · calc _ = (u.auditAct q).scrub := (State.occur_within _ _ _ _).same .scrub (by decide)
      _ = u.scrub := (act u).same .scrub hs
      _ = s.scrub := hu.same .scrub (by decide)

theorem creditAudit_result {s : State} {f : QueueFault} {g : Fin 1152} {o : Fin 8192} (hm : s.mismatched = [])
    (hbad : ((s.queueUpset f).queue f.queue).sumOk f.queue.depth = false) (hq : f.queue.cls = .audioGroup g ∨ f.queue.cls = .audioRoute o) :
    ∃ t, exec (.creditAudit [f]) s = .next t ∧ s.Occurred t 311 ∧ t.fget Adr.audit 15 0 = min (s.fget Adr.audit 15 0 + 1) 65535 ∧
      t.fget Adr.audit 31 16 = f.queue.ident.toNat ∧ t.queue f.queue = Dcq.reset ∧ t.mismatched = [] := by
  have hupset : (s.queueUpset f).mismatched = [f.queue] := by
    rw [State.queueUpset, State.queue_setQueue] at hbad
    rw [State.queueUpset, State.mismatched_setQueue, hm, hbad]
    rfl
  have hcls : f.queue.cls ≠ .fabric := by rcases hq with h | h <;> simp [h]
  refine ⟨_, exec_creditAudit_one hupset hcls, ?_⟩
  generalize hu : (s.queueUpset f).setQueue f.queue Dcq.reset = u
  have hw : Within (maskOf [.scrub]) s u := by
    rw [← hu]
    exact (State.setQueue_within _ _ _).via (by decide) (s.queueUpset_within f)
  obtain ⟨hoccurred, hcount, hident, hscrub⟩ := u.auditMismatch_result f.queue.ident (fun t => t.auditAct_audio hq) (by decide) (by decide) (by decide)
  refine ⟨hoccurred.of_within hw (by decide), ?_, hident, ?_, ?_⟩
  · rw [hcount, State.fget_congr (hw.same .regs (by decide))]
  · rw [State.queue_congr hscrub, ← hu, State.queue_setQueue]
  · rw [State.mismatched_congr hscrub, ← hu, State.mismatched_setQueue, hupset, Dcq.reset_sumOk]
    simp [Dcq.reset]

/-! ## The obligation -/

/-- Settles O49: clause by clause, each by the lemma above that says what the command does. -/
theorem breachesAndScrubs : Obligations.BreachesAndScrubs := by
  intro cause live mv present hs ws f s _
  exact ⟨rfl, breach_result, exec_breach_unarmed, breachAck_result live s, aonMapping_result, fun h => battMeasure_result h mv present,
    fun h => patrolScrub_result h hs, fun h => sramScrub_result h ws, exec_creditAudit_clean, fun _ _ => creditAudit_result⟩

end Sys2Proof.Machine
end

section
/-!
SUPPORT. Steps and the frames of the host interface: a step runs the command at the front of the queue (log 1), no command reaches the
queue, and rings, events, the MSI-X table and the engine change only by the commands that `touches` lists for them (R42 to R45, R72 to R74).
-/
namespace Sys2Proof.Machine

/-! ## The queue of commands -/

theorem step_of_pending {c : Instr} {q : List Instr} {s : State} (h : s.pending = c :: q) : step s = exec c (s.withPending q) := by
  simp only [step, h]

theorem pending_notMem_touches (c : Instr) : Part.pending ∉ touches c := by cases c <;> simp [touches]

/-- Settles O1: the front of the queue is the first case of `step`. -/
theorem stepTakesFront : Obligations.StepTakesFront := fun _ _ _ => step_of_pending

/-- Settles O3: the queue is a part of the state that `touches` lists for no command. -/
theorem commandsKeepQueue : Obligations.CommandsKeepQueue := fun c _ _ h => exec_frame h (pending_notMem_touches c)

/-! ## Views of the host interface -/

theorem State.cq_congr {s t : State} (h : t.hif.cqs = s.hif.cqs) (n : Nat) : t.cq n = s.cq n := by simp only [State.cq, h]
theorem State.er_congr {s t : State} (h : t.hif.ers = s.hif.ers) (k : Nat) : t.er k = s.er k := by simp only [State.er, h]
theorem State.stagedOf_congr {s t : State} (h : t.hif.staged = s.hif.staged) (k : Nat) : t.stagedOf k = s.stagedOf k := by simp only [State.stagedOf, h]
theorem State.msixWord_congr {s t : State} (h : t.hif.msix = s.hif.msix) (i : Nat) : t.msixWord i = s.msixWord i := by simp only [State.msixWord, h]

/-- The events are the same where their part of the state is. -/
theorem State.events_congr {s t : State} (h : Part.events.same s t) (n : Nat) : t.er n = s.er n ∧ t.stagedOf n = s.stagedOf n ∧ t.evSrc n = s.evSrc n := by
  simp only [Part.same, Prod.mk.injEq] at h
  obtain ⟨hers, hstaged, hsrcs⟩ := h
  exact ⟨State.er_congr hers n, State.stagedOf_congr hstaged n, State.evSrc_congr hsrcs n⟩

/-! ## The frames -/

/-- Settles O8: rings, engine and D3hot are functions of parts of the state that `exec_frame` keeps. -/
theorem frameRings : Obligations.FrameRings := fun _ _ _ h =>
  ⟨fun hp => State.sq_congr (exec_frame h hp), fun hp => State.cq_congr (exec_frame h hp), fun hp => exec_frame h hp, fun hp => exec_frame h hp⟩

/-- Settles O9: events, the MSI-X table and its pending bits are functions of parts of the state that `exec_frame` keeps. -/
theorem frameEvents : Obligations.FrameEvents := fun _ _ _ h =>
  ⟨fun hp => State.events_congr (exec_frame h hp), fun hp => State.msixWord_congr (exec_frame h hp), fun hp => Prod.mk.inj (exec_frame h hp)⟩

end Sys2Proof.Machine
end

section
/-!
SUPPORT. Submission rings: what a doorbell and each write to SQ_CTL leave, by the state of the ring (R42, R49, R50, R66 to R68).
-/
namespace Sys2Proof.Machine

/-! ## Fields that a write replaces and fields that it leaves -/

/-- A number with a field replaced: the bits below it, the new field, the bits above it. -/
theorem putBits_eq (v x : Nat) {hi lo : Nat} (h : lo ≤ hi + 1) :
    putBits v hi lo x = v % 2 ^ lo + x % 2 ^ (hi + 1 - lo) * 2 ^ lo + v / 2 ^ (hi + 1) * 2 ^ (hi + 1) := by
  have hsplit : 2 ^ (hi + 1) = 2 ^ lo * 2 ^ (hi + 1 - lo) := by rw [← Nat.pow_add]; congr 1; omega
  unfold putBits bits
  rw [hsplit, ← Nat.div_div_eq_div_mul]
  generalize 2 ^ lo = P
  generalize 2 ^ (hi + 1 - lo) = M
  have h1 := Nat.mod_add_div v P
  have h2 := Nat.mod_add_div (v / P) M
  have hv : v = v % P + v / P % M * P + v / P / M * (P * M) := by
    calc v = v % P + P * (v / P % M + M * (v / P / M)) := by rw [h2, h1]
      _ = _ := by ring
  omega

theorem bits_putBits_above (v x : Nat) {hi lo hi' lo' : Nat} (h : lo ≤ hi + 1) (h' : hi < lo') :
    bits (putBits v hi lo x) hi' lo' = bits v hi' lo' := by
  have hsplit : 2 ^ (hi + 1) = 2 ^ lo * 2 ^ (hi + 1 - lo) := by rw [← Nat.pow_add]; congr 1; omega
  have hlow : v % 2 ^ lo + x % 2 ^ (hi + 1 - lo) * 2 ^ lo < 2 ^ (hi + 1) := by
    have hP := Nat.mod_lt v (Nat.two_pow_pos lo)
    have hM := Nat.mod_lt x (Nat.two_pow_pos (hi + 1 - lo))
    calc _ < 2 ^ lo + x % 2 ^ (hi + 1 - lo) * 2 ^ lo := Nat.add_lt_add_right hP _
      _ = (x % 2 ^ (hi + 1 - lo) + 1) * 2 ^ lo := by ring
      _ ≤ 2 ^ (hi + 1 - lo) * 2 ^ lo := Nat.mul_le_mul_right _ hM
      _ = 2 ^ (hi + 1) := by rw [hsplit, Nat.mul_comm]
  have hdiv : putBits v hi lo x / 2 ^ (hi + 1) = v / 2 ^ (hi + 1) := by
    rw [putBits_eq v x h, Nat.add_mul_div_right _ _ (Nat.two_pow_pos _), Nat.div_eq_of_lt hlow, Nat.zero_add]
  unfold bits
  rw [show lo' = hi + 1 + (lo' - (hi + 1)) by omega, Nat.pow_add, ← Nat.div_div_eq_div_mul, ← Nat.div_div_eq_div_mul, hdiv]

theorem bits_putBits_below (v x : Nat) {hi lo hi' lo' : Nat} (h : hi' < lo) : bits (putBits v hi lo x) hi' lo' = bits v hi' lo' := by
  rw [← bits_mod_two_pow h, putBits_mod, bits_mod_two_pow h]

/-- The lowest bits that a write replaces read as they were written. -/
theorem bits_putBits_low (v x : Nat) {hi hi' lo' : Nat} (h : hi' ≤ hi) : bits (putBits v hi 0 x) hi' lo' = bits x hi' lo' := by
  have hself := bits_putBits_self v hi 0 x
  simp only [bits, Nat.pow_zero, Nat.div_one, Nat.sub_zero] at hself
  rw [← bits_mod_two_pow (Nat.lt_succ_of_le h) (putBits v hi 0 x), hself, bits_mod_two_pow (Nat.lt_succ_of_le h)]

/-! ## Halting -/

theorem State.ringHaltEvent_sq (s : State) (n : Nat) (r : SqReason) (seq : BitVec 32) (m : Nat) : (s.ringHaltEvent n r seq).sq m = s.sq m :=
  State.sq_congr ((s.ringHaltEvent_within n r seq).same .subRings (by decide)) m

theorem State.halt_sq (s : State) (n : Nat) (r : SqReason) (seq : BitVec 32) :
    (s.halt n r seq).sq n = { s.sq n with state := .halted, reason := r, prefetch := [], fetchFailed := false } := by
  rw [State.halt, State.ringHaltEvent_sq, State.sq_setSq]

theorem State.halt_sq_ne (s : State) {n m : Nat} (h : m ≠ n) (r : SqReason) (seq : BitVec 32) : (s.halt n r seq).sq m = s.sq m := by
  rw [State.halt, State.ringHaltEvent_sq, State.sq_setSq_ne _ _ h]

theorem State.ringHaltEvent_occurred (s : State) (n : Nat) (r : SqReason) (seq : BitVec 32) : s.Occurred (s.ringHaltEvent n r seq) 286 :=
  State.occur_occurred _ _ _ _

theorem State.halt_occurred (s : State) (n : Nat) (r : SqReason) (seq : BitVec 32) : s.Occurred (s.halt n r seq) 286 :=
  (State.ringHaltEvent_occurred _ n r seq).of_within (s.setSq_within n _) (by decide)

/-! ## Doorbells (R49, R50) -/

/-- A ring that takes no doorbell: a DISABLED one, or one that closes. -/
def Sq.shut (q : Sq) : Prop := q.state = .disabled ∨ q.state = .resetting ∧ q.closing = true

section
variable {s : State} {n v : Nat}

theorem State.writeDoorbell_other (ho : v / 65536 ≠ (s.sq n).owner) :
    s.writeDoorbell n v = s.setSq n { s.sq n with dbReject := BitVec.ofNat 32 (min ((s.sq n).dbReject.toNat + 1) 4294967295) } := if_pos ho

variable (ho : v / 65536 = (s.sq n).owner)
include ho

theorem State.writeDoorbell_shut (hs : (s.sq n).shut) : s.writeDoorbell n v = s :=
  (if_neg (not_not.2 ho)).trans (if_pos hs)

variable (hs : ¬(s.sq n).shut)
include hs

theorem State.writeDoorbell_fits (hf : (BitVec.ofNat 16 v - (s.sq n).head).toNat ≤ 2 ^ (s.sq n).sizeLog2) :
    s.writeDoorbell n v = s.setSq n { s.sq n with tail := BitVec.ofNat 16 v } :=
  (if_neg (not_not.2 ho)).trans ((if_neg hs).trans (if_neg (Nat.not_lt.2 hf)))

theorem State.writeDoorbell_overrun (hf : 2 ^ (s.sq n).sizeLog2 < (BitVec.ofNat 16 v - (s.sq n).head).toNat) :
    s.writeDoorbell n v = if (s.sq n).state = .resetting then s.ringHaltEvent n .dbOverrun (s.sq n).seqNext
      else s.halt n .dbOverrun (s.sq n).seqNext :=
  (if_neg (not_not.2 ho)).trans ((if_neg hs).trans (if_pos hf))

end

theorem doorbell_overrun_result {s : State} {n v : Nat} (ho : v / 65536 = (s.sq n).owner) (hs : ¬(s.sq n).shut)
    (hf : 2 ^ (s.sq n).sizeLog2 < (BitVec.ofNat 16 v - (s.sq n).head).toNat) :
    s.Occurred (s.writeDoorbell n v) 286 ∧ s.Only (s.writeDoorbell n v) [.subRings, .events] ∧
      (s.writeDoorbell n v).sq n = if (s.sq n).state = .resetting then s.sq n
        else { s.sq n with state := .halted, reason := .dbOverrun, prefetch := [], fetchFailed := false } := by
  refine ⟨?_, (s.writeDoorbell_within n v).only _ (by decide), ?_⟩ <;> rw [State.writeDoorbell_overrun ho hs hf] <;> split
  · exact s.ringHaltEvent_occurred _ _ _
  · exact s.halt_occurred _ _ _
  · exact s.ringHaltEvent_sq _ _ _ _
  · exact s.halt_sq _ _ _

theorem doorbell_result (n : Fin 64) (v : BitVec 32) (s : State) : ∃ t, exec (.doorbell n v) s = .next t ∧
    (v.toNat / 65536 ≠ (s.sq n).owner →
      t = s.setSq n { s.sq n with dbReject := BitVec.ofNat 32 (min ((s.sq n).dbReject.toNat + 1) 4294967295) }) ∧
    (v.toNat / 65536 = (s.sq n).owner → ((s.sq n).shut → t = s) ∧
      (¬(s.sq n).shut →
        ((BitVec.ofNat 16 v.toNat - (s.sq n).head).toNat ≤ 2 ^ (s.sq n).sizeLog2 → t = s.setSq n { s.sq n with tail := BitVec.ofNat 16 v.toNat }) ∧
        (2 ^ (s.sq n).sizeLog2 < (BitVec.ofNat 16 v.toNat - (s.sq n).head).toNat → s.Occurred t 286 ∧ s.Only t [.subRings, .events] ∧
          t.sq n = if (s.sq n).state = .resetting then s.sq n
            else { s.sq n with state := .halted, reason := .dbOverrun, prefetch := [], fetchFailed := false }))) :=
  ⟨_, rfl, State.writeDoorbell_other, fun ho => ⟨State.writeDoorbell_shut ho, fun hs => ⟨State.writeDoorbell_fits ho hs, doorbell_overrun_result ho hs⟩⟩⟩

/-! ## Writes to SQ_CTL by the state of the ring (R42, R66 to R68) -/

section
variable {s : State} {n v : Nat}

theorem State.writeSqCtl_disabled (h : (s.sq n).state = .disabled) :
    s.writeSqCtl n v = s.setSq n (if bits v 0 0 = 1 then ((s.sq n).config v).openRing else (s.sq n).config v) := by
  simp only [State.writeSqCtl, h, reduceCtorEq, false_and, if_false, if_true]

theorem State.writeSqCtl_closeReset (h : (s.sq n).state = .resetting) (hc : (s.sq n).closing = false) (h0 : bits v 0 0 = 0) :
    s.writeSqCtl n v = s.setSq n (s.sq n).closeReset := by
  simp only [State.writeSqCtl, h, hc, h0, Bool.false_eq_true, and_false, reduceCtorEq, if_false, if_true]

/-- A ring that is open: it runs or stands. -/
def Sq.isOpen (q : Sq) : Prop := q.state = .running ∨ q.state = .halted

theorem Sq.isOpen.ne {q : Sq} (h : q.isOpen) : q.state ≠ .disabled ∧ q.state ≠ .resetting := by
  rcases h with h | h <;> simp [h]

theorem State.writeSqCtl_close (h : (s.sq n).isOpen) (h0 : bits v 0 0 = 0) : s.writeSqCtl n v = s.setSq n ((s.sq n).beginReset true) := by
  simp only [State.writeSqCtl, h.ne, h0, false_and, if_false, if_true]

theorem State.writeSqCtl_reset (h : (s.sq n).isOpen) (h0 : bits v 0 0 = 1) (h1 : bits v 1 1 = 1) :
    s.writeSqCtl n v = s.setSq n ((s.sq n).beginReset false) := by
  simp only [State.writeSqCtl, h.ne, h0, h1, false_and, one_ne_zero, ne_eq, not_false_eq_true, and_self, if_false, if_true]

/-- A resume reaches a ring that is neither disabled nor closing. -/
theorem State.writeSqCtl_resume (h : ¬(s.sq n).shut) (h0 : bits v 0 0 = 1) (h1 : bits v 1 1 = 0) (h2 : bits v 2 2 = 1) :
    s.writeSqCtl n v = s.resumeSq n := by
  obtain ⟨hd, hr⟩ := not_or.1 h
  simp only [State.writeSqCtl, hd, hr, h0, h1, h2, one_ne_zero, zero_ne_one, false_and, if_false, if_true]

end

theorem State.resumeSq_halted {s : State} {n : Nat} (h : (s.sq n).state = .halted) : s.resumeSq n =
    s.setSq n (if (s.sq n).reason = .cqErr ∧ (s.cq (s.sq n).cq).err = true then { s.sq n with resumeWaits := true }
      else { s.sq n with state := .running, resumeWaits := false }) := by
  unfold State.resumeSq
  rw [if_pos h]
  split <;> rfl

theorem State.resumeSq_of_ne {s : State} {n : Nat} (h : (s.sq n).state ≠ .halted) : s.resumeSq n = s := if_neg h

/-! ## The commands that write SQ_CTL -/

/-- The control bits of a write that keeps the other fields of SQ_CTL. -/
theorem bits_ctlWord_write (w x k : Nat) (h : k ≤ 2) : bits (putBits w 2 0 x) k k = bits x k k := bits_putBits_low w x h

/-- The fields of an enable lie above its control bits. -/
theorem Sq.config_putBits (q : Sq) (v x : Nat) : q.config (putBits v 2 0 x) = q.config v := by
  simp only [Sq.config, bits_putBits_above v x (hi := 2) (lo := 0) (by decide) (show 2 < 3 by decide),
    bits_putBits_above v x (hi := 2) (lo := 0) (by decide) (show 2 < 4 by decide),
    bits_putBits_above v x (hi := 2) (lo := 0) (by decide) (show 2 < 8 by decide),
    bits_putBits_above v x (hi := 2) (lo := 0) (by decide) (show 2 < 16 by decide)]

theorem exec_sqEnable_disabled {n : Fin 64} {s : State} (h : (s.sq n).state = .disabled) (v : BitVec 32) :
    exec (.sqEnable n v) s = .next (s.setSq n ((s.sq n).config v.toNat).openRing) := by
  have h0 : bits (putBits v.toNat 2 0 1) 0 0 = 1 := bits_ctlWord_write _ 1 0 (by decide)
  show execSqEnable n v s = _
  rw [execSqEnable, State.writeSqCtl_disabled h, if_pos h0, Sq.config_putBits]

theorem Sq.configOk_config (q : Sq) (v : Nat) : (q.config v).configOk = true ↔
    4 ≤ bits v 7 4 ∧ bits v 7 4 ≤ 12 ∧ bits v 31 16 ≠ 0 ∧ bits v 31 16 ≠ 0xFFFF ∧ bits q.base.toNat 5 4 = 0 :=
  decide_eq_true_iff

/-- An enable opens the ring or shows BAD_CFG; in both cases the fields are taken. -/
theorem sqEnable_result {n : Fin 64} {s : State} (h : (s.sq n).state = .disabled) (v : BitVec 32) :
    ∃ t, exec (.sqEnable n v) s = .next t ∧ s.Only t [.subRings] ∧ (∀ m, m ≠ n.val → t.sq m = s.sq m) ∧
    (t.sq n).take = decide (bits v.toNat 3 3 = 1) ∧ (t.sq n).sizeLog2 = bits v.toNat 7 4 ∧ (t.sq n).cq = bits v.toNat 13 8 ∧
    (t.sq n).owner = bits v.toNat 31 16 ∧ (t.sq n).base = (s.sq n).base ∧ (t.sq n).seqNext = (s.sq n).seqNext ∧
    (if 4 ≤ bits v.toNat 7 4 ∧ bits v.toNat 7 4 ≤ 12 ∧ bits v.toNat 31 16 ≠ 0 ∧ bits v.toNat 31 16 ≠ 0xFFFF ∧ bits (s.sq n).base.toNat 5 4 = 0 then
      (t.sq n).enable = true ∧ (t.sq n).state = .running ∧ (t.sq n).head = 0 ∧ (t.sq n).tail = 0 ∧ (t.sq n).prefetch = []
    else (t.sq n).enable = (s.sq n).enable ∧ (t.sq n).state = .disabled ∧ (t.sq n).reason = .badCfg) := by
  have he := exec_sqEnable_disabled h v
  refine ⟨_, he, fun _ hp => exec_frame he hp, fun m hm => s.sq_setSq_ne _ hm, ?_⟩
  rw [State.sq_setSq, Sq.openRing]
  by_cases hok : ((s.sq n).config v.toNat).configOk = true
  · rw [if_pos hok, if_pos ((Sq.configOk_config _ _).1 hok)]
    exact ⟨rfl, rfl, rfl, rfl, rfl, rfl, rfl, rfl, rfl, rfl, rfl⟩
  · rw [if_neg hok, if_neg (fun hc => hok ((Sq.configOk_config _ _).2 hc))]
    exact ⟨rfl, rfl, rfl, rfl, rfl, rfl, rfl, h, rfl⟩

section
variable {n : Fin 64} {s : State}

theorem exec_sqDisable_open (h : (s.sq n).isOpen) : exec (.sqDisable n) s = .next (s.setSq n ((s.sq n).beginReset true)) :=
  congrArg _ (State.writeSqCtl_close h (bits_ctlWord_write _ 0 0 (by decide)))

theorem exec_sqDisable_resetting (h : (s.sq n).state = .resetting) (hc : (s.sq n).closing = false) :
    exec (.sqDisable n) s = .next (s.setSq n (s.sq n).closeReset) :=
  congrArg _ (State.writeSqCtl_closeReset h hc (bits_ctlWord_write _ 0 0 (by decide)))

theorem exec_sqReset_open (h : (s.sq n).isOpen) : exec (.sqReset n) s = .next (s.setSq n ((s.sq n).beginReset false)) :=
  congrArg _ (State.writeSqCtl_reset h (bits_ctlWord_write _ 3 0 (by decide)) (bits_ctlWord_write _ 3 1 (by decide)))

theorem exec_sqResume (h : ¬(s.sq n).shut) : exec (.sqResume n) s = .next (s.resumeSq n) :=
  congrArg _ (State.writeSqCtl_resume h (bits_ctlWord_write _ 5 0 (by decide)) (bits_ctlWord_write _ 5 1 (by decide)) (bits_ctlWord_write _ 5 2 (by decide)))

theorem exec_sqResume_closing (h : (s.sq n).state = .resetting) (hc : (s.sq n).closing = true) : exec (.sqResume n) s = .next s :=
  congrArg _ (if_pos ⟨h, hc⟩)

/-- A resume of a ring that is not halted does nothing, unless the ring is disabled, whose fields it would set. -/
theorem sqResume_not_halted (h : (s.sq n).state ≠ .halted) : exec (.sqResume n) s = .next s ∨ (s.sq n).state = .disabled := by
  by_cases hs : (s.sq n).shut
  · exact hs.symm.imp_left fun ⟨hr, hc⟩ => exec_sqResume_closing hr hc
  · exact .inl (by rw [exec_sqResume hs, State.resumeSq_of_ne h])

theorem sqResume_halted (h : (s.sq n).state = .halted) : exec (.sqResume n) s =
    .next (s.setSq n (if (s.sq n).reason = .cqErr ∧ (s.cq (s.sq n).cq).err = true then { s.sq n with resumeWaits := true }
      else { s.sq n with state := .running, resumeWaits := false })) := by
  have hs : ¬(s.sq n).shut := by simp [Sq.shut, h]
  rw [exec_sqResume hs, State.resumeSq_halted h]

theorem exec_ringResetEnd (h : (s.sq n).state = .resetting) (he : (s.sq n).started = []) :
    exec (.ringResetEnd n) s = .next (s.setSq n (s.sq n).endReset) := congrArg _ (if_pos ⟨h, he⟩)

end

/-! ## The obligation -/

/-- Settles O22: clause by clause, each by the lemma above that says what the command does in that state of the ring. -/
theorem submissionRings : Obligations.SubmissionRings := fun n v s =>
  ⟨doorbell_result n v s, fun h => sqEnable_result h v, fun h => ⟨_, exec_sqDisable_open h, rfl⟩, fun h hc => ⟨_, exec_sqDisable_resetting h hc, rfl⟩,
    fun h => ⟨_, exec_sqReset_open h, rfl⟩, fun h => ⟨_, sqResume_halted h, rfl⟩, sqResume_not_halted, fun h he => ⟨_, exec_ringResetEnd h he, rfl⟩⟩

end Sys2Proof.Machine
end

section
/-!
SUPPORT. Completion rings: what a write to CQ_CTL leaves, a completion that is delivered, one whose write fails, and the interrupt that
counts them (R41, R42, R58 to R60, R72).
-/
namespace Sys2Proof.Machine

/-! ## A change of every submission ring -/

section
variable {f : State → Nat → State} (hother : ∀ s n m, m ≠ n → (f s n).sq m = s.sq m)
include hother

theorem foldl_sq_of_notMem {l : List Nat} {m : Nat} (h : m ∉ l) (s : State) : (l.foldl f s).sq m = s.sq m := by
  induction l generalizing s with
  | nil => rfl
  | cons n l ih =>
    rw [List.mem_cons, not_or] at h
    exact (ih h.2 _).trans (hother _ _ _ h.1)

/-- A fold that changes each ring of its list by `g`, and no other, changes each by `g` once. -/
theorem foldl_sq_of_mem {g : Sq → Sq} (hself : ∀ s n, (f s n).sq n = g (s.sq n)) {l : List Nat} (hl : l.Nodup) {m : Nat} (h : m ∈ l) (s : State) :
    (l.foldl f s).sq m = g (s.sq m) := by
  induction l generalizing s with
  | nil => cases h
  | cons n l ih =>
    obtain ⟨hn, hl⟩ := List.nodup_cons.1 hl
    rcases List.mem_cons.1 h with rfl | h
    · exact (foldl_sq_of_notMem hother hn _).trans (hself _ _)
    · have hne : m ≠ n := fun e => hn (e ▸ h)
      exact (ih hl h _).trans (congrArg g (hother _ _ _ hne))

end

theorem State.sq_setCq (s : State) (c : Nat) (v : Cq) (n : Nat) : (s.setCq c v).sq n = s.sq n := rfl

theorem nodup_rings : rings.Nodup := List.nodup_range
theorem mem_rings (n : Fin 64) : n.val ∈ rings := List.mem_range.2 n.isLt

/-! ## Enable (R41, R42) -/

/-- A write of enable to a ring that is off opens it where its size is legal; size and vector are taken in both cases. -/
theorem State.writeCqCtl_enable {s : State} {c v : Nat} (h : (s.cq c).enable = false) (h0 : bits v 0 0 = 1) (h15 : bits v 15 15 = 0) :
    s.writeCqCtl c v = s.setCq c (if 4 ≤ bits v 7 4 ∧ bits v 7 4 ≤ 12 then
        { s.cq c with enable := true, sizeLog2 := bits v 7 4, vector := bits v 13 8, head := 0, tail := 0, unsig := 0 }
      else { s.cq c with sizeLog2 := bits v 7 4, vector := bits v 13 8 }) := by
  unfold State.writeCqCtl
  generalize s.cq c = q at h ⊢
  cases q
  subst h
  by_cases hsize : 4 ≤ bits v 7 4 ∧ bits v 7 4 ≤ 12 <;> simp [h0, h15, hsize]

theorem exec_cqEnable {c : Fin 64} {s : State} (h : (s.cq c).enable = false) (v : BitVec 32) :
    exec (.cqEnable c v) s = .next (s.setCq c (if 4 ≤ bits v.toNat 7 4 ∧ bits v.toNat 7 4 ≤ 12 then
        { s.cq c with enable := true, sizeLog2 := bits v.toNat 7 4, vector := bits v.toNat 13 8, head := 0, tail := 0, unsig := 0 }
      else { s.cq c with sizeLog2 := bits v.toNat 7 4, vector := bits v.toNat 13 8 })) := by
  generalize hw : putBits (putBits v.toNat 15 15 0) 0 0 1 = w
  have field : ∀ hi lo, 0 < lo → hi < 15 → bits w hi lo = bits v.toNat hi lo := fun hi lo hl hh => by
    rw [← hw, bits_putBits_above _ _ (by decide) hl, bits_putBits_below _ _ hh]
  have h0 : bits w 0 0 = 1 := by rw [← hw, bits_putBits_low _ _ (le_refl 0)]; rfl
  have h15 : bits w 15 15 = 0 := by rw [← hw, bits_putBits_above _ _ (by decide) (by decide), bits_putBits_self]; rfl
  show Host.Outcome.next (s.writeCqCtl c (putBits (putBits v.toNat 15 15 0) 0 0 1)) = _
  rw [hw, State.writeCqCtl_enable h h0 h15, field 7 4 (by decide) (by decide), field 13 8 (by decide) (by decide)]

/-! ## The error and the resumes that wait for it (R60, R66) -/

/-- What the end of completion ring `c`'s error leaves of a submission ring: a resume that waited for it takes place. -/
def Sq.released (c : Nat) (q : Sq) : Sq :=
  if q.resumeWaits && q.cq == c && decide (q.state = .halted) then { q with state := .running, resumeWaits := false } else q

theorem State.releaseResumes_sq (s : State) (c : Nat) (m : Fin 64) : (s.releaseResumes c).sq m = (s.sq m).released c := by
  refine foldl_sq_of_mem (fun s n m hm => ?_) (fun s n => ?_) nodup_rings (mem_rings m) s
  · extract_lets q
    split
    · exact s.sq_setSq_ne _ hm
    · rfl
  · unfold Sq.released
    extract_lets q
    split
    · rw [State.sq_setSq]
    · rfl

theorem State.releaseResumes_cq (s : State) (c n : Nat) : (s.releaseResumes c).cq n = s.cq n :=
  State.cq_congr ((s.releaseResumes_within c).same .cplRings (by decide)) n

/-- A write of err to an open ring, whose size then stays. -/
theorem State.writeCqCtl_errClear {s : State} {c v : Nat} (h : (s.cq c).enable = true) (h0 : bits v 0 0 = 1) (h15 : bits v 15 15 = 1) :
    s.writeCqCtl c v = (s.setCq c { s.cq c with vector := bits v 13 8, err := false }).releaseResumes c := by
  unfold State.writeCqCtl
  generalize s.cq c = q at h ⊢
  cases q
  subst h
  simp [h0, h15]

theorem Cq.bits_ctlWord_enable {q : Cq} (h : q.enable = true) : bits q.ctlWord 0 0 = 1 := by
  simp only [Cq.ctlWord, bits, h, b2n, if_true]
  omega

theorem Cq.bits_ctlWord_vector {q : Cq} (hv : q.vector < 64) (hs : q.sizeLog2 < 16) : bits q.ctlWord 13 8 = q.vector := by
  have he := b2n_le_one q.enable
  simp only [Cq.ctlWord, bits]
  omega

theorem exec_cqErrClear {c : Fin 64} {s : State} (h : (s.cq c).enable = true) : exec (.cqErrClear c) s =
    .next ((s.setCq c { s.cq c with vector := bits (s.cq c).ctlWord 13 8, err := false }).releaseResumes c) := by
  have h0 : bits (putBits (s.cq c).ctlWord 15 15 1) 0 0 = 1 := by rw [bits_putBits_below _ _ (by decide), Cq.bits_ctlWord_enable h]
  have h15 : bits (putBits (s.cq c).ctlWord 15 15 1) 15 15 = 1 := by rw [bits_putBits_self]; rfl
  show Host.Outcome.next (s.writeCqCtl c (putBits (s.cq c).ctlWord 15 15 1)) = _
  rw [State.writeCqCtl_errClear h h0 h15, bits_putBits_below _ _ (by decide)]

theorem cqErrClear_result {c : Fin 64} {s : State} (h : (s.cq c).enable = true) : ∃ t, exec (.cqErrClear c) s = .next t ∧
    (t.cq c).err = false ∧ (t.cq c).enable = true ∧ (t.cq c).tail = (s.cq c).tail ∧ (t.cq c).head = (s.cq c).head ∧
    (t.cq c).sizeLog2 = (s.cq c).sizeLog2 ∧
    ((s.cq c).vector < 64 → (s.cq c).sizeLog2 < 16 → t.cq c = { s.cq c with err := false }) ∧ s.Only t [.subRings, .cplRings] ∧
    (∀ m : Fin 64, (s.sq m).resumeWaits = true → (s.sq m).cq = c → (s.sq m).state = .halted → (t.sq m).state = .running) := by
  have he := exec_cqErrClear h
  refine ⟨_, he, ?_⟩
  rw [State.releaseResumes_cq, State.cq_setCq]
  refine ⟨rfl, h, rfl, rfl, rfl, fun hv hs => by rw [Cq.bits_ctlWord_vector hv hs], fun _ hp => exec_frame he hp, fun m hw hc hh => ?_⟩
  rw [State.releaseResumes_sq, State.sq_setCq, Sq.released, if_pos (by simp [hw, hc, hh])]

/-! ## Interrupts of a completion ring (R72) -/

theorem State.interrupt_cq (s : State) (v c : Nat) : (s.interrupt v).cq c = s.cq c := State.cq_congr ((s.interrupt_within v).same .cplRings (by decide)) c
theorem State.signalCq_sq (s : State) (c : Nat) (now : Bool) (n : Nat) : (s.signalCq c now).sq n = s.sq n :=
  State.sq_congr ((s.signalCq_within c now).same .subRings (by decide)) n

/-- A completion that interrupts: one that asks for it, or the one that fills the count. -/
theorem State.signalCq_interrupts {s : State} {c : Nat} {now : Bool} (h : (now || decide (max (s.cq c).modCount 1 ≤ (s.cq c).unsig + 1)) = true) :
    s.signalCq c now = (s.setCq c { s.cq c with unsig := 0 }).interrupt (s.cq c).vector := if_pos h

theorem State.signalCq_tail (s : State) (c : Nat) (now : Bool) : ((s.signalCq c now).cq c).tail = (s.cq c).tail := by
  unfold State.signalCq
  extract_lets q unsig
  split
  · rw [State.interrupt_cq, State.cq_setCq]
  · rw [State.cq_setCq]

theorem State.signalCq_unsig {s : State} {c : Nat} {now : Bool} (h : now = true ∨ (s.cq c).modCount ≤ (s.cq c).unsig + 1) :
    ((s.signalCq c now).cq c).unsig = 0 := by
  have hm : (now || decide (max (s.cq c).modCount 1 ≤ (s.cq c).unsig + 1)) = true := by
    rw [Bool.or_eq_true, decide_eq_true_iff]
    exact h.imp_right fun h => max_le h (Nat.le_add_left 1 _)
  rw [State.signalCq_interrupts hm, State.interrupt_cq, State.cq_setCq]

theorem exec_cqModTimerExpiry {c : Fin 64} {s : State} (ht : (s.cq c).modTime ≠ 0) (hu : (s.cq c).unsig ≠ 0)
    (h : (s.cq c).firstUnsig + usTicks (s.cq c).modTime ≤ s.now) :
    exec (.cqModTimerExpiry c) s = .next ((s.setCq c { s.cq c with unsig := 0 }).interrupt (s.cq c).vector) := congrArg _ (if_pos ⟨ht, hu, h⟩)

/-! ## Posting a completion (R57 to R60) -/

/-- The record of a completion has been written and its entry of submission ring `n` retired, its interrupt not yet counted. -/
def State.posted (s : State) (n : Nat) (e : Started) (rest : List Started) (status : Nat) (result : BitVec 64) : State :=
  let c := s.cq (s.sq n).cq
  ((s.hostWrite (c.base.toNat + 16 * (c.tail.toNat % 2 ^ c.sizeLog2)) (completionRecord n e status result (phaseBit c.tail c.sizeLog2))).setSq n
    { s.sq n with started := rest, head := (s.sq n).head + 1, seqPosted := e.seq }).setCq (s.sq n).cq { c with tail := c.tail + 1 }

section
variable {s : State} {n : Fin 64} {e : Started} {rest : List Started} {status : Nat} {result : BitVec 64}

theorem State.posted_sq (s : State) (n : Nat) (e : Started) (rest : List Started) (status : Nat) (result : BitVec 64) :
    (s.posted n e rest status result).sq n = { s.sq n with started := rest, head := (s.sq n).head + 1, seqPosted := e.seq } := by
  rw [State.posted, State.sq_setCq, State.sq_setSq]

theorem State.posted_cq (s : State) (n : Nat) (e : Started) (rest : List Started) (status : Nat) (result : BitVec 64) :
    (s.posted n e rest status result).cq (s.sq n).cq = { s.cq (s.sq n).cq with tail := (s.cq (s.sq n).cq).tail + 1 } := State.cq_setCq _ _ _

theorem State.posted_within (s : State) (n : Nat) (e : Started) (rest : List Started) (status : Nat) (result : BitVec 64) :
    Within (maskOf [.subRings, .cplRings, .hostMem]) s (s.posted n e rest status result) :=
  (State.setCq_within _ _ _).via (by decide) ((State.setSq_within _ _ _).via (by decide) ((s.hostWrite_within _ _).mono (by decide)))

variable (hs : (s.sq n).started = e :: rest) (hr : e.ready = some (status, result)) (hroom : s.cqRoom (s.sq n).cq = true) (hd : s.hif.d3hot = false)
include hs hr hroom hd

theorem exec_completionPost_ok : exec (.completionPost n true) s =
    .next ((s.posted n e rest status result).signalCq (s.sq n).cq (e.irq || e.halted)) := by
  show execCompletionPost n true s = _
  simp only [execCompletionPost, hs, hr, hroom, hd, Bool.not_false, Bool.and_self, if_true]
  rfl

theorem exec_completionPost_failed : exec (.completionPost n false) s = .next (s.cqFail (s.sq n).cq) := by
  show execCompletionPost n false s = _
  simp only [execCompletionPost, hs, hr, hroom, hd, Bool.not_false, Bool.and_self, Bool.false_eq_true, if_true, if_false]

theorem completionPost_ok_result : ∃ t, exec (.completionPost n true) s = .next t ∧
    t.sq n = { s.sq n with started := rest, head := (s.sq n).head + 1, seqPosted := e.seq } ∧
    (t.cq (s.sq n).cq).tail = (s.cq (s.sq n).cq).tail + 1 ∧ s.Only t [.subRings, .cplRings, .hostMem, .irq] ∧
    (e.irq = true ∨ e.halted = true ∨ (s.cq (s.sq n).cq).modCount ≤ (s.cq (s.sq n).cq).unsig + 1 → (t.cq (s.sq n).cq).unsig = 0) := by
  refine ⟨_, exec_completionPost_ok hs hr hroom hd, ?_, ?_, ?_, fun h => ?_⟩
  · rw [State.signalCq_sq, State.posted_sq]
  · rw [State.signalCq_tail, State.posted_cq]
  · exact ((State.signalCq_within _ _ _).via (by decide) ((s.posted_within n e rest status result).mono (l := maskOf [.subRings, .cplRings, .hostMem, .irq])
      (by decide))).only _ (by decide)
  · refine State.signalCq_unsig ?_
    rw [State.posted_cq, Bool.or_eq_true]
    exact or_assoc.2 h

end

/-! ## A completion write that fails (R60) -/

/-- What the failure of a write to completion ring `c` leaves of a submission ring: an open one that posts there halts, one that resets
shows the reason. -/
def Sq.failed (c : Nat) (q : Sq) : Sq :=
  if q.cq == c && decide (q.state = .running ∨ q.state = .halted) then { q with state := .halted, reason := .cqErr, prefetch := [], fetchFailed := false }
  else if q.cq == c && decide (q.state = .resetting) then { q with reason := .cqErr } else q

theorem Sq.failed_started (c : Nat) (q : Sq) : (q.failed c).started = q.started := by
  unfold Sq.failed
  split
  · rfl
  split <;> rfl

theorem Sq.failed_open {q : Sq} (h : q.isOpen) : (q.failed q.cq).state = .halted := by
  have hs : q.state = .running ∨ q.state = .halted := h
  rw [Sq.failed, if_pos (by simp [hs])]

theorem Sq.failed_reason {q : Sq} (h : q.state ≠ .disabled) : (q.failed q.cq).reason = .cqErr := by
  unfold Sq.failed
  split
  · rfl
  · next ho =>
    have hr : q.state = .resetting := by cases hq : q.state <;> simp_all
    rw [if_pos (by simp [hr])]

theorem State.cqFail_sq (s : State) (c : Nat) (m : Fin 64) : (s.cqFail c).sq m = (s.sq m).failed c := by
  refine foldl_sq_of_mem (fun s n m hm => ?_) (fun s n => ?_) nodup_rings (mem_rings m) (s.setCq c { s.cq c with err := true })
  · extract_lets q
    split
    · exact s.halt_sq_ne hm _ _
    split
    · rw [State.ringHaltEvent_sq, State.sq_setSq_ne _ _ hm]
    · rfl
  · unfold Sq.failed
    extract_lets q
    split
    · exact s.halt_sq _ _ _
    split
    · rw [State.ringHaltEvent_sq, State.sq_setSq]
    · rfl

theorem State.cqFail_cq (s : State) (c : Nat) : (s.cqFail c).cq c = { s.cq c with err := true } := by
  refine Within.fold (Q := fun t : State => t.cq c = { s.cq c with err := true }) (State.cq_setCq _ _ _) fun t n ht => ?_
  extract_lets q
  split
  · rw [State.cq_congr ((t.halt_within _ _ _).same .cplRings (by decide)), ht]
  split
  · rw [State.cq_congr ((State.ringHaltEvent_within _ _ _ _).same .cplRings (by decide))]
    exact ht
  · exact ht

theorem completionPost_failed_result {s : State} {n : Fin 64} {e : Started} {rest : List Started} {status : Nat} {result : BitVec 64}
    (hs : (s.sq n).started = e :: rest) (hr : e.ready = some (status, result)) (hroom : s.cqRoom (s.sq n).cq = true) (hd : s.hif.d3hot = false) :
    ∃ t, exec (.completionPost n false) s = .next t ∧ (t.cq (s.sq n).cq).err = true ∧ t.hif.hostMem = s.hif.hostMem ∧
      (t.sq n).started = (s.sq n).started ∧ (t.cq (s.sq n).cq).tail = (s.cq (s.sq n).cq).tail ∧
      ∀ m : Fin 64, (s.sq m).cq = (s.sq n).cq → ((s.sq m).state = .running ∨ (s.sq m).state = .halted → (t.sq m).state = .halted) ∧
        ((s.sq m).state ≠ .disabled → (t.sq m).reason = .cqErr) := by
  refine ⟨_, exec_completionPost_failed hs hr hroom hd, ?_, (s.cqFail_within _).same .hostMem (by decide), ?_, ?_, fun m hm => ?_⟩
  · rw [State.cqFail_cq]
  · rw [State.cqFail_sq, Sq.failed_started]
  · rw [State.cqFail_cq]
  · rw [State.cqFail_sq, ← hm]
    exact ⟨Sq.failed_open, Sq.failed_reason⟩

/-! ## The obligation -/

/-- Settles O23: clause by clause, each by the lemma above that says what the command does. -/
theorem completionRings : Obligations.CompletionRings := by
  refine fun c n v s => ⟨fun h h4 h12 => ?_, rfl, cqErrClear_result, fun e rest status result => completionPost_ok_result, exec_cqModTimerExpiry,
    fun h hsize => ?_, fun e rest status result => completionPost_failed_result⟩
  · rw [exec_cqEnable h, if_pos ⟨h4, h12⟩]
  · rw [exec_cqEnable h, if_neg hsize]

end Sys2Proof.Machine
end

section
/-!
SUPPORT. Descriptors: the fetch, a malformed descriptor, OP_NOP and OP_FENCE (R51, R54 to R56, R64, R65).
-/
namespace Sys2Proof.Machine

/-! ## Fetches (R51, R65) -/

theorem exec_descriptorFetch {n : Fin 64} {s : State} (h : s.mayFetch n = true) (d : List Byte) :
    exec (.descriptorFetch n (some d)) s = .next (s.setSq n { s.sq n with prefetch := (s.sq n).prefetch ++ [dmaFit d 64] }) := congrArg _ (if_pos h)

theorem exec_descriptorFetch_failed {n : Fin 64} {s : State} (h : s.mayFetch n = true) : exec (.descriptorFetch n none) s =
    .next (if (s.sq n).prefetch = [] then s.halt n .fetchErr (s.sq n).seqNext else s.setSq n { s.sq n with fetchFailed := true }) := congrArg _ (if_pos h)

theorem descriptorFetch_failed_result {n : Fin 64} {s : State} (h : s.mayFetch n = true) : ∃ t, exec (.descriptorFetch n none) s = .next t ∧
    ((s.sq n).prefetch = [] → s.Occurred t 286 ∧
      t.sq n = { s.sq n with state := .halted, reason := .fetchErr, prefetch := [], fetchFailed := false }) ∧
    ((s.sq n).prefetch ≠ [] → t = s.setSq n { s.sq n with fetchFailed := true }) := by
  refine ⟨_, exec_descriptorFetch_failed h, fun he => ?_, fun hn => if_neg hn⟩
  rw [if_pos he]
  exact ⟨s.halt_occurred _ _ _, s.halt_sq _ _ _⟩

/-! ## What a completion leaves of the rings -/

/-- Two rings differ at most in their started entries. -/
def Sq.likeButStarted (q r : Sq) : Prop := { r with started := q.started } = q

theorem State.mapStarted_likeButStarted (s : State) (ring stamp : Nat) (f : Started → Started) (n : Nat) :
    (s.sq n).likeButStarted ((s.mapStarted ring stamp f).sq n) := by
  unfold State.mapStarted Sq.likeButStarted
  by_cases hn : n = ring
  · subst hn; rw [State.sq_setSq]
  · rw [State.sq_setSq_ne _ _ hn]

theorem Sq.likeButStarted.trans {q r u : Sq} (h : q.likeButStarted r) (k : r.likeButStarted u) : q.likeButStarted u := by
  unfold Sq.likeButStarted at h k ⊢
  rw [← h, ← k]

theorem State.settle_likeButStarted (s : State) (n : Nat) : (s.sq n).likeButStarted (s.settle.sq n) := by
  refine Within.fold (Q := fun t : State => (s.sq n).likeButStarted (t.sq n)) rfl fun t f ht => ?_
  split
  · exact ht.trans (t.mapStarted_likeButStarted _ _ _ n)
  · exact ht

theorem State.complete_likeButStarted (s : State) (j : Job) (status : Nat) (result : BitVec 64) (n : Nat) :
    (s.sq n).likeButStarted ((s.complete j status result).sq n) :=
  (s.mapStarted_likeButStarted _ _ _ n).trans (State.settle_likeButStarted _ n)

/-- An entry that waits, with no fence on it, stands answered once its descriptor completes. -/
theorem State.complete_mem {s : State} {j : Job} {e : Started} (he : e ∈ (s.sq j.ring).started) (hs : e.stamp = j.stamp) (hf : e.flushed = false)
    (hn : ∀ f ∈ s.hif.fences, f.stamp ≠ j.stamp) (status : Nat) (result : BitVec 64) :
    { e with ended := true, ready := some (status, if status < 0x100 then result else 0) } ∈ ((s.complete j status result).sq j.ring).started := by
  unfold State.complete State.completeAt
  refine State.settle_mem ?_ fun f hm => hs ▸ hn f hm
  rw [State.mapStarted, State.sq_setSq]
  exact List.mem_map.2 ⟨e, he, if_pos ⟨hs, hf⟩⟩

/-! ## Malformed descriptors (R64) -/

section
variable {n : Fin 64} {s : State} {d : List Byte} {rest : List (List Byte)} (hr : s.nextRing = some n.val) (hp : (s.sq n).prefetch = d :: rest)
  (hw : wellFormedDesc d (s.sq n).seqNext = false)

/-- The job that the first descriptor of a ring starts as. -/
def State.firstJob (s : State) (n : Nat) (d : List Byte) : Job :=
  { ring := n, stamp := s.hif.stamp, seq := (s.sq n).seqNext, opcode := u8 d 0, owner := (s.sq n).owner, priv := (s.sq n).priv, take := (s.sq n).take, d := d }

/-- The entry of a ring for its first descriptor once it has started. -/
def State.firstEntry (s : State) (n : Nat) (d : List Byte) (halted : Bool) : Started :=
  { stamp := s.hif.stamp, seq := (s.sq n).seqNext, opcode := u8 d 0, irq := ubit d 1 0, halted := halted, flushed := false, ended := false, ready := none }

theorem State.started_sq (s : State) (n : Nat) (d : List Byte) (rest : List (List Byte)) (halted : Bool) : (s.started n d rest halted).sq n =
    { s.sq n with prefetch := rest, seqNext := (s.sq n).seqNext + 1, started := (s.sq n).started ++ [s.firstEntry n d halted] } := State.sq_setSq _ n _

/-- No fence has the stamp that the next descriptor starts with. -/
theorem State.Good.fences_ne {s : State} (g : s.Good) : ∀ f ∈ s.hif.fences, f.stamp ≠ s.hif.stamp := by
  obtain ⟨-, -, -, -, hf⟩ := g.canonical
  exact fun f hm => Nat.ne_of_lt (hf f hm)

include hr hp hw

theorem exec_malformedDescriptor : exec (.malformedDescriptor n) s =
    .next (((s.started n d rest true).complete (s.firstJob n d) csMalformed 0).halt n .malformed (s.sq n).seqNext) := by
  show execMalformedDescriptor n s = _
  simp only [execMalformedDescriptor, hp, hr, hw, State.start_eq hp, decide_true, Bool.not_false, Bool.not_true, Bool.and_true, Bool.and_false,
    Bool.false_eq_true, if_true, if_false]
  rfl

theorem malformedDescriptor_result (g : s.Good) : ∃ t, exec (.malformedDescriptor n) s = .next t ∧
    (t.sq n).state = .halted ∧ (t.sq n).reason = .malformed ∧ (t.sq n).prefetch = [] ∧
    (t.sq n).seqNext = (s.sq n).seqNext + 1 ∧ s.Only t [.subRings, .events, .engine] ∧
    ∃ e ∈ (t.sq n).started, e.stamp = s.hif.stamp ∧ e.seq = (s.sq n).seqNext ∧ e.halted = true ∧ e.ended = true ∧ e.ready = some (csMalformed, 0) := by
  have he := exec_malformedDescriptor hr hp hw
  have hlike := (s.started n d rest true).complete_likeButStarted (s.firstJob n d) csMalformed 0 n
  have hentry : s.firstEntry n d true ∈ ((s.started n d rest true).sq (s.firstJob n d).ring).started := by
    rw [State.firstJob, State.started_sq]
    exact List.mem_append_right _ (List.mem_singleton_self _)
  have hmem := State.complete_mem (s := s.started n d rest true) (j := s.firstJob n d) hentry rfl rfl g.fences_ne csMalformed 0
  refine ⟨_, he, ?_⟩
  rw [State.halt_sq]
  refine ⟨rfl, rfl, rfl, ?_, fun _ hp => exec_frame he hp, _, hmem, rfl, rfl, rfl, rfl, rfl⟩
  have hseq := congrArg Sq.seqNext hlike
  rw [State.started_sq] at hseq
  exact hseq

end

/-! ## OP_NOP (R55) -/

theorem exec_opNop {n : Fin 64} {s u : State} {j : Job} (h : s.Starts n 0xF0 j u) :
    exec (.opNop n) s = .next (u.complete j csOk (BitVec.ofNat 64 (u64 j.d 8))) := congrArg _ (h.runOp rfl _)

theorem opNop_result {n : Fin 64} {s u : State} {j : Job} (g : s.Good) (h : s.Starts n 0xF0 j u) : ∃ t, exec (.opNop n) s = .next t ∧
    t.Answered j csOk (BitVec.ofNat 64 (u64 j.d 8)) ∧ u.Only t [.subRings, .engine] ∧ s.Only t [.subRings, .events, .engine] := by
  have he := exec_opNop h
  exact ⟨_, he, (h.opens g).answered csOk _, (u.complete_within _ _ _).only _ (by decide), fun _ hp => exec_frame he hp⟩

/-- Bytes 16 to 63 of an OP_NOP are reserved. -/
theorem wellFormedDesc_nop {d : List Byte} (seq : BitVec 32) {i : Nat} (ho : u8 d 0 = 0xF0) (h1 : 16 ≤ i) (h2 : i ≤ 63) (hi : u8 d i ≠ 0) :
    wellFormedDesc d seq = false := by
  have hz : zeros d 16 63 = false := by
    rw [zeros, List.all_eq_false]
    exact ⟨i - 16, List.mem_range.2 (by omega), by rw [Nat.add_sub_cancel' h1]; simpa using hi⟩
  have hr : reservedOk d = false := by simp only [reservedOk, ho, hz]
  simp only [wellFormedDesc, hr, Bool.and_false]

/-- Settles O20: the body of OP_NOP completes its job, and a byte that is not 0 stands in the reserved part. -/
theorem nopRule : Obligations.NopRule :=
  ⟨fun _ _ _ _ g h => opNop_result g h, fun _ seq _ ho h1 h2 hi => wellFormedDesc_nop seq ho h1 h2 hi⟩

/-! ## OP_FENCE (R56) -/

/-- The fence of job `j` waits with the others. -/
def State.fenced (s : State) (j : Job) : State := s.updHif fun h => { h with fences := h.fences ++ [s.fenceOf j] }

theorem State.fenced_fences (s : State) (j : Job) : (s.fenced j).hif.fences = s.hif.fences ++ [s.fenceOf j] := rfl

theorem exec_opFence {n : Fin 64} {s u : State} {j : Job} (h : s.Starts n 0xF1 j u) : exec (.opFence n) s = .next (u.fenced j).settle :=
  congrArg _ (h.runOp rfl _)

/-- One fence is settled where its conditions hold. -/
def State.settleFence (s : State) (f : FenceWait) : State :=
  if s.fenceMet f then
    (s.mapStarted f.ring f.stamp fun e => { e with ended := true, ready := some (0, s.phcResult) }).updHif
      fun h => { h with fences := (h.fences.filter fun g => g.stamp ≠ f.stamp) }
  else s

theorem State.settle_eq (s : State) : s.settle = s.hif.fences.foldl State.settleFence s := rfl

theorem State.settleFence_unmet {s : State} {f : FenceWait} (h : s.fenceMet f = false) : s.settleFence f = s := by
  rw [State.settleFence, if_neg (Bool.eq_false_iff.1 h)]

/-- Fences whose conditions do not hold stay. -/
theorem foldl_settleFence_unmet {s : State} {l : List FenceWait} (h : ∀ f ∈ l, s.fenceMet f = false) : l.foldl State.settleFence s = s := by
  induction l with
  | nil => rfl
  | cons f l ih =>
    rw [List.foldl_cons, State.settleFence_unmet (h f (List.mem_cons_self ..))]
    exact ih fun g hg => h g (List.mem_cons_of_mem _ hg)

theorem State.fenced_fenceMet (s : State) (j : Job) (f : FenceWait) : (s.fenced j).fenceMet f = s.fenceMet f := rfl

section
variable {s u : State} {n : Fin 64} {j : Job} (h : s.Starts n 0xF1 j u) (g : s.Good)
include h g

/-- A fence whose conditions hold, where no other's do, is answered with the time. -/
theorem opFence_met (hm : u.fenceMet (u.fenceOf j) = true) (ho : ∀ f ∈ u.hif.fences, u.fenceMet f = false) :
    (u.fenced j).settle.Answered j csOk s.phcResult := by
  obtain ⟨⟨e, he, h1, h2, h3, -, -, h6⟩, -⟩ := h.opens g
  have hphc : (u.fenced j).phcResult = s.phcResult := by
    have htim := h.within.same .phc (by decide)
    simp only [Part.same, Prod.mk.injEq] at htim
    obtain ⟨-, hphc, -⟩ := htim
    simp only [State.phcResult, State.phcNs, State.phcSec, State.fenced, State.updHif_tim, hphc]
  have hfold : (u.fenced j).settle = (u.fenced j).settleFence (u.fenceOf j) := by
    rw [State.settle_eq, State.fenced_fences, List.foldl_append, foldl_settleFence_unmet (s := u.fenced j) ho]
    rfl
  rw [hfold, State.settleFence, State.fenced_fenceMet, if_pos hm, hphc]
  refine ⟨{ e with ended := true, ready := some (0, s.phcResult) }, ?_, h1, h2, h3, rfl, rfl⟩
  show _ ∈ (((u.fenced j).mapStarted j.ring j.stamp _).sq j.ring).started
  rw [State.mapStarted, State.sq_setSq]
  exact List.mem_map.2 ⟨e, he, if_pos ⟨h1, h6⟩⟩

omit h g in
/-- Where no fence's conditions hold, the new one waits with the others. -/
theorem State.settle_fenced_unmet (hu : ∀ f ∈ u.fenceOf j :: u.hif.fences, u.fenceMet f = false) : (u.fenced j).settle = u.fenced j := by
  refine foldl_settleFence_unmet fun f hf => hu f ?_
  rw [State.fenced_fences, List.mem_append, List.mem_singleton] at hf
  exact List.mem_cons.2 hf.symm

theorem opFence_result : ∃ t, exec (.opFence n) s = .next t ∧ s.Only t [.subRings, .events, .engine] ∧
    (u.fenceMet (u.fenceOf j) = true → (∀ f ∈ u.hif.fences, u.fenceMet f = false) → t.Answered j csOk s.phcResult) ∧
    ((∀ f ∈ u.fenceOf j :: u.hif.fences, u.fenceMet f = false) → t.Waits j ∧ u.fenceOf j ∈ t.hif.fences) := by
  have he := exec_opFence h
  refine ⟨_, he, fun _ hp => exec_frame he hp, opFence_met h g, fun hu => ?_⟩
  rw [State.settle_fenced_unmet hu]
  exact ⟨(h.opens g).1, List.mem_append_right _ (List.mem_singleton_self _)⟩

end

/-! ## The obligation -/

/-- Settles O24: clause by clause, each by the lemma above that says what the command does. -/
theorem descriptorsStart : Obligations.DescriptorsStart := by
  refine fun n d s g => ⟨fun h => ⟨⟨_, exec_descriptorFetch h d, rfl⟩, descriptorFetch_failed_result h⟩,
    fun rest hr hp hw => malformedDescriptor_result hr hp hw g, fun j u h => ?_, fun j u h => opFence_result h g⟩
  obtain ⟨t, he, hanswered, -, honly⟩ := opNop_result g h
  exact ⟨t, he, hanswered, honly⟩

end Sys2Proof.Machine
end

section
/-!
SUPPORT. Events: an occurrence that is suppressed, overflows or is staged, the record that is written, the event rings and their interrupts
(R72 to R75, R388, R397, R511 to R514).
-/
namespace Sys2Proof.Machine

/-! ## Occurrences (R511) -/

/-- An occurrence of a source that is off. -/
theorem State.occurBytes_suppressed {s : State} {src : Nat} (h : s.flag (Adr.evtSrc src) 2 = false) (code : Nat) (d : List Byte) :
    s.occurBytes src code d = s.setEvSrc src { s.evSrc src with
      occurred := (s.evSrc src).occurred + 1, suppressed := (s.evSrc src).suppressed + 1 } := if_pos h

/-- An occurrence of a source that is on overflows, or its record joins those staged for its event ring. -/
theorem State.occurBytes_enabled {s : State} {src : Nat} (h : s.flag (Adr.evtSrc src) 2 = true) (code : Nat) (d : List Byte) :
    s.occurBytes src code d = s.setEvSrc src (({ s.evSrc src with occurred := (s.evSrc src).occurred + 1 } : EvSrc).overflow ((s.evSrc src).occurred + 1)) ∨
    s.occurBytes src code d = (s.setEvSrc src { s.evSrc src with occurred := (s.evSrc src).occurred + 1 }).setStaged (s.fget (Adr.evtSrc src) 1 0)
      (s.stagedOf (s.fget (Adr.evtSrc src) 1 0) ++
        [{ source := src, code := code, ns := s.phcNs, sec := s.phcSec, occ := (s.evSrc src).occurred + 1, detail := d }]) := by
  unfold State.occurBytes
  extract_lets e occ e' a k r full record
  rw [if_neg (Bool.not_eq_false _ ▸ h)]
  split
  · exact .inl rfl
  · exact .inr rfl

theorem eventOccurrence_result (src : Fin 320) (code : BitVec 16) (d : List Byte) (s : State) : ∃ t, exec (.eventOccurrence src code d) s = .next t ∧
    s.Only t [.events] ∧
    (s.flag (Adr.evtSrc src) 2 = false →
      t = s.setEvSrc src { s.evSrc src with occurred := (s.evSrc src).occurred + 1, suppressed := (s.evSrc src).suppressed + 1 }) ∧
    (s.flag (Adr.evtSrc src) 2 = true → s.Occurred t src ∧ (t.evSrc src).suppressed = (s.evSrc src).suppressed ∧
      ((t.evSrc src).overflowed = (s.evSrc src).overflowed + 1 ∧ t.hif.staged = s.hif.staged ∨
        (t.evSrc src).overflowed = (s.evSrc src).overflowed ∧
        t.stagedOf (s.fget (Adr.evtSrc src) 1 0) = s.stagedOf (s.fget (Adr.evtSrc src) 1 0) ++
          [{ source := src, code := code.toNat, ns := s.phcNs, sec := s.phcSec, occ := (s.evSrc src).occurred + 1, detail := dmaFit d 12 }])) := by
  refine ⟨_, rfl, (s.occurBytes_within _ _ _).only _ (by decide), fun h => State.occurBytes_suppressed h _ _, fun h => ⟨s.occurBytes_occurred _ _ _, ?_⟩⟩
  rcases State.occurBytes_enabled h code.toNat (dmaFit d 12) with e | e <;> rw [e]
  · rw [State.evSrc_setEvSrc]
    exact ⟨rfl, .inl ⟨rfl, rfl⟩⟩
  · rw [State.evSrc_setStaged, State.evSrc_setEvSrc, State.stagedOf_setStaged]
    exact ⟨rfl, .inr ⟨rfl, rfl⟩⟩

theorem State.occur_only (s : State) (src code : Nat) (d : List (Nat × Nat × Nat)) : s.Only (s.occur src code d) [.events] :=
  (s.occur_within _ _ _).only _ (by decide)

/-! ## The count towards an interrupt (R513) -/

theorem State.interrupt_events (s : State) (v n : Nat) : (s.interrupt v).er n = s.er n ∧ (s.interrupt v).stagedOf n = s.stagedOf n ∧ (s.interrupt v).evSrc n = s.evSrc n :=
  State.events_congr ((s.interrupt_within v).same .events (by decide)) n

/-- The count changes neither the tail of its ring, nor what is staged, nor the ledger of a source. -/
theorem State.signalEr_events (s : State) (k : Nat) (urgent : Bool) (n : Nat) : ((s.signalEr k urgent).er k).tail = (s.er k).tail ∧
    (s.signalEr k urgent).stagedOf n = s.stagedOf n ∧ (s.signalEr k urgent).evSrc n = s.evSrc n := by
  unfold State.signalEr
  extract_lets r unsig
  split
  · obtain ⟨-, hstaged, hsrc⟩ := (s.setEr k { r with unsig := 0 }).interrupt_events r.vector n
    obtain ⟨her, -⟩ := (s.setEr k { r with unsig := 0 }).interrupt_events r.vector k
    rw [her, hstaged, hsrc, State.er_setEr]
    exact ⟨rfl, rfl, rfl⟩
  · rw [State.er_setEr]
    exact ⟨rfl, rfl, rfl⟩

/-! ## Writing a record (R74, R511) -/

/-- The record `r` is written at the tail of ring `k` and delivered, its interrupt not yet counted; `rest` stays staged. -/
def State.recorded (s : State) (k : Nat) (r : EvRec) (rest : List EvRec) : State :=
  let q := s.er k
  ((((s.setStaged k rest).hostWrite (q.base.toNat + 32 * (q.tail.toNat % 2 ^ q.sizeLog2))
    (r.bytes (phaseBit q.tail q.sizeLog2) ((s.evSrc r.source).gap r.occ))).setEvSrc r.source ((s.evSrc r.source).deliver r.occ))).setEr k
    { q with tail := q.tail + 1 }

theorem State.recorded_er (s : State) (k : Nat) (r : EvRec) (rest : List EvRec) : (s.recorded k r rest).er k = { s.er k with tail := (s.er k).tail + 1 } := by
  rw [State.recorded, State.er_setEr]

theorem State.setEr_events (s : State) (k : Nat) (v : Er) (n : Nat) : (s.setEr k v).stagedOf n = s.stagedOf n ∧ (s.setEr k v).evSrc n = s.evSrc n := ⟨rfl, rfl⟩

theorem State.recorded_staged (s : State) (k : Nat) (r : EvRec) (rest : List EvRec) : (s.recorded k r rest).stagedOf k = rest :=
  State.stagedOf_setStaged s k rest

theorem State.recorded_evSrc (s : State) (k : Nat) (r : EvRec) (rest : List EvRec) :
    (s.recorded k r rest).evSrc r.source = (s.evSrc r.source).deliver r.occ := by
  rw [State.recorded, (State.setEr_events _ _ _ _).2, State.evSrc_setEvSrc]

/-- The write of record `r` failed: its ring is off, the occurrence has overflowed (R511). -/
def State.recordFailed (s : State) (k : Nat) (r : EvRec) (rest : List EvRec) : State :=
  ((s.setStaged k rest).setEvSrc r.source ((s.evSrc r.source).overflow r.occ)).setEr k { s.er k with enable := false }

theorem State.recordFailed_within (s : State) (k : Nat) (r : EvRec) (rest : List EvRec) : Within (maskOf [.events]) s (s.recordFailed k r rest) :=
  (State.setEr_within _ _ _).via (by decide) ((State.setEvSrc_within _ _ _).via (by decide) (s.setStaged_within _ _))

section
variable {k : Fin 4} {s : State} {r : EvRec} {rest : List EvRec} (hs : s.stagedOf k = r :: rest) (hd : s.hif.d3hot = false)
  (he : (s.er k).enable = true) (hroom : ((s.er k).tail - (s.er k).head).toNat < 2 ^ (s.er k).sizeLog2)
include hs hd he hroom

theorem exec_eventRecordWrite_ok : exec (.eventRecordWrite k true) s =
    .next ((s.recorded k r rest).signalEr k ((s.recorded k r rest).flag (Adr.evtSrc r.source) 3)) := by
  have her : (s.setStaged k rest).er k = s.er k := rfl
  show execEventRecordWrite k true s = _
  simp only [execEventRecordWrite, State.recorded, hd, hs, her, he, Nat.not_le.2 hroom, Bool.true_eq_false, Bool.false_eq_true, or_self, if_false, if_true]

theorem exec_eventRecordWrite_failed : exec (.eventRecordWrite k false) s = .next (s.recordFailed k r rest) := by
  have her : (s.setStaged k rest).er k = s.er k := rfl
  show execEventRecordWrite k false s = _
  simp only [execEventRecordWrite, hd, hs, her, he, Nat.not_le.2 hroom, Bool.true_eq_false, Bool.false_eq_true, or_self, if_false]
  rfl

theorem eventRecordWrite_result (ok : Bool) : ∃ t, exec (.eventRecordWrite k ok) s = .next t ∧ t.stagedOf k = rest ∧
    (ok = true → (t.er k).tail = (s.er k).tail + 1 ∧ (t.evSrc r.source).delivered = (s.evSrc r.source).delivered + 1 ∧
      s.Only t [.events, .hostMem, .irq]) ∧
    (ok = false → (t.er k).enable = false ∧ (t.evSrc r.source).overflowed = (s.evSrc r.source).overflowed + 1 ∧ s.Only t [.events]) := by
  cases ok with
  | true =>
    have hx := exec_eventRecordWrite_ok hs hd he hroom
    obtain ⟨-, hstaged, -⟩ := (s.recorded k r rest).signalEr_events k ((s.recorded k r rest).flag (Adr.evtSrc r.source) 3) k
    obtain ⟨htail, -, hsrc⟩ := (s.recorded k r rest).signalEr_events k ((s.recorded k r rest).flag (Adr.evtSrc r.source) 3) r.source
    refine ⟨_, hx, hstaged.trans (s.recorded_staged _ _ _), fun _ => ⟨?_, ?_, fun _ hp => exec_frame hx hp⟩, nofun⟩
    · rw [htail, State.recorded_er]
    · rw [hsrc, State.recorded_evSrc]
      rfl
  | false =>
    refine ⟨_, exec_eventRecordWrite_failed hs hd he hroom, State.stagedOf_setStaged s k rest, nofun,
      fun _ => ⟨?_, ?_, (s.recordFailed_within _ _ _).only _ (by decide)⟩⟩
    · rw [State.recordFailed, State.er_setEr]
    · rw [State.recordFailed, (State.setEr_events _ _ _ _).2, State.evSrc_setEvSrc]
      rfl

end

/-! ## Event rings (R42, R73, R513) -/

theorem State.writeErCtl_enable {s : State} {k v : Nat} (h : (s.er k).enable = false) (h0 : bits v 0 0 = 1) :
    s.writeErCtl k v = s.setEr k (if 4 ≤ bits v 7 4 ∧ bits v 7 4 ≤ 14 then
        { s.er k with enable := true, sizeLog2 := bits v 7 4, vector := bits v 13 8, head := 0, tail := 0, unsig := 0 }
      else { s.er k with sizeLog2 := bits v 7 4, vector := bits v 13 8 }) := by
  unfold State.writeErCtl
  generalize s.er k = q at h ⊢
  cases q
  subst h
  by_cases hsize : 4 ≤ bits v 7 4 ∧ bits v 7 4 ≤ 14 <;> simp [h0, hsize]

theorem exec_eventRingEnable {k : Fin 4} {s : State} (h : (s.er k).enable = false) (v : BitVec 32) :
    exec (.eventRingEnable k v) s = .next (s.setEr k (if 4 ≤ bits v.toNat 7 4 ∧ bits v.toNat 7 4 ≤ 14 then
        { s.er k with enable := true, sizeLog2 := bits v.toNat 7 4, vector := bits v.toNat 13 8, head := 0, tail := 0, unsig := 0 }
      else { s.er k with sizeLog2 := bits v.toNat 7 4, vector := bits v.toNat 13 8 })) := by
  have h0 : bits (putBits v.toNat 0 0 1) 0 0 = 1 := by rw [bits_putBits_low _ _ (le_refl 0)]; rfl
  have field : ∀ hi lo, 0 < lo → bits (putBits v.toNat 0 0 1) hi lo = bits v.toNat hi lo := fun _ _ hl => bits_putBits_above _ _ (by decide) hl
  show Host.Outcome.next (s.writeErCtl k (putBits v.toNat 0 0 1)) = _
  rw [State.writeErCtl_enable h h0, field 7 4 (by decide), field 13 8 (by decide)]

theorem exec_eventRingTimer {k : Fin 4} {s : State} (ht : s.fget (Adr.erMod k) 17 8 ≠ 0) (hu : (s.er k).unsig ≠ 0)
    (h : (s.er k).firstUnsig + usTicks (s.fget (Adr.erMod k) 17 8) ≤ s.now) :
    exec (.eventRingTimer k) s = .next ((s.setEr k { s.er k with unsig := 0 }).interrupt (s.er k).vector) := congrArg _ (if_pos ⟨ht, hu, h⟩)

/-! ## Software events, errors of the link, D3hot (R388, R397, R514) -/

theorem swRaise_result (v : BitVec 32) (s : State) : ∃ t, exec (.swRaise v) s = .next t ∧ s.Only t [.events] ∧ s.Occurred t (312 + bits v.toNat 2 0) :=
  ⟨_, rfl, s.occur_only _ _ _, s.occur_occurred _ _ _⟩

theorem pcieAerError_result (sev : Fin 3) (v : BitVec 32) (s : State) : ∃ t, exec (.pcieAerError sev v) s = .next t ∧ s.Only t [.events] ∧ s.Occurred t 275 :=
  ⟨_, rfl, s.occur_only _ _ _, s.occur_occurred _ _ _⟩

theorem exec_d3hotEntry (s : State) : exec .d3hotEntry s = .next (s.updHif fun h => { h with d3hot := true }) := rfl

theorem d3hotEntry_result (s : State) : ∃ t, exec .d3hotEntry s = .next t ∧ s.Only t [.d3hot] ∧ t.hif.d3hot = true :=
  ⟨_, exec_d3hotEntry s, fun _ hp => exec_frame (exec_d3hotEntry s) hp, rfl⟩

/-! ## The obligation -/

/-- Settles O25: clause by clause, each by the lemma above that says what the command does. -/
theorem eventRings : Obligations.EventRings := fun _ src code d v sev ok s =>
  ⟨eventOccurrence_result src code d s, fun _ _ hs hd he hroom => eventRecordWrite_result hs hd he hroom ok,
    fun h => ⟨_, exec_eventRingEnable h v, rfl⟩, fun ht hu h => ⟨_, exec_eventRingTimer ht hu h, rfl⟩,
    swRaise_result v s, pcieAerError_result sev v s, d3hotEntry_result s⟩

end Sys2Proof.Machine
end

section
/-!
SUPPORT. The expert path on a head: OP_HEAD_SET, OP_LAYER_SET, OP_HEAD_STOP, OP_LEAVE_REQ and OP_LEAVE_RET (R79, R154 to R157, R402 to R405).
-/
namespace Sys2Proof.Machine

/-! ## What a start and a completion leave alone -/

section
variable {s u : State} {n opc : Nat} {j : Job} (h : s.Starts n opc j u)
include h

theorem State.Starts.heads : u.hds.heads = s.hds.heads := h.within.same .heads (by decide)
theorem State.Starts.head (k : Nat) : u.head k = s.head k := State.head_congr h.heads k
theorem State.Starts.free : u.lv.powFree = s.lv.powFree ∧ u.lv.fetFree = s.lv.fetFree := by
  have e := h.within.same .leave (by decide)
  simp only [Part.same, Prod.mk.injEq] at e
  exact ⟨e.1, e.2.1⟩
theorem State.Starts.dike (k : Nat) : u.dike k = s.dike k := State.dike_congr (congrArg Prod.fst (h.within.same .dikes (by decide))) k

/-- A job whose work changes neither rings nor engine is answered once it completes. -/
theorem State.Starts.answered {v : State} {m : Nat} (g : s.Good) (w : Within m u v) (h4 : m.testBit 4 = false) (h10 : m.testBit 10 = false)
    (status : Nat) (result : BitVec 64) : (v.complete j status result).Answered j status (if status < 0x100 then result else 0) :=
  ((h.opens g).within w h4 h10).answered status result

end

theorem State.complete_head (s : State) (j : Job) (status : Nat) (result : BitVec 64) (k : Nat) : (s.complete j status result).head k = s.head k :=
  State.head_congr ((s.complete_within j status result).same .heads (by decide)) k

theorem State.complete_free (s : State) (j : Job) (status : Nat) (result : BitVec 64) :
    (s.complete j status result).lv.powFree = s.lv.powFree ∧ (s.complete j status result).lv.fetFree = s.lv.fetFree := by
  have e := (s.complete_within j status result).same .leave (by decide)
  simp only [Part.same, Prod.mk.injEq] at e
  exact ⟨e.1, e.2.1⟩

/-! ## Claims of a head (R79) -/

theorem State.lastOf_congr {s t : State} (e : t.hds.heads = s.hds.heads) (h : Nat) : t.lastOf h = s.lastOf h := by
  simp only [State.lastOf, State.feeder, State.queued, State.heads, State.head_congr e, e]

theorem State.claimHead_head (s : State) (h owner : Nat) : (s.claimHead h owner).head h = { s.head h with
    owner := owner, managed := .software, shadow := (if (s.head h).managed = .module then s.lastOf h else (s.head h).shadow), trans := none,
    leaving := false } := State.head_updHead s h _

theorem State.claimHead_head_congr {s t : State} (e : t.hds.heads = s.hds.heads) (h owner : Nat) :
    (t.claimHead h owner).head h = (s.claimHead h owner).head h := by
  simp only [State.claimHead_head, State.head_congr e, State.lastOf_congr e]

/-! ## OP_HEAD_SET (R154) -/

section
variable {n : Fin 64} {s u : State} {j : Job} (h : s.Starts n 0x10 j u) (hbad : headSetBad j.d = false) (hown : j.mayUse (s.head (u16 j.d 8)).owner = true)
include h hbad hown

/-- The fields of OP_HEAD_SET go to the shadow of the head that it claims. -/
theorem exec_opHeadSet : exec (.opHeadSet n) s = .next (((u.claimHead (u16 j.d 8) j.owner).updHead (u16 j.d 8)
    fun x => { x with shadow := x.shadow.headSet j.d }).complete j csOk 0) := by
  show execOpHeadSet n s = _
  rw [execOpHeadSet, h.runOp rfl]
  simp only [firstFail, hbad, h.head, hown, Bool.not_true, Bool.false_eq_true, if_false]

theorem opHeadSet_result (g : s.Good) : ∃ t, exec (.opHeadSet n) s = .next t ∧ t.Answered j csOk 0 ∧
    t.head (u16 j.d 8) = { s.head (u16 j.d 8) with
      owner := j.owner, managed := .software, trans := none, leaving := false,
      shadow := (if (s.head (u16 j.d 8)).managed = .module then s.lastOf (u16 j.d 8) else (s.head (u16 j.d 8)).shadow).headSet j.d } := by
  refine ⟨_, exec_opHeadSet h hbad hown, ?_, ?_⟩
  · exact h.answered g ((State.updHead_within _ _ _).via (by decide) (u.claimHead_within _ _)) (by decide) (by decide) _ _
  · rw [State.complete_head, State.head_updHead, State.claimHead_head_congr h.heads, State.claimHead_head]

end

/-! ## OP_LAYER_SET (R155, R156) -/

section
variable {n : Fin 64} {s u : State} {j : Job} (h : s.Starts n 0x11 j u) (hbad : layerSetBad j.d = false) (hown : j.mayUse (s.head (u16 j.d 8)).owner = true)
  (hdike : ((s.claimHead (u16 j.d 8) j.owner).head (u16 j.d 8)).shadow.dike = false ∨ u8 j.d 10 ≠ 7)
include h hbad hown hdike

theorem exec_opLayerSet : exec (.opLayerSet n) s = .next (((u.claimHead (u16 j.d 8) j.owner).updHead (u16 j.d 8)
    fun x => { x with shadow := { x.shadow with layers := x.shadow.layers.set (u8 j.d 10) (layerOf j.d) } }).complete j csOk 0) := by
  have hfree : (((s.claimHead (u16 j.d 8) j.owner).head (u16 j.d 8)).shadow.dike && u8 j.d 10 == 7) = false := by
    rwa [Bool.and_eq_false_iff, beq_eq_false_iff_ne]
  show execOpLayerSet n s = _
  rw [execOpLayerSet, h.runOp rfl]
  simp only [firstFail, hbad, h.head, hown, State.claimHead_head_congr h.heads, hfree, Bool.not_true, Bool.false_eq_true, if_false]

theorem opLayerSet_result (g : s.Good) : ∃ t, exec (.opLayerSet n) s = .next t ∧ t.Answered j csOk 0 ∧ (t.head (u16 j.d 8)).owner = j.owner ∧
    (t.head (u16 j.d 8)).managed = .software ∧
    (t.head (u16 j.d 8)).shadow.layers = (((s.claimHead (u16 j.d 8) j.owner).head (u16 j.d 8)).shadow.layers.set (u8 j.d 10) (layerOf j.d)) ∧
    (t.head (u16 j.d 8)).applied = (s.head (u16 j.d 8)).applied := by
  refine ⟨_, exec_opLayerSet h hbad hown hdike, ?_, ?_⟩
  · exact h.answered g ((State.updHead_within _ _ _).via (by decide) (u.claimHead_within _ _)) (by decide) (by decide) _ _
  · rw [State.complete_head, State.head_updHead, State.claimHead_head_congr h.heads, State.claimHead_head]
    exact ⟨rfl, rfl, rfl, rfl⟩

end

/-! ## OP_HEAD_STOP (R157) -/

/-- A head that becomes free has no owner and no grants. -/
theorem State.freeHead_head (s : State) (h : Nat) : ((s.freeHead h).head h).managed = .free ∧ ((s.freeHead h).head h).owner = 0 ∧
    ((s.freeHead h).head h).fetchGrant = 0 ∧ ((s.freeHead h).head h).powerGrant = 0 := by
  unfold State.freeHead
  extract_lets x s1 s2 s3
  rw [State.head_congr ((s3.leaveRet_within _ _).same .heads (by decide)), State.head_setHead]
  exact ⟨rfl, rfl, rfl, rfl⟩

/-- A stop that is queued is the last of the head's queue. -/
theorem State.enqueue_queue (s : State) (h : Nat) (c : Commit) : ((s.enqueue h c).head h).queue = (s.head h).queue ++ [c] := by
  have hrefs : (s.takeRefs c.refs).head h = s.head h := State.head_congr ((s.takeRefs_within c.refs).same .heads (by decide)) h
  unfold State.enqueue
  extract_lets s1 x y s2
  have hq : (s2.head h).queue = (s.head h).queue ++ [c] := by
    rw [State.head_setHead, ← hrefs]
  split
  · rw [State.head_congr ((s2.sluiceMiss_within h).same .heads (by decide)), hq]
  · exact hq

/-- The commit that OP_HEAD_STOP queues. -/
def State.stopCommit (s : State) (j : Job) (x : Head) : Commit :=
  { j.commit .stop HeadCfg.reset .asap none false with peak := s.needMost x }

section
variable {n : Fin 64} {s u : State} {j : Job} (h : s.Starts n 0x13 j u) (hmax : u16 j.d 8 ≤ 255) (hman : (s.head (u16 j.d 8)).managed ≠ .free)
  (hown : j.mayUse (s.head (u16 j.d 8)).owner = true) (hstop : (s.head (u16 j.d 8)).stopping = false)
  (hdike : (s.head (u16 j.d 8)).last.dike = false ∨ (j.priv = true ∧ (s.dike (u16 j.d 8)).frozen = false))
include h hmax hman hown hstop hdike

theorem exec_opHeadStop : exec (.opHeadStop n) s =
    .next (if (s.head (u16 j.d 8)).run = .stopped ∧ (s.head (u16 j.d 8)).queue = [] then
        (u.freeHead (u16 j.d 8)).complete j csOk (BitVec.ofNat 64 (s.head (u16 j.d 8)).instar.toNat)
      else (u.enqueue (u16 j.d 8) (u.stopCommit j (s.head (u16 j.d 8)))).endOp j) := by
  have hstate : ((s.head (u16 j.d 8)).stopping || ((s.head (u16 j.d 8)).last.dike && (!j.priv || (s.dike (u16 j.d 8)).frozen))) = false := by
    rcases hdike with hd | ⟨hp, hf⟩
    · simp [hstop, hd]
    · simp [hstop, hp, hf]
  show execOpHeadStop n s = _
  rw [execOpHeadStop, h.runOp rfl]
  simp only [firstFail, h.head, h.dike, Nat.not_lt.2 hmax, hman, hown, hstate, decide_false, Bool.not_true, Bool.false_eq_true, if_false]
  rfl

theorem opHeadStop_result (g : s.Good) : ∃ t, exec (.opHeadStop n) s = .next t ∧
    ((s.head (u16 j.d 8)).run = .stopped ∧ (s.head (u16 j.d 8)).queue = [] →
      t.Answered j csOk (BitVec.ofNat 64 (s.head (u16 j.d 8)).instar.toNat) ∧ (t.head (u16 j.d 8)).managed = .free ∧ (t.head (u16 j.d 8)).owner = 0 ∧
      (t.head (u16 j.d 8)).fetchGrant = 0 ∧ (t.head (u16 j.d 8)).powerGrant = 0) ∧
    (¬((s.head (u16 j.d 8)).run = .stopped ∧ (s.head (u16 j.d 8)).queue = []) → t.Ended j ∧
      ∃ c, (t.head (u16 j.d 8)).queue = (s.head (u16 j.d 8)).queue ++ [c] ∧ c.kind = .stop ∧ c.ring = j.ring ∧ c.stamp = j.stamp ∧ c.seq = j.seq) := by
  refine ⟨_, exec_opHeadStop h hmax hman hown hstop hdike, fun hidle => ?_, fun hbusy => ?_⟩
  · rw [if_pos hidle, State.complete_head]
    exact ⟨h.answered g (u.freeHead_within _) (by decide) (by decide) _ _, u.freeHead_head _⟩
  · rw [if_neg hbusy]
    refine ⟨((h.opens g).within (u.enqueue_within _ _) (by decide) (by decide)).ended, u.stopCommit j (s.head (u16 j.d 8)), ?_, rfl, rfl, rfl, rfl⟩
    rw [State.head_congr ((State.endOp_within _ _).same .heads (by decide)), State.enqueue_queue, h.head]

end

/-! ## OP_LEAVE_REQ (R402, R404) -/

theorem leaveAsk_granted {s : State} {p f : Nat} (h : s.leaveFits p f = true) (owner : Nat) : s.leaveAsk owner p f = (true, s.leaveTake p f) := if_pos h

theorem State.leaveTake_free (s : State) (p f : Nat) :
    (s.leaveTake p f).lv.powFree = s.lv.powFree - p ∧ (s.leaveTake p f).lv.fetFree = s.lv.fetFree - f := ⟨rfl, rfl⟩

theorem State.claimHead_lv (s : State) (h owner : Nat) : (s.claimHead h owner).lv = s.lv := rfl

section
variable {n : Fin 64} {s u : State} {j : Job} (h : s.Starts n 0x60 j u) (hbad : leaveBad j.d = false) (hown : j.mayUse (s.head (u16 j.d 8)).owner = true)
  (hman : (s.head (u16 j.d 8)).managed ≠ .module) (hfits : u.leaveFits (u16 j.d 12) (u16 j.d 14) = true)

/-- The head has been claimed and holds what OP_LEAVE_REQ was granted. -/
def State.granted (s : State) (h owner p f : Nat) : State :=
  ((s.leaveTake p f).claimHead h owner).updHead h fun x => { x with powerGrant := x.powerGrant + p, fetchGrant := x.fetchGrant + f }

theorem State.granted_head (s : State) (h owner p f : Nat) : ((s.granted h owner p f).head h).powerGrant = (s.head h).powerGrant + p ∧
    ((s.granted h owner p f).head h).fetchGrant = (s.head h).fetchGrant + f := by
  have hh : (s.leaveTake p f).head h = s.head h := rfl
  rw [State.granted, State.head_updHead, State.claimHead_head, hh]
  exact ⟨rfl, rfl⟩

theorem State.granted_within {s : State} {p f : Nat} (hle : p ≤ s.lv.powFree ∧ f ≤ s.lv.fetFree) (h owner : Nat) :
    Within (maskOf [.ledger, .heads, .leave]) s (s.granted h owner p f) :=
  (State.updHead_within _ _ _).via (by decide) ((State.claimHead_within _ _ _).via (by decide) ((s.leaveTake_within p f hle).mono (by decide)))

/-- The answer of OP_LEAVE_REQ. -/
def State.leaveReqResult (s : State) (j : Job) : BitVec 64 :=
  leaveResult ((s.head (u16 j.d 8)).powerGrant + u16 j.d 12) ((s.head (u16 j.d 8)).fetchGrant + u16 j.d 14)
    (s.lv.powFree - u16 j.d 12) (s.lv.fetFree - u16 j.d 14)

include h hbad hown hman hfits

theorem exec_opLeaveReq : exec (.opLeaveReq n) s =
    .next (if ubit j.d 10 0 = true then u.complete j csOk (s.leaveReqResult j)
      else (u.granted (u16 j.d 8) j.owner (u16 j.d 12) (u16 j.d 14)).complete j csOk (s.leaveReqResult j)) := by
  obtain ⟨hp, hf⟩ := h.free
  show execOpLeaveReq n s = _
  rw [execOpLeaveReq, h.runOp rfl]
  simp only [firstFail, h.head, hbad, hown, hman, hfits, leaveAsk_granted hfits, State.updHead_lv, State.claimHead_lv, State.leaveTake_free, hp, hf, decide_false, Bool.not_true,
    Bool.false_eq_true, if_false, if_true]
  rfl

theorem opLeaveReq_result (g : s.Good) : ∃ t, exec (.opLeaveReq n) s = .next t ∧ t.Answered j csOk (s.leaveReqResult j) ∧
    (ubit j.d 10 0 = false → t.lv.powFree = s.lv.powFree - u16 j.d 12 ∧ t.lv.fetFree = s.lv.fetFree - u16 j.d 14 ∧
      (t.head (u16 j.d 8)).powerGrant = (s.head (u16 j.d 8)).powerGrant + u16 j.d 12 ∧
      (t.head (u16 j.d 8)).fetchGrant = (s.head (u16 j.d 8)).fetchGrant + u16 j.d 14) ∧
    (ubit j.d 10 0 = true → t.lv.powFree = s.lv.powFree ∧ t.lv.fetFree = s.lv.fetFree ∧ t.hds.heads = s.hds.heads) := by
  obtain ⟨hp, hf⟩ := h.free
  refine ⟨_, exec_opLeaveReq h hbad hown hman hfits, ?_⟩
  cases hdry : ubit j.d 10 0
  · rw [if_neg (by decide), State.complete_head]
    have w := State.granted_within (State.leaveFits_le hfits) (u16 j.d 8) j.owner
    obtain ⟨hpow, hfet⟩ := u.granted_head (u16 j.d 8) j.owner (u16 j.d 12) (u16 j.d 14)
    obtain ⟨cp, cf⟩ := (u.granted (u16 j.d 8) j.owner (u16 j.d 12) (u16 j.d 14)).complete_free j csOk (s.leaveReqResult j)
    refine ⟨h.answered g w (by decide) (by decide) _ _, fun _ => ⟨?_, ?_, ?_, ?_⟩, nofun⟩
    · rw [cp, ← hp]; rfl
    · rw [cf, ← hf]; rfl
    · rw [hpow, h.head]
    · rw [hfet, h.head]
  · rw [if_pos rfl]
    obtain ⟨cp, cf⟩ := u.complete_free j csOk (s.leaveReqResult j)
    exact ⟨(h.opens g).answered csOk _, nofun, fun _ => ⟨cp.trans hp, cf.trans hf, ((u.complete_within _ _ _).same .heads (by decide)).trans h.heads⟩⟩

end

/-! ## OP_LEAVE_RET (R403, R405) -/

section
variable {n : Fin 64} {s u : State} {j : Job} (h : s.Starts n 0x61 j u) (hbad : leaveBad j.d = false) (hdry : ubit j.d 10 0 = false)
  (hman : (s.head (u16 j.d 8)).managed = .software) (hown : j.mayUse (s.head (u16 j.d 8)).owner = true)
  (hfet : u16 j.d 14 + u.needMost (s.head (u16 j.d 8)) ≤ (s.head (u16 j.d 8)).fetchGrant)
  (hpow : u16 j.d 12 + (if (s.head (u16 j.d 8)).active then 6 else 0) ≤ (s.head (u16 j.d 8)).powerGrant)

/-- What OP_LEAVE_RET leaves the head, and the tokens are free. -/
def State.returned (s : State) (j : Job) (x : Head) : State :=
  (s.setHead (u16 j.d 8) { x with powerGrant := x.powerGrant - u16 j.d 12, fetchGrant := x.fetchGrant - u16 j.d 14, owner := j.owner }).leaveRet
    (u16 j.d 12) (u16 j.d 14)

theorem State.returned_head (s : State) (j : Job) (x : Head) : (s.returned j x).head (u16 j.d 8) =
    { x with powerGrant := x.powerGrant - u16 j.d 12, fetchGrant := x.fetchGrant - u16 j.d 14, owner := j.owner } := by
  rw [State.returned, State.head_congr ((State.leaveRet_within _ _ _).same .heads (by decide)), State.head_setHead]

theorem State.returned_within (s : State) (j : Job) (x : Head) : Within (maskOf [.regs, .ledger, .events, .heads, .leave]) s (s.returned j x) :=
  (State.leaveRet_within _ _ _).via (by decide) ((s.setHead_within _ _).mono (by decide))

include h hbad hdry hman hown hfet hpow

theorem exec_opLeaveRet : exec (.opLeaveRet n) s = .next ((u.returned j (s.head (u16 j.d 8))).complete j csOk
    (leaveResult ((s.head (u16 j.d 8)).powerGrant - u16 j.d 12) ((s.head (u16 j.d 8)).fetchGrant - u16 j.d 14)
      (u.returned j (s.head (u16 j.d 8))).lv.powFree (u.returned j (s.head (u16 j.d 8))).lv.fetFree)) := by
  have hpow' : u16 j.d 12 ≤ (s.head (u16 j.d 8)).powerGrant := Nat.le_of_add_right_le hpow
  have hactive : ((s.head (u16 j.d 8)).active && decide ((s.head (u16 j.d 8)).powerGrant < u16 j.d 12 + 6)) = false := by
    rw [Bool.and_eq_false_imp]
    intro ha
    rw [if_pos ha] at hpow
    exact decide_eq_false (Nat.not_lt.2 hpow)
  have hheld : ¬((s.head (u16 j.d 8)).powerGrant < u16 j.d 12 ∨ (s.head (u16 j.d 8)).fetchGrant < u16 j.d 14) := by omega
  show execOpLeaveRet n s = _
  rw [execOpLeaveRet, h.runOp rfl]
  simp only [State.returned, firstFail, h.head, hbad, hdry, hman, hown, Nat.not_lt.2 hfet, hactive, hheld, reduceCtorEq, decide_false, Bool.or_self,
    Bool.not_true, Bool.false_eq_true, if_false]

theorem opLeaveRet_result (g : s.Good) : ∃ t, exec (.opLeaveRet n) s = .next t ∧
    t.Answered j csOk (leaveResult ((s.head (u16 j.d 8)).powerGrant - u16 j.d 12) ((s.head (u16 j.d 8)).fetchGrant - u16 j.d 14) t.lv.powFree t.lv.fetFree) ∧
    t.head (u16 j.d 8) = { s.head (u16 j.d 8) with
      powerGrant := (s.head (u16 j.d 8)).powerGrant - u16 j.d 12, fetchGrant := (s.head (u16 j.d 8)).fetchGrant - u16 j.d 14, owner := j.owner } := by
  refine ⟨_, exec_opLeaveRet h hbad hdry hman hown hfet hpow, ?_, ?_⟩
  · obtain ⟨cp, cf⟩ := (u.returned j (s.head (u16 j.d 8))).complete_free j csOk
      (leaveResult ((s.head (u16 j.d 8)).powerGrant - u16 j.d 12) ((s.head (u16 j.d 8)).fetchGrant - u16 j.d 14)
        (u.returned j (s.head (u16 j.d 8))).lv.powFree (u.returned j (s.head (u16 j.d 8))).lv.fetFree)
    rw [cp, cf]
    exact h.answered g (u.returned_within _ _) (by decide) (by decide) _ _
  · rw [State.complete_head, State.returned_head]

end

/-! ## The obligation -/

/-- Settles O30: clause by clause, each by the lemma above that says what the opcode does. -/
theorem headSetUp : Obligations.HeadSetUp := fun _ _ g =>
  ⟨fun _ _ h hbad hown => opHeadSet_result h hbad hown g, fun _ _ h hbad hown hdike => opLayerSet_result h hbad hown hdike g,
    fun _ _ h hmax hman hown hstop hdike => opHeadStop_result h hmax hman hown hstop hdike g,
    fun _ _ h hbad hown hman hfits => opLeaveReq_result h hbad hown hman hfits g,
    fun _ _ h hbad hdry hman hown hfet hpow => opLeaveRet_result h hbad hdry hman hown hfet hpow g⟩

end Sys2Proof.Machine
end

section
/-!
SUPPORT. The resets: registers that return to their values after power-on, FLR, MOD_RST_N, power-on reset and power fail (R9, R44, R70, R496, R499).
-/
namespace Sys2Proof.Machine

/-! ## Writing every listed index of a sparse table -/

namespace Tab
variable {α : Type}

theorem le_of_sortedAbove : ∀ {b : Nat} {t : Tab α}, sortedAbove b t = true → ∀ i ∈ t.map Prod.fst, b ≤ i
  | b, (k, v) :: t, ht, i, hi => by
    simp only [sortedAbove, Bool.and_eq_true, decide_eq_true_eq] at ht
    rcases List.mem_cons.1 hi with rfl | hi
    · exact ht.1
    · have := le_of_sortedAbove ht.2 i hi
      omega

theorem get_of_notMem (d : Nat → α) {i : Nat} : ∀ {t : Tab α}, i ∉ t.map Prod.fst → get d t i = d i
  | [], _ => rfl
  | (k, v) :: t, h => by
    simp only [List.map_cons, List.mem_cons, not_or] at h
    rw [get, if_neg (Ne.symm h.1), get_of_notMem d h.2]

variable [DecidableEq α] (d : Nat → α) (f : Nat → α → α)

theorem get_foldl_set_of_notMem {i : Nat} : ∀ {l : Tab α} (u : Tab α), i ∉ l.map Prod.fst →
    get d (l.foldl (fun t e => set d t e.1 (f e.1 e.2)) u) i = get d u i
  | [], _, _ => rfl
  | (k, v) :: l, u, h => by
    simp only [List.map_cons, List.mem_cons, not_or] at h
    rw [List.foldl_cons, get_foldl_set_of_notMem _ h.2, get_set_ne d u _ h.1]

/-- In a list that rises, each index is written once: with what `f` makes of its value. -/
theorem get_foldl_set_of_mem {i : Nat} : ∀ {b : Nat} {l : Tab α} (u : Tab α), sortedAbove b l = true → i ∈ l.map Prod.fst →
    get d (l.foldl (fun t e => set d t e.1 (f e.1 e.2)) u) i = f i (get d l i)
  | b, (k, v) :: l, u, hl, hi => by
    simp only [sortedAbove, Bool.and_eq_true, decide_eq_true_eq] at hl
    rw [List.foldl_cons, get]
    by_cases hk : k = i
    · subst hk
      have hn : k ∉ l.map Prod.fst := fun hm => absurd (le_of_sortedAbove hl.2 k hm) (by omega)
      rw [get_foldl_set_of_notMem d f _ hn, get_set_self, if_pos rfl]
    · rw [if_neg hk, get_foldl_set_of_mem _ hl.2 ((List.mem_cons.1 hi).resolve_left (Ne.symm hk))]

end Tab

/-! ## The register file after a reset -/

section
variable {s : State} (keep : Nat → Fld → Bool) (a : Nat)

/-- A register that differs from its value after power-on is listed, and takes what the reset makes of it. -/
theorem State.rd_resetRegs_of_mem (g : s.Good) (h : a ∈ s.regs.map Prod.fst) : (s.resetRegs keep).rd a = regAfter keep a (s.rd a) % 2 ^ 32 := by
  have hs : Tab.sortedAbove 0 s.regs = true := (Bool.and_eq_true_iff.1 g.canonical.1).1
  exact congrArg BitVec.toNat (Tab.get_foldl_set_of_mem powerOn (fun a v => BitVec.ofNat 32 (regAfter keep a v.toNat)) s.regs hs h)

theorem State.rd_of_notMem (h : a ∉ s.regs.map Prod.fst) : s.rd a = (powerOn a).toNat := congrArg BitVec.toNat (Tab.get_of_notMem powerOn h)

theorem State.rd_resetRegs_of_notMem (h : a ∉ s.regs.map Prod.fst) : (s.resetRegs keep).rd a = s.rd a :=
  congrArg BitVec.toNat (Tab.get_foldl_set_of_notMem powerOn (fun a v => BitVec.ofNat 32 (regAfter keep a v.toNat)) s.regs h)

theorem regAfter_of_unkept {keep : Nat → Fld → Bool} {a : Nat} {r : RegRow} {x : Nat × Nat} (hf : findReg a = some (r, x))
    (h : ∀ f ∈ r.fields, keep a f = false) (v : Nat) : BitVec.ofNat 32 (regAfter keep a v) = powerOn a := by
  obtain ⟨i, j⟩ := x
  have hm : (r.fields.map fun f => if keep a f then bits v f.hi f.lo * 2 ^ f.lo else f.powerOn i) = r.fields.map fun f => f.powerOn i :=
    List.map_congr_left fun f hfm => by rw [h f hfm, if_neg Bool.false_ne_true]
  simp only [regAfter, powerOn, hf, hm]

/-- The registers of which a reset keeps no field read as after power-on (R9). -/
theorem State.resetRegs_defaults (g : s.Good) (but : List Nat) : (s.resetRegs keep).Defaults keep but := by
  intro a r x hf hk _
  by_cases h : a ∈ s.regs.map Prod.fst
  · rw [State.rd_resetRegs_of_mem keep a g h, ← regAfter_of_unkept hf hk (s.rd a), BitVec.toNat_ofNat]
  · rw [State.rd_resetRegs_of_notMem keep a h, State.rd_of_notMem a h]

theorem State.resetRegs_keepsWords (g : s.Good) : s.KeepsWords (s.resetRegs keep) keep := by
  intro a r x f hf hr hhi hlo hk
  by_cases h : a ∈ s.regs.map Prod.fst
  · have hv : regAfter keep a (s.rd a) = bits (s.rd a) 31 0 := by
      simp only [regAfter, hf, hr, List.map_cons, List.map_nil, List.foldl_cons, List.foldl_nil, hk, hhi, hlo, if_true]
      omega
    have hw : s.rd a < 2 ^ 32 := BitVec.isLt _
    rw [State.rd_resetRegs_of_mem keep a g h, hv, bits]
    omega
  · exact State.rd_resetRegs_of_notMem keep a h

end

section
variable {s t : State} {keep : Nat → Fld → Bool} {but : List Nat}

theorem State.Defaults.congr (h : t.Defaults keep but) {u : State} (e : u.regs = t.regs) : u.Defaults keep but :=
  fun a r x hf hk hb => (State.rd_congr e a).trans (h a r x hf hk hb)

/-- A write to a register that is not spoken of leaves the others at their values. -/
theorem State.Defaults.wr (h : t.Defaults keep but) {b : Nat} (hb : b ∈ but) (v : Nat) : (t.wr b v).Defaults keep but :=
  fun a r x hf hk ha => (t.rd_wr_ne v (ne_of_mem_of_not_mem hb ha).symm).trans (h a r x hf hk ha)

theorem State.KeepsWords.congr {s' t' : State} (h : s.KeepsWords t keep) (es : s'.regs = s.regs) (et : t'.regs = t.regs) : s'.KeepsWords t' keep :=
  fun a r x f hf hr hhi hlo hk => (State.rd_congr et a).trans ((h a r x f hf hr hhi hlo hk).trans (State.rd_congr es a).symm)

theorem State.KeepsWords.wr (h : s.KeepsWords t keep) {b : Nat} (v : Nat)
    (hb : ∀ r x f, findReg b = some (r, x) → r.fields = [f] → keep b f = false) : s.KeepsWords (t.wr b v) keep := by
  intro a r x f hf hr hhi hlo hk
  have hne : a ≠ b := by
    rintro rfl
    exact absurd hk (by rw [hb r x f hf hr]; decide)
  exact (t.rd_wr_ne v hne).trans (h a r x f hf hr hhi hlo hk)

end

/-! ## FLR (R44, R70, R391) -/

section
variable {α : Type} [DecidableEq α] (d : Nat → α) {f : α → α} {n : Nat}

theorem Tab.get_foldl_upd_of_notMem : ∀ {l : Tab α} (u : Tab α), n ∉ l.map Prod.fst → Tab.get d (l.foldl (fun t e => Tab.upd d t e.1 f) u) n = Tab.get d u n
  | [], _, _ => rfl
  | (k, v) :: l, u, h => by
    simp only [List.map_cons, List.mem_cons, not_or] at h
    rw [List.foldl_cons, Tab.get_foldl_upd_of_notMem _ h.2, Tab.get_upd_ne d u f h.1]

/-- A change that does nothing the second time is made once, however often its index is listed. -/
theorem Tab.get_foldl_upd_of_mem (hf : ∀ x, f (f x) = f x) :
    ∀ {l : Tab α} (u : Tab α), n ∈ l.map Prod.fst → Tab.get d (l.foldl (fun t e => Tab.upd d t e.1 f) u) n = f (Tab.get d u n)
  | (k, v) :: l, u, h => by
    rw [List.foldl_cons]
    by_cases hl : n ∈ l.map Prod.fst
    · rw [Tab.get_foldl_upd_of_mem hf _ hl]
      by_cases hk : n = k
      · rw [hk, Tab.get_upd_self, hf]
      · rw [Tab.get_upd_ne d u f hk]
    · obtain rfl := (List.mem_cons.1 h).resolve_right hl
      rw [Tab.get_foldl_upd_of_notMem d _ hl, Tab.get_upd_self]

end

/-- Each ring is as an FLR leaves it, whether it is listed or not. -/
theorem Hif.get_flr_sqs (h : Hif) (n : Nat) : Tab.get (fun _ => Sq.reset) h.flr.sqs n = (Tab.get (fun _ => Sq.reset) h.sqs n).flr := by
  by_cases hn : n ∈ h.sqs.map Prod.fst
  · exact Tab.get_foldl_upd_of_mem _ (f := Sq.flr) (fun _ => rfl) _ hn
  · rw [Tab.get_of_notMem _ hn]
    exact (Tab.get_foldl_upd_of_notMem _ _ hn).trans (Tab.get_of_notMem _ hn)

theorem State.drain_rings (s : State) (burst : Bool) : (s.drain burst).hif = s.hif ∧ (s.drain burst).net = s.net := by cases burst <;> exact ⟨rfl, rfl⟩

theorem State.Defaults.drain {t : State} {keep : Nat → Fld → Bool} {but : List Nat} (h : t.Defaults keep but) (hb : Adr.fabStat ∈ but) (burst : Bool) :
    (t.drain burst).Defaults keep but := by
  cases burst
  · exact h
  · exact h.wr hb _

theorem findReg_fabStat_fields : (findReg Adr.fabStat).map (fun p => p.1.fields.length) = some 2 := by decide +kernel

/-- FAB_STAT, which counts a burst cut off, has two fields: it is not one of the words kept. -/
theorem State.KeepsWords.drain {s t : State} {keep : Nat → Fld → Bool} (h : s.KeepsWords t keep) (burst : Bool) : s.KeepsWords (t.drain burst) keep := by
  cases burst
  · exact h
  · refine h.wr _ fun r x f hf hr => ?_
    have hl := findReg_fabStat_fields
    rw [hf, Option.map_some, hr] at hl
    exact absurd hl (by simp)

theorem flr_result {s : State} (g : s.Good) (burst : Bool) : ∃ t, exec (.flr burst) s = .next t ∧
    (∀ n, (t.sq n).state = .disabled ∧ (t.sq n).seqNext = (s.sq n).seqNext ∧ (t.sq n).seqPosted = (s.sq n).seqPosted) ∧
    t.hif.cqs = [] ∧ t.hif.ers = [] ∧ t.hif.msix = [] ∧ t.hif.d3hot = false ∧ t.net.hq = Hq.reset ∧ t.hif.hostMem = s.hif.hostMem ∧
    t.Defaults keepFlr [Adr.fabStat] ∧ s.KeepsWords t keepFlr := by
  obtain ⟨hhif, hnet⟩ := s.flr.drain_rings burst
  refine ⟨s.flr.drain burst, rfl, fun n => ?_, by rw [hhif]; rfl, by rw [hhif]; rfl, by rw [hhif]; rfl, by rw [hhif]; rfl, by rw [hnet]; rfl,
    by rw [hhif]; rfl, ?_, ?_⟩
  · have hsq : (s.flr.drain burst).sq n = (s.sq n).flr := by
      rw [State.sq, hhif]
      exact s.hif.get_flr_sqs n
    rw [hsq]
    exact ⟨rfl, rfl, rfl⟩
  · have hd : s.flr.Defaults keepFlr [Adr.fabStat] := (State.resetRegs_defaults keepFlr g _).congr rfl
    exact hd.drain (List.mem_singleton.2 rfl) burst
  · have hk : s.KeepsWords s.flr keepFlr := (State.resetRegs_keepsWords keepFlr g).congr rfl rfl
    exact hk.drain burst

/-! ## What MOD_RST_N, power-on reset and power fail return (R496, R499) -/

/-- Neither ending of a flash operation that is cut off changes a counter or the erases that wait. -/
theorem State.nvAppend_kept (s : State) (r : NvRec) : (s.nvAppend r).nv.ctrs = s.nv.ctrs ∧ (s.nvAppend r).nv.erases = s.nv.erases := by
  unfold State.nvAppend
  split
  · exact ⟨rfl, rfl⟩
  · extract_lets x
    split <;> exact ⟨rfl, rfl⟩

theorem State.nvSpoil_kept (s : State) : s.nvSpoil.nv.ctrs = s.nv.ctrs ∧ s.nvSpoil.nv.erases = s.nv.erases := by
  unfold State.nvSpoil
  split
  · split
    · exact s.nvAppend_kept _
    · exact ⟨rfl, rfl⟩
  · exact ⟨rfl, rfl⟩

theorem State.eraseCut_kept (s : State) : s.eraseCut.nv.ctrs = s.nv.ctrs ∧ s.eraseCut.nv.erases = s.nv.erases := by
  unfold State.eraseCut
  split <;> exact ⟨rfl, rfl⟩

theorem State.cut_within (s : State) : Within 137438953472 s s.nvSpoil.eraseCut :=
  (State.eraseCut_within _).via (by decide) s.nvSpoil_within

section
variable (s : State) (cause energy aon : Nat)

theorem State.hardReset_video : (s.hardReset cause energy aon).VideoAtReset := by
  simp only [State.VideoAtReset, List.forall_mem_cons]
  refine ⟨rfl, rfl, rfl, rfl, rfl, rfl, rfl, rfl, rfl, rfl, rfl, rfl, rfl, rfl, rfl, rfl, rfl, rfl, rfl, rfl, rfl, rfl, rfl, rfl, rfl, rfl, rfl, rfl, rfl, rfl,
    rfl, rfl, rfl, fun _ h => nomatch h⟩

theorem State.hardReset_coc : (s.hardReset cause energy aon).coc = s.coc.restart aon := congrArg (Coc.restart · aon) (s.cut_within.same .cocoon (by decide))

theorem State.hardReset_hostMem : (s.hardReset cause energy aon).hif.hostMem = s.hif.hostMem := s.cut_within.same .hostMem (by decide)

theorem State.hardReset_nv : (s.hardReset cause energy aon).nv.ctrs = s.nv.ctrs ∧ (s.hardReset cause energy aon).nv.erases = s.nv.erases := by
  obtain ⟨hc, he⟩ := s.nvSpoil_kept
  obtain ⟨hc', he'⟩ := s.nvSpoil.eraseCut_kept
  exact ⟨hc'.trans hc, he'.trans he⟩

theorem State.hardReset_rstCause (h : cause < 16) : (s.hardReset cause energy aon).fget Adr.rstCause 3 0 = cause := by
  rw [State.hardReset]
  exact (State.fget_fset_self _ _ _ (by decide)).trans (Nat.mod_eq_of_lt h)

variable {s} (g : s.Good)
include g

theorem State.hardReset_defaults : (s.hardReset cause energy aon).Defaults keepHeld [Adr.rstCause] := by
  rw [State.hardReset]
  exact State.Defaults.wr ((State.resetRegs_defaults keepHeld (s.cut_within.good g) _).congr rfl) (List.mem_singleton.2 rfl) _

theorem State.hardReset_keepsWords : s.KeepsWords (s.hardReset cause energy aon) keepHeld := by
  rw [State.hardReset]
  have h := State.resetRegs_keepsWords keepHeld (s.cut_within.good g)
  exact State.KeepsWords.wr (h.congr (s.cut_within.same .regs (by decide)).symm rfl) _ fun _ _ _ _ _ => rfl

end

/-! ## MOD_RST_N and power-on reset (R436, R438, R444, R499) -/

theorem modRstN_result {s : State} (g : s.Good) (hp : s.lv.powerFail = false) : ∃ t, exec .modRstN s = .next t ∧ t.VideoAtReset ∧ t.lv = State.reset.lv ∧
    t.coc = s.coc.restart s.aon ∧ t.fget Adr.rstCause 3 0 = 2 ∧ t.Defaults keepHeld [Adr.rstCause] ∧ s.KeepsWords t keepHeld ∧
    t.hif.hostMem = s.hif.hostMem ∧ t.nv.ctrs = s.nv.ctrs ∧ t.nv.erases = s.nv.erases := by
  refine ⟨s.hardReset 2 s.nv.energy s.aon, ?_, s.hardReset_video _ _ _, rfl, s.hardReset_coc _ _ _, s.hardReset_rstCause _ _ _ (by decide),
    State.hardReset_defaults _ _ _ g, State.hardReset_keepsWords _ _ _ g, s.hardReset_hostMem _ _ _, s.hardReset_nv _ _ _⟩
  show execModRstN s = _
  rw [execModRstN, hp, if_neg Bool.false_ne_true]

/-- What the battery-backed domain holds at power-on. -/
def State.backed (s : State) (f : OffTime) : State :=
  (s.updCoc fun c => { c with aonBase := (s.aon + f.counts) % 281474976710656 }).afterOff f

theorem exec_powerOnReset (s : State) (f : OffTime) : exec (.powerOnReset f) s =
    .next ((s.backed f).hardReset 0 0 (if f.bbLost then 0 else (s.aon + f.counts) % 281474976710656)) := rfl

theorem State.backed_good {s : State} (g : s.Good) (f : OffTime) : (s.backed f).Good :=
  (State.afterOff_within _ f).good ((State.updCoc_via (l := 68719476736) (by decide) (Within.refl _ _)).good g)

theorem State.backed_of_intact (s : State) {f : OffTime} (hb : f.bbLost = false) (hn : f.breach = none) :
    (s.backed f).regs = s.regs ∧ (s.backed f).coc.root = s.coc.root := by
  rw [State.backed, State.afterOff, hb, hn]
  exact ⟨rfl, rfl⟩

theorem State.fget_latchBreach (s : State) {cause : Nat} (h : cause < 256) (aon : Nat) : (s.latchBreach cause aon).fget Adr.brCause 7 0 = cause := by
  have hw : (((s.fset Adr.brCause 7 0 cause).wr Adr.brAonLo (aon % 4294967296)).wr Adr.brAonHi (aon / 4294967296 % 65536)).fget Adr.brCause 7 0 = cause := by
    rw [State.fget_wr_ne _ _ _ _ (by decide), State.fget_wr_ne _ _ _ _ (by decide), State.fget_fset_self _ _ _ (by decide)]
    exact Nat.mod_eq_of_lt h
  exact hw

/-- A coin cell that was lost counts as a breach: its cause is recorded and the root secret is gone (R438). -/
theorem State.backed_of_lost (s : State) {f : OffTime} (hb : f.bbLost = true) : (s.backed f).fget Adr.brCause 7 0 = 64 ∧ (s.backed f).coc.root = none := by
  rw [State.backed, State.afterOff, hb, if_pos rfl]
  exact ⟨State.fget_latchBreach _ (by decide) _, rfl⟩

theorem findReg_brCause_fields : (findReg Adr.brCause).map (fun p => p.1.fields) = some [⟨7, 0, .ro, .val 0, false⟩, ⟨21, 16, .ro, .view, false⟩] := by
  decide +kernel

/-- The cause of a breach is held by the battery-backed domain (R444). -/
theorem State.fget_resetRegs_brCause {s : State} (g : s.Good) : (s.resetRegs keepHeld).fget Adr.brCause 7 0 = s.fget Adr.brCause 7 0 := by
  by_cases h : Adr.brCause ∈ s.regs.map Prod.fst
  · obtain ⟨⟨r, i, j⟩, hf, hr⟩ := Option.map_eq_some_iff.1 findReg_brCause_fields
    replace hr : r.fields = _ := hr
    have hk : ∀ f, keepHeld Adr.brCause f = true := fun _ => rfl
    have hv : regAfter keepHeld Adr.brCause (s.rd Adr.brCause) = bits (s.rd Adr.brCause) 7 0 + bits (s.rd Adr.brCause) 21 16 * 2 ^ 16 := by
      simp only [regAfter, hf, hr, hk, List.map_cons, List.map_nil, List.foldl_cons, List.foldl_nil, if_true]
      omega
    rw [State.fget, State.rd_resetRegs_of_mem keepHeld _ g h, bits_mod_word (by decide), hv, State.fget]
    simp only [bits]
    omega
  · rw [State.fget, State.rd_resetRegs_of_notMem keepHeld _ h, State.fget]

theorem State.fget_hardReset_brCause {s : State} (g : s.Good) (cause energy aon : Nat) :
    (s.hardReset cause energy aon).fget Adr.brCause 7 0 = s.fget Adr.brCause 7 0 := by
  rw [State.hardReset]
  refine (State.fget_fset_ne _ _ _ _ _ _ (by decide)).trans ?_
  exact (State.fget_resetRegs_brCause (s.cut_within.good g)).trans (State.fget_congr (s.cut_within.same .regs (by decide)) _ _ _)

theorem powerOnReset_result {s : State} (g : s.Good) (f : OffTime) : ∃ t, exec (.powerOnReset f) s = .next t ∧ t.VideoAtReset ∧ t.lv = State.reset.lv ∧
    t.fget Adr.rstCause 3 0 = 0 ∧ t.Defaults keepHeld [Adr.rstCause] ∧
    (f.bbLost = false → f.breach = none → s.KeepsWords t keepHeld ∧ t.coc.root = s.coc.root) ∧
    (f.bbLost = true → t.fget Adr.brCause 7 0 = 64 ∧ t.coc.root = none) := by
  have gb := State.backed_good g f
  refine ⟨_, exec_powerOnReset s f, State.hardReset_video _ _ _ _, rfl, State.hardReset_rstCause _ _ _ _ (by decide), State.hardReset_defaults _ _ _ gb,
    fun hb hn => ?_, fun hb => ?_⟩
  · obtain ⟨hregs, hroot⟩ := s.backed_of_intact hb hn
    refine ⟨(State.hardReset_keepsWords _ _ _ gb).congr hregs.symm rfl, ?_⟩
    rw [State.hardReset_coc]
    exact hroot
  · obtain ⟨hcause, hroot⟩ := s.backed_of_lost hb
    refine ⟨(State.fget_hardReset_brCause gb _ _ _).trans hcause, ?_⟩
    rw [State.hardReset_coc]
    exact hroot

/-! ## Power fail and its end (R410) -/

/-- Sheds, store and pairs are not among the parts that every reset returns. -/
theorem State.VideoAtReset.only {t u : State} (h : t.VideoAtReset) (hs : t.Only u [.sheds, .nv, .mgmt]) : u.VideoAtReset := by
  intro p hp
  refine p.same_trans (h p hp) (hs p ?_)
  revert p hp
  decide

/-- The hold of a power fail: the store does not answer and both pairs are off. -/
def State.held (t : State) : State :=
  ((t.updLv fun v => { v with powerFail := true }).updNv fun n => { n with phase := .fault }).updMg fun m =>
    { m with a := { m.a with state := .off }, b := { m.b with state := .off } }

theorem State.powerFails_eq (s : State) : ∃ u : State, s.powerFails = (u.hardReset 1 0 u.aon).held := ⟨_, rfl⟩

theorem State.held_only (t : State) : t.Only t.held [.sheds, .nv, .mgmt] := by
  intro p hp
  cases p with
  | sheds | nv | mgmt => exact absurd (by decide) hp
  | _ => rfl

theorem powerFail_result {s : State} (hp : s.lv.powerFail = false) : ∃ t, exec .powerFail s = .next t ∧ t.VideoAtReset ∧
    t.lv = { State.reset.lv with powerFail := true } ∧ t.nv.phase = .fault ∧ (t.pair 0).state = .off ∧ (t.pair 1).state = .off ∧
    t.fget Adr.rstCause 3 0 = 1 := by
  obtain ⟨u, hu⟩ := s.powerFails_eq
  refine ⟨(u.hardReset 1 0 u.aon).held, ?_, (u.hardReset_video _ _ _).only (State.held_only _), rfl, rfl, rfl, rfl,
    u.hardReset_rstCause _ _ _ (by decide)⟩
  show execPowerFail s = _
  rw [execPowerFail, hp, if_neg Bool.false_ne_true, hu]

/-- A power fail holds the module in reset until the input has recovered (R410). -/
theorem powerFail_holds {s : State} (hp : s.lv.powerFail = true) : exec .powerFail s = .next s ∧ exec .modRstN s = .next s := by
  constructor
  · show execPowerFail s = _
    rw [execPowerFail, if_pos hp]
  · show execModRstN s = _
    rw [execModRstN, if_pos hp]

theorem State.updLv_stInput_only (t : State) : t.Only (t.updLv fun v => { v with stInput := true }) [.sheds, .nv, .mgmt] := by
  intro p hp
  cases p with
  | sheds => exact absurd (by decide) hp
  | _ => rfl

theorem powerFailRecovery_result {s : State} (hp : s.lv.powerFail = true) (hl : s.lasted s.lv.goodSince 100 = true) :
    ∃ t, exec .powerFailRecovery s = .next t ∧ t.VideoAtReset ∧ t.lv = { State.reset.lv with stInput := true } ∧ t.fget Adr.rstCause 3 0 = 1 ∧
    t.mg.a.state = Mg.reset.a.state := by
  refine ⟨(s.hardReset 1 0 s.aon).updLv fun v => { v with stInput := true }, ?_, (s.hardReset_video _ _ _).only (State.updLv_stInput_only _), rfl,
    s.hardReset_rstCause _ _ _ (by decide), rfl⟩
  show execPowerFailRecovery s = _
  rw [execPowerFailRecovery, hp, hl]
  rfl

theorem powerFailRecovery_ignored {s : State} (hp : s.lv.powerFail = false) : exec .powerFailRecovery s = .next s := by
  show execPowerFailRecovery s = _
  rw [execPowerFailRecovery, hp]
  rfl

end Sys2Proof.Machine
end

section
/-!
SUPPORT. What a warm reset leaves, by software or after a trip (R146, R166, R391, R413, R415, R424, R498, R506).
-/
namespace Sys2Proof.Machine

/-! ## The stages of a warm reset -/

/-- The cause is recorded, the power state shows the reset, and the queue of system pages is written. -/
def State.warmShut (s : State) (cause : Nat) : State := (((s.fset Adr.rstCause 3 0 cause).count Adr.rstCause 31 16 1).setPower 6).nvFlush

/-- The host interface returns, its rings included. -/
def State.warmHost (s : State) : State := (s.updHif fun h => { h.flr with sqs := [] }).hqReset

/-- No change of power is asked for, and restoration begins. -/
def State.warmEnd (s : State) : State := ((s.fset Adr.pwrCtl 1 0 0).updPwr fun _ => Pwr.reset).restAgain

/-- Cocoon, pairs and registers return, and restoration begins. -/
def State.warmReboot (s : State) : State := ((s.warmCocoon.warmMgmt).resetRegs keepWarm).warmEnd

theorem State.warmShut_within (s : State) (cause : Nat) : Within 214748364866 s (s.warmShut cause) :=
  (State.nvFlush_within _).via (by decide) ((State.setPower_within _ _).via (by decide) ((State.count_within _ _ _ _ _).via (by decide)
    ((State.fset_within _ _ _ _ _).mono (by decide))))

theorem State.warmEnd_within (s : State) : Within 824633720834 s s.warmEnd :=
  (State.restAgain_within _).via (by decide) (State.updPwr_via (by decide) ((State.fset_within _ _ _ _ _).mono (by decide)))

/-- What follows the pairs' reset: registers, power and restoration. -/
theorem State.warmRegs_within (s : State) : Within 824633720834 s (s.resetRegs keepWarm).warmEnd :=
  (State.warmEnd_within _).via (by decide) ((State.resetRegs_within _ _).mono (by decide))

theorem State.warmHost_within (s : State) : Within 1073745776 s s.warmHost := by
  have touched {P : Prop} {k : Nat} (h : Nat.testBit 3952 k = false) (hk : Nat.testBit 3952 k = true) : P := absurd hk (by rw [h]; decide)
  refine (State.hqReset_within _).via (by decide) ?_
  exact State.updHif_via 3952 (touched · (by decide)) (touched · (by decide)) (touched · (by decide)) (fun _ _ => rfl) (touched · (by decide))
    (touched · (by decide)) (touched · (by decide)) (touched · (by decide)) (fun _ => rfl) (fun _ _ _ hf => nomatch hf) (by decide) (Within.refl _ _)

theorem State.warmReboot_within (s : State) : Within 927712936002 s s.warmReboot :=
  (State.warmRegs_within _).via (by decide) ((State.warmMgmt_within _).via (by decide) ((State.warmCocoon_within _).mono (by decide)))

/-! ## Parts put together -/

theorem Within.hds {m : Nat} {s t : State} (w : Within m s t) (h : m.testBit 15 = false) (h' : m.testBit 16 = false) (h'' : m.testBit 44 = false) :
    t.hds = s.hds := by
  have e := w.same .heads h
  have e' := w.same .salvos h'
  have e'' := w.same .shots h''
  simp only [Part.same, Prod.mk.injEq] at e e' e''
  cases hs : s.hds
  cases ht : t.hds
  simp_all only

theorem Within.scc {m : Nat} {s t : State} (w : Within m s t) (h : m.testBit 18 = false) (h' : m.testBit 19 = false) : t.scc = s.scc := by
  have e := w.same .scalers h
  have e' := w.same .colour h'
  simp only [Part.same, Prod.mk.injEq] at e e'
  cases hs : s.scc
  cases ht : t.scc
  simp_all only

theorem Within.out {m : Nat} {s t : State} (w : Within m s t) (h : m.testBit 20 = false) (h' : m.testBit 21 = false) (h'' : m.testBit 22 = false) :
    t.out = s.out := by
  have e := w.same .converters h
  have e' := w.same .destinations h'
  have e'' := w.same .pushes h''
  simp only [Part.same] at e e' e''
  cases hs : s.out
  cases ht : t.out
  simp_all only

theorem Within.tim {m : Nat} {s t : State} (w : Within m s t) (h : m.testBit 26 = false) (h' : m.testBit 27 = false) (h'' : m.testBit 28 = false)
    (h3 : m.testBit 29 = false) : t.tim = s.tim := by
  have e := w.same .phc h
  have e' := w.same .refs h'
  have e'' := w.same .syns h''
  have e3 := w.same .polders h3
  simp only [Part.same, Prod.mk.injEq] at e e' e'' e3
  cases hs : s.tim
  cases ht : t.tim
  simp_all only

theorem Within.flows {m : Nat} {s t : State} (w : Within m s t) (h : m.testBit 13 = false) : t.ing.flows = s.ing.flows :=
  congrArg Prod.fst (w.same .flows h)

theorem Within.tokens {m : Nat} {s t : State} (w : Within m s t) (h : m.testBit 23 = false) :
    t.lv.powFree = s.lv.powFree ∧ t.lv.powWith = s.lv.powWith ∧ t.lv.fetFree = s.lv.fetFree ∧ t.lv.fetWith = s.lv.fetWith := by
  have e := w.same .leave h
  simp only [Part.same, Prod.mk.injEq] at e
  obtain ⟨powFree, fetFree, powWith, fetWith, _⟩ := e
  exact ⟨powFree, powWith, fetFree, fetWith⟩

theorem Within.trip {m : Nat} {s t : State} (w : Within m s t) (h : m.testBit 25 = false) :
    t.lv.tripped = s.lv.tripped ∧ t.lv.auditBad = s.lv.auditBad := by
  have e := w.same .sheds h
  simp only [Part.same, Prod.mk.injEq] at e
  obtain ⟨_, _, _, _, auditBad, _, _, _, _, _, _, _, _, tripped, _⟩ := e
  exact ⟨tripped, auditBad⟩

theorem State.pair_congr {s t : State} (h : t.mg = s.mg) (p : Nat) : t.pair p = s.pair p := by rw [State.pair, State.pair, h]

theorem State.unit_congr {s t : State} (h : t.net = s.net) (i : Nat) : t.unit i = s.unit i := by rw [State.unit, State.unit, h]

/-! ## The video data path (R112, R166, R280) -/

/-- The sources' frames are counted and the flows are gone. -/
def State.unflowed (s : State) : State :=
  let s := ((s.ing.srcs.map (·.1)) ++ (s.ing.old.map (·.src))).eraseDups.foldl (fun s n => s.warmSource n) s
  (s.setFlows []).updIng fun g => { g with old := [], flows := [] }

/-- The chains and the dikes come back from their pages. -/
def State.repinned (s : State) : State :=
  let s := s.updPsn fun p => { Psn.reset with ties := p.ties, stopped := p.stopped }
  if s.keyless then s.freshChains else s.loadDikes.loadChains

theorem State.warmVideo_eq (s : State) (off : Bool) :
    s.warmVideo off = (((s.unflowed.warmHeads off).warmSurfaces.warmAudio).updScc fun _ => Scc.reset).repinned := rfl

theorem State.repinned_within (s : State) : Within 15032385536 s s.repinned := by
  unfold State.repinned
  extract_lets x0 p
  have hp : Within 15032385536 s p := by
    refine .leaf (fun q hq => ?_) rfl
    cases q with
    | dikes | pinSense | seals => exact absurd hq (by decide)
    | _ => rfl
  split
  · exact (State.freshChains_within _).via (by decide) hp
  · exact (State.loadChains_within _).via (by decide) ((State.loadDikes_within _).via (by decide) hp)

/-- Destinations send their idle signal: none shows a head. -/
theorem Dest.get_warm_head (l : Tab Dest) (off : Bool) (d : Nat) :
    (Tab.get (fun _ => Dest.reset) (l.foldl (fun t e => Tab.set (fun _ => Dest.reset) t e.1 (e.2.warm off)) []) d).head = none := by
  refine Within.fold (Q := fun t : Tab Dest => (Tab.get (fun _ => Dest.reset) t d).head = none) rfl fun t e ht => ?_
  by_cases hd : d = e.1
  · rw [hd, Tab.get_set_self]
    rfl
  · rw [Tab.get_set_ne _ _ _ hd]
    exact ht

section
variable (s : State) (off : Bool)

theorem State.warmHeads_parts : (s.warmHeads off).hds = Hds.reset ∧ (s.warmHeads off).out.convs = [] ∧ (s.warmHeads off).out.pushes = [] := by
  rw [State.warmHeads]
  exact ⟨rfl, rfl, rfl⟩

theorem State.warmHeads_dest (d : Nat) : ((s.warmHeads off).dest d).head = none := by
  rw [State.dest, State.warmHeads]
  dsimp only [State.updOut_out]
  exact Dest.get_warm_head _ off d

/-- What follows the heads leaves them, the outputs and the flows alone. -/
theorem State.warmStills_within : Within 17180000264 s s.warmSurfaces.warmAudio :=
  (State.warmAudio_within _).via (by decide) ((State.warmSurfaces_within _).mono (by decide))

theorem State.warmStills_list : s.warmSurfaces.warmAudio.srf.list = [] := by
  have h : s.warmSurfaces.warmAudio.srf = s.warmSurfaces.srf := (State.warmAudio_within _).same .surfaces (by decide)
  rw [h]
  rfl

theorem State.unflowed_flows : s.unflowed.ing.flows = [] := by
  rw [State.unflowed]
  rfl

theorem State.warmVideo_heads : (s.warmVideo off).hds = Hds.reset := by
  rw [State.warmVideo_eq, (State.repinned_within _).hds (by decide) (by decide) (by decide), State.updScc_hds,
    (State.warmStills_within _).hds (by decide) (by decide) (by decide)]
  exact (s.unflowed.warmHeads_parts off).1

theorem State.warmVideo_out : (s.warmVideo off).out = (s.unflowed.warmHeads off).out := by
  rw [State.warmVideo_eq, (State.repinned_within _).out (by decide) (by decide) (by decide), State.updScc_out,
    (State.warmStills_within _).out (by decide) (by decide) (by decide)]

theorem State.warmVideo_flows : (s.warmVideo off).ing.flows = [] := by
  rw [State.warmVideo_eq, (State.repinned_within _).flows (by decide), State.updScc_ing, (State.warmStills_within _).flows (by decide),
    (State.warmHeads_within _ _).flows (by decide), State.unflowed_flows]

theorem State.warmVideo_scc : (s.warmVideo off).scc = Scc.reset := by
  rw [State.warmVideo_eq, (State.repinned_within _).scc (by decide) (by decide), State.updScc_scc]

theorem State.warmVideo_list : (s.warmVideo off).srf.list = [] := by
  have h := (State.repinned_within ((s.unflowed.warmHeads off).warmSurfaces.warmAudio.updScc fun _ => Scc.reset)).same .surfaces (by decide)
  rw [State.warmVideo_eq, show _ = _ from h, State.updScc_srf, State.warmStills_list]

end

/-- The video data path has stopped: nothing runs, nothing is queued and nothing is held. -/
structure State.Stopped (t : State) : Prop where
  heads : t.hds = Hds.reset
  video : t.scc = Scc.reset ∧ t.srf.list = [] ∧ t.out.convs = [] ∧ t.out.pushes = [] ∧ t.ing.flows = [] ∧ ∀ d, (t.dest d).head = none

theorem State.warmVideo_stopped (s : State) (off : Bool) : (s.warmVideo off).Stopped := by
  obtain ⟨_, hconvs, hpushes⟩ := s.unflowed.warmHeads_parts off
  have hout := s.warmVideo_out off
  refine ⟨s.warmVideo_heads off, s.warmVideo_scc off, s.warmVideo_list off, by rw [hout, hconvs], by rw [hout, hpushes], s.warmVideo_flows off, fun d => ?_⟩
  rw [State.dest_congr (congrArg Out.dests hout)]
  exact s.unflowed.warmHeads_dest off d

/-- Nothing that follows in a warm reset starts it again. -/
theorem State.Stopped.within {s t : State} (h : s.Stopped) (w : Within 928828624762 s t) : t.Stopped := by
  obtain ⟨hheads, hscc, hlist, hconvs, hpushes, hflows, hdest⟩ := h
  have hout := w.out (by decide) (by decide) (by decide)
  have hsrf : t.srf = s.srf := w.same .surfaces (by decide)
  refine ⟨(w.hds (by decide) (by decide) (by decide)).trans hheads, (w.scc (by decide) (by decide)).trans hscc, by rw [hsrf, hlist], by rw [hout, hconvs],
    by rw [hout, hpushes], (w.flows (by decide)).trans hflows, fun d => ?_⟩
  rw [State.dest_congr (congrArg Out.dests hout)]
  exact hdest d

/-! ## Leave (R391, R399, R407, R415) -/

/-- The withheld holders move tokens to and from the free ones: both sums stay. -/
theorem State.fillWithheld_sums (s : State) : s.fillWithheld.lv.powFree + s.fillWithheld.lv.powWith = s.lv.powFree + s.lv.powWith ∧
    s.fillWithheld.lv.fetFree + s.fillWithheld.lv.fetWith = s.lv.fetFree + s.lv.fetWith := by
  unfold State.fillWithheld
  extract_lets tp rp tf rf s1 s2
  have hs : s2.lv.powFree + s2.lv.powWith = s.lv.powFree + s.lv.powWith ∧ s2.lv.fetFree + s2.lv.fetWith = s.lv.fetFree + s.lv.fetWith := by
    show s.lv.powFree - tp + rp + (s.lv.powWith + tp - rp) = _ ∧ s.lv.fetFree - tf + rf + (s.lv.fetWith + tf - rf) = _
    omega
  split
  · obtain ⟨hp, hpw, hf, hfw⟩ := (State.limitEvent_within s2).tokens (by decide)
    rw [hp, hpw, hf, hfw]
    exact hs
  · exact hs

/-- A change of shed level is neither a trip nor an audit. -/
theorem State.shedUpdate_trip (s : State) : s.shedUpdate.lv.tripped = s.lv.tripped ∧ s.shedUpdate.lv.auditBad = s.lv.auditBad := by
  unfold State.shedUpdate
  extract_lets s1 l
  have h1 : s1.lv.tripped = s.lv.tripped ∧ s1.lv.auditBad = s.lv.auditBad := by
    unfold s1
    split <;> exact ⟨rfl, rfl⟩
  split
  · exact h1
  · obtain ⟨ht, ha⟩ := (State.lvRaise_within (s1.updLv fun v => { v with level := l }) 2 279 0x0E02 [(22, 1, l), (23, 1, State.shedCauses _)]).trip (by decide)
    exact ⟨ht.trans h1.1, ha.trans h1.2⟩

/-- The tokens that the fixed consumers and the enabled units take again. -/
def State.precharge (s : State) : Nat := fixedTokens + (((List.range 10).filter fun i => (s.unit i).enable).map unitTokens).sum

/-- Every unit that is enabled is powered again, whatever it was doing. -/
def State.repower (s : State) : State :=
  (List.range 10).foldl (fun s i =>
    s.setUnit i { s.unit i with enabled := (s.unit i).enable, tokens := (if (s.unit i).enable then unitTokens i else 0), fixed := (s.unit i).enable, down := false }) s

/-- Every token granted returns, and the precharge is taken. -/
def State.recharge (s : State) (pre : Nat) : State :=
  (s.updLv fun v =>
    { v with powFree := powPool - pre, fetFree := fetPool, powWith := 0, fetWith := 0, fixed := pre, auditBad := false, tripped := false,
             tripExcl := false }).ledAdd 9 0 5 pre

theorem State.leaveAgain_eq (s : State) : s.leaveAgain =
    ((((s.ledSet 9 0 6 (s.led 9 0 5)).ledSet 9 1 6 (s.led 9 1 5)).repower.recharge s.precharge).fillWithheld).shedUpdate := rfl

theorem State.repower_unit (s : State) (i : Nat) : (s.repower.unit i).enable = (s.unit i).enable ∧ (s.repower.unit i).link = (s.unit i).link := by
  rw [State.repower]
  refine Within.fold (Q := fun t : State => (t.unit i).enable = (s.unit i).enable ∧ (t.unit i).link = (s.unit i).link) ⟨rfl, rfl⟩ fun t k h => ?_
  by_cases hk : i = k
  · subst hk
    rw [State.unit_setUnit]
    exact h
  · rw [State.unit_setUnit_ne _ _ hk]
    exact h

theorem State.recharge_unit (s : State) (pre i : Nat) : (s.recharge pre).unit i = s.unit i := rfl

theorem State.leaveAgain_unit (s : State) (i : Nat) : (s.leaveAgain.unit i).enable = (s.unit i).enable ∧ (s.leaveAgain.unit i).link = (s.unit i).link := by
  have hnet (u : State) : u.fillWithheld.shedUpdate.net = u.net :=
    (Within.via (l := 41943114) u.fillWithheld.shedUpdate_within (by decide) (u.fillWithheld_within.mono (by decide))).same .net (by decide)
  have e : s.leaveAgain.unit i = ((s.ledSet 9 0 6 (s.led 9 0 5)).ledSet 9 1 6 (s.led 9 1 5)).repower.unit i :=
    (State.unit_congr (hnet _) i).trans (State.recharge_unit _ _ i)
  rw [e]
  exact State.repower_unit ((s.ledSet 9 0 6 (s.led 9 0 5)).ledSet 9 1 6 (s.led 9 1 5)) i

/-- After it neither a trip nor an audit holds the tokens, and both pools are whole but for the precharge. -/
theorem State.leaveAgain_lv (s : State) : s.leaveAgain.lv.tripped = false ∧ s.leaveAgain.lv.auditBad = false ∧
    s.leaveAgain.lv.powFree + s.leaveAgain.lv.powWith = powPool - s.precharge ∧ s.leaveAgain.lv.fetFree + s.leaveAgain.lv.fetWith = fetPool := by
  rw [State.leaveAgain_eq]
  generalize ((s.ledSet 9 0 6 (s.led 9 0 5)).ledSet 9 1 6 (s.led 9 1 5)).repower = u
  obtain ⟨ht, ha⟩ := (u.recharge s.precharge).fillWithheld.shedUpdate_trip
  obtain ⟨ht', ha'⟩ := (u.recharge s.precharge).fillWithheld_within.trip (by decide)
  obtain ⟨hp, hpw, hf, hfw⟩ := ((u.recharge s.precharge).fillWithheld.shedUpdate_within).tokens (by decide)
  obtain ⟨hpow, hfet⟩ := (u.recharge s.precharge).fillWithheld_sums
  rw [ht, ha, ht', ha', hp, hpw, hf, hfw, hpow, hfet]
  exact ⟨rfl, rfl, rfl, rfl⟩

/-! ## Cocoon and pairs (R424, R498) -/

/-- A key after a warm reset: one that is ephemeral has expired and its secret is gone. -/
def Key.warm (k : Key) : Key := if k.ephemeral then { k with expired := true, secret := [] } else k

/-- An ephemeral key has expired, and its secret is gone. -/
def Key.Spent (k : Key) : Prop := k.ephemeral = true → k.expired = true ∧ k.secret = []

theorem Key.warm_spent (k : Key) : k.warm.Spent := by
  intro he
  unfold Key.warm at he ⊢
  split
  · exact ⟨rfl, rfl⟩
  · next h =>
    rw [if_neg h] at he
    exact absurd he h

theorem Key.get_warm_spent (l : Tab (Option Key)) (i : Nat) (k : Key)
    (h : Tab.get (fun _ => none) (l.foldl (fun t e => Tab.set (fun _ => none) t e.1 (e.2.map Key.warm)) []) i = some k) : k.Spent := by
  revert k
  refine Within.fold (Q := fun t : Tab (Option Key) => ∀ k, Tab.get (fun _ => none) t i = some k → k.Spent) (fun k h => nomatch h) fun t e ht k h => ?_
  by_cases hi : i = e.1
  · rw [hi, Tab.get_set_self] at h
    obtain ⟨x, _, rfl⟩ := Option.map_eq_some_iff.1 h
    exact x.warm_spent
  · rw [Tab.get_set_ne _ _ _ hi] at h
    exact ht k h

theorem State.warmCocoon_key (s : State) (i : Nat) (k : Key) (h : Tab.get (fun _ => none) s.warmCocoon.coc.slots i = some k) : k.Spent := by
  rw [State.warmCocoon] at h
  dsimp only [State.updCoc_coc] at h
  exact Key.get_warm_spent _ i k h

theorem State.warmMgmt_pairs (s : State) : s.warmMgmt.mg.serving = 0 ∧ (s.warmMgmt.pair 0).state = .boot ∧ (s.warmMgmt.pair 1).state = .boot ∧
    (s.warmMgmt.pair 0).slot = (s.pair 0).slot ∧ (s.warmMgmt.pair 1).slot = (s.pair 1).slot := by
  unfold State.warmMgmt State.pair
  extract_lets st x y s1
  have h : s1.mg.serving = 0 ∧ (s1.mg.pair 0).state = .boot ∧ (s1.mg.pair 1).state = .boot ∧ (s1.mg.pair 0).slot = (s.mg.pair 0).slot ∧
    (s1.mg.pair 1).slot = (s.mg.pair 1).slot := ⟨rfl, rfl, rfl, rfl, rfl⟩
  split
  · have e : (s1.occur 285 0x1200 [(22, 1, 7), (23, 1, 9), (24, 4, 0)]).mg = s1.mg := (State.occur_within _ _ _ _).same .mgmt (by decide)
    rw [e]
    exact h
  · exact h

/-! ## The whole -/

/-- The video data path has stopped. -/
def State.warmOff (s : State) (cause : Nat) : State := (s.warmShut cause).warmVideo (cause ≠ 3)

theorem State.warmReset_eq (s : State) (cause : Nat) : s.warmReset cause = (s.warmOff cause).leaveAgain.warmHost.warmReboot := rfl

theorem State.warmOff_within (s : State) (cause : Nat) : Within 17830565114570 s (s.warmOff cause) :=
  (State.warmVideo_within _ _).via (by decide) ((s.warmShut_within cause).mono (by decide))

theorem State.warmFromHost_within (s : State) : Within 928786681714 s s.warmHost.warmReboot :=
  s.warmHost.warmReboot_within.via (by decide) (s.warmHost_within.mono (by decide))

theorem State.warmFromLeave_within (s : State) : Within 928828624762 s s.leaveAgain.warmHost.warmReboot :=
  s.leaveAgain.warmFromHost_within.via (by decide) (s.leaveAgain_within.mono (by decide))

/-- The rings and the host packet queue are as after power-on. -/
theorem State.warmHost_rings (s : State) : s.warmHost.warmReboot.hif.sqs = [] ∧ s.warmHost.warmReboot.hif.cqs = [] ∧ s.warmHost.warmReboot.hif.fences = [] ∧
    s.warmHost.warmReboot.hif.msix = [] ∧ s.warmHost.warmReboot.hif.d3hot = false ∧ s.warmHost.warmReboot.net.hq = Hq.reset := by
  have w := s.warmHost.warmReboot_within
  have fences := w.same .engine (by decide)
  simp only [Part.same, Prod.mk.injEq] at fences
  exact ⟨w.same .subRings (by decide), w.same .cplRings (by decide), fences.2.2.2, w.same .msix (by decide), w.same .d3hot (by decide),
    congrArg Net.hq (w.same .net (by decide))⟩

theorem State.warmHost_unit (s : State) (i : Nat) : s.warmHost.warmReboot.unit i = s.unit i := by
  have h : s.warmHost.unit i = s.unit i := rfl
  have hnet : s.warmHost.warmReboot.net = s.warmHost.net := s.warmHost.warmReboot_within.same .net (by decide)
  rw [State.unit_congr hnet i, h]

theorem State.precharge_congr {s t : State} (h : t.net = s.net) : t.precharge = s.precharge := by
  simp only [State.precharge, State.unit_congr h]

theorem State.warmReboot_pairs (s : State) : s.warmReboot.mg.serving = 0 ∧ (s.warmReboot.pair 0).state = .boot ∧ (s.warmReboot.pair 1).state = .boot ∧
    (s.warmReboot.pair 0).slot = (s.pair 0).slot ∧ (s.warmReboot.pair 1).slot = (s.pair 1).slot := by
  have hm : s.warmReboot.mg = s.warmCocoon.warmMgmt.mg := (State.warmRegs_within _).same .mgmt (by decide)
  rw [State.pair, State.pair, hm]
  exact s.warmCocoon.warmMgmt_pairs

theorem State.warmReboot_slots (s : State) : s.warmReboot.coc.slots = s.warmCocoon.coc.slots := by
  have w : Within 858993459266 s.warmCocoon s.warmReboot := (State.warmRegs_within _).via (by decide) ((State.warmMgmt_within _).mono (by decide))
  exact congrArg Coc.slots (w.same .cocoon (by decide))

theorem State.warmReboot_defaults {s : State} (g : s.Good) : s.warmReboot.Defaults keepWarm [Adr.pwrCtl] := by
  have gm : s.warmCocoon.warmMgmt.Good := (State.warmMgmt_within _).good (s.warmCocoon_within.good g)
  exact ((State.resetRegs_defaults keepWarm gm _).wr (List.mem_singleton.2 rfl) _).congr rfl

/-- What a warm reset leaves, each part from the stage that returns it. -/
theorem State.warmReset_from {s : State} (g : s.Good) (cause : Nat) : s.WarmFrom (s.warmReset cause) := by
  rw [State.warmReset_eq]
  have hv := s.warmOff_within cause
  have hl := (s.warmOff cause).warmFromLeave_within
  have hh := (s.warmOff cause).leaveAgain.warmFromHost_within
  have hnet : (s.warmOff cause).net = s.net := hv.same .net (by decide)
  have hmg : (s.warmOff cause).leaveAgain.warmHost.mg = s.mg := Eq.trans (b := (s.warmOff cause).leaveAgain.mg)
    ((State.warmHost_within _).same .mgmt (by decide)) (Eq.trans ((State.leaveAgain_within _).same .mgmt (by decide)) (hv.same .mgmt (by decide)))
  have gh : (s.warmOff cause).leaveAgain.warmHost.Good := (State.warmHost_within _).good ((State.leaveAgain_within _).good (hv.good g))
  have hstop : (s.warmOff cause).Stopped := State.warmVideo_stopped _ _
  constructor
  case heads => exact (hstop.within hl).heads
  case video => exact (hstop.within hl).video
  case rings => exact State.warmHost_rings _
  case leave =>
    obtain ⟨htrip, haudit⟩ := hh.trip (by decide)
    obtain ⟨hp, hpw, hf, hfw⟩ := hh.tokens (by decide)
    rw [htrip, haudit, hp, hpw, hf, hfw]
    have h := (s.warmOff cause).leaveAgain_lv
    rwa [State.precharge_congr hnet] at h
  case units =>
    intro i _
    have h := (s.warmOff cause).leaveAgain_unit i
    rw [State.unit_congr hnet i] at h
    rw [State.warmHost_unit]
    exact h
  case pairs =>
    have h := (s.warmOff cause).leaveAgain.warmHost.warmReboot_pairs
    rwa [State.pair_congr hmg 0, State.pair_congr hmg 1] at h
  case keys =>
    intro i k h
    rw [State.warmReboot_slots] at h
    exact State.warmCocoon_key _ i k h
  case regs => exact State.warmReboot_defaults gh
  case power => rfl
  case time => exact (hl.tim (by decide) (by decide) (by decide) (by decide)).trans (hv.tim (by decide) (by decide) (by decide) (by decide))

/-! ## The commands (R413, R498, R506) -/

theorem State.askWarm_of_awake {s : State} (h : s.pwr.standby = false) (cause : Nat) : s.askWarm cause = s.warmReset cause := by
  rw [State.askWarm, h, if_neg Bool.false_ne_true]

theorem warmReset_result {s : State} (g : s.Good) (h : s.pwr.standby = false) : ∃ t, exec .warmReset s = .next t ∧ s.WarmFrom t := by
  refine ⟨s.warmReset 3, ?_, State.warmReset_from g 3⟩
  show execWarmReset s = _
  rw [execWarmReset, State.askWarm_of_awake h]

/-- A module that enters STANDBY lets the wake wait, and the reset for the wake. -/
theorem warmReset_waits {s : State} (h : s.pwr.standby = true) (hp : s.fget Adr.pwrStat 2 0 = 4) :
    ∃ t, exec .warmReset s = .next t ∧ t.pwr.warmWaits = some 3 ∧ t.pwr.wakeWaits = true ∧ s.Only t [.power] := by
  refine ⟨(s.updPwr fun p => { p with warmWaits := some 3 }).updPwr fun p => { p with wakeWaits := true }, ?_, rfl, rfl, fun p hn => ?_⟩
  · have hp' : (s.updPwr fun p => { p with warmWaits := some 3 }).fget Adr.pwrStat 2 0 = 4 := hp
    show execWarmReset s = _
    rw [execWarmReset, State.askWarm, if_pos h]
    dsimp only
    rw [hp', if_neg (by decide), if_pos rfl]
  · cases p with
    | power => exact absurd (List.mem_singleton_self _) hn
    | _ => rfl

theorem tripRecover_result {s : State} (g : s.Good) (h : s.pwr.standby = false) (ht : s.lv.tripped = true) (hc : s.cooled = true) :
    ∃ t, exec .tripRecover s = .next t ∧ s.WarmFrom t := by
  refine ⟨s.warmReset 4, ?_, State.warmReset_from g 4⟩
  show execTripRecover s = _
  rw [execTripRecover, State.tripRecover, ht, hc, State.askWarm_of_awake h]
  rfl

theorem tripRecover_ignored {s : State} (h : s.lv.tripped = false ∨ s.cooled = false) : exec .tripRecover s = .next s := by
  have hn : (s.lv.tripped && s.cooled) = false := Bool.and_eq_false_iff.2 h
  show execTripRecover s = _
  rw [execTripRecover, State.tripRecover, hn, if_neg Bool.false_ne_true]

/-! ## The obligation -/

/-- Settles O42, reset by reset: FLR, the warm reset and its wait for a wake, the recovery of a trip, MOD_RST_N, power-on, power fail and its end. -/
theorem resets : Obligations.Resets := fun burst f _ g =>
  ⟨flr_result g burst, warmReset_result g, tripRecover_result g, warmReset_waits, tripRecover_ignored, modRstN_result g, powerOnReset_result g f,
    powerFail_result, powerFail_holds, powerFailRecovery_result, powerFailRecovery_ignored⟩

end Sys2Proof.Machine
end

section
/-!
SUPPORT. Sources: what the operations of ingest leave of a source and of the register file, and the frame of sources, flows and
memberships (R81, R82, R93, R97, R102, R110).
-/
namespace Sys2Proof.Machine

/-! ## Sources as views of the state -/

theorem State.src_congr {s t : State} (h : t.ing.srcs = s.ing.srcs) (n : Nat) : t.src n = s.src n := by simp only [State.src, h]

theorem Within.src {m : Nat} {s t : State} (w : Within m s t) (h : m.testBit 12 = false) (n : Nat) : t.src n = s.src n :=
  State.src_congr (congrArg Prod.fst (w.same .sources h)) n

/-- Ingest is the same where its sources, its flows and its memberships are. -/
theorem Within.ing {m : Nat} {s t : State} (w : Within m s t) (h : m.testBit 12 = false) (h' : m.testBit 13 = false) (h'' : m.testBit 14 = false) :
    t.ing = s.ing := by
  have e := w.same .sources h
  have e' := w.same .flows h'
  have e'' := w.same .igmp h''
  simp only [Part.same, Prod.mk.injEq] at e e' e''
  cases hs : s.ing
  cases ht : t.ing
  simp_all only

/-! ## The frame -/

/-- Settles O12: sources, flows and memberships are parts of the state that `exec_frame` keeps. -/
theorem frameIngest : Obligations.FrameIngest := by
  intro c s t h
  refine ⟨fun hp => ?_, fun hp => congrArg Prod.fst (exec_frame h hp), fun hp => ?_⟩
  · have e := exec_frame h hp
    simp only [Part.same, Prod.mk.injEq] at e
    obtain ⟨hsrcs, hold, _⟩ := e
    exact ⟨State.src_congr hsrcs, hold⟩
  · have e := exec_frame h hp
    simp only [Part.same, Prod.mk.injEq] at e
    obtain ⟨hrepeats, holder, hsent, _⟩ := e
    exact ⟨hrepeats, holder, hsent⟩

/-! ## Causes and counters leave the sources alone -/

@[simp] theorem State.srcRaise_ing (s : State) (n bit code : Nat) (d : List (Nat × Nat × Nat)) : (s.srcRaise n bit code d).ing = s.ing :=
  (s.srcRaise_within n bit code d).ing (by decide) (by decide) (by decide)

@[simp] theorem State.srcRaise_src (s : State) (n bit code : Nat) (d : List (Nat × Nat × Nat)) (m : Nat) : (s.srcRaise n bit code d).src m = s.src m :=
  State.src_congr (congrArg Ing.srcs (s.srcRaise_ing n bit code d)) m

@[simp] theorem State.srcDamaged_src (s : State) (n missing m : Nat) : (s.srcDamaged n missing).src m = s.src m :=
  (s.srcDamaged_within n missing).src (by decide) m

theorem State.srcCause_srcRaise (s : State) (n : Nat) {bit : Nat} (h : bit < 32) (code : Nat) (d : List (Nat × Nat × Nat)) :
    (s.srcRaise n bit code d).flag (Adr.srcCause n) bit = true := State.flag_raise_self _ _ _ h _ _ _

theorem State.flag_raise_ne (s : State) {a cause : Nat} (h : a ≠ cause) (mask bit src code : Nat) (d : List (Nat × Nat × Nat)) (k : Nat) :
    (s.raise cause mask bit src code d).flag a k = s.flag a k := by
  simp only [State.flag, State.fget_raise_ne _ h]

/-! ## Changes of one source -/

/-- Of the sources, at most source `n` differs; of the register file, at most its cause. -/
structure State.SourceOnly (s t : State) (n : Nat) : Prop where
  others : ∀ m, m ≠ n → t.src m = s.src m
  regs : ∀ a, a ≠ Adr.srcCause n → ∀ hi lo, t.fget a hi lo = s.fget a hi lo

theorem State.SourceOnly.refl (s : State) (n : Nat) : s.SourceOnly s n := ⟨fun _ _ => rfl, fun _ _ _ _ => rfl⟩

theorem State.SourceOnly.trans {s t u : State} {n : Nat} (h : s.SourceOnly t n) (k : t.SourceOnly u n) : s.SourceOnly u n :=
  ⟨fun m hm => (k.others m hm).trans (h.others m hm), fun a ha hi lo => (k.regs a ha hi lo).trans (h.regs a ha hi lo)⟩

theorem State.SourceOnly.flag {s t : State} {n : Nat} (h : s.SourceOnly t n) {a : Nat} (ha : a ≠ Adr.srcCause n) (k : Nat) : t.flag a k = s.flag a k := by
  simp only [State.flag, h.regs a ha]

theorem State.updSrc_sourceOnly (s : State) (n : Nat) (f : Source → Source) : s.SourceOnly (s.updSrc n f) n :=
  ⟨fun _ hm => s.src_updSrc_ne f hm, fun _ _ _ _ => rfl⟩

theorem State.srcRaise_sourceOnly (s : State) (n bit code : Nat) (d : List (Nat × Nat × Nat)) : s.SourceOnly (s.srcRaise n bit code d) n :=
  ⟨fun m _ => s.srcRaise_src n bit code d m, fun _ ha _ _ => State.fget_raise_ne _ ha _ _ _ _ _ _ _⟩

theorem State.srcCount_sourceOnly (s : State) (n m c k : Nat) : s.SourceOnly (s.srcCount m c k) n := ⟨fun _ _ => rfl, fun _ _ _ _ => rfl⟩

theorem State.srcDamaged_sourceOnly (s : State) (n missing : Nat) : s.SourceOnly (s.srcDamaged n missing) n :=
  (s.srcCount_sourceOnly n n 3 1).trans (State.srcRaise_sourceOnly _ n _ _ _)

theorem State.dropWrite_sourceOnly (s : State) (n : Nat) (slot : Option Nat) : s.SourceOnly (s.dropWrite n slot) n := by
  unfold State.dropWrite
  split
  · exact s.updSrc_sourceOnly n _
  · exact .refl s n

/-- A frame in progress that is dropped leaves the ring of its source alone to differ. -/
theorem State.dropWrite_src (s : State) (n : Nat) (slot : Option Nat) : ∃ r, (s.dropWrite n slot).src n = { s.src n with ring := r } := by
  unfold State.dropWrite
  split
  · exact ⟨_, s.src_updSrc n _⟩
  · exact ⟨_, rfl⟩

/-! ## Frames in progress that are abandoned (R102, R105) -/

/-- The SDI frame in progress is abandoned. -/
def State.abandonSdi (s : State) (n missing : Nat) : State :=
  match (s.src n).sdiProg with
  | some (some k) => ((s.dropWrite n (some k)).updSrc n fun y => { y with sdiProg := none }).srcDamaged n missing
  | some none => s.updSrc n fun y => { y with sdiProg := none }
  | none => s

/-- IP frames in progress are abandoned. -/
def State.abandonIp (s : State) (n : Nat) (missing : List (Nat × Nat × Nat) → Nat) (l : List InProg) : State :=
  l.foldl (fun s f =>
    match f.slot with
    | some k => (s.dropWrite n (some k)).srcDamaged n (missing f.got)
    | none => s) s

theorem State.abandon_eq (s : State) (n : Nat) (missing : List (Nat × Nat × Nat) → Nat) : s.abandon n missing =
    ((s.abandonSdi n (missing [])).abandonIp n missing (s.src n).ipProg).updSrc n fun y =>
      { y with ipProg := [], ipClosed := ((y.ipProg.map InProg.closed).reverse ++ y.ipClosed).take 4 } := rfl

theorem State.abandonSdi_src (s : State) (n missing : Nat) : ∃ r, (s.abandonSdi n missing).src n = { s.src n with ring := r, sdiProg := none } := by
  unfold State.abandonSdi
  split
  next k _ =>
    obtain ⟨r, hr⟩ := s.dropWrite_src n (some k)
    exact ⟨r, by rw [State.srcDamaged_src, State.src_updSrc, hr]⟩
  next => exact ⟨(s.src n).ring, by rw [State.src_updSrc]⟩
  next h => exact ⟨(s.src n).ring, by rw [← h]⟩

theorem State.abandonSdi_sourceOnly (s : State) (n missing : Nat) : s.SourceOnly (s.abandonSdi n missing) n := by
  unfold State.abandonSdi
  split
  · exact ((s.dropWrite_sourceOnly n _).trans (State.updSrc_sourceOnly _ n _)).trans (State.srcDamaged_sourceOnly _ n _)
  · exact s.updSrc_sourceOnly n _
  · exact .refl s n

theorem State.abandonIp_src (s : State) (n : Nat) (missing : List (Nat × Nat × Nat) → Nat) (l : List InProg) :
    ∃ r, (s.abandonIp n missing l).src n = { s.src n with ring := r } := by
  refine Within.fold (Q := fun t : State => ∃ r, t.src n = { s.src n with ring := r }) ⟨_, rfl⟩ fun t f ⟨r, hr⟩ => ?_
  split
  next k _ =>
    obtain ⟨q, hq⟩ := t.dropWrite_src n (some k)
    exact ⟨q, by rw [State.srcDamaged_src, hq, hr]⟩
  next => exact ⟨r, hr⟩

theorem State.abandonIp_sourceOnly (s : State) (n : Nat) (missing : List (Nat × Nat × Nat) → Nat) (l : List InProg) :
    s.SourceOnly (s.abandonIp n missing l) n := by
  refine Within.fold (Q := fun t : State => s.SourceOnly t n) (.refl s n) fun t f ht => ?_
  split
  · exact ht.trans ((t.dropWrite_sourceOnly n _).trans (State.srcDamaged_sourceOnly _ n _))
  · exact ht

/-- A source whose frames in progress are abandoned has none. -/
theorem State.abandon_src (s : State) (n : Nat) (missing : List (Nat × Nat × Nat) → Nat) :
    ∃ r c, (s.abandon n missing).src n = { s.src n with ring := r, sdiProg := none, ipProg := [], ipClosed := c } := by
  obtain ⟨r, hr⟩ := s.abandonSdi_src n (missing [])
  obtain ⟨q, hq⟩ := (s.abandonSdi n (missing [])).abandonIp_src n missing (s.src n).ipProg
  exact ⟨q, _, by rw [State.abandon_eq, State.src_updSrc, hq, hr]⟩

theorem State.abandon_sourceOnly (s : State) (n : Nat) (missing : List (Nat × Nat × Nat) → Nat) : s.SourceOnly (s.abandon n missing) n := by
  rw [State.abandon_eq]
  exact ((s.abandonSdi_sourceOnly n _).trans (State.abandonIp_sourceOnly _ n missing _)).trans (State.updSrc_sourceOnly _ n _)

/-! ## Loss and search (R82, R102, R108) -/

/-- A LOCKED source that is lost holds no frame in progress. -/
theorem State.srcLose_src {s : State} {n : Nat} (h : (s.src n).state = .locked) : ∃ r c, (s.srcLose n).src n =
    { s.src n with state := .lost, cand := none, ring := r, sdiProg := none, ipProg := [], ipClosed := c } := by
  obtain ⟨r, c, hs⟩ := s.abandon_src n (s.lacking n)
  exact ⟨r, c, by rw [State.srcLose, if_pos h, State.srcRaise_src, State.src_updSrc, hs]⟩

theorem State.srcLose_of_ne {s : State} {n : Nat} (h : (s.src n).state ≠ .locked) : s.srcLose n = s := if_neg h

theorem State.srcCause_srcLose {s : State} {n : Nat} (h : (s.src n).state = .locked) : (s.srcLose n).flag (Adr.srcCause n) 1 = true := by
  rw [State.srcLose, if_pos h]
  exact State.srcCause_srcRaise _ _ (by decide) _ _

theorem State.srcLose_sourceOnly (s : State) (n : Nat) : s.SourceOnly (s.srcLose n) n := by
  unfold State.srcLose
  split
  · exact ((s.abandon_sourceOnly n _).trans (State.updSrc_sourceOnly _ n _)).trans (State.srcRaise_sourceOnly _ n _ _ _)
  · exact .refl s n

theorem State.srcSearch_src (s : State) (n : Nat) : ∃ r c, (s.srcSearch n).src n =
    { s.src n with state := .search, cand := none, ring := r, sdiProg := none, ipProg := [], ipClosed := c } := by
  obtain ⟨r, c, hs⟩ := s.abandon_src n (s.lacking n)
  exact ⟨r, c, by rw [State.srcSearch, State.src_updSrc, hs]⟩

theorem State.srcSearch_sourceOnly (s : State) (n : Nat) : s.SourceOnly (s.srcSearch n) n :=
  (s.abandon_sourceOnly n _).trans (State.updSrc_sourceOnly _ n _)

end Sys2Proof.Machine
end

section
/-!
SUPPORT. Lanes and the loss of a source's signal: signal, rate search, CDR, TRS, and the silence of a source, a flow or a leg (R82, R83,
R88, R95, R102).
-/
namespace Sys2Proof.Machine

/-! ## Lane registers -/

theorem Adr.laneStat_ne_laneCause (i j : Nat) : Adr.laneStat i ≠ Adr.laneCause j := by unfold Adr.laneStat Adr.laneCause; omega

theorem Adr.laneStat_ne_srcCause (i j : Nat) : Adr.laneStat i ≠ Adr.srcCause j := by
  unfold Adr.laneStat Adr.srcCause; omega

theorem State.flag_fset_below (s : State) (a hi lo x : Nat) {k : Nat} (h : k < lo) (hw : lo ≤ 32) : (s.fset a hi lo x).flag a k = s.flag a k := by
  simp only [State.flag, State.fget_fset_below s a hi lo x h hw]

theorem State.flag_fset_zero (s : State) (a : Nat) {k : Nat} (h : k < 32) : (s.fset a k k 0).flag a k = false := by
  simp [State.flag, State.fget_fset_self _ _ _ h]

theorem State.laneSignal_flag (s : State) (n present : Nat) (i k : Nat) : (s.laneSignal n present).flag (Adr.laneStat i) k = s.flag (Adr.laneStat i) k :=
  s.flag_raise_ne (Adr.laneStat_ne_laneCause i n) _ _ _ _ _ _

@[simp] theorem State.laneSignal_src (s : State) (n present m : Nat) : (s.laneSignal n present).src m = s.src m :=
  (s.laneSignal_within n present).src (by decide) m

@[simp] theorem State.laneSignal_now (s : State) (n present : Nat) : (s.laneSignal n present).now = s.now :=
  (s.laneSignal_within n present).now (by decide)

/-! ## Signal (R82, R397) -/

theorem exec_signalDetect {l : Fin 144} {s : State} (hr : s.rxOn l = true) (hf : s.flag (Adr.laneStat l) 0 = false) : exec (.signalDetect l) s =
    .next (if l.val < 128 then ((s.setBit (Adr.laneStat l) 0).laneSignal l 1).updSrc l fun x => { x with search := some (0, s.now) }
      else (s.setBit (Adr.laneStat l) 0).laneSignal l 1) := by
  show execSignalDetect l s = _
  simp only [execSignalDetect, hr, hf, Bool.not_false, Bool.and_self, if_true, State.laneSignal_now]
  rfl

theorem signalDetect_result {l : Fin 144} {s : State} (hr : s.rxOn l = true) (hf : s.flag (Adr.laneStat l) 0 = false) :
    ∃ t, exec (.signalDetect l) s = .next t ∧ t.flag (Adr.laneStat l) 0 = true ∧
      (l.val < 128 → (t.src l).search = some (0, s.now) ∧ (t.src l).state = (s.src l).state) := by
  have hflag : ((s.setBit (Adr.laneStat l) 0).laneSignal l 1).flag (Adr.laneStat l) 0 = true :=
    (State.laneSignal_flag _ _ _ _ _).trans (s.flag_setBit_self _ (by decide))
  refine ⟨_, exec_signalDetect hr hf, ?_⟩
  split
  · refine ⟨hflag, fun _ => ?_⟩
    rw [State.src_updSrc, State.laneSignal_src]
    exact ⟨rfl, rfl⟩
  next hl => exact ⟨hflag, fun h => absurd h hl⟩

theorem exec_laneSignalLost {l : Fin 144} {s : State} (hf : s.flag (Adr.laneStat l) 0 = true) : exec (.laneSignalLost l) s =
    .next (if l.val < 128 then ((s.fset (Adr.laneStat l) 0 0 0).laneSignal l 0).updSrc l fun x => { x with search := none }
      else (s.fset (Adr.laneStat l) 0 0 0).laneSignal l 0) := by
  show execLaneSignalLost l s = _
  rw [execLaneSignalLost, if_pos hf]

theorem laneSignalLost_result {l : Fin 144} {s : State} (hf : s.flag (Adr.laneStat l) 0 = true) :
    ∃ t, exec (.laneSignalLost l) s = .next t ∧ t.flag (Adr.laneStat l) 0 = false ∧
      (l.val < 128 → (t.src l).search = none ∧ (t.src l).state = (s.src l).state) := by
  have hflag : ((s.fset (Adr.laneStat l) 0 0 0).laneSignal l 0).flag (Adr.laneStat l) 0 = false :=
    (State.laneSignal_flag _ _ _ _ _).trans (s.flag_fset_zero _ (by decide))
  refine ⟨_, exec_laneSignalLost hf, ?_⟩
  split
  · refine ⟨hflag, fun _ => ?_⟩
    rw [State.src_updSrc, State.laneSignal_src]
    exact ⟨rfl, rfl⟩
  next hl => exact ⟨hflag, fun h => absurd h hl⟩

/-! ## Rate search and lock (R83) -/

/-- The lane shows the lock and the rate on which the CDR has locked. -/
def State.lockLane (s : State) (n rate : Nat) : State := ((s.setBit (Adr.laneStat n) 1).setBit (Adr.laneStat n) 2).fset (Adr.laneStat n) 6 3 rate

theorem State.lockLane_flag (s : State) (n rate : Nat) : (s.lockLane n rate).flag (Adr.laneStat n) 1 = true := by
  rw [State.lockLane, State.flag_fset_below _ _ _ _ _ (by decide) (by decide), State.setBit, State.flag_fset_below _ _ _ _ _ (by decide) (by decide)]
  exact s.flag_setBit_self _ (by decide)

theorem State.lockLane_rate (s : State) (n rate : Nat) : (s.lockLane n rate).fget (Adr.laneStat n) 6 3 = rate % 16 :=
  State.fget_fset_self _ _ _ (by decide)

section
variable {n : Fin 128} {s : State} {i u : Nat} (hs : (s.src n).search = some (i, u))
include hs

theorem exec_rateDwellExpiry (h : u + msTicks 2 ≤ s.now) : exec (.rateDwellExpiry n) s =
    .next (s.setSrc n { s.src n with search := some ((i + 1) % 9, s.now) }) := by
  show execRateDwellExpiry n s = _
  simp only [execRateDwellExpiry, hs, h, if_true]
  rfl

theorem exec_cdrLock (h : s.now ≤ u + msTicks 2) : exec (.cdrLock n) s =
    .next ((s.lockLane n ((s.src n).tryRate i)).setSrc n
      { s.src n with search := none, state := if (s.src n).state = .idle then .search else (s.src n).state }) := by
  show execCdrLock n s = _
  simp only [execCdrLock, hs, h, if_true]
  rfl

theorem cdrLock_result (h : s.now ≤ u + msTicks 2) : ∃ t, exec (.cdrLock n) s = .next t ∧ t.flag (Adr.laneStat n) 1 = true ∧
    t.fget (Adr.laneStat n) 6 3 = (s.src n).tryRate i % 16 ∧
    t.src n = { s.src n with search := none, state := if (s.src n).state = .idle then .search else (s.src n).state } :=
  ⟨_, exec_cdrLock hs h, (State.flag_congr (State.setSrc_regs _ _ _) _ _).trans (s.lockLane_flag n _),
    (State.fget_congr (State.setSrc_regs _ _ _) _ _ _).trans (s.lockLane_rate n _), State.src_setSrc _ _ _⟩

end

/-! ## The CDR is no longer locked (R82, R83) -/

/-- The lane shows no lock and no rate. -/
def State.unlockLane (s : State) (n : Nat) : State :=
  ((s.fset (Adr.laneStat n) 1 1 0).fset (Adr.laneStat n) 2 2 0).fset (Adr.laneStat n) 6 3 0

theorem State.unlockLane_flag (s : State) (n : Nat) : (s.unlockLane n).flag (Adr.laneStat n) 1 = false := by
  rw [State.unlockLane, State.flag_fset_below _ _ _ _ _ (by decide) (by decide), State.flag_fset_below _ _ _ _ _ (by decide) (by decide)]
  exact s.flag_fset_zero _ (by decide)

/-- A source of no assembled group whose receiver loses the CDR: LOCKED becomes LOST, LOST stays, all others become IDLE. -/
def State.unlockSrc (s : State) (n : Nat) : State :=
  match (s.src n).state with
  | .locked => s.srcLose n
  | .lost => s
  | _ => (s.abandon n (s.lacking n)).updSrc n fun x => { x with state := .idle, cand := none }

theorem State.cdrLost_alone {s : State} {n : Nat} (h : (s.src (quadHead n)).assembled = false) : s.cdrLost n =
    ((s.unlockLane n).unlockSrc n).updSrc n fun x => { x with lane := none } := by
  have h' : ((s.unlockLane n).src (quadHead n)).assembled = false := h
  unfold State.cdrLost
  exact if_neg (Bool.eq_false_iff.1 h')

theorem State.unlockSrc_sourceOnly (s : State) (n : Nat) : s.SourceOnly (s.unlockSrc n) n := by
  unfold State.unlockSrc
  split
  · exact s.srcLose_sourceOnly n
  · exact .refl s n
  · exact (s.abandon_sourceOnly n _).trans (State.updSrc_sourceOnly _ n _)

theorem State.unlockSrc_state (s : State) (n : Nat) :
    ((s.unlockSrc n).src n).state = if (s.src n).state = .locked ∨ (s.src n).state = .lost then .lost else .idle := by
  unfold State.unlockSrc
  split
  next h =>
    obtain ⟨r, c, hs⟩ := State.srcLose_src h
    rw [hs, if_pos (.inl h)]
  next h => rw [h, if_pos (.inr rfl)]
  next hl hk => rw [State.src_updSrc, if_neg fun h => h.elim hl hk]

theorem exec_cdrLoss {n : Fin 128} {s : State} (hf : s.flag (Adr.laneStat n) 1 = true) : exec (.cdrLoss n) s =
    .next (if (s.cdrLost n).flag (Adr.laneStat n) 0 then (s.cdrLost n).updSrc n fun x => { x with search := some (0, (s.cdrLost n).now) } else s.cdrLost n) := by
  show execCdrLoss n s = _
  rw [execCdrLoss, if_pos hf]

theorem cdrLoss_result {n : Fin 128} {s : State} (hf : s.flag (Adr.laneStat n) 1 = true) (ha : (s.src (quadHead n)).assembled = false) :
    ∃ t, exec (.cdrLoss n) s = .next t ∧ t.flag (Adr.laneStat n) 1 = false ∧
      (t.src n).state = if (s.src n).state = .locked ∨ (s.src n).state = .lost then .lost else .idle := by
  have hne : Adr.laneStat n ≠ Adr.srcCause n := Adr.laneStat_ne_srcCause n n
  have hflag : (s.cdrLost n).flag (Adr.laneStat n) 1 = false := by
    rw [State.cdrLost_alone ha]
    exact ((State.unlockSrc_sourceOnly _ _).flag hne 1).trans (s.unlockLane_flag n)
  have hstate : ((s.cdrLost n).src n).state = if (s.src n).state = .locked ∨ (s.src n).state = .lost then .lost else .idle := by
    rw [State.cdrLost_alone ha, State.src_updSrc]
    exact (s.unlockLane n).unlockSrc_state n
  refine ⟨_, exec_cdrLoss hf, ?_⟩
  split
  · exact ⟨hflag, by rw [State.src_updSrc]; exact hstate⟩
  · exact ⟨hflag, hstate⟩

/-! ## TRS (R88) -/

/-- What TRS_LOSS does to a source of no assembled group: LOCKED is lost, SEARCH searches again. -/
def State.trsLost (s : State) (n : Nat) : State :=
  match (s.src n).state with
  | .locked => s.srcLose n
  | .search => s.srcSearch n
  | _ => s

theorem exec_trsLoss {n : Fin 128} {s : State} (ha : (s.src (quadHead n)).assembled = false) : exec (.trsLoss n) s =
    .next ((s.trsLost n).updSrc n fun x => { x with lane := none }) := by
  show execTrsLoss n s = _
  rw [execTrsLoss, if_neg (Bool.eq_false_iff.1 ha)]
  rfl

theorem State.trsLost_locked {s : State} {n : Nat} (h : (s.src n).state = .locked) : s.trsLost n = s.srcLose n := by simp only [State.trsLost, h]
theorem State.trsLost_search {s : State} {n : Nat} (h : (s.src n).state = .search) : s.trsLost n = s.srcSearch n := by simp only [State.trsLost, h]
theorem State.trsLost_other {s : State} {n : Nat} (hl : (s.src n).state ≠ .locked) (hs : (s.src n).state ≠ .search) : s.trsLost n = s := by
  unfold State.trsLost
  split
  · exact absurd ‹_› hl
  · exact absurd ‹_› hs
  · rfl

theorem trsLoss_result {n : Fin 128} {s : State} (ha : (s.src (quadHead n)).assembled = false) : ∃ t, exec (.trsLoss n) s = .next t ∧
    ((s.src n).state = .locked → (t.src n).state = .lost ∧ t.flag (Adr.srcCause n) 1 = true) ∧
    ((s.src n).state = .search → (t.src n).state = .search ∧ (t.src n).cand = none ∧ (t.src n).sdiProg = none) ∧
    ((s.src n).state ≠ .locked → (s.src n).state ≠ .search → t = s.setSrc n { s.src n with lane := none }) ∧ (t.src n).lane = none := by
  refine ⟨_, exec_trsLoss ha, fun h => ?_, fun h => ?_, fun hl hs => ?_, by rw [State.src_updSrc]⟩
  · obtain ⟨r, c, hs⟩ := State.srcLose_src h
    rw [State.trsLost_locked h, State.src_updSrc, hs]
    exact ⟨rfl, State.srcCause_srcLose h⟩
  · obtain ⟨r, c, hs⟩ := s.srcSearch_src n
    rw [State.trsLost_search h, State.src_updSrc, hs]
    exact ⟨rfl, rfl, rfl⟩
  · rw [State.trsLost_other hl hs]
    rfl

/-! ## Silence of a source, a flow or a leg (R95, R102) -/

/-- A loss acts on a LOCKED source alone. -/
theorem State.srcLose_result (s : State) (m : Nat) :
    ((s.src m).state = .locked → ((s.srcLose m).src m).state = .lost ∧ (s.srcLose m).flag (Adr.srcCause m) 1 = true) ∧
      ((s.src m).state ≠ .locked → s.srcLose m = s) := by
  refine ⟨fun h => ?_, State.srcLose_of_ne⟩
  obtain ⟨r, c, hs⟩ := State.srcLose_src h
  exact ⟨by rw [hs], State.srcCause_srcLose h⟩

theorem exec_publishTimeout {m : Fin 256} {s : State} (h : (s.src m).lastPub + 3 * periodTicks (modeRate (s.src m).fmt.mode) ≤ s.now) :
    exec (.publishTimeout m) s = .next (s.srcLose m) := congrArg _ (if_pos h)

theorem exec_ipFlowTimeout {m : Fin 256} {s : State} {f : Flow} (hf : s.videoFlow m = some f)
    (h : max (s.src m).lastA (s.src m).lastB + 2 * periodTicks (modeRate f.p0) ≤ s.now) : exec (.ipFlowTimeout m) s = .next (s.srcLose m) := by
  show execIpFlowTimeout m s = _
  simp only [execIpFlowTimeout, hf, h, if_true]

section
variable {m : Fin 256} {s : State} {f : Flow} (hf : s.videoFlow m = some f)
include hf

theorem exec_legLost_b (hb : f.b.isSome = true) (hl : (s.src m).lostB = false) (h : (s.src m).lastB + msTicks 100 ≤ s.now) :
    exec (.legLost m true) s = .next ((s.setSrc m { s.src m with legB := false, lostB := true }).srcRaise m 8 0x0108 [(22, 1, 1)]) := by
  show execLegLost m true s = _
  simp only [execLegLost, hf, hb, hl, h, decide_true, Bool.not_false, Bool.and_self, if_true]

theorem exec_legLost_a (hl : (s.src m).lostA = false) (h : (s.src m).lastA + msTicks 100 ≤ s.now) :
    exec (.legLost m false) s = .next ((s.setSrc m { s.src m with legA := false, lostA := true }).srcRaise m 8 0x0108 [(22, 1, 0)]) := by
  show execLegLost m false s = _
  simp only [execLegLost, hf, hl, h, decide_true, Bool.not_false, Bool.and_self, Bool.false_eq_true, if_true, if_false]

theorem legLost_result {b : Bool} (h : if b then f.b.isSome = true ∧ (s.src m).lostB = false ∧ (s.src m).lastB + msTicks 100 ≤ s.now
      else (s.src m).lostA = false ∧ (s.src m).lastA + msTicks 100 ≤ s.now) :
    ∃ t, exec (.legLost m b) s = .next t ∧ t.flag (Adr.srcCause m) 8 = true ∧
      t.src m = if b then { s.src m with legB := false, lostB := true } else { s.src m with legA := false, lostA := true } := by
  cases b with
  | true =>
    obtain ⟨hb, hl, ht⟩ := h
    exact ⟨_, exec_legLost_b hf hb hl ht, State.srcCause_srcRaise _ _ (by decide) _ _, by rw [State.srcRaise_src, State.src_setSrc]; rfl⟩
  | false =>
    obtain ⟨hl, ht⟩ := h
    exact ⟨_, exec_legLost_a hf hl ht, State.srcCause_srcRaise _ _ (by decide) _ _, by rw [State.srcRaise_src, State.src_setSrc]; rfl⟩

end

/-! ## The obligation -/

/-- Settles O26, command by command: each loss of a LOCKED source is `srcLose`. -/
theorem signalAndLoss : Obligations.SignalAndLoss := fun _ _ m _ s =>
  ⟨signalDetect_result, laneSignalLost_result, fun _ _ hs h => ⟨_, exec_rateDwellExpiry hs h, rfl⟩, fun _ _ hs h => cdrLock_result hs h, cdrLoss_result,
    trsLoss_result, fun h => ⟨_, exec_publishTimeout h, s.srcLose_result m⟩, fun _ hf h => ⟨_, exec_ipFlowTimeout hf h, s.srcLose_result m⟩,
    fun _ hf h => legLost_result hf h⟩

end Sys2Proof.Machine
end

section
/-!
SUPPORT. SDI frames received: a frame begins and is published (R84, R98 to R101, R105).
-/
namespace Sys2Proof.Machine

/-! ## The source ledger (R105) -/

theorem State.srcCount_led_self (s : State) (n c k : Nat) : (s.srcCount n c k).led 1 n c = s.led 1 n c + k := s.led_ledAdd_self 1 n c k

theorem State.srcCount_led_ne (s : State) (n : Nat) {c c' : Nat} (k : Nat) (h : c' ≠ c) (hc : c < 1024) (hc' : c' < 1024) :
    (s.srcCount n c k).led 1 n c' = s.led 1 n c' := by
  refine s.led_ledAdd_ne k fun he => ?_
  obtain ⟨_, _, hcc⟩ := ledKey_inj (by decide) (by decide) hc' hc he
  exact h hcc

@[simp] theorem State.srcRaise_led (s : State) (n bit code : Nat) (d : List (Nat × Nat × Nat)) (kind i c : Nat) :
    (s.srcRaise n bit code d).led kind i c = s.led kind i c := State.led_congr ((s.srcRaise_within n bit code d).same .ledger (by decide)) kind i c

/-! ## A frame begins (R99) -/

/-- The slot that a new frame is written to. -/
def Ring.writeTo (r : Ring) (k : Nat) : Ring := r.updSlot k fun y => { y with frame := none, taken := false, writing := true }

theorem State.beginWrite_victim {s : State} {n k : Nat} {r : Ring} (hr : (s.src n).ring = some r) (hk : r.victim = some k) : s.beginWrite n =
    (some k, if (r.slot k).frame.isSome && !(r.slot k).taken then (s.updSrc n fun x => { x with ring := some (r.writeTo k) }).srcCount n 2 1
      else s.updSrc n fun x => { x with ring := some (r.writeTo k) }) := by
  simp only [State.beginWrite, hr, hk]
  rfl

/-- A frame that finds a slot arrives and is written; the frame it replaces counts as superseded if no reader took it. -/
theorem State.sdiArrive_victim {s : State} {n k : Nat} {r : Ring} (hr : (s.src n).ring = some r) (hk : r.victim = some k) :
    ((s.sdiArrive n).src n).sdiProg = some (some k) ∧ (s.sdiArrive n).led 1 n 0 = s.led 1 n 0 + 1 ∧
      (s.sdiArrive n).led 1 n 2 = s.led 1 n 2 + (if (r.slot k).frame.isSome = true ∧ (r.slot k).taken = false then 1 else 0) := by
  have hr' : ((s.srcCount n 0 1).src n).ring = some r := hr
  have h0 := s.srcCount_led_self n 0 1
  have h2 := s.srcCount_led_ne n 1 (show 2 ≠ 0 by decide) (by decide) (by decide)
  simp only [State.sdiArrive, State.beginWrite_victim hr' hk, State.src_updSrc, true_and]
  by_cases hc : (r.slot k).frame.isSome = true ∧ (r.slot k).taken = false
  · rw [if_pos hc, if_pos (by simp [hc])]
    refine ⟨?_, (State.srcCount_led_self _ n 2 1).trans (congrArg (· + 1) h2)⟩
    exact (State.srcCount_led_ne _ n 1 (by decide) (by decide) (by decide)).trans h0
  · rw [if_neg hc, if_neg (by simpa using hc)]
    exact ⟨h0, h2⟩

theorem State.sdiStart_locked {s : State} {n : Nat} (h : (s.src n).state = .locked) (hp : (s.src n).sdiProg = none) : s.sdiStart n = s.sdiArrive n := by
  simp only [State.sdiStart, h, hp, if_true]

/-! ## SDI_FRAME at the first active line -/

/-- A frame of lane `n` crosses into ingest. -/
def State.sdiCross (s : State) (n : Fin 128) : State := s.cross ⟨.ingest (n.castLE (by decide)), 0⟩

theorem State.sdiCross_within (s : State) (n : Fin 128) : Within 1099511627776 s (s.sdiCross n) := s.cross_within _

@[simp] theorem State.sdiCross_src (s : State) (n : Fin 128) (m : Nat) : (s.sdiCross n).src m = s.src m := (s.sdiCross_within n).src (by decide) m

section
variable {n : Fin 128} {s : State} (hi : s.ingests n = true) (ha : (s.src (quadHead n)).assembled = false)
include hi ha

theorem exec_sdiFrame_start : exec (.sdiFrame n .start) s = .next (((s.sdiCross n).colourBegin n).sdiStart n) := by
  have ha' : ((s.sdiCross n).src (quadHead n)).assembled = false := by rw [State.sdiCross_src, ha]
  show execSdiFrame n .start s = _
  rw [execSdiFrame, if_pos hi]
  exact congrArg Host.Outcome.next (if_neg (by rw [← State.sdiCross, ha', Bool.false_and]; decide))

theorem sdiFrame_start_result (hl : (s.src n).state = .locked) (hp : (s.src n).sdiProg = none) {r : Ring} {k : Nat} (hr : (s.src n).ring = some r)
    (hk : r.victim = some k) : ∃ t, exec (.sdiFrame n .start) s = .next t ∧ (t.src n).sdiProg = some (some k) ∧ t.led 1 n 0 = s.led 1 n 0 + 1 ∧
      t.led 1 n 2 = s.led 1 n 2 + (if (r.slot k).frame.isSome = true ∧ (r.slot k).taken = false then 1 else 0) := by
  have w : Within (1099511627776 ||| 525328) s ((s.sdiCross n).colourBegin n) :=
    (State.colourBegin_within _ _).via (by decide) ((s.sdiCross_within n).mono (by decide))
  have hsrc : ((s.sdiCross n).colourBegin n).src n = s.src n := w.src (by decide) n
  have hled := State.led_congr (show _ = s.ledger from w.same .ledger (by decide))
  refine ⟨_, exec_sdiFrame_start hi ha, ?_⟩
  rw [State.sdiStart_locked (by rw [hsrc, hl]) (by rw [hsrc, hp]), ← hled 1 n 0, ← hled 1 n 2]
  exact State.sdiArrive_victim (by rw [hsrc, hr]) hk

end

/-! ## Publishing (R101) -/

theorem Ring.slot_updSlot (r : Ring) {k : Nat} (h : k < r.slots.length) (f : Slot → Slot) : (r.updSlot k f).slot k = f (r.slot k) := by
  simp only [Ring.slot, Ring.updSlot, List.getD_eq_getElem?_getD, List.getElem?_modify_eq, List.getElem?_eq_getElem h, Option.map_eq_map, Option.map_some, Option.getD_some]

/-- A frame that is published stands in its slot. -/
theorem State.publish_ring {s : State} {n k : Nat} {r : Ring} (hr : (s.src n).ring = some r) (h : k < r.slots.length) (f : Frame) :
    ∃ r', ((s.publish n k f).src n).ring = some r' ∧ (r'.slot k).frame = some f := by
  refine ⟨r.updSlot k fun y => { y with frame := some f, writing := false, taken := false }, ?_, ?_⟩
  · rw [State.publish, State.src_updSrc]
    simp only [hr, Option.map_some]
  · rw [Ring.slot_updSlot _ h]

theorem State.publish_src (s : State) (n k : Nat) (f : Frame) : ((s.publish n k f).src n).state = (s.src n).state ∧
    ((s.publish n k f).src n).sdiProg = (s.src n).sdiProg ∧ ((s.publish n k f).src n).nextId = (s.src n).nextId + 1 ∧
    ((s.publish n k f).src n).lastPub = s.now := by
  rw [State.publish, State.src_updSrc]
  exact ⟨rfl, rfl, rfl, rfl⟩

/-- The frame in progress in slot `k` is published as the next one of its source, with the time of its arrival. -/
theorem State.sdiPublish_result (u : State) {n k : Nat} {r : Ring} (e : SdiEnd) (hr : (u.src n).ring = some r) (hk : k < r.slots.length) :
    ((u.sdiPublish n k e).src n).state = (u.src n).state ∧ ((u.sdiPublish n k e).src n).sdiProg = (u.src n).sdiProg ∧
      ((u.sdiPublish n k e).src n).nextId = (u.src n).nextId + 1 ∧ ((u.sdiPublish n k e).src n).lastPub = u.now ∧
      ∃ f r', ((u.sdiPublish n k e).src n).ring = some r' ∧ (r'.slot k).frame = some f ∧ f.id = (u.src n).nextId ∧ f.mode = (u.src n).fmt.mode ∧
        f.arrSec = u.phcSec ∧ f.arrNs = u.phcNs ∧ f.patched = false := by
  unfold State.sdiPublish
  extract_lets a v
  obtain ⟨hstate, hprog, hnext, hlast⟩ := v.publish_src n k (v.frameNow n (v.colIn n) false 0 a.1 e.atc)
  obtain ⟨r', hr', hslot⟩ := State.publish_ring (s := v) hr hk (v.frameNow n (v.colIn n) false 0 a.1 e.atc)
  exact ⟨hstate, hprog, hnext, hlast, _, r', hr', hslot, rfl, rfl, rfl, rfl, rfl⟩

/-- The flags of a frame's ST 352 packet are all that they change of a source. -/
theorem State.sdiFlags_src (s : State) (n : Nat) (f : Fmt) : (s.sdiFlags n f).src n =
    { s.src n with fmt := { (s.src n).fmt with pidPresent := f.pidPresent, pidMismatch := f.pidMismatch } } := by
  unfold State.sdiFlags
  extract_lets was t
  have ht : t.src n = { s.src n with fmt := { (s.src n).fmt with pidPresent := f.pidPresent, pidMismatch := f.pidMismatch } } := s.src_updSrc n _
  split
  · exact (t.srcRaise_src n 3 0x0103 _ n).trans ht
  · exact ht

/-! ## SDI_FRAME at the end of the last line -/

/-- What the end of a frame tells of its lane, before its source is judged: the errors counted, the ST 352 packet, the link of a quad group. -/
def State.sdiSeen (s : State) (n : Fin 128) (e : SdiEnd) : State :=
  ((s.sdiCross n).sdiCounts n e).updSrc n fun x => { x with lane := (((s.sdiCross n).sdiCounts n e).src n).quadLane e.timing }

theorem State.sdiCounts_src (s : State) (n : Nat) (e : SdiEnd) : ∃ p, (s.sdiCounts n e).src n = { s.src n with pid := p } := by
  unfold State.sdiCounts
  split
  next p _ => exact ⟨p.word, State.src_updSrc _ _ _⟩
  next => exact ⟨(s.src n).pid, rfl⟩

theorem State.sdiCounts_src_ne (s : State) {n m : Nat} (e : SdiEnd) (h : m ≠ n) : (s.sdiCounts n e).src m = s.src m := by
  unfold State.sdiCounts
  split
  · exact State.src_updSrc_ne _ _ h
  · rfl

theorem State.sdiSeen_src (s : State) (n : Fin 128) (e : SdiEnd) : ∃ p m, (s.sdiSeen n e).src n = { s.src n with pid := p, lane := m } := by
  obtain ⟨p, hp⟩ := (s.sdiCross n).sdiCounts_src n e
  exact ⟨p, _, by rw [State.sdiSeen, State.src_updSrc, hp, State.sdiCross_src]⟩

theorem State.sdiSeen_within (s : State) (n : Fin 128) (e : SdiEnd) : Within (1099511627776 ||| 4098) s (s.sdiSeen n e) :=
  (State.updSrc_within _ _ _).via (by decide) ((State.sdiCounts_within _ _ _).via (by decide) ((s.sdiCross_within n).mono (by decide)))

/-- Neither the quad setting nor the group of a source changes with what a frame tells. -/
theorem State.sdiSeen_group (s : State) (n : Fin 128) (e : SdiEnd) (q : Nat) : (((s.sdiCross n).sdiCounts n e).src q).assembled = (s.src q).assembled ∧
    ((s.sdiSeen n e).src q).quad = (s.src q).quad := by
  by_cases hq : q = n
  · subst hq
    obtain ⟨p, hp⟩ := (s.sdiCross n).sdiCounts_src n e
    obtain ⟨p', m, hm⟩ := s.sdiSeen_src n e
    rw [hp, hm, State.sdiCross_src]
    exact ⟨rfl, rfl⟩
  · rw [State.sdiSeen, State.src_updSrc_ne _ _ hq, State.sdiCounts_src_ne _ _ hq, State.sdiCross_src]
    exact ⟨rfl, rfl⟩

theorem State.quadReady_off {s : State} {q : Nat} (h : (s.src q).quad = 2) : s.quadReady q = false := by
  simp [State.quadReady, h]

theorem exec_sdiFrame_finish {n : Fin 128} {s : State} (e : SdiEnd) (hi : s.ingests n = true) (ha : (s.src (quadHead n)).assembled = false)
    (hq : (s.src (quadHead n)).quad = 2) : exec (.sdiFrame n (.finish e)) s = .next ((s.sdiSeen n e).sdiFinish n e) := by
  obtain ⟨hasm, hquad⟩ := s.sdiSeen_group n e (quadHead n)
  have hready : (s.sdiSeen n e).quadReady (quadHead n) = false := State.quadReady_off (hquad.trans hq)
  show execSdiFrame n (.finish e) s = _
  rw [execSdiFrame, if_pos hi]
  refine congrArg Host.Outcome.next ((if_neg ?_).trans (if_neg ?_))
  · exact Bool.eq_false_iff.1 (hasm.trans ha)
  · exact Bool.eq_false_iff.1 (Bool.and_eq_false_iff.2 (.inl hready))

section
variable {s : State} {n k : Nat} {e : SdiEnd} (hl : (s.src n).state = .locked) (hp : (s.src n).sdiProg = some (some k)) (hm : e.missing = 0)
  (ht : e.timing.mapped = true) (hf : (s.src n).fmt.same ((s.src n).combine e.timing) = true)
include hl hp hm ht hf

/-- The whole frame of a LOCKED source in its accepted format is published. -/
theorem State.sdiFinish_publishes : s.sdiFinish n e =
    ((s.updSrc n fun y => { y with sdiProg := none }).sdiFlags n ((s.src n).combine e.timing)).sdiPublish n k e := by
  simp only [State.sdiFinish, hl, hp, hm, ht, hf, Bool.and_self, and_self, if_true]

/-- It stands in its slot under the source's next number and with its time of arrival. -/
theorem State.sdiFinish_published {r : Ring} (hr : (s.src n).ring = some r) (hk : k < r.slots.length) :
    ((s.sdiFinish n e).src n).state = .locked ∧ ((s.sdiFinish n e).src n).sdiProg = none ∧
      ((s.sdiFinish n e).src n).nextId = (s.src n).nextId + 1 ∧ ((s.sdiFinish n e).src n).lastPub = s.now ∧
      ∃ f r', ((s.sdiFinish n e).src n).ring = some r' ∧ (r'.slot k).frame = some f ∧ f.id = (s.src n).nextId ∧ f.mode = (s.src n).fmt.mode ∧
        f.arrSec = s.phcSec ∧ f.arrNs = s.phcNs ∧ f.patched = false := by
  rw [State.sdiFinish_publishes hl hp hm ht hf]
  generalize hu : (s.updSrc n fun y => { y with sdiProg := none }).sdiFlags n ((s.src n).combine e.timing) = u
  have hsrc : u.src n = { s.src n with sdiProg := none, fmt := { (s.src n).fmt with
      pidPresent := ((s.src n).combine e.timing).pidPresent, pidMismatch := ((s.src n).combine e.timing).pidMismatch } } := by
    rw [← hu, State.sdiFlags_src, State.src_updSrc]
  have hw : Within 4162 s u := hu ▸ (State.sdiFlags_within _ _ _).via (by decide) ((State.updSrc_within _ _ _).mono (by decide))
  have htim : u.tim = s.tim := hw.tim (by decide) (by decide) (by decide) (by decide)
  obtain ⟨hstate, hprog, hnext, hlast, hframe⟩ := u.sdiPublish_result (n := n) (k := k) e (by rw [hsrc]; exact hr) hk
  rw [State.phcSec, State.phcNs, htim, hsrc] at hframe
  rw [hstate, hprog, hnext, hlast, hsrc]
  exact ⟨hl, rfl, rfl, congrArg Tim.ct htim, hframe⟩

end

theorem sdiFrame_finish_result {n : Fin 128} {s : State} (e : SdiEnd) (hi : s.ingests n = true) (ha : (s.src (quadHead n)).assembled = false)
    (hq : (s.src (quadHead n)).quad = 2) (hl : (s.src n).state = .locked) (hm : e.missing = 0) (ht : e.timing.mapped = true)
    (hf : (s.src n).fmt.same ((s.src n).combine e.timing) = true) {r : Ring} {k : Nat} (hr : (s.src n).ring = some r)
    (hp : (s.src n).sdiProg = some (some k)) (hk : k < r.slots.length) : ∃ t, exec (.sdiFrame n (.finish e)) s = .next t ∧
      (t.src n).state = .locked ∧ (t.src n).sdiProg = none ∧ (t.src n).nextId = (s.src n).nextId + 1 ∧ (t.src n).lastPub = s.now ∧
      ∃ f r', (t.src n).ring = some r' ∧ (r'.slot k).frame = some f ∧ f.id = (s.src n).nextId ∧ f.mode = (s.src n).fmt.mode ∧
        f.arrSec = s.phcSec ∧ f.arrNs = s.phcNs ∧ f.patched = false := by
  obtain ⟨p, m, hs⟩ := s.sdiSeen_src n e
  have htim : (s.sdiSeen n e).tim = s.tim := (s.sdiSeen_within n e).tim (by decide) (by decide) (by decide) (by decide)
  have h := State.sdiFinish_published (s := s.sdiSeen n e) (n := n) (e := e) (k := k) (r := r) (by rw [hs]; exact hl) (by rw [hs]; exact hp) hm ht
    (by rw [hs]; exact hf) (by rw [hs]; exact hr) hk
  rw [show (s.sdiSeen n e).now = s.now from congrArg Tim.ct htim, State.phcSec, State.phcNs, htim, hs] at h
  exact ⟨_, exec_sdiFrame_finish e hi ha hq, h⟩

end Sys2Proof.Machine
end

section
/-!
SUPPORT. IP video received, ancillary packets and the freeing of rings (R87, R92 to R94, R98).
-/
namespace Sys2Proof.Machine

/-! ## The packets that a flow gets (R92) -/

/-- While packets arrive on a subport, every flow of a kind is looked at. -/
theorem flows_arriving {s : State} {p : IpPacket} (ht : s.lv.tripped = false) (hl : s.linkUp p.port p.sub = true) (k : Nat) :
    (s.ing.flows.filter fun f => f.kind == k && s.linkUp p.port p.sub && !s.lv.tripped) = s.ing.flows.filter fun f => f.kind == k := by
  simp only [ht, hl, Bool.not_false, Bool.and_true]

theorem exec_ipVideoPacket_plain {s : State} {p : IpPacket} {f : Flow} (ht : s.lv.tripped = false) (hl : s.linkUp p.port p.sub = true)
    (hf : (s.ing.flows.filter fun f => f.kind == 1) = [f]) (ha : f.a.accepts f.pt p = true) (hb : f.b = none) :
    exec (.ipVideoPacket p) s = .next (s.ipAccept f false p) := by
  show execIpVideoPacket p s = _
  simp only [execIpVideoPacket, flows_arriving ht hl, hf, List.foldl_cons, List.foldl_nil, ha, hb, if_true]

/-! ## A packet of a frame in progress (R94) -/

/-- Leg A of a flow has delivered a packet. -/
def State.legASeen (s : State) (f : Flow) (p : IpPacket) : State :=
  ((s.cross ⟨.ingest (Fin.ofNat 256 f.target), 0⟩).updSrc f.target fun x =>
    { x with legA := true, lastA := (s.cross ⟨.ingest (Fin.ofNat 256 f.target), 0⟩).now, lostA := false }).count (Adr.srcLeg f.target) 15 0 p.lost

theorem State.legASeen_src (s : State) (f : Flow) (p : IpPacket) :
    (s.legASeen f p).src f.target = { s.src f.target with legA := true, lastA := s.now, lostA := false } := by
  have w := s.cross_within ⟨.ingest (Fin.ofNat 256 f.target), 0⟩
  rw [State.legASeen, State.src_congr (congrArg Ing.srcs (State.count_ing _ _ _ _ _)), State.src_updSrc, w.src (by decide), w.now (by decide)]

theorem State.ipAccept_known {s : State} {f : Flow} {p : IpPacket} (hr : f.inRaster p = true)
    (hk : ((s.legASeen f p).src f.target).ipKnown f.p0 p.ts p.second = true) (hm : p.marker = false) :
    s.ipAccept f false p = ((s.legASeen f p).ipWrite f.target f p).closeOvertaken f.target f := by
  unfold State.ipAccept
  rw [if_pos hr, hm]
  exact congrArg (fun u => (State.ipWrite u f.target f p).closeOvertaken f.target f) (if_pos hk)

/-- A frame in progress is known. -/
theorem Source.ipKnown_of_find {x : Source} {mode ts : Nat} {second : Bool} {g : InProg} (h : x.ipProg.find? (fun g => g.isOf mode ts second) = some g) :
    x.ipKnown mode ts second = true := by
  have hg : g.isOf mode ts second = true := by simpa using List.find?_some h
  have hany : ((x.ipProg ++ x.ipClosed).any fun f => f.isOf mode ts second) = true :=
    List.any_eq_true.2 ⟨g, List.mem_append_left _ (List.mem_of_find?_eq_some h), hg⟩
  rw [Source.ipKnown, hany, Bool.true_or]

@[simp] theorem InProg.note_num (f : InProg) (mode ts : Nat) (second : Bool) : (f.note mode ts second).num = f.num := by
  unfold InProg.note; split <;> rfl

@[simp] theorem InProg.note_got (f : InProg) (mode ts : Nat) (second : Bool) : (f.note mode ts second).got = f.got := by
  unfold InProg.note; split <;> rfl

@[simp] theorem InProg.note_newer (f : InProg) (mode ts : Nat) (second : Bool) : (f.note mode ts second).newer = f.newer := by
  unfold InProg.note; split <;> rfl

/-- A frame in progress once packet `p`, which belongs to the frame with number `num`, is written. -/
def InProg.written (h : InProg) (f : Flow) (p : IpPacket) (num : Nat) : InProg :=
  if h.num = num then { h.note f.p0 p.ts p.second with got := h.got ++ [(p.line, p.off, p.npix)] } else h

theorem InProg.written_newer (h : InProg) (f : Flow) (p : IpPacket) (num : Nat) : (h.written f p num).newer = h.newer := by
  unfold InProg.written
  split
  · exact h.note_newer _ _ _
  · rfl

/-- A packet that neither repeats nor ends its frame joins it. -/
theorem State.ipWrite_joins {s : State} {n : Nat} {f : Flow} {p : IpPacket} {g : InProg}
    (hg : (s.src n).ipProg.find? (fun g => g.isOf f.p0 p.ts p.second) = some g) (hc : g.covers p = false) (hp : g.pixels + p.npix ≠ modePx f.p0) :
    (s.ipWrite n f p).src n = { s.src n with ipProg := (s.src n).ipProg.map fun h => h.written f p g.num } := by
  simp only [State.ipWrite, hg, hc, Bool.false_eq_true, if_false, if_neg hp, State.src_updSrc, List.map_map]
  congr 2
  funext h
  by_cases hn : h.num = g.num
  · simp only [Function.comp, hn, if_true, InProg.note_num, InProg.note_got, InProg.written]
  · simp only [Function.comp, hn, if_false, InProg.written]

theorem State.closeOvertaken_none {s : State} {n : Nat} {f : Flow} (h : ∀ g ∈ (s.src n).ipProg, g.newer = 0) : s.closeOvertaken n f = s := by
  have hnone : (s.src n).ipProg.filter f.overtaken = [] := by
    refine List.filter_eq_nil_iff.2 fun g hg => ?_
    rw [Flow.overtaken, h g hg]
    split <;> decide
  rw [State.closeOvertaken, hnone, List.foldl_nil]

theorem ipVideoPacket_result {s : State} {p : IpPacket} {f : Flow} {g : InProg} (ht : s.lv.tripped = false) (hl : s.linkUp p.port p.sub = true)
    (hf : (s.ing.flows.filter fun f => f.kind == 1) = [f]) (ha : f.a.accepts f.pt p = true) (hb : f.b = none) (hr : f.inRaster p = true)
    (hg : (s.src f.target).ipProg.find? (fun g => g.isOf f.p0 p.ts p.second) = some g) (hc : g.covers p = false) (hp : g.pixels + p.npix ≠ modePx f.p0)
    (hn : ∀ h ∈ (s.src f.target).ipProg, h.newer = 0) (hm : p.marker = false) : ∃ t, exec (.ipVideoPacket p) s = .next t ∧
      t.src f.target = { s.src f.target with
        legA := true, lastA := s.now, lostA := false, ipProg := (s.src f.target).ipProg.map fun h =>
          if h.num = g.num then { h.note f.p0 p.ts p.second with got := h.got ++ [(p.line, p.off, p.npix)] } else h } := by
  have hs := s.legASeen_src f p
  have hg' : ((s.legASeen f p).src f.target).ipProg.find? (fun g => g.isOf f.p0 p.ts p.second) = some g := by rw [hs]; exact hg
  have hw := State.ipWrite_joins hg' hc hp
  have hnew : ∀ h ∈ (((s.legASeen f p).ipWrite f.target f p).src f.target).ipProg, h.newer = 0 := by
    rw [hw, hs]
    intro h hh
    obtain ⟨h', hm', rfl⟩ := List.mem_map.1 hh
    rw [InProg.written_newer, hn h' hm']
  refine ⟨_, exec_ipVideoPacket_plain ht hl hf ha hb, ?_⟩
  rw [State.ipAccept_known hr (Source.ipKnown_of_find hg') hm, State.closeOvertaken_none hnew, hw, hs]
  rfl

/-! ## The end of a merge window (R94, R105) -/

/-- A frame in progress closes: it leaves the list of those, and its ancillary packets leave the wait. -/
def State.frameClosed (s : State) (n : Nat) (f : InProg) : State :=
  s.updSrc n fun x =>
    { x with ipProg := x.ipProg.filter fun g => g.num ≠ f.num, ipClosed := (f.closed :: x.ipClosed).take 4,
             ancWait := x.ancWait.filter fun a => tsAfter a.1 f.key && !(f.ts2 == some a.1) }

/-- A frame that closes with pixels missing is damaged, where damaged frames are not published. -/
theorem State.closeFrame_damaged {s : State} {n k : Nat} {fl : Flow} {f : InProg} (hf : (s.src n).ipProg.find? (fun g => g.num == f.num) = some f)
    (hk : f.slot = some k) (hp : f.pixels ≠ modePx fl.p0) (hd : (s.src n).damagePub = false) : s.closeFrame n fl f.num =
      ((s.frameClosed n f).dropWrite n (some k)).srcDamaged n (Fmt.packetsMissing fl.fmt fl.p6 f.got) := by
  have hd' : ((s.frameClosed n f).src n).damagePub = false := by rw [State.frameClosed, State.src_updSrc, hd]
  unfold State.closeFrame
  split
  next h => rw [hf] at h; cases h
  next f' h =>
    obtain rfl : f = f' := Option.some.inj (hf.symm.trans h)
    extract_lets anc t frame
    split
    next h => rw [hk] at h; cases h
    next k' h =>
      obtain rfl : k = k' := Option.some.inj (hk.symm.trans h)
      rw [if_neg hp]
      exact if_neg (Bool.eq_false_iff.1 (Bool.and_eq_false_iff.2 (.inl hd')))

section
variable {m : Fin 256} {s : State} {f : Flow} {g : InProg} {u : Nat} (hf : s.videoFlow m = some f) (hp : (s.src m).ipProg = [g])
  (hc : g.closeAt = some u) (hu : u ≤ s.now)
include hf hp hc hu

theorem exec_mergeWindowExpiry : exec (.mergeWindowExpiry m) s = .next (s.closeFrame m f g.num) := by
  show execMergeWindowExpiry m s = _
  simp only [execMergeWindowExpiry, hf, hp, List.filter_cons, List.filter_nil, hc, hu, decide_true, if_true, List.foldl_cons, List.foldl_nil]

theorem mergeWindowExpiry_result {k : Nat} (hk : g.slot = some k) (hx : g.pixels ≠ modePx f.p0) (hd : (s.src m).damagePub = false) :
    ∃ t, exec (.mergeWindowExpiry m) s = .next t ∧
      (t.src m).ipProg = [] ∧ t.led 1 m 3 = s.led 1 m 3 + 1 ∧ t.flag (Adr.srcCause m) 7 = true ∧ (t.src m).nextId = (s.src m).nextId := by
  have hfind : (s.src m).ipProg.find? (fun h => h.num == g.num) = some g := by
    rw [hp, List.find?_cons_of_pos (by exact beq_self_eq_true g.num)]
  obtain ⟨r, hr⟩ := (s.frameClosed m g).dropWrite_src m (some k)
  have hled : ((s.frameClosed m g).dropWrite m (some k)).led 1 m 3 = s.led 1 m 3 :=
    State.led_congr (((s.frameClosed m g).dropWrite_within m (some k)).same .ledger (by decide)) 1 m 3
  refine ⟨_, exec_mergeWindowExpiry hf hp hc hu, ?_⟩
  rw [State.closeFrame_damaged hfind hk hx hd, State.srcDamaged_src, hr, State.frameClosed, State.src_updSrc, hp]
  refine ⟨?_, ?_, State.srcCause_srcRaise _ _ (by decide) _ _, rfl⟩
  · simp
  · rw [State.srcDamaged, State.srcRaise_led, State.srcCount_led_self]
    exact congrArg (· + 1) hled

end

/-! ## Ancillary packets (R87) -/

theorem exec_ancillaryPacket {s : State} {p : IpPacket} {f : Flow} (a : Anc) (ht : s.lv.tripped = false) (hl : s.linkUp p.port p.sub = true)
    (hf : (s.ing.flows.filter fun f => f.kind == 4) = [f]) (ha : f.a.accepts f.pt p = true) :
    exec (.ancillaryPacket p a) s = .next (s.ancJoin f.target p.ts a) := by
  show execAncillaryPacket p a s = _
  simp only [execAncillaryPacket, flows_arriving ht hl, hf, List.foldl_cons, List.foldl_nil, ha, Bool.true_or, if_true]

theorem State.ancJoin_published {s : State} {n ts k : Nat} {a : Anc} {r : Ring} {fr : Frame} (hr : (s.src n).ring = some r)
    (hs : r.slotOf ts = some (k, fr)) (hn : fr.anc.contains a = false) : s.ancJoin n ts a =
      if (fr.anc.map (·.size)).sum + a.size ≤ 16384 then
        s.updRing n r.id fun r => r.updSlot k fun x => { x with frame := x.frame.map fun g => { g with anc := g.anc ++ [a] } }
      else s.count (Adr.srcErr n) 31 16 1 := by
  simp only [State.ancJoin, hr, hs, hn, Bool.false_eq_true, if_false]
  rfl

/-! ## Rings that nothing holds (R93, R98) -/

theorem sourceRingFree_result {m : Fin 256} {s : State} {o : OldRing}
    (h : (s.ing.old.filter fun o => o.src == m.val && decide (o.ring.pinned = 0) && !(o.byFlow && s.instarNames m)) = [o]) :
    ∃ t, exec (.sourceRingFree m) s = .next t ∧ t.ing.old = s.ing.old.filter (fun p => p.ring.id ≠ o.ring.id) := by
  have he : exec (.sourceRingFree m) s = execSourceRingFree m s := rfl
  rw [he, execSourceRingFree, h]
  refine ⟨_, rfl, ?_⟩
  rw [List.foldl_cons, List.foldl_nil]
  exact congrArg Ing.old ((State.leaveRet_within _ _ _).ing (by decide) (by decide) (by decide))

/-! ## The obligation -/

/-- Settles O27, command by command. -/
theorem framesReceived : Obligations.FramesReceived := fun _ _ _ =>
  ⟨fun hi ha hl hp _ _ hr hk => sdiFrame_start_result hi ha hl hp hr hk,
    fun e hi ha hq hl hm ht hf _ _ hr hp hk => sdiFrame_finish_result e hi ha hq hl hm ht hf hr hp hk,
    fun _ _ _ ht hl hf ha hb hr hg hc hp hn hm => ipVideoPacket_result ht hl hf ha hb hr hg hc hp hn hm,
    fun _ _ _ _ hf hp hc hu hk hx hd => mergeWindowExpiry_result hf hp hc hu hk hx hd,
    fun _ a _ _ _ _ ht hl hf ha hr hs hn => ⟨_, exec_ancillaryPacket a ht hl hf ha, State.ancJoin_published hr hs hn⟩,
    fun _ h => sourceRingFree_result h⟩

end Sys2Proof.Machine
end

section
/-!
SUPPORT. Descriptors that other completions leave alone, and OP_SRC_SET: the settings of a source (R83, R86, R98, R104, R109, R110).
-/
namespace Sys2Proof.Machine

/-! ## A descriptor that other descriptors' completions may overtake (R57, R562) -/

theorem State.Open.has {s : State} {j : Job} (o : s.Open j) : s.Has j := by
  obtain ⟨⟨e, he, hstamp, hseq, hopc, -, -, hflush⟩, hf⟩ := o
  exact ⟨⟨e, he, hstamp, hseq, hopc, hflush⟩, hf⟩

theorem State.Has.within {s t : State} {j : Job} {m : Nat} (o : s.Has j) (w : Within m s t) (h4 : m.testBit 4 = false) (h10 : m.testBit 10 = false) :
    t.Has j := by
  obtain ⟨⟨e, he, hr⟩, hf⟩ := o
  have hg := w.same .engine h10
  simp only [Part.same, Prod.mk.injEq] at hg
  obtain ⟨-, -, -, hg⟩ := hg
  exact ⟨⟨e, by rw [State.sq_congr (w.same .subRings h4)]; exact he, hr⟩, by rw [hg]; exact hf⟩

/-- A change of started entries that keeps what names an entry. -/
def Started.Named (f : Started → Started) : Prop :=
  ∀ e, (f e).stamp = e.stamp ∧ (f e).seq = e.seq ∧ (f e).opcode = e.opcode ∧ (f e).flushed = e.flushed

theorem State.Has.mapStarted {s : State} {j : Job} (o : s.Has j) (ring stamp : Nat) {f : Started → Started} (hf : Started.Named f) :
    (s.mapStarted ring stamp f).Has j := by
  obtain ⟨⟨e, he, hstamp, hseq, hopc, hflush⟩, hfence⟩ := o
  refine ⟨?_, hfence⟩
  unfold State.mapStarted
  by_cases hr : j.ring = ring
  · subst hr
    rw [State.sq_setSq]
    refine ⟨_, List.mem_map_of_mem he, ?_⟩
    obtain ⟨h1, h2, h3, h4⟩ := hf e
    split
    · exact ⟨h1.trans hstamp, h2.trans hseq, h3.trans hopc, h4.trans hflush⟩
    · exact ⟨hstamp, hseq, hopc, hflush⟩
  · rw [State.sq_setSq_ne _ _ hr]
    exact ⟨e, he, hstamp, hseq, hopc, hflush⟩

theorem State.Has.settleFence {s : State} {j : Job} (o : s.Has j) (f : FenceWait) : (s.settleFence f).Has j := by
  unfold State.settleFence
  split
  · obtain ⟨he, hf⟩ := o.mapStarted f.ring f.stamp (f := fun e => { e with ended := true, ready := some (0, s.phcResult) })
      fun _ => ⟨rfl, rfl, rfl, rfl⟩
    exact ⟨he, fun g hg => hf g (List.mem_of_mem_filter hg)⟩
  · exact o

theorem State.Has.completeAt {s : State} {j : Job} (o : s.Has j) (ring stamp status : Nat) (result : BitVec 64) :
    (s.completeAt ring stamp status result).Has j := by
  unfold State.completeAt
  rw [State.settle_eq]
  exact Within.fold (Q := fun t : State => t.Has j) (o.mapStarted _ _ fun _ => ⟨rfl, rfl, rfl, rfl⟩) fun t f ht => ht.settleFence f

/-- A descriptor that is on its ring is answered once it completes. -/
theorem State.Has.answered {s : State} {j : Job} (o : s.Has j) (status : Nat) (result : BitVec 64) :
    (s.complete j status result).Answered j status (if status < 0x100 then result else 0) := by
  obtain ⟨⟨e, he, hstamp, hseq, hopc, hflush⟩, hf⟩ := o
  exact ⟨_, State.complete_mem he hstamp hflush hf status result, hstamp, hseq, hopc, rfl, rfl⟩

theorem State.Has.surfSettle {s : State} {j : Job} (o : s.Has j) (h : BitVec 32) : (s.surfSettle h).Has j := by
  have gone : (s.surfGone h).Has j := by
    unfold State.surfGone
    split
    · split
      · exact (o.within ((State.ledAdd_within _ _ _ _ _ (by decide)).via (l := 131080) (by decide) (State.updSrf_via (by decide) (.refl _ s)))
          (by decide) (by decide)).completeAt _ _ _ _
      · exact o.within ((State.ledAdd_within _ _ _ _ _ (by decide)).via (l := 131080) (by decide) (State.updSrf_via (by decide) (.refl _ s)))
          (by decide) (by decide)
    · exact o
  unfold State.surfSettle
  split
  · split
    · exact gone
    · exact o
  · exact o

/-- References that are dropped may complete OP_SURF_FREE, but leave every other descriptor on its ring. -/
theorem State.Has.dropRefs {s : State} {j : Job} (o : s.Has j) (l : List (BitVec 32)) : (s.dropRefs l).Has j :=
  Within.fold (Q := fun t : State => t.Has j) o fun t h ht =>
    (ht.within ((State.ledAdd_within _ _ _ _ _ (by decide)).via (l := 131080) (by decide) ((t.updSurf_within h _).mono (by decide)))
      (by decide) (by decide)).surfSettle h

/-! ## The settings of a source -/

/-- What OP_SRC_SET sets of a source, and no loss, search or change of ring changes. -/
structure SrcConfig where
  owner : Nat
  holdMs : Nat
  fallback : Nat
  quad : Nat
  rateLock : Nat

def Source.config (x : Source) : SrcConfig :=
  { owner := x.owner, holdMs := x.holdMs, fallback := x.fallback, quad := x.quad, rateLock := x.rateLock }

/-- The settings of every source are the same. -/
def State.SameConfig (s t : State) : Prop := ∀ m, (t.src m).config = (s.src m).config

theorem State.SameConfig.refl (s : State) : s.SameConfig s := fun _ => rfl

theorem State.SameConfig.trans {s t u : State} (h : s.SameConfig t) (k : t.SameConfig u) : s.SameConfig u := fun m => (k m).trans (h m)

theorem State.SameConfig.of_src {s t : State} (h : ∀ m, t.src m = s.src m) : s.SameConfig t := fun m => by rw [h m]

/-- A change of one source that keeps its settings. -/
theorem State.SourceOnly.sameConfig {s t : State} {n : Nat} (h : s.SourceOnly t n) (hn : (t.src n).config = (s.src n).config) :
    s.SameConfig t := fun m => by
  by_cases hm : m = n
  · rw [hm, hn]
  · rw [h.others m hm]

theorem State.updSrc_sameConfig (s : State) (n : Nat) {f : Source → Source} (h : ∀ x, (f x).config = x.config) : s.SameConfig (s.updSrc n f) :=
  (s.updSrc_sourceOnly n f).sameConfig (by rw [State.src_updSrc, h])

theorem State.dropWrite_sameConfig (s : State) (n : Nat) (slot : Option Nat) : s.SameConfig (s.dropWrite n slot) :=
  (s.dropWrite_sourceOnly n slot).sameConfig (by obtain ⟨r, hr⟩ := s.dropWrite_src n slot; rw [hr]; rfl)

theorem State.abandon_sameConfig (s : State) (n : Nat) (missing : List (Nat × Nat × Nat) → Nat) : s.SameConfig (s.abandon n missing) :=
  (s.abandon_sourceOnly n missing).sameConfig (by obtain ⟨r, c, hs⟩ := s.abandon_src n missing; rw [hs]; rfl)

theorem State.srcLose_sameConfig (s : State) (n : Nat) : s.SameConfig (s.srcLose n) := by
  by_cases h : (s.src n).state = .locked
  · exact (s.srcLose_sourceOnly n).sameConfig (by obtain ⟨r, c, hs⟩ := State.srcLose_src h; rw [hs]; rfl)
  · rw [State.srcLose_of_ne h]
    exact .refl s

theorem State.srcSearch_sameConfig (s : State) (n : Nat) : s.SameConfig (s.srcSearch n) :=
  (s.srcSearch_sourceOnly n).sameConfig (by obtain ⟨r, c, hs⟩ := s.srcSearch_src n; rw [hs]; rfl)

theorem State.unlockSrc_sameConfig (s : State) (n : Nat) : s.SameConfig (s.unlockSrc n) := by
  unfold State.unlockSrc
  split
  · exact s.srcLose_sameConfig n
  · exact .refl s
  · exact (s.abandon_sameConfig n _).trans (State.updSrc_sameConfig _ n fun _ => rfl)

theorem State.quadBreak_sameConfig (s : State) (q : Nat) : s.SameConfig (s.quadBreak q) := by
  have hlost : s.SameConfig (if (s.src q).state = .locked then s.srcLose q else if (s.src q).state = .lost then s else s.srcSearch q) := by
    split
    · exact s.srcLose_sameConfig q
    · split
      · exact .refl s
      · exact s.srcSearch_sameConfig q
  exact Within.fold (Q := fun t : State => s.SameConfig t) (hlost.trans (State.updSrc_sameConfig _ q fun _ => rfl))
    fun t i ht => ht.trans (t.updSrc_sameConfig (q + i) fun _ => rfl)

theorem State.cdrLost_sameConfig (s : State) (n : Nat) : s.SameConfig (s.cdrLost n) := by
  cases ha : (s.src (quadHead n)).assembled with
  | false =>
    rw [State.cdrLost_alone ha]
    exact ((State.SameConfig.refl s).trans ((s.unlockLane n).unlockSrc_sameConfig n)).trans (State.updSrc_sameConfig _ n fun _ => rfl)
  | true =>
    have hb : s.SameConfig ((s.unlockLane n).quadBreak (quadHead n)) := (s.unlockLane n).quadBreak_sameConfig _
    have hc : s.cdrLost n = if n = quadHead n then
        (if (((s.unlockLane n).quadBreak (quadHead n)).src n).state = .search then
          ((s.unlockLane n).quadBreak (quadHead n)).updSrc n fun x => { x with state := .idle } else (s.unlockLane n).quadBreak (quadHead n))
        else (s.unlockLane n).quadBreak (quadHead n) := if_pos ha
    rw [hc]
    split
    · split
      · exact hb.trans (State.updSrc_sameConfig _ n fun _ => rfl)
      · exact hb
    · exact hb

/-- The ring of a source waits to be freed. -/
def State.ringWaits (s : State) (n : Nat) : State :=
  match (s.src n).ring with
  | some o => s.updIng fun g => { g with old := g.old ++ [OldRing.mk n o false] }
  | none => s

theorem State.replaceRing_eq (s : State) (n mode tokens : Nat) : s.replaceRing n mode tokens =
    (((s.newRing mode tokens).2.ringWaits n).updSrc n fun x => { x with ring := some (s.newRing mode tokens).1 }).supersedeOld n := rfl

theorem State.ringWaits_sameConfig (s : State) (n : Nat) : s.SameConfig (s.ringWaits n) := by
  unfold State.ringWaits
  split <;> exact .refl s

theorem State.replaceRing_sameConfig (s : State) (n mode tokens : Nat) : s.SameConfig (s.replaceRing n mode tokens) := by
  rw [State.replaceRing_eq]
  exact ((s.newRing mode tokens).2.ringWaits_sameConfig n).trans
    (((s.newRing mode tokens).2.ringWaits n).updSrc_sameConfig n (f := fun x => { x with ring := some (s.newRing mode tokens).1 }) fun _ => rfl)

theorem State.tooLarge_sameConfig (s : State) (n mode : Nat) : s.SameConfig (s.tooLarge n mode) :=
  (s.updSrc_sameConfig n (f := fun x => { x with state := .tooLarge, cand := none }) fun _ => rfl).trans (.of_src fun m => State.srcRaise_src _ n _ _ _ m)

/-! ## The fields of OP_SRC_SET (R110) -/

/-- A frame in progress goes on in the new ring of its source. -/
def State.writesOn (s : State) (n : Nat) (slot : Option Nat) : State :=
  match slot with
  | some k => s.updSrc n fun x => { x with ring := x.ring.map fun r => r.updSlot k fun y => { y with writing := true } }
  | none => s

theorem State.writesOn_sameConfig (s : State) (n : Nat) (slot : Option Nat) : s.SameConfig (s.writesOn n slot) := by
  cases slot with
  | none => exact .refl s
  | some k => exact s.updSrc_sameConfig n fun _ => rfl

theorem State.setRing_sameConfig (s : State) (n : Nat) (fixed : Bool) (mode : Nat) : s.SameConfig (s.setRing n fixed mode) := by
  unfold State.setRing
  extract_lets t k u v w f
  have ht : s.SameConfig t := s.updSrc_sameConfig n fun _ => rfl
  have hu : s.SameConfig u := (ht.trans (t.dropWrite_sameConfig n k)).trans (State.replaceRing_sameConfig _ n mode 0)
  have hv : s.SameConfig v := hu.trans (u.writesOn_sameConfig n k)
  split
  · split
    · exact (hv.trans (v.abandon_sameConfig n _)).trans (State.tooLarge_sameConfig _ n f)
    · exact hv
  · exact ht

theorem State.setFallback_config (s : State) (n fb : Nat) (slate : BitVec 32) :
    ((s.setFallback n fb slate).src n).config = { (s.src n).config with fallback := fb } := by
  unfold State.setFallback
  extract_lets old t u
  have ht : (t.src n).config = { (s.src n).config with fallback := fb } := by rw [State.src_updSrc]; rfl
  have hu : u.src n = t.src n := by
    show State.src (if slate = 0 then t else t.takeRefs [slate]) n = _
    split
    · rfl
    · exact (t.takeRefs_within [slate]).src (by decide) n
  split
  · rw [hu, ht]
  · rw [(u.dropRefs_within [old]).src (by decide), hu, ht]

theorem State.setQuad_config (s : State) (n q : Nat) : ((s.setQuad n q).src n).config = { (s.src n).config with quad := q } := by
  have ht : ((s.updSrc n fun x => { x with quad := q }).src n).config = { (s.src n).config with quad := q } := by rw [State.src_updSrc]; rfl
  unfold State.setQuad
  extract_lets t x
  split
  · exact (t.quadBreak_sameConfig n n).trans ht
  · split
    · exact (t.srcSearch_sameConfig n n).trans ht
    · exact ht

theorem State.setRateLock_config (s : State) (n r : Nat) : ((s.setRateLock n r).src n).config = { (s.src n).config with rateLock := r } := by
  unfold State.setRateLock
  extract_lets t stat u
  have ht : (t.src n).config = { (s.src n).config with rateLock := r } := by rw [State.src_updSrc]; rfl
  have again : ∀ v : State, (v.src n).config = { (s.src n).config with rateLock := r } → ∀ i,
      ((v.updSrc n fun x => { x with search := i }).src n).config = { (s.src n).config with rateLock := r } :=
    fun v hv i => (v.updSrc_sameConfig n (f := fun x => { x with search := i }) (fun _ => rfl) n).trans hv
  have hu : (u.src n).config = { (s.src n).config with rateLock := r } := (t.cdrLost_sameConfig n n).trans ht
  split
  · split
    · exact ht
    · split
      · exact again u hu _
      · exact hu
  · split
    · exact again t ht _
    · exact ht

/-- The masked fields of OP_SRC_SET are set, and the other settings stay. -/
theorem State.srcSet_config (s : State) (d : List Byte) : ((s.srcSet d).src (u16 d 8)).config =
    { owner := (s.src (u16 d 8)).owner
      holdMs := if ubit d 10 0 then u16 d 12 else (s.src (u16 d 8)).holdMs
      fallback := if ubit d 10 1 then u8 d 14 else (s.src (u16 d 8)).fallback
      quad := if ubit d 10 3 then u8 d 22 else (s.src (u16 d 8)).quad
      rateLock := if ubit d 10 7 then u8 d 24 else (s.src (u16 d 8)).rateLock } := by
  unfold State.srcSet
  extract_lets n m s0 s1 s2 s3 s4 s5 s6
  have h0 : (s0.src n).config = { (s.src n).config with holdMs := if m 0 then u16 d 12 else (s.src n).holdMs } := by
    show ((if m 0 then _ else s).src n).config = _
    split
    · rw [State.src_updSrc]; rfl
    · rfl
  have h1 : (s1.src n).config = { (s0.src n).config with fallback := if m 1 then u8 d 14 else (s0.src n).fallback } := by
    show ((if m 1 then _ else s0).src n).config = _
    split
    · exact s0.setFallback_config n _ _
    · rfl
  have h2 : (s2.src n).config = (s1.src n).config := by
    show ((if m 2 then _ else s1).src n).config = _
    split
    · exact s1.setRing_sameConfig n _ _ n
    · rfl
  have h3 : (s3.src n).config = { (s2.src n).config with quad := if m 3 then u8 d 22 else (s2.src n).quad } := by
    show ((if m 3 then _ else s2).src n).config = _
    split
    · exact s2.setQuad_config n _
    · rfl
  have plain : ∀ (v : State) (c : Bool) (f : Source → Source), (∀ x, (f x).config = x.config) →
      ((if c then v.updSrc n f else v).src n).config = (v.src n).config := fun v c f hf => by
    split
    · exact v.updSrc_sameConfig n hf n
    · rfl
  have h4 : (s4.src n).config = (s3.src n).config := plain s3 (m 4) _ fun _ => rfl
  have h5 : (s5.src n).config = (s4.src n).config := plain s4 (m 5) _ fun _ => rfl
  have h6 : (s6.src n).config = (s5.src n).config := plain s5 (m 6) _ fun _ => rfl
  have h7 : ((if m 7 then s6.setRateLock n (u8 d 24) else s6).src n).config =
      { (s6.src n).config with rateLock := if m 7 then u8 d 24 else (s6.src n).rateLock } := by
    split
    · exact s6.setRateLock_config n _
    · rfl
  have hfb : (s0.src n).fallback = (s.src n).fallback := congrArg SrcConfig.fallback h0
  have hq : (s2.src n).quad = (s.src n).quad := (congrArg SrcConfig.quad (h2.trans h1)).trans (congrArg SrcConfig.quad h0)
  have hr : (s6.src n).rateLock = (s.src n).rateLock := by
    refine (congrArg SrcConfig.rateLock (((h6.trans h5).trans h4).trans h3)).trans ?_
    exact (congrArg SrcConfig.rateLock (h2.trans h1)).trans (congrArg SrcConfig.rateLock h0)
  rw [h7, h6, h5, h4, h3, h2, h1, h0, hfb, hq, hr]
  rfl

/-! ## OP_SRC_SET -/

theorem State.Has.updSrc {s : State} {j : Job} (o : s.Has j) (n : Nat) (f : Source → Source) : (s.updSrc n f).Has j :=
  o.within (s.updSrc_within n f) (by decide) (by decide)

theorem State.Has.setFallback {s : State} {j : Job} (o : s.Has j) (n fb : Nat) (slate : BitVec 32) : (s.setFallback n fb slate).Has j := by
  unfold State.setFallback
  extract_lets old t u
  have ht : t.Has j := o.updSrc n _
  have hu : u.Has j := by
    show (if slate = 0 then t else t.takeRefs [slate]).Has j
    split
    · exact ht
    · exact ht.within (t.takeRefs_within _) (by decide) (by decide)
  split
  · exact hu
  · exact hu.dropRefs _

/-- A step that is taken or not keeps a descriptor on its ring where the step does. -/
theorem State.Has.step {s t : State} {j : Job} (o : s.Has j) (h : t.Has j) (c : Bool) : (if c then t else s).Has j := by
  cases c
  · exact o
  · exact h

theorem State.Has.srcSet {s : State} {j : Job} (o : s.Has j) (d : List Byte) : (s.srcSet d).Has j := by
  unfold State.srcSet
  extract_lets n m s0 s1 s2 s3 s4 s5 s6
  have h0 : s0.Has j := o.step (o.updSrc n _) (m 0)
  have h1 : s1.Has j := h0.step (h0.setFallback n _ _) (m 1)
  have h2 : s2.Has j := h1.step (h1.within (s1.setRing_within n _ _) (by decide) (by decide)) (m 2)
  have h3 : s3.Has j := h2.step (h2.within (s2.setQuad_within n _) (by decide) (by decide)) (m 3)
  have h4 : s4.Has j := h3.step (h3.updSrc n _) (m 4)
  have h5 : s5.Has j := h4.step (h4.updSrc n _) (m 5)
  have h6 : s6.Has j := h5.step (h5.updSrc n _) (m 6)
  exact h6.step (h6.within (s6.setRateLock_within n _) (by decide) (by decide)) (m 7)

/-- The units of a source's ring. -/
def Source.ringUnits (x : Source) : Nat := match x.ring with | some r => ceilDiv r.bytes 4096 | none => 0

/-- The source takes its owner and the fields set, and its page joins the queue. -/
def State.srcSetBy (s : State) (j : Job) : State :=
  ((s.updSrc (u16 j.d 8) fun x => { x with owner := j.owner }).srcSet j.d).nvTouch (512 + u16 j.d 8 / 4)

theorem State.srcSetBy_src (s : State) (j : Job) (m : Nat) : (s.srcSetBy j).src m = ((s.updSrc (u16 j.d 8) fun x => { x with owner := j.owner }).srcSet j.d).src m :=
  (State.nvTouch_within _ _).src (by decide) m

theorem State.srcSetBy_config (s : State) (j : Job) : ((s.srcSetBy j).src (u16 j.d 8)).config =
    { owner := j.owner
      holdMs := if ubit j.d 10 0 then u16 j.d 12 else (s.src (u16 j.d 8)).holdMs
      fallback := if ubit j.d 10 1 then u8 j.d 14 else (s.src (u16 j.d 8)).fallback
      quad := if ubit j.d 10 3 then u8 j.d 22 else (s.src (u16 j.d 8)).quad
      rateLock := if ubit j.d 10 7 then u8 j.d 24 else (s.src (u16 j.d 8)).rateLock } := by
  rw [State.srcSetBy_src, State.srcSet_config, State.src_updSrc]

theorem State.complete_src (s : State) (j : Job) (status : Nat) (result : BitVec 64) (m : Nat) : (s.complete j status result).src m = s.src m :=
  (s.complete_within j status result).src (by decide) m

section
variable {n : Fin 64} {s u : State} {j : Job} (h : s.Starts n 0x30 j u)
include h

theorem exec_opSrcSet (hc : u.srcSetCheck j = none) : exec (.opSrcSet n) s =
    .next ((u.srcSetBy j).complete j csOk (BitVec.ofNat 64 ((u.srcSetBy j).src (u16 j.d 8)).ringUnits)) := by
  show execOpSrcSet n s = _
  rw [execOpSrcSet, h.runOp rfl, hc]
  rfl

theorem opSrcSet_result (g : s.Good) (hc : u.srcSetCheck j = none) : ∃ t, exec (.opSrcSet n) s = .next t ∧
    t.Answered j csOk (BitVec.ofNat 64 (t.src (u16 j.d 8)).ringUnits) ∧ (t.src (u16 j.d 8)).owner = j.owner ∧
    (t.src (u16 j.d 8)).holdMs = (if ubit j.d 10 0 then u16 j.d 12 else (s.src (u16 j.d 8)).holdMs) ∧
    (t.src (u16 j.d 8)).fallback = (if ubit j.d 10 1 then u8 j.d 14 else (s.src (u16 j.d 8)).fallback) ∧
    (t.src (u16 j.d 8)).quad = (if ubit j.d 10 3 then u8 j.d 22 else (s.src (u16 j.d 8)).quad) ∧
    (t.src (u16 j.d 8)).rateLock = (if ubit j.d 10 7 then u8 j.d 24 else (s.src (u16 j.d 8)).rateLock) := by
  have hset := u.srcSetBy_config j
  rw [h.within.src (by decide) (u16 j.d 8)] at hset
  have hhas : (u.srcSetBy j).Has j :=
    (((h.opens g).has.within (u.updSrc_within _ _) (by decide) (by decide)).srcSet j.d).within (State.nvTouch_within _ _) (by decide) (by decide)
  refine ⟨_, exec_opSrcSet h hc, ?_⟩
  rw [State.complete_src]
  exact ⟨hhas.answered csOk _, congrArg SrcConfig.owner hset, congrArg SrcConfig.holdMs hset, congrArg SrcConfig.fallback hset,
    congrArg SrcConfig.quad hset, congrArg SrcConfig.rateLock hset⟩

end

end Sys2Proof.Machine
end

section
/-!
SUPPORT. Flows, ledger reads and IGMP: OP_FLOW_ADD, OP_FLOW_DEL, OP_LEDGER_READ, IGMP_QUERY and IGMP_REPORT_REPEAT (R89 to R93, R105 to R107).
-/
namespace Sys2Proof.Machine

/-! ## The list of flows -/

theorem State.setFlows_flows (s : State) (l : List Flow) : (s.setFlows l).ing.flows = l :=
  (State.igmpChange_within (s.updIng fun g => { g with flows := l }) _).flows (by decide)

theorem State.complete_flows (s : State) (j : Job) (status : Nat) (result : BitVec 64) : (s.complete j status result).ing.flows = s.ing.flows :=
  (s.complete_within j status result).flows (by decide)

theorem State.flowRun_congr {s t : State} (h : t.aud = s.aud) (kind n : Nat) : t.flowRun kind n = s.flowRun kind n := by
  simp only [State.flowRun, h]

theorem State.newHandle_congr {s t : State} (h : t.ing = s.ing) : t.newHandle = s.newHandle := by simp only [State.newHandle, h]

/-- A flow sent to destination `t` takes a new owner. -/
def Flow.retag (t owner : Nat) (g : Flow) : Flow := if g.kind = 5 ∧ g.target = t then { g with owner := owner } else g

theorem Flow.retag_of_owner {f : Flow} {owner : Nat} (h : f.owner = owner) (t : Nat) : f.retag t owner = f := by
  subst h
  unfold Flow.retag
  split <;> rfl

/-- A target that takes a new owner changes the flows of a destination that no head feeds, and no others. -/
theorem State.retagTarget_flows (s : State) (kind t owner : Nat) : (s.retagTarget kind t owner).ing.flows = s.ing.flows ∨
    (kind = 5 ∨ kind = 8) ∧ (s.retagTarget kind t owner).ing.flows = s.ing.flows.map (Flow.retag t owner) := by
  unfold State.retagTarget
  extract_lets was
  split
  · exact .inl rfl
  next hwas =>
    split
    · exact .inl ((s.updSrc_within t _).flows (by decide))
    next hk =>
      split
      · exact .inl ((State.updHead_within s _ _).flows (by decide))
      · refine .inr ⟨?_, State.setFlows_flows s _⟩
        by_contra hn
        exact hwas (.inl (by show State.targetOwner s kind t = 0; rw [State.targetOwner, if_neg hk, if_neg hn]))

/-! ## OP_FLOW_ADD (R89, R90) -/

/-- The free value that the first RTP packet of a send flow takes, and the state that has used it. -/
def State.firstSeq (s : State) (send : Bool) : BitVec 64 × State := if send then s.fresh else (0, s)

theorem State.firstSeq_ing (s : State) (send : Bool) : (s.firstSeq send).2.ing = s.ing := by cases send <;> rfl

/-- The flow that OP_FLOW_ADD adds. -/
def State.newFlow (s : State) (d : List Byte) (owner base : Nat) : Flow :=
  flowOf d s.newHandle owner base ((s.firstSeq (isSend (u8 d 8))).1.toNat % 65536)

/-- The target takes the flow, and the flow joins the list. -/
def State.flowPlaced (s : State) (d : List Byte) (owner base tokens : Nat) : State :=
  ((s.firstSeq (isSend (u8 d 8))).2.placeFlow (s.newFlow d owner base) tokens).setFlows
    ((s.firstSeq (isSend (u8 d 8))).2.ing.flows ++ [s.newFlow d owner base])

theorem State.addFlow_eq (s : State) (d : List Byte) (owner base tokens : Nat) : s.addFlow d owner base tokens =
    (s.newHandle, (((s.flowPlaced d owner base tokens).retagTarget (u8 d 8) (u16 d 10) owner).updIng
      fun g => { g with nextHandle := g.nextHandle + 1 }).nvTouch (512 + u16 d 10 % 256 / 4)) := rfl

theorem State.flowPlaced_flows (s : State) (d : List Byte) (owner base tokens : Nat) :
    (s.flowPlaced d owner base tokens).ing.flows = s.ing.flows ++ [s.newFlow d owner base] := by
  rw [State.flowPlaced, State.setFlows_flows, State.firstSeq_ing]

/-- The new flow stands last; the others are as they were, or those of its destination have taken its owner. -/
theorem State.addFlow_flows (s : State) (d : List Byte) (owner base tokens : Nat) : ∃ l,
    (s.addFlow d owner base tokens).2.ing.flows = l ++ [s.newFlow d owner base] ∧
      (l = s.ing.flows ∨ (u8 d 8 = 5 ∨ u8 d 8 = 8) ∧ l = s.ing.flows.map (Flow.retag (u16 d 10) owner)) := by
  have hlast : (s.addFlow d owner base tokens).2.ing.flows = ((s.flowPlaced d owner base tokens).retagTarget (u8 d 8) (u16 d 10) owner).ing.flows := by
    rw [State.addFlow_eq]
    exact (State.nvTouch_within _ _).flows (by decide)
  rw [hlast]
  rcases (s.flowPlaced d owner base tokens).retagTarget_flows (u8 d 8) (u16 d 10) owner with h | ⟨hk, h⟩
  · exact ⟨_, by rw [h, State.flowPlaced_flows], .inl rfl⟩
  · refine ⟨s.ing.flows.map (Flow.retag (u16 d 10) owner), ?_, .inr ⟨hk, rfl⟩⟩
    rw [h, State.flowPlaced_flows, List.map_append, List.map_singleton, Flow.retag_of_owner (show (s.newFlow d owner base).owner = owner from rfl)]

/-- The fetch tokens of a flow's ring. -/
def flowTokens (d : List Byte) : Nat := if u8 d 8 = 1 then streamTokens 9 (u8 d 40) else 0

section
variable {n : Fin 64} {s u : State} {j : Job} {base : Nat} (h : s.Starts n 0x31 j u) (hc : u.flowCheck j = none)
  (hfits : u.leaveFits 0 (flowTokens j.d) = true) (hrun : s.flowRun (u8 j.d 8) (u8 j.d 40) = some base)
include h hc hfits hrun

theorem exec_opFlowAdd : exec (.opFlowAdd n) s =
    .next (((u.leaveTake 0 (flowTokens j.d)).addFlow j.d j.owner base (flowTokens j.d)).2.complete j csOk
      (BitVec.ofNat 64 ((u.leaveTake 0 (flowTokens j.d)).newHandle.toNat + 4294967296 * if u8 j.d 8 = 1 then ringUnits (u8 j.d 40) else 0))) := by
  have haud : (u.leaveTake 0 (flowTokens j.d)).aud = s.aud := h.within.same .audio (by decide)
  have hrun' : (u.leaveTake 0 (flowTokens j.d)).flowRun (u8 j.d 8) (u8 j.d 40) = some base := (State.flowRun_congr haud _ _).trans hrun
  have hask : u.leaveAsk j.owner 0 (flowTokens j.d) = (true, u.leaveTake 0 (flowTokens j.d)) := leaveAsk_granted hfits j.owner
  unfold flowTokens at hask hrun' ⊢
  show execOpFlowAdd n s = _
  rw [execOpFlowAdd, h.runOp rfl]
  simp only [hc, hask, hrun', Bool.not_true, Bool.false_eq_true, if_false]
  rfl

theorem opFlowAdd_result (g : s.Good) : ∃ t f l, exec (.opFlowAdd n) s = .next t ∧ t.ing.flows = l ++ [f] ∧
    (u8 j.d 8 ≠ 5 → u8 j.d 8 ≠ 8 → l = s.ing.flows) ∧ (l = s.ing.flows ∨ l = s.ing.flows.map (Flow.retag f.target j.owner)) ∧ f.handle = s.newHandle ∧
    f.kind = u8 j.d 8 ∧ f.target = u16 j.d 10 ∧ f.owner = j.owner ∧ f.a = legA j.d ∧ f.b = (if ubit j.d 9 0 then some (legB j.d) else none) ∧
    f.base = base ∧ t.Answered j csOk (BitVec.ofNat 64 (f.handle.toNat + 4294967296 * (if f.kind = 1 then ringUnits f.p0 else 0))) := by
  have hing : (u.leaveTake 0 (flowTokens j.d)).ing = s.ing := h.within.ing (by decide) (by decide) (by decide)
  have w : Within (8388616 ||| 8950714003464) u ((u.leaveTake 0 (flowTokens j.d)).addFlow j.d j.owner base (flowTokens j.d)).2 :=
    (State.addFlow_within _ _ _ _ _).via (by decide) ((u.leaveTake_within _ _ (State.leaveFits_le hfits)).mono (by decide))
  obtain ⟨l, hl, hor⟩ := (u.leaveTake 0 (flowTokens j.d)).addFlow_flows j.d j.owner base (flowTokens j.d)
  rw [hing] at hor
  refine ⟨_, _, l, exec_opFlowAdd h hc hfits hrun, (State.complete_flows _ _ _ _).trans hl, fun h5 h8 => ?_, hor.imp_right And.right,
    State.newHandle_congr hing, rfl, rfl, rfl, rfl, rfl, rfl, h.answered g w (by decide) (by decide) csOk _⟩
  exact hor.resolve_right fun hk => hk.1.elim h5 h8

end

/-! ## OP_FLOW_DEL (R93) -/

/-- A flow leaves its target. -/
def State.unflow (s : State) (f : Flow) : State :=
  match f.kind with
  | 1 => s.unflowSource f.target
  | 2 => s.unflowRx f.target
  | 3 => s.unflowRx f.target
  | 5 => (s.uncheckDest f.target).updDest f.target fun x => { x with inService := false }
  | 6 => s.unflowTx f.target
  | 7 => s.unflowTx f.target
  | _ => s

theorem State.delFlow_eq (s : State) (f : Flow) : s.delFlow f =
    ((s.unflow f).setFlows ((s.unflow f).ing.flows.filter fun g => g.handle ≠ f.handle)).nvTouch (512 + f.target % 256 / 4) := rfl

theorem State.unflow_flows (s : State) (f : Flow) : (s.unflow f).ing.flows = s.ing.flows := by
  unfold State.unflow
  split
  · exact (s.unflowSource_within _).flows (by decide)
  · exact (s.unflowRx_within _).flows (by decide)
  · exact (s.unflowRx_within _).flows (by decide)
  · exact ((State.updDest_within _ _ _).flows (by decide)).trans ((s.uncheckDest_within _).flows (by decide))
  · exact (s.unflowTx_within _).flows (by decide)
  · exact (s.unflowTx_within _).flows (by decide)
  · rfl

theorem State.delFlow_flows (s : State) (f : Flow) : (s.delFlow f).ing.flows = s.ing.flows.filter fun g => g.handle ≠ f.handle := by
  rw [State.delFlow_eq, (State.nvTouch_within _ _).flows (by decide), State.setFlows_flows, State.unflow_flows]

section
variable {n : Fin 64} {s u : State} {j : Job} {f : Flow} (h : s.Starts n 0x32 j u)
  (hf : (s.ing.flows.find? fun f => f.handle.toNat == u32 j.d 8) = some f) (hown : j.mayUse f.owner = true)
include h hf hown

theorem exec_opFlowDel : exec (.opFlowDel n) s = .next ((u.delFlow f).complete j csOk 0) := by
  show execOpFlowDel n s = _
  rw [execOpFlowDel, h.runOp rfl]
  simp only [h.within.flows (by decide), hf, hown, if_true]

theorem opFlowDel_result (g : s.Good) : ∃ t, exec (.opFlowDel n) s = .next t ∧
    t.ing.flows = (s.ing.flows.filter fun g => g.handle ≠ f.handle) ∧ t.Answered j csOk 0 := by
  refine ⟨_, exec_opFlowDel h hf hown, ?_, h.answered g (u.delFlow_within f) (by decide) (by decide) csOk 0⟩
  rw [State.complete_flows, State.delFlow_flows, h.within.flows (by decide)]

end

/-! ## OP_LEDGER_READ (R105 to R107) -/

section
variable {n : Fin 64} {s u : State} {j : Job} (h : s.Starts n 0xA0 j u) (hi : u16 j.d 10 < ledgerCount (u8 j.d 8)) (ha : u64 j.d 16 % 64 = 0)
  (hl : (if u8 j.d 8 = 2 then 576 else 64) ≤ u32 j.d 24)
include h hi ha hl

/-- The bytes of the ledger that a descriptor names are written to host memory. -/
theorem exec_opLedgerRead (ok : Bool) : exec (.opLedgerRead n ok) s =
    .next (if ok then (u.hostWrite (u64 j.d 16) ((u.ledgerOf (u8 j.d 8) (u16 j.d 10)).flatMap (leBytes 8))).complete j csOk s.phcResult
      else u.complete j csDmaErr 0) := by
  have hbad : ¬(ledgerCount (u8 j.d 8) ≤ u16 j.d 10 ∨ u64 j.d 16 % 64 ≠ 0 ∨ u32 j.d 24 < if u8 j.d 8 = 2 then 576 else 64) := by omega
  have htim : u.tim = s.tim := h.within.tim (by decide) (by decide) (by decide) (by decide)
  have hphc : u.phcResult = s.phcResult := by simp only [State.phcResult, State.phcNs, State.phcSec, htim]
  show execOpLedgerRead n ok s = _
  rw [execOpLedgerRead, h.runOp rfl]
  simp only [hbad, decide_false, Bool.false_eq_true, if_false, hphc]

theorem opLedgerRead_result (g : s.Good) (ok : Bool) : ∃ t, exec (.opLedgerRead n ok) s = .next t ∧
    (ok = false → t.Answered j csDmaErr 0 ∧ t.hif.hostMem = s.hif.hostMem) ∧
    (ok = true → t.Answered j csOk s.phcResult ∧
      t.hif.hostMem = (s.hostWrite (u64 j.d 16) ((u.ledgerOf (u8 j.d 8) (u16 j.d 10)).flatMap (leBytes 8))).hif.hostMem) := by
  have hmem : u.hif.hostMem = s.hif.hostMem := h.within.same .hostMem (by decide)
  refine ⟨_, exec_opLedgerRead h hi ha hl ok, ?_, ?_⟩
  · rintro rfl
    exact ⟨(h.opens g).answered csDmaErr 0, ((u.complete_within _ _ _).same .hostMem (by decide)).trans hmem⟩
  · rintro rfl
    refine ⟨h.answered g (u.hostWrite_within _ _) (by decide) (by decide) csOk _, ((State.complete_within _ _ _ _).same .hostMem (by decide)).trans ?_⟩
    simp only [State.hostWrite, State.updHif_hif, hmem]

end

/-! ## IGMP (R91) -/

theorem State.igmpSend_last {s : State} {l : List IgmpReport} {r : IgmpReport} (h : r ∈ l) : r ∈ (s.igmpSend l).ing.igmpLast := by
  have hne : ¬l.isEmpty = true := by
    rw [List.isEmpty_iff]
    exact List.ne_nil_of_mem h
  rwa [State.igmpSend, if_neg hne]

theorem State.igmpSend_kept (s : State) (l : List IgmpReport) : (s.igmpSend l).ing.older = s.ing.older ∧ (s.igmpSend l).ing.repeats = s.ing.repeats := by
  unfold State.igmpSend
  split <;> exact ⟨rfl, rfl⟩

/-- A query of an older version is remembered for 260 s (log 32). -/
def State.queried (s : State) (n : IgmpNet) (version : Nat) : State :=
  if version = 1 ∨ version = 2 then
    s.updIng fun g => { g with older := (g.older.filter fun o => !decide (o.net = n ∧ o.version = version)) ++
      [IgmpOlder.mk n version (s.now + msTicks 260000)] }
  else s

/-- The groups that a query asks for. -/
def State.asked (s : State) (n : IgmpNet) (group : BitVec 32) (srcs : List (BitVec 32)) : List (IgmpNet × BitVec 32) :=
  (groupsOf s.ing.flows).filter fun k =>
    decide (k.1 = n) && (group == 0 || k.2 == group) &&
    (srcs.isEmpty || (match membership s.ing.flows k.1 k.2 with
      | some (true, _) => true
      | some (false, l) => l.any fun a => srcs.contains a
      | none => false))

/-- The answers to a query. -/
def State.answers (s : State) (n : IgmpNet) (group : BitVec 32) (srcs : List (BitVec 32)) : List IgmpReport :=
  (s.asked n group srcs).map fun k => s.report k.1 k.2 (membership s.ing.flows k.1 k.2)

/-- The network that a query comes from. -/
def queryNet (port : Fin 2) (sub : Fin 8) (tagged : Bool) (vid : BitVec 12) : IgmpNet :=
  { port := port, sub := sub, tagged := tagged, vid := if tagged then vid.toNat else 0 }

/-- A query without sources asks for every group of its network that it names. -/
theorem State.mem_asked {s : State} {n : IgmpNet} {group : BitVec 32} {k : IgmpNet × BitVec 32} (hk : k ∈ groupsOf s.ing.flows) (hn : k.1 = n)
    (hg : group = 0 ∨ k.2 = group) : k ∈ s.asked n group [] := by
  refine List.mem_filter.2 ⟨hk, ?_⟩
  simpa [hn] using hg

section
variable (port : Fin 2) (sub : Fin 8) (tagged : Bool) (vid : BitVec 12) (ver : Fin 4) (grp : BitVec 32) (ips : List (BitVec 32)) (s : State)

theorem exec_igmpQuery : exec (.igmpQuery port sub tagged vid ver grp ips) s = .next ((s.queried (queryNet port sub tagged vid) ver).igmpSend
    ((s.queried (queryNet port sub tagged vid) ver).answers (queryNet port sub tagged vid) grp ips)) := rfl

theorem igmpQuery_result : ∃ t, exec (.igmpQuery port sub tagged vid ver grp ips) s = .next t ∧ s.Only t [.igmp] ∧
    (ver.val = 1 ∨ ver.val = 2 → ∃ o ∈ t.ing.older, o.net = queryNet port sub tagged vid ∧ o.version = ver.val ∧ o.until_ = s.now + msTicks 260000) ∧
    (ver.val ≠ 1 ∧ ver.val ≠ 2 → ips = [] → ∀ k ∈ groupsOf s.ing.flows, k.1 = queryNet port sub tagged vid → grp = 0 ∨ k.2 = grp →
      s.report k.1 k.2 (membership s.ing.flows k.1 k.2) ∈ t.ing.igmpLast) := by
  have he := exec_igmpQuery port sub tagged vid ver grp ips s
  refine ⟨_, he, fun _ hp => exec_frame he hp, fun hv => ?_, ?_⟩
  · rw [(State.igmpSend_kept _ _).1, State.queried, if_pos hv]
    exact ⟨_, List.mem_append_right _ (List.mem_singleton_self _), rfl, rfl, rfl⟩
  · rintro ⟨h1, h2⟩ rfl k hk hn hg
    have hq : s.queried (queryNet port sub tagged vid) ver = s := if_neg fun h => h.elim h1 h2
    rw [hq]
    exact State.igmpSend_last (List.mem_map_of_mem (State.mem_asked hk hn hg))

end

theorem igmpReportRepeat_result {s : State} {r : Nat × IgmpReport} (hr : r ∈ s.ing.repeats) (hd : r.1 ≤ s.now) :
    ∃ t, exec .igmpReportRepeat s = .next t ∧ r.2 ∈ t.ing.igmpLast ∧ t.ing.repeats = s.ing.repeats.filter fun r => !decide (r.1 ≤ s.now) := by
  refine ⟨_, rfl, ?_, congrArg (List.filter _) (State.igmpSend_kept _ _).2⟩
  exact State.igmpSend_last (s := s) (List.mem_map_of_mem (List.mem_filter.2 ⟨hr, decide_eq_true hd⟩))

/-! ## The obligation -/

/-- Settles O29, command by command. -/
theorem flowsAndLedgers : Obligations.FlowsAndLedgers := fun _ port sub tagged vid ver grp ips ok s g =>
  ⟨fun _ _ h hc => opSrcSet_result h g hc, fun _ _ _ h hc hfits hrun => opFlowAdd_result h hc hfits hrun g, fun _ _ _ h hf hown => opFlowDel_result h hf hown g,
    fun _ _ h hi ha hl => opLedgerRead_result h hi ha hl g ok, igmpQuery_result port sub tagged vid ver grp ips s,
    fun _ hr hd => igmpReportRepeat_result hr hd⟩

end Sys2Proof.Machine
end

section
/-!
SUPPORT. The frame of heads and salvos (R115, R140, R148).
-/
namespace Sys2Proof.Machine

/-- Settles O13: each head, and the staged and the armed salvos, are functions of parts of the state that `exec_frame` keeps. -/
theorem frameHeads : Obligations.FrameHeads := fun _ _ _ h =>
  ⟨fun hp => State.head_congr (exec_frame h hp), fun hp => Prod.mk.inj (exec_frame h hp)⟩

end Sys2Proof.Machine
end

section
/-!
SUPPORT. Takes and commits: what a validated one leaves (R117, R120, R129, R173).
-/
namespace Sys2Proof.Machine

/-! ## What queueing leaves of a head -/

theorem State.enqueue_owner (s : State) (h : Nat) (c : Commit) : ((s.enqueue h c).head h).owner = (s.head h).owner := by
  have hrefs : (s.takeRefs c.refs).head h = s.head h := State.head_congr ((s.takeRefs_within c.refs).same .heads (by decide)) h
  unfold State.enqueue
  extract_lets s1 x y s2
  have ho : (s2.head h).owner = (s.head h).owner := by rw [State.head_setHead, ← hrefs]
  split
  · rw [State.head_congr ((s2.sluiceMiss_within h).same .heads (by decide)), ho]
  · exact ho

/-- The free tokens are the same. -/
theorem Within.freeTokens {m : Nat} {s t : State} (h : Within m s t) (hm : m.testBit 23 = false) : t.lv.powFree = s.lv.powFree ∧ t.lv.fetFree = s.lv.fetFree := by
  have e := h.same .leave hm
  simp only [Part.same, Prod.mk.injEq] at e
  exact ⟨e.1, e.2.1⟩

/-! ## OP_TAKE (R117, R120) -/

/-- What a planned take claims before its commit is queued: tokens, a scaler, a converter slice. -/
def State.takeClaims (s : State) (j : Job) (p : TakePlan) : State :=
  let s := s.leaveTake p.allPower p.allFetch
  let s := match p.scaler with | some (n, g) => s.claimScl n g j.owner true 4 4 0 0 | none => s
  match p.conv with
  | some (m, uhd, mode, scan) =>
    let ct := convTokens mode (s.inputNominal (u16 j.d 10)) uhd (s.polderRate p.cfg.polder)
    s.claimCnv m uhd j.owner true (u16 j.d 10) p.cfg.polder mode scan 0 0 ct.1 ct.2
  | none => s

/-- The claims leave the heads alone, and of the pools they take what the plan grants. -/
theorem State.takeClaims_kept (s : State) (j : Job) (p : TakePlan) : (s.takeClaims j p).hds.heads = s.hds.heads ∧
    (s.takeClaims j p).lv.powFree = s.lv.powFree - p.allPower ∧ (s.takeClaims j p).lv.fetFree = s.lv.fetFree - p.allFetch := by
  have hw : Within 1310786 (s.leaveTake p.allPower p.allFetch) (s.takeClaims j p) := by
    unfold State.takeClaims
    extract_lets s1 s2
    have h2 : Within 1310786 s1 s2 := by
      unfold s2
      split
      · exact (State.claimScl_within ..).mono (by decide)
      · exact .refl _ _
    split
    · exact (State.claimCnv_within ..).via (by decide) h2
    · exact h2
  exact ⟨hw.same .heads (by decide), hw.freeTokens (by decide)⟩

/-- The commit that a planned take queues. -/
def Job.takeCommit (j : Job) (p : TakePlan) (t : Target) (land : Option Nat) (late : Bool) : Commit :=
  { j.commit .take p.cfg t land late with
    trans := p.trans, dur := p.dur, audioFollow := ubit j.d 17 1, degraded := p.degraded, fetch := p.fetch,
    newScaler := p.scaler.map (·.1), newConv := p.conv.map (·.1), peak := p.peak, split := p.split, moves := p.moves,
    lends := p.lends, dest := u16 j.d 8, clone := decide (u8 j.d 12 = 1) }

/-- A planned take has its claims, its head belongs to the ring's owner, and its commit is queued. -/
def State.taken (s : State) (j : Job) (p : TakePlan) (c : Commit) : State :=
  ((s.takeClaims j p).updHead p.head fun x =>
    { x with owner := j.owner, managed := (if p.fresh then .module else x.managed), powerGrant := x.powerGrant + p.power }).enqueue p.head c

theorem State.submitTake_planned {s : State} {j : Job} {p : TakePlan} {t : Target} {land : Option Nat} {late : Bool}
    (hbad : s.takeTargetBad j.d t = false) (hplan : s.planTake j = .inr p)
    (hland : s.landing (s.head p.head) p.cfg.mode p.cfg.polder t = some (land, late)) :
    s.submitTake j t none none = .inr (s.taken j p (j.takeCommit p t land late)) := by
  simp only [State.submitTake, hbad, hplan, hland, Bool.false_eq_true, if_false]
  rfl

theorem State.taken_head (s : State) (j : Job) (p : TakePlan) (c : Commit) :
    ((s.taken j p c).head p.head).owner = j.owner ∧ ((s.taken j p c).head p.head).queue = (s.head p.head).queue ++ [c] := by
  unfold State.taken
  rw [State.enqueue_owner, State.enqueue_queue, State.head_updHead, State.head_congr (s.takeClaims_kept j p).1]
  exact ⟨rfl, rfl⟩

theorem State.taken_free (s : State) (j : Job) (p : TakePlan) (c : Commit) :
    (s.taken j p c).lv.powFree = s.lv.powFree - p.allPower ∧ (s.taken j p c).lv.fetFree = s.lv.fetFree - p.allFetch := by
  unfold State.taken
  obtain ⟨hp, hf⟩ := (State.enqueue_within ((s.takeClaims j p).updHead p.head fun x =>
    { x with owner := j.owner, managed := (if p.fresh then .module else x.managed), powerGrant := x.powerGrant + p.power }) p.head c).freeTokens (by decide)
  rw [hp, hf]
  exact (s.takeClaims_kept j p).2

section
variable {n : Fin 64} {s u : State} {j : Job} {p : TakePlan} {tg : Target} {land : Option Nat} {late : Bool} (h : s.Starts n 0x01 j u)
  (hbad : takeBad j.d = false) (hsalvo : u16 j.d 18 = 0) (htg : targetOf (u8 j.d 16) (u64 j.d 24) (u32 j.d 32) = some tg)
  (htbad : u.takeTargetBad j.d tg = false) (hplan : u.planTake j = .inr p)
  (hland : u.landing (u.head p.head) p.cfg.mode p.cfg.polder tg = some (land, late))
include h hbad hsalvo htg htbad hplan hland

theorem exec_opTake : exec (.opTake n) s = .next ((u.taken j p (j.takeCommit p tg land late)).endOp j) := by
  show execOpTake n s = _
  rw [execOpTake, h.runOp rfl]
  simp only [hbad, hsalvo, htg, State.submitTake_planned htbad hplan hland, Option.getD_some, Bool.false_eq_true, ne_eq, not_true_eq_false, if_false]

theorem opTake_result (g : s.Good) : ∃ t, exec (.opTake n) s = .next t ∧ t.Ended j ∧
    (t.head p.head).owner = j.owner ∧ t.lv.powFree = s.lv.powFree - p.allPower ∧ t.lv.fetFree = s.lv.fetFree - p.allFetch ∧
    ∃ c, (t.head p.head).queue = (s.head p.head).queue ++ [c] ∧ c.kind = .take ∧ c.ring = j.ring ∧ c.stamp = j.stamp ∧ c.cfg = p.cfg ∧
      c.target = tg ∧ c.land = land ∧ c.late = late ∧ c.trans = p.trans ∧ c.dur = p.dur := by
  have hw := u.submitTake_within j tg none none _ (State.submitTake_planned htbad hplan hland)
  have hend := (u.taken j p (j.takeCommit p tg land late)).endOp_within j
  obtain ⟨hpow, hfet⟩ := hend.freeTokens (by decide)
  obtain ⟨tpow, tfet⟩ := u.taken_free j p (j.takeCommit p tg land late)
  obtain ⟨howner, hqueue⟩ := u.taken_head j p (j.takeCommit p tg land late)
  obtain ⟨upow, ufet⟩ := h.free
  refine ⟨_, exec_opTake h hbad hsalvo htg htbad hplan hland, ((h.opens g).within hw (by decide) (by decide)).ended, ?_⟩
  rw [State.head_congr (hend.same .heads (by decide)), hpow, hfet, howner, hqueue, tpow, tfet, upow, ufet, h.head]
  exact ⟨rfl, rfl, rfl, _, rfl, rfl, rfl, rfl, rfl, rfl, rfl, rfl, rfl, rfl⟩

end

/-! ## OP_COMMIT (R129, R173) -/

/-- The commit of a shadow that is queued: its configuration as checked, and the tokens lent to heads that it strips. -/
def State.shadowCommit (s : State) (j : Job) (h : Nat) (cfg : HeadCfg) (t : Target) (land : Option Nat) (late : Bool) : Commit :=
  { j.commit .commit cfg t land late with
    degraded := cfg.degraded, peak := s.fetchNeed cfg false, lends := s.lent (s.stripped h cfg.dests false) }

/-- A checked commit is queued on its head, which the ring's owner has claimed. -/
def State.committed (s : State) (j : Job) (h : Nat) (c : Commit) : State := ((s.claimHead h j.owner).leaveTake 0 (lendSum c.lends)).enqueue h c

theorem State.committed_queue (s : State) (j : Job) (h : Nat) (c : Commit) : ((s.committed j h c).head h).queue = (s.head h).queue ++ [c] := by
  have hh : ((s.claimHead h j.owner).leaveTake 0 (lendSum c.lends)).head h = (s.claimHead h j.owner).head h := rfl
  rw [State.committed, State.enqueue_queue, hh, State.claimHead_head]

section
variable {s : State} {j : Job} {h : Nat} {tg : Target} {land : Option Nat} {late : Bool} {cfg : HeadCfg}
  (hland : (s.claimHead h j.owner).landing (s.head h) (if (s.head h).active then (s.head h).last.mode else ((s.claimHead h j.owner).snapshot h).mode)
    (if (s.head h).active then (s.head h).last.polder else ((s.claimHead h j.owner).snapshot h).polder) tg = some (land, late))
  (hown : j.mayUse (s.head h).owner = true) (hroom : (s.head h).commits < 16)
  (hcheck : (s.claimHead h j.owner).checkCfg j.mayUse j.priv h ((s.claimHead h j.owner).snapshot h) = .inr cfg) (hstop : (s.head h).stopping = false)
  (hfet : s.fetchNeed cfg false ≤ (s.head h).fetchGrant) (hpow : (s.head h).run = .stopped → 6 ≤ (s.head h).powerGrant)
  (hshort : s.strippedShort (s.stripped h cfg.dests false) = false)
  (hlend : s.leaveFits 0 (lendSum (s.lent (s.stripped h cfg.dests false))) = true)
include hland hown hroom hcheck hstop hfet hpow hshort hlend

theorem State.submitCommit_checked : s.submitCommit j h tg none none = .inr (s.committed j h (s.shadowCommit j h cfg tg land late)) := by
  have hleave : ¬((s.head h).fetchGrant < s.fetchNeed cfg false ∨ ((s.head h).run = .stopped ∧ (s.head h).powerGrant < 6) ∨
      s.strippedShort (s.stripped h cfg.dests false) = true) := by
    rw [hshort]
    rintro (hf | ⟨hr, hp⟩ | hs)
    · exact Nat.not_lt.2 hfet hf
    · exact Nat.not_lt.2 (hpow hr) hp
    · cases hs
  simp only [State.submitCommit, hland, hown, Nat.not_le.2 hroom, hcheck, hstop, hleave, hlend, Bool.not_true, Bool.true_eq_false, Bool.false_eq_true, if_false]
  rfl

end

section
variable {n : Fin 64} {s u : State} {j : Job} {h : Nat} {tg : Target} {land : Option Nat} {late : Bool} {cfg : HeadCfg} (hs : s.Starts n 0x12 j u)
  (hhead : u16 j.d 8 = h) (hmax : h ≤ 255) (hsalvo : u16 j.d 12 = 0) (htg : targetOf (u8 j.d 10) (u64 j.d 16) (u32 j.d 24) = some tg)
  (hsub : u.submitCommit j h tg none none = .inr (u.committed j h (u.shadowCommit j h cfg tg land late)))
include hs hhead hmax hsalvo htg hsub

theorem exec_opCommit : exec (.opCommit n) s = .next ((u.committed j h (u.shadowCommit j h cfg tg land late)).endOp j) := by
  show execOpCommit n s = _
  rw [execOpCommit, hs.runOp rfl]
  simp only [htg, hhead, Nat.not_lt.2 hmax, hsalvo, hsub, ne_eq, not_true_eq_false, if_false]

theorem opCommit_result (g : s.Good) : ∃ t, exec (.opCommit n) s = .next t ∧ t.Ended j ∧
    ∃ c, (t.head h).queue = (s.head h).queue ++ [c] ∧ c.kind = .commit ∧ c.ring = j.ring ∧
      c.stamp = j.stamp ∧ c.cfg = cfg ∧ c.target = tg ∧ c.land = land ∧ c.late = late := by
  have hw := u.submitCommit_within j h tg none none _ hsub
  refine ⟨_, exec_opCommit hs hhead hmax hsalvo htg hsub, ((hs.opens g).within hw (by decide) (by decide)).ended,
    u.shadowCommit j h cfg tg land late, ?_, rfl, rfl, rfl, rfl, rfl, rfl, rfl⟩
  rw [State.head_congr ((State.endOp_within _ j).same .heads (by decide)), State.committed_queue, hs.head]

end

end Sys2Proof.Machine
end

section
/-!
SUPPORT. Salvos and withdrawals: OP_SALVO_ARM, SALVO_ARM_TIMEOUT, SALVO_CANCEL and COMMIT_CANCEL (R139 to R143).
-/
namespace Sys2Proof.Machine

/-! ## What a start leaves of salvos and queues -/

section
variable {s u : State} {n opc : Nat} {j : Job} (h : s.Starts n opc j u)
include h

theorem State.Starts.salvos : u.hds.staged = s.hds.staged ∧ u.hds.armed = s.hds.armed := Prod.mk.inj (h.within.same .salvos (by decide))
theorem State.Starts.salvoArmed (owner salvo : Nat) : u.salvoArmed owner salvo = s.salvoArmed owner salvo := by
  rw [State.salvoArmed, h.salvos.2]; rfl
theorem State.Starts.membersOf (owner salvo : Nat) : u.membersOf owner salvo = s.membersOf owner salvo := by
  rw [State.membersOf, h.salvos.1]; rfl
theorem State.Starts.queued : u.queued = s.queued := by
  rw [State.queued, State.heads, h.heads]; rfl

end

theorem State.complete_salvos (s : State) (j : Job) (status : Nat) (result : BitVec 64) :
    (s.complete j status result).hds.staged = s.hds.staged ∧ (s.complete j status result).hds.armed = s.hds.armed :=
  Prod.mk.inj ((s.complete_within j status result).same .salvos (by decide))

/-- A change of the head plane that keeps heads and pictures is one of salvos. -/
theorem State.updHds_salvos_within (s : State) {f : Hds → Hds} (hheads : ∀ x, (f x).heads = x.heads) (hshots : ∀ x, (f x).shots = x.shots) :
    Within 65536 s (s.updHds f) :=
  State.updHds_via (m := 65536) (fun _ => hheads) (fun _ => hshots) (fun h => absurd h (by decide)) (by decide) (.refl _ s)

/-! ## OP_SALVO_ARM (R141 to R143) -/

/-- A salvo whose members are queued is armed, and none of it stays staged. -/
def State.salvoQueued (s : State) (owner id : Nat) (lock : Bool) : State :=
  let s := s.updHds fun d =>
    { d with staged := (d.staged.filter fun m => !(m.owner == owner && m.salvo == id)), armed := d.armed ++ [⟨owner, id, lock, false⟩] }
  if lock then s.lockstepLate owner (id, lock) else s

theorem State.salvoQueued_salvos (s : State) (owner id : Nat) (lock : Bool) :
    (s.salvoQueued owner id lock).hds.staged = s.hds.staged.filter (fun m => !(m.owner == owner && m.salvo == id)) ∧
    (s.salvoQueued owner id lock).hds.armed = s.hds.armed ++ [⟨owner, id, lock, false⟩] := by
  unfold State.salvoQueued
  extract_lets s1
  split
  · exact Prod.mk.inj ((s1.lockstepLate_within owner (id, lock)).same .salvos (by decide))
  · exact ⟨rfl, rfl⟩

theorem State.salvoQueued_within (s : State) (owner id : Nat) (lock : Bool) : Within (maskOf [.heads, .salvos]) s (s.salvoQueued owner id lock) := by
  unfold State.salvoQueued
  extract_lets s1
  have h0 : Within 65536 s s1 := s.updHds_salvos_within (fun _ => rfl) fun _ => rfl
  have h1 : Within (maskOf [.heads, .salvos]) s s1 := h0.mono (by decide)
  split
  · exact (s1.lockstepLate_within owner (id, lock)).via (by decide) h1
  · exact h1

/-- Members that leave the list of the staged ones are no longer members. -/
theorem membersOf_eq_nil {s t : State} {owner id : Nat}
    (h : t.hds.staged = s.hds.staged.filter fun m => !(m.owner == owner && m.salvo == id)) : t.membersOf owner id = [] := by
  rw [State.membersOf, h, List.filter_filter, List.filter_eq_nil_iff]
  intro m _
  cases m.owner == owner && m.salvo == id <;> simp

section
variable {n : Fin 64} {s u v : State} {j : Job} {tg : Target} {rs : List (Member140 × Option TakeNo)} (h : s.Starts n 0x02 j u)
  (harmed : s.salvoArmed j.owner (u16 j.d 8) = false) (hne : s.membersOf j.owner (u16 j.d 8) ≠ [])
  (hlock : u8 j.d 10 ≤ 1) (h1 : u8 j.d 11 ≠ 1) (h3 : u8 j.d 11 ≠ 3) (hcount : (s.membersOf j.owner (u16 j.d 8)).length = u16 j.d 12)
  (hkind : ((s.membersOf j.owner (u16 j.d 8)).any fun m => m.kind == 1 || m.kind == 2) = false)
  (hsame : u.sameHead (s.membersOf j.owner (u16 j.d 8)) = false) (htg : targetOf (u8 j.d 11) (u64 j.d 16) (u32 j.d 24) = some tg)
  (hall : u.armAll (s.membersOf j.owner (u16 j.d 8)) (u16 j.d 8, decide (u8 j.d 10 = 1)) tg = (v, rs)) (hok : ∀ r ∈ rs, r.2 = none)
  (htwo : v.twoOnOne j.owner (u16 j.d 8, decide (u8 j.d 10 = 1)) = false)
  (hblock : u8 j.d 10 = 0 ∨ v.lockstepBlocked j.owner (u16 j.d 8, decide (u8 j.d 10 = 1)) = false)
include h harmed hne hlock h1 h3 hcount hkind hsame htg hall hok htwo hblock

/-- Where every member is valid on the trial state, that state is the one that the arm leaves, with the salvo armed. -/
theorem exec_opSalvoArm : exec (.opSalvoArm n) s = .next ((v.salvoQueued j.owner (u16 j.d 8) (decide (u8 j.d 10 = 1))).complete j csOk 0) := by
  have hfind : rs.find? (fun p => p.2.isSome) = none := List.find?_eq_none.2 fun r hr => by rw [hok r hr]; decide
  have hfree : (decide (u8 j.d 10 = 1) && v.lockstepBlocked j.owner (u16 j.d 8, decide (u8 j.d 10 = 1))) = false := by
    rcases hblock with h0 | hb
    · rw [h0]; rfl
    · rw [hb, Bool.and_false]
  have hform : ¬(1 < u8 j.d 10 ∨ u8 j.d 11 = 1 ∨ u8 j.d 11 = 3 ∨ some tg = none ∨ (s.membersOf j.owner (u16 j.d 8)).length ≠ u16 j.d 12 ∨
      ((s.membersOf j.owner (u16 j.d 8)).any fun m => m.kind == 1 || m.kind == 2) = true ∨
      u.sameHead (s.membersOf j.owner (u16 j.d 8)) = true) := by
    rw [hkind, hsame, hcount]
    simp [Nat.not_lt.2 hlock, h1, h3]
  show execOpSalvoArm n s = _
  rw [execOpSalvoArm, h.runOp rfl]
  simp only [h.salvoArmed, h.membersOf, harmed, hne, htg, hform, Option.getD_some, hall, hfind, htwo, hfree, Bool.false_eq_true, if_false]
  rfl

theorem opSalvoArm_result (g : s.Good) : ∃ t, exec (.opSalvoArm n) s = .next t ∧ t.Answered j csOk 0 ∧
    t.hds.armed = s.hds.armed ++ [⟨j.owner, u16 j.d 8, decide (u8 j.d 10 = 1), false⟩] ∧ t.membersOf j.owner (u16 j.d 8) = [] := by
  have hv : Within 8796102885450 u v := by
    have w := u.armAll_within (s.membersOf j.owner (u16 j.d 8)) (u16 j.d 8, decide (u8 j.d 10 = 1)) tg
    rwa [hall] at w
  obtain ⟨-, varmed⟩ := Prod.mk.inj (hv.same .salvos (by decide))
  obtain ⟨-, uarmed⟩ := h.salvos
  obtain ⟨hstaged, hsalvos⟩ := v.salvoQueued_salvos j.owner (u16 j.d 8) (decide (u8 j.d 10 = 1))
  obtain ⟨cstaged, carmed⟩ := (v.salvoQueued j.owner (u16 j.d 8) (decide (u8 j.d 10 = 1))).complete_salvos j csOk 0
  refine ⟨_, exec_opSalvoArm h harmed hne hlock h1 h3 hcount hkind hsame htg hall hok htwo hblock, ?_, ?_, ?_⟩
  · exact (((h.opens g).within hv (by decide) (by decide)).within (v.salvoQueued_within _ _ _) (by decide) (by decide)).answered csOk 0
  · rw [carmed, hsalvos, varmed, uarmed]
  · exact membersOf_eq_nil (s := v) (cstaged.trans hstaged)

end

/-! ## Members that are dissolved (R140, R141) -/

/-- The entry of job `j` stands cancelled, and no fence has its stamp. -/
def State.Cancelled (t : State) (j : Job) : Prop :=
  (∃ e ∈ (t.sq j.ring).started, e.stamp = j.stamp ∧ e.seq = j.seq ∧ e.opcode = j.opcode ∧ e.flushed = false ∧ e.ended = true ∧
    e.ready = some (csCancelled, 0)) ∧ ∀ f ∈ t.hif.fences, f.stamp ≠ j.stamp

theorem State.Cancelled.answered {t : State} {j : Job} (o : t.Cancelled j) : t.Answered j csCancelled 0 := by
  obtain ⟨⟨e, he, hstamp, hseq, hopc, -, hend, hready⟩, -⟩ := o
  exact ⟨e, he, hstamp, hseq, hopc, hend, hready⟩

theorem State.Has.cancelled {s : State} {j : Job} (o : s.Has j) : (s.complete j csCancelled 0).Cancelled j := by
  have hkept : (s.complete j csCancelled 0).Has j := o.completeAt _ _ _ _
  obtain ⟨⟨e, he, hstamp, hseq, hopc, hflush⟩, hf⟩ := o
  exact ⟨⟨_, State.complete_mem he hstamp hflush hf csCancelled 0, hstamp, hseq, hopc, hflush, rfl, rfl⟩, hkept.2⟩

/-- Another cancellation leaves a descriptor cancelled. -/
theorem State.Cancelled.completeAt {s : State} {j : Job} (o : s.Cancelled j) (ring stamp : Nat) : (s.completeAt ring stamp csCancelled 0).Cancelled j := by
  obtain ⟨⟨e, he, hstamp, hseq, hopc, hflush, hend, hready⟩, hf⟩ := o
  have hkept : (s.completeAt ring stamp csCancelled 0).Has j := State.Has.completeAt ⟨⟨e, he, hstamp, hseq, hopc, hflush⟩, hf⟩ _ _ _ _
  refine ⟨⟨e, ?_, hstamp, hseq, hopc, hflush, hend, hready⟩, hkept.2⟩
  refine State.settle_mem ?_ fun f hm => hstamp ▸ hf f hm
  unfold State.mapStarted
  by_cases hr : j.ring = ring
  · subst hr
    rw [State.sq_setSq]
    refine List.mem_map.2 ⟨e, he, ?_⟩
    split
    · cases e; cases hend; cases hready; rfl
    · rfl
  · rw [State.sq_setSq_ne _ _ hr]
    exact he

/-- Of a salvo that dissolves, no member stays staged. -/
theorem State.dissolve_staged (s : State) (rs : List (Member140 × Option TakeNo)) :
    (s.dissolve rs).hds.staged = s.hds.staged.filter fun m => !(rs.any fun r => r.1.stamp == m.stamp) := by
  refine Within.fold (Q := fun t : State => t.hds.staged = s.hds.staged.filter fun m => !(rs.any fun r => r.1.stamp == m.stamp)) rfl fun t r ht => ?_
  exact (congrArg Prod.fst ((t.completeAt_within _ _ _ _).same .salvos (by decide))).trans ht

theorem State.Has.dissolve {s : State} {j : Job} (o : s.Has j) (rs : List (Member140 × Option TakeNo)) : (s.dissolve rs).Has j := by
  refine Within.fold (Q := fun t : State => t.Has j) ?_ fun t r ht => ht.completeAt _ _ _ _
  exact o.within (s.updHds_salvos_within (fun _ => rfl) fun _ => rfl) (by decide) (by decide)

/-- Cancelling members leaves each of them that is on its ring cancelled. -/
theorem foldl_cancelled {ms : List Member140} {m : Member140} (hm : m ∈ ms) {s : State} (o : s.Has m.job) :
    (ms.foldl (fun s k => s.completeAt k.ring k.stamp csCancelled 0) s).Cancelled m.job := by
  induction ms generalizing s with
  | nil => cases hm
  | cons k ms ih =>
    rw [List.foldl_cons]
    rcases List.mem_cons.1 hm with rfl | hm
    · exact Within.fold (Q := fun t : State => t.Cancelled m.job) o.cancelled fun t r ht => ht.completeAt _ _
    · exact ih hm (o.completeAt _ _ _ _)

theorem State.dissolve_cancelled {s : State} {ms : List Member140} {m : Member140} (hm : m ∈ ms) (o : s.Has m.job) :
    (s.dissolve (ms.map fun m => (m, none))).Cancelled m.job := by
  rw [State.dissolve, List.foldl_map]
  exact foldl_cancelled hm (o.within (s.updHds_salvos_within (fun _ => rfl) fun _ => rfl) (by decide) (by decide))

/-! ## SALVO_ARM_TIMEOUT (R140) -/

section
variable {s : State} {ow sv : BitVec 16} {m : Member140} {ms : List Member140} (hms : s.membersOf ow.toNat sv.toNat = m :: ms)
  (hdue : m.since + msTicks 10000 ≤ s.now)
include hms hdue

theorem exec_salvoArmTimeout : exec (.salvoArmTimeout ow sv) s = .next (s.dissolve ((m :: ms).map fun m => (m, none))) := by
  show execSalvoArmTimeout ow sv s = _
  simp only [execSalvoArmTimeout, hms, hdue, if_true]

theorem salvoArmTimeout_result : ∃ t, exec (.salvoArmTimeout ow sv) s = .next t ∧ t.membersOf ow.toNat sv.toNat = [] ∧
    ∀ k ∈ m :: ms, s.Has k.job → t.Answered k.job csCancelled 0 := by
  refine ⟨_, exec_salvoArmTimeout hms hdue, ?_, fun k hk o => (State.dissolve_cancelled hk o).answered⟩
  rw [State.membersOf, State.dissolve_staged, List.filter_filter, List.filter_eq_nil_iff]
  intro k hk hboth
  obtain ⟨hmine, hgone⟩ := Bool.and_eq_true_iff.1 hboth
  have hmem : k ∈ m :: ms := hms ▸ List.mem_filter.2 ⟨hk, hmine⟩
  have hany : (((m :: ms).map fun m => (m, (none : Option TakeNo))).any fun r => r.1.stamp == k.stamp) = true :=
    List.any_eq_true.2 ⟨_, List.mem_map_of_mem hmem, beq_self_eq_true _⟩
  rw [hany] at hgone
  cases hgone

end

/-! ## Commits that are withdrawn (R139, R173) -/

/-- A head that becomes free keeps what is queued. -/
theorem State.freeHead_queue (s : State) (h : Nat) : ((s.freeHead h).head h).queue = (s.head h).queue := by
  unfold State.freeHead
  extract_lets x s1 s2 s3
  rw [State.head_congr ((s3.leaveRet_within _ _).same .heads (by decide)), State.head_setHead]

theorem State.startLess_queue (s : State) (h : Nat) : ((s.startLess h).head h).queue = (s.head h).queue := by
  unfold State.startLess
  extract_lets x
  split
  · split
    · exact s.freeHead_queue h
    · rw [State.head_setHead]
  · split
    · rw [State.head_setHead]
    · rfl

theorem State.trimGrant_queue (s : State) (h : Nat) : ((s.trimGrant h).head h).queue = (s.head h).queue := by
  unfold State.trimGrant
  extract_lets x r
  split
  · rw [State.head_congr ((State.leaveRet_within _ _ _).same .heads (by decide)), State.head_setHead]
  · rfl

theorem State.dropCommit_queue (s : State) (h : Nat) (c : Commit) :
    ((s.dropCommit h c).head h).queue = (s.head h).queue.filter fun d => d.stamp ≠ c.stamp := by
  unfold State.dropCommit
  extract_lets s1 s2 s3
  have h2 : s2.hds.heads = s1.hds.heads := by
    unfold s2
    split
    · exact (s1.freeScl_within _).same .heads (by decide)
    · rfl
  have h3 : s3.hds.heads = s2.hds.heads := by
    unfold s3
    split
    · exact (s2.releaseCnv_within _).same .heads (by decide)
    · rfl
  have h4 : ((s3.dropRefs c.refs).leaveRet 0 (lendSum c.lends)).hds.heads = s3.hds.heads :=
    ((State.leaveRet_within _ _ _).same .heads (by decide)).trans ((s3.dropRefs_within c.refs).same .heads (by decide))
  rw [State.startLess_queue, State.trimGrant_queue, State.head_congr (h4.trans (h3.trans h2)), State.head_updHead]

/-- A commit that leaves a queue takes no member off the staged ones. -/
theorem State.commitDone_staged (s : State) (c : Commit) (status : Nat) (result : BitVec 64) : (s.commitDone c status result).hds.staged = s.hds.staged := by
  unfold State.commitDone
  split
  · split <;> exact congrArg Prod.fst ((s.restOutcome_within _ _ _).same .salvos (by decide))
  · extract_lets s1
    have h1 : Part.salvos.same s s1 :=
      Part.same_trans _ ((s.completeAt_within _ _ _ _).same .salvos (by decide)) ((State.routesOf_within _ _ _).same .salvos (by decide))
    exact congrArg Prod.fst h1

theorem State.withdraw_staged (s : State) (h : Nat) (c : Commit) : (s.withdraw h c).hds.staged = s.hds.staged :=
  (State.commitDone_staged _ _ _ _).trans (congrArg Prod.fst ((s.dropCommit_within h c).same .salvos (by decide)))

/-! ## Descriptors that a withdrawal leaves on their rings -/

theorem State.Has.dropCommit {s : State} {j : Job} (o : s.Has j) (h : Nat) (c : Commit) : (s.dropCommit h c).Has j := by
  unfold State.dropCommit
  extract_lets s1 s2 s3
  have h1 : s1.Has j := o.within (s.updHead_within h _) (by decide) (by decide)
  have h2 : s2.Has j := by
    unfold s2
    split
    · exact h1.within (s1.freeScl_within _) (by decide) (by decide)
    · exact h1
  have h3 : s3.Has j := by
    unfold s3
    split
    · exact h2.within (s2.releaseCnv_within _) (by decide) (by decide)
    · exact h2
  exact (((h3.dropRefs c.refs).within (State.leaveRet_within _ _ _) (by decide) (by decide)).within (State.trimGrant_within _ _) (by decide)
    (by decide)).within (State.startLess_within _ _) (by decide) (by decide)

theorem State.Has.endAt {s : State} {j : Job} (o : s.Has j) (ring stamp : Nat) : (s.endAt ring stamp).Has j := by
  unfold State.endAt
  rw [State.settle_eq]
  exact Within.fold (Q := fun t : State => t.Has j) (o.mapStarted _ _ fun _ => ⟨rfl, rfl, rfl, rfl⟩) fun t f ht => ht.settleFence f

theorem State.Has.routesOf {s : State} {j : Job} (o : s.Has j) (c : Commit) (applied : Bool) : (s.routesOf c applied).Has j := by
  have aud : ∀ f, (s.updAud f).Has j := fun f => o.within (State.updAud_via (l := 17179869184) (by decide) (.refl _ s)) (by decide) (by decide)
  unfold State.routesOf
  extract_lets mine gone s1 s2
  split
  · exact Within.fold (Q := fun t : State => t.Has j) (aud _) fun t w ht => ht.endAt _ _
  · exact Within.fold (Q := fun t : State => t.Has j) (aud _) fun t w ht => ht.completeAt _ _ _ _

theorem State.Has.commitDone {s : State} {j : Job} (o : s.Has j) (c : Commit) (status : Nat) (result : BitVec 64) : (s.commitDone c status result).Has j := by
  unfold State.commitDone
  split
  · split <;> exact o.within (s.restOutcome_within _ _ _) (by decide) (by decide)
  · extract_lets s1
    exact ((o.completeAt c.ring c.stamp status result).routesOf c _).within (s1.updHds_salvos_within (fun _ => rfl) fun _ => rfl) (by decide) (by decide)

theorem State.Has.withdraw {s : State} {j : Job} (o : s.Has j) (h : Nat) (c : Commit) : (s.withdraw h c).Has j :=
  (o.dropCommit h c).commitDone c _ _

/-! ## COMMIT_CANCEL (R139) -/

section
variable {n : Fin 64} {s u : State} {j : Job} {h : Nat} {c : Commit} (hs : s.Starts n 0x03 j u) (hkind : u8 j.d 8 = 1) (hring : u8 j.d 9 ≤ 63)
  (hown : j.mayUse c.owner = true) (hlock : c.locked = false)
  (hfind : (s.queued.find? fun p => p.2.ring == u8 j.d 9 && decide (p.2.seq.toNat = u32 j.d 12) && p.2.kind != .stop) = some (h, c))
include hs hkind hring hown hlock hfind

theorem exec_commitCancel : exec (.commitCancel n) s = .next ((u.withdraw h c).complete j csOk 1) := by
  show execCommitCancel n s = _
  rw [execCommitCancel, hs.runOp (by rw [hkind]; rfl)]
  simp only [hs.queued, hfind, Nat.not_lt.2 hring, hown, hlock, Bool.not_true, Bool.false_eq_true, if_false]

theorem commitCancel_result (g : s.Good) : ∃ t, exec (.commitCancel n) s = .next t ∧ t.Answered j csOk 1 ∧
    (t.head h).queue = (s.head h).queue.filter fun d => d.stamp ≠ c.stamp := by
  refine ⟨_, exec_commitCancel hs hkind hring hown hlock hfind, ((hs.opens g).has.withdraw h c).answered csOk 1, ?_⟩
  rw [State.complete_head, State.withdraw, State.head_congr ((State.commitDone_within _ _ _ _).same .heads (by decide)), State.dropCommit_queue, hs.head]

end

/-! ## SALVO_CANCEL (R139) -/

/-- The staged members of a salvo, and the queued commits of one, that a ring may withdraw. -/
def State.stagedOfSalvo (s : State) (j : Job) (id : Nat) : List Member140 :=
  (s.hds.staged.filter fun m => m.salvo == id).filter fun m => m.owner == j.owner || j.priv
def State.queuedOfSalvo (s : State) (j : Job) (id : Nat) : List (Nat × Commit) :=
  (s.queued.filter fun p => match p.2.salvo with | some (k, _) => k == id | none => false).filter fun p => p.2.owner == j.owner || j.priv

/-- A commit of a salvo in LOCKSTEP mode. -/
def Commit.inLockstep (c : Commit) : Bool := match c.salvo with | some (_, l) => l | none => false

theorem Commit.inLockstep_salvo {c : Commit} {id : Nat} {l : Bool} (h : c.salvo = some (id, l)) : c.inLockstep = l := by
  rw [Commit.inLockstep, h]

/-- The members of a salvo dissolve, and its commits that are not locked are withdrawn. -/
def State.salvoWithdrawn (s : State) (j : Job) (id : Nat) : State :=
  ((s.queuedOfSalvo j id).filter fun p => !p.2.locked).foldl (fun s p => s.withdraw p.1 p.2)
    (s.dissolve ((s.stagedOfSalvo j id).map fun m => (m, none)))

theorem State.Has.salvoWithdrawn {s : State} {j k : Job} (o : s.Has k) (id : Nat) : (s.salvoWithdrawn j id).Has k :=
  Within.fold (Q := fun t : State => t.Has k) (o.dissolve _) fun _ p ht => ht.withdraw p.1 p.2

theorem State.salvoWithdrawn_staged (s : State) (j : Job) (id : Nat) : (s.salvoWithdrawn j id).hds.staged =
    s.hds.staged.filter fun m => !(((s.stagedOfSalvo j id).map fun m => (m, (none : Option TakeNo))).any fun r => r.1.stamp == m.stamp) :=
  Within.fold (Q := fun t : State => t.hds.staged = s.hds.staged.filter fun m =>
      !(((s.stagedOfSalvo j id).map fun m => (m, (none : Option TakeNo))).any fun r => r.1.stamp == m.stamp))
    (s.dissolve_staged _) fun t p ht => (t.withdraw_staged p.1 p.2).trans ht

/-- No member that the ring owns stays staged. -/
theorem State.salvoWithdrawn_notMine {s : State} {j : Job} {id : Nat} {m : Member140} (hm : m ∈ (s.salvoWithdrawn j id).hds.staged)
    (hid : m.salvo = id) : m.owner ≠ j.owner := by
  rw [State.salvoWithdrawn_staged] at hm
  obtain ⟨hstaged, hgone⟩ := List.mem_filter.1 hm
  intro howner
  have hmine : m ∈ s.stagedOfSalvo j id := by simp [State.stagedOfSalvo, hstaged, hid, howner]
  have hany : (((s.stagedOfSalvo j id).map fun m => (m, (none : Option TakeNo))).any fun r => r.1.stamp == m.stamp) = true :=
    List.any_eq_true.2 ⟨_, List.mem_map_of_mem hmine, beq_self_eq_true _⟩
  rw [hany] at hgone
  cases hgone

/-- A queued commit that the ring may withdraw belongs to the salvo. -/
theorem State.queuedOfSalvo_salvo {s : State} {j : Job} {id : Nat} {p : Nat × Commit} (hp : p ∈ s.queuedOfSalvo j id) :
    p ∈ s.queued ∧ ∃ l, p.2.salvo = some (id, l) := by
  obtain ⟨hp, -⟩ := List.mem_filter.1 hp
  obtain ⟨hq, hs⟩ := List.mem_filter.1 hp
  refine ⟨hq, ?_⟩
  split at hs
  · next k l e => exact ⟨l, by rw [e, beq_iff_eq.1 hs]⟩
  · cases hs

section
variable {n : Fin 64} {s u : State} {j : Job} (h : s.Starts n 0x03 j u) (hkind : u8 j.d 8 = 0) (hid : u16 j.d 10 ≠ 0)
  (hmine : (∃ m ∈ s.hds.staged, m.salvo = u16 j.d 10 ∧ m.owner = j.owner) ∨
    (∃ p ∈ s.queued, ∃ l, p.2.salvo = some (u16 j.d 10, l) ∧ p.2.owner = j.owner))
  (hlocked : ∀ p ∈ s.queued, p.2.salvo = some (u16 j.d 10, true) → p.2.locked = false)
  (hgo : ∀ a ∈ s.hds.armed, a.salvo = u16 j.d 10 → a.go = false)
include h

/-- The ring has something to withdraw. -/
theorem State.Starts.salvo_nonempty (hmine : (∃ m ∈ s.hds.staged, m.salvo = u16 j.d 10 ∧ m.owner = j.owner) ∨
    (∃ p ∈ s.queued, ∃ l, p.2.salvo = some (u16 j.d 10, l) ∧ p.2.owner = j.owner)) :
    ¬(u.stagedOfSalvo j (u16 j.d 10) = [] ∧ u.queuedOfSalvo j (u16 j.d 10) = []) := by
  rintro ⟨hst, hqs⟩
  rcases hmine with ⟨m, hm, hsalvo, howner⟩ | ⟨p, hp, l, hsalvo, howner⟩
  · have : m ∈ u.stagedOfSalvo j (u16 j.d 10) := by simp [State.stagedOfSalvo, h.salvos.1, hm, hsalvo, howner]
    rw [hst] at this
    cases this
  · have : p ∈ u.queuedOfSalvo j (u16 j.d 10) := by simp [State.queuedOfSalvo, h.queued, hp, hsalvo, howner]
    rw [hqs] at this
    cases this

include hlocked hgo in
/-- No LOCKSTEP commit of the salvo has locked, nor has its salvo gone. -/
theorem State.Starts.salvo_free : ((u.queuedOfSalvo j (u16 j.d 10)).any fun p => p.2.inLockstep &&
    (p.2.locked || u.hds.armed.any fun a => a.owner == p.2.owner && a.salvo == u16 j.d 10 && a.go)) = false := by
  rw [List.any_eq_false]
  intro p hp hbad
  obtain ⟨hq, l, hsalvo⟩ := State.queuedOfSalvo_salvo hp
  rw [h.queued] at hq
  rw [Commit.inLockstep_salvo hsalvo, h.salvos.2] at hbad
  obtain ⟨rfl, hstuck⟩ := Bool.and_eq_true_iff.1 hbad
  rw [hlocked p hq hsalvo, Bool.false_or, List.any_eq_true] at hstuck
  obtain ⟨a, ha, hb⟩ := hstuck
  simp only [Bool.and_eq_true, beq_iff_eq] at hb
  obtain ⟨⟨-, hs⟩, hgone⟩ := hb
  rw [hgo a ha hs] at hgone
  cases hgone

include hkind hid hmine hlocked hgo

theorem exec_salvoCancel : ∃ r : Nat, exec (.salvoCancel n) s = .next ((u.salvoWithdrawn j (u16 j.d 10)).complete j csOk (BitVec.ofNat 64 r)) := by
  have hne := h.salvo_nonempty hmine
  have hfree := h.salvo_free hlocked hgo
  refine ⟨(u.stagedOfSalvo j (u16 j.d 10)).length + ((u.queuedOfSalvo j (u16 j.d 10)).filter fun p => !p.2.locked).length +
    65536 * ((u.queuedOfSalvo j (u16 j.d 10)).length - ((u.queuedOfSalvo j (u16 j.d 10)).filter fun p => !p.2.locked).length), ?_⟩
  show execSalvoCancel n s = _
  rw [execSalvoCancel, h.runOp (by rw [hkind]; rfl)]
  have hform : ¬(u8 j.d 8 ≠ 0 ∨ u16 j.d 10 = 0) := by simp [hkind, hid]
  exact congrArg _ ((if_neg hform).trans ((if_neg hne).trans (if_neg (Bool.eq_false_iff.1 hfree))))

theorem salvoCancel_result (g : s.Good) : ∃ t, exec (.salvoCancel n) s = .next t ∧ (∃ r, t.Answered j csOk r) ∧
    ∀ m ∈ t.hds.staged, m.salvo = u16 j.d 10 → m.owner ≠ j.owner := by
  obtain ⟨r, hx⟩ := exec_salvoCancel h hkind hid hmine hlocked hgo
  refine ⟨_, hx, ⟨_, ((h.opens g).has.salvoWithdrawn _).answered csOk _⟩, fun m hm hsalvo => State.salvoWithdrawn_notMine (s := u) ?_ hsalvo⟩
  rwa [(State.complete_salvos _ _ _ _).1] at hm

end

/-! ## The obligation -/

/-- Settles O31: clause by clause, each by the lemma above that says what the command does. -/
theorem takesCommitsSalvos : Obligations.TakesCommitsSalvos := fun _ _ _ _ g =>
  ⟨fun _ _ _ _ _ _ h hbad hsalvo htg htbad hplan hland => opTake_result h hbad hsalvo htg htbad hplan hland g,
    fun _ _ _ _ _ _ _ hs hhead hmax hsalvo htg hland hown hroom hcheck hstop hfet hpow hshort hlend => by
      rw [← hs.head] at hland hown hroom hstop hfet hpow
      exact opCommit_result hs hhead hmax hsalvo htg (State.submitCommit_checked hland hown hroom hcheck hstop hfet hpow hshort hlend) g,
    fun _ _ h _ harmed hne hlock h1 h3 hcount hkind hsame _ _ _ htg hall hok htwo hblock =>
      opSalvoArm_result h harmed hne hlock h1 h3 hcount hkind hsame htg hall hok htwo hblock g,
    fun _ _ h hkind hid hmine hlocked hgo => salvoCancel_result h hkind hid hmine hlocked hgo g,
    fun _ _ _ _ hs hkind hring hown hlock _ hfind => commitCancel_result hs hkind hring hown hlock hfind g,
    fun _ _ hms hdue => salvoArmTimeout_result hms hdue⟩

end Sys2Proof.Machine
end

section
/-!
SUPPORT. Raster periods, the sluice and the composition of a frame, and packets of IP destinations: RASTER_PERIOD_START, SCAN_FORCE_LINE,
SLUICE_CLOSE, COMPOSE_DEADLINE and IP_SEND_PACKET (R124, R131, R174, R250, R254, R268).
-/
namespace Sys2Proof.Machine

theorem State.polder_congr {s t : State} (h : t.tim.polders = s.tim.polders) (p : Nat) : t.polder p = s.polder p := by simp only [State.polder, h]

/-! ## RASTER_PERIOD_START (R250) -/

/-- The polder of the raster period that starts in state `s`. -/
def State.periodPolder (s : State) (p : Nat) : Polder :=
  { s.polder p with
    running := true
    count := if (s.polder p).running then (s.polder p).count + 1 else s.tim.phc * (s.polderRate p).1 / (phcUnit * (s.polderRate p).2)
    lastStart := s.now
    bent := false
    lastTicks := if (s.polder p).running && !(s.polder p).bent then s.now - (s.polder p).lastStart else (s.polder p).lastTicks }

/-- The raster period before has ended: its destinations have counted it. -/
def State.periodEnded (s : State) (p : Nat) : State := if (s.polder p).running then (s.exclBent p).endPeriods p else s

/-- The heads of a polder enter raster period `j`, and those without a flip in it have their sample points. -/
def State.periodHeads (s : State) (p j : Nat) : State :=
  let hs := if s.lv.tripped then [] else (s.heads.filter fun e => decide (e.2.run ≠ .stopped ∨ e.2.lineAt.isSome = true) && decide (e.2.polder = p)).map (·.1)
  let s := hs.foldl (fun s h => s.headPeriod h j) s
  let quiet := s.heads.filter fun e => decide (e.2.run = .stopped ∧ e.2.lastMode ≠ 0 ∧ e.2.lastPolder = p) ||
    decide (e.2.run = .recovering ∧ e.2.applied.polder = p)
  (quiet.foldl (fun s e => s.pushPeriod e.1 j false) s).quietCheck

theorem State.periodEnded_within (s : State) (p : Nat) : Within (maskOf [.regs, .ledger, .destinations, .pinSense]) s (s.periodEnded p) := by
  unfold State.periodEnded
  split
  · exact (State.endPeriods_within _ _).via (by decide) ((s.exclBent_within p).mono (by decide))
  · exact .refl _ _

theorem State.periodHeads_polders (s : State) (p j : Nat) : (s.periodHeads p j).tim.polders = s.tim.polders := by
  unfold State.periodHeads
  extract_lets hs s1 quiet
  have h1 : s1.tim.polders = s.tim.polders :=
    Within.fold (Q := fun t : State => t.tim.polders = s.tim.polders) rfl fun t h e => ((t.headPeriod_within h j).same .polders (by decide)).trans e
  have h2 : (quiet.foldl (fun s e => s.pushPeriod e.1 j false) s1).tim.polders = s1.tim.polders :=
    Within.fold (Q := fun t : State => t.tim.polders = s1.tim.polders) rfl fun t e h => ((t.pushPeriod_within e.1 j false).same .polders (by decide)).trans h
  exact ((State.quietCheck_within _).same .polders (by decide)).trans (h2.trans h1)

section
variable {p : Fin 32} {s : State} (h : (s.polder p).ready = true)
include h

theorem exec_rasterPeriodStart :
    exec (.rasterPeriodStart p) s = .next (((s.periodEnded p).setPolder p (s.periodPolder p)).periodHeads p (s.periodPolder p).count) := by
  have hnow : (s.periodEnded p).now = s.now := (s.periodEnded_within p).now (by decide)
  have hphc : (s.periodEnded p).tim.phc = s.tim.phc := congrArg (·.2.1) ((s.periodEnded_within p).same .phc (by decide))
  have hpolder : { s.polder p with
      running := true
      count := if (s.polder p).running then (s.polder p).count + 1 else (s.periodEnded p).tim.phc * (s.polderRate p).1 / (phcUnit * (s.polderRate p).2)
      lastStart := (s.periodEnded p).now
      bent := false
      lastTicks := if (s.polder p).running && !(s.polder p).bent then (s.periodEnded p).now - (s.polder p).lastStart else (s.polder p).lastTicks } =
      s.periodPolder p := by rw [hnow, hphc]; rfl
  rw [← hpolder]
  exact congrArg Host.Outcome.next (if_pos h)

theorem rasterPeriodStart_result : ∃ t, exec (.rasterPeriodStart p) s = .next t ∧ (t.polder p).running = true ∧ (t.polder p).lastStart = s.now ∧
    ((s.polder p).running = true → (t.polder p).count = (s.polder p).count + 1) ∧
    ((s.polder p).running = false → (t.polder p).count = s.tim.phc * (s.polderRate p).1 / (phcUnit * (s.polderRate p).2)) ∧
    ∀ q, q ≠ p.val → t.polder q = s.polder q := by
  refine ⟨_, exec_rasterPeriodStart h, ?_⟩
  have hkept : ∀ q, (((s.periodEnded p).setPolder p (s.periodPolder p)).periodHeads p (s.periodPolder p).count).polder q =
    ((s.periodEnded p).setPolder p (s.periodPolder p)).polder q := State.polder_congr (State.periodHeads_polders _ _ _)
  rw [hkept, State.polder_setPolder]
  refine ⟨rfl, rfl, fun hr => if_pos hr, fun hr => if_neg (Bool.eq_false_iff.1 hr), fun q hq => ?_⟩
  rw [hkept, State.polder_setPolder_ne _ _ hq]
  exact State.polder_congr ((s.periodEnded_within p).same .polders (by decide)) q

end

/-! ## SCAN_FORCE_LINE (R254) -/

theorem Adr.polderCtl_ne_scanCtl (p h : Nat) : Adr.polderCtl p ≠ Adr.scanCtl h := by unfold Adr.polderCtl Adr.scanCtl; omega

/-- force_line is no part of what times a raster period. -/
theorem State.nextPeriod_fset_scanCtl (s : State) (h hi lo x p mode : Nat) : (s.fset (Adr.scanCtl h) hi lo x).nextPeriod p mode = s.nextPeriod p mode := by
  have hrate : (s.fset (Adr.scanCtl h) hi lo x).polderRate p = s.polderRate p := by
    rw [State.polderRate, State.fget_fset_ne _ _ _ _ _ _ (Adr.polderCtl_ne_scanCtl p h)]; rfl
  unfold State.nextPeriod
  rw [hrate]
  rfl

theorem State.forceLine_fset (s : State) (h : Nat) (on : Bool) : (s.fset (Adr.scanCtl h) 0 0 (b2n on)).forceLine h = on := by
  rw [State.forceLine, State.flag, State.fget_fset_self _ _ _ (by decide)]
  cases on <;> rfl

theorem State.writeForceLine_forceLine (s : State) (h : Nat) (on : Bool) : (s.writeForceLine h on).forceLine h = on := by
  have hset := s.forceLine_fset h on
  unfold State.writeForceLine
  extract_lets was s1 x
  split
  · exact hset
  · split <;> split <;> exact hset

/-- A head in FRAME mode is to enter LINE mode at the next raster period. -/
theorem State.writeForceLine_frame {s : State} {h : Nat} (hoff : s.forceLine h = false) (hrun : (s.head h).run = .frame) (hline : (s.head h).lineAt = none) :
    ((s.writeForceLine h true).head h).lineAt = some (s.nextPeriod (s.head h).applied.polder (s.head h).applied.mode, 2) := by
  have hhead : (s.fset (Adr.scanCtl h) 0 0 (b2n true)).head h = s.head h := rfl
  have hturn : (true && !s.forceLine h && (decide ((s.head h).run = .frame) || (s.head h).handover) && (s.head h).lineAt.isNone) = true := by
    rw [hoff, hrun, hline]; rfl
  unfold State.writeForceLine
  simp only [hhead, hturn, if_true, State.head_setHead, State.nextPeriod_fset_scanCtl]

theorem scanForceLine_result (h : Fin 256) (on : Bool) (s : State) : ∃ t, exec (.scanForceLine h on) s = .next t ∧ t.forceLine h = on ∧
    (on = true → s.forceLine h = false → (s.head h).run = .frame → (s.head h).lineAt = none →
      (t.head h).lineAt = some (s.nextPeriod (s.head h).applied.polder (s.head h).applied.mode, 2)) :=
  ⟨_, rfl, s.writeForceLine_forceLine h on, fun hon hoff hrun hline => by subst hon; exact State.writeForceLine_frame hoff hrun hline⟩

/-! ## SLUICE_CLOSE (R124, R131) -/

theorem State.compose_head (s : State) (h frame : Nat) : ∃ q, ((s.compose h frame).head h).composing = some q ∧ q.frame = frame ∧
    ((s.compose h frame).head h).deadlineDone = false := by
  unfold State.compose
  extract_lets s1 p fresh s2 r
  rw [State.head_updHead]
  exact ⟨_, rfl, rfl, rfl⟩

/-- The sluice of a frame has closed in state `s`, in which its head takes no more commits for it. -/
def State.sluiceClosed (s : State) (h : Nat) : State :=
  let x := s.head h
  let m := x.applied.mode
  let flip := match modeOf m with | some r => r.flip | none => 0
  let lines := (match modeOf m with | some r => r.lines | none => 0) + flip - sluiceLine m x.applied.window
  (s.updHead h fun y => { y with sluiceDone := true, nextOpen := x.period + 1 + 1 }).closeSluice h (x.period + 1) lines

section
variable {h : Fin 256} {s : State} (hrun : (s.head h).run = .frame) (hdone : (s.head h).sluiceDone = false)
  (hwait : ∀ c, (s.head h).composing = some c → (s.head h).period < c.frame)
  (hpolder : (s.polder (s.head h).applied.polder).running = true) (hcount : (s.polder (s.head h).applied.polder).count = (s.head h).period)
include hrun hdone hwait hpolder hcount

theorem exec_sluiceClose : exec (.sluiceClose h) s = .next ((s.sluiceClosed h).compose h ((s.head h).period + 1)) := by
  have hfree : (match (s.head h).composing with | some c => decide (c.frame ≤ (s.head h).period) | none => false) = false := by
    split
    · next c hc => exact decide_eq_false (Nat.not_le.2 (hwait c hc))
    · rfl
  exact congrArg Host.Outcome.next (if_pos ⟨hrun, hdone, hfree, hpolder, hcount⟩)

theorem sluiceClose_result : ∃ t q, exec (.sluiceClose h) s = .next t ∧ (t.head h).composing = some q ∧ q.frame = (s.head h).period + 1 ∧
    (t.head h).deadlineDone = false := by
  obtain ⟨q, hq⟩ := (s.sluiceClosed h).compose_head h ((s.head h).period + 1)
  exact ⟨_, q, exec_sluiceClose hrun hdone hwait hpolder hcount, hq⟩

end

/-! ## COMPOSE_DEADLINE (R174) -/

/-- The first tile row of layer `k` composed too late, if there is one. -/
def lateRow (late : List (Fin 8 × Nat)) (k : Nat) : Option (Fin 8 × Nat) := late.find? fun e => e.1.val = k

/-- A layer's picture with its late rows cut off. -/
def LayerPic.cutAt (l : LayerPic) (row : Option (Fin 8 × Nat)) : LayerPic :=
  match row with
  | some (_, row) => if l.cls = .off then l else { l with cls := .cutOff, cutRow := some row }
  | none => l

/-- A picture without the layers that missed the deadline. -/
def Picture.cut (p : Picture) (late : List (Fin 8 × Nat)) : Picture :=
  { p with layers := p.layers.zipIdx.map fun e => e.1.cutAt (lateRow late e.2) }

theorem lateRow_isSome (late : List (Fin 8 × Nat)) (k : Nat) : (lateRow late k).isSome = late.any fun e => e.1.val == k := by
  rw [Bool.eq_iff_iff, lateRow, List.find?_isSome, List.any_eq_true]
  simp

theorem LayerPic.cutAt_cls (l : LayerPic) (row : Option (Fin 8 × Nat)) :
    (l.cutAt row).cls = if l.cls ≠ .off ∧ row.isSome = true then .cutOff else l.cls := by
  unfold LayerPic.cutAt
  cases row with
  | none => simp
  | some r => by_cases hoff : l.cls = .off <;> simp [hoff]

theorem Picture.cut_layer (p : Picture) (late : List (Fin 8 × Nat)) {i : Nat} (h : i < p.layers.length) :
    (p.cut late).layers.getD i LayerPic.off = (p.layers.getD i LayerPic.off).cutAt (lateRow late i) := by
  simp [Picture.cut, List.getD_eq_getElem?_getD, h]

theorem Picture.cut_cls (p : Picture) (late : List (Fin 8 × Nat)) {i : Nat} (h : i < p.layers.length) :
    ((p.cut late).layers.getD i LayerPic.off).cls =
      if (p.layers.getD i LayerPic.off).cls ≠ .off ∧ (late.any fun e => e.1.val == i) = true then .cutOff else (p.layers.getD i LayerPic.off).cls := by
  rw [p.cut_layer late h, LayerPic.cutAt_cls, lateRow_isSome]

/-- What a layer remembers of a deadline: one more underrun in a row, or none. -/
def LayerRun.deadline (r : LayerRun) (cls : LayerClass) (late : Bool) : LayerRun :=
  if cls = .off then r else if late then { r with underruns := min 3 (r.underruns + 1) } else { r with underruns := 0 }

/-- The deadline of the picture `q` that head `h` composes has passed. -/
def State.deadlinePassed (s : State) (h : Nat) (q : Picture) (late : List (Fin 8 × Nat)) : State :=
  (s.unpinHead h).updHead h fun x =>
    { x with composing := some (q.cut late), deadlineDone := true
             layers := (s.head h).layers.zipIdx.map fun e => e.1.deadline (q.layers.getD e.2 LayerPic.off).cls (lateRow late e.2).isSome }

/-- The event of layer `k` that missed the deadline. -/
def State.underrunRaised (s : State) (h : Nat) (q : Picture) (late : List (Fin 8 × Nat)) (k : Nat) : State :=
  match lateRow late k with
  | some (_, row) => if (q.layers.getD k LayerPic.off).cls = .off then s else s.layerRaise h k 0 0x0200 [(24, 2, 16 * row), (28, 4, q.frame)]
  | none => s

theorem State.underrunRaised_heads (s : State) (h : Nat) (q : Picture) (late : List (Fin 8 × Nat)) (k : Nat) :
    (s.underrunRaised h q late k).hds.heads = s.hds.heads := by
  unfold State.underrunRaised
  split
  · split
    · rfl
    · exact (s.layerRaise_within _ _ _ _ _).same .heads (by decide)
  · rfl

section
variable {h : Fin 256} {s : State} {q : Picture} (hq : (s.head h).composing = some q) (hdone : (s.head h).deadlineDone = false)
include hq hdone

theorem exec_composeDeadline (late : List (Fin 8 × Nat)) :
    exec (.composeDeadline h late) s = .next ((List.range 8).foldl (fun s k => s.underrunRaised h q late k) (s.deadlinePassed h q late)) := by
  have hafter : (decide ((s.head h).run = .line) && (some q).isNone) = false := Bool.and_false _
  show execComposeDeadline h late s = _
  simp only [execComposeDeadline, hq, hafter, hdone, Bool.false_eq_true, if_false]
  rfl

theorem composeDeadline_result (late : List (Fin 8 × Nat)) : ∃ t q', exec (.composeDeadline h late) s = .next t ∧
    (t.head h).composing = some q' ∧ (t.head h).deadlineDone = true ∧ q'.frame = q.frame ∧ q'.layers.length = q.layers.length ∧
    ∀ i < q.layers.length, (q'.layers.getD i LayerPic.off).cls =
      if (q.layers.getD i LayerPic.off).cls ≠ .off ∧ (late.any fun e => e.1.val == i) = true then .cutOff else (q.layers.getD i LayerPic.off).cls := by
  have hheads : ((List.range 8).foldl (fun s k => s.underrunRaised h q late k) (s.deadlinePassed h q late)).hds.heads = (s.deadlinePassed h q late).hds.heads :=
    Within.fold (Q := fun t : State => t.hds.heads = (s.deadlinePassed h q late).hds.heads) rfl fun t k e => (t.underrunRaised_heads h q late k).trans e
  refine ⟨_, q.cut late, exec_composeDeadline hq hdone late, ?_⟩
  rw [State.head_congr hheads, State.deadlinePassed, State.head_updHead]
  exact ⟨rfl, rfl, rfl, by simp [Picture.cut], fun i hi => q.cut_cls late hi⟩

end

/-! ## IP_SEND_PACKET (R268) -/

theorem Adr.txfRtpTs_ne_txfPkts (i j : Nat) : Adr.txfRtpTs i ≠ Adr.txfPkts j := by unfold Adr.txfRtpTs Adr.txfPkts; omega

/-- A packet of destination 128 + k leaves: its destination and its register of packets have moved on, its flow not yet. -/
def State.packetCounted (s : State) (k : Fin 128) : State :=
  (s.setDest (128 + k) { s.dest (128 + k) with
    pktsLeft := (s.dest (128 + k)).pktsLeft - 1, rtpSeq := ((s.dest (128 + k)).rtpSeq + 1) % 65536 }).wr (Adr.txfPkts k)
    ((s.rd (Adr.txfPkts k) + 1) % 4294967296)

theorem State.packetCounted_rd (s : State) (k : Fin 128) : (s.packetCounted k).rd (Adr.txfPkts k) = (s.rd (Adr.txfPkts k) + 1) % 4294967296 ∧
    (s.packetCounted k).rd (Adr.txfRtpTs k) = s.rd (Adr.txfRtpTs k) :=
  ⟨State.rd_wr_self _ _ (Nat.mod_lt _ (by decide)), State.rd_wr_ne _ _ (Adr.txfRtpTs_ne_txfPkts k k)⟩

/-- The send flow of a destination after a packet with time stamp `ts`. -/
def Flow.sent (f : Flow) (d ts : Nat) : Flow :=
  if f.kind = 5 ∧ f.target = d then { f with pkts := f.pkts + 1, rtpSeq := (f.rtpSeq + 1) % 65536, rtpTs := ts } else f

section
variable {k : Fin 128} {s : State} (hhead : (s.dest (128 + k)).head ≠ none) (hleft : (s.dest (128 + k)).pktsLeft ≠ 0)
include hhead hleft

theorem exec_ipSendPacket : exec (.ipSendPacket k) s = .next ((s.packetCounted k).updIng fun g =>
    { g with flows := g.flows.map fun f => f.sent (128 + k) ((s.packetCounted k).rd (Adr.txfRtpTs k)) }) := by
  have hdue : ((s.dest (128 + k)).head.isSome && (s.dest (128 + k)).pktsLeft != 0) = true := by simp [Option.isSome_iff_ne_none, hhead, hleft]
  exact congrArg Host.Outcome.next (if_pos hdue)

theorem ipSendPacket_result : ∃ t, exec (.ipSendPacket k) s = .next t ∧
    (t.dest (128 + k)).pktsLeft = (s.dest (128 + k)).pktsLeft - 1 ∧ (t.dest (128 + k)).rtpSeq = ((s.dest (128 + k)).rtpSeq + 1) % 65536 ∧
    t.rd (Adr.txfPkts k) = (s.rd (Adr.txfPkts k) + 1) % 4294967296 ∧
    ∀ f ∈ s.ing.flows, f.kind = 5 → f.target = 128 + k.val →
      { f with pkts := f.pkts + 1, rtpSeq := (f.rtpSeq + 1) % 65536, rtpTs := s.rd (Adr.txfRtpTs k) } ∈ t.ing.flows := by
  obtain ⟨hcount, hts⟩ := s.packetCounted_rd k
  have hdest : (s.packetCounted k).dest (128 + k) = { s.dest (128 + k) with
      pktsLeft := (s.dest (128 + k)).pktsLeft - 1, rtpSeq := ((s.dest (128 + k)).rtpSeq + 1) % 65536 } := State.dest_setDest s _ _
  refine ⟨_, exec_ipSendPacket hhead hleft, congrArg Dest.pktsLeft hdest, congrArg Dest.rtpSeq hdest, hcount, fun f hf hkind htarget => ?_⟩
  rw [hts]
  exact List.mem_map.2 ⟨f, hf, if_pos ⟨hkind, htarget⟩⟩

end

end Sys2Proof.Machine
end

section
/-!
SUPPORT. Head resets and flips: HEAD_RST_GO, CONTAINMENT_HEAD_RESET and FLIP (R124, R256, R497, R519, R520).
-/
namespace Sys2Proof.Machine

/-! ## Registers that a head reset leaves alone -/

theorem Adr.puCause_ne {a c : Nat} (ha : a < 0x770020) : a ≠ Adr.puCause c := by unfold Adr.puCause; omega

/-- Of the register file, a push that aborts changes the cause of its channel alone. -/
theorem State.pushAbort_fget (s : State) (c reason : Nat) {a : Nat} (ha : a ≠ Adr.puCause c) (hi lo : Nat) :
    (s.pushAbort c reason).fget a hi lo = s.fget a hi lo := by
  unfold State.pushAbort
  split
  · rfl
  · extract_lets s1 s2
    have h1 : s1.regs = s.regs := (s.pushWrite_within _ _ _).same .regs (by decide)
    have h2 : s2.regs = s1.regs := ((State.pushCount_within _ _ _ _).same .regs (by decide)).trans ((s1.updPush_within c _).same .regs (by decide))
    rw [State.fget_congr ((State.interrupt_within _ _).same .regs (by decide)), State.pushRaise, State.fget_raise_ne _ ha, State.fget_congr (h2.trans h1)]

theorem State.pushAbortHead_fget (s : State) (h reason : Nat) {a : Nat} (ha : a < 0x770020) (hi lo : Nat) :
    (s.pushAbortHead h reason).fget a hi lo = s.fget a hi lo :=
  Within.fold (Q := fun t : State => t.fget a hi lo = s.fget a hi lo) rfl fun t c e => by
    split
    · exact (t.pushAbort_fget c reason (Adr.puCause_ne ha) hi lo).trans e
    · exact e

theorem State.pushAbortHead_head (s : State) (h reason k : Nat) : (s.pushAbortHead h reason).head k = s.head k :=
  State.head_congr ((s.pushAbortHead_within h reason).same .heads (by decide)) k

theorem Adr.hdFault_ne (h k : Nat) (hh : h < 256) : Adr.hdFault h ≠ Adr.cmtCnt k ∧ Adr.hdFault h ≠ Adr.cmtStat k ∧ Adr.hdFault h < 0x770020 := by
  unfold Adr.hdFault Adr.cmtCnt Adr.cmtStat; omega

theorem State.sluiceMiss_fget (s : State) (h : Nat) {a : Nat} (hc : a ≠ Adr.cmtCnt h) (hs : a ≠ Adr.cmtStat h) (hi lo : Nat) :
    (s.sluiceMiss h).fget a hi lo = s.fget a hi lo :=
  (State.fget_fset_ne _ _ _ _ _ _ hs).trans (State.fget_fset_ne _ _ _ _ _ _ hc)

/-! ## Head resets (R256, R497) -/

/-- The frame in progress has ended: pins, pushes, the judgement of a frame shown, and the misses that the recovery brings. -/
def State.frameEnded (s : State) (h : Nat) (missed : Commit → Bool) : State :=
  let x := s.head h
  let s := (s.unpinHead h).pushAbortHead h 2
  let s := if x.flipDone then s.uncheckFrame h x.fcount else s
  (x.queue.filter missed).foldl (fun s _ => s.sluiceMiss h) s

/-- The parts that the end of a frame reaches. -/
def frameParts : List Part := [.regs, .ledger, .events, .hostMem, .irq, .sources, .destinations, .pushes, .pinSense, .seals]

theorem State.frameEnded_within (s : State) (h : Nat) (missed : Commit → Bool) : Within (maskOf frameParts) s (s.frameEnded h missed) := by
  unfold State.frameEnded
  extract_lets x s1 s2
  have h1 : Within (maskOf frameParts) s s1 := (State.pushAbortHead_within _ h 2).via (by decide) ((s.unpinHead_within h).mono (by decide))
  have h2 : Within (maskOf frameParts) s s2 := by
    unfold s2
    split
    · exact (s1.uncheckFrame_within _ _).via (by decide) h1
    · exact h1
  exact Within.fold h2 fun t c w => (t.sluiceMiss_within h).via (by decide) w

theorem State.frameEnded_head (s : State) (h : Nat) (missed : Commit → Bool) (k : Nat) : (s.frameEnded h missed).head k = s.head k :=
  State.head_congr ((s.frameEnded_within h missed).same .heads (by decide)) k

theorem State.frameEnded_hdFault (s : State) {h : Nat} (hh : h < 256) (missed : Commit → Bool) (hi lo : Nat) :
    (s.frameEnded h missed).fget (Adr.hdFault h) hi lo = s.fget (Adr.hdFault h) hi lo := by
  obtain ⟨hcnt, hstat, hlt⟩ := Adr.hdFault_ne h h hh
  unfold State.frameEnded
  extract_lets x s1 s2
  have h1 : s1.fget (Adr.hdFault h) hi lo = s.fget (Adr.hdFault h) hi lo :=
    ((s.unpinHead h).pushAbortHead_fget h 2 hlt hi lo).trans (State.fget_congr ((s.unpinHead_within h).same .regs (by decide)) _ _ _)
  have h2 : s2.fget (Adr.hdFault h) hi lo = s.fget (Adr.hdFault h) hi lo := by
    unfold s2
    split
    · exact (State.fget_congr ((s1.uncheckFrame_within _ _).same .regs (by decide)) _ _ _).trans h1
    · exact h1
  exact Within.fold (Q := fun t : State => t.fget (Adr.hdFault h) hi lo = s.fget (Adr.hdFault h) hi lo) h2 fun t c e =>
    (t.sluiceMiss_fget h hcnt hstat hi lo).trans e

/-- What a head reset leaves of a head: it recovers from period `e` on, and its commits are judged again. -/
structure Head.Recovers (x y : Head) (e : Nat) : Prop where
  run : y.run = .recovering
  composing : y.composing = none
  lineAt : y.lineAt = some (e, 1)
  instar : y.instar = x.instar
  abandoned : y.abandoned = x.abandoned
  unlocked : ∀ c ∈ y.queue, c.locked = false
  stamps : y.queue.map (·.stamp) = x.queue.map (·.stamp)

/-- A head reset ends the frame in progress, and changes its own head alone. -/
theorem State.headReset_running {s : State} {h : Nat} (hr : (s.head h).run ≠ .stopped) :
    ∃ e missed y, s.headReset h = (s.frameEnded h missed).setHead h y ∧ (s.head h).Recovers y e := by
  unfold State.headReset
  rw [if_neg hr]
  extract_lets e s1 s2 passed missed s3
  refine ⟨e, missed, _, congrArg (fun t : State => t.updHead h _) (show s3 = s.frameEnded h missed from rfl), ?_⟩
  rw [State.frameEnded_head]
  refine ⟨rfl, rfl, rfl, rfl, rfl, fun c hc => ?_, ?_⟩
  · obtain ⟨d, -, rfl⟩ := List.mem_map.1 hc
    rfl
  · rw [List.map_map]
    rfl

theorem State.headReset_head {s : State} {h : Nat} (hr : (s.head h).run ≠ .stopped) : ∃ e, (s.head h).Recovers ((s.headReset h).head h) e := by
  obtain ⟨e, missed, y, heq, hy⟩ := State.headReset_running hr
  exact ⟨e, by rw [heq, State.head_setHead]; exact hy⟩

theorem headRstGo_result {h : Fin 256} {s : State} (hr : (s.head h).run ≠ .stopped) : ∃ t e, exec (.headRstGo h) s = .next t ∧
    (t.head h).run = .recovering ∧ (t.head h).composing = none ∧ (t.head h).lineAt = some (e, 1) ∧ (t.head h).instar = (s.head h).instar ∧
    (∀ c ∈ (t.head h).queue, c.locked = false) ∧ (t.head h).queue.map (·.stamp) = (s.head h).queue.map (·.stamp) := by
  obtain ⟨e, y⟩ := State.headReset_head (s := s.fset Adr.headRst 7 0 h.val) hr
  exact ⟨_, e, rfl, y.run, y.composing, y.lineAt, y.instar, y.unlocked, y.stamps⟩

/-! ## CONTAINMENT_HEAD_RESET (R520) -/

/-- A containment reset is noted: its cause, its time, its event. -/
def State.containNoted (s : State) (h cause : Nat) : State :=
  let recent := s.now :: s.recentResets h
  let s := (s.setBit (Adr.hdFault h) cause).count (Adr.hdFault h) 31 16 1
  let s := s.updHead h fun x => { x with contained := recent }
  s.occur h 0x0280 [(20, 2, h), (22, 1, cause), (23, 1, b2n (decide (s.fget Adr.contain 3 0 < recent.length))), (28, 4, (s.head h).fcount)]

theorem State.containNoted_head (s : State) (h cause : Nat) :
    (s.containNoted h cause).head h = { s.head h with contained := s.now :: s.recentResets h } := by
  unfold State.containNoted
  extract_lets recent s1 s2
  rw [State.head_congr ((s2.occur_within _ _ _).same .heads (by decide)), State.head_updHead]
  rfl

theorem State.containNoted_flag (s : State) (h : Nat) {cause : Nat} (hc : cause < 16) : (s.containNoted h cause).flag (Adr.hdFault h) cause = true := by
  unfold State.containNoted
  extract_lets recent s1 s2
  have h1 : s1.flag (Adr.hdFault h) cause = true := by
    unfold s1 State.count
    rw [State.flag_fset_below _ _ _ _ _ hc (by decide), State.flag_setBit_self _ _ (hc.trans (by decide))]
  have h2 : s2.regs = s1.regs := s1.updHead_regs h _
  rw [State.flag_congr (State.occur_regs _ _ _ _), State.flag_congr h2, h1]

/-- The cause and the count of a head's resets lie apart from their limit. -/
theorem State.contain_hdFault (s : State) (h cause : Nat) :
    ((s.setBit (Adr.hdFault h) cause).count (Adr.hdFault h) 31 16 1).fget Adr.contain 3 0 = s.fget Adr.contain 3 0 := by
  have hne : Adr.contain ≠ Adr.hdFault h := by unfold Adr.contain Adr.hdFault; omega
  unfold State.count State.setBit
  rw [State.fget_fset_ne _ _ _ _ _ _ hne, State.fget_fset_ne _ _ _ _ _ _ hne]

/-- The limit of resets is as it was before the reset was noted. -/
theorem State.containHead_running {s : State} {h : Nat} (hr : (s.head h).run ≠ .stopped) (cause : Nat) : s.containHead h cause =
    if s.fget Adr.contain 3 0 ≤ (s.recentResets h).length then (s.containNoted h cause).abandonHead h else (s.containNoted h cause).headReset h := by
  unfold State.containHead
  rw [if_neg hr]
  extract_lets recent s1 s2 past s3
  have hpast : past = decide (s.fget Adr.contain 3 0 ≤ (s.recentResets h).length) := by
    unfold past
    rw [State.fget_congr (s1.updHead_regs h _), s.contain_hdFault h cause]
    exact decide_eq_decide.2 Nat.lt_succ_iff
  rw [show s3 = s.containNoted h cause from rfl, hpast]
  simp only [decide_eq_true_eq]

theorem State.abandonHead_head (s : State) (h : Nat) : ((s.abandonHead h).head h).run = .stopped ∧ ((s.abandonHead h).head h).abandoned = true := by
  unfold State.abandonHead
  extract_lets s1 s2 s3
  rw [State.head_updHead]
  exact ⟨rfl, rfl⟩

theorem State.headReset_hdFault {s : State} {h : Nat} (hr : (s.head h).run ≠ .stopped) (hh : h < 256) (k : Nat) :
    (s.headReset h).flag (Adr.hdFault h) k = s.flag (Adr.hdFault h) k := by
  obtain ⟨e, missed, y, heq, -⟩ := State.headReset_running hr
  have hregs : ((s.frameEnded h missed).setHead h y).fget (Adr.hdFault h) k k = (s.frameEnded h missed).fget (Adr.hdFault h) k k := rfl
  rw [State.flag, heq, hregs, s.frameEnded_hdFault hh, State.flag]

theorem containmentHeadReset_result {h : Fin 256} {s : State} (hr : (s.head h).run ≠ .stopped) (cause : Fin 3) :
    ∃ t, exec (.containmentHeadReset h cause) s = .next t ∧
    ((s.recentResets h).length < s.fget Adr.contain 3 0 → (t.head h).run = .recovering ∧ (t.head h).abandoned = (s.head h).abandoned ∧
      t.flag (Adr.hdFault h) cause = true) ∧
    (s.fget Adr.contain 3 0 ≤ (s.recentResets h).length → (t.head h).run = .stopped ∧ (t.head h).abandoned = true) := by
  refine ⟨s.containHead h cause, rfl, fun hbelow => ?_, fun hpast => ?_⟩
  · rw [State.containHead_running hr, if_neg (Nat.not_le.2 hbelow)]
    have hrun : ((s.containNoted h cause).head h).run ≠ .stopped := by rw [State.containNoted_head]; exact hr
    obtain ⟨e, y⟩ := State.headReset_head hrun
    refine ⟨y.run, y.abandoned.trans (by rw [State.containNoted_head]), ?_⟩
    rw [State.headReset_hdFault hrun h.isLt, State.containNoted_flag _ _ (cause.isLt.trans (by decide))]
  · rw [State.containHead_running hr, if_pos hpast]
    exact State.abandonHead_head _ _

/-! ## FLIP (R124, R131) -/

/-- The picture `p` is on the head's front buffer, and none composes. -/
def Head.Shows (x : Head) (p : Picture) : Prop := x.front = some p ∧ x.fcount = p.frame ∧ x.flipDone = true ∧ x.composing = none

/-- After the buffers have swapped, the loads, destinations and records of the flip leave the heads alone. -/
theorem State.showFrame_head (s : State) (h : Nat) (p : Picture) (line : Bool) (drops : List (Nat × Nat)) :
    ((s.showFrame h p line drops).head h).Shows p := by
  unfold State.showFrame
  extract_lets s1 s2 s3 s4 s5 x dk dikeShown ds r rc
  have hr : r.2.hds.heads = s5.hds.heads := by
    have w : Within 4297064458 s5 r.2 := Within2.fold (.refl _ _) fun t d w => (State.destFlip_within ..).via (by decide) w
    exact w.same .heads (by decide)
  have h5 : s5.head h = _ := State.head_updHead _ h _
  rw [State.head_congr (((r.2.updChain_within h _).same .heads (by decide)).trans hr), h5]
  exact ⟨rfl, rfl, rfl, rfl⟩

/-- A flip that shows the composed picture `p`: transitions move on, locked commits are applied, the picture is shown and read. -/
def State.flipComposed (s : State) (h : Nat) (seen : FlipSeen) (p : Picture) : List Commit × State :=
  let x := s.head h
  let s := s.setHead h { x.stepTrans with firstFrame := (if x.run = .frame then false else x.firstFrame) }
  let r := s.applyAll h p.frame
  let olds := (r.1.filter fun c => c.clone && c.kind == .take).map fun c => (r.2.dest c.dest).head
  let s := olds.foldl (fun s g => s.leaveHead h g) (r.2.feedAll h)
  let s := (s.trimGrant h).showFrame h { p with bgRow := seen.bg } (decide (x.run = .line)) seen.ancDrop
  let s := if (x.firstFrame && decide (x.run = .frame)) && s.flag (Adr.scanCtl h) 2 then s.occur h 0x0241 [(20, 2, h), (28, 4, p.frame)] else s
  (r.1, if x.run = .frame then s.cnvFeed h seen.repeats else s)

/-- Whatever commits it applies, the flip shows the picture. -/
theorem State.flipComposed_shows (s : State) (h : Nat) (seen : FlipSeen) (p : Picture) :
    ((s.flipComposed h seen p).2.head h).Shows { p with bgRow := seen.bg } := by
  unfold State.flipComposed
  extract_lets x y s1 r olds s2 s3 s4
  have h3 : (s3.head h).Shows { p with bgRow := seen.bg } :=
    (s2.trimGrant h).showFrame_head h { p with bgRow := seen.bg } (decide (x.run = .line)) seen.ancDrop
  have h4 : (s4.head h).Shows { p with bgRow := seen.bg } := by
    unfold s4
    split
    · rw [State.head_congr ((s3.occur_within _ _ _).same .heads (by decide))]
      exact h3
    · exact h3
  dsimp only
  split
  · rw [State.head_congr ((s4.cnvFeed_within h seen.repeats).same .heads (by decide))]
    exact h4
  · exact h4

theorem State.flipHead_composed {s : State} {h : Nat} {q : Picture} (seen : FlipSeen) (hpwr : s.fget Adr.pwrStat 2 0 ≠ 4)
    (hstop : (s.head h).lockedStop = none) (hhand : (s.head h).handover = false) (hleave : (s.head h).leaving = false)
    (hq : (s.head h).composing = some q) : s.flipHead h seen = s.flipComposed h seen q := by
  unfold State.flipHead
  rw [if_neg hpwr]
  simp only [hstop, hhand, hleave, hq, Bool.false_and, Bool.false_eq_true, if_false]
  rfl

/-- What follows the swap of a head's buffers: sample points, audio that follows, records, the stored configuration. -/
def State.afterFlip (s : State) (h period : Nat) (applied : List Commit) : State :=
  let s := s.colourFlip h
  let s := s.pushPeriod h period (decide ((s.head h).run = .frame))
  let s := if (s.head h).run = .stopped then s.colourIdle else s.audioFlip h applied
  let s := ((s.appendAll h).sealHeadStop h).quietCheck
  if applied.isEmpty && decide ((s.head h).run ≠ .stopped) then s else s.nvTouch (256 + h)

/-- The parts that what follows the swap reaches. -/
def afterFlipParts : List Part :=
  [.regs, .ledger, .subRings, .events, .hostMem, .irq, .engine, .scalers, .colour, .pushes, .seals, .audio, .nv]

theorem State.afterFlip_heads (s : State) (h period : Nat) (applied : List Commit) : (s.afterFlip h period applied).hds.heads = s.hds.heads := by
  have w : Within (maskOf afterFlipParts) s (s.afterFlip h period applied) := by
    unfold State.afterFlip
    extract_lets s1 s2 s3 s4
    have h2 : Within (maskOf afterFlipParts) s s2 := (s1.pushPeriod_within _ _ _).via (by decide) ((s.colourFlip_within h).mono (by decide))
    have h3 : Within (maskOf afterFlipParts) s s3 := by
      unfold s3
      split
      · exact s2.colourIdle_within.via (by decide) h2
      · exact (s2.audioFlip_within _ _).via (by decide) h2
    have h4 : Within (maskOf afterFlipParts) s s4 := (State.quietCheck_within _).via (by decide)
      ((State.sealHeadStop_within _ _).via (by decide) ((s3.appendAll_within h).via (by decide) h3))
    split
    · exact h4
    · exact (s4.nvTouch_within _).via (by decide) h4
  exact w.same .heads (by decide)

theorem State.flip_due {s : State} {h : Nat} (hd : s.flipDue h = true) (seen : FlipSeen) : s.flip h seen =
    ((s.pushAbortHead h 0).flipHead h seen).2.afterFlip h (s.head h).period ((s.pushAbortHead h 0).flipHead h seen).1 := by
  unfold State.flip
  rw [if_pos hd]
  rfl

theorem flip_result {h : Fin 256} {s : State} {q : Picture} (seen : FlipSeen) (hd : s.flipDue h = true) (hpwr : s.fget Adr.pwrStat 2 0 ≠ 4)
    (hstop : (s.head h).lockedStop = none) (hhand : (s.head h).handover = false) (hleave : (s.head h).leaving = false)
    (hq : (s.head h).composing = some q) : ∃ t : State, exec (.flip h seen) s = .next (t.errorsMet seen.ecc seen.sram) ∧
    (t.head h).front = some { q with bgRow := seen.bg } ∧ (t.head h).fcount = q.frame ∧ (t.head h).flipDone = true ∧ (t.head h).composing = none := by
  refine ⟨s.flip h seen, congrArg Host.Outcome.next (if_pos hd), ?_⟩
  rw [State.flip_due hd, State.head_congr (State.afterFlip_heads _ _ _ _)]
  rw [← s.pushAbortHead_fget h 0 (by decide)] at hpwr
  rw [← s.pushAbortHead_head h 0] at hstop hhand hleave hq
  rw [State.flipHead_composed seen hpwr hstop hhand hleave hq]
  exact State.flipComposed_shows _ h seen q

/-! ## The obligation -/

/-- Settles O36: clause by clause, each by the lemma above that says what the command does. -/
theorem framesOfHeads : Obligations.FramesOfHeads := fun _ h _ cause on seen late s _ =>
  ⟨rasterPeriodStart_result, scanForceLine_result h on s, headRstGo_result, fun hr => containmentHeadReset_result hr cause,
    fun _ hd hpwr hstop hhand hleave hq => flip_result seen hd hpwr hstop hhand hleave hq, ipSendPacket_result, sluiceClose_result,
    fun _ hq hdone => composeDeadline_result hq hdone late⟩

end Sys2Proof.Machine
end

section
/-!
SUPPORT. The frame of surfaces, scalers, colour units, converter slices, destinations and push channels (R166, R184, R197, R212, R255, R269).
-/
namespace Sys2Proof.Machine

theorem State.push_congr {s t : State} (e : t.out.pushes = s.out.pushes) (p : Nat) : t.push p = s.push p := by simp only [State.push, e]

/-- Settles O14: each unit is a function of parts of the state that `exec_frame` keeps. -/
theorem frameVideoUnits : Obligations.FrameVideoUnits := fun _ _ _ h =>
  ⟨fun hp => exec_frame h hp, fun hp => exec_frame h hp, fun hp => exec_frame h hp, fun hp => State.cnv_congr (exec_frame h hp),
    fun hp => State.dest_congr (exec_frame h hp), fun hp => State.push_congr (exec_frame h hp)⟩

end Sys2Proof.Machine
end

section
/-!
SUPPORT. Surfaces: what a change, a removal and a settling leave of the list, then OP_SURF_ALLOC, OP_SURF_UPLOAD, SURF_UPLOAD_END and
OP_SURF_FREE (R159 to R163).
-/
namespace Sys2Proof.Machine

/-! ## The list of surfaces -/

theorem State.surf_congr {s t : State} (e : t.srf = s.srf) (h : BitVec 32) : t.surf h = s.surf h := by simp only [State.surf, e]

theorem Within.surf {m : Nat} {s t : State} (w : Within m s t) (hm : m.testBit 17 = false) (h : BitVec 32) : t.surf h = s.surf h :=
  State.surf_congr (w.same .surfaces hm) h

theorem State.surf_handle {s : State} {h : BitVec 32} {f : Surf} (hf : s.surf h = some f) : f.handle = h :=
  eq_of_beq (List.find?_some (p := fun y : Surf => y.handle == h) hf)

/-- A change that keeps the handle is what a look-up finds afterwards. -/
theorem State.updSurf_surf {s : State} {h : BitVec 32} {f : Surf} (hf : s.surf h = some f) {k : Surf → Surf} (hk : ∀ y, (k y).handle = y.handle) :
    (s.updSurf h k).surf h = some (k f) := by
  have hp : ((fun y : Surf => y.handle == h) ∘ fun y => if y.handle = h then k y else y) = fun y => y.handle == h := by
    funext y
    simp only [Function.comp_apply]
    split
    · rw [hk]
    · rfl
  show List.find? _ (List.map _ _) = _
  rw [List.find?_map, hp, show s.srf.list.find? (fun y => y.handle == h) = some f from hf, Option.map_some, if_pos (State.surf_handle hf)]

/-! ## Surfaces that go and surfaces that stay (R163) -/

/-- A surface is off the list, and its free is counted. -/
def State.unlistSurf (s : State) (h : BitVec 32) : State :=
  (s.updSrf fun x => { x with list := x.list.filter fun y => y.handle ≠ h }).ledAdd 3 0 1 1

theorem State.unlistSurf_surf (s : State) (h : BitVec 32) : (s.unlistSurf h).surf h = none := by
  refine List.find?_eq_none.2 fun y hy => ?_
  simpa only [ne_eq, decide_not, Bool.not_eq_true', decide_eq_false_iff_not, beq_iff_eq] using (List.mem_filter.1 hy).2

theorem State.unlistSurf_led (s : State) (h : BitVec 32) : (s.unlistSurf h).led 3 0 1 = s.led 3 0 1 + 1 := State.led_ledAdd_self _ 3 0 1 1

section
variable {s : State} {h : BitVec 32} {f : Surf} (hf : s.surf h = some f)
include hf

/-- A surface that goes leaves the list and is counted; the descriptor that freed it may complete. -/
theorem State.surfGone_result : (s.surfGone h).surf h = none ∧ (s.surfGone h).led 3 0 1 = s.led 3 0 1 + 1 := by
  cases hfree : f.free with
  | none =>
    have hgone : s.surfGone h = s.unlistSurf h := by simp only [State.surfGone, hf, hfree, State.unlistSurf]
    rw [hgone]
    exact ⟨s.unlistSurf_surf h, s.unlistSurf_led h⟩
  | some w =>
    have hgone : s.surfGone h = (s.unlistSurf h).completeAt w.1 w.2 csOk 0 := by simp only [State.surfGone, hf, hfree, State.unlistSurf]
    have hw := (s.unlistSurf h).completeAt_within w.1 w.2 csOk 0
    rw [hgone, hw.surf (by decide), State.led_congr (hw.same .ledger (by decide))]
    exact ⟨s.unlistSurf_surf h, s.unlistSurf_led h⟩

theorem State.surfSettle_goes (hs : f.state = .freeing) (hr : f.refs = 0) (hu : f.upload = none) : s.surfSettle h = s.surfGone h := by
  simp only [State.surfSettle, hf, hs, hr, hu, true_or, and_self, if_true]

theorem State.surfSettle_stays (hk : ¬((f.state = .freeing ∨ f.owner = moduleTag) ∧ f.refs = 0 ∧ f.upload = none)) : s.surfSettle h = s := by
  simp only [State.surfSettle, hf, hk, if_false]

end

/-! ## What a start leaves of the surfaces -/

theorem State.Starts.srf {s u : State} {n opc : Nat} {j : Job} (h : s.Starts n opc j u) : u.srf = s.srf := h.within.same .surfaces (by decide)

/-! ## OP_SURF_ALLOC (R160) -/

theorem State.surfIndex_lt (s : State) : s.surfIndex < 16384 := by
  unfold State.surfIndex
  cases hi : (List.range 16384).find? fun i => s.srf.list.all fun f => decide (f.handle.toNat % 65536 ≠ i) with
  | none => decide
  | some i => exact List.mem_range.1 (List.mem_of_find?_eq_some hi)

theorem nextGen_lt (g : Nat) : nextGen g < 65536 := by
  unfold nextGen
  split <;> omega

/-- The surface that OP_SURF_ALLOC adds. -/
def State.newSurf (s : State) (owner : Nat) (d : List Byte) : Surf :=
  { handle := BitVec.ofNat 32 (s.surfIndex + 65536 * nextGen (Tab.get (fun _ => 0) s.srf.gens s.surfIndex)), owner := owner, format := u8 d 8,
    width := u16 d 16, height := u16 d 18, pitch := allocPitch d, units := ceilDiv (allocPitch d * u16 d 18) 4096, colorimetry := u8 d 10,
    transfer := u8 d 11, range := u8 d 12, fill := BitVec.ofNat 32 (if isVid (u8 d 8) then 0 else u32 d 24), filled := ubit d 9 0,
    state := (if ubit d 9 0 then .ready else .empty), refs := 0, upload := none, free := none }

theorem State.newSurf_index (s : State) (owner : Nat) (d : List Byte) : (s.newSurf owner d).handle.toNat % 65536 = s.surfIndex := by
  have hi := s.surfIndex_lt
  have hg := nextGen_lt (Tab.get (fun _ => 0) s.srf.gens s.surfIndex)
  rw [State.newSurf, BitVec.toNat_ofNat]
  omega

theorem State.surfAlloc_handle (s : State) (owner : Nat) (d : List Byte) : (s.surfAlloc owner d).1 = (s.newSurf owner d).handle := rfl

theorem State.surfAlloc_list (s : State) (owner : Nat) (d : List Byte) : (s.surfAlloc owner d).2.srf.list = s.srf.list ++ [s.newSurf owner d] := by
  have hclear : ∀ b e, (if ubit d 9 0 = true then s.hbmClear b e else s).srf = s.srf := fun b e => by split <;> rfl
  exact congrArg (fun x : Srf => x.list ++ [s.newSurf owner d]) (hclear _ _)

theorem State.surfAlloc_led (s : State) (owner : Nat) (d : List Byte) : (s.surfAlloc owner d).2.led 3 0 0 = s.led 3 0 0 + 1 := by
  refine (State.led_ledAdd_self _ 3 0 0 1).trans (congrArg (· + 1) ?_)
  show (if ubit d 9 0 = true then _ else s).led 3 0 0 = _
  split <;> rfl

section
variable {n : Fin 64} {s u : State} {j : Job} (h : s.Starts n 0x20 j u) (hbad : allocBad j.d = false) (hroom : s.srf.list.length < 16384)
  (hcap : ceilDiv (allocPitch j.d * u16 j.d 18) 4096 ≤ u.hbmFree)
include h hbad hroom hcap

theorem exec_opSurfAlloc : exec (.opSurfAlloc n) s = .next ((u.surfAlloc j.owner j.d).2.complete j csOk
    (BitVec.ofNat 64 ((u.newSurf j.owner j.d).handle.toNat + 4294967296 * ceilDiv (allocPitch j.d * u16 j.d 18) 4096))) := by
  show execOpSurfAlloc n s = _
  rw [execOpSurfAlloc, h.runOp rfl]
  simp only [firstFail, hbad, h.srf, Nat.not_le.2 hroom, Nat.not_lt.2 hcap, decide_false, Bool.false_eq_true, if_false, State.surfAlloc_handle]

theorem opSurfAlloc_result (g : s.Good) : ∃ t, exec (.opSurfAlloc n) s = .next t ∧ t.led 3 0 0 = s.led 3 0 0 + 1 ∧
    ∃ f, t.srf.list = s.srf.list ++ [f] ∧ f.handle.toNat % 65536 = s.surfIndex ∧ f.owner = j.owner ∧ f.format = u8 j.d 8 ∧
      f.width = u16 j.d 16 ∧ f.height = u16 j.d 18 ∧ f.pitch = allocPitch j.d ∧ f.refs = 0 ∧ f.state = (if ubit j.d 9 0 then .ready else .empty) ∧
      t.Answered j csOk (BitVec.ofNat 64 (f.handle.toNat + 4294967296 * ceilDiv (f.pitch * f.height) 4096)) := by
  have hw := (u.surfAlloc j.owner j.d).2.complete_within j csOk
    (BitVec.ofNat 64 ((u.newSurf j.owner j.d).handle.toNat + 4294967296 * ceilDiv (allocPitch j.d * u16 j.d 18) 4096))
  have hindex : u.surfIndex = s.surfIndex := by simp only [State.surfIndex, h.srf]
  refine ⟨_, exec_opSurfAlloc h hbad hroom hcap, ?_, u.newSurf j.owner j.d, ?_, (u.newSurf_index _ _).trans hindex, rfl, rfl, rfl, rfl, rfl, rfl, rfl,
    h.answered g (u.surfAlloc_within j.owner j.d) (by decide) (by decide) csOk _⟩
  · rw [State.led_congr (hw.same .ledger (by decide)), State.surfAlloc_led, State.led_congr (h.within.same .ledger (by decide))]
  · rw [show State.srf _ = _ from hw.same .surfaces (by decide), State.surfAlloc_list, h.srf]

end

/-! ## OP_SURF_UPLOAD (R161) -/

/-- A surface as the upload of a descriptor leaves it when it begins. -/
def Surf.uploadBy (f : Surf) (j : Job) : Surf :=
  { f with state := .uploading, owner := j.owner,
           upload := some ⟨j.ring, j.stamp, u8 j.d 12, 2, u16 j.d 28, u16 j.d 30, u16 j.d 32, u16 j.d 34⟩ }

section
variable {n : Fin 64} {h : BitVec 32} {s u : State} {j : Job} {f : Surf} (hs : s.Starts n 0x21 j u) (hh : BitVec.ofNat 32 (u32 j.d 8) = h)
  (hf : s.surf h = some f) (hstate : f.state ≠ .freeing) (hown : j.mayUse f.owner = true) (hrefs : f.refs = 0) (hup : f.state ≠ .uploading)
  (hreg : f.regionBad j.d = false) (hw : u16 j.d 32 ≠ 0) (hl : u16 j.d 34 ≠ 0) (hrate : u8 j.d 12 ≠ 0) (hmax : u8 j.d 12 ≤ 24)
  (hfits : u.leaveFits 2 (u8 j.d 12) = true)
include hs hh hf hstate hown hrefs hup hreg hw hl hrate hmax hfits

theorem exec_opSurfUpload : exec (.opSurfUpload n) s = .next ((u.leaveTake 2 (u8 j.d 12)).updSurf h fun f => f.uploadBy j) := by
  show execOpSurfUpload n s = _
  rw [execOpSurfUpload, hs.runOp rfl]
  simp only [hw, hl, hrate, Nat.not_lt.2 hmax, or_self, if_false, hh, State.surf_congr hs.srf, hf, firstFail, hstate, hown, hreg, hrefs, hup, ne_eq,
    not_true_eq_false, decide_false, Bool.not_true, Bool.false_eq_true, leaveAsk_granted hfits, if_true]
  rfl

theorem opSurfUpload_result (g : s.Good) : ∃ t, exec (.opSurfUpload n) s = .next t ∧ t.Waits j ∧ t.lv.powFree = s.lv.powFree - 2 ∧
    t.lv.fetFree = s.lv.fetFree - u8 j.d 12 ∧ t.surf h = some (f.uploadBy j) := by
  obtain ⟨hpow, hfet⟩ := hs.free
  have hopen := (((hs.opens g).within (u.leaveTake_within _ _ (State.leaveFits_le hfits)) (by decide) (by decide)).within
    (State.updSurf_within _ h fun f => f.uploadBy j) (by decide) (by decide)).1
  refine ⟨_, exec_opSurfUpload hs hh hf hstate hown hrefs hup hreg hw hl hrate hmax hfits, hopen, ?_, ?_, ?_⟩
  · rw [← hpow]; rfl
  · rw [← hfet]; rfl
  · have hsurf : (u.leaveTake 2 (u8 j.d 12)).surf h = some f := (State.surf_congr hs.srf h).trans hf
    exact State.updSurf_surf hsurf fun _ => rfl

end

/-! ## SURF_UPLOAD_END (R161, R403) -/

/-- A return of tokens counts in the ledger of the pools alone. -/
theorem State.leaveRet_led (s : State) (p f : Nat) {kind i c : Nat} (hk : ∀ i' c', ledKey kind i c ≠ ledKey 9 i' c') :
    (s.leaveRet p f).led kind i c = s.led kind i c := by
  unfold State.leaveRet
  extract_lets t
  have ht : t.led kind i c = s.led kind i c := by
    unfold t
    rw [State.led_ledAdd_ne _ _ (hk _ _), State.led_ledAdd_ne _ _ (hk _ _), State.led_updLv]
  clear_value t
  split
  · unfold State.fillWithheld
    extract_lets tp rp tf rf t1 t2
    have h2 : t2.led kind i c = t.led kind i c := by
      unfold t2
      rw [State.led_ledAdd_ne _ _ (hk _ _), State.led_ledAdd_ne _ _ (hk _ _), State.led_ledAdd_ne _ _ (hk _ _), State.led_ledAdd_ne _ _ (hk _ _)]
      exact State.led_updLv _ _ _ _ _
    split
    · exact (State.led_congr ((State.limitEvent_within t2).same .ledger (by decide)) kind i c).trans (h2.trans ht)
    · exact h2.trans ht
  · exact ht

/-- A surface once its upload is over. -/
def Surf.uploadOver (f : Surf) (ok : Bool) : Surf :=
  { f with upload := none, state := (if f.state = .freeing then .freeing else if ok then .ready else .failed) }

/-- The rows are in HBM, the tokens are back and OP_SURF_UPLOAD completes. -/
def State.uploadOver (s : State) (h : BitVec 32) (f : Surf) (u : Upload) (rows : List (List Byte)) : State :=
  (((s.uploadRows f u rows).updSurf h fun f' => f'.uploadOver (u.whole f.format rows)).leaveRet u.power u.fetch).completeAt u.ring u.stamp
    (if u.whole f.format rows then csOk else csDmaErr) 0

section
variable {s : State} {h : BitVec 32} {f : Surf} {u : Upload}

theorem State.uploadOver_surf (rows : List (List Byte)) (hf : s.surf h = some f) :
    (s.uploadOver h f u rows).surf h = some (f.uploadOver (u.whole f.format rows)) := by
  have hrows : (s.uploadRows f u rows).surf h = some f := ((s.uploadRows_within f u rows).surf (by decide) h).trans hf
  rw [State.uploadOver, (State.completeAt_within _ _ _ _ _).surf (by decide), (State.leaveRet_within _ _ _).surf (by decide)]
  exact State.updSurf_surf hrows fun _ => rfl

theorem State.uploadOver_led (s : State) (h : BitVec 32) (f : Surf) (u : Upload) (rows : List (List Byte)) :
    (s.uploadOver h f u rows).led 3 0 1 = s.led 3 0 1 := by
  have hk : ∀ i c, ledKey 3 0 1 ≠ ledKey 9 i c := by unfold ledKey; omega
  rw [State.uploadOver, State.led_congr ((State.completeAt_within _ _ _ _ _).same .ledger (by decide)), State.leaveRet_led _ _ _ hk,
    State.led_congr ((State.updSurf_within _ _ _).same .ledger (by decide)), State.led_congr ((s.uploadRows_within f u rows).same .ledger (by decide))]

theorem State.Has.uploadOver_answered {j : Job} (o : s.Has j) (hr : j.ring = u.ring) (hst : j.stamp = u.stamp) (rows : List (List Byte)) :
    (s.uploadOver h f u rows).Answered j (if u.whole f.format rows then csOk else csDmaErr) 0 := by
  have hhas := ((o.within (s.uploadRows_within f u rows) (by decide) (by decide)).within
    (State.updSurf_within _ h fun f' => f'.uploadOver (u.whole f.format rows)) (by decide) (by decide)).within
    (State.leaveRet_within _ u.power u.fetch) (by decide) (by decide)
  have ha := hhas.answered (if u.whole f.format rows then csOk else csDmaErr) 0
  rw [ite_self] at ha
  rw [State.uploadOver, ← hr, ← hst]
  exact ha

variable (hf : s.surf h = some f)
include hf

theorem exec_surfUploadEnd (hu : f.upload = some u) (rows : List (List Byte)) :
    exec (.surfUploadEnd h rows) s = .next ((s.uploadOver h f u rows).surfSettle h) := by
  show execSurfUploadEnd h rows s = _
  simp only [execSurfUploadEnd, hf, hu]
  rfl

theorem surfUploadEnd_result (hu : f.upload = some u) (hown : f.owner ≠ moduleTag) (rows : List (List Byte)) :
    ∃ t, exec (.surfUploadEnd h rows) s = .next t ∧
      (f.state ≠ .freeing → t.surf h = some { f with upload := none, state := if u.whole f.format rows then .ready else .failed }) ∧
      (f.state = .freeing → f.refs = 0 → t.surf h = none ∧ t.led 3 0 1 = s.led 3 0 1 + 1) ∧
      (∀ j : Job, s.Has j → j.ring = u.ring → j.stamp = u.stamp → f.state ≠ .freeing →
        t.Answered j (if u.whole f.format rows then csOk else csDmaErr) 0) := by
  have hsurf := State.uploadOver_surf (u := u) rows hf
  have hstate : f.state ≠ .freeing → (f.uploadOver (u.whole f.format rows)).state = if u.whole f.format rows then .ready else .failed := fun hs => if_neg hs
  have stays : f.state ≠ .freeing → (s.uploadOver h f u rows).surfSettle h = s.uploadOver h f u rows := fun hs => by
    refine State.surfSettle_stays hsurf fun hk => ?_
    rcases hk.1 with hfree | hmod
    · rw [hstate hs] at hfree
      split at hfree <;> cases hfree
    · exact hown hmod
  refine ⟨_, exec_surfUploadEnd hf hu rows, fun hs => ?_, fun hs hr => ?_, fun j o hr hst hs => ?_⟩
  · rw [stays hs, hsurf, Surf.uploadOver, if_neg hs]
  · rw [State.surfSettle_goes hsurf (if_pos hs) hr rfl, ← State.uploadOver_led s h f u rows]
    exact State.surfGone_result hsurf
  · rw [stays hs]
    exact o.uploadOver_answered hr hst rows

end

/-! ## OP_SURF_FREE (R163) -/

/-- A surface that a descriptor frees. -/
def Surf.freeBy (f : Surf) (j : Job) : Surf := { f with state := .freeing, owner := j.owner, free := some (j.ring, j.stamp) }

section
variable {n : Fin 64} {h : BitVec 32} {s u : State} {j : Job} {f : Surf} (hs : s.Starts n 0x22 j u) (hh : BitVec.ofNat 32 (u32 j.d 8) = h)
  (hf : s.surf h = some f) (hstate : f.state ≠ .freeing) (hown : j.mayUse f.owner = true)
include hs hh hf hstate hown

theorem exec_opSurfFree : exec (.opSurfFree n) s = .next (((u.updSurf h fun f => f.freeBy j).endOp j).surfSettle h) := by
  show execOpSurfFree n s = _
  rw [execOpSurfFree, hs.runOp rfl]
  simp only [hh, State.surf_congr hs.srf, hf, hstate, hown, Bool.not_true, Bool.false_eq_true, if_false]
  rfl

theorem opSurfFree_result (g : s.Good) : ∃ t, exec (.opSurfFree n) s = .next t ∧
    (f.refs = 0 ∧ f.upload = none → t.surf h = none ∧ t.led 3 0 1 = s.led 3 0 1 + 1) ∧
    (f.refs ≠ 0 ∨ f.upload ≠ none → t.surf h = some (f.freeBy j) ∧ t.Ended j) := by
  have hend := (u.updSurf h fun f => f.freeBy j).endOp_within j
  have hsurf : ((u.updSurf h fun f => f.freeBy j).endOp j).surf h = some (f.freeBy j) :=
    (hend.surf (by decide) h).trans (State.updSurf_surf ((State.surf_congr hs.srf h).trans hf) fun _ => rfl)
  have hled : ((u.updSurf h fun f => f.freeBy j).endOp j).led 3 0 1 = s.led 3 0 1 :=
    (State.led_congr (hend.same .ledger (by decide)) 3 0 1).trans (State.led_congr (hs.within.same .ledger (by decide)) 3 0 1)
  refine ⟨_, exec_opSurfFree hs hh hf hstate hown, fun ⟨hr, hu⟩ => ?_, fun hk => ?_⟩
  · rw [State.surfSettle_goes hsurf rfl hr hu, ← hled]
    exact State.surfGone_result hsurf
  · rw [State.surfSettle_stays hsurf fun ⟨_, hr, hu⟩ => hk.elim (· hr) (· hu)]
    exact ⟨hsurf, ((hs.opens g).within (u.updSurf_within h _) (by decide) (by decide)).ended⟩

end

/-! ## The obligation -/

/-- Settles O28, command by command. -/
theorem surfaces : Obligations.Surfaces := fun _ _ rows _ g =>
  ⟨fun _ _ h hbad hroom hcap => opSurfAlloc_result h hbad hroom hcap g,
    fun _ _ _ hs hh hf hstate hown hrefs hup hreg hw hl hrate hmax hfits =>
      opSurfUpload_result hs hh hf hstate hown hrefs hup hreg hw hl hrate hmax hfits g,
    fun _ _ hf hu hown => surfUploadEnd_result hf hu hown rows,
    fun _ _ _ hs hh hf hstate hown => opSurfFree_result hs hh hf hstate hown g⟩

end Sys2Proof.Machine
end

section
/-!
SUPPORT. The scaler pool: SCALER_CLAIM, SCALER_RELEASE and SCALER_CONFIGURE (R185 to R188).
-/
namespace Sys2Proof.Machine

/-! ## Scalers as views of the state -/

theorem State.scl_congr {s t : State} (e : t.scc.scalers = s.scc.scalers) (k : Nat) : t.scl k = s.scl k := by simp only [State.scl, e]

theorem Within.scl {m : Nat} {s t : State} (w : Within m s t) (h : m.testBit 18 = false) (k : Nat) : t.scl k = s.scl k :=
  State.scl_congr (w.same .scalers h) k

theorem State.complete_scl (s : State) (j : Job) (status : Nat) (result : BitVec 64) (k : Nat) : (s.complete j status result).scl k = s.scl k :=
  (s.complete_within j status result).scl (by decide) k

section
variable {s u : State} {n opc : Nat} {j : Job} (h : s.Starts n opc j u)
include h

theorem State.Starts.scc : u.scc = s.scc := h.within.scc (by decide) (by decide)
theorem State.Starts.scl (k : Nat) : u.scl k = s.scl k := h.within.scl (by decide) k
theorem State.Starts.sclFree (k : Nat) (gang : Bool) : u.sclFree k gang = s.sclFree k gang := by simp only [State.sclFree, h.scl]
theorem State.Starts.lowestScl (gang : Bool) : u.lowestScl gang = s.lowestScl gang := by simp only [State.lowestScl, h.sclFree]
theorem State.Starts.sclNamed (k : Nat) : u.sclNamed k = s.sclNamed k := by rw [State.sclNamed, State.headList, h.heads]; rfl

end

/-! ## SCALER_CLAIM (R185, R186) -/

/-- The scaler or pair that a claim asks for: the lowest free one, or one that it names, by its even index where it is a pair. -/
def State.ClaimPicks (s : State) (d : List Byte) (k : Nat) : Prop :=
  if ubit d 9 1 then s.lowestScl (ubit d 9 0) = some k
  else k = u16 d 10 ∧ k < 128 ∧ (ubit d 9 0 = true → k % 2 = 0) ∧ s.sclFree k (ubit d 9 0) = true

/-- The power tokens of a scaler or a pair. -/
def sclPower (gang : Bool) : Nat := if gang then 8 else 4

theorem State.claimScl_scl (s : State) (k : Nat) (gang : Bool) (owner : Nat) (byTake : Bool) (th tv sh sv : Nat) :
    (s.claimScl k gang owner byTake th tv sh sv).scl k = { s.scl k with
      state := (if gang then .gangLead else .single), owner := owner, byTake := byTake, tapsH := th, tapsV := tv, setH := sh, setV := sv,
      power := sclPower gang } := by
  cases gang with
  | false => exact s.scl_setScl k _
  | true => exact (State.scl_setScl_ne _ _ (Nat.ne_of_lt k.lt_succ_self)).trans (s.scl_setScl k _)

theorem State.claimScl_member (s : State) (k owner : Nat) (byTake : Bool) (th tv sh sv : Nat) :
    ((s.claimScl k true owner byTake th tv sh sv).scl (k + 1)).state = .gangMember :=
  congrArg Scaler.state (State.scl_setScl _ (k + 1) _)

section
variable {n : Fin 64} {s u : State} {j : Job} {k : Nat} (h : s.Starts n 0x40 j u) (hact : u8 j.d 8 = 0) (hfields : sclFieldsOk j.d = true)
  (hpick : s.ClaimPicks j.d k) (hsets : (s.scl k).setsOk j.d = true) (hfits : u.leaveFits (sclPower (ubit j.d 9 0)) 0 = true)

/-- The tokens are taken and the scaler or pair is claimed with the taps and sets of the descriptor. -/
def State.sclClaimed (s : State) (j : Job) (k : Nat) : State :=
  (s.leaveTake (sclPower (ubit j.d 9 0)) 0).claimScl k (ubit j.d 9 0) j.owner false (u8 j.d 12) (u8 j.d 13) (u8 j.d 14) (u8 j.d 15)

include h hact hfields hpick hsets hfits

theorem exec_scalerClaim : exec (.scalerClaim n) s = .next ((u.sclClaimed j k).complete j csOk (sclResult k (sclPower (ubit j.d 9 0)))) := by
  have hask : u.leaveAsk j.owner (if ubit j.d 9 0 then 8 else 4) 0 = (true, u.leaveTake (sclPower (ubit j.d 9 0)) 0) := leaveAsk_granted hfits j.owner
  show execScalerClaim n s = _
  rw [execScalerClaim, h.runOp (by simp [hact])]
  cases hany : ubit j.d 9 1 with
  | true =>
    rw [State.ClaimPicks, hany, if_pos rfl] at hpick
    simp only [hact, hfields, h.lowestScl, hpick, h.scl, hsets, hask, ne_eq, not_true_eq_false, decide_false, Bool.not_true, Bool.false_and,
      Bool.or_self, Bool.false_eq_true, if_false, if_true]
    rfl
  | false =>
    rw [State.ClaimPicks, hany, if_neg Bool.false_ne_true] at hpick
    obtain ⟨rfl, hk, heven, hfree⟩ := hpick
    have hodd : (ubit j.d 9 0 && u16 j.d 10 % 2 == 1) = false := by
      rw [Bool.and_eq_false_imp]
      intro hgang
      rw [heven hgang]
      rfl
    simp only [hact, hfields, h.sclFree, hfree, h.scl, hsets, hask, Nat.not_le.2 hk, hodd, ne_eq, not_true_eq_false, decide_false, Bool.not_true,
      Bool.not_false, Bool.true_and, Bool.or_self, Bool.false_eq_true, if_false, if_true]
    rfl

theorem scalerClaim_result (g : s.Good) : ∃ t, exec (.scalerClaim n) s = .next t ∧
    t.Answered j csOk (sclResult k (sclPower (ubit j.d 9 0))) ∧ t.lv.powFree = s.lv.powFree - sclPower (ubit j.d 9 0) ∧
    (t.scl k).state = (if ubit j.d 9 0 then .gangLead else .single) ∧ (t.scl k).owner = j.owner ∧ (t.scl k).tapsH = u8 j.d 12 ∧
    (t.scl k).tapsV = u8 j.d 13 ∧ (ubit j.d 9 0 = true → (t.scl (k + 1)).state = .gangMember) := by
  have w : Within (maskOf [.ledger, .leave, .scalers]) u (u.sclClaimed j k) :=
    (State.claimScl_within _ _ _ _ _ _ _ _ _).via (by decide) ((u.leaveTake_within _ _ (State.leaveFits_le hfits)).mono (by decide))
  have hlv : (u.sclClaimed j k).lv.powFree = u.lv.powFree - sclPower (ubit j.d 9 0) :=
    ((State.claimScl_within _ _ _ _ _ _ _ _ _).tokens (by decide)).1
  have hscl : (u.sclClaimed j k).scl k = _ := State.claimScl_scl _ _ _ _ _ _ _ _ _
  refine ⟨_, exec_scalerClaim h hact hfields hpick hsets hfits, h.answered g w (by decide) (by decide) _ _, ?_, ?_⟩
  · rw [(State.complete_free _ _ _ _).1, hlv, h.free.1]
  · rw [State.complete_scl, State.complete_scl, hscl]
    refine ⟨rfl, rfl, rfl, rfl, fun hgang => ?_⟩
    rw [State.sclClaimed, hgang]
    exact State.claimScl_member _ _ _ _ _ _ _ _

end

/-! ## SCALER_RELEASE (R187) -/

/-- A scaler that is free has no owner and no tokens. -/
def Scaler.cleared (x : Scaler) : Scaler := { x with state := .free, owner := 0, byTake := false, power := 0 }

/-- A scaler is free, and with the lead of a pair its member. -/
def State.clearScl (s : State) (k : Nat) : State :=
  if (s.scl k).state = .gangLead then (s.setScl k (s.scl k).cleared).setScl (k + 1) ((s.setScl k (s.scl k).cleared).scl (k + 1)).cleared
  else s.setScl k (s.scl k).cleared

theorem State.freeScl_eq (s : State) (k : Nat) : s.freeScl k = ((s.scl k).power, (s.clearScl k).leaveRet (s.scl k).power 0) := rfl

theorem State.clearScl_scl (s : State) (k : Nat) : (s.clearScl k).scl k = (s.scl k).cleared := by
  unfold State.clearScl
  split
  · rw [State.scl_setScl_ne _ _ (Nat.ne_of_lt k.lt_succ_self), State.scl_setScl]
  · exact s.scl_setScl k _

theorem State.clearScl_member {s : State} {k : Nat} (h : (s.scl k).state = .gangLead) : ((s.clearScl k).scl (k + 1)).state = .free := by
  rw [State.clearScl, if_pos h, State.scl_setScl]
  rfl

theorem State.freeScl_scl (s : State) (k m : Nat) : (s.freeScl k).2.scl m = (s.clearScl k).scl m := by
  rw [State.freeScl_eq]
  exact (State.leaveRet_within _ _ _).scl (by decide) m

section
variable {n : Fin 64} {s u : State} {j : Job} {k : Nat} (h : s.Starts n 0x40 j u) (hact : u8 j.d 8 = 1) (hk : u16 j.d 10 = k) (hmax : k < 128)
  (hflags : zeros j.d 9 9 = true) (hunused : zeros j.d 12 15 = true) (hmember : (s.scl k).state ≠ .gangMember) (hfree : (s.scl k).state ≠ .free)
  (hown : j.mayUse (s.scl k).owner = true) (hnamed : s.sclNamed k = false)
include h hact hk hmax hflags hunused hmember hfree hown hnamed

theorem exec_scalerRelease : exec (.scalerRelease n) s = .next ((u.freeScl k).2.complete j csOk (sclResult k (s.scl k).power)) := by
  show execScalerRelease n s = _
  rw [execScalerRelease, h.runOp (by simp [hact])]
  simp only [firstFail, hk, h.scl, h.sclNamed, Nat.not_le.2 hmax, hflags, hunused, hmember, hfree, hown, hnamed, decide_false, Bool.not_true, Bool.or_self,
    Bool.false_eq_true, if_false, State.freeScl_eq]

theorem scalerRelease_result (g : s.Good) : ∃ t, exec (.scalerRelease n) s = .next t ∧ t.Answered j csOk (sclResult k (s.scl k).power) ∧
    (t.scl k).state = .free ∧ (t.scl k).owner = 0 ∧ ((s.scl k).state = .gangLead → (t.scl (k + 1)).state = .free) := by
  refine ⟨_, exec_scalerRelease h hact hk hmax hflags hunused hmember hfree hown hnamed, h.answered g (u.freeScl_within k) (by decide) (by decide) _ _, ?_⟩
  rw [State.complete_scl, State.complete_scl, State.freeScl_scl, State.freeScl_scl, State.clearScl_scl]
  exact ⟨rfl, rfl, fun hgang => State.clearScl_member ((congrArg Scaler.state (h.scl k)).trans hgang)⟩

end

/-! ## SCALER_CONFIGURE (R186, R188) -/

/-- A scaler with the taps and sets of a descriptor, which owns it from then on. -/
def Scaler.configuredBy (x : Scaler) (j : Job) : Scaler :=
  { x with owner := j.owner, tapsH := u8 j.d 12, tapsV := u8 j.d 13, setH := u8 j.d 14, setV := u8 j.d 15 }

/-- A scaler is configured, and with the lead of a pair its member. -/
def State.configureScl (s : State) (k : Nat) (j : Job) : State :=
  if (s.scl k).state = .gangLead then
    (s.setScl k ((s.scl k).configuredBy j)).setScl (k + 1) (((s.setScl k ((s.scl k).configuredBy j)).scl (k + 1)).configuredBy j)
  else s.setScl k ((s.scl k).configuredBy j)

theorem State.configureScl_scl (s : State) (k : Nat) (j : Job) : (s.configureScl k j).scl k = (s.scl k).configuredBy j := by
  unfold State.configureScl
  split
  · rw [State.scl_setScl_ne _ _ (Nat.ne_of_lt k.lt_succ_self), State.scl_setScl]
  · exact s.scl_setScl k _

theorem State.configureScl_within (s : State) (k : Nat) (j : Job) : Within 262144 s (s.configureScl k j) :=
  .ite ((State.setScl_within _ _ _).via (by decide) (s.setScl_within _ _)) (s.setScl_within _ _)

section
variable {n : Fin 64} {s u : State} {j : Job} {k : Nat} (h : s.Starts n 0x40 j u) (hact : u8 j.d 8 = 2) (hk : u16 j.d 10 = k) (hmax : k < 128)
  (hflags : zeros j.d 9 9 = true) (hfields : sclFieldsOk j.d = true) (hsets : (s.scl k).setsOk j.d = true)
  (hmember : (s.scl k).state ≠ .gangMember) (hfree : (s.scl k).state ≠ .free) (hown : j.mayUse (s.scl k).owner = true)
include h hact hk hmax hflags hfields hsets hmember hfree hown

theorem exec_scalerConfigure : exec (.scalerConfigure n) s = .next ((u.configureScl k j).complete j csOk (sclResult k (s.scl k).power)) := by
  show execScalerConfigure n s = _
  rw [execScalerConfigure, h.runOp (by simp [hact])]
  simp only [firstFail, hk, h.scl, Nat.not_le.2 hmax, hflags, hfields, hsets, hmember, hfree, hown, decide_false, Bool.not_true, Bool.or_self,
    Bool.false_eq_true, if_false, State.configureScl]
  rfl

theorem scalerConfigure_result (g : s.Good) : ∃ t, exec (.scalerConfigure n) s = .next t ∧ t.Answered j csOk (sclResult k (s.scl k).power) ∧
    t.scl k = (s.scl k).configuredBy j := by
  refine ⟨_, exec_scalerConfigure h hact hk hmax hflags hfields hsets hmember hfree hown,
    h.answered g (u.configureScl_within k j) (by decide) (by decide) _ _, ?_⟩
  rw [State.complete_scl, State.configureScl_scl, h.scl]

end

end Sys2Proof.Machine
end

section
/-!
SUPPORT. OP_COLOUR_LOAD: loads that are staged and loads that take effect at once (R199 to R205).
-/
namespace Sys2Proof.Machine

/-! ## What a start leaves of what a load reads -/

theorem State.dith_congr {s t : State} (e : t.scc.diths = s.scc.diths) (d : Nat) : t.dith d = s.dith d := by simp only [State.dith, e]

/-- Dithers and staged loads are the same where the colour part is. -/
theorem Within.colour {m : Nat} {s t : State} (w : Within m s t) (h : m.testBit 19 = false) : t.scc.diths = s.scc.diths ∧ t.scc.loads = s.scc.loads := by
  have e := w.same .colour h
  simp only [Part.same, Prod.mk.injEq] at e
  obtain ⟨-, -, hdiths, hloads⟩ := e
  exact ⟨hdiths, hloads⟩

section
variable {s u : State} {n opc : Nat} {j : Job} (h : s.Starts n opc j u)
include h

theorem State.Starts.dest (d : Nat) : u.dest d = s.dest d := State.dest_congr (h.within.same .destinations (by decide)) d
theorem State.Starts.feeder (d : Nat) : u.feeder d = s.feeder d := by rw [State.feeder, h.queued, State.heads, h.heads]; rfl
theorem State.Starts.destOwner (d : Nat) : u.destOwner d = s.destOwner d := by
  simp only [State.destOwner, h.feeder, h.head, State.sendFlow, h.within.flows (by decide)]
theorem State.Starts.colourOwner (d : List Byte) : u.colourOwner d = s.colourOwner d := by
  simp only [State.colourOwner, h.within.src (by decide), h.head, h.scl, h.destOwner]
theorem State.Starts.colBase (kind index : Nat) : u.colBase kind index = s.colBase kind index := by
  simp only [State.colBase, State.colIn, State.colOut, h.scc]

end

/-! ## A load takes effect (R202) -/

/-- A coefficient set that has been put into a scaler is found under its number. -/
theorem Scaler.set_putSet {x : Scaler} {i : Nat} (h : 1 ≤ i ∧ i ≤ 3) (v : ScSet) : (x.putSet i v).set i = some v := by
  obtain rfl | rfl | rfl : i = 1 ∨ i = 2 ∨ i = 3 := by omega
  all_goals rfl

/-- A staged load leaves the list and its descriptor completes. -/
theorem State.loadDone_eq (s : State) {l : ColLoad} {j : Job} (hring : l.ring = j.ring) (hstamp : l.stamp = j.stamp) :
    s.loadDone l = (s.updScc fun c => { c with loads := c.loads.filter fun m => m.stamp ≠ l.stamp }).complete j csOk 0 := by
  rw [State.loadDone, hring, hstamp, State.complete]

section
variable {s : State} {l : ColLoad} {j : Job} (o : s.Open j) (hring : l.ring = j.ring) (hstamp : l.stamp = j.stamp)
include o hring hstamp

theorem State.Open.loadDone_answered : (s.loadDone l).Answered j csOk 0 := by
  rw [State.loadDone_eq s hring hstamp]
  exact (o.congr (t := s.updScc _) rfl rfl).answered csOk 0

/-- A set of a scaler takes effect. -/
theorem State.Open.loadApply_set (hkind : l.kind = 2) (hno : 1 ≤ l.setNo ∧ l.setNo ≤ 3) :
    (s.loadApply l).Answered j csOk 0 ∧ ((s.loadApply l).scl l.index).set l.setNo = some l.setVal := by
  have happly : s.loadApply l = (s.setScl l.index ((s.scl l.index).putSet l.setNo l.setVal)).loadDone l := by
    simp only [State.loadApply, hkind]
  rw [happly]
  refine ⟨(o.within (s.setScl_within _ _) (by decide) (by decide)).loadDone_answered hring hstamp, ?_⟩
  rw [(State.loadDone_within _ l).scl (by decide), State.scl_setScl]
  exact Scaler.set_putSet hno _

/-- The dither of a destination takes effect. -/
theorem State.Open.loadApply_dith (hkind : l.kind = 3) : (s.loadApply l).Answered j csOk 0 ∧ (s.loadApply l).dith l.index = l.dith := by
  have happly : s.loadApply l = (s.setDith l.index l.dith).loadDone l := by
    simp only [State.loadApply, hkind]
  rw [happly]
  refine ⟨(o.within (s.setDith_within _ _) (by decide) (by decide)).loadDone_answered hring hstamp, ?_⟩
  rw [State.loadDone_eq _ hring hstamp, State.dith_congr ((State.complete_within _ j csOk 0).colour (by decide)).1]
  exact s.dith_setDith l.index l.dith

end

section
variable {s : State} {l : ColLoad} (hl : s.scc.loads = [l])
include hl

theorem State.colourIdle_waits (hf : s.loadFree l = false) : s.colourIdle = s := by
  rw [State.colourIdle, hl, List.filter_singleton, hf]
  rfl

theorem State.colourIdle_applies (hf : s.loadFree l = true) : s.colourIdle = s.loadApply l := by
  rw [State.colourIdle, hl, List.filter_singleton, hf]
  rfl

end

/-! ## Staging (R199 to R202) -/

/-- The load that a descriptor stages: `buf` holds its tables. -/
def State.loadOf (s : State) (j : Job) (buf : List Byte) : ColLoad :=
  { ring := j.ring, stamp := j.stamp, kind := u8 j.d 8, index := u16 j.d 10, unit := (s.colBase (u8 j.d 8) (u16 j.d 10)).load j.d buf,
    dith := { mode := u8 j.d 33, seed := BitVec.ofNat 32 (u32 j.d 36) }, setNo := u8 j.d 12,
    setVal := { tapsH := u8 j.d 14, tapsV := u8 j.d 15, persist := ubit j.d 9 0, coef := (if u8 j.d 8 = 2 then buf else []) } }

/-- What the load changes has its owner, and the load waits with those before it. -/
def State.stageLoad (s : State) (j : Job) (l : ColLoad) : State := (s.colourTag j).updScc fun c => { c with loads := c.loads ++ [l] }

theorem State.stageLoad_within (s : State) (j : Job) (l : ColLoad) : Within (maskOf [.sources, .heads, .scalers, .colour]) s (s.stageLoad j l) :=
  State.updScc_via 524288 (fun _ _ => rfl) (fun h => absurd h (by decide)) (by decide) ((s.colourTag_within j).mono (by decide))

theorem State.stageLoad_loads {s : State} (hnone : s.scc.loads = []) (j : Job) (l : ColLoad) : (s.stageLoad j l).scc.loads = [l] := by
  rw [State.stageLoad, State.updScc_scc, ((s.colourTag_within j).colour (by decide)).2, hnone]
  rfl

/-- A load of a colour unit waits for a frame or a flip, whatever is on air. -/
theorem State.loadFree_unit (s : State) {l : ColLoad} (hk : l.kind < 2) : s.loadFree l = false := by
  simp [State.loadFree, show l.kind ≠ 2 by omega, show l.kind ≠ 3 by omega]

/-- A dither waits for a flip exactly while a head feeds its destination. -/
theorem State.loadFree_dith (s : State) {l : ColLoad} (hk : l.kind = 3) : s.loadFree l = (s.dest l.index).head.isNone := by
  simp [State.loadFree, hk]

/-- The number of a coefficient set lies in its range where the fields of the descriptor do. -/
theorem setNo_of_colourBad {d : List Byte} (hbad : colourBad d = false) (hkind : u8 d 8 = 2) : 1 ≤ u8 d 12 ∧ u8 d 12 ≤ 3 := by
  simp only [colourBad, hkind, Bool.or_eq_false_iff, Bool.not_eq_false', decide_eq_true_eq] at hbad
  tauto

theorem colLens_set {d : List Byte} (hkind : u8 d 8 = 2) : (colLens d).sum = 2048 := by rw [colLens, if_pos hkind]; rfl

section
variable {n : Fin 64} {data : Option (List Byte)} {s u : State} {j : Job} {buf : List Byte} (h : s.Starts n 0x48 j u)
  (hbuf : dmaFit (data.getD []) (colLens j.d).sum = buf) (hbad : colourBad j.d = false)
  (hown : j.mayUse (s.colourOwner j.d) = true) (hread : data.isSome = true ∨ (colLens j.d).sum = 0)
  (hdata : colourDataBad j.d buf = false)
  (hlacks : u8 j.d 8 < 2 → ((s.colBase (u8 j.d 8) (u16 j.d 10)).load j.d buf).lacks = false)
include h hbuf hbad hown hread hdata hlacks

theorem exec_opColourLoad : exec (.opColourLoad n data) s = .next (u.stageLoad j (u.loadOf j buf)).colourIdle := by
  have hunit : (decide (u8 j.d 8 < 2) && ((s.colBase (u8 j.d 8) (u16 j.d 10)).load j.d buf).lacks) = false := by
    rw [Bool.and_eq_false_imp, decide_eq_true_eq]
    exact hlacks
  have hhave : (data.isSome || (colLens j.d).sum == 0) = true := by
    rwa [Bool.or_eq_true, beq_iff_eq]
  subst hbuf
  show execOpColourLoad n data s = _
  rw [execOpColourLoad, h.runOp rfl]
  simp only [firstFail, hbad, h.colBase, hunit, hhave, hdata, h.colourOwner, hown, Bool.not_true, Bool.or_self, Bool.and_false, Bool.false_eq_true,
    if_false, State.stageLoad, State.loadOf]

/-- What a load of each kind leaves: a unit waits, a dither waits or takes effect, a coefficient set does either. -/
theorem opColourLoad_result (hnone : s.scc.loads = []) (g : s.Good) : ∃ t, exec (.opColourLoad n data) s = .next t ∧
    (u8 j.d 8 = 3 ∧ (s.dest (u16 j.d 10)).head = none →
      t.Answered j csOk 0 ∧ t.dith (u16 j.d 10) = { mode := u8 j.d 33, seed := BitVec.ofNat 32 (u32 j.d 36) }) ∧
    (u8 j.d 8 < 2 ∨ (u8 j.d 8 = 3 ∧ (s.dest (u16 j.d 10)).head ≠ none) → t.Waits j ∧ ∃ l, t.scc.loads = [l] ∧ l.ring = j.ring ∧ l.stamp = j.stamp ∧
      l.kind = u8 j.d 8 ∧ l.index = u16 j.d 10 ∧ l.unit = (s.colBase (u8 j.d 8) (u16 j.d 10)).load j.d buf) ∧
    (u8 j.d 8 = 2 → (t.Waits j ∧ t.scc.loads ≠ []) ∨ (t.Answered j csOk 0 ∧ ∃ c, (t.scl (u16 j.d 10)).set (u8 j.d 12) = some c ∧
      c.tapsH = u8 j.d 14 ∧ c.tapsV = u8 j.d 15 ∧ c.coef = buf)) := by
  have hw := u.stageLoad_within j (u.loadOf j buf)
  have hopen : (u.stageLoad j (u.loadOf j buf)).Open j := (h.opens g).within hw (by decide) (by decide)
  have hloads : (u.stageLoad j (u.loadOf j buf)).scc.loads = [u.loadOf j buf] := State.stageLoad_loads (by rw [h.scc, hnone]) j _
  have hdith : u8 j.d 8 = 3 → (u.stageLoad j (u.loadOf j buf)).loadFree (u.loadOf j buf) = (s.dest (u16 j.d 10)).head.isNone := fun hk => by
    rw [State.loadFree_dith _ hk, State.dest_congr (hw.same .destinations (by decide)), h.dest]
    rfl
  refine ⟨_, exec_opColourLoad h hbuf hbad hown hread hdata hlacks, fun ⟨hk, hhead⟩ => ?_, fun hk => ?_, fun hk => ?_⟩
  · rw [State.colourIdle_applies hloads (by rw [hdith hk, hhead]; rfl)]
    exact hopen.loadApply_dith rfl rfl hk
  · have hstay : (u.stageLoad j (u.loadOf j buf)).loadFree (u.loadOf j buf) = false := by
      obtain hk | ⟨hk, hhead⟩ := hk
      · exact State.loadFree_unit _ hk
      · rw [hdith hk, Option.isNone_eq_false_iff, Option.isSome_iff_ne_none]
        exact hhead
    rw [State.colourIdle_waits hloads hstay]
    exact ⟨hopen.1, _, hloads, rfl, rfl, rfl, rfl, by rw [← h.colBase]; rfl⟩
  · cases hfree : (u.stageLoad j (u.loadOf j buf)).loadFree (u.loadOf j buf) with
    | false =>
      rw [State.colourIdle_waits hloads hfree]
      exact .inl ⟨hopen.1, by rw [hloads]; exact List.cons_ne_nil _ _⟩
    | true =>
      rw [State.colourIdle_applies hloads hfree]
      obtain ⟨hanswered, hset⟩ := hopen.loadApply_set (l := u.loadOf j buf) rfl rfl hk (setNo_of_colourBad hbad hk)
      exact .inr ⟨hanswered, _, hset, rfl, rfl, if_pos hk⟩

end

/-! ## The obligation -/

/-- Settles O32, command by command. -/
theorem scalersColour : Obligations.ScalersColour := fun _ _ _ g =>
  ⟨fun _ _ _ h hact hfields hpick hsets hfits => scalerClaim_result h hact hfields hpick hsets hfits g,
    fun _ _ _ h hact hk hmax hflags hunused hmember hfree hown hnamed =>
      scalerRelease_result h hact hk hmax hflags hunused hmember hfree hown hnamed g,
    fun _ _ _ h hact hk hmax hflags hfields hsets hmember hfree hown =>
      scalerConfigure_result h hact hk hmax hflags hfields hsets hmember hfree hown g,
    fun _ _ h hbad hown hread hdata hnone hlacks => by
      obtain ⟨t, hexec, hdith, hunit, hset⟩ := opColourLoad_result h rfl hbad hown hread hdata hlacks hnone g
      exact ⟨t, hexec, hdith, hunit, fun hk => colLens_set hk ▸ hset hk⟩⟩

end Sys2Proof.Machine
end

section
/-!
SUPPORT. Converter slices and push channels as views of the state: what a start, a completion and a change of other parts leave of them (R212, R272).
-/
namespace Sys2Proof.Machine

theorem Within.cnv {m : Nat} {s t : State} (w : Within m s t) (h : m.testBit 20 = false) (k : Nat) : t.cnv k = s.cnv k :=
  State.cnv_congr (w.same .converters h) k

theorem Within.push {m : Nat} {s t : State} (w : Within m s t) (h : m.testBit 22 = false) (c : Nat) : t.push c = s.push c :=
  State.push_congr (w.same .pushes h) c

theorem Within.led {m : Nat} {s t : State} (w : Within m s t) (h : m.testBit 3 = false) (kind i c : Nat) : t.led kind i c = s.led kind i c :=
  State.led_congr (w.same .ledger h) kind i c

theorem State.complete_cnv (s : State) (j : Job) (status : Nat) (result : BitVec 64) (k : Nat) : (s.complete j status result).cnv k = s.cnv k :=
  (s.complete_within j status result).cnv (by decide) k

theorem State.complete_push (s : State) (j : Job) (status : Nat) (result : BitVec 64) (c : Nat) : (s.complete j status result).push c = s.push c :=
  (s.complete_within j status result).push (by decide) c

theorem State.leaveTake_cnv (s : State) (p f k : Nat) : (s.leaveTake p f).cnv k = s.cnv k := rfl

@[simp] theorem State.cnvRaise_cnv (s : State) (m bit code : Nat) (d : List (Nat × Nat × Nat)) (k : Nat) : (s.cnvRaise m bit code d).cnv k = s.cnv k :=
  (s.cnvRaise_within m bit code d).cnv (by decide) k

@[simp] theorem State.cnvCount_cnv (s : State) (m c n k : Nat) : (s.cnvCount m c n).cnv k = s.cnv k := rfl

@[simp] theorem State.unpin_cnv (s : State) (p : Pin) (k : Nat) : (s.unpin p).cnv k = s.cnv k := rfl

@[simp] theorem State.leaveRet_cnv (s : State) (p f k : Nat) : (s.leaveRet p f).cnv k = s.cnv k := (s.leaveRet_within p f).cnv (by decide) k

@[simp] theorem State.takeFrame_cnv (s : State) (n : Nat) (r : Ring) (i : Nat) (p : Pin) (k : Nat) : (s.takeFrame n r i p).cnv k = s.cnv k :=
  (s.takeFrame_within n r i p).cnv (by decide) k

section
variable {s u : State} {n opc : Nat} {j : Job} (h : s.Starts n opc j u)
include h

theorem State.Starts.regs : u.regs = s.regs := h.within.same .regs (by decide)
theorem State.Starts.now : u.now = s.now := h.within.now (by decide)
theorem State.Starts.cnv (k : Nat) : u.cnv k = s.cnv k := h.within.cnv (by decide) k
theorem State.Starts.push (c : Nat) : u.push c = s.push c := h.within.push (by decide) c
theorem State.Starts.cnvFree (k : Nat) (uhd : Bool) : u.cnvFree k uhd = s.cnvFree k uhd := by simp only [State.cnvFree, h.cnv]
theorem State.Starts.lowestCnv (uhd : Bool) : u.lowestCnv uhd = s.lowestCnv uhd := by simp only [State.lowestCnv, h.cnvFree]
theorem State.Starts.polderRate (p : Nat) : u.polderRate p = s.polderRate p := by simp only [State.polderRate, State.fget_congr h.regs]
theorem State.Starts.polderReady (p : Nat) : u.polderReady p = s.polderReady p := by
  simp only [State.polderReady, State.polder_congr (h.within.same .polders (by decide))]
theorem State.Starts.sourceOwner (k : Nat) : u.sourceOwner k = s.sourceOwner k := by
  simp only [State.sourceOwner, h.within.src (by decide), h.cnv, h.head]

end

end Sys2Proof.Machine
end

section
/-!
SUPPORT. Claims, releases and modes of converter slices: CONV_CLAIM, CONV_RELEASE and CONV_MODE (R232 to R237).
-/
namespace Sys2Proof.Machine

/-! ## What pictures leave of a slice -/

/-- What a claim gives a slice: state, owner, input, mode, polder. -/
def Conv.claimed (c : Conv) : CnvState × Nat × Nat × Nat × Nat := (c.state, c.owner, c.input, c.mode, c.polder)

/-- What a build start settles first: the raster period that it has run for, the next frame's id, the source's state. -/
def Conv.settled (c : Conv) : Option Nat × Nat × SrcState := (c.builtFor, c.nextId, c.srcState)

theorem Conv.claimed_eq {c : Conv} {st : CnvState} {owner input mode polder : Nat} : c.claimed = (st, owner, input, mode, polder) ↔
    c.state = st ∧ c.owner = owner ∧ c.input = input ∧ c.mode = mode ∧ c.polder = polder := by
  simp only [Conv.claimed, Prod.mk.injEq]

theorem Conv.settled_eq {c : Conv} {period : Option Nat} {id : Nat} {st : SrcState} : c.settled = (period, id, st) ↔
    c.builtFor = period ∧ c.nextId = id ∧ c.srcState = st := by
  simp only [Conv.settled, Prod.mk.injEq]

/-- A slice without its motion store and its cadence detector. -/
def Conv.fixed (c : Conv) : (CnvState × Nat × Nat × Nat × Nat) × Option Nat × Nat × SrcState := (c.claimed, c.settled)

theorem Conv.cadenceIn_fixed (c : Conv) (rep : Bool) : (c.cadenceIn rep).fixed = c.fixed := by
  cases rep <;> rfl

theorem State.cnvPicture_fixed (s : State) (m : Nat) (f : Frame) (field : Nat) (time : Int) (rep : Bool) :
    ((s.cnvPicture m f field time rep).cnv m).fixed = (s.cnv m).fixed := by
  unfold State.cnvPicture
  extract_lets c d lock num d' t
  have hd : d.fixed = c.fixed := by
    unfold d
    split
    · exact c.cadenceIn_fixed rep
    · rfl
  have ht : (t.cnv m).fixed = c.fixed := (congrArg Conv.fixed (s.cnv_setCnv m _)).trans hd
  split
  · exact ht
  · exact (congrArg Conv.fixed (t.cnvRaise_cnv _ _ _ _ m)).trans ht

theorem State.cnvTake_fixed (s : State) (m : Nat) (f : Frame) (time : Int) (reps : List Bool) :
    ((s.cnvTake m f time reps).cnv m).fixed = (s.cnv m).fixed := by
  unfold State.cnvTake
  extract_lets c
  split
  · rw [State.cnv_setCnv]
    rfl
  · split
    · exact (State.cnvPicture_fixed _ _ _ _ _ _).trans (s.cnvPicture_fixed _ _ _ _ _)
    · exact s.cnvPicture_fixed _ _ _ _ _

/-! ## CONV_CLAIM (R233 to R237) -/

/-- The slice that a claim asks for: the lowest free one, or one that it names. -/
def State.ConvPicks (s : State) (d : List Byte) (k : Nat) : Prop :=
  if ubit d 9 1 then s.lowestCnv (ubit d 9 0) = some k else k = u16 d 10 ∧ s.cnvFree k (ubit d 9 0) = true

theorem State.ConvPicks.picked {s : State} {d : List Byte} {k : Nat} (h : s.ConvPicks d k) :
    (if ubit d 9 1 then s.lowestCnv (ubit d 9 0) else if s.cnvFree (u16 d 10) (ubit d 9 0) then some (u16 d 10) else none) = some k := by
  unfold State.ConvPicks at h
  split at h
  next hany => exact (if_pos hany).trans h
  next hany =>
    obtain ⟨rfl, hfree⟩ := h
    rw [if_neg hany, if_pos hfree]

theorem State.claimCnv_claimed (s : State) (m : Nat) (uhd : Bool) (owner : Nat) (byTake : Bool)
    (input polder mode scan cadence confMin power fetch : Nat) :
    ((s.claimCnv m uhd owner byTake input polder mode scan cadence confMin power fetch).cnv m).claimed =
      (if uhd then .groupLead else .single, owner, input, mode, polder) := by
  unfold State.claimCnv
  extract_lets newest _ _ c t t'
  have ht : (t.cnv m).claimed = c.claimed := congrArg Conv.claimed (s.cnv_setCnv m c)
  have ht' : (t'.cnv m).claimed = c.claimed := by
    unfold t'
    split
    · exact (congrArg Prod.fst (t.cnvTake_fixed _ _ _ _)).trans ht
    · exact ht
  cases uhd with
  | false => exact ht'
  | true =>
    have hmembers (f : Conv → Conv) : ([1, 2, 3].foldl (fun s i => s.updCnv (m + i) f) t').cnv m = t'.cnv m := by
      simp [State.cnv_updCnv_ne]
    exact (congrArg Conv.claimed (hmembers _)).trans ht'

section
variable {n : Fin 64} {s u : State} {j : Job} {k pw fe : Nat} (h : s.Starts n 0x41 j u) (hact : u8 j.d 8 = 0) (hbad : u.cnvClaimBad j.d = false)
  (hready : s.polderReady (u8 j.d 14) = true) (hhead : 384 ≤ u16 j.d 12 → (s.head (u16 j.d 12 - 384)).run ≠ .stopped)
  (hpick : s.ConvPicks j.d k) (hown : j.mayUse (s.sourceOwner (u16 j.d 12)) = true)
  (htok : convTokens (u8 j.d 15) (u.inputNominal (u16 j.d 12)) (ubit j.d 9 0) (s.polderRate (u8 j.d 14)) = (pw, fe))
  (hfits : u.leaveFits pw fe = true)

/-- The tokens are taken and the conversion is claimed as the descriptor says. -/
def State.cnvClaimed (s : State) (j : Job) (k pw fe : Nat) : State :=
  (s.leaveTake pw fe).claimCnv k (ubit j.d 9 0) j.owner false (u16 j.d 12) (u8 j.d 14) (u8 j.d 15) (u8 j.d 16) (u8 j.d 17) (u8 j.d 18) pw fe

include h hact hbad hready hhead hpick hown htok hfits

theorem exec_convClaim : exec (.convClaim n) s = .next ((u.cnvClaimed j k pw fe).complete j csOk (cnvResult k pw fe)) := by
  have hrun : (decide (384 ≤ u16 j.d 12) && decide ((s.head (u16 j.d 12 - 384)).run = .stopped)) = false := by
    rw [Bool.and_eq_false_imp, decide_eq_true_eq]
    exact fun hin => decide_eq_false (hhead hin)
  show execConvClaim n s = _
  rw [execConvClaim, h.runOp (by simp [hact])]
  simp only [firstFail, hbad, h.polderReady, hready, h.head, hrun, h.lowestCnv, h.cnvFree, hpick.picked, h.sourceOwner, hown, h.polderRate, htok,
    leaveAsk_granted hfits, Option.isNone_some, Option.getD_some, Bool.not_true, Bool.or_self, Bool.false_eq_true, if_false, if_true]
  rfl

theorem convClaim_result (g : s.Good) : ∃ t, exec (.convClaim n) s = .next t ∧ t.Answered j csOk (cnvResult k pw fe) ∧
    t.lv.powFree = s.lv.powFree - pw ∧ t.lv.fetFree = s.lv.fetFree - fe ∧ (t.cnv k).state = (if ubit j.d 9 0 then .groupLead else .single) ∧
    (t.cnv k).owner = j.owner ∧ (t.cnv k).input = u16 j.d 12 ∧ (t.cnv k).mode = u8 j.d 15 ∧ (t.cnv k).polder = u8 j.d 14 := by
  have hclaim := (u.leaveTake pw fe).claimCnv_within k (ubit j.d 9 0) j.owner false (u16 j.d 12) (u8 j.d 14) (u8 j.d 15) (u8 j.d 16) (u8 j.d 17)
    (u8 j.d 18) pw fe
  have w : Within (maskOf [.regs, .ledger, .events, .leave, .converters]) u (u.cnvClaimed j k pw fe) :=
    hclaim.via (by decide) ((u.leaveTake_within _ _ (State.leaveFits_le hfits)).mono (by decide))
  obtain ⟨hpow, -, hfet, -⟩ := hclaim.tokens (by decide)
  refine ⟨_, exec_convClaim h hact hbad hready hhead hpick hown htok hfits, h.answered g w (by decide) (by decide) _ _, ?_, ?_, ?_⟩
  · rw [(State.complete_free _ _ _ _).1, State.cnvClaimed, hpow, (State.leaveTake_free _ _ _).1, h.free.1]
  · rw [(State.complete_free _ _ _ _).2, State.cnvClaimed, hfet, (State.leaveTake_free _ _ _).2, h.free.2]
  · rw [State.complete_cnv]
    exact Conv.claimed_eq.1 (State.claimCnv_claimed _ _ _ _ _ _ _ _ _ _ _ _ _)

end

/-! ## The checks that RELEASE and MODE share (R237) -/

theorem State.cnvCheck_passes {s : State} {j : Job} {k : Nat} (hk : u16 j.d 10 = k) (hmax : k ≤ 127) (hfree : (s.cnv k).state ≠ .free)
    (hmember : (s.cnv k).state ≠ .groupMember) (hown : j.mayUse (s.cnv k).owner = true) : s.cnvCheck j false = none := by
  simp only [State.cnvCheck, firstFail, hk, hfree, hmember, hown, Nat.not_lt.2 hmax, or_self, decide_false, Bool.or_self, Bool.not_true,
    Bool.false_eq_true, if_false]

/-! ## CONV_RELEASE (R234) -/

/-- The slices of a conversion are reset, but for the ids of their frames. -/
def State.clearCnv (s : State) (m : Nat) (uhd : Bool) : State :=
  (cnvMembers m uhd).foldl (fun s i => s.updCnv i fun x => { Conv.reset with nextId := x.nextId }) s

theorem State.clearCnv_cnv (s : State) (m : Nat) (uhd : Bool) : (s.clearCnv m uhd).cnv m = { Conv.reset with nextId := (s.cnv m).nextId } := by
  cases uhd with
  | false => simp [State.clearCnv, cnvMembers]
  | true => simp [State.clearCnv, cnvMembers, State.cnv_updCnv_ne]

theorem State.releaseCnv_state (s : State) (m : Nat) : ((s.releaseCnv m).cnv m).state = .free := by
  unfold State.releaseCnv
  extract_lets c p uhd t
  rw [State.leaveRet_cnv, State.unpin_cnv]
  exact congrArg Conv.state (s.clearCnv_cnv m uhd)

section
variable {n : Fin 64} {s u : State} {j : Job} {k : Nat} (h : s.Starts n 0x41 j u) (hact : u8 j.d 8 = 1) (hk : u16 j.d 10 = k) (hmax : k ≤ 127)
  (hflags : flagsUnused j.d = false) (hunused : zeros j.d 12 18 = true) (hfree : (s.cnv k).state ≠ .free)
  (hmember : (s.cnv k).state ≠ .groupMember) (hown : j.mayUse (s.cnv k).owner = true) (hnamed : u.cnvNamed k = false)
include h hact hk hmax hflags hunused hfree hmember hown hnamed

theorem exec_convRelease : exec (.convRelease n) s = .next ((u.releaseCnv k).complete j csOk (cnvResult k 0 0)) := by
  have hcheck : u.cnvCheck j false = none := State.cnvCheck_passes hk hmax (by rwa [h.cnv]) (by rwa [h.cnv]) (by rwa [h.cnv])
  show execConvRelease n s = _
  rw [execConvRelease, h.runOp (by simp [hact])]
  simp only [hflags, hunused, Bool.not_true, Bool.or_self, hcheck, hk, hnamed, Bool.false_eq_true, if_false]

theorem convRelease_result (g : s.Good) : ∃ t, exec (.convRelease n) s = .next t ∧ t.Answered j csOk (cnvResult k 0 0) ∧ (t.cnv k).state = .free := by
  refine ⟨_, exec_convRelease h hact hk hmax hflags hunused hfree hmember hown hnamed,
    h.answered g (u.releaseCnv_within k) (by decide) (by decide) _ _, ?_⟩
  rw [State.complete_cnv, State.releaseCnv_state]

end

/-! ## CONV_MODE (R232, R234) -/

/-- A mode is asked for: the slice holds the larger tokens of both until it takes effect. -/
def Conv.askMode (c : Conv) (j : Job) (pw fe now : Nat) : Conv :=
  { c with owner := j.owner, power := max c.power pw, fetch := max c.fetch fe,
           pend := some { mode := u8 j.d 15, cadence := u8 j.d 17, confMin := u8 j.d 18, power := pw, fetch := fe, at_ := now } }

section
variable {n : Fin 64} {s u : State} {j : Job} {k pw fe : Nat} (h : s.Starts n 0x41 j u) (hact : u8 j.d 8 = 2) (hk : u16 j.d 10 = k) (hmax : k ≤ 127)
  (hflags : flagsUnused j.d = false) (hunused : zeros j.d 12 14 = true) (hscan : u8 j.d 16 = 0) (hmin : 1 ≤ u8 j.d 15) (hmode : u8 j.d 15 ≤ 3)
  (hmotion : u8 j.d 15 = 3 ∨ (u8 j.d 17 = 0 ∧ u8 j.d 18 = 0))
  (hrate : u8 j.d 15 = 1 ∨ u.inputNominal (s.cnv k).input = 0 ∨
    ratePairOk (modeRate (u.inputNominal (s.cnv k).input)) (s.polderRate (s.cnv k).polder) = true)
  (hfree : (s.cnv k).state ≠ .free) (hmember : (s.cnv k).state ≠ .groupMember) (hown : j.mayUse (s.cnv k).owner = true)
  (hpend : (s.cnv k).pend = none)
  (htok : convTokens (u8 j.d 15) (s.cnv k).claimMode (decide ((s.cnv k).state = .groupLead)) (s.polderRate (s.cnv k).polder) = (pw, fe))
  (hfits : u.leaveFits (pw - (s.cnv k).power) (fe - (s.cnv k).fetch) = true)
include h hact hk hmax hflags hunused hscan hmin hmode hmotion hrate hfree hmember hown hpend htok hfits

theorem exec_convMode : exec (.convMode n) s =
    .next (((u.leaveTake (pw - (s.cnv k).power) (fe - (s.cnv k).fetch)).setCnv k ((s.cnv k).askMode j pw fe s.now)).complete j csOk
      (cnvResult k (max (s.cnv k).power pw) (max (s.cnv k).fetch fe))) := by
  have hcheck : u.cnvCheck j false = none := State.cnvCheck_passes hk hmax (by rwa [h.cnv]) (by rwa [h.cnv]) (by rwa [h.cnv])
  have hfields : decide (u8 j.d 15 ≠ 3 ∧ (u8 j.d 17 ≠ 0 ∨ u8 j.d 18 ≠ 0)) = false := by
    rw [decide_eq_false_iff_not]
    omega
  have hpair : (decide (u8 j.d 15 ≠ 1 ∧ u.inputNominal (s.cnv k).input ≠ 0) &&
      !ratePairOk (modeRate (u.inputNominal (s.cnv k).input)) (s.polderRate (s.cnv k).polder)) = false := by
    rw [Bool.and_eq_false_imp, decide_eq_true_eq, Bool.not_eq_false']
    rintro ⟨hblend, him⟩
    exact (hrate.resolve_left hblend).resolve_left him
  have hnow : (u.leaveTake (pw - (s.cnv k).power) (fe - (s.cnv k).fetch)).now = s.now := h.now
  show execConvMode n s = _
  rw [execConvMode, h.runOp (by simp [hact])]
  simp only [hk, h.cnv, h.polderRate, hflags, hunused, hscan, hmin, hmode, and_self, decide_true, hfields, hpair, bne_self_eq_false, Bool.not_true,
    Bool.or_self, hcheck, hpend, htok, leaveAsk_granted hfits, if_true, hnow, State.updCnv, State.leaveTake_cnv]
  rfl

theorem convMode_result (g : s.Good) : ∃ t, exec (.convMode n) s = .next t ∧
    t.Answered j csOk (cnvResult k (max (s.cnv k).power pw) (max (s.cnv k).fetch fe)) ∧
    (t.cnv k).pend = some { mode := u8 j.d 15, cadence := u8 j.d 17, confMin := u8 j.d 18, power := pw, fetch := fe, at_ := s.now } ∧
    (t.cnv k).mode = (s.cnv k).mode ∧ (t.cnv k).power = max (s.cnv k).power pw ∧ (t.cnv k).fetch = max (s.cnv k).fetch fe := by
  have w : Within (maskOf [.ledger, .leave, .converters]) u
      ((u.leaveTake (pw - (s.cnv k).power) (fe - (s.cnv k).fetch)).setCnv k ((s.cnv k).askMode j pw fe s.now)) :=
    (State.setCnv_within _ _ _).via (by decide) ((u.leaveTake_within _ _ (State.leaveFits_le hfits)).mono (by decide))
  refine ⟨_, exec_convMode h hact hk hmax hflags hunused hscan hmin hmode hmotion hrate hfree hmember hown hpend htok hfits,
    h.answered g w (by decide) (by decide) _ _, ?_⟩
  rw [State.complete_cnv, State.cnv_setCnv]
  exact ⟨rfl, rfl, rfl, rfl⟩

end

end Sys2Proof.Machine
end

section
/-!
SUPPORT. The build start of a conversion: it publishes or withholds the frame built, then builds the next one (R219 to R232).
-/
namespace Sys2Proof.Machine

section
variable (s : State) (m : Nat)

theorem State.setCnv_settled (v : Conv) : ((s.setCnv m v).cnv m).settled = v.settled := by rw [State.cnv_setCnv]

/-- A change of other fields of a slice leaves what is settled. -/
theorem State.updCnv_settled {f : Conv → Conv} {x : Option Nat × Nat × SrcState} (h : (s.cnv m).settled = x)
    (hf : ∀ c, (f c).settled = c.settled := by exact fun _ => rfl) : ((s.updCnv m f).cnv m).settled = x := by
  rw [State.cnv_updCnv, hf, h]

/-! ## What the steps after the publication leave settled -/

theorem State.cnvUnlock_settled : ((s.cnvUnlock m).cnv m).settled = (s.cnv m).settled := by
  unfold State.cnvUnlock
  extract_lets +onlyGivenNames c t
  have ht : (t.cnv m).settled = c.settled := s.setCnv_settled m _
  split
  · exact ht
  · rw [State.cnvRaise_cnv]
    exact ht

theorem State.cnvDrop_settled : ((s.cnvDrop m).cnv m).settled = (s.cnv m).settled := by
  unfold State.cnvDrop
  rw [State.cnvUnlock_settled]
  exact State.updCnv_settled _ m rfl

/-- A new mode takes effect (R232). -/
theorem State.cnvMode_settled (pj : Nat) : ((s.cnvMode m pj).cnv m).settled = (s.cnv m).settled := by
  unfold State.cnvMode
  extract_lets +onlyGivenNames c
  split
  · rfl
  · split
    · rfl
    · extract_lets +onlyGivenNames crosses keeps t t'
      rw [State.leaveRet_cnv]
      refine t.updCnv_settled m ?_
      unfold t
      split
      · rfl
      · exact s.cnvUnlock_settled m

theorem State.cnvShed_settled : ((s.cnvShed m).cnv m).settled = (s.cnv m).settled := by
  unfold State.cnvShed
  extract_lets +onlyGivenNames c on t
  have ht : (t.cnv m).settled = c.settled := s.updCnv_settled m rfl
  split
  · rfl
  · split
    · rw [State.cnvRaise_cnv]
      exact ht
    · exact ht

/-- A change of the input's format (R231). -/
theorem State.cnvFormat_settled : ((s.cnvFormat m).cnv m).settled = (s.cnv m).settled := by
  unfold State.cnvFormat
  extract_lets +onlyGivenNames c im _ fm bad changed t
  split
  · rfl
  · have ht : (t.cnv m).settled = c.settled := by
      refine State.updCnv_settled _ m ?_
      split
      · exact s.cnvDrop_settled m
      · rfl
    split
    · rw [State.cnvRaise_cnv]
      exact ht
    · exact ht

theorem State.cnvTake_settled (f : Frame) (time : Int) (reps : List Bool) : ((s.cnvTake m f time reps).cnv m).settled = (s.cnv m).settled :=
  congrArg Prod.snd (s.cnvTake_fixed m f time reps)

/-- New frames are taken (R99, R214). -/
theorem State.cnvTakeAll_settled (pj : Nat) (reps : List Bool) : ((s.cnvTakeAll m pj reps).cnv m).settled = (s.cnv m).settled := by
  unfold State.cnvTakeAll
  extract_lets +onlyGivenNames c t new
  have ht : (t.cnv m).settled = (s.cnv m).settled := rfl
  split
  · split
    · split
      · refine State.updCnv_settled _ m ?_
        rw [State.cnvTake_settled, State.takeFrame_cnv]
        exact ht
      · exact ht
    · refine Within.fold (Q := fun x : State => (x.cnv m).settled = (s.cnv m).settled) ht fun x p hx => ?_
      refine State.updCnv_settled _ m ?_
      rw [State.cnvTake_settled, State.unpin_cnv, State.takeFrame_cnv]
      exact hx
  · exact ht

/-- The next frame is built, or will be withheld. -/
theorem State.cnvBuild_settled (pj : Nat) (matched : List Nat) : ((s.cnvBuild m pj matched).cnv m).settled = (s.cnv m).settled := by
  unfold State.cnvBuild
  extract_lets +onlyGivenNames c out withhold
  have hwithhold (t : State) (why : Nat) : ((withhold t why).cnv m).settled = (t.cnv m).settled := t.updCnv_settled m rfl
  split
  · refine State.updCnv_settled _ m ?_
    rw [hwithhold, State.cnvDrop_settled]
  · split
    · exact hwithhold s 1
    · extract_lets +onlyGivenNames tau conf two b1 b2
      clear_value b1 b2
      split
      · split
        · exact hwithhold s 1
        · extract_lets +onlyGivenNames fell kind cf _ f at_ bd t
          refine t.updCnv_settled m ?_
          unfold t
          split
          · rw [State.cnvRaise_cnv]
          · rfl
      · exact hwithhold s 1

/-! ## The publication (R219, R228) -/

theorem State.cross_cnv (x : QueueId) (k : Nat) : (s.cross x).cnv k = s.cnv k := (s.cross_within x).cnv (by decide) k

theorem State.cnvPublish_built (h : (s.cnv m).build ≠ none) :
    ((s.cnvPublish m).cnv m).settled = ((s.cnv m).builtFor, (s.cnv m).nextId + 1, .locked) := by
  unfold State.cnvPublish
  extract_lets +onlyGivenNames c t
  have ht : t.cnv m = c := s.cross_cnv _ m
  split
  next hnone => exact absurd hnone h
  next b _ =>
    extract_lets +onlyGivenNames t1 t2 t3 sk t4 arr tauNs _ f t5
    have h4 : t4.cnv m = c := by
      unfold t4 t3 t2 t1
      split <;> split <;> simp only [State.cnvCount_cnv, ht]
    have h5 : (t5.cnv m).settled = (c.builtFor, c.nextId + 1, .locked) := by
      unfold t5
      rw [State.cnv_updCnv, h4]
      rfl
    split
    · exact h5
    · rw [State.cnvRaise_cnv]
      exact h5

theorem State.cnvPublish_withheld (h : (s.cnv m).build = none) :
    ((s.cnvPublish m).cnv m).settled =
      ((s.cnv m).builtFor, (s.cnv m).nextId, if (s.cnv m).srcState = .locked then .lost else (s.cnv m).srcState) := by
  unfold State.cnvPublish
  extract_lets +onlyGivenNames c t
  have ht : t.cnv m = c := s.cross_cnv _ m
  split
  next _ =>
    extract_lets +onlyGivenNames t1 t2
    have h2 : (t2.cnv m).settled = (c.builtFor, c.nextId, if c.srcState = .locked then .lost else c.srcState) := by
      unfold t2 t1
      rw [State.cnv_updCnv, State.cnvCount_cnv, ht]
      rfl
    refine (congrArg Conv.settled (?_ : _ = t2.cnv m)).trans h2
    split
    · exact t2.cnvRaise_cnv _ _ _ _ m
    · rfl
  next b hb => exact absurd (h.symm.trans hb) (Option.some_ne_none b).symm

end

/-! ## BUILD_START -/

/-- What a build start does after the publication. -/
def State.buildNext (s : State) (m pj : Nat) (sight : BuildSight) : State :=
  ((((s.cnvMode m pj).cnvShed m).cnvFormat m).cnvTakeAll m pj sight.repeats).cnvBuild m pj sight.matched

theorem State.buildNext_settled (s : State) (m pj : Nat) (sight : BuildSight) : ((s.buildNext m pj sight).cnv m).settled = (s.cnv m).settled := by
  rw [State.buildNext, State.cnvBuild_settled, State.cnvTakeAll_settled, State.cnvFormat_settled, State.cnvShed_settled, State.cnvMode_settled]

section
variable {m : Fin 128} {s : State} (hstate : (s.cnv m).state = .single ∨ (s.cnv m).state = .groupLead)
  (hrun : (s.polder (s.cnv m).polder).running = true) (hnew : (s.cnv m).builtFor ≠ some (s.polder (s.cnv m).polder).count)

/-- The build start of this raster period has run. -/
def State.buildBegun (s : State) (m : Nat) : State := s.updCnv m fun c => { c with builtFor := some (s.polder (s.cnv m).polder).count }

theorem State.buildBegun_cnv (s : State) (m : Nat) :
    (s.buildBegun m).cnv m = { s.cnv m with builtFor := some (s.polder (s.cnv m).polder).count } := s.cnv_updCnv m _

include hstate hrun hnew

theorem exec_buildStart (sight : BuildSight) : exec (.buildStart m sight) s =
    .next (((s.buildBegun m).cnvPublish m).buildNext m (s.polder (s.cnv m).polder).lastStart sight) := by
  show execBuildStart m sight s = _
  exact congrArg Host.Outcome.next (if_pos ⟨hstate, hrun, hnew⟩)

theorem buildStart_result (sight : BuildSight) : ∃ t, exec (.buildStart m sight) s = .next t ∧
    (t.cnv m).builtFor = some (s.polder (s.cnv m).polder).count ∧
    ((s.cnv m).build ≠ none → (t.cnv m).nextId = (s.cnv m).nextId + 1 ∧ (t.cnv m).srcState = .locked) ∧
    ((s.cnv m).build = none → (t.cnv m).nextId = (s.cnv m).nextId ∧
      (t.cnv m).srcState = if (s.cnv m).srcState = .locked then .lost else (s.cnv m).srcState) := by
  refine ⟨_, exec_buildStart hstate hrun hnew sight, ?_⟩
  have hsettled := ((s.buildBegun m).cnvPublish m).buildNext_settled m (s.polder (s.cnv m).polder).lastStart sight
  have hbegun := s.buildBegun_cnv m
  by_cases hbuild : (s.cnv m).build = none
  · rw [State.cnvPublish_withheld _ _ (by rw [hbegun]; exact hbuild), hbegun] at hsettled
    obtain ⟨hfor, hid, hsrc⟩ := Conv.settled_eq.1 hsettled
    exact ⟨hfor, fun h => absurd hbuild h, fun _ => ⟨hid, hsrc⟩⟩
  · rw [State.cnvPublish_built _ _ (by rw [hbegun]; exact hbuild), hbegun] at hsettled
    obtain ⟨hfor, hid, hsrc⟩ := Conv.settled_eq.1 hsettled
    exact ⟨hfor, fun _ => ⟨hid, hsrc⟩, fun h => absurd h hbuild⟩

end

end Sys2Proof.Machine
end

section
/-!
SUPPORT. Push channels: PUSH_SET, PUSH_DISABLE, PUSH_REFRESH, PUSH_READ_END and PUSH_HEAD_WRITE (R272 to R277, R282).
-/
namespace Sys2Proof.Machine

/-! ## The ledger and the records of a channel (R276, R277) -/

theorem State.pushCount_led_self (s : State) (c k n : Nat) : (s.pushCount c k n).led 5 c k = s.led 5 c k + n := s.led_ledAdd_self 5 c k n

theorem State.pushCount_led_ne (s : State) (c : Nat) {k k' : Nat} (n : Nat) (h : k' ≠ k) (hk : k < 1024) (hk' : k' < 1024) :
    (s.pushCount c k n).led 5 c k' = s.led 5 c k' := by
  refine s.led_ledAdd_ne n fun he => ?_
  obtain ⟨-, -, hkk⟩ := ledKey_inj (by decide) (by decide) hk' hk he
  exact h hkk

theorem State.pushCount_push (s : State) (c k n c' : Nat) : (s.pushCount c k n).push c' = s.push c' := rfl

theorem State.interrupt_push (s : State) (v c : Nat) : (s.interrupt v).push c = s.push c := (s.interrupt_within v).push (by decide) c

theorem State.interrupt_led (s : State) (v kind i c : Nat) : (s.interrupt v).led kind i c = s.led kind i c :=
  (s.interrupt_within v).led (by decide) kind i c

theorem State.updPush_led (s : State) (c : Nat) (f : Push → Push) (kind i k : Nat) : (s.updPush c f).led kind i k = s.led kind i k := rfl

/-- A record moves the tail of its channel alone. -/
theorem State.pushWrite_push (s : State) (c : Nat) (bs : List Byte) (frame : Nat) :
    (s.pushWrite c bs frame).push c = { s.push c with tail := ((s.pushWrite c bs frame).push c).tail } := by
  unfold State.pushWrite
  extract_lets +onlyGivenNames p size off pad base t t'
  rw [State.pushCount_push, State.push_setPush]

/-- A record counts its bytes alone. -/
theorem State.pushWrite_led (s : State) (c : Nat) (bs : List Byte) (frame : Nat) {k : Nat} (h : k < 7) :
    (s.pushWrite c bs frame).led 5 c k = s.led 5 c k := by
  unfold State.pushWrite
  extract_lets +onlyGivenNames p size off pad base t t'
  have ht : t.led 5 c k = s.led 5 c k := by
    unfold t
    split
    · rfl
    · exact (s.hostWrite_within _ _).led (by decide) 5 c k
  have ht' : t'.led 5 c k = s.led 5 c k := ((t.hostWrite_within _ _).led (by decide) 5 c k).trans ht
  rw [State.pushCount_led_ne _ _ _ (by omega) (by decide) (by omega)]
  exact ht'

/-! ## The end of a push that aborts (R276, R277) -/

/-- The record of an abort is written; the push is over and is counted. -/
def State.pushOver (s : State) (c reason : Nat) (r : PushRun) : State :=
  ((s.pushWrite c (pushHeader 4 c 64 r.frame r.tiles reason 0 ++ List.replicate 32 0) r.frame).updPush c fun p => { p with run := none }).pushCount c 3 1

section
variable {s : State} {c : Nat} {r : PushRun} (hrun : (s.push c).run = some r) (reason : Nat)
include hrun

theorem State.pushAbort_eq : s.pushAbort c reason = ((s.pushOver c reason r).pushRaise c 1 0x0901 reason r.frame).interrupt
    ((s.pushOver c reason r).push c).runCfg.vector := by
  simp only [State.pushAbort, hrun]
  rfl

/-- A push that aborts is over, is counted and raises its cause. -/
theorem State.pushAbort_result : ((s.pushAbort c reason).push c).run = none ∧ (s.pushAbort c reason).led 5 c 3 = s.led 5 c 3 + 1 ∧
    (s.pushAbort c reason).flag (Adr.puCause c) 1 = true := by
  have hraise := (s.pushOver c reason r).pushRaise_within c 1 0x0901 reason r.frame
  rw [State.pushAbort_eq hrun]
  refine ⟨?_, ?_, ?_⟩
  · rw [State.interrupt_push, hraise.push (by decide), State.pushOver, State.pushCount_push, State.push_updPush]
  · rw [State.interrupt_led, hraise.led (by decide), State.pushOver, State.pushCount_led_self, State.updPush_led,
      State.pushWrite_led _ _ _ _ (by decide)]
  · rw [State.flag_congr ((State.interrupt_within _ _).same .regs (by decide))]
    exact State.flag_raise_self _ _ _ (by decide) _ _ _

end

/-! ## PUSH_READ_END (R275, R276) -/

/-- A tile of a push: its record is written and its hash is kept. -/
def State.pushTile (s : State) (c : Nat) (g : PushCfg) (r : PushRun) (t : Nat × BitVec 64 × List Byte) : State :=
  (s.pushWrite c (pushHeader 2 c (g.recLen (g.tile t.1).1 (g.tile t.1).2) r.frame (t.1 % max 1 g.grid.1 + 65536 * (t.1 / max 1 g.grid.1))
      ((g.tile t.1).1 + 65536 * (g.tile t.1).2) t.2.1.toNat ++ dmaFit t.2.2 (g.recLen (g.tile t.1).1 (g.tile t.1).2 - 32)) r.frame).updPush c
    fun p => { p with hashes := Tab.set (fun _ => none) p.hashes t.1 (some t.2.1) }

/-- The tiles that a push sends: all of a refresh, else those whose hash has changed. -/
def Push.sends (p : Push) (r : PushRun) (tiles : List (BitVec 64 × List Byte)) : List (Nat × BitVec 64 × List Byte) :=
  ((List.range p.runCfg.tiles).map fun i => (i, tiles.getD i (0, []))).filter fun t =>
    r.refresh || decide (Tab.get (fun _ => none) p.hashes t.1 ≠ some t.2.1)

/-- The records of a push: its tiles, then the end of the frame. -/
def State.pushRecords (s : State) (c : Nat) (r : PushRun) (send : List (Nat × BitVec 64 × List Byte)) : State :=
  let g := (s.push c).runCfg
  (send.foldl (fun s t => s.pushTile c g r t) s).pushWrite c (pushHeader 3 c 64 r.frame send.length g.tiles 0 ++ List.replicate 32 0) r.frame

/-- A push is over: the frame is counted among those since the last refresh. -/
def Push.done (p : Push) (r : PushRun) : Push := { p with run := none, pushed := if r.refresh then 1 else p.pushed + 1 }

theorem State.pushTile_keeps (s : State) (c : Nat) (g : PushCfg) (r : PushRun) (t : Nat × BitVec 64 × List Byte) :
    ((s.pushTile c g r t).push c).pushed = (s.push c).pushed ∧ ∀ k < 7, (s.pushTile c g r t).led 5 c k = s.led 5 c k := by
  refine ⟨?_, fun k hk => ?_⟩
  · rw [State.pushTile, State.push_updPush, State.pushWrite_push]
  · rw [State.pushTile, State.updPush_led, State.pushWrite_led _ _ _ _ hk]

/-- The records leave the count of frames, and the ledger but for the bytes. -/
theorem State.pushRecords_keeps (s : State) (c : Nat) (r : PushRun) (send : List (Nat × BitVec 64 × List Byte)) :
    ((s.pushRecords c r send).push c).pushed = (s.push c).pushed ∧ ∀ k < 7, (s.pushRecords c r send).led 5 c k = s.led 5 c k := by
  have htiles : ((send.foldl (fun t x => t.pushTile c (s.push c).runCfg r x) s).push c).pushed = (s.push c).pushed ∧
      ∀ k < 7, (send.foldl (fun t x => t.pushTile c (s.push c).runCfg r x) s).led 5 c k = s.led 5 c k := by
    refine Within.fold (Q := fun t : State => (t.push c).pushed = (s.push c).pushed ∧ ∀ k < 7, t.led 5 c k = s.led 5 c k)
      ⟨rfl, fun _ _ => rfl⟩ fun t x ⟨hpushed, hled⟩ => ?_
    obtain ⟨hpushed', hled'⟩ := t.pushTile_keeps c (s.push c).runCfg r x
    exact ⟨hpushed'.trans hpushed, fun k hk => (hled' k hk).trans (hled k hk)⟩
  obtain ⟨hpushed, hled⟩ := htiles
  refine ⟨?_, fun k hk => ?_⟩
  · rw [State.pushRecords, State.pushWrite_push]
    exact hpushed
  · rw [State.pushRecords, State.pushWrite_led _ _ _ _ hk]
    exact hled k hk

section
variable {s : State} {c : Fin 8} {r : PushRun} (hrun : (s.push c).run = some r) (tiles : List (BitVec 64 × List Byte))
include hrun

theorem exec_pushReadEnd_failed : exec (.pushReadEnd c tiles false) s = .next (s.pushAbort c 1) := by
  show execPushReadEnd c tiles false s = _
  simp only [execPushReadEnd, hrun, Bool.not_false, if_true]

theorem exec_pushReadEnd_sent : exec (.pushReadEnd c tiles true) s =
    .next (((((s.pushRecords c r ((s.push c).sends r tiles)).updPush c fun p => p.done r).pushCount c 1 1).pushCount c 6
      ((s.push c).sends r tiles).length).interrupt (s.push c).runCfg.vector) := by
  show execPushReadEnd c tiles true s = _
  simp only [execPushReadEnd, hrun, Bool.not_true, Bool.false_eq_true, if_false]
  rfl

theorem pushReadEnd_result (ok : Bool) : ∃ t, exec (.pushReadEnd c tiles ok) s = .next t ∧ (t.push c).run = none ∧
    (ok = true → t.led 5 c 1 = s.led 5 c 1 + 1 ∧ (t.push c).pushed = if r.refresh then 1 else (s.push c).pushed + 1) ∧
    (ok = false → t.led 5 c 3 = s.led 5 c 3 + 1 ∧ t.flag (Adr.puCause c) 1 = true) := by
  cases ok with
  | false =>
    obtain ⟨hover, hled, hcause⟩ := State.pushAbort_result hrun 1
    exact ⟨_, exec_pushReadEnd_failed hrun tiles, hover, nofun, fun _ => ⟨hled, hcause⟩⟩
  | true =>
    obtain ⟨hpushed, hled⟩ := s.pushRecords_keeps c r ((s.push c).sends r tiles)
    refine ⟨_, exec_pushReadEnd_sent hrun tiles, ?_, fun _ => ⟨?_, ?_⟩, nofun⟩
    · rw [State.interrupt_push, State.pushCount_push, State.pushCount_push, State.push_updPush]
      rfl
    · rw [State.interrupt_led, State.pushCount_led_ne _ _ _ (by decide) (by decide) (by decide), State.pushCount_led_self, State.updPush_led,
        hled 1 (by decide)]
    · rw [State.interrupt_push, State.pushCount_push, State.pushCount_push, State.push_updPush, Push.done, hpushed]

end

/-! ## PUSH_HEAD_WRITE (R282) -/

theorem pushHeadWrite_result (c : Fin 8) (v : BitVec 32) (s : State) : ∃ t, exec (.pushHeadWrite c v) s = .next t ∧
    t.push c = { s.push c with headIdx := v } ∧ s.Only t [.pushes] ∧ ∀ k, k ≠ c.val → t.push k = s.push k :=
  ⟨s.updPush c fun p => { p with headIdx := v }, rfl, s.push_updPush c _, (s.updPush_within c _).only [.pushes] (by decide),
    fun _ hk => s.push_updPush_ne _ hk⟩

/-! ## PUSH_SET (R272 to R274) -/

/-- A channel once it is set: one that was off starts afresh. -/
def Push.setBy (p : Push) (j : Job) (fetch : Nat) : Push :=
  if p.enabled then { p with cfg := pushCfgOf j.d, owner := j.owner, fetch := fetch, power := 6, full := true }
  else { Push.reset with enabled := true, cfg := pushCfgOf j.d, runCfg := pushCfgOf j.d, owner := j.owner, fetch := fetch, power := 6, full := true }

theorem Push.setBy_fields (p : Push) (j : Job) (fetch : Nat) : (p.setBy j fetch).enabled = true ∧ (p.setBy j fetch).cfg = pushCfgOf j.d ∧
    (p.setBy j fetch).owner = j.owner ∧ (p.setBy j fetch).full = true := by
  unfold Push.setBy
  split
  next hon => exact ⟨hon, rfl, rfl, rfl⟩
  next => exact ⟨rfl, rfl, rfl, rfl⟩

section
variable {n : Fin 64} {s u : State} {j : Job} (h : s.Starts n 0x90 j u) (hact : u8 j.d 9 = 0) (hbad : u.pushSetBad j.d = false)
  (hown : (s.push (u8 j.d 8)).enabled = true → j.mayUse (s.push (u8 j.d 8)).owner = true)
  (hfits : u.leaveFits (6 - (s.push (u8 j.d 8)).power) (u.pushFetch (pushCfgOf j.d) - (s.push (u8 j.d 8)).fetch) = true)

/-- The tokens that a channel lacks are taken and those that it no longer needs are back. -/
def State.pushLeave (s : State) (p : Push) (fetch : Nat) : State := (s.leaveTake (6 - p.power) (fetch - p.fetch)).leaveRet 0 (p.fetch - fetch)

include h hact hbad hown hfits

theorem exec_pushSet : exec (.pushSet n) s =
    .next (((u.pushLeave (s.push (u8 j.d 8)) (u.pushFetch (pushCfgOf j.d))).setPush (u8 j.d 8)
      ((s.push (u8 j.d 8)).setBy j (u.pushFetch (pushCfgOf j.d)))).complete j csOk (BitVec.ofNat 64 (u.pushFetch (pushCfgOf j.d) + 65536 * 6))) := by
  have howner : ((s.push (u8 j.d 8)).enabled && !j.mayUse (s.push (u8 j.d 8)).owner) = false := by
    rw [Bool.and_eq_false_imp, Bool.not_eq_false']
    exact hown
  have hpush (p f p' f' : Nat) : ((u.leaveTake p f).leaveRet p' f').push (u8 j.d 8) = s.push (u8 j.d 8) :=
    ((State.leaveRet_within _ p' f').push (by decide) _).trans (h.push _)
  show execPushSet n s = _
  rw [execPushSet, h.runOp (by simp [hact])]
  simp only [firstFail, hact, hbad, h.push, howner, leaveAsk_granted hfits, hpush, bne_self_eq_false, Bool.or_self, Bool.not_true, Bool.false_eq_true,
    if_false]
  rfl

theorem pushSet_result (g : s.Good) : ∃ t, exec (.pushSet n) s = .next t ∧
    t.Answered j csOk (BitVec.ofNat 64 (u.pushFetch (pushCfgOf j.d) + 65536 * 6)) ∧ (t.push (u8 j.d 8)).enabled = true ∧
    (t.push (u8 j.d 8)).cfg = pushCfgOf j.d ∧ (t.push (u8 j.d 8)).owner = j.owner ∧ (t.push (u8 j.d 8)).full = true := by
  have w : Within (maskOf [.regs, .ledger, .events, .leave, .pushes]) u ((u.pushLeave (s.push (u8 j.d 8)) (u.pushFetch (pushCfgOf j.d))).setPush (u8 j.d 8)
      ((s.push (u8 j.d 8)).setBy j (u.pushFetch (pushCfgOf j.d)))) :=
    (State.setPush_within _ _ _).via (by decide) ((State.leaveRet_within _ _ _).via (by decide)
      ((u.leaveTake_within _ _ (State.leaveFits_le hfits)).mono (by decide)))
  refine ⟨_, exec_pushSet h hact hbad hown hfits, h.answered g w (by decide) (by decide) _ _, ?_⟩
  rw [State.complete_push, State.push_setPush]
  exact Push.setBy_fields _ j _

end

/-! ## PUSH_DISABLE and PUSH_REFRESH (R273, R274) -/

theorem State.pushOff_push (s : State) (c : Nat) : (s.pushOff c).push c = Push.reset :=
  ((State.leaveRet_within _ _ _).push (by decide) c).trans (s.push_setPush c _)

section
variable {n : Fin 64} {s u : State} {j : Job} (h : s.Starts n 0x90 j u) (hmax : u8 j.d 8 ≤ 7) (hunused : zeros j.d 10 35 = true)
  (hon : (s.push (u8 j.d 8)).enabled = true) (hown : j.mayUse (s.push (u8 j.d 8)).owner = true)
include h hmax hunused hon hown

theorem State.Starts.pushCheck : u.pushCheck j = none := by
  simp only [State.pushCheck, firstFail, h.push, Nat.not_lt.2 hmax, hunused, hon, hown, decide_false, Bool.not_true, Bool.or_self, Bool.false_eq_true,
    if_false]

theorem pushDisable_result (hact : u8 j.d 9 = 1) (g : s.Good) : ∃ t, exec (.pushDisable n) s = .next t ∧ t.Answered j csOk 0 ∧
    t.push (u8 j.d 8) = Push.reset := by
  have hexec : exec (.pushDisable n) s = .next (((u.pushAbort (u8 j.d 8) 3).pushOff (u8 j.d 8)).complete j csOk 0) := by
    show execPushDisable n s = _
    rw [execPushDisable, h.runOp (by simp [hact])]
    simp only [h.pushCheck hmax hunused hon hown]
  have w : Within (maskOf [.regs, .ledger, .events, .hostMem, .irq, .leave, .pushes]) u ((u.pushAbort (u8 j.d 8) 3).pushOff (u8 j.d 8)) :=
    (State.pushOff_within _ _).via (by decide) ((u.pushAbort_within _ 3).mono (by decide))
  refine ⟨_, hexec, h.answered g w (by decide) (by decide) _ _, ?_⟩
  rw [State.complete_push, State.pushOff_push]

theorem pushRefresh_result (hact : u8 j.d 9 = 2) (g : s.Good) : ∃ t, exec (.pushRefresh n) s = .next t ∧ t.Answered j csOk 0 ∧
    t.push (u8 j.d 8) = { s.push (u8 j.d 8) with full := true, owner := j.owner } := by
  have hexec : exec (.pushRefresh n) s = .next ((u.updPush (u8 j.d 8) fun p => { p with full := true, owner := j.owner }).complete j csOk 0) := by
    show execPushRefresh n s = _
    rw [execPushRefresh, h.runOp (by simp [hact])]
    simp only [h.pushCheck hmax hunused hon hown]
  refine ⟨_, hexec, h.answered g (u.updPush_within _ _) (by decide) (by decide) _ _, ?_⟩
  rw [State.complete_push, State.push_updPush, h.push]

end

/-! ## The obligation -/

/-- Settles O33, command by command. -/
theorem convertersPushes : Obligations.ConvertersPushes := fun _ _ c sight tiles ok v s g =>
  ⟨fun _ _ _ h hact hbad hready hhead hpick hown _ _ htok hfits => convClaim_result h hact hbad hready hhead hpick hown htok hfits g,
    fun _ _ _ h hact hk hmax hflags hunused hfree hmember hown hnamed =>
      convRelease_result h hact hk hmax hflags hunused hfree hmember hown hnamed g,
    fun _ _ _ h hact hk hmax hflags hunused hscan hmin hmode hmotion hrate hfree hmember hown hpend _ _ htok hfits =>
      convMode_result h hact hk hmax hflags hunused hscan hmin hmode hmotion hrate hfree hmember hown hpend htok hfits g,
    fun hstate hrun hnew => buildStart_result hstate hrun hnew sight,
    fun _ _ h hact hbad hown hfits => pushSet_result h hact hbad hown hfits g,
    fun _ _ h hact hmax hunused hon hown => pushDisable_result h hmax hunused hon hown hact g,
    fun _ _ h hact hmax hunused hon hown => pushRefresh_result h hmax hunused hon hown hact g,
    fun _ hrun => pushReadEnd_result hrun tiles ok, pushHeadWrite_result c v s⟩

end Sys2Proof.Machine
end

section
/-!
SUPPORT. Dikes, pin sense and seals as views of the state: what a start, a completion and an entry of the as-run log leave of them
(R290, R297, R301 to R303).
-/
namespace Sys2Proof.Machine

/-! ## Parts put together -/

theorem State.chain_congr {s t : State} (e : t.psn.chains = s.psn.chains) (h : Nat) : t.chain h = s.chain h := by simp only [State.chain, e]

theorem State.psnDest_congr {s t : State} (e : t.psn.dests = s.psn.dests) (d : Nat) : t.psnDest d = s.psnDest d := by simp only [State.psnDest, e]

theorem Within.psn {m : Nat} {s t : State} (w : Within m s t) (h : m.testBit 31 = false) (h' : m.testBit 32 = false) (h'' : m.testBit 33 = false) :
    t.psn = s.psn := by
  have e := w.same .dikes h
  have e' := w.same .pinSense h'
  have e'' := w.same .seals h''
  simp only [Part.same, Prod.mk.injEq] at e e' e''
  cases hs : s.psn
  cases ht : t.psn
  simp_all only

theorem Within.psnDest {m : Nat} {s t : State} (w : Within m s t) (h : m.testBit 32 = false) (d : Nat) : t.psnDest d = s.psnDest d :=
  State.psnDest_congr (w.same .pinSense h) d

theorem Within.evSrc {m : Nat} {s t : State} (w : Within m s t) (h : m.testBit 6 = false) (n : Nat) : t.evSrc n = s.evSrc n := by
  obtain ⟨-, -, e⟩ := State.events_congr (w.same .events h) n
  exact e

theorem State.complete_psn (s : State) (j : Job) (status : Nat) (result : BitVec 64) : (s.complete j status result).psn = s.psn :=
  (s.complete_within j status result).psn (by decide) (by decide) (by decide)

/-! ## What a start leaves alone -/

section
variable {s u : State} {n opc : Nat} {j : Job} (h : s.Starts n opc j u)
include h

theorem State.Starts.psn : u.psn = s.psn := h.within.psn (by decide) (by decide) (by decide)
theorem State.Starts.coc : u.coc = s.coc := h.within.same .cocoon (by decide)
theorem State.Starts.nv : u.nv = s.nv := h.within.same .nv (by decide)
theorem State.Starts.hbm : u.hbm = s.hbm := h.within.same .hbm (by decide)
theorem State.Starts.chain (k : Nat) : u.chain k = s.chain k := State.chain_congr (congrArg Psn.chains h.psn) k
theorem State.Starts.ownerHash (slot : Nat) : u.ownerHash slot = s.ownerHash slot := by simp only [State.ownerHash, State.key, h.coc]
theorem State.Starts.tieFor (hash : List Byte) : u.tieFor hash = s.tieFor hash := by simp only [State.tieFor, h.psn]
theorem State.Starts.keyless : u.keyless = s.keyless := by simp only [State.keyless, h.coc]

theorem State.Starts.surfRows (f : Surf) : u.surfRows f = s.surfRows f := by
  simp only [State.surfRows, State.hbmBytes, State.hbmByte, State.hbmKnown, h.hbm, h.srf]

/-- A job whose work goes on, and has changed neither rings nor engine, waits. -/
theorem State.Starts.waits {v : State} {m : Nat} (g : s.Good) (w : Within m u v) (h4 : m.testBit 4 = false) (h10 : m.testBit 10 = false) : v.Waits j :=
  ((h.opens g).within w h4 h10).1

end

/-! ## The as-run log (R303) -/

/-- The seals and dikes with another log. -/
def Psn.withLog (p : Psn) (g : Log) : Psn := { p with log := g }

/-- An entry moves the tail and the sequence of the log alone. -/
theorem State.logPut_psn (s : State) (type h len : Nat) (payload : List Byte) : ∃ tail seq,
    (s.logPut type h len payload).psn = s.psn.withLog { s.psn.log with tail := tail, seq := seq } := by
  unfold State.logPut
  extract_lets +onlyGivenNames g pad size t g'
  have ht : ∃ tail seq, t.psn = s.psn.withLog { g with tail := tail, seq := seq } := by
    unfold t
    split
    · exact ⟨g.tail, g.seq, rfl⟩
    · exact ⟨_, _, rfl⟩
  obtain ⟨tail, seq, ht⟩ := ht
  have hg : g' = { g with tail := tail, seq := seq } := congrArg Psn.log ht
  refine ⟨g'.tail + BitVec.ofNat 32 len, g'.seq + 1, ?_⟩
  rw [State.updPsn_psn, show State.psn (t.hostWrite _ _) = _ from ht, hg]
  rfl

/-- An entry changes nothing of the seals but the log. -/
theorem State.logWrite_psn (s : State) (type h len : Nat) (payload : List Byte) (frame index : Nat) : ∃ log,
    (s.logWrite type h len payload frame index).psn = s.psn.withLog log := by
  unfold State.logWrite
  extract_lets +onlyGivenNames g t t'
  split
  · exact ⟨s.psn.log, rfl⟩
  split
  · have ht : t.psn = s.psn.withLog { g with lost := g.lost + 1 } := rfl
    split
    · exact ⟨_, ((t.occur_within _ _ _).psn (by decide) (by decide) (by decide)).trans ht⟩
    · exact ⟨_, ht⟩
  · obtain ⟨tail, seq, ht⟩ := s.logPut_psn type h len payload
    split
    · exact ⟨_, ((t'.interrupt_within _).psn (by decide) (by decide) (by decide)).trans ht⟩
    · exact ⟨_, ht⟩

/-- An entry takes no occurrence of the seals' source back. -/
theorem State.logWrite_occurred_le (s : State) (type h len : Nat) (payload : List Byte) (frame index : Nat) :
    (s.evSrc 308).occurred ≤ ((s.logWrite type h len payload frame index).evSrc 308).occurred := by
  unfold State.logWrite
  extract_lets +onlyGivenNames g t t'
  split
  · exact Nat.le_refl _
  split
  · split
    · exact Nat.le.intro (t.occur_occurred 308 _ _).symm
    · exact Nat.le_refl _
  · have ht : t'.evSrc 308 = s.evSrc 308 := (s.logPut_within _ _ _ _).evSrc (by decide) 308
    split
    · rw [(t'.interrupt_within _).evSrc (by decide), ht]
    · rw [ht]

end Sys2Proof.Machine
end

section
/-!
SUPPORT. The as-run log and the seals: SEAL_LOG_SET, SEAL_LOG_OFF, SEAL_READ, SEAL_NOW, SEAL_DUE, SEAL_SIGNED and LOG_HEAD_WRITE
(R302 to R305).
-/
namespace Sys2Proof.Machine

/-! ## SEAL_LOG_SET and SEAL_LOG_OFF (R303, R305) -/

/-- The log as a descriptor opens it. -/
def Job.newLog (j : Job) : Log :=
  { Log.reset with isOpen := true, owner := j.owner, addr := BitVec.ofNat 64 (u64 j.d 16), ringLog2 := u8 j.d 9, vector := u8 j.d 12 }

section
variable {n : Fin 64} {s u : State} {j : Job} (h : s.Starts n 0xA1 j u)
  (hmine : s.psn.log.isOpen = true → s.psn.log.owner = j.owner)
include h hmine

/-- No other owner has the log open. -/
theorem State.Starts.logMine : (u.psn.log.isOpen && u.psn.log.owner != j.owner) = false := by
  rw [h.psn, Bool.and_eq_false_imp, bne_eq_false_iff_eq]
  exact hmine

section
variable (hact : u8 j.d 8 = 0) (hmin : 20 ≤ u8 j.d 9) (hmax : u8 j.d 9 ≤ 30) (hvec : u8 j.d 12 ≤ 63) (haddr : u64 j.d 16 % 4096 = 0)
include hact hmin hmax hvec haddr

theorem exec_sealLogSet : exec (.sealLogSet n) s =
    .next (((u.updPsn fun p => { p with log := j.newLog }).wr Adr.logHead 0).complete j csOk 0) := by
  show execSealLogSet n s = _
  rw [execSealLogSet, h.runOp (by simp [hact])]
  simp only [firstFail, hact, hmin, hmax, Nat.not_lt.2 hvec, haddr, h.logMine hmine, ne_eq, not_true_eq_false, and_self, decide_true, decide_false,
    Bool.not_true, Bool.or_self, Bool.false_eq_true, if_false]
  rfl

theorem sealLogSet_result (g : s.Good) : ∃ t, exec (.sealLogSet n) s = .next t ∧ t.Answered j csOk 0 ∧ t.rd Adr.logHead = 0 ∧
    t.psn.log = j.newLog := by
  have w : Within (maskOf [.regs, .seals]) u ((u.updPsn fun p => { p with log := j.newLog }).wr Adr.logHead 0) :=
    (State.wr_within _ _ _).via (by decide) (State.updPsn_via (maskOf [.seals]) (fun _ _ => rfl) (fun _ _ => rfl) (fun hs => absurd hs (by decide))
      (by decide) (Within.refl _ _))
  refine ⟨_, exec_sealLogSet h hmine hact hmin hmax hvec haddr, h.answered g w (by decide) (by decide) csOk 0, ?_, ?_⟩
  · rw [State.rd_congr ((State.complete_within _ _ _ _).same .regs (by decide)), State.rd_wr_self _ _ (by decide)]
  · rw [State.complete_psn]
    rfl

end

theorem sealLogOff_result (hact : u8 j.d 8 = 1) (g : s.Good) : ∃ t, exec (.sealLogOff n) s = .next t ∧ t.Answered j csOk 0 ∧
    t.psn.log = { s.psn.log with isOpen := false, lost := 0 } := by
  have hexec : exec (.sealLogOff n) s = .next ((u.updPsn fun p => { p with log := { p.log with isOpen := false, lost := 0 } }).complete j csOk 0) := by
    show execSealLogOff n s = _
    rw [execSealLogOff, h.runOp (by simp [hact])]
    simp only [h.logMine hmine, Bool.false_eq_true, if_false]
  have w : Within (maskOf [.seals]) u (u.updPsn fun p => { p with log := { p.log with isOpen := false, lost := 0 } }) :=
    State.updPsn_via (maskOf [.seals]) (fun _ _ => rfl) (fun _ _ => rfl) (fun hs => absurd hs (by decide)) (by decide) (Within.refl _ _)
  refine ⟨_, hexec, h.answered g w (by decide) (by decide) csOk 0, ?_⟩
  rw [State.complete_psn, ← h.psn]
  rfl

end

/-! ## LOG_HEAD_WRITE (R303) -/

/-- A log that is closed, or has lost nothing, writes no GAP entry. -/
theorem State.writeLogHead_quiet {s : State} (h : s.psn.log.isOpen = false ∨ s.psn.log.lost = 0) (v : Nat) :
    s.writeLogHead v = s.wr Adr.logHead v := by
  have hcond : ((s.wr Adr.logHead v).psn.log.isOpen && (s.wr Adr.logHead v).psn.log.lost != 0) = false := by
    show (s.psn.log.isOpen && s.psn.log.lost != 0) = false
    rcases h with hclosed | hlost
    · rw [hclosed, Bool.false_and]
    · rw [hlost, bne_self_eq_false, Bool.and_false]
  simp only [State.writeLogHead, hcond, Bool.false_and, Bool.false_eq_true, if_false]

theorem State.writeLogHead_isOpen (s : State) (v : Nat) : (s.writeLogHead v).psn.log.isOpen = s.psn.log.isOpen := by
  unfold State.writeLogHead
  extract_lets t g
  split
  · obtain ⟨tail, seq, e⟩ := t.logPut_psn 4 0 64 (leBytes 8 g.lost)
    rw [State.updPsn_psn, e]
    rfl
  · rfl

theorem State.writeLogHead_rd (s : State) {v : Nat} (hv : v < 2 ^ 32) : (s.writeLogHead v).rd Adr.logHead = v := by
  unfold State.writeLogHead
  extract_lets t g
  have ht : t.rd Adr.logHead = v := s.rd_wr_self _ hv
  split
  · rw [State.rd_congr (State.updPsn_regs _ _), State.rd_congr ((t.logPut_within 4 0 64 _).same .regs (by decide)), ht]
  · exact ht

theorem logHeadWrite_result (v : BitVec 32) (s : State) : ∃ t, exec (.logHeadWrite v) s = .next t ∧ t.rd Adr.logHead = v.toNat ∧
    (s.psn.log.isOpen = false ∨ s.psn.log.lost = 0 → t.psn.log = s.psn.log) ∧ t.psn.log.isOpen = s.psn.log.isOpen := by
  refine ⟨s.writeLogHead v.toNat, rfl, s.writeLogHead_rd v.isLt, fun hq => ?_, s.writeLogHead_isOpen _⟩
  rw [State.writeLogHead_quiet hq]
  rfl

/-! ## SEAL_READ (R305) -/

section
variable {n : Fin 64} {s u : State} {j : Job} {l : List Byte} (h : s.Starts n 0xA1 j u) (hact : u8 j.d 8 = 2) (hmax : u16 j.d 10 ≤ 255)
  (hroom : 224 ≤ u32 j.d 24) (hseal : (s.chain (u16 j.d 10)).latest = some l)
include h hact hmax hroom hseal

theorem exec_sealRead : exec (.sealRead n true) s = .next ((u.hostWrite (u64 j.d 16) (bytesAt l 0 224)).complete j csOk 0) := by
  show execSealRead n true s = _
  rw [execSealRead, h.runOp (by simp [hact])]
  simp only [firstFail, h.chain, hseal, Nat.not_lt.2 hmax, Nat.not_lt.2 hroom, or_self, decide_false, Option.isNone_some, Option.getD_some,
    Bool.not_true, Bool.false_eq_true, if_false]

theorem sealRead_result (g : s.Good) : ∃ t, exec (.sealRead n true) s = .next t ∧ t.Answered j csOk 0 ∧
    t.hif.hostMem = (s.hostWrite (u64 j.d 16) (bytesAt l 0 224)).hif.hostMem := by
  have hmem : u.hif.hostMem = s.hif.hostMem := h.within.same .hostMem (by decide)
  refine ⟨_, exec_sealRead h hact hmax hroom hseal, h.answered g (u.hostWrite_within _ _) (by decide) (by decide) csOk 0, ?_⟩
  refine ((State.complete_within _ j csOk 0).same .hostMem (by decide)).trans ?_
  simp only [State.hostWrite, State.updHif_hif, hmem]

end

/-! ## SEAL_NOW and SEAL_DUE (R302, R305) -/

/-- A seal that falls due queues its head, and keeps the time at which it fell due first. -/
theorem State.sealDue_result (s : State) (h : Nat) : h ∈ (s.sealDue h).psn.queue ∧
    (s.sealDue h).chain h = { s.chain h with due := some ((s.chain h).due.getD s.now) } := by
  unfold State.sealDue
  extract_lets t
  have ht : t.chain h = { s.chain h with due := some ((s.chain h).due.getD s.now) } := by
    refine (s.chain_updChain h _).trans ?_
    cases (s.chain h).due <;> rfl
  split
  next hin => exact ⟨List.contains_iff_mem.1 hin, ht⟩
  next => exact ⟨List.mem_append_right _ (List.mem_singleton_self _), ht⟩

theorem sealDue_result {h : Fin 256} {s : State} (hrun : (s.head h).run ≠ .stopped) (hseal : s.sealing = true)
    (hdue : (s.chain h).lastAt + s.sealInterval ≤ s.now) : ∃ t, exec (.sealDue h) s = .next t ∧
    h.val ∈ t.psn.queue ∧ (t.chain h).due = some ((s.chain h).due.getD s.now) := by
  have hexec : exec (.sealDue h) s = .next (s.sealDue h) := by
    show execSealDue h s = _
    simp only [execSealDue, hrun, hseal, hdue, ne_eq, not_false_eq_true, decide_true, Bool.and_self, if_true]
  obtain ⟨hqueue, hchain⟩ := s.sealDue_result h
  exact ⟨_, hexec, hqueue, congrArg Chain.due hchain⟩

section
variable {n : Fin 64} {s u : State} {j : Job} (h : s.Starts n 0xA1 j u) (hact : u8 j.d 8 = 3) (hmax : u16 j.d 10 ≤ 255)
  (hseal : u.sealing = true) (hrun : (s.head (u16 j.d 10)).run ≠ .stopped)

/-- A descriptor waits for the next seal of a head. -/
def State.awaitSeal (s : State) (j : Job) (h : Nat) : State := s.updChain h fun c => { c with nows := c.nows ++ [(j.ring, j.stamp)] }

include h hact hmax hseal hrun

theorem exec_sealNow : exec (.sealNow n) s = .next ((u.awaitSeal j (u16 j.d 10)).sealDue (u16 j.d 10)) := by
  show execSealNow n s = _
  rw [execSealNow, h.runOp (by simp [hact])]
  simp only [firstFail, Nat.not_lt.2 hmax, hseal, h.head, hrun, decide_false, Bool.not_true, Bool.or_self, Bool.false_eq_true, if_false]
  rfl

theorem sealNow_result (g : s.Good) : ∃ t, exec (.sealNow n) s = .next t ∧ t.Waits j ∧
    (t.chain (u16 j.d 10)).nows = (s.chain (u16 j.d 10)).nows ++ [(j.ring, j.stamp)] ∧
    u16 j.d 10 ∈ t.psn.queue ∧ (t.chain (u16 j.d 10)).due ≠ none := by
  have w : Within (maskOf [.seals]) u ((u.awaitSeal j (u16 j.d 10)).sealDue (u16 j.d 10)) :=
    (State.sealDue_within _ _).via (by decide) ((u.updChain_within _ _).mono (by decide))
  obtain ⟨hqueue, hchain⟩ := (u.awaitSeal j (u16 j.d 10)).sealDue_result (u16 j.d 10)
  refine ⟨_, exec_sealNow h hact hmax hseal hrun, h.waits g w (by decide) (by decide), ?_, hqueue, ?_⟩
  · rw [hchain, State.awaitSeal, State.chain_updChain, h.chain]
  · rw [hchain]
    exact Option.some_ne_none _

end

/-! ## SEAL_SIGNED (R302 to R304) -/

/-- A seal: its body and the signature over it. -/
def Signing.whole (g : Signing) (k : Key) : List Byte := g.body ++ ecdsaSign k.secret (sha384 g.body)

/-- The signer is free again and the head keeps the seal. -/
def State.keepSeal (s : State) (g : Signing) (k : Key) : State :=
  (s.updPsn fun p => { p with signing := none }).updChain g.head fun c =>
    { c with latest := some (g.whole k), unsaved := c.unsaved + 1, sealedFrame := g.frame }

/-- The seal is reported, as an event and in the as-run log. -/
def State.tellSeal (s : State) (g : Signing) (k : Key) : State :=
  (s.occur 308 0x0A00 [(20, 2, g.head), (24, 4, g.index), (28, 4, g.frame)]).logWrite 2 g.head 256 (g.whole k) g.frame g.index

/-- The descriptors that waited for the seal complete, and the page of its chain may join the queue. -/
def State.followSeal (s : State) (g : Signing) : State :=
  let s := g.nows.foldl (fun s n => s.completeAt n.1 n.2 csOk (BitVec.ofNat 64 (g.index % 4294967296))) s
  if 60 * s.fget Adr.sealCtl 31 24 ≤ (s.chain g.head).unsaved then s.nvTouch (768 + g.head / 4) else s

theorem State.followSeal_within (s : State) (g : Signing) : Within (maskOf [.subRings, .engine, .nv]) s (s.followSeal g) := by
  unfold State.followSeal
  extract_lets t
  have ht : Within (maskOf [.subRings, .engine, .nv]) s t :=
    Within.fold (Q := Within _ s) (Within.refl _ _) fun v e w => (v.completeAt_within _ _ _ _).via (by decide) w
  exact Within.ite ((t.nvTouch_within _).via (by decide) ht) ht

theorem State.tellSeal_psn (s : State) (g : Signing) (k : Key) : ∃ log, (s.tellSeal g k).psn = s.psn.withLog log := by
  have hoccur : (s.occur 308 0x0A00 [(20, 2, g.head), (24, 4, g.index), (28, 4, g.frame)]).psn = s.psn :=
    (s.occur_within _ _ _).psn (by decide) (by decide) (by decide)
  rw [State.tellSeal, ← hoccur]
  exact State.logWrite_psn _ _ _ _ _ _ _

theorem State.tellSeal_occurred (s : State) (g : Signing) (k : Key) : (s.evSrc 308).occurred < ((s.tellSeal g k).evSrc 308).occurred :=
  (Nat.lt_of_lt_of_eq (Nat.lt_succ_self _) (s.occur_occurred 308 _ _).symm).trans_le (State.logWrite_occurred_le _ _ _ _ _ _ _)

theorem exec_sealSigned {s : State} {g : Signing} {k : Key} (hsign : s.psn.signing = some g) (hkey : s.sealKey = some k) :
    exec .sealSigned s = .next (((s.keepSeal g k).tellSeal g k).followSeal g) := by
  show execSealSigned s = _
  simp only [execSealSigned, hsign, hkey]
  rfl

theorem sealSigned_result {s : State} {g : Signing} {k : Key} (hsign : s.psn.signing = some g) (hkey : s.sealKey = some k) :
    ∃ t, exec .sealSigned s = .next t ∧ t.psn.signing = none ∧ (s.evSrc 308).occurred < (t.evSrc 308).occurred ∧
      (t.chain g.head).latest = some (g.body ++ ecdsaSign k.secret (sha384 g.body)) ∧ (t.chain g.head).unsaved = (s.chain g.head).unsaved + 1 := by
  have w := ((s.keepSeal g k).tellSeal g k).followSeal_within g
  obtain ⟨log, htold⟩ := (s.keepSeal g k).tellSeal_psn g k
  have hpsn := (w.psn (by decide) (by decide) (by decide)).trans htold
  have hchain : (((s.keepSeal g k).tellSeal g k).followSeal g).chain g.head = (s.keepSeal g k).chain g.head :=
    State.chain_congr (by rw [hpsn]; rfl) g.head
  refine ⟨_, exec_sealSigned hsign hkey, congrArg Psn.signing hpsn, ?_, ?_, ?_⟩
  · rw [w.evSrc (by decide)]
    exact (s.keepSeal g k).tellSeal_occurred g k
  · rw [hchain, State.keepSeal, State.chain_updChain]
    rfl
  · rw [hchain, State.keepSeal, State.chain_updChain]
    rfl

end Sys2Proof.Machine
end

section
/-!
SUPPORT. Pin sense: which eyespots a judgement finds bad, and PIN_SENSE_JUDGEMENT (R296 to R299).
-/
namespace Sys2Proof.Machine

/-! ## A number given by its bits -/

theorem bits_eq_testBit (v k : Nat) : bits v k k = 1 ↔ v.testBit k = true := by
  rw [bits, Nat.add_sub_cancel_left, pow_one, Nat.testBit_eq_decide_div_mod_eq, decide_eq_true_eq]

section
variable (p : Nat → Prop) [DecidablePred p]

/-- The number whose bits below `n` are those of `p`. -/
def numOf (n : Nat) : Nat := ((List.range n).map fun k => if p k then 2 ^ k else 0).sum

theorem numOf_succ (n : Nat) : numOf p (n + 1) = numOf p n + if p n then 2 ^ n else 0 := by
  rw [numOf, List.range_succ, List.map_append, List.sum_append, List.map_singleton, List.sum_singleton, ← numOf]

theorem numOf_lt (n : Nat) : numOf p n < 2 ^ n := by
  induction n with
  | zero => exact Nat.one_pos
  | succ n ih =>
    rw [numOf_succ, Nat.pow_succ]
    split <;> omega

theorem testBit_numOf {n k : Nat} (h : k < n) : (numOf p n).testBit k = true ↔ p k := by
  induction n with
  | zero => exact absurd h (Nat.not_lt_zero k)
  | succ n ih =>
    rw [numOf_succ]
    rcases Nat.lt_succ_iff_lt_or_eq.1 h with hlt | rfl
    · split
      · rw [Nat.add_comm, Nat.testBit_two_pow_add_gt hlt, ih hlt]
      · rw [Nat.add_zero, ih hlt]
    · have hclear : (numOf p k).testBit k = false := Nat.testBit_lt_two_pow (numOf_lt p k)
      split
      next hp => rw [Nat.add_comm, Nat.testBit_two_pow_add_eq, hclear, Bool.not_false]; exact iff_of_true rfl hp
      next hp => rw [Nat.add_zero, hclear]; exact iff_of_false Bool.false_ne_true hp

end

/-- An eyespot is bad where it is enabled, the pins did not carry its samples as sent, and its hash differs (R296, R297). -/
theorem Judge.bits_bad (g : Judge) (spots : Nat) (hashes : List Byte) {k : Nat} (h : k < 4) : bits (g.bad spots hashes) k k = 1 ↔
    bits g.spots k k = 1 ∧ bits spots k k = 1 ∧ bytesAt hashes (16 * k) 16 ≠ bytesAt g.refs (16 * k) 16 :=
  (bits_eq_testBit _ k).trans (testBit_numOf _ h)

/-! ## PIN_SENSE_JUDGEMENT (R297 to R299) -/

/-- A judgement ends mismatched: a bad eyespot, a line with errors, or an uncorrectable word of its own memory. -/
def Judge.fails (g : Judge) (spots lines : Nat) (hashes : List Byte) : Bool := g.bad spots hashes != 0 || lines != 0 || g.spoiled

/-- What pin sense keeps of a destination after a judgement. -/
def Judge.verdict (g : Judge) (rest : List Judge) (spots lines : Nat) (hashes : List Byte) : PsnDest :=
  { judging := rest, spots := g.bad spots hashes, crc := lines != 0, run := g.fails spots lines hashes }

/-- The counters of a judgement: matched and mismatched frames, line errors, dike mismatches. -/
def State.countJudgement (s : State) (d : Nat) (g : Judge) (bad lines : Nat) (fails : Bool) : State :=
  let s := (s.ledAdd 6 g.head (if fails then 2 else 1) 1).ledAdd 6 g.head 5 lines
  let s := if g.dike && bits bad 0 0 == 1 then s.ledAdd 6 g.head 6 1 else s
  let s := s.count (Adr.psnCrcErr d) 31 0 lines
  if fails then s.count (Adr.psnMismatch d) 31 0 1 else s

/-- The causes of the first judgement of a run of mismatches, and the class of the raster period. -/
def State.reportJudgement (s : State) (d : Nat) (g : Judge) (bad lines : Nat) (fails running : Bool) : State :=
  let det := [(20, 2, g.head), (22, 2, d), (24, 1, bad), (28, 4, g.frame)]
  let first := fails && !running
  let s := if first && bad != 0 then s.raise (Adr.hsCause g.head) (Adr.hsMask g.head) 0 g.head 0x0260 det else s
  let s := if first && lines != 0 then s.raise (Adr.hsCause g.head) (Adr.hsMask g.head) 1 g.head 0x0261 det else s
  if (s.dest d).inService then s.countPeriod d g.excl (if fails then 1 else if g.cut then 3 else 0) else s

/-- The hashes that pin sense puts into a record: those of its own where the pins did not carry the samples as sent. -/
def Judge.pinHashes (g : Judge) (spots : Nat) (hashes : List Byte) : List Byte :=
  (List.range 4).flatMap fun k =>
    if bits g.spots k k = 1 then bytesAt (if bits spots k k = 1 then hashes else g.refs) (16 * k) 16 else List.replicate 16 0

/-- The records of a judged frame wait for the destination no more; those that then wait for none are appended. -/
def State.recordJudgement (s : State) (d : Nat) (g : Judge) (pin : List Byte) (fails : Bool) : State :=
  (s.updChain g.head fun c =>
    { c with recs := c.recs.map fun r =>
        if r.frame = g.frame then
          { r with waiting := r.waiting.filter fun e => e ≠ d, mismatched := r.mismatched + b2n fails,
                   hashes := (if r.primary = some d then pin else r.hashes) }
        else r }).appendAll g.head

theorem State.countPeriod_led (s : State) (d : Nat) (excl : Bool) (cause : Nat) {i c : Nat} :
    (s.countPeriod d excl cause).led 6 i c = s.led 6 i c := by
  have hk (i' c' : Nat) : ledKey 6 i c ≠ ledKey 11 i' c' := ledKey_kind (by decide) (by decide) (by decide)
  unfold State.countPeriod
  extract_lets t
  have ht : t.led 6 i c = s.led 6 i c := s.led_ledAdd_ne 1 (hk _ _)
  split
  · exact (t.led_ledAdd_ne 1 (hk _ _)).trans ht
  split
  · exact (t.led_ledAdd_ne 1 (hk _ _)).trans ht
  · exact (State.led_ledAdd_ne _ 1 (hk _ _)).trans ((t.led_ledAdd_ne 1 (hk _ _)).trans ht)

theorem State.countJudgement_within (s : State) (d : Nat) (g : Judge) (bad lines : Nat) (fails : Bool) :
    Within (maskOf [.regs, .ledger]) s (s.countJudgement d g bad lines fails) := by
  unfold State.countJudgement
  extract_lets t t' t''
  have ht : Within (maskOf [.regs, .ledger]) s t :=
    (State.ledAdd_within _ _ _ _ _ (by decide)).via (by decide) ((s.ledAdd_within _ _ _ _ (by decide)).mono (by decide))
  have ht' : Within (maskOf [.regs, .ledger]) s t' := Within.ite ((t.ledAdd_within _ _ _ _ (by decide)).via (by decide) ht) ht
  have ht'' : Within (maskOf [.regs, .ledger]) s t'' := (t'.count_within _ _ _ _).via (by decide) ht'
  exact Within.ite ((t''.count_within _ _ _ _).via (by decide) ht'') ht''

/-- Of the counts of matched and mismatched frames, a judgement moves one by one. -/
theorem State.countJudgement_led (s : State) (d : Nat) (g : Judge) (bad lines : Nat) (fails : Bool) {c : Nat} (h : c < 5) :
    (s.countJudgement d g bad lines fails).led 6 g.head c = (s.ledAdd 6 g.head (if fails then 2 else 1) 1).led 6 g.head c := by
  have hk {c' : Nat} (hc' : 5 ≤ c') (hmax : c' < 1024) : ledKey 6 g.head c ≠ ledKey 6 g.head c' := fun he => by
    obtain ⟨-, -, e⟩ := ledKey_inj (by decide) (by decide) (by omega) hmax he
    omega
  unfold State.countJudgement
  extract_lets t t' t''
  have ht : t.led 6 g.head c = (s.ledAdd 6 g.head (if fails then 2 else 1) 1).led 6 g.head c :=
    State.led_ledAdd_ne _ _ (hk (by decide) (by decide))
  have ht' : t'.led 6 g.head c = t.led 6 g.head c := by
    unfold t'
    split
    · exact t.led_ledAdd_ne 1 (hk (by decide) (by decide))
    · rfl
  have ht'' : t''.led 6 g.head c = t'.led 6 g.head c := (t'.count_within _ _ _ _).led (by decide) _ _ _
  rw [← ht, ← ht', ← ht'']
  split
  · exact (t''.count_within _ _ _ _).led (by decide) _ _ _
  · rfl

theorem State.reportJudgement_within (s : State) (d : Nat) (g : Judge) (bad lines : Nat) (fails running : Bool) :
    Within (maskOf [.regs, .ledger, .events]) s (s.reportJudgement d g bad lines fails running) := by
  unfold State.reportJudgement
  extract_lets det first t t'
  have ht : Within (maskOf [.regs, .ledger, .events]) s t :=
    Within.ite ((s.raise_within _ _ _ _ _ _).mono (by decide)) (Within.refl _ _)
  have ht' : Within (maskOf [.regs, .ledger, .events]) s t' := Within.ite ((t.raise_within _ _ _ _ _ _).via (by decide) ht) ht
  exact Within.ite ((t'.countPeriod_within _ _ _).via (by decide) ht') ht'

theorem State.reportJudgement_led (s : State) (d : Nat) (g : Judge) (bad lines : Nat) (fails running : Bool) (i c : Nat) :
    (s.reportJudgement d g bad lines fails running).led 6 i c = s.led 6 i c := by
  unfold State.reportJudgement
  extract_lets det first t t'
  have ht : Within (maskOf [.regs, .events]) s t := Within.ite ((s.raise_within _ _ _ _ _ _).mono (by decide)) (Within.refl _ _)
  have ht' : Within (maskOf [.regs, .events]) s t' := Within.ite ((t.raise_within _ _ _ _ _ _).via (by decide) ht) ht
  split
  · exact (t'.countPeriod_led _ _ _).trans (ht'.led (by decide) _ _ _)
  · exact ht'.led (by decide) _ _ _

theorem State.recordJudgement_within (s : State) (d : Nat) (g : Judge) (pin : List Byte) (fails : Bool) :
    Within (maskOf [.events, .hostMem, .irq, .seals]) s (s.recordJudgement d g pin fails) :=
  (State.appendAll_within _ _).via (by decide) ((s.updChain_within _ _).mono (by decide))

section
variable (d : Fin 256) (spots : BitVec 4) (lines : Nat) (hashes : List Byte) {s : State} {g : Judge} {rest : List Judge}
  (hjudging : (s.psnDest d).judging = g :: rest) (hlane : s.laneTest d = false)

/-- A judgement is counted and reported. -/
def State.judge (s : State) (d : Nat) (g : Judge) (rest : List Judge) (spots lines : Nat) (hashes : List Byte) : State :=
  ((s.setPsnDest d (g.verdict rest spots lines hashes)).countJudgement d g (g.bad spots hashes) lines (g.fails spots lines hashes)).reportJudgement
    d g (g.bad spots hashes) lines (g.fails spots lines hashes) (s.psnDest d).run

theorem State.judge_led (s : State) (d : Nat) (g : Judge) (rest : List Judge) (spots lines : Nat) (hashes : List Byte) {c : Nat} (h : c < 5) :
    (s.judge d g rest spots lines hashes).led 6 g.head c =
      (s.ledAdd 6 g.head (if g.fails spots lines hashes then 2 else 1) 1).led 6 g.head c := by
  rw [State.judge, State.reportJudgement_led, State.countJudgement_led _ _ _ _ _ _ h]
  rfl

theorem State.judge_psnDest (s : State) (d : Nat) (g : Judge) (rest : List Judge) (spots lines : Nat) (hashes : List Byte) :
    (s.judge d g rest spots lines hashes).psnDest d = g.verdict rest spots lines hashes := by
  rw [State.judge, (State.reportJudgement_within _ _ _ _ _ _ _).psnDest (by decide), (State.countJudgement_within _ _ _ _ _ _).psnDest (by decide),
    State.psnDest_setPsnDest]

include hjudging hlane

theorem exec_pinSenseJudgement : exec (.pinSenseJudgement d spots lines hashes) s =
    .next ((s.judge d g rest spots.toNat lines hashes).recordJudgement d g (g.pinHashes spots.toNat hashes) (g.fails spots.toNat lines hashes)) := by
  show execPinSenseJudgement d spots lines hashes s = _
  simp only [execPinSenseJudgement, hjudging, hlane, Bool.false_eq_true, if_false]
  rfl

theorem pinSenseJudgement_result : ∃ t, exec (.pinSenseJudgement d spots lines hashes) s = .next t ∧
    t.psnDest d = g.verdict rest spots.toNat lines hashes ∧
    (∀ k < 4, bits (g.bad spots.toNat hashes) k k = 1 ↔
      bits g.spots k k = 1 ∧ bits spots.toNat k k = 1 ∧ bytesAt hashes (16 * k) 16 ≠ bytesAt g.refs (16 * k) 16) ∧
    t.led 6 g.head 1 = s.led 6 g.head 1 + (if g.bad spots.toNat hashes ≠ 0 ∨ lines ≠ 0 ∨ g.spoiled = true then 0 else 1) ∧
    t.led 6 g.head 2 = s.led 6 g.head 2 + (if g.bad spots.toNat hashes ≠ 0 ∨ lines ≠ 0 ∨ g.spoiled = true then 1 else 0) := by
  have w := (s.judge d g rest spots.toNat lines hashes).recordJudgement_within d g (g.pinHashes spots.toNat hashes) (g.fails spots.toNat lines hashes)
  have hfails : g.bad spots.toNat hashes ≠ 0 ∨ lines ≠ 0 ∨ g.spoiled = true ↔ g.fails spots.toNat lines hashes = true := by
    simp only [Judge.fails, Bool.or_eq_true, bne_iff_ne, or_assoc]
  have hne : ledKey 6 g.head 1 ≠ ledKey 6 g.head 2 := fun he => by
    obtain ⟨-, -, e⟩ := ledKey_inj (by decide) (by decide) (by decide) (by decide) he
    exact absurd e (by decide)
  refine ⟨_, exec_pinSenseJudgement d spots lines hashes hjudging hlane, ?_, fun k hk => g.bits_bad _ _ hk, ?_, ?_⟩
  · rw [w.psnDest (by decide), State.judge_psnDest]
  · rw [w.led (by decide), State.judge_led _ _ _ _ _ _ _ (by decide), if_congr hfails rfl rfl]
    split
    · exact s.led_ledAdd_ne 1 hne
    · exact s.led_ledAdd_self 6 g.head 1 1
  · rw [w.led (by decide), State.judge_led _ _ _ _ _ _ _ (by decide), if_congr hfails rfl rfl]
    split
    · exact s.led_ledAdd_self 6 g.head 2 1
    · exact s.led_ledAdd_ne 1 hne.symm

end

end Sys2Proof.Machine
end

section
/-!
SUPPORT. Dikes: the binding and the starts of the updates DIKE_CONTENT, DIKE_REAPPLY and DIKE_UNBIND (R284 to R292).
-/
namespace Sys2Proof.Machine

/-! ## Programs that join the flash's work -/

theorem State.nvQueue_jobs {s : State} (h : s.nv.phase ≠ .fault) (x : NvJob) : (s.nvQueue x).nv.jobs = s.nv.jobs ++ [x] := by
  rw [State.nvQueue, if_neg h]
  rfl

theorem State.nvQueue_phase (s : State) (x : NvJob) : (s.nvQueue x).nv.phase = s.nv.phase := by
  unfold State.nvQueue
  split <;> rfl

theorem State.nvQueue_psn (s : State) (x : NvJob) : (s.nvQueue x).psn = s.psn :=
  (s.nvQueue_within x).psn (by decide) (by decide) (by decide)

theorem State.nvQueue_coc (s : State) (x : NvJob) : (s.nvQueue x).coc = s.coc := (s.nvQueue_within x).same .cocoon (by decide)

/-! ## DIKE_BIND (R284) -/

/-- The owner's key is tied to its counter, and the page of the ties follows where the tie is new. -/
def State.tieOwner (s : State) (hash : List Byte) (c : Nat) : State :=
  if s.psn.ties.any fun e => e.2 == hash then s
  else (s.updPsn fun p => { p with ties := s.psn.ties ++ [(c, hash)] }).nvQueue (.page 929 (.ties (s.psn.ties ++ [(c, hash)])) .module)

theorem State.tieOwner_within (s : State) (hash : List Byte) (c : Nat) : Within (maskOf [.dikes, .nv]) s (s.tieOwner hash c) :=
  Within.ite (Within.refl _ _) ((State.nvQueue_within _ _).via (by decide)
    (State.updPsn_via (maskOf [.dikes]) (fun h => absurd h (by decide)) (fun _ _ => rfl) (fun _ _ => rfl) (by decide) (Within.refl _ _)))

theorem State.tieOwner_dikes (s : State) (hash : List Byte) (c : Nat) : (s.tieOwner hash c).psn.dikes = s.psn.dikes := by
  unfold State.tieOwner
  split
  · rfl
  · rw [State.nvQueue_psn]
    rfl

theorem State.tieOwner_phase (s : State) (hash : List Byte) (c : Nat) : (s.tieOwner hash c).nv.phase = s.nv.phase := by
  unfold State.tieOwner
  split
  · rfl
  · rw [State.nvQueue_phase]
    rfl

/-- The counter found for a key is tied to it afterwards, be the tie an old one or new. -/
theorem State.tieOwner_mem {s : State} {hash : List Byte} {c : Nat} (h : s.tieFor hash = some c) : (c, hash) ∈ (s.tieOwner hash c).psn.ties := by
  unfold State.tieOwner
  split
  next hany =>
    obtain ⟨e, he⟩ := Option.isSome_iff_exists.1 (List.find?_isSome.2 (List.any_eq_true.1 hany))
    have hc : e.1 = c := by simpa only [State.tieFor, he, Option.some.injEq] using h
    have hhash : e.2 = hash := eq_of_beq (List.find?_some (p := fun e : Nat × List Byte => e.2 == hash) he)
    rw [← hc, ← hhash]
    exact List.mem_of_find?_eq_some he
  next =>
    rw [State.nvQueue_psn]
    exact List.mem_append_right _ (List.mem_singleton_self _)

/-- A dike as the page of its head keeps it. -/
def Dike.stored (k : Dike) : Dike := { k with shown := none, coming := [], frozen := false }

/-- The page of a head that is bound is not blank, and holds its binding. -/
theorem State.dikePage_bound (s : State) (h : Nat) {k : Dike} {slot : Nat} (hk : k.slot = some slot) :
    ∃ l, s.dikePage h k = .dikes l ∧ (h, k.stored) ∈ l := by
  unfold State.dikePage
  extract_lets lo keep now l
  have hkeep : keep k ≠ Dike.reset := fun e => by
    have hslot : k.slot = none := congrArg Dike.slot (a₁ := keep k) e
    exact nomatch hk.symm.trans hslot
  have hmem : (h, k.stored) ∈ l := by
    unfold l
    rw [if_neg hkeep]
    exact List.mem_append_right _ (List.mem_singleton_self _)
  refine ⟨l, if_neg ?_, hmem⟩
  rw [List.isEmpty_iff]
  exact List.ne_nil_of_mem hmem

/-- A head's dike as a descriptor binds it. -/
def Dike.boundBy (k : Dike) (j : Job) (c : Nat) : Dike := { k with slot := some (u8 j.d 12), counter := c, owner := j.owner }

/-- The binding of a descriptor waits for its page. -/
def State.bindDike (s : State) (j : Job) (k : Dike) : State :=
  (s.addOp (j.keyOp (some []) .writing none [])).nvQueue (.page (832 + dHead j.d / 4) (s.dikePage (dHead j.d) k) (.op j.ring j.stamp))

section
variable {n : Fin 64} {s u : State} {j : Job} {c : Nat} (h : s.Starts n 0x81 j u) (hact : u8 j.d 8 = 0) (hbad : u.dikeBad j = false)
  (hkey : u.isOwnerKey (u8 j.d 12) = true) (hpriv : j.priv = true) (hfree : (s.dike (dHead j.d)).slot = none) (hkeys : s.keyless = false)
  (htie : s.tieFor (s.ownerHash (u8 j.d 12)) = some c) (hrecall : s.nv.phase ≠ .recall) (hfault : s.nv.phase ≠ .fault) (hhold : u.holdupOk = true)
include h hact hbad hkey hpriv hfree hkeys htie hrecall hfault hhold

theorem exec_dikeBind : exec (.dikeBind n) s =
    .next ((u.tieOwner (s.ownerHash (u8 j.d 12)) c).bindDike j ((s.dike (dHead j.d)).boundBy j c)) := by
  have hdike : (u.tieOwner (s.ownerHash (u8 j.d 12)) c).dike (dHead j.d) = s.dike (dHead j.d) :=
    (State.dike_congr (u.tieOwner_dikes _ _) _).trans (h.dike _)
  show execDikeBind n s = _
  rw [execDikeBind, h.runOp (by simp [hact]), ← hdike]
  simp only [firstFail, hbad, hkey, hpriv, h.dike, hfree, h.keyless, hkeys, h.ownerHash, h.tieFor, htie, h.nv, hrecall, hfault, hhold,
    Option.isSome_none, Option.isNone_some, Option.getD_some, decide_false, Bool.not_true, Bool.or_self, Bool.false_eq_true, if_false]
  rfl

theorem dikeBind_result (g : s.Good) : ∃ t l x, exec (.dikeBind n) s = .next t ∧ t.Waits j ∧
    t.coc.ops = s.coc.ops ++ [j.keyOp (some []) .writing none []] ∧
    t.nv.jobs.getLast? = some (.page (832 + dHead j.d / 4) (.dikes l) (.op j.ring j.stamp)) ∧ (dHead j.d, x) ∈ l ∧
    x.slot = some (u8 j.d 12) ∧ x.counter = c ∧ x.owner = j.owner ∧ (c, s.ownerHash (u8 j.d 12)) ∈ t.psn.ties ∧ t.psn.dikes = s.psn.dikes := by
  have hexec := exec_dikeBind h hact hbad hkey hpriv hfree hkeys htie hrecall hfault hhold
  have wtie := u.tieOwner_within (s.ownerHash (u8 j.d 12)) c
  have htied : (c, s.ownerHash (u8 j.d 12)) ∈ (u.tieOwner (s.ownerHash (u8 j.d 12)) c).psn.ties := State.tieOwner_mem ((h.tieFor _).trans htie)
  have hdikes : (u.tieOwner (s.ownerHash (u8 j.d 12)) c).psn.dikes = s.psn.dikes :=
    (u.tieOwner_dikes _ _).trans (congrArg Psn.dikes h.psn)
  have hphase : (u.tieOwner (s.ownerHash (u8 j.d 12)) c).nv.phase = s.nv.phase := (u.tieOwner_phase _ _).trans (congrArg Nv.phase h.nv)
  have hcoc : (u.tieOwner (s.ownerHash (u8 j.d 12)) c).coc = s.coc := Eq.trans (wtie.same .cocoon (by decide)) h.coc
  generalize u.tieOwner (s.ownerHash (u8 j.d 12)) c = v at hexec wtie htied hdikes hphase hcoc
  obtain ⟨l, hpage, hmem⟩ := v.dikePage_bound (dHead j.d) (k := (s.dike (dHead j.d)).boundBy j c) rfl
  have w : Within (maskOf [.dikes, .cocoon, .nv]) u (v.bindDike j ((s.dike (dHead j.d)).boundBy j c)) :=
    (State.nvQueue_within _ _).via (by decide) ((v.addOp_within _).via (by decide) (wtie.mono (by decide)))
  refine ⟨_, l, _, hexec, h.waits g w (by decide) (by decide), ?_, ?_, hmem, rfl, rfl, rfl, ?_, ?_⟩
  · rw [State.bindDike, State.nvQueue_coc, ← hcoc]
    rfl
  · have hphase' : (v.addOp (j.keyOp (some []) .writing none [])).nv.phase ≠ .fault := fun e => hfault (hphase.symm.trans e)
    rw [State.bindDike, State.nvQueue_jobs hphase', List.getLast?_concat, hpage]
  · rw [State.bindDike, State.nvQueue_psn]
    exact htied
  · rw [State.bindDike, State.nvQueue_psn]
    exact hdikes

end

/-! ## The copy in the dike store (R286, R291) -/

/-- While the list is not full, the index that a new surface takes is no listed surface's. -/
theorem State.surfIndex_unused {s : State} (h : s.srf.list.length < 16384) : ∀ y ∈ s.srf.list, y.handle.toNat % 65536 ≠ s.surfIndex := by
  have hfind : s.surfIndex = ((List.range 16384).find? fun i => s.srf.list.all fun f => decide (f.handle.toNat % 65536 ≠ i)).getD 0 := rfl
  cases hi : (List.range 16384).find? fun i => s.srf.list.all fun f => decide (f.handle.toNat % 65536 ≠ i) with
  | some i =>
    have hall := List.find?_some (p := fun i => s.srf.list.all fun f => decide (f.handle.toNat % 65536 ≠ i)) hi
    rw [hfind, hi]
    exact fun y hy => of_decide_eq_true (List.all_eq_true.1 hall y hy)
  | none =>
    have hsub : List.range 16384 ⊆ s.srf.list.map fun f => f.handle.toNat % 65536 := fun i hmem => by
      have hused := List.find?_eq_none.1 hi i hmem
      rw [List.all_eq_true] at hused
      push Not at hused
      obtain ⟨f, hf, he⟩ := hused
      exact List.mem_map.2 ⟨f, hf, by simpa using he⟩
    have hlen := (List.subperm_of_subset List.nodup_range hsub).length_le
    rw [List.length_range, List.length_map] at hlen
    omega

/-- The copy of a surface in the dike store. -/
def State.storeCopy (s : State) (f : Surf) : Surf :=
  { f with handle := BitVec.ofNat 32 (s.surfIndex + 65536 * nextGen (Tab.get (fun _ => 0) s.srf.gens s.surfIndex)), owner := moduleTag, refs := 0,
           upload := none, free := none }

theorem State.storeCopy_index (s : State) (f : Surf) : (s.storeCopy f).handle.toNat % 65536 = s.surfIndex := s.newSurf_index 0 []

/-- The copy joins the list with the reference of its operation. -/
theorem State.dikeCopy_list {s : State} (h : s.srf.list.length < 16384) (f : Surf) :
    (s.dikeCopy f).2.srf.list = s.srf.list ++ [{ s.storeCopy f with refs := 1 }] := by
  have hne : ∀ y ∈ s.srf.list, y.handle ≠ (s.storeCopy f).handle := fun y hy he =>
    State.surfIndex_unused h y hy (he ▸ s.storeCopy_index f)
  have hold : s.srf.list.map (fun y => if y.handle = (s.storeCopy f).handle then { y with refs := y.refs + 1 } else y) = s.srf.list :=
    (List.map_congr_left fun y hy => if_neg (hne y hy)).trans (List.map_id' _)
  have hlist : (s.dikeCopy f).2.srf.list =
      (s.srf.list ++ [s.storeCopy f]).map fun y => if y.handle = (s.storeCopy f).handle then { y with refs := y.refs + 1 } else y := rfl
  rw [hlist, List.map_append, hold, List.map_singleton, if_pos rfl]
  rfl

theorem State.dikeCopy_led (s : State) (f : Surf) : (s.dikeCopy f).2.led 3 0 0 = s.led 3 0 0 + 1 :=
  (State.led_ledAdd_ne _ 1 (by decide)).trans (State.led_ledAdd_self _ 3 0 0 1)

/-! ## DIKE_CONTENT and DIKE_REAPPLY (R290, R291) -/

/-- The operation of an update that has been copied. -/
def State.dikeOp (s : State) (j : Job) (f : Surf) (sig : List Byte) : KeyOp :=
  { j.keyOp (some (dmaFit sig 96)) .running none (sha384 (s.surfRows f)) with store := some (s.storeCopy f).handle }

/-- An update whose copy is taken waits for its verification. -/
def State.beginDike (s : State) (j : Job) (f : Surf) (sig : List Byte) (ecc : List HbmErr) : State :=
  ((s.dikeCopy f).2.granulesMet ecc).addOp (s.dikeOp j f sig)

section
variable {n : Fin 64} {s u : State} {j : Job} {f : Surf} (h : s.Starts n 0x81 j u) (hcheck : u.dikeCheck j = none)
  (hsurf : s.surf (dSurf j.d) = some f) (hfits : f.units ≤ u.hbmFree) (hroom : s.srf.list.length < 16384)
include h hcheck hsurf hfits hroom

theorem State.Starts.dikeStart (sig : List Byte) (ecc : List HbmErr) : u.dikeStart j (some sig) true ecc = u.beginDike j f sig ecc := by
  have hfull : ¬(u.hbmFree < f.units ∨ 16384 ≤ u.srf.list.length) := by
    rw [h.srf]
    omega
  simp only [State.dikeStart, hcheck, State.surf_congr h.srf, hsurf, hfull, if_false, Option.isNone_some, Bool.and_false, Bool.not_true, Bool.or_self,
    Bool.false_eq_true]
  rfl

omit hcheck hsurf hfits in
/-- The copy is listed and counted, and the operation runs. -/
theorem State.Starts.beginDike_result (sig : List Byte) (ecc : List HbmErr) (g : s.Good) : (u.beginDike j f sig ecc).Waits j ∧
    ∃ c : Surf, (u.beginDike j f sig ecc).srf.list = s.srf.list ++ [c] ∧ c.width = f.width ∧ c.height = f.height ∧ c.format = f.format ∧
      c.owner = moduleTag ∧ c.refs = 1 ∧ (u.beginDike j f sig ecc).led 3 0 0 = s.led 3 0 0 + 1 ∧
      (u.beginDike j f sig ecc).coc.ops = s.coc.ops ++
        [{ j.keyOp (some (dmaFit sig 96)) .running none (sha384 (s.surfRows f)) with store := some c.handle }] := by
  have wmet := (u.dikeCopy f).2.granulesMet_within ecc
  have wadd := ((u.dikeCopy f).2.granulesMet ecc).addOp_within (u.dikeOp j f sig)
  have w : Within (maskOf [.regs, .ledger, .events, .surfaces, .cocoon, .hbm]) u (u.beginDike j f sig ecc) :=
    wadd.via (by decide) (wmet.via (by decide) ((u.dikeCopy_within f).mono (by decide)))
  refine ⟨h.waits g w (by decide) (by decide), { u.storeCopy f with refs := 1 }, ?_, rfl, rfl, rfl, rfl, rfl, ?_, ?_⟩
  · rw [State.beginDike, show State.srf _ = _ from wadd.same .surfaces (by decide), show State.srf _ = _ from wmet.same .surfaces (by decide),
      State.dikeCopy_list (h.srf ▸ hroom), h.srf]
  · rw [State.beginDike, wadd.led (by decide), wmet.led (by decide), State.dikeCopy_led, h.within.led (by decide)]
  · have hcoc : ((u.dikeCopy f).2.granulesMet ecc).coc = s.coc :=
      Eq.trans (wmet.same .cocoon (by decide)) (Eq.trans ((u.dikeCopy_within f).same .cocoon (by decide)) h.coc)
    rw [← hcoc, ← h.surfRows]
    rfl

theorem dikeContent_result (hact : u8 j.d 8 = 1) (sig : List Byte) (ecc : List HbmErr) (g : s.Good) :
    ∃ (t : State) (c : Surf), exec (.dikeContent n (some sig) true ecc) s = .next t ∧ t.Waits j ∧ t.srf.list = s.srf.list ++ [c] ∧
      c.width = f.width ∧ c.height = f.height ∧ c.format = f.format ∧ c.owner = moduleTag ∧ c.refs = 1 ∧ t.led 3 0 0 = s.led 3 0 0 + 1 ∧
      t.coc.ops = s.coc.ops ++ [{ j.keyOp (some (dmaFit sig 96)) .running none (sha384 (s.surfRows f)) with store := some c.handle }] := by
  have hexec : exec (.dikeContent n (some sig) true ecc) s = .next (u.beginDike j f sig ecc) := by
    show execDikeContent n (some sig) true ecc s = _
    rw [execDikeContent, h.runOp (by simp [hact]), h.dikeStart hcheck hsurf hfits hroom]
  obtain ⟨hwaits, c, hc⟩ := h.beginDike_result hroom (f := f) sig ecc g
  exact ⟨_, c, hexec, hwaits, hc⟩

theorem dikeReapply_result (hact : u8 j.d 8 = 3) (ecc : List HbmErr) (g : s.Good) :
    ∃ (t : State) (c : Surf), exec (.dikeReapply n true ecc) s = .next t ∧ t.Waits j ∧ t.srf.list = s.srf.list ++ [c] ∧
      c.width = f.width ∧ c.height = f.height ∧ c.format = f.format ∧ c.owner = moduleTag ∧ c.refs = 1 ∧ t.led 3 0 0 = s.led 3 0 0 + 1 ∧
      ∃ o : KeyOp, t.coc.ops = s.coc.ops ++ [o] ∧ o.desc = j.d ∧ o.phase = .running ∧ o.digest = sha384 (s.surfRows f) ∧ o.store = some c.handle := by
  have hexec : exec (.dikeReapply n true ecc) s = .next (u.beginDike j f [] ecc) := by
    show execDikeReapply n true ecc s = _
    rw [execDikeReapply, h.runOp (by simp [hact]), h.dikeStart hcheck hsurf hfits hroom]
  obtain ⟨hwaits, c, hlist, hwidth, hheight, hformat, howner, hrefs, hled, hops⟩ := h.beginDike_result hroom (f := f) [] ecc g
  exact ⟨_, c, hexec, hwaits, hlist, hwidth, hheight, hformat, howner, hrefs, hled, _, hops, rfl, rfl, rfl, rfl⟩

end

/-! ## DIKE_UNBIND (R292) -/

theorem dikeUnbind_result {n : Fin 64} {s u : State} {j : Job} (h : s.Starts n 0x81 j u) (hact : u8 j.d 8 = 2) (hcheck : u.dikeCheck j = none)
    (sig : List Byte) (g : s.Good) : ∃ t, exec (.dikeUnbind n (some sig)) s = .next t ∧ t.Waits j ∧
      t.coc.ops = s.coc.ops ++ [j.keyOp (some (if u64 j.d 40 = 0 then [] else dmaFit sig 96)) .running none []] := by
  have hexec : exec (.dikeUnbind n (some sig)) s =
      .next (u.addOp (j.keyOp (some (if u64 j.d 40 = 0 then [] else dmaFit sig 96)) .running none [])) := by
    show execDikeUnbind n (some sig) s = _
    rw [execDikeUnbind, h.runOp (by simp [hact])]
    simp only [firstFail, hcheck, Option.isSome_none, Option.isNone_some, Option.getD_some, Bool.and_false, Bool.false_eq_true, if_false]
  refine ⟨_, hexec, h.waits g (u.addOp_within _) (by decide) (by decide), ?_⟩
  rw [← h.coc]
  rfl

/-! ## The obligation -/

/-- Settles O35, command by command. -/
theorem dikesSeals : Obligations.DikesSeals := fun _ _ d spots lines hashes sig v ecc s g =>
  ⟨fun _ _ _ h hact hbad hkey hpriv hfree hkeys htie hrecall hfault hhold =>
      dikeBind_result h hact hbad hkey hpriv hfree hkeys htie hrecall hfault hhold g,
    fun _ _ _ h hact hcheck hsurf hfits hroom => dikeContent_result h hcheck hsurf hfits hroom hact sig ecc g,
    fun _ _ _ h hact hcheck hsurf hfits hroom => dikeReapply_result h hcheck hsurf hfits hroom hact ecc g,
    fun _ _ h hact hcheck => dikeUnbind_result h hact hcheck sig g,
    fun _ _ h hact hmin hmax hvec haddr hmine => sealLogSet_result h hmine hact hmin hmax hvec haddr g,
    fun _ _ h hact hmine => sealLogOff_result h hmine hact g,
    fun _ _ _ h hact hmax hroom hseal => sealRead_result h hact hmax hroom hseal g,
    fun _ _ h hact hmax hseal hrun => sealNow_result h hact hmax hseal hrun g,
    fun _ _ hjudging hlane => pinSenseJudgement_result d spots lines hashes hjudging hlane,
    sealDue_result, fun _ _ hsign hkey => sealSigned_result hsign hkey, logHeadWrite_result v s⟩

end Sys2Proof.Machine
end

section
/-!
SUPPORT. The frame of the audio matrix, the management pairs, the cocoon, the store, restoration, the power states and the scrubbers
(R313, R419, R447, R474, R501, R515).
-/
namespace Sys2Proof.Machine

/-- Settles O18: each service is a part of the state that `exec_frame` keeps. -/
theorem frameServices : Obligations.FrameServices := fun _ _ _ h =>
  ⟨fun hp => exec_frame h hp, fun hp => exec_frame h hp, fun hp => exec_frame h hp, fun hp => exec_frame h hp, fun hp => exec_frame h hp,
    fun hp => exec_frame h hp, fun hp => exec_frame h hp⟩

end Sys2Proof.Machine
end

section
/-!
SUPPORT. The audio matrix as views of the state: what receiving, delivering and the classes of clock groups leave of its groups
(R319, R320, R325 to R327), and the count of sample positions, which switching, the outputs and the embedders keep (R317, R321, R331).
-/
namespace Sys2Proof.Machine

/-- A fold whose steps keep a view of the state keeps it. -/
theorem foldl_keeps {α σ β : Type} (p : σ → β) {f : σ → α → σ} {l : List α} {s : σ} {b : β} (h : ∀ s x, p (f s x) = p s) (hs : p s = b) :
    p (l.foldl f s) = b :=
  Within.fold (Q := fun t => p t = b) hs fun t x ht => (h t x).trans ht

theorem foldl_audN {α : Type} {f : State → α → State} {l : List α} {s : State} {k : Nat} (h : ∀ s x, (f s x).aud.n = s.aud.n) (hs : s.aud.n = k) :
    (l.foldl f s).aud.n = k :=
  foldl_keeps (fun t : State => t.aud.n) h hs

theorem Within.aud {m : Nat} {s t : State} (w : Within m s t) (h : m.testBit 34 = false) : t.aud = s.aud := w.same .audio h

/-! ## All but the inputs -/

/-- The audio matrix without what its inputs hold. -/
def State.matrix (s : State) : Aud := { s.aud with ins := [] }

theorem Within.matrix {m : Nat} {s t : State} (w : Within m s t) (h : m.testBit 34 = false) : t.matrix = s.matrix := by
  rw [State.matrix, w.aud h, State.matrix]

theorem foldl_matrix {α : Type} {f : State → α → State} {l : List α} {s : State} {a : Aud} (h : ∀ s x, (f s x).matrix = s.matrix)
    (hs : s.matrix = a) : (l.foldl f s).matrix = a :=
  foldl_keeps State.matrix h hs

theorem State.audN_of_matrix {s t : State} (h : t.matrix = s.matrix) : t.aud.n = s.aud.n :=
  show t.matrix.n = s.matrix.n by rw [h]

theorem State.audGrp_of_matrix {s t : State} (h : t.matrix = s.matrix) (g : Nat) : t.audGrp g = s.audGrp g :=
  show Tab.get AudGrp.reset t.matrix.grps g = Tab.get AudGrp.reset s.matrix.grps g by rw [h]

theorem State.grpRaise_matrix (s : State) (g bit code : Nat) (d : List (Nat × Nat × Nat)) : (s.grpRaise g bit code d).matrix = s.matrix :=
  (s.grpRaise_within g bit code d).matrix (by decide)

theorem State.updAudIn_matrix (s : State) (i : Nat) (f : AudIn → AudIn) : (s.updAudIn i f).matrix = s.matrix := rfl

/-- A received sample goes into its input's history, to its SRC, or away. -/
theorem State.receive_matrix (s : State) (g i : Nat) (k : Int) (v : BitVec 24) : (s.receive g i k v).matrix = s.matrix := by
  unfold State.receive
  extract_lets t x
  split
  · split <;> rfl
  · split <;> rfl

theorem State.noteBursts_matrix (s : State) (base : Nat) (bursts inBurst : List Nat) (status : List (Nat × List Byte)) (count : Nat) :
    (s.noteBursts base bursts inBurst status count).matrix = s.matrix :=
  foldl_matrix (fun _ _ => rfl) rfl

/-- One position of a converter takes samples from its input and delivers one to it. -/
theorem State.srcStep_matrix (s : State) (i : Nat) : (s.srcStep i).matrix = s.matrix := by
  unfold State.srcStep
  extract_lets x burst x' t
  have ht : t.matrix = s.matrix := rfl
  clear_value x x' burst t
  rw [← ht]
  split
  · extract_lets u
    split <;> rfl
  · split
    · split <;> rfl
    · rfl

/-- SRC channels go to inputs and come back from inputs; what else it does is to raise events. -/
theorem State.srcAssign_matrix (s : State) : s.srcAssign.matrix = s.matrix := by
  unfold State.srcAssign
  extract_lets asy need
  refine foldl_matrix (fun t i => ?_) (foldl_matrix (fun _ _ => rfl) rfl)
  extract_lets x
  split
  · rfl
  · split
    · rfl
    · split
      · rfl
      · split
        · exact ((State.occur_within _ _ _ _).matrix (by decide)).trans (State.grpRaise_matrix _ _ _ _ _)
        · rfl

/-! ## The class of a clock group (R325) -/

/-- The matrix with one group changed. -/
def Aud.updGrp (a : Aud) (g : Nat) (f : AudGrp → AudGrp) : Aud :=
  { a with grps := Tab.set AudGrp.reset a.grps g (f (Tab.get AudGrp.reset a.grps g)) }

theorem State.updAudGrp_matrix (s : State) (g : Nat) (f : AudGrp → AudGrp) : (s.updAudGrp g f).matrix = s.matrix.updGrp g f := rfl

/-- A group that takes a class starts its positions anew. -/
def AudGrp.withClass (x : AudGrp) (c : AudClass) : AudGrp := if x.cls = c then x else { x with cls := c, next := none }

theorem AudGrp.withClass_cls (x : AudGrp) (c : AudClass) : (x.withClass c).cls = c := by
  unfold AudGrp.withClass
  split
  · assumption
  · rfl

theorem AudGrp.withClass_ppm (x : AudGrp) (c : AudClass) : (x.withClass c).ppm = x.ppm := by
  unfold AudGrp.withClass
  split <;> rfl

theorem AudGrp.withClass_seen (x : AudGrp) (c : AudClass) : (x.withClass c).seen = x.seen := by
  unfold AudGrp.withClass
  split <;> rfl

/-- Another class changes the group alone, but for the inputs. -/
theorem State.setClass_matrix {s : State} {g : Nat} {c : AudClass} (h : (s.audGrp g).cls ≠ c) :
    (s.setClass g c).matrix = s.matrix.updGrp g fun y => { y with cls := c, next := none } := by
  unfold State.setClass
  extract_lets x t u
  rw [if_neg h, State.srcAssign_matrix]
  have ht : t.matrix = s.matrix := by
    dsimp only [t]
    split
    · exact foldl_matrix (fun v i => foldl_matrix (fun _ _ => rfl) (v.updAudIn_matrix i _)) rfl
    · rfl
  rw [← ht]
  exact (State.grpRaise_matrix _ _ _ _ _).trans (t.updAudGrp_matrix g _)

theorem State.setClass_audGrp (s : State) (g : Nat) (c : AudClass) : (s.setClass g c).audGrp g = (s.audGrp g).withClass c := by
  by_cases h : (s.audGrp g).cls = c
  · rw [State.setClass, if_pos h, AudGrp.withClass, if_pos h]
  · rw [AudGrp.withClass, if_neg h]
    have hgrp := congrArg (fun a : Aud => Tab.get AudGrp.reset a.grps g) (State.setClass_matrix h)
    exact hgrp.trans (Tab.get_set_self _ _ _ _)

theorem State.setClass_audN (s : State) (g : Nat) (c : AudClass) : (s.setClass g c).aud.n = s.aud.n := by
  by_cases h : (s.audGrp g).cls = c
  · rw [State.setClass, if_pos h]
  · show (s.setClass g c).matrix.n = s.matrix.n
    rw [State.setClass_matrix h, Aud.updGrp]

/-! ## The count of sample positions (R317) -/

theorem State.grpRaise_audN (s : State) (g bit code : Nat) (d : List (Nat × Nat × Nat)) : (s.grpRaise g bit code d).aud.n = s.aud.n :=
  State.audN_of_matrix (s.grpRaise_matrix g bit code d)

/-- SDI audio is placed by the count; it does not move it. -/
theorem State.sdiAudio_audN (s : State) (a : SdiAudio) : (s.sdiAudio a).aud.n = s.aud.n := by
  unfold State.sdiAudio
  split
  · rfl
  · extract_lets g x fresh s₁ s₂ auto s₃ ref next restart s₄ place s₅ ok s₆ s₇
    have h₂ : s₂.aud.n = s.aud.n := foldl_audN (fun t k => t.grpRaise_audN _ _ _ _) rfl
    clear_value s₂
    have h₃ : s₃.aud.n = s.aud.n := (s₂.setClass_audN _ _).trans h₂
    clear_value s₃ restart
    have h₄ : s₄.aud.n = s.aud.n := by
      cases restart with
      | true => exact (State.grpRaise_audN _ _ _ _ _).trans (foldl_audN (fun _ _ => rfl) h₃)
      | false => exact h₃
    clear_value s₄
    have h₆ : s₆.matrix = s₄.matrix := foldl_matrix (fun t e => t.receive_matrix _ _ _ _) (s₄.noteBursts_matrix _ _ _ _ _)
    clear_value s₆
    have h₇ : s₇.aud.n = s.aud.n := (State.audN_of_matrix h₆).trans h₄
    split
    · exact h₇
    · exact h₇

theorem State.switchVoice_audN (s : State) (o : Nat) (old : Option Nat) (v : Voice) (r : Nat) : (s.switchVoice o old v r).aud.n = s.aud.n := by
  unfold State.switchVoice
  extract_lets x oldNp newNp
  split
  · rfl
  · split
    · split <;> rfl
    · rfl

theorem State.switchOne_audN (s : State) (w : AudSwitch) (k : Nat) : (s.switchOne w k).aud.n = s.aud.n := by
  unfold State.switchOne
  extract_lets o x t
  cases w.act with
  | route i d => exact State.switchVoice_audN _ _ _ _ _
  | follow c d l => exact State.switchVoice_audN _ _ _ _ _
  | take i => exact State.switchVoice_audN _ _ _ _ _
  | set => rfl
  | unroute => exact State.switchVoice_audN _ _ _ _ _

theorem State.runSwitch_audN (s : State) (w : AudSwitch) : (s.runSwitch w).aud.n = s.aud.n := by
  unfold State.runSwitch
  extract_lets t u
  have hu : u.aud.n = s.aud.n :=
    foldl_audN (fun v k => (congrArg Aud.n ((State.nvTouch_within _ _).aud (by decide))).trans (v.switchOne_audN w k)) rfl
  split
  · exact (congrArg Aud.n ((u.completeAt_within _ _ _ _).aud (by decide))).trans hu
  · exact hu

theorem State.outStep_audN (s : State) (o : Nat) : (s.outStep o).aud.n = s.aud.n := by
  unfold State.outStep
  extract_lets x inBurst y np split r v t u
  show u.aud.n = s.aud.n
  dsimp only [u]
  split
  · exact (congrArg Aud.n ((t.routeRaise_within _ _ _ _).aud (by decide)) : _ = t.aud.n)
  · rfl

theorem State.embed_audN (s : State) (d : Nat) : (s.embed d).aud.n = s.aud.n := rfl

end Sys2Proof.Machine
end

section
/-!
SUPPORT. The commands of the audio matrix: routes, sample positions, packets and class measurements
(R313, R317, R323 to R325, R328 to R332, R339).
-/
namespace Sys2Proof.Machine

/-! ## AUDIO_SAMPLE_POSITION (R317) -/

theorem audioSamplePosition_result {s : State} (arr : List SdiAudio) (h : s.fget Adr.pwrStat 2 0 ≠ 3) :
    ∃ t, exec (.audioSamplePosition arr) s = .next t ∧ t.aud.n = s.aud.n + 1 := by
  refine ⟨_, rfl, ?_⟩
  rw [if_neg h]
  extract_lets n want off s₁ s₂ s₃ s₄ due s₅ s₆ s₇
  have h₁ : s₁.aud.n = s.aud.n + 1 := rfl
  clear_value s₁
  have h₂ : s₂.aud.n = s.aud.n + 1 := foldl_audN State.sdiAudio_audN h₁
  clear_value s₂
  have h₃ : s₃.aud.n = s.aud.n + 1 := foldl_audN (fun t e => State.audN_of_matrix (t.srcStep_matrix e.1)) h₂
  clear_value s₃
  have h₄ : s₄.aud.n = s.aud.n + 1 := (congrArg Aud.n (s₃.cnvAudio_within.aud (by decide))).trans h₃
  clear_value s₄
  have h₅ : s₅.aud.n = s.aud.n + 1 := foldl_audN State.runSwitch_audN h₄
  clear_value s₅
  have h₆ : s₆.aud.n = s.aud.n + 1 := by
    dsimp only [s₆]
    split
    · exact h₅
    · exact (State.audN_of_matrix s₅.srcAssign_matrix).trans h₅
  clear_value s₆
  have h₇ : s₇.aud.n = s.aud.n + 1 := foldl_audN State.outStep_audN h₆
  clear_value s₇
  exact foldl_audN State.embed_audN h₇

/-! ## AUDIO_PACKET (R323, R324) -/

section
variable {s : State} {f : Flow} {p : AudioPacket} {base count : Nat}
  (hrun : (s.aud.rxRuns.find? fun r => r.1 == f.target) = some (f.target, base, count))
include hrun

/-- A packet whose timestamp is among those seen is the other path's copy, and is dropped. -/
theorem State.audioFlow_repeated (hseen : p.hdr.ts ∈ (s.audGrp (128 + f.target)).seen) : s.audioFlow f p = s := by
  unfold State.audioFlow
  simp only [hrun, List.contains_iff_mem, hseen, if_true]

/-- The timestamp of a new packet is remembered. -/
theorem State.audioFlow_seen (hseen : p.hdr.ts ∉ (s.audGrp (128 + f.target)).seen) :
    ((s.audioFlow f p).audGrp (128 + f.target)).seen = (p.hdr.ts :: (s.audGrp (128 + f.target)).seen).take 64 := by
  unfold State.audioFlow
  simp only [hrun, List.contains_iff_mem, hseen, if_false]
  set s₁ := s.setAudGrp (128 + f.target) _
  set s₂ := s₁.setClass (128 + f.target) _ with hs₂
  set s₃ := s₂.noteBursts base _ _ _ _
  set s₄ := List.foldl _ s₃ _
  have h₄ : s₄.matrix = s₂.matrix :=
    foldl_matrix (fun t e => foldl_matrix (fun t c => t.receive_matrix _ _ _ _) rfl) (s₂.noteBursts_matrix _ _ _ _ _)
  calc ((s₄.noteLatency (128 + f.target) _).audGrp (128 + f.target)).seen
      = (s₄.audGrp (128 + f.target)).seen := by rw [State.noteLatency, State.audGrp_updAudGrp]
    _ = (s₂.audGrp (128 + f.target)).seen := by rw [State.audGrp_of_matrix h₄]
    _ = (s₁.audGrp (128 + f.target)).seen := by rw [hs₂, State.setClass_audGrp, AudGrp.withClass_seen]
    _ = _ := by rw [State.audGrp_setAudGrp]

end

/-- The audio flows that receive a packet, on one path or the other. -/
def State.audioTakers (s : State) (p : AudioPacket) : List Flow :=
  s.ing.flows.filter fun f => (f.kind == 2 || f.kind == 3) && s.linkUp p.hdr.port p.hdr.sub &&
    (f.a.accepts f.pt p.hdr || (match f.b with | some l => l.accepts f.pt p.hdr | none => false))

theorem exec_audioPacket (p : AudioPacket) (s : State) :
    exec (.audioPacket p) s = .next ((s.audioTakers p).foldl (fun s f => s.audioFlow f p) s) := rfl

theorem audioPacket_result {s : State} {f : Flow} {p : AudioPacket} {base count : Nat} (hflows : s.audioTakers p = [f])
    (hrun : (s.aud.rxRuns.find? fun r => r.1 == f.target) = some (f.target, base, count)) :
    ∃ t, exec (.audioPacket p) s = .next t ∧ p.hdr.ts ∈ (t.audGrp (128 + f.target)).seen ∧
      (p.hdr.ts ∈ (s.audGrp (128 + f.target)).seen → t = s) := by
  have hexec : exec (.audioPacket p) s = .next (s.audioFlow f p) := by
    rw [exec_audioPacket, hflows, List.foldl_cons, List.foldl_nil]
  refine ⟨_, hexec, ?_, State.audioFlow_repeated hrun⟩
  by_cases hseen : p.hdr.ts ∈ (s.audGrp (128 + f.target)).seen
  · rw [State.audioFlow_repeated hrun hseen]
    exact hseen
  · rw [State.audioFlow_seen hrun hseen]
    exact List.mem_cons_self

/-! ## AUDIO_SEND_PACKET (R324, R339) -/

/-- Sample positions in a packet of a send flow: 1 ms or 125 µs. -/
def Flow.positions (f : Flow) : Nat := if f.p2 = 1 then 6 else 48

/-- The samples of a packet, channel by channel, oldest first: L16 is rounded, the other forms carry 24 bits. -/
def State.audioBody (s : State) (f : Flow) (base count : Nat) : List (List Int) :=
  (List.range count).map fun c => (((s.audOut (base + c)).recent.take f.positions).reverse).map fun v =>
    if f.kind = 6 ∧ f.p1 = 0 then toL16 v else v.toInt

/-- The flow after a packet whose first sample has position `ts`. -/
def Flow.sentAudio (f : Flow) (ts : Nat) : Flow := { f with pkts := f.pkts + 1, rtpSeq := (f.rtpSeq + 1) % 65536, rtpTs := ts }

/-- Send flow `k`, whose run has `count` outputs from `base`, has sent a packet. -/
def State.sendAudio (s : State) (k : Nat) (f : Flow) (base count : Nat) : State :=
  (s.updAud fun a => { a with sent := Tab.set (fun _ => ([], [])) a.sent k (s.audioBody f base count,
    if f.kind = 7 then (List.range (count / 2)).map fun i => s.pairStatus (base + 2 * i) true else []) }).updIng fun g =>
    { g with flows := g.flows.map fun x => if x.handle = f.handle then x.sentAudio (s.audPos + 1 - f.positions) else x }

section
variable {s : State} {k : Fin 1024} {f : Flow} {base count : Nat}
  (hflow : (s.ing.flows.find? fun f => (f.kind == 6 || f.kind == 7) && f.target == k.val) = some f)
  (hrun : (s.aud.txRuns.find? fun r => r.1 == k.val) = some (k.val, base, count)) (hn : f.positions ≤ s.aud.n)
  (hpower : s.fget Adr.pwrStat 2 0 = 1) (hdue : f.pkts = 0 ∨ f.rtpTs + 2 * f.positions ≤ s.audPos + 1)
include hflow hrun hn hpower hdue

theorem exec_audioSendPacket : exec (.audioSendPacket k) s = .next (s.sendAudio k f base count) := by
  have hsends : ¬(s.aud.n < f.positions ∨ (f.pkts ≠ 0 ∧ s.audPos + 1 - f.positions < f.rtpTs + f.positions) ∨ s.fget Adr.pwrStat 2 0 ≠ 1) := by
    omega
  show execAudioSendPacket k s = _
  unfold execAudioSendPacket
  simp only [hflow, hrun]
  exact congrArg _ (if_neg hsends)

theorem audioSendPacket_result : ∃ t, exec (.audioSendPacket k) s = .next t ∧
    (Tab.get (fun _ => ([], [])) t.aud.sent k).1 = s.audioBody f base count ∧
    t.ing.flows = s.ing.flows.map fun x => if x.handle = f.handle then x.sentAudio (s.audPos + 1 - f.positions) else x :=
  ⟨_, exec_audioSendPacket hflow hrun hn hpower hdue, congrArg Prod.fst (Tab.get_set_self _ _ _ _), rfl⟩

end

/-! ## CLASS_MEASUREMENT (R325) -/

theorem classMeasurement_result {s : State} {g : Fin 1152} (ppm : Int) (steady : Bool) (h : (s.audGrp g).cls ≠ .none) :
    ∃ t, exec (.classMeasurement g ppm steady) s = .next t ∧ (t.audGrp g).ppm = ppm ∧
      (t.audGrp g).cls = s.classFor g (if ppm.natAbs ≤ 4 ∧ (g.val < 128 ∨ steady = true) then .sync else .async) := by
  refine ⟨_, rfl, ?_⟩
  rw [if_neg h]
  simp only [State.setClass_audGrp, AudGrp.withClass_ppm, AudGrp.withClass_cls, State.audGrp_updAudGrp]
  exact ⟨trivial, rfl⟩

/-! ## OP_AUDIO_ROUTE (R328 to R332) -/

/-- Routing without a switch position in range has fields out of range. -/
theorem State.routeBad_of_noWhen {s : State} {d : List Byte} (hact : u8 d 8 ≤ 2) (h : s.routeWhen d = none) : s.routeBad d = true := by
  have hcases : u8 d 8 = 0 ∨ u8 d 8 = 1 ∨ u8 d 8 = 2 := by omega
  obtain h0 | h1 | h2 := hcases
  · simp [State.routeBad, h, h0]
  · simp [State.routeBad, h, h1]
  · simp [State.routeBad, h, h2]

/-- Routing that passes its checks has its fields in range. -/
theorem State.routeBad_of_check {s : State} {j : Job} (h : s.routeCheck j = none) : s.routeBad j.d = false := by
  cases hb : s.routeBad j.d with
  | false => rfl
  | true => simp [State.routeCheck, firstFail, hb] at h

/-- The switch that a descriptor queues. -/
def Job.audSwitch (j : Job) (act : AudAct) (due : AudWhen) : AudSwitch :=
  { desc := true, ring := j.ring, stamp := j.stamp, owner := j.owner, first := u16 j.d 12, count := u8 j.d 10, act := act,
    gain := routeGain j.d, mute := ubit j.d 9 1, invert := ubit j.d 9 2, ramp := u8 j.d 11, due := due }

section
variable {n : Fin 64} {s u : State} {j : Job} (h : s.Starts n 0x50 j u)
include h

theorem State.Starts.aud : u.aud = s.aud := h.within.aud (by decide)

theorem State.Starts.routeWhen (d : List Byte) : u.routeWhen d = s.routeWhen d := by simp only [State.routeWhen, h.aud]

/-- A switch is queued behind those that wait, and its descriptor ends as its position is fixed. -/
theorem State.Starts.queueSwitch_result (act : AudAct) (hact : u8 j.d 8 ≤ 2) (hcheck : u.routeCheck j = none) (g : s.Good) :
    ∃ due, some due = s.routeWhen j.d ∧ (u.queueSwitch j act).RouteEnds j (j.audSwitch act due) ∧
      (u.queueSwitch j act).aud.switches = s.aud.switches ++ [j.audSwitch act due] := by
  obtain ⟨due, hdue⟩ : ∃ due, u.routeWhen j.d = some due := Option.ne_none_iff_exists'.1 fun hnone =>
    Bool.false_ne_true ((State.routeBad_of_check hcheck).symm.trans (State.routeBad_of_noWhen hact hnone))
  refine ⟨due, (h.routeWhen j.d ▸ hdue).symm, ?_⟩
  have w : Within (maskOf [.audio]) u (u.updAud fun a => { a with switches := a.switches ++ [j.audSwitch act due] }) :=
    State.updAud_via (by decide) (.refl _ u)
  have o := (h.opens g).within w (by decide) (by decide)
  have haud := (State.endOp_within (u.updAud fun a => { a with switches := a.switches ++ [j.audSwitch act due] }) j).aud (by decide)
  unfold State.queueSwitch
  simp only [hdue, Option.getD_some]
  cases due with
  | pos k => exact ⟨o.ended, (congrArg Aud.switches haud).trans (by rw [← h.aud]; rfl)⟩
  | ptp a b => exact ⟨o.ended, (congrArg Aud.switches haud).trans (by rw [← h.aud]; rfl)⟩
  | commit r q => exact ⟨o.1, by rw [← h.aud]; rfl⟩

theorem audioRoute_result (hact : u8 j.d 8 = 0) (hcheck : u.routeCheck j = none) (g : s.Good) : ∃ (t : State) (w : AudSwitch),
    exec (.audioRoute n) s = .next t ∧ t.RouteEnds j w ∧
    t.aud.switches = s.aud.switches ++ [w] ∧ w.ring = j.ring ∧ w.stamp = j.stamp ∧ w.owner = j.owner ∧ w.first = u16 j.d 12 ∧ w.count = u8 j.d 10 ∧
    w.act = (if ubit j.d 9 0 then .follow (u16 j.d 14) (u16 j.d 18) (u8 j.d 20)
      else .route (if u16 j.d 14 = 0xFFFF then none else some (u16 j.d 14)) (if u16 j.d 22 = 0xFFFF then none else some (u16 j.d 22))) ∧
    some w.due = s.routeWhen j.d := by
  set act : AudAct := if ubit j.d 9 0 then .follow (u16 j.d 14) (u16 j.d 18) (u8 j.d 20)
    else .route (if u16 j.d 14 = 0xFFFF then none else some (u16 j.d 14)) (if u16 j.d 22 = 0xFFFF then none else some (u16 j.d 22)) with hdef
  have hexec : exec (.audioRoute n) s = .next (u.queueSwitch j act) := by
    show execAudioRoute n s = _
    rw [execAudioRoute, h.runOp (by simp [hact])]
    simp only [hcheck, hdef, apply_ite (u.queueSwitch j)]
  obtain ⟨due, hdue, hends, hswitches⟩ := h.queueSwitch_result act (by omega) hcheck g
  exact ⟨_, _, hexec, hends, hswitches, rfl, rfl, rfl, rfl, rfl, rfl, hdue⟩

theorem audioSet_result (hact : u8 j.d 8 = 1) (hcheck : u.routeCheck j = none) (g : s.Good) : ∃ (t : State) (w : AudSwitch),
    exec (.audioSet n) s = .next t ∧ t.RouteEnds j w ∧
    t.aud.switches = s.aud.switches ++ [w] ∧ w.ring = j.ring ∧ w.stamp = j.stamp ∧ w.first = u16 j.d 12 ∧ w.count = u8 j.d 10 ∧ w.act = .set ∧
    w.gain = s16 j.d 16 ∧ w.mute = ubit j.d 9 1 ∧ w.invert = ubit j.d 9 2 ∧ w.ramp = u8 j.d 11 ∧ some w.due = s.routeWhen j.d := by
  have hexec : exec (.audioSet n) s = .next (u.queueSwitch j .set) := by
    show execAudioSet n s = _
    rw [execAudioSet, h.runOp (by simp [hact])]
    simp only [hcheck]
  obtain ⟨due, hdue, hends, hswitches⟩ := h.queueSwitch_result .set (by omega) hcheck g
  exact ⟨_, _, hexec, hends, hswitches, rfl, rfl, rfl, rfl, rfl, rfl, rfl, rfl, rfl, hdue⟩

theorem audioUnroute_result (hact : u8 j.d 8 = 2) (hcheck : u.routeCheck j = none) (g : s.Good) : ∃ (t : State) (w : AudSwitch),
    exec (.audioUnroute n) s = .next t ∧ t.RouteEnds j w ∧
    t.aud.switches = s.aud.switches ++ [w] ∧ w.ring = j.ring ∧ w.stamp = j.stamp ∧ w.first = u16 j.d 12 ∧ w.count = u8 j.d 10 ∧ w.act = .unroute ∧
    some w.due = s.routeWhen j.d := by
  have hexec : exec (.audioUnroute n) s = .next (u.queueSwitch j .unroute) := by
    show execAudioUnroute n s = _
    rw [execAudioUnroute, h.runOp (by simp [hact])]
    simp only [hcheck]
  obtain ⟨due, hdue, hends, hswitches⟩ := h.queueSwitch_result .unroute (by omega) hcheck g
  exact ⟨_, _, hexec, hends, hswitches, rfl, rfl, rfl, rfl, rfl, hdue⟩

/-- The companion of source `o`, none to remove it. -/
def State.setCompanion (s : State) (o : Nat) (v : Option (Nat × Nat)) : State :=
  (s.updAud fun a => { a with comps := Tab.set (fun _ => none) a.comps o v }).nvTouch 767

theorem audioCompanion_result (hact : u8 j.d 8 = 3) (hbad : u.routeBad j.d = false) (hown : j.mayUse (s.sourceOwner (u16 j.d 12)) = true) (g : s.Good) :
    ∃ t, exec (.audioCompanion n) s = .next t ∧ t.Answered j csOk 0 ∧
      Tab.get (fun _ => none) t.aud.comps (u16 j.d 12) = if u16 j.d 14 = 0xFFFF then none else some (u16 j.d 14, u8 j.d 10) := by
  set v := if u16 j.d 14 = 0xFFFF then none else some (u16 j.d 14, u8 j.d 10)
  have hexec : exec (.audioCompanion n) s = .next ((u.setCompanion (u16 j.d 12) v).complete j csOk 0) := by
    show execAudioCompanion n s = _
    rw [execAudioCompanion, h.runOp (by simp [hact])]
    simp only [firstFail, hbad, h.sourceOwner, hown, Bool.not_true, Bool.false_eq_true, if_false]
    rfl
  have w : Within (maskOf [.audio, .nv]) u (u.setCompanion (u16 j.d 12) v) :=
    (State.nvTouch_within _ _).via (by decide) (State.updAud_via (by decide) (.refl _ u))
  refine ⟨_, hexec, h.answered g w (by decide) (by decide) _ _, ?_⟩
  rw [(State.complete_within _ _ _ _).aud (by decide), State.setCompanion, (State.nvTouch_within _ _).aud (by decide)]
  exact Tab.get_set_self _ _ _ _

end

/-! ## The obligation -/

/-- Settles O34, command by command. -/
theorem audioMatrix : Obligations.AudioMatrix := fun _ _ _ ppm steady arr _ _ g =>
  ⟨fun _ _ h hact hcheck => audioRoute_result h hact hcheck g,
    fun _ _ h hact hcheck => audioSet_result h hact hcheck g,
    fun _ _ h hact hcheck => audioUnroute_result h hact hcheck g,
    fun _ _ h hact hbad hown => audioCompanion_result h hact hbad hown g,
    audioSamplePosition_result arr, fun _ _ _ hflows hrun => audioPacket_result hflows hrun,
    fun _ _ _ hflow hrun hn hpower hdue => audioSendPacket_result hflow hrun hn hpower hdue,
    classMeasurement_result ppm steady⟩

end Sys2Proof.Machine
end

section
/-!
SUPPORT. The tick of an idle step (R345), and the frame of the PHC, the references, the synthesisers and the polders (R345, R354, R356, R364).
-/
namespace Sys2Proof.Machine

theorem State.refIn_congr {s t : State} (e : t.tim.refs = s.tim.refs) (r : Nat) : t.refIn r = s.refIn r := by simp only [State.refIn, e]
theorem State.syn_congr {s t : State} (e : t.tim.syns = s.tim.syns) (n : Nat) : t.syn n = s.syn n := by simp only [State.syn, e]

theorem step_idle {s : State} (h : s.pending = []) : step s = .next s.tick := by rw [step, h]

/-- Settles O2: a step on an empty queue is the tick. -/
theorem idleStepTicks : Obligations.IdleStepTicks := fun s h =>
  ⟨s.tick, step_idle h, rfl, rfl, s.tick_within.only _ (by decide), rfl⟩

/-- Settles O16: the PHC's fields, and each unit's table, are parts of the state that `exec_frame` keeps. -/
theorem frameTime : Obligations.FrameTime := by
  refine fun c s t h => ⟨fun hp => ?_, fun hp => State.refIn_congr (exec_frame h hp), fun hp => State.syn_congr (exec_frame h hp),
    fun hp => State.polder_congr (exec_frame h hp)⟩
  have e := exec_frame h hp
  simp only [Part.same, Prod.mk.injEq] at e
  obtain ⟨hct, hphc, hincr, -, hwait, -⟩ := e
  rw [hct, hphc, hincr, hwait]

end Sys2Proof.Machine
end

section
/-!
SUPPORT. The PHC: its increment and holdover, its steps, and the latches of a read of it (R8, R346 to R349).
-/
namespace Sys2Proof.Machine

/-! ## What a cause leaves alone -/

/-- Of the register file a cause changes its own register alone. -/
theorem State.rd_raise_ne (s : State) {a cause : Nat} (h : a ≠ cause) (mask bit src code : Nat) (d : List (Nat × Nat × Nat)) :
    (s.raise cause mask bit src code d).rd a = s.rd a := by
  have hs : (s.setBit cause bit).rd a = s.rd a := s.rd_wr_ne _ h
  unfold State.raise
  extract_lets t
  split
  · rw [State.rd_congr (State.occur_regs _ _ _ _), hs]
  · exact hs

theorem State.phcRaise_tim (s : State) (bit code : Nat) (d : List (Nat × Nat × Nat)) : (s.phcRaise bit code d).tim = s.tim :=
  (s.phcRaise_within bit code d).tim (by decide) (by decide) (by decide) (by decide)

theorem State.phcRaise_rd (s : State) (bit code : Nat) (d : List (Nat × Nat × Nat)) {a : Nat} (h : a ≠ Adr.phcCause) :
    (s.phcRaise bit code d).rd a = s.rd a := s.rd_raise_ne h _ _ _ _ _

theorem State.phcRaise_flag (s : State) (bit code : Nat) (d : List (Nat × Nat × Nat)) {a : Nat} (h : a ≠ Adr.phcCause) (k : Nat) :
    (s.phcRaise bit code d).flag a k = s.flag a k := s.flag_raise_ne h _ _ _ _ _ _

theorem State.phcRaise_cause (s : State) {bit : Nat} (h : bit < 32) (code : Nat) (d : List (Nat × Nat × Nat)) :
    (s.phcRaise bit code d).flag Adr.phcCause bit = true := s.flag_raise_self _ _ h _ _ _

/-! ## Flags -/

theorem State.flag_of_fget {s t : State} {a k : Nat} (h : t.fget a k k = s.fget a k k) : t.flag a k = s.flag a k :=
  congrArg (fun v => decide (v = 1)) h

theorem State.flag_of_rd {s t : State} {a : Nat} (h : t.rd a = s.rd a) (k : Nat) : t.flag a k = s.flag a k :=
  State.flag_of_fget (congrArg (bits · k k) h)

/-- A flag is left by a change of a field below it. -/
theorem State.flag_fset_above (s : State) (a x : Nat) {hi lo k : Nat} (hw : lo ≤ hi + 1) (h : hi < k) (hk : k < 32) :
    (s.fset a hi lo x).flag a k = s.flag a k := by
  refine State.flag_of_fget ?_
  simp only [State.fget, State.fset, State.rd, State.wr, Tab.get_set_self, BitVec.toNat_ofNat, bits_mod_word hk, bits_putBits_above _ _ hw h]

theorem State.flag_fset_ne (s : State) {a b : Nat} (hi lo x k : Nat) (h : b ≠ a) : (s.fset a hi lo x).flag b k = s.flag b k :=
  State.flag_of_fget (s.fget_fset_ne _ _ _ _ _ h)

theorem State.flag_fset_self (s : State) (a : Nat) {k : Nat} (h : k < 32) (b : Bool) : (s.fset a k k (b2n b)).flag a k = b := by
  cases b
  · exact s.flag_fset_zero a h
  · exact s.flag_setBit_self a h

/-! ## The increment (R347, R349) -/

/-- The increment that a write of INCR_FRAC puts in force. -/
def State.incrClamped (s : State) (frac : Nat) : Nat := max incrMin (min incrMax (s.fget Adr.incrNs 3 0 * 4294967296 + frac))

theorem Within.increment {m : Nat} {s t : State} (w : Within m s t) (h : m.testBit 26 = false) :
    t.tim.incr = s.tim.incr ∧ t.tim.incrAt = s.tim.incrAt ∧ t.tim.phc = s.tim.phc := by
  have e := w.same .phc h
  simp only [Part.same, Prod.mk.injEq] at e
  obtain ⟨-, hphc, hincr, hat, -, -⟩ := e
  exact ⟨hincr, hat, hphc⟩

/-- The state in which an increment is in force. -/
def State.incrLoaded (s : State) (new : Nat) : State := s.updTim fun t => { t with incr := new, incrAt := t.ct }

theorem State.incrLoaded_increment (s : State) (new : Nat) :
    (s.incrLoaded new).tim.incr = new ∧ (s.incrLoaded new).tim.incrAt = s.tim.ct ∧ (s.incrLoaded new).tim.phc = s.tim.phc := ⟨rfl, rfl, rfl⟩

/-- What an increment write does once the increment is in force leaves the PHC alone. -/
theorem State.incrWrite_within_loaded (s : State) (frac : Nat) :
    Within 268435522 ((s.wr Adr.incrFrac frac).incrLoaded (s.incrClamped frac)) (s.incrWrite frac) := by
  unfold State.incrWrite
  extract_lets s1 ask new old s2 s3 s4
  have hask : ask = s.fget Adr.incrNs 3 0 * 4294967296 + frac :=
    congrArg (· * 4294967296 + frac) (s.fget_wr_ne frac _ _ (show Adr.incrNs ≠ Adr.incrFrac by decide))
  have hnew : s1.incrLoaded (s.incrClamped frac) = s2 := by rw [State.incrClamped, ← hask]; rfl
  have h3 : Within 268435522 s2 s3 :=
    Within.ite (Within.refl _ _) ((State.phcRaise_within _ _ _ _).via (by decide) ((s2.setBit_within _ _).mono (by decide)))
  have h4 : Within 268435522 s2 s4 := Within.ite ((s3.phcHoldover_within false).via (by decide) h3) h3
  rw [hnew]
  exact Within.fold h4 fun t n h => (t.synFollow_within n old new).via (by decide) h

theorem State.incrWrite_increment (s : State) (frac : Nat) :
    (s.incrWrite frac).tim.incr = s.incrClamped frac ∧ (s.incrWrite frac).tim.incrAt = s.tim.ct ∧ (s.incrWrite frac).tim.phc = s.tim.phc := by
  obtain ⟨hincr, hat, hphc⟩ := (s.incrWrite_within_loaded frac).increment (by decide)
  obtain ⟨hincr', hat', hphc'⟩ := (s.wr Adr.incrFrac frac).incrLoaded_increment (s.incrClamped frac)
  exact ⟨hincr.trans hincr', hat.trans hat', hphc.trans hphc'⟩

theorem phcIncrWrite_result (frac : BitVec 32) (s : State) : ∃ t, exec (.phcIncrWrite frac) s = .next t ∧
    t.tim.incr = max incrMin (min incrMax (s.fget Adr.incrNs 3 0 * 4294967296 + frac.toNat)) ∧ t.tim.incrAt = s.tim.ct ∧ t.tim.phc = s.tim.phc :=
  ⟨s.incrWrite frac.toNat, rfl, s.incrWrite_increment frac.toNat⟩

theorem phcHoldoverTimeout_result {s : State} (hf : s.flag Adr.phcStat 0 = false)
    (hdue : s.tim.incrAt + msTicks (s.fget Adr.phcHold 15 0) ≤ s.now) :
    ∃ t, exec .phcHoldoverTimeout s = .next t ∧ t.flag Adr.phcStat 0 = true ∧ t.flag Adr.phcCause 3 = true := by
  have he : exec .phcHoldoverTimeout s = .next (s.phcHoldover true) := by
    show execPhcHoldoverTimeout s = _
    rw [execPhcHoldoverTimeout, if_pos ⟨hf, hdue⟩]
  refine ⟨_, he, ?_, State.phcRaise_cause _ (by decide) _ _⟩
  rw [State.phcHoldover, State.phcRaise_flag _ _ _ _ (by decide), State.flag_fset_self _ _ (by decide)]

/-! ## Steps (R348) -/

/-- The PHC time to which a step takes a PHC that shows `phc`. -/
def PhcStep.target (p : PhcStep) (phc : Nat) : Nat :=
  if p.set then p.sec.toNat * phcUnit + p.ns.toNat * 4294967296
  else (((phc : Int) + (p.sec.toInt * 1000000000 + p.ns.toInt) * 4294967296) % ((281474976710656 * phcUnit : Nat) : Int)).toNat

theorem State.phcApply_eq (s : State) (p : PhcStep) : s.phcApply p = s.phcJump (p.target s.tim.phc) (b2n p.set) := by
  unfold State.phcApply PhcStep.target
  cases p.set <;> rfl

theorem State.phcJump_tim (s : State) (new kind : Nat) : (s.phcJump new kind).tim = { s.tim with phc := new } :=
  State.phcRaise_tim _ _ _ _

theorem State.phcJump_rd (s : State) (new kind : Nat) {a : Nat} (h : a ≠ Adr.phcStat) (h' : a ≠ Adr.phcCause) :
    (s.phcJump new kind).rd a = s.rd a :=
  (State.phcRaise_rd _ _ _ _ h').trans (State.rd_wr_ne _ _ h)

/-- The count of steps lies above the flags of PHC_STAT. -/
theorem State.phcJump_stat (s : State) (new kind : Nat) {k : Nat} (h : k < 16) :
    (s.phcJump new kind).flag Adr.phcStat k = s.flag Adr.phcStat k :=
  (State.phcRaise_flag _ _ _ _ (by decide) _).trans (State.flag_fset_below _ _ _ _ _ h (by decide))

theorem State.phcJump_cause (s : State) (new kind : Nat) : (s.phcJump new kind).flag Adr.phcCause 0 = true :=
  State.phcRaise_cause _ (by decide) _ _

theorem State.stepGo_eq {s : State} (h : s.flag Adr.phcStat 1 = false) : s.stepGo =
    if (s.askedStep (s.flag Adr.stepCtl 0)).ok = false then s.setBit Adr.phcStat 4
    else if s.flag Adr.stepCtl 2 then (s.updTim fun t => { t with stepWait := some (s.askedStep (s.flag Adr.stepCtl 0)) }).setBit Adr.phcStat 1
    else s.phcApply (s.askedStep (s.flag Adr.stepCtl 0)) := by
  rw [State.stepGo, h]
  rfl

/-- STEP_CTL as a write of go leaves it. -/
def State.stepCtlWritten (s : State) (mode atPps : Bool) : State := (s.fset Adr.stepCtl 0 0 (b2n mode)).fset Adr.stepCtl 2 2 (b2n atPps)

theorem State.stepCtlWritten_flag (s : State) (mode atPps : Bool) {a : Nat} (h : a ≠ Adr.stepCtl) (k : Nat) :
    (s.stepCtlWritten mode atPps).flag a k = s.flag a k :=
  (State.flag_fset_ne _ _ _ _ _ h).trans (s.flag_fset_ne _ _ _ _ h)

theorem State.stepCtlWritten_mode (s : State) (mode atPps : Bool) : (s.stepCtlWritten mode atPps).flag Adr.stepCtl 0 = mode :=
  (State.flag_fset_below _ _ _ _ _ (by decide) (by decide)).trans (s.flag_fset_self _ (by decide) mode)

theorem State.stepCtlWritten_atPps (s : State) (mode atPps : Bool) : (s.stepCtlWritten mode atPps).flag Adr.stepCtl 2 = atPps :=
  State.flag_fset_self _ _ (by decide) atPps

/-- The amount of a step is in other registers than its mode. -/
theorem State.stepCtlWritten_asked (s : State) (mode atPps set : Bool) : (s.stepCtlWritten mode atPps).askedStep set = s.askedStep set := by
  have hrd : ∀ a, a ≠ Adr.stepCtl → (s.stepCtlWritten mode atPps).rd a = s.rd a := fun a h =>
    (State.rd_wr_ne _ _ h).trans (s.rd_wr_ne _ h)
  simp only [State.askedStep, State.fget, hrd Adr.stepNs (by decide), hrd Adr.stepSecLo (by decide), hrd Adr.stepSecHi (by decide)]

section
variable {s : State} (hf : s.flag Adr.phcStat 1 = false) {mode atPps : Bool}
include hf

theorem exec_phcStepGo : exec (.phcStepGo mode atPps) s = .next (
    if (s.askedStep mode).ok = false then (s.stepCtlWritten mode atPps).setBit Adr.phcStat 4
    else if atPps then ((s.stepCtlWritten mode atPps).updTim fun t => { t with stepWait := some (s.askedStep mode) }).setBit Adr.phcStat 1
    else (s.stepCtlWritten mode atPps).phcApply (s.askedStep mode)) := by
  have h := State.stepGo_eq ((s.stepCtlWritten_flag mode atPps (by decide) 1).trans hf)
  rw [State.stepCtlWritten_mode, State.stepCtlWritten_atPps, State.stepCtlWritten_asked] at h
  exact congrArg Host.Outcome.next h

theorem phcStepGo_refused (hok : (s.askedStep mode).ok = false) :
    ∃ t, exec (.phcStepGo mode atPps) s = .next t ∧ t.flag Adr.phcStat 4 = true ∧ t.tim = s.tim :=
  ⟨(s.stepCtlWritten mode atPps).setBit Adr.phcStat 4, (exec_phcStepGo hf).trans (by rw [if_pos hok]), State.flag_setBit_self _ _ (by decide), rfl⟩

theorem phcStepGo_waits (hok : (s.askedStep mode).ok = true) (hpps : atPps = true) :
    ∃ t, exec (.phcStepGo mode atPps) s = .next t ∧ t.flag Adr.phcStat 1 = true ∧ t.tim = { s.tim with stepWait := some (s.askedStep mode) } :=
  ⟨_, (exec_phcStepGo hf).trans (by rw [if_neg (Bool.not_eq_false _ ▸ hok), if_pos hpps]), State.flag_setBit_self _ _ (by decide), rfl⟩

theorem phcStepGo_applies (hok : (s.askedStep mode).ok = true) (hpps : atPps = false) :
    ∃ t, exec (.phcStepGo mode atPps) s = .next t ∧ t.flag Adr.phcCause 0 = true ∧ t.tim.phc = (s.askedStep mode).target s.tim.phc := by
  refine ⟨_, (exec_phcStepGo hf).trans (by rw [if_neg (Bool.not_eq_false _ ▸ hok), if_neg (Bool.eq_false_iff.1 hpps)]), ?_⟩
  rw [State.phcApply_eq]
  exact ⟨State.phcJump_cause _ _ _, congrArg Tim.phc (State.phcJump_tim _ _ _)⟩

theorem phcStepGo_result :
    ((s.askedStep mode).ok = false → ∃ t, exec (.phcStepGo mode atPps) s = .next t ∧ t.flag Adr.phcStat 4 = true ∧ t.tim = s.tim) ∧
    ((s.askedStep mode).ok = true → atPps = true → ∃ t, exec (.phcStepGo mode atPps) s = .next t ∧ t.flag Adr.phcStat 1 = true ∧
      t.tim = { s.tim with stepWait := some (s.askedStep mode) }) ∧
    ((s.askedStep mode).ok = true → atPps = false → ∃ t, exec (.phcStepGo mode atPps) s = .next t ∧ t.flag Adr.phcCause 0 = true ∧
      (mode = true → t.tim.phc = (s.askedStep true).sec.toNat * phcUnit + (s.askedStep true).ns.toNat * 4294967296) ∧
      (mode = false → t.tim.phc = (((s.tim.phc : Int) + ((s.askedStep false).sec.toInt * 1000000000 + (s.askedStep false).ns.toInt) * 4294967296) %
        ((281474976710656 * phcUnit : Nat) : Int)).toNat)) := by
  refine ⟨phcStepGo_refused hf, phcStepGo_waits hf, fun hok hpps => ?_⟩
  obtain ⟨t, he, hcause, hphc⟩ := phcStepGo_applies hf hok hpps
  refine ⟨t, he, hcause, ?_, ?_⟩
  · rintro rfl
    exact hphc
  · rintro rfl
    exact hphc

end

/-! ## Latches of a read of NOW_NS (R8, R346) -/

theorem State.unlatch_latch_self (s : State) (who a v : Nat) : ((s.latch who a v).unlatch who a).1 = some (BitVec.ofNat 32 v) := by
  have hgone : (s.latches.filter fun l => !(l.who == who && l.addr == a)).find? (fun l => l.who == who && l.addr == a) = none :=
    List.find?_eq_none.2 fun l hl => by simpa only [Bool.not_eq_true', Bool.not_eq_true] using (List.mem_filter.1 hl).2
  rw [State.unlatch_fst, State.latch, List.find?_append, hgone]
  simp

theorem State.unlatch_latch_ne (s : State) (who v : Nat) {a b : Nat} (h : b ≠ a) : ((s.latch who a v).unlatch who b).1 = (s.unlatch who b).1 := by
  have hkept : (s.latches.filter fun l => !(l.who == who && l.addr == a)).find? (fun l => l.who == who && l.addr == b) =
      s.latches.find? fun l => l.who == who && l.addr == b := by
    rw [List.find?_filter]
    congr 1
    funext l
    by_cases hb : l.addr = b
    · cases l.who == who <;> simp [hb, h]
    · simp [hb]
  rw [State.unlatch_fst, State.unlatch_fst, State.latch, List.find?_append, hkept]
  simp [h.symm]

theorem phcNowRead_result (who : Fin 3) (s : State) : ∃ t, exec (.phcNowRead who) s = .next t ∧ t.reply = .word (BitVec.ofNat 32 s.phcNs) ∧
    s.Only t [.latches, .reply] ∧ (t.unlatch who Adr.nowFrac).1 = some (BitVec.ofNat 32 s.phcFrac) ∧
    (t.unlatch who Adr.nowSecLo).1 = some (BitVec.ofNat 32 (s.phcSec % 4294967296)) ∧
    (t.unlatch who Adr.nowSecHi).1 = some (BitVec.ofNat 32 (s.phcSec / 4294967296)) := by
  have hlatches : (s.readNow who).latches =
      (((s.latch who Adr.nowFrac s.phcFrac).latch who Adr.nowSecLo (s.phcSec % 4294967296)).latch who Adr.nowSecHi (s.phcSec / 4294967296)).latches := rfl
  refine ⟨s.readNow who, rfl, rfl, (s.readNow_within who).only _ (by decide), ?_, ?_, ?_⟩ <;> rw [State.unlatch_congr hlatches]
  · rw [State.unlatch_latch_ne _ _ _ (by decide), State.unlatch_latch_ne _ _ _ (by decide), State.unlatch_latch_self]
  · rw [State.unlatch_latch_ne _ _ _ (by decide), State.unlatch_latch_self]
  · exact State.unlatch_latch_self _ _ _ _

end Sys2Proof.Machine
end

section
/-!
SUPPORT. PPS: an edge that is taken, its capture and its alignment, and the loss of the edges (R352, R365; log 35).
-/
namespace Sys2Proof.Machine

/-! ## The capture -/

theorem State.ppsLatch_tim (s : State) (c : Nat) : (s.ppsLatch c).tim = s.tim :=
  (s.ppsLatch_within c).tim (by decide) (by decide) (by decide) (by decide)

theorem State.ppsLatch_stat (s : State) (c k : Nat) : (s.ppsLatch c).flag Adr.phcStat k = s.flag Adr.phcStat k := by
  unfold State.ppsLatch
  extract_lets t
  have ht : t.flag Adr.phcStat k = s.flag Adr.phcStat k := State.flag_of_rd (by
    simp only [t]
    rw [State.rd_wr_ne _ _ (by decide), State.rd_wr_ne _ _ (by decide), State.rd_wr_ne _ _ (by decide)]) k
  split
  · exact (State.phcRaise_flag _ _ _ _ (by decide) _).trans ht
  · exact ht

theorem phcNs_lt (c : Nat) : c % phcUnit / 4294967296 < 2 ^ 32 := by
  unfold phcUnit
  omega

theorem State.ppsLatch_ns (s : State) (c : Nat) : (s.ppsLatch c).rd Adr.ppsNs = c % phcUnit / 4294967296 := by
  unfold State.ppsLatch
  extract_lets t
  have ht : t.rd Adr.ppsNs = c % phcUnit / 4294967296 := by
    simp only [t]
    rw [State.rd_wr_ne _ _ (by decide), State.rd_wr_ne _ _ (by decide), State.rd_wr_self _ _ (phcNs_lt c)]
  split
  · exact (State.phcRaise_rd _ _ _ _ (by decide)).trans ht
  · exact ht

/-! ## The alignment to whole seconds -/

/-- The whole second nearest to a capture. -/
def wholeSecond (c : Nat) : Nat := (c + phcUnit / 2) / phcUnit % 281474976710656 * phcUnit

/-- ALIGN is over: the mode is CAPTURE again, and its page is queued for the store. -/
def State.alignDone (s : State) : State := (s.fset Adr.ppsCtl 1 0 1).nvTouch 512

theorem State.nvTouch_regs (s : State) (page : Nat) : (s.nvTouch page).regs = s.regs := (s.nvTouch_within page).same .regs (by decide)

theorem State.alignDone_tim (s : State) : s.alignDone.tim = s.tim :=
  (State.nvTouch_within _ _).tim (by decide) (by decide) (by decide) (by decide)

theorem State.alignDone_rd (s : State) {a : Nat} (h : a ≠ Adr.ppsCtl) : s.alignDone.rd a = s.rd a :=
  (State.rd_congr (State.nvTouch_regs _ _) a).trans (s.rd_wr_ne _ h)

theorem State.alignDone_flag (s : State) {a : Nat} (h : a ≠ Adr.ppsCtl) (k : Nat) : s.alignDone.flag a k = s.flag a k :=
  State.flag_of_rd (s.alignDone_rd h) k

/-- The capture and the alignment at an edge; `stepped`: a waiting step has just applied. -/
def State.ppsTake (s : State) (stepped : Bool) : State :=
  if s.fget Adr.ppsCtl 1 0 = 1 ∨ s.fget Adr.ppsCtl 1 0 = 2 then
    if s.fget Adr.ppsCtl 1 0 = 2 then
      if stepped then (s.ppsLatch s.ppsCapture).alignDone else (s.ppsLatch s.ppsCapture).alignDone.phcJump (wholeSecond s.ppsCapture) 2
    else s.ppsLatch s.ppsCapture
  else s

/-- Only ALIGN without a step changes the time. -/
theorem State.ppsTake_tim (s : State) (stepped : Bool) : (s.ppsTake stepped).tim =
    if s.fget Adr.ppsCtl 1 0 = 2 ∧ stepped = false then { s.tim with phc := wholeSecond s.ppsCapture } else s.tim := by
  unfold State.ppsTake
  by_cases h2 : s.fget Adr.ppsCtl 1 0 = 2
  · cases stepped
    · simp only [h2, or_true, if_true, Bool.false_eq_true, if_false, and_self, State.phcJump_tim, State.alignDone_tim, State.ppsLatch_tim]
    · simp only [h2, or_true, if_true, Bool.true_eq_false, and_false, if_false, State.alignDone_tim, State.ppsLatch_tim]
  · simp only [h2, or_false, false_and, if_false]
    split
    · exact s.ppsLatch_tim _
    · rfl

theorem State.ppsTake_stat (s : State) (stepped : Bool) {k : Nat} (h : k < 16) : (s.ppsTake stepped).flag Adr.phcStat k = s.flag Adr.phcStat k := by
  have hdone : (s.ppsLatch s.ppsCapture).alignDone.flag Adr.phcStat k = s.flag Adr.phcStat k :=
    (State.alignDone_flag _ (by decide) k).trans (s.ppsLatch_stat _ k)
  unfold State.ppsTake
  split
  · split
    · split
      · exact hdone
      · exact (State.phcJump_stat _ _ _ h).trans hdone
    · exact s.ppsLatch_stat _ k
  · rfl

theorem State.ppsTake_ns {s : State} (hm : s.fget Adr.ppsCtl 1 0 = 1 ∨ s.fget Adr.ppsCtl 1 0 = 2) (stepped : Bool) :
    (s.ppsTake stepped).rd Adr.ppsNs = s.ppsCapture % phcUnit / 4294967296 := by
  have hdone : (s.ppsLatch s.ppsCapture).alignDone.rd Adr.ppsNs = s.ppsCapture % phcUnit / 4294967296 :=
    (State.alignDone_rd _ (by decide)).trans (s.ppsLatch_ns _)
  rw [State.ppsTake, if_pos hm]
  split
  · split
    · exact hdone
    · exact (State.phcJump_rd _ _ _ (by decide) (by decide)).trans hdone
  · exact s.ppsLatch_ns _

/-! ## PPS_EDGE -/

/-- An edge is seen: PHC_STAT shows PPS present. -/
def State.ppsSeen (s : State) : State := (s.updTim fun t => { t with ppsAt := some t.ct }).setBit Adr.phcStat 2

/-- The step that waits applies. -/
def State.ppsStep (s : State) : State :=
  match s.tim.stepWait with
  | some p => ((s.updTim fun t => { t with stepWait := none }).fset Adr.phcStat 1 1 0).phcApply p
  | none => s

theorem State.ppsSeen_fget (s : State) (hi lo : Nat) : s.ppsSeen.fget Adr.ppsCtl hi lo = s.fget Adr.ppsCtl hi lo :=
  State.fget_fset_ne _ _ _ _ _ _ (by decide)

theorem State.ppsSeen_capture (s : State) : s.ppsSeen.ppsCapture = s.ppsCapture := by
  rw [State.ppsCapture, s.ppsSeen_fget]
  rfl

theorem State.ppsStep_none {s : State} (h : s.tim.stepWait = none) : s.ppsStep = s := by rw [State.ppsStep, h]

theorem State.ppsStep_tim (s : State) : s.ppsStep.tim.stepWait = none ∧ s.ppsStep.tim.ppsAt = s.tim.ppsAt := by
  unfold State.ppsStep
  split
  · rw [State.phcApply_eq, State.phcJump_tim]
    exact ⟨rfl, rfl⟩
  next h => exact ⟨h, rfl⟩

theorem State.ppsStep_stat (s : State) : s.ppsStep.flag Adr.phcStat 2 = s.flag Adr.phcStat 2 := by
  unfold State.ppsStep
  split
  · rw [State.phcApply_eq, State.phcJump_stat _ _ _ (by decide)]
    exact State.flag_fset_above _ _ _ (by decide) (by decide) (by decide)
  · rfl

theorem State.ppsTake_kept (s : State) (stepped : Bool) : (s.ppsTake stepped).tim.stepWait = s.tim.stepWait ∧ (s.ppsTake stepped).tim.ppsAt = s.tim.ppsAt := by
  rw [State.ppsTake_tim]
  split <;> exact ⟨rfl, rfl⟩

section
variable {s : State} (hlate : ∀ e, s.tim.ppsAt = some e → e + msTicks 500 ≤ s.now)
include hlate

/-- An edge that comes no sooner than 0.5 s after the one before is taken. -/
theorem exec_ppsEdge : exec .ppsEdge s = .next (s.ppsSeen.ppsStep.ppsTake s.tim.stepWait.isSome) := by
  have hnot : (match s.tim.ppsAt with | some t => decide (s.now < t + msTicks 500) | none => false) = false := by
    cases h : s.tim.ppsAt with
    | none => rfl
    | some e => exact decide_eq_false (Nat.not_lt.2 (hlate e h))
  exact congrArg Host.Outcome.next (if_neg (Bool.eq_false_iff.1 hnot))

theorem ppsEdge_result : ∃ t, exec .ppsEdge s = .next t ∧ t.tim.ppsAt = some s.tim.ct ∧ t.flag Adr.phcStat 2 = true ∧ t.tim.stepWait = none ∧
    (s.tim.stepWait = none → s.fget Adr.ppsCtl 1 0 = 1 ∨ s.fget Adr.ppsCtl 1 0 = 2 → t.rd Adr.ppsNs = s.ppsCapture % phcUnit / 4294967296) ∧
    (s.tim.stepWait = none → s.fget Adr.ppsCtl 1 0 ≠ 2 → t.tim.phc = s.tim.phc) ∧
    (s.tim.stepWait = none → s.fget Adr.ppsCtl 1 0 = 2 → t.tim.phc = (s.ppsCapture + phcUnit / 2) / phcUnit % 281474976710656 * phcUnit) := by
  obtain ⟨hwait, hat⟩ := s.ppsSeen.ppsStep.ppsTake_kept s.tim.stepWait.isSome
  obtain ⟨hwait', hat'⟩ := s.ppsSeen.ppsStep_tim
  have hstat : s.ppsSeen.flag Adr.phcStat 2 = true := State.flag_setBit_self _ _ (by decide)
  have hnone : s.tim.stepWait = none → s.ppsSeen.ppsStep.ppsTake s.tim.stepWait.isSome = s.ppsSeen.ppsTake false := fun h => by
    rw [State.ppsStep_none (show s.ppsSeen.tim.stepWait = none from h), h]
    rfl
  refine ⟨_, exec_ppsEdge hlate, hat.trans hat', ?_, hwait.trans hwait', fun h hm => ?_, fun h hm => ?_, fun h hm => ?_⟩
  · rw [State.ppsTake_stat _ _ (by decide), State.ppsStep_stat, hstat]
  · rw [← s.ppsSeen_fget] at hm
    rw [hnone h, State.ppsTake_ns hm, s.ppsSeen_capture]
  · rw [← s.ppsSeen_fget] at hm
    rw [hnone h, State.ppsTake_tim, if_neg fun k => hm k.1]
    rfl
  · rw [← s.ppsSeen_fget] at hm
    rw [hnone h, State.ppsTake_tim, if_pos ⟨hm, rfl⟩, s.ppsSeen_capture]
    rfl

end

/-! ## PPS_LOST -/

theorem ppsLost_result {s : State} {e : Nat} (he : s.tim.ppsAt = some e) (hdue : e + msTicks 1500 ≤ s.now) (hf : s.flag Adr.phcStat 2 = true) :
    ∃ t, exec .ppsLost s = .next t ∧ t.flag Adr.phcStat 2 = false ∧ t.flag Adr.phcCause 2 = true := by
  have hexec : exec .ppsLost s = .next ((s.fset Adr.phcStat 2 2 0).phcRaise 2 0x0C02 []) := by
    show execPpsLost s = _
    simp only [execPpsLost, he, hdue, hf, decide_true, Bool.and_self, if_true]
  refine ⟨_, hexec, ?_, State.phcRaise_cause _ (by decide) _ _⟩
  rw [State.phcRaise_flag _ _ _ _ (by decide), State.flag_fset_zero _ _ (by decide)]

end Sys2Proof.Machine
end

section
/-!
SUPPORT. The analog references: alignment points and the loss of sync (R354).
-/
namespace Sys2Proof.Machine

/-! ## What an input shows -/

/-- Input `r` holds `x`, its registers show an edge at `ns`, the state `st` and the format `mode`. -/
structure State.RefShows (t : State) (r ns : Nat) (x : RefIn) (st mode : Nat) : Prop where
  edge : t.rd (Adr.refEdgeNs r) = ns
  held : t.refIn r = x
  state : t.fget (Adr.refStat r) 1 0 = st
  mode : t.fget (Adr.refStat r) 15 8 = mode

theorem Adr.refEdgeNs_ne_refStat (r : Nat) : Adr.refEdgeNs r ≠ Adr.refStat r := by unfold Adr.refEdgeNs Adr.refStat; omega
theorem Adr.refEdgeNs_ne_refEdgeSecLo (r : Nat) : Adr.refEdgeNs r ≠ Adr.refEdgeSecLo r := by unfold Adr.refEdgeNs Adr.refEdgeSecLo; omega
theorem Adr.refEdgeNs_ne_refCause (r : Nat) : Adr.refEdgeNs r ≠ Adr.refCause r := by unfold Adr.refEdgeNs Adr.refCause; omega
theorem Adr.refStat_ne_refEdgeSecLo (r : Nat) : Adr.refStat r ≠ Adr.refEdgeSecLo r := by unfold Adr.refStat Adr.refEdgeSecLo; omega
theorem Adr.refStat_ne_refCause (r : Nat) : Adr.refStat r ≠ Adr.refCause r := by unfold Adr.refStat Adr.refCause; omega
theorem Adr.refCtl_ne_refEdgeNs (r : Nat) : Adr.refCtl r ≠ Adr.refEdgeNs r := by unfold Adr.refCtl Adr.refEdgeNs; omega
theorem Adr.refCtl_ne_refEdgeSecLo (r : Nat) : Adr.refCtl r ≠ Adr.refEdgeSecLo r := by unfold Adr.refCtl Adr.refEdgeSecLo; omega

theorem State.refRaise_tim (s : State) (r bit code : Nat) (d : List (Nat × Nat × Nat)) : (s.refRaise r bit code d).tim = s.tim :=
  (s.refRaise_within r bit code d).tim (by decide) (by decide) (by decide) (by decide)

theorem State.refRaise_rd (s : State) (r bit code : Nat) (d : List (Nat × Nat × Nat)) {a : Nat} (h : a ≠ Adr.refCause r) :
    (s.refRaise r bit code d).rd a = s.rd a := s.rd_raise_ne h _ _ _ _ _

theorem State.refRaise_cause (s : State) (r : Nat) {bit : Nat} (h : bit < 32) (code : Nat) (d : List (Nat × Nat × Nat)) :
    (s.refRaise r bit code d).flag (Adr.refCause r) bit = true := s.flag_raise_self _ _ h _ _ _

theorem State.RefShows.refRaise {t : State} {r ns st mode : Nat} {x : RefIn} (h : t.RefShows r ns x st mode) (bit code : Nat)
    (d : List (Nat × Nat × Nat)) : (t.refRaise r bit code d).RefShows r ns x st mode where
  edge := (t.refRaise_rd r bit code d (Adr.refEdgeNs_ne_refCause r)).trans h.edge
  held := (State.refIn_congr (congrArg Tim.refs (t.refRaise_tim r bit code d)) r).trans h.held
  state := by rw [State.fget, t.refRaise_rd r bit code d (Adr.refStat_ne_refCause r)]; exact h.state
  mode := by rw [State.fget, t.refRaise_rd r bit code d (Adr.refStat_ne_refCause r)]; exact h.mode

theorem toTwos_lt (w : Nat) (v : Int) : toTwos w v < 2 ^ w := by
  have hpos : (0 : Int) < 2 ^ w := by positivity
  have hlt := Int.emod_lt_of_pos v hpos
  have hnn := Int.emod_nonneg v hpos.ne'
  unfold toTwos
  zify
  rw [Int.toNat_of_nonneg hnn]
  exact hlt

theorem State.refShow_rd (s : State) (r : Nat) {st mode : Nat} (hst : st < 4) (hmode : mode < 256) (tri : Bool) (ppm : Int) :
    (s.refShow r st mode tri ppm).rd (Adr.refStat r) = st + 4 * b2n tri + 256 * mode + 65536 * toTwos 16 ppm := by
  have hppm : toTwos 16 ppm < 65536 := toTwos_lt 16 ppm
  have htri : b2n tri ≤ 1 := by cases tri <;> decide
  exact State.rd_wr_self _ _ (by omega)

/-- The fields of REF_STAT do not overlap. -/
theorem State.refShow_fields (s : State) (r : Nat) {st mode : Nat} (hst : st < 4) (hmode : mode < 256) (tri : Bool) (ppm : Int) :
    (s.refShow r st mode tri ppm).fget (Adr.refStat r) 1 0 = st ∧ (s.refShow r st mode tri ppm).fget (Adr.refStat r) 15 8 = mode := by
  have htri : b2n tri ≤ 1 := by cases tri <;> decide
  simp only [State.fget, s.refShow_rd r hst hmode, bits]
  omega

/-! ## REF_ALIGNMENT_POINT -/

/-- The PHC time of an alignment point is captured. -/
def State.refEdge (s : State) (r : Nat) : State := (s.wr (Adr.refEdgeNs r) s.phcNs).wr (Adr.refEdgeSecLo r) (s.phcSec % 4294967296)

theorem State.refEdge_rd (s : State) {r a : Nat} (h : a ≠ Adr.refEdgeNs r) (h' : a ≠ Adr.refEdgeSecLo r) : (s.refEdge r).rd a = s.rd a :=
  (State.rd_wr_ne _ _ h').trans (s.rd_wr_ne _ h)

theorem State.refEdge_stat (s : State) (r hi lo : Nat) : (s.refEdge r).fget (Adr.refStat r) hi lo = s.fget (Adr.refStat r) hi lo := by
  rw [State.fget, s.refEdge_rd (Adr.refEdgeNs_ne_refStat r).symm (Adr.refStat_ne_refEdgeSecLo r), State.fget]

theorem State.refEdge_ctl (s : State) (r hi lo : Nat) : (s.refEdge r).fget (Adr.refCtl r) hi lo = s.fget (Adr.refCtl r) hi lo := by
  rw [State.fget, s.refEdge_rd (Adr.refCtl_ne_refEdgeNs r) (Adr.refCtl_ne_refEdgeSecLo r), State.fget]

/-- Input `r` after an alignment point that leaves it with `x`, in state `st` and with format `mode`. -/
def State.refSeen (s : State) (r : Nat) (x : RefIn) (st mode : Nat) (tri : Bool) (ppm : Int) : State :=
  ((s.refEdge r).setRefIn r x).refShow r st mode tri ppm

theorem State.refSeen_shows (s : State) (r : Nat) (x : RefIn) {st mode : Nat} (hst : st < 4) (hmode : mode < 256) (tri : Bool) (ppm : Int) :
    (s.refSeen r x st mode tri ppm).RefShows r s.phcNs x st mode where
  edge := by
    have h : ((s.refEdge r).setRefIn r x).rd (Adr.refEdgeNs r) = (s.refEdge r).rd (Adr.refEdgeNs r) := rfl
    rw [State.refSeen, State.refShow, State.rd_wr_ne _ _ (Adr.refEdgeNs_ne_refStat r), h, State.refEdge,
      State.rd_wr_ne _ _ (Adr.refEdgeNs_ne_refEdgeSecLo r), State.rd_wr_self _ _ (show s.phcNs < 2 ^ 32 from phcNs_lt _)]
  held := State.refIn_setRefIn (s.refEdge r) r x
  state := (State.refShow_fields _ r hst hmode tri ppm).1
  mode := (State.refShow_fields _ r hst hmode tri ppm).2

/-- What an alignment point leaves of an input: a LOCKED input stays so while the frames agree, else it searches; another locks
on the second of two frames that agree, and shows UNSUPPORTED for a format that it does not accept. -/
def State.refAligned (s : State) (r m : Nat) (tri : Bool) (ppm : Int) : State :=
  let x := { s.refIn r with edgeAt := s.now }
  let ok := refAccepts (s.fget (Adr.refCtl r) 3 2) m tri ppm
  let old := s.fget (Adr.refStat r) 15 8
  if s.fget (Adr.refStat r) 1 0 = 2 then
    if m = old ∧ ok = true then s.refSeen r x 2 m tri ppm
    else (s.refSeen r { x with cand := if ok then some m else none, present := none } 1 0 tri ppm).refRaise r 2 0x0C12 [(22, 1, old), (23, 1, m)]
  else if ok then
    if x.cand = some m then (s.refSeen r { x with cand := none, present := some s.now } 2 m tri ppm).refRaise r 0 0x0C10 [(22, 1, m)]
    else s.refSeen r { x with cand := some m } 1 0 tri ppm
  else s.refSeen r { x with cand := none } 3 0 tri ppm

theorem exec_refAlignmentPoint {r : Fin 2} {s : State} (h : s.flag (Adr.refCtl r) 0 = true) (m : BitVec 8) (tri : Bool) (ppm : BitVec 16) :
    exec (.refAlignmentPoint r m tri ppm) s = .next (s.refAligned r m.toNat tri ppm.toInt) := by
  show execRefAlignmentPoint r m tri ppm s = _
  unfold execRefAlignmentPoint
  rw [if_pos h]
  extract_lets k t y x st old ok
  have hst : st = s.fget (Adr.refStat r) 1 0 := s.refEdge_stat r 1 0
  have hold : old = s.fget (Adr.refStat r) 15 8 := s.refEdge_stat r 15 8
  have hok : ok = refAccepts (s.fget (Adr.refCtl r) 3 2) m.toNat tri ppm.toInt :=
    congrArg (refAccepts · m.toNat tri ppm.toInt) (s.refEdge_ctl r 3 2)
  rw [hst, hold, hok]
  rfl

/-- Every alignment point is captured. -/
theorem State.refAligned_shows (s : State) (r : Nat) {m : Nat} (hm : m < 256) (tri : Bool) (ppm : Int) :
    ∃ x st mode, (s.refAligned r m tri ppm).RefShows r s.phcNs x st mode ∧ x.edgeAt = s.now := by
  unfold State.refAligned
  extract_lets y x ok old
  split
  · split
    · exact ⟨_, _, _, s.refSeen_shows r _ (by decide) hm tri ppm, rfl⟩
    · exact ⟨_, _, _, (s.refSeen_shows r _ (by decide) (by decide) tri ppm).refRaise _ _ _, rfl⟩
  · split
    · split
      · exact ⟨_, _, _, (s.refSeen_shows r _ (by decide) hm tri ppm).refRaise _ _ _, rfl⟩
      · exact ⟨_, _, _, s.refSeen_shows r _ (by decide) (by decide) tri ppm, rfl⟩
    · exact ⟨_, _, _, s.refSeen_shows r _ (by decide) (by decide) tri ppm, rfl⟩

section
variable {s : State} {r m : Nat} {tri : Bool} {ppm : Int} (hn : s.fget (Adr.refStat r) 1 0 ≠ 2)
  (ha : refAccepts (s.fget (Adr.refCtl r) 3 2) m tri ppm = true)
include hn ha

/-- The second of two frames that agree locks the input. -/
theorem State.refAligned_second (hm : m < 256) (hcand : (s.refIn r).cand = some m) :
    (s.refAligned r m tri ppm).RefShows r s.phcNs { s.refIn r with cand := none, present := some s.now, edgeAt := s.now } 2 m ∧
      (s.refAligned r m tri ppm).flag (Adr.refCause r) 0 = true := by
  have he : s.refAligned r m tri ppm = (s.refSeen r { s.refIn r with cand := none, present := some s.now, edgeAt := s.now } 2 m tri ppm).refRaise r 0
      0x0C10 [(22, 1, m)] := by
    rw [State.refAligned, if_neg hn, if_pos ha, if_pos hcand]
  rw [he]
  exact ⟨(s.refSeen_shows r _ (by decide) hm tri ppm).refRaise _ _ _, State.refRaise_cause _ _ (by decide) _ _⟩

/-- The first frame of a format has the input search. -/
theorem State.refAligned_first (hcand : (s.refIn r).cand ≠ some m) :
    (s.refAligned r m tri ppm).RefShows r s.phcNs { s.refIn r with cand := some m, edgeAt := s.now } 1 0 := by
  have he : s.refAligned r m tri ppm = s.refSeen r { s.refIn r with cand := some m, edgeAt := s.now } 1 0 tri ppm := by
    rw [State.refAligned, if_neg hn, if_pos ha, if_neg hcand]
  rw [he]
  exact s.refSeen_shows r _ (by decide) (by decide) tri ppm

end

/-- A LOCKED input that sees another format searches again. -/
theorem State.refAligned_changed {s : State} {r m : Nat} (tri : Bool) (ppm : Int) (hl : s.fget (Adr.refStat r) 1 0 = 2)
    (hm : s.fget (Adr.refStat r) 15 8 ≠ m) :
    (s.refAligned r m tri ppm).fget (Adr.refStat r) 1 0 = 1 ∧ (s.refAligned r m tri ppm).flag (Adr.refCause r) 2 = true := by
  unfold State.refAligned
  extract_lets y x ok old
  rw [if_pos hl, if_neg fun k => hm k.1.symm]
  exact ⟨((s.refSeen_shows r _ (by decide) (by decide) tri ppm).refRaise _ _ _).state, State.refRaise_cause _ _ (by decide) _ _⟩

theorem refAlignmentPoint_result {r : Fin 2} {s : State} (h : s.flag (Adr.refCtl r) 0 = true) (m : BitVec 8) (tri : Bool) (ppm : BitVec 16) :
    ∃ t, exec (.refAlignmentPoint r m tri ppm) s = .next t ∧ t.rd (Adr.refEdgeNs r) = s.phcNs ∧ (t.refIn r).edgeAt = s.now ∧
    (s.fget (Adr.refStat r) 1 0 ≠ 2 → refAccepts (s.fget (Adr.refCtl r) 3 2) m.toNat tri ppm.toInt = true →
      ((s.refIn r).cand = some m.toNat → t.fget (Adr.refStat r) 1 0 = 2 ∧ t.fget (Adr.refStat r) 15 8 = m.toNat ∧ (t.refIn r).present = some s.now ∧
        t.flag (Adr.refCause r) 0 = true) ∧
      ((s.refIn r).cand ≠ some m.toNat → t.fget (Adr.refStat r) 1 0 = 1 ∧ (t.refIn r).cand = some m.toNat)) ∧
    (s.fget (Adr.refStat r) 1 0 = 2 → s.fget (Adr.refStat r) 15 8 ≠ m.toNat → t.fget (Adr.refStat r) 1 0 = 1 ∧ t.flag (Adr.refCause r) 2 = true) := by
  obtain ⟨x, st, mode, hshows, hat⟩ := s.refAligned_shows r m.isLt tri ppm.toInt
  refine ⟨_, exec_refAlignmentPoint h m tri ppm, hshows.edge, hshows.held ▸ hat, fun hn ha => ⟨fun hcand => ?_, fun hcand => ?_⟩,
    State.refAligned_changed tri ppm.toInt⟩
  · obtain ⟨hlocked, hcause⟩ := State.refAligned_second hn ha m.isLt hcand
    exact ⟨hlocked.state, hlocked.mode, congrArg RefIn.present hlocked.held, hcause⟩
  · have hsearch := State.refAligned_first hn ha hcand
    exact ⟨hsearch.state, congrArg RefIn.cand hsearch.held⟩

/-! ## REF_SYNC_ABSENT -/

theorem refSyncAbsent_result {r : Fin 2} {s : State} (h : s.fget (Adr.refStat r) 1 0 ≠ 0) : ∃ t, exec (.refSyncAbsent r) s = .next t ∧
    t.rd (Adr.refStat r) = 0 ∧ (t.refIn r).present = none ∧ (t.refIn r).cand = none ∧ t.flag (Adr.refCause r) 1 = true := by
  have he : exec (.refSyncAbsent r) s =
      .next (((s.setRefIn r { s.refIn r with cand := none, present := none }).wr (Adr.refStat r) 0).refRaise r 1 0x0C11 []) :=
    congrArg Host.Outcome.next (if_neg h)
  have hheld : (((s.setRefIn r { s.refIn r with cand := none, present := none }).wr (Adr.refStat r) 0).refRaise r 1 0x0C11 []).refIn r =
      { s.refIn r with cand := none, present := none } :=
    (State.refIn_congr (congrArg Tim.refs (State.refRaise_tim _ _ _ _ _)) _).trans (s.refIn_setRefIn _ _)
  refine ⟨_, he, ?_, congrArg RefIn.present hheld, congrArg RefIn.cand hheld, State.refRaise_cause _ _ (by decide) _ _⟩
  rw [State.refRaise_rd _ _ _ _ _ (Adr.refStat_ne_refCause r), State.rd_wr_self _ _ (by decide)]

/-! ## The obligation -/

/-- Settles O38: each command of the time base by its result lemma. -/
theorem timeBase : Obligations.TimeBase := fun frac _ _ tri who _ m ppm s _ =>
  ⟨phcIncrWrite_result frac s, phcHoldoverTimeout_result, fun h => phcStepGo_result h, phcNowRead_result who s, ppsEdge_result,
    fun _ he hdue hf => ppsLost_result he hdue hf, fun h => refAlignmentPoint_result h m tri ppm, refSyncAbsent_result⟩

end Sys2Proof.Machine
end

section
/-!
SUPPORT. What every command keeps and where one stops: the invariant (R345, R348, R407), commands whose operands lie in their ranges, and
accesses outside the apertures of BAR0 and BAR2 (R530, R538).
-/
namespace Sys2Proof.Machine

/-! ## The invariant -/

/-- Settles O6: the register file, HBM and the host bytes are empty at reset, and no command waits. -/
theorem invAtReset : Obligations.InvAtReset := ⟨State.reset_good, fun _ h => absurd h List.not_mem_nil⟩

theorem State.Inv.tick {s : State} (i : s.Inv) : s.tick.Inv := ⟨s.tick_within.good i.good, i.queue⟩

/-- Taking the command at the front leaves what `Good` depends on, and the rest of the queue. -/
theorem State.Inv.withRest {s : State} {c : Instr} {q : List Instr} (i : s.Inv) (h : s.pending = c :: q) : (s.withPending q).Inv :=
  ⟨State.Good.congr (s := s) rfl i.good, fun d hd => i.queue d (h ▸ List.mem_cons_of_mem c hd)⟩

theorem State.Inv.exec {c : Instr} {s t : State} (i : s.Inv) (h : exec c s = .next t) : t.Inv :=
  ⟨exec_good h i.good, commandsKeepQueue c s t h ▸ i.queue⟩

/-- Settles O7: a step is a tick on an empty queue, else the command at its front, and both keep the invariant. -/
theorem invKept : Obligations.InvKept := by
  intro s t i h
  cases hq : s.pending with
  | nil =>
    rw [step_idle hq] at h
    cases h
    exact i.tick
  | cons c q =>
    rw [step_of_pending hq] at h
    exact (i.withRest hq).exec h

/-! ## What completes and what stops (R530, R538) -/

theorem not_bar0Size_le {a : BitVec 32} (h : inBar0 a = true) : ¬bar0Size ≤ a.toNat := Nat.not_le.2 (of_decide_eq_true h)

/-- The command has answered a next state. -/
def completes : Out3 → Bool
  | .next _ => true
  | _ => false

theorem completes_ite {p : Prop} [Decidable p] {f : Fault} {t : State} (h : ¬p) : completes (if p then .fault f else .next t) = true := by
  rw [if_neg h]
  rfl

/-- Only the accesses by an offset can stop, and a well-formed one has its offset inside the aperture. -/
theorem exec_completes (c : Instr) (s : State) (h : c.wf = true) : completes (exec c s) = true := by
  cases c with
  | windowWrite addr v => exact completes_ite (not_bar0Size_le (Bool.and_eq_true_iff.1 h).1)
  | unmappedAccess addr write => exact completes_ite (not_bar0Size_le h)
  | badSizeAccess addr write => exact completes_ite (not_bar0Size_le h)
  | registerWrite addr v => exact completes_ite (not_bar0Size_le h)
  | registerRead who addr => exact completes_ite (not_bar0Size_le h)
  | bar2Access off acc ecc => exact completes_ite (Nat.not_lt.2 (of_decide_eq_true h))
  | _ => rfl

/-- Settles O4: what completes answers a next state. -/
theorem wellFormedCompletes : Obligations.WellFormedCompletes := by
  intro c s h
  have hc := exec_completes c s h
  generalize exec c s = o at hc
  cases o with
  | next t => exact ⟨t, rfl⟩
  | _ => exact absurd hc Bool.false_ne_true

theorem wf_eq_false_of_fault {c : Instr} {s : State} {f : Fault} (h : exec c s = .fault f) : c.wf = false := by
  by_contra hwf
  obtain ⟨t, ht⟩ := wellFormedCompletes c s (Bool.eq_true_of_not_eq_false hwf)
  cases h.symm.trans ht

/-- Settles O5: what faults is not well formed, and each access by an offset compares it with the size of its aperture first. -/
theorem stopsOutsideApertures : Obligations.StopsOutsideApertures := fun _ _ _ =>
  ⟨wf_eq_false_of_fault, fun _ _ h => ⟨if_pos h, if_pos h⟩, fun _ _ h => ⟨if_pos h, if_pos h⟩, fun _ _ h => if_pos h, fun _ _ _ h => if_pos h,
    fun _ _ _ h => if_pos h⟩

end Sys2Proof.Machine
end

section
/-!
SUPPORT. The frames of the bytes stored, of leave, and of ports, dikes and seals (R284, R300, R372, R383, R390, R401, R406, R412, R538).
-/
namespace Sys2Proof.Machine

/-- Settles O10: the host bytes and the HBM bytes are parts of the state that `exec_frame` keeps. -/
theorem frameStoredBytes : Obligations.FrameStoredBytes := fun _ _ _ h =>
  ⟨fun hp a => congrArg (Tab.get _ · a) (exec_frame h hp), fun hp a => congrArg (Tab.get _ · a) (exec_frame h hp)⟩

/-- Settles O15: the tokens and the limits are parts of the state that `exec_frame` keeps, and the sheds are fields of one. -/
theorem frameLeave : Obligations.FrameLeave := by
  refine fun c s t h => ⟨fun hp => exec_frame h hp, fun hp => Prod.mk.inj (exec_frame h hp), fun hp => ?_⟩
  have e := exec_frame h hp
  simp only [Part.same, Prod.mk.injEq] at e
  obtain ⟨-, -, -, -, haudit, hthermal, -, hsupply, -, hpower, -, -, hband, htripped, -, -, -, hfail, -⟩ := e
  rw [haudit, hthermal, hsupply, hpower, hband, htripped, hfail]

/-- Settles O17: ports, dikes, pin sense and seals are functions of parts of the state that `exec_frame` keeps. -/
theorem framePortsDikesSeals : Obligations.FramePortsDikesSeals := by
  refine fun c s t h => ⟨fun hp => ⟨State.unit_congr (exec_frame h hp), congrArg Net.hq (exec_frame h hp)⟩,
    fun hp => Prod.mk.inj (exec_frame h hp), fun hp => exec_frame h hp, fun hp => ?_⟩
  have e := exec_frame h hp
  simp only [Part.same, Prod.mk.injEq] at e
  obtain ⟨hchains, hqueue, hsigning, hlog, -⟩ := e
  rw [hchains, hqueue, hsigning, hlog]

end Sys2Proof.Machine
end

section
/-!
SUPPORT. SW_RAISE: the source, the code and the detail of a software event (R514, R528).
-/
namespace Sys2Proof.Machine

/-- An occurrence is one of its source alone. -/
theorem State.occurBytes_evSrc_ne (s : State) {src m : Nat} (h : m ≠ src) (code : Nat) (d : List Byte) :
    (s.occurBytes src code d).evSrc m = s.evSrc m := by
  unfold State.occurBytes
  extract_lets e occ e' a k r full record
  split
  · rw [State.evSrc_setEvSrc_ne _ _ h]
  split
  · rw [State.evSrc_setEvSrc_ne _ _ h]
  · rw [State.evSrc_setStaged, State.evSrc_setEvSrc_ne _ _ h]

/-- The record of a source that is on is staged where its ring is enabled and has room, and fewer than 64 are staged for it (R511). -/
theorem State.occurBytes_staged {s : State} {src k : Nat} (hk : k = s.fget (Adr.evtSrc src) 1 0) (hon : s.flag (Adr.evtSrc src) 2 = true)
    (he : (s.er k).enable = true) (hroom : ((s.er k).tail - (s.er k).head).toNat + (s.stagedOf k).length < 2 ^ (s.er k).sizeLog2)
    (hl : (s.stagedOf k).length < 64) (code : Nat) (d : List Byte) :
    (s.occurBytes src code d).stagedOf k = s.stagedOf k ++
      [{ source := src, code := code, ns := s.phcNs, sec := s.phcSec, occ := (s.evSrc src).occurred + 1, detail := d }] := by
  subst hk
  unfold State.occurBytes
  extract_lets e occ e' a k r full record
  have hfull : full = false := decide_eq_false (Nat.not_le.2 (Nat.lt_of_le_of_lt (Nat.le_add_right _ _) hroom))
  have hroom64 : decide (64 ≤ (s.stagedOf k).length) = false := decide_eq_false (Nat.not_le.2 hl)
  rw [if_neg (Bool.not_eq_false _ ▸ hon), show r.enable = true from he, hfull, hroom64]
  exact State.stagedOf_setStaged ..

/-- The detail of a software event: a word at byte 24. -/
theorem detail_word24 (x : Nat) : detail [(24, 4, x)] = [0, 0, 0, 0] ++ leBytes 4 x ++ [0, 0, 0, 0] := by
  have h : detail [(24, 4, x)] = [0, 0, 0, 0] ++ [BitVec.ofNat 8 (x / 1), BitVec.ofNat 8 (x / 256), BitVec.ofNat 8 (x / (256 * 256)),
      BitVec.ofNat 8 (x / (256 * 256 * 256))] ++ [0, 0, 0, 0] := rfl
  rw [h, Nat.div_one, ← Nat.div_div_eq_div_mul, ← Nat.div_div_eq_div_mul, ← Nat.div_div_eq_div_mul]
  rfl

/-- Settles O21: SW_RAISE is an occurrence of the source that its low three bits name. -/
theorem softwareMarkRule : Obligations.SoftwareMarkRule := by
  rintro v k src s rfl hk
  have hsrc : bits v.toNat 2 0 = v.toNat % 8 := by simp [bits]
  have hval : bits v.toNat 31 16 = v.toNat / 65536 := by
    have := v.isLt
    simp only [bits]; omega
  have he : exec (.swRaise v) s = .next (s.occurBytes (312 + v.toNat % 8) 0x1500 ([0, 0, 0, 0] ++ leBytes 4 (v.toNat / 65536) ++ [0, 0, 0, 0])) := by
    rw [← detail_word24, ← hsrc, ← hval]; rfl
  exact ⟨⟨_, he, s.occurBytes_occurred _ _ _, fun m hm => s.occurBytes_evSrc_ne hm _ _⟩,
    fun hon hen hroom hl => ⟨_, he, State.occurBytes_staged hk hon hen hroom hl _ _⟩⟩

end Sys2Proof.Machine
end

section
/-!
SUPPORT. Lane groups, ports, links, FEC and loops: LANE_GRP_ENABLE, LANE_GRP_DISABLE, PORT_ENABLE, PORT_DISABLE, POWER_DOWN_END,
PORT_LINK_CHANGE, FEC_REPORT and LOOP_SELECT (R372, R373, R376, R378, R379).

The definitions of this file and of those after it name what a proof speaks of. Nothing runs them, so they are noncomputable: no code is made for them.
-/
namespace Sys2Proof.Machine

/-! ## The leave pools as one part -/

theorem Within.lv {m : Nat} {s t : State} (w : Within m s t) (h : m.testBit 23 = false) (h' : m.testBit 24 = false) (h'' : m.testBit 25 = false) :
    t.lv = s.lv := by
  have e := w.same .leave h
  have e' := w.same .limits h'
  have e'' := w.same .sheds h''
  simp only [Part.same, Prod.mk.injEq] at e e' e''
  cases hs : s.lv
  cases ht : t.lv
  simp_all only

theorem Within.net {m : Nat} {s t : State} (w : Within m s t) (h : m.testBit 30 = false) : t.net = s.net := w.same .net h

@[simp] theorem State.nvTouch_lv (s : State) (page : Nat) : (s.nvTouch page).lv = s.lv := (s.nvTouch_within page).lv (by decide) (by decide) (by decide)
@[simp] theorem State.nvTouch_net (s : State) (page : Nat) : (s.nvTouch page).net = s.net := (s.nvTouch_within page).net (by decide)

theorem State.raise_net (s : State) (cause mask bit src code : Nat) (d : List (Nat × Nat × Nat)) : (s.raise cause mask bit src code d).net = s.net :=
  (s.raise_within _ _ _ _ _ _).net (by decide)

/-- A return adds its tokens to those that are free or withheld. -/
theorem State.leaveRet_sums (s : State) (p f : Nat) : (s.leaveRet p f).lv.powFree + (s.leaveRet p f).lv.powWith = s.lv.powFree + s.lv.powWith + p ∧
    (s.leaveRet p f).lv.fetFree + (s.leaveRet p f).lv.fetWith = s.lv.fetFree + s.lv.fetWith + f := by
  unfold State.leaveRet
  extract_lets t
  have ht : t.lv.powFree + t.lv.powWith = s.lv.powFree + s.lv.powWith + p ∧ t.lv.fetFree + t.lv.fetWith = s.lv.fetFree + s.lv.fetWith + f := by
    show s.lv.powFree + p + s.lv.powWith = _ ∧ s.lv.fetFree + f + s.lv.fetWith = _
    omega
  split
  · exact ⟨(State.fillWithheld_sums t).1.trans ht.1, (State.fillWithheld_sums t).2.trans ht.2⟩
  · exact ht

theorem leaveAsk_refused {s : State} {p f : Nat} (h : s.leaveFits p f = false) (owner : Nat) : s.leaveAsk owner p f = (false, s.leaveRefuse owner p f) :=
  if_neg (Bool.eq_false_iff.1 h)

/-! ## Enabling and disabling a unit (R373) -/

section
variable {s : State} {i : Nat}

/-- The unit after its enable is set: it holds its tokens besides those of a power-down that still runs. -/
noncomputable def PowerUnit.poweredOn (u : PowerUnit) (i : Nat) : PowerUnit := { u with enable := true, enabled := true, tokens := u.tokens + unitTokens i }

theorem State.unitOn_granted (he : (s.unit i).enable = false) (hf : s.leaveFits (unitTokens i) 0 = true) :
    (s.unitOn i).unit i = (s.unit i).poweredOn i ∧ (s.unitOn i).lv.powFree = s.lv.powFree - unitTokens i := by
  let t := ((s.leaveTake (unitTokens i) 0).setUnit i ((s.unit i).poweredOn i)).nvTouch 512
  have hu : t.unit i = (s.unit i).poweredOn i := (State.unit_congr (State.nvTouch_net _ _) i).trans (State.unit_setUnit _ _ _)
  have hl : t.lv.powFree = s.lv.powFree - unitTokens i := congrArg Lv.powFree (State.nvTouch_lv _ _)
  have hs : s.unitOn i = if i < 8 then t else t.portLatencies (i - 8) := by
    unfold State.unitOn
    simp only [he, leaveAsk_granted hf]
    rfl
  rw [hs]
  split
  · exact ⟨hu, hl⟩
  · have w := t.portLatencies_within (i - 8)
    exact ⟨(State.unit_congr (w.net (by decide)) i).trans hu, (congrArg Lv.powFree (w.lv (by decide) (by decide) (by decide))).trans hl⟩

theorem State.leaveRefuse_net (s : State) (owner p f : Nat) : (s.leaveRefuse owner p f).net = s.net := (s.leaveRefuse_within _ _ _).net (by decide)
theorem State.leaveRefuse_lv (s : State) (owner p f : Nat) : (s.leaveRefuse owner p f).lv = s.lv :=
  (s.leaveRefuse_within _ _ _).lv (by decide) (by decide) (by decide)

theorem State.unitOn_refused (he : (s.unit i).enable = false) (hf : s.leaveFits (unitTokens i) 0 = false) :
    (s.unitOn i).net = s.net ∧ (s.unitOn i).lv = s.lv ∧ (s.unitOn i).flag (unitStat i) (noLeaveBit i) = true := by
  have hs : s.unitOn i = (s.leaveRefuse 0 (unitTokens i) 0).setBit (unitStat i) (noLeaveBit i) := by
    unfold State.unitOn
    simp only [he, leaveAsk_refused hf]
    rfl
  rw [hs]
  exact ⟨s.leaveRefuse_net _ _ _, s.leaveRefuse_lv _ _ _, State.flag_setBit_self _ _ (by unfold noLeaveBit; split <;> decide)⟩

theorem State.unitOff_idle (he : (s.unit i).enable = true) (hu : s.unitUsed i = false) :
    (s.unitOff i).unit i = { s.unit i with enable := false, down := true } ∧ (s.unitOff i).lv = s.lv := by
  have hs : s.unitOff i = (s.setUnit i { s.unit i with enable := false, down := true }).nvTouch 512 := by
    simp [State.unitOff, he, hu]
  rw [hs]
  exact ⟨(State.unit_congr (State.nvTouch_net _ _) i).trans (State.unit_setUnit _ _ _), State.nvTouch_lv _ _⟩

theorem State.unitOff_used (he : (s.unit i).enable = true) (hu : s.unitUsed i = true) :
    (s.unitOff i).net = s.net ∧ (s.unitOff i).flag (unitStat i) (wrIgnoredBit i) = true := by
  have hs : s.unitOff i = s.setBit (unitStat i) (wrIgnoredBit i) := by simp [State.unitOff, he, hu]
  rw [hs]
  exact ⟨rfl, State.flag_setBit_self _ _ (by unfold wrIgnoredBit; split <;> decide)⟩

end

/-! ## Links (R376, R378) -/

theorem bits_eq_one_iff (v k : Nat) : bits v k k = 1 ↔ v.testBit k = true := by
  rw [bits, show k + 1 - k = 1 by omega, Nat.testBit_eq_decide_div_mod_eq, decide_eq_true_eq, Nat.pow_one]

theorem State.linkUp_eq (s : State) (p q : Nat) : s.linkUp p q = (s.unit (8 + p)).link.getLsbD q := by
  simp only [State.linkUp, bits_eq_one_iff, Bool.decide_eq_true]
  rfl

/-- The link bits of a port after the link of subport `q` has gone up or down. -/
noncomputable def withLink (l : BitVec 8) (q : Nat) (up : Bool) : BitVec 8 := if up then l ||| BitVec.ofNat 8 (2 ^ q) else l &&& ~~~BitVec.ofNat 8 (2 ^ q)

theorem withLink_getLsbD (l : BitVec 8) {k : Nat} (h : k < 8) (q : Nat) (up : Bool) :
    (withLink l q up).getLsbD k = if q = k then up else l.getLsbD k := by
  have hbit : (BitVec.ofNat 8 (2 ^ q)).getLsbD k = decide (q = k) := by rw [BitVec.getLsbD_ofNat, Nat.testBit_two_pow, decide_eq_true h, Bool.true_and]
  unfold withLink
  cases up
  · rw [if_neg Bool.false_ne_true, BitVec.getLsbD_and, BitVec.getLsbD_not, hbit, decide_eq_true h]
    split <;> simp [*]
  · rw [if_pos rfl, BitVec.getLsbD_or, hbit]
    split <;> simp [*]

theorem withLink_false_getLsbD (l : BitVec 8) (q : Nat) : (withLink l q false).getLsbD q = false := by
  by_cases h : q < 8
  · rw [withLink_getLsbD l h, if_pos rfl]
  · exact BitVec.getLsbD_of_ge _ _ (Nat.not_lt.1 h)

theorem withLink_getLsbD_ne (l : BitVec 8) {q k : Nat} (h : k ≠ q) (up : Bool) : (withLink l q up).getLsbD k = l.getLsbD k := by
  by_cases hk : k < 8
  · rw [withLink_getLsbD l hk, if_neg (Ne.symm h)]
  · rw [BitVec.getLsbD_of_ge _ _ (Nat.not_lt.1 hk), BitVec.getLsbD_of_ge _ _ (Nat.not_lt.1 hk)]

section
variable (s : State) (p q : Nat) (up : Bool)

theorem State.setLink_net : (s.setLink p q up).net = (s.setUnit (8 + p) { s.unit (8 + p) with link := withLink (s.unit (8 + p)).link q up }).net := by
  unfold State.setLink
  extract_lets u t rate r
  rw [State.raise_net]
  refine foldl_keeps State.net (fun t n => ?_) rfl
  cases up <;> rfl

theorem State.setLink_unit : (s.setLink p q up).unit (8 + p) = { s.unit (8 + p) with link := withLink (s.unit (8 + p)).link q up } :=
  (State.unit_congr (s.setLink_net p q up) _).trans (State.unit_setUnit _ _ _)

theorem State.setLink_cause : (s.setLink p q up).flag (Adr.portCause p) 0 = true := State.flag_raise_self _ _ _ (by decide) _ _ _

theorem State.setLink_linkUp_self {q : Nat} (h : q < 8) : (s.setLink p q up).linkUp p q = up := by
  rw [State.linkUp_eq, State.setLink_unit]
  rw [withLink_getLsbD _ h, if_pos rfl]

theorem State.setLink_down_linkUp : (s.setLink p q false).linkUp p q = false := by
  rw [State.linkUp_eq, State.setLink_unit]
  exact withLink_false_getLsbD _ q

theorem State.setLink_linkUp_ne {k : Nat} (h : k ≠ q) : (s.setLink p q up).linkUp p k = s.linkUp p k := by
  rw [State.linkUp_eq, State.linkUp_eq, State.setLink_unit]
  exact withLink_getLsbD_ne _ h up

/-- A link changes no mode of a port: its lanes' status and the causes of the ports are other registers. -/
theorem State.setLink_subports : (s.setLink p q up).subports p = s.subports p := by
  have hcause : Adr.portCtl p ≠ Adr.portCause p := by unfold Adr.portCtl Adr.portCause; omega
  unfold State.setLink State.subports
  extract_lets u t rate r
  rw [State.fget_raise_ne _ hcause]
  refine congrArg (2 ^ ·) (foldl_keeps (fun t : State => t.fget (Adr.portCtl p) 2 1) (fun t n => ?_) rfl)
  have hstat : Adr.portCtl p ≠ Adr.laneStat n := by unfold Adr.portCtl Adr.laneStat; omega
  cases up
  · exact State.fget_fset_ne _ _ _ _ _ _ hstat
  · exact (State.fget_fset_ne _ _ _ _ _ _ hstat).trans ((State.fget_fset_ne _ _ _ _ _ _ hstat).trans (State.fget_fset_ne _ _ _ _ _ _ hstat))

theorem State.subLanes_congr {s t : State} {p : Nat} (h : t.subports p = s.subports p) (q : Nat) : t.subLanes p q = s.subLanes p q := by
  rw [State.subLanes, State.subLanes, h]

/-! ## Every link of a port, and every link over a lane -/

theorem State.portDown_linkUp {q : Nat} (h : q < 8) : (s.portDown p).linkUp p q = false := by
  refine foldl_forall (P := fun q t => State.linkUp t p q = false) (fun t x => ?_) (fun t x y hy ht => ?_) _ s q (List.mem_range.2 h)
  · split
    · exact t.setLink_down_linkUp p x
    · next hx => exact Bool.eq_false_iff.2 hx
  · split
    · rw [State.setLink_linkUp_ne _ _ _ _ hy, ht]
    · exact ht

/-- Taking the links of a port down leaves the rest of the unit. -/
theorem State.portDown_unit : { (s.portDown p).unit (8 + p) with link := 0 } = { s.unit (8 + p) with link := 0 } := by
  refine foldl_keeps (fun t : State => ({ t.unit (8 + p) with link := 0 } : PowerUnit)) (fun t x => ?_) rfl
  split
  · exact congrArg (fun u : PowerUnit => { u with link := 0 }) (t.setLink_unit p x false)
  · rfl

theorem State.portDown_link : ((s.portDown p).unit (8 + p)).link = 0 := by
  refine BitVec.eq_of_getLsbD_eq fun q h => ?_
  rw [← State.linkUp_eq, s.portDown_linkUp p h]
  exact (BitVec.getLsbD_zero).symm

theorem State.laneLinksDown_linkUp {n k : Nat} (h : k < 8) (hk : (s.subLanes ((n - 128) / 8) k).contains n = true) :
    (s.laneLinksDown n).linkUp ((n - 128) / 8) k = false := by
  unfold State.laneLinksDown
  extract_lets p
  have step (t : State) (x : Nat) : State.subports (if t.linkUp p x && (t.subLanes p x).contains n then t.setLink p x false else t) p = t.subports p := by
    split
    · exact t.setLink_subports p x false
    · rfl
  refine foldl_forall (P := fun x t => (State.subLanes t p x).contains n = true → State.linkUp t p x = false) (fun t x => ?_) (fun t x y hy ht => ?_)
    _ s k (List.mem_range.2 h) ?_
  · rw [State.subLanes_congr (step t x)]
    intro hx
    split
    · exact t.setLink_down_linkUp p x
    · next hc =>
      rw [hx, Bool.and_true] at hc
      exact Bool.eq_false_iff.2 hc
  · rw [State.subLanes_congr (step t x)]
    intro hx
    split
    · rw [State.setLink_linkUp_ne _ _ _ _ hy, ht hx]
    · exact ht hx
  · rwa [State.subLanes_congr (foldl_keeps (fun t => State.subports t p) step rfl)]

end

/-! ## The commands -/

theorem unitTokens_port (p : Fin 2) : unitTokens (8 + p) = 72 := if_neg (by omega)
theorem unitStat_group (g : Fin 8) : unitStat g = Adr.grpStat g ∧ noLeaveBit g = 1 ∧ wrIgnoredBit g = 2 := ⟨if_pos g.isLt, if_pos g.isLt, if_pos g.isLt⟩
theorem unitStat_port (p : Fin 2) : unitStat (8 + p) = Adr.portStat p ∧ noLeaveBit (8 + p) = 9 ∧ wrIgnoredBit (8 + p) = 10 := by
  have h : ¬8 + p.val < 8 := by omega
  exact ⟨(if_neg h).trans (by rw [Nat.add_sub_cancel_left]), if_neg h, if_neg h⟩

section
variable {s : State}

theorem laneGrpEnable_granted {g : Fin 8} (he : (s.unit g).enable = false) (hf : s.leaveFits (unitTokens g) 0 = true) :
    ∃ t, exec (.laneGrpEnable g) s = .next t ∧
      t.unit g = { s.unit g with enable := true, enabled := true, tokens := (s.unit g).tokens + unitTokens g } ∧
      t.lv.powFree = s.lv.powFree - unitTokens g := ⟨_, rfl, State.unitOn_granted he hf⟩

theorem laneGrpEnable_refused {g : Fin 8} (he : (s.unit g).enable = false) (hf : s.leaveFits (unitTokens g) 0 = false) :
    ∃ t, exec (.laneGrpEnable g) s = .next t ∧ t.net = s.net ∧ t.lv = s.lv ∧ t.flag (Adr.grpStat g) 1 = true := by
  obtain ⟨hnet, hlv, hflag⟩ := State.unitOn_refused he hf
  obtain ⟨hstat, hbit, -⟩ := unitStat_group g
  exact ⟨_, rfl, hnet, hlv, by rwa [hstat, hbit] at hflag⟩

theorem portEnable_granted {p : Fin 2} (he : (s.unit (8 + p)).enable = false) (hf : s.leaveFits 72 0 = true) :
    ∃ t, exec (.portEnable p) s = .next t ∧
      t.unit (8 + p) = { s.unit (8 + p) with enable := true, enabled := true, tokens := (s.unit (8 + p)).tokens + 72 } ∧
      t.lv.powFree = s.lv.powFree - 72 := by
  have h := State.unitOn_granted he (by rwa [unitTokens_port])
  rw [PowerUnit.poweredOn, unitTokens_port] at h
  exact ⟨_, rfl, h⟩

theorem portEnable_refused {p : Fin 2} (he : (s.unit (8 + p)).enable = false) (hf : s.leaveFits 72 0 = false) :
    ∃ t, exec (.portEnable p) s = .next t ∧ t.net = s.net ∧ t.lv = s.lv ∧ t.flag (Adr.portStat p) 9 = true := by
  obtain ⟨hnet, hlv, hflag⟩ := State.unitOn_refused he (by rwa [unitTokens_port])
  obtain ⟨hstat, hbit, -⟩ := unitStat_port p
  exact ⟨_, rfl, hnet, hlv, by rwa [hstat, hbit] at hflag⟩

theorem laneGrpDisable_used {g : Fin 8} (he : (s.unit g).enable = true) (hu : s.unitUsed g = true) :
    ∃ t, exec (.laneGrpDisable g) s = .next t ∧ t.net = s.net ∧ t.flag (Adr.grpStat g) 2 = true := by
  obtain ⟨hnet, hflag⟩ := State.unitOff_used he hu
  obtain ⟨hstat, -, hbit⟩ := unitStat_group g
  exact ⟨_, rfl, hnet, by rwa [hstat, hbit] at hflag⟩

theorem portDisable_used {p : Fin 2} (he : (s.unit (8 + p)).enable = true) (hu : s.unitUsed (8 + p) = true) :
    ∃ t, exec (.portDisable p) s = .next t ∧ t.net = s.net ∧ t.flag (Adr.portStat p) 10 = true := by
  obtain ⟨hnet, hflag⟩ := State.unitOff_used he hu
  obtain ⟨hstat, -, hbit⟩ := unitStat_port p
  exact ⟨_, rfl, hnet, by rwa [hstat, hbit] at hflag⟩

/-- The unit at the end of its power-down: its tokens of the earlier period are gone. -/
noncomputable def PowerUnit.poweredDown (u : PowerUnit) (i : Nat) : PowerUnit := { u with down := false, enabled := u.enable, tokens := u.tokens - unitTokens i, fixed := false }

/-- The tokens of unit `i` have returned; what it received and its links are as before. -/
noncomputable def State.unitReturned (s : State) (i : Nat) : State :=
  let t := s.setUnit i ((s.unit i).poweredDown i)
  (if (s.unit i).fixed then t.updLv fun v => { v with fixed := v.fixed - unitTokens i } else t).leaveRet (unitTokens i) 0

theorem exec_powerDownEnd {i : Fin 10} (h : (s.unit i).down = true) : exec (.powerDownEnd i) s =
    .next (if (s.unit i).enable then s.unitReturned i
      else if i.val < 8 then (groupLanes i).foldl (fun s n => s.laneDark n) (s.unitReturned i)
      else (s.unitReturned i).portDown (i - 8)) := congrArg Host.Outcome.next (if_pos h)

theorem State.unitReturned_unit (s : State) (i : Nat) : (s.unitReturned i).unit i = (s.unit i).poweredDown i := by
  unfold State.unitReturned
  extract_lets t
  rw [State.unit_congr ((State.leaveRet_within _ _ _).net (by decide))]
  split <;> exact State.unit_setUnit _ _ _

theorem State.unitReturned_sum (s : State) (i : Nat) :
    (s.unitReturned i).lv.powFree + (s.unitReturned i).lv.powWith = s.lv.powFree + s.lv.powWith + unitTokens i := by
  unfold State.unitReturned
  extract_lets t
  rw [(State.leaveRet_sums _ _ _).1]
  split <;> rfl

theorem powerDownEnd_result {i : Fin 10} (h : (s.unit i).down = true) : ∃ t, exec (.powerDownEnd i) s = .next t ∧ (t.unit i).down = false ∧
    (t.unit i).enabled = (s.unit i).enable ∧ (t.unit i).tokens = (s.unit i).tokens - unitTokens i ∧
    t.lv.powFree + t.lv.powWith = s.lv.powFree + s.lv.powWith + unitTokens i ∧ ((s.unit i).enable = false → 8 ≤ i.val → (t.unit i).link = 0) := by
  have hu := s.unitReturned_unit i
  have hs := s.unitReturned_sum i
  refine ⟨_, exec_powerDownEnd h, ?_⟩
  generalize s.unitReturned i = t at hu hs
  split
  · next he =>
    rw [hu, hs]
    exact ⟨rfl, rfl, rfl, rfl, fun hn => absurd (he.symm.trans hn) (by decide)⟩
  split
  · next hi =>
    have w : Within 4170 t ((groupLanes i).foldl (fun s n => s.laneDark n) t) :=
      Within.fold (Within.refl _ _) fun u n k => (u.laneDark_within n).via (by decide) k
    obtain ⟨hfree, hwith, -⟩ := w.tokens (by decide)
    rw [State.unit_congr (w.net (by decide)), hu, hfree, hwith, hs]
    exact ⟨rfl, rfl, rfl, rfl, fun _ hn => absurd hi (Nat.not_lt.2 hn)⟩
  · next hi =>
    have hi8 : 8 + (i.val - 8) = i := by omega
    have hlink := t.portDown_link (i - 8)
    have hrest := t.portDown_unit (i - 8)
    obtain ⟨hfree, hwith, -⟩ := (t.portDown_within (i - 8)).tokens (by decide)
    rw [hi8] at hlink hrest
    rw [hu] at hrest
    rw [hfree, hwith, hs]
    obtain ⟨-, henabled, htokens, -, hdown, -⟩ := PowerUnit.mk.inj hrest
    exact ⟨hdown, henabled, htokens, rfl, fun _ _ => hlink⟩

section
variable {p : Fin 2} {q : Fin 8}

/-- A link that comes up sends the IGMP reports of its subport again. -/
theorem portLinkChange_up (hl : s.linkUp p q = false) (he : (s.unit (8 + p)).enable = true) (hq : q.val < s.subports p)
    (hlanes : ((s.subLanes p q).all fun n => s.fget (Adr.laneLoop n) 1 0 == 0 && s.flag (Adr.laneCtl n) 0) = true) :
    ∃ t, exec (.portLinkChange p q true) s = .next t ∧ t.linkUp p q = true ∧ t.flag (Adr.portCause p) 0 = true ∧
      ∀ k < 8, k ≠ q.val → t.linkUp p k = s.linkUp p k := by
  let u := s.setLink p q true
  have hexec : exec (.portLinkChange p q true) s = .next (u.igmpChange
      (((groupsOf u.ing.flows).filter fun k => decide (k.1.port = p.val ∧ k.1.sub = q.val)).map fun k => u.report k.1 k.2 (membership u.ing.flows k.1 k.2))) := by
    show execPortLinkChange p q true s = _
    simp only [execPortLinkChange, hl, he, hq, hlanes, Bool.false_eq_true, if_false, if_true, decide_true, Bool.and_self]
    rfl
  have w := fun l => u.igmpChange_within l
  have hlink : ∀ l k, (u.igmpChange l).linkUp p k = u.linkUp p k := fun l k => by
    rw [State.linkUp_eq, State.linkUp_eq, State.unit_congr ((w l).net (by decide))]
  refine ⟨_, hexec, (hlink _ _).trans (s.setLink_linkUp_self p true q.isLt), (State.flag_congr ((w _).same .regs (by decide)) _ _).trans (s.setLink_cause p q true),
    fun k _ hk => (hlink _ _).trans (s.setLink_linkUp_ne p q true hk)⟩

theorem portLinkChange_down (hl : s.linkUp p q = true) :
    ∃ t, exec (.portLinkChange p q false) s = .next t ∧ t.linkUp p q = false ∧ t.flag (Adr.portCause p) 0 = true ∧
      ∀ k < 8, k ≠ q.val → t.linkUp p k = s.linkUp p k := by
  have hexec : exec (.portLinkChange p q false) s = .next (s.setLink p q false) := congrArg Host.Outcome.next (if_neg (by rw [hl]; decide))
  exact ⟨_, hexec, s.setLink_down_linkUp p q, s.setLink_cause p q false, fun k _ hk => s.setLink_linkUp_ne p q false hk⟩

end

/-- A counter of a whole register stops at its largest value. -/
theorem State.rd_count (s : State) (a n : Nat) : (s.count a 31 0 n).rd a = min (s.rd a + n) 4294967295 := by
  have hword (t : State) : t.fget a 31 0 = t.rd a := by
    show t.rd a / 1 % 2 ^ 32 = t.rd a
    rw [Nat.div_one]
    exact Nat.mod_eq_of_lt (BitVec.isLt _)
  rw [← hword, State.fget_count_self _ _ _ (by decide), hword]
  rfl

theorem State.rd_count_ne (s : State) {a b : Nat} (h : b ≠ a) (hi lo n : Nat) : (s.count a hi lo n).rd b = s.rd b := s.rd_wr_ne _ h

theorem fecReport_result (p : Fin 2) (corr unc : Nat) (s : State) : ∃ t, exec (.fecReport p corr unc) s = .next t ∧
    t.rd (Adr.fecCorr p) = min (s.rd (Adr.fecCorr p) + corr) 4294967295 ∧
    (unc ≠ 0 → t.rd (Adr.fecUncorr p) = min (s.rd (Adr.fecUncorr p) + unc) 4294967295 ∧ t.flag (Adr.portCause p) 1 = true) := by
  have hcu : Adr.fecCorr p ≠ Adr.fecUncorr p := by unfold Adr.fecCorr Adr.fecUncorr; omega
  have hcc : Adr.fecCorr p ≠ Adr.portCause p := by unfold Adr.fecCorr Adr.portCause; omega
  have huc : Adr.fecUncorr p ≠ Adr.portCause p := by unfold Adr.fecUncorr Adr.portCause; omega
  refine ⟨_, rfl, ?_⟩
  split
  · next h => exact ⟨s.rd_count _ _, fun hn => absurd h hn⟩
  · refine ⟨?_, fun _ => ⟨?_, State.flag_raise_self _ _ _ (by decide) _ _ _⟩⟩
    · rw [State.rd_raise_ne _ hcc, State.rd_count_ne _ hcu, State.rd_count]
    · rw [State.rd_raise_ne _ huc, State.rd_count, State.rd_count_ne _ hcu.symm]

/-- A link changes no loop of a lane: the status of lanes and the causes of the ports are other registers. -/
theorem State.setLink_loop (s : State) (p q : Nat) {n : Nat} (h : n < 144) (up : Bool) :
    (s.setLink p q up).fget (Adr.laneLoop n) 1 0 = s.fget (Adr.laneLoop n) 1 0 := by
  have hcause : Adr.laneLoop n ≠ Adr.portCause p := by unfold Adr.laneLoop Adr.portCause; omega
  unfold State.setLink
  extract_lets u t rate r
  rw [State.fget_raise_ne _ hcause]
  refine foldl_keeps (fun t : State => t.fget (Adr.laneLoop n) 1 0) (fun t m => ?_) rfl
  have hstat : Adr.laneLoop n ≠ Adr.laneStat m := by unfold Adr.laneLoop Adr.laneStat; omega
  cases up
  · exact State.fget_fset_ne _ _ _ _ _ _ hstat
  · exact (State.fget_fset_ne _ _ _ _ _ _ hstat).trans ((State.fget_fset_ne _ _ _ _ _ _ hstat).trans (State.fget_fset_ne _ _ _ _ _ _ hstat))

theorem loopSelect_result (l : Fin 144) (mode : BitVec 2) (s : State) : ∃ t, exec (.loopSelect l mode) s = .next t ∧
    t.fget (Adr.laneLoop l) 1 0 = mode.toNat ∧ (l.val < 128 ∨ mode = 0 → s.Only t [.regs]) ∧
    (128 ≤ l.val → mode ≠ 0 → ∀ k < 8, (s.subLanes ((l.val - 128) / 8) k).contains l.val = true → t.linkUp ((l.val - 128) / 8) k = false) := by
  let u := s.fset (Adr.laneLoop l) 1 0 mode.toNat
  have hexec : exec (.loopSelect l mode) s = .next (if l.val < 128 ∨ mode.toNat = 0 then u else u.laneLinksDown l) := rfl
  have hu : u.fget (Adr.laneLoop l) 1 0 = mode.toNat := (s.fget_fset_self _ _ (by decide)).trans (Nat.mod_eq_of_lt mode.isLt)
  have hzero : mode.toNat = 0 ↔ mode = 0 := by rw [← BitVec.toNat_inj]; rfl
  refine ⟨_, hexec, ?_⟩
  rw [← hzero, ne_eq, ← hzero]
  split
  · next hc =>
    exact ⟨hu, fun _ => (s.fset_within _ _ _ _).only _ (by decide), fun hl hm => absurd hc (not_or.2 ⟨Nat.not_lt.2 hl, hm⟩)⟩
  · next hc =>
    refine ⟨?_, fun h => absurd h hc, fun _ _ k hk hlane => ?_⟩
    · refine foldl_keeps (fun t : State => t.fget (Adr.laneLoop l) 1 0) (fun t q => ?_) hu
      split
      · exact t.setLink_loop _ q l.isLt false
      · rfl
    · have hmode : Adr.portCtl ((l.val - 128) / 8) ≠ Adr.laneLoop l := by unfold Adr.portCtl Adr.laneLoop; omega
      have hports : u.subports ((l.val - 128) / 8) = s.subports ((l.val - 128) / 8) := congrArg (2 ^ ·) (s.fget_fset_ne _ _ _ _ _ hmode)
      exact u.laneLinksDown_linkUp hk (by rwa [State.subLanes_congr hports])

end

/-! ## The obligation -/

/-- Settles O39, command by command. -/
theorem lanesPorts : Obligations.LanesPorts := fun _ p _ _ l mode corr unc s _ =>
  ⟨fun he => ⟨laneGrpEnable_granted he, laneGrpEnable_refused he⟩, fun he => ⟨portEnable_granted he, portEnable_refused he⟩,
    fun he => ⟨fun hu => ⟨_, rfl, State.unitOff_idle he hu⟩, laneGrpDisable_used he⟩,
    fun he => ⟨fun hu => ⟨_, rfl, State.unitOff_idle he hu⟩, portDisable_used he⟩, powerDownEnd_result, portLinkChange_up, portLinkChange_down,
    fecReport_result p corr unc s, loopSelect_result l mode s⟩

end Sys2Proof.Machine
end

section
/-!
SUPPORT. Pattern generators and checkers (R377), and the frames of the host packet queue (R381 to R385): PRBS_GENERATOR_SELECT,
PRBS_CHECKER_SELECT, PRBS_INJECT, PRBS_CHECKER_LOCK, PRBS_CHECKER_LOSS, UNMATCHED_FRAME, HQ_RX_FRAME, HQ_TX_DB and HQ_TX_DONE.
-/
namespace Sys2Proof.Machine

/-! ## Counters of 64 bits -/

theorem State.rd64_wr_ne (s : State) {lo hi a : Nat} (hl : lo ≠ a) (hh : hi ≠ a) (v : Nat) : (s.wr a v).rd64 lo hi = s.rd64 lo hi := by
  rw [State.rd64, State.rd_wr_ne _ _ hl, State.rd_wr_ne _ _ hh]; rfl

theorem State.rd64_add64 (s : State) {lo hi : Nat} (h : lo ≠ hi) (k : Nat) : (s.add64 lo hi k).rd64 lo hi = (s.rd64 lo hi + k) % 2 ^ 64 := by
  have hword (t : State) (a v : Nat) : (t.wr a v).rd a = v % 4294967296 := by simp only [State.rd, State.wr, Tab.get_set_self, BitVec.toNat_ofNat]
  unfold State.add64
  extract_lets v
  rw [State.rd64, State.rd_wr_ne _ _ h, hword, hword, show s.rd64 lo hi + k = v from rfl, Nat.mod_mod]
  exact (Nat.mod_mul (x := v) (a := 4294967296) (b := 4294967296)).symm

theorem State.rd64_add64_ne (s : State) {lo hi a b : Nat} (hl : lo ≠ a ∧ lo ≠ b) (hh : hi ≠ a ∧ hi ≠ b) (k : Nat) :
    (s.add64 a b k).rd64 lo hi = s.rd64 lo hi :=
  (State.rd64_wr_ne _ hl.2 hh.2 _).trans (State.rd64_wr_ne _ hl.1 hh.1 _)

theorem State.rd64_raise_ne (s : State) {lo hi cause : Nat} (hl : lo ≠ cause) (hh : hi ≠ cause) (mask bit src code : Nat) (d : List (Nat × Nat × Nat)) :
    (s.raise cause mask bit src code d).rd64 lo hi = s.rd64 lo hi := by
  rw [State.rd64, State.rd_raise_ne _ hl, State.rd_raise_ne _ hh]; rfl

theorem State.rd64_clear (s : State) {lo hi : Nat} (h : lo ≠ hi) : ((s.wr lo 0).wr hi 0).rd64 lo hi = 0 := by
  rw [State.rd64, State.rd_wr_ne _ _ h, State.rd_wr_self _ _ (by decide), State.rd_wr_self _ _ (by decide)]

/-- The two halves of a lane's counters, its pattern register and its cause are different registers. -/
theorem Adr.lanePattern_ne (n : Nat) : Adr.prbsBitsLo n ≠ Adr.prbsBitsHi n ∧ Adr.prbsErrLo n ≠ Adr.prbsErrHi n ∧
    (∀ a ∈ [Adr.prbsErrLo n, Adr.prbsErrHi n], Adr.prbsBitsLo n ≠ a ∧ Adr.prbsBitsHi n ≠ a) ∧
    (∀ a ∈ [Adr.lanePrbs n, Adr.laneCause n], Adr.prbsBitsLo n ≠ a ∧ Adr.prbsBitsHi n ≠ a ∧ Adr.prbsErrLo n ≠ a ∧ Adr.prbsErrHi n ≠ a) ∧
    Adr.lanePrbs n ≠ Adr.laneCause n := by
  simp [Adr.prbsBitsLo, Adr.prbsBitsHi, Adr.prbsErrLo, Adr.prbsErrHi, Adr.lanePrbs, Adr.laneCause]

/-! ## Pattern generators and checkers (R377) -/

section
variable {n : Fin 144} {s : State}

theorem prbsGeneratorSelect_result {v : BitVec 4} (h : v = 8 → n.val < 128 ∧ s.txState n ≠ 0) :
    ∃ t, exec (.prbsGeneratorSelect n v) s = .next t ∧ t.fget (Adr.lanePrbs n) 3 0 = v.toNat ∧ s.Only t [.regs] := by
  have hsend : ¬(v.toNat = 8 ∧ (128 ≤ n.val ∨ s.txState n = 0)) := by
    rintro ⟨hv, hoff⟩
    obtain ⟨hn, ht⟩ := h (BitVec.eq_of_toNat_eq hv)
    exact hoff.elim (fun hm => absurd hn (Nat.not_lt.2 hm)) ht
  exact ⟨_, congrArg Host.Outcome.next (if_neg hsend), (s.fget_fset_self _ _ (by decide)).trans (Nat.mod_eq_of_lt v.isLt),
    (s.fset_within _ _ _ _).only _ (by decide)⟩

theorem prbsGeneratorSelect_ignored (h : 128 ≤ n.val ∨ s.txState n = 0) : exec (.prbsGeneratorSelect n 8) s = .next s :=
  congrArg Host.Outcome.next (if_pos ⟨rfl, h⟩)

theorem prbsCheckerSelect_result (n : Fin 144) (v : BitVec 4) (s : State) : ∃ t, exec (.prbsCheckerSelect n v) s = .next t ∧
    t.fget (Adr.lanePrbs n) 7 4 = v.toNat ∧ t.flag (Adr.lanePrbs n) 8 = false ∧ t.rd64 (Adr.prbsBitsLo n) (Adr.prbsBitsHi n) = 0 ∧
    t.rd64 (Adr.prbsErrLo n) (Adr.prbsErrHi n) = 0 ∧ s.Only t [.regs] := by
  obtain ⟨hbits, herr, hcross, hother, -⟩ := Adr.lanePattern_ne n
  obtain ⟨hbl, hbh, hel, heh⟩ := hother (Adr.lanePrbs n) (by simp)
  obtain ⟨hlol, hhil⟩ := hcross (Adr.prbsErrLo n) (by simp)
  obtain ⟨hloh, hhih⟩ := hcross (Adr.prbsErrHi n) (by simp)
  let u := s.fset (Adr.lanePrbs n) 8 4 v.toNat
  have hfield : u.rd (Adr.lanePrbs n) / 16 % 32 = v.toNat := (s.fget_fset_self _ _ (by decide)).trans (Nat.mod_eq_of_lt (by omega))
  have hprbs : (s.setChk n v.toNat).rd (Adr.lanePrbs n) = u.rd (Adr.lanePrbs n) := by
    rw [State.setChk, State.rd_wr_ne _ _ heh.symm, State.rd_wr_ne _ _ hel.symm, State.rd_wr_ne _ _ hbh.symm, State.rd_wr_ne _ _ hbl.symm]
  refine ⟨_, rfl, ?_, ?_, ?_, State.rd64_clear _ herr, (s.setChk_within _ _).only _ (by decide)⟩
  · rw [State.fget, hprbs]
    show u.rd (Adr.lanePrbs n) / 16 % 16 = v.toNat
    omega
  · rw [State.flag, State.fget, hprbs]
    refine decide_eq_false ?_
    show u.rd (Adr.lanePrbs n) / 256 % 2 ≠ 1
    omega
  · rw [State.setChk, State.rd64_wr_ne _ hloh hhih, State.rd64_wr_ne _ hlol hhil]
    exact State.rd64_clear _ hbits

theorem prbsInject_result (hs : s.selfTest n = true) (hl : s.flag (Adr.lanePrbs n) 8 = true) : ∃ t, exec (.prbsInject n) s = .next t ∧
    t.rd64 (Adr.prbsErrLo n) (Adr.prbsErrHi n) = (s.rd64 (Adr.prbsErrLo n) (Adr.prbsErrHi n) + 1) % 2 ^ 64 ∧ s.Only t [.regs] := by
  have hexec : exec (.prbsInject n) s = .next (s.add64 (Adr.prbsErrLo n) (Adr.prbsErrHi n) 1) := congrArg Host.Outcome.next (if_pos (by rw [hs, hl]; rfl))
  exact ⟨_, hexec, s.rd64_add64 (Adr.lanePattern_ne n).2.1 1, (s.add64_within _ _ _).only _ (by decide)⟩

theorem prbsCheckerLock_result (hc : s.fget (Adr.lanePrbs n) 7 4 ≠ 0) (hl : s.flag (Adr.lanePrbs n) 8 = false) :
    ∃ t, exec (.prbsCheckerLock n) s = .next t ∧ t.flag (Adr.lanePrbs n) 8 = true ∧ t.flag (Adr.laneCause n) 1 = true := by
  obtain ⟨-, -, -, -, hprbs⟩ := Adr.lanePattern_ne n
  exact ⟨_, congrArg Host.Outcome.next (if_pos ⟨hc, hl⟩), (State.flag_raise_ne _ hprbs _ _ _ _ _ _).trans (s.flag_setBit_self _ (by decide)),
    State.flag_raise_self _ _ _ (by decide) _ _ _⟩

theorem prbsCheckerLoss_result (hl : s.flag (Adr.lanePrbs n) 8 = true) (compared errors : Nat) :
    ∃ t, exec (.prbsCheckerLoss n compared errors) s = .next t ∧ t.flag (Adr.lanePrbs n) 8 = false ∧ t.flag (Adr.laneCause n) 1 = true ∧
    t.rd64 (Adr.prbsBitsLo n) (Adr.prbsBitsHi n) = (s.rd64 (Adr.prbsBitsLo n) (Adr.prbsBitsHi n) + compared) % 2 ^ 64 ∧
    t.rd64 (Adr.prbsErrLo n) (Adr.prbsErrHi n) = (s.rd64 (Adr.prbsErrLo n) (Adr.prbsErrHi n) + errors) % 2 ^ 64 := by
  obtain ⟨hbits, herr, hcross, hother, hprbs⟩ := Adr.lanePattern_ne n
  obtain ⟨hbl, hbh, hel, heh⟩ := hother (Adr.lanePrbs n) (by simp)
  obtain ⟨hblc, hbhc, helc, hehc⟩ := hother (Adr.laneCause n) (by simp)
  obtain ⟨hlol, hhil⟩ := hcross (Adr.prbsErrLo n) (by simp)
  obtain ⟨hloh, hhih⟩ := hcross (Adr.prbsErrHi n) (by simp)
  refine ⟨_, congrArg Host.Outcome.next (if_pos hl), (State.flag_raise_ne _ hprbs _ _ _ _ _ _).trans (State.flag_fset_zero _ _ (by decide)),
    State.flag_raise_self _ _ _ (by decide) _ _ _, ?_, ?_⟩
  · rw [State.rd64_raise_ne _ hblc hbhc, State.fset, State.rd64_wr_ne _ hbl hbh, State.rd64_add64_ne _ ⟨hlol, hloh⟩ ⟨hhil, hhih⟩, State.rd64_add64 _ hbits]
  · rw [State.rd64_raise_ne _ helc hehc, State.fset, State.rd64_wr_ne _ hel heh, State.rd64_add64 _ herr,
      State.rd64_add64_ne _ ⟨hlol.symm, hhil.symm⟩ ⟨hloh.symm, hhih.symm⟩]

end

/-! ## Frames for the host (R381 to R383) -/

section
variable {s : State} {p : Fin 2} {q : Fin 8} {tci : Option (BitVec 16)} {f : List Byte}

theorem unmatchedFrame_result (hc : s.hostClass p q (tci.map (·.toNat)) f = none) (hl : s.legTakes p q (tci.map (·.toNat)) f = false) :
    ∃ t, exec (.unmatchedFrame p q tci f) s = .next t ∧
      t.rd (Adr.subRxDrop (subNo p q)) = min (s.rd (Adr.subRxDrop (subNo p q)) + 1) 4294967295 ∧ s.Only t [.regs] :=
  ⟨_, congrArg Host.Outcome.next (if_pos (by rw [hc, hl]; rfl)), s.rd_count _ _, (s.count_within _ _ _ _).only _ (by decide)⟩

/-- What a frame of class `c` does. -/
theorem exec_hqRxFrame {c : Nat} (h : s.hostClass p q (tci.map (·.toNat)) f = some c) (stepped : Bool) : exec (.hqRxFrame p q tci stepped f) s =
    .next (if 2016 < f.length then s.count Adr.hqDrop 31 0 1
      else if s.hqRoom then s.hqStore (subNo p q) c (tci.map (·.toNat)) stepped f
      else s.hqDiscard) := by
  show execHqRxFrame p q tci stepped f s = _
  simp only [execHqRxFrame, h]

theorem hqRxFrame_long {c : Nat} (h : s.hostClass p q (tci.map (·.toNat)) f = some c) (hlen : 2016 < f.length) (stepped : Bool) :
    ∃ t, exec (.hqRxFrame p q tci stepped f) s = .next t ∧ t.rd Adr.hqDrop = min (s.rd Adr.hqDrop + 1) 4294967295 ∧ s.Only t [.regs] := by
  rw [exec_hqRxFrame h, if_pos hlen]
  exact ⟨_, rfl, s.rd_count _ _, (s.count_within _ _ _ _).only _ (by decide)⟩

theorem hqRxFrame_discarded {c : Nat} (h : s.hostClass p q (tci.map (·.toNat)) f = some c) (hlen : f.length ≤ 2016) (hr : s.hqRoom = false) (stepped : Bool) :
    ∃ t, exec (.hqRxFrame p q tci stepped f) s = .next t ∧ t.rd Adr.hqDrop = min (s.rd Adr.hqDrop + 1) 4294967295 ∧ t.flag Adr.hqCause 0 = true ∧
      t.hif = s.hif := by
  rw [exec_hqRxFrame h, if_neg (Nat.not_lt.2 hlen), hr]
  exact ⟨_, rfl, (State.rd_wr_ne _ _ (by decide)).trans (s.rd_count _ _), State.flag_setBit_self (s.count Adr.hqDrop 31 0 1) _ (by decide), rfl⟩

/-- An interrupt that is held back sets a pending bit. -/
theorem State.interrupt_held {s : State} {v : Nat} (h : (s.hif.d3hot || decide (bits (s.msixWord (4 * v + 3)) 0 0 = 1)) = true) :
    (s.interrupt v).hif.hostMem = s.hif.hostMem := by
  rw [State.interrupt, if_pos h]
  split <;> rfl

theorem State.interrupt_sent {s : State} {v : Nat} (h : ¬(s.hif.d3hot || decide (bits (s.msixWord (4 * v + 3)) 0 0 = 1)) = true) :
    s.interrupt v = s.msixSend v := if_neg h

/-- What an interrupt leaves in host memory depends on the bytes there, the MSI-X table and D3hot. -/
theorem State.interrupt_hostMem_congr {s t : State} (hm : t.hif.hostMem = s.hif.hostMem) (ht : t.hif.msix = s.hif.msix) (hd : t.hif.d3hot = s.hif.d3hot)
    (v : Nat) : (t.interrupt v).hif.hostMem = (s.interrupt v).hif.hostMem := by
  have hw := State.msixWord_congr ht
  by_cases h : (s.hif.d3hot || decide (bits (s.msixWord (4 * v + 3)) 0 0 = 1)) = true
  · rw [State.interrupt_held h, State.interrupt_held (by rwa [hd, hw]), hm]
  · rw [State.interrupt_sent h, State.interrupt_sent (by rwa [hd, hw])]
    have hw' (u : State) (i : Nat) : (u.updHif fun h => { h with msgs := Tab.upd (fun _ => 0) h.msgs v (· + 1) }).msixWord i = u.msixWord i := rfl
    unfold State.msixSend State.hostWrite
    simp only [hw', hw, State.updHif_hif, hm]

theorem State.interrupt_updNet_hostMem (s : State) (f : Net → Net) (v : Nat) : ((s.updNet f).interrupt v).hif.hostMem = (s.interrupt v).hif.hostMem :=
  State.interrupt_hostMem_congr (s := s) (t := s.updNet f) rfl rfl rfl v

theorem length_leBytes : ∀ n v : Nat, (leBytes n v).length = n
  | 0, _ => rfl
  | n + 1, v => by rw [leBytes, List.length_cons, length_leBytes n]

theorem State.length_stamp (s : State) (q : Nat) (egress stepped : Bool) : (s.stamp q egress stepped).length = 16 := by
  simp [State.stamp, length_leBytes]

/-- The rest of a slot's header: the tag, and the timestamp where the frame is stamped. -/
noncomputable def State.hqHeader (s : State) (q : Nat) (tci : Option Nat) (stepped : Bool) (f : List Byte) : List Byte :=
  leBytes 2 (tci.getD 0) ++ List.replicate 10 0 ++
    (if decide (etherType f = 0x88F7) || (isUdp f && udpDst f == 319) then s.stamp q false stepped else List.replicate 16 0)

theorem State.length_hqHeader (s : State) (q : Nat) (tci : Option Nat) (stepped : Bool) (f : List Byte) : (s.hqHeader q tci stepped f).length = 28 := by
  unfold State.hqHeader
  split <;> simp [length_leBytes, State.length_stamp]

theorem State.hqRunEnd_hq (s : State) : s.hqRunEnd.net.hq = { s.net.hq with dropRun := 0 } := by
  unfold State.hqRunEnd
  split
  · next h => rw [← h]
  · extract_lets k t
    split
    · exact congrArg Net.hq ((State.occur_within _ _ _ _).net (by decide))
    · rfl

/-- The slot of a frame is written and the ring's tail moves on; its interrupt is still to come. -/
noncomputable def State.hqStored (s : State) (q cls : Nat) (tci : Option Nat) (stepped : Bool) (f : List Byte) : State :=
  (s.hqRunEnd.hostWrite (s.net.hq.rxBase.toNat + s.net.hq.rxTail.toNat % 2 ^ s.net.hq.rxSize * 2048)
    (leBytes 2 f.length ++ [BitVec.ofNat 8 q, BitVec.ofNat 8 (hqPhase s.net.hq.rxTail.toNat s.net.hq.rxSize + 2 * b2n tci.isSome + 16 * cls)] ++
      s.hqHeader q tci stepped f ++ f)).updNet fun x => { x with hq := { x.hq with rxTail := x.hq.rxTail + 1 } }

theorem State.hqStore_eq (s : State) (q cls : Nat) (tci : Option Nat) (stepped : Bool) (f : List Byte) :
    s.hqStore q cls tci stepped f = (s.hqStored q cls tci stepped f).interrupt s.net.hq.rxVector := by
  unfold State.hqStore State.hqStored State.hqHeader
  simp only [List.append_assoc]

theorem State.hqStored_hq (s : State) (q cls : Nat) (tci : Option Nat) (stepped : Bool) (f : List Byte) :
    (s.hqStored q cls tci stepped f).net.hq = { s.net.hq with rxTail := s.net.hq.rxTail + 1, dropRun := 0 } := by
  show ({ s.hqRunEnd.net.hq with rxTail := s.hqRunEnd.net.hq.rxTail + 1 } : Hq) = _
  rw [State.hqRunEnd_hq]

theorem State.hostWrite_hostMem_congr {s t : State} (h : t.hif.hostMem = s.hif.hostMem) (a : Nat) (bs : List Byte) :
    (t.hostWrite a bs).hif.hostMem = (s.hostWrite a bs).hif.hostMem := by
  simp only [State.hostWrite, State.updHif_hif, h]

theorem hqRxFrame_stored {c : Nat} (h : s.hostClass p q (tci.map (·.toNat)) f = some c) (hlen : f.length ≤ 2016) (hr : s.hqRoom = true) (stepped : Bool) :
    ∃ t more, exec (.hqRxFrame p q tci stepped f) s = .next t ∧ more.length = 28 ∧
      t.net.hq = { s.net.hq with rxTail := s.net.hq.rxTail + 1, dropRun := 0 } ∧
      t.hif.hostMem = ((s.hostWrite (s.net.hq.rxBase.toNat + s.net.hq.rxTail.toNat % 2 ^ s.net.hq.rxSize * 2048)
        (leBytes 2 f.length ++ [BitVec.ofNat 8 (subNo p q), BitVec.ofNat 8 (hqPhase s.net.hq.rxTail.toNat s.net.hq.rxSize + 2 * b2n tci.isSome + 16 * c)] ++
          more ++ f)).interrupt s.net.hq.rxVector).hif.hostMem := by
  have hsome : tci.isSome = (tci.map (·.toNat)).isSome := by cases tci <;> rfl
  rw [exec_hqRxFrame h, if_neg (Nat.not_lt.2 hlen), if_pos hr, State.hqStore_eq, hsome]
  have w := s.hqRunEnd_within
  refine ⟨_, s.hqHeader (subNo p q) (tci.map (·.toNat)) stepped f, rfl, s.length_hqHeader _ _ _ _,
    (congrArg Net.hq ((State.interrupt_within _ _).net (by decide))).trans (s.hqStored_hq _ _ _ _ _), ?_⟩
  rw [State.hqStored, State.interrupt_updNet_hostMem]
  refine State.interrupt_hostMem_congr (State.hostWrite_hostMem_congr (w.same .hostMem (by decide)) _ _) ?_ ?_ _
  · exact w.same .msix (by decide)
  · exact w.same .d3hot (by decide)

theorem hqTxDb_result (h : s.net.hq.txEnable = true) (tail : BitVec 16) : ∃ t, exec (.hqTxDb tail) s = .next t ∧
    t.net.hq = { s.net.hq with txTail := tail } ∧ s.Only t [.net] := by
  have hexec : exec (.hqTxDb tail) s = .next (s.updNet fun x => { x with hq := { x.hq with txTail := BitVec.ofNat 16 tail.toNat } }) :=
    congrArg Host.Outcome.next (if_pos h)
  rw [BitVec.ofNat_toNat, BitVec.setWidth_eq] at hexec
  exact ⟨_, hexec, rfl, fun _ hp => exec_frame hexec hp⟩

/-- An entry of the transmit ring is in error where it or its frame was not read, or where it cannot be sent. -/
noncomputable def State.txErr (s : State) (entry : Option (List Byte)) (dmaOk : Bool) : Bool :=
  entry.isNone || !dmaOk || decide (u16 (entry.getD []) 8 < 60 ∨ 1518 < u16 (entry.getD []) 8 ∨ 15 < u8 (entry.getD []) 10) ||
    decide (s.subports (u8 (entry.getD []) 10 / 8) ≤ u8 (entry.getD []) 10 % 8) || !s.linkUp (u8 (entry.getD []) 10 / 8) (u8 (entry.getD []) 10 % 8)

theorem State.txErr_iff (s : State) (entry : Option (List Byte)) (dmaOk : Bool) : s.txErr entry dmaOk = true ↔ s.TxBad entry dmaOk := by
  simp only [State.txErr, State.TxBad, Bool.or_eq_true, Bool.not_eq_true', decide_eq_true_eq, Option.isNone_iff_eq_none, or_assoc]

/-- The timestamp that goes back with an entry: of the frame where it was asked for and the frame has left. -/
noncomputable def State.txStamp (s : State) (entry : Option (List Byte)) (dmaOk stepped : Bool) : List Byte :=
  if ubit (entry.getD []) 11 0 && !s.txErr entry dmaOk then s.stamp (u8 (entry.getD []) 10) true stepped else List.replicate 16 0

theorem State.length_txStamp (s : State) (entry : Option (List Byte)) (dmaOk stepped : Bool) : (s.txStamp entry dmaOk stepped).length = 16 := by
  unfold State.txStamp
  split
  · exact s.length_stamp _ _ _
  · rfl

theorem exec_hqTxDone (he : s.net.hq.txEnable = true) (hne : s.net.hq.txHead ≠ s.net.hq.txTail) (hd : s.hif.d3hot = false)
    (entry : Option (List Byte)) (dmaOk stepped : Bool) : exec (.hqTxDone entry dmaOk stepped) s =
    .next (((s.hostWrite (s.net.hq.txBase.toNat + s.net.hq.txHead.toNat % 2 ^ s.net.hq.txSize * 64 + 11)
      ([BitVec.ofNat 8 (b2n (ubit (entry.getD []) 11 0) + 2 + 4 * b2n (s.txErr entry dmaOk))] ++ List.replicate 4 0 ++ s.txStamp entry dmaOk stepped)).updNet
        fun x => { x with hq := { x.hq with txHead := x.hq.txHead + 1 } }).interrupt s.net.hq.txVector) := by
  have hready : (s.net.hq.txEnable && s.net.hq.txHead != s.net.hq.txTail && !s.hif.d3hot) = true := by
    rw [he, hd, bne_iff_ne.2 hne]; rfl
  exact congrArg Host.Outcome.next (if_pos hready)

theorem hqTxDone_result (he : s.net.hq.txEnable = true) (hne : s.net.hq.txHead ≠ s.net.hq.txTail) (hd : s.hif.d3hot = false)
    (entry : Option (List Byte)) (dmaOk stepped : Bool) : ∃ t bad stamp, exec (.hqTxDone entry dmaOk stepped) s = .next t ∧
    (bad = true ↔ s.TxBad entry dmaOk) ∧ stamp.length = 16 ∧ t.net.hq = { s.net.hq with txHead := s.net.hq.txHead + 1 } ∧
    t.hif.hostMem = ((s.hostWrite (s.net.hq.txBase.toNat + s.net.hq.txHead.toNat % 2 ^ s.net.hq.txSize * 64 + 11)
      ([BitVec.ofNat 8 (b2n (ubit (entry.getD []) 11 0) + 2 + 4 * b2n bad)] ++ List.replicate 4 0 ++ stamp)).interrupt s.net.hq.txVector).hif.hostMem :=
  ⟨_, s.txErr entry dmaOk, s.txStamp entry dmaOk stepped, exec_hqTxDone he hne hd entry dmaOk stepped, s.txErr_iff entry dmaOk, s.length_txStamp _ _ _,
    congrArg Net.hq ((State.interrupt_within _ _).net (by decide)), State.interrupt_updNet_hostMem _ _ _⟩

end

/-! ## The obligation -/

/-- Settles O40, command by command. -/
theorem patternsHostFrames : Obligations.PatternsHostFrames := fun n v compared errors _ _ _ _ stepped dmaOk tail entry s _ =>
  ⟨prbsGeneratorSelect_result, prbsGeneratorSelect_ignored, prbsCheckerSelect_result n v s, prbsInject_result, prbsCheckerLock_result,
    fun hl => prbsCheckerLoss_result hl compared errors, unmatchedFrame_result,
    fun _ hc => ⟨fun hlen => hqRxFrame_long hc hlen stepped, fun hlen hr => hqRxFrame_discarded hc hlen hr stepped,
      fun hlen hr => hqRxFrame_stored hc hlen hr stepped⟩,
    fun h => hqTxDb_result h tail, fun he hne hd => hqTxDone_result he hne hd entry dmaOk stepped⟩

end Sys2Proof.Machine
end

section
/-!
SUPPORT. PMBus: what each command answers and changes (R406, R553, R554; the places of the bits of STATUS_WORD are log 41's).
-/
namespace Sys2Proof.Machine

/-! ## Answers -/

theorem State.answerBytes_only (s : State) (l : List Byte) : s.Only (s.answerBytes l) [.reply] := (s.answerBytes_within l).only _ (by decide)
theorem State.answerWord_only (s : State) (w : Nat) : s.Only (s.answerWord w) [.reply] := (s.answerWord_within w).only _ (by decide)

/-- What a command that the module does not accept leaves: the fault latched for STATUS_WORD. -/
theorem State.nack_result (s : State) : s.nack.reply = .nack ∧ s.Only s.nack [.sheds, .reply] ∧ s.nack.lv = { s.lv with stCml := true } :=
  ⟨rfl, s.nack_within.only _ (by decide), rfl⟩

/-! ## STATUS_WORD and CLEAR_FAULTS -/

/-- The four bits of STATUS_WORD that the module drives. -/
noncomputable def statusBits (input other temp cml : Bool) : Nat := bitAt 13 input + bitAt 9 other + bitAt 2 temp + bitAt 1 cml

theorem bits_statusBits (input other temp cml : Bool) :
    (bits (statusBits input other temp cml) 13 13 = 1 ↔ input = true) ∧ (bits (statusBits input other temp cml) 9 9 = 1 ↔ other = true) ∧
    (bits (statusBits input other temp cml) 2 2 = 1 ↔ temp = true) ∧ (bits (statusBits input other temp cml) 1 1 = 1 ↔ cml = true) ∧
    (statusBits input other temp cml ≠ 0 ↔ input = true ∨ other = true ∨ temp = true ∨ cml = true) := by
  revert input other temp cml
  decide

theorem State.statusWord_eq (s : State) :
    s.statusWord = statusBits (s.lv.stInput || s.inputCause) (s.lv.stOther || s.coc.pending) (s.lv.stTemp || s.tempCause) s.lv.stCml := rfl

theorem State.tempCause_eq (s : State) : s.tempCause = decide (s.lv.thermal ≠ 0 ∨ s.lv.tripped = true) := by
  rw [State.tempCause, Bool.decide_or, Bool.decide_eq_true]

theorem statusWord_result (s : State) : ∃ t, exec .statusWord s = .next t ∧ s.Only t [.reply] ∧ ∃ v, t.reply = .bytes (leBytes 2 v) ∧
    (bits v 13 13 = 1 ↔ s.lv.stInput = true ∨ s.lv.band ≠ 0) ∧ (bits v 9 9 = 1 ↔ s.lv.stOther = true ∨ s.coc.pending = true) ∧
    (bits v 2 2 = 1 ↔ s.lv.stTemp = true ∨ s.lv.thermal ≠ 0 ∨ s.lv.tripped = true) ∧ (bits v 1 1 = 1 ↔ s.lv.stCml = true) ∧
    (s.alert = true ↔ v ≠ 0) := by
  obtain ⟨hinput, hother, htemp, hcml, -⟩ := bits_statusBits (s.lv.stInput || s.inputCause) (s.lv.stOther || s.coc.pending) (s.lv.stTemp || s.tempCause) s.lv.stCml
  refine ⟨_, rfl, s.answerWord_only _, s.statusWord, rfl, ?_, ?_, ?_, hcml, decide_eq_true_iff⟩
  · rw [State.statusWord_eq, hinput, Bool.or_eq_true, State.inputCause, decide_eq_true_iff]
  · rw [State.statusWord_eq, hother, Bool.or_eq_true]
  · rw [State.statusWord_eq, htemp, Bool.or_eq_true, State.tempCause_eq, decide_eq_true_iff]

theorem clearFaults_result (s : State) : ∃ t, exec .clearFaults s = .next t ∧ t.reply = .none ∧ s.Only t [.sheds, .reply] ∧ t.lv = { s.lv with
      stInput := decide (s.lv.band ≠ 0), stTemp := decide (s.lv.thermal ≠ 0 ∨ s.lv.tripped = true), stCml := false, stOther := s.coc.pending } ∧
    (t.alert = true ↔ s.lv.band ≠ 0 ∨ s.lv.thermal ≠ 0 ∨ s.lv.tripped = true ∨ s.coc.pending = true) := by
  let t := (s.updLv fun v => { v with stInput := s.inputCause, stTemp := s.tempCause, stCml := false, stOther := s.coc.pending }).ack
  have hexec : exec .clearFaults s = .next t := rfl
  have hword : t.statusWord = statusBits s.inputCause s.coc.pending s.tempCause false := by
    show statusBits (s.inputCause || s.inputCause) (s.coc.pending || s.coc.pending) (s.tempCause || s.tempCause) false = _
    rw [Bool.or_self, Bool.or_self, Bool.or_self]
  refine ⟨t, hexec, rfl, fun _ hp => exec_frame hexec hp, by rw [← State.tempCause_eq]; rfl, ?_⟩
  obtain ⟨-, -, -, -, hany⟩ := bits_statusBits s.inputCause s.coc.pending s.tempCause false
  rw [State.alert, decide_eq_true_iff, hword, hany, State.inputCause, State.tempCause_eq, decide_eq_true_iff, decide_eq_true_iff]
  simp only [Bool.false_eq_true, or_false, or_assoc, or_comm (a := s.coc.pending = true)]

/-! ## Identification (R553) -/

theorem mfrId_result (s : State) : ∃ t, exec .mfrId s = .next t ∧ s.Only t [.reply] ∧ t.reply = .bytes (label "Getrum") :=
  ⟨_, rfl, s.answerBytes_only _, rfl⟩

theorem mfrModel_result (s : State) : ∃ t, exec .mfrModel s = .next t ∧ s.Only t [.reply] ∧
    t.reply = .bytes (label (if Config.identity 2 = 1 then "IZM2560-A1" else "IZM2560-A0")) := by
  have hvar : (Config.identity 2).toNat = 1 ↔ Config.identity 2 = 1 := by rw [← BitVec.toNat_inj]; rfl
  refine ⟨_, rfl, s.answerBytes_only _, ?_⟩
  simp only [hvar]
  split <;> rfl

theorem length_decDigits : ∀ n v : Nat, (decDigits n v).length = n
  | 0, _ => rfl
  | n + 1, v => by rw [decDigits, List.length_append, length_decDigits n, List.length_singleton]

theorem toNat_decDigit (v : Nat) : (BitVec.ofNat 8 (0x30 + v % 10)).toNat = 0x30 + v % 10 := Nat.mod_eq_of_lt (by omega)

theorem mem_decDigits {b : Byte} : ∀ {n v : Nat}, b ∈ decDigits n v → 0x30 ≤ b.toNat ∧ b.toNat ≤ 0x39
  | n + 1, v, h => by
    rw [decDigits, List.mem_append, List.mem_singleton] at h
    rcases h with h | rfl
    · exact mem_decDigits h
    · rw [toNat_decDigit]; omega

/-- Reading `n` decimal digits gives the number that they were made of, cut to `n` digits. -/
theorem foldl_decDigits : ∀ n v : Nat, (decDigits n v).foldl (fun a b => 10 * a + (b.toNat - 0x30)) 0 = v % 10 ^ n
  | 0, v => (Nat.mod_one v).symm
  | n + 1, v => by
    rw [decDigits, List.foldl_append, foldl_decDigits n, List.foldl_cons, List.foldl_nil, toNat_decDigit, Nat.add_sub_cancel_left, Nat.pow_succ',
      Nat.mod_mul, Nat.add_comm]

theorem leNat_lt : ∀ l : List Byte, leNat l < 256 ^ l.length
  | [] => Nat.one_pos
  | b :: l => by
    have hb := b.isLt
    have ih := leNat_lt l
    rw [leNat, List.length_cons, Nat.pow_succ]
    omega

theorem mfrSerial_result (s : State) : ∃ t l, exec .mfrSerial s = .next t ∧ s.Only t [.reply] ∧ t.reply = .bytes l ∧ l.length = 25 ∧
    (∀ b ∈ l, 0x30 ≤ b.toNat ∧ b.toNat ≤ 0x39) ∧
    l.foldl (fun a b => 10 * a + (b.toNat - 0x30)) 0 = leNat ((List.range 10).map fun i => Config.identity (6 + i)) := by
  refine ⟨_, _, rfl, s.answerBytes_only _, rfl, length_decDigits _ _, fun _ => mem_decDigits, ?_⟩
  rw [foldl_decDigits]
  have h := leNat_lt ((List.range 10).map fun i => Config.identity (6 + i))
  rw [List.length_map, List.length_range] at h
  exact Nat.mod_eq_of_lt (h.trans (by decide))

/-! ## Limits (R406) -/

/-- A holder of `w` tokens that takes of `f` what its target `t` asks for, or gives back what it holds beyond it. -/
theorem withheld_moved (w t f : Nat) : w + min (t - w) f - (w - t) = if w ≤ t then min t (w + f) else t := by
  split
  · next h => rw [Nat.sub_eq_zero_of_le h, Nat.sub_zero, ← Nat.add_min_add_left, Nat.add_sub_cancel' h]
  · next h => rw [Nat.sub_eq_zero_of_le (Nat.le_of_not_le h), Nat.zero_min, Nat.add_zero, Nat.sub_sub_self (Nat.le_of_not_le h)]

/-- The withheld holders take what is free up to their targets, or give back what they hold beyond them. -/
theorem State.fillWithheld_withheld (s : State) :
    s.fillWithheld.lv.powWith = (if s.lv.powWith ≤ s.powTarget then min s.powTarget (s.lv.powWith + s.lv.powFree) else s.powTarget) ∧
    s.fillWithheld.lv.fetWith = (if s.lv.fetWith ≤ s.fetTarget then min s.fetTarget (s.lv.fetWith + s.lv.fetFree) else s.fetTarget) := by
  unfold State.fillWithheld
  extract_lets tp rp tf rf s1 s2
  have hs : s2.lv.powWith = s.lv.powWith + tp - rp ∧ s2.lv.fetWith = s.lv.fetWith + tf - rf := ⟨rfl, rfl⟩
  rw [← withheld_moved, ← withheld_moved]
  split
  · obtain ⟨-, hpow, -, hfet⟩ := (State.limitEvent_within s2).tokens (by decide)
    rw [hpow, hfet]
    exact hs
  · exact hs

/-- A move of the withheld holders sets neither limit. -/
theorem State.fillWithheld_limits (s : State) : s.fillWithheld.lv.pmPow = s.lv.pmPow ∧ s.fillWithheld.lv.pmFet = s.lv.pmFet :=
  Prod.mk.inj (s.fillWithheld_within.same .limits (by decide))

theorem State.fillWithheld_lvCfg (s : State) (hi lo : Nat) : s.fillWithheld.fget Adr.lvCfg hi lo = s.fget Adr.lvCfg hi lo := by
  unfold State.fillWithheld
  extract_lets tp rp tf rf s1 s2
  split
  · exact s2.fget_raise_ne (by decide) _ _ _ _ _ _ _
  · rfl

theorem State.fillWithheld_targets (s : State) : s.fillWithheld.powTarget = s.powTarget ∧ s.fillWithheld.fetTarget = s.fetTarget := by
  obtain ⟨hp, hf⟩ := s.fillWithheld_limits
  exact ⟨by rw [State.powTarget, State.powLimit, State.fillWithheld_lvCfg, hp]; rfl, by rw [State.fetTarget, State.fetLimit, State.fillWithheld_lvCfg, hf]; rfl⟩

section
variable {w : BitVec 16} {s : State}

/-- The limit of power that a word of MFR_POWER_LIMIT stands for. -/
theorem exec_mfrPowerLimit (h : w = 0 ∨ 4120 ≤ w.toNat ∧ w.toNat ≤ 8400) : exec (.mfrPowerLimit (some w)) s =
    .next (s.updLv fun v => { v with pmPow := if w = 0 then none else some w.toNat }).fillWithheld.ack := by
  have hzero : w.toNat = 0 ↔ w = 0 := by rw [← BitVec.toNat_inj]; rfl
  show execMfrPowerLimit (some w) s = _
  simp only [execMfrPowerLimit, hzero]
  by_cases hw : w = 0
  · rw [if_pos hw, if_pos hw]
  · rw [if_neg hw, if_neg hw, if_pos (h.resolve_left hw)]

theorem mfrPowerLimit_result (h : w = 0 ∨ 4120 ≤ w.toNat ∧ w.toNat ≤ 8400) : ∃ t, exec (.mfrPowerLimit (some w)) s = .next t ∧ t.reply = .none ∧
    t.lv.pmPow = (if w = 0 then none else some w.toNat) ∧ t.lv.powFree + t.lv.powWith = s.lv.powFree + s.lv.powWith ∧
    t.lv.powWith = (if s.lv.powWith ≤ t.powTarget then min t.powTarget (s.lv.powWith + s.lv.powFree) else t.powTarget) := by
  let u := s.updLv fun v => { v with pmPow := if w = 0 then none else some w.toNat }
  have htarget : u.fillWithheld.ack.powTarget = u.powTarget := u.fillWithheld_targets.1
  exact ⟨_, exec_mfrPowerLimit h, rfl, u.fillWithheld_limits.1, u.fillWithheld_sums.1, htarget.symm ▸ u.fillWithheld_withheld.1⟩

theorem mfrPowerLimit_refused (h : ¬(w = 0 ∨ 4120 ≤ w.toNat ∧ w.toNat ≤ 8400)) : ∃ t, exec (.mfrPowerLimit (some w)) s = .next t ∧ t.reply = .nack ∧
    s.Only t [.sheds, .reply] ∧ t.lv = { s.lv with stCml := true } := by
  have hzero : w.toNat = 0 ↔ w = 0 := by rw [← BitVec.toNat_inj]; rfl
  obtain ⟨hw, hrange⟩ := not_or.1 h
  exact ⟨_, congrArg Host.Outcome.next ((if_neg (mt hzero.1 hw)).trans (if_neg hrange)), s.nack_result⟩

/-- The limit of fetch that a word of MFR_FETCH_LIMIT stands for. -/
theorem exec_mfrFetchLimit (h : w = 0xFFFF ∨ w.toNat ≤ 2000) : exec (.mfrFetchLimit (some w)) s =
    .next (s.updLv fun v => { v with pmFet := if w = 0xFFFF then none else some w.toNat }).fillWithheld.ack := by
  have hnone : w.toNat = 0xFFFF ↔ w = 0xFFFF := by rw [← BitVec.toNat_inj]; rfl
  show execMfrFetchLimit (some w) s = _
  simp only [execMfrFetchLimit, hnone]
  by_cases hw : w = 0xFFFF
  · rw [if_pos hw, if_pos hw]
  · rw [if_neg hw, if_neg hw, if_pos (h.resolve_left hw)]

theorem mfrFetchLimit_result (h : w = 0xFFFF ∨ w.toNat ≤ 2000) : ∃ t, exec (.mfrFetchLimit (some w)) s = .next t ∧ t.reply = .none ∧
    t.lv.pmFet = (if w = 0xFFFF then none else some w.toNat) ∧ t.lv.fetFree + t.lv.fetWith = s.lv.fetFree + s.lv.fetWith ∧
    t.lv.fetWith = (if s.lv.fetWith ≤ t.fetTarget then min t.fetTarget (s.lv.fetWith + s.lv.fetFree) else t.fetTarget) := by
  let u := s.updLv fun v => { v with pmFet := if w = 0xFFFF then none else some w.toNat }
  have htarget : u.fillWithheld.ack.fetTarget = u.fetTarget := u.fillWithheld_targets.2
  exact ⟨_, exec_mfrFetchLimit h, rfl, u.fillWithheld_limits.2, u.fillWithheld_sums.2, htarget.symm ▸ u.fillWithheld_withheld.2⟩

theorem mfrFetchLimit_refused (h : ¬(w = 0xFFFF ∨ w.toNat ≤ 2000)) : ∃ t, exec (.mfrFetchLimit (some w)) s = .next t ∧ t.reply = .nack ∧
    s.Only t [.sheds, .reply] ∧ t.lv = { s.lv with stCml := true } := by
  have hnone : w.toNat = 0xFFFF ↔ w = 0xFFFF := by rw [← BitVec.toNat_inj]; rfl
  obtain ⟨hw, hrange⟩ := not_or.1 h
  exact ⟨_, congrArg Host.Outcome.next ((if_neg (mt hnone.1 hw)).trans (if_neg hrange)), s.nack_result⟩

end

/-! ## The obligation -/

/-- Settles O51, command by command. -/
theorem pmbusCommands : Obligations.PmbusCommands := fun _ _ _ _ s _ =>
  ⟨clearFaults_result s, statusWord_result s, ⟨_, rfl, s.answerWord_only _, rfl⟩, ⟨_, rfl, s.answerWord_only _, rfl⟩, ⟨_, rfl, s.answerWord_only _, rfl⟩,
    ⟨_, rfl, s.answerWord_only _, rfl⟩, ⟨_, _, rfl, fun _ hp => exec_frame (c := .readIin) rfl hp, rfl, rfl⟩, mfrId_result s, mfrModel_result s, mfrSerial_result s,
    ⟨_, rfl, s.answerWord_only _, rfl⟩, mfrPowerLimit_result, mfrPowerLimit_refused, ⟨_, rfl, s.answerWord_only _, rfl⟩, mfrFetchLimit_result, mfrFetchLimit_refused,
    ⟨_, rfl, s.answerBytes_only _, rfl⟩, ⟨_, _, _, rfl, rfl, rfl, rfl, rfl, rfl⟩, fun h => ⟨_, congrArg Host.Outcome.next (if_neg (Nat.not_le.2 h)), s.nack_result⟩,
    fun h => ⟨_, congrArg Host.Outcome.next (if_neg (Bool.eq_false_iff.1 h)), s.nack_result⟩⟩

end Sys2Proof.Machine
end

section
/-!
SUPPORT. The management pairs: what each operation of the fabric leaves of the pairs, the slots and the moult, then MGMT_WATCHDOG,
LOCKSTEP_MISMATCH, PAIR_BOOT and J4_DISCONNECT (R474 to R476, R480, R486).
-/
namespace Sys2Proof.Machine

/-! ## Pairs and slots -/

section
variable (m : Mg) (p q : Nat) (v : Pair)

theorem Mg.pair_setPair_self : (m.setPair p v).pair p = v := by
  unfold Mg.setPair Mg.pair
  split <;> rfl

variable {p q} in
theorem Mg.pair_setPair_ne (hp : p ≤ 1) (hq : q ≤ 1) (h : q ≠ p) : (m.setPair p v).pair q = m.pair q := by
  unfold Mg.setPair Mg.pair
  by_cases hp0 : p = 0
  · rw [if_pos hp0, if_neg fun hq0 => h (hq0.trans hp0.symm), if_neg fun hq0 => h (hq0.trans hp0.symm)]
  · rw [if_neg hp0, if_pos (by omega), if_pos (by omega)]

variable {p} in
theorem Mg.pair_setPair_other (hp : p ≤ 1) : (m.setPair p v).pair (1 - p) = m.pair (1 - p) := m.pair_setPair_ne v hp (Nat.sub_le _ _) (by omega)
variable {p} in
theorem Mg.pair_setPair_of_other (hp : p ≤ 1) : (m.setPair (1 - p) v).pair p = m.pair p := m.pair_setPair_ne v (Nat.sub_le _ _) hp (by omega)

/-- Of the fabric a pair is set alone. -/
theorem Mg.setPair_rest : (m.setPair p v).moult = m.moult ∧ (m.setPair p v).noFw = m.noFw ∧ (m.setPair p v).slotA = m.slotA ∧ (m.setPair p v).slotB = m.slotB := by
  unfold Mg.setPair
  split <;> exact ⟨rfl, rfl, rfl, rfl⟩

theorem Mg.setPair_slotOf (i : Nat) : (m.setPair p v).slotOf i = m.slotOf i := by
  obtain ⟨-, -, ha, hb⟩ := m.setPair_rest p v
  rw [Mg.slotOf, Mg.slotOf, ha, hb]

theorem Mg.slotOf_setSlot_self (i : Nat) (x : Slot48) : (m.setSlot i x).slotOf i = x := by
  unfold Mg.setSlot Mg.slotOf
  split <;> rfl

/-- Of the fabric a slot is set alone. -/
theorem Mg.setSlot_rest (i : Nat) (x : Slot48) : (m.setSlot i x).a = m.a ∧ (m.setSlot i x).b = m.b ∧ (m.setSlot i x).moult = m.moult ∧ (m.setSlot i x).noFw = m.noFw := by
  unfold Mg.setSlot
  split <;> exact ⟨rfl, rfl, rfl, rfl⟩

theorem Mg.setSlot_pair (i : Nat) (x : Slot48) : (m.setSlot i x).pair p = m.pair p := by
  obtain ⟨ha, hb, -⟩ := m.setSlot_rest i x
  rw [Mg.pair, Mg.pair, ha, hb]

end

/-! ## What the operations of the fabric leave of it -/

section
variable (s : State)

theorem Within.mg {m : Nat} {s t : State} (w : Within m s t) (h : m.testBit 35 = false) : t.mg = s.mg := w.same .mgmt h

theorem State.mgRaise_mg (bit code : Nat) (d : List (Nat × Nat × Nat)) : (s.mgRaise bit code d).mg = s.mg := (s.mgRaise_within _ _ _).mg (by decide)
theorem State.setPower_mg (st : Nat) : (s.setPower st).mg = s.mg := (s.setPower_within _).mg (by decide)
theorem State.drain_mg (burst : Bool) : (s.drain burst).mg = s.mg := (s.drain_within _).mg (by decide)

/-- The moult in a state, for a reason, since now. -/
noncomputable def Moult.to (m : Moult) (st : MoultState) (reason now : Nat) : Moult := { m with state := st, reason := reason, since := now }

theorem State.moultTo_mg (st : MoultState) (reason : Nat) : (s.moultTo st reason).mg = { s.mg with moult := s.mg.moult.to st reason s.now } :=
  (State.occur_within _ _ _ _).mg (by decide)

theorem State.moultTo_regs (st : MoultState) (reason : Nat) : (s.moultTo st reason).regs = s.regs := (s.moultTo_within _ _).same .regs (by decide)

theorem State.moultTo_occurred (st : MoultState) (reason : Nat) : s.Occurred (s.moultTo st reason) 285 :=
  (State.occur_occurred _ _ _ _ : (s.updMoult _).Occurred _ _)

/-- A pair that has been reset. -/
noncomputable def Pair.restarted (x : Pair) (st : PairState) (now : Nat) (staged : Bool) : Pair :=
  { Pair.reset with state := st, slot := x.slot, since := now, staged := staged }

theorem State.pairReset_mg (p bit : Nat) (st : PairState) (staged : Bool) :
    (s.pairReset p bit st staged).mg = s.mg.setPair p ((s.pair p).restarted st s.now staged) := State.mgRaise_mg _ _ _ _

theorem State.takeOver_mg (p : Nat) : (s.takeOver p).mg = { s.mg.setPair p { s.mg.pair p with state := .serving } with serving := p } :=
  State.mgRaise_mg _ _ _ _

end

/-! ## Resets of a pair (R475, R490) -/

theorem Adr.pairResets_ne (p : Fin 2) : Adr.pairResets p ≠ Adr.mgCause ∧ Adr.pairResets p ≠ Adr.fabStat := by
  unfold Adr.pairResets Adr.mgCause Adr.fabStat
  omega

section
variable {s : State} {p : Fin 2} {bit : Nat}

/-- Pair `p` has been reset; what that makes of the service and of the moult is still to come. -/
noncomputable def State.pairDown (s : State) (p bit : Nat) (burst : Bool) : State := (s.pairReset p bit .boot false).drain burst

theorem State.pairDown_mg (s : State) (p bit : Nat) (burst : Bool) : (s.pairDown p bit burst).mg = s.mg.setPair p ((s.pair p).restarted .boot s.now false) :=
  (State.drain_mg _ _).trans (s.pairReset_mg _ _ _ _)

/-- Draining a burst counts in a register of its own. -/
theorem State.drain_fget (s : State) (burst : Bool) {a : Nat} (h : a ≠ Adr.fabStat) (hi lo : Nat) : (s.drain burst).fget a hi lo = s.fget a hi lo := by
  cases burst
  · rfl
  · exact s.fget_fset_ne _ _ _ _ _ h

theorem State.pairDown_counted (s : State) (p : Fin 2) (hb : bit ≤ 1) (burst : Bool) : (s.pairDown p bit burst).fget (Adr.pairResets p) (16 * bit + 15) (16 * bit) =
    min (s.fget (Adr.pairResets p) (16 * bit + 15) (16 * bit) + 1) 65535 := by
  obtain ⟨hcause, hfab⟩ := Adr.pairResets_ne p
  rw [State.pairDown, State.drain_fget _ _ hfab]
  refine (State.fget_raise_ne _ hcause _ _ _ _ _ _ _).trans ((s.fget_count_self _ _ (by omega)).trans ?_)
  rw [show 16 * bit + 15 + 1 - 16 * bit = 16 by omega]
  rfl

theorem State.pairDown_raised (s : State) (p : Nat) (hb : bit ≤ 1) (burst : Bool) : (s.pairDown p bit burst).flag Adr.mgCause bit = true :=
  (State.flag_of_fget (State.drain_fget _ _ (by decide) _ _)).trans (State.flag_raise_self _ _ _ (by omega) _ _ _)

theorem State.pairDown_pair (s : State) (p bit : Nat) (burst : Bool) : (s.pairDown p bit burst).pair p = (s.pair p).restarted .boot s.now false := by
  rw [State.pair, State.pairDown_mg, Mg.pair_setPair_self]

theorem State.pairDown_other (s : State) {p : Nat} (hp : p ≤ 1) (bit : Nat) (burst : Bool) : (s.pairDown p bit burst).pair (1 - p) = s.pair (1 - p) := by
  rw [State.pair, State.pairDown_mg, Mg.pair_setPair_other _ _ hp, State.pair]

theorem State.pairDown_serving (s : State) (p bit : Nat) (burst : Bool) : (s.pairDown p bit burst).mg.serving = s.mg.serving := by
  rw [State.pairDown_mg, Mg.setPair_serving]

/-- What follows a reset of pair `p` leaves of that pair and of the registers that tell of its reset. -/
structure State.PairKept (s t : State) (p : Nat) : Prop where
  pair : t.pair p = s.pair p
  resets : ∀ hi lo, t.fget (Adr.pairResets p) hi lo = s.fget (Adr.pairResets p) hi lo
  cause : ∀ k < 2, t.flag Adr.mgCause k = s.flag Adr.mgCause k

theorem State.PairKept.refl (s : State) (p : Nat) : s.PairKept s p := ⟨rfl, fun _ _ => rfl, fun _ _ => rfl⟩

/-- A cause leaves the bits below its own. -/
theorem State.flag_raise_below (s : State) (cause mask : Nat) {bit k : Nat} (h : k < bit) (hb : bit ≤ 32) (src code : Nat) (d : List (Nat × Nat × Nat)) :
    (s.raise cause mask bit src code d).flag cause k = s.flag cause k := by
  have hs : (s.setBit cause bit).flag cause k = s.flag cause k := s.flag_fset_below _ _ _ _ h hb
  unfold State.raise
  extract_lets t
  split
  · rw [State.flag_congr (State.occur_regs _ _ _ _), hs]
  · exact hs

theorem State.moultTo_kept (s : State) (st : MoultState) (reason p : Nat) : s.PairKept (s.moultTo st reason) p where
  pair := by rw [State.pair, State.moultTo_mg]; rfl
  resets := State.fget_congr (s.moultTo_regs st reason) _
  cause := fun k _ => State.flag_congr (s.moultTo_regs st reason) _ k

theorem State.takeOver_kept (s : State) (p : Fin 2) (f : Moult → Moult) : s.PairKept ((s.takeOver (1 - p)).updMoult f) p where
  pair := by
    show (s.takeOver (1 - p)).pair p = _
    rw [State.pair, State.takeOver_mg]
    exact Mg.pair_setPair_of_other _ _ (by omega)
  resets := State.fget_raise_ne _ (Adr.pairResets_ne p).1 _ _ _ _ _
  cause := fun _ hk => State.flag_raise_below _ _ _ hk (by decide) _ _ _

/-- After a reset of pair `p` nothing more happens, or the moult is rejected, or the other pair takes over from a `p` that served. -/
theorem State.afterReset_cases (s : State) (p : Nat) (m : Mg) : s.afterReset p m = s ∨ s.afterReset p m = s.moultTo .rejected 7 ∨
    m.serving = p ∧ ∃ f, s.afterReset p m = (s.takeOver (1 - p)).updMoult f := by
  unfold State.afterReset
  extract_lets st o
  split
  · next h =>
    split
    · exact .inr (.inr ⟨h.symm, _, rfl⟩)
    split
    · exact .inr (.inr ⟨h.symm, id, rfl⟩)
    · exact .inl rfl
  split
  · exact .inr (.inl rfl)
  · exact .inl rfl

theorem State.afterReset_kept (s : State) (p : Fin 2) (m : Mg) : s.PairKept (s.afterReset p m) p := by
  rcases s.afterReset_cases p m with h | h | ⟨-, f, h⟩ <;> rw [h]
  · exact .refl s p
  · exact s.moultTo_kept _ _ p
  · exact s.takeOver_kept p f

/-- A standby pair that runs the image of the pair that served takes over from it. -/
theorem State.afterReset_takes (s : State) {p : Nat} {m : Mg} (hs : m.serving = p) (hst : (m.pair (1 - p)).state = .standby)
    (hslot : (m.pair (1 - p)).slot = (m.pair p).slot) (hv : (m.pair (1 - p)).version = (m.pair p).version) :
    ∃ f, s.afterReset p m = (s.takeOver (1 - p)).updMoult f := by
  unfold State.afterReset
  extract_lets st o
  rw [if_pos hs.symm]
  split
  · exact ⟨_, rfl⟩
  · exact ⟨id, if_pos ⟨hst, hslot, hv⟩⟩

theorem State.afterReset_alone (s : State) {p : Nat} {m : Mg} (hs : m.serving = p) (hst : (m.pair (1 - p)).state ≠ .standby) : s.afterReset p m = s := by
  unfold State.afterReset
  extract_lets st o
  rw [if_pos hs.symm, if_neg fun h => hst h.2, if_neg fun h => hst h.1]

theorem State.afterReset_rejects (s : State) {p : Nat} {m : Mg} (hs : m.serving ≠ p) (hm : m.moult.state = .loading ∨ m.moult.state = .ready) :
    s.afterReset p m = s.moultTo .rejected 7 := by
  unfold State.afterReset
  extract_lets st o
  rw [if_neg (Ne.symm hs), if_pos (hm.imp id .inl)]

theorem State.afterReset_idle (s : State) (p : Nat) {m : Mg} (hs : m.serving ≠ p) :
    (s.afterReset p m).mg.serving = s.mg.serving ∧ (s.afterReset p m).pair (1 - p) = s.pair (1 - p) := by
  rcases s.afterReset_cases p m with h | h | ⟨hp, -⟩
  · rw [h]; exact ⟨rfl, rfl⟩
  · rw [h]; exact ⟨by rw [State.moultTo_mg], (s.moultTo_kept _ _ _).pair⟩
  · exact absurd hp hs

theorem State.resetPair_result (h : (s.pair p).state ≠ .off) (hb : bit ≤ 1) (burst : Bool) : s.PairReset (s.resetPair p bit burst) p bit := by
  let u := s.pairDown p bit burst
  have hp : p.val ≤ 1 := by omega
  have he : s.resetPair p bit burst = u.afterReset p s.mg := if_neg h
  have hother : u.pair (1 - p) = s.pair (1 - p) := s.pairDown_other hp bit burst
  obtain ⟨hpair, hresets, hcause⟩ := u.afterReset_kept p s.mg
  rw [he]
  refine ⟨?_, ?_, ?_, fun hs hst hslot hv => ?_, fun hs hst => ?_, fun hs hm => ?_, fun hs => ?_⟩
  · rw [hpair, s.pairDown_pair]
    exact ⟨rfl, rfl, rfl, rfl⟩
  · rw [hresets]
    exact s.pairDown_counted p hb burst
  · rw [hcause _ (by omega)]
    exact s.pairDown_raised p hb burst
  · obtain ⟨f, hf⟩ := u.afterReset_takes (p := p) hs hst hslot hv
    rw [hf]
    have hmg := u.takeOver_mg (1 - p)
    refine ⟨congrArg Mg.serving hmg, ?_, State.flag_raise_self _ _ _ (by decide) _ _ _⟩
    show ((u.takeOver (1 - p)).mg.pair (1 - p)).state = _
    rw [hmg]
    exact congrArg Pair.state (Mg.pair_setPair_self _ _ _)
  · rw [u.afterReset_alone (p := p) hs hst]
    exact ⟨(s.pairDown_serving _ _ _).trans hs, hother⟩
  · rw [u.afterReset_rejects (p := p) hs hm, State.moultTo_mg]
    exact ⟨rfl, rfl⟩
  · obtain ⟨hserving, hpair'⟩ := u.afterReset_idle p (m := s.mg) hs
    exact ⟨hserving.trans (s.pairDown_serving _ _ _), hpair'.trans hother⟩

theorem State.resetPair_off (h : (s.pair p).state = .off) (burst : Bool) : s.resetPair p bit burst = s := if_pos h

end

/-! ## Boot (R486) -/

/-- A boot by commit sequence may take slot `i`. -/
noncomputable def Mg.boots (m : Mg) (bad : Nat → Bool) (i : Nat) : Bool := (m.slotOf i).valid && !bad i

theorem Mg.bootSlot_def (m : Mg) (bad : Nat → Bool) : m.bootSlot bad = [m.first, 1 - m.first].find? (m.boots bad) := rfl

theorem Mg.first_eq (m : Mg) : m.first = 0 ∧ m.slotB.seq.toNat ≤ m.slotA.seq.toNat ∨ m.first = 1 ∧ m.slotA.seq.toNat < m.slotB.seq.toNat := by
  unfold Mg.first
  split
  · exact .inr ⟨rfl, ‹_›⟩
  · exact .inl ⟨rfl, Nat.not_lt.1 ‹_›⟩

/-- The boot by commit sequence takes slot `i` where it may, and the other slot, if it may take that, has the lower sequence. -/
theorem Mg.bootSlot_eq {m : Mg} {bad : Nat → Bool} {i : Nat} (hi : i ≤ 1) (hb : m.boots bad i = true)
    (ho : m.boots bad (1 - i) = true → (m.slotOf (1 - i)).seq.toNat < (m.slotOf i).seq.toNat) : m.bootSlot bad = some i := by
  rw [Mg.bootSlot_def]
  have hi01 : i = 0 ∨ i = 1 := by omega
  rcases hi01 with rfl | rfl <;> rcases m.first_eq with ⟨hf, hle⟩ | ⟨hf, hlt⟩ <;> rw [hf]
  · exact List.find?_cons_of_pos hb
  · have hn : ¬m.boots bad 1 = true := fun h => absurd (ho h) (Nat.not_lt.2 (Nat.le_of_lt hlt))
    rw [List.find?_cons_of_neg hn]
    exact List.find?_cons_of_pos hb
  · have hn : ¬m.boots bad 0 = true := fun h => absurd (ho h) (Nat.not_lt.2 hle)
    rw [List.find?_cons_of_neg hn]
    exact List.find?_cons_of_pos hb
  · exact List.find?_cons_of_pos hb

theorem Mg.bootSlot_none {m : Mg} {bad : Nat → Bool} (h0 : m.boots bad 0 = false) (h1 : m.boots bad 1 = false) : m.bootSlot bad = none := by
  rw [Mg.bootSlot_def, List.find?_eq_none]
  rcases m.first_eq with ⟨hf, -⟩ | ⟨hf, -⟩ <;> simp [hf, h0, h1]

/-- A pair that runs the image of a slot. -/
noncomputable def Mg.running (m : Mg) (p slot : Nat) : Pair :=
  { Pair.reset with state := if m.serving = p ∨ m.noFw = true then .serving else .standby, remap := true, slot := slot, version := (m.slotOf slot).version }

/-- A pair that runs serves where it is the serving pair, or where there was no firmware. -/
theorem State.pairRuns_mg (s : State) (p slot : Nat) : (s.pairRuns p slot).mg =
    { s.mg.setPair p (s.mg.running p slot) with noFw := false, serving := if s.mg.serving = p ∨ s.mg.noFw = true then p else s.mg.serving } := by
  have hserve : (decide (p = s.mg.serving) || s.mg.noFw) = decide (s.mg.serving = p ∨ s.mg.noFw = true) := by
    rw [Bool.decide_or, Bool.decide_eq_true, decide_eq_decide.2 (eq_comm (a := p))]
  unfold State.pairRuns
  extract_lets served serve x t st
  have ht : t.mg = { s.mg.setPair p (s.mg.running p slot) with noFw := false, serving := if s.mg.serving = p ∨ s.mg.noFw = true then p else s.mg.serving } := by
    unfold t serve served
    rw [hserve]
    simp only [decide_eq_true_eq]
    rfl
  split
  · rw [State.setPower_mg, ht]
  · exact ht

theorem State.pairRuns_pair (s : State) (p slot : Nat) : (s.pairRuns p slot).pair p = s.mg.running p slot := by
  rw [State.pair, State.pairRuns_mg]
  exact Mg.pair_setPair_self _ _ _

theorem State.pairRuns_moult (s : State) (p slot : Nat) : (s.pairRuns p slot).mg.moult = s.mg.moult := by
  rw [State.pairRuns_mg]
  exact (Mg.setPair_rest _ _ _).1

theorem State.bootBySeq_some {s : State} {bad : Nat → Bool} {i : Nat} (h : s.mg.bootSlot bad = some i) (p : Nat) : s.bootBySeq p bad = s.pairRuns p i := by
  unfold State.bootBySeq
  rw [h]

/-- A pair without a valid image stays in its boot ROM. -/
noncomputable def State.noImage (s : State) (p : Nat) : State := s.updMg fun m => { m.setPair p { m.pair p with state := .boot, staged := false } with noFw := true }

theorem State.bootBySeq_none {s : State} {bad : Nat → Bool} (h : s.mg.bootSlot bad = none) (p : Nat) : s.bootBySeq p bad = s.noImage p := by
  unfold State.bootBySeq
  rw [h]
  rfl

/-- A boot by commit sequence is no business of the moult, and the staged slot is forgotten. -/
theorem State.bootBySeq_moult (s : State) (p : Nat) (bad : Nat → Bool) : (s.bootBySeq p bad).mg.moult = s.mg.moult ∧ ((s.bootBySeq p bad).pair p).staged = false := by
  cases h : s.mg.bootSlot bad with
  | some i =>
    rw [State.bootBySeq_some h, State.pairRuns_moult, State.pairRuns_pair]
    exact ⟨rfl, rfl⟩
  | none =>
    rw [State.bootBySeq_none h]
    exact ⟨(Mg.setPair_rest _ _ _).1, congrArg Pair.staged (Mg.pair_setPair_self _ _ _)⟩

section
variable {s : State} {p : Fin 2} {badA badB : Bool}

/-- The slots whose image fails verification. -/
noncomputable def badSlots (badA badB : Bool) (i : Nat) : Bool := if i = 0 then badA else badB

/-- A boot that no moult has asked for, and that ends none. -/
theorem exec_pairBoot_bySeq (h : (s.pair p).state = .boot) (hs : (s.pair p).staged = false) (hr : s.mg.moult.reload = none) :
    exec (.pairBoot p badA badB) s = .next (s.bootBySeq p (badSlots badA badB)) := by
  have hreload : (s.bootBySeq p (badSlots badA badB)).mg.moult.reload = none := (congrArg Moult.reload (s.bootBySeq_moult _ _).1).trans hr
  have hb : ¬((s.pair p).state ≠ .boot ∧ (s.pair p).state ≠ .loading ∧ (s.pair p).state ≠ .resetting) := fun hn => hn.1 h
  show execPairBoot p badA badB s = _
  unfold execPairBoot
  simp only [if_neg hb, hs, Bool.false_eq_true, if_false]
  show Host.Outcome.next (match (s.bootBySeq p (badSlots badA badB)).mg.moult.reload with | some (q, reason) => _ | none => _) = _
  rw [hreload]
  rfl

theorem pairBoot_bySeq {i : Nat} (h : (s.pair p).state = .boot) (hs : (s.pair p).staged = false) (hr : s.mg.moult.reload = none) (hi : i ≤ 1)
    (hv : (s.mg.slotOf i).valid = true) (hb : (if i = 0 then badA else badB) = false)
    (ho : (s.mg.slotOf (1 - i)).valid = true → (if 1 - i = 0 then badA else badB) = false → (s.mg.slotOf (1 - i)).seq.toNat < (s.mg.slotOf i).seq.toNat) :
    ∃ t, exec (.pairBoot p badA badB) s = .next t ∧ (t.pair p).slot = i ∧ (t.pair p).version = (s.mg.slotOf i).version ∧ (t.pair p).remap = true ∧ t.mg.noFw = false ∧
      (t.pair p).state = (if s.mg.serving = p ∨ s.mg.noFw = true then .serving else .standby) ∧ (s.mg.noFw = true → t.mg.serving = p) := by
  have hboots : s.mg.boots (badSlots badA badB) i = true := by
    rw [Mg.boots, hv, show badSlots badA badB i = false from hb]; rfl
  have hslot : s.mg.bootSlot (badSlots badA badB) = some i := by
    refine Mg.bootSlot_eq hi hboots fun h => ?_
    rw [Mg.boots, Bool.and_eq_true, Bool.not_eq_true'] at h
    exact ho h.1 h.2
  refine ⟨_, (exec_pairBoot_bySeq h hs hr).trans (congrArg _ (State.bootBySeq_some hslot p)), ?_⟩
  rw [State.pairRuns_pair, State.pairRuns_mg]
  exact ⟨rfl, rfl, rfl, rfl, rfl, fun hn => if_pos (.inr hn)⟩

theorem pairBoot_noImage (h : (s.pair p).state = .boot) (hs : (s.pair p).staged = false) (hr : s.mg.moult.reload = none)
    (h0 : (s.mg.slotOf 0).valid = false ∨ badA = true) (h1 : (s.mg.slotOf 1).valid = false ∨ badB = true) :
    ∃ t, exec (.pairBoot p badA badB) s = .next t ∧ t.mg.noFw = true ∧ (t.pair p).state = .boot ∧ s.Only t [.mgmt] := by
  have hno {i : Nat} (hi : (s.mg.slotOf i).valid = false ∨ badSlots badA badB i = true) : s.mg.boots (badSlots badA badB) i = false := by
    rcases hi with hi | hi <;> simp [Mg.boots, hi]
  have hslot := Mg.bootSlot_none (bad := badSlots badA badB) (hno h0) (hno h1)
  refine ⟨_, (exec_pairBoot_bySeq h hs hr).trans (congrArg _ (State.bootBySeq_none hslot p)), rfl, congrArg Pair.state (Mg.pair_setPair_self _ _ _), ?_⟩
  have w : Within 34359738368 s (s.noImage p) := State.updMg_via (s := s) (fun _ hx => (Mg.setPair_serving ..).trans_le hx) (by decide) (Within.refl _ _)
  exact w.only _ (by decide)

theorem pairBoot_staged (h : (s.pair p).state = .loading) (hs : (s.pair p).staged = true) (hf : s.mg.noFw = false)
    (hv : (s.mg.slotOf s.mg.moult.target).valid = true) (hb : (if s.mg.moult.target = 0 then badA else badB) = false) :
    ∃ t, exec (.pairBoot p badA badB) s = .next t ∧ (t.pair p).slot = s.mg.moult.target ∧ (t.pair p).staged = false ∧ t.mg.moult.state = .ready ∧
      t.mg.moult.reason = 0 := by
  have hexec : exec (.pairBoot p badA badB) s = .next ((s.pairRuns p s.mg.moult.target).moultTo .ready 0) := by
    show execPairBoot p badA badB s = _
    simp [execPairBoot, h, hs, hf, hv, hb]
  refine ⟨_, hexec, ?_⟩
  rw [((s.pairRuns p s.mg.moult.target).moultTo_kept .ready 0 p).pair, State.pairRuns_pair, State.moultTo_mg]
  exact ⟨rfl, rfl, rfl, rfl⟩

theorem pairBoot_rejected (h : (s.pair p).state = .loading) (hs : (s.pair p).staged = true) (hv : (s.mg.slotOf s.mg.moult.target).valid = false) :
    ∃ t, exec (.pairBoot p badA badB) s = .next t ∧ t.mg.moult.state = .rejected ∧ t.mg.moult.reason = 7 ∧ (t.pair p).staged = false := by
  have hexec : exec (.pairBoot p badA badB) s = .next ((s.moultTo .rejected 7).bootBySeq p (badSlots badA badB)) := by
    show execPairBoot p badA badB s = _
    simp [execPairBoot, h, hs, hv]
    rfl
  obtain ⟨hm, hst⟩ := (s.moultTo .rejected 7).bootBySeq_moult p (badSlots badA badB)
  refine ⟨_, hexec, ?_⟩
  rw [hm, hst, State.moultTo_mg]
  exact ⟨rfl, rfl, rfl⟩

theorem pairBoot_serving (h : (s.pair p).state = .serving) : exec (.pairBoot p badA badB) s = .next s :=
  congrArg Host.Outcome.next (if_pos (by rw [h]; decide))

end

/-! ## J4 (R480) -/

theorem j4Disconnect_result {s : State} (h : s.mg.locked = false) (burst : Bool) : ∃ t, exec (.j4Disconnect burst) s = .next t ∧ s.Only t [.regs] ∧
    t.fget Adr.fabStat 31 16 = (if burst = true then min (s.fget Adr.fabStat 31 16 + 1) 65535 else s.fget Adr.fabStat 31 16) := by
  have hexec : exec (.j4Disconnect burst) s = .next (s.drain burst) := congrArg Host.Outcome.next (if_neg (by rw [h]; decide))
  refine ⟨_, hexec, (s.drain_within burst).only _ (by decide), ?_⟩
  cases burst
  · rfl
  · exact s.fget_count_self _ _ (by decide)

/-! ## The obligation -/

/-- Settles O43, command by command. -/
theorem pairsBoot : Obligations.PairsBoot := fun _ burst _ _ _ _ =>
  ⟨fun h => ⟨_, rfl, State.resetPair_result h (by decide) burst⟩, fun h => ⟨_, rfl, State.resetPair_result h (by decide) burst⟩,
    fun h => ⟨congrArg Host.Outcome.next (State.resetPair_off h burst), congrArg Host.Outcome.next (State.resetPair_off h burst)⟩,
    fun _ h hs hr hi hv hb ho => pairBoot_bySeq h hs hr hi hv hb ho, pairBoot_noImage, fun h hs hf _ hv hb => pairBoot_staged h hs hf hv hb, pairBoot_rejected,
    pairBoot_serving, fun h => j4Disconnect_result h burst, fun h => congrArg Host.Outcome.next (if_pos h)⟩

end Sys2Proof.Machine
end

section
/-!
SUPPORT. The moult from staging to commit, its rejections (R487 to R490), and the field-lock fuse (R491).
-/
namespace Sys2Proof.Machine

/-! ## Staging -/

section
variable {s : State}

theorem State.Good.serving_le (g : s.Good) : s.mg.serving ≤ 1 := g.legal.2.2.1

/-- The state in which the slot that is not booted has been erased and becomes the moult's target. -/
noncomputable def State.stageErased (s : State) : State :=
  let t := 1 - (s.pair s.mg.serving).slot
  (s.updMg fun m => m.setSlot t { valid := false, version := 0, secver := 0, seq := 0 }).updMoult
    fun m => { m with target := t, kib := 0, reload := none, rolling := false }

theorem moultStage_started (hm : s.mg.moult.state = .idle ∨ s.mg.moult.state = .rejected) (hf : s.mg.noFw = false) (hr : s.mg.bothRun = true) :
    ∃ t, exec .moultStage s = .next t ∧ t.mg.moult.state = .staging ∧ t.mg.moult.target = 1 - (s.pair s.mg.serving).slot ∧
      (t.mg.slotOf t.mg.moult.target).valid = false ∧ t.mg.a = s.mg.a ∧ t.mg.b = s.mg.b ∧ s.Occurred t 285 := by
  have hexec : exec .moultStage s = .next (s.stageErased.moultTo .staging 0) := by
    refine congrArg Host.Outcome.next ((if_pos ⟨hm, .inl hr⟩).trans ?_)
    rw [hf]
    rfl
  obtain ⟨ha, hb, -⟩ := s.mg.setSlot_rest (1 - (s.pair s.mg.serving).slot) { valid := false, version := 0, secver := 0, seq := 0 }
  refine ⟨_, hexec, ?_⟩
  rw [State.moultTo_mg]
  exact ⟨rfl, rfl, congrArg Slot48.valid (Mg.slotOf_setSlot_self _ _ _), ha, hb, s.stageErased.moultTo_occurred _ _⟩

theorem moultStage_rejected (hm : s.mg.moult.state = .idle ∨ s.mg.moult.state = .rejected) (hf : s.mg.noFw = false) (hr : s.mg.bothRun = false) :
    ∃ t, exec .moultStage s = .next t ∧ t.mg.moult.state = .rejected ∧ t.mg.moult.reason = 9 ∧ t.mg.slotA = s.mg.slotA ∧ t.mg.slotB = s.mg.slotB := by
  have hexec : exec .moultStage s = .next (s.moultTo .rejected 9) := by
    refine congrArg Host.Outcome.next ((if_neg ?_).trans (if_pos hm))
    rw [hr, hf]
    exact fun h => h.2.elim Bool.false_ne_true Bool.false_ne_true
  refine ⟨_, hexec, ?_⟩
  rw [State.moultTo_mg]
  exact ⟨rfl, rfl, rfl, rfl⟩

theorem moultStage_refused (hi : s.mg.moult.state ≠ .idle) (hr : s.mg.moult.state ≠ .rejected) :
    ∃ t, exec .moultStage s = .next t ∧ t.mg = { s.mg with moult := { s.mg.moult with reason := 9 } } ∧ s.Only t [.mgmt] :=
  have hm := not_or.2 ⟨hi, hr⟩
  ⟨_, congrArg Host.Outcome.next ((if_neg fun h => hm h.1).trans (if_neg hm)), rfl, (s.updMoult_within _).only _ (by decide)⟩

/-! ## The end of staging (R487) -/

/-- The reasons for which a staged image is rejected, in the order in which they are found. -/
noncomputable def State.stageChecks (s : State) (x : StagedImage) : List (Bool × Nat) :=
  [(!x.dmaOk, 4), (!x.flashOk, 5), (!x.lengthOk || decide (3141632 < s.fget Adr.moultLen 21 0), 3), (!x.sigOk, 1),
    (decide (x.secver.toNat < if s.mg.noFw then 0 else (s.mg.slotOf (s.pair s.mg.serving).slot).secver.toNat), 2)]

/-- The target slot holds the staged image, and the moult loads it. -/
noncomputable def State.stageLoaded (s : State) (x : StagedImage) : State :=
  ((s.updMg fun m => m.setSlot m.moult.target { valid := true, version := x.version, secver := x.secver, seq := 0 }).updMoult
    fun m => { m with kib := ceilDiv (s.fget Adr.moultLen 21 0) 1024 }).moultTo .loading 0

theorem exec_moultStageDone_good {x : StagedImage} (hm : s.mg.moult.state = .staging) (hh : s.holdupOk = true) (hc : firstFail (s.stageChecks x) = none) :
    exec (.moultStageDone x) s = .next ((s.stageLoaded x).pairReset (s.stageLoaded x).mg.other 0 .loading true) := by
  have hgo : ¬(s.mg.moult.state ≠ .staging ∨ s.holdupOk = false) := by rw [hm, hh]; decide
  refine congrArg Host.Outcome.next ((if_neg hgo).trans ?_)
  show (match firstFail (s.stageChecks x) with | some r => _ | none => _) = _
  rw [hc]
  rfl

theorem exec_moultStageDone_bad {x : StagedImage} {r : Nat} (hm : s.mg.moult.state = .staging) (hh : s.holdupOk = true)
    (hc : firstFail (s.stageChecks x) = some r) : ∃ k, exec (.moultStageDone x) s = .next ((s.updMoult fun m => { m with kib := k }).moultTo .rejected r) := by
  have hgo : ¬(s.mg.moult.state ≠ .staging ∨ s.holdupOk = false) := by rw [hm, hh]; decide
  refine ⟨if r = 4 ∨ r = 5 then s.mg.moult.kib else ceilDiv (s.fget Adr.moultLen 21 0) 1024, congrArg Host.Outcome.next ((if_neg hgo).trans ?_)⟩
  show (match firstFail (s.stageChecks x) with | some r => _ | none => _) = _
  rw [hc]
  rfl

theorem moultStageDone_loads (g : s.Good) {x : StagedImage} (hm : s.mg.moult.state = .staging) (hh : s.holdupOk = true) (hf : s.mg.noFw = false)
    (hd : x.dmaOk = true) (hfl : x.flashOk = true) (hl : x.lengthOk = true) (hlen : s.fget Adr.moultLen 21 0 ≤ 3141632) (hsig : x.sigOk = true)
    (hsec : (s.mg.slotOf (s.pair s.mg.serving).slot).secver.toNat ≤ x.secver.toNat) :
    ∃ t, exec (.moultStageDone x) s = .next t ∧ t.mg.moult.state = .loading ∧
      t.mg.slotOf s.mg.moult.target = { valid := true, version := x.version, secver := x.secver, seq := 0 } ∧
      (t.pair s.mg.other).state = .loading ∧ (t.pair s.mg.other).staged = true ∧ t.pair s.mg.serving = s.pair s.mg.serving ∧ t.mg.serving = s.mg.serving := by
  have hc : firstFail (s.stageChecks x) = none := by
    simp [State.stageChecks, firstFail, hd, hfl, hl, Nat.not_lt.2 hlen, hsig, hf, Nat.not_lt.2 hsec]
  let w : Slot48 := { valid := true, version := x.version, secver := x.secver, seq := 0 }
  have hmg : (s.stageLoaded x).mg = { s.mg.setSlot s.mg.moult.target w with moult := (s.stageLoaded x).mg.moult } := by
    rw [State.stageLoaded, State.moultTo_mg]; rfl
  have hst : (s.stageLoaded x).mg.moult.state = .loading := by rw [State.stageLoaded, State.moultTo_mg]; rfl
  refine ⟨_, exec_moultStageDone_good hm hh hc, ?_⟩
  generalize s.stageLoaded x = v at hmg hst
  have hserving : v.mg.serving = s.mg.serving := by rw [hmg]; exact Mg.setSlot_serving ..
  have hother : v.mg.other = s.mg.other := congrArg (1 - ·) hserving
  have hpair (q : Nat) : v.mg.pair q = s.mg.pair q := by rw [hmg]; exact s.mg.setSlot_pair q _ _
  have hslot : v.mg.slotOf s.mg.moult.target = w := by rw [hmg]; exact s.mg.slotOf_setSlot_self _ _
  rw [State.pair, State.pair, State.pairReset_mg, hother, (Mg.setPair_rest _ _ _).1, Mg.setPair_slotOf, Mg.pair_setPair_self,
    Mg.setPair_serving, show s.mg.other = 1 - s.mg.serving from rfl, Mg.pair_setPair_of_other _ _ g.serving_le]
  exact ⟨hst, hslot, rfl, rfl, hpair _, hserving⟩

theorem moultStageDone_rejected {x : StagedImage} {r : Nat} (hm : s.mg.moult.state = .staging) (hh : s.holdupOk = true)
    (hr : x.dmaOk = false ∧ r = 4 ∨ x.dmaOk = true ∧ x.flashOk = false ∧ r = 5 ∨ x.dmaOk = true ∧ x.flashOk = true ∧ (x.lengthOk = false ∨ 3141632 < s.fget Adr.moultLen 21 0) ∧ r = 3 ∨
      x.dmaOk = true ∧ x.flashOk = true ∧ x.lengthOk = true ∧ s.fget Adr.moultLen 21 0 ≤ 3141632 ∧ x.sigOk = false ∧ r = 1 ∨
      x.dmaOk = true ∧ x.flashOk = true ∧ x.lengthOk = true ∧ s.fget Adr.moultLen 21 0 ≤ 3141632 ∧ x.sigOk = true ∧ s.mg.noFw = false ∧
        x.secver.toNat < (s.mg.slotOf (s.pair s.mg.serving).slot).secver.toNat ∧ r = 2) :
    ∃ t, exec (.moultStageDone x) s = .next t ∧ t.mg.moult.state = .rejected ∧ t.mg.moult.reason = r ∧ t.mg.slotA = s.mg.slotA ∧ t.mg.slotB = s.mg.slotB ∧
      t.mg.a = s.mg.a ∧ t.mg.b = s.mg.b := by
  have hc : firstFail (s.stageChecks x) = some r := by
    unfold State.stageChecks
    rcases hr with ⟨hd, rfl⟩ | ⟨hd, hf, rfl⟩ | ⟨hd, hf, hl | hl, rfl⟩ | ⟨hd, hf, hl, hlen, hs, rfl⟩ | ⟨hd, hf, hl, hlen, hs, hfw, hsec, rfl⟩
    · rw [hd]; rfl
    · rw [hd, hf]; rfl
    · simp [firstFail, hd, hf, hl]
    · simp [firstFail, hd, hf, hl]
    · simp [firstFail, hd, hf, hl, Nat.not_lt.2 hlen, hs]
    · simp [firstFail, hd, hf, hl, Nat.not_lt.2 hlen, hs, hfw, hsec]
  obtain ⟨k, hexec⟩ := exec_moultStageDone_bad hm hh hc
  refine ⟨_, hexec, ?_⟩
  rw [State.moultTo_mg]
  exact ⟨rfl, rfl, rfl, rfl, rfl, rfl⟩

/-! ## GO and the quiet point (R488) -/

theorem moultGo_result (h : s.mg.moult.state = .ready ∨ s.mg.moult.state = .rejected ∧ s.mg.moult.reason = 6) :
    ∃ t, exec .moultGo s = .next t ∧ t.mg.moult.state = .quiescing ∧ t.mg.moult.since = s.now ∧ s.Occurred t 285 := by
  refine ⟨_, congrArg Host.Outcome.next (if_pos h), ?_⟩
  rw [State.moultTo_mg]
  exact ⟨rfl, rfl, s.moultTo_occurred _ _⟩

theorem moultGo_ignored (hr : s.mg.moult.state ≠ .ready) (hj : s.mg.moult.state ≠ .rejected) : exec .moultGo s = .next s :=
  congrArg Host.Outcome.next (if_neg fun h => h.elim hr fun h => hj h.1)

/-- The pair that served stands by, and the other serves. -/
theorem State.swapPairs_mg (g : s.Good) : s.swapPairs.mg.serving = 1 - s.mg.serving ∧ (s.swapPairs.pair (1 - s.mg.serving)).state = .serving ∧
    (s.swapPairs.pair s.mg.serving).state = .standby ∧ s.swapPairs.mg.moult = s.mg.moult := by
  let m := s.mg.setPair s.mg.serving { s.mg.pair s.mg.serving with state := .standby }
  refine ⟨rfl, ?_, ?_, (Mg.setPair_rest _ _ _).1.trans (Mg.setPair_rest _ _ _).1⟩
  · exact congrArg Pair.state (m.pair_setPair_self (1 - s.mg.serving) _)
  · exact congrArg Pair.state ((m.pair_setPair_of_other _ g.serving_le).trans (s.mg.pair_setPair_self _ _))

theorem quietPoint_swaps (g : s.Good) (hm : s.mg.moult.state = .quiescing) (hq : s.quiet = true) : ∃ t, exec .quietPoint s = .next t ∧
    t.mg.moult.state = .probation ∧ t.mg.serving = 1 - s.mg.serving ∧ (t.pair (1 - s.mg.serving)).state = .serving ∧
    (t.pair s.mg.serving).state = .standby ∧ s.Occurred t 285 := by
  have hexec : exec .quietPoint s = .next (s.swapPairs.moultTo .probation 0) :=
    congrArg Host.Outcome.next ((if_neg (by rw [hq]; decide)).trans (if_pos hm))
  obtain ⟨hserving, hnew, hold, -⟩ := State.swapPairs_mg g
  have hkept (p : Nat) := (s.swapPairs.moultTo_kept .probation 0 p).pair
  refine ⟨_, hexec, ?_⟩
  rw [hkept, hkept, State.moultTo_mg]
  exact ⟨rfl, hserving, hnew, hold, s.swapPairs.moultTo_occurred _ _⟩

theorem quietPoint_rolls (g : s.Good) (hm : s.mg.moult.state = .probation) (hr : s.mg.moult.rolling = true) (hq : s.quiet = true) :
    ∃ t, exec .quietPoint s = .next t ∧ t.mg.serving = 1 - s.mg.serving ∧ (t.pair (1 - s.mg.serving)).state = .serving ∧
      (t.pair s.mg.serving).state = .boot ∧ t.mg.moult.reload = some (s.mg.serving, 8) := by
  let u := s.swapPairs.updMoult fun m => { m with rolling := false, reload := some (s.mg.serving, 8) }
  have hexec : exec .quietPoint s = .next (u.pairReset s.mg.serving 0 .boot false) :=
    congrArg Host.Outcome.next ((if_neg (by rw [hq]; decide)).trans ((if_neg (by rw [hm]; decide)).trans (if_pos ⟨hm, hr⟩)))
  obtain ⟨hserving, hnew, -, -⟩ := State.swapPairs_mg g
  refine ⟨_, hexec, ?_⟩
  rw [State.pair, State.pair, State.pairReset_mg, Mg.setPair_serving, Mg.pair_setPair_other _ _ g.serving_le, Mg.pair_setPair_self, (Mg.setPair_rest _ _ _).1]
  exact ⟨hserving, hnew, rfl, rfl⟩

theorem quietPoint_waits (h : s.quiet = false) : exec .quietPoint s = .next s := congrArg Host.Outcome.next (if_pos h)

theorem quietTimeout_result (hm : s.mg.moult.state = .quiescing) (ht : s.mg.moult.since + msTicks 100 ≤ s.now) :
    ∃ t, exec .quietTimeout s = .next t ∧ t.mg.moult.state = .rejected ∧ t.mg.moult.reason = 6 ∧ t.mg.serving = s.mg.serving := by
  refine ⟨_, congrArg Host.Outcome.next (if_pos ⟨hm, ht⟩), ?_⟩
  rw [State.moultTo_mg]
  exact ⟨rfl, rfl, rfl⟩

theorem quietTimeout_early (h : s.now < s.mg.moult.since + msTicks 100) : exec .quietTimeout s = .next s :=
  congrArg Host.Outcome.next (if_neg fun hn => absurd hn.2 (Nat.not_le.2 h))

/-! ## Commit and rollback (R488, R489) -/

/-- The target slot has the next commit sequence, and the moult commits; the old pair has still to reload. -/
noncomputable def State.slotCommitted (s : State) : State :=
  ((s.updMg fun g => g.setSlot g.moult.target
    { g.slotOf g.moult.target with seq := BitVec.ofNat 16 (max s.mg.slotA.seq.toNat s.mg.slotB.seq.toNat + 1) }).updMoult
      fun m => { m with reload := some (s.mg.other, 0) }).moultTo .committing 0

theorem State.moultCommit_eq (hm : s.mg.moult.state = .probation) (hr : s.mg.moult.rolling = false) (hl : s.mg.moult.reload = none) :
    s.moultCommit = s.slotCommitted.pairReset s.mg.other 0 .boot false := by
  have hother (g : Mg) (x : Slot48) : (g.setSlot g.moult.target x).other = g.other := congrArg (1 - ·) (Mg.setSlot_serving ..)
  refine (if_pos ⟨hm, hr, hl⟩).trans ?_
  show State.pairReset (State.moultTo (State.updMoult _ fun m => { m with reload := some ((s.mg.setSlot s.mg.moult.target _).other, 0) }) _ _)
    (s.mg.setSlot s.mg.moult.target _).other _ _ _ = _
  rw [hother]
  rfl

theorem moultCommit_result (hm : s.mg.moult.state = .probation) (hr : s.mg.moult.rolling = false) (hl : s.mg.moult.reload = none) :
    ∃ t, exec .moultCommit s = .next t ∧ t.mg.moult.state = .committing ∧
      (t.mg.slotOf s.mg.moult.target).seq = BitVec.ofNat 16 (max s.mg.slotA.seq.toNat s.mg.slotB.seq.toNat + 1) ∧ (t.pair s.mg.other).state = .boot ∧
      t.mg.moult.reload = some (s.mg.other, 0) ∧ t.mg.serving = s.mg.serving ∧
      (s.mg.moult.since + msTicks 1000 * s.fget Adr.moultCtl 15 8 ≤ s.now → exec .probationExpiry s = .next t) := by
  let x : Slot48 := { s.mg.slotOf s.mg.moult.target with seq := BitVec.ofNat 16 (max s.mg.slotA.seq.toNat s.mg.slotB.seq.toNat + 1) }
  have hmg : s.slotCommitted.mg = { s.mg.setSlot s.mg.moult.target x with moult := s.slotCommitted.mg.moult } := by
    rw [State.slotCommitted, State.moultTo_mg]; rfl
  have hst : s.slotCommitted.mg.moult.state = .committing ∧ s.slotCommitted.mg.moult.reload = some (s.mg.other, 0) := by
    rw [State.slotCommitted, State.moultTo_mg]; exact ⟨rfl, rfl⟩
  have hserving : s.slotCommitted.mg.serving = s.mg.serving := by rw [hmg]; exact Mg.setSlot_serving ..
  have hslot : s.slotCommitted.mg.slotOf s.mg.moult.target = x := by rw [hmg]; exact s.mg.slotOf_setSlot_self _ _
  have he := State.moultCommit_eq hm hr hl
  refine ⟨_, congrArg Host.Outcome.next he, ?_⟩
  rw [State.pair, State.pairReset_mg, (Mg.setPair_rest _ _ _).1, Mg.setPair_slotOf, Mg.pair_setPair_self, Mg.setPair_serving, hslot]
  exact ⟨hst.1, rfl, rfl, hst.2, hserving, fun h => congrArg Host.Outcome.next ((if_pos h).trans he)⟩

theorem probationExpiry_early (h : s.now < s.mg.moult.since + msTicks 1000 * s.fget Adr.moultCtl 15 8) : exec .probationExpiry s = .next s :=
  congrArg Host.Outcome.next (if_neg (Nat.not_le.2 h))

theorem moultCommit_ignored (h : s.mg.moult.state ≠ .probation) : exec .moultCommit s = .next s ∧ exec .moultRollback s = .next s :=
  ⟨congrArg Host.Outcome.next (if_neg fun hn => h hn.1), congrArg Host.Outcome.next (if_neg fun hn => h hn.1)⟩

theorem moultRollback_result (hm : s.mg.moult.state = .probation) (hl : s.mg.moult.reload = none) :
    ∃ t, exec .moultRollback s = .next t ∧ t.mg.moult = { s.mg.moult with rolling := true } ∧ s.Only t [.mgmt] :=
  ⟨_, congrArg Host.Outcome.next (if_pos ⟨hm, hl⟩), rfl, (s.updMoult_within _).only _ (by decide)⟩

/-! ## The field-lock fuse (R491) -/

theorem fuseArm_result (s : State) : ∃ t, exec .fuseArm s = .next t ∧ t.mg = { s.mg with armed := some s.now } ∧ s.Only t [.mgmt] :=
  ⟨_, rfl, rfl, fun _ hp => exec_frame (c := .fuseArm) rfl hp⟩

/-- The fuse has been armed not more than 1 ms ago, and the input carries 36 V. -/
noncomputable def State.fuseReady (s : State) : Bool :=
  (match s.mg.armed with | some a => decide (s.now ≤ a + msTicks 1) | none => false) && decide (3600 ≤ s.fget Adr.lvVin 15 0)

theorem State.fuseBlow_eq (s : State) : s.fuseBlow = s.updMg fun m => { m with locked := m.locked || s.fuseReady, armed := none } := by
  show (if s.fuseReady = true then s.updMg fun m => { m with locked := true, armed := none } else s.updMg fun m => { m with armed := none }) = _
  cases s.fuseReady
  · simp only [Bool.or_false]; rfl
  · simp only [Bool.or_true]; rfl

theorem fuseBlow_result {a : Nat} (ha : s.mg.armed = some a) (ht : s.now ≤ a + msTicks 1) (hv : 3600 ≤ s.fget Adr.lvVin 15 0) :
    ∃ t, exec .fuseBlow s = .next t ∧ t.mg = { s.mg with locked := true, armed := none } ∧ s.Only t [.mgmt] := by
  have hready : s.fuseReady = true := by
    rw [State.fuseReady, ha]
    exact Bool.and_eq_true_iff.2 ⟨decide_eq_true ht, decide_eq_true hv⟩
  have hexec : exec .fuseBlow s = .next (s.updMg fun m => { m with locked := true, armed := none }) := by
    refine congrArg Host.Outcome.next (s.fuseBlow_eq.trans ?_)
    rw [hready]
    simp only [Bool.or_true]
  exact ⟨_, hexec, rfl, fun _ hp => exec_frame hexec hp⟩

theorem fuseBlow_refused (h : s.mg.armed = none ∨ (∃ a, s.mg.armed = some a ∧ a + msTicks 1 < s.now) ∨ s.fget Adr.lvVin 15 0 < 3600) :
    ∃ t, exec .fuseBlow s = .next t ∧ t.mg.locked = s.mg.locked ∧ t.mg.armed = none := by
  have hready : s.fuseReady = false := by
    rcases h with h | ⟨a, h, ht⟩ | h
    · rw [State.fuseReady, h]; rfl
    · rw [State.fuseReady, h]
      exact Bool.and_eq_false_iff.2 (.inl (decide_eq_false (Nat.not_le.2 ht)))
    · exact Bool.and_eq_false_iff.2 (.inr (decide_eq_false (Nat.not_le.2 h)))
  refine ⟨_, congrArg Host.Outcome.next s.fuseBlow_eq, ?_, rfl⟩
  rw [hready]
  exact Bool.or_false _

end

/-! ## The obligation -/

/-- Settles O44, command by command. -/
theorem moultFuse : Obligations.MoultFuse := fun _ s g =>
  ⟨moultStage_started, moultStage_rejected, moultStage_refused, moultStageDone_loads g, fun _ hm hh hr => moultStageDone_rejected hm hh hr, moultGo_result,
    moultGo_ignored, quietPoint_swaps g, quietPoint_rolls g, quietPoint_waits, quietTimeout_result, quietTimeout_early, moultCommit_result, probationExpiry_early,
    moultCommit_ignored, moultRollback_result, fuseArm_result s, fun _ ha ht hv => fuseBlow_result ha ht hv, fuseBlow_refused⟩

end Sys2Proof.Machine
end

section
/-!
SUPPORT. Power states: what GLB.PWR_STAT shows, then PWR_TARGET_RUN, PWR_TARGET_QUIET, PWR_TARGET_STANDBY, STANDBY_ENTRY_DONE and
WAKE_DONE (R501 to R503, R506).
-/
namespace Sys2Proof.Machine

/-! ## GLB.PWR_STAT -/

section
variable (s : State)

theorem Within.pwr {m : Nat} {s t : State} (w : Within m s t) (h : m.testBit 39 = false) : t.pwr = s.pwr := w.same .power h

theorem Within.nv {m : Nat} {s t : State} (w : Within m s t) (h : m.testBit 37 = false) : t.nv = s.nv := w.same .nv h

theorem State.powerTo_regs (st : Nat) : s.fget Adr.pwrStat 2 0 = st ∧ s.powerTo st = s ∨ (s.powerTo st).regs = (s.fset Adr.pwrStat 2 0 st).regs := by
  unfold State.powerTo
  extract_lets old
  split
  · exact .inl ⟨‹_›, rfl⟩
  · exact .inr (State.occur_regs _ _ _ _)

theorem State.powerTo_stat {st : Nat} (h : st < 8) : (s.powerTo st).fget Adr.pwrStat 2 0 = st := by
  rcases s.powerTo_regs st with ⟨hst, he⟩ | he
  · rw [he, hst]
  · rw [State.fget_congr he, State.fget_fset_self _ _ _ (by decide)]
    exact Nat.mod_eq_of_lt h

theorem State.powerTo_fget_ne (st : Nat) {a : Nat} (h : a ≠ Adr.pwrStat) (hi lo : Nat) : (s.powerTo st).fget a hi lo = s.fget a hi lo := by
  rcases s.powerTo_regs st with ⟨-, he⟩ | he
  · rw [he]
  · rw [State.fget_congr he, State.fget_fset_ne _ _ _ _ _ _ h]

/-- A field is left by a change of a field below it. -/
theorem State.fget_fset_above (a x : Nat) {hi lo hi' lo' : Nat} (hw : lo ≤ hi + 1) (h : hi < lo') (hk : hi' < 32) :
    (s.fset a hi lo x).fget a hi' lo' = s.fget a hi' lo' := by
  simp only [State.fget, State.fset, State.rd, State.wr, Tab.get_set_self, BitVec.toNat_ofNat, bits_mod_word hk, bits_putBits_above _ _ hw h]

theorem State.powerTo_wakeTime (st : Nat) : (s.powerTo st).fget Adr.pwrStat 31 16 = s.fget Adr.pwrStat 31 16 := by
  rcases s.powerTo_regs st with ⟨-, he⟩ | he
  · rw [he]
  · rw [State.fget_congr he, State.fget_fset_above _ _ _ (by decide) (by decide) (by decide)]

/-- Of the registers that a power state shows, the report at a start-up changes none. -/
theorem State.setPower_fget (st : Nat) {a : Nat} (hc : a ≠ Adr.cocCause) (hl : a ≠ Adr.lvCause) (hi lo : Nat) :
    (s.setPower st).fget a hi lo = (s.powerTo st).fget a hi lo := by
  have report (t : State) : t.reportBreach.fget a hi lo = t.fget a hi lo := by
    unfold State.reportBreach
    split
    · exact State.fget_raise_ne (t.updCoc _) hc _ _ _ _ _ _ _
    · rfl
  unfold State.setPower
  extract_lets old t u
  split
  · rfl
  split
  · exact (State.fget_raise_ne _ hl _ _ _ _ _ _ _).trans (report _)
  · exact report _

theorem State.setPower_stat {st : Nat} (h : st < 8) : (s.setPower st).fget Adr.pwrStat 2 0 = st :=
  (s.setPower_fget st (by decide) (by decide) _ _).trans (s.powerTo_stat h)

/-- A power state other than RUN brings no report. -/
theorem State.setPower_eq {st : Nat} (h : st ≠ 1) : s.setPower st = s.powerTo st := if_pos (.inr h)

/-! ## Requests to leave RUN (R501) -/

theorem State.leaveRunBad_eq : s.leaveRunBad = (if (∃ h ∈ s.headList, h.queue ≠ []) ∨ s.hds.armed ≠ [] then 1
    else if s.mg.moult.state ≠ .idle ∧ s.mg.moult.state ≠ .rejected ∧ s.mg.moult.state ≠ .probation then 2
    else if s.shedLevel = 4 then 3 else if s.rest.phase = .running then 4 else 0) := by
  simp [State.leaveRunBad, and_assoc]

theorem State.leaveRunBad_le : s.leaveRunBad ≤ 4 := by
  rw [State.leaveRunBad_eq]
  split_ifs <;> decide

/-- A request is refused: the reason is shown. -/
noncomputable def State.targetRefused (s : State) : State := s.fset Adr.pwrStat 7 4 s.leaveRunBad

theorem State.targetRefused_result : s.targetRefused.fget Adr.pwrStat 7 4 = s.leaveRunBad ∧ s.targetRefused.fget Adr.pwrStat 2 0 = s.fget Adr.pwrStat 2 0 ∧
    s.Only s.targetRefused [.regs] := by
  have hle := s.leaveRunBad_le
  refine ⟨?_, State.fget_fset_below _ _ _ _ _ (by decide) (by decide), (State.fset_within _ _ _ _ _).only _ (by decide)⟩
  rw [State.targetRefused, State.fget_fset_self _ _ _ (by decide)]
  exact Nat.mod_eq_of_lt (by omega)

/-- Entry to QUIET begins. -/
noncomputable def State.quietEntry (s : State) : State := (s.fset Adr.pwrCtl 1 0 1).powerTo 4

/-- Entry to STANDBY begins, once a moult that is on probation has been committed. -/
noncomputable def State.standbyEntry (s : State) : State := ((s.fset Adr.pwrCtl 1 0 2).updPwr fun p => { p with standby := true }).standbyFlush.powerTo 4

end

section
variable {s : State}

theorem pwrTargetQuiet_good (hst : s.fget Adr.pwrStat 2 0 = 1) (hb : s.leaveRunBad = 0) : exec .pwrTargetQuiet s = .next s.quietEntry.quietCheck := by
  refine congrArg Host.Outcome.next ?_
  simp only [State.pwrTarget, hst, hb]
  rfl

theorem pwrTargetStandby_good (hst : s.fget Adr.pwrStat 2 0 = 1) (hb : s.leaveRunBad = 0) :
    exec .pwrTargetStandby s = .next (if s.mg.moult.state = .probation then s.moultCommit else s).standbyEntry := by
  refine congrArg Host.Outcome.next ?_
  simp only [State.pwrTarget, hst, hb]
  rfl

theorem exec_pwrTarget_bad (hst : s.fget Adr.pwrStat 2 0 = 1) (hb : s.leaveRunBad ≠ 0) :
    exec .pwrTargetQuiet s = .next s.targetRefused ∧ exec .pwrTargetStandby s = .next s.targetRefused := by
  constructor <;> refine congrArg Host.Outcome.next ?_
  · simp [State.pwrTarget, hst]
    rfl
  · simp [State.pwrTarget, hst]
    rfl

theorem pwrTargetQuiet_result (hst : s.fget Adr.pwrStat 2 0 = 1) (hb : s.leaveRunBad = 0) (hp : s.pwr.standby = false) :
    ∃ t, exec .pwrTargetQuiet s = .next t ∧ t.fget Adr.pwrCtl 1 0 = 1 ∧ s.Only t [.regs, .events] ∧
      t.fget Adr.pwrStat 2 0 = (if (∀ h ∈ s.headList, h.run = .stopped) then 2 else 4) := by
  have hw : Within 66 s s.quietEntry := (State.powerTo_within _ _).via (by decide) ((State.fset_within _ _ _ _ _).mono (by decide))
  have hctl : s.quietEntry.fget Adr.pwrCtl 1 0 = 1 := by
    rw [State.quietEntry, State.powerTo_fget_ne _ _ (by decide)]
    exact State.fget_fset_self _ _ _ (by decide)
  have hstat : s.quietEntry.fget Adr.pwrStat 2 0 = 4 := State.powerTo_stat _ (by decide)
  have hheads : s.quietEntry.headList = s.headList := congrArg (fun l => l.map Prod.snd) (hw.same .heads (by decide))
  have hstand : s.quietEntry.pwr.standby = false := by rw [hw.pwr (by decide), hp]
  have hexec := pwrTargetQuiet_good hst hb
  by_cases hall : ∀ h ∈ s.headList, h.run = .stopped
  · have he : s.quietEntry.quietCheck = s.quietEntry.powerTo 2 := if_pos ⟨hstat, hstand, by simpa [hheads] using hall⟩
    rw [he] at hexec
    refine ⟨_, hexec, ?_, ((State.powerTo_within _ _).via (by decide) hw).only _ (by decide), ?_⟩
    · rw [State.powerTo_fget_ne _ _ (by decide), hctl]
    · rw [if_pos hall, State.powerTo_stat _ (by decide)]
  · have he : s.quietEntry.quietCheck = s.quietEntry := if_neg fun h => hall (by simpa [hheads] using h.2.2)
    rw [he] at hexec
    refine ⟨_, hexec, hctl, hw.only _ (by decide), ?_⟩
    rw [if_neg hall, hstat]

theorem pwrTarget_refused (hst : s.fget Adr.pwrStat 2 0 = 1) (hb : s.leaveRunBad ≠ 0) :
    ∃ t, exec .pwrTargetQuiet s = .next t ∧ exec .pwrTargetStandby s = .next t ∧ t.fget Adr.pwrStat 7 4 = s.leaveRunBad ∧
      t.fget Adr.pwrStat 2 0 = 1 ∧ s.Only t [.regs] := by
  obtain ⟨hq, hs⟩ := exec_pwrTarget_bad hst hb
  obtain ⟨hreason, hstat, honly⟩ := s.targetRefused_result
  exact ⟨_, hq, hs, hreason, hstat.trans hst, honly⟩

/-! ## Entry to STANDBY (R502) -/

theorem State.nvTouch_queue (s : State) (page : Nat) : page ∈ (s.nvTouch page).nv.queue ∧ ∀ p ∈ s.nv.queue, p ∈ (s.nvTouch page).nv.queue := by
  unfold State.nvTouch
  split
  · next h => exact ⟨List.contains_iff_mem.1 h, fun _ hp => hp⟩
  · exact ⟨List.mem_append_right _ List.mem_cons_self, fun _ hp => List.mem_append_left _ hp⟩

/-- Every page of a list is queued, where pages are touched in turn. -/
theorem State.nvTouch_fold (l : List Nat) (s : State) : ∀ p ∈ l, p ∈ (l.foldl (fun s p => s.nvTouch p) s).nv.queue :=
  foldl_forall (P := fun p (t : State) => p ∈ t.nv.queue) (fun t p => (t.nvTouch_queue p).1) (fun t q p _ => (t.nvTouch_queue q).2 p) l s

/-- The system pages of the chain heads. -/
noncomputable def State.chainPages (s : State) : List Nat := (s.psn.chains.map fun e => 768 + e.1 / 4).eraseDups

theorem State.standbyFlush_eq (s : State) :
    s.standbyFlush = (s.chainPages.foldl (fun s p => s.nvTouch p) s).updNv fun n => { n with flushing := true } := rfl

theorem State.standbyFlush_queue (s : State) : ∀ e ∈ s.psn.chains, 768 + e.1 / 4 ∈ s.standbyFlush.nv.queue := by
  intro e he
  have hpage : 768 + e.1 / 4 ∈ s.chainPages := List.mem_eraseDups.2 (List.mem_map_of_mem (f := fun e => 768 + e.1 / 4) he)
  rw [State.standbyFlush_eq]
  exact State.nvTouch_fold s.chainPages s _ hpage

theorem State.standbyEntry_result (s : State) : s.standbyEntry.fget Adr.pwrCtl 1 0 = 2 ∧ s.standbyEntry.fget Adr.pwrStat 2 0 = 4 ∧
    s.standbyEntry.pwr.standby = true ∧ s.standbyEntry.nv.flushing = true ∧ s.standbyEntry.mg = s.mg ∧
    ∀ e ∈ s.psn.chains, 768 + e.1 / 4 ∈ s.standbyEntry.nv.queue := by
  let u := (s.fset Adr.pwrCtl 1 0 2).updPwr fun p => { p with standby := true }
  have hflush := u.standbyFlush_within
  have hpower := u.standbyFlush.powerTo_within 4
  have hnv : s.standbyEntry.nv = u.standbyFlush.nv := hpower.nv (by decide)
  refine ⟨?_, State.powerTo_stat _ (by decide), ?_, by rw [hnv, State.standbyFlush_eq]; rfl, (hpower.mg (by decide)).trans (hflush.mg (by decide)), ?_⟩
  · refine (State.powerTo_fget_ne _ _ (by decide) _ _).trans ((State.fget_congr (hflush.same .regs (by decide)) _ _ _).trans ?_)
    exact s.fget_fset_self Adr.pwrCtl 2 (hi := 1) (lo := 0) (by decide)
  · exact congrArg Pwr.standby ((hpower.pwr (by decide)).trans (hflush.pwr (by decide)))
  · rw [hnv]
    exact u.standbyFlush_queue

theorem pwrTargetStandby_result (hst : s.fget Adr.pwrStat 2 0 = 1) (hb : s.leaveRunBad = 0) :
    ∃ t, exec .pwrTargetStandby s = .next t ∧ t.fget Adr.pwrCtl 1 0 = 2 ∧ t.fget Adr.pwrStat 2 0 = 4 ∧ t.pwr.standby = true ∧ t.nv.flushing = true ∧
      (s.mg.moult.state = .probation → s.mg.moult.rolling = false → s.mg.moult.reload = none → t.mg.moult.state = .committing) ∧
      ∀ e ∈ s.psn.chains, (768 + e.1 / 4) ∈ t.nv.queue := by
  have hexec := pwrTargetStandby_good hst hb
  by_cases hm : s.mg.moult.state = .probation
  · rw [if_pos hm] at hexec
    obtain ⟨hctl, hstat, hstand, hflush, hmg, hqueue⟩ := s.moultCommit.standbyEntry_result
    refine ⟨_, hexec, hctl, hstat, hstand, hflush, fun _ hr hl => ?_, fun e he => hqueue e ?_⟩
    · obtain ⟨t, ht, hc, -⟩ := moultCommit_result hm hr hl
      rw [hmg, Host.Outcome.next.inj ht]
      exact hc
    · rwa [(s.moultCommit_within).psn (by decide) (by decide) (by decide)]
  · rw [if_neg hm] at hexec
    obtain ⟨hctl, hstat, hstand, hflush, -, hqueue⟩ := s.standbyEntry_result
    exact ⟨_, hexec, hctl, hstat, hstand, hflush, fun h => absurd h hm, hqueue⟩

/-! ## The wake (R503) -/

/-- A wake begins; after STANDBY the pairs boot with it. -/
noncomputable def State.wakeStart (s : State) : State :=
  ((s.setPower 5).fset Adr.pwrCtl 1 0 0).updPwr fun p => { p with wakeFrom := s.now, wakeWaits := false }

theorem State.wakeStart_pwr (s : State) : s.wakeStart.pwr = { s.pwr with wakeFrom := s.now, wakeWaits := false } :=
  congrArg (fun p : Pwr => { p with wakeFrom := s.now, wakeWaits := false }) ((s.setPower_within 5).pwr (by decide))

theorem State.wakeStart_standby (s : State) : s.wakeStart.pwr.standby = s.pwr.standby := by
  rw [s.wakeStart_pwr]

theorem State.wakeBegin_quiet (h : s.pwr.standby = false) : s.wakeBegin = s.wakeStart := by
  have hstand : ¬s.wakeStart.pwr.standby = true := by rw [s.wakeStart_standby, h]; decide
  exact if_neg hstand

theorem State.wakeBegin_standby (h : s.pwr.standby = true) : s.wakeBegin.pwr = s.wakeStart.pwr ∧ (s.wakeBegin.pair 0).state = .boot ∧
    (s.wakeBegin.pair 1).state = .boot ∧ s.wakeBegin.mg.serving = 0 := by
  have hstand : s.wakeStart.pwr.standby = true := s.wakeStart_standby.trans h
  unfold State.wakeBegin
  extract_lets t x u lose unload v w
  rw [if_pos (show t.pwr.standby = true from hstand)]
  have hsyn := v.synRefresh_within
  have higmp := w.igmpChange_within ((groupsOf w.ing.flows).map fun k => w.report k.1 k.2 (membership w.ing.flows k.1 k.2))
  have hmg := (higmp.mg (by decide)).trans (hsyn.mg (by decide))
  refine ⟨(higmp.pwr (by decide)).trans (hsyn.pwr (by decide)), ?_, ?_, ?_⟩
  · rw [State.pair, hmg]; rfl
  · rw [State.pair, hmg]; rfl
  · rw [hmg]; rfl

theorem pwrTargetRun_quiet (hst : s.fget Adr.pwrStat 2 0 = 2) (hp : s.pwr.standby = false) : ∃ t, exec .pwrTargetRun s = .next t ∧
    t.fget Adr.pwrCtl 1 0 = 0 ∧ t.fget Adr.pwrStat 2 0 = 5 ∧ t.pwr.wakeFrom = s.now ∧ s.Only t [.regs, .events, .power] := by
  have hexec : exec .pwrTargetRun s = .next s.wakeStart := congrArg Host.Outcome.next ((if_pos (.inl hst)).trans (State.wakeBegin_quiet hp))
  refine ⟨_, hexec, State.fget_fset_self _ _ _ (by decide), ?_, rfl, ?_⟩
  · exact (State.fget_fset_ne (s.setPower 5) _ _ _ _ _ (by decide)).trans (s.setPower_stat (by decide))
  · rw [State.wakeStart, s.setPower_eq (by decide)]
    have hw : Within 66 s ((s.powerTo 5).fset Adr.pwrCtl 1 0 0) := (State.fset_within _ _ _ _ _).via (by decide) (s.powerTo_within 5)
    exact (State.updPwr_via (l := 549755813954) (by decide) (hw.mono (by decide))).only _ (by decide)

theorem pwrTargetRun_standby (hst : s.fget Adr.pwrStat 2 0 = 3) (hp : s.pwr.standby = true) : ∃ t, exec .pwrTargetRun s = .next t ∧
    t.pwr.wakeFrom = s.now ∧ t.pwr.wakeWaits = false ∧ (t.pair 0).state = .boot ∧ (t.pair 1).state = .boot ∧ t.mg.serving = 0 := by
  obtain ⟨hpwr, ha, hb, hserving⟩ := State.wakeBegin_standby hp
  refine ⟨_, congrArg Host.Outcome.next (if_pos (.inr hst)), ?_, ?_, ha, hb, hserving⟩ <;> rw [hpwr] <;> rfl

theorem pwrTargetRun_entering (hst : s.fget Adr.pwrStat 2 0 = 4) : ∃ t, exec .pwrTargetRun s = .next t ∧ t.pwr.wakeWaits = true ∧
    t.fget Adr.pwrCtl 1 0 = 0 ∧ t.fget Adr.pwrStat 2 0 = 4 ∧ s.Only t [.regs, .power] := by
  have hexec : exec .pwrTargetRun s = .next ((s.updPwr fun p => { p with wakeWaits := true }).fset Adr.pwrCtl 1 0 0) :=
    congrArg Host.Outcome.next ((if_neg (by rw [hst]; decide)).trans (if_pos hst))
  exact ⟨_, hexec, rfl, State.fget_fset_self _ _ _ (by decide), (State.fget_fset_ne _ _ _ _ _ _ (by decide)).trans hst,
    ((State.fset_within _ _ _ _ _).via (by decide) (State.updPwr_via (l := 549755813890) (by decide) (.refl _ s))).only _ (by decide)⟩

theorem standbyEntryDone_result (hst : s.fget Adr.pwrStat 2 0 = 4) (hp : s.pwr.standby = true) (hs : ∀ h ∈ s.headList, h.run = .stopped) (hq : s.nv.queue = [])
    (hj : s.nv.jobs = []) (hr : s.mg.moult.reload = none) (hw : s.pwr.wakeWaits = false) (hwarm : s.pwr.warmWaits = none) :
    ∃ t, exec .standbyEntryDone s = .next t ∧ t.fget Adr.pwrStat 2 0 = 3 ∧ t.nv.flushing = false ∧ (t.pair 0).state = .off ∧ (t.pair 1).state = .off ∧
      t.pwr = s.pwr := by
  let u := s.updNv fun n => { n with flushing := false }
  have hoff := u.standbyOff_within
  have hpower := u.standbyOff.powerTo_within 3
  have hpwr : (u.standbyOff.powerTo 3).pwr = s.pwr := (hpower.pwr (by decide)).trans (hoff.pwr (by decide))
  have hexec : exec .standbyEntryDone s = .next (u.standbyOff.powerTo 3) := by
    refine congrArg Host.Outcome.next ((if_pos ⟨hst, hp, by simpa using hs, hq, hj, hr⟩).trans ?_)
    show (if ((u.standbyOff.powerTo 3).pwr.wakeWaits || (u.standbyOff.powerTo 3).pwr.warmWaits.isSome) = true then _ else _) = _
    rw [hpwr, hw, hwarm]
    rfl
  refine ⟨_, hexec, State.powerTo_stat _ (by decide), ?_, ?_, ?_, hpwr⟩
  · rw [hpower.nv (by decide), hoff.nv (by decide)]; rfl
  · rw [State.pair, hpower.mg (by decide)]; rfl
  · rw [State.pair, hpower.mg (by decide)]; rfl

theorem standbyEntryDone_waits (h : s.fget Adr.pwrStat 2 0 ≠ 4 ∨ s.pwr.standby = false ∨ s.nv.queue ≠ [] ∨ s.nv.jobs ≠ []) : exec .standbyEntryDone s = .next s := by
  refine congrArg Host.Outcome.next (if_neg ?_)
  rintro ⟨hst, hp, -, hq, hj, -⟩
  rcases h with h | h | h | h
  · exact h hst
  · exact absurd (hp.symm.trans h) (by decide)
  · exact h hq
  · exact h hj

/-! ## The end of the wake (R503) -/

/-- A stopped head takes up its LINE mode again. -/
noncomputable def State.resumeHead (s : State) (e : Nat × Head) : State :=
  if e.2.run = .stopped ∧ e.2.resume = true then
    s.updHead e.1 fun x =>
      { x with lineAt := some (if s.polderReady x.applied.polder then s.nextPeriod x.applied.polder x.applied.mode else 0, 0) }
  else s

theorem State.resumeHeads_def (s : State) : s.resumeHeads = s.heads.foldl State.resumeHead s := rfl

theorem State.resumeHead_keeps (s : State) (e : Nat × Head) {h : Nat} (hl : (s.head h).lineAt.isSome = true) : ((s.resumeHead e).head h).lineAt.isSome = true := by
  unfold State.resumeHead
  split
  · by_cases he : h = e.1
    · rw [he, State.head_updHead]; rfl
    · rwa [State.head_updHead_ne _ _ he]
  · exact hl

/-- Every listed head that stopped to resume has its LINE mode after the fold. -/
theorem State.resumeHead_resumes (s : State) {e : Nat × Head} (hrun : e.2.run = .stopped) (hres : e.2.resume = true) :
    ((s.resumeHead e).head e.1).lineAt.isSome = true := by
  rw [State.resumeHead, if_pos ⟨hrun, hres⟩, State.head_updHead]
  rfl

theorem State.resumeHead_fold {x : Nat × Head} (hrun : x.2.run = .stopped) (hres : x.2.resume = true) (l : List (Nat × Head)) (s : State) (hx : x ∈ l) :
    ((l.foldl State.resumeHead s).head x.1).lineAt.isSome = true := by
  induction l generalizing s with
  | nil => cases hx
  | cons e l ih =>
    rw [List.foldl_cons]
    rcases List.mem_cons.1 hx with rfl | hx
    · exact Within.fold (Q := fun t : State => (t.head x.1).lineAt.isSome = true) (s.resumeHead_resumes hrun hres) fun t y ht => t.resumeHead_keeps y ht
    · exact ih _ hx

/-- A value that differs from the default stands in the table. -/
theorem Tab.mem_of_get_ne {α : Type} (d : Nat → α) {i : Nat} : ∀ {t : Tab α}, Tab.get d t i ≠ d i → (i, Tab.get d t i) ∈ t
  | [], h => absurd rfl h
  | (k, v) :: t, h => by
    rw [Tab.get] at h ⊢
    split at h
    · next hk => rw [if_pos hk, hk]; exact List.mem_cons_self
    · next hk => rw [if_neg hk]; exact List.mem_cons_of_mem _ (Tab.mem_of_get_ne d h)

theorem State.resumeHeads_result (s : State) (h : Nat) (hrun : (s.head h).run = .stopped) (hres : (s.head h).resume = true) :
    (s.resumeHeads.head h).lineAt.isSome = true := by
  have hne : s.head h ≠ Head.reset := fun e => absurd (hres.symm.trans (congrArg Head.resume e)) (by decide)
  rw [State.resumeHeads_def]
  exact State.resumeHead_fold hrun hres s.heads s (Tab.mem_of_get_ne _ hne)

theorem wakeDone_result (hst : s.fget Adr.pwrStat 2 0 = 5) (hp : s.pwr.standby = false ∨ (s.pair s.mg.serving).state = .serving)
    (hwarm : s.pwr.warmWaits = none) : ∃ t, exec .wakeDone s = .next t ∧ t.fget Adr.pwrStat 2 0 = 1 ∧
      t.fget Adr.pwrStat 31 16 = min ((s.now - s.pwr.wakeFrom) / 500000) 65535 ∧ t.pwr = { s.pwr with standby := false, warmWaits := none } ∧
      ∀ h, (s.head h).run = .stopped → (s.head h).resume = true → (t.head h).lineAt.isSome = true := by
  let w := min ((s.now - s.pwr.wakeFrom) / 500000) 65535
  let u := (s.fset Adr.pwrStat 31 16 w).updPwr fun p => { p with standby := false, warmWaits := none }
  have hexec : exec .wakeDone s = .next (u.setPower 1).resumeHeads := by
    refine congrArg Host.Outcome.next ((if_pos ⟨hst, hp⟩).trans ?_)
    rw [hwarm]
  have hres := (u.setPower 1).resumeHeads_within
  have hset := u.setPower_within 1
  have hregs := State.fget_congr (hres.same .regs (by decide)) Adr.pwrStat
  have hhead (h : Nat) : (u.setPower 1).head h = s.head h := State.head_congr (hset.same .heads (by decide)) h
  refine ⟨_, hexec, (hregs _ _).trans (State.setPower_stat _ (by decide)), ?_, (hres.pwr (by decide)).trans (hset.pwr (by decide)), fun h hr he => ?_⟩
  · rw [hregs, State.setPower_fget _ _ (by decide) (by decide), State.powerTo_wakeTime]
    refine (State.fget_fset_self s _ _ (by decide)).trans (Nat.mod_eq_of_lt ?_)
    exact Nat.lt_of_le_of_lt (Nat.min_le_right _ _) (by decide)
  · exact State.resumeHeads_result _ _ ((congrArg Head.run (hhead h)).trans hr) ((congrArg Head.resume (hhead h)).trans he)

theorem wakeDone_waits (h : s.fget Adr.pwrStat 2 0 ≠ 5) : exec .wakeDone s = .next s := congrArg Host.Outcome.next (if_neg fun hn => h hn.1)

end

/-! ## The obligation -/

/-- Settles O45, command by command. -/
theorem powerStates : Obligations.PowerStates := fun s _ =>
  ⟨s.leaveRunBad_eq, pwrTargetQuiet_result, pwrTarget_refused, pwrTargetStandby_result, pwrTargetRun_quiet, pwrTargetRun_standby, pwrTargetRun_entering,
    standbyEntryDone_result, standbyEntryDone_waits, wakeDone_result, wakeDone_waits⟩

end Sys2Proof.Machine
end

section
/-!
SUPPORT. Restoring the last routes: what the steps of the restoration leave of its record, then RESTORE_CONFIG_WRITE, RESTORE_GO,
RESTORATION and RESTORE_POLDER_TIMEOUT (R504, R505).
-/
namespace Sys2Proof.Machine

/-! ## The record of the restoration -/

section
variable (s : State)

theorem Within.rest {m : Nat} {s t : State} (w : Within m s t) (h : m.testBit 38 = false) : t.rest = s.rest := w.same .restoration h

/-- The end of the restoration changes its phase alone. -/
theorem State.restEnd_rest : ∃ p, s.restEnd.rest = { s.rest with phase := p } := by
  unfold State.restEnd
  extract_lets r
  split
  · exact ⟨.done, (State.occur_within _ _ _ _).rest (by decide)⟩
  · exact ⟨s.rest.phase, rfl⟩

/-- A head has its outcome. -/
noncomputable def Rest.outcome (r : Rest) (h outcome : Nat) : Rest :=
  { r with waiting := r.waiting.filter (· ≠ h), landing := r.landing.filter (· ≠ h), restored := r.restored + b2n (outcome == 0),
           partly := r.partly + b2n (outcome == 1), failed := r.failed + b2n (outcome == 2) }

theorem State.restOutcome_rest (h outcome code : Nat) : ∃ p, (s.restOutcome h outcome code).rest = { s.rest.outcome h outcome with phase := p } := by
  let u := s.updRest fun r => r.outcome h outcome
  let v := u.occur h 0x0242 [(20, 2, h), (22, 1, outcome), (24, 4, (u.head h).instar.toNat), (28, 2, code)]
  obtain ⟨p, hp⟩ := v.restEnd_rest
  have hv : v.rest = s.rest.outcome h outcome := (State.occur_within _ _ _ _).rest (by decide)
  exact ⟨p, hp.trans (by rw [hv])⟩

/-- A head that fails has its outcome in the end; nothing before that changes the record. -/
theorem State.restoreFail_rest (h : Nat) (x : HeadSave) (code : Nat) : ∃ p, (s.restoreFail h x code).rest = { s.rest.outcome h 2 with phase := p } := by
  have hrest : ∃ w : State, s.restoreFail h x code = w.restOutcome h 2 code ∧ w.rest = s.rest := by
    unfold State.restoreFail
    extract_lets old u v w
    have hv : v.rest = s.rest := foldl_keeps State.rest (s := u) (fun t l => by split; exacts [(t.freeScl_within _).rest (by decide), rfl]) rfl
    refine ⟨w, rfl, ?_⟩
    unfold w
    split
    · exact foldl_keeps State.rest (fun t e => by split; exacts [(t.releaseCnv_within _).rest (by decide), rfl]) hv
    · rfl
  obtain ⟨w, hw, he⟩ := hrest
  rw [hw, ← he]
  exact w.restOutcome_rest h 2 code

/-! ## Heads are tried -/

/-- Heads have been tried since converter time `k`. -/
def State.BegunAt (s : State) (k : Nat) : Prop := s.rest.begun = true ∧ s.rest.since = k

variable {s} {k : Nat}

theorem State.BegunAt.of_rest (b : s.BegunAt k) {t : State} (h : t.rest.begun = s.rest.begun ∧ t.rest.since = s.rest.since) : t.BegunAt k :=
  ⟨h.1.trans b.1, h.2.trans b.2⟩

theorem State.BegunAt.within (b : s.BegunAt k) {t : State} {m : Nat} (w : Within m s t) (h : m.testBit 38 = false) : t.BegunAt k :=
  b.of_rest (by rw [w.rest h]; exact ⟨rfl, rfl⟩)

theorem State.BegunAt.restEnd (b : s.BegunAt k) : s.restEnd.BegunAt k := by
  obtain ⟨p, hp⟩ := s.restEnd_rest
  exact b.of_rest (by rw [hp]; exact ⟨rfl, rfl⟩)

theorem State.BegunAt.restOutcome (b : s.BegunAt k) (h outcome code : Nat) : (s.restOutcome h outcome code).BegunAt k := by
  obtain ⟨p, hp⟩ := s.restOutcome_rest h outcome code
  exact b.of_rest (by rw [hp]; exact ⟨rfl, rfl⟩)

theorem State.BegunAt.restoreFail (b : s.BegunAt k) (h : Nat) (x : HeadSave) (code : Nat) : (s.restoreFail h x code).BegunAt k := by
  obtain ⟨p, hp⟩ := s.restoreFail_rest h x code
  exact b.of_rest (by rw [hp]; exact ⟨rfl, rfl⟩)

theorem State.BegunAt.restoreHead (b : s.BegunAt k) (h : Nat) (x : HeadSave) : (s.restoreHead h x).BegunAt k := by
  unfold State.restoreHead
  extract_lets r t managed claimed old u
  have hu : u.BegunAt k := (b.within (s.restoreDikeEvent_within h x r.1) (by decide)).within (State.setHead_within _ _ _) (by decide)
  split
  · exact hu.restoreFail _ _ _
  extract_lets need
  split
  next ok v hv =>
  have hv' : v.BegunAt k := hu.within (Within2.ofEq (u.leaveAsk_within _ _ _) hv) (by decide)
  split
  · exact hv'.restoreFail _ _ _
  split
  · exact (hv'.within (v.leaveRet_within _ _) (by decide)).restoreFail _ _ _
  · extract_lets j w x c y
    have hy : y.BegunAt k := (hv'.of_rest ⟨rfl, rfl⟩ : x.BegunAt k).within (State.enqueue_within _ _ _) (by decide)
    exact hy.of_rest ⟨rfl, rfl⟩

theorem State.BegunAt.restoreTry (b : s.BegunAt k) : s.restoreTry.BegunAt k := by
  unfold State.restoreTry
  extract_lets hs
  refine State.BegunAt.restEnd (Within.fold (Q := fun t : State => t.BegunAt k) b fun t h ht => ?_)
  split
  · split
    · exact ht.restoreHead _ _
    · exact ht
  · exact ht.restOutcome _ _ _

theorem State.restoreBegin_begun (s : State) : s.restoreBegin.BegunAt s.now := by
  unfold State.restoreBegin
  extract_lets hs t u v
  have ht : t.now = s.now := s.restoreFlows_within.now (by decide)
  have hu : u.now = s.now := foldl_keeps State.now (fun w e => (w.restoreClaims_within e.2).now (by decide)) ht
  exact ⟨rfl, (u.restoreAudio_within.now (by decide)).trans hu⟩

end

/-! ## The commands -/

section
variable {s : State}

theorem restoreConfigWrite_result (auto gated : Bool) (h : s.nv.phase ≠ .fault) : ∃ t d, exec (.restoreConfigWrite auto gated) s = .next t ∧
    t.nv = { s.nv with jobs := s.nv.jobs ++ [.page 512 d (.restore auto gated)] } ∧ s.Only t [.nv] := by
  let d := match s.sysData 512 with
    | .srcs l r _ _ => NvData.srcs l r auto gated
    | _ => if auto || gated then .srcs [] [] auto gated else .blank
  have he : s.nvQueue (.page 512 d (.restore auto gated)) = s.updNv fun n => { n with jobs := n.jobs ++ [.page 512 d (.restore auto gated)] } := if_neg h
  exact ⟨s.nvQueue (.page 512 d (.restore auto gated)), d, rfl, by rw [he]; rfl, (s.nvQueue_within _).only _ (by decide)⟩

theorem restoreGo_result (hp : s.rest.phase = .waitGo) (hg : s.nv.gated = true) :
    ∃ t, exec .restoreGo s = .next t ∧ t.rest = { s.rest with phase := .running } ∧ s.Only t [.restoration] :=
  ⟨_, congrArg Host.Outcome.next (if_pos ⟨hp, hg⟩), rfl, (State.updRest_via (l := 274877906944) (by decide) (.refl _ s)).only _ (by decide)⟩

theorem restoreGo_ignored (h : s.nv.gated = false) : exec .restoreGo s = .next s :=
  congrArg Host.Outcome.next (if_neg fun hn => absurd (h.symm.trans hn.2) (by decide))

/-- What the recall scan says is restored decides how the restoration goes on. -/
noncomputable def State.afterRecall (s : State) : State :=
  if s.nv.auto then s.restoreRws.updRest fun r => { r with phase := if s.nv.gated then .waitGo else .running }
  else s.updRest fun r => { r with phase := .idle }

theorem exec_restoration_recalled (hf : s.fwUp = true) (hr : s.nv.phase ≠ .recall) (hp : s.rest.phase = .waitRecall) (hn : s.afterRecall.rest.phase ≠ .running) :
    exec .restoration s = .next s.afterRecall := by
  refine congrArg Host.Outcome.next ((if_neg fun h => h.elim (fun h => absurd (hf.symm.trans h) (by decide)) hr).trans ?_)
  simp only [if_pos hp]
  exact if_neg hn

theorem exec_restoration_running (hf : s.fwUp = true) (hr : s.nv.phase ≠ .recall) (hp : s.rest.phase = .running) :
    exec .restoration s = .next (if s.rest.begun then s else s.restoreBegin).restoreTry := by
  refine congrArg Host.Outcome.next ((if_neg fun h => h.elim (fun h => absurd (hf.symm.trans h) (by decide)) hr).trans ?_)
  simp only [if_neg (show ¬s.rest.phase = .waitRecall by rw [hp]; decide)]
  exact if_pos hp

theorem restoration_off (hf : s.fwUp = true) (hr : s.nv.phase ≠ .recall) (hp : s.rest.phase = .waitRecall) (ha : s.nv.auto = false) :
    ∃ t, exec .restoration s = .next t ∧ t.rest = { s.rest with phase := .idle } ∧ s.Only t [.restoration] := by
  have he : s.afterRecall = s.updRest fun r => { r with phase := .idle } := if_neg (by rw [ha]; decide)
  refine ⟨_, exec_restoration_recalled hf hr hp (by rw [he]; exact nofun), ?_⟩
  rw [he]
  exact ⟨rfl, (State.updRest_via (l := 274877906944) (by decide) (.refl _ s)).only _ (by decide)⟩

theorem restoration_waits (hf : s.fwUp = true) (hr : s.nv.phase ≠ .recall) (hp : s.rest.phase = .waitRecall) (ha : s.nv.auto = true) (hg : s.nv.gated = true) :
    ∃ t, exec .restoration s = .next t ∧ t.rest = { s.rest with phase := .waitGo } := by
  have he : s.afterRecall.rest = { s.rest with phase := .waitGo } := by
    rw [State.afterRecall, if_pos ha, if_pos hg]
    exact congrArg (fun r : Rest => { r with phase := .waitGo }) (s.restoreRws_within.rest (by decide))
  exact ⟨_, exec_restoration_recalled hf hr hp (by rw [he]; exact nofun), he⟩

theorem restoration_begins (hf : s.fwUp = true) (hr : s.nv.phase ≠ .recall) (hp : s.rest.phase = .running) (hb : s.rest.begun = false) :
    ∃ t, exec .restoration s = .next t ∧ t.rest.begun = true ∧ t.rest.since = s.now := by
  refine ⟨_, exec_restoration_running hf hr hp, ?_⟩
  rw [if_neg (by rw [hb]; decide)]
  exact s.restoreBegin_begun.restoreTry

theorem restoration_ends (hf : s.fwUp = true) (hr : s.nv.phase ≠ .recall) (hp : s.rest.phase = .running) (hb : s.rest.begun = true)
    (hw : s.rest.waiting = []) (hl : s.rest.landing = []) :
    ∃ t, exec .restoration s = .next t ∧ t.rest = { s.rest with phase := .done } ∧ s.Occurred t 284 := by
  have htry : s.restoreTry = s.restEnd := by
    unfold State.restoreTry
    rw [hw]
    rfl
  have hend : s.restEnd = (s.updRest fun r => { r with phase := .done }).occur 284 0x1111
      [(24, 2, s.rest.restored), (26, 2, s.rest.partly), (28, 2, s.rest.failed)] := if_pos ⟨hp, hb, hw, hl⟩
  have hexec := exec_restoration_running hf hr hp
  rw [if_pos hb, htry, hend] at hexec
  exact ⟨_, hexec, (State.occur_within _ _ _ _).rest (by decide), State.occur_occurred (s.updRest _) _ _ _⟩

theorem restoration_held (h : s.fwUp = false ∨ s.nv.phase = .recall) : exec .restoration s = .next s := congrArg Host.Outcome.next (if_pos h)

/-- A waiting head fails because its time is out. -/
noncomputable def State.restoreLate (hs : List (Nat × HeadSave)) (s : State) (h : Nat) : State :=
  match hs.find? fun e => e.1 == h with
  | some e => s.restoreFail h e.2 csState
  | none => s.restOutcome h 2 csState

theorem State.restoreLate_rest (hs : List (Nat × HeadSave)) (s : State) (h : Nat) :
    ∃ p, (s.restoreLate hs h).rest = { s.rest.outcome h 2 with phase := p } := by
  unfold State.restoreLate
  split
  · exact s.restoreFail_rest _ _ _
  · exact s.restOutcome_rest _ _ _

/-- Each listed head leaves the waiting ones, and is counted. -/
theorem State.restoreLate_fold (hs : List (Nat × HeadSave)) (l : List Nat) (s : State) : (l.foldl (State.restoreLate hs) s).rest.failed = s.rest.failed + l.length ∧
    (l.foldl (State.restoreLate hs) s).rest.waiting = s.rest.waiting.filter fun h => h ∉ l := by
  induction l generalizing s with
  | nil => simp
  | cons h l ih =>
    obtain ⟨p, hp⟩ := s.restoreLate_rest hs h
    obtain ⟨hfailed, hwaiting⟩ := ih (s.restoreLate hs h)
    rw [List.foldl_cons, hfailed, hwaiting, hp]
    constructor
    · show s.rest.failed + 1 + l.length = _
      rw [List.length_cons]
      omega
    · show (s.rest.waiting.filter _).filter _ = _
      simp [List.filter_filter, Bool.and_comm]

theorem restorePolderTimeout_result (hp : s.rest.phase = .running) (hb : s.rest.begun = true) (ht : s.rest.since + msTicks 5000 ≤ s.now) :
    ∃ t, exec .restorePolderTimeout s = .next t ∧ t.rest.waiting = [] ∧ t.rest.failed = s.rest.failed + s.rest.waiting.length := by
  obtain ⟨hfailed, hwaiting⟩ := State.restoreLate_fold s.savedHeads s.rest.waiting s
  refine ⟨_, congrArg Host.Outcome.next (if_pos ⟨hp, hb, ht⟩), hwaiting.trans ?_, hfailed⟩
  simp

theorem restorePolderTimeout_waits (h : s.rest.phase ≠ .running) : exec .restorePolderTimeout s = .next s :=
  congrArg Host.Outcome.next (if_neg fun hn => h hn.1)

end

/-! ## The obligation -/

/-- Settles O46, command by command. -/
theorem restoring : Obligations.Restoring := fun auto gated _ _ =>
  ⟨restoreConfigWrite_result auto gated, restoreGo_result, restoreGo_ignored, restoration_off, restoration_waits, restoration_begins, restoration_ends,
    restoration_held, restorePolderTimeout_result, restorePolderTimeout_waits⟩

end Sys2Proof.Machine
end

section
/-!
SUPPORT. The descriptors of the store: OP_NV_READ, OP_NV_WRITE, NV_COUNT_READ and NV_COUNT_INCREMENT (R449, R450, R458, R460, R466 to
R469).
-/
namespace Sys2Proof.Machine

/-! ## Views of the store -/

section
variable {s t : State} (h : t.nv = s.nv)
include h

theorem State.nvPage_congr (p : Nat) : t.nvPage p = s.nvPage p := by simp only [State.nvPage, h]
theorem State.nvSector_congr (k : Nat) : t.nvSector k = s.nvSector k := by simp only [State.nvSector, h]
theorem State.ctr_congr (c : Nat) : t.ctr c = s.ctr c := by simp only [State.ctr, h]
theorem State.nvBytes_congr (p : Nat) : t.nvBytes p = s.nvBytes p := by
  rw [State.nvBytes, State.nvBytes, State.nvPending, State.nvPending, State.nvPage, State.nvPage, h]
theorem State.nvPending_congr (p : Nat) : t.nvPending p = s.nvPending p := by rw [State.nvPending, State.nvPending, h]
theorem State.holdupOk_congr : t.holdupOk = s.holdupOk := by simp only [State.holdupOk, h]
theorem State.nvAdmits_congr : t.nvAdmits = s.nvAdmits := by
  unfold State.nvAdmits State.nvLive State.nvGood
  rw [h]
theorem State.nvNoSpace_congr (p : Nat) : t.nvNoSpace p = s.nvNoSpace p := by
  rw [State.nvNoSpace, State.nvNoSpace, State.nvPage_congr h, State.nvPending_congr h, State.nvAdmits_congr h]

end

theorem State.nvQueue_nv {s : State} (h : s.nv.phase ≠ .fault) (x : NvJob) : (s.nvQueue x).nv = { s.nv with jobs := s.nv.jobs ++ [x] } := by
  rw [State.nvQueue, if_neg h]
  rfl

theorem State.complete_nv (s : State) (j : Job) (status : Nat) (result : BitVec 64) : (s.complete j status result).nv = s.nv :=
  (s.complete_within j status result).nv (by decide)

/-- From index `a` on, only a privileged ring is let through. -/
theorem Job.allowed {j : Job} {a i : Nat} (h : a ≤ i → j.priv = true) : (decide (a ≤ i) && !j.priv) = false := by
  by_cases hi : a ≤ i
  · simp [h hi]
  · simp [hi]

/-! ## What a descriptor of the store that starts comes to -/

section
variable {n opc : Nat} {s u : State} {j : Job} (h : s.Starts n opc j u) (g : s.Good)
include h g

/-- It is answered at once. -/
theorem State.Starts.nvAnswered (status : Nat) : (u.complete j status 0).Answered j status 0 ∧ (u.complete j status 0).nv = s.nv := by
  have ha := h.answered g (.refl 0 u) (by decide) (by decide) status 0
  rw [ite_self] at ha
  exact ⟨ha, (State.complete_nv _ _ _ _).trans h.nv⟩

/-- It begins a program. -/
theorem State.Starts.nvQueued (hp : s.nv.phase = .ready) (x : NvJob) : (u.nvQueue x).Waits j ∧ (u.nvQueue x).nv = { s.nv with jobs := s.nv.jobs ++ [x] } := by
  refine ⟨h.waits g (u.nvQueue_within x) (by decide) (by decide), ?_⟩
  rw [State.nvQueue_nv (by rw [h.nv, hp]; decide), h.nv]

end

/-! ## OP_NV_READ (R449, R466) -/

section
variable {n : Fin 64} {s u : State} {j : Job} (h : s.Starts n 0x70 j u) (hp : u16 j.d 8 ≤ 1023) (hl : 1 ≤ u16 j.d 12) (hl' : u16 j.d 12 ≤ 256)
include hp hl hl'

/-- Page and length are in range. -/
theorem nvRange_good : nvRangeBad j.d = false := by
  unfold nvRangeBad
  exact decide_eq_false (by omega)

variable (hf : ubit j.d 11 0 = false)
include h hf

/-- What a read answers: record sequence and length. -/
noncomputable def State.nvReadResult (s : State) (d : List Byte) : BitVec 64 :=
  BitVec.ofNat 64 ((s.nvPage (u16 d 8)).shownSeq % 4294967296 + 4294967296 * u16 d 12)

/-- The bytes that a read writes to the host. -/
noncomputable def State.nvReadBytes (s : State) (d : List Byte) : List Byte :=
  (List.range (u16 d 12)).map fun i => (s.nvPage (u16 d 8)).byte (u16 d 8) ((u8 d 10 + i) % 256)

theorem exec_opNvRead_good (hr : s.nv.phase ≠ .recall) :
    exec (.opNvRead n true) s = .next ((u.hostWrite (u64 j.d 16) (s.nvReadBytes j.d)).complete j csOk (s.nvReadResult j.d)) := by
  show execOpNvRead n true s = _
  rw [execOpNvRead, h.runOp rfl]
  simp only [firstFail, nvRange_good hp hl hl', hf, h.nv, hr, State.nvPage_congr h.nv, decide_false, Bool.not_true, Bool.or_self, Bool.false_eq_true, if_false]
  rfl

theorem opNvRead_result (g : s.Good) (hr : s.nv.phase ≠ .recall) : ∃ t, exec (.opNvRead n true) s = .next t ∧ t.nv = s.nv ∧
    t.Answered j csOk (s.nvReadResult j.d) ∧ t.hif.hostMem = (s.hostWrite (u64 j.d 16) (s.nvReadBytes j.d)).hif.hostMem := by
  have hw := u.hostWrite_within (u64 j.d 16) (s.nvReadBytes j.d)
  have hmem : u.hif.hostMem = s.hif.hostMem := h.within.same .hostMem (by decide)
  refine ⟨_, exec_opNvRead_good h hp hl hl' hf hr, ?_, h.answered g hw (by decide) (by decide) csOk _, ?_⟩
  · exact (State.complete_nv _ _ _ _).trans ((hw.nv (by decide)).trans h.nv)
  · exact ((State.complete_within _ j csOk _).same .hostMem (by decide)).trans (State.hostWrite_hostMem_congr hmem _ _)

theorem opNvRead_recall (g : s.Good) (hr : s.nv.phase = .recall) :
    ∃ t, exec (.opNvRead n true) s = .next t ∧ t.nv = s.nv ∧ t.Answered j csRecall 0 := by
  have hexec : exec (.opNvRead n true) s = .next (u.complete j csRecall 0) := by
    show execOpNvRead n true s = _
    rw [execOpNvRead, h.runOp rfl]
    simp only [firstFail, nvRange_good hp hl hl', hf, h.nv, hr, decide_true, Bool.or_self, Bool.false_eq_true, if_false, if_true]
  obtain ⟨ha, hnv⟩ := h.nvAnswered g csRecall
  exact ⟨_, hexec, hnv, ha⟩

end

/-! ## OP_NV_WRITE (R450, R467) -/

section
variable {n : Fin 64} {s u : State} {j : Job} {data : Option (List Byte)} (h : s.Starts n 0x71 j u) (hp : u16 j.d 8 < 896)
  (hpriv : 256 ≤ u16 j.d 8 → j.priv = true) (hl : 1 ≤ u16 j.d 12) (hl' : u16 j.d 12 ≤ 256)
include h hp hpriv hl hl'

/-- The page as a write leaves it. -/
noncomputable def State.nvWritten (s : State) (d data : List Byte) : NvData :=
  NvData.ofBytes (nvMerge (s.nvBytes (u16 d 8)) (dmaFit data (u16 d 12)) (u8 d 10))

theorem opNvWrite_result (g : s.Good) (hexp : ubit j.d 11 0 = true → s.nvPending (u16 j.d 8) = none ∧ (s.nvPage (u16 j.d 8)).shownSeq = u32 j.d 24)
    (hready : s.nv.phase = .ready) (hd : data.isSome = true) (hspace : s.nvNoSpace (u16 j.d 8) = false) (hhold : s.holdupOk = true) :
    ∃ t, exec (.opNvWrite n data) s = .next t ∧ t.Waits j ∧
      t.nv = { s.nv with jobs := s.nv.jobs ++ [.page (u16 j.d 8) (s.nvWritten j.d (data.getD [])) (.desc j.ring j.stamp)] } := by
  have hdiffers : (ubit j.d 11 0 && ((s.nvPending (u16 j.d 8)).isSome || decide ((s.nvPage (u16 j.d 8)).shownSeq ≠ u32 j.d 24))) = false := by
    cases hbit : ubit j.d 11 0
    · rfl
    · obtain ⟨hpend, hseq⟩ := hexp hbit
      simp [hpend, hseq]
  have hnone : data.isNone = false := by rw [← Option.not_isSome, hd]; rfl
  have hexec : exec (.opNvWrite n data) s = .next (u.nvQueue (.page (u16 j.d 8) (s.nvWritten j.d (data.getD [])) (.desc j.ring j.stamp))) := by
    show execOpNvWrite n data s = _
    rw [execOpNvWrite, h.runOp rfl]
    simp only [firstFail, nvRange_good (Nat.le_of_lt (hp.trans (by decide))) hl hl', Job.allowed hpriv, State.nvPending_congr h.nv,
      State.nvPage_congr h.nv, State.nvNoSpace_congr h.nv, State.holdupOk_congr h.nv, State.nvBytes_congr h.nv, hdiffers, h.nv, hready, hnone, hspace, hhold,
      Nat.not_le.2 hp, decide_false, reduceCtorEq, Bool.not_true, Bool.or_self, Bool.false_eq_true, if_false]
    rfl
  obtain ⟨hwaits, hnv⟩ := h.nvQueued g hready (.page (u16 j.d 8) (s.nvWritten j.d (data.getD [])) (.desc j.ring j.stamp))
  exact ⟨_, hexec, hwaits, hnv⟩

theorem opNvWrite_differs (g : s.Good) (hexp : ubit j.d 11 0 = true) (hseq : (s.nvPage (u16 j.d 8)).shownSeq ≠ u32 j.d 24) :
    ∃ t, exec (.opNvWrite n data) s = .next t ∧ t.Answered j csState 0 ∧ t.nv = s.nv := by
  have hexec : exec (.opNvWrite n data) s = .next (u.complete j csState 0) := by
    show execOpNvWrite n data s = _
    rw [execOpNvWrite, h.runOp rfl]
    simp only [firstFail, nvRange_good (Nat.le_of_lt (hp.trans (by decide))) hl hl', Job.allowed hpriv, State.nvPage_congr h.nv, hexp, hseq,
      ne_eq, not_false_eq_true, decide_true, Bool.or_true, Bool.true_or, Bool.and_self, Bool.false_eq_true, if_false, if_true]
  obtain ⟨ha, hnv⟩ := h.nvAnswered g csState
  exact ⟨_, hexec, ha, hnv⟩

end

/-! ## OP_NV_COUNT (R458, R460, R468) -/

section
variable {n : Fin 64} {s u : State} {j : Job} (h : s.Starts n 0x72 j u) (hc : u8 j.d 8 ≤ 63)
include h hc

theorem nvCountRead_result (g : s.Good) (hact : u8 j.d 9 = 0) (hpriv : 32 ≤ u8 j.d 8 → j.priv = true) (hr : s.nv.phase ≠ .recall) :
    ∃ t, exec (.nvCountRead n) s = .next t ∧ t.nv = s.nv ∧ t.Answered j csOk (BitVec.ofNat 64 (s.ctrValue (u8 j.d 8))) := by
  have hcheck : u.countCheck j false = none := by
    simp only [State.countCheck, firstFail, Job.allowed hpriv, Nat.not_lt.2 hc, hact, h.nv, hr, Bool.false_and, decide_false, Nat.not_lt_zero, or_self,
      Bool.false_eq_true, if_false]
  have hexec : exec (.nvCountRead n) s = .next (u.complete j csOk (BitVec.ofNat 64 (s.ctrValue (u8 j.d 8)))) := by
    show execNvCountRead n s = _
    rw [execNvCountRead, h.runOp (by simp [hact]), hcheck, State.ctrValue, State.ctr_congr h.nv]
    rfl
  exact ⟨_, hexec, (State.complete_nv _ _ _ _).trans h.nv, h.answered g (.refl 0 u) (by decide) (by decide) csOk _⟩

variable (hact : u8 j.d 9 = 1)
include hact

theorem nvCountIncrement_result (g : s.Good) (hpriv : 32 ≤ u8 j.d 8 → j.priv = true) (hready : s.nv.phase = .ready) (hhold : s.holdupOk = true) :
    ∃ t, exec (.nvCountIncrement n) s = .next t ∧ t.Waits j ∧ t.nv = { s.nv with jobs := s.nv.jobs ++ [.cell (u8 j.d 8) 0 (.desc j.ring j.stamp)] } := by
  have hcheck : u.countCheck j true = none := by
    simp only [State.countCheck, firstFail, Job.allowed hpriv, Nat.not_lt.2 hc, hact, h.nv, hready, State.holdupOk_congr h.nv, hhold,
      Bool.true_and, decide_false, Nat.lt_irrefl, or_self, reduceCtorEq, Bool.not_true, Bool.false_eq_true, if_false]
  have hexec : exec (.nvCountIncrement n) s = .next (u.nvQueue (.cell (u8 j.d 8) 0 (.desc j.ring j.stamp))) := by
    show execNvCountIncrement n s = _
    rw [execNvCountIncrement, h.runOp (by simp [hact]), hcheck]
  obtain ⟨hwaits, hnv⟩ := h.nvQueued g hready (.cell (u8 j.d 8) 0 (.desc j.ring j.stamp))
  exact ⟨_, hexec, hwaits, hnv⟩

theorem nvCountIncrement_unprivileged (g : s.Good) (hc32 : 32 ≤ u8 j.d 8) (hpriv : j.priv = false) :
    ∃ t, exec (.nvCountIncrement n) s = .next t ∧ t.Answered j csPriv 0 ∧ t.nv = s.nv := by
  have hcheck : u.countCheck j true = some csPriv := by
    simp only [State.countCheck, firstFail, Nat.not_lt.2 hc, hact, hc32, hpriv, Nat.lt_irrefl, or_self, decide_false, decide_true, Bool.not_false,
      Bool.and_self, Bool.false_eq_true, if_false, if_true]
  have hexec : exec (.nvCountIncrement n) s = .next (u.complete j csPriv 0) := by
    show execNvCountIncrement n s = _
    rw [execNvCountIncrement, h.runOp (by simp [hact]), hcheck]
  obtain ⟨ha, hnv⟩ := h.nvAnswered g csPriv
  exact ⟨_, hexec, ha, hnv⟩

end

/-! ## The obligation -/

/-- Settles O47, command by command. -/
theorem nvCommands : Obligations.NvCommands := fun _ _ _ g =>
  ⟨fun _ _ h hp hl hl' hf hr => opNvRead_result h hp hl hl' hf g hr, fun _ _ h hp hl hl' hf hr => opNvRead_recall h hp hl hl' hf g hr,
    fun _ _ h hp hpriv hl hl' hexp hready hd hspace hhold => opNvWrite_result h hp hpriv hl hl' g hexp hready hd hspace hhold,
    fun _ _ h hp hpriv hl hl' hexp hseq => opNvWrite_differs h hp hpriv hl hl' g hexp hseq,
    fun _ _ h hact hc hpriv hr => nvCountRead_result h hc g hact hpriv hr,
    fun _ _ h hact hc hpriv hready hhold => nvCountIncrement_result h hc hact g hpriv hready hhold,
    fun _ _ h hact hc32 hc hpriv => nvCountIncrement_unprivileged h hc hact g hc32 hpriv⟩

end Sys2Proof.Machine
end

section
/-!
SUPPORT. The upkeep of the flash: voids, appends, erases, and what they leave of the store; then the ends of programs and erases
(R452 to R455, R460, R461, R463).
-/
namespace Sys2Proof.Machine

/-! ## What the upkeep of the sectors leaves of the store -/

/-- The store without its sectors and without what is due on them. -/
noncomputable def Nv.stored (n : Nv) : Nv := { n with sectors := [], openAt := none, lastSector := 0, voids := [], erases := [], erasing := false }

section
variable {a b : Nv} (h : a.stored = b.stored)
include h

theorem Nv.pages_of_stored : a.pages = b.pages := (congrArg Nv.pages h :)
theorem Nv.ctrs_of_stored : a.ctrs = b.ctrs := (congrArg Nv.ctrs h :)
theorem Nv.seq_of_stored : a.seq = b.seq := (congrArg Nv.seq h :)
theorem Nv.jobs_of_stored : a.jobs = b.jobs := (congrArg Nv.jobs h :)
theorem Nv.phase_of_stored : a.phase = b.phase := (congrArg Nv.phase h :)
theorem Nv.scanned_of_stored : a.scanned = b.scanned := (congrArg Nv.scanned h :)

end

section
variable {s t : State}

theorem State.ctr_of_ctrs (h : t.nv.ctrs = s.nv.ctrs) (c : Nat) : t.ctr c = s.ctr c := by simp only [State.ctr, h]
theorem State.nvPage_of_pages (h : t.nv.pages = s.nv.pages) (p : Nat) : t.nvPage p = s.nvPage p := by simp only [State.nvPage, h]

variable (s)

theorem State.nvVoid_stored (k i : Nat) : (s.nvVoid k i).nv.stored = s.nv.stored := rfl

theorem State.nvKick_stored : s.nvKick.nv.stored = s.nv.stored := by
  unfold State.nvKick
  split
  · extract_lets u
    have hu : u.nv.stored = s.nv.stored := foldl_keeps (fun t : State => t.nv.stored) (fun t v => t.nvVoid_stored v.1 v.2) rfl
    exact hu
  · rfl

theorem State.nvAppend_stored (r : NvRec) : (s.nvAppend r).nv.stored = s.nv.stored := by
  unfold State.nvAppend
  split
  · rfl
  · extract_lets x
    split <;> rfl

theorem State.nvErase_stored (e : NvErase) : (s.nvErase e).nv.stored = s.nv.stored := by
  unfold State.nvErase
  split
  · rfl
  · exact (State.nvKick_stored _).trans rfl

theorem State.nvKick_erases : s.nvKick.nv.erases = s.nv.erases := by
  unfold State.nvKick
  split
  · exact foldl_keeps (fun t : State => t.nv.erases) (fun _ _ => rfl) rfl
  · rfl

/-- An erase that has become due waits with those that did before. -/
theorem State.nvErase_erases (e : NvErase) : e ∈ (s.nvErase e).nv.erases ∧ ∀ x ∈ s.nv.erases, x ∈ (s.nvErase e).nv.erases := by
  unfold State.nvErase
  split
  · next h => exact ⟨List.contains_iff_mem.1 h, fun _ hx => hx⟩
  · rw [State.nvKick_erases]
    exact ⟨List.mem_append_right _ List.mem_cons_self, fun _ hx => List.mem_append_left _ hx⟩

theorem State.nvFail_nv (kind item off : Nat) : (s.nvFail kind item off).nv = s.nv := (s.nvFail_within _ _ _).nv (by decide)
theorem State.nvRaise_nv (bit code : Nat) (d : List (Nat × Nat × Nat)) : (s.nvRaise bit code d).nv = s.nv := (s.nvRaise_within _ _ _).nv (by decide)
theorem State.completeAt_nv (ring stamp status : Nat) (result : BitVec 64) : (s.completeAt ring stamp status result).nv = s.nv :=
  (s.completeAt_within _ _ _ _).nv (by decide)

theorem State.nvFail_flag (kind item off : Nat) : (s.nvFail kind item off).flag Adr.nvCause 1 = true := State.flag_raise_self _ _ _ (by decide) _ _ _
theorem State.nvKick_flag (a k : Nat) : s.nvKick.flag a k = s.flag a k := State.flag_congr (s.nvKick_within.same .regs (by decide)) a k

variable {s}

/-- Voids leave a sector without records as it is. -/
theorem State.nvVoid_sector {k : Nat} (h : (s.nvSector k).recs = []) (k' i : Nat) : (s.nvVoid k' i).nvSector k = s.nvSector k := by
  unfold State.nvVoid
  extract_lets x
  by_cases hk : k = k'
  · subst hk
    rw [State.nvSector_setNvSector]
    unfold x
    rw [h, List.modify_nil, ← h]
  · exact State.nvSector_setNvSector_ne _ _ hk

theorem State.nvKick_sector {k : Nat} (h : (s.nvSector k).recs = []) : s.nvKick.nvSector k = s.nvSector k := by
  unfold State.nvKick
  split
  · extract_lets u
    have hu : u.nvSector k = s.nvSector k := Within.fold (Q := fun t : State => t.nvSector k = s.nvSector k) rfl fun t v ht =>
      (State.nvVoid_sector (by rw [ht, h]) _ _).trans ht
    exact hu
  · rfl

/-- With the hold-up there, voids are done and the first erase due begins. -/
theorem State.nvKick_done (hp : s.nv.phase = .ready) (hh : s.holdupOk = true) : s.nvKick.nv.voids = [] ∧ s.nvKick.nv.erasing = !s.nv.erases.isEmpty := by
  rw [State.nvKick, if_pos ⟨hp, hh⟩]
  refine ⟨rfl, ?_⟩
  have he : (s.nv.voids.foldl (fun s v => s.nvVoid v.1 v.2) s).nv.erases = s.nv.erases := foldl_keeps (fun t : State => t.nv.erases) (fun _ _ => rfl) rfl
  exact congrArg (fun l : List NvErase => !l.isEmpty) he

end

/-! ## The end of a record (R453) -/

section
variable {s : State} {p : Nat} {d : NvData} {who : NvWho} {rest : List NvJob} {k i : Nat} (hj : s.nv.jobs = .page p d who :: rest) (hh : s.holdupOk = true)
  (hs : s.nvNextSlot = some (k, i))
include hj hh hs

/-- The record in progress is verified: the mirror takes the page. -/
noncomputable def State.recordKept (s : State) (p : Nat) (d : NvData) (rest : List NvJob) : State :=
  ((((s.updNv fun n => { n with jobs := rest }).nvAppend { page := p, seq := s.nv.seq + 1, data := d, commit := .committed }).updNv
    fun n => { n with seq := s.nv.seq + 1 }).setNvPage p { data := d, seq := s.nv.seq + 1 }).nvKick

/-- The record in progress fails: its slot is spent. -/
noncomputable def State.recordLost (s : State) (p : Nat) (d : NvData) (rest : List NvJob) : State :=
  (s.updNv fun n => { n with jobs := rest }).nvAppend { page := p, seq := s.nv.seq, data := d, commit := .erased }

theorem State.nvPageEnd_good (kind : Nat) : s.nvPageEnd true kind = (some (who, true, s.nv.seq + 1), s.recordKept p d rest) := by
  have hs' : (s.updNv fun n => { n with jobs := rest }).nvNextSlot = some (k, i) := hs
  unfold State.nvPageEnd
  simp only [hj, hh, hs', if_true]
  rfl

theorem State.nvPageEnd_bad (kind : Nat) :
    s.nvPageEnd false kind = (some (who, false, 0), (s.recordLost p d rest).nvFail kind p (recOffset k i)) := by
  have hs' : (s.updNv fun n => { n with jobs := rest }).nvNextSlot = some (k, i) := hs
  unfold State.nvPageEnd
  simp only [hj, hh, hs', if_true, Bool.false_eq_true, if_false]
  rfl

end

section
variable (s : State) (p : Nat) (d : NvData) (rest : List NvJob)

theorem State.recordKept_nv : (s.recordKept p d rest).nvPage p = { data := d, seq := s.nv.seq + 1 } ∧ (s.recordKept p d rest).nv.seq = s.nv.seq + 1 ∧
    (s.recordKept p d rest).nv.jobs = rest ∧ ∀ q, q ≠ p → (s.recordKept p d rest).nvPage q = s.nvPage q := by
  let a := (s.updNv fun n => { n with jobs := rest }).nvAppend { page := p, seq := s.nv.seq + 1, data := d, commit := .committed }
  let u := (a.updNv fun n => { n with seq := s.nv.seq + 1 }).setNvPage p { data := d, seq := s.nv.seq + 1 }
  have hk : (s.recordKept p d rest).nv.stored = u.nv.stored := u.nvKick_stored
  have ha : a.nv.stored = (s.updNv fun n => { n with jobs := rest }).nv.stored := State.nvAppend_stored _ _
  have hpages := State.nvPage_of_pages (Nv.pages_of_stored hk)
  refine ⟨(hpages p).trans (State.nvPage_setNvPage ..), Nv.seq_of_stored hk, (Nv.jobs_of_stored hk).trans (Nv.jobs_of_stored ha), fun q hq => ?_⟩
  exact (hpages q).trans ((State.nvPage_setNvPage_ne _ _ hq).trans (State.nvPage_of_pages (s := s) (t := a) ((Nv.pages_of_stored ha).trans rfl) q))

theorem State.recordLost_nv : (s.recordLost p d rest).nv.pages = s.nv.pages ∧ (s.recordLost p d rest).nv.seq = s.nv.seq ∧
    (s.recordLost p d rest).nv.jobs = rest ∧ (s.recordLost p d rest).nv.phase = s.nv.phase := by
  have ha : (s.recordLost p d rest).nv.stored = (s.updNv fun n => { n with jobs := rest }).nv.stored := State.nvAppend_stored _ _
  exact ⟨(Nv.pages_of_stored ha).trans rfl, (Nv.seq_of_stored ha).trans rfl, (Nv.jobs_of_stored ha).trans rfl, (Nv.phase_of_stored ha).trans rfl⟩

theorem State.recordKept_within : Within 137438953472 s (s.recordKept p d rest) :=
  (State.nvKick_within _).via (by decide) ((State.setNvPage_within _ _ _).via (by decide) (State.updNv_via (by decide) ((State.nvAppend_within _ _).via (by decide)
    (State.updNv_via (by decide) (.refl _ s)))))

theorem State.recordLost_within : Within 137438953472 s (s.recordLost p d rest) :=
  (State.nvAppend_within _ _).via (by decide) (State.updNv_via (by decide) (.refl _ s))

end

/-! ## Who waited for a program -/

/-- The descriptor that waited for a program is answered. -/
theorem State.nvResult_desc {s t : State} {m : Nat} (w : Within m s t) (h4 : m.testBit 4 = false) (h10 : m.testBit 10 = false) {r st v status : Nat} {ok : Bool}
    (hok : (if ok then csOk else csNvFail) = status) : ∀ j : Job, j.ring = r → j.stamp = st → s.Has j →
      (t.nvResult (some (.desc r st, ok, v))).Answered j status (if status < 0x100 then BitVec.ofNat 64 v else 0) := by
  rintro j rfl rfl ho
  show (t.completeAt j.ring j.stamp (if ok then csOk else csNvFail) (BitVec.ofNat 64 v)).Answered j _ _
  rw [hok]
  exact (ho.within w h4 h10).answered status (BitVec.ofNat 64 v)

theorem State.nvResult_desc_nv (t : State) (r st v : Nat) (ok : Bool) : (t.nvResult (some (.desc r st, ok, v))).nv = t.nv := t.completeAt_nv _ _ _ _

theorem State.nvResult_desc_flag (t : State) (r st v : Nat) (ok : Bool) (a k : Nat) : (t.nvResult (some (.desc r st, ok, v))).flag a k = t.flag a k :=
  State.flag_congr ((t.completeAt_within r st _ _).same .regs (by decide)) a k

section
variable {s : State} {p : Nat} {d : NvData} {r st : Nat} {rest : List NvJob} {k i : Nat} (hj : s.nv.jobs = .page p d (.desc r st) :: rest)
  (hh : s.holdupOk = true) (hs : s.nvNextSlot = some (k, i))
include hj hh hs

theorem nvRecordAck_verified : ∃ t, exec (.nvRecordAck true) s = .next t ∧ t.nvPage p = { data := d, seq := s.nv.seq + 1 } ∧ t.nv.seq = s.nv.seq + 1 ∧
    t.nv.jobs = rest ∧ (∀ q, q ≠ p → t.nvPage q = s.nvPage q) ∧
    ∀ j, j.ring = r → j.stamp = st → s.Has j → t.Answered j csOk (BitVec.ofNat 64 (s.nv.seq + 1)) := by
  have hexec : exec (.nvRecordAck true) s = .next ((s.recordKept p d rest).nvResult (some (.desc r st, true, s.nv.seq + 1))) := by
    show Host.Outcome.next ((s.nvPageEnd true 0).2.nvResult (s.nvPageEnd true 0).1) = _
    rw [State.nvPageEnd_good hj hh hs]
  have hnv := (s.recordKept p d rest).nvResult_desc_nv r st (s.nv.seq + 1) true
  obtain ⟨hpage, hseq, hjobs, hother⟩ := s.recordKept_nv p d rest
  have ha := State.nvResult_desc (s.recordKept_within p d rest) (by decide) (by decide) (r := r) (st := st) (v := s.nv.seq + 1) (ok := true) rfl
  refine ⟨_, hexec, ?_⟩
  simp only [State.nvPage_congr hnv, hnv]
  exact ⟨hpage, hseq, hjobs, hother, ha⟩

/-- A record that fails, be it not verified or not answered for, is spent, and whoever waited for it is told. -/
theorem State.recordFails (kind : Nat) {t : State} (ht : t = (s.nvPageEnd false kind).2.nvResult (s.nvPageEnd false kind).1) : t.nv.pages = s.nv.pages ∧
    t.nv.seq = s.nv.seq ∧ t.nv.jobs = rest ∧ t.nv.phase = s.nv.phase ∧ t.flag Adr.nvCause 1 = true ∧
    ∀ j, j.ring = r → j.stamp = st → s.Has j → t.Answered j csNvFail 0 := by
  let u := (s.recordLost p d rest).nvFail kind p (recOffset k i)
  have hu : t = u.nvResult (some (.desc r st, false, 0)) := by rw [ht, State.nvPageEnd_bad hj hh hs]
  have hnv : t.nv = (s.recordLost p d rest).nv := by rw [hu, State.nvResult_desc_nv]; exact State.nvFail_nv _ _ _ _
  have hw : Within 137438953538 s u := (State.nvFail_within _ _ _ _).via (by decide) ((s.recordLost_within p d rest).mono (by decide))
  obtain ⟨hpages, hseq, hjobs, hphase⟩ := s.recordLost_nv p d rest
  rw [hnv, hu, State.nvResult_desc_flag]
  exact ⟨hpages, hseq, hjobs, hphase, State.nvFail_flag _ _ _ _, State.nvResult_desc hw (by decide) (by decide) rfl⟩

theorem nvRecordAck_failed : ∃ t, exec (.nvRecordAck false) s = .next t ∧ t.nv.pages = s.nv.pages ∧ t.nv.seq = s.nv.seq ∧ t.nv.jobs = rest ∧
    t.flag Adr.nvCause 1 = true ∧ ∀ j, j.ring = r → j.stamp = st → s.Has j → t.Answered j csNvFail 0 := by
  obtain ⟨hpages, hseq, hjobs, -, hflag, ha⟩ := State.recordFails hj hh hs 0 rfl
  exact ⟨_, rfl, hpages, hseq, hjobs, hflag, ha⟩

theorem flashTimeout_record : ∃ t, exec (.flashTimeout true) s = .next t ∧ t.nv.jobs = rest ∧ t.nv.phase = s.nv.phase ∧ t.flag Adr.nvCause 1 = true ∧
    ∀ j, j.ring = r → j.stamp = st → s.Has j → t.Answered j csNvFail 0 := by
  have hexec : exec (.flashTimeout true) s = .next ((s.nvPageEnd false 2).2.nvResult (s.nvPageEnd false 2).1) := by
    show execFlashTimeout true s = _
    rw [execFlashTimeout, hj]
    rfl
  obtain ⟨-, -, hjobs, hphase, hflag, ha⟩ := State.recordFails hj hh hs 2 rfl
  exact ⟨_, hexec, hjobs, hphase, hflag, ha⟩

end

/-- Below the hold-up energy no program ends. -/
theorem nvAck_held {s : State} (h : s.holdupOk = false) : exec (.nvRecordAck true) s = .next s ∧ exec (.nvCellAck true) s = .next s := by
  have hpage : s.nvPageEnd true 0 = (none, s) := by
    unfold State.nvPageEnd
    split
    · rw [h]; rfl
    · rfl
  have hcell : s.nvCellEnd true 0 = (none, s) := by
    unfold State.nvCellEnd
    split
    · extract_lets x
      rw [h]; rfl
    · rfl
  constructor
  · show Host.Outcome.next ((s.nvPageEnd true 0).2.nvResult (s.nvPageEnd true 0).1) = _
    rw [hpage]; rfl
  · show Host.Outcome.next ((s.nvCellEnd true 0).2.nvResult (s.nvCellEnd true 0).1) = _
    rw [hcell]; rfl

end Sys2Proof.Machine
end

section
/-!
SUPPORT. The flash: cells of the wear counters, erases, paced writes, compaction, scrub, hold-up and recall (R451, R454 to R456, R460,
R461, R463, R464, R473).
-/
namespace Sys2Proof.Machine

/-! ## Cells of the wear counters (R460, R461) -/

/-- A counter whose cell has verified. -/
noncomputable def NvCtr.stepped (x : NvCtr) : NvCtr := if x.full then x.opened 1 else { x with used := x.used + 1, good := x.good + 1 }

theorem NvCtr.stepped_value (x : NvCtr) : x.stepped.value = x.value + 1 := by
  unfold NvCtr.stepped
  split <;> rfl

/-- The cell in progress has verified. -/
noncomputable def State.cellStepped (s : State) (c : Nat) (rest : List NvJob) : State := (s.setCtr c (s.ctr c).stepped).updNv fun n => { n with jobs := rest }

/-- The ring that a full counter leaves is due for its erase. -/
noncomputable def State.cellKept (s : State) (c : Nat) (rest : List NvJob) : State :=
  if (s.ctr c).full then (s.cellStepped c rest).nvErase (.counter c) else s.cellStepped c rest

/-- The cell in progress fails and is spent; the next one is tried. -/
noncomputable def State.cellSpent (s : State) (c : Nat) : State :=
  (s.setCtr c { s.ctr c with used := (s.ctr c).used + 1 }).nvFail 0 c (cellOffset c (s.ctr c).cur (s.ctr c).used)

section
variable {s : State} {c tries : Nat} {who : NvWho} {rest : List NvJob} (hj : s.nv.jobs = .cell c tries who :: rest) (hh : s.holdupOk = true)
include hj hh

theorem State.nvCellEnd_good (he : (s.ctr c).full = true → (s.ctr c).otherErased = true) (kind : Nat) :
    s.nvCellEnd true kind = (some (who, true, s.ctrValue c + 1), s.cellKept c rest) := by
  have hgo : (s.holdupOk && !((s.ctr c).full && !(s.ctr c).otherErased)) = true := by
    rw [hh]
    cases hf : (s.ctr c).full
    · rfl
    · rw [he hf]; rfl
  unfold State.nvCellEnd
  rw [hj]
  simp only [hgo, if_true]
  rw [State.ctrValue, ← NvCtr.stepped_value]
  rfl

theorem State.nvCellEnd_retry (hf : (s.ctr c).full = false) (ht : tries + 1 < 3) :
    s.nvCellEnd false 0 = (none, (s.cellSpent c).updNv fun n => { n with jobs := .cell c (tries + 1) who :: rest }) := by
  unfold State.nvCellEnd
  rw [hj]
  simp only [hh, hf, ht, Bool.false_and, Bool.not_false, Bool.and_self, Bool.false_eq_true, if_true, if_false]
  rfl

end

theorem State.cellKept_nv (s : State) (c : Nat) (rest : List NvJob) : (s.cellKept c rest).ctr c = (s.ctr c).stepped ∧ (s.cellKept c rest).nv.jobs = rest ∧
    (∀ k, k ≠ c → (s.cellKept c rest).ctr k = s.ctr k) ∧ ((s.ctr c).full = true → .counter c ∈ (s.cellKept c rest).nv.erases) := by
  have hu : (s.cellKept c rest).nv.stored = (s.cellStepped c rest).nv.stored := by
    unfold State.cellKept
    split
    · exact State.nvErase_stored _ _
    · rfl
  have hctr := State.ctr_of_ctrs (Nv.ctrs_of_stored hu)
  refine ⟨(hctr c).trans (State.ctr_setCtr ..), (Nv.jobs_of_stored hu).trans rfl, fun k hk => (hctr k).trans (State.ctr_setCtr_ne _ _ hk), fun hf => ?_⟩
  rw [State.cellKept, if_pos hf]
  exact (State.nvErase_erases _ _).1

theorem State.cellKept_within (s : State) (c : Nat) (rest : List NvJob) : Within 137438953472 s (s.cellKept c rest) := by
  have hu : Within 137438953472 s (s.cellStepped c rest) := State.updNv_via (by decide) (s.setCtr_within _ _)
  exact Within.ite ((State.nvErase_within _ _).via (by decide) hu) hu

section
variable {s : State} {c tries : Nat} {rest : List NvJob}

theorem nvCellAck_verified {r st : Nat} (hj : s.nv.jobs = .cell c tries (.desc r st) :: rest) (hh : s.holdupOk = true)
    (he : (s.ctr c).full = true → (s.ctr c).otherErased = true) :
    ∃ t, exec (.nvCellAck true) s = .next t ∧ t.ctrValue c = s.ctrValue c + 1 ∧ t.nv.jobs = rest ∧ (∀ k, k ≠ c → t.ctr k = s.ctr k) ∧
      ((s.ctr c).full = true → (t.ctr c).epoch = (s.ctr c).epoch + 1 ∧ .counter c ∈ t.nv.erases) ∧
      ∀ j, j.ring = r → j.stamp = st → s.Has j → t.Answered j csOk (BitVec.ofNat 64 (s.ctrValue c + 1)) := by
  have hexec : exec (.nvCellAck true) s = .next ((s.cellKept c rest).nvResult (some (.desc r st, true, s.ctrValue c + 1))) := by
    show Host.Outcome.next ((s.nvCellEnd true 0).2.nvResult (s.nvCellEnd true 0).1) = _
    rw [State.nvCellEnd_good hj hh he]
  have hnv := (s.cellKept c rest).nvResult_desc_nv r st (s.ctrValue c + 1) true
  obtain ⟨hself, hjobs, hother, herase⟩ := s.cellKept_nv c rest
  have ha := State.nvResult_desc (s.cellKept_within c rest) (by decide) (by decide) (r := r) (st := st) (v := s.ctrValue c + 1) (ok := true) rfl
  refine ⟨_, hexec, ?_⟩
  generalize (s.cellKept c rest).nvResult (some (.desc r st, true, s.ctrValue c + 1)) = t at hnv ha ⊢
  simp only [State.ctrValue, State.ctr_congr hnv, hnv, hself]
  refine ⟨NvCtr.stepped_value _, hjobs, hother, fun hf => ⟨?_, herase hf⟩, ha⟩
  rw [NvCtr.stepped, if_pos hf]
  rfl

theorem nvCellAck_failed {who : NvWho} (hj : s.nv.jobs = .cell c tries who :: rest) (hh : s.holdupOk = true) (hf : (s.ctr c).full = false) (ht : tries + 1 < 3) :
    ∃ t, exec (.nvCellAck false) s = .next t ∧ t.ctrValue c = s.ctrValue c ∧ (t.ctr c).used = (s.ctr c).used + 1 ∧
      t.nv.jobs = .cell c (tries + 1) who :: rest ∧ t.flag Adr.nvCause 1 = true := by
  have hexec : exec (.nvCellAck false) s = .next ((s.cellSpent c).updNv fun n => { n with jobs := .cell c (tries + 1) who :: rest }) := by
    show Host.Outcome.next ((s.nvCellEnd false 0).2.nvResult (s.nvCellEnd false 0).1) = _
    rw [State.nvCellEnd_retry hj hh hf ht]
    rfl
  have hctr : (s.cellSpent c).ctr c = { s.ctr c with used := (s.ctr c).used + 1 } :=
    (State.ctr_congr (State.nvFail_nv _ _ _ _) c).trans (State.ctr_setCtr ..)
  refine ⟨_, hexec, ?_, congrArg NvCtr.used hctr, rfl, State.nvFail_flag _ _ _ _⟩
  exact (congrArg NvCtr.value hctr).trans rfl

end

/-! ## Erases (R455, R464) -/

section
variable {s : State} {k : Nat} {rest : List NvErase}

/-- An erase is no longer in progress. -/
noncomputable def State.eraseTaken (s : State) (rest : List NvErase) : State := s.updNv fun n => { n with erases := rest, erasing := false }

/-- A sector that has been erased. -/
noncomputable def NvSector.erased (x : NvSector) : NvSector := { x with seq := 0, recs := [], erases := x.erases + 1 }

theorem nvEraseDone_erased (he : s.nv.erases = .record k :: rest) (hg : s.nv.erasing = true) : ∃ t, exec (.nvEraseDone true) s = .next t ∧
    t.nv.erases = rest ∧ t.nvSector k = { seq := 0, recs := [], erases := (s.nvSector k).erases + 1, retired := (s.nvSector k).retired } := by
  let u := (s.eraseTaken rest).setNvSector k (s.nvSector k).erased
  have hend : ∃ v : State, s.eraseEnd true 1 = v.nvKick ∧ v.nv = u.nv := by
    unfold State.eraseEnd
    rw [he, hg]
    refine ⟨_, rfl, ?_⟩
    show State.nv (if (s.nvSector k).erases + 1 = 800000 then u.nvRaise 3 0x1003 [(20, 1, 0), (24, 4, (s.nvSector k).erases + 1)] else u) = _
    split
    · exact State.nvRaise_nv _ _ _ _
    · rfl
  obtain ⟨v, hv, hnv⟩ := hend
  have hsec : v.nvSector k = (s.nvSector k).erased := (State.nvSector_congr hnv k).trans (State.nvSector_setNvSector ..)
  refine ⟨v.nvKick, congrArg Host.Outcome.next hv, v.nvKick_erases.trans (congrArg Nv.erases hnv), ?_⟩
  rw [State.nvKick_sector (by rw [hsec]; rfl), hsec]
  rfl

/-- An erase that fails is told of, retires its sector, and leaves the programs that wait. -/
theorem State.eraseEnd_failed {e : NvErase} (he : s.nv.erases = e :: rest) (hg : s.nv.erasing = true) (kind : Nat) : ∃ u : State, ∃ item off,
    s.eraseEnd false kind = (u.nvFail kind item off).nvKick ∧ u.nv.jobs = s.nv.jobs ∧ u.nv.erases = rest ∧
      ∀ k, e = .record k → u.nvSector k = { s.nvSector k with recs := [], retired := true } := by
  unfold State.eraseEnd
  rw [he, hg]
  cases e with
  | record k =>
    refine ⟨(s.eraseTaken rest).setNvSector k { s.nvSector k with recs := [], retired := true }, _, _, rfl, rfl, rfl, ?_⟩
    rintro _ ⟨⟩
    exact State.nvSector_setNvSector ..
  | counter c => exact ⟨(s.eraseTaken rest).setCtr c { s.ctr c with retired := (s.ctr c).retired + 1 }, _, _, rfl, rfl, rfl, fun _ h => nomatch h⟩

theorem nvEraseDone_failed (he : s.nv.erases = .record k :: rest) (hg : s.nv.erasing = true) : ∃ t, exec (.nvEraseDone false) s = .next t ∧
    t.nv.erases = rest ∧ (t.nvSector k).retired = true ∧ t.flag Adr.nvCause 1 = true := by
  obtain ⟨u, item, off, hend, -, hrest, hsec⟩ := State.eraseEnd_failed he hg 1
  have hfail : (u.nvFail 1 item off).nvSector k = { s.nvSector k with recs := [], retired := true } :=
    (State.nvSector_congr (u.nvFail_nv _ _ _) k).trans (hsec k rfl)
  refine ⟨_, congrArg Host.Outcome.next hend, ?_, ?_, ?_⟩
  · rw [State.nvKick_erases, State.nvFail_nv, hrest]
  · rw [State.nvKick_sector (by rw [hfail]), hfail]
  · rw [State.nvKick_flag]
    exact u.nvFail_flag _ _ _

theorem flashTimeout_dead (hj : s.nv.jobs = []) (he : s.nv.erases ≠ []) (hg : s.nv.erasing = true) : ∃ t, exec (.flashTimeout false) s = .next t ∧
    t.nv.phase = .fault ∧ t.nv.erasing = false ∧ t.flag Adr.nvCause 1 = true := by
  obtain ⟨e, rest, he'⟩ := List.exists_cons_of_ne_nil he
  obtain ⟨u, item, off, hend, hjobs, -, -⟩ := State.eraseEnd_failed he' hg 2
  have hexec : exec (.flashTimeout false) s = .next ((u.nvFail 2 item off).nvKick).nvDead := by
    show execFlashTimeout false s = _
    rw [← hend, execFlashTimeout, hj]
    exact congrArg Host.Outcome.next (if_pos hg)
  have hnone : (u.nvFail 2 item off).nvKick.nv.jobs = [] := by
    rw [Nv.jobs_of_stored (State.nvKick_stored _), State.nvFail_nv, hjobs, hj]
  have hflag : (u.nvFail 2 item off).nvKick.flag Adr.nvCause 1 = true := (State.nvKick_flag _ _ _).trans (u.nvFail_flag _ _ _)
  generalize (u.nvFail 2 item off).nvKick = v at hexec hnone hflag
  have hdead : v.nvDead = v.updNv fun n => { n with phase := .fault, jobs := [], erasing := false } := by
    unfold State.nvDead
    rw [hnone]
    rfl
  rw [hdead] at hexec
  exact ⟨_, hexec, rfl, rfl, hflag⟩

theorem flashTimeout_idle (hj : s.nv.jobs = []) (hg : s.nv.erasing = false) : exec (.flashTimeout false) s = .next s := by
  show execFlashTimeout false s = _
  rw [execFlashTimeout, hj]
  exact congrArg Host.Outcome.next (if_neg (by rw [hg]; decide))

end

/-! ## Paced writes and compaction (R451, R454) -/

section
variable {s : State}

theorem State.nvQueue_paced {p : Nat} (h : s.nv.phase = .ready) (x : NvJob) :
    (((s.updNv fun n => { n with queue := n.queue.filter fun q => q ≠ p, lastPaced := some s.now }).chainsSaved p).nvQueue x).nv =
      { s.nv with queue := s.nv.queue.filter fun q => q ≠ p, lastPaced := some s.now, jobs := s.nv.jobs ++ [x] } := by
  let u := s.updNv fun n => { n with queue := n.queue.filter fun q => q ≠ p, lastPaced := some s.now }
  have hnv : (u.chainsSaved p).nv = u.nv := (u.chainsSaved_within p).nv (by decide)
  have hphase : (u.chainsSaved p).nv.phase ≠ .fault := by
    rw [hnv, show u.nv.phase = .ready from h]
    decide
  rw [State.nvQueue_nv hphase, hnv]
  rfl

/-- A paced write is due: the queue is written for STANDBY, or 2 s have passed. -/
noncomputable def Nv.pacedDue (n : Nv) (now : Nat) : Bool := n.flushing || (match n.lastPaced with | some t => decide (t + msTicks 2000 ≤ now) | none => true)

theorem Nv.pacedDue_of {n : Nv} {now : Nat} (h : n.flushing = true ∨ n.lastPaced = none ∨ ∃ x, n.lastPaced = some x ∧ x + msTicks 2000 ≤ now) :
    n.pacedDue now = true := by
  rcases h with h | h | ⟨x, h, hx⟩
  · simp [Nv.pacedDue, h]
  · simp [Nv.pacedDue, h]
  · simp [Nv.pacedDue, h, hx]

theorem pacedWrite_result {p : Nat} (hp : s.nv.phase = .ready) (hh : s.holdupOk = true)
    (hdue : s.nv.flushing = true ∨ s.nv.lastPaced = none ∨ ∃ x, s.nv.lastPaced = some x ∧ x + msTicks 2000 ≤ s.now)
    (hw : ∀ q d b, NvJob.page q d (.paced b) ∉ s.nv.jobs) (hn : s.nextPaced = some p) : ∃ t, exec .pacedWrite s = .next t ∧
      t.nv.jobs = s.nv.jobs ++ [.page p (s.sysData p) (.paced p)] ∧ t.nv.queue = s.nv.queue.filter (· ≠ p) ∧ t.nv.lastPaced = some s.now := by
  have hwaits : (s.nv.jobs.any fun j => match j with | .page _ _ (.paced _) => true | _ => false) = false := by
    rw [List.any_eq_false]
    rintro (⟨q, d, w⟩ | ⟨c, n, w⟩) hmem
    · cases w with
      | paced b => exact absurd hmem (hw q d b)
      | _ => exact Bool.false_ne_true
    · exact Bool.false_ne_true
  have hexec : exec .pacedWrite s = .next (((s.updNv fun n => { n with queue := n.queue.filter fun q => q ≠ p, lastPaced := some s.now }).chainsSaved p).nvQueue
      (.page p (s.sysData p) (.paced p))) := by
    refine congrArg Host.Outcome.next ((if_pos ⟨hp, hh, Nv.pacedDue_of hdue, hwaits⟩).trans ?_)
    rw [hn]
    rfl
  refine ⟨_, hexec, ?_⟩
  rw [State.nvQueue_paced hp]
  exact ⟨rfl, rfl, rfl⟩

theorem nvCompaction_result {k : Nat} (hp : s.nv.phase = .ready) (hh : s.holdupOk = true) (hf : s.nvErased < 4) (ho : s.nvOldest = some k) :
    ∃ t, exec .nvCompaction s = .next t ∧ .record k ∈ t.nv.erases ∧ t.nv.pages = s.nv.pages ∧ t.nv.seq = s.nv.seq ∧ s.Only t [.nv] := by
  let u := ((s.nvSector k).recs.filter fun r => s.nvInForce r).foldl (fun s r => s.nvAppend r) s
  have hexec : exec .nvCompaction s = .next (u.nvErase (.record k)) := by
    refine congrArg Host.Outcome.next ((if_pos ⟨hp, hh, hf⟩).trans ?_)
    rw [ho]
  have hu : u.nv.stored = s.nv.stored := foldl_keeps (fun t : State => t.nv.stored) (fun t r => t.nvAppend_stored r) rfl
  have he : (u.nvErase (.record k)).nv.stored = s.nv.stored := (u.nvErase_stored _).trans hu
  exact ⟨_, hexec, (u.nvErase_erases _).1, Nv.pages_of_stored he, Nv.seq_of_stored he, fun _ hpart => exec_frame (c := .nvCompaction) hexec hpart⟩

theorem nvCompaction_idle (h : 4 ≤ s.nvErased) : exec .nvCompaction s = .next s :=
  congrArg Host.Outcome.next (if_neg fun hn => absurd hn.2.2 (Nat.not_lt.2 h))

end

/-! ## Scrub (R455) -/

/-- A record whose code fails is copied from the mirror and voided. -/
noncomputable def State.scrubMended (s : State) (k i : Nat) (r : NvRec) : State :=
  ((s.count Adr.nvScrub 15 0 0).nvAppend { r with data := (s.nvPage r.page).data }).nvVoid k i

theorem State.scrubMended_stored (s : State) (k i : Nat) (r : NvRec) : (s.scrubMended k i r).nv.stored = s.nv.stored :=
  (State.nvVoid_stored _ _ _).trans (State.nvAppend_stored (s.count Adr.nvScrub 15 0 0) _)

/-- A cause leaves another cause of its register. -/
theorem State.flag_raise_other (s : State) (cause mask : Nat) {bit k : Nat} (h : bit < k) (hk : k < 32) (src code : Nat) (d : List (Nat × Nat × Nat)) :
    (s.raise cause mask bit src code d).flag cause k = s.flag cause k := by
  have hs : (s.setBit cause bit).flag cause k = s.flag cause k := s.flag_fset_above _ _ (by omega) h hk
  unfold State.raise
  extract_lets t
  split
  · rw [State.flag_congr (State.occur_regs _ _ _ _), hs]
  · exact hs

section
variable {s : State} (hp : s.nv.phase = .ready) (hh : s.holdupOk = true) (ht : s.nv.lastScrub + msTicks 3600000 * s.fget Adr.nvCfg 7 0 ≤ s.now)
include hp hh ht

theorem nvScrub_clean (base : Nat) : ∃ t, exec (.nvScrub [] base) s = .next t ∧ t.nv = { s.nv with lastScrub := s.now } ∧
    t.fget Adr.nvScrub 15 0 = min (s.fget Adr.nvScrub 15 0 + base) 65535 ∧ s.Only t [.regs, .nv] := by
  let u := s.count Adr.nvScrub 15 0 base
  have hexec : exec (.nvScrub [] base) s = .next (u.updNv fun n => { n with lastScrub := s.now }) := congrArg Host.Outcome.next (if_pos ⟨hp, hh, ht⟩)
  exact ⟨_, hexec, rfl, s.fget_count_self _ _ (by decide),
    (State.updNv_via (l := 137438953474) (by decide) ((s.count_within _ _ _ _).mono (by decide))).only _ (by decide)⟩

theorem nvScrub_lost {k i : Nat} {r : NvRec} (hr : (s.nvSector k).recs[i]? = some r) (hf : s.nvInForce r = true) :
    ∃ t, exec (.nvScrub [(k, i, 255)] 0) s = .next t ∧ t.nv.lastScrub = s.now ∧ t.nv.pages = s.nv.pages ∧ t.flag Adr.nvCause 2 = true ∧
      t.flag Adr.nvCause 4 = true := by
  let v := s.scrubMended k i r
  let w := v.nvRaise 4 0x1004 [(20, 2, r.page), (24, 4, (v.nvPage r.page).seq)]
  let x := (w.count Adr.nvScrub 31 16 1).updNv fun n => { n with lastScrub := w.now }
  have hexec : exec (.nvScrub [(k, i, 255)] 0) s = .next (x.nvRaise 2 0x1002 [(24, 4, 1)]) := by
    have hr' : ((s.count Adr.nvScrub 15 0 0).nvSector k).recs[i]? = some r := hr
    have hf' : (s.count Adr.nvScrub 15 0 0).nvInForce r = true := hf
    refine congrArg Host.Outcome.next ((if_pos ⟨hp, hh, ht⟩).trans ?_)
    simp only [List.foldl_cons, List.foldl_nil, hr', hf', ne_eq, OfNat.ofNat_ne_zero, not_false_eq_true, and_self, if_true, Nat.lt_irrefl, if_false,
      Nat.zero_add, Nat.one_ne_zero]
    rfl
  have hnow : w.now = s.now := by
    have hv : Within 137438953474 s v := (State.nvVoid_within _ _ _).via (by decide)
      ((State.nvAppend_within _ _).via (by decide) ((s.count_within _ _ _ _).mono (by decide)))
    exact ((v.nvRaise_within _ _ _).now (by decide)).trans (hv.now (by decide))
  have hw : w.nv = v.nv := v.nvRaise_nv _ _ _
  have hpages : x.nv.pages = s.nv.pages := (congrArg Nv.pages hw).trans (Nv.pages_of_stored (s.scrubMended_stored k i r))
  refine ⟨_, hexec, ?_, ?_, State.flag_raise_self _ _ _ (by decide) _ _ _, ?_⟩
  · rw [State.nvRaise_nv]
    exact hnow
  · rw [State.nvRaise_nv]
    exact hpages
  · refine (State.flag_raise_other x _ _ (by decide) (by decide) _ _ _).trans ?_
    refine (State.flag_of_fget (t := x) (s := w) (w.fget_fset_ne _ _ _ _ _ (by decide))).trans ?_
    exact State.flag_raise_self _ _ _ (by decide) _ _ _

end

/-! ## Hold-up (R463) -/

section
variable {s : State} {n : Fin 4096}

theorem holdupReady_result (h : 1000 ≤ n.val) : ∃ t, exec (.holdupReady n) s = .next t ∧ t.nv.energy = n.val ∧ s.Only t [.nv] ∧
    (s.nv.phase = .ready → t.nv.voids = [] ∧ t.nv.erasing = !s.nv.erases.isEmpty) := by
  let u := s.updNv fun x => { x with energy := n.val }
  have hexec : exec (.holdupReady n) s = .next u.nvKick := congrArg Host.Outcome.next (if_pos h)
  have henergy : u.nvKick.nv.energy = n.val := (congrArg Nv.energy u.nvKick_stored :)
  have hhold : u.holdupOk = true := decide_eq_true h
  exact ⟨_, hexec, henergy, fun _ hp => exec_frame hexec hp, fun hp => State.nvKick_done (s := u) hp hhold⟩

theorem holdupReady_short (h : n.val < 1000) : exec (.holdupReady n) s = .next s := congrArg Host.Outcome.next (if_neg (Nat.not_le.2 h))

end

/-! ## Recall (R456) -/

theorem le_topSeq (l : List RecallRec) : ∀ r ∈ l, r.seq ≤ topSeq l := by
  intro r hr
  exact foldl_forall (P := fun x m => x ≤ m) (fun m x => Nat.le_max_right m x) (fun m x y _ hy => Nat.le_trans hy (Nat.le_max_left m x)) _ 0 _
    (List.mem_map_of_mem hr)

section
variable {s : State} {ms : Nat} {f : NvFound}

theorem recallScan_result (hp : s.nv.phase = .recall) (hs : s.nv.scanned = none) : ∃ t, exec (.recallScan f) s = .next t ∧ t.nv.scanned.isSome = true ∧
    t.nv.phase = .recall ∧ t.nv.torn = [] ∧ (s.nv.seq ≤ t.nv.seq ∧ ∀ r ∈ s.recallRecs f, r.seq ≤ t.nv.seq) ∧ ∀ k ∈ f.bad, .record k ∈ t.nv.erases := by
  show ∃ t, execRecallScan f s = .next t ∧ _
  unfold execRecallScan
  rw [if_pos ⟨hp, hs⟩]
  refine ⟨_, rfl, ?_⟩
  extract_lets rs g a b c d e u v
  clear_value g
  have ha : a.nv.phase = .recall ∧ a.nv.seq = s.nv.seq := by
    have h : (a.nv.phase, a.nv.seq) = (s.nv.phase, s.nv.seq) := foldl_keeps (fun t : State => (t.nv.phase, t.nv.seq)) (fun _ _ => rfl) rfl
    exact ⟨(congrArg Prod.fst h).trans hp, congrArg Prod.snd h⟩
  have hc : c.nv = b.nv := foldl_keeps State.nv (fun _ _ => State.nvRaise_nv _ _ _ _) rfl
  have hd : d.nv = b.nv := foldl_keeps State.nv (fun _ _ => State.nvRaise_nv _ _ _ _) hc
  have he : (e.nv.scanned, e.nv.phase, e.nv.seq) = (some g.twins, a.nv.phase, max a.nv.seq (topSeq rs)) :=
    foldl_keeps (fun t : State => (t.nv.scanned, t.nv.phase, t.nv.seq)) (fun _ _ => rfl) (by rw [hd]; rfl)
  have hu : u.nv.stored = e.nv.stored := foldl_keeps (fun t : State => t.nv.stored) (fun _ _ => State.nvErase_stored _ _) rfl
  have hv : v.nv.stored = e.nv.stored := foldl_keeps (fun t : State => t.nv.stored) (fun _ _ => State.nvErase_stored _ _) hu
  obtain ⟨hscanned, hphase, hseq⟩ : e.nv.scanned = some g.twins ∧ e.nv.phase = a.nv.phase ∧ e.nv.seq = max a.nv.seq (topSeq rs) := by
    simpa only [Prod.mk.injEq] using he
  have hseq' : v.nv.seq = max s.nv.seq (topSeq rs) := by rw [Nv.seq_of_stored hv, hseq, ha.2]
  refine ⟨?_, ?_, rfl, ⟨?_, fun r hr => ?_⟩, fun k hk => ?_⟩
  · show v.nv.scanned.isSome = true
    rw [Nv.scanned_of_stored hv, hscanned]
    rfl
  · show v.nv.phase = _
    rw [Nv.phase_of_stored hv, hphase, ha.1]
  · show s.nv.seq ≤ v.nv.seq
    rw [hseq']
    exact Nat.le_max_left _ _
  · show r.seq ≤ v.nv.seq
    rw [hseq']
    exact (le_topSeq rs r hr).trans (Nat.le_max_right _ _)
  · have hbad : .record k ∈ u.nv.erases := foldl_forall (P := fun k (t : State) => .record k ∈ t.nv.erases) (fun t _ => (t.nvErase_erases _).1)
      (fun t _ _ _ h => (t.nvErase_erases _).2 _ h) f.bad e k hk
    exact Within.fold (Q := fun t : State => .record k ∈ t.nv.erases) hbad fun t _ h => (t.nvErase_erases _).2 _ h

/-- What the end of the scan leaves as it is. -/
noncomputable def Nv.recalled (n : Nv) : NvPhase × Option Nat × Tab NvPage × Nat := (n.phase, n.scanned, n.pages, n.lastScrub)

theorem State.eraseSecrets_recalled (s : State) : s.eraseSecrets.nv.recalled = s.nv.recalled := by
  unfold State.eraseSecrets
  refine foldl_keeps (fun t : State => t.nv.recalled) (fun t p => ?_) rfl
  split
  · rfl
  · unfold State.nvQueue
    split <;> rfl

theorem recallDone_result {tw : Nat} (hp : s.nv.phase = .recall) (hs : s.nv.scanned = some tw) : ∃ t, exec (.recallDone ms) s = .next t ∧
    t.nv.phase = .ready ∧ t.nv.scanned = none ∧ t.nv.pages = s.nv.pages ∧ t.nv.lastScrub = s.now ∧ t.flag Adr.nvCause 5 = true := by
  show ∃ t, execRecallDone ms s = .next t ∧ _
  unfold execRecallDone
  rw [hp, hs]
  refine ⟨_, rfl, ?_⟩
  extract_lets a b c d e
  have ha : a.nv.recalled = (.ready, none, s.nv.pages, s.now) := rfl
  have hb : b.nv.recalled = a.nv.recalled := by
    unfold b
    split <;> rfl
  have hc : c.nv = b.nv := b.loadKeys_within.nv (by decide)
  have hd : d.nv = b.nv := by
    unfold d
    split
    · exact hc
    · exact hc
  have he : e.nv.recalled = d.nv.recalled := by
    unfold e
    split
    · exact (State.eraseSecrets_recalled _).trans (congrArg Nv.recalled (d.freshChains_within.nv (by decide)))
    · exact congrArg Nv.recalled ((d.loadDikes.loadChains_within.nv (by decide)).trans (d.loadDikes_within.nv (by decide)))
  have hkick : e.nvKick.nv.recalled = e.nv.recalled := (congrArg Nv.recalled e.nvKick_stored :)
  have hall : e.nvKick.nv.recalled = (.ready, none, s.nv.pages, s.now) := by rw [hkick, he, hd, hb, ha]
  obtain ⟨hphase, hscanned, hpages, hscrub⟩ : e.nvKick.nv.phase = .ready ∧ e.nvKick.nv.scanned = none ∧ e.nvKick.nv.pages = s.nv.pages ∧
    e.nvKick.nv.lastScrub = s.now := by simpa only [Nv.recalled, Prod.mk.injEq] using hall
  rw [State.nvRaise_nv]
  exact ⟨hphase, hscanned, hpages, hscrub, State.flag_raise_self _ _ _ (by decide) _ _ _⟩

theorem recallDone_idle (h : s.nv.phase ≠ .recall ∨ s.nv.scanned = none) : exec (.recallDone ms) s = .next s := by
  show execRecallDone ms s = _
  unfold execRecallDone
  split
  · next hp hs =>
    rcases h with h | h
    · exact absurd hp h
    · exact absurd (hs.symm.trans h) nofun
  · rfl

end

/-! ## The obligation -/

/-- Settles O48, command by command. -/
theorem nvFlash : Obligations.NvFlash := fun _ _ base _ _ _ =>
  ⟨fun _ _ _ _ _ _ _ hj hh hs => nvRecordAck_verified hj hh hs, fun _ _ _ _ _ _ _ hj hh hs => nvRecordAck_failed hj hh hs, nvAck_held,
    fun _ _ _ _ _ hj hh he => nvCellAck_verified hj hh he, fun _ _ _ _ hj hh hf ht => nvCellAck_failed hj hh hf ht,
    fun _ _ he hg => nvEraseDone_erased he hg, fun _ _ he hg => nvEraseDone_failed he hg, fun _ hp hh hdue hw hn => pacedWrite_result hp hh hdue hw hn,
    fun _ hp hh hf ho => nvCompaction_result hp hh hf ho, nvCompaction_idle,
    fun hp hh ht => ⟨nvScrub_clean hp hh ht base, fun _ _ _ hr hf => nvScrub_lost hp hh ht hr hf⟩, holdupReady_result, holdupReady_short,
    fun _ _ _ _ _ _ _ hj hh hs => flashTimeout_record hj hh hs, flashTimeout_dead, flashTimeout_idle, recallScan_result, fun _ hp hs => recallDone_result hp hs,
    recallDone_idle⟩

end Sys2Proof.Machine
end

section
/-!
SUPPORT. OP_KEY: what the start of an operation leaves of the cocoon and of the store, then every subcode whose checks pass (R424 to
R428, R432).
-/
namespace Sys2Proof.Machine

/-! ## Keys as a view of the cocoon -/

section
variable {s t : State}

theorem State.key_congr (h : t.coc.slots = s.coc.slots) (n : Nat) : t.key n = s.key n := by simp only [State.key, h]

theorem State.usedKey_congr (h : t.coc.slots = s.coc.slots) (d : List Byte) : t.usedKey d = s.usedKey d := by simp only [State.usedKey, State.key_congr h]

theorem State.keyUses_congr (h : t.nv = s.nv) (k : Key) : t.keyUses k = s.keyUses k := by simp only [State.keyUses, State.ctrValue, State.ctr_congr h]

theorem State.infoBytes_congr (hc : t.coc = s.coc) (hn : t.nv = s.nv) (n : Nat) (k : Key) : t.infoBytes n k = s.infoBytes n k := by
  simp only [State.infoBytes, hc, State.keyUses_congr hn]

variable (s)

@[simp] theorem State.key_setKey (n : Nat) (k : Option Key) : (s.setKey n k).key n = k := Tab.get_set_self ..

theorem State.complete_coc (j : Job) (status : Nat) (result : BitVec 64) : (s.complete j status result).coc = s.coc :=
  (s.complete_within j status result).same .cocoon (by decide)

end

/-- A key whose use has been counted in its slot. -/
noncomputable def Key.usedOnce (k : Key) : Key := { k with used := k.used + 1 }

section
variable {n opc : Nat} {s u : State} {j : Job} (h : s.Starts n opc j u)
include h

theorem State.Starts.key (i : Nat) : u.key i = s.key i := State.key_congr (congrArg Coc.slots h.coc) i

theorem State.Starts.newKey : u.newKey j = s.newKey j := by
  simp only [State.newKey, State.freeKeyCounter, State.ctrValue, State.ctr_congr h.nv, h.coc]

end

/-! ## The start of an operation (R425) -/

section
variable {v : State} {j : Job} {data : Option (List Byte)} {key : Option Key} {digest : List Byte} (hin : (keyInput j.d data).isSome = true)
include hin

/-- An operation that uses no counted key begins at once. -/
theorem State.keyBegin_uncounted (hu : ∀ k, v.usedKey j.d = some k → k.counted = false) :
    v.keyBegin j data key digest = v.addOp (j.keyOp (keyInput j.d data) .running key digest) := by
  have hnone : (keyInput j.d data).isNone = false := by rw [← Option.not_isSome, hin]; rfl
  unfold State.keyBegin
  extract_lets input
  split
  · next k _ hk =>
    rw [hu k hk, show input.isNone = false from hnone]
    rfl
  · rw [show input.isNone = false from hnone]
    rfl

/-- The use of an ephemeral key is counted in its slot. -/
theorem State.keyBegin_ephemeral {i b : Nat} {k : Key} (hi : kUsed j.d = some (i, b)) (hk : v.usedKey j.d = some k) (hc : k.counted = true) (he : k.ephemeral = true) :
    v.keyBegin j data key digest = (v.setKey i (some k.usedOnce)).addOp (j.keyOp (keyInput j.d data) .running key digest) := by
  have hnone : (keyInput j.d data).isNone = false := by rw [← Option.not_isSome, hin]; rfl
  have hpage : ¬(k.counted && !k.ephemeral) = true := by rw [hc, he]; decide
  unfold State.keyBegin
  extract_lets input
  rw [hi, hk]
  refine (if_neg hpage).trans ?_
  show (if input.isNone = true then _ else (if k.counted = true then v.setKey i (some k.usedOnce) else v).addOp _) = _
  rw [if_neg (by rw [show input.isNone = false from hnone]; decide), if_pos hc]

omit hin in
/-- The use of a key that lasts is counted by a cell of its wear counter. -/
theorem State.keyBegin_counting {i b : Nat} {k : Key} (hi : kUsed j.d = some (i, b)) (hk : v.usedKey j.d = some k) (hc : k.counted = true) (he : k.ephemeral = false) :
    v.keyBegin j data key digest = (v.addOp (j.keyOp (keyInput j.d data) .counting key digest)).nvQueue (.cell k.counter 0 (.op j.ring j.stamp)) := by
  unfold State.keyBegin
  simp only [hi, hk, hc, he, Bool.not_false, Bool.and_self, if_true]

omit hin in
/-- The three starts of an operation. -/
theorem State.keyBegin_cases : (∀ k, v.usedKey j.d = some k → k.counted = false) ∨
    (∃ i b k, kUsed j.d = some (i, b) ∧ v.usedKey j.d = some k ∧ k.counted = true ∧ k.ephemeral = true) ∨
    ∃ i b k, kUsed j.d = some (i, b) ∧ v.usedKey j.d = some k ∧ k.counted = true ∧ k.ephemeral = false := by
  cases hk : v.usedKey j.d with
  | none => exact .inl fun _ h => nomatch h
  | some k =>
    cases hi : kUsed j.d with
    | none =>
      rw [State.usedKey, hi] at hk
      exact nomatch hk
    | some p =>
      cases hc : k.counted with
      | false => exact .inl fun _ h => Option.some.inj h ▸ hc
      | true =>
        cases he : k.ephemeral with
        | true => exact .inr (.inl ⟨p.1, p.2, k, rfl, rfl, hc, he⟩)
        | false => exact .inr (.inr ⟨p.1, p.2, k, rfl, rfl, hc, he⟩)

end

section
variable {n opc : Nat} {s u v : State} {j : Job} (h : s.Starts n opc j u) (g : s.Good) (w : Within 68719476736 u v) (ho : v.coc.ops = s.coc.ops)
  (hs : v.coc.slots = s.coc.slots) {data : Option (List Byte)} (hin : (keyInput j.d data).isSome = true)
include h g w ho hs hin

/-- An operation that starts runs, whatever its key asks for. -/
theorem State.Starts.keyBegin_runs (key : Option Key) (digest : List Byte) : s.KeyRuns (v.keyBegin j data key digest) j (keyInput j.d data) key digest := by
  have hused : v.usedKey j.d = s.usedKey j.d := State.usedKey_congr hs _
  have hnv : v.nv = s.nv := (w.nv (by decide)).trans h.nv
  have hops (o : KeyOp) : v.coc.ops ++ [o] = s.coc.ops ++ [o] := by rw [ho]
  rcases State.keyBegin_cases (v := v) (j := j) with hc | ⟨i, b, k, hi, hk, hc, he⟩ | ⟨i, b, k, hi, hk, hc, he⟩
  · rw [State.keyBegin_uncounted hin hc]
    rw [hused] at hc
    refine ⟨h.waits g ((v.addOp_within _).via (by decide) w) (by decide) (by decide), fun _ => ⟨hops _, hs, hnv⟩, fun _ _ k' _ hk' hc' => ?_, fun k' hk' hc' => ?_⟩
    · exact absurd ((hc k' hk').symm.trans hc') (by decide)
    · exact absurd ((hc k' hk').symm.trans hc') (by decide)
  · rw [State.keyBegin_ephemeral hin hi hk hc he]
    rw [hused] at hk
    have hw : Within 68719476736 u (v.setKey i (some k.usedOnce)) := (v.setKey_within _ _).via (by decide) w
    refine ⟨h.waits g ((State.addOp_within _ _).via (by decide) hw) (by decide) (by decide), fun hc' => ?_, fun i' b' k' hi' hk' _ _ => ⟨hops _, ?_, hnv⟩,
      fun k' hk' _ he' => ?_⟩
    · exact absurd ((hc' k hk).symm.trans hc) (by decide)
    · obtain rfl : k = k' := Option.some.inj (hk.symm.trans hk')
      obtain ⟨rfl, -⟩ : i = i' ∧ b = b' := Prod.mk.inj (Option.some.inj (hi.symm.trans hi'))
      exact v.key_setKey i (some k.usedOnce)
    · obtain rfl : k = k' := Option.some.inj (hk.symm.trans hk')
      exact absurd (he'.symm.trans he) (by decide)
  · rw [State.keyBegin_counting hi hk hc he]
    rw [hused] at hk
    have hw : Within 206158430208 u (v.addOp (j.keyOp (keyInput j.d data) .counting key digest)) := (v.addOp_within _).via (by decide) (w.mono (by decide))
    refine ⟨h.waits g ((State.nvQueue_within _ _).via (by decide) hw) (by decide) (by decide), fun hc' => ?_, fun _ _ k' _ hk' _ he' => ?_,
      fun k' hk' _ _ => ⟨?_, ?_, fun hp => ?_⟩⟩
    · exact absurd ((hc' k hk).symm.trans hc) (by decide)
    · obtain rfl : k = k' := Option.some.inj (hk.symm.trans hk')
      exact absurd (he'.symm.trans he) (by decide)
    · rw [State.nvQueue_coc]
      exact hops _
    · rw [State.nvQueue_coc]
      exact hs
    · obtain rfl : k = k' := Option.some.inj (hk.symm.trans hk')
      have hphase : (v.addOp (j.keyOp (keyInput j.d data) .counting key digest)).nv.phase ≠ .fault := fun e => hp ((congrArg Nv.phase hnv).symm.trans e)
      rw [State.nvQueue_jobs hphase, ← hnv]
      rfl

end

/-! ## The subcodes that begin an operation (R427) -/

section
variable {n : Fin 64} {s u : State} {j : Job} (h : s.Starts n 0x80 j u) (g : s.Good) (hc : u.keyCheck j = none) {data : Option (List Byte)}
include h g hc

omit g in
theorem State.Starts.keyRun {sub : Nat} (hsub : kSub j.d = sub) :
    s.keyRun n sub data = u.keyBegin j data (if kCreates j.d then some (s.newKey j) else none) [] := by
  rw [State.keyRun, h.runOp (by simp [hsub]), hc, ← h.newKey]

theorem State.Starts.keyRun_runs {sub : Nat} {key : Option Key} (hin : (keyInput j.d data).isSome = true) (hsub : kSub j.d = sub)
    (hkey : (if kCreates j.d then some (s.newKey j) else none) = key) :
    ∃ t, (.next (s.keyRun n sub data) : Out3) = .next t ∧ s.KeyRuns t j (keyInput j.d data) key [] := by
  refine ⟨_, rfl, ?_⟩
  rw [h.keyRun hc hsub, hkey]
  exact h.keyBegin_runs g (.refl _ u) (congrArg Coc.ops h.coc) (congrArg Coc.slots h.coc) hin _ _

omit h g hc in
/-- A subcode that takes no input has all of it. -/
theorem keyInput_empty {d : List Byte} (h : kSub d = 0x01 ∨ kSub d = 0x21) : keyInput d data = some [] := by
  have hin : kHasIn d = false := by
    unfold kHasIn kIn
    rcases h with h | h <;> rw [h] <;> rfl
  exact if_pos (.inr hin)

theorem keyGenerate_result (hsub : kSub j.d = 0x01) : ∃ t, exec (.keyGenerate n) s = .next t ∧ s.KeyRuns t j (some []) (some (s.newKey j)) [] := by
  have hinput : keyInput j.d none = some [] := keyInput_empty (.inl hsub)
  have hexec : exec (.keyGenerate n) s = .next (u.keyBegin j none (some (s.newKey j)) []) := by
    show execKeyGenerate n s = _
    rw [execKeyGenerate, h.runOp (by simp [hsub]), hc, ← h.newKey]
  have hruns := h.keyBegin_runs g (.refl _ u) (congrArg Coc.ops h.coc) (congrArg Coc.slots h.coc) (data := none) (by rw [hinput]; rfl) (some (s.newKey j)) []
  rw [hinput] at hruns
  exact ⟨_, hexec, hruns⟩

theorem keyRecommission_result (hsub : kSub j.d = 0x21) : ∃ t, exec (.keyRecommission n) s = .next t ∧ s.KeyRuns t j (some []) none [] := by
  have hinput : keyInput j.d none = some [] := keyInput_empty (.inr hsub)
  have hruns := h.keyRun_runs g hc (data := none) (key := none) (by rw [hinput]; rfl) hsub (if_neg (by simp [kCreates, hsub]))
  rwa [hinput] at hruns

theorem keyHash_unread (hsub : kSub j.d = 0x16) (hin : keyInput j.d data = none) : ∃ t, exec (.keyHash n data) s = .next t ∧ t.Answered j csDmaErr 0 := by
  have hused : kUsed j.d = none := by rw [kUsed, hsub]; rfl
  have hbegin : s.keyRun n 0x16 data = u.complete j csDmaErr 0 := by
    rw [h.keyRun hc hsub]
    unfold State.keyBegin
    simp only [hused, hin, Option.isNone_none, if_true]
  refine ⟨_, rfl, ?_⟩
  show (s.keyRun n 0x16 data).Answered j csDmaErr 0
  rw [hbegin]
  exact (h.nvAnswered g csDmaErr).1

/-- The digest that a response is to sign: none without a challenge of this owner that still counts. -/
noncomputable def State.respondDigest (s : State) (j : Job) : List Byte :=
  match s.coc.challenges.find? fun e => e.ring == j.ring with
  | some c => if c.owner = j.owner ∧ s.now < c.since + msTicks 10000 then sha384 (unlockMessage j.ring j.owner c.bytes) else []
  | none => []

theorem keyRespond_result (hin : (keyInput j.d data).isSome = true) (hsub : kSub j.d = 0x19) : ∃ t d, exec (.keyRespond n data) s = .next t ∧
    s.KeyRuns t j (keyInput j.d data) none d ∧ (∀ e ∈ t.coc.challenges, e.ring ≠ j.ring) ∧
    (∀ c, (s.coc.challenges.find? fun e => e.ring == j.ring) = some c → c.owner = j.owner → s.now < c.since + msTicks 10000 →
      d = sha384 (unlockMessage j.ring j.owner c.bytes)) ∧
    ((s.coc.challenges.find? fun e => e.ring == j.ring) = none → d = []) := by
  let v := u.updCoc fun c => { c with challenges := c.challenges.filter fun e => e.ring ≠ j.ring }
  have hdigest : s.respondDigest j = u.respondDigest j := by rw [State.respondDigest, State.respondDigest, h.coc, h.now]
  have hexec : exec (.keyRespond n data) s = .next (v.keyBegin j data none (s.respondDigest j)) := by
    show execKeyRespond n data s = _
    rw [execKeyRespond, h.runOp (by simp [hsub]), hc, hdigest]
    rfl
  have hw : Within 68719476736 u v := State.updCoc_via (by decide) (.refl _ u)
  have hunused : ∀ k, v.usedKey j.d = some k → k.counted = false := fun k hk => by
    rw [State.usedKey, show kUsed j.d = none by rw [kUsed, hsub]; rfl] at hk
    exact nomatch hk
  refine ⟨_, _, hexec, h.keyBegin_runs g hw (congrArg Coc.ops h.coc :) (congrArg Coc.slots h.coc :) hin _ _, ?_, fun c hf how ht => ?_, fun hf => ?_⟩
  · rw [State.keyBegin_uncounted hin hunused]
    intro e he
    exact of_decide_eq_true (List.mem_filter.1 he).2
  · rw [State.respondDigest, hf]
    exact if_pos ⟨how, ht⟩
  · rw [State.respondDigest, hf]

end

/-! ## The subcodes that answer, and DELETE and LIMIT (R424, R427, R432) -/

section
variable {n : Fin 64} {s u : State} {j : Job} (h : s.Starts n 0x80 j u) (g : s.Good) (hc : u.keyCheck j = none) {k : Key}
include h g

/-- A change of a slot that lasts is written first: its operation waits for the page. -/
theorem State.Starts.pageQueued (hp : s.nv.phase ≠ .fault) (o : KeyOp) (page : Nat) (d : NvData) :
    ((u.addOp o).nvQueue (.page page d (.op j.ring j.stamp))).Waits j ∧ ((u.addOp o).nvQueue (.page page d (.op j.ring j.stamp))).coc.slots = s.coc.slots ∧
      ((u.addOp o).nvQueue (.page page d (.op j.ring j.stamp))).coc.ops = s.coc.ops ++ [o] ∧
      ((u.addOp o).nvQueue (.page page d (.op j.ring j.stamp))).nv.jobs = s.nv.jobs ++ [.page page d (.op j.ring j.stamp)] := by
  have hphase : (u.addOp o).nv.phase ≠ .fault := fun e => hp ((congrArg Nv.phase h.nv).symm.trans e)
  have hw : Within 206158430208 u ((u.addOp o).nvQueue (.page page d (.op j.ring j.stamp))) :=
    (State.nvQueue_within _ _).via (by decide) ((u.addOp_within o).mono (by decide))
  rw [State.nvQueue_coc, State.nvQueue_jobs hphase]
  exact ⟨h.waits g hw (by decide) (by decide), (congrArg Coc.slots h.coc :), (congrArg (fun c : Coc => c.ops ++ [o]) h.coc :),
    (congrArg (fun n : Nv => n.jobs ++ [.page page d (.op j.ring j.stamp)]) h.nv :)⟩

/-- A slot that changes at once is answered for. -/
theorem State.Starts.keySet (i : Nat) (x : Option Key) (result : BitVec 64) : ((u.setKey i x).complete j csOk result).Answered j csOk result ∧
    ((u.setKey i x).complete j csOk result).key i = x := by
  refine ⟨h.answered g (u.setKey_within i x) (by decide) (by decide) csOk result, ?_⟩
  rw [State.key_congr (congrArg Coc.slots (State.complete_coc _ _ _ _)), State.key_setKey]

include hc

theorem keyDelete_result (hsub : kSub j.d = 0x04) (hrel : ubit j.d 13 2 = false) (hk : s.key (kSlot j.d) = some k) : ∃ t, exec (.keyDelete n) s = .next t ∧
    (k.ephemeral = true → t.Answered j csOk 0 ∧ t.key (kSlot j.d) = none) ∧
    (k.ephemeral = false → s.nv.phase ≠ .fault → t.Waits j ∧ t.key (kSlot j.d) = some k ∧ t.coc.ops = s.coc.ops ++ [j.keyOp (some []) .writing none []] ∧
      ∃ d, t.nv.jobs = s.nv.jobs ++ [.page (896 + kSlot j.d / 2) d (.op j.ring j.stamp)]) := by
  have hexec : exec (.keyDelete n) s = .next (if k.ephemeral then (u.setKey (kSlot j.d) none).complete j csOk 0 else
      (u.addOp (j.keyOp (some []) .writing none [])).nvQueue (.page (896 + kSlot j.d / 2) (u.keyPage (kSlot j.d) none) (.op j.ring j.stamp))) := by
    show execKeyDelete n s = _
    rw [execKeyDelete, h.runOp (by simp [hsub]), hc]
    simp only [h.key, hk, hrel, Bool.false_eq_true, if_false]
  by_cases he : k.ephemeral = true
  · rw [if_pos he] at hexec
    exact ⟨_, hexec, fun _ => h.keySet g _ _ _, fun e => absurd (he.symm.trans e) (by decide)⟩
  · rw [if_neg he] at hexec
    refine ⟨_, hexec, fun e => absurd e he, fun _ hp => ?_⟩
    obtain ⟨hwaits, hslots, hops, hjobs⟩ := h.pageQueued g hp (j.keyOp (some []) .writing none []) (896 + kSlot j.d / 2) (u.keyPage (kSlot j.d) none)
    exact ⟨hwaits, (State.key_congr hslots _).trans hk, hops, _, hjobs⟩

theorem keyLimit_result (hsub : kSub j.d = 0x05) (hk : s.key (kSlot j.d) = some k) : ∃ t, exec (.keyLimit n) s = .next t ∧
    (k.ephemeral = true → t.Answered j csOk (BitVec.ofNat 64 (s.keyUses k)) ∧ t.key (kSlot j.d) = some { k with limit := u32 j.d 16 }) ∧
    (k.ephemeral = false → s.nv.phase ≠ .fault → t.Waits j ∧
      t.coc.ops = s.coc.ops ++ [j.keyOp (some []) .writing (some { k with limit := u32 j.d 16 }) []] ∧
      ∃ d, t.nv.jobs = s.nv.jobs ++ [.page (896 + kSlot j.d / 2) d (.op j.ring j.stamp)]) := by
  let k' : Key := { k with limit := u32 j.d 16 }
  have hexec : exec (.keyLimit n) s = .next (if k.ephemeral then (u.setKey (kSlot j.d) (some k')).complete j csOk (BitVec.ofNat 64 (s.keyUses k)) else
      (u.addOp (j.keyOp (some []) .writing (some k') [])).nvQueue (.page (896 + kSlot j.d / 2) (u.keyPage (kSlot j.d) (some k')) (.op j.ring j.stamp))) := by
    show execKeyLimit n s = _
    rw [execKeyLimit, h.runOp (by simp [hsub]), hc, ← State.keyUses_congr h.nv]
    simp only [h.key, hk]
    rfl
  by_cases he : k.ephemeral = true
  · rw [if_pos he] at hexec
    exact ⟨_, hexec, fun _ => h.keySet g _ _ _, fun e => absurd (he.symm.trans e) (by decide)⟩
  · rw [if_neg he] at hexec
    refine ⟨_, hexec, fun e => absurd e he, fun _ hp => ?_⟩
    obtain ⟨hwaits, -, hops, hjobs⟩ := h.pageQueued g hp (j.keyOp (some []) .writing (some k') []) (896 + kSlot j.d / 2) (u.keyPage (kSlot j.d) (some k'))
    exact ⟨hwaits, hops, _, hjobs⟩

theorem keyInfo_result (hsub : kSub j.d = 0x10) (hk : s.key (kSlot j.d) = some k) : ∃ t, exec (.keyInfo n true) s = .next t ∧
    t.Answered j csOk (BitVec.ofNat 64 (s.infoBytes (kSlot j.d) k).length) ∧
    t.hif.hostMem = (s.hostWrite (u64 j.d 40) (s.infoBytes (kSlot j.d) k)).hif.hostMem ∧ t.coc = s.coc := by
  let out := s.infoBytes (kSlot j.d) k
  have hexec : exec (.keyInfo n true) s = .next ((u.hostWrite (u64 j.d 40) out).complete j csOk (BitVec.ofNat 64 out.length)) := by
    show execKeyInfo n true s = _
    rw [execKeyInfo, h.runOp (by simp [hsub]), hc]
    simp only [h.key, hk, State.infoBytes_congr h.coc h.nv, if_true]
    rfl
  have hw := u.hostWrite_within (u64 j.d 40) out
  have hmem : u.hif.hostMem = s.hif.hostMem := h.within.same .hostMem (by decide)
  refine ⟨_, hexec, h.answered g hw (by decide) (by decide) csOk _, ?_, (State.complete_coc _ _ _ _).trans h.coc⟩
  exact ((State.complete_within _ j csOk _).same .hostMem (by decide)).trans (State.hostWrite_hostMem_congr hmem _ _)

theorem keyChallenge_result (hsub : kSub j.d = 0x18) : ∃ t c, exec (.keyChallenge n true) s = .next t ∧ t.Answered j csOk 0 ∧
    c = { ring := j.ring, owner := j.owner, bytes := (s.draw 48).1, since := s.now } ∧
    t.coc.challenges = (s.coc.challenges.filter fun e => e.ring ≠ j.ring) ++ [c] ∧
    t.hif.hostMem = (s.hostWrite (u64 j.d 40) (s.draw 48).1).hif.hostMem := by
  let c : Challenge := { ring := j.ring, owner := j.owner, bytes := (s.draw 48).1, since := s.now }
  let v := (u.draw 48).2.updCoc fun x => { x with challenges := (x.challenges.filter fun e => e.ring ≠ j.ring) ++ [c] }
  have hdraw : (u.draw 48).1 = (s.draw 48).1 := by simp only [State.draw, h.coc]
  have hexec : exec (.keyChallenge n true) s = .next ((v.hostWrite (u64 j.d 40) (s.draw 48).1).complete j csOk 0) := by
    show execKeyChallenge n true s = _
    rw [execKeyChallenge, h.runOp (by simp [hsub]), hc]
    simp only [hdraw, h.now, Bool.not_true, Bool.false_eq_true, if_false]
    rfl
  have hv : Within 68719476736 u v := State.updCoc_via (by decide) (u.draw_within 48)
  have hw : Within 68719476864 u (v.hostWrite (u64 j.d 40) (s.draw 48).1) := (v.hostWrite_within _ _).via (by decide) (hv.mono (by decide))
  have hmem : v.hif.hostMem = s.hif.hostMem := (hv.same .hostMem (by decide)).trans (h.within.same .hostMem (by decide))
  refine ⟨_, c, hexec, h.answered g hw (by decide) (by decide) csOk 0, rfl, ?_, ?_⟩
  · rw [State.complete_coc]
    exact (congrArg (fun x : Coc => (x.challenges.filter fun e => e.ring ≠ j.ring) ++ [c]) h.coc :)
  · exact ((State.complete_within _ j csOk _).same .hostMem (by decide)).trans (State.hostWrite_hostMem_congr hmem _ _)

end

/-! ## The obligation -/

/-- Settles O52, subcode by subcode. -/
theorem keyCommands : Obligations.KeyCommands := fun _ _ _ g j _ h hc =>
  have create {sub : Nat} (hsub : kSub j.d = sub) (hs : sub = 1 ∨ sub = 2 ∨ sub = 3) : kCreates j.d = true := by
    rcases hs with rfl | rfl | rfl <;> simp [kCreates, hsub]
  have plain {sub : Nat} (hsub : kSub j.d = sub) (hs : sub ≠ 1 ∧ sub ≠ 2 ∧ sub ≠ 3) : ¬kCreates j.d = true := by
    simp [kCreates, hsub, hs]
  ⟨keyGenerate_result h g hc,
    fun hin => ⟨fun hs => h.keyRun_runs g hc hin hs (if_pos (create hs (by decide))), fun hs => h.keyRun_runs g hc hin hs (if_pos (create hs (by decide))),
      fun hs => h.keyRun_runs g hc hin hs (if_neg (plain hs (by decide))), fun hs => h.keyRun_runs g hc hin hs (if_neg (plain hs (by decide))),
      fun hs => h.keyRun_runs g hc hin hs (if_neg (plain hs (by decide))), fun hs => h.keyRun_runs g hc hin hs (if_neg (plain hs (by decide))),
      fun hs => h.keyRun_runs g hc hin hs (if_neg (plain hs (by decide))), fun hs => h.keyRun_runs g hc hin hs (if_neg (plain hs (by decide))),
      fun hs => h.keyRun_runs g hc hin hs (if_neg (plain hs (by decide))), keyRespond_result h g hc hin,
      fun hs => h.keyRun_runs g hc hin hs (if_neg (plain hs (by decide)))⟩,
    keyRecommission_result h g hc, keyHash_unread h g hc, fun _ => keyDelete_result h g hc, fun _ => keyLimit_result h g hc, fun _ => keyInfo_result h g hc,
    keyChallenge_result h g hc⟩

end Sys2Proof.Machine
end

section
/-!
SUPPORT. KEY_OPERATION_END and the record of a created key, CHALLENGE_EXPIRY, UNLOCK_LOCKOUT_EXPIRY and the outcome of a response
(R422, R424, R425, R427, R428, R432, R434).
-/
namespace Sys2Proof.Machine

/-! ## An operation that is done -/

section
variable (s : State) (o : KeyOp)

theorem State.opDone_slots (status : Nat) (result : BitVec 64) : (s.opDone o status result).coc.slots = s.coc.slots :=
  (congrArg Coc.slots (s.opDone_coc o status result)).trans rfl

theorem State.opDone_nv (status : Nat) (result : BitVec 64) : (s.opDone o status result).nv = s.nv := (s.opDone_within o status result).nv (by decide)

theorem State.opDone_hostMem (status : Nat) (result : BitVec 64) : (s.opDone o status result).hif.hostMem = s.hif.hostMem :=
  (s.opDone_within o status result).same .hostMem (by decide)

variable {s}

/-- An operation that is done has ended, whatever was changed for it but rings and engine. -/
theorem State.opDone_ends {v : State} {m : Nat} (w : Within m s v) (h4 : m.testBit 4 = false) (h10 : m.testBit 10 = false) (status : Nat) (result : BitVec 64) :
    s.KeyEnds (v.opDone o status result) o status (if status < 0x100 then result else 0) := by
  refine ⟨fun p hp => ?_, fun j hr hst hj => ?_⟩
  · rw [v.opDone_coc] at hp
    have hne := (List.mem_filter.1 hp).2
    rintro ⟨hr, hst⟩
    simp [hr, hst] at hne
  · have hd : Within (m ||| 68719476736) s (v.dropOp o) := (v.dropOp_within o).via (by rw [Nat.or_comm, Nat.or_assoc, Nat.or_self]) (w.mono (by rw [← Nat.or_assoc, Nat.or_self]))
    have ha := (hj.within hd (by rw [Nat.testBit_or, h4]; decide) (by rw [Nat.testBit_or, h10]; decide)).answered status result
    rw [State.complete, hr, hst] at ha
    exact ha

/-- An operation that fails has ended. -/
theorem State.opDone_ends_zero {v : State} {m : Nat} (w : Within m s v) (h4 : m.testBit 4 = false) (h10 : m.testBit 10 = false) (status : Nat) :
    s.KeyEnds (v.opDone o status 0) o status 0 := by
  have h := State.opDone_ends o w h4 h10 status 0
  rwa [ite_self] at h

/-- An output that reaches the host ends its operation well. -/
theorem State.keyOutput_good (out : List Byte) : s.KeyEnds (s.keyOutput o true out 0) o csOk 0 ∧
    (s.keyOutput o true out 0).hif.hostMem = (s.hostWrite (u64 o.desc 40) out).hif.hostMem :=
  ⟨State.opDone_ends_zero o (s.hostWrite_within _ _) (by decide) (by decide) csOk, State.opDone_hostMem _ _ _ _⟩

/-- An operation that is done at once leaves the host's memory. -/
theorem State.opDone_plain (status : Nat) : s.KeyEnds (s.opDone o status 0) o status 0 ∧ (s.opDone o status 0).hif.hostMem = s.hif.hostMem :=
  ⟨State.opDone_ends_zero o (.refl 0 s) (by decide) (by decide) status, State.opDone_hostMem _ _ _ _⟩

end

/-! ## KEY_OPERATION_END (R427) -/

section
variable {n : Fin 64} {ok : Bool} {s : State} {o : KeyOp} {k : Key} (hserve : (s.mg.pair s.mg.serving).state = .serving)
  (hfind : (s.coc.ops.find? fun o => o.ring == n.val && decide (o.phase = .running)) = some o) (hopc : o.opcode = 0x80)
include hserve hfind hopc

theorem exec_keyOperationEnd : exec (.keyOperationEnd n ok) s = .next (s.keyFinish o ok) := by
  refine congrArg Host.Outcome.next ((if_pos hserve).trans ?_)
  rw [hfind]
  exact if_neg (by rw [hopc]; decide)

theorem keyOperationEnd_sign (hsub : kSub o.desc = 0x11) (hk : s.usedKey o.desc = some k) : ∃ t, exec (.keyOperationEnd n true) s = .next t ∧
    s.KeyEnds t o csOk 0 ∧ t.hif.hostMem = (s.hostWrite (u64 o.desc 40) (ecdsaSign k.secret (o.input.getD []))).hif.hostMem := by
  refine ⟨_, exec_keyOperationEnd hserve hfind hopc, ?_⟩
  rw [State.keyFinish, hsub, hk]
  exact s.keyOutput_good o _

theorem keyOperationEnd_verify (hsub : kSub o.desc = 0x12) (hk : s.usedKey o.desc = some k) : ∃ t, exec (.keyOperationEnd n ok) s = .next t ∧
    t.hif.hostMem = s.hif.hostMem ∧
    s.KeyEnds t o (if Config.ecdsaVerify k.pub (bytesAt (o.input.getD []) 0 48) (bytesAt (o.input.getD []) 48 96) then csOk else csAuth) 0 := by
  refine ⟨_, exec_keyOperationEnd hserve hfind hopc, ?_⟩
  rw [State.keyFinish, hsub, hk]
  exact (s.opDone_plain o _).symm

theorem keyOperationEnd_mac (hsub : kSub o.desc = 0x13) (hk : s.usedKey o.desc = some k) : ∃ t, exec (.keyOperationEnd n true) s = .next t ∧
    s.KeyEnds t o csOk 0 ∧ t.hif.hostMem = (s.hostWrite (u64 o.desc 40) (hmac384 k.secret (o.input.getD []))).hif.hostMem := by
  refine ⟨_, exec_keyOperationEnd hserve hfind hopc, ?_⟩
  rw [State.keyFinish, hsub, hk]
  exact s.keyOutput_good o _

theorem keyOperationEnd_encrypt (hsub : kSub o.desc = 0x14) (hk : s.usedKey o.desc = some k) : ∃ t, exec (.keyOperationEnd n true) s = .next t ∧
    s.KeyEnds t o csOk 0 ∧
    t.hif.hostMem = (s.hostWrite (u64 o.desc 40) (gcmSeal k.secret ((o.input.getD []).take 12) ((o.input.getD []).drop 12))).hif.hostMem := by
  refine ⟨_, exec_keyOperationEnd hserve hfind hopc, ?_⟩
  rw [State.keyFinish, hsub, hk]
  exact s.keyOutput_good o _

theorem keyOperationEnd_forged (hsub : kSub o.desc = 0x15) (hk : s.usedKey o.desc = some k)
    (hauth : Config.gcmAuth k.secret ((o.input.getD []).take 12) ((o.input.getD []).drop 12) = false) : ∃ t, exec (.keyOperationEnd n ok) s = .next t ∧
    s.KeyEnds t o csAuth 0 ∧ t.hif.hostMem = s.hif.hostMem := by
  have hfin : s.keyFinish o ok = s.opDone o csAuth 0 := by
    rw [State.keyFinish, hsub, hk]
    exact if_neg (by rw [hauth]; decide)
  refine ⟨_, exec_keyOperationEnd hserve hfind hopc, ?_⟩
  rw [hfin]
  exact s.opDone_plain o _

theorem keyOperationEnd_hash (hsub : kSub o.desc = 0x16) : ∃ t, exec (.keyOperationEnd n true) s = .next t ∧ s.KeyEnds t o csOk 0 ∧
    t.hif.hostMem = (s.hostWrite (u64 o.desc 40) (sha384 (o.input.getD []))).hif.hostMem := by
  refine ⟨_, exec_keyOperationEnd hserve hfind hopc, ?_⟩
  rw [State.keyFinish, hsub]
  exact s.keyOutput_good o _

theorem keyOperationEnd_unwritten (hsub : kSub o.desc = 0x16) : ∃ t, exec (.keyOperationEnd n false) s = .next t ∧ s.KeyEnds t o csDmaErr 0 ∧
    t.hif.hostMem = s.hif.hostMem := by
  refine ⟨_, exec_keyOperationEnd hserve hfind hopc, ?_⟩
  rw [State.keyFinish, hsub]
  exact s.opDone_plain o _

/-- The key that an import brings. -/
noncomputable def Key.imported (k : Key) (pub : List Byte) : Key := { k with pub := pub }

variable (hsub : kSub o.desc = 0x02) (hk : o.key = some k)
include hsub hk

/-- The import of a point of the curve stores its key. -/
theorem exec_keyImported (hcurve : Config.onCurve (o.input.getD []) = true) : exec (.keyOperationEnd n ok) s =
    .next (s.keyStore o (some (k.imported (o.input.getD []))) (!k.ephemeral) (BitVec.ofNat 64 (kSlot o.desc))) := by
  rw [exec_keyOperationEnd hserve hfind hopc]
  rw [State.keyFinish, hsub, hk]
  exact congrArg Host.Outcome.next (if_pos hcurve)

theorem keyOperationEnd_imported (hcurve : Config.onCurve (o.input.getD []) = true) (he : k.ephemeral = true) : ∃ t,
    exec (.keyOperationEnd n ok) s = .next t ∧ s.KeyEnds t o csOk (BitVec.ofNat 64 (kSlot o.desc)) ∧
    t.key (kSlot o.desc) = some { k with pub := o.input.getD [] } := by
  have hexec := exec_keyImported (ok := ok) hserve hfind hopc hsub hk hcurve
  rw [he] at hexec
  refine ⟨_, hexec, State.opDone_ends o (s.setKey_within _ _) (by decide) (by decide) csOk _, ?_⟩
  exact (State.key_congr (State.opDone_slots _ _ _ _) _).trans (s.key_setKey _ (some (k.imported (o.input.getD []))))

theorem keyOperationEnd_offCurve (hcurve : Config.onCurve (o.input.getD []) = false) : ∃ t, exec (.keyOperationEnd n ok) s = .next t ∧
    s.KeyEnds t o csBadParam 0 ∧ t.coc.slots = s.coc.slots := by
  have hfin : s.keyFinish o ok = s.opDone o csBadParam 0 := by
    rw [State.keyFinish, hsub, hk]
    exact if_neg (by rw [hcurve]; decide)
  refine ⟨_, exec_keyOperationEnd hserve hfind hopc, ?_⟩
  rw [hfin]
  exact ⟨(s.opDone_plain o _).1, s.opDone_slots o _ _⟩

theorem keyOperationEnd_importing (hcurve : Config.onCurve (o.input.getD []) = true) (he : k.ephemeral = false) (hp : s.nv.phase ≠ .fault) : ∃ t d,
    exec (.keyOperationEnd n ok) s = .next t ∧ t.coc.slots = s.coc.slots ∧
    t.nv.jobs = s.nv.jobs ++ [.page (896 + kSlot o.desc / 2) d (.op o.ring o.stamp)] := by
  have hexec := exec_keyImported (ok := ok) hserve hfind hopc hsub hk hcurve
  rw [he] at hexec
  refine ⟨_, s.keyPage (kSlot o.desc) (some (k.imported (o.input.getD []))), hexec, ?_, ?_⟩
  · exact (congrArg Coc.slots (State.nvQueue_coc _ _)).trans rfl
  · exact (State.nvQueue_jobs (s := s.updCoc _) hp _).trans rfl

end

theorem keyOperationEnd_held {n : Fin 64} {ok : Bool} {s : State} (h : (s.mg.pair s.mg.serving).state ≠ .serving) :
    exec (.keyOperationEnd n ok) s = .next s := congrArg Host.Outcome.next (if_neg h)

/-! ## The record of a created key (R424) -/

/-- The record of a key that is created ends its operation: the slot takes the key. -/
theorem State.keyStored_created {s : State} {o : KeyOp} (hc : kCreates o.desc = true) :
    s.keyStored o true = (s.setKey (kSlot o.desc) o.key).opDone o csOk (BitVec.ofNat 64 (kSlot o.desc)) := by
  have hsub : kSub o.desc = 1 ∨ kSub o.desc = 2 ∨ kSub o.desc = 3 := by simpa [kCreates, or_assoc] using hc
  unfold State.keyStored
  rcases hsub with h | h | h <;> rw [h] <;> rfl

theorem nvRecordAck_keyCreated {s : State} {o : KeyOp} {k : Key} (hops : s.coc.ops = [o]) (hopc : o.opcode = 0x80) (hphase : o.phase = .writing)
    (hc : kCreates o.desc = true) (hk : o.key = some k) {p : Nat} {d : NvData} {rest : List NvJob} {i l : Nat}
    (hj : s.nv.jobs = .page p d (.op o.ring o.stamp) :: rest) (hh : s.holdupOk = true) (hs : s.nvNextSlot = some (i, l)) :
    ∃ t, exec (.nvRecordAck true) s = .next t ∧ t.key (kSlot o.desc) = some k ∧ s.KeyEnds t o csOk (BitVec.ofNat 64 (kSlot o.desc)) ∧
      t.nvPage p = { data := d, seq := s.nv.seq + 1 } := by
  have hw := s.recordKept_within p d rest
  obtain ⟨hpage, -, -, -⟩ := s.recordKept_nv p d rest
  have hfind : (s.recordKept p d rest).findOp o.ring o.stamp = some o := by
    rw [State.findOp, show (s.recordKept p d rest).coc = s.coc from hw.same .cocoon (by decide), hops]
    simp
  have hresult (v : State) (hf : v.findOp o.ring o.stamp = some o) : v.nvResult (some (.op o.ring o.stamp, true, s.nv.seq + 1)) = v.keyStored o true := by
    unfold State.nvResult
    simp only [hf, hopc, hphase]
    rfl
  have hexec : exec (.nvRecordAck true) s =
      .next (((s.recordKept p d rest).setKey (kSlot o.desc) (some k)).opDone o csOk (BitVec.ofNat 64 (kSlot o.desc))) := by
    show Host.Outcome.next ((s.nvPageEnd true 0).2.nvResult (s.nvPageEnd true 0).1) = _
    rw [State.nvPageEnd_good hj hh hs, hresult _ hfind, State.keyStored_created hc, hk]
  have hset : Within 206158430208 s ((s.recordKept p d rest).setKey (kSlot o.desc) (some k)) := (State.setKey_within _ _ _).via (by decide) (hw.mono (by decide))
  refine ⟨_, hexec, ?_, State.opDone_ends o hset (by decide) (by decide) csOk _, ?_⟩
  · exact (State.key_congr (State.opDone_slots _ _ _ _) _).trans (State.key_setKey _ _ _)
  · exact (State.nvPage_congr (State.opDone_nv _ _ _ _) p).trans hpage

/-! ## Challenges and the lockout (R432, R434) -/

theorem challengeExpiry_result (n : Fin 64) (s : State) : ∃ t, exec (.challengeExpiry n) s = .next t ∧
    (∀ e, e ∈ t.coc.challenges ↔ e ∈ s.coc.challenges ∧ ¬(e.ring = n.val ∧ e.since + msTicks 10000 ≤ s.now)) ∧ s.Only t [.cocoon] := by
  refine ⟨_, rfl, fun e => ?_, fun _ hp => exec_frame (c := .challengeExpiry n) rfl hp⟩
  refine List.mem_filter.trans (and_congr_right fun _ => ?_)
  simp [imp_iff_not_or]

theorem unlockLockoutExpiry_result {s : State} {x : Nat} (hl : s.coc.lockedAt = some x) (ht : x + msTicks 60000 ≤ s.now) :
    ∃ t, exec .unlockLockoutExpiry s = .next t ∧ t.coc = { s.coc with lockedAt := none } ∧ s.Only t [.cocoon] := by
  have hexec : exec .unlockLockoutExpiry s = .next (s.updCoc fun c => { c with lockedAt := none }) := by
    show execUnlockLockoutExpiry s = _
    rw [execUnlockLockoutExpiry, hl]
    exact congrArg Host.Outcome.next (if_pos ht)
  exact ⟨_, hexec, rfl, fun _ hp => exec_frame hexec hp⟩

theorem unlockLockoutExpiry_early {s : State} (h : ∀ x, s.coc.lockedAt = some x → s.now < x + msTicks 60000) : exec .unlockLockoutExpiry s = .next s := by
  show execUnlockLockoutExpiry s = _
  unfold execUnlockLockoutExpiry
  split
  · next x hx => exact congrArg Host.Outcome.next (if_neg (Nat.not_le.2 (h x hx)))
  · rfl

/-! ## The outcome of a response (R432, R434) -/

section
variable {s : State} {o : KeyOp}

theorem Sq.likeButStarted.priv {q r : Sq} (h : q.likeButStarted r) : r.priv = q.priv := by
  unfold Sq.likeButStarted at h
  rw [← h]

theorem State.opDone_priv (s : State) (o : KeyOp) (status : Nat) (result : BitVec 64) (r : Nat) : ((s.opDone o status result).sq r).priv = (s.sq r).priv := by
  have h := ((s.dropOp o).mapStarted_likeButStarted o.ring o.stamp
    (fun e => { e with ended := true, ready := some (status, if status < 0x100 then result else 0) }) r).trans (State.settle_likeButStarted _ r)
  exact h.priv

theorem State.unlock_good (howner : (s.sq o.ring).owner = o.owner) (hstate : (s.sq o.ring).state ≠ .disabled) :
    ((s.unlock o true).sq o.ring).priv = true ∧ (s.unlock o true).coc.fails = 0 := by
  let v := s.setSq o.ring { s.sq o.ring with priv := true }
  have he : s.unlock o true = (v.updCoc fun c => { c with fails := 0, lockedAt := none }).opDone o csOk 0 := by
    unfold State.unlock
    rw [if_pos rfl]
    extract_lets q t
    rw [show t = v from if_pos ⟨howner, hstate⟩]
  rw [he, State.opDone_priv, State.opDone_coc]
  refine ⟨?_, rfl⟩
  show (v.sq o.ring).priv = true
  rw [State.sq_setSq]

/-- A bad response is counted, and may lock the module out. -/
noncomputable def Coc.failed (c : Coc) (now : Nat) : Coc := { c with fails := c.fails + 1, lockedAt := if 8 ≤ c.fails + 1 then some now else c.lockedAt }

theorem State.unlock_bad (s : State) (o : KeyOp) : (s.unlock o false).coc.fails = s.coc.fails + 1 ∧
    (8 ≤ s.coc.fails + 1 → (s.unlock o false).coc.lockedAt = some s.now) ∧ (s.unlock o false).flag Adr.cocCause 2 = true := by
  let v := (s.updCoc fun c => c.failed s.now).cocRaise 2 0x0F03 [(20, 1, o.ring), (22, 2, o.owner)]
  have hcoc : v.coc = s.coc.failed s.now := (State.cocRaise_within _ _ _ _).same .cocoon (by decide)
  have hend : (s.unlock o false).coc = { s.coc.failed s.now with ops := (v.dropOp o).coc.ops } := by
    refine (v.opDone_coc o csAuth 0).trans ?_
    rw [← hcoc]
    rfl
  refine ⟨by rw [hend]; rfl, fun h => ?_, ?_⟩
  · rw [hend]
    exact if_pos h
  · refine (State.flag_congr ((v.opDone_within o csAuth 0).same .regs (by decide)) _ _).trans ?_
    exact State.flag_raise_self _ _ _ (by decide) _ _ _

end

/-! ## The obligation -/

/-- Settles O53, command by command. -/
theorem keyResults : Obligations.KeyResults := fun n ok s _ =>
  ⟨fun _ hserve hfind hopc => ⟨fun _ => keyOperationEnd_sign hserve hfind hopc, fun _ => keyOperationEnd_verify hserve hfind hopc,
      fun _ => keyOperationEnd_mac hserve hfind hopc, fun _ => keyOperationEnd_encrypt hserve hfind hopc, fun _ => keyOperationEnd_forged hserve hfind hopc,
      keyOperationEnd_hash hserve hfind hopc, keyOperationEnd_unwritten hserve hfind hopc,
      fun _ hsub hk hcurve he => keyOperationEnd_imported hserve hfind hopc hsub hk hcurve he,
      fun _ hsub hk hcurve => keyOperationEnd_offCurve hserve hfind hopc hsub hk hcurve,
      fun _ hsub hk hcurve he hp => keyOperationEnd_importing hserve hfind hopc hsub hk hcurve he hp⟩,
    fun _ _ hops hopc hphase hc hk _ _ _ _ _ hj hh hs => nvRecordAck_keyCreated hops hopc hphase hc hk hj hh hs, keyOperationEnd_held,
    challengeExpiry_result n s, fun _ => unlockLockoutExpiry_result, unlockLockoutExpiry_early, fun o _ howner hq hstate => by
      subst hq
      obtain ⟨hpriv, hfails⟩ := State.unlock_good howner hstate
      exact ⟨hpriv, hfails, s.unlock_bad o⟩⟩

end Sys2Proof.Machine
end
